-- ==== Sys2Proof/Word.lean ====
section
/-! DEFINITION. The octet and the octet string: everything that the part carries as frames, messages, records or values
in the dictionary is a list of octets, most significant first (R6). -/
namespace Sys2Proof

/-- One octet. -/
abbrev Byte := BitVec 8

/-- A string of octets, in the order in which they are sent or stored. -/
abbrev Bytes := List Byte

/-- A time of day: whole units of 2⁻⁵⁶ ns since the epoch (TAI). TIME128 is the upper part of it; the keepers carry
the lower part as their residue (R25, R59). -/
abbrev Tod := Int

end Sys2Proof
end

