-- ==== Sys2Proof/Machine/ObjTypes.lean ====
section
/-! DEFINITION. What an object of the dictionary is (00_scope.md R15 to R19, 15_granary_atton.md R471 to R473): its type, its
access code, its flags, the place of its elements and of its in-effect twin, its default and its range. -/
namespace Sys2Proof.Machine

/-- The types of R15. `octets lo hi` is an OCTETS object whose length lies from `lo` to `hi`; `key k` is a KEY of `k` octets. -/
inductive Ty where
  | bool | u8 | u16 | u32 | u64 | i8 | i16 | i32 | i64
  | time128 | stamp128 | inc64 | freq64 | scruple48 | enum
  | octets (lo hi : Nat)
  | key (k : Nat)
deriving DecidableEq, Repr

/-- The access codes of R16. -/
inductive Acc where
  | ro | rw | wo | rc | rwx
deriving DecidableEq, Repr

/-- A value of an object: a number, or octets (OCTETS and KEY). TIME128 and STAMP128 are held as their raw 128 bits. -/
inductive Val where
  | n (v : Int)
  | o (b : Bytes)
deriving DecidableEq, Repr

/-- The values an object accepts in check 5 of R478. -/
inductive Rng where
  | any
  | within (lo hi : Int)
  | among (cs : List Int)
  | withinOr (lo hi : Int) (cs : List Int)
  | special (f : Nat → Nat → Val → Bool)

/-- What is fixed for one device: fuses, boot ROM keys, the straps sampled at B02 and the active image's defaults. -/
structure Dev where
  /-- fused part: 1 OT9600-MX, 2 OT9600-WX (R20) -/
  part : Nat := 1
  /-- fused stepping (R20) -/
  stepping : Nat := 0
  /-- fused serial, 16 octets (R20) -/
  serial : Bytes := []
  /-- fused MAC base (R624) -/
  macBase : Nat := 0
  /-- fused clock identities of the PTP service units, 8 octets each (R439) -/
  clockIds : List Bytes := []
  /-- fused receive latency of each lane, ps (R104) -/
  rxCal : List Int := []
  /-- fused transmit latency of each lane, ps (R104) -/
  txCal : List Int := []
  /-- fused temperature coefficient of the receive latency of each lane, 2⁻¹⁶ ps per 0.01 °C (R104) -/
  rxTc : List Int := []
  /-- fused temperature coefficient of the transmit latency of each lane, 2⁻¹⁶ ps per 0.01 °C (R104) -/
  txTc : List Int := []
  /-- temperature of the production test, 0.01 °C (R104) -/
  calTemp : Int := 0
  /-- fused minimum security version (R575) -/
  minSecver : Nat := 0
  /-- fused key revocations (R575) -/
  revoked : Nat := 0
  /-- fused storage key, 32 octets (R504) -/
  storageKey : Bytes := []
  /-- boot ROM public keys 0-3, x then y, 96 octets each (R574) -/
  romKeys : List Bytes := []
  /-- manager role as sampled at B02 (R442) -/
  manager : Bool := false
  /-- version of the active image (R20) -/
  firmware : Nat := 0
  /-- default windows of the active image: master x 16 + window, and the entry (R536) -/
  windows : List (Nat × Bytes) := []
deriving DecidableEq, Repr

/-- A row of an object table. Element (i, j) sits at key `base * 256 + sub + i * kI + j * kJ`; the key of an object is its
index times 256 plus its subindex. `twin` is the distance from a configured key to its in-effect twin, 0 for none. -/
structure Row where
  name : String
  base : Nat
  sub : Nat := 0
  n : Nat := 1
  kI : Nat := 0
  m : Nat := 1
  kJ : Nat := 0
  ty : Ty
  acc : Acc := .ro
  /-- flag P (R17): the object is stored by STORE -/
  p : Bool := false
  /-- flag I: a write takes effect when it completes -/
  im : Bool := false
  /-- flag B: the object may stand in a bundle -/
  b : Bool := false
  /-- a write needs Keeper (R19) -/
  keeper : Bool := false
  twin : Nat := 0
  dflt : Dev → Nat → Nat → Val := fun _ _ _ => .n 0
  rng : Rng := .any

/-- The key of element (i, j) of a row. -/
def Row.key (r : Row) (i j : Nat) : Nat := r.base * 256 + r.sub + i * r.kI + j * r.kJ

/-- The element of a row that a key names, if any. -/
def Row.elem (r : Row) (k : Nat) : Option (Nat × Nat) :=
  let k0 := r.base * 256 + r.sub
  if k < k0 then none
  else
    let d := k - k0
    let i := if r.kI = 0 then 0 else min (d / r.kI) (r.n - 1)
    let d' := d - i * r.kI
    let j := if r.kJ = 0 then 0 else min (d' / r.kJ) (r.m - 1)
    if d' = j * r.kJ then some (i, j) else none

/-- A number as an object value. -/
def nval (v : Int) : Dev → Nat → Nat → Val := fun _ _ _ => .n v

/-- Octets as an object value. -/
def oval (b : Bytes) : Dev → Nat → Nat → Val := fun _ _ _ => .o b

/-- Octets that are all zero. -/
def zeros (k : Nat) : Bytes := List.replicate k 0

/-- The number in a value, 0 for octets. -/
def Val.num : Val → Int
  | .n v => v
  | .o _ => 0

/-- The octets in a value, none for a number. -/
def Val.bytes : Val → Bytes
  | .n _ => []
  | .o b => b

/-- A store of object values: (key, value) with the keys strictly rising and no value equal to its object's default. -/
abbrev Store := List (Nat × Val)

end Sys2Proof.Machine
end

