-- ==== Sys2Proof/Machine/TGnss.lean ====
section
/-! DEFINITION. State types: the Gleaner. Each field cites the rule that gives it. -/
namespace Sys2Proof.Machine

/-- The sums of five correlators, cleared (R290). -/
def noSums : List (Int × Int) := [(0, 0), (0, 0), (0, 0), (0, 0), (0, 0)]

/-- A Gleaner tracking channel (R290 to R296, R315); what it shows is in the dictionary. -/
structure GnssChan where
  /-- state before COAST (R293) -/
  before : Nat := 0
  /-- coarse count at which the present state was entered (R293) -/
  since : Nat := 0
  /-- coarse count since which the lock indicator has been above 0.8 (R293) -/
  lockSince : Option Nat := none
  /-- coarse count since which C/N0 has been below the mask less 3 dB (R293) -/
  lowSince : Option Nat := none
  /-- PULL_IN has already gone back to SEARCH once (R293) -/
  retried : Bool := false
  /-- carrier NCO phase, 2^-40 cycle (R290) -/
  carPhase : Nat := 0
  /-- carrier NCO rate, units of 80 MHz / 2^40 (R290) -/
  carRate : Int := 0
  /-- code NCO fraction of a chip, 2^-48 chip (R290) -/
  codeFrac : Nat := 0
  /-- chip count modulo the primary code length (R290) -/
  chips : Nat := 0
  /-- code NCO rate, units of 80 MHz / 2^48 (R290) -/
  codeRate : Int := 0
  /-- carrier and code rates that SB wrote, awaiting the next boundary (R291) -/
  staged : Option (Int × Int) := none
  /-- whole carrier cycles since the NCO was loaded (R292, R296) -/
  cycles : Int := 0
  /-- running sums of C0 to C4 of the present integration period (R290) -/
  acc : List (Int × Int) := noSums
  /-- GF_SCLK periods of the present integration period (R291) -/
  accLen : Nat := 0
  /-- longest gap in it, ns (R294) -/
  accGap : Option Nat := none
  /-- sums of the last dump, C0 to C4 (R290) -/
  sums : List (Int × Int) := noSums
  /-- true length of that integration period, GF_SCLK periods (R291) -/
  sumsLen : Nat := 0
  /-- longest gap in it, ns (R294) -/
  sumsGap : Option Nat := none
  /-- the dump awaits SB's loops (R291) -/
  dumped : Bool := false
  /-- C4 of the present integration is at VL (VE and VL on alternate dumps) (R290) -/
  vlNow : Bool := false
  /-- C4 of the last dump was at VL (R290) -/
  vlDump : Bool := false
  /-- dumps added over the present primary code: sums, dumps and periods (R292) -/
  prim : List (Int × Int) × Nat × Nat := (noSums, 0, 0)
  /-- primary codes added over the present secondary code or bit: sums, codes and periods (R292) -/
  comb : List (Int × Int) × Nat × Nat := (noSums, 0, 0)
  /-- prompt sums of the last primary codes, newest first (R292) -/
  prims : List (Int × Int) := []
  /-- a dump with a gap has joined these sums: no loop closes on them (R294) -/
  spoilt : Bool := false
  /-- place in the secondary code or bit of the next primary code, once it is synchronised (R292) -/
  sync : Option Nat := none
  /-- prompt sums of the data component over the last primary codes, newest first (R283, R292) -/
  datas : List (Int × Int) := []
  /-- message symbols received, newest first (R283) -/
  bits : List Bool := []
  /-- prompt of the last combined sum (R292) -/
  lastP : Int × Int := (0, 0)
  /-- PLL lock indicator, 0.01 (R293) -/
  lock : Nat := 0
  /-- by how far SB moves the code NCO at the next boundary, 2^-48 chip (R291, R292) -/
  move : Int := 0
  /-- memory of the carrier loop (R292) -/
  carMem : List Int := []
  /-- memory of the code loop (R292) -/
  codeMem : List Int := []
  /-- Doppler that the ephemeris predicted when the channel began to coast, mHz (R293) -/
  coastDop : Option Int := none
  /-- VE power summed over the present 100 ms, and dumps (R292) -/
  veSum : Nat × Nat := (0, 0)
  /-- VL power summed over the present 100 ms, and dumps (R292) -/
  vlSum : Nat × Nat := (0, 0)
  /-- P power summed over the present 100 ms, and dumps (R292) -/
  pSum : Nat × Nat := (0, 0)
  /-- coarse count at which the present 100 ms began (R292) -/
  bocFrom : Nat := 0
  /-- coarse count of the last cycle slip (R315) -/
  slipAt : Option Nat := none
  /-- searched for after COAST (R293) -/
  reacq : Bool := false
  /-- code fraction latched at the epoch (R296) -/
  latCode : Nat := 0
  /-- chip count latched at the epoch (R296) -/
  latChips : Nat := 0
  /-- carrier phase latched at the epoch, with its whole cycles, 2^-40 cycle (R296) -/
  latCar : Int := 0
  /-- latched at the present epoch (R296) -/
  latched : Bool := false
  /-- seconds of carrier smoothing since the last cycle slip (R297) -/
  smoothed : Nat := 0
  /-- smoothed code observation, units of 2^-56 ns (R297) -/
  smooth : Int := 0
  /-- carrier phase that it goes with, 2^-40 cycle (R297) -/
  smoothCar : Int := 0
  /-- the other-band channel of the same satellite (R284) -/
  pair : Option Nat := none
  /-- waits for an engine (R293) -/
  queued : Bool := false
deriving DecidableEq, Repr

/-- An acquisition engine (R286). -/
structure GnssEngine where
  /-- channel searched for, none while idle (R286) -/
  chan : Option Nat := none
  /-- start type whose windows the search took (R288) -/
  start : Nat := 0
  /-- Doppler bins completed (R286) -/
  bin : Nat := 0
  /-- Doppler bins of the search (R286) -/
  bins : Nat := 0
  /-- blocks completed of the present bin (R286) -/
  block : Nat := 0
  /-- blocks of 32 half-chip cells (R286) -/
  blocks : Nat := 0
  /-- half-chip cells of the code window (R286, R288) -/
  cells : Nat := 0
  /-- the window is the whole primary code (R288) -/
  whole : Bool := true
  /-- the search follows the satellite's L1-band channel (R287) -/
  aided : Bool := false
  /-- cell and bin being verified (R286) -/
  verify : Option (Nat × Nat) := none
  /-- a dwell is in progress (R285) -/
  dwelling : Bool := false
  /-- coarse count at which it began (R285) -/
  dwellAt : Nat := 0
deriving DecidableEq, Repr

/-- A Gleaner band (R281, R282, R285). -/
structure GnssBand where
  /-- a refresh waits for the dwells in progress (R285) -/
  due : Bool := false
  /-- samples of the snapshot, each I and Q as captured; complete at 10 ms (R285) -/
  snap : Bytes := []
  /-- TOD of the first sample of the snapshot held (R279, R285) -/
  snapAt : Option Int := none
  /-- number of that sample's GF_SCLK period (R285) -/
  snapNo : Nat := 0
  /-- samples still to pass before a snapshot that is being written begins (R285) -/
  writing : Option Nat := none
  /-- the last sample (R282) -/
  last : Byte := 0
  /-- GF_SCLK periods since each data ball last toggled, I[3] to Q[0] (R282) -/
  quiet : List Nat := [0, 0, 0, 0, 0, 0, 0, 0]
  /-- coarse counts since which the rms of I, and of Q, has been below 0.5 LSB, and above 6 LSB (R282) -/
  rmsBad : List (Option Nat) := [none, none, none, none]
  /-- squares of I and Q summed since the AGC last acted, units of 0.25 LSB^2, and samples (R281) -/
  squares : Nat × Nat := (0, 0)
  /-- noise-correlator power per GF_SCLK period summed over the present second, and dumps (R309) -/
  noise : Nat × Nat := (0, 0)
  /-- coarse count at which the band last met a failure condition (R282) -/
  failedAt : Nat := 0
  /-- coarse count of the last action of the AGC (R281) -/
  agcAt : Option Nat := none
  /-- gain codes of the last 24 h, learned while no indicator is set, newest first (R309) -/
  gainHist : List Nat := []
  /-- mean noise-correlator power of each second of the last 24 h, learned likewise, newest first (R309) -/
  noiseHist : List Int := []
deriving DecidableEq, Repr

/-- The solution of an epoch that awaits publication (R301, R303). -/
structure GnssReport where
  /-- solution: 0 NONE, 1 NAV, 2 HOLD, 3 HOLD_SINGLE (R305) -/
  kind : Nat := 0
  /-- N, the TAI second (R303) -/
  second : Nat := 0
  /-- e, units of 2^-56 ns (R303) -/
  mark : Int := 0
  /-- q, units of 2^-56 ns (R303) -/
  q : Int := 0
  /-- U_t (R308) -/
  unc : Nat := 0
  /-- report flags (R305) -/
  flags : Nat := 0
  /-- satellites used (R305) -/
  used : Nat := 0
  /-- TDOP, units of 0.001 (R305) -/
  tdop : Nat := 0
  /-- TAI - UTC (R302) -/
  utc : Int := 0
  /-- pending leap (R302) -/
  leap : Nat := 0
  /-- step count at the latch (R305) -/
  steps : Nat := 0
  /-- M, the TOD second of the report (R303) -/
  target : Nat := 0
  /-- t_N (R303) -/
  tN : Int := 0
deriving DecidableEq, Repr

/-- The Gleaner record of the journal (R311). -/
structure GnssRecord where
  /-- almanac: satellite, as gnss.ch.assign with band L1, and its data (R311) -/
  alm : List (Nat × Bytes) := []
  /-- ephemerides, likewise (R311) -/
  eph : List (Nat × Bytes) := []
  /-- last position, ECEF mm (R311) -/
  pos : Option (Int × Int × Int) := none
  /-- survey result (R311) -/
  survey : Bytes := []
  /-- AGC baselines (R311) -/
  gains : List Nat := []
  /-- the record is valid (R311) -/
  valid : Bool := false
deriving DecidableEq, Repr

/-- What the time-jump check holds of the previous solution (R309). -/
structure GnssPrev where
  /-- t_N (R309) -/
  tN : Int := 0
  /-- N (R309) -/
  second : Int := 0
  /-- U_t (R309) -/
  unc : Nat := 0
  /-- coarse count of its epoch (R309) -/
  cyc : Nat := 0
  /-- increments added until its epoch (R309) -/
  inc : Int := 0
  /-- phase slewed until its epoch (R309) -/
  slew : Int := 0
deriving DecidableEq, Repr

/-- The Gleaner. -/
structure Gnss where
  /-- B10 has begun (R311, R558) -/
  started : Bool := false
  /-- channels (R315) -/
  chans : Vector GnssChan 128 := Vector.replicate 128 {}
  /-- acquisition engines (R286) -/
  engines : Vector GnssEngine 16 := Vector.replicate 16 {}
  /-- bands L1 and L5 (R282) -/
  bands : Vector GnssBand 2 := Vector.replicate 2 {}
  /-- assignments (as gnss.ch.assign) awaiting a channel (R293) -/
  searchList : List Nat := []
  /-- channels and what SB has assigned to them in the present tick (R37, R293) -/
  assigned : List (Nat × Nat) := []
  /-- GF_SCLK periods since B10, gated ones included (R279) -/
  periods : Nat := 0
  /-- coarse count up to which samples have been taken (R291) -/
  sampledAt : Nat := 0
  /-- ephemerides decoded: satellite, as gnss.ch.assign with band L1, and its data (R283, R288) -/
  eph : List (Nat × Bytes) := []
  /-- almanac decoded, likewise (R283, R288) -/
  alm : List (Nat × Bytes) := []
  /-- last position found, ECEF mm (R288, R311) -/
  pos : Option (Int × Int × Int) := none
  /-- TOD second of the latched epoch (R296) -/
  epochM : Nat := 0
  /-- boundary count of the tick in which the epoch was latched (R296) -/
  epochAt : Nat := 0
  /-- coarse count of the latch (R309) -/
  epochCyc : Nat := 0
  /-- increments added until the latch (R309) -/
  epochInc : Int := 0
  /-- phase slewed until the latch (R309) -/
  epochSlew : Int := 0
  /-- steps since the latch, units of 2^-56 ns (R295) -/
  epochStep : Int := 0
  /-- the epoch's solution has ended (R301) -/
  solved : Bool := false
  /-- the epoch is valid (R296) -/
  epochOk : Bool := false
  /-- tod.step_count at the latch (R305) -/
  epochSteps : Nat := 0
  /-- solution awaiting publication (R301) -/
  pending : Option GnssReport := none
  /-- the last published report (R305) -/
  report : GnssReport := {}
  /-- TOD second for which a report was published last (R304) -/
  pubFor : Option Nat := none
  /-- mark of the raw PPS of the published report (R303) -/
  pulse : Option Int := none
  /-- mark emitted last and tod.step_count then (R295) -/
  pulseLast : Option (Int × Nat) := none
  /-- t_pps of the report's raw PPS (R303) -/
  stamped : Option Int := none
  /-- the offset of S8 has been formed from the report (R306, R307) -/
  formed : Bool := false
  /-- the previous solution (R309) -/
  lastTN : Option GnssPrev := none
  /-- the last solution departs from the predicted change (R309) -/
  jumpBad : Bool := false
  /-- consecutive epochs whose NAV fix is too far (R309) -/
  badPos : Nat := 0
  /-- coarse count since which every SPOOF indicator has been clear (R310) -/
  spoofClear : Option Nat := none
  /-- coarse count from which TTFF counts (R312) -/
  ttffFrom : Nat := 0
  /-- the first report with a solution has been published (R312) -/
  ttffDone : Bool := true
  /-- coarse count at which the survey began (R298) -/
  surveyFrom : Nat := 0
  /-- coarse count at which the present 60 s began (R298) -/
  surveyMinAt : Nat := 0
  /-- NAV positions of the present 60 s, mm (R298) -/
  surveyMin : List (Int × Int × Int) := []
  /-- 60 s averages, mm (R298) -/
  surveyAvg : List (Int × Int × Int) := []
  /-- satellite and the UTC parameters it delivered (offset, leap, time) (R302) -/
  utcSeen : List (Nat × Int × Nat × Nat) := []
  /-- stored record (R311) -/
  record : GnssRecord := {}
  /-- coarse count of the last record written (R311) -/
  storeFrom : Nat := 0
  /-- physical group that serves each logical group (R313) -/
  groups : Vector Nat 8 := Vector.ofFn (fun i => i.val)
  /-- the spare group is in use or fenced (R313) -/
  spareUsed : Bool := false
  /-- transfers last sent on the front-end SPI (R280) -/
  feLast : List Bytes := []
  /-- AGC transfer last sent for each band (R281) -/
  agcLast : Vector Bytes 2 := Vector.replicate 2 []
  /-- last gnss.aid_time written and the coarse count of the write (R289) -/
  aidAt : Option (Int × Nat) := none
  /-- coarse counts between which GF_SCLK was last gated; none while gated (R294) -/
  gap : Nat × Option Nat := (0, none)
  /-- boundary count of each group's last dump (R291) -/
  dumpTick : Vector Nat 8 := Vector.replicate 8 0
  /-- TOD second for which the indicators were evaluated last (R309) -/
  indSec : Option Nat := none
deriving DecidableEq, Repr

end Sys2Proof.Machine
end

