-- ==== Sys2Proof/Machine/TTime.lean ====
section
/-! DEFINITION. State types: time core, timestamp units, reference slots and selection. Each field cites the rule that gives it. -/
namespace Sys2Proof.Machine

/-- An armed (PENDING) action slot (R86). -/
structure ArmedAct where
  /-- slot number (R86) -/
  slot : Nat := 0
  /-- 1 STEP_AT, 2 SET_AT, 3 FREQ_AT (R85) -/
  kind : Nat := 0
  /-- T, units of 2^-56 ns (R85) -/
  time : Int := 0
  /-- STEP_AT offset, ps (R85) -/
  offset : Int := 0
  /-- SET_AT value V, units of 2^-56 ns (R85) -/
  value : Int := 0
  /-- FREQ_AT increment (R85) -/
  inc : Nat := 0
deriving DecidableEq, Repr

/-- The leap registers: a pending or fired leap (R91, R92). -/
structure LeapReg where
  /-- INSERT, else DELETE (R91) -/
  insert : Bool := true
  /-- L, units of 2^-56 ns (R91) -/
  time : Int := 0
  /-- new offset (R91) -/
  newOff : Int := 0
  /-- it comes from the Gleaner's values, or from those that stand in for them (R90) -/
  gleaner : Bool := false
deriving DecidableEq, Repr

/-- The keeper state that the voter compares (R59). -/
structure KeeperRegs where
  /-- TIME128 extended by the 24-bit residue, in units of 2^-56 ns since the epoch: 152 bits, that is 0 to 2^64 s (R59) -/
  count : Int := 0
  /-- base increment, INC64 (R59) -/
  inc : Nat := 0x0200000000000000
  /-- slew remaining, units of 2^-56 ns (R59, R72) -/
  slewRem : Int := 0
  /-- slew step, units of 2^-56 ns (R59, R73) -/
  slewStep : Nat := 28823037615
  /-- the armed (PENDING) action slots (R59, R86) -/
  acts : List ArmedAct := []
  /-- the leap registers (R59, R92) -/
  leap : Option LeapReg := none
deriving DecidableEq, Repr

/-- One keeper with the voter's marks on it (R64). -/
structure Keeper where
  /-- its keeper state (R59) -/
  regs : KeeperRegs := {}
  /-- its disagreement first appeared on the present cycle (R65) -/
  newly : Bool := false
  /-- trusted[k] (R64) -/
  trusted : Bool := true
  /-- failed[k] (R64, R66) -/
  failed : Bool := false
  /-- asserted-boundary counts of its resynchronisations (R64) -/
  resyncs : List Nat := []
deriving DecidableEq, Repr

/-- Shadow of the latched four-register TOD read, one per matrix master (R95). -/
structure TkShadow where
  /-- TK_SEC_HI (R95) -/
  hi : Nat := 0
  /-- TK_NS (R95) -/
  ns : Nat := 0
  /-- TK_FRAC (R95) -/
  frac : Nat := 0
deriving DecidableEq, Repr

/-- A mark in the recent course of the time of day: from its cycle to the next mark the count advances by one amount on every cycle (R60, R98). -/
structure TodMark where
  /-- coarse count of its cycle (R98) -/
  cyc : Nat := 0
  /-- the voted time of day of that cycle (R98) -/
  tod : Int := 0
  /-- what each cycle adds from there on (R60) -/
  rate : Int := 0
  /-- the step by which the time of day came to that cycle, 0 without one (R107) -/
  jump : Int := 0
  /-- tod.step_count on that cycle (R112) -/
  steps : Nat := 0
  /-- STEP: a step took effect in the tick (R106) -/
  step : Bool := false
  /-- tod.state read UNSET (R106) -/
  unset : Bool := true
deriving DecidableEq, Repr

/-- Keepers, voter, tick generator and the events of the present tclk cycle. -/
structure TimeCore where
  /-- the keepers have started (end of B06) (R63) -/
  running : Bool := false
  /-- keeper 0 (R59) -/
  k0 : Keeper := {}
  /-- keeper 1 (R59) -/
  k1 : Keeper := {}
  /-- keeper 2 (R59) -/
  k2 : Keeper := {}
  /-- the voted TOD of the present cycle, units of 2^-56 ns (R25, R64) -/
  voted : Int := 0
  /-- split in progress (R64) -/
  split : Bool := false
  /-- coarse counter: tclk cycles since B06 (kept unwrapped; the 48-bit view is its value modulo 2^48) (R257) -/
  cyc : Nat := 0
  /-- TOD of the next boundary time of the grid (R38, R83) -/
  nextGrid : Int := 125000 * 2^56
  /-- a boundary is asserted on the present cycle and its actions have not been done (R38, R82) -/
  boundaryDue : Bool := false
  /-- the present cycle's boundary has been performed (R82) -/
  stepDone : Bool := false
  /-- asserted tick boundaries since start (R64) -/
  boundaries : Nat := 0
  /-- TOD seconds of the present tick's identity (R23) -/
  tickSec : Nat := 0
  /-- tick number of the present tick, 0-7999 (R23) -/
  tickNo : Nat := 0
  /-- coarse count of the present tick's boundary cycle (R40) -/
  tickCyc : Nat := 0
  /-- phase moved by slews up to that cycle, units of 2^-56 ns (R125, R166) -/
  tickSlew : Int := 0
  /-- sum of the base increments up to that cycle, units of 2^-56 ns (R125, R166) -/
  tickInc : Int := 0
  /-- step offsets that take effect on the present cycle and their source: action slot 0-7, 8 tod.step, 9 servo (R60, R80) -/
  jumps : List (Nat × Int) := []
  /-- highest slot whose FREQ_AT has fired on the present cycle (R85) -/
  freqBy : Option Nat := none
  /-- the leap (kind, time) of the Gleaner's values, or of those that stand in for them, that has ended; (0, 0) none (R92) -/
  leapSeen : Nat × Int := (0, 0)
  /-- phase moved by slews since the keepers started, units of 2^-56 ns (R72, R166) -/
  slewTotal : Int := 0
  /-- base increments added since the keepers started, units of 2^-56 ns (R60, R166) -/
  incTotal : Int := 0
  /-- offset of the SET_AT that fires on the present cycle (R80, R85) -/
  setJump : Option Int := none
  /-- the present cycle's step comes from tod.step, STEP_AT or SET_AT (R202) -/
  manualJump : Bool := false
  /-- a step took effect in the present tick (STAMP128 STEP flag) (R106) -/
  stepInTick : Bool := false
  /-- the recent course of the time of day, newest mark first: the word times of the lanes are read from it (R98) -/
  hist : List TodMark := []
  /-- KEEPER_SPLIT fired since the last scruple update (R200) -/
  splitSince : Bool := false
  /-- boundary count at which the pending leap became pending (R382) -/
  leapNewAt : Nat := 0
  /-- the leap of the dictionary's values has ended: pending and time in effect read NONE and 0 until either is written (R92) -/
  leapEnded : Bool := false
  /-- the UTC values in effect since the last boundary are the Gleaner's, or those that stand in for them (R90) -/
  utcGleaner : Bool := false
  /-- the offset in effect since the last boundary comes from a valid source (R90) -/
  utcValid : Bool := true
  /-- the slew remaining as it stood at the last tick boundary, after its commits, units of 2^-56 ns (R76, R149) -/
  slewShown : Int := 0
  /-- offset in effect before the last leap that fired (R380) -/
  offsetOld : Int := 37
  /-- the last leap that fired (its time L and new offset) (R380) -/
  lastLeap : Option LeapReg := none
  /-- level of the write that armed each action slot (R87) -/
  levels : Vector Nat 8 := Vector.replicate 8 0
  /-- shadow registers per matrix master (R95) -/
  shadows : Vector TkShadow 10 := Vector.replicate 10 {}
deriving DecidableEq, Repr

/-- A stamp-queue entry (R118). -/
structure StampEntry where
  /-- frame tag (R118) -/
  tag : Nat := 0
  /-- entry sequence number (R118) -/
  seq : Nat := 0
  /-- completed (R120) -/
  done : Bool := false
  /-- status DROPPED (R118) -/
  dropped : Bool := false
  /-- frame length (R118) -/
  length : Nat := 0
  /-- STAMP128 (R118) -/
  stamp : Nat := 0
  /-- boundary count at which it completed (R122) -/
  doneAt : Nat := 0
  /-- the frame it was reserved for (R119) -/
  frame : Nat := 0
deriving DecidableEq, Repr

/-- The corrections that a lane applies from a cycle on (R98, R100, R106). -/
structure LaneUse where
  /-- coarse count of that cycle (R105) -/
  cyc : Nat := 0
  /-- rx_cal and the external receive latency, ps (R98) -/
  rx : Int := 0
  /-- tx_cal and the external transmit latency, ps (R100) -/
  tx : Int := 0
  /-- the lane is CALIBRATED (R105) -/
  calibrated : Bool := false
deriving DecidableEq, Repr

/-- Timestamp unit and calibration of one SerDes lane (NP0-NP7, HP, CL0-CL3). -/
structure Lane where
  /-- measured variable part of rx_cal, ps (R104) -/
  rxVar : Int := 0
  /-- measured variable part of tx_cal, ps (R104) -/
  txVar : Int := 0
  /-- coarse count at which the measurement began (R104) -/
  calStart : Nat := 0
  /-- the lane's PCS is locked (R318) -/
  locked : Bool := false
  /-- coarse count at which the lane last locked (R318) -/
  lockedAt : Nat := 0
  /-- the corrections in use, newest first: those of the last few changes (R98, R105) -/
  uses : List LaneUse := []
deriving DecidableEq, Repr

/-- One captured measurement of a slot (R125). -/
structure Meas where
  /-- TOD of the measurement (R125) -/
  t : Int := 0
  /-- offset, units of 2^-16 ns (R125, R306, R456) -/
  x : Int := 0
  /-- boundary count at capture (R37) -/
  tickAt : Nat := 0
  /-- coarse count at capture (R125) -/
  cyc : Nat := 0
  /-- a servo update or completion has used it (R148) -/
  used : Bool := false
  /-- frequency measured with it (FREQ, Cremin and flywheel slots), FREQ64 (R125, R457) -/
  y : Option Int := none
  /-- phase that slews had moved at capture (R166) -/
  slew : Int := 0
  /-- sum of the base increments at capture (R166) -/
  inc : Int := 0
  /-- flags of its STAMP128 (R106, R161) -/
  flags : Nat := 1
deriving DecidableEq, Repr

/-- A reference slot (R124, R125, R130). -/
structure Slot where
  /-- presence test (R128, R130) -/
  present : Bool := false
  /-- consecutive expected edges found while not present (R128) -/
  good3 : Nat := 0
  /-- consecutive expected edges missing (R128) -/
  missed : Nat := 0
  /-- predicted instant of the next divided edge (R128) -/
  pred : Option Int := none
  /-- coarse count of the last accepted input edge (R127) -/
  lastEdge : Option Nat := none
  /-- input edges counted by the pre-divider (R126) -/
  divCount : Nat := 0
  /-- measurements in the window, newest first (R125) -/
  meas : List Meas := []
  /-- fractional frequency against the TOD, FREQ64 (R125) -/
  y : Int := 0
  /-- peak-to-peak residual after the line fit (R125) -/
  resid : Nat := 0
  /-- frequency test (R158) -/
  freqOk : Bool := false
  /-- stability test (R158) -/
  phaseOk : Bool := false
  /-- consistent or agreed (R158) -/
  consOk : Bool := false
  /-- coarse count since which every test passed (R130) -/
  goodSince : Option Nat := none
  /-- qualified[n] (R130) -/
  qualified : Bool := false
  /-- coarse count at which the WTR began (R130) -/
  wtrStart : Option Nat := none
  /-- eligible for selection (R134) -/
  eligible : Bool := false
  /-- INCONSISTENT mark (R136) -/
  inconsistent : Bool := false
  /-- rescued by agreement (R137) -/
  agreed : Bool := false
  /-- ARB_DISQUALIFIED (R153) -/
  arbDisq : Bool := false
  /-- FORCED (R158) -/
  forced : Bool := false
  /-- the tests ran on the last tick (R158) -/
  tested : Bool := false
  /-- on the last tick the slot failed the consistency test and was not forced (R136) -/
  failed : Bool := false
  /-- PATH_STEP shown (R157) -/
  pathStep : Bool := false
  /-- source term supplied by the source (S8-S12, S21, S22) (R124) -/
  srcTerm : Nat := 0xFFFFFFFFFFFF
  /-- held offset while SUSPECT or GUARD (R206) -/
  held : Option Int := none
  /-- sum of corrections subtracted from later offsets, units of 2^-16 ns (R208) -/
  corr : Int := 0
  /-- values of the last tick at which the slot was measured (R161) -/
  lastMeas : Option Meas := none
deriving DecidableEq, Repr

/-- An undecided dispute (R154). -/
structure Dispute where
  /-- lower slot (R154) -/
  a : Nat := 0
  /-- higher slot (R154) -/
  b : Nat := 0
  /-- coarse count since which the difference is within half the threshold (R154) -/
  calm : Option Nat := none
deriving DecidableEq, Repr

/-- Terms SA writes for each scruple update (R194). -/
structure ScrTerms where
  /-- source term T (R194) -/
  t : Nat := 0xFFFFFFFFFFFF
  /-- measurement term M (R194) -/
  m : Nat := 0
  /-- asymmetry part of M (R195) -/
  a : Nat := 0
  /-- servo residual E (R194) -/
  e : Nat := 0
  /-- arbitration term X (R194, R154) -/
  x : Nat := 0
deriving DecidableEq, Repr

/-- Outputs that SA has written into staging registers and that commit at the next boundary (R37, R42). -/
structure SaOut where
  /-- tod.increment (R149) -/
  inc : Option Nat := none
  /-- tod.slew amount, ps (R149) -/
  slew : Option Int := none
  /-- d of a completion: what the slew remaining becomes, ps (R145) -/
  slewTo : Option Int := none
  /-- servo step, units of 2^-56 ns (R149, R145) -/
  step : Option Int := none
  /-- slot whose adoption the commit makes (R145) -/
  adopt : Option Nat := none
  /-- target whose transition fails (R145) -/
  fail : Option Nat := none
  /-- slot to which a transition begins (R143) -/
  begin : Option Nat := none
  /-- move to UNREFERENCED (R140) -/
  unref : Bool := false
  /-- DAC frame that goes with the feed-forward increment (R188) -/
  dac : Option Nat := none
  /-- scruple terms of SA (R198) -/
  terms : Option ScrTerms := none
  /-- floors handed to the scruple unit (R138) -/
  floors : List Nat := []
  /-- a servo step while LOCKED (R204) -/
  restart : Bool := false
  /-- move of DPLL-T to XO_IN (R174) -/
  toXo : Bool := false
  /-- move of DPLL-T to FLY_10M (R175) -/
  toFly : Bool := false
deriving DecidableEq, Repr

/-- Selection, transition and servo of SA. -/
structure Select where
  /-- boundary count at which the transition began (R143) -/
  transBegan : Nat := 0
  /-- window length N in ticks (R143) -/
  transTicks : Nat := 0
  /-- undecided disputes (R154) -/
  disputes : List Dispute := []
  /-- pairs already arbitrated in their present disagreement (R153) -/
  arbSeen : List (Nat × Nat) := []
  /-- integral state of the servo (R149) -/
  fInt : Rat := 0
  /-- TOD of the boundary of the previous update (R148) -/
  lastUpd : Int := 0
  /-- slot last active (R386) -/
  lastActive : Option Nat := none
  /-- TIME slot adopted most recently (R416) -/
  lastTime : Option Nat := none
  /-- offset d of the last adoption, units of 2^-16 ns (R424) -/
  adoptD : Int := 0
  /-- boundary of the last tick at which ref.state was LOCKED on a TIME slot (R384) -/
  lockedTick : Option Int := none
  /-- staged outputs of SA (R37) -/
  staged : SaOut := {}
  /-- outputs of an overrun tick that were not written before the boundary (R42) -/
  carried : SaOut := {}
  /-- a force committed at this boundary awaits its floor (R138) -/
  forcedFloor : Bool := false
deriving DecidableEq, Repr

end Sys2Proof.Machine
end

