-- ==== Sys2Proof/Machine/THold.lean ====
section
/-! DEFINITION. State types: holdover, models and the scruple unit. Each field cites the rule that gives it. -/
namespace Sys2Proof.Machine

/-- An entry of the model's fit window W (R166). -/
structure WEntry where
  /-- TOD second of its newest sample (R166) -/
  s : Nat := 0
  /-- mean f1 (R166) -/
  f : Rat := 0
  /-- mean temperature (R166) -/
  temp : Rat := 0
  /-- taken after the last re-centring (R190) -/
  after : Bool := false
deriving DecidableEq, Repr

/-- The learned model of one oscillator (R166 to R168). -/
structure OscModel where
  /-- fit window W, newest first (R166) -/
  w : List WEntry := []
  /-- fitted offset at se (R166) -/
  f0 : Rat := 0
  /-- drift (R166) -/
  d : Rat := 0
  /-- temperature coefficient (R166) -/
  k : Rat := 0
  /-- time of the newest sample in the fit (R166) -/
  se : Nat := 0
  /-- mean temperature of the fit window (R166) -/
  t0 : Rat := 0
  /-- uncertainty of f0 (R166) -/
  uf : Rat := 0
  /-- uncertainty of D (R166) -/
  ud : Rat := 0
  /-- uncertainty of K (R166) -/
  uk : Rat := 0
  /-- 0 NONE, 1 LEARNING, 2 VALID (R166) -/
  state : Nat := 0
  /-- a fit has been made (R168) -/
  fitted : Bool := false
  /-- addition to u_f after a re-centring (R190) -/
  extraUf : Rat := 0
deriving DecidableEq, Repr

/-- A growth segment (R179, R180). -/
structure Segment where
  /-- 1 UNMODELLED, 2 MODEL, 3 FREQ (R179) -/
  regime : Nat := 1
  /-- coarse count at which it opened (R179) -/
  start : Nat := 0
  /-- frequency coefficient (R180) -/
  u : Rat := 0
  /-- drift coefficient (R180) -/
  d : Rat := 0
  /-- temperature coefficient (R180) -/
  k : Rat := 0
  /-- Allan deviation at 1 s (R180) -/
  a1 : Rat := 0
  /-- flicker floor (R180) -/
  b : Rat := 0
  /-- stability residual of the FREQ slot at open (R180) -/
  p : Nat := 0
  /-- T0 of the segment (R179) -/
  t0 : Option Rat := none
  /-- integral of |T - T0| (R179) -/
  theta : Rat := 0
deriving DecidableEq, Repr

/-- Flywheel, holdover and free run. -/
structure Hold where
  /-- the timebase is the flywheel (R162) -/
  timebaseFly : Bool := false
  /-- fly.type in effect since start (R162) -/
  typeAtStart : Nat := 0
  /-- flywheel model (frozen while the timebase is the XO) (R166, R174) -/
  fly : OscModel := {}
  /-- XO model (R166, R174) -/
  xo : OscModel := {}
  /-- minute accumulator: f1 samples (R166) -/
  accF : List Rat := []
  /-- minute accumulator: temperature samples (R166) -/
  accT : List Rat := []
  /-- TOD second of its newest sample (R166) -/
  accS : Nat := 0
  /-- the latest measurement of each slot captured by tick 0 of the second before (R166) -/
  prevMeas : List (Nat × Meas) := []
  /-- the latest measurement of each slot captured by tick 0 of this second (R166) -/
  curMeas : List (Nat × Meas) := []
  /-- tick 0 of the second before: coarse count, sum of the base increments and phase moved by slews up to it (R166) -/
  prevSec : Option (Nat × Int × Int) := none
  /-- tick 0 of this second, likewise (R166) -/
  curSec : Option (Nat × Int × Int) := none
  /-- BRIDGE, HOLDOVER or FREE_RUN was entered at the present boundary (R172) -/
  entry : Bool := false
  /-- f_avg as it stood at entry (R172) -/
  favg : Option Rat := none
  /-- changes of the base increment, newest first: coarse count, sum of the increments added before it, increment from then on (R172) -/
  incLog : List (Nat × Int × Nat) := []
  /-- coarse count since which a reference has steered the present timebase (R172) -/
  steerFrom : Option Nat := none
  /-- a step took effect in the present second (R166) -/
  stepInSec : Bool := false
  /-- a step took effect in the second before (R166) -/
  stepLast : Bool := false
  /-- sum of the final values of the closed segments, ps (R179) -/
  closed : Nat := 0
  /-- the open segment (R179) -/
  seg : Option Segment := none
  /-- a TIME slot has been adopted since start (R183) -/
  adopted : Bool := false
  /-- coarse count of the last TIME adoption (R191) -/
  adoptCyc : Nat := 0
  /-- phase hits added to the growth term since the last adoption (R164) -/
  hits : Nat := 0
  /-- R173 applies to the present coasting (R173) -/
  useAvg : Bool := false
  /-- the open segment was opened by the scruple unit at a halt of SA (R199) -/
  saHalted : Bool := false
  /-- the present BRIDGE was entered from LOCKED (R184) -/
  fromLocked : Bool := false
  /-- service codes the conditions gave, with the coarse count, newest first (R185) -/
  codes : List (Nat × Nat) := []
  /-- coarse count since which S23 has been qualified (R175) -/
  flyQualSince : Option Nat := none
  /-- time of the last FLY_PPS edge in ps of tclk periods (R164) -/
  ppsLast : Option Nat := none
  /-- last DAC frame sent (R188) -/
  dacFrame : Option Nat := none
  /-- last UART command sent (R189) -/
  uartSent : Bytes := []
  /-- coarse count at which it was sent (R189) -/
  uartAt : Option Nat := none
  /-- boundary count at which the last DAC frame began (R188) -/
  recentreAt : Option Nat := none
  /-- sensor-8 samples of the present second, 0.01 degree C (R163) -/
  temps : List Int := []
  /-- mean over the last second (R163) -/
  temp : Option Rat := none
deriving DecidableEq, Repr

/-- A floor of the scruple unit (R205). -/
structure Floor where
  /-- F[i] (R201) -/
  f : Nat := 0
  /-- coarse count of the boundary at which it was set (R205) -/
  start : Nat := 0
  /-- a TIME slot has been adopted since (R205) -/
  adopted : Bool := false
deriving DecidableEq, Repr

/-- Path-delay detector of a PTP-in instance (R206, R208). -/
structure PathDet where
  /-- (coarse count, RTT ps) of NORMAL measurements in scr.rtt_window (R206) -/
  rtts : List (Nat × Nat) := []
  /-- consecutive suspect RTTs (R206) -/
  suspects : List (Nat × Nat) := []
  /-- coarse count at which the guard began (R206) -/
  guardFrom : Option Nat := none
  /-- sum of |Delta| over the steps of the guard (R208) -/
  delta : Nat := 0
  /-- coarse count and x_i - x_8, units of 2^-16 ns, over the window before the first suspect measurement (R208) -/
  before : List (Nat × Int) := []
  /-- x_i - x_8 over the guard (R208) -/
  during : List Int := []
  /-- coarse count of the first suspect measurement of the present guard (R208) -/
  firstAt : Nat := 0
  /-- offset at the last NORMAL measurement (R206) -/
  lastNormal : Int := 0
deriving DecidableEq, Repr

/-- The hardware scruple unit. -/
structure Scruple where
  /-- live floors (R201) -/
  floors : List Floor := []
  /-- T, M and E at the last LOCKED update (R197) -/
  frozen : ScrTerms := {}
  /-- SA's last committed terms (R198) -/
  live : ScrTerms := {}
  /-- t_in: coarse count of the last boundary at which SA's terms committed (R198) -/
  termsAt : Nat := 0
  /-- SA's terms committed at the present boundary (R198) -/
  fresh : Bool := false
  /-- settle_start: coarse count of its boundary (R201) -/
  settleStart : Option Nat := none
  /-- H at the previous update (R201) -/
  lastH : Nat := 0xFFFFFFFFFFFF
  /-- additions to J awaiting the next update (R202) -/
  jAdd : Nat := 0
  /-- a restart event occurred since the last update (R204) -/
  restart : Bool := false
  /-- a TIME slot was adopted at this boundary (R201) -/
  adoptedNow : Bool := false
  /-- cause code awaiting the next update (R216) -/
  cause : Nat := 0
  /-- detectors of instances 0-3 (R206) -/
  paths : Vector PathDet 4 := Vector.replicate 4 {}
  /-- g of the last update (R210, R215) -/
  g : Nat := 0
  /-- at the last update settled(k) held and no restart event stood, so that S fell (R201, R203) -/
  fell : Bool := false
  /-- coarse count since which the Gleaner has been healthy (R208) -/
  healthySince : Option Nat := none
deriving DecidableEq, Repr

end Sys2Proof.Machine
end

