-- ==== Sys2Proof/Machine/TNet.lean ====
section
/-! DEFINITION. State types: ports, launch, policing and the protocol services. Each field cites the rule that gives it. -/
namespace Sys2Proof.Machine

/-- The unit a received frame is held for (R336, R345). -/
inductive RxKind where
  /-- UDP 123, for a Thresher -/
  | ntp
  /-- EtherType 0x88F7 or UDP 319, 320, for a Thresher -/
  | ptp
  /-- for the Atton agent -/
  | atton
  /-- ARP request for a served address -/
  | arp
  /-- neighbour solicitation for a served address -/
  | nd
  /-- echo request to a served entry -/
  | echo
  /-- PAUSE -/
  | pause
  /-- SEND received on HP -/
  | send
  /-- none of these -/
  | punt
deriving DecidableEq, Repr

/-- What the commit and the departure of a transmitted frame bring about. -/
inductive TxNote where
  /-- a frame of the host (R346) -/
  | host
  /-- a hardware answer, a kiss or an Atton message -/
  | answer
  /-- a plain NTP response of a service unit (R384) -/
  | ntp (unit : Nat)
  /-- an NTS response (R393) -/
  | nts
  /-- a two-step Sync: PTP unit, port, sequenceId, session if unicast (R421) -/
  | sync (unit port seq : Nat) (sess : Option Nat)
  /-- a one-step Sync (R420) -/
  | oneStep (unit port : Nat)
  /-- a Pdelay_Resp: PTP unit, port, sequenceId and requesting port identity (R423) -/
  | pdelayResp (unit port seq : Nat) (requester : Bytes)
  /-- the slave's Delay_Req (R437) -/
  | delayReq (unit seq : Nat)
  /-- a Pdelay_Req: PTP unit, port, sequenceId, and whether it is the slave port's (R424) -/
  | pdelayReq (unit port seq : Nat) (slave : Bool)
  /-- any other general message of a PTP unit -/
  | general (unit port : Nat)
deriving DecidableEq, Repr

/-- A received frame held in the receive pool until its end of R28 (R329). -/
structure RxFrame where
  /-- frame number (R329) -/
  id : Nat := 0
  /-- port 0-7, HP 8 (R336) -/
  port : Nat := 0
  /-- the dispatcher's class (R336) -/
  kind : RxKind := .punt
  /-- octets from the destination address to before the FCS, tags included (R324) -/
  bytes : Bytes := []
  /-- frame length with FCS (R324) -/
  len : Nat := 0
  /-- receive stamp, STAMP128 (R98) -/
  stamp : Nat := 0
  /-- tod.step_count of its receive stamp (R388, R107) -/
  steps : Nat := 0
  /-- TOD of the receive stamp, units of 2^-56 ns (R98) -/
  arr : Int := 0
  /-- served entry matched (R336) -/
  entry : Option Nat := none
  /-- tags stripped (R333) -/
  tags : Nat := 0
  /-- PCP of the outermost tag (R333) -/
  pcp : Nat := 0
  /-- PCP of the inner tag (R334) -/
  ipcp : Nat := 0
  /-- pool cells held (R328) -/
  cells : Nat := 0
  /-- of them, cells of the port's reserve (R328) -/
  reserve : Nat := 0
  /-- boundary count of the tick in which it was received (R37, R47) -/
  tick : Nat := 0
  /-- coarse count at which it was received (R436) -/
  cyc : Nat := 0
deriving DecidableEq, Repr

/-- A frame in a transmit buffer (R350, R351). -/
structure TxFrame where
  /-- frame number (R119) -/
  id : Nat := 0
  /-- octets before the FCS, padded (R326) -/
  bytes : Bytes := []
  /-- queue (R350) -/
  queue : Nat := 0
  /-- frame tag (R118) -/
  tag : Nat := 0
  /-- two-step stamp requested (R119) -/
  stampReq : Bool := false
  /-- encoding of the stamp descriptor, 0 none (R108) -/
  enc : Nat := 0
  /-- octet offset of the stamp field (R108) -/
  stampOff : Nat := 0
  /-- octet offset of the UDP checksum, 0xFFFF none (R108) -/
  csumOff : Nat := 0xFFFF
  /-- octet offset of the correctionField, 0xFFFF none (R108) -/
  cfOff : Nat := 0xFFFF
  /-- tod.step_count recorded with it (R388) -/
  steps : Nat := 0
  /-- what its commit and departure do (R356) -/
  note : TxNote := .host
  /-- its FCS is sent inverted (R116) -/
  badFcs : Bool := false
  /-- boundary count of the update whose scruple it carries, and the coarse count of that boundary (R211) -/
  born : Option (Nat × Nat) := none
deriving DecidableEq, Repr

/-- An entry of a port's launch calendar (R354). -/
structure CalEntry where
  /-- timestamp point, units of 2^-56 ns (R354) -/
  t : Int := 0
  /-- wire time, units of 2^-56 ns (R354) -/
  w : Int := 0
  /-- it holds a reserved frame (R351) -/
  reserved : Bool := false
  /-- the reserved frame is complete in the transmit buffer (R111) -/
  ready : Bool := true
  /-- its frame is committed (R356) -/
  committed : Bool := false
  /-- its entry is released and its frame waits to be placed again (R357) -/
  released : Bool := false
  /-- its timestamp point has crossed the reference plane (R354) -/
  crossed : Bool := false
  /-- its timestamp point lay within the step cycle or before it, and crosses on the timescale before the step (R107) -/
  reached : Bool := false
  /-- the frame (R354) -/
  frame : TxFrame := {}
deriving DecidableEq, Repr

/-- A transmit queue (R350 to R366). -/
structure Queue where
  /-- untimed frames, oldest first (R351) -/
  fifo : List TxFrame := []
  /-- cells in use (R350) -/
  used : Nat := 0
  /-- held for want of a stamp-queue entry (R119) -/
  held : Bool := false
  /-- deficit, octets (R359) -/
  deficit : Int := 0
  /-- granted in its present turn (R359) -/
  granted : Bool := false
  /-- shaper tokens, units of 2^-56 x 10^-9 bit (R364) -/
  tokens : Int := 0
  /-- TOD up to which tokens were added (R364) -/
  tokensAt : Int := 0
deriving DecidableEq, Repr

/-- A network port NP0-NP7, or HP as number 8 (R316 to R366). -/
structure Port where
  /-- stamp queue, oldest first (R118) -/
  fifoStamp : List StampEntry := []
  /-- next entry sequence number (R118) -/
  stampSeq : Nat := 0
  /-- a committed change takes the link down (R319) -/
  taking : Bool := false
  /-- cells of its reserve in use (R328) -/
  rxReserve : Nat := 0
  /-- Q0-Q7 (R350) -/
  queues : Vector Queue 8 := Vector.replicate 8 {}
  /-- active list, head first (R359) -/
  active : List Nat := []
  /-- launch calendar in order of entry (R354) -/
  cal : List CalEntry := []
  /-- time at which the present hold began, in ps of tclk periods (R331) -/
  pauseFrom : Option Nat := none
  /-- time at which it ends (R331) -/
  pauseEnd : Nat := 0
  /-- a hold has ended and the MAC has not yet sent its one frame (R52) -/
  pauseOwed : Bool := false
  /-- arrival time and ps of a PAUSE received in that time (R331) -/
  pauseNext : Option (Nat × Nat) := none
  /-- echo replies in the present TOD second (R339) -/
  icmp : Nat := 0
  /-- kiss responses in the present TOD second (R371) -/
  kisses : Nat := 0
deriving DecidableEq, Repr

/-- What a Flail job computes (R402, R434). -/
inductive FlailWork where
  | none
  /-- an NTS response with `n` cookies of a service unit (R402) -/
  | nts (n unit : Nat)
  /-- an authenticated RATE packet of a service unit (R390) -/
  | kiss (unit : Nat)
  /-- the ICV of an authenticated one-step Sync: PTP unit, offset of the message in the frame, algorithm (R434) -/
  | sign (unit off alg : Nat)
deriving DecidableEq, Repr

/-- A job in a Flail pipeline (R402, R434). -/
structure FlailJob where
  /-- job number, that of its frame (R402) -/
  id : Nat := 0
  /-- it runs on a SHA-256 pipeline (R434) -/
  sha : Bool := false
  /-- pipeline (R404) -/
  pipe : Nat := 0
  /-- Thresher that issued it (R520) -/
  thr : Nat := 0
  /-- predicted completion, TOD (R109) -/
  doneAt : Int := 0
  /-- port (R391) -/
  port : Nat := 0
  /-- what the job computes (R402) -/
  work : FlailWork := .none
  /-- key in effect when the job was issued (R400) -/
  key : Bytes := []
  /-- minting key in effect when the job was issued (R400) -/
  mint : Bytes := []
  /-- key ID of the minting slot (R400) -/
  mintId : Nat := 0
  /-- minting slot (R400) -/
  mintSlot : Nat := 0
  /-- key slot of the request's cookie (R400) -/
  slot : Nat := 0
  /-- the request (R391) -/
  req : RxFrame := {}
  /-- queue of its frame (R387) -/
  queue : Nat := 0
  /-- cells reserved for an untimed result (R55) -/
  cells : Nat := 0
deriving DecidableEq, Repr

/-- The Flail units (R34, R402, R434). -/
structure Flail where
  /-- jobs issued and not complete, oldest first (R402) -/
  jobs : List FlailJob := []
  /-- predicted TOD at which each AES pipeline is free (R404, R109) -/
  aesFree : Vector Int 10 := Vector.replicate 10 0
  /-- predicted TOD at which each SHA-256 pipeline is free (R434, R109) -/
  shaFree : Vector Int 5 := Vector.replicate 5 0
deriving DecidableEq, Repr

/-- The smear latch of an NTP instance (R382). -/
structure Smear where
  /-- the latch is held (R382) -/
  held : Bool := false
  /-- s_i, units of 2^-56 ns (R382) -/
  start : Int := 0
  /-- W_i, units of 2^-56 ns (R382) -/
  w : Int := 0
  /-- L, units of 2^-56 ns (R382) -/
  leap : Int := 0
  /-- +1 INSERT, -1 DELETE (R382) -/
  k : Int := 0
  /-- O_old (R382) -/
  old : Int := 0
  /-- boundary at which unwinding began and r0 (R382) -/
  unwind : Option (Int × Rat) := none
deriving DecidableEq, Repr

/-- A key slot in effect: NTS master key slot or PTP key slot (R398, R435). -/
structure KeySlot where
  /-- loaded key (R398) -/
  key : Bytes := []
  /-- key ID in effect (R398) -/
  id : Nat := 0
  /-- algorithm in effect (R440) -/
  alg : Nat := 0
  /-- 0 EMPTY, 1 ACCEPT, 2 ACTIVE, 3 DRAINING (R398) -/
  state : Nat := 0
deriving DecidableEq, Repr

/-- The policer table (R367 to R370). -/
structure Policer where
  /-- entries that differ from the rest, rising by number (R368) -/
  entries : List (Nat × Nat) := []
  /-- value of every unlisted entry (R368) -/
  rest : Nat := 0
deriving DecidableEq, Repr

/-- A foreign master heard on a slave port (R436). -/
structure PtpForeign where
  /-- its port identity (R436) -/
  port : Bytes := []
  /-- coarse counts of its latest Announces (R436) -/
  times : List Nat := []
  /-- its log Announce interval (R436) -/
  interval : Int := 0
  /-- its latest Announce (R436) -/
  data : Bytes := []
  /-- source address (R436) -/
  addr : Bytes := []
  /-- source MAC address (R436) -/
  mac : Bytes := []
  /-- two Announces within four intervals (R436) -/
  qualified : Bool := false
deriving DecidableEq, Repr

/-- A delay exchange of a slave port or a Pdelay exchange of a gPTP port (R424, R437). -/
structure Exchange where
  /-- sequenceId (R437) -/
  seq : Nat := 0
  /-- transmit stamp t3 (E2E) or t1 (P2P), TOD (R437) -/
  tx : Option Int := none
  /-- tod.step_count of that stamp (R438) -/
  steps : Nat := 0
  /-- Pdelay_Resp: t2, its receive stamp t4, step_count of t4, correctionField (R424) -/
  resp : Option (Int × Int × Nat × Nat) := none
  /-- completed (R424) -/
  done : Bool := false
deriving DecidableEq, Repr

/-- A Sync of the slave port that waits for its Follow_Up (R437). -/
structure SyncIn where
  /-- sequenceId (R437) -/
  seq : Nat := 0
  /-- receive stamp, TOD (R437) -/
  t2 : Int := 0
  /-- tod.step_count of it (R438) -/
  steps : Nat := 0
  /-- correctionField of the Sync (R437) -/
  cf : Int := 0
  /-- flags of its receive stamp (R106, R161) -/
  flags : Nat := 0
deriving DecidableEq, Repr

/-- A unicast grant held from an upstream master (R436). -/
structure Grant where
  /-- upstream m (R436) -/
  master : Nat := 0
  /-- message type (R436) -/
  msg : Nat := 0
  /-- granted log period (R436) -/
  log : Int := 0
  /-- granted duration, s (R436) -/
  dur : Nat := 0
  /-- coarse count at which it was granted (R436) -/
  since : Nat := 0
  /-- its renewal has been requested (R436) -/
  asked : Bool := false
deriving DecidableEq, Repr

/-- A Follow_Up waiting to be queued (R421, R423). -/
structure Fup where
  /-- port (R421) -/
  port : Nat := 0
  /-- message type (R421, R423) -/
  type : Nat := 0
  /-- its frame (R421) -/
  bytes : Bytes := []
  /-- its queue (R55) -/
  queue : Nat := 0
  /-- cells reserved for it before its signing job was issued (R55) -/
  cells : Nat := 0
deriving DecidableEq, Repr

/-- A PTP instance (R408 to R440). -/
structure PtpInst where
  /-- port on which the slave state machine runs, 0xFF while DISABLED (R436) -/
  slavePort : Nat := 0xFF
  /-- foreign masters of the slave port (R436) -/
  foreign : List PtpForeign := []
  /-- parent port identity (R436) -/
  parent : Option Bytes := none
  /-- coarse count of the parent's last Announce (R436) -/
  parentAt : Nat := 0
  /-- consecutive complete measurements (R436) -/
  complete : Nat := 0
  /-- Syncs awaiting Follow_Ups (R437) -/
  syncs : List SyncIn := []
  /-- d_k of the last second: coarse count, 2^-56 ns (R437) -/
  dks : List (Nat × Int) := []
  /-- latest d_k (R437) -/
  dLast : Option Int := none
  /-- coarse count of the last Sync received on the slave port (R130, R437) -/
  lastSync : Option Nat := none
  /-- logMessageInterval of that Sync (R437) -/
  syncLog : Int := 0
  /-- delay exchanges of the slave port, newest first (R437) -/
  exch : List Exchange := []
  /-- next sequenceId of Delay_Req or Pdelay_Req on the slave port (R437) -/
  reqSeq : Nat := 0
  /-- coarse count of the last Delay_Req (R436) -/
  reqAt : Nat := 0
  /-- last Pdelay exchanges of each master port, newest first (R424) -/
  pExch : Vector (List Exchange) 8 := Vector.replicate 8 []
  /-- next Pdelay_Req sequenceId (R424) -/
  pSeq : Vector Nat 8 := Vector.replicate 8 0
  /-- mean link delay of the last completed exchange (R424) -/
  pDelay : Vector (Option Int) 8 := Vector.replicate 8 none
  /-- next Sync sequenceId per master port (R420) -/
  syncSeq : Vector Nat 8 := Vector.replicate 8 0
  /-- next Announce sequenceId per master port (R414) -/
  annSeq : Vector Nat 8 := Vector.replicate 8 0
  /-- next Signaling sequenceId (R427) -/
  sigSeq : Nat := 0
  /-- Follow_Ups waiting to be queued (R421, R423) -/
  fups : List Fup := []
  /-- gmTimeBaseIndicator (R424) -/
  gmInd : Nat := 0
  /-- lastGmPhaseChange, 2^-16 ns (R424) -/
  gmPhase : Int := 0
  /-- scaledLastGmFreqChange (R424) -/
  gmFreq : Int := 0
  /-- grants held as a unicast client (R436) -/
  grants : List Grant := []
  /-- key slots in effect (R435) -/
  keys : Vector KeySlot 4 := Vector.replicate 4 {}
  /-- TOD instant of the last multicast Sync release per master port (R420) -/
  syncAt : Vector Int 8 := Vector.replicate 8 0
  /-- TOD instant of the last multicast Announce per master port (R414) -/
  annAt : Vector Int 8 := Vector.replicate 8 0
  /-- coarse count of the last Pdelay_Req of each master port (R424) -/
  pReqAt : Vector (Option Nat) 8 := Vector.replicate 8 none
  /-- t2 - t1 - cf_s of the latest Sync and its step_count (R437) -/
  fwd : Option (Int × Nat) := none
deriving DecidableEq, Repr

/-- A grant of a session (R428, R431). -/
structure SessGrant where
  /-- granted log period, 0x7F none (R431) -/
  log : Int := 127
  /-- tick count of its end (R431) -/
  tend : Nat := 0
deriving DecidableEq, Repr

/-- A record of the session store (R426, R431). -/
structure Session where
  /-- record number (R431) -/
  num : Nat := 0
  /-- instance (R431) -/
  inst : Nat := 0
  /-- port (R431) -/
  port : Nat := 0
  /-- 4 or 6 (R431) -/
  family : Nat := 4
  /-- client address (R431) -/
  addr : Bytes := []
  /-- client sourcePortIdentity (R431) -/
  ident : Bytes := []
  /-- source MAC address of the client's latest message (R431) -/
  mac : Bytes := []
  /-- served entry (R431) -/
  entry : Nat := 0
  /-- Announce grant (R428) -/
  ann : SessGrant := {}
  /-- Sync grant (R428) -/
  sync : SessGrant := {}
  /-- Delay_Resp grant (R428) -/
  resp : SessGrant := {}
  /-- phase in half ticks (R429) -/
  phase : Nat := 0
  /-- a phase has been taken (R429) -/
  phased : Bool := false
  /-- next Announce sequenceId (R431) -/
  seqAnn : Nat := 0
  /-- next Sync sequenceId (R431) -/
  seqSync : Nat := 0
  /-- TOD instant of the last Announce release (R429) -/
  relAnn : Int := 0
  /-- TOD instant of the last Sync release (R429) -/
  relSync : Int := 0
deriving DecidableEq, Repr

/-- A staged unicast decision that commits at the next boundary (R427, R428, R430). -/
structure UcStaged where
  /-- session, none for a denial (R427) -/
  sess : Option Nat := none
  /-- instance (R427) -/
  inst : Nat := 0
  /-- port (R427) -/
  port : Nat := 0
  /-- message type (R427) -/
  msg : Nat := 0
  /-- log period (R427) -/
  log : Int := 0
  /-- duration granted, s (R427) -/
  dur : Nat := 0
  /-- it removes the grant (R430) -/
  cancel : Bool := false
  /-- the request, for the answer (R427) -/
  req : RxFrame := {}
  /-- queue of the answer (R54) -/
  queue : Nat := 0
  /-- cells reserved for the answer (R54) -/
  cells : Nat := 0
deriving DecidableEq, Repr

/-- An event of a slave port's state machine: SB stages what it leads to, and it commits at a boundary (R37, R436). -/
inductive SbEvent where
  /-- an Announce was received -/
  | announce (f : RxFrame)
  /-- the parent, whose last Announce came at a coarse count, has been silent too long -/
  | silent (parent : Bytes) (last : Nat)
  /-- enough complete measurements -/
  | calibrated
deriving DecidableEq, Repr

/-- An output of SB for a slave port that waits for its boundary (R37, R42). -/
structure SbOut where
  /-- boundary count from which on it commits (R37) -/
  due : Nat := 0
  /-- instance (R436) -/
  inst : Nat := 0
  /-- its event (R436) -/
  event : SbEvent := .calibrated
deriving DecidableEq, Repr

/-- Ports, launch, policing and the protocol services. -/
structure Net where
  /-- NP0-NP7, HP (R316) -/
  ports : Vector Port 9 := Vector.replicate 9 {}
  /-- frames held for their unit, oldest first (R329) -/
  waiting : List RxFrame := []
  /-- shared cells of the receive pool in use (R327) -/
  sharedUsed : Nat := 0
  /-- next frame number (R329) -/
  nextId : Nat := 1
  /-- Flail units (R402) -/
  flail : Flail := {}
  /-- smear latches (R382) -/
  smears : Vector Smear 4 := Vector.replicate 4 {}
  /-- NTS master key slots in effect (R398) -/
  nts : Vector KeySlot 8 := Vector.replicate 8 {}
  /-- policer table (R368) -/
  policer : Policer := {}
  /-- PTP instances (R408) -/
  ptp : Vector PtpInst 4 := Vector.replicate 4 {}
  /-- session store, rising by number (R426) -/
  sessions : List Session := []
  /-- staged unicast decisions (R427) -/
  staged : List UcStaged := []
  /-- staged events of the slave ports, in the order of SB's work (R37, R436) -/
  sbOut : List SbOut := []
  /-- frames that have crossed the reference plane in the present tick: port and frame (R100) -/
  sent : List (Nat × TxFrame) := []
  /-- function class, element and boundary count of the disables awaiting DRAIN_END (R47) -/
  drains : List (Nat × Nat × Nat) := []
  /-- session number last written on each access path (R431) -/
  selSess : List (Nat × Nat) := []
deriving DecidableEq, Repr

end Sys2Proof.Machine
end

