-- ==== Sys2Proof/Machine/TWin.lean ====
section
/-! DEFINITION. State types: Winnow, the Stewards, the core matrix and Tithe. Each field cites the rule that gives it. -/
namespace Sys2Proof.Machine

/-- The fields that a raise gives to a first-error record (R517). -/
structure FaultInfo where
  /-- 0 none, 1 read, 2 write, 3 fetch, 4 DMA -/
  access : Nat := 0
  /-- matrix master, 0xFF none -/
  master : Nat := 0xFF
  /-- detail field -/
  detail : Nat := 0xFFFF
  /-- byte address -/
  addr : Nat := 0
deriving DecidableEq, Repr

/-- Winnow's live marks of a fault source (R509). -/
structure RaisedSrc where
  /-- its condition holds (CONDITION sources) (R509) -/
  cond : Bool := false
  /-- boundary count at which an EVENT source stops being active (R509) -/
  activeTo : Nat := 0
  /-- active (R509) -/
  active : Bool := false
  /-- a raise was lost and its condition held (R516) -/
  lostCond : Bool := false
deriving DecidableEq, Repr

/-- Winnow and the Reeve's handling. -/
structure Winnow where
  /-- sources raised on the present cycle, not yet presented (R514) -/
  now : List (Nat × FaultInfo) := []
  /-- sources of the presentation being handled (R514) -/
  handling : List Nat := []
  /-- the Reeve is handling (R514) -/
  busy : Bool := false
  /-- held raises (R516) -/
  held : List (Nat × FaultInfo) := []
  /-- sources (R508) -/
  srcs : Vector RaisedSrc 320 := Vector.replicate 320 {}
  /-- sources whose unit is fenced (R519) -/
  fenced : List Nat := []
  /-- sources whose fence is not yet completed (R515) -/
  fencing : List Nat := []
  /-- sources whose block reset is not yet completed (R515) -/
  resetting : List Nat := []
  /-- degraded bits to be set at the next boundary (R524) -/
  degPend : Nat := 0
  /-- the active DCO of DPLL-T is fenced and its spare takes over (R229) -/
  dcoPend : Bool := false
  /-- PIN latch (R530) -/
  pinLatch : Bool := false
  /-- REEVE_HEARTBEAT is active (R531) -/
  heartLost : Bool := false
  /-- coarse count of the last heartbeat write (R531) -/
  beatAt : Nat := 0
  /-- first-error record (always-on domain) (R517) -/
  first : Option Bytes := none
  /-- FAULT_ALIVE is stopped (R528) -/
  aliveStop : Bool := false
  /-- NMI raised on pairs SA, SB, SC (R511) -/
  nmi : Vector Bool 3 := Vector.replicate 3 false
  /-- corrected errors per bank in the present TOD second (R508) -/
  ce : Vector Nat 68 := Vector.replicate 68 0
  /-- banks whose SRAM_CE has been raised in the present TOD second (R508) -/
  ceRaised : Vector Bool 68 := Vector.replicate 68 false
  /-- Thresher serving each dispatcher slot (14 slots at start) (R519) -/
  thrSlots : Vector (Option Nat) 16 := Vector.ofFn (fun i => if i.val < 14 then some i.val else none)
  /-- spare Threshers (R519) -/
  thrSpare : List Nat := [14, 15]
  /-- dispatcher slots whose spare takes over at the next boundary (R519) -/
  thrPend : List Nat := []
  /-- active AES pipelines (R519) -/
  aesActive : List Nat := [0, 1, 2, 3, 4, 5, 6, 7]
  /-- spare AES pipelines (R519) -/
  aesSpare : List Nat := [8, 9]
  /-- active SHA-256 pipelines (R519) -/
  shaActive : List Nat := [0, 1, 2, 3]
  /-- spare SHA-256 pipelines (R519) -/
  shaSpare : List Nat := [4]
  /-- replaced banks and the spare at their address (R519) -/
  bankMap : List (Nat × Nat) := []
  /-- banks being copied to a spare (R521) -/
  bankPend : List (Nat × Nat) := []
  /-- spare banks left (R519) -/
  sramSpare : List Nat := [64, 65, 66, 67]
  /-- banks lost (R522) -/
  bankLost : List Nat := []
  /-- Gleaner groups whose spare takes over at the next boundary (R313) -/
  groupPend : List Nat := []
  /-- the DPLL-T spare DCO remains (R519) -/
  dcoSpare : Bool := true
  /-- a fence of DPLL-T's DCO found no spare: it keeps its active DCO (R229, R519) -/
  dcoStuck : Bool := false
  /-- degraded bits (R524) -/
  degraded : Nat := 0
deriving DecidableEq, Repr

/-- A Steward pair (R31, R43 to R46). -/
structure Pair where
  /-- 0 none, 1 SA role, 2 SB role, 3 standby (R43) -/
  role : Nat := 0
  /-- fenced (R44) -/
  fenced : Bool := false
  /-- loading or reloading (R579) -/
  loading : Bool := false
  /-- runs the new image (R579) -/
  fresh : Bool := false
  /-- tick work of the present tick done (R40) -/
  done : Bool := true
  /-- outputs blocked by the lockstep comparator (R31) -/
  blocked : Bool := false
  /-- it has passed its self-test and returns at the next boundary (R45) -/
  ret : Bool := false
  /-- it has failed its reload or self-test (R45) -/
  dead : Bool := false
deriving DecidableEq, Repr

/-- The role state of SA that a checkpoint holds: the results of its tests, its servo and its models. Edges, measurements and what the units hold are
captured inputs and outputs, and stay where they are (R43, R44). -/
structure SaCheck where
  /-- boundary count of the tick whose work it ends (R43) -/
  at' : Nat := 0
  /-- slots (R130 to R137) -/
  slots : Vector Slot 24 := Vector.replicate 24 {}
  /-- undecided disputes (R154) -/
  disputes : List Dispute := []
  /-- pairs arbitrated (R153) -/
  arbSeen : List (Nat × Nat) := []
  /-- integral state of the servo (R149) -/
  fInt : Rat := 0
  /-- TOD of the last servo update (R148) -/
  lastUpd : Int := 0
  /-- flywheel model (R166) -/
  fly : OscModel := {}
  /-- XO model (R166) -/
  xo : OscModel := {}
  /-- minute accumulator: f1 samples, temperatures and newest second (R166) -/
  acc : List Rat × List Rat × Nat := ([], [], 0)
  /-- coarse count since which S23 has been qualified (R175) -/
  flyQualSince : Option Nat := none
deriving DecidableEq, Repr

/-- The role state of SB that a checkpoint holds (R43). -/
structure SbCheck where
  /-- boundary count of the tick whose work it ends (R43) -/
  at' : Nat := 0
  /-- foreign masters of each slave port (R436) -/
  foreign : Vector (List PtpForeign) 4 := Vector.replicate 4 []
  /-- client grants of each instance (R436) -/
  grants : Vector (List Grant) 4 := Vector.replicate 4 []
  /-- tracking channels (R292, R293) -/
  chans : Vector GnssChan 128 := Vector.replicate 128 {}
  /-- assignment and state of each of them (R293) -/
  chStates : List (Nat × Nat) := []
  /-- signals that await a channel (R293) -/
  searchList : List Nat := []
deriving DecidableEq, Repr

/-- The Steward pairs and their roles. -/
structure Stewards where
  /-- pairs SA, SB, SC (R43) -/
  pairs : Vector Pair 3 := Vector.replicate 3 {}
  /-- roles (1 SA, 2 SB) that the standby takes at the next boundary (R44) -/
  takeover : List Nat := []
  /-- halted roles (R46) -/
  halted : List Nat := []
  /-- boundary count of the last tick of which both roles' checkpoints are in SC (R43) -/
  checkpoint : Nat := 0
  /-- the last completed checkpoint of the SA role (R43) -/
  sa : SaCheck := {}
  /-- the last completed checkpoint of the SB role (R43) -/
  sb : SbCheck := {}
  /-- roles still working at the last boundary (R42) -/
  overrun : List Nat := []
deriving DecidableEq, Repr

/-- A piece of a matrix request (R538, R539). -/
structure Piece where
  /-- piece number (R538) -/
  id : Nat := 0
  /-- request number (R538) -/
  req : Nat := 0
  /-- master code (R533) -/
  master : Nat := 0
  /-- target code (R534) -/
  target : Nat := 0
  /-- address (R538) -/
  addr : Nat := 0
  /-- octets (R538) -/
  len : Nat := 0
  /-- 0 read, 1 write, 2 fetch (R535) -/
  kind : Nat := 0
  /-- write data (R543) -/
  data : Bytes := []
  /-- granted and outstanding (R539) -/
  granted : Bool := false
  /-- coarse count of the grant (R544) -/
  grantAt : Nat := 0
  /-- its target has answered: error flag and read data (R543) -/
  done : Option (Bool × Bytes) := none
deriving DecidableEq, Repr

/-- A response delivered to a master (R543, R544). -/
structure MatrixResp where
  /-- request (R538) -/
  req : Nat := 0
  /-- master (R533) -/
  master : Nat := 0
  /-- error flag (R544) -/
  error : Bool := false
  /-- read data (R543) -/
  data : Bytes := []
deriving DecidableEq, Repr

/-- The core matrix. -/
structure Matrix where
  /-- pieces waiting at their masters and outstanding, oldest first (R539) -/
  pieces : List Piece := []
  /-- next piece number (R538) -/
  nextId : Nat := 1
  /-- next request number (R538) -/
  nextReq : Nat := 1
  /-- largest count of outstanding pieces in the present tick (R554) -/
  peak : Vector Nat 10 := Vector.replicate 10 0
  /-- per target the tclk cycle of its newest grant and the grants made in it (R540) -/
  grants : Vector (Nat × Nat) 9 := Vector.replicate 9 (0, 0)
  /-- responses delivered in the present tick (R543) -/
  delivered : List MatrixResp := []
  /-- poisoned words: bank, word (R521) -/
  poisoned : List (Nat × Nat) := []
  /-- SRAM contents, address and byte, rising (R534, R34) -/
  sram : List Host.Cell := []
deriving DecidableEq, Repr

/-- The live counters of a Tithe block (R546). -/
structure TitheBlock where
  /-- cycle counter (R546) -/
  cycles : Nat := 0
  /-- counters 0-7 (R546) -/
  counts : Vector Nat 8 := Vector.replicate 8 0
  /-- SAT flags, [8] the cycle counter (R549) -/
  sat : Nat := 0
  /-- snapshot of the cycle counter (R550) -/
  snapCycles : Nat := 0
  /-- snapshot of the counters (R550) -/
  snapCounts : Vector Nat 8 := Vector.replicate 8 0
  /-- snapshot of the SAT flags (R550) -/
  snapSat : Nat := 0
deriving DecidableEq, Repr

/-- Tithe. -/
structure Tithe where
  /-- blocks (R546) -/
  blocks : Vector TitheBlock 75 := Vector.replicate 75 {}
  /-- the store freezes at the next boundary, after its latch (R552, R553) -/
  freezeNext : Bool := false
  /-- the store is frozen (R552) -/
  frozen : Bool := false
deriving DecidableEq, Repr

end Sys2Proof.Machine
end

