-- ==== Sys2Proof/Machine/Inputs.lean ====
section
/-! DEFINITION. The operands of the commands: what the environment delivers with them (log entry 2). Every field says what it
stands for; none of them is state of the part. -/
namespace Sys2Proof.Machine

/-- The level of a write (R19): 0 Observer, 1 Operator, 2 Keeper. -/
abbrev Level := Fin 3

/-- An upset of one keeper on the present cycle: amounts by which a fault changes its registers (R64). -/
structure KeeperUpset where
  keeper : Fin 3
  /-- change of its count, 2⁻⁵⁶ ns -/
  count : Int := 0
  /-- change of its increment -/
  inc : Int := 0
  /-- change of its slew remaining -/
  slew : Int := 0
deriving DecidableEq, Repr

/-- One sample of a phase detector (R220, R226): a feedback edge against the voted TOD, and for a loop that follows another reference the
reference's edge. -/
structure PdSample where
  /-- coarse count at which the sample completed -/
  cyc : Nat := 0
  /-- the feedback edge, units of 2⁻⁵⁶ ns of TOD -/
  edge : Int := 0
  /-- the reference's edge, likewise; TODREF has its ideal edges instead -/
  ref : Int := 0
deriving DecidableEq, Repr

/-- What a DPLL's phase detector sampled in the tick that ends, oldest first (R226, R230, R252). -/
structure PdIn where
  dpll : Fin 5
  samples : List PdSample := []
deriving DecidableEq, Repr

/-- Events that a Tithe block counted in the tick that ends (R547): the block, the event code and the quantity. -/
structure TitheIn where
  block : Fin 75
  /-- clock cycles of the block in the tick -/
  cycles : Nat := 0
  /-- (event code, quantity) -/
  events : List (Nat × Nat) := []
deriving DecidableEq, Repr

/-- Statistics of a port's lane in the tick that ends. -/
structure LaneIn where
  lane : Fin 13
  /-- eye margin, 0.001 UI -/
  eye : Nat := 0
  /-- RS-FEC codewords corrected -/
  fecOk : Nat := 0
  /-- RS-FEC codewords uncorrectable -/
  fecBad : Nat := 0
deriving DecidableEq, Repr

/-- What the environment brings to a tick boundary. -/
structure BoundaryIn where
  /-- roles whose tick work is unfinished, 0 SA or 1 SB, and how many of its groups of outputs were written before the boundary: for SA
  increment and slew, then selection, then scruple terms; for SB the NCO rates, then the PTP outputs, then the staging of writes (R42) -/
  overrun : List (Fin 2 × Nat) := []
  /-- how many of the newest writes of the commit set SB had not staged by the staging close, when it overran before that group of its outputs was
  complete (R42) -/
  unstaged : Nat := 0
  /-- in-effect values that a fault has changed since the last boundary: configured key and value found (R50) -/
  upsets : List (Nat × Val) := []
  /-- configured keys whose unit does not take its configuration when it is applied again (R50) -/
  stuck : List Nat := []
  pds : List PdIn := []
  tithe : List TitheIn := []
  lanes : List LaneIn := []
  /-- samples captured in the tick on the falling edges of GF_SCLK, oldest first: GF_L1_I and GF_L1_Q in the upper and lower nibble of the
  first octet, GF_L5_I and GF_L5_Q of the second (R278) -/
  gf : List (Byte × Byte) := []
deriving DecidableEq, Repr

/-- What a phase detector measured of the recovered clock of a SyncE slot, or of FLY_10M, in the tick before (R125, R166): the mean frequency
over the tick, and the phase as the present tick's boundary found it. -/
structure FreqIn where
  slot : Fin 24
  /-- mean fractional frequency against the voted TOD over the tick, FREQ64 -/
  y : Int := 0
  /-- phase of the clock against the voted TOD modulo its period, 2⁻¹⁶ ns -/
  x : Int := 0
deriving DecidableEq, Repr

/-- What the environment brings to the tick work of one role: frequencies measured by lane phase detectors. -/
structure WorkIn where
  /-- 0 SA, 1 SB -/
  role : Fin 2
  /-- measurements of SyncE slots and of the flywheel in the tick before -/
  freqs : List FreqIn := []
  /-- recovered clock of a Cremin link against the voted TOD, FREQ64 (R457) -/
  cremin : List (Fin 4 × Int) := []
  /-- FLY_10M is present (R130) -/
  fly : Bool := false
deriving DecidableEq, Repr

/-- The outcome of a lane calibration (R104): the variable parts measured, ps. -/
structure CalIn where
  rxVar : Int := 0
  txVar : Int := 0
  ok : Bool := true
deriving DecidableEq, Repr

/-- An edge at a channel of the interval counter: the code of the interpolator that converts it and its direction (R258). -/
structure EdgeIn where
  k : Nat := 0
  rise : Bool := true
deriving DecidableEq, Repr

/-- A SerDes word that holds a timestamp point: when the lane phase detector saw its word clock edge, and what the PCS counts in the word ahead of
the timestamp point (R98 to R100). -/
structure WordIn where
  /-- tclk cycles from the cycle of the word clock edge to the present one -/
  back : Nat := 0
  /-- place of the edge within its cycle, 2⁻¹⁶ ns -/
  fine : Nat := 0
  /-- bits of the blocks' payload ahead of the timestamp point, or its 10-bit code groups at 1 Gbit/s (R99) -/
  units : Nat := 0
  /-- 64b/66b sync headers ahead of it, without RS-FEC (R99) -/
  heads : Nat := 0
  /-- transcoding bits ahead of it, under RS-FEC (R99) -/
  trans : Nat := 0
  /-- parity bits ahead of it, under RS-FEC (R99) -/
  parity : Nat := 0
  /-- alignment-marker bits ahead of it, under RS-FEC (R99) -/
  marker : Nat := 0
deriving DecidableEq, Repr

/-- A frame that ends at a port (R324): its octets before the FCS, whether its FCS and coding are good, and the word that held its timestamp
point. -/
structure FrameIn where
  port : Fin 9
  bytes : Bytes
  fcsOk : Bool := true
  codeErr : Bool := false
  word : WordIn := {}
deriving DecidableEq, Repr

/-- A message that ends on a Cremin link (R450). -/
structure CremIn where
  /-- header block: 8 octets -/
  header : Bytes
  /-- data area with the CRC -/
  data : Bytes := []
  /-- the header block holds a coding error (R454) -/
  coding : Bool := false
  /-- the word that held its timestamp point -/
  word : WordIn := {}
deriving DecidableEq, Repr

/-- A request of a matrix master (R538). -/
structure MatrixIn where
  master : Fin 10
  /-- 0 read, 1 write, 2 fetch -/
  kind : Fin 3
  addr : Nat
  len : Nat
  data : Bytes := []
deriving DecidableEq, Repr

/-- What a target answers to a piece (R543 to R545). -/
structure RespIn where
  piece : Nat
  /-- data read behind a bridge, from the boot ROM or from Winnow -/
  data : Bytes := []
  /-- a bus error behind a bridge -/
  busError : Bool := false
  /-- a word of an SRAM bank failed ECC without correction -/
  uncorrectable : Bool := false
deriving DecidableEq, Repr

/-- What a start meets (R558 to R568): the outcome of each step, straps and what the steps read. -/
structure BootIn where
  /-- ms for which every rail has lain within its limits (R558) -/
  railsMs : Nat := 10
  /-- first step 0-12 that fails, if any -/
  fails : Option (Fin 13) := none
  /-- ROLE and WADDR balls at B02 (R442) -/
  role : Bool := false
  waddr : Nat := 0
  /-- the flash's SFDP table, read at B03 (R615) -/
  sfdp : Bytes := []
  /-- banks that fail repair at B05 -/
  badBanks : List (Fin 68) := []
  /-- lanes whose power-up calibration fails at B11 -/
  badLanes : List (Fin 13) := []
  /-- FLY_10M is present at B06 -/
  flyPresent : Bool := false
  /-- first two tables of each interpolator of the 17 channels at B07 -/
  tables : List (Nat × List Nat) := []
  /-- default windows of the active image -/
  windows : List (Nat × Bytes) := []
  /-- ms from the release of reset to the end of the start -/
  duration : Nat := 518
  /-- SRAM margins measured at B05, 0.1 mV -/
  margins : List (Fin 68 × Nat) := []
deriving DecidableEq, Repr

/-- A sample of the ageing monitors (R584), normalised. -/
structure AgeIn where
  /-- (class, number within the class, value): 1 ring oscillators 0.01 %, 4 DCO codes 0.01 % -/
  values : List (Nat × Nat × Nat) := []
  /-- which schedule this sample belongs to: 0 second, 1 hour, 2 day -/
  period : Fin 3 := 0
deriving DecidableEq, Repr

end Sys2Proof.Machine
end

