-- ==== Sys2Proof/Syntax.lean ====
section
/-! DEFINITION. The commands of the block: one constructor for each row of spec/opcode_table.json, with its operands. -/
namespace Sys2Proof

open Sys2Proof.Machine in
/-- A command: a step of the part as the table of operations lists it. An operand with a default is a measurement of the
environment's; left out, it is one for which the command has its effect. An operand of type `Unit` carries nothing: all that
the command works on stands in the state (log entry 2). -/
inductive Instr where
  /-- KEEPER_CYCLE (R60): On each tclk cycle every keeper adds the increment, the slew part and any step to its count and normalises it. -/
  | keeperCycle (u : List KeeperUpset)
  /-- TICK_BOUNDARY (R39): When the voted TOD reaches a boundary time, the six ordered boundary actions are performed. -/
  | tickBoundary (b : BoundaryIn)
  /-- STEWARD_TICK_WORK (R40): Each Steward pair runs its tick work from the captured inputs, writes its staged outputs and checkpoints to SC. -/
  | stewardTickWork (w : WorkIn)
  /-- FLYWHEEL_LOSS (R174): S23 stops being present, DPLL-T holds its DCO and SA stages the move to XO_IN. -/
  | flywheelLoss
  /-- FLYWHEEL_RESTORE (R175): After S23 has been qualified for hold.fly_restore, DPLL-T moves back to FLY_10M and the flywheel model returns. -/
  | flywheelRestore
  /-- ACTION_FIRE (R85): A pending action slot fires on the cycle its time is reached and applies its step, set or increment. -/
  | actionFire (k : Fin 8)
  /-- LEAP_APPLY (R92): When the TOD reaches tod.leap_time the new UTC offset takes effect. -/
  | leapApply
  /-- TOD_STEP (R79): A Keeper write of tod.step commits a step on the boundary cycle, subject to the step policy. -/
  | todStep (lvl : Level) (v : Int)
  /-- TOD_SLEW (R72): A write of tod.slew adds an amount to the slew remaining at its commit, refused or clipped at tod.slew_max. -/
  | todSlew (lvl : Level) (v : Int)
  /-- ACTION_ARM (R86): A write of 1 to an arm subindex is checked at commit and the slot reads PENDING, LATE or REFUSED. -/
  | actionArm (lvl : Level) (k : Fin 8)
  /-- ACTION_CANCEL (R88): A write of 0 to an arm subindex cancels a PENDING slot at its commit. -/
  | actionCancel (lvl : Level) (k : Fin 8)
  /-- TK_SEC_LO_READ (R95): A read of TK_SEC_LO latches the voted TOD into the reading master's shadow. -/
  | tkSecLoRead (m : Fin 10)
  /-- READ (R491): An Atton READ serves its entries in order, clearing RC objects as read. -/
  | read
  /-- WRITE (R478): An Atton WRITE is checked and staged into a commit set, or done at once for flag I. -/
  | write
  /-- BUNDLE_WRITE (R480): An Atton BUNDLE_WRITE is checked entry by entry and staged whole into one commit set. -/
  | bundleWrite
  /-- COMMIT_STATUS (R484): An Atton COMMIT_STATUS returns the outcome of a commit handle. -/
  | commitStatus
  /-- SUBSCRIBE (R497): An Atton SUBSCRIBE creates, replaces or ends a periodic subscription. -/
  | subscribe
  /-- STORE (R503): An Atton STORE is queued for capture into the flash journal. -/
  | store
  /-- RESTORE_DEFAULTS (R483): An Atton RESTORE_DEFAULTS occupies a commit set and returns configured objects to their defaults. -/
  | restoreDefaults
  /-- ATTON_FORWARD (R496): A message addressed to another node is forwarded in TUNNEL messages and a return record kept. -/
  | attonForward
  /-- NOTIFY (R497): At a boundary whose tick count is a multiple of the period, a subscription report is sent as a NOTIFY. -/
  | notify
  /-- SUBSCRIPTION_EXPIRE (R497): A subscription ends when its lifetime passes without a repeated SUBSCRIBE. -/
  | subscriptionExpire
  /-- CONFIG_WRITE (R18): A write to an object without a row of its own takes effect at its commit, or at once for flag I. -/
  | configWrite (lvl : Level) (index : Nat) (sub : Nat) (value : Bytes)
  /-- SEND (R500): An SPI SEND passes the message to the Atton agent when SPI_CS_N rises, unless RX_BUSY was set. -/
  | send (msg : Bytes)
  /-- STATUS (R500): An SPI STATUS returns the ready, busy and lock bits and the waiting length. -/
  | status
  /-- FETCH (R500): An SPI FETCH returns and frees the waiting response or the oldest NOTIFY. -/
  | fetch
  /-- SPI_BAD_COMMAND (R500): An SPI transaction with an unlisted command octet is ignored and counted. -/
  | spiBadCommand (cmd : Byte)
  /-- STAMP_CALIBRATE (R104): A write of 1 to stamp.calibrate starts measuring the variable lane latencies. -/
  | stampCalibrate (lvl : Level) (p : Fin 9)
  /-- STAMP_CAL_DONE (R104): A lane calibration measurement completes and the port becomes CALIBRATED or FAILED. -/
  | stampCalDone (l : Fin 13) (c : CalIn)
  /-- STAMP_CAL_TIMEOUT (R104): A calibration not complete in 50 ms ends FAILED and raises STAMP_CAL. -/
  | stampCalTimeout (l : Fin 13)
  /-- DPLL_REALIGN (R242): A write of 1 to dpll.realign gates and releases every enabled output of that DPLL. -/
  | dpllRealign (lvl : Level) (d : Fin 5)
  /-- HOLD_MODEL_RESET (R169): A write of 1 to hold.model_reset empties the flywheel model. -/
  | holdModelReset (lvl : Level)
  /-- FLY_RECENTRE_NOW (R186): A Keeper write of 1 to fly.recentre_now requests a re-centring. -/
  | flyRecentreNow (lvl : Level)
  /-- FLY_RECENTRE (R187): At tick 0 of a second with its conditions met, SA re-centres the flywheel by DAC frame or UART command. -/
  | flyRecentre
  /-- FLY_UART_REPLY (R189): Bytes received on FLY_RX within 1 s of a command are kept in fly.uart_reply. -/
  | flyUartReply (b : Bytes)
  /-- FLY_PPS_EDGE (R164): A FLY_PPS edge is stamped and an interval error beyond fly.pps_tol raises FLY_PHASE_HIT. -/
  | flyPpsEdge (fine : Nat)
  /-- MODEL_SAMPLE (R166): At tick 0 of each second the previous second's frequency sample is added to the minute accumulator. -/
  | modelSample
  /-- MODEL_FIT (R166): At each minute the accumulator closes into W and the flywheel model is refitted. -/
  | modelFit
  /-- HOLDOVER_RATE_UPDATE (R172): In BRIDGE, HOLDOVER and FREE_RUN, SA computes f on entry and each second and writes the holdover increment. -/
  | holdoverRateUpdate
  /-- QUALIFICATION_GAINED (R130): A slot good for its whole ref.qual_time becomes qualified and starts its WTR. -/
  | qualificationGained (n : Fin 24)
  /-- WTR_EXPIRE (R134): A slot qualified throughout ref.wtr becomes eligible. -/
  | wtrExpire (n : Fin 24)
  /-- DISPUTE_END (R154): A dispute ends when the pair stays within half the threshold for the longer qualification time. -/
  | disputeEnd (a : Fin 24) (b : Fin 24)
  /-- TRANSITION_COMPLETE (R145): At the end of the transition window SA adopts the target by step or slew, or fails the switch. -/
  | transitionComplete
  /-- SETTLE_TIME_END (R203): ref.settle after settle_start the scruple becomes settled and may fall, releasing older floors. -/
  | settleTimeEnd
  /-- REF_EDGE (R128): A divided REF edge is stamped, tested against its window and re-anchors the prediction. -/
  | refEdge (n : Fin 8) (e : EdgeIn)
  /-- REF_EDGE_MISSING (R128): An expected REF edge fails to arrive and two misses end presence. -/
  | refEdgeMissing (n : Fin 8)
  /-- DPLL_ACQUIRE (R226): A DPLL whose reference becomes present tunes open-loop and closes the loop at B_acq. -/
  | dpllAcquire (d : Fin 5)
  /-- DPLL_LOCK (R226): Phase error within the window for dpll.lock_time declares lock and switches bandwidth. -/
  | dpllLock (d : Fin 5)
  /-- DPLL_RELOCK_TIMEOUT (R226): dpll.relock_max passes without lock and the source is raised. -/
  | dpllRelockTimeout (d : Fin 5)
  /-- DPLL_UNLOCK (R226): dpll.unlock_count samples outside the window gate dependent outputs and re-acquire. -/
  | dpllUnlock (d : Fin 5)
  /-- DPLL_FREQ_CHANGE (R226): A committed non-hitless frequency change gates outputs and retunes open-loop. -/
  | dpllFreqChange (d : Fin 5)
  /-- DPLL_HITLESS_CHANGE (R237): A committed hitless frequency change ramps the DCO in SLEW. -/
  | dpllHitlessChange (d : Fin 5)
  /-- DPLL_SLEW_DONE (R226): The DCO reaches its new frequency and the DPLL returns to LOCKED. -/
  | dpllSlewDone (d : Fin 5)
  /-- DPLL_REF_LOSS (R226): The SyncE reference is lost and the DPLL freezes its DCO in HOLD. -/
  | dpllRefLoss
  /-- DPLL_REF_RETURN (R226): The reference returns in HOLD and the DPLL re-acquires. -/
  | dpllRefReturn
  /-- DCO_SPARE_IN (R229): The spare DCO of DPLL-T takes over when the active DCO is fenced. -/
  | dcoSpareIn
  /-- OUTPUT_GATE (R235): An output is held low from its first falling edge after a gating cause. -/
  | outputGate (o : Fin 13)
  /-- OUTPUT_RELEASE (R235): A gated output restarts with a full high half-period at a phase target once allowed. -/
  | outputRelease (o : Fin 13)
  /-- PPS_PULSE_START (R244): A PPS output begins its pulse at each TOD second plus pps.offset, or omits and counts it. -/
  | ppsPulseStart (m : Fin 4)
  /-- PPS_PULSE_END (R244): A PPS pulse returns after pps.width. -/
  | ppsPulseEnd (m : Fin 4)
  /-- TOD_UART_SEND (R248): A time-of-day UART sends its BINARY or ZDA message for each TOD second. -/
  | todUartSend (u : Fin 2)
  /-- TOD_UART_RECEIVE (R251): A received time-of-day message is checked, stored and compared with the TOD second. -/
  | todUartReceive (u : Fin 2) (b : Bytes) (framing : Bool)
  /-- TIC_EVENT (R258): An accepted TI or REF channel edge is converted into an event time and STAMP128 and recorded or fed on. -/
  | ticEvent (c : Fin 17) (e : EdgeIn)
  /-- TIC_WINDOW_OPEN (R267): A gate window opens on a gate edge or PERIOD instant. -/
  | ticWindowOpen (g : Fin 3) (rise : Bool := true)
  /-- TIC_WINDOW_CLOSE (R274): A window closes, frequency records are formed and unpaired counts settled. -/
  | ticWindowClose (g : Fin 3) (rise : Bool := false)
  /-- DIFF_OVERFLOW (R276): A difference unit's coarse count reaches 2^47 before the pair completes and an OVERFLOW record is formed. -/
  | diffOverflow (d : Fin 8)
  /-- TIC_CAL_TABLE_DONE (R260): An interpolator finishes its bin-width table and passes or fails it. -/
  | ticCalTableDone (c : Fin 17) (i : Fin 2) (hits : List Nat)
  /-- TB_IN_LOSS (R266): A TB_IN period outside its range moves the TIC to FALLBACK and raises TIC_TB_LOSS. -/
  | tbInLoss
  /-- TB_IN_RETURN (R266): TB_IN present for 1 s returns to use at the next boundary. -/
  | tbInReturn
  /-- GNSS_SNAPSHOT (R285): At each TOD second each band writes a 10 ms snapshot once dwells in progress have ended. -/
  | gnssSnapshot (b : Fin 2)
  /-- ACQ_DWELL_DONE (R286): An acquisition dwell completes and the search verifies, hands off, continues or is exhausted. -/
  | acqDwellDone (e : Fin 16) (x : Unit)
  /-- GNSS_AGC (R281): Every 100 ms the AGC reads or steps each band's gain code. -/
  | gnssAgc (b : Fin 2) (code : Byte)
  /-- GNSS_BAND_FAIL (R282): A band with a stuck ball or bad rms becomes FAILED and its channels coast. -/
  | gnssBandFail (b : Fin 2)
  /-- GNSS_BAND_OK (R282): A band 1 s without either condition returns to OK. -/
  | gnssBandOk (b : Fin 2)
  /-- CORRELATOR_DUMP (R291): A group's correlators dump at its tick and SB runs that group's tracking loops. -/
  | correlatorDump (g : Fin 8) (x : Unit)
  /-- CHANNEL_PULL_IN_LOCK (R293): A PULL_IN channel whose lock indicator holds for 100 ms enters TRACK. -/
  | channelPullInLock (c : Fin 128)
  /-- CHANNEL_PULL_IN_TIMEOUT (R293): A PULL_IN channel without lock within 1 s returns to SEARCH or IDLE. -/
  | channelPullInTimeout (c : Fin 128)
  /-- CHANNEL_COAST_TIMEOUT (R293): A channel in COAST for gnss.coast_max returns to SEARCH. -/
  | channelCoastTimeout (c : Fin 128)
  /-- EPOCH_LATCH (R296): At the first sample after each TOD second every tracking channel latches its phases. -/
  | epochLatch
  /-- GNSS_SOLUTION (R301): SB completes the weighted least-squares timing solution of an epoch. -/
  | gnssSolution (x : Unit)
  /-- EPOCH_REPORT_PUBLISH (R304): The epoch report for the next second is published by tick 3,000, with solution NONE when none is ready. -/
  | epochReportPublish
  /-- RAW_PPS (R303): The Gleaner emits the raw PPS at the mark and a TIC-grade channel stamps it. -/
  | rawPps (fine : Nat)
  /-- GNSS_INDICATORS (R309): Each second the jamming and spoofing indicators are evaluated. -/
  | gnssIndicators (x : Unit)
  /-- SPOOF_HOLD_END (R310): All SPOOF indicators clear for gnss.spoof_hold and reports resume. -/
  | spoofHoldEnd
  /-- SURVEY_DONE (R298): A survey meets its time and accuracy and the mode acts as HOLD. -/
  | surveyDone
  /-- GNSS_STORE_RECORD (R311): SB writes the Gleaner record to the journal every gnss.store_interval. -/
  | gnssStoreRecord
  /-- GNSS_RESURVEY (R299): A write of 1 to gnss.resurvey discards the survey result and starts a new survey. -/
  | gnssResurvey (lvl : Level)
  /-- GNSS_FE_REINIT (R280): A write of 1 to gnss.fe_reinit sends gnss.fe_init over the front-end SPI. -/
  | gnssFeReinit (lvl : Level)
  /-- GNSS_RESTART_COLD (R312): A write of 1 to gnss.restart discards the stored record and starts COLD. -/
  | gnssRestartCold (lvl : Level)
  /-- GNSS_RESTART_WARM (R312): A write of 2 to gnss.restart keeps the record and starts again. -/
  | gnssRestartWarm (lvl : Level)
  /-- GNSS_AID_TIME (R289): An immediate write of gnss.aid_time re-evaluates the start type. -/
  | gnssAidTime (lvl : Level) (v : Nat)
  /-- SCR_PATH_CLEAR (R209): A Keeper write of 1 to scr.path_clear zeroes the path-step term at its commit. -/
  | scrPathClear (lvl : Level) (i : Fin 4)
  /-- PATH_GUARD_END (R208): The path-delay guard ends and the asymmetry is measured and corrected against the Gleaner or released. -/
  | pathGuardEnd (i : Fin 4)
  /-- FRAME_RECEIVE (R336): A received frame is admitted, checked for size and FCS and classified into served, answered, punted or discarded. -/
  | frameReceive (f : FrameIn)
  /-- ARP_REQUEST (R338): An ARP request for a served IPv4 address is answered in hardware. -/
  | arpRequest
  /-- NEIGHBOUR_SOLICITATION (R338): An NDP solicitation for a served IPv6 address is answered with an advertisement. -/
  | neighbourSolicitation
  /-- ICMP_ECHO_REQUEST (R339): An echo request to a served entry is answered within the per-second rate or counted. -/
  | icmpEchoRequest
  /-- PAUSE (R331): A PAUSE frame is counted and under HONOUR holds the port's transmitter up to one tick. -/
  | pause
  /-- PAUSE_HOLD_END (R331): A PAUSE hold ends at its quanta or the 125 us cap. -/
  | pauseHoldEnd (p : Fin 9)
  /-- HP_SEND (R346): A SEND from the host is checked and its inner frame enters the named queue of the named port. -/
  | hpSend
  /-- LINK_UP (R318): A port's PCS holds lock for mac.up_delay and the link comes up, starting calibration and announcements;
`held` is how long, in ms, the PCS has now held its lock (R318), `neg` what negotiation found (R317): 0 it completed or is not in use, 1 the PHY
reports 10 or 100 Mbit/s, 2 it failed. -/
  | linkUp (p : Fin 9) (neg : Fin 3) (held : Nat := 1000)
  /-- LINK_DOWN (R320): A port's link goes down and its transmit buffer is flushed; `failed` is how long, in ms, a condition of the link has now
failed (R318). -/
  | linkDown (p : Fin 9) (failed : Nat := 1000)
  /-- NTP_REQUEST (R377): A Thresher classifies, polices and answers a plain NTP request, or kisses, punts or discards it. -/
  | ntpRequest
  /-- NTS_REQUEST (R391): A Thresher checks an NTS request, reserves a launch instant and issues its Flail job, or NAKs it. -/
  | ntsRequest
  /-- FLAIL_JOB_COMPLETE (R111): A Flail pipeline completes a job and the frame is completed in the transmit buffer. -/
  | flailJobComplete (job : Nat)
  /-- LAUNCH_CHECK (R112): At t_L minus D_txfix a reserved frame is committed or dropped as late or stepped. -/
  | launchCheck (p : Fin 9)
  /-- UNTIMED_PLACE (R356): With no untimed entry placed and no PAUSE, the launcher selects a frame and places it in the calendar. -/
  | untimedPlace (p : Fin 9)
  /-- UNTIMED_COMMIT (R356): At its placed instant minus D_txfix an untimed frame is committed and any stamp-at-launch value written. -/
  | untimedCommit (p : Fin 9)
  /-- FRAME_DEPARTURE (R100): A frame's timestamp point crosses the reference plane and its transmit stamp completes any stamp-queue entry. -/
  | frameDeparture (p : Fin 9) (w : WordIn)
  /-- STAMP_QUEUE_POP (R121): An RC read of stamp.queue.pop returns and frees the oldest completed entry. -/
  | stampQueuePop (p : Fin 8)
  /-- STAMP_PUSH (R121): Under PUSH a completed entry is sent as a NOTIFY over HP when HP has room. -/
  | stampPush (p : Fin 8)
  /-- STAMP_ENTRY_RETIRE (R122): An unread entry is retired after stamp.age_ticks and counted lost. -/
  | stampEntryRetire (p : Fin 8)
  /-- POLICER_SWEEP (R370): The background sweep brings every policer entry up to date without charge. -/
  | policerSweep
  /-- SMEAR_START (R382): A SMEAR instance latches its smear at the window start or when a leap first becomes pending. -/
  | smearStart (i : Fin 4)
  /-- SMEAR_UNWIND (R382): A withdrawn leap makes a SMEAR instance lower r to zero and clear its latch. -/
  | smearUnwind (i : Fin 4)
  /-- SMEAR_END (R382): The smear latch clears at the end of its window. -/
  | smearEnd (i : Fin 4)
  /-- DRAIN_END (R47): At the second boundary after a disable or key slot empty, remaining work is dropped and counted. -/
  | drainEnd
  /-- SYNC_RELEASE (R420): A multicast Sync is released at each multiple of its interval on every master port. -/
  | syncRelease (i : Fin 4) (p : Fin 8)
  /-- FOLLOW_UP_SEND (R421): A Follow_Up with the Sync's transmit stamp is queued once the Sync crosses, or counted missing. -/
  | followUpSend (i : Fin 4) (p : Fin 8)
  /-- ANNOUNCE_SEND (R414): An Announce with clockClass, accuracy, flags and the scruple TLV is sent at its interval. -/
  | announceSend (i : Fin 4) (p : Fin 8)
  /-- DELAY_REQ_RECEIVE (R422): A Delay_Req is policed and answered with a Delay_Resp carrying its receive stamp. -/
  | delayReqReceive
  /-- PDELAY_REQ_RECEIVE (R423): A Pdelay_Req is answered with a two-step Pdelay_Resp. -/
  | pdelayReqReceive
  /-- PDELAY_RESP_FOLLOW_UP_SEND (R423): A Pdelay_Resp_Follow_Up with t3 is queued once the Pdelay_Resp crosses. -/
  | pdelayRespFollowUpSend (i : Fin 4) (p : Fin 8)
  /-- PDELAY_REQ_SEND (R424): SB sends Pdelay_Req on each gPTP master port at its interval. -/
  | pdelayReqSend (i : Fin 4) (p : Fin 8)
  /-- PDELAY_RESP_RECEIVE (R424): A Pdelay exchange completes and asCapable is reassessed. -/
  | pdelayRespReceive
  /-- ANNOUNCE_RECEIVE (R436): An Announce is counted as foreign on a master port or fed to the BMCA and scruple TLV on a slave port. -/
  | announceReceive
  /-- SYNC_RECEIVE (R437): A Sync on the slave port is stamped for t2 and paired into a measurement. -/
  | syncReceive
  /-- FOLLOW_UP_RECEIVE (R437): A Follow_Up supplies t1 and cf_s and the offset x is formed. -/
  | followUpReceive
  /-- SLAVE_DELAY_REQ_SEND (R437): The slave port sends its Delay_Req at its interval. -/
  | slaveDelayReqSend (i : Fin 4)
  /-- DELAY_RESP_RECEIVE (R437): A Delay_Resp supplies t4, the path delay is formed and RTT fed to the path-delay detector. -/
  | delayRespReceive
  /-- ANNOUNCE_TIMEOUT (R436): No Announce from the parent for ptp.announce_timeout intervals returns the slave port to LISTENING. -/
  | announceTimeout (i : Fin 4)
  /-- UNICAST_RENEW (R436): The slave port renews each grant when half its duration has passed. -/
  | unicastRenew (i : Fin 4)
  /-- REQUEST_UNICAST_TRANSMISSION (R427): SB decides a unicast request and stages a grant or denial. -/
  | requestUnicastTransmission
  /-- CANCEL_UNICAST_TRANSMISSION (R430): A cancel removes the grant at the next boundary and is acknowledged. -/
  | cancelUnicastTransmission
  /-- GRANT_EXPIRE (R428): A grant whose end has passed is removed and an empty session freed. -/
  | grantExpire
  /-- UNICAST_RELEASE (R429): A session's Sync or Announce is released at its phase in each period. -/
  | unicastRelease (n : Nat) (announce : Bool)
  /-- PTP_SESS_SELECT (R431): An immediate write of ptp.sess.select chooses the session record read on that path. -/
  | ptpSessSelect (path : Nat) (v : Nat)
  /-- CREMIN_LINK_UP (R446): A Cremin lane holds block lock for 10 ms and comes up. -/
  | creminLinkUp (l : Fin 4) (held : Nat := 10)
  /-- CREMIN_LINK_DOWN (R446): A Cremin link goes down on loss of block lock or 8 ticks without a TIME message. -/
  | creminLinkDown (l : Fin 4) (lockLost : Bool := true)
  /-- TIME (R452): Each node sends a TIME message and its TIME_COPY on every up link in every tick. -/
  | time (l : Fin 4)
  /-- TIME_RECEIVE (R454): A received TIME or TIME_COPY is checked for acceptance and yields a transfer, delay and offset. -/
  | timeReceive (l : Fin 4) (m : CremIn)
  /-- CREMIN_BAD_BLOCK (R450): A header block of an unlisted type or bad length is discarded with its data and counted. -/
  | creminBadBlock (l : Fin 4) (m : CremIn)
  /-- JOIN (R461): A worker sends JOIN on each accepted upstream link at link-up and every 8,000 ticks. -/
  | join (l : Fin 4)
  /-- JOIN_RECEIVE (R463): A JOIN is forwarded upstream with its path, or answered by the manager with an ASSIGN. -/
  | joinReceive (l : Fin 4) (m : CremIn)
  /-- ASSIGN (R464): An ASSIGN is forwarded down its path or delivered and its node number taken or refused. -/
  | assign (l : Fin 4) (m : CremIn)
  /-- ADDRESS_HOLD_EXPIRE (R463): A node number held 3 s without a JOIN from its serial is released. -/
  | addressHoldExpire (n : Fin 49)
  /-- TUNNEL (R466): A TUNNEL message is delivered, broadcast down, routed by roster or sent upstream. -/
  | tunnel (l : Fin 4) (m : CremIn)
  /-- TUNNEL_SEND (R467): Queued TUNNEL, JOIN, ASSIGN and SUMMARY messages are sent in the time a tick leaves. -/
  | tunnelSend (l : Fin 4)
  /-- SUMMARY (R468): A worker originates a SUMMARY at every eighth tick and forwards those from below. -/
  | summary
  /-- SUMMARY_RECEIVE (R469): The manager stores a SUMMARY in crem.node_state. -/
  | summaryReceive (l : Fin 4) (m : CremIn)
  /-- CREMIN_NODE_LOST (R469): A numbered node sends no SUMMARY for 16 ticks and the manager raises CREMIN_NODE_LOST. -/
  | creminNodeLost (n : Fin 49)
  /-- FAULT_RAISE (R509): A fault source is raised and presented to the Reeve, held or lost. -/
  | faultRaise (x : Fin 320) (i : FaultInfo)
  /-- PRESENTATION (R514): The Reeve handles the sources raised on one cycle: count, first-error record, INT, NMI, fence, block reset, PIN, chip reset. -/
  | presentation
  /-- HANDLING_END (R515): Reeve handling ends and held sources are presented. -/
  | handlingEnd
  /-- FENCE_COMPLETE (R519): The hardware completes a fence or block reset after handling. -/
  | fenceComplete (x : Fin 320)
  /-- SOURCE_ACTIVE_EXPIRE (R509): An EVENT source stops being active 8,000 ticks after it was last raised. -/
  | sourceActiveExpire (x : Fin 320)
  /-- PAIR_RELOAD_DONE (R45): A fenced Steward pair finishes reload and self-test and returns as standby or into a halted role. -/
  | pairReloadDone (p : Fin 3) (ok : Bool)
  /-- HEARTBEAT_WRITE (R531): The Reeve writes the heartbeat watchdog. -/
  | heartbeatWrite
  /-- REEVE_HEARTBEAT (R531): 2 ms without a heartbeat write sets the PIN latch, asserts FAULT_N and stops FAULT_ALIVE. -/
  | reeveHeartbeat
  /-- WIN_CLEAR_FIRST (R518): A write of bit 0 to win.clear clears the first-error record. -/
  | winClearFirst (lvl : Level)
  /-- WIN_CLEAR_LOST (R516): A write of bit 1 to win.clear clears LOST and win.lost. -/
  | winClearLost (lvl : Level)
  /-- WIN_PIN_CLEAR (R530): A Keeper write of 1 to win.pin_clear clears the PIN latch unless the heartbeat is lost. -/
  | winPinClear (lvl : Level)
  /-- WIN_INT_NEXT (R525): An RC read of win.int_next returns and clears the lowest pending INT source. -/
  | winIntNext
  /-- REF_HISTORY_READ (R159): An RC read of ref.history clears the slot's history bits. -/
  | refHistoryRead (n : Fin 24)
  /-- TIC_POP (R273): An RC read of tic.pop returns and removes the oldest channel record. -/
  | ticPop (c : Fin 8)
  /-- TIC_DIFF_POP (R273): An RC read of tic.diff.pop returns and removes the oldest difference record. -/
  | ticDiffPop (d : Fin 8)
  /-- COUNTER_READ_CLEAR (R48): An RC read of a counter returns and clears it. -/
  | counterReadClear (index : Nat) (sub : Nat)
  /-- ATTON_ASSOC_RESET (R475): A Keeper write of 1 frees every association and draws a new boot_id. -/
  | attonAssocReset (lvl : Level)
  /-- MATRIX_REQUEST (R538): A master request is decoded, split into pieces and refused whole if it does not decode. -/
  | matrixRequest (r : MatrixIn)
  /-- MATRIX_GRANT (R540): A target grants an eligible piece to the highest-priority master under the hold-back rules. -/
  | matrixGrant (t : Fin 9)
  /-- MATRIX_RESPONSE (R543): A target's response returns to its master and frees the credit. -/
  | matrixResponse (r : RespIn)
  /-- MATRIX_TIMEOUT (R544): A piece unanswered for 10 us is retired with an error response. -/
  | matrixTimeout (piece : Nat)
  /-- TITHE_FREEZE (R552): A write of 1 to tithe.freeze stops further snapshots from its commit. -/
  | titheFreeze (lvl : Level)
  /-- TITHE_RESUME (R552): A write of 0 to tithe.freeze resumes snapshots from its commit. -/
  | titheResume (lvl : Level)
  /-- TITHE_CLEAR (R551): A write of 1 to tithe.clear clears a block's counters after the boundary latch. -/
  | titheClear (lvl : Level) (b : Fin 75)
  /-- STORE_COMPLETE (R503): The journal generation's END is written and read back, or the STORE fails. -/
  | storeComplete (ok : Bool)
  /-- POWER_ON (R556): VDD_AON rises through its threshold and the device resets. -/
  | powerOn (v : Nat := 18000)
  /-- RESET_N (R556): RESET_N held low for at least 1 us resets the device. -/
  | resetN (lowNs : Nat := 1000)
  /-- SUPPLY_RESET (R595): VDD_CORE or VDD_SRAM below its reset threshold for 500 ns resets the device. -/
  | supplyReset
  /-- JTAG_RESET (R556): A system reset requested through JTAG resets the device. -/
  | jtagReset
  /-- RAIL_MONITOR (R595): Every 100 ns each rail is compared with its range and SUPPLY raised after 1 us outside. -/
  | railMonitor (v : List Nat)
  /-- XO_FAULT (R601): XO_IN absent or off frequency raises XO_FAULT and the watchdog moves to the internal oscillator. -/
  | xoFault (hz : Nat := 0)
  /-- DIE_TEMP_SAMPLE (R619): Each 1 ms the die sensors are sampled and TEMP_HIGH or TEMP_CRIT raised. -/
  | dieTempSample (t : List Int)
  /-- JTAG_ACCESS (R616): The JTAG port leaving its reset state raises JTAG_ACCESS. -/
  | jtagAccess
  /-- BOOT (R558): Once every rail has held its range for 10 ms the start runs steps B01 to B12 and writes the ledger. -/
  | boot (b : BootIn)
  /-- START_STABLE (R563): After boot.stable_time in service the start becomes STABLE and the plan is cleared. -/
  | startStable
  /-- BOOT_RESTART_NORMAL (R567): A Keeper write of 1 to boot.restart restarts with streak and plan cleared. -/
  | bootRestartNormal (lvl : Level)
  /-- BOOT_RESTART_SAFE (R567): A Keeper write of 2 to boot.restart restarts into a safe start. -/
  | bootRestartSafe (lvl : Level)
  /-- BOOT_SECVER_COMMIT (R576): A Keeper write of 1 burns boot.min_secver up to the running image's secver when allowed. -/
  | bootSecverCommit (lvl : Level)
  /-- INSTALL_BEGIN (R577): install.begin invalidates and erases the inactive bank and starts WRITING. -/
  | installBegin (lvl : Level) (v : Bytes)
  /-- INSTALL_CHUNK (R578): An install chunk is checked and programmed into the inactive bank. -/
  | installChunk (lvl : Level) (v : Bytes)
  /-- INSTALL_FINISH (R577): install.finish reads back, checks and stages the new image. -/
  | installFinish (lvl : Level)
  /-- INSTALL_ACTIVATE (R577): install.activate starts steps 5 to 9 that move every engine to the new image. -/
  | installActivate (lvl : Level)
  /-- INSTALL_ABORT (R583): install.abort moves engines on the new image back to the old image. -/
  | installAbort (lvl : Level)
  /-- STEWARD_LOAD_DONE (R579): A pair finishes loading the new Steward component and takes the next role at the following boundary. -/
  | stewardLoadDone (p : Fin 3)
  /-- THRESHER_ROTATE (R580): Every 2 ticks a spare takes the next active Thresher slot and the old Thresher drains and reloads. -/
  | thresherRotate
  /-- REEVE_SWITCH (R581): After the last Thresher reloads the Reeve switches to the new component and the bank record is made ACTIVE. -/
  | reeveSwitch
  /-- AGE_SAMPLE (R584): Each ageing monitor is sampled on its schedule and normalised. -/
  | ageSample (a : AgeIn)
  /-- AGE_FIT (R585): Daily fits give each instance's prediction and raise AGE_PREDICT below the threshold. -/
  | ageFit
  /-- GRANT_UNICAST_TRANSMISSION (R436): On a unicast slave port, a GRANT from an upstream master is received and sets the granted period and duration that the client then renews. -/
  | grantUnicastTransmission
  /-- XO_IN_RETURN (R601): XO_IN comes back within 50 MHz ± 100 ppm, XO_FAULT stops being active and the heartbeat watchdog counts XO_IN again. -/
  | xoInReturn (hz : Nat := 50000000)
  /-- VDD_AON_FALL (R595): VDD_AON falls below its 1.55 V reset threshold, the power-on reset asserts and the always-on domain, with the first-error record and ledger, is lost. -/
  | vddAonFall (v : Nat := 0)
  /-- RETURN_RECORD_EXPIRE (R496): A forwarding node frees a return record 3,600 s after its last use. -/
  | returnRecordExpire
deriving DecidableEq, Repr

end Sys2Proof
end

