-- ==== Sys2Proof/Decode.lean ====
section
/-! DEFINITION. Commands spelled by words: the table of operations gives no row any bits, so there are none (log entry 14). -/
namespace Sys2Proof

/-- The command that a word of the table spells: none, since every row of the table lists no bits. -/
def decodeTableWord (_nbits _w : Nat) : Option Instr := none

end Sys2Proof
end

