-- ==== Sys2Proof/Config.lean ====
section
/-! DEFINITION. The free values: what the manual leaves to the part without a rule for the number. None has a body, so nothing
can be proved of its value (log entry 6). -/
namespace Sys2Proof.Config

/-- The octets of the on-chip random generator (R393, R397, R475, R376): octet number `n` drawn since the start. -/
opaque randomOctet : Nat → Byte

/-- The offset of the line's own grid of start positions from the TOD grid, in units of 2⁻⁵⁶ ns (R101, log entry 10): lane, mode, the bring-up of
the lane, the present tclk cycle, since slews, increments and steps move it, and the frequency of its line reference in mHz (R321, R446). -/
opaque startPhase : Nat → Nat → Nat → Nat → Nat → Nat

/-- The spacing of the start positions of a mode for which R102 gives only a bound, in units of 2⁻⁵⁶ ns less one (log entry 10). -/
opaque startSpacing : Nat → Nat

/-- A value that the manual says nothing of, drawn by number (log entry 6). -/
opaque openValue : Nat → Int

/-- The fixed depth of an AES pipeline of a Flail in ns (R111). The manual gives no number; R402 bounds it, since an NTS response with 8
cookies, 283 blocks and D_hand of 40 ns stay within 360 ns (log entry 21). -/
opaque aesDepth : Fin 38

/-- The fixed depth of a SHA-256 pipeline of a Flail in ns (R111). The manual gives no number; R434 bounds it, since an authenticated
one-step Sync, 2 blocks and D_hand of 40 ns stay within 200 ns (log entry 21). -/
opaque shaDepth : Fin 159

/-- The policer entry of a PTP message that arrives without an IP address (R367 names a bucket for IP sources only; log entry 22):
a function of its source MAC address. -/
opaque macBucket : Bytes → Nat

/-- The offset of the time-core block of R95 within PB1, for which the manual gives no number (log entry 58). -/
opaque timeBlock : Fin 0xFFFFF0

/-- The gains of a DPLL's loop filter (R223, R225), for which the manual gives no formula (log entry 63): 0 proportional, 1 integral, 2 second
integrator; the bandwidth, in 1/16 mHz, and the phase-detector rate, in µHz. A phase error in units of 2⁻⁵⁶ ns times the gain, divided by 2⁶⁴, is a
fractional frequency in units of 2⁻⁶⁴. -/
opaque dpllGain : Nat → Nat → Nat → Int

/-- An SFDP table describes the xSPI profile 1.0 octal mode (R615; JESD216 and JESD251 define it). -/
opaque flashOctal : Bytes → Bool

/-! The Gleaner (log entry 11). Codes and messages follow interface specifications that the manual names and does not hold (R283); loop
filters, estimates and least squares have no formula in it. An assignment is written as in `gnss.ch.assign`. -/

/-- A chip of a primary code is -1 (R283): assignment, component (0 tracked, 1 data), chip. -/
opaque gnssChip : Nat → Nat → Nat → Bool

/-- Primary codes in a secondary code of the tracked component, or in a bit, less one (R283, R292). -/
opaque gnssSecondary : Nat → Nat

/-- A chip of the secondary code is -1 (R283): assignment, chip. -/
opaque gnssSecChip : Nat → Nat → Bool

/-- Secondary-code or bit synchronisation (R292): from the prompt sums of the last primary codes, newest first, the place of the next one. -/
opaque gnssSync : Nat → List (Int × Int) → Option Nat

/-- A message symbol that the newest primary code completes (R283): assignment, place in the secondary code or bit, data sums newest first. -/
opaque gnssSymbol : Nat → Nat → List (Int × Int) → Option Bool

/-- What a message says so far, symbols newest first (R283): frame synchronisation, the satellite's ephemeris, and almanac data of satellites. -/
opaque gnssMessage : Nat → List Bool → Bool × Option Bytes × List (Nat × Bytes)

/-- The UTC parameters in a message (R302): TAI - UTC, leap (0 NONE, 1 INSERT, 2 DELETE), TAI second of the leap. -/
opaque gnssUtc : Nat → List Bool → Option (Int × Nat × Nat)

/-- An ephemeris is valid at a time, TAI in 2⁻⁵⁶ ns (R288, R293). -/
opaque gnssEphValid : Bytes → Int → Bool

/-- The carrier replica (cosine, sine) of a phase of 2⁻⁴⁰ cycle (R290). -/
opaque gnssCarrier : Nat → Int × Int

/-- The noise estimate of a dwell from the powers of its cells (R286). -/
opaque gnssNoise : List Nat → Nat

/-- Doppler in mHz and code phase in 2⁻⁴⁸ chip that orbit data predict (R288, R293): assignment, data, position, time. -/
opaque gnssPredict : Nat → Bytes → Int × Int × Int → Int → Int × Nat

/-- Elevation in 0.01 degree: data, position, time (R315). -/
opaque gnssElevation : Bytes → Int × Int × Int → Int → Int

/-- The frequency discriminator of the carrier loop (R292): prompts of the last two combined sums. -/
opaque gnssFreqError : Int × Int → Int × Int → Int

/-- The phase discriminator of the carrier loop (R292): Costas or pure, prompt. -/
opaque gnssPhaseError : Bool → Int × Int → Int

/-- The carrier loop's filter (R292): bandwidth in 0.1 Hz, GF_SCLK periods, frequency error where the FLL assists, phase error, memory; the new
memory and the change of the NCO rate. -/
opaque gnssCarrierFilter : Nat → Nat → Option Int → Int → List Int → List Int × Int

/-- The code loop's filter (R292): bandwidth in 0.01 Hz, GF_SCLK periods, early-minus-late power over early-plus-late power, memory; the new memory
and the change of the carrier-aided NCO rate. -/
opaque gnssCodeFilter : Nat → Nat → Rat → List Int → List Int × Int

/-- The PLL lock indicator in 0.01 (R293): Costas or pure, prompts of the last primary codes, newest first. -/
opaque gnssLock : Bool → List (Int × Int) → Nat

/-- C/N0 in 0.01 dB-Hz (R292): power of P, power of the reference, GF_SCLK periods. -/
opaque gnssCn0 : Nat → Nat → Nat → Nat

/-- A cycle slip between two combined sums (R297, R315): Costas or pure, their prompts. -/
opaque gnssSlip : Bool → Int × Int → Int × Int → Bool

/-- The code observation (R296, R297): the transmit time in the system's own time, 2⁻⁵⁶ ns, from message symbols, chip and fraction. -/
opaque gnssCode : Nat → List Bool → Nat → Nat → Int

/-- Carrier smoothing (R297): seconds, smoothed observation before, code observation, carrier phase change in 2⁻⁴⁰ cycle. -/
opaque gnssSmooth : Nat → Int → Int → Int → Int

/-- The broadcast ionospheric delay of the L1 band in ps (R297, R308): assignment, data, position, time. -/
opaque gnssIono : Nat → Bytes → Int × Int × Int → Int → Nat

/-- The broadcast offset in ps of a system, 0 GPS to 3 QZSS, to the reference system (R300): both, and the satellite's data. -/
opaque gnssOffset : Nat → Nat → Bytes → Int

/-- The weight of an observation (R301): C/N0 in 0.01 dB-Hz, elevation in 0.01 degree. -/
opaque gnssWeight : Nat → Int → Nat

/-- A least-squares solution (R300, R301). -/
structure Lsq where
  /-- a second of the reference system's time -/
  second : Int := 0
  /-- TOD at which that second reaches the antenna, predicted, 2⁻⁵⁶ ns -/
  tN : Int := 0
  /-- standard deviation of the clock bias predicted to that instant, ps -/
  sigma : Nat := 0
  /-- TDOP, 0.001 -/
  tdop : Nat := 0
  /-- position found or held, ECEF mm -/
  pos : Int × Int × Int := (0, 0, 0)
  /-- time biases estimated: system 0 GPS to 3 QZSS, ps -/
  bias : List (Nat × Int) := []
  /-- residual of each observation, ps, and its normalised magnitude in 0.01 -/
  resid : List (Int × Nat) := []
deriving DecidableEq, Repr, Inhabited

/-- Weighted least squares (R300, R301): TOD of the epoch, reference system, systems whose bias is estimated, the position where it is held, and for
each observation the satellite, the observation, its data and its weight. -/
opaque gnssLsq : Int → Nat → List Nat → Option (Int × Int × Int) → List (Nat × Int × Bytes × Nat) → Lsq

/-- A low pulse of RESET_N from 100 ns up to 1 µs resets the part or does not: R556 asks for 1 µs, R603 says of pulses below 100 ns that they are
ignored, and the spec is silent between the two (log entry 55). The argument is the length in ns and a number drawn afresh. -/
opaque shortReset : Nat → Nat → Bool

end Sys2Proof.Config
end

