-- ==== Sys2Proof/Machine/ObjTables.lean ====
section
/-! DEFINITION. Tables that the object rows use: the Winnow source table (R508), the Tithe event classes (R546, R547), the
default clockAccuracy table (R214), default matrix orders (R540), reference IDs (R406), and checks of single values
(R332, R536). -/
namespace Sys2Proof.Machine

/-- The low `k` octets of a number, most significant first (R6). -/
def beBytes (k v : Nat) : Bytes :=
  (List.range k).map fun i => BitVec.ofNat 8 (v / 256 ^ (k - 1 - i))

/-- The number that octets hold, most significant first (R6). -/
def beNat (b : Bytes) : Nat := b.foldl (fun a x => a * 256 + x.toNat) 0

/-- What FENCE isolates for a source (the Unit fenced column of R508). -/
inductive FenceUnit where
  | nothing | thresher | aes | sha | bank | interp | group | pair | dco
deriving DecidableEq, Repr

/-- What BLOCK_RESET resets for a source (the Block reset column of R508). -/
inductive ResetBlock where
  | nothing | thresher | pipe | rng | group | mac | flash | bridge
deriving DecidableEq, Repr

/-- A row of the source table of R508: its first number, how many, whether it is a CONDITION, its default severity, the
unit fenced and the block reset. -/
structure SrcRow where
  first : Nat
  count : Nat
  cond : Bool
  sev : Nat
  unit : FenceUnit
  block : ResetBlock
deriving DecidableEq, Repr

/-- The source table of R508. -/
def srcTable : List SrcRow :=
  [⟨0, 16, false, 4, .thresher, .thresher⟩, ⟨16, 10, false, 4, .aes, .pipe⟩, ⟨26, 5, false, 4, .sha, .pipe⟩,
   ⟨31, 1, false, 6, .nothing, .rng⟩, ⟨32, 68, false, 5, .bank, .nothing⟩, ⟨100, 68, false, 1, .bank, .nothing⟩,
   ⟨168, 34, false, 4, .interp, .nothing⟩, ⟨202, 9, false, 4, .group, .group⟩, ⟨211, 3, false, 5, .pair, .nothing⟩,
   ⟨214, 2, false, 5, .dco, .nothing⟩, ⟨216, 3, false, 1, .nothing, .nothing⟩, ⟨219, 3, false, 3, .nothing, .nothing⟩,
   ⟨222, 1, false, 3, .nothing, .nothing⟩, ⟨223, 2, false, 2, .nothing, .nothing⟩, ⟨225, 1, false, 3, .nothing, .nothing⟩,
   ⟨226, 3, false, 2, .nothing, .nothing⟩, ⟨229, 1, false, 3, .nothing, .nothing⟩, ⟨230, 3, false, 2, .nothing, .nothing⟩] ++
  [⟨233, 10, false, 3, .nothing, .nothing⟩, ⟨243, 3, false, 2, .nothing, .nothing⟩, ⟨246, 2, true, 3, .nothing, .nothing⟩,
   ⟨248, 1, false, 2, .nothing, .nothing⟩, ⟨249, 1, false, 3, .nothing, .nothing⟩, ⟨250, 13, false, 2, .nothing, .nothing⟩,
   ⟨263, 9, true, 1, .nothing, .mac⟩, ⟨272, 4, false, 3, .nothing, .nothing⟩, ⟨276, 5, false, 2, .nothing, .nothing⟩,
   ⟨281, 1, false, 3, .nothing, .nothing⟩, ⟨282, 1, false, 3, .nothing, .flash⟩, ⟨283, 2, false, 3, .nothing, .nothing⟩,
   ⟨285, 3, false, 6, .nothing, .bridge⟩, ⟨288, 8, true, 7, .nothing, .nothing⟩, ⟨296, 12, true, 2, .nothing, .nothing⟩,
   ⟨308, 1, true, 7, .nothing, .nothing⟩, ⟨309, 1, false, 1, .nothing, .nothing⟩, ⟨310, 1, false, 3, .nothing, .nothing⟩] ++
  [⟨311, 1, true, 7, .nothing, .nothing⟩, ⟨312, 1, false, 7, .nothing, .nothing⟩, ⟨313, 1, false, 3, .nothing, .nothing⟩,
   ⟨314, 1, false, 2, .nothing, .nothing⟩, ⟨315, 1, false, 3, .nothing, .nothing⟩, ⟨316, 1, true, 5, .nothing, .nothing⟩,
   ⟨317, 1, false, 3, .nothing, .nothing⟩, ⟨318, 1, false, 2, .nothing, .nothing⟩, ⟨319, 1, false, 7, .nothing, .nothing⟩]

/-- The table row of source `s`. -/
def srcRow (s : Nat) : SrcRow :=
  (srcTable.find? fun r => decide (r.first ≤ s) && decide (s < r.first + r.count)).getD ⟨s, 1, false, 0, .nothing, .nothing⟩

/-- Default `scr.ca_limit` (R214), ps. -/
def caLimits : List Nat :=
  [1000, 2500, 10000, 25000, 100000, 250000, 1000000, 2500000, 10000000, 25000000, 100000000, 250000000, 1000000000,
   2500000000, 10000000000, 25000000000]

/-- Default `scr.ca_code` (R214). -/
def caCodes : List Nat := [0x1D, 0x1E, 0x1F, 0x20, 0x21, 0x22, 0x23, 0x24, 0x25, 0x26, 0x27, 0x28, 0x29, 0x2A, 0x2B, 0x2C]

/-- Default `ntp.refid` of a slot (R406). -/
def refidDefault (s : Nat) : Bytes :=
  if s < 8 then [0x50, 0x50, 0x53, 0x00]
  else if s = 8 then [0x47, 0x4E, 0x53, 0x53]
  else if s < 13 then [0x50, 0x54, 0x50, 0x00]
  else if s < 21 then [0x53, 0x59, 0x4E, 0x43]
  else [0x43, 0x52, 0x45, 0x4D]

/-- Default `mtx.priority` of a target (R540). -/
def prioDefault (t : Nat) : Bytes :=
  if t < 4 then [0, 1, 2, 3, 8, 6, 4, 5, 7, 9]
  else if t < 7 then [0, 1, 2, 3, 7, 8, 4, 5, 6, 9]
  else [3, 0, 1, 2, 7, 8, 4, 5, 6, 9]

/-- The address range of a matrix target (R534): first and last address. -/
def targetRange (t : Nat) : Option (Nat × Nat) :=
  if t < 4 then some (t * 0x800000, t * 0x800000 + 0x7FFFFF)
  else if t < 7 then some (0x40000000 + (t - 4) * 0x1000000, 0x40FFFFFF + (t - 4) * 0x1000000)
  else if t = 7 then some (0x60000000, 0x6003FFFF)
  else if t = 8 then some (0x61000000, 0x6100FFFF)
  else none

/-- The value check of a window entry (R536). -/
def windowOk (b : Bytes) : Bool :=
  let base := beNat (b.take 4)
  let limit := beNat ((b.drop 4).take 4)
  let t := ((b.drop 8).headD 0).toNat
  let attr := ((b.drop 9).headD 0).toNat
  decide (attr < 16) && (b.drop 10).all (· == 0) && base % 4096 == 0 && (limit + 1) % 4096 == 0 && decide (base ≤ limit) &&
    match targetRange t with
    | some (lo, hi) => decide (lo ≤ base) && decide (limit ≤ hi)
    | none => false

/-- The value check of a `mac.served` entry (R332): family, zero octets and VIDs. -/
def servedOk (b : Bytes) : Bool :=
  let fam := (b.headD 0).toNat
  let services := ((b.drop 1).headD 0).toNat
  let ov := beNat ((b.drop 2).take 2)
  let iv := beNat ((b.drop 4).take 2)
  (fam == 0 || fam == 4 || fam == 6) && decide (services < 16) && ((b.drop 6).take 2).all (· == 0) &&
    (fam != 4 || (b.drop 12).all (· == 0)) && (ov != 0xFFFF || iv == 0xFFFF || fam == 0) &&
    (fam == 0 || ((decide (ov ≤ 4094) || ov == 0xFFFF) && (decide (iv ≤ 4094) || iv == 0xFFFF)))

/-- The Tithe event classes (R546). -/
inductive EventClass where
  | thresher | flail | sram | target | port | cremin | steward | other
deriving DecidableEq, Repr

/-- The event class of a Tithe block (R546). -/
def eventClass (b : Nat) : EventClass :=
  if b < 16 then .thresher else if b < 31 then .flail else if b < 35 then .sram else if b < 44 then .target
  else if b < 53 then .port else if b < 57 then .cremin else if b < 60 then .steward else .other

/-- Whether an event code is listed for a block's class (R547). -/
def eventOk (b code : Nat) : Bool :=
  match eventClass b with
  | .thresher => decide (code ≤ 7)
  | .flail => decide (code ≤ 4)
  | .sram => decide (code ≤ 4)
  | .target => decide (code ≤ 7) || (decide (0x100 ≤ code) && decide (code ≤ 0x109))
  | .port => decide (code ≤ 9)
  | .cremin => decide (code ≤ 4)
  | .steward => decide (code ≤ 4)
  | .other => decide (code ≤ 4)

end Sys2Proof.Machine
end

