-- ==== Sys2Proof/Machine/Num.lean ====
section
/-! DEFINITION. Numbers: the packed formats of 00_scope.md (TIME128, STAMP128, FREQ64, SCRUPLE48), the tick grid (R21, R23),
rounding, and exact square roots and exponentials (log entries 5 and 9). -/
namespace Sys2Proof.Machine

/-- One nanosecond in units of 2⁻⁵⁶ ns. -/
def nsU : Int := 2 ^ 56

/-- One second in units of 2⁻⁵⁶ ns. -/
def secU : Int := 1000000000 * 2 ^ 56

/-- The values that the 152-bit count of R59 holds: 2⁶⁴ seconds in units of 2⁻⁵⁶ ns; beyond them the seconds wrap (R25, R61). -/
def countU : Int := 2 ^ 64 * secU

/-- One tick, 125 µs, in units of 2⁻⁵⁶ ns (R21). -/
def tickU : Int := 125000 * 2 ^ 56

/-- Seconds of a time of day (R7). -/
def todSec (t : Tod) : Nat := (t / secU).toNat

/-- Nanoseconds of a time of day, 0 to 999,999,999 (R8). -/
def todNs (t : Tod) : Nat := (t % secU / nsU).toNat

/-- The fraction of TIME128, units of 2⁻³² ns; the 24-bit residue is dropped (R59). -/
def todFrac (t : Tod) : Nat := (t % nsU / 2 ^ 24).toNat

/-- A time of day as a raw TIME128. -/
def time128 (t : Tod) : Nat := (todSec t % 2 ^ 64) * 2 ^ 64 + todNs t * 2 ^ 32 + todFrac t

/-- The time of day of a raw TIME128. -/
def ofTime128 (v : Nat) : Tod :=
  ((v / 2 ^ 64 : Nat) : Int) * secU + ((v / 2 ^ 32 % 2 ^ 32 : Nat) : Int) * nsU + ((v % 2 ^ 32 : Nat) : Int) * 2 ^ 24

/-- The nanoseconds field of a raw TIME128 is legal (R8). -/
def time128Ok (v : Nat) : Bool := decide (v / 2 ^ 32 % 2 ^ 32 ≤ 999999999)

/-- A STAMP128 of a time of day: the lower 16 bits of the fraction are dropped without rounding (R10). -/
def stamp128 (t : Tod) (flags : Nat) : Nat :=
  (todSec t % 2 ^ 64) * 2 ^ 64 + todNs t * 2 ^ 32 + todFrac t / 2 ^ 16 * 2 ^ 16 + flags % 2 ^ 16

/-- The time of day in a STAMP128. -/
def ofStamp128 (v : Nat) : Tod :=
  ((v / 2 ^ 64 : Nat) : Int) * secU + ((v / 2 ^ 32 % 2 ^ 32 : Nat) : Int) * nsU + ((v / 2 ^ 16 % 2 ^ 16 : Nat) : Int) * 2 ^ 40

/-- The flags of a STAMP128. -/
def stampFlags (v : Nat) : Nat := v % 2 ^ 16

/-- The tick number of a time of day within its second (R21). -/
def tickOf (t : Tod) : Nat := (t % secU / tickU).toNat

/-- The last grid time at or before a time of day (R82). -/
def gridBefore (t : Tod) : Tod := t / tickU * tickU

/-- The first grid time at or after a time of day (R83). -/
def gridAfter (t : Tod) : Tod := -(-t / tickU) * tickU

/-- The tick count of R23: TOD seconds × 8,000 + tick number. -/
def tickCount (sec tick : Nat) : Nat := sec * 8000 + tick

/-- The largest 48-bit bound, unbounded (R13). -/
def unbounded : Nat := 2 ^ 48 - 1

/-- A scruple sum: it saturates at unbounded (R14). -/
def satScr (v : Nat) : Nat := min v unbounded

/-- Division rounded to nearest, halves away from zero; `d` is positive. -/
def roundDiv (a : Int) (d : Nat) : Int :=
  if 0 ≤ a then (2 * a + d) / (2 * d) else -((-2 * a + d) / (2 * d))

/-- Division rounded toward zero. -/
def truncDiv (a : Int) (d : Nat) : Int := if 0 ≤ a then a / d else -(-a / d)

/-- Division rounded up. -/
def ceilDiv (a d : Nat) : Nat := (a + d - 1) / d

/-- Picoseconds in units of 2⁻⁵⁶ ns, rounded to nearest (R72); no tie can occur, since 1,000 = 8 × 125. -/
def psToU (ps : Int) : Int := roundDiv (ps * 2 ^ 56) 1000

/-- Units of 2⁻⁵⁶ ns in picoseconds, rounded toward zero (R72). -/
def uToPs (u : Int) : Int := truncDiv (u * 1000) (2 ^ 56)

/-- Units of 2⁻⁵⁶ ns in picoseconds, rounded to nearest (log entry 5). -/
def uToPsNear (u : Int) : Int := roundDiv (u * 1000) (2 ^ 56)

/-- Units of 2⁻⁵⁶ ns in picoseconds, rounded up, of a magnitude (a bound never rounds down). -/
def uToPsCeil (u : Int) : Nat := ceilDiv (u.natAbs * 1000) (2 ^ 56)

/-- Units of 2⁻¹⁶ ns from units of 2⁻⁵⁶ ns, dropping the rest (R10). -/
def uTo16 (u : Int) : Int := u / 2 ^ 40

/-- Units of 2⁻⁵⁶ ns from units of 2⁻¹⁶ ns. -/
def from16 (x : Int) : Int := x * 2 ^ 40

/-- A rational rounded to nearest, halves away from zero. -/
def ratRound (q : Rat) : Int := roundDiv q.num q.den

/-- A rational rounded down. -/
def ratFloor (q : Rat) : Int := q.num / q.den

/-- A rational rounded up. -/
def ratCeil (q : Rat) : Int := -(-q.num / q.den)

/-- The magnitude of a rational. -/
def ratAbs (q : Rat) : Rat := if q < 0 then -q else q

/-- The smaller of two rationals. -/
def ratMin (a b : Rat) : Rat := if b < a then b else a

/-- The larger of two rationals. -/
def ratMax (a b : Rat) : Rat := if a < b then b else a

/-- The increment in effect as a FREQ64 (R71). -/
def incToFreq (inc : Nat) : Int := roundDiv ((inc : Int) - 2 ^ 57) 512

/-- A FREQ64 as an exact fraction (R12). -/
def freqRat (f : Int) : Rat := (f : Rat) / 2 ^ 48

/-- An exact fractional frequency as a FREQ64, rounded to nearest. -/
def ratFreq (q : Rat) : Int := ratRound (q * 2 ^ 48)

/-- One bit step of the square root. -/
def isqrtGo : Nat → Nat → Nat → Nat
  | 0, _, r => r
  | k + 1, n, r => isqrtGo k n (if (r + 2 ^ k) * (r + 2 ^ k) ≤ n then r + 2 ^ k else r)

/-- The integer square root, rounded down; `bits` bounds the bits of the result. -/
def isqrt (bits n : Nat) : Nat := isqrtGo bits n 0

/-- The integer square root, rounded up. -/
def isqrtCeil (bits n : Nat) : Nat :=
  let r := isqrt bits n
  if r * r = n then r else r + 1

/-- A square root of a non-negative rational to 2⁻⁹⁶, rounded up (log entry 9). -/
def ratSqrt (q : Rat) : Rat :=
  let n := q.num.toNat * 2 ^ 192 / q.den
  (isqrtCeil 192 (n + (if q.num.toNat * 2 ^ 192 % q.den = 0 then 0 else 1)) : Rat) / 2 ^ 96

/-- π as a rational, from its first 40 decimal places (log entry 9). -/
def piRat : Rat := 31415926535897932384626433832795028841972 / 10000000000000000000000000000000000000000

/-- The terms of the exponential series from term `k` on: `t` is term k, `fuel` the number of terms left. -/
def expSeries : Nat → Nat → Rat → Rat → Rat → Rat
  | 0, _, _, _, acc => acc
  | fuel + 1, k, x, t, acc => expSeries fuel (k + 1) x (t * x / (k + 1)) (acc + t)

/-- A rational rounded to 2⁻¹²⁸. -/
def ratTrim (q : Rat) : Rat := (ratRound (q * 2 ^ 128) : Rat) / 2 ^ 128

/-- A power of a rational, trimmed after each product. -/
def ratPow : Nat → Rat → Rat
  | 0, _ => 1
  | k + 1, x => ratTrim (ratPow k x * x)

/-- The exponential: e to the whole part times the series of the rest, to about 2⁻¹²⁰ (log entry 9). -/
def ratExp (x : Rat) : Rat :=
  let w := x.floor.toNat
  let neg := (-x.floor).toNat
  let f := x - (x.floor : Rat)
  let e := ratTrim (expSeries 40 0 1 1 0)
  let base := ratTrim (expSeries 40 0 f 1 0)
  if x < 0 then ratTrim (base / ratPow neg e) else ratTrim (base * ratPow w e)

/-- An element of a vector, `d` beyond its end. -/
def vat {α : Type} {n : Nat} (v : Vector α n) (i : Nat) (d : α) : α := if h : i < n then v[i] else d

/-- One element of a vector changed; beyond the end nothing changes. -/
def vmod {α : Type} {n : Nat} (v : Vector α n) (i : Nat) (f : α → α) : Vector α n :=
  if h : i < n then v.set i (f v[i]) else v

/-- A signed number in `k` octets, two's complement, most significant first (R6). -/
def intBytes (k : Nat) (v : Int) : Bytes := beBytes k ((v % (256 ^ k : Nat)).toNat)

/-- The signed number that octets hold. -/
def beInt (b : Bytes) : Int :=
  let v := beNat b
  if v < 256 ^ b.length / 2 then v else (v : Int) - (256 ^ b.length : Nat)

/-- Octets `off` to `off + len - 1` of a string. -/
def slice (b : Bytes) (off len : Nat) : Bytes := (b.drop off).take len

/-- The number in octets `off` to `off + len - 1`. -/
def field (b : Bytes) (off len : Nat) : Nat := beNat (slice b off len)

/-- Octets written over a string from `off` on; what would lie beyond its end is dropped. -/
def patch (b : Bytes) (off : Nat) (v : Bytes) : Bytes :=
  b.take off ++ v.take (b.length - off) ++ b.drop (off + v.length)

/-- Octet `i` of a string, 0 beyond its end. -/
def octet (b : Bytes) (i : Nat) : Nat := (b.getD i 0).toNat

/-- Octets filled with zeros up to length `k`. -/
def padTo (k : Nat) (b : Bytes) : Bytes := b ++ zeros (k - b.length)

/-- The last `k` decimal digits of a number, as ASCII octets. -/
def digits : Nat → Nat → Bytes
  | 0, _ => []
  | k + 1, v => digits k (v / 10) ++ [BitVec.ofNat 8 (0x30 + v % 10)]

/-- How many decimal digits a number has, at least 1; `fuel` bounds them. -/
def digitCount : Nat → Nat → Nat
  | 0, _ => 1
  | fuel + 1, v => if v < 10 then 1 else digitCount fuel (v / 10) + 1

/-- A signed number in ASCII decimal. -/
def decimal (v : Int) : Bytes :=
  let n := v.natAbs
  (if v < 0 then [0x2D#8] else []) ++ digits (digitCount 40 n) n

/-- A saturating addition below 2^bits. -/
def satAdd (bits a b : Nat) : Nat := min (a + b) (2 ^ bits - 1)

/-- The newest `k` elements of a list that holds the newest first. -/
def keepNew {α : Type} (k : Nat) (l : List α) : List α := l.take k

end Sys2Proof.Machine
end

