-- ==== Sys2Proof/Machine/ObjA.lean ====
section
/-! DEFINITION. The object tables: identity, drains, time core and timestamp objects, written from the tables of their chapters. -/
namespace Sys2Proof.Machine

/-- `id.vendor` (R20). -/
def Obj.id_vendor : Row :=
  { name := "id.vendor", base := 0x1000, ty := .u32, dflt := nval 1346915412 }

/-- `id.part` (R20). -/
def Obj.id_part : Row :=
  { name := "id.part", base := 0x1001, ty := .enum, dflt := fun d _ _ => .n d.part }

/-- `id.stepping` (R20). -/
def Obj.id_stepping : Row :=
  { name := "id.stepping", base := 0x1002, ty := .u16, dflt := fun d _ _ => .n d.stepping }

/-- `id.serial` (R20). -/
def Obj.id_serial : Row :=
  { name := "id.serial", base := 0x1003, ty := .octets 16 16, dflt := fun d _ _ => .o d.serial }

/-- `id.firmware` (R20). -/
def Obj.id_firmware : Row :=
  { name := "id.firmware", base := 0x1004, ty := .u32, dflt := fun d _ _ => .n d.firmware }

/-- `id.role` (R20). -/
def Obj.id_role : Row :=
  { name := "id.role", base := 0x1005, ty := .enum, dflt := fun d _ _ => .n (if d.manager then 1 else 2) }

/-- `drain.drops` (R48). -/
def Obj.drain_drops : Row :=
  { name := "drain.drops", base := 0x1220, n := 12, kI := 1, ty := .u64, acc := .rc }

/-- `tod.now` (R95). -/
def Obj.tod_now : Row :=
  { name := "tod.now", base := 0x2000, ty := .time128 }

/-- `tod.state` (R95). -/
def Obj.tod_state : Row :=
  { name := "tod.state", base := 0x2001, ty := .enum }

/-- `tod.step_count` (R95). -/
def Obj.tod_step_count : Row :=
  { name := "tod.step_count", base := 0x2002, ty := .u32 }

/-- `tod.keepers` (R95). -/
def Obj.tod_keepers : Row :=
  { name := "tod.keepers", base := 0x2003, ty := .u8, dflt := nval 7 }

/-- `tod.resyncs` (R95). -/
def Obj.tod_resyncs : Row :=
  { name := "tod.resyncs", base := 0x2004, ty := .u32, acc := .rc }

/-- `tod.first_lock` (R95). -/
def Obj.tod_first_lock : Row :=
  { name := "tod.first_lock", base := 0x2005, ty := .bool }

/-- `tod.control` (R95). -/
def Obj.tod_control : Row :=
  { name := "tod.control", base := 0x2008, ty := .enum, acc := .rw, p := true, b := true, keeper := true, twin := 1, rng := .among [0, 1] }

/-- `tod.increment` (R95). -/
def Obj.tod_increment : Row :=
  { name := "tod.increment", base := 0x2010, ty := .inc64, acc := .rw, b := true, twin := 1, dflt := nval 144115188075855872, rng := .within (144097595889811456) 144132780261900288 }

/-- `tod.freq_offset` (R95). -/
def Obj.tod_freq_offset : Row :=
  { name := "tod.freq_offset", base := 0x2011, ty := .freq64 }

/-- `tod.slew` (R95). -/
def Obj.tod_slew : Row :=
  { name := "tod.slew", base := 0x2020, ty := .i64, acc := .rwx, b := true }

/-- `tod.slew_rate` (R95). -/
def Obj.tod_slew_rate : Row :=
  { name := "tod.slew_rate", base := 0x2021, ty := .u32, acc := .rw, p := true, b := true, twin := 1, dflt := nval 200, rng := .within (1) 100000 }

/-- `tod.slew_max` (R95). -/
def Obj.tod_slew_max : Row :=
  { name := "tod.slew_max", base := 0x2022, ty := .u64, acc := .rw, p := true, b := true, twin := 1, dflt := nval 1000000000, rng := .within (1000) 1000000000000 }

/-- `tod.step_policy` (R95). -/
def Obj.tod_step_policy : Row :=
  { name := "tod.step_policy", base := 0x2028, ty := .enum, acc := .rw, p := true, b := true, keeper := true, twin := 1, dflt := nval 1, rng := .among [0, 1, 2] }

/-- `tod.step_threshold` (R95). -/
def Obj.tod_step_threshold : Row :=
  { name := "tod.step_threshold", base := 0x2029, ty := .u64, acc := .rw, p := true, b := true, twin := 1, dflt := nval 1000000, rng := .within (1000) 1000000000000 }

/-- `tod.step` (R95). -/
def Obj.tod_step : Row :=
  { name := "tod.step", base := 0x202A, ty := .i64, acc := .rwx, b := true, keeper := true, rng := .within (-9000000000000000000) 9000000000000000000 }

/-- `tod.step_status` (R95). -/
def Obj.tod_step_status : Row :=
  { name := "tod.step_status", base := 0x202A, sub := 1, ty := .enum }

/-- `tod.utc_offset` (R95). -/
def Obj.tod_utc_offset : Row :=
  { name := "tod.utc_offset", base := 0x2030, ty := .i16, acc := .rw, p := true, b := true, twin := 1, dflt := nval 37, rng := .within (0) 255 }

/-- `tod.utc_source` (R95). -/
def Obj.tod_utc_source : Row :=
  { name := "tod.utc_source", base := 0x2031, ty := .enum, acc := .rw, p := true, b := true, twin := 1, dflt := nval 2, rng := .among [0, 1, 2] }

/-- `tod.leap_pending` (R95). -/
def Obj.tod_leap_pending : Row :=
  { name := "tod.leap_pending", base := 0x2032, ty := .enum, acc := .rw, b := true, twin := 1, rng := .among [0, 1, 2] }

/-- `tod.leap_time` (R95). -/
def Obj.tod_leap_time : Row :=
  { name := "tod.leap_time", base := 0x2033, ty := .time128, acc := .rw, b := true, twin := 1 }

/-- `tod.leap_status` (R95). -/
def Obj.tod_leap_status : Row :=
  { name := "tod.leap_status", base := 0x2034, ty := .enum }

/-- `tod.in_leap` (R95). -/
def Obj.tod_in_leap : Row :=
  { name := "tod.in_leap", base := 0x2035, ty := .bool }

/-- `tod.action.kind` (R95). -/
def Obj.tod_action_kind : Row :=
  { name := "tod.action.kind", base := 0x2040, n := 8, kI := 256, ty := .enum, acc := .rw, b := true, rng := .among [0, 1, 2, 3] }

/-- `tod.action.time` (R95). -/
def Obj.tod_action_time : Row :=
  { name := "tod.action.time", base := 0x2040, sub := 1, n := 8, kI := 256, ty := .time128, acc := .rw, b := true }

/-- `tod.action.offset` (R95). -/
def Obj.tod_action_offset : Row :=
  { name := "tod.action.offset", base := 0x2040, sub := 2, n := 8, kI := 256, ty := .i64, acc := .rw, b := true, rng := .within (-9000000000000000000) 9000000000000000000 }

/-- `tod.action.value` (R95). -/
def Obj.tod_action_value : Row :=
  { name := "tod.action.value", base := 0x2040, sub := 3, n := 8, kI := 256, ty := .time128, acc := .rw, b := true }

/-- `tod.action.increment` (R95). -/
def Obj.tod_action_increment : Row :=
  { name := "tod.action.increment", base := 0x2040, sub := 4, n := 8, kI := 256, ty := .inc64, acc := .rw, b := true, dflt := nval 144115188075855872, rng := .within (144097595889811456) 144132780261900288 }

/-- `tod.action.arm` (R95). -/
def Obj.tod_action_arm : Row :=
  { name := "tod.action.arm", base := 0x2040, sub := 5, n := 8, kI := 256, ty := .u8, acc := .rwx, b := true, rng := .among [0, 1] }

/-- `stamp.rx_cal` (R123). -/
def Obj.stamp_rx_cal : Row :=
  { name := "stamp.rx_cal", base := 0x2100, n := 9, kI := 1, ty := .i32, dflt := fun d i _ => .n (d.rxCal.getD i 0) }

/-- `stamp.tx_cal` (R123). -/
def Obj.stamp_tx_cal : Row :=
  { name := "stamp.tx_cal", base := 0x2101, n := 9, kI := 1, ty := .i32, dflt := fun d i _ => .n (d.txCal.getD i 0) }

/-- `stamp.cal_state` (R123). -/
def Obj.stamp_cal_state : Row :=
  { name := "stamp.cal_state", base := 0x2102, n := 9, kI := 1, ty := .enum }

/-- `stamp.calibrate` (R123). -/
def Obj.stamp_calibrate : Row :=
  { name := "stamp.calibrate", base := 0x2103, n := 9, kI := 1, ty := .u8, acc := .rwx, rng := .among [1] }

/-- `stamp.phy_latency_rx` (R123). -/
def Obj.stamp_phy_latency_rx : Row :=
  { name := "stamp.phy_latency_rx", base := 0x2104, n := 9, kI := 1, ty := .u32, acc := .rw, p := true, b := true, twin := 256, rng := .within (0) 10000000 }

/-- `stamp.phy_latency_tx` (R123). -/
def Obj.stamp_phy_latency_tx : Row :=
  { name := "stamp.phy_latency_tx", base := 0x2106, n := 9, kI := 1, ty := .u32, acc := .rw, p := true, b := true, twin := 256, rng := .within (0) 10000000 }

/-- `stamp.accuracy` (R123). -/
def Obj.stamp_accuracy : Row :=
  { name := "stamp.accuracy", base := 0x2108, n := 9, kI := 1, ty := .u32, dflt := fun _ i _ => .n (if i = 8 then 2000 else 2500) }

/-- `stamp.queue.pop` (R123). -/
def Obj.stamp_queue_pop : Row :=
  { name := "stamp.queue.pop", base := 0x2120, n := 8, kI := 1, ty := .octets 24 24, acc := .rc, dflt := oval (zeros 24) }

/-- `stamp.queue.level` (R123). -/
def Obj.stamp_queue_level : Row :=
  { name := "stamp.queue.level", base := 0x2121, n := 8, kI := 1, ty := .u16 }

/-- `stamp.lead_nts` (R123). -/
def Obj.stamp_lead_nts : Row :=
  { name := "stamp.lead_nts", base := 0x2140, ty := .u32, acc := .rw, p := true, b := true, twin := 1, dflt := nval 400, rng := .within (100) 10000 }

/-- `stamp.lead_ptp_auth` (R123). -/
def Obj.stamp_lead_ptp_auth : Row :=
  { name := "stamp.lead_ptp_auth", base := 0x2141, ty := .u32, acc := .rw, p := true, b := true, twin := 1, dflt := nval 250, rng := .within (100) 10000 }

/-- `stamp.reserve_max` (R123). -/
def Obj.stamp_reserve_max : Row :=
  { name := "stamp.reserve_max", base := 0x2142, ty := .u32, acc := .rw, p := true, b := true, twin := 1, dflt := nval 1000, rng := .within (164) 20000 }

/-- `stamp.age_ticks` (R123). -/
def Obj.stamp_age_ticks : Row :=
  { name := "stamp.age_ticks", base := 0x2143, ty := .u8, acc := .rw, p := true, b := true, twin := 1, dflt := nval 8, rng := .within (1) 64 }

/-- `stamp.delivery` (R123). -/
def Obj.stamp_delivery : Row :=
  { name := "stamp.delivery", base := 0x2144, ty := .enum, acc := .rw, p := true, b := true, twin := 1, rng := .among [0, 1] }

/-- `stamp.late` (R123). -/
def Obj.stamp_late : Row :=
  { name := "stamp.late", base := 0x2150, n := 9, kI := 1, ty := .u64, acc := .rc }

/-- `stamp.crypto_busy` (R123). -/
def Obj.stamp_crypto_busy : Row :=
  { name := "stamp.crypto_busy", base := 0x2151, n := 9, kI := 1, ty := .u64, acc := .rc }

/-- `stamp.step_drops` (R123). -/
def Obj.stamp_step_drops : Row :=
  { name := "stamp.step_drops", base := 0x2152, n := 9, kI := 1, ty := .u64, acc := .rc }

/-- `stamp.lost` (R123). -/
def Obj.stamp_lost : Row :=
  { name := "stamp.lost", base := 0x2153, n := 9, kI := 1, ty := .u64, acc := .rc }

/-- `stamp.queue_wait` (R123). -/
def Obj.stamp_queue_wait : Row :=
  { name := "stamp.queue_wait", base := 0x2154, n := 9, kI := 1, ty := .u64, acc := .rc }

/-- `stamp.last_late` (R123). -/
def Obj.stamp_last_late : Row :=
  { name := "stamp.last_late", base := 0x2155, n := 9, kI := 1, ty := .stamp128 }

/-- The rows of this file. -/
def Obj.rowsA : List Row :=
  [Obj.id_vendor, Obj.id_part, Obj.id_stepping, Obj.id_serial, Obj.id_firmware, Obj.id_role, Obj.drain_drops, Obj.tod_now, Obj.tod_state, Obj.tod_step_count, Obj.tod_keepers, Obj.tod_resyncs, Obj.tod_first_lock, Obj.tod_control, Obj.tod_increment, Obj.tod_freq_offset, Obj.tod_slew, Obj.tod_slew_rate, Obj.tod_slew_max, Obj.tod_step_policy, Obj.tod_step_threshold, Obj.tod_step, Obj.tod_step_status, Obj.tod_utc_offset, Obj.tod_utc_source] ++
  [Obj.tod_leap_pending, Obj.tod_leap_time, Obj.tod_leap_status, Obj.tod_in_leap, Obj.tod_action_kind, Obj.tod_action_time, Obj.tod_action_offset, Obj.tod_action_value, Obj.tod_action_increment, Obj.tod_action_arm, Obj.stamp_rx_cal, Obj.stamp_tx_cal, Obj.stamp_cal_state, Obj.stamp_calibrate, Obj.stamp_phy_latency_rx, Obj.stamp_phy_latency_tx, Obj.stamp_accuracy, Obj.stamp_queue_pop, Obj.stamp_queue_level, Obj.stamp_lead_nts, Obj.stamp_lead_ptp_auth, Obj.stamp_reserve_max, Obj.stamp_age_ticks, Obj.stamp_delivery, Obj.stamp_late] ++
  [Obj.stamp_crypto_busy, Obj.stamp_step_drops, Obj.stamp_lost, Obj.stamp_queue_wait, Obj.stamp_last_late]

end Sys2Proof.Machine
end

