-- ==== Sys2Proof/Machine/ObjB.lean ====
section
/-! DEFINITION. The object tables: reference, holdover and scruple objects, written from the tables of their chapters. -/
namespace Sys2Proof.Machine

/-- `servo.bw` (R152). -/
def Obj.servo_bw : Row :=
  { name := "servo.bw", base := 0x2080, ty := .u16, acc := .rw, p := true, b := true, twin := 1, dflt := nval 100, rng := .within (1) 10000 }

/-- `servo.damping` (R152). -/
def Obj.servo_damping : Row :=
  { name := "servo.damping", base := 0x2081, ty := .u16, acc := .rw, p := true, b := true, twin := 1, dflt := nval 1000, rng := .within (500) 5000 }

/-- `servo.freq` (R152). -/
def Obj.servo_freq : Row :=
  { name := "servo.freq", base := 0x2082, ty := .freq64 }

/-- `servo.error` (R152). -/
def Obj.servo_error : Row :=
  { name := "servo.error", base := 0x2083, ty := .i64 }

/-- `servo.updates` (R152). -/
def Obj.servo_updates : Row :=
  { name := "servo.updates", base := 0x2084, ty := .u32 }

/-- `ref.enable` (R160). -/
def Obj.ref_enable : Row :=
  { name := "ref.enable", base := 0x2800, n := 24, kI := 4096, ty := .bool, acc := .rw, p := true, b := true, twin := 1, dflt := fun d i _ => .n (if i = 23 || (i = 8 && d.part = 1) then 1 else 0), rng := .among [0, 1] }

/-- `ref.rank` (R160). -/
def Obj.ref_rank : Row :=
  { name := "ref.rank", base := 0x2801, n := 24, kI := 4096, ty := .u8, acc := .rw, p := true, b := true, twin := 1, dflt := nval 100, rng := .within (1) 255 }

/-- `ref.kind` (R160). -/
def Obj.ref_kind : Row :=
  { name := "ref.kind", base := 0x2802, n := 24, kI := 4096, ty := .enum, acc := .rw, p := true, b := true, twin := 1, dflt := fun _ i _ => .n (if i < 8 then 0 else if i < 13 then 3 else if i < 21 then 4 else if i < 23 then 3 else 5), rng := .among [0, 1, 2] }

/-- `ref.freq_hz` (R160). -/
def Obj.ref_freq_hz : Row :=
  { name := "ref.freq_hz", base := 0x2803, n := 24, kI := 4096, ty := .u32, acc := .rw, p := true, b := true, twin := 1, dflt := fun _ i _ => .n (if i < 8 then 1 else 0), rng := .within (1) 800000000 }

/-- `ref.divider` (R160). -/
def Obj.ref_divider : Row :=
  { name := "ref.divider", base := 0x2804, n := 24, kI := 4096, ty := .u32, acc := .rw, p := true, b := true, twin := 1, dflt := nval 1, rng := .within (1) 800000000 }

/-- `ref.delay` (R160). -/
def Obj.ref_delay : Row :=
  { name := "ref.delay", base := 0x2805, n := 24, kI := 4096, ty := .i32, acc := .rw, p := true, b := true, twin := 1, rng := .within (-1000000000) 1000000000 }

/-- `ref.source_scruple` (R160). -/
def Obj.ref_source_scruple : Row :=
  { name := "ref.source_scruple", base := 0x2806, n := 24, kI := 4096, ty := .scruple48, acc := .rw, p := true, b := true, twin := 1, dflt := nval 281474976710655 }

/-- `ref.freq_window` (R160). -/
def Obj.ref_freq_window : Row :=
  { name := "ref.freq_window", base := 0x2807, n := 24, kI := 4096, ty := .u32, acc := .rw, p := true, b := true, twin := 1, dflt := nval 1000, rng := .within (1) 1000000 }

/-- `ref.phase_limit` (R160). -/
def Obj.ref_phase_limit : Row :=
  { name := "ref.phase_limit", base := 0x2808, n := 24, kI := 4096, ty := .u32, acc := .rw, p := true, b := true, twin := 1, dflt := nval 100000, rng := .within (1000) 1000000000 }

/-- `ref.qual_time` (R160). -/
def Obj.ref_qual_time : Row :=
  { name := "ref.qual_time", base := 0x2809, n := 24, kI := 4096, ty := .u16, acc := .rw, p := true, b := true, twin := 1, dflt := nval 10, rng := .within (1) 600 }

/-- `ref.wtr` (R160). -/
def Obj.ref_wtr : Row :=
  { name := "ref.wtr", base := 0x280A, n := 24, kI := 4096, ty := .u16, acc := .rw, p := true, b := true, twin := 1, dflt := nval 300, rng := .within (10) 3600 }

/-- `ref.settle` (R160). -/
def Obj.ref_settle : Row :=
  { name := "ref.settle", base := 0x280B, n := 24, kI := 4096, ty := .u16, acc := .rw, p := true, b := true, twin := 1, dflt := nval 60, rng := .within (1) 3600 }

/-- `ref.group` (R160). -/
def Obj.ref_group : Row :=
  { name := "ref.group", base := 0x280C, n := 24, kI := 4096, ty := .u8, acc := .rw, p := true, b := true, twin := 1, dflt := fun _ i _ => .n i, rng := .within (0) 31 }

/-- `ref.status` (R160). -/
def Obj.ref_status : Row :=
  { name := "ref.status", base := 0x280D, n := 24, kI := 4096, ty := .u16 }

/-- `ref.history` (R160). -/
def Obj.ref_history : Row :=
  { name := "ref.history", base := 0x280E, n := 24, kI := 4096, ty := .u16, acc := .rc }

/-- `ref.irq_mask` (R160). -/
def Obj.ref_irq_mask : Row :=
  { name := "ref.irq_mask", base := 0x280F, n := 24, kI := 4096, ty := .u16, acc := .rw, p := true, b := true, twin := 1 }

/-- `ref.preferred` (R160). -/
def Obj.ref_preferred : Row :=
  { name := "ref.preferred", base := 0x2060, ty := .u8, acc := .rw, p := true, b := true, twin := 1, dflt := fun d _ _ => .n (if d.part = 1 then 8 else 255), rng := .withinOr (0) 22 [255] }

/-- `ref.active` (R160). -/
def Obj.ref_active : Row :=
  { name := "ref.active", base := 0x2061, ty := .u8, dflt := nval 255 }

/-- `ref.state` (R160). -/
def Obj.ref_state : Row :=
  { name := "ref.state", base := 0x2062, ty := .enum }

/-- `ref.target` (R160). -/
def Obj.ref_target : Row :=
  { name := "ref.target", base := 0x2063, ty := .u8, dflt := nval 255 }

/-- `ref.force` (R160). -/
def Obj.ref_force : Row :=
  { name := "ref.force", base := 0x2064, ty := .u8, acc := .rw, b := true, keeper := true, twin := 1, dflt := nval 255, rng := .withinOr (0) 22 [255] }

/-- `ref.transition` (R160). -/
def Obj.ref_transition : Row :=
  { name := "ref.transition", base := 0x2065, ty := .u16, acc := .rw, p := true, b := true, twin := 1, dflt := nval 2000, rng := .within (250) 2000 }

/-- `ref.arb_threshold` (R160). -/
def Obj.ref_arb_threshold : Row :=
  { name := "ref.arb_threshold", base := 0x2066, ty := .freq64, acc := .rw, p := true, b := true, twin := 1, dflt := nval 56295, rng := .within (1) 1099511627776 }

/-- `ref.switches` (R160). -/
def Obj.ref_switches : Row :=
  { name := "ref.switches", base := 0x2067, ty := .u32 }

/-- `ref.failed_switches` (R160). -/
def Obj.ref_failed_switches : Row :=
  { name := "ref.failed_switches", base := 0x2068, ty := .u32 }

/-- `ref.irq_pending` (R160). -/
def Obj.ref_irq_pending : Row :=
  { name := "ref.irq_pending", base := 0x2069, ty := .u32, acc := .rc }

/-- `ref.arb_state` (R160). -/
def Obj.ref_arb_state : Row :=
  { name := "ref.arb_state", base := 0x206A, ty := .enum }

/-- `ref.disputed` (R160). -/
def Obj.ref_disputed : Row :=
  { name := "ref.disputed", base := 0x206B, ty := .u16, dflt := nval 65535 }

/-- `ref.measure` (R160). -/
def Obj.ref_measure : Row :=
  { name := "ref.measure", base := 0x2070, n := 24, kI := 1, ty := .octets 32 32, dflt := oval (zeros 32) }

/-- `fly.type` (R191). -/
def Obj.fly_type : Row :=
  { name := "fly.type", base := 0x2A00, ty := .enum, acc := .rw, p := true, b := true, twin := 1, rng := .among [0, 1, 2, 3] }

/-- `fly.freq` (R191). -/
def Obj.fly_freq : Row :=
  { name := "fly.freq", base := 0x2A01, ty := .enum, acc := .rw, p := true, b := true, twin := 1, rng := .among [0, 1] }

/-- `fly.temp_source` (R191). -/
def Obj.fly_temp_source : Row :=
  { name := "fly.temp_source", base := 0x2A02, ty := .enum, acc := .rw, p := true, b := true, twin := 1, dflt := nval 1, rng := .among [0, 1] }

/-- `fly.pps_enable` (R191). -/
def Obj.fly_pps_enable : Row :=
  { name := "fly.pps_enable", base := 0x2A03, ty := .bool, acc := .rw, p := true, b := true, twin := 1, rng := .among [0, 1] }

/-- `fly.pps_tol` (R191). -/
def Obj.fly_pps_tol : Row :=
  { name := "fly.pps_tol", base := 0x2A04, ty := .u32, acc := .rw, p := true, b := true, twin := 1, dflt := nval 1000, rng := .within (50) 1000000 }

/-- `fly.u0` (R191). -/
def Obj.fly_u0 : Row :=
  { name := "fly.u0", base := 0x2A05, ty := .freq64, acc := .rw, p := true, b := true, twin := 1 }

/-- `fly.drift_max` (R191). -/
def Obj.fly_drift_max : Row :=
  { name := "fly.drift_max", base := 0x2A06, ty := .freq64, acc := .rw, p := true, b := true, twin := 1 }

/-- `fly.tempco_max` (R191). -/
def Obj.fly_tempco_max : Row :=
  { name := "fly.tempco_max", base := 0x2A07, ty := .freq64, acc := .rw, p := true, b := true, twin := 1 }

/-- `fly.adev_1s` (R191). -/
def Obj.fly_adev_1s : Row :=
  { name := "fly.adev_1s", base := 0x2A08, ty := .freq64, acc := .rw, p := true, b := true, twin := 1 }

/-- `fly.floor` (R191). -/
def Obj.fly_floor : Row :=
  { name := "fly.floor", base := 0x2A09, ty := .freq64, acc := .rw, p := true, b := true, twin := 1 }

/-- `fly.retrace` (R191). -/
def Obj.fly_retrace : Row :=
  { name := "fly.retrace", base := 0x2A0A, ty := .freq64, acc := .rw, p := true, b := true, twin := 1 }

/-- `xo.u0` (R191). -/
def Obj.xo_u0 : Row :=
  { name := "xo.u0", base := 0x2A10, ty := .freq64, acc := .rw, p := true, b := true, twin := 1, dflt := nval 2814749767 }

/-- `xo.drift_max` (R191). -/
def Obj.xo_drift_max : Row :=
  { name := "xo.drift_max", base := 0x2A11, ty := .freq64, acc := .rw, p := true, b := true, twin := 1, dflt := nval 2814750 }

/-- `xo.tempco_max` (R191). -/
def Obj.xo_tempco_max : Row :=
  { name := "xo.tempco_max", base := 0x2A12, ty := .freq64, acc := .rw, p := true, b := true, twin := 1, dflt := nval 56294995 }

/-- `xo.adev_1s` (R191). -/
def Obj.xo_adev_1s : Row :=
  { name := "xo.adev_1s", base := 0x2A13, ty := .freq64, acc := .rw, p := true, b := true, twin := 1, dflt := nval 281475 }

/-- `xo.floor` (R191). -/
def Obj.xo_floor : Row :=
  { name := "xo.floor", base := 0x2A14, ty := .freq64, acc := .rw, p := true, b := true, twin := 1, dflt := nval 28147 }

/-- `hold.state` (R191). -/
def Obj.hold_state : Row :=
  { name := "hold.state", base := 0x2A20, ty := .enum }

/-- `hold.timebase` (R191). -/
def Obj.hold_timebase : Row :=
  { name := "hold.timebase", base := 0x2A21, ty := .enum }

/-- `hold.model_state` (R191). -/
def Obj.hold_model_state : Row :=
  { name := "hold.model_state", base := 0x2A22, ty := .enum }

/-- `hold.regime` (R191). -/
def Obj.hold_regime : Row :=
  { name := "hold.regime", base := 0x2A23, ty := .enum, dflt := nval 1 }

/-- `hold.growth` (R191). -/
def Obj.hold_growth : Row :=
  { name := "hold.growth", base := 0x2A24, ty := .scruple48, dflt := nval 281474976710655 }

/-- `hold.age` (R191). -/
def Obj.hold_age : Row :=
  { name := "hold.age", base := 0x2A25, ty := .u32 }

/-- `hold.f_pred` (R191). -/
def Obj.hold_f_pred : Row :=
  { name := "hold.f_pred", base := 0x2A26, ty := .freq64 }

/-- `hold.band` (R191). -/
def Obj.hold_band : Row :=
  { name := "hold.band", base := 0x2A27, ty := .freq64, dflt := nval 2814749767 }

/-- `hold.u_f` (R191). -/
def Obj.hold_u_f : Row :=
  { name := "hold.u_f", base := 0x2A28, ty := .freq64 }

/-- `hold.drift` (R191). -/
def Obj.hold_drift : Row :=
  { name := "hold.drift", base := 0x2A29, ty := .freq64 }

/-- `hold.u_drift` (R191). -/
def Obj.hold_u_drift : Row :=
  { name := "hold.u_drift", base := 0x2A2A, ty := .freq64 }

/-- `hold.tempco` (R191). -/
def Obj.hold_tempco : Row :=
  { name := "hold.tempco", base := 0x2A2B, ty := .freq64 }

/-- `hold.u_tempco` (R191). -/
def Obj.hold_u_tempco : Row :=
  { name := "hold.u_tempco", base := 0x2A2C, ty := .freq64 }

/-- `hold.learn_window` (R191). -/
def Obj.hold_learn_window : Row :=
  { name := "hold.learn_window", base := 0x2A30, ty := .u32, acc := .rw, p := true, b := true, twin := 1, dflt := nval 604800, rng := .within (3600) 2592000 }

/-- `hold.learn_min` (R191). -/
def Obj.hold_learn_min : Row :=
  { name := "hold.learn_min", base := 0x2A31, ty := .u32, acc := .rw, p := true, b := true, twin := 1, dflt := nval 14400, rng := .within (600) 2592000 }

/-- `hold.avg_time` (R191). -/
def Obj.hold_avg_time : Row :=
  { name := "hold.avg_time", base := 0x2A32, ty := .u16, acc := .rw, p := true, b := true, twin := 1, dflt := nval 60, rng := .within (10) 3600 }

/-- `hold.fly_restore` (R191). -/
def Obj.hold_fly_restore : Row :=
  { name := "hold.fly_restore", base := 0x2A33, ty := .u32, acc := .rw, p := true, b := true, twin := 1, dflt := nval 600, rng := .within (60) 86400 }

/-- `hold.freq_slot_tol` (R191). -/
def Obj.hold_freq_slot_tol : Row :=
  { name := "hold.freq_slot_tol", base := 0x2A34, ty := .freq64, acc := .rw, p := true, b := true, twin := 1, dflt := nval 2815 }

/-- `hold.model_reset` (R191). -/
def Obj.hold_model_reset : Row :=
  { name := "hold.model_reset", base := 0x2A35, ty := .u8, acc := .rwx, keeper := true, rng := .among [1] }

/-- `hold.thr_spec` (R191). -/
def Obj.hold_thr_spec : Row :=
  { name := "hold.thr_spec", base := 0x2A38, ty := .scruple48, acc := .rw, p := true, b := true, twin := 1, dflt := nval 1000000 }

/-- `hold.thr_unsync` (R191). -/
def Obj.hold_thr_unsync : Row :=
  { name := "hold.thr_unsync", base := 0x2A39, ty := .scruple48, acc := .rw, p := true, b := true, twin := 1, dflt := nval 10000000 }

/-- `hold.thr_dwell` (R191). -/
def Obj.hold_thr_dwell : Row :=
  { name := "hold.thr_dwell", base := 0x2A3A, ty := .u16, acc := .rw, p := true, b := true, twin := 1, dflt := nval 10, rng := .within (1) 3600 }

/-- `hold.service` (R191). -/
def Obj.hold_service : Row :=
  { name := "hold.service", base := 0x2A3B, ty := .enum, dflt := nval 3 }

/-- `fly.recentre_mode` (R191). -/
def Obj.fly_recentre_mode : Row :=
  { name := "fly.recentre_mode", base := 0x2A40, ty := .enum, acc := .rw, p := true, b := true, keeper := true, twin := 1, rng := .among [0, 1, 2] }

/-- `fly.recentre_threshold` (R191). -/
def Obj.fly_recentre_threshold : Row :=
  { name := "fly.recentre_threshold", base := 0x2A41, ty := .freq64, acc := .rw, p := true, b := true, twin := 1, dflt := nval 562950 }

/-- `fly.recentre_step_max` (R191). -/
def Obj.fly_recentre_step_max : Row :=
  { name := "fly.recentre_step_max", base := 0x2A42, ty := .freq64, acc := .rw, p := true, b := true, twin := 1, dflt := nval 281475 }

/-- `fly.recentre_interval` (R191). -/
def Obj.fly_recentre_interval : Row :=
  { name := "fly.recentre_interval", base := 0x2A43, ty := .u16, acc := .rw, p := true, b := true, twin := 1, dflt := nval 30, rng := .within (1) 365 }

/-- `fly.recentre_range` (R191). -/
def Obj.fly_recentre_range : Row :=
  { name := "fly.recentre_range", base := 0x2A44, ty := .freq64, acc := .rw, p := true, b := true, keeper := true, twin := 1, dflt := nval 2814750 }

/-- `fly.recentre_used` (R191). -/
def Obj.fly_recentre_used : Row :=
  { name := "fly.recentre_used", base := 0x2A45, ty := .freq64, p := true }

/-- `fly.recentre_tol` (R191). -/
def Obj.fly_recentre_tol : Row :=
  { name := "fly.recentre_tol", base := 0x2A46, ty := .u8, acc := .rw, p := true, b := true, twin := 1, dflt := nval 10, rng := .within (1) 100 }

/-- `fly.recentre_now` (R191). -/
def Obj.fly_recentre_now : Row :=
  { name := "fly.recentre_now", base := 0x2A47, ty := .u8, acc := .rwx, keeper := true, rng := .among [1] }

/-- `fly.recentre_last` (R191). -/
def Obj.fly_recentre_last : Row :=
  { name := "fly.recentre_last", base := 0x2A48, ty := .time128, p := true }

/-- `fly.dac_bits` (R191). -/
def Obj.fly_dac_bits : Row :=
  { name := "fly.dac_bits", base := 0x2A50, ty := .u8, acc := .rw, p := true, b := true, twin := 1, dflt := nval 16, rng := .within (8) 24 }

/-- `fly.dac_gain` (R191). -/
def Obj.fly_dac_gain : Row :=
  { name := "fly.dac_gain", base := 0x2A51, ty := .freq64, acc := .rw, p := true, b := true, twin := 1, dflt := nval 563 }

/-- `fly.dac_cmd` (R191). -/
def Obj.fly_dac_cmd : Row :=
  { name := "fly.dac_cmd", base := 0x2A52, ty := .u8, acc := .rw, p := true, b := true, twin := 1 }

/-- `fly.dac_init` (R191). -/
def Obj.fly_dac_init : Row :=
  { name := "fly.dac_init", base := 0x2A53, ty := .u32, acc := .rw, p := true, b := true, twin := 1, dflt := nval 32768 }

/-- `fly.dac_code` (R191). -/
def Obj.fly_dac_code : Row :=
  { name := "fly.dac_code", base := 0x2A54, ty := .u32 }

/-- `fly.uart_baud` (R191). -/
def Obj.fly_uart_baud : Row :=
  { name := "fly.uart_baud", base := 0x2A58, ty := .u32, acc := .rw, p := true, b := true, twin := 1, dflt := nval 9600, rng := .within (1200) 115200 }

/-- `fly.uart_cmd` (R191). -/
def Obj.fly_uart_cmd : Row :=
  { name := "fly.uart_cmd", base := 0x2A59, ty := .octets 0 32, acc := .rw, p := true, b := true, twin := 1, dflt := oval [] }

/-- `fly.uart_unit` (R191). -/
def Obj.fly_uart_unit : Row :=
  { name := "fly.uart_unit", base := 0x2A5A, ty := .freq64, acc := .rw, p := true, b := true, twin := 1, dflt := nval 563 }

/-- `fly.uart_reply` (R191). -/
def Obj.fly_uart_reply : Row :=
  { name := "fly.uart_reply", base := 0x2A5B, ty := .octets 0 32, dflt := oval [] }

/-- `scr.value` (R216). -/
def Obj.scr_value : Row :=
  { name := "scr.value", base := 0x2200, ty := .scruple48, dflt := nval 281474976710655 }

/-- `scr.raw` (R216). -/
def Obj.scr_raw : Row :=
  { name := "scr.raw", base := 0x2201, ty := .scruple48, dflt := nval 281474976710655 }

/-- `scr.source` (R216). -/
def Obj.scr_source : Row :=
  { name := "scr.source", base := 0x2202, ty := .scruple48, dflt := nval 281474976710655 }

/-- `scr.measure` (R216). -/
def Obj.scr_measure : Row :=
  { name := "scr.measure", base := 0x2203, ty := .scruple48 }

/-- `scr.asym` (R216). -/
def Obj.scr_asym : Row :=
  { name := "scr.asym", base := 0x2204, ty := .scruple48 }

/-- `scr.servo` (R216). -/
def Obj.scr_servo : Row :=
  { name := "scr.servo", base := 0x2205, ty := .scruple48 }

/-- `scr.growth` (R216). -/
def Obj.scr_growth : Row :=
  { name := "scr.growth", base := 0x2206, ty := .scruple48, dflt := nval 281474976710655 }

/-- `scr.arb` (R216). -/
def Obj.scr_arb : Row :=
  { name := "scr.arb", base := 0x2207, ty := .scruple48 }

/-- `scr.manual` (R216). -/
def Obj.scr_manual : Row :=
  { name := "scr.manual", base := 0x2208, ty := .scruple48 }

/-- `scr.floor` (R216). -/
def Obj.scr_floor : Row :=
  { name := "scr.floor", base := 0x2209, ty := .scruple48 }

/-- `scr.input_age` (R216). -/
def Obj.scr_input_age : Row :=
  { name := "scr.input_age", base := 0x220A, ty := .scruple48 }

/-- `scr.settled` (R216). -/
def Obj.scr_settled : Row :=
  { name := "scr.settled", base := 0x220B, ty := .bool }

/-- `scr.settle_left` (R216). -/
def Obj.scr_settle_left : Row :=
  { name := "scr.settle_left", base := 0x220C, ty := .u32, dflt := nval 4294967295 }

/-- `scr.rise_cause` (R216). -/
def Obj.scr_rise_cause : Row :=
  { name := "scr.rise_cause", base := 0x220D, ty := .enum, dflt := nval 6 }

/-- `scr.margin` (R216). -/
def Obj.scr_margin : Row :=
  { name := "scr.margin", base := 0x2210, ty := .scruple48, acc := .rw, p := true, b := true, keeper := true, twin := 1, rng := .within (0) 1000000000 }

/-- `scr.port` (R216). -/
def Obj.scr_port : Row :=
  { name := "scr.port", base := 0x2220, n := 9, kI := 1, ty := .scruple48, dflt := nval 281474976710655 }

/-- `scr.dist_extra` (R216). -/
def Obj.scr_dist_extra : Row :=
  { name := "scr.dist_extra", base := 0x2221, n := 9, kI := 1, ty := .u32, acc := .rw, p := true, b := true, twin := 256, rng := .within (0) 10000000 }

/-- `scr.step_thresh` (R216). -/
def Obj.scr_step_thresh : Row :=
  { name := "scr.step_thresh", base := 0x2230, ty := .u32, acc := .rw, p := true, b := true, twin := 1, dflt := nval 50000, rng := .within (1000) 1000000000 }

/-- `scr.step_confirm` (R216). -/
def Obj.scr_step_confirm : Row :=
  { name := "scr.step_confirm", base := 0x2231, ty := .u8, acc := .rw, p := true, b := true, twin := 1, dflt := nval 4, rng := .within (1) 64 }

/-- `scr.guard` (R216). -/
def Obj.scr_guard : Row :=
  { name := "scr.guard", base := 0x2232, ty := .u16, acc := .rw, p := true, b := true, twin := 1, dflt := nval 30, rng := .within (5) 3600 }

/-- `scr.rtt_window` (R216). -/
def Obj.scr_rtt_window : Row :=
  { name := "scr.rtt_window", base := 0x2233, ty := .u16, acc := .rw, p := true, b := true, twin := 1, dflt := nval 60, rng := .within (10) 3600 }

/-- `scr.asym_bound` (R216). -/
def Obj.scr_asym_bound : Row :=
  { name := "scr.asym_bound", base := 0x2240, n := 4, kI := 1, ty := .scruple48, acc := .rw, p := true, b := true, twin := 256, dflt := nval 281474976710655 }

/-- `scr.path_state` (R216). -/
def Obj.scr_path_state : Row :=
  { name := "scr.path_state", base := 0x2242, n := 4, kI := 1, ty := .enum }

/-- `scr.path_steps` (R216). -/
def Obj.scr_path_steps : Row :=
  { name := "scr.path_steps", base := 0x2243, n := 4, kI := 1, ty := .scruple48 }

/-- `scr.asym_corr` (R216). -/
def Obj.scr_asym_corr : Row :=
  { name := "scr.asym_corr", base := 0x2244, n := 4, kI := 1, ty := .i64 }

/-- `scr.rtt_ref` (R216). -/
def Obj.scr_rtt_ref : Row :=
  { name := "scr.rtt_ref", base := 0x2245, n := 4, kI := 1, ty := .u64 }

/-- `scr.path_clear` (R216). -/
def Obj.scr_path_clear : Row :=
  { name := "scr.path_clear", base := 0x2246, n := 4, kI := 1, ty := .u8, acc := .rwx, keeper := true, rng := .among [1] }

/-- `scr.path_count` (R216). -/
def Obj.scr_path_count : Row :=
  { name := "scr.path_count", base := 0x2247, n := 4, kI := 1, ty := .u32 }

/-- `scr.ca_limit` (R216). -/
def Obj.scr_ca_limit : Row :=
  { name := "scr.ca_limit", base := 0x2250, n := 16, kI := 1, ty := .scruple48, acc := .rw, p := true, b := true, twin := 256, dflt := fun _ i _ => .n (caLimits.getD i 0) }

/-- `scr.ca_code` (R216). -/
def Obj.scr_ca_code : Row :=
  { name := "scr.ca_code", base := 0x2252, n := 16, kI := 1, ty := .u8, acc := .rw, p := true, b := true, twin := 256, dflt := fun _ i _ => .n (caCodes.getD i 0) }

/-- `scr.ca_beyond` (R216). -/
def Obj.scr_ca_beyond : Row :=
  { name := "scr.ca_beyond", base := 0x2254, ty := .u8, acc := .rw, p := true, b := true, twin := 1, dflt := nval 254, rng := .among [49, 254] }

/-- The rows of this file. -/
def Obj.rowsB : List Row :=
  [Obj.servo_bw, Obj.servo_damping, Obj.servo_freq, Obj.servo_error, Obj.servo_updates, Obj.ref_enable, Obj.ref_rank, Obj.ref_kind, Obj.ref_freq_hz, Obj.ref_divider, Obj.ref_delay, Obj.ref_source_scruple, Obj.ref_freq_window, Obj.ref_phase_limit, Obj.ref_qual_time, Obj.ref_wtr, Obj.ref_settle, Obj.ref_group, Obj.ref_status, Obj.ref_history, Obj.ref_irq_mask, Obj.ref_preferred, Obj.ref_active, Obj.ref_state, Obj.ref_target] ++
  [Obj.ref_force, Obj.ref_transition, Obj.ref_arb_threshold, Obj.ref_switches, Obj.ref_failed_switches, Obj.ref_irq_pending, Obj.ref_arb_state, Obj.ref_disputed, Obj.ref_measure, Obj.fly_type, Obj.fly_freq, Obj.fly_temp_source, Obj.fly_pps_enable, Obj.fly_pps_tol, Obj.fly_u0, Obj.fly_drift_max, Obj.fly_tempco_max, Obj.fly_adev_1s, Obj.fly_floor, Obj.fly_retrace, Obj.xo_u0, Obj.xo_drift_max, Obj.xo_tempco_max, Obj.xo_adev_1s, Obj.xo_floor] ++
  [Obj.hold_state, Obj.hold_timebase, Obj.hold_model_state, Obj.hold_regime, Obj.hold_growth, Obj.hold_age, Obj.hold_f_pred, Obj.hold_band, Obj.hold_u_f, Obj.hold_drift, Obj.hold_u_drift, Obj.hold_tempco, Obj.hold_u_tempco, Obj.hold_learn_window, Obj.hold_learn_min, Obj.hold_avg_time, Obj.hold_fly_restore, Obj.hold_freq_slot_tol, Obj.hold_model_reset, Obj.hold_thr_spec, Obj.hold_thr_unsync, Obj.hold_thr_dwell, Obj.hold_service, Obj.fly_recentre_mode, Obj.fly_recentre_threshold] ++
  [Obj.fly_recentre_step_max, Obj.fly_recentre_interval, Obj.fly_recentre_range, Obj.fly_recentre_used, Obj.fly_recentre_tol, Obj.fly_recentre_now, Obj.fly_recentre_last, Obj.fly_dac_bits, Obj.fly_dac_gain, Obj.fly_dac_cmd, Obj.fly_dac_init, Obj.fly_dac_code, Obj.fly_uart_baud, Obj.fly_uart_cmd, Obj.fly_uart_unit, Obj.fly_uart_reply, Obj.scr_value, Obj.scr_raw, Obj.scr_source, Obj.scr_measure, Obj.scr_asym, Obj.scr_servo, Obj.scr_growth, Obj.scr_arb, Obj.scr_manual] ++
  [Obj.scr_floor, Obj.scr_input_age, Obj.scr_settled, Obj.scr_settle_left, Obj.scr_rise_cause, Obj.scr_margin, Obj.scr_port, Obj.scr_dist_extra, Obj.scr_step_thresh, Obj.scr_step_confirm, Obj.scr_guard, Obj.scr_rtt_window, Obj.scr_asym_bound, Obj.scr_path_state, Obj.scr_path_steps, Obj.scr_asym_corr, Obj.scr_rtt_ref, Obj.scr_path_clear, Obj.scr_path_count, Obj.scr_ca_limit, Obj.scr_ca_code, Obj.scr_ca_beyond]

end Sys2Proof.Machine
end

