-- ==== Sys2Proof/Machine/ObjC.lean ====
section
/-! DEFINITION. The object tables: synthesis and interval measurement objects, written from the tables of their chapters. -/
namespace Sys2Proof.Machine

/-- `dpll.ref` (R252). -/
def Obj.dpll_ref : Row :=
  { name := "dpll.ref", base := 0x3000, n := 5, kI := 65536, ty := .enum, acc := .rw, p := true, b := true, twin := 1, rng := .among [0, 1, 2, 3, 4, 5, 6, 7, 8] }

/-- `dpll.dco_freq` (R252). -/
def Obj.dpll_dco_freq : Row :=
  { name := "dpll.dco_freq", base := 0x3001, n := 5, kI := 65536, ty := .u64, acc := .rw, p := true, b := true, twin := 1, dflt := fun _ i _ => .n (if i = 2 then 10312500000000 else 10000000000000), rng := .within (10000000000000) 12500000000000 }

/-- `dpll.prescale` (R252). -/
def Obj.dpll_prescale : Row :=
  { name := "dpll.prescale", base := 0x3002, n := 5, kI := 65536, ty := .enum, acc := .rw, p := true, b := true, twin := 1, dflt := nval 1, rng := .among [0, 1, 2] }

/-- `dpll.bw` (R252). -/
def Obj.dpll_bw : Row :=
  { name := "dpll.bw", base := 0x3003, n := 5, kI := 65536, ty := .enum, acc := .rw, p := true, b := true, twin := 1, dflt := fun _ i _ => .n (if i = 0 then 14 else 15), rng := .within (0) 20 }

/-- `dpll.acq_bw` (R252). -/
def Obj.dpll_acq_bw : Row :=
  { name := "dpll.acq_bw", base := 0x3004, n := 5, kI := 65536, ty := .enum, acc := .rw, p := true, b := true, twin := 1, dflt := nval 15, rng := .within (0) 20 }

/-- `dpll.int2` (R252). -/
def Obj.dpll_int2 : Row :=
  { name := "dpll.int2", base := 0x3005, n := 5, kI := 65536, ty := .bool, acc := .rw, p := true, b := true, twin := 1, rng := .among [0, 1] }

/-- `dpll.lock_window` (R252). -/
def Obj.dpll_lock_window : Row :=
  { name := "dpll.lock_window", base := 0x3006, n := 5, kI := 65536, ty := .u32, acc := .rw, p := true, b := true, twin := 1, dflt := fun _ i _ => .n (if i = 0 then 2000 else 500), rng := .within (10) 1000000 }

/-- `dpll.lock_time` (R252). -/
def Obj.dpll_lock_time : Row :=
  { name := "dpll.lock_time", base := 0x3007, n := 5, kI := 65536, ty := .u16, acc := .rw, p := true, b := true, twin := 1, dflt := nval 10, rng := .within (1) 10000 }

/-- `dpll.unlock_count` (R252). -/
def Obj.dpll_unlock_count : Row :=
  { name := "dpll.unlock_count", base := 0x3008, n := 5, kI := 65536, ty := .u8, acc := .rw, p := true, b := true, twin := 1, dflt := nval 8, rng := .within (1) 255 }

/-- `dpll.relock_max` (R252). -/
def Obj.dpll_relock_max : Row :=
  { name := "dpll.relock_max", base := 0x3009, n := 5, kI := 65536, ty := .u16, acc := .rw, p := true, b := true, twin := 1, dflt := nval 1000, rng := .within (10) 60000 }

/-- `dpll.hitless` (R252). -/
def Obj.dpll_hitless : Row :=
  { name := "dpll.hitless", base := 0x300A, n := 5, kI := 65536, ty := .bool, acc := .rw, p := true, b := true, twin := 1, rng := .among [0, 1] }

/-- `dpll.hitless_dev` (R252). -/
def Obj.dpll_hitless_dev : Row :=
  { name := "dpll.hitless_dev", base := 0x300B, n := 5, kI := 65536, ty := .u16, acc := .rw, p := true, b := true, twin := 1, dflt := nval 100, rng := .within (1) 1000 }

/-- `dpll.slew_rate` (R252). -/
def Obj.dpll_slew_rate : Row :=
  { name := "dpll.slew_rate", base := 0x300C, n := 5, kI := 65536, ty := .u32, acc := .rw, p := true, b := true, twin := 1, dflt := nval 1000, rng := .within (1) 100000 }

/-- `dpll.realign` (R252). -/
def Obj.dpll_realign : Row :=
  { name := "dpll.realign", base := 0x300D, n := 5, kI := 65536, ty := .u8, acc := .rwx, rng := .among [1] }

/-- `dpll.state` (R252). -/
def Obj.dpll_state : Row :=
  { name := "dpll.state", base := 0x3010, n := 5, kI := 65536, ty := .enum }

/-- `dpll.phase_err` (R252). -/
def Obj.dpll_phase_err : Row :=
  { name := "dpll.phase_err", base := 0x3011, n := 5, kI := 65536, ty := .i32 }

/-- `dpll.density` (R252). -/
def Obj.dpll_density : Row :=
  { name := "dpll.density", base := 0x3012, n := 5, kI := 65536, ty := .u16 }

/-- `dpll.unlocks` (R252). -/
def Obj.dpll_unlocks : Row :=
  { name := "dpll.unlocks", base := 0x3013, n := 5, kI := 65536, ty := .u32, acc := .rc }

/-- `dpll.dco_spare` (R252). -/
def Obj.dpll_dco_spare : Row :=
  { name := "dpll.dco_spare", base := 0x3014, ty := .enum }

/-- `lockpd.source` (R252). -/
def Obj.lockpd_source : Row :=
  { name := "lockpd.source", base := 0x30F0, n := 2, kI := 1, ty := .enum, acc := .rw, p := true, b := true, twin := 256, dflt := fun _ i _ => .n i, rng := .among [0, 1, 2, 3, 4] }

/-- `out.enable` (R252). -/
def Obj.out_enable : Row :=
  { name := "out.enable", base := 0x3800, n := 12, kI := 4096, ty := .bool, acc := .rw, p := true, b := true, twin := 1, rng := .among [0, 1] }

/-- `out.source` (R252). -/
def Obj.out_source : Row :=
  { name := "out.source", base := 0x3801, n := 12, kI := 4096, ty := .enum, acc := .rw, p := true, b := true, twin := 1, rng := .among [0, 1, 2, 3] }

/-- `out.divider` (R252). -/
def Obj.out_divider : Row :=
  { name := "out.divider", base := 0x3802, n := 12, kI := 4096, ty := .u32, acc := .rw, p := true, b := true, twin := 1, dflt := nval 1000, rng := .within (10) 4294967295 }

/-- `out.phase` (R252). -/
def Obj.out_phase : Row :=
  { name := "out.phase", base := 0x3803, n := 12, kI := 4096, ty := .u32, acc := .rw, p := true, b := true, twin := 1 }

/-- `out.delay` (R252). -/
def Obj.out_delay : Row :=
  { name := "out.delay", base := 0x3804, n := 12, kI := 4096, ty := .i16, acc := .rw, p := true, b := true, twin := 1, rng := .within (-2000) 2000 }

/-- `out.fmax` (R252). -/
def Obj.out_fmax : Row :=
  { name := "out.fmax", base := 0x3805, n := 12, kI := 4096, ty := .u32, acc := .rw, p := true, b := true, twin := 1, dflt := nval 1250000000, rng := .within (1) 1250000000 }

/-- `out.format` (R252). -/
def Obj.out_format : Row :=
  { name := "out.format", base := 0x3806, n := 12, kI := 4096, ty := .enum, acc := .rw, p := true, b := true, twin := 1, rng := .among [0, 1, 2, 3] }

/-- `out.state` (R252). -/
def Obj.out_state : Row :=
  { name := "out.state", base := 0x3808, n := 12, kI := 4096, ty := .enum }

/-- `out.freq` (R252). -/
def Obj.out_freq : Row :=
  { name := "out.freq", base := 0x3809, n := 12, kI := 4096, ty := .u64 }

/-- `out.aligned` (R252). -/
def Obj.out_aligned : Row :=
  { name := "out.aligned", base := 0x380A, n := 12, kI := 4096, ty := .bool }

/-- `out.gatings` (R252). -/
def Obj.out_gatings : Row :=
  { name := "out.gatings", base := 0x380B, n := 12, kI := 4096, ty := .u32, acc := .rc }

/-- `pps.enable` (R253). -/
def Obj.pps_enable : Row :=
  { name := "pps.enable", base := 0x3900, n := 4, kI := 1, ty := .bool, acc := .rw, p := true, b := true, twin := 256, rng := .among [0, 1] }

/-- `pps.source` (R253). -/
def Obj.pps_source : Row :=
  { name := "pps.source", base := 0x3902, n := 4, kI := 1, ty := .enum, acc := .rw, p := true, b := true, twin := 256, rng := .among [0, 1, 2, 3] }

/-- `pps.offset` (R253). -/
def Obj.pps_offset : Row :=
  { name := "pps.offset", base := 0x3904, n := 4, kI := 1, ty := .i64, acc := .rw, p := true, b := true, twin := 256, rng := .within (-499999999999) 499999999999 }

/-- `pps.width` (R253). -/
def Obj.pps_width : Row :=
  { name := "pps.width", base := 0x3906, n := 4, kI := 1, ty := .u32, acc := .rw, p := true, b := true, twin := 256, dflt := nval 100000000, rng := .within (100) 500000000 }

/-- `pps.polarity` (R253). -/
def Obj.pps_polarity : Row :=
  { name := "pps.polarity", base := 0x3908, n := 4, kI := 1, ty := .enum, acc := .rw, p := true, b := true, twin := 256, rng := .among [0, 1] }

/-- `pps.state` (R253). -/
def Obj.pps_state : Row :=
  { name := "pps.state", base := 0x390A, n := 4, kI := 1, ty := .enum }

/-- `pps.missed` (R253). -/
def Obj.pps_missed : Row :=
  { name := "pps.missed", base := 0x390B, n := 4, kI := 1, ty := .u32, acc := .rc }

/-- `uart.format` (R253). -/
def Obj.uart_format : Row :=
  { name := "uart.format", base := 0x3920, n := 2, kI := 1, ty := .enum, acc := .rw, p := true, b := true, twin := 256, rng := .among [0, 1, 2] }

/-- `uart.baud` (R253). -/
def Obj.uart_baud : Row :=
  { name := "uart.baud", base := 0x3922, n := 2, kI := 1, ty := .u32, acc := .rw, p := true, b := true, twin := 256, dflt := nval 9600, rng := .within (4800) 115200 }

/-- `uart.delay` (R253). -/
def Obj.uart_delay : Row :=
  { name := "uart.delay", base := 0x3924, n := 2, kI := 1, ty := .u16, acc := .rw, p := true, b := true, twin := 256, dflt := nval 10, rng := .within (0) 900 }

/-- `uart.talker` (R253). -/
def Obj.uart_talker : Row :=
  { name := "uart.talker", base := 0x3926, n := 2, kI := 1, ty := .octets 2 2, acc := .rw, p := true, b := true, twin := 256, dflt := oval [0x47, 0x4E], rng := .special fun _ _ v => v.bytes.all fun b => decide (65 ≤ b.toNat) && decide (b.toNat ≤ 90) }

/-- `uart.rx_format` (R253). -/
def Obj.uart_rx_format : Row :=
  { name := "uart.rx_format", base := 0x3928, n := 2, kI := 1, ty := .enum, acc := .rw, p := true, b := true, twin := 256, rng := .among [0, 1, 2] }

/-- `uart.rx_last` (R253). -/
def Obj.uart_rx_last : Row :=
  { name := "uart.rx_last", base := 0x392A, n := 2, kI := 1, ty := .octets 0 40, dflt := oval [] }

/-- `uart.rx_diff` (R253). -/
def Obj.uart_rx_diff : Row :=
  { name := "uart.rx_diff", base := 0x392B, n := 2, kI := 1, ty := .i32 }

/-- `uart.rx_errors` (R253). -/
def Obj.uart_rx_errors : Row :=
  { name := "uart.rx_errors", base := 0x392C, n := 2, kI := 1, ty := .u32, acc := .rc }

/-- `tic.timebase` (R277). -/
def Obj.tic_timebase : Row :=
  { name := "tic.timebase", base := 0x4000, ty := .enum, acc := .rw, p := true, b := true, twin := 1, rng := .among [0, 1] }

/-- `tic.tb_state` (R277). -/
def Obj.tic_tb_state : Row :=
  { name := "tic.tb_state", base := 0x4001, ty := .enum }

/-- `tic.tb_freq` (R277). -/
def Obj.tic_tb_freq : Row :=
  { name := "tic.tb_freq", base := 0x4002, ty := .freq64 }

/-- `tic.tb_losses` (R277). -/
def Obj.tic_tb_losses : Row :=
  { name := "tic.tb_losses", base := 0x4003, ty := .u32, acc := .rc }

/-- `tic.cal_hits` (R277). -/
def Obj.tic_cal_hits : Row :=
  { name := "tic.cal_hits", base := 0x4004, ty := .u8, acc := .rw, p := true, b := true, twin := 1, dflt := nval 20, rng := .within (20) 24 }

/-- `tic.cal_max_age` (R277). -/
def Obj.tic_cal_max_age : Row :=
  { name := "tic.cal_max_age", base := 0x4005, ty := .u16, acc := .rw, p := true, b := true, twin := 1, dflt := nval 10, rng := .within (1) 3600 }

/-- `tic.gate_polarity` (R277). -/
def Obj.tic_gate_polarity : Row :=
  { name := "tic.gate_polarity", base := 0x4006, ty := .u8, acc := .rw, p := true, b := true, twin := 1, rng := .within (0) 3 }

/-- `tic.period` (R277). -/
def Obj.tic_period : Row :=
  { name := "tic.period", base := 0x4007, ty := .u16, acc := .rw, p := true, b := true, twin := 1, dflt := nval 1000, rng := .special fun _ _ v => let x := v.num; decide (1 ≤ x) && (1000 % x == 0 || (x % 1000 == 0 && decide (x ≤ 10000))) }

/-- `tic.period_offset` (R277). -/
def Obj.tic_period_offset : Row :=
  { name := "tic.period_offset", base := 0x4008, ty := .i64, acc := .rw, p := true, b := true, twin := 1 }

/-- `tic.windows` (R277). -/
def Obj.tic_windows : Row :=
  { name := "tic.windows", base := 0x4010, n := 3, kI := 1, ty := .u32 }

/-- `tic.ref_interp` (R277). -/
def Obj.tic_ref_interp : Row :=
  { name := "tic.ref_interp", base := 0x4020, n := 9, kI := 1, ty := .enum }

/-- `tic.mode` (R277). -/
def Obj.tic_mode : Row :=
  { name := "tic.mode", base := 0x4100, n := 8, kI := 4096, ty := .enum, acc := .rw, p := true, b := true, twin := 1, rng := .among [0, 1, 2, 3] }

/-- `tic.edge` (R277). -/
def Obj.tic_edge : Row :=
  { name := "tic.edge", base := 0x4101, n := 8, kI := 4096, ty := .enum, acc := .rw, p := true, b := true, twin := 1, rng := .among [0, 1, 2] }

/-- `tic.threshold` (R277). -/
def Obj.tic_threshold : Row :=
  { name := "tic.threshold", base := 0x4102, n := 8, kI := 4096, ty := .u16, acc := .rw, p := true, b := true, twin := 1, dflt := nval 900, rng := .special fun _ _ v => let x := v.num; decide (100 ≤ x) && decide (x ≤ 2500) && x % 10 == 0 }

/-- `tic.hysteresis` (R277). -/
def Obj.tic_hysteresis : Row :=
  { name := "tic.hysteresis", base := 0x4103, n := 8, kI := 4096, ty := .enum, acc := .rw, p := true, b := true, twin := 1, dflt := nval 1, rng := .among [0, 1, 2, 3, 4] }

/-- `tic.holdoff` (R277). -/
def Obj.tic_holdoff : Row :=
  { name := "tic.holdoff", base := 0x4104, n := 8, kI := 4096, ty := .u32, acc := .rw, p := true, b := true, twin := 1, dflt := nval 8, rng := .within (1) 1000000 }

/-- `tic.gate` (R277). -/
def Obj.tic_gate : Row :=
  { name := "tic.gate", base := 0x4105, n := 8, kI := 4096, ty := .enum, acc := .rw, p := true, b := true, twin := 1, rng := .among [0, 1, 2, 3] }

/-- `tic.delay` (R277). -/
def Obj.tic_delay : Row :=
  { name := "tic.delay", base := 0x4106, n := 8, kI := 4096, ty := .i32, acc := .rw, p := true, b := true, twin := 1, rng := .within (-1000000) 1000000 }

/-- `tic.prescale` (R277). -/
def Obj.tic_prescale : Row :=
  { name := "tic.prescale", base := 0x4107, n := 8, kI := 4096, ty := .u32, acc := .rw, p := true, b := true, twin := 1, dflt := nval 1, rng := .within (1) 1000000 }

/-- `tic.nominal_hz` (R277). -/
def Obj.tic_nominal_hz : Row :=
  { name := "tic.nominal_hz", base := 0x4108, n := 8, kI := 4096, ty := .u32, acc := .rw, p := true, b := true, twin := 1, dflt := nval 10000000, rng := .within (1) 200000000 }

/-- `tic.interp` (R277). -/
def Obj.tic_interp : Row :=
  { name := "tic.interp", base := 0x4109, n := 8, kI := 4096, ty := .enum }

/-- `tic.bins` (R277). -/
def Obj.tic_bins : Row :=
  { name := "tic.bins", base := 0x410A, n := 8, kI := 4096, ty := .u16 }

/-- `tic.cal_age` (R277). -/
def Obj.tic_cal_age : Row :=
  { name := "tic.cal_age", base := 0x410B, n := 8, kI := 4096, ty := .u32 }

/-- `tic.pop` (R277). -/
def Obj.tic_pop : Row :=
  { name := "tic.pop", base := 0x410C, n := 8, kI := 4096, ty := .octets 32 32, acc := .rc, dflt := oval (zeros 32) }

/-- `tic.level` (R277). -/
def Obj.tic_level : Row :=
  { name := "tic.level", base := 0x410D, n := 8, kI := 4096, ty := .u16 }

/-- `tic.freq` (R277). -/
def Obj.tic_freq : Row :=
  { name := "tic.freq", base := 0x410E, n := 8, kI := 4096, ty := .freq64 }

/-- `tic.overruns` (R277). -/
def Obj.tic_overruns : Row :=
  { name := "tic.overruns", base := 0x410F, n := 8, kI := 4096, ty := .u32, acc := .rc }

/-- `tic.diff.enable` (R277). -/
def Obj.tic_diff_enable : Row :=
  { name := "tic.diff.enable", base := 0x4180, n := 8, kI := 4096, ty := .bool, acc := .rw, p := true, b := true, twin := 1, rng := .among [0, 1] }

/-- `tic.diff.start` (R277). -/
def Obj.tic_diff_start : Row :=
  { name := "tic.diff.start", base := 0x4181, n := 8, kI := 4096, ty := .u8, acc := .rw, p := true, b := true, twin := 1, rng := .within (0) 7 }

/-- `tic.diff.stop` (R277). -/
def Obj.tic_diff_stop : Row :=
  { name := "tic.diff.stop", base := 0x4182, n := 8, kI := 4096, ty := .u8, acc := .rw, p := true, b := true, twin := 1, dflt := nval 1, rng := .within (0) 7 }

/-- `tic.diff.gate` (R277). -/
def Obj.tic_diff_gate : Row :=
  { name := "tic.diff.gate", base := 0x4183, n := 8, kI := 4096, ty := .enum, acc := .rw, p := true, b := true, twin := 1, dflt := nval 3, rng := .among [1, 2, 3] }

/-- `tic.diff.pop` (R277). -/
def Obj.tic_diff_pop : Row :=
  { name := "tic.diff.pop", base := 0x4188, n := 8, kI := 4096, ty := .octets 32 32, acc := .rc, dflt := oval (zeros 32) }

/-- `tic.diff.level` (R277). -/
def Obj.tic_diff_level : Row :=
  { name := "tic.diff.level", base := 0x4189, n := 8, kI := 4096, ty := .u16 }

/-- `tic.diff.unpaired` (R277). -/
def Obj.tic_diff_unpaired : Row :=
  { name := "tic.diff.unpaired", base := 0x418A, n := 8, kI := 4096, ty := .u32, acc := .rc }

/-- `tic.diff.no_stop` (R277). -/
def Obj.tic_diff_no_stop : Row :=
  { name := "tic.diff.no_stop", base := 0x418B, n := 8, kI := 4096, ty := .u32, acc := .rc }

/-- `tic.diff.surplus` (R277). -/
def Obj.tic_diff_surplus : Row :=
  { name := "tic.diff.surplus", base := 0x418C, n := 8, kI := 4096, ty := .u32, acc := .rc }

/-- `tic.diff.overruns` (R277). -/
def Obj.tic_diff_overruns : Row :=
  { name := "tic.diff.overruns", base := 0x418D, n := 8, kI := 4096, ty := .u32, acc := .rc }

/-- `tic.diff.last` (R277). -/
def Obj.tic_diff_last : Row :=
  { name := "tic.diff.last", base := 0x418E, n := 8, kI := 4096, ty := .i64 }

/-- The rows of this file. -/
def Obj.rowsC : List Row :=
  [Obj.dpll_ref, Obj.dpll_dco_freq, Obj.dpll_prescale, Obj.dpll_bw, Obj.dpll_acq_bw, Obj.dpll_int2, Obj.dpll_lock_window, Obj.dpll_lock_time, Obj.dpll_unlock_count, Obj.dpll_relock_max, Obj.dpll_hitless, Obj.dpll_hitless_dev, Obj.dpll_slew_rate, Obj.dpll_realign, Obj.dpll_state, Obj.dpll_phase_err, Obj.dpll_density, Obj.dpll_unlocks, Obj.dpll_dco_spare, Obj.lockpd_source, Obj.out_enable, Obj.out_source, Obj.out_divider, Obj.out_phase, Obj.out_delay] ++
  [Obj.out_fmax, Obj.out_format, Obj.out_state, Obj.out_freq, Obj.out_aligned, Obj.out_gatings, Obj.pps_enable, Obj.pps_source, Obj.pps_offset, Obj.pps_width, Obj.pps_polarity, Obj.pps_state, Obj.pps_missed, Obj.uart_format, Obj.uart_baud, Obj.uart_delay, Obj.uart_talker, Obj.uart_rx_format, Obj.uart_rx_last, Obj.uart_rx_diff, Obj.uart_rx_errors, Obj.tic_timebase, Obj.tic_tb_state, Obj.tic_tb_freq, Obj.tic_tb_losses] ++
  [Obj.tic_cal_hits, Obj.tic_cal_max_age, Obj.tic_gate_polarity, Obj.tic_period, Obj.tic_period_offset, Obj.tic_windows, Obj.tic_ref_interp, Obj.tic_mode, Obj.tic_edge, Obj.tic_threshold, Obj.tic_hysteresis, Obj.tic_holdoff, Obj.tic_gate, Obj.tic_delay, Obj.tic_prescale, Obj.tic_nominal_hz, Obj.tic_interp, Obj.tic_bins, Obj.tic_cal_age, Obj.tic_pop, Obj.tic_level, Obj.tic_freq, Obj.tic_overruns, Obj.tic_diff_enable, Obj.tic_diff_start] ++
  [Obj.tic_diff_stop, Obj.tic_diff_gate, Obj.tic_diff_pop, Obj.tic_diff_level, Obj.tic_diff_unpaired, Obj.tic_diff_no_stop, Obj.tic_diff_surplus, Obj.tic_diff_overruns, Obj.tic_diff_last]

end Sys2Proof.Machine
end

