-- ==== Sys2Proof/Machine/ObjD.lean ====
section
/-! DEFINITION. The object tables: Gleaner, port and scheduling objects, written from the tables of their chapters. -/
namespace Sys2Proof.Machine

/-- `gnss.enable` (R314). -/
def Obj.gnss_enable : Row :=
  { name := "gnss.enable", base := 0x5000, ty := .bool, acc := .rw, p := true, b := true, twin := 1, dflt := nval 1, rng := .among [0, 1] }

/-- `gnss.systems` (R314). -/
def Obj.gnss_systems : Row :=
  { name := "gnss.systems", base := 0x5001, ty := .u8, acc := .rw, p := true, b := true, twin := 1, dflt := nval 15, rng := .within (0) 15 }

/-- `gnss.bands` (R314). -/
def Obj.gnss_bands : Row :=
  { name := "gnss.bands", base := 0x5002, ty := .enum, acc := .rw, p := true, b := true, twin := 1, dflt := nval 1, rng := .among [0, 1] }

/-- `gnss.ref_system` (R314). -/
def Obj.gnss_ref_system : Row :=
  { name := "gnss.ref_system", base := 0x5003, ty := .enum, acc := .rw, p := true, b := true, twin := 1, rng := .among [0, 1, 2] }

/-- `gnss.pos_mode` (R314). -/
def Obj.gnss_pos_mode : Row :=
  { name := "gnss.pos_mode", base := 0x5004, ty := .enum, acc := .rw, p := true, b := true, twin := 1, dflt := nval 1, rng := .among [0, 1, 2] }

/-- `gnss.position` (R314). -/
def Obj.gnss_position : Row :=
  { name := "gnss.position", base := 0x5005, ty := .octets 24 24, acc := .rw, p := true, b := true, twin := 1, dflt := oval (zeros 24) }

/-- `gnss.pos_unc` (R314). -/
def Obj.gnss_pos_unc : Row :=
  { name := "gnss.pos_unc", base := 0x5006, ty := .u32, acc := .rw, p := true, b := true, twin := 1, dflt := nval 1000, rng := .within (10) 100000000 }

/-- `gnss.survey_time` (R314). -/
def Obj.gnss_survey_time : Row :=
  { name := "gnss.survey_time", base := 0x5007, ty := .u32, acc := .rw, p := true, b := true, twin := 1, dflt := nval 7200, rng := .within (600) 604800 }

/-- `gnss.survey_acc` (R314). -/
def Obj.gnss_survey_acc : Row :=
  { name := "gnss.survey_acc", base := 0x5008, ty := .u32, acc := .rw, p := true, b := true, twin := 1, dflt := nval 1000, rng := .within (10) 100000 }

/-- `gnss.survey_state` (R314). -/
def Obj.gnss_survey_state : Row :=
  { name := "gnss.survey_state", base := 0x5009, ty := .enum }

/-- `gnss.survey_result` (R314). -/
def Obj.gnss_survey_result : Row :=
  { name := "gnss.survey_result", base := 0x500A, ty := .octets 28 28, p := true, dflt := oval (zeros 28) }

/-- `gnss.resurvey` (R314). -/
def Obj.gnss_resurvey : Row :=
  { name := "gnss.resurvey", base := 0x500B, ty := .u8, acc := .rwx, rng := .among [1] }

/-- `gnss.min_sats` (R314). -/
def Obj.gnss_min_sats : Row :=
  { name := "gnss.min_sats", base := 0x500C, ty := .u8, acc := .rw, p := true, b := true, twin := 1, dflt := nval 1, rng := .within (1) 8 }

/-- `gnss.elev_mask` (R314). -/
def Obj.gnss_elev_mask : Row :=
  { name := "gnss.elev_mask", base := 0x500D, ty := .u8, acc := .rw, p := true, b := true, twin := 1, dflt := nval 10, rng := .within (0) 60 }

/-- `gnss.cn0_mask` (R314). -/
def Obj.gnss_cn0_mask : Row :=
  { name := "gnss.cn0_mask", base := 0x500E, ty := .u8, acc := .rw, p := true, b := true, twin := 1, dflt := nval 30, rng := .within (20) 45 }

/-- `gnss.tdop_max` (R314). -/
def Obj.gnss_tdop_max : Row :=
  { name := "gnss.tdop_max", base := 0x500F, ty := .u16, acc := .rw, p := true, b := true, twin := 1, dflt := nval 5000, rng := .within (1000) 20000 }

/-- `gnss.ant_delay_l1` (R314). -/
def Obj.gnss_ant_delay_l1 : Row :=
  { name := "gnss.ant_delay_l1", base := 0x5010, ty := .i32, acc := .rw, p := true, b := true, twin := 1, rng := .within (-10000000) 10000000 }

/-- `gnss.ant_delay_l5` (R314). -/
def Obj.gnss_ant_delay_l5 : Row :=
  { name := "gnss.ant_delay_l5", base := 0x5011, ty := .i32, acc := .rw, p := true, b := true, twin := 1, rng := .within (-10000000) 10000000 }

/-- `gnss.ant_delay_unc` (R314). -/
def Obj.gnss_ant_delay_unc : Row :=
  { name := "gnss.ant_delay_unc", base := 0x5012, ty := .u32, acc := .rw, p := true, b := true, twin := 1, dflt := nval 1000, rng := .within (0) 100000000 }

/-- `gnss.unc_k` (R314). -/
def Obj.gnss_unc_k : Row :=
  { name := "gnss.unc_k", base := 0x5013, ty := .u8, acc := .rw, p := true, b := true, twin := 1, dflt := nval 5, rng := .within (3) 10 }

/-- `gnss.mp_allow` (R314). -/
def Obj.gnss_mp_allow : Row :=
  { name := "gnss.mp_allow", base := 0x5014, ty := .u32, acc := .rw, p := true, b := true, twin := 1, dflt := nval 1000, rng := .within (0) 100000000 }

/-- `gnss.sys_unc` (R314). -/
def Obj.gnss_sys_unc : Row :=
  { name := "gnss.sys_unc", base := 0x5015, ty := .u32, acc := .rw, p := true, b := true, twin := 1, dflt := nval 2000, rng := .within (0) 100000000 }

/-- `gnss.iono_floor` (R314). -/
def Obj.gnss_iono_floor : Row :=
  { name := "gnss.iono_floor", base := 0x5016, ty := .u32, acc := .rw, p := true, b := true, twin := 1, dflt := nval 5000, rng := .within (0) 100000000 }

/-- `gnss.bias_unc` (R314). -/
def Obj.gnss_bias_unc : Row :=
  { name := "gnss.bias_unc", base := 0x5017, ty := .u32, acc := .rw, p := true, b := true, twin := 1, dflt := nval 5000, rng := .within (0) 100000000 }

/-- `gnss.fde_k` (R314). -/
def Obj.gnss_fde_k : Row :=
  { name := "gnss.fde_k", base := 0x5018, ty := .u8, acc := .rw, p := true, b := true, twin := 1, dflt := nval 4, rng := .within (3) 10 }

/-- `gnss.smooth` (R314). -/
def Obj.gnss_smooth : Row :=
  { name := "gnss.smooth", base := 0x5019, ty := .u16, acc := .rw, p := true, b := true, twin := 1, dflt := nval 100, rng := .within (1) 600 }

/-- `gnss.fe_reinit` (R314). -/
def Obj.gnss_fe_reinit : Row :=
  { name := "gnss.fe_reinit", base := 0x501A, ty := .u8, acc := .rwx, rng := .among [1] }

/-- `gnss.pll_bw` (R314). -/
def Obj.gnss_pll_bw : Row :=
  { name := "gnss.pll_bw", base := 0x5020, ty := .u16, acc := .rw, p := true, b := true, twin := 1, dflt := nval 150, rng := .within (10) 500 }

/-- `gnss.dll_bw` (R314). -/
def Obj.gnss_dll_bw : Row :=
  { name := "gnss.dll_bw", base := 0x5021, ty := .u16, acc := .rw, p := true, b := true, twin := 1, dflt := nval 50, rng := .within (1) 500 }

/-- `gnss.el_spacing_l1` (R314). -/
def Obj.gnss_el_spacing_l1 : Row :=
  { name := "gnss.el_spacing_l1", base := 0x5022, ty := .u8, acc := .rw, p := true, b := true, twin := 1, dflt := nval 3, rng := .within (2) 32 }

/-- `gnss.el_spacing_l5` (R314). -/
def Obj.gnss_el_spacing_l5 : Row :=
  { name := "gnss.el_spacing_l5", base := 0x5023, ty := .u8, acc := .rw, p := true, b := true, twin := 1, dflt := nval 16, rng := .within (2) 32 }

/-- `gnss.coast_max` (R314). -/
def Obj.gnss_coast_max : Row :=
  { name := "gnss.coast_max", base := 0x5024, ty := .u16, acc := .rw, p := true, b := true, twin := 1, dflt := nval 2000, rng := .within (100) 10000 }

/-- `gnss.acq_coh` (R314). -/
def Obj.gnss_acq_coh : Row :=
  { name := "gnss.acq_coh", base := 0x5028, ty := .u8, acc := .rw, p := true, b := true, twin := 1, dflt := nval 1, rng := .within (1) 10 }

/-- `gnss.acq_noncoh` (R314). -/
def Obj.gnss_acq_noncoh : Row :=
  { name := "gnss.acq_noncoh", base := 0x5029, ty := .u8, acc := .rw, p := true, b := true, twin := 1, dflt := nval 4, rng := .within (1) 10 }

/-- `gnss.acq_thresh` (R314). -/
def Obj.gnss_acq_thresh : Row :=
  { name := "gnss.acq_thresh", base := 0x502A, ty := .u16, acc := .rw, p := true, b := true, twin := 1, dflt := nval 260, rng := .within (100) 1000 }

/-- `gnss.l5_direct` (R314). -/
def Obj.gnss_l5_direct : Row :=
  { name := "gnss.l5_direct", base := 0x502B, ty := .bool, acc := .rw, p := true, b := true, twin := 1, rng := .among [0, 1] }

/-- `gnss.aid_time` (R314). -/
def Obj.gnss_aid_time : Row :=
  { name := "gnss.aid_time", base := 0x502C, ty := .time128, acc := .rw, im := true }

/-- `gnss.start_type` (R314). -/
def Obj.gnss_start_type : Row :=
  { name := "gnss.start_type", base := 0x502D, ty := .enum }

/-- `gnss.ttff` (R314). -/
def Obj.gnss_ttff : Row :=
  { name := "gnss.ttff", base := 0x502E, ty := .u32 }

/-- `gnss.restart` (R314). -/
def Obj.gnss_restart : Row :=
  { name := "gnss.restart", base := 0x502F, ty := .u8, acc := .rwx, rng := .among [1, 2] }

/-- `gnss.fe_format` (R314). -/
def Obj.gnss_fe_format : Row :=
  { name := "gnss.fe_format", base := 0x5030, ty := .enum, acc := .rw, p := true, b := true, twin := 1, rng := .among [0, 1] }

/-- `gnss.if_l1` (R314). -/
def Obj.gnss_if_l1 : Row :=
  { name := "gnss.if_l1", base := 0x5031, ty := .i32, acc := .rw, p := true, b := true, twin := 1, rng := .within (-20000000) 20000000 }

/-- `gnss.if_l5` (R314). -/
def Obj.gnss_if_l5 : Row :=
  { name := "gnss.if_l5", base := 0x5032, ty := .i32, acc := .rw, p := true, b := true, twin := 1, rng := .within (-20000000) 20000000 }

/-- `gnss.fe_pipe` (R314). -/
def Obj.gnss_fe_pipe : Row :=
  { name := "gnss.fe_pipe", base := 0x5033, ty := .u8, acc := .rw, p := true, b := true, twin := 1, rng := .within (0) 15 }

/-- `gnss.fe_init` (R314). -/
def Obj.gnss_fe_init : Row :=
  { name := "gnss.fe_init", base := 0x5034, ty := .octets 0 256, acc := .rw, p := true, b := true, twin := 1, dflt := oval [] }

/-- `gnss.agc_mode` (R314). -/
def Obj.gnss_agc_mode : Row :=
  { name := "gnss.agc_mode", base := 0x5035, ty := .enum, acc := .rw, p := true, b := true, twin := 1, dflt := nval 1, rng := .among [0, 1, 2] }

/-- `gnss.agc_target` (R314). -/
def Obj.gnss_agc_target : Row :=
  { name := "gnss.agc_target", base := 0x5036, ty := .u8, acc := .rw, p := true, b := true, twin := 1, dflt := nval 30, rng := .within (10) 60 }

/-- `gnss.agc_cmd` (R314). -/
def Obj.gnss_agc_cmd : Row :=
  { name := "gnss.agc_cmd", base := 0x5037, ty := .octets 4 4, acc := .rw, p := true, b := true, twin := 1, dflt := oval (zeros 4) }

/-- `gnss.agc_gain` (R314). -/
def Obj.gnss_agc_gain : Row :=
  { name := "gnss.agc_gain", base := 0x5038, n := 2, kI := 1, ty := .u8 }

/-- `gnss.band_state` (R314). -/
def Obj.gnss_band_state : Row :=
  { name := "gnss.band_state", base := 0x5039, n := 2, kI := 1, ty := .enum }

/-- `gnss.epoch` (R314). -/
def Obj.gnss_epoch : Row :=
  { name := "gnss.epoch", base := 0x5040, ty := .octets 48 48, dflt := oval (zeros 48) }

/-- `gnss.pps_stamp` (R314). -/
def Obj.gnss_pps_stamp : Row :=
  { name := "gnss.pps_stamp", base := 0x5041, ty := .stamp128 }

/-- `gnss.solution` (R314). -/
def Obj.gnss_solution : Row :=
  { name := "gnss.solution", base := 0x5042, ty := .enum }

/-- `gnss.sats_used` (R314). -/
def Obj.gnss_sats_used : Row :=
  { name := "gnss.sats_used", base := 0x5043, ty := .u8 }

/-- `gnss.sys_bias` (R314). -/
def Obj.gnss_sys_bias : Row :=
  { name := "gnss.sys_bias", base := 0x5044, n := 4, kI := 1, ty := .i64 }

/-- `gnss.utc_valid` (R314). -/
def Obj.gnss_utc_valid : Row :=
  { name := "gnss.utc_valid", base := 0x5045, ty := .bool }

/-- `gnss.utc_offset` (R314). -/
def Obj.gnss_utc_offset : Row :=
  { name := "gnss.utc_offset", base := 0x5046, ty := .i16 }

/-- `gnss.leap_pending` (R314). -/
def Obj.gnss_leap_pending : Row :=
  { name := "gnss.leap_pending", base := 0x5047, ty := .enum }

/-- `gnss.leap_time` (R314). -/
def Obj.gnss_leap_time : Row :=
  { name := "gnss.leap_time", base := 0x5048, ty := .time128 }

/-- `gnss.reports_missed` (R314). -/
def Obj.gnss_reports_missed : Row :=
  { name := "gnss.reports_missed", base := 0x5049, ty := .u32, acc := .rc }

/-- `gnss.agc_tol` (R314). -/
def Obj.gnss_agc_tol : Row :=
  { name := "gnss.agc_tol", base := 0x5050, ty := .u8, acc := .rw, p := true, b := true, twin := 1, dflt := nval 12, rng := .within (1) 64 }

/-- `gnss.noise_tol` (R314). -/
def Obj.gnss_noise_tol : Row :=
  { name := "gnss.noise_tol", base := 0x5051, ty := .u8, acc := .rw, p := true, b := true, twin := 1, dflt := nval 6, rng := .within (1) 20 }

/-- `gnss.cn0_max` (R314). -/
def Obj.gnss_cn0_max : Row :=
  { name := "gnss.cn0_max", base := 0x5052, ty := .u8, acc := .rw, p := true, b := true, twin := 1, dflt := nval 55, rng := .within (45) 70 }

/-- `gnss.jump_min` (R314). -/
def Obj.gnss_jump_min : Row :=
  { name := "gnss.jump_min", base := 0x5053, ty := .u32, acc := .rw, p := true, b := true, twin := 1, dflt := nval 50000, rng := .within (1000) 1000000000 }

/-- `gnss.pos_jump` (R314). -/
def Obj.gnss_pos_jump : Row :=
  { name := "gnss.pos_jump", base := 0x5054, ty := .u32, acc := .rw, p := true, b := true, twin := 1, dflt := nval 50, rng := .within (10) 10000 }

/-- `gnss.spoof_hold` (R314). -/
def Obj.gnss_spoof_hold : Row :=
  { name := "gnss.spoof_hold", base := 0x5055, ty := .u16, acc := .rw, p := true, b := true, twin := 1, dflt := nval 60, rng := .within (10) 3600 }

/-- `gnss.indicators` (R314). -/
def Obj.gnss_indicators : Row :=
  { name := "gnss.indicators", base := 0x5056, ty := .u8 }

/-- `gnss.ind_history` (R314). -/
def Obj.gnss_ind_history : Row :=
  { name := "gnss.ind_history", base := 0x5057, ty := .u8, acc := .rc }

/-- `gnss.groups` (R314). -/
def Obj.gnss_groups : Row :=
  { name := "gnss.groups", base := 0x5060, ty := .u16 }

/-- `gnss.store_interval` (R314). -/
def Obj.gnss_store_interval : Row :=
  { name := "gnss.store_interval", base := 0x5061, ty := .u32, acc := .rw, p := true, b := true, twin := 1, dflt := nval 3600, rng := .within (600) 86400 }

/-- `gnss.ch.assign` (R315). -/
def Obj.gnss_ch_assign : Row :=
  { name := "gnss.ch.assign", base := 0x5400, n := 128, kI := 2048, ty := .u16 }

/-- `gnss.ch.state` (R315). -/
def Obj.gnss_ch_state : Row :=
  { name := "gnss.ch.state", base := 0x5401, n := 128, kI := 2048, ty := .enum }

/-- `gnss.ch.cn0` (R315). -/
def Obj.gnss_ch_cn0 : Row :=
  { name := "gnss.ch.cn0", base := 0x5402, n := 128, kI := 2048, ty := .u16 }

/-- `gnss.ch.doppler` (R315). -/
def Obj.gnss_ch_doppler : Row :=
  { name := "gnss.ch.doppler", base := 0x5403, n := 128, kI := 2048, ty := .i32 }

/-- `gnss.ch.code_phase` (R315). -/
def Obj.gnss_ch_code_phase : Row :=
  { name := "gnss.ch.code_phase", base := 0x5404, n := 128, kI := 2048, ty := .u32 }

/-- `gnss.ch.residual` (R315). -/
def Obj.gnss_ch_residual : Row :=
  { name := "gnss.ch.residual", base := 0x5405, n := 128, kI := 2048, ty := .i32 }

/-- `gnss.ch.elev` (R315). -/
def Obj.gnss_ch_elev : Row :=
  { name := "gnss.ch.elev", base := 0x5406, n := 128, kI := 2048, ty := .i16 }

/-- `gnss.ch.flags` (R315). -/
def Obj.gnss_ch_flags : Row :=
  { name := "gnss.ch.flags", base := 0x5407, n := 128, kI := 2048, ty := .u16 }

/-- `mac.mode` (R349). -/
def Obj.mac_mode : Row :=
  { name := "mac.mode", base := 0x6100, n := 9, kI := 65536, ty := .enum, acc := .rw, p := true, b := true, twin := 1, dflt := fun _ i _ => .n (if i = 8 then 1 else 0), rng := .special fun i _ v => decide (0 ≤ v.num) && decide (v.num ≤ 5) && (i != 8 || (decide (1 ≤ v.num) && decide (v.num ≤ 3))) }

/-- `mac.address` (R349). -/
def Obj.mac_address : Row :=
  { name := "mac.address", base := 0x6101, n := 9, kI := 65536, ty := .octets 6 6, acc := .rw, p := true, b := true, twin := 1, dflt := fun d i _ => .o (beBytes 6 (d.macBase + i)), rng := .special fun _ _ v => (v.bytes.headD 1).toNat % 2 == 0 }

/-- `mac.maxlen` (R349). -/
def Obj.mac_maxlen : Row :=
  { name := "mac.maxlen", base := 0x6102, n := 9, kI := 65536, ty := .u16, acc := .rw, p := true, b := true, twin := 1, dflt := fun _ i _ => .n (if i = 8 then 9216 else 1522), rng := .within (64) 9216 }

/-- `mac.pause_mode` (R349). -/
def Obj.mac_pause_mode : Row :=
  { name := "mac.pause_mode", base := 0x6103, n := 9, kI := 65536, ty := .enum, acc := .rw, p := true, b := true, twin := 1, rng := .among [0, 1] }

/-- `mac.punt_mask` (R349). -/
def Obj.mac_punt_mask : Row :=
  { name := "mac.punt_mask", base := 0x6104, n := 9, kI := 65536, ty := .u32, acc := .rw, p := true, b := true, twin := 1, dflt := nval 3522, rng := .special fun _ _ v => v.num % 2 == 0 && decide (v.num < 0x2000) }

/-- `mac.ctl_queue` (R349). -/
def Obj.mac_ctl_queue : Row :=
  { name := "mac.ctl_queue", base := 0x6105, n := 9, kI := 65536, ty := .u8, acc := .rw, p := true, b := true, twin := 1, dflt := nval 3, rng := .within (0) 7 }

/-- `mac.icmp_rate` (R349). -/
def Obj.mac_icmp_rate : Row :=
  { name := "mac.icmp_rate", base := 0x6106, n := 9, kI := 65536, ty := .u32, acc := .rw, p := true, b := true, twin := 1, dflt := nval 1000, rng := .within (0) 1000000 }

/-- `mac.tx_clock` (R349). -/
def Obj.mac_tx_clock : Row :=
  { name := "mac.tx_clock", base := 0x6107, n := 9, kI := 65536, ty := .enum, acc := .rw, p := true, b := true, twin := 1, rng := .among [0, 1] }

/-- `mac.up_delay` (R349). -/
def Obj.mac_up_delay : Row :=
  { name := "mac.up_delay", base := 0x6108, n := 9, kI := 65536, ty := .u16, acc := .rw, p := true, b := true, twin := 1, dflt := nval 100, rng := .within (0) 10000 }

/-- `mac.down_delay` (R349). -/
def Obj.mac_down_delay : Row :=
  { name := "mac.down_delay", base := 0x6109, n := 9, kI := 65536, ty := .u16, acc := .rw, p := true, b := true, twin := 1, dflt := nval 1, rng := .within (0) 1000 }

/-- `mac.an` (R349). -/
def Obj.mac_an : Row :=
  { name := "mac.an", base := 0x610A, n := 9, kI := 65536, ty := .enum, acc := .rw, p := true, b := true, twin := 1, dflt := nval 1, rng := .among [0, 1] }

/-- `mac.rx_reserve` (R349). -/
def Obj.mac_rx_reserve : Row :=
  { name := "mac.rx_reserve", base := 0x610B, n := 9, kI := 65536, ty := .u16, acc := .rw, p := true, b := true, twin := 1, dflt := nval 1024, rng := .within (0) 4096 }

/-- `mac.resp_pcp` (R349). -/
def Obj.mac_resp_pcp : Row :=
  { name := "mac.resp_pcp", base := 0x610C, n := 9, kI := 65536, ty := .u8, acc := .rw, p := true, b := true, twin := 1, rng := .within (0) 7 }

/-- `mac.announce` (R349). -/
def Obj.mac_announce : Row :=
  { name := "mac.announce", base := 0x610D, n := 9, kI := 65536, ty := .bool, acc := .rw, p := true, b := true, twin := 1, dflt := nval 1, rng := .among [0, 1] }

/-- `serdes.tx_eq` (R349). -/
def Obj.serdes_tx_eq : Row :=
  { name := "serdes.tx_eq", base := 0x610E, n := 9, kI := 65536, ty := .u32, acc := .rw, p := true, b := true, twin := 1, dflt := nval 16128, rng := .special fun _ _ v => let x := v.num.toNat; decide (x / 0x1000000 = 0) && decide (x / 0x10000 % 256 ≤ 15) && decide (x / 0x100 % 256 ≤ 63) && decide (x % 256 ≤ 31) }

/-- `serdes.polarity` (R349). -/
def Obj.serdes_polarity : Row :=
  { name := "serdes.polarity", base := 0x610F, n := 9, kI := 65536, ty := .u8, acc := .rw, p := true, b := true, twin := 1, rng := .within (0) 3 }

/-- `serdes.rx_adapt` (R349). -/
def Obj.serdes_rx_adapt : Row :=
  { name := "serdes.rx_adapt", base := 0x6110, n := 9, kI := 65536, ty := .enum, acc := .rw, p := true, b := true, twin := 1, rng := .among [0, 1] }

/-- `mac.link` (R349). -/
def Obj.mac_link : Row :=
  { name := "mac.link", base := 0x6111, n := 9, kI := 65536, ty := .enum }

/-- `mac.an_result` (R349). -/
def Obj.mac_an_result : Row :=
  { name := "mac.an_result", base := 0x6112, n := 9, kI := 65536, ty := .enum }

/-- `serdes.eye` (R349). -/
def Obj.serdes_eye : Row :=
  { name := "serdes.eye", base := 0x6113, n := 9, kI := 65536, ty := .u16 }

/-- `mac.served` (R349). -/
def Obj.mac_served : Row :=
  { name := "mac.served", base := 0x6120, n := 9, kI := 65536, m := 64, kJ := 1, ty := .octets 24 24, acc := .rw, p := true, b := true, twin := 256, dflt := oval (zeros 24), rng := .special fun _ _ v => servedOk v.bytes }

/-- `mac.rx_frames` (R349). -/
def Obj.mac_rx_frames : Row :=
  { name := "mac.rx_frames", base := 0x6140, n := 9, kI := 65536, ty := .u64, acc := .rc }

/-- `mac.rx_octets` (R349). -/
def Obj.mac_rx_octets : Row :=
  { name := "mac.rx_octets", base := 0x6141, n := 9, kI := 65536, ty := .u64, acc := .rc }

/-- `mac.tx_frames` (R349). -/
def Obj.mac_tx_frames : Row :=
  { name := "mac.tx_frames", base := 0x6142, n := 9, kI := 65536, ty := .u64, acc := .rc }

/-- `mac.tx_octets` (R349). -/
def Obj.mac_tx_octets : Row :=
  { name := "mac.tx_octets", base := 0x6143, n := 9, kI := 65536, ty := .u64, acc := .rc }

/-- `mac.rx_runt` (R349). -/
def Obj.mac_rx_runt : Row :=
  { name := "mac.rx_runt", base := 0x6144, n := 9, kI := 65536, ty := .u64, acc := .rc }

/-- `mac.rx_oversize` (R349). -/
def Obj.mac_rx_oversize : Row :=
  { name := "mac.rx_oversize", base := 0x6145, n := 9, kI := 65536, ty := .u64, acc := .rc }

/-- `mac.rx_fcs_err` (R349). -/
def Obj.mac_rx_fcs_err : Row :=
  { name := "mac.rx_fcs_err", base := 0x6146, n := 9, kI := 65536, ty := .u64, acc := .rc }

/-- `mac.rx_code_err` (R349). -/
def Obj.mac_rx_code_err : Row :=
  { name := "mac.rx_code_err", base := 0x6147, n := 9, kI := 65536, ty := .u64, acc := .rc }

/-- `mac.rx_filtered` (R349). -/
def Obj.mac_rx_filtered : Row :=
  { name := "mac.rx_filtered", base := 0x6148, n := 9, kI := 65536, ty := .u64, acc := .rc }

/-- `mac.rx_pool_drop` (R349). -/
def Obj.mac_rx_pool_drop : Row :=
  { name := "mac.rx_pool_drop", base := 0x6149, n := 9, kI := 65536, ty := .u64, acc := .rc }

/-- `mac.rx_served` (R349). -/
def Obj.mac_rx_served : Row :=
  { name := "mac.rx_served", base := 0x614A, n := 9, kI := 65536, ty := .u64, acc := .rc }

/-- `mac.rx_answered` (R349). -/
def Obj.mac_rx_answered : Row :=
  { name := "mac.rx_answered", base := 0x614B, n := 9, kI := 65536, ty := .u64, acc := .rc }

/-- `mac.rx_punted` (R349). -/
def Obj.mac_rx_punted : Row :=
  { name := "mac.rx_punted", base := 0x614C, n := 9, kI := 65536, ty := .u64, acc := .rc }

/-- `mac.punt_drops` (R349). -/
def Obj.mac_punt_drops : Row :=
  { name := "mac.punt_drops", base := 0x614D, n := 9, kI := 65536, ty := .u64, acc := .rc }

/-- `mac.rx_discarded` (R349). -/
def Obj.mac_rx_discarded : Row :=
  { name := "mac.rx_discarded", base := 0x614E, n := 9, kI := 65536, ty := .u64, acc := .rc }

/-- `mac.rx_pause` (R349). -/
def Obj.mac_rx_pause : Row :=
  { name := "mac.rx_pause", base := 0x614F, n := 9, kI := 65536, ty := .u64, acc := .rc }

/-- `mac.rx_pfc` (R349). -/
def Obj.mac_rx_pfc : Row :=
  { name := "mac.rx_pfc", base := 0x6150, n := 9, kI := 65536, ty := .u64, acc := .rc }

/-- `mac.rx_mac_ctl` (R349). -/
def Obj.mac_rx_mac_ctl : Row :=
  { name := "mac.rx_mac_ctl", base := 0x6151, n := 9, kI := 65536, ty := .u64, acc := .rc }

/-- `mac.pause_ns` (R349). -/
def Obj.mac_pause_ns : Row :=
  { name := "mac.pause_ns", base := 0x6152, n := 9, kI := 65536, ty := .u64, acc := .rc }

/-- `mac.tx_flushed` (R349). -/
def Obj.mac_tx_flushed : Row :=
  { name := "mac.tx_flushed", base := 0x6153, n := 9, kI := 65536, ty := .u64, acc := .rc }

/-- `mac.tx_drop_full` (R349). -/
def Obj.mac_tx_drop_full : Row :=
  { name := "mac.tx_drop_full", base := 0x6154, n := 9, kI := 65536, ty := .u64, acc := .rc }

/-- `mac.fec_corrected` (R349). -/
def Obj.mac_fec_corrected : Row :=
  { name := "mac.fec_corrected", base := 0x6155, n := 9, kI := 65536, ty := .u64, acc := .rc }

/-- `mac.fec_uncorrected` (R349). -/
def Obj.mac_fec_uncorrected : Row :=
  { name := "mac.fec_uncorrected", base := 0x6156, n := 9, kI := 65536, ty := .u64, acc := .rc }

/-- `mac.link_downs` (R349). -/
def Obj.mac_link_downs : Row :=
  { name := "mac.link_downs", base := 0x6157, n := 9, kI := 65536, ty := .u64, acc := .rc }

/-- `mac.icmp_limited` (R349). -/
def Obj.mac_icmp_limited : Row :=
  { name := "mac.icmp_limited", base := 0x6158, n := 9, kI := 65536, ty := .u64, acc := .rc }

/-- `mac.addr_conflict` (R349). -/
def Obj.mac_addr_conflict : Row :=
  { name := "mac.addr_conflict", base := 0x6159, n := 9, kI := 65536, ty := .u64, acc := .rc }

/-- `hp.ethertype` (R349). -/
def Obj.hp_ethertype : Row :=
  { name := "hp.ethertype", base := 0x6000, ty := .u16, acc := .rw, p := true, b := true, twin := 1, dflt := nval 34998, rng := .special fun _ _ v => !([0x0800, 0x86DD, 0x8100, 0x88A8, 0x8808] : List Int).contains v.num }

/-- `ports.mac_base` (R349). -/
def Obj.ports_mac_base : Row :=
  { name := "ports.mac_base", base := 0x6001, ty := .octets 6 6, dflt := fun d _ _ => .o (beBytes 6 d.macBase) }

/-- `hp.host_mac` (R349). -/
def Obj.hp_host_mac : Row :=
  { name := "hp.host_mac", base := 0x6002, ty := .octets 6 6, acc := .rw, p := true, b := true, twin := 1, dflt := oval (List.replicate 6 0xFF) }

/-- `hp.punt_queue` (R349). -/
def Obj.hp_punt_queue : Row :=
  { name := "hp.punt_queue", base := 0x6003, ty := .u8, acc := .rw, p := true, b := true, twin := 1, rng := .within (0) 7 }

/-- `hp.bad_send` (R349). -/
def Obj.hp_bad_send : Row :=
  { name := "hp.bad_send", base := 0x6004, ty := .u64, acc := .rc }

/-- `hp.no_encap` (R349). -/
def Obj.hp_no_encap : Row :=
  { name := "hp.no_encap", base := 0x6005, ty := .u64, acc := .rc }

/-- `sched.grid` (R375). -/
def Obj.sched_grid : Row :=
  { name := "sched.grid", base := 0x6180, n := 9, kI := 65536, ty := .enum, acc := .rw, p := true, b := true, twin := 1, dflt := nval 1, rng := .among [0, 1, 2, 3] }

/-- `sched.privileged` (R375). -/
def Obj.sched_privileged : Row :=
  { name := "sched.privileged", base := 0x6181, n := 9, kI := 65536, ty := .bool, acc := .rw, p := true, b := true, twin := 1, rng := .among [0, 1] }

/-- `sched.quantum` (R375). -/
def Obj.sched_quantum : Row :=
  { name := "sched.quantum", base := 0x6182, n := 9, kI := 65536, m := 8, kJ := 1, ty := .u16, acc := .rw, p := true, b := true, twin := 256, dflt := nval 2048, rng := .within (64) 65535 }

/-- `queue.cells` (R375). -/
def Obj.queue_cells : Row :=
  { name := "queue.cells", base := 0x6184, n := 9, kI := 65536, m := 8, kJ := 1, ty := .u16, acc := .rw, p := true, b := true, twin := 256, dflt := nval 768, rng := .within (24) 6144 }

/-- `shaper.rate` (R375). -/
def Obj.shaper_rate : Row :=
  { name := "shaper.rate", base := 0x6186, n := 9, kI := 65536, m := 8, kJ := 1, ty := .u64, acc := .rw, p := true, b := true, twin := 256, rng := .withinOr (1000000) 25000000000 [0] }

/-- `shaper.burst` (R375). -/
def Obj.shaper_burst : Row :=
  { name := "shaper.burst", base := 0x6188, n := 9, kI := 65536, m := 8, kJ := 1, ty := .u32, acc := .rw, p := true, b := true, twin := 256, dflt := nval 3000, rng := .within (64) 16777215 }

/-- `shaper.reset_mode` (R375). -/
def Obj.shaper_reset_mode : Row :=
  { name := "shaper.reset_mode", base := 0x618A, n := 9, kI := 65536, m := 8, kJ := 1, ty := .enum, acc := .rw, p := true, b := true, twin := 256, rng := .among [0, 1] }

/-- `queue.state` (R375). -/
def Obj.queue_state : Row :=
  { name := "queue.state", base := 0x6190, n := 9, kI := 65536, m := 8, kJ := 1, ty := .enum }

/-- `queue.level` (R375). -/
def Obj.queue_level : Row :=
  { name := "queue.level", base := 0x6191, n := 9, kI := 65536, m := 8, kJ := 1, ty := .u16 }

/-- `shaper.tokens` (R375). -/
def Obj.shaper_tokens : Row :=
  { name := "shaper.tokens", base := 0x6192, n := 9, kI := 65536, m := 8, kJ := 1, ty := .i64 }

/-- `queue.tx_frames` (R375). -/
def Obj.queue_tx_frames : Row :=
  { name := "queue.tx_frames", base := 0x6193, n := 9, kI := 65536, m := 8, kJ := 1, ty := .u64, acc := .rc }

/-- `queue.tx_octets` (R375). -/
def Obj.queue_tx_octets : Row :=
  { name := "queue.tx_octets", base := 0x6194, n := 9, kI := 65536, m := 8, kJ := 1, ty := .u64, acc := .rc }

/-- `shaper.debt_discarded` (R375). -/
def Obj.shaper_debt_discarded : Row :=
  { name := "shaper.debt_discarded", base := 0x6195, n := 9, kI := 65536, m := 8, kJ := 1, ty := .u64, acc := .rc }

/-- `cal.reservations` (R375). -/
def Obj.cal_reservations : Row :=
  { name := "cal.reservations", base := 0x61A0, n := 9, kI := 65536, ty := .u64, acc := .rc }

/-- `cal.displaced` (R375). -/
def Obj.cal_displaced : Row :=
  { name := "cal.displaced", base := 0x61A1, n := 9, kI := 65536, ty := .u64, acc := .rc }

/-- `cal.level` (R375). -/
def Obj.cal_level : Row :=
  { name := "cal.level", base := 0x61A2, n := 9, kI := 65536, ty := .u16 }

/-- `pol.enable` (R376). -/
def Obj.pol_enable : Row :=
  { name := "pol.enable", base := 0x6A00, ty := .bool, acc := .rw, p := true, b := true, twin := 1, dflt := nval 1, rng := .among [0, 1] }

/-- `pol.rate` (R376). -/
def Obj.pol_rate : Row :=
  { name := "pol.rate", base := 0x6A01, ty := .u32, acc := .rw, p := true, b := true, twin := 1, dflt := nval 2000, rng := .within (1) 1000000000 }

/-- `pol.burst` (R376). -/
def Obj.pol_burst : Row :=
  { name := "pol.burst", base := 0x6A02, ty := .u16, acc := .rw, p := true, b := true, twin := 1, dflt := nval 16, rng := .within (1) 65535 }

/-- `pol.cost` (R376). -/
def Obj.pol_cost : Row :=
  { name := "pol.cost", base := 0x6A03, n := 3, kI := 1, ty := .u8, acc := .rw, p := true, b := true, twin := 256, dflt := nval 1, rng := .within (0) 255 }

/-- `pol.action` (R376). -/
def Obj.pol_action : Row :=
  { name := "pol.action", base := 0x6A05, n := 3, kI := 1, ty := .enum, acc := .rw, p := true, b := true, twin := 256, dflt := fun _ i _ => .n (if i = 2 then 0 else 1), rng := .special fun i _ v => v.num == 0 || (v.num == 1 && i != 2) }

/-- `pol.v6_prefix` (R376). -/
def Obj.pol_v6_prefix : Row :=
  { name := "pol.v6_prefix", base := 0x6A07, ty := .u8, acc := .rw, p := true, b := true, twin := 1, dflt := nval 64, rng := .within (32) 128 }

/-- `pol.hash_key` (R376). -/
def Obj.pol_hash_key : Row :=
  { name := "pol.hash_key", base := 0x6A08, ty := .key 16, acc := .wo, p := true, keeper := true, dflt := oval (zeros 16) }

/-- `pol.kiss_rate` (R376). -/
def Obj.pol_kiss_rate : Row :=
  { name := "pol.kiss_rate", base := 0x6A09, ty := .u32, acc := .rw, p := true, b := true, twin := 1, dflt := nval 100000, rng := .within (0) 10000000 }

/-- `pol.passed` (R376). -/
def Obj.pol_passed : Row :=
  { name := "pol.passed", base := 0x6A10, n := 8, kI := 1, ty := .u64, acc := .rc }

/-- `pol.dropped` (R376). -/
def Obj.pol_dropped : Row :=
  { name := "pol.dropped", base := 0x6A11, n := 8, kI := 1, ty := .u64, acc := .rc }

/-- `pol.kissed` (R376). -/
def Obj.pol_kissed : Row :=
  { name := "pol.kissed", base := 0x6A12, n := 8, kI := 1, ty := .u64, acc := .rc }

/-- `pol.kiss_limited` (R376). -/
def Obj.pol_kiss_limited : Row :=
  { name := "pol.kiss_limited", base := 0x6A13, n := 8, kI := 1, ty := .u64, acc := .rc }

/-- The rows of this file. -/
def Obj.rowsD : List Row :=
  [Obj.gnss_enable, Obj.gnss_systems, Obj.gnss_bands, Obj.gnss_ref_system, Obj.gnss_pos_mode, Obj.gnss_position, Obj.gnss_pos_unc, Obj.gnss_survey_time, Obj.gnss_survey_acc, Obj.gnss_survey_state, Obj.gnss_survey_result, Obj.gnss_resurvey, Obj.gnss_min_sats, Obj.gnss_elev_mask, Obj.gnss_cn0_mask, Obj.gnss_tdop_max, Obj.gnss_ant_delay_l1, Obj.gnss_ant_delay_l5, Obj.gnss_ant_delay_unc, Obj.gnss_unc_k, Obj.gnss_mp_allow, Obj.gnss_sys_unc, Obj.gnss_iono_floor, Obj.gnss_bias_unc, Obj.gnss_fde_k] ++
  [Obj.gnss_smooth, Obj.gnss_fe_reinit, Obj.gnss_pll_bw, Obj.gnss_dll_bw, Obj.gnss_el_spacing_l1, Obj.gnss_el_spacing_l5, Obj.gnss_coast_max, Obj.gnss_acq_coh, Obj.gnss_acq_noncoh, Obj.gnss_acq_thresh, Obj.gnss_l5_direct, Obj.gnss_aid_time, Obj.gnss_start_type, Obj.gnss_ttff, Obj.gnss_restart, Obj.gnss_fe_format, Obj.gnss_if_l1, Obj.gnss_if_l5, Obj.gnss_fe_pipe, Obj.gnss_fe_init, Obj.gnss_agc_mode, Obj.gnss_agc_target, Obj.gnss_agc_cmd, Obj.gnss_agc_gain, Obj.gnss_band_state] ++
  [Obj.gnss_epoch, Obj.gnss_pps_stamp, Obj.gnss_solution, Obj.gnss_sats_used, Obj.gnss_sys_bias, Obj.gnss_utc_valid, Obj.gnss_utc_offset, Obj.gnss_leap_pending, Obj.gnss_leap_time, Obj.gnss_reports_missed, Obj.gnss_agc_tol, Obj.gnss_noise_tol, Obj.gnss_cn0_max, Obj.gnss_jump_min, Obj.gnss_pos_jump, Obj.gnss_spoof_hold, Obj.gnss_indicators, Obj.gnss_ind_history, Obj.gnss_groups, Obj.gnss_store_interval, Obj.gnss_ch_assign, Obj.gnss_ch_state, Obj.gnss_ch_cn0, Obj.gnss_ch_doppler, Obj.gnss_ch_code_phase] ++
  [Obj.gnss_ch_residual, Obj.gnss_ch_elev, Obj.gnss_ch_flags, Obj.mac_mode, Obj.mac_address, Obj.mac_maxlen, Obj.mac_pause_mode, Obj.mac_punt_mask, Obj.mac_ctl_queue, Obj.mac_icmp_rate, Obj.mac_tx_clock, Obj.mac_up_delay, Obj.mac_down_delay, Obj.mac_an, Obj.mac_rx_reserve, Obj.mac_resp_pcp, Obj.mac_announce, Obj.serdes_tx_eq, Obj.serdes_polarity, Obj.serdes_rx_adapt, Obj.mac_link, Obj.mac_an_result, Obj.serdes_eye, Obj.mac_served, Obj.mac_rx_frames] ++
  [Obj.mac_rx_octets, Obj.mac_tx_frames, Obj.mac_tx_octets, Obj.mac_rx_runt, Obj.mac_rx_oversize, Obj.mac_rx_fcs_err, Obj.mac_rx_code_err, Obj.mac_rx_filtered, Obj.mac_rx_pool_drop, Obj.mac_rx_served, Obj.mac_rx_answered, Obj.mac_rx_punted, Obj.mac_punt_drops, Obj.mac_rx_discarded, Obj.mac_rx_pause, Obj.mac_rx_pfc, Obj.mac_rx_mac_ctl, Obj.mac_pause_ns, Obj.mac_tx_flushed, Obj.mac_tx_drop_full, Obj.mac_fec_corrected, Obj.mac_fec_uncorrected, Obj.mac_link_downs, Obj.mac_icmp_limited, Obj.mac_addr_conflict] ++
  [Obj.hp_ethertype, Obj.ports_mac_base, Obj.hp_host_mac, Obj.hp_punt_queue, Obj.hp_bad_send, Obj.hp_no_encap, Obj.sched_grid, Obj.sched_privileged, Obj.sched_quantum, Obj.queue_cells, Obj.shaper_rate, Obj.shaper_burst, Obj.shaper_reset_mode, Obj.queue_state, Obj.queue_level, Obj.shaper_tokens, Obj.queue_tx_frames, Obj.queue_tx_octets, Obj.shaper_debt_discarded, Obj.cal_reservations, Obj.cal_displaced, Obj.cal_level, Obj.pol_enable, Obj.pol_rate, Obj.pol_burst] ++
  [Obj.pol_cost, Obj.pol_action, Obj.pol_v6_prefix, Obj.pol_hash_key, Obj.pol_kiss_rate, Obj.pol_passed, Obj.pol_dropped, Obj.pol_kissed, Obj.pol_kiss_limited]

end Sys2Proof.Machine
end

