-- ==== Sys2Proof/Machine/ObjE.lean ====
section
/-! DEFINITION. The object tables: NTP, NTS, PTP and Cremin objects, written from the tables of their chapters. -/
namespace Sys2Proof.Machine

/-- `ntp.unsupported` (R406). -/
def Obj.ntp_unsupported : Row :=
  { name := "ntp.unsupported", base := 0x7000, ty := .enum, acc := .rw, p := true, b := true, twin := 1, rng := .among [0, 1] }

/-- `ntp.ttl` (R406). -/
def Obj.ntp_ttl : Row :=
  { name := "ntp.ttl", base := 0x7001, ty := .u8, acc := .rw, p := true, b := true, twin := 1, dflt := nval 64, rng := .within (1) 255 }

/-- `ntp.li_out_of_spec` (R406). -/
def Obj.ntp_li_out_of_spec : Row :=
  { name := "ntp.li_out_of_spec", base := 0x7002, ty := .enum, acc := .rw, p := true, b := true, twin := 1, rng := .among [0, 1] }

/-- `ntp.timescale` (R406). -/
def Obj.ntp_timescale : Row :=
  { name := "ntp.timescale", base := 0x7010, n := 4, kI := 1, ty := .enum, acc := .rw, p := true, b := true, twin := 256, rng := .among [0, 1] }

/-- `ntp.smear_window` (R406). -/
def Obj.ntp_smear_window : Row :=
  { name := "ntp.smear_window", base := 0x7012, n := 4, kI := 1, ty := .u32, acc := .rw, p := true, b := true, twin := 256, dflt := nval 86400, rng := .special fun _ _ v => let x := v.num; decide (3600 ≤ x) && decide (x ≤ 172800) && x % 2 == 0 }

/-- `ntp.smear_disp` (R406). -/
def Obj.ntp_smear_disp : Row :=
  { name := "ntp.smear_disp", base := 0x7014, n := 4, kI := 1, ty := .enum, acc := .rw, p := true, b := true, twin := 256, rng := .among [0, 1] }

/-- `ntp.stratum` (R406). -/
def Obj.ntp_stratum : Row :=
  { name := "ntp.stratum", base := 0x7016, n := 4, kI := 1, ty := .u8, acc := .rw, p := true, b := true, twin := 256, dflt := nval 1, rng := .within (1) 15 }

/-- `ntp.minpoll` (R406). -/
def Obj.ntp_minpoll : Row :=
  { name := "ntp.minpoll", base := 0x7018, n := 4, kI := 1, ty := .i8, acc := .rw, p := true, b := true, twin := 256, dflt := nval 4, rng := .within (3) 17 }

/-- `ntp.maxpoll` (R406). -/
def Obj.ntp_maxpoll : Row :=
  { name := "ntp.maxpoll", base := 0x701A, n := 4, kI := 1, ty := .i8, acc := .rw, p := true, b := true, twin := 256, dflt := nval 10, rng := .within (3) 17 }

/-- `ntp.queue` (R406). -/
def Obj.ntp_queue : Row :=
  { name := "ntp.queue", base := 0x701C, n := 4, kI := 1, ty := .u8, acc := .rw, p := true, b := true, twin := 256, rng := .within (0) 7 }

/-- `ntp.leap_warn` (R406). -/
def Obj.ntp_leap_warn : Row :=
  { name := "ntp.leap_warn", base := 0x701E, n := 4, kI := 1, ty := .u32, acc := .rw, p := true, b := true, twin := 256, dflt := nval 86400, rng := .within (0) 2678400 }

/-- `ntp.kiss_minpoll` (R406). -/
def Obj.ntp_kiss_minpoll : Row :=
  { name := "ntp.kiss_minpoll", base := 0x7020, n := 4, kI := 1, ty := .i8, acc := .rw, p := true, b := true, twin := 256, dflt := nval 6, rng := .within (3) 17 }

/-- `ntp.smear_state` (R406). -/
def Obj.ntp_smear_state : Row :=
  { name := "ntp.smear_state", base := 0x7022, n := 4, kI := 1, ty := .enum }

/-- `ntp.smear_offset` (R406). -/
def Obj.ntp_smear_offset : Row :=
  { name := "ntp.smear_offset", base := 0x7023, n := 4, kI := 1, ty := .i64 }

/-- `ntp.smear_start` (R406). -/
def Obj.ntp_smear_start : Row :=
  { name := "ntp.smear_start", base := 0x7024, n := 4, kI := 1, ty := .time128 }

/-- `ntp.refid` (R406). -/
def Obj.ntp_refid : Row :=
  { name := "ntp.refid", base := 0x7030, n := 23, kI := 1, ty := .octets 4 4, acc := .rw, p := true, b := true, twin := 256, dflt := fun _ i _ => .o (refidDefault i) }

/-- `ntp.instance` (R406). -/
def Obj.ntp_instance : Row :=
  { name := "ntp.instance", base := 0x7040, n := 8, kI := 512, m := 64, kJ := 1, ty := .u8, acc := .rw, p := true, b := true, twin := 256, rng := .within (0) 3 }

/-- `ntp.requests` (R406). -/
def Obj.ntp_requests : Row :=
  { name := "ntp.requests", base := 0x7060, n := 8, kI := 1, ty := .u64, acc := .rc }

/-- `ntp.responses` (R406). -/
def Obj.ntp_responses : Row :=
  { name := "ntp.responses", base := 0x7061, n := 8, kI := 1, ty := .u64, acc := .rc }

/-- `ntp.v3` (R406). -/
def Obj.ntp_v3 : Row :=
  { name := "ntp.v3", base := 0x7062, n := 8, kI := 1, ty := .u64, acc := .rc }

/-- `ntp.malformed` (R406). -/
def Obj.ntp_malformed : Row :=
  { name := "ntp.malformed", base := 0x7063, n := 8, kI := 1, ty := .u64, acc := .rc }

/-- `ntp.bad_mode` (R406). -/
def Obj.ntp_bad_mode : Row :=
  { name := "ntp.bad_mode", base := 0x7064, n := 8, kI := 1, ty := .u64, acc := .rc }

/-- `ntp.bad_version` (R406). -/
def Obj.ntp_bad_version : Row :=
  { name := "ntp.bad_version", base := 0x7065, n := 8, kI := 1, ty := .u64, acc := .rc }

/-- `ntp.legacy` (R406). -/
def Obj.ntp_legacy : Row :=
  { name := "ntp.legacy", base := 0x7066, n := 8, kI := 1, ty := .u64, acc := .rc }

/-- `nts.enable` (R406). -/
def Obj.nts_enable : Row :=
  { name := "nts.enable", base := 0x7100, ty := .bool, acc := .rw, p := true, b := true, twin := 1, rng := .among [0, 1] }

/-- `nts.max_cookies` (R406). -/
def Obj.nts_max_cookies : Row :=
  { name := "nts.max_cookies", base := 0x7101, ty := .u8, acc := .rw, p := true, b := true, twin := 1, dflt := nval 8, rng := .within (1) 8 }

/-- `nts.active_id` (R406). -/
def Obj.nts_active_id : Row :=
  { name := "nts.active_id", base := 0x7102, ty := .u16 }

/-- `nts.requests` (R406). -/
def Obj.nts_requests : Row :=
  { name := "nts.requests", base := 0x7120, n := 8, kI := 1, ty := .u64, acc := .rc }

/-- `nts.responses` (R406). -/
def Obj.nts_responses : Row :=
  { name := "nts.responses", base := 0x7121, n := 8, kI := 1, ty := .u64, acc := .rc }

/-- `nts.malformed` (R406). -/
def Obj.nts_malformed : Row :=
  { name := "nts.malformed", base := 0x7122, n := 8, kI := 1, ty := .u64, acc := .rc }

/-- `nts.bad_key` (R406). -/
def Obj.nts_bad_key : Row :=
  { name := "nts.bad_key", base := 0x7123, n := 8, kI := 1, ty := .u64, acc := .rc }

/-- `nts.bad_cookie` (R406). -/
def Obj.nts_bad_cookie : Row :=
  { name := "nts.bad_cookie", base := 0x7124, n := 8, kI := 1, ty := .u64, acc := .rc }

/-- `nts.bad_auth` (R406). -/
def Obj.nts_bad_auth : Row :=
  { name := "nts.bad_auth", base := 0x7125, n := 8, kI := 1, ty := .u64, acc := .rc }

/-- `nts.naks` (R406). -/
def Obj.nts_naks : Row :=
  { name := "nts.naks", base := 0x7126, n := 8, kI := 1, ty := .u64, acc := .rc }

/-- `nts.cookies` (R406). -/
def Obj.nts_cookies : Row :=
  { name := "nts.cookies", base := 0x7127, n := 8, kI := 1, ty := .u64, acc := .rc }

/-- `nts.punted` (R406). -/
def Obj.nts_punted : Row :=
  { name := "nts.punted", base := 0x7128, n := 8, kI := 1, ty := .u64, acc := .rc }

/-- `nts.key` (R407). -/
def Obj.nts_key : Row :=
  { name := "nts.key", base := 0x7110, n := 8, kI := 256, ty := .key 32, acc := .wo, p := true, b := true, keeper := true, dflt := oval (zeros 32) }

/-- `nts.key_id` (R407). -/
def Obj.nts_key_id : Row :=
  { name := "nts.key_id", base := 0x7110, sub := 1, n := 8, kI := 256, ty := .u16, acc := .rw, p := true, b := true, keeper := true, twin := 2 }

/-- `nts.key_state` (R407). -/
def Obj.nts_key_state : Row :=
  { name := "nts.key_state", base := 0x7110, sub := 2, n := 8, kI := 256, ty := .enum, acc := .rw, p := true, b := true, keeper := true, twin := 2, rng := .among [0, 1, 2] }

/-- `nts.key_check` (R407). -/
def Obj.nts_key_check : Row :=
  { name := "nts.key_check", base := 0x7110, sub := 5, n := 8, kI := 256, ty := .u32 }

/-- `nts.key_accepted` (R407). -/
def Obj.nts_key_accepted : Row :=
  { name := "nts.key_accepted", base := 0x7110, sub := 6, n := 8, kI := 256, ty := .u64, acc := .rc }

/-- `nts.key_minted` (R407). -/
def Obj.nts_key_minted : Row :=
  { name := "nts.key_minted", base := 0x7110, sub := 7, n := 8, kI := 256, ty := .u64, acc := .rc }

/-- `ptp.enable` (R439). -/
def Obj.ptp_enable : Row :=
  { name := "ptp.enable", base := 0x7400, n := 4, kI := 16384, ty := .bool, acc := .rw, p := true, b := true, twin := 1, rng := .among [0, 1] }

/-- `ptp.profile` (R439). -/
def Obj.ptp_profile : Row :=
  { name := "ptp.profile", base := 0x7401, n := 4, kI := 16384, ty := .enum, acc := .rw, p := true, b := true, twin := 1, rng := .within (0) 4 }

/-- `ptp.domain` (R439). -/
def Obj.ptp_domain : Row :=
  { name := "ptp.domain", base := 0x7402, n := 4, kI := 16384, ty := .u8, acc := .rw, p := true, b := true, twin := 1 }

/-- `ptp.transport` (R439). -/
def Obj.ptp_transport : Row :=
  { name := "ptp.transport", base := 0x7403, n := 4, kI := 16384, ty := .enum, acc := .rw, p := true, b := true, twin := 1, rng := .among [0, 1, 2] }

/-- `ptp.delay_mech` (R439). -/
def Obj.ptp_delay_mech : Row :=
  { name := "ptp.delay_mech", base := 0x7404, n := 4, kI := 16384, ty := .enum, acc := .rw, p := true, b := true, twin := 1, rng := .among [0, 1] }

/-- `ptp.step_mode` (R439). -/
def Obj.ptp_step_mode : Row :=
  { name := "ptp.step_mode", base := 0x7405, n := 4, kI := 16384, ty := .enum, acc := .rw, p := true, b := true, twin := 1, dflt := nval 1, rng := .among [0, 1] }

/-- `ptp.ts_encoding` (R439). -/
def Obj.ptp_ts_encoding : Row :=
  { name := "ptp.ts_encoding", base := 0x7406, n := 4, kI := 16384, ty := .enum, acc := .rw, p := true, b := true, twin := 1, rng := .among [0, 1] }

/-- `ptp.mode` (R439). -/
def Obj.ptp_mode : Row :=
  { name := "ptp.mode", base := 0x7407, n := 4, kI := 16384, ty := .enum, acc := .rw, p := true, b := true, twin := 1, rng := .among [0, 1, 2] }

/-- `ptp.master_ports` (R439). -/
def Obj.ptp_master_ports : Row :=
  { name := "ptp.master_ports", base := 0x7408, n := 4, kI := 16384, ty := .u8, acc := .rw, p := true, b := true, twin := 1 }

/-- `ptp.slave_port` (R439). -/
def Obj.ptp_slave_port : Row :=
  { name := "ptp.slave_port", base := 0x7409, n := 4, kI := 16384, ty := .u8, acc := .rw, p := true, b := true, twin := 1, dflt := nval 255, rng := .withinOr (0) 7 [255] }

/-- `ptp.clock_identity` (R439). -/
def Obj.ptp_clock_identity : Row :=
  { name := "ptp.clock_identity", base := 0x740A, n := 4, kI := 16384, ty := .octets 8 8, acc := .rw, p := true, b := true, twin := 1, dflt := fun d i _ => .o (d.clockIds.getD i (zeros 8)) }

/-- `ptp.priority1` (R439). -/
def Obj.ptp_priority1 : Row :=
  { name := "ptp.priority1", base := 0x740B, n := 4, kI := 16384, ty := .u8, acc := .rw, p := true, b := true, twin := 1, dflt := nval 128, rng := .within (0) 255 }

/-- `ptp.priority2` (R439). -/
def Obj.ptp_priority2 : Row :=
  { name := "ptp.priority2", base := 0x740C, n := 4, kI := 16384, ty := .u8, acc := .rw, p := true, b := true, twin := 1, dflt := nval 128, rng := .within (0) 255 }

/-- `ptp.log_sync` (R439). -/
def Obj.ptp_log_sync : Row :=
  { name := "ptp.log_sync", base := 0x740D, n := 4, kI := 16384, ty := .i8, acc := .rw, p := true, b := true, twin := 1 }

/-- `ptp.log_announce` (R439). -/
def Obj.ptp_log_announce : Row :=
  { name := "ptp.log_announce", base := 0x740E, n := 4, kI := 16384, ty := .i8, acc := .rw, p := true, b := true, twin := 1, dflt := nval 1 }

/-- `ptp.log_delay_req` (R439). -/
def Obj.ptp_log_delay_req : Row :=
  { name := "ptp.log_delay_req", base := 0x740F, n := 4, kI := 16384, ty := .i8, acc := .rw, p := true, b := true, twin := 1, rng := .within (-7) 5 }

/-- `ptp.log_pdelay` (R439). -/
def Obj.ptp_log_pdelay : Row :=
  { name := "ptp.log_pdelay", base := 0x7410, n := 4, kI := 16384, ty := .i8, acc := .rw, p := true, b := true, twin := 1, rng := .within (-7) 5 }

/-- `ptp.announce_timeout` (R439). -/
def Obj.ptp_announce_timeout : Row :=
  { name := "ptp.announce_timeout", base := 0x7411, n := 4, kI := 16384, ty := .u8, acc := .rw, p := true, b := true, twin := 1, dflt := nval 3, rng := .within (2) 10 }

/-- `ptp.queue` (R439). -/
def Obj.ptp_queue : Row :=
  { name := "ptp.queue", base := 0x7412, n := 4, kI := 16384, ty := .u8, acc := .rw, p := true, b := true, twin := 1, rng := .within (0) 7 }

/-- `ptp.l2_dest` (R439). -/
def Obj.ptp_l2_dest : Row :=
  { name := "ptp.l2_dest", base := 0x7413, n := 4, kI := 16384, ty := .enum, acc := .rw, p := true, b := true, twin := 1, rng := .among [0, 1] }

/-- `ptp.leap_warn` (R439). -/
def Obj.ptp_leap_warn : Row :=
  { name := "ptp.leap_warn", base := 0x7414, n := 4, kI := 16384, ty := .u32, acc := .rw, p := true, b := true, twin := 1, dflt := nval 43200, rng := .within (0) 2678400 }

/-- `ptp.asym` (R439). -/
def Obj.ptp_asym : Row :=
  { name := "ptp.asym", base := 0x7415, n := 4, kI := 16384, ty := .i32, acc := .rw, p := true, b := true, twin := 1, rng := .within (-1000000000) 1000000000 }

/-- `ptp.calib_count` (R439). -/
def Obj.ptp_calib_count : Row :=
  { name := "ptp.calib_count", base := 0x7416, n := 4, kI := 16384, ty := .u8, acc := .rw, p := true, b := true, twin := 1, dflt := nval 8, rng := .within (1) 64 }

/-- `ptp.nbr_thresh` (R439). -/
def Obj.ptp_nbr_thresh : Row :=
  { name := "ptp.nbr_thresh", base := 0x7417, n := 4, kI := 16384, ty := .u32, acc := .rw, p := true, b := true, twin := 1, dflt := nval 800, rng := .within (1) 1000000 }

/-- `ptp.class_pass` (R439). -/
def Obj.ptp_class_pass : Row :=
  { name := "ptp.class_pass", base := 0x7418, n := 4, kI := 16384, ty := .bool, acc := .rw, p := true, b := true, twin := 1, rng := .among [0, 1] }

/-- `ptp.scruple_tlv` (R439). -/
def Obj.ptp_scruple_tlv : Row :=
  { name := "ptp.scruple_tlv", base := 0x7419, n := 4, kI := 16384, ty := .bool, acc := .rw, p := true, b := true, twin := 1, dflt := nval 1, rng := .among [0, 1] }

/-- `ptp.auth_mode` (R439). -/
def Obj.ptp_auth_mode : Row :=
  { name := "ptp.auth_mode", base := 0x741A, n := 4, kI := 16384, ty := .enum, acc := .rw, p := true, b := true, keeper := true, twin := 1, rng := .among [0, 1, 2] }

/-- `ptp.auth_spp` (R439). -/
def Obj.ptp_auth_spp : Row :=
  { name := "ptp.auth_spp", base := 0x741B, n := 4, kI := 16384, ty := .u8, acc := .rw, p := true, b := true, keeper := true, twin := 1, rng := .within (0) 255 }

/-- `ptp.uc_log_min` (R439). -/
def Obj.ptp_uc_log_min : Row :=
  { name := "ptp.uc_log_min", base := 0x741C, n := 4, kI := 16384, ty := .i8, acc := .rw, p := true, b := true, twin := 1, dflt := nval (-7), rng := .within (-7) 0 }

/-- `ptp.uc_duration_max` (R439). -/
def Obj.ptp_uc_duration_max : Row :=
  { name := "ptp.uc_duration_max", base := 0x741D, n := 4, kI := 16384, ty := .u16, acc := .rw, p := true, b := true, twin := 1, dflt := nval 300, rng := .within (60) 1000 }

/-- `ptp.uc_max_sessions` (R439). -/
def Obj.ptp_uc_max_sessions : Row :=
  { name := "ptp.uc_max_sessions", base := 0x741E, n := 4, kI := 16384, ty := .u32, acc := .rw, p := true, b := true, twin := 1, dflt := nval 131072, rng := .within (1) 131072 }

/-- `ptp.class_map` (R439). -/
def Obj.ptp_class_map : Row :=
  { name := "ptp.class_map", base := 0x7420, n := 4, kI := 16384, m := 4, kJ := 1, ty := .u8, acc := .rw, p := true, b := true, twin := 256, dflt := fun _ _ j => .n ([6, 7, 52, 248].getD j 248) }

/-- `ptp.variance` (R439). -/
def Obj.ptp_variance : Row :=
  { name := "ptp.variance", base := 0x7422, n := 4, kI := 16384, m := 4, kJ := 1, ty := .u16, acc := .rw, p := true, b := true, twin := 256, dflt := fun _ _ j => .n ([0x4E5D, 0x4E5D, 0xFFFF, 0xFFFF].getD j 0xFFFF) }

/-- `ptp.port_entry` (R439). -/
def Obj.ptp_port_entry : Row :=
  { name := "ptp.port_entry", base := 0x7424, n := 4, kI := 16384, m := 8, kJ := 1, ty := .u8, acc := .rw, p := true, b := true, twin := 256, rng := .within (0) 63 }

/-- `ptp.uc_master` (R439). -/
def Obj.ptp_uc_master : Row :=
  { name := "ptp.uc_master", base := 0x7426, n := 4, kI := 16384, m := 4, kJ := 1, ty := .octets 17 17, acc := .rw, p := true, b := true, twin := 256, dflt := oval (zeros 17), rng := .special fun _ _ v => let f := (v.bytes.headD 0).toNat; f == 0 || f == 4 || f == 6 }

/-- `ptp.slave_state` (R439). -/
def Obj.ptp_slave_state : Row :=
  { name := "ptp.slave_state", base := 0x7429, n := 4, kI := 16384, ty := .enum }

/-- `ptp.parent` (R439). -/
def Obj.ptp_parent : Row :=
  { name := "ptp.parent", base := 0x742A, n := 4, kI := 16384, ty := .octets 10 10, dflt := oval (zeros 10) }

/-- `ptp.gm_class` (R439). -/
def Obj.ptp_gm_class : Row :=
  { name := "ptp.gm_class", base := 0x742B, n := 4, kI := 16384, ty := .u8, dflt := nval 255 }

/-- `ptp.mean_path_delay` (R439). -/
def Obj.ptp_mean_path_delay : Row :=
  { name := "ptp.mean_path_delay", base := 0x742C, n := 4, kI := 16384, ty := .i64 }

/-- `ptp.offset` (R439). -/
def Obj.ptp_offset : Row :=
  { name := "ptp.offset", base := 0x742D, n := 4, kI := 16384, ty := .i64 }

/-- `ptp.clock_class` (R439). -/
def Obj.ptp_clock_class : Row :=
  { name := "ptp.clock_class", base := 0x742E, n := 4, kI := 16384, ty := .u8, dflt := nval 248 }

/-- `ptp.as_capable` (R439). -/
def Obj.ptp_as_capable : Row :=
  { name := "ptp.as_capable", base := 0x742F, n := 4, kI := 16384, ty := .u8 }

/-- `ptp.sessions` (R439). -/
def Obj.ptp_sessions : Row :=
  { name := "ptp.sessions", base := 0x7430, n := 4, kI := 16384, ty := .u32 }

/-- `ptp.tx_event` (R439). -/
def Obj.ptp_tx_event : Row :=
  { name := "ptp.tx_event", base := 0x7431, n := 4, kI := 16384, m := 8, kJ := 1, ty := .u64, acc := .rc }

/-- `ptp.tx_general` (R439). -/
def Obj.ptp_tx_general : Row :=
  { name := "ptp.tx_general", base := 0x7432, n := 4, kI := 16384, m := 8, kJ := 1, ty := .u64, acc := .rc }

/-- `ptp.rx_event` (R439). -/
def Obj.ptp_rx_event : Row :=
  { name := "ptp.rx_event", base := 0x7433, n := 4, kI := 16384, m := 8, kJ := 1, ty := .u64, acc := .rc }

/-- `ptp.rx_general` (R439). -/
def Obj.ptp_rx_general : Row :=
  { name := "ptp.rx_general", base := 0x7434, n := 4, kI := 16384, m := 8, kJ := 1, ty := .u64, acc := .rc }

/-- `ptp.auth_fail` (R439). -/
def Obj.ptp_auth_fail : Row :=
  { name := "ptp.auth_fail", base := 0x7435, n := 4, kI := 16384, m := 8, kJ := 1, ty := .u64, acc := .rc }

/-- `ptp.rx_foreign` (R439). -/
def Obj.ptp_rx_foreign : Row :=
  { name := "ptp.rx_foreign", base := 0x7436, n := 4, kI := 16384, m := 8, kJ := 1, ty := .u64, acc := .rc }

/-- `ptp.malformed` (R439). -/
def Obj.ptp_malformed : Row :=
  { name := "ptp.malformed", base := 0x7437, n := 4, kI := 16384, m := 8, kJ := 1, ty := .u64, acc := .rc }

/-- `ptp.wrong_domain` (R439). -/
def Obj.ptp_wrong_domain : Row :=
  { name := "ptp.wrong_domain", base := 0x7438, n := 4, kI := 16384, m := 8, kJ := 1, ty := .u64, acc := .rc }

/-- `ptp.no_grant` (R439). -/
def Obj.ptp_no_grant : Row :=
  { name := "ptp.no_grant", base := 0x7439, n := 4, kI := 16384, m := 8, kJ := 1, ty := .u64, acc := .rc }

/-- `ptp.followup_missed` (R439). -/
def Obj.ptp_followup_missed : Row :=
  { name := "ptp.followup_missed", base := 0x743A, n := 4, kI := 16384, m := 8, kJ := 1, ty := .u64, acc := .rc }

/-- `ptp.key` (R440). -/
def Obj.ptp_key : Row :=
  { name := "ptp.key", base := 0x743C, n := 4, kI := 16384, m := 4, kJ := 16, ty := .key 32, acc := .wo, p := true, b := true, keeper := true, dflt := oval (zeros 32) }

/-- `ptp.key_id` (R440). -/
def Obj.ptp_key_id : Row :=
  { name := "ptp.key_id", base := 0x743C, sub := 1, n := 4, kI := 16384, m := 4, kJ := 16, ty := .u32, acc := .rw, p := true, b := true, keeper := true, twin := 3 }

/-- `ptp.key_alg` (R440). -/
def Obj.ptp_key_alg : Row :=
  { name := "ptp.key_alg", base := 0x743C, sub := 2, n := 4, kI := 16384, m := 4, kJ := 16, ty := .enum, acc := .rw, p := true, b := true, keeper := true, twin := 3, rng := .among [0, 1] }

/-- `ptp.key_state` (R440). -/
def Obj.ptp_key_state : Row :=
  { name := "ptp.key_state", base := 0x743C, sub := 3, n := 4, kI := 16384, m := 4, kJ := 16, ty := .enum, acc := .rw, p := true, b := true, keeper := true, twin := 3, rng := .among [0, 1, 2] }

/-- `ptp.key_check` (R440). -/
def Obj.ptp_key_check : Row :=
  { name := "ptp.key_check", base := 0x743C, sub := 7, n := 4, kI := 16384, m := 4, kJ := 16, ty := .u32 }

/-- `ptp.sess.select` (R441). -/
def Obj.ptp_sess_select : Row :=
  { name := "ptp.sess.select", base := 0x7500, ty := .u32, acc := .rw, im := true, rng := .within (0) 131071 }

/-- `ptp.sess.record` (R441). -/
def Obj.ptp_sess_record : Row :=
  { name := "ptp.sess.record", base := 0x7501, ty := .octets 64 64, dflt := oval (zeros 64) }

/-- `ptp.sess.count` (R441). -/
def Obj.ptp_sess_count : Row :=
  { name := "ptp.sess.count", base := 0x7502, ty := .u32 }

/-- `ptp.sess.budget` (R441). -/
def Obj.ptp_sess_budget : Row :=
  { name := "ptp.sess.budget", base := 0x7503, ty := .u32, acc := .rw, p := true, b := true, twin := 1, dflt := nval 16000000, rng := .within (1000) 16000000 }

/-- `ptp.sess.load` (R441). -/
def Obj.ptp_sess_load : Row :=
  { name := "ptp.sess.load", base := 0x7504, ty := .u32 }

/-- `ptp.sess.grants` (R441). -/
def Obj.ptp_sess_grants : Row :=
  { name := "ptp.sess.grants", base := 0x7505, ty := .u64, acc := .rc }

/-- `ptp.sess.denials` (R441). -/
def Obj.ptp_sess_denials : Row :=
  { name := "ptp.sess.denials", base := 0x7506, ty := .u64, acc := .rc }

/-- `ptp.sess.expired` (R441). -/
def Obj.ptp_sess_expired : Row :=
  { name := "ptp.sess.expired", base := 0x7507, ty := .u64, acc := .rc }

/-- `crem.enable` (R470). -/
def Obj.crem_enable : Row :=
  { name := "crem.enable", base := 0x7800, ty := .bool, acc := .rw, p := true, b := true, twin := 1, dflt := nval 1, rng := .among [0, 1] }

/-- `crem.node` (R470). -/
def Obj.crem_node : Row :=
  { name := "crem.node", base := 0x7801, ty := .u8, dflt := nval 0xFF }

/-- `crem.depth` (R470). -/
def Obj.crem_depth : Row :=
  { name := "crem.depth", base := 0x7802, ty := .u8, dflt := nval 0xFF }

/-- `crem.system_id` (R470). -/
def Obj.crem_system_id : Row :=
  { name := "crem.system_id", base := 0x7803, ty := .u16, acc := .rw, p := true, b := true, twin := 1, dflt := nval 1 }

/-- `crem.waddr` (R470). -/
def Obj.crem_waddr : Row :=
  { name := "crem.waddr", base := 0x7804, ty := .u8 }

/-- `crem.addr_source` (R470). -/
def Obj.crem_addr_source : Row :=
  { name := "crem.addr_source", base := 0x7805, ty := .enum }

/-- `crem.tunnel_drops` (R470). -/
def Obj.crem_tunnel_drops : Row :=
  { name := "crem.tunnel_drops", base := 0x7806, ty := .u64, acc := .rc }

/-- `crem.nodes` (R470). -/
def Obj.crem_nodes : Row :=
  { name := "crem.nodes", base := 0x7807, ty := .u8 }

/-- `crem.link_role` (R470). -/
def Obj.crem_link_role : Row :=
  { name := "crem.link_role", base := 0x7810, n := 4, kI := 1, ty := .enum, acc := .rw, p := true, b := true, twin := 256, dflt := fun d i _ => .n (if d.manager then 1 else if i = 0 then 2 else if i = 1 then 3 else 1), rng := .among [0, 1, 2, 3] }

/-- `crem.asym` (R470). -/
def Obj.crem_asym : Row :=
  { name := "crem.asym", base := 0x7812, n := 4, kI := 1, ty := .i32, acc := .rw, p := true, b := true, twin := 256, rng := .within (-1000000) 1000000 }

/-- `crem.link_state` (R470). -/
def Obj.crem_link_state : Row :=
  { name := "crem.link_state", base := 0x7814, n := 4, kI := 1, ty := .enum }

/-- `crem.cal_state` (R470). -/
def Obj.crem_cal_state : Row :=
  { name := "crem.cal_state", base := 0x7815, n := 4, kI := 1, ty := .enum }

/-- `crem.peer_node` (R470). -/
def Obj.crem_peer_node : Row :=
  { name := "crem.peer_node", base := 0x7816, n := 4, kI := 1, ty := .u8, dflt := nval 255 }

/-- `crem.peer_depth` (R470). -/
def Obj.crem_peer_depth : Row :=
  { name := "crem.peer_depth", base := 0x7817, n := 4, kI := 1, ty := .u8, dflt := nval 255 }

/-- `crem.path_delay` (R470). -/
def Obj.crem_path_delay : Row :=
  { name := "crem.path_delay", base := 0x7818, n := 4, kI := 1, ty := .i64 }

/-- `crem.offset` (R470). -/
def Obj.crem_offset : Row :=
  { name := "crem.offset", base := 0x7819, n := 4, kI := 1, ty := .i64 }

/-- `crem.roster` (R470). -/
def Obj.crem_roster : Row :=
  { name := "crem.roster", base := 0x781A, n := 4, kI := 1, ty := .u64 }

/-- `crem.crc_errors` (R470). -/
def Obj.crem_crc_errors : Row :=
  { name := "crem.crc_errors", base := 0x781B, n := 4, kI := 1, ty := .u64, acc := .rc }

/-- `crem.time_missed` (R470). -/
def Obj.crem_time_missed : Row :=
  { name := "crem.time_missed", base := 0x781C, n := 4, kI := 1, ty := .u64, acc := .rc }

/-- `crem.tunnel_tx` (R470). -/
def Obj.crem_tunnel_tx : Row :=
  { name := "crem.tunnel_tx", base := 0x781D, n := 4, kI := 1, ty := .u64, acc := .rc }

/-- `crem.assign` (R470). -/
def Obj.crem_assign : Row :=
  { name := "crem.assign", base := 0x7820, sub := 1, n := 48, kI := 1, ty := .octets 16 16, acc := .rw, p := true, b := true, twin := 256, dflt := oval (zeros 16) }

/-- `crem.node_serial` (R470). -/
def Obj.crem_node_serial : Row :=
  { name := "crem.node_serial", base := 0x7822, sub := 1, n := 48, kI := 1, ty := .octets 16 16, dflt := oval (zeros 16) }

/-- `crem.node_state` (R470). -/
def Obj.crem_node_state : Row :=
  { name := "crem.node_state", base := 0x7823, sub := 1, n := 48, kI := 1, ty := .octets 28 28, dflt := oval (zeros 28) }

/-- The rows of this file. -/
def Obj.rowsE : List Row :=
  [Obj.ntp_unsupported, Obj.ntp_ttl, Obj.ntp_li_out_of_spec, Obj.ntp_timescale, Obj.ntp_smear_window, Obj.ntp_smear_disp, Obj.ntp_stratum, Obj.ntp_minpoll, Obj.ntp_maxpoll, Obj.ntp_queue, Obj.ntp_leap_warn, Obj.ntp_kiss_minpoll, Obj.ntp_smear_state, Obj.ntp_smear_offset, Obj.ntp_smear_start, Obj.ntp_refid, Obj.ntp_instance, Obj.ntp_requests, Obj.ntp_responses, Obj.ntp_v3, Obj.ntp_malformed, Obj.ntp_bad_mode, Obj.ntp_bad_version, Obj.ntp_legacy, Obj.nts_enable] ++
  [Obj.nts_max_cookies, Obj.nts_active_id, Obj.nts_requests, Obj.nts_responses, Obj.nts_malformed, Obj.nts_bad_key, Obj.nts_bad_cookie, Obj.nts_bad_auth, Obj.nts_naks, Obj.nts_cookies, Obj.nts_punted, Obj.nts_key, Obj.nts_key_id, Obj.nts_key_state, Obj.nts_key_check, Obj.nts_key_accepted, Obj.nts_key_minted, Obj.ptp_enable, Obj.ptp_profile, Obj.ptp_domain, Obj.ptp_transport, Obj.ptp_delay_mech, Obj.ptp_step_mode, Obj.ptp_ts_encoding, Obj.ptp_mode] ++
  [Obj.ptp_master_ports, Obj.ptp_slave_port, Obj.ptp_clock_identity, Obj.ptp_priority1, Obj.ptp_priority2, Obj.ptp_log_sync, Obj.ptp_log_announce, Obj.ptp_log_delay_req, Obj.ptp_log_pdelay, Obj.ptp_announce_timeout, Obj.ptp_queue, Obj.ptp_l2_dest, Obj.ptp_leap_warn, Obj.ptp_asym, Obj.ptp_calib_count, Obj.ptp_nbr_thresh, Obj.ptp_class_pass, Obj.ptp_scruple_tlv, Obj.ptp_auth_mode, Obj.ptp_auth_spp, Obj.ptp_uc_log_min, Obj.ptp_uc_duration_max, Obj.ptp_uc_max_sessions, Obj.ptp_class_map, Obj.ptp_variance] ++
  [Obj.ptp_port_entry, Obj.ptp_uc_master, Obj.ptp_slave_state, Obj.ptp_parent, Obj.ptp_gm_class, Obj.ptp_mean_path_delay, Obj.ptp_offset, Obj.ptp_clock_class, Obj.ptp_as_capable, Obj.ptp_sessions, Obj.ptp_tx_event, Obj.ptp_tx_general, Obj.ptp_rx_event, Obj.ptp_rx_general, Obj.ptp_auth_fail, Obj.ptp_rx_foreign, Obj.ptp_malformed, Obj.ptp_wrong_domain, Obj.ptp_no_grant, Obj.ptp_followup_missed, Obj.ptp_key, Obj.ptp_key_id, Obj.ptp_key_alg, Obj.ptp_key_state, Obj.ptp_key_check] ++
  [Obj.ptp_sess_select, Obj.ptp_sess_record, Obj.ptp_sess_count, Obj.ptp_sess_budget, Obj.ptp_sess_load, Obj.ptp_sess_grants, Obj.ptp_sess_denials, Obj.ptp_sess_expired, Obj.crem_enable, Obj.crem_node, Obj.crem_depth, Obj.crem_system_id, Obj.crem_waddr, Obj.crem_addr_source, Obj.crem_tunnel_drops, Obj.crem_nodes, Obj.crem_link_role, Obj.crem_asym, Obj.crem_link_state, Obj.crem_cal_state, Obj.crem_peer_node, Obj.crem_peer_depth, Obj.crem_path_delay, Obj.crem_offset, Obj.crem_roster] ++
  [Obj.crem_crc_errors, Obj.crem_time_missed, Obj.crem_tunnel_tx, Obj.crem_assign, Obj.crem_node_serial, Obj.crem_node_state]

end Sys2Proof.Machine
end

