-- ==== Sys2Proof/Machine/ObjF.lean ====
section
/-! DEFINITION. The object tables: Granary, Winnow, matrix, Tithe, start, ageing and electrical objects, written from the tables of their chapters. -/
namespace Sys2Proof.Machine

/-- `atton.ethertype` (R507). -/
def Obj.atton_ethertype : Row :=
  { name := "atton.ethertype", base := 0x1100, ty := .u16, acc := .rw, p := true, b := true, twin := 1, dflt := nval 34997, rng := .special fun _ _ v => !([0x0800, 0x86DD, 0x8100, 0x88A8, 0x8808] : List Int).contains v.num }

/-- `atton.udp_port` (R507). -/
def Obj.atton_udp_port : Row :=
  { name := "atton.udp_port", base := 0x1101, ty := .u16, acc := .rw, p := true, b := true, twin := 1, dflt := nval 48620, rng := .within (1024) 65535 }

/-- `atton.queue` (R507). -/
def Obj.atton_queue : Row :=
  { name := "atton.queue", base := 0x1102, ty := .u8, acc := .rw, p := true, b := true, twin := 1, dflt := nval 3, rng := .within (0) 7 }

/-- `atton.boot_id` (R507). -/
def Obj.atton_boot_id : Row :=
  { name := "atton.boot_id", base := 0x1103, ty := .u32 }

/-- `atton.assoc_reset` (R507). -/
def Obj.atton_assoc_reset : Row :=
  { name := "atton.assoc_reset", base := 0x1104, ty := .u8, acc := .rwx, keeper := true, rng := .among [1] }

/-- `atton.assocs` (R507). -/
def Obj.atton_assocs : Row :=
  { name := "atton.assocs", base := 0x1105, ty := .u8 }

/-- `atton.push_sender` (R507). -/
def Obj.atton_push_sender : Row :=
  { name := "atton.push_sender", base := 0x1106, ty := .u16, acc := .rw, p := true, b := true, twin := 1 }

/-- `atton.key` (R507). -/
def Obj.atton_key : Row :=
  { name := "atton.key", base := 0x1110, sub := 1, n := 3, kI := 1, ty := .key 16, acc := .wo, p := true, keeper := true, dflt := oval (zeros 16) }

/-- `atton.key_check` (R507). -/
def Obj.atton_key_check : Row :=
  { name := "atton.key_check", base := 0x1111, sub := 1, n := 3, kI := 1, ty := .u32 }

/-- `spi.lock` (R507). -/
def Obj.spi_lock : Row :=
  { name := "spi.lock", base := 0x1120, ty := .bool, acc := .rw, p := true, b := true, keeper := true, twin := 1, rng := .among [0, 1] }

/-- `spi.bad_command` (R507). -/
def Obj.spi_bad_command : Row :=
  { name := "spi.bad_command", base := 0x1121, ty := .u64, acc := .rc }

/-- `atton.malformed` (R507). -/
def Obj.atton_malformed : Row :=
  { name := "atton.malformed", base := 0x1130, ty := .u64, acc := .rc }

/-- `atton.auth_fail` (R507). -/
def Obj.atton_auth_fail : Row :=
  { name := "atton.auth_fail", base := 0x1131, ty := .u64, acc := .rc }

/-- `atton.replay` (R507). -/
def Obj.atton_replay : Row :=
  { name := "atton.replay", base := 0x1132, ty := .u64, acc := .rc }

/-- `atton.rx_drop` (R507). -/
def Obj.atton_rx_drop : Row :=
  { name := "atton.rx_drop", base := 0x1133, ty := .u64, acc := .rc }

/-- `atton.notify_dropped` (R507). -/
def Obj.atton_notify_dropped : Row :=
  { name := "atton.notify_dropped", base := 0x1134, ty := .u64, acc := .rc }

/-- `atton.forwarded` (R507). -/
def Obj.atton_forwarded : Row :=
  { name := "atton.forwarded", base := 0x1135, ty := .u64, acc := .rc }

/-- `gran.commits` (R507). -/
def Obj.gran_commits : Row :=
  { name := "gran.commits", base := 0x1200, ty := .u64, acc := .rc }

/-- `gran.last_set` (R507). -/
def Obj.gran_last_set : Row :=
  { name := "gran.last_set", base := 0x1201, ty := .u16 }

/-- `gran.deferred` (R507). -/
def Obj.gran_deferred : Row :=
  { name := "gran.deferred", base := 0x1202, ty := .u64, acc := .rc }

/-- `gran.refused` (R507). -/
def Obj.gran_refused : Row :=
  { name := "gran.refused", base := 0x1203, ty := .u64, acc := .rc }

/-- `gran.mismatch` (R507). -/
def Obj.gran_mismatch : Row :=
  { name := "gran.mismatch", base := 0x1204, ty := .u16 }

/-- `gran.handle` (R507). -/
def Obj.gran_handle : Row :=
  { name := "gran.handle", base := 0x1205, ty := .u32 }

/-- `store.state` (R507). -/
def Obj.store_state : Row :=
  { name := "store.state", base := 0x1210, ty := .enum }

/-- `store.generation` (R507). -/
def Obj.store_generation : Row :=
  { name := "store.generation", base := 0x1211, ty := .u32 }

/-- `store.last` (R507). -/
def Obj.store_last : Row :=
  { name := "store.last", base := 0x1212, ty := .time128 }

/-- `store.used` (R507). -/
def Obj.store_used : Row :=
  { name := "store.used", base := 0x1213, ty := .u32 }

/-- `win.reaction` (R532). -/
def Obj.win_reaction : Row :=
  { name := "win.reaction", base := 0x8000, n := 8, kI := 1, ty := .u8, acc := .rw, p := true, b := true, keeper := true, twin := 256, dflt := fun _ i _ => .n ([0, 1, 1, 3, 9, 0xB, 0xF, 0x2B].getD i 0), rng := .within (0) 63 }

/-- `win.status` (R532). -/
def Obj.win_status : Row :=
  { name := "win.status", base := 0x8002, ty := .u8 }

/-- `win.lost` (R532). -/
def Obj.win_lost : Row :=
  { name := "win.lost", base := 0x8003, ty := .u16 }

/-- `win.clear` (R532). -/
def Obj.win_clear : Row :=
  { name := "win.clear", base := 0x8004, ty := .u8, acc := .rwx, rng := .within (0) 3 }

/-- `win.pin_clear` (R532). -/
def Obj.win_pin_clear : Row :=
  { name := "win.pin_clear", base := 0x8005, ty := .u8, acc := .rwx, keeper := true, rng := .among [1] }

/-- `win.degraded` (R532). -/
def Obj.win_degraded : Row :=
  { name := "win.degraded", base := 0x8006, ty := .u32 }

/-- `win.spares` (R532). -/
def Obj.win_spares : Row :=
  { name := "win.spares", base := 0x8007, ty := .u32, dflt := nval 4090 }

/-- `win.active` (R532). -/
def Obj.win_active : Row :=
  { name := "win.active", base := 0x8008, ty := .u16 }

/-- `win.highest` (R532). -/
def Obj.win_highest : Row :=
  { name := "win.highest", base := 0x8009, ty := .u8, dflt := nval 255 }

/-- `win.int_next` (R532). -/
def Obj.win_int_next : Row :=
  { name := "win.int_next", base := 0x800A, ty := .u16, acc := .rc, dflt := nval 65535 }

/-- `win.presentations` (R532). -/
def Obj.win_presentations : Row :=
  { name := "win.presentations", base := 0x800B, ty := .u64, acc := .rc }

/-- `win.ce_threshold` (R532). -/
def Obj.win_ce_threshold : Row :=
  { name := "win.ce_threshold", base := 0x800C, ty := .u16, acc := .rw, p := true, b := true, twin := 1, dflt := nval 16, rng := .within (1) 65535 }

/-- `win.fence_drops` (R532). -/
def Obj.win_fence_drops : Row :=
  { name := "win.fence_drops", base := 0x800D, ty := .u64, acc := .rc }

/-- `win.src.severity` (R532). -/
def Obj.win_src_severity : Row :=
  { name := "win.src.severity", base := 0x8100, n := 320, kI := 256, ty := .u8, acc := .rw, p := true, b := true, keeper := true, twin := 1, dflt := fun _ i _ => .n (srcRow i).sev, rng := .special fun i _ v => decide (0 ≤ v.num) && decide (v.num ≤ 7) && i != 311 }

/-- `win.src.override` (R532). -/
def Obj.win_src_override : Row :=
  { name := "win.src.override", base := 0x8100, sub := 2, n := 320, kI := 256, ty := .u8, acc := .rw, p := true, b := true, keeper := true, twin := 1, dflt := fun _ i _ => .n (if i = 311 then 0x20 else 0xFF), rng := .special fun i _ v => decide (0 ≤ v.num) && (decide (v.num ≤ 0x3F) || v.num == 0xFF) && i != 311 }

/-- `win.src.count` (R532). -/
def Obj.win_src_count : Row :=
  { name := "win.src.count", base := 0x8100, sub := 4, n := 320, kI := 256, ty := .u32, acc := .rc }

/-- `win.src.state` (R532). -/
def Obj.win_src_state : Row :=
  { name := "win.src.state", base := 0x8100, sub := 5, n := 320, kI := 256, ty := .u8 }

/-- `win.src.last` (R532). -/
def Obj.win_src_last : Row :=
  { name := "win.src.last", base := 0x8100, sub := 6, n := 320, kI := 256, ty := .stamp128 }

/-- `win.first` (R532). -/
def Obj.win_first : Row :=
  { name := "win.first", base := 0x8300, ty := .octets 32 32, dflt := oval (zeros 32) }

/-- `win.first_since` (R532). -/
def Obj.win_first_since : Row :=
  { name := "win.first_since", base := 0x8301, ty := .u32 }

/-- `mtx.priority` (R554). -/
def Obj.mtx_priority : Row :=
  { name := "mtx.priority", base := 0x9000, n := 9, kI := 1, ty := .octets 10 10, acc := .rw, p := true, b := true, keeper := true, twin := 256, dflt := fun _ i _ => .o (prioDefault i), rng := .special fun _ _ v => (List.range 10).all fun c => (v.bytes.map BitVec.toNat).contains c }

/-- `mtx.decode_errors` (R554). -/
def Obj.mtx_decode_errors : Row :=
  { name := "mtx.decode_errors", base := 0x9002, ty := .u64, acc := .rc }

/-- `mtx.timeouts` (R554). -/
def Obj.mtx_timeouts : Row :=
  { name := "mtx.timeouts", base := 0x9003, ty := .u64, acc := .rc }

/-- `mtx.error_responses` (R554). -/
def Obj.mtx_error_responses : Row :=
  { name := "mtx.error_responses", base := 0x9004, ty := .u64, acc := .rc }

/-- `mtx.peak_outstanding` (R554). -/
def Obj.mtx_peak_outstanding : Row :=
  { name := "mtx.peak_outstanding", base := 0x9010, n := 10, kI := 1, ty := .u8 }

/-- `mtx.window` (R554). -/
def Obj.mtx_window : Row :=
  { name := "mtx.window", base := 0x9020, n := 10, kI := 512, m := 16, kJ := 1, ty := .octets 16 16, acc := .rw, p := true, b := true, keeper := true, twin := 256, dflt := fun d i j => .o (((d.windows.find? fun e => e.1 == i * 16 + j).map Prod.snd).getD (zeros 16)), rng := .special fun _ _ v => windowOk v.bytes }

/-- `tithe.freeze` (R555). -/
def Obj.tithe_freeze : Row :=
  { name := "tithe.freeze", base := 0x8800, ty := .u8, acc := .rwx, rng := .among [0, 1] }

/-- `tithe.snap_seconds` (R555). -/
def Obj.tithe_snap_seconds : Row :=
  { name := "tithe.snap_seconds", base := 0x8801, ty := .u64 }

/-- `tithe.snap_tick` (R555). -/
def Obj.tithe_snap_tick : Row :=
  { name := "tithe.snap_tick", base := 0x8802, ty := .u16 }

/-- `tithe.snap_id` (R555). -/
def Obj.tithe_snap_id : Row :=
  { name := "tithe.snap_id", base := 0x8803, ty := .u32 }

/-- `tithe.freeze_sev` (R555). -/
def Obj.tithe_freeze_sev : Row :=
  { name := "tithe.freeze_sev", base := 0x8804, ty := .u8, acc := .rw, p := true, b := true, twin := 1, dflt := nval 255, rng := .withinOr (0) 7 [255] }

/-- `tithe.blocks` (R555). -/
def Obj.tithe_blocks : Row :=
  { name := "tithe.blocks", base := 0x8805, ty := .u8, dflt := nval 75 }

/-- `tithe.event` (R555). -/
def Obj.tithe_event : Row :=
  { name := "tithe.event", base := 0x8900, n := 75, kI := 1024, m := 8, kJ := 1, ty := .u16, acc := .rw, p := true, b := true, twin := 256, rng := .special fun i _ v => eventOk i v.num.toNat }

/-- `tithe.cycles` (R555). -/
def Obj.tithe_cycles : Row :=
  { name := "tithe.cycles", base := 0x8902, n := 75, kI := 1024, ty := .u64 }

/-- `tithe.count` (R555). -/
def Obj.tithe_count : Row :=
  { name := "tithe.count", base := 0x8902, sub := 1, n := 75, kI := 1024, m := 8, kJ := 1, ty := .u64 }

/-- `tithe.sat` (R555). -/
def Obj.tithe_sat : Row :=
  { name := "tithe.sat", base := 0x8903, n := 75, kI := 1024, ty := .u16 }

/-- `tithe.clear` (R555). -/
def Obj.tithe_clear : Row :=
  { name := "tithe.clear", base := 0x8903, sub := 1, n := 75, kI := 1024, ty := .u8, acc := .rwx, rng := .among [1] }

/-- `boot.state` (R589). -/
def Obj.boot_state : Row :=
  { name := "boot.state", base := 0x9800, ty := .enum }

/-- `boot.ledger` (R589). -/
def Obj.boot_ledger : Row :=
  { name := "boot.ledger", base := 0x9801, ty := .octets 32 32, dflt := oval (zeros 32) }

/-- `boot.history` (R589). -/
def Obj.boot_history : Row :=
  { name := "boot.history", base := 0x9802, sub := 1, n := 16, kI := 1, ty := .octets 32 32, dflt := oval (zeros 32) }

/-- `boot.streak` (R589). -/
def Obj.boot_streak : Row :=
  { name := "boot.streak", base := 0x9803, ty := .u8 }

/-- `boot.plan` (R589). -/
def Obj.boot_plan : Row :=
  { name := "boot.plan", base := 0x9804, ty := .u16 }

/-- `boot.bank` (R589). -/
def Obj.boot_bank : Row :=
  { name := "boot.bank", base := 0x9805, ty := .enum }

/-- `boot.stable_time` (R589). -/
def Obj.boot_stable_time : Row :=
  { name := "boot.stable_time", base := 0x9806, ty := .u32, acc := .rw, p := true, b := true, twin := 1, dflt := nval 600, rng := .within (60) 86400 }

/-- `boot.restart` (R589). -/
def Obj.boot_restart : Row :=
  { name := "boot.restart", base := 0x9807, ty := .u8, acc := .rwx, keeper := true, rng := .among [1, 2] }

/-- `boot.min_secver` (R589). -/
def Obj.boot_min_secver : Row :=
  { name := "boot.min_secver", base := 0x9808, ty := .u32, dflt := fun d _ _ => .n d.minSecver }

/-- `boot.secver_commit` (R589). -/
def Obj.boot_secver_commit : Row :=
  { name := "boot.secver_commit", base := 0x9809, ty := .u8, acc := .rwx, keeper := true, rng := .among [1] }

/-- `boot.key_revoked` (R589). -/
def Obj.boot_key_revoked : Row :=
  { name := "boot.key_revoked", base := 0x980A, ty := .u8, dflt := fun d _ _ => .n d.revoked }

/-- `boot.starts` (R589). -/
def Obj.boot_starts : Row :=
  { name := "boot.starts", base := 0x980B, ty := .u32 }

/-- `boot.restore_skipped` (R589). -/
def Obj.boot_restore_skipped : Row :=
  { name := "boot.restore_skipped", base := 0x980C, ty := .u32 }

/-- `boot.bank_state` (R589). -/
def Obj.boot_bank_state : Row :=
  { name := "boot.bank_state", base := 0x9810, n := 2, kI := 1, ty := .enum }

/-- `boot.bank_version` (R589). -/
def Obj.boot_bank_version : Row :=
  { name := "boot.bank_version", base := 0x9811, n := 2, kI := 1, ty := .u32 }

/-- `install.begin` (R589). -/
def Obj.install_begin : Row :=
  { name := "install.begin", base := 0x9820, ty := .octets 52 52, acc := .rwx, keeper := true, dflt := oval [] }

/-- `install.chunk` (R589). -/
def Obj.install_chunk : Row :=
  { name := "install.chunk", base := 0x9821, ty := .octets 4 1028, acc := .wo, im := true, keeper := true, dflt := oval [] }

/-- `install.finish` (R589). -/
def Obj.install_finish : Row :=
  { name := "install.finish", base := 0x9822, ty := .u8, acc := .rwx, keeper := true, rng := .among [1] }

/-- `install.activate` (R589). -/
def Obj.install_activate : Row :=
  { name := "install.activate", base := 0x9823, ty := .u8, acc := .rwx, keeper := true, rng := .among [1] }

/-- `install.abort` (R589). -/
def Obj.install_abort : Row :=
  { name := "install.abort", base := 0x9824, ty := .u8, acc := .rwx, keeper := true, rng := .among [1] }

/-- `install.state` (R589). -/
def Obj.install_state : Row :=
  { name := "install.state", base := 0x9825, ty := .enum }

/-- `install.step` (R589). -/
def Obj.install_step : Row :=
  { name := "install.step", base := 0x9826, ty := .u8 }

/-- `install.written` (R589). -/
def Obj.install_written : Row :=
  { name := "install.written", base := 0x9827, ty := .u32 }

/-- `install.error` (R589). -/
def Obj.install_error : Row :=
  { name := "install.error", base := 0x9828, ty := .enum }

/-- `age.eol` (R589). -/
def Obj.age_eol : Row :=
  { name := "age.eol", base := 0x9C00, ty := .u32, dflt := nval 4294967295 }

/-- `age.eol_monitor` (R589). -/
def Obj.age_eol_monitor : Row :=
  { name := "age.eol_monitor", base := 0x9C01, ty := .u16, dflt := nval 65535 }

/-- `age.spare_threshold` (R589). -/
def Obj.age_spare_threshold : Row :=
  { name := "age.spare_threshold", base := 0x9C02, ty := .u32, acc := .rw, p := true, b := true, twin := 1, dflt := nval 8760, rng := .within (720) 87600 }

/-- `age.auto_spare` (R589). -/
def Obj.age_auto_spare : Row :=
  { name := "age.auto_spare", base := 0x9C03, ty := .bool, acc := .rw, p := true, b := true, twin := 1, dflt := nval 1, rng := .among [0, 1] }

/-- `age.fit_days` (R589). -/
def Obj.age_fit_days : Row :=
  { name := "age.fit_days", base := 0x9C04, ty := .u16, acc := .rw, p := true, b := true, twin := 1, dflt := nval 90, rng := .within (30) 365 }

/-- `age.equiv_hours` (R589). -/
def Obj.age_equiv_hours : Row :=
  { name := "age.equiv_hours", base := 0x9C05, ty := .u32, p := true }

/-- `age.power_hours` (R589). -/
def Obj.age_power_hours : Row :=
  { name := "age.power_hours", base := 0x9C06, ty := .u32, p := true }

/-- `age.ro_delay` (R589). -/
def Obj.age_ro_delay : Row :=
  { name := "age.ro_delay", base := 0x9C10, n := 12, kI := 1, ty := .u16 }

/-- `age.ro_eol` (R589). -/
def Obj.age_ro_eol : Row :=
  { name := "age.ro_eol", base := 0x9C11, n := 12, kI := 1, ty := .u32, dflt := nval 4294967295 }

/-- `age.sram_margin` (R589). -/
def Obj.age_sram_margin : Row :=
  { name := "age.sram_margin", base := 0x9C20, n := 68, kI := 1, ty := .u16 }

/-- `age.sram_eol` (R589). -/
def Obj.age_sram_eol : Row :=
  { name := "age.sram_eol", base := 0x9C21, n := 68, kI := 1, ty := .u32, dflt := nval 4294967295 }

/-- `age.eye_min` (R589). -/
def Obj.age_eye_min : Row :=
  { name := "age.eye_min", base := 0x9C30, n := 13, kI := 1, ty := .u16 }

/-- `age.eye_eol` (R589). -/
def Obj.age_eye_eol : Row :=
  { name := "age.eye_eol", base := 0x9C31, n := 13, kI := 1, ty := .u32, dflt := nval 4294967295 }

/-- `age.dco_code` (R589). -/
def Obj.age_dco_code : Row :=
  { name := "age.dco_code", base := 0x9C40, n := 6, kI := 1, ty := .u16 }

/-- `age.dco_eol` (R589). -/
def Obj.age_dco_eol : Row :=
  { name := "age.dco_eol", base := 0x9C41, n := 6, kI := 1, ty := .u32, dflt := nval 4294967295 }

/-- `age.fly_eol` (R589). -/
def Obj.age_fly_eol : Row :=
  { name := "age.fly_eol", base := 0x9C50, ty := .u32, dflt := nval 4294967295 }

/-- `age.temp_eol` (R589). -/
def Obj.age_temp_eol : Row :=
  { name := "age.temp_eol", base := 0x9C51, ty := .u32, dflt := nval 4294967295 }

/-- `die.temp` (R619). -/
def Obj.die_temp : Row :=
  { name := "die.temp", base := 0x9C60, n := 12, kI := 1, ty := .i16 }

/-- `die.rail` (R619). -/
def Obj.die_rail : Row :=
  { name := "die.rail", base := 0x9C61, n := 8, kI := 1, ty := .u16 }

/-- `die.temp_max` (R619). -/
def Obj.die_temp_max : Row :=
  { name := "die.temp_max", base := 0x9C62, ty := .i16, p := true }

/-- The rows of this file. -/
def Obj.rowsF : List Row :=
  [Obj.atton_ethertype, Obj.atton_udp_port, Obj.atton_queue, Obj.atton_boot_id, Obj.atton_assoc_reset, Obj.atton_assocs, Obj.atton_push_sender, Obj.atton_key, Obj.atton_key_check, Obj.spi_lock, Obj.spi_bad_command, Obj.atton_malformed, Obj.atton_auth_fail, Obj.atton_replay, Obj.atton_rx_drop, Obj.atton_notify_dropped, Obj.atton_forwarded, Obj.gran_commits, Obj.gran_last_set, Obj.gran_deferred, Obj.gran_refused, Obj.gran_mismatch, Obj.gran_handle, Obj.store_state, Obj.store_generation] ++
  [Obj.store_last, Obj.store_used, Obj.win_reaction, Obj.win_status, Obj.win_lost, Obj.win_clear, Obj.win_pin_clear, Obj.win_degraded, Obj.win_spares, Obj.win_active, Obj.win_highest, Obj.win_int_next, Obj.win_presentations, Obj.win_ce_threshold, Obj.win_fence_drops, Obj.win_src_severity, Obj.win_src_override, Obj.win_src_count, Obj.win_src_state, Obj.win_src_last, Obj.win_first, Obj.win_first_since, Obj.mtx_priority, Obj.mtx_decode_errors, Obj.mtx_timeouts] ++
  [Obj.mtx_error_responses, Obj.mtx_peak_outstanding, Obj.mtx_window, Obj.tithe_freeze, Obj.tithe_snap_seconds, Obj.tithe_snap_tick, Obj.tithe_snap_id, Obj.tithe_freeze_sev, Obj.tithe_blocks, Obj.tithe_event, Obj.tithe_cycles, Obj.tithe_count, Obj.tithe_sat, Obj.tithe_clear, Obj.boot_state, Obj.boot_ledger, Obj.boot_history, Obj.boot_streak, Obj.boot_plan, Obj.boot_bank, Obj.boot_stable_time, Obj.boot_restart, Obj.boot_min_secver, Obj.boot_secver_commit, Obj.boot_key_revoked] ++
  [Obj.boot_starts, Obj.boot_restore_skipped, Obj.boot_bank_state, Obj.boot_bank_version, Obj.install_begin, Obj.install_chunk, Obj.install_finish, Obj.install_activate, Obj.install_abort, Obj.install_state, Obj.install_step, Obj.install_written, Obj.install_error, Obj.age_eol, Obj.age_eol_monitor, Obj.age_spare_threshold, Obj.age_auto_spare, Obj.age_fit_days, Obj.age_equiv_hours, Obj.age_power_hours, Obj.age_ro_delay, Obj.age_ro_eol, Obj.age_sram_margin, Obj.age_sram_eol, Obj.age_eye_min] ++
  [Obj.age_eye_eol, Obj.age_dco_code, Obj.age_dco_eol, Obj.age_fly_eol, Obj.age_temp_eol, Obj.die_temp, Obj.die_rail, Obj.die_temp_max]

end Sys2Proof.Machine
end

