-- ==== Sys2Proof/Machine/TBoot.lean ====
section
/-! DEFINITION. State types: reset, start, install, ageing, supplies and pins. Each field cites the rule that gives it. -/
namespace Sys2Proof.Machine

/-- A bank record of the bank table (R571). -/
structure BankRec where
  /-- bank (R571) -/
  bank : Nat := 0
  /-- state (R571) -/
  state : Nat := 1
  /-- sequence number (R571) -/
  seq : Nat := 0
  /-- image octets (R571) -/
  length : Nat := 0
  /-- image version (R571) -/
  version : Nat := 0
  /-- first 12 octets of the SHA-384 (R571) -/
  digest : Bytes := []
  /-- its CRC passes (R571) -/
  good : Bool := true
deriving DecidableEq, Repr

/-- The install in progress (R577 to R583). -/
structure Install where
  /-- length declared (R577) -/
  len : Nat := 0
  /-- SHA-384 declared (R577) -/
  hash : Bytes := []
  /-- octets written, by offset (R578) -/
  chunks : List (Nat × Bytes) := []
  /-- progress within steps 5 to 8 (R579) -/
  stage : Nat := 0
  /-- pair whose load has finished (R579) -/
  loadDone : Option Nat := none
  /-- next Thresher slot to move (R580) -/
  slot : Nat := 0
  /-- Threshers loading and the boundary at which they are spares (R580) -/
  loading : List (Nat × Nat) := []
  /-- slot whose Thresher loads in place (R583) -/
  inPlace : Option Nat := none
  /-- boundary of the next move (R580) -/
  nextAt : Nat := 0
  /-- Threshers on the new image (R580) -/
  fresh : List Nat := []
  /-- the Reeve runs the new component (R581) -/
  reeve : Bool := false
  /-- boundary at which id.firmware takes the new version (R581) -/
  verAt : Option Nat := none
  /-- the rotation moves engines back to the old image (R583) -/
  back : Bool := false
  /-- header of the staged image (R573) -/
  image : Bytes := []
deriving DecidableEq, Repr

/-- A monitor instance (R584, R585). -/
structure AgeInst where
  /-- daily values, newest first (R585) -/
  daily : List Rat := []
  /-- day of each daily value, days counted by the daily samples (R585) -/
  dayOf : List Nat := []
  /-- samples of the present day (R585) -/
  acc : List Rat := []
  /-- P has fallen below the threshold in this start (R588) -/
  warned : Bool := false
deriving DecidableEq, Repr

/-- Reset, start, ledger, flash image banks, install and ageing (R556 to R589). -/
structure Boot where
  /-- held in reset, the start has not begun B01 (R556) -/
  inReset : Bool := true
  /-- reset cause (R556) -/
  cause : Nat := 0
  /-- highest step completed (R562) -/
  reached : Nat := 0xFF
  /-- outcome (R562) -/
  outcome : Nat := 0
  /-- failed step (R562) -/
  failedStep : Nat := 0xFF
  /-- plan (R564) -/
  plan : Nat := 0
  /-- streak (R564) -/
  streak : Nat := 0
  /-- starts since manufacture (R562) -/
  starts : Nat := 0
  /-- detail (R562) -/
  detail : Nat := 0
  /-- ms (R562) -/
  duration : Nat := 0
  /-- always-on ledger record (R562) -/
  ledger : Bytes := []
  /-- the always-on copy is intact (R563) -/
  ledgerAon : Bool := false
  /-- ledger region of the flash, newest first (R569) -/
  history : List Bytes := []
  /-- bank table, newest first (R571) -/
  bankRecs : List BankRec := [{ bank := 0, state := 4, seq := 1 }]
  /-- image banks A and B (R569) -/
  images : Vector Bytes 2 := Vector.replicate 2 []
  /-- selected bank (R572) -/
  bank : Nat := 0
  /-- boot.restart asked for a safe start (R567) -/
  safeNext : Bool := false
  /-- boot.restart asked for streak and plan cleared (R567) -/
  clearNext : Bool := false
  /-- ROLE asks for a manager on an OT9600-WX (R3) -/
  strapConflict : Bool := false
  /-- B12 has completed (R558) -/
  serving : Bool := false
  /-- RECOVERY (R568) -/
  recovery : Bool := false
  /-- the Reeve is halted in the boot ROM (R558) -/
  halted : Bool := false
  /-- ports and lanes held DISABLED in effect (R560) -/
  laneHeld : List Nat := []
  /-- calibration store (R569) -/
  calStore : List (Nat × Bytes) := []
  /-- coarse count of the start of service (R563) -/
  serviceFrom : Nat := 0
  /-- install (R577) -/
  install : Install := {}
  /-- monitor instances by class x 256 + instance (R584) -/
  ages : List (Nat × AgeInst) := []
  /-- monitor instances as the journal's newest UNIT record of unit 2 leaves them (R586) -/
  agesKept : List (Nat × AgeInst) := []
  /-- equivalent hours at 95 degree C (R586) -/
  hours : Rat := 0
  /-- seconds powered (R589) -/
  powerSec : Nat := 0
  /-- eye samples of the present hour while the link is up, by lane: sum and number (R584) -/
  eyes : Vector (Nat × Nat) 13 := Vector.replicate 13 (0, 0)
  /-- lowest hourly mean of each lane's eye in this start (R589) -/
  eyeLow : Vector (Option Nat) 13 := Vector.replicate 13 none
  /-- coarse counts of the last ageing samples of a second, an hour and a day (R584) -/
  ageAt : Vector Nat 3 := Vector.replicate 3 0
  /-- equivalent hours and seconds powered in the journal (R586) -/
  kept : Rat × Nat := (0, 0)
  /-- secver of the running image (R576) -/
  secver : Nat := 0
  /-- monitor instances whose planned swap is made at the next boundary (R588) -/
  swapPend : List Nat := []
deriving DecidableEq, Repr

/-- Supplies, temperatures and pins (R590 to R621). -/
structure Elec where
  /-- last samples of the rail monitors; before the first, the nominal voltages (R594) -/
  rail : Vector Nat 8 := #v[7500, 8000, 9000, 9000, 12000, 18000, 33000, 18000]
  /-- time since which a rail has been outside its range (R595) -/
  railSince : Vector (Option Nat) 8 := Vector.replicate 8 none
  /-- time since which VDD_CORE and VDD_SRAM have lain below their reset thresholds (R595) -/
  lowSince : Vector (Option Nat) 2 := Vector.replicate 2 none
  /-- ns counted by the rail monitor (R595) -/
  clockNs : Nat := 0
  /-- samples of the present tick (R619) -/
  railSum : Vector Nat 8 := Vector.replicate 8 0
  /-- number of samples in the present tick (R619) -/
  railN : Nat := 0
  /-- XO_IN present and in range (R601) -/
  xoOk : Bool := true
  /-- VDD_AON above its threshold (R595) -/
  aon : Bool := true
  /-- FAULT_N released (R529) -/
  faultN : Bool := false
  /-- level of FAULT_ALIVE (R526) -/
  faultAlive : Bool := false
  /-- IRQ_N released (R525) -/
  irqN : Bool := true
  /-- LOCK_PD0 and LOCK_PD1 (R230) -/
  lockPd : Vector Bool 2 := Vector.replicate 2 false
  /-- the 1 µs cells that they showed in the last tick (R230) -/
  lockCells : Vector (List Bool) 2 := Vector.replicate 2 []
  /-- OSPI_RESET_N is high (R615) -/
  ospiReset : Bool := false
  /-- the flash runs in 8D-8D-8D with OSPI_DQS as the read strobe; else in 1S-1S-1S (R615) -/
  ospiOctal : Bool := false
  /-- the SFDP table read at B03 (R615) -/
  sfdp : Bytes := []
  /-- ROLE ball (R442) -/
  rolePin : Bool := false
  /-- the JTAG port is out of its reset state (R616) -/
  jtag : Bool := false
  /-- WADDR balls (R442) -/
  waddrPin : Nat := 0
deriving DecidableEq, Repr

end Sys2Proof.Machine
end

