-- ==== Sys2Proof/Machine/TCrem.lean ====
section
/-! DEFINITION. State types: Cremin. Each field cites the rule that gives it. -/
namespace Sys2Proof.Machine

/-- A message waiting on a Cremin link (R467). -/
structure CremTx where
  /-- block type (R450) -/
  type : Nat := 0
  /-- octets 4-7 of the header (R450) -/
  specific : Bytes := []
  /-- data area without the CRC (R450) -/
  data : Bytes := []
deriving DecidableEq, Repr

/-- A Cremin link CL0-CL3 (R446 to R458). -/
structure CremLink where
  /-- the link is up (R446) -/
  up : Bool := false
  /-- coarse count at which the link came up (R446) -/
  lockSince : Option Nat := none
  /-- consecutive ticks without a TIME message that passed its CRC (R446) -/
  quiet : Nat := 0
  /-- consecutive ticks in each of which a transfer arrived (R130) -/
  steady : Nat := 0
  /-- accepted (R448) -/
  accepted : Bool := false
  /-- in a refused state (R448) -/
  refused : Bool := false
  /-- data area of the latest TIME message that passed (R453) -/
  last : Bytes := []
  /-- seq of the latest transfer since the link came up (R450) -/
  lastSeq : Option Nat := none
  /-- receive stamp of the latest TIME timestamp point (R453) -/
  rxStamp : Nat := 0
  /-- seq, t3 and step_count of own TIME messages, newest first (R455) -/
  txLog : List (Nat × Int × Nat) := []
  /-- seq, t2 and step_count of received TIME messages, newest first (R455) -/
  rxLog : List (Nat × Int × Nat) := []
  /-- seq, t1 and its step_count of received TIME messages, newest first (R455) -/
  t1Log : List (Nat × Int × Nat) := []
  /-- last values of d_k, 2^-56 ns (R455) -/
  dks : List Int := []
  /-- a transfer arrived in the present tick (R454) -/
  arrived : Bool := false
  /-- a TIME message passed its CRC in the present tick (R446) -/
  crcOk : Bool := false
  /-- r + F_u (R457) -/
  y : Int := 0
  /-- transmit queue of ASSIGN, JOIN, SUMMARY and TUNNEL (R467) -/
  queue : List CremTx := []
  /-- per-type sequence counts (R450) -/
  counts : Vector Nat 8 := Vector.replicate 8 0
  /-- TIME has been sent in the present tick (R452) -/
  sentTick : Bool := false
  /-- octets of the messages sent in the present tick (R467) -/
  sent : List Bytes := []
  /-- blocks sent in the present tick (R467) -/
  blocks : Nat := 0
  /-- boundary count of the last JOIN sent since link-up (R461) -/
  joinAt : Option Nat := none
deriving DecidableEq, Repr

/-- A node number at the manager (R463, R469). -/
structure CremNode where
  /-- serial that holds it (R463) -/
  serial : Bytes := []
  /-- coarse count of its last JOIN (R463) -/
  heldAt : Nat := 0
  /-- held (R463) -/
  held : Bool := false
  /-- consecutive ticks without a SUMMARY (R469) -/
  silent : Nat := 0
  /-- a SUMMARY arrived, or the number was given, in the present tick (R469) -/
  heard : Bool := false
  /-- CREMIN_NODE_LOST has been raised in its present silence (R469) -/
  lost : Bool := false
  /-- coarse count at which it was last released (R463) -/
  relAt : Option Nat := none
deriving DecidableEq, Repr

/-- Cremin. -/
structure Crem where
  /-- CL0-CL3 (R444) -/
  links : Vector CremLink 4 := Vector.replicate 4 {}
  /-- own node number (R443) -/
  node : Nat := 0xFF
  /-- WADDR sampled at B02 (R442) -/
  waddr : Nat := 0
  /-- depth (R445) -/
  depth : Nat := 0xFF
  /-- lineage (R445) -/
  lineage : Bytes := []
  /-- nodes 1-48 (entry 0 unused) (R463) -/
  nodes : Vector CremNode 49 := Vector.replicate 49 {}
  /-- TUNNEL reassembly: source, identifier, octets (R465) -/
  parts : List (Nat × Nat × Bytes) := []
  /-- next message identifier (R465) -/
  tunnelId : Nat := 0
  /-- lanes started (B11) (R447) -/
  started : Bool := false
  /-- boundary count of the tick of the last own SUMMARY (R468) -/
  sumAt : Nat := 0
deriving DecidableEq, Repr

end Sys2Proof.Machine
end

