-- ==== Sys2Proof/Machine/TGran.lean ====
section
/-! DEFINITION. State types: the dictionary, its commit sets and the Atton agent. Each field cites the rule that gives it. -/
namespace Sys2Proof.Machine

/-- A write entry (R489) with the path facts it is checked against. -/
structure WriteEntry where
  /-- index (R489) -/
  index : Nat := 0
  /-- subindex (R489) -/
  sub : Nat := 0
  /-- value octets (R489) -/
  value : Bytes := []
deriving DecidableEq, Repr

/-- A write, bundle or STORE staged into a commit set (R476 to R480). -/
structure Staged where
  /-- commit handle (R484) -/
  handle : Nat := 0
  /-- a bundle (R480) -/
  bundle : Bool := false
  /-- its entries (R477) -/
  entries : List WriteEntry := []
  /-- level of the message (R478) -/
  level : Nat := 3
  /-- access path (R474) -/
  path : Nat := 0
  /-- superseded (R479) -/
  superseded : Bool := false
deriving DecidableEq, Repr

/-- A commit set (R476, R477). -/
structure CommitSet where
  /-- in staging order (R477) -/
  items : List Staged := []
  /-- handle of the RESTORE_DEFAULTS that holds it alone (R483) -/
  restore : Option Nat := none
deriving DecidableEq, Repr

/-- The outcome of a commit handle (R484). -/
structure HandleRec where
  /-- status code (R486) -/
  status : Nat := 1
  /-- commit boundary seconds (R484) -/
  sec : Nat := 0
  /-- commit boundary tick (R484) -/
  tick : Nat := 0
deriving DecidableEq, Repr

/-- A sequence window (R493). -/
structure Window where
  /-- H (R493) -/
  top : Nat := 0
  /-- bit map of H - 63 to H, bit j for H - j (R493) -/
  map : Nat := 0
deriving DecidableEq, Repr

/-- A transport return address (R495, R496). -/
structure Back where
  /-- 0 SPI, 1 Ethernet on a port, 2 UDP on a port, 3 Cremin (R495) -/
  via : Nat := 0
  /-- port 0-8 (R495) -/
  port : Nat := 0
  /-- served entry (R495) -/
  entry : Nat := 0
  /-- source MAC address of the request (R495) -/
  mac : Bytes := []
  /-- source IP address of the request (R495) -/
  addr : Bytes := []
  /-- source UDP port of the request (R495) -/
  udp : Nat := 0
  /-- source node of the TUNNEL (R495) -/
  node : Nat := 0
  /-- tags of the request (R334) -/
  tags : Nat := 0
  /-- inner PCP of the request (R334) -/
  ipcp : Nat := 0
deriving DecidableEq, Repr

/-- An Atton association (R475). -/
structure Assoc where
  /-- sender (R474) -/
  sender : Nat := 0
  /-- level (R474) -/
  level : Nat := 1
  /-- sequence window (R493) -/
  window : Window := {}
  /-- transport address of the last SUBSCRIBE (R498) -/
  back : Back := {}
  /-- outbound NOTIFY count (R498) -/
  outSeq : Nat := 0
  /-- notification queue, oldest first (R498) -/
  notify : List Bytes := []
deriving DecidableEq, Repr

/-- A subscription (R497). -/
structure Sub where
  /-- association number, 64 for the SPI path (R497) -/
  owner : Nat := 0
  /-- id (R497) -/
  ident : Nat := 0
  /-- period in ticks (R497) -/
  period : Nat := 1
  /-- lifetime, s (R497) -/
  life : Nat := 1
  /-- coarse count of the last SUBSCRIBE (R497) -/
  since : Nat := 0
  /-- index and subindex (R497) -/
  entries : List (Nat × Nat) := []
  /-- level (R498) -/
  level : Nat := 1
  /-- sender of the SUBSCRIBE (R487) -/
  sender : Nat := 0
  /-- boundary count for which a report is due, 0 none (R497) -/
  dueAt : Nat := 0
deriving DecidableEq, Repr

/-- A return record of a forwarding node (R496). -/
structure RetRec where
  /-- destination node (R496) -/
  node : Nat := 0
  /-- sender (R496) -/
  sender : Nat := 0
  /-- return address (R496) -/
  back : Back := {}
  /-- coarse count of its last use (R496) -/
  used : Nat := 0
deriving DecidableEq, Repr

/-- A message waiting in the Atton receive queue or held through a staging close (R476, R494). -/
structure AttonMsg where
  /-- the message (R494) -/
  bytes : Bytes := []
  /-- where it came from (R495) -/
  back : Back := {}
  /-- cells reserved for its response (R494) -/
  reserved : Nat := 0
  /-- queue that its cells are reserved on (R494) -/
  queue : Nat := 0
  /-- access path of a message that has passed the checks of R492 and waits through a staging close (R476) -/
  passed : Option Nat := none
deriving DecidableEq, Repr

/-- A STORE that waits for capture or runs (R503). -/
structure StoreJob where
  /-- handle (R503) -/
  handle : Nat := 0
  /-- captured (R503) -/
  captured : Bool := false
  /-- DICT_DATA payloads captured (R504) -/
  data : List Bytes := []
  /-- entries captured (R504) -/
  count : Nat := 0
  /-- capture boundary seconds (R504) -/
  sec : Nat := 0
  /-- capture boundary tick (R504) -/
  tick : Nat := 0
deriving DecidableEq, Repr

/-- A record of the flash journal (R504). -/
structure JRecord where
  /-- erase block (R504) -/
  block : Nat := 0
  /-- offset in the block (R504) -/
  off : Nat := 0
  /-- kind (R504) -/
  kind : Nat := 0
  /-- unit (R504) -/
  unit : Nat := 0
  /-- generation (R504) -/
  gen : Nat := 0
  /-- payload (R504) -/
  data : Bytes := []
  /-- it passes its CRC (R505) -/
  good : Bool := true
deriving DecidableEq, Repr

/-- The journal region of the flash (R504 to R506). -/
structure Journal where
  /-- records, oldest first (R504) -/
  records : List JRecord := []
  /-- write head, octet offset in the region (R504) -/
  head : Nat := 0
  /-- generation per unit (R504) -/
  unitGen : List (Nat × Nat) := []
deriving DecidableEq, Repr

/-- The dictionary's values. -/
structure Dict where
  /-- configured values, by index x 256 + subindex; an unlisted object has its default (R473) -/
  cfg : Store := []
  /-- in-effect values, by the configured object's key (R471) -/
  eff : Store := []
  /-- status objects, counters and stored RO P objects (R473) -/
  val : Store := []
deriving DecidableEq, Repr

/-- The dictionary's commit machinery and the Atton agent. -/
structure Granary where
  /-- commit set of the next boundary (R476) -/
  cur : CommitSet := {}
  /-- following commit sets, nearest first (R477) -/
  later : List CommitSet := []
  /-- messages that wait through a staging close or a role rotation (R476) -/
  held : List AttonMsg := []
  /-- outcomes, newest first (R484) -/
  handles : List (Nat × HandleRec) := []
  /-- associations by number (R475) -/
  assocs : List (Nat × Assoc) := []
  /-- subscriptions (R497) -/
  subs : List Sub := []
  /-- return records, oldest first (R496) -/
  returns : List RetRec := []
  /-- receive queue (R494) -/
  inbox : List AttonMsg := []
  /-- responses and NOTIFYs sent in the present tick (R495) -/
  outSent : List (Back × Bytes) := []
  /-- SPI response buffer (R501) -/
  spiResp : Option Bytes := none
  /-- NOTIFYs of associations that were freed, draining: transport address and message, oldest first (R47) -/
  draining : List (Back × Bytes) := []
  /-- notification queue of the SPI path (R501) -/
  spiNotify : List Bytes := []
  /-- outbound NOTIFY count of the SPI path (R498) -/
  spiOut : Nat := 0
  /-- sequence windows of the SPI path per level (entry 0 unused) (R501) -/
  spiWin : Vector Window 4 := Vector.replicate 4 {}
  /-- octets driven on SPI_MISO in the last transaction, after the command octet (R500) -/
  spiMiso : Bytes := []
  /-- outbound count of unit NOTIFYs (R499) -/
  pushSeq : Nat := 0
  /-- management keys in effect per level (entry 0 unused) (R488) -/
  keys : Vector Bytes 4 := Vector.replicate 4 []
  /-- running STORE (R503) -/
  store : Option StoreJob := none
  /-- waiting STORE (R503) -/
  storeNext : Option StoreJob := none
  /-- flash journal (R504) -/
  journal : Journal := {}
  /-- units whose in-effect configuration differs, and whether it has been applied again since (R50) -/
  bad : List (Nat × Bool) := []
  /-- results of the last internal RC read: key and octets (R491) -/
  lastRead : List (Nat × Bytes) := []
deriving DecidableEq, Repr

end Sys2Proof.Machine
end

