-- ==== Sys2Proof/Machine/TSynth.lean ====
section
/-! DEFINITION. State types: synthesis and interval measurement. Each field cites the rule that gives it. -/
namespace Sys2Proof.Machine

/-- A DPLL (R217, R226). -/
structure Dpll where
  /-- DCO frequency, mHz; in SLEW that at which the ramp began (R217, R237) -/
  dco : Nat := 10000000000000
  /-- the PD sample most recently completed was within dpll.lock_window (R230) -/
  lastOk : Bool := false
  /-- coarse count since which every sample lay in the window (R226) -/
  inWin : Option Nat := none
  /-- coarse count at which ACQUIRE or the ramp of SLEW began (R226, R237) -/
  acqFrom : Nat := 0
  /-- relock_max has passed in the present ACQUIRE (R226) -/
  timedOut : Bool := false
  /-- end point of the ramp in SLEW, mHz (R237) -/
  target : Nat := 10000000000000
  /-- bandwidth code in use (R224) -/
  bwNow : Nat := 15
  /-- DCO held at its mean tuning (R228, R174) -/
  held : Bool := false
  /-- the DCO is to be retuned open-loop as soon as every dependent output is held low (R236) -/
  retune : Bool := false
  /-- TOD rate fed forward: what the TOD adds per tclk cycle, units of 2^-56 ns (R221) -/
  ff : Int := 0x0200000000000000
  /-- proportional part of the tuning, FREQ64 (R223) -/
  prop : Int := 0
  /-- integrator, FREQ64 (R223) -/
  integ : Int := 0
  /-- second integrator, FREQ64 (R225) -/
  integ2 : Int := 0
  /-- by how much the ideal edges lie off the instants k / f_pd, units of 2^-56 ns (R222, R226) -/
  edgeOff : Int := 0
  /-- e of the last PD sample, units of 2^-56 ns (R226) -/
  lastE : Int := 0
  /-- consecutive samples outside the window (R226) -/
  outRun : Nat := 0
  /-- DCO frequency at the end of each of the last ticks, 100 ms at most, newest first, µHz: its mean freezes the DCO (R226) -/
  tunes : List Int := []
  /-- the mean at which the DCO is frozen in HOLD, µHz (R226) -/
  frozen : Option Int := none
  /-- 1 µs cells of the last tick: whether the sample completed last lay in the window (R230) -/
  cells : List Bool := []
  /-- number of the next cell (R230) -/
  cellAt : Nat := 0
deriving DecidableEq, Repr

/-- A clock output OUT0-OUT11, and GF_SCLK as number 12 (R235). -/
structure Output where
  /-- present level of the output (R235) -/
  high : Bool := false
  /-- a gate awaits the first falling edge (R235) -/
  gating : Bool := false
  /-- a change of divider, phase or source is being loaded (R236) -/
  loading : Bool := false
  /-- released and not yet gated (R235) -/
  running : Bool := false
  /-- aligned (R234) -/
  aligned : Bool := false
  /-- divider with which it runs (R238) -/
  div : Nat := 1000
  /-- source DPLL with which it runs, 0 DPLL-A (R238) -/
  src : Nat := 0
  /-- being realigned (R241, R242) -/
  realign : Bool := false
  /-- TOD of the last release (t_r) (R235) -/
  relAt : Option Int := none
deriving DecidableEq, Repr

/-- A PPS output (R244). -/
structure PpsOut where
  /-- a pulse is in progress (R244) -/
  active : Bool := false
  /-- width of the pulse in progress, ns (R246) -/
  width : Nat := 0
  /-- start instant dealt with last and tod.step_count then (R246) -/
  last : Option (Int × Nat) := none
  /-- held inactive since a change of pps.source (R245) -/
  holdSrc : Bool := false
  /-- coarse count of the start of the pulse in progress (R246) -/
  widthCyc : Nat := 0
  /-- level of the pin (R244) -/
  level : Bool := false
deriving DecidableEq, Repr

/-- A time-of-day UART (R248, R251). -/
structure TodUart where
  /-- the last message sent (R249) -/
  sent : Bytes := []
  /-- start instant of the last message and tod.step_count then (R248) -/
  last : Option (Int × Nat) := none
  /-- coarse count at which it started, and its rate in baud (R47, R248) -/
  started : Nat × Nat := (0, 9600)
  /-- S of the update at tick 0 of the present second (R249) -/
  scr0 : Nat := 0xFFFFFFFFFFFF
deriving DecidableEq, Repr

/-- A TIC interpolator (R260 to R262). -/
structure Interp where
  /-- 0 CALIBRATE, 1 READY, 2 MEASURE, 3 FENCED (R262) -/
  state : Nat := 0
  /-- histogram of the table in use, or held (R260) -/
  hits : List Nat := []
  /-- N of that table (R260) -/
  total : Nat := 0
  /-- coarse count at which the table completed (R263) -/
  doneAt : Nat := 0
  /-- consecutive failures (R261) -/
  fails : Nat := 0
  /-- table waiting for the boundary in SINGLE mode (R263) -/
  next : List Nat := []
  /-- coarse count at which that table completed (R263) -/
  nextAt : Nat := 0
  /-- its table comes from the calibration store (R564) -/
  stored : Bool := false
  /-- coarse count from which it measures after the other was fenced (R262) -/
  since : Nat := 0
deriving DecidableEq, Repr

/-- An event of a TIC channel (R258). -/
structure TicEv where
  /-- coarse cycle (R257) -/
  c : Nat := 0
  /-- interpolator code (R258) -/
  k : Nat := 0
  /-- event time, units of 2^-24 ps (R258) -/
  u : Int := 0
  /-- t_fine, units of 2^-24 ps (R258) -/
  fine : Int := 0
  /-- width of its bin, units of 2^-24 ps (R276) -/
  bin : Int := 0
  /-- STAMP128 (R258) -/
  stamp : Nat := 0
  /-- the TOD that the stamp names, units of 2^-56 ns (R258) -/
  tod : Int := 0
  /-- a falling edge of a channel that takes both polarities (R255) -/
  fall : Bool := false
  /-- position on the TB_IN time base (R265) -/
  pos : Option Rat := none
deriving DecidableEq, Repr

/-- A TIC channel: TI0-TI7, REF channels 0-7, the TB channel (R254). -/
structure TicChan where
  /-- interpolator 0 (R262) -/
  i0 : Interp := {}
  /-- interpolator 1 (R262) -/
  i1 : Interp := {}
  /-- record queue (R273) -/
  queue : List Bytes := []
  /-- record sequence number (R272) -/
  seq : Nat := 0
  /-- coarse count of the last accepted event (R256) -/
  lastEv : Option Nat := none
  /-- its gate window is open (R267) -/
  winOpen : Bool := false
  /-- window number (R272) -/
  winNo : Nat := 0
  /-- first divided event of the window (R275) -/
  freqFirst : Option TicEv := none
  /-- last divided event of the window (R275) -/
  freqLast : Option TicEv := none
  /-- divided-event intervals in the window (R275) -/
  freqN : Nat := 0
  /-- events counted by tic.prescale (R275) -/
  presc : Nat := 0
  /-- candidate of the present coarse cycle at TI0-TI7: interpolator code, rising edge (R255, R268) -/
  fresh : Option (Nat × Bool) := none
  /-- tclk cycles, since its table was completed, in which the only interpolator could not accept an event and took calibration edges (R263) -/
  quiet : Nat := 0
  /-- coarse count up to which these are counted (R263) -/
  quietAt : Nat := 0
deriving DecidableEq, Repr

/-- A difference unit D0-D7 (R274). -/
structure TicDiff where
  /-- start event (R274) -/
  s : Option TicEv := none
  /-- stop event (R274) -/
  p : Option TicEv := none
  /-- pairs of the window (R274) -/
  pairs : Nat := 0
  /-- its coarse count has reached 2^47 (R276) -/
  ovf : Bool := false
  /-- window open (R267) -/
  winOpen : Bool := false
  /-- window number (R272) -/
  winNo : Nat := 0
  /-- record queue (R273) -/
  queue : List Bytes := []
  /-- record sequence number (R272) -/
  seq : Nat := 0
deriving DecidableEq, Repr

/-- A result that waits for the TB_IN edge behind its later event (R265). -/
structure TicWait where
  /-- channel 0-7, or difference unit + 8 (R265) -/
  unit : Nat := 0
  /-- first or start event (R265) -/
  a : TicEv := {}
  /-- last or stop event (R265) -/
  b : TicEv := {}
  /-- intervals counted (R275) -/
  n : Nat := 0
  /-- window number (R272) -/
  winNo : Nat := 0
  /-- the unit measures on TB_IN (R265) -/
  tb : Bool := false
  /-- tic.prescale of its window (R275) -/
  presc : Nat := 1
  /-- tic.nominal_hz of its window (R275) -/
  nominal : Nat := 1
deriving DecidableEq, Repr

/-- The time-interval counter. -/
structure Tic where
  /-- results that wait for a TB_IN edge, oldest first (R265) -/
  waits : List TicWait := []
  /-- TOD instant at which the PERIOD window opened (R267) -/
  perAt : Int := 0
  /-- TI0-TI7, REF channels 0-7, TB channel (R254) -/
  chans : Vector TicChan 17 := Vector.replicate 17 {}
  /-- D0-D7 (R274) -/
  diffs : Vector TicDiff 8 := Vector.replicate 8 {}
  /-- consecutive good TB_IN edges (R266) -/
  tbRun : Nat := 0
  /-- coarse count since which TB_IN has been present (R266) -/
  tbSince : Option Nat := none
  /-- recent TB edges (index, time u), newest first (R265) -/
  tbEdges : List (Nat × Int) := []
  /-- TOD of the newest TB edge, units of 2^-56 ns (R277) -/
  tbTod : Int := 0
  /-- index and TOD of the TB edge that began the present second of tic.tb_freq (R277) -/
  tbMark : Option (Nat × Int) := none
  /-- TB_IN returns to use at the next boundary (R266) -/
  tbReturn : Bool := false
  /-- GATE0 window open (R267) -/
  gate0 : Bool := false
  /-- GATE1 window open (R267) -/
  gate1 : Bool := false
  /-- PERIOD window open (R267) -/
  period : Bool := false
deriving DecidableEq, Repr

end Sys2Proof.Machine
end

