-- ==== Sys2Proof/Machine/State.lean ====
section
/-! DEFINITION. The state of the OT9600 as plain data, its value right after reset, and the two closed lists of reasons for
which a step could stop. -/
namespace Sys2Proof.Machine

/-- Reasons for a fault: none. No rule of the manual stops the part; what it calls a fault is a Winnow source, an error counter or
a status, and each is an effect on State. The list has no constructor, so no command faults (safe: nothing is left out by it). -/
inductive Fault where
deriving DecidableEq

/-- Reasons for a refusal. -/
inductive Refusal where
  /-- raised by `exec` alone, for a command that has no meaning yet (safe: the run stops) -/
  | notModelled (mnemonic : String)
deriving DecidableEq, Repr

/-- Everything the part holds, and the queue of the commands that wait. -/
structure State where
  /-- the dictionary's values (R471, R473) -/
  dict : Dict := {}
  /-- fuses, boot ROM keys and straps (R20, R442) -/
  dev : Dev := {}
  /-- time core (R59 to R95) -/
  tc : TimeCore := {}
  /-- lanes NP0-NP7, HP, CL0-CL3 (R104) -/
  lanes : Vector Lane 13 := Vector.replicate 13 {}
  /-- reference slots S0-S23 (R124) -/
  slots : Vector Slot 24 := Vector.replicate 24 {}
  /-- selection and servo (R139 to R155) -/
  sel : Select := {}
  /-- holdover (R162 to R191) -/
  hold : Hold := {}
  /-- scruple unit (R192 to R216) -/
  scr : Scruple := {}
  /-- DPLL-T, -A, -B, -C, -D (R217) -/
  dplls : Vector Dpll 5 := Vector.replicate 5 {}
  /-- OUT0-OUT11 and GF_SCLK (R235) -/
  outs : Vector Output 13 := Vector.replicate 13 {}
  /-- PPSO0-PPSO3 (R244) -/
  pps : Vector PpsOut 4 := Vector.replicate 4 {}
  /-- time-of-day UARTs (R248) -/
  uarts : Vector TodUart 2 := Vector.replicate 2 {}
  /-- interval counter (R254) -/
  tic : Tic := {}
  /-- Gleaner (R278) -/
  gnss : Gnss := {}
  /-- ports and protocol services (R316) -/
  net : Net := {}
  /-- Cremin (R442) -/
  crem : Crem := {}
  /-- Granary and Atton agent (R471) -/
  gran : Granary := {}
  /-- Winnow (R508) -/
  win : Winnow := {}
  /-- Steward pairs (R43) -/
  stew : Stewards := {}
  /-- core matrix (R533) -/
  mtx : Matrix := {}
  /-- Tithe (R546) -/
  tithe : Tithe := {}
  /-- reset, start, install and ageing (R556) -/
  boot : Boot := {}
  /-- supplies, temperatures and pins (R590) -/
  elec : Elec := {}
  /-- the model's own counter of the free values drawn (log entry 6) -/
  fresh : Nat := 0
  /-- the commands that wait, first in, first out -/
  pending : List Instr := []
deriving DecidableEq, Repr

/-- The fuses and straps of the device at reset (log entry 8). -/
def Dev.atReset : Dev :=
  { serial := zeros 16, clockIds := List.replicate 4 (zeros 8), storageKey := zeros 32, romKeys := List.replicate 4 (zeros 96) }

/-- The part right after a power-on reset, before its start has begun (R556, R557): nothing is listed in the dictionary's stores, so
every object has its default; the time core does not run (R63); no command waits. -/
def State.reset : State := { dev := Dev.atReset }

end Sys2Proof.Machine
end

