-- ==== Sys2Proof/Machine/Ops.lean ====
section
/-! DEFINITION. The named operations over the dictionary's stores, the counters, the fault sources, elapsed time and the free
values, which every meaning uses. -/
namespace Sys2Proof.Machine

/-! ### Stores -/

/-- The value that a store lists for a key. -/
def Store.find (st : Store) (k : Nat) : Option Val := (st.find? fun e => e.1 == k).map Prod.snd

/-- A value listed before the first larger key of a store. -/
def Store.insert (k : Nat) (v : Val) : Store → Store
  | [] => [(k, v)]
  | e :: t => if k < e.1 then (k, v) :: e :: t else e :: Store.insert k v t

/-- A store with one value written; a value equal to the default `d` is not listed, and the keys stay rising. -/
def Store.put (k : Nat) (v d : Val) (st : Store) : Store :=
  let rest := st.filter fun e => e.1 != k
  if v = d then rest else Store.insert k v rest

/-- The keys of a store rise strictly, from `lo` on. -/
def Store.risingFrom (lo : Nat) : Store → Bool
  | [] => true
  | e :: t => decide (lo ≤ e.1) && Store.risingFrom (e.1 + 1) t

/-- The keys of a store rise strictly. -/
def Store.rising (st : Store) : Bool := Store.risingFrom 0 st

/-! ### Values of objects -/

/-- The configured value of element (i, j) of a row (R473). -/
def State.cfg (s : State) (r : Row) (i : Nat := 0) (j : Nat := 0) : Val :=
  (s.dict.cfg.find (r.key i j)).getD (r.dflt s.dev i j)

/-- The value in effect of element (i, j) of a row (R49); an object without a twin has its configured value. -/
def State.eff (s : State) (r : Row) (i : Nat := 0) (j : Nat := 0) : Val :=
  if r.twin = 0 then s.cfg r i j else (s.dict.eff.find (r.key i j)).getD (r.dflt s.dev i j)

/-- The value of element (i, j) of a status object, a counter or an action object (R473). -/
def State.val (s : State) (r : Row) (i : Nat := 0) (j : Nat := 0) : Val :=
  (s.dict.val.find (r.key i j)).getD (r.dflt s.dev i j)

/-- A configured number. -/
def State.cfgN (s : State) (r : Row) (i : Nat := 0) (j : Nat := 0) : Int := (s.cfg r i j).num

/-- A number in effect. -/
def State.effI (s : State) (r : Row) (i : Nat := 0) (j : Nat := 0) : Int := (s.eff r i j).num

/-- An unsigned number in effect. -/
def State.effN (s : State) (r : Row) (i : Nat := 0) (j : Nat := 0) : Nat := (s.effI r i j).toNat

/-- Octets in effect. -/
def State.effB (s : State) (r : Row) (i : Nat := 0) (j : Nat := 0) : Bytes := (s.eff r i j).bytes

/-- A truth value in effect. -/
def State.effT (s : State) (r : Row) (i : Nat := 0) (j : Nat := 0) : Bool := s.effI r i j != 0

/-- A status number. -/
def State.valI (s : State) (r : Row) (i : Nat := 0) (j : Nat := 0) : Int := (s.val r i j).num

/-- An unsigned status number. -/
def State.valN (s : State) (r : Row) (i : Nat := 0) (j : Nat := 0) : Nat := (s.valI r i j).toNat

/-- A status truth value. -/
def State.valT (s : State) (r : Row) (i : Nat := 0) (j : Nat := 0) : Bool := s.valI r i j != 0

/-- A configured value written. -/
def State.setCfg (s : State) (r : Row) (i j : Nat) (v : Val) : State :=
  { s with dict := { s.dict with cfg := s.dict.cfg.put (r.key i j) v (r.dflt s.dev i j) } }

/-- A value in effect written. -/
def State.setEff (s : State) (r : Row) (i j : Nat) (v : Val) : State :=
  { s with dict := { s.dict with eff := s.dict.eff.put (r.key i j) v (r.dflt s.dev i j) } }

/-- A status value written. -/
def State.setVal (s : State) (r : Row) (i j : Nat) (v : Val) : State :=
  { s with dict := { s.dict with val := s.dict.val.put (r.key i j) v (r.dflt s.dev i j) } }

/-- A status number written. -/
def State.setN (s : State) (r : Row) (v : Int) (i : Nat := 0) (j : Nat := 0) : State := s.setVal r i j (.n v)

/-- A status truth value written. -/
def State.setT (s : State) (r : Row) (b : Bool) (i : Nat := 0) (j : Nat := 0) : State :=
  s.setVal r i j (.n (if b then 1 else 0))

/-- Status octets written. -/
def State.setB (s : State) (r : Row) (b : Bytes) (i : Nat := 0) (j : Nat := 0) : State := s.setVal r i j (.o b)

/-- The number of octets of a type with a fixed size, and whether it is signed (R15). -/
def Ty.width : Ty → Option (Nat × Bool)
  | .bool => some (1, false)
  | .u8 => some (1, false)
  | .u16 => some (2, false)
  | .u32 => some (4, false)
  | .u64 => some (8, false)
  | .i8 => some (1, true)
  | .i16 => some (2, true)
  | .i32 => some (4, true)
  | .i64 => some (8, true)
  | .time128 => some (16, false)
  | .stamp128 => some (16, false)
  | .inc64 => some (8, false)
  | .freq64 => some (8, true)
  | .scruple48 => some (6, false)
  | .enum => some (1, false)
  | .octets _ _ => none
  | .key _ => none

/-- A counter increased; it saturates at the largest value of its type (R48, R507). -/
def State.count (s : State) (r : Row) (i : Nat := 0) (j : Nat := 0) (k : Nat := 1) : State :=
  let bits := match r.ty.width with
    | some (w, _) => 8 * w
    | none => 64
  s.setN r (satAdd bits (s.valN r i j) k) i j

/-! ### Time -/

/-- The present voted time of day (R25). -/
def State.tod (s : State) : Tod := s.tc.voted

/-- Nanoseconds since a coarse count, counted in tclk cycles of 2 ns (log entry 4). -/
def State.nsSince (s : State) (c : Nat) : Nat := 2 * (s.tc.cyc - c)

/-- At least so many ns have passed since a coarse count. -/
def State.passed (s : State) (c ns : Nat) : Bool := decide (ns ≤ s.nsSince c)

/-- At least so many ns have passed since a coarse count that is held. -/
def State.passedO (s : State) (c : Option Nat) (ns : Nat) : Bool :=
  match c with
  | some c => s.passed c ns
  | none => false

/-- One second in ns. -/
def oneSec : Nat := 1000000000

/-- One millisecond in ns. -/
def oneMs : Nat := 1000000

/-- tod.step_count. -/
def State.steps (s : State) : Nat := s.valN Obj.tod_step_count

/-- The tick count of the present tick (R23). -/
def State.tickNow (s : State) : Nat := tickCount s.tc.tickSec s.tc.tickNo

/-! ### Free values -/

/-- The next octets of the random generator (R393, R475). -/
def State.random (s : State) (k : Nat) : State × Bytes :=
  ({ s with fresh := s.fresh + k }, (List.range k).map fun i => Config.randomOctet (s.fresh + i))

/-- A number that the manual says nothing of (log entry 6). -/
def State.open (s : State) : State × Int := ({ s with fresh := s.fresh + 1 }, Config.openValue s.fresh)

/-! ### Fault sources (16_winnow.md) -/

/-- The severity of a source in effect; that of REEVE_HEARTBEAT reads 7 (R512). -/
def State.severity (s : State) (src : Nat) : Nat := if src = 311 then 7 else s.effN Obj.win_src_severity src

/-- The reaction mask of a source (R510, R512). -/
def State.mask (s : State) (src : Nat) : Nat :=
  if src = 311 then 0x20
  else
    let o := s.effN Obj.win_src_override src
    if o ≠ 0xFF then o else s.effN Obj.win_reaction (s.severity src)

/-- A source whose raise is held in its own pending bit (R516). -/
def State.holds (s : State) (src : Nat) : Bool :=
  (decide (211 ≤ src) && decide (src ≤ 213)) || s.mask src &&& 0x0C != 0

/-- The live mark of a source changed. -/
def State.modSrc (s : State) (src : Nat) (f : RaisedSrc → RaisedSrc) : State :=
  { s with win := { s.win with srcs := vmod s.win.srcs src f } }

/-- The bits of win.src.state of a source changed: `set` is added. -/
def State.srcBits (s : State) (src set : Nat) : State := s.setN Obj.win_src_state ((s.valN Obj.win_src_state src ||| set : Nat) : Int) src

/-- A raise that is lost: win.lost and LOST are its only record, and a CONDITION comes back at a boundary (R516). -/
def State.lose (s : State) (src : Nat) : State :=
  let s := s.setN Obj.win_lost (satAdd 16 (s.valN Obj.win_lost) 1)
  let s := s.setN Obj.win_status ((s.valN Obj.win_status ||| 1 : Nat) : Int)
  if (srcRow src).cond then s.modSrc src fun r => { r with lostCond := true } else s

/-- A raise that is taken marks its source active (R509) and raised since start. -/
def State.markRaised (s : State) (src : Nat) : State :=
  let s := s.srcBits src 8
  s.modSrc src fun r => { r with active := true, activeTo := s.tc.boundaries + 8000, lostCond := false }

/-- A source is raised (R509, R514, R516): it joins the presentation of its cycle, is held, or is lost. The sources of a bank
that is lost are raised no longer (R522). -/
def State.raise (s : State) (src : Nat) (i : FaultInfo := {}) : State :=
  if src < 168 && decide (32 ≤ src) && s.win.bankLost.contains ((src - 32) % 68) then s
  else if s.win.busy || s.win.heartLost then
    if s.holds src && !(s.win.held.any fun h => h.1 == src) then
      let s := s.markRaised src
      { s with win := { s.win with held := s.win.held ++ [(src, i)] } }
    else s.lose src
  else if s.win.now.any fun h => h.1 == src then s.markRaised src
  else
    let s := s.markRaised src
    { s with win := { s.win with now := s.win.now ++ [(src, i)] } }

/-- FENCE_NO_SPARE and DCO_SPARE_IN raised by the reaction in progress are held and presented when handling ends (R516). -/
def State.raiseHeld (s : State) (src : Nat) (i : FaultInfo := {}) : State :=
  if s.win.busy && !(s.win.held.any fun h => h.1 == src) then
    let s := s.markRaised src
    { s with win := { s.win with held := s.win.held ++ [(src, i)] } }
  else s.raise src i

/-- The condition of a CONDITION source begins: it is raised (R509). -/
def State.condBegin (s : State) (src : Nat) (i : FaultInfo := {}) : State :=
  if (vat s.win.srcs src {}).cond then s
  else (s.modSrc src fun r => { r with cond := true, active := true }).raise src i

/-- The condition of a CONDITION source ends: the source is active no longer (R509). -/
def State.condEnd (s : State) (src : Nat) : State :=
  s.modSrc src fun r => { r with cond := false, active := false, lostCond := false }

/-- A condition that holds or not at present. -/
def State.condSet (s : State) (src : Nat) (holds : Bool) (i : FaultInfo := {}) : State :=
  if holds then s.condBegin src i else s.condEnd src

/-! ### Units changed -/

/-- A reference slot changed. -/
def State.modSlot (s : State) (n : Nat) (f : Slot → Slot) : State := { s with slots := vmod s.slots n f }

/-- A reference slot. -/
def State.slot (s : State) (n : Nat) : Slot := vat s.slots n {}

/-- A port changed. -/
def State.modPort (s : State) (p : Nat) (f : Port → Port) : State := { s with net := { s.net with ports := vmod s.net.ports p f } }

/-- A port. -/
def State.port (s : State) (p : Nat) : Port := vat s.net.ports p {}

/-- A lane changed. -/
def State.modLane (s : State) (l : Nat) (f : Lane → Lane) : State := { s with lanes := vmod s.lanes l f }

/-- A lane. -/
def State.lane (s : State) (l : Nat) : Lane := vat s.lanes l {}

/-- A PTP instance changed. -/
def State.modPtp (s : State) (i : Nat) (f : PtpInst → PtpInst) : State := { s with net := { s.net with ptp := vmod s.net.ptp i f } }

/-- A PTP instance. -/
def State.ptp (s : State) (i : Nat) : PtpInst := vat s.net.ptp i {}

/-- A Cremin link changed. -/
def State.modLink (s : State) (l : Nat) (f : CremLink → CremLink) : State := { s with crem := { s.crem with links := vmod s.crem.links l f } }

/-- A Cremin link. -/
def State.link (s : State) (l : Nat) : CremLink := vat s.crem.links l {}

/-- A function applied to a state for each element of a list, in order. -/
def State.each {α : Type} (s : State) (l : List α) (f : State → α → State) : State := l.foldl f s

/-! ### Steward pairs and roles (R30, R43 to R46) -/

/-- A Steward pair. -/
def State.pair (s : State) (p : Nat) : Pair := vat s.stew.pairs p {}

/-- A Steward pair changed. -/
def State.modPair (s : State) (p : Nat) (f : Pair → Pair) : State := { s with stew := { s.stew with pairs := vmod s.stew.pairs p f } }

/-- The pair that holds a role, 1 SA, 2 SB, 3 standby. -/
def State.roleAt (s : State) (r : Nat) : Option Nat := (List.range 3).find? fun p => (s.pair p).role == r

/-- A role runs: a pair holds it, it is not halted, and its outputs are not blocked (R31, R46). -/
def State.roleRuns (s : State) (r : Nat) : Bool :=
  !s.stew.halted.contains r &&
    match s.roleAt r with
    | some p => !(s.pair p).blocked && !(s.pair p).fenced
    | none => false

/-- SB stages no write: its role is halted, or no pair holds it yet (R46). -/
def State.noStaging (s : State) : Bool := !s.boot.recovery && (s.stew.halted.contains 2 || (s.roleAt 2).isNone)

end Sys2Proof.Machine
end

