-- ==== Sys2Proof/Machine/Tally.lean ====
section
/-! DEFINITION. The live counters of Tithe (17_matrix_tithe.md R546 to R549), and the events that the model itself sees occur: each counts where it
occurs. The other events of R547 are an operand of the boundary (log entries 2 and 67). -/
namespace Sys2Proof.Machine

/-- The largest value of a Tithe counter (R549). -/
def titheTop : Nat := 2 ^ 48 - 1

/-- Tithe changed. -/
def State.modTithe (s : State) (f : Tithe → Tithe) : State := { s with tithe := f s.tithe }

/-- The unit of a block is fenced (R546). -/
def State.titheFenced (s : State) (b : Nat) : Bool :=
  (b < 31 && s.win.fenced.contains b) || (decide (57 ≤ b) && decide (b ≤ 59) && (s.pair (b - 57)).fenced)

/-- A counter increased; it stays at its largest value and sets its SAT flag (R549). -/
def TitheBlock.add (x : TitheBlock) (e k : Nat) : TitheBlock :=
  let bump (v : Nat) : Nat := min (v + k) titheTop
  if e = 8 then
    { x with cycles := bump x.cycles, sat := if bump x.cycles = titheTop then x.sat ||| 256 else x.sat }
  else
    let v := bump (vat x.counts e 0)
    { x with counts := vmod x.counts e fun _ => v, sat := if v = titheTop then x.sat ||| 2 ^ e else x.sat }

/-- `k` events of a code, other than 0, in a block: the counters that select it count them, unless the block's unit is fenced (R546, R547). -/
def State.tally (s : State) (b code k : Nat) : State :=
  match (List.range 8).filter fun e => s.effN Obj.tithe_event b e == code with
  | [] => s
  | es =>
    if s.titheFenced b || k == 0 then s
    else s.modTithe fun t => { t with blocks := vmod t.blocks b fun x => es.foldl (fun x e => x.add e k) x }

/-- The codes whose events count where they occur in the model (R547). -/
def titheOwn (b code : Nat) : Bool :=
  match eventClass b with
  | .thresher => code == 5
  | .flail => code == 1 || code == 2 || code == 4
  | .sram => code == 1 || code == 2 || code == 3
  | .target => code == 1 || code == 2 || code == 6 || code == 7 || decide (0x100 ≤ code)
  | .port => code != 8
  | .cremin => true
  | .steward => code == 4
  | .other => false

end Sys2Proof.Machine
end

