-- ==== Sys2Proof/Machine/Time.lean ====
section
/-! DEFINITION. The time core (02_time_core.md): the vote, the resynchronisation, increments, slews, steps, action slots and the leap
unit. What a cycle and a boundary bring about in other units is put together in Cycle.lean and Boundary.lean. -/
namespace Sys2Proof.Machine

/-! ### Keepers and vote -/

/-- Keeper `k` (R59). -/
def TimeCore.keeper (t : TimeCore) (k : Nat) : Keeper := if k = 0 then t.k0 else if k = 1 then t.k1 else t.k2

/-- Keeper `k` changed. -/
def TimeCore.modKeeper (t : TimeCore) (k : Nat) (f : Keeper → Keeper) : TimeCore :=
  if k = 0 then { t with k0 := f t.k0 } else if k = 1 then { t with k1 := f t.k1 } else { t with k2 := f t.k2 }

/-- A write into all three keepers on one cycle. -/
def TimeCore.all (t : TimeCore) (f : KeeperRegs → KeeperRegs) : TimeCore :=
  { t with
    k0 := { t.k0 with regs := f t.k0.regs }
    k1 := { t.k1 with regs := f t.k1.regs }
    k2 := { t.k2 with regs := f t.k2.regs } }

/-- The keepers that vote: not failed and trusted (R64). -/
def TimeCore.voters (t : TimeCore) : List Nat := [0, 1, 2].filter fun k => !(t.keeper k).failed && (t.keeper k).trusted

/-- What the vote of R64 decides: the keeper whose state is put out, the keepers that lose trust, and whether it is a split. -/
structure Vote where
  out : Nat
  bad : List Nat := []
  split : Bool := false
deriving DecidableEq

/-- The vote of R64 over the present keeper states. -/
def TimeCore.vote (t : TimeCore) : Vote :=
  match t.voters with
  | [] => { out := 0 }
  | [a] => { out := a }
  | [a, b] => if (t.keeper a).regs = (t.keeper b).regs then { out := a } else { out := a, split := true }
  | a :: b :: c :: _ =>
    let ra := (t.keeper a).regs
    let rb := (t.keeper b).regs
    let rc := (t.keeper c).regs
    if ra = rb then { out := a, bad := if rc = ra then [] else [c] }
    else if ra = rc then { out := a, bad := [b] }
    else if rb = rc then { out := b, bad := [a] }
    else { out := a, split := true }

/-- The keeper state that the voter puts out. -/
def TimeCore.outRegs (t : TimeCore) : KeeperRegs := (t.keeper t.vote.out).regs

/-- The voter's marks after a vote: the keepers that disagree lose trust (R64). -/
def TimeCore.distrust (t : TimeCore) (l : List Nat) : TimeCore :=
  l.foldl (fun t k => t.modKeeper k fun x => { x with trusted := false, newly := true }) t

/-- The vote is carried out: marks, sources, and the voted time of day (R64). With no keeper left to vote the manual states
no value, and the voted time of day is free (log entry 6). -/
def State.runVote (s : State) : State :=
  let v := s.tc.vote
  let out := (s.tc.keeper v.out).regs.count
  let none := s.tc.voters.isEmpty
  let s := if none then { s with fresh := s.fresh + 1 } else s
  let now := if none then Config.openValue (s.fresh - 1) else out
  let first := v.split && !s.tc.split
  let s := { s with tc := { s.tc.distrust v.bad with
    voted := now, split := s.tc.split || v.split, splitSince := s.tc.splitSince || first } }
  let s := s.each v.bad fun s k => s.raise (216 + k)
  if first then s.raise 222 else s

/-- A keeper is loaded from the voter at a boundary; the third time within 8,000 boundaries it has failed (R64). -/
def Keeper.resync (k : Keeper) (out : KeeperRegs) (b : Nat) : Keeper :=
  let h := (b :: k.resyncs).filter fun x => decide (b < x + 8000)
  { k with regs := out, trusted := true, resyncs := h, failed := k.failed || decide (3 ≤ h.length) }

/-- KEEPER_RESYNC (R64, R65): at a boundary, keepers that lost trust before this cycle, and all in a split, are loaded. -/
def State.resyncKeepers (s : State) : State :=
  let out := s.tc.outRegs
  let due := [0, 1, 2].filter fun k =>
    let x := s.tc.keeper k
    !x.failed && ((!x.trusted && !x.newly) || s.tc.split)
  let s := s.each due fun s k =>
    let s := { s with tc := s.tc.modKeeper k fun x => x.resync out s.tc.boundaries }
    let s := s.count Obj.tod_resyncs
    if (s.tc.keeper k).failed then s.raise (219 + k) else s
  { s with tc := { s.tc with split := false } }

/-- The addition at the end of a cycle in one keeper (R60); the count keeps its 152 bits (R59). -/
def KeeperRegs.advance (r : KeeperRegs) (jump : Option Int) : KeeperRegs :=
  match jump with
  | some j => { r with count := (r.count + r.inc + j) % countU, slewRem := 0 }
  | none =>
    let part : Int := ((min r.slewRem.natAbs r.slewStep : Nat) : Int)
    let d := if r.slewRem < 0 then -part else part
    { r with count := (r.count + r.inc + d) % countU, slewRem := r.slewRem - d }

/-- An upset of a keeper (R64). -/
def KeeperUpset.apply (u : KeeperUpset) (r : KeeperRegs) : KeeperRegs :=
  { r with count := (r.count + u.count) % countU, inc := (r.inc + u.inc).toNat, slewRem := r.slewRem + u.slew }

/-- The present cycle is the one that reaches an instant: the cycle before lay ahead of it. -/
def State.reaches (s : State) (t : Tod) : Bool :=
  decide (t ≤ s.tod) && decide (s.tod < t + (s.tc.outRegs.inc : Int) + (s.tc.outRegs.slewStep : Int))

/-! ### Steps -/

/-- The step policy permits a manual step (R77); every policy permits the initial set (R63). -/
def State.stepAllowed (s : State) : Bool :=
  let p := s.effN Obj.tod_step_policy
  s.valN Obj.tod_state = 0 || p = 2 || (p = 1 && !s.valT Obj.tod_first_lock)

/-- The offset of an armed step-type action (R85). -/
def ArmedAct.jump (a : ArmedAct) : Int := if a.kind = 2 then a.value - a.time else psToU a.offset

/-- An armed action is of a step type. -/
def ArmedAct.isStep (a : ArmedAct) : Bool := a.kind = 1 || a.kind = 2

/-- The action slots that are due on the present cycle (R85). -/
def State.dueActs (s : State) : List ArmedAct := s.tc.outRegs.acts.filter fun a => decide (a.time ≤ s.tc.voted)

/-- The step of the present cycle: a SET_AT alone, or the sum of all offsets (R80); none when no step takes effect. -/
def TimeCore.step (t : TimeCore) : Option Int :=
  match t.setJump with
  | some j => some j
  | none => if t.jumps.isEmpty then none else some ((t.jumps.map Prod.snd).sum)

/-- The step that the present cycle will have once its due actions have fired (R80, R82, R87). -/
def State.cycleStep (s : State) : Option Int :=
  let due := if s.stepAllowed then s.dueActs.filter ArmedAct.isStep else []
  match s.tc.setJump with
  | some j => some j
  | none =>
    match due.find? fun a => a.kind == 2 with
    | some a => some a.jump
    | none =>
      let l := s.tc.jumps.map Prod.snd ++ due.map ArmedAct.jump
      if l.isEmpty then none else some l.sum

/-- The magnitudes, ps, that the steps of the present cycle other than the servo's add to J under MANUAL (R202), those of its due actions
included. -/
def State.cycleManual (s : State) : Nat :=
  let due := if s.stepAllowed then s.dueActs.filter ArmedAct.isStep else []
  match s.tc.setJump with
  | some j => uToPsCeil j
  | none =>
    match due.find? fun a => a.kind == 2 with
    | some a => uToPsCeil a.jump
    | none => ((s.tc.jumps.filter fun e => e.1 != 9).map fun e => uToPsCeil e.2).sum + (due.map fun a => uToPsCeil a.jump).sum

/-- The increment that the addition of the present cycle will use once its due actions have fired (R60, R85). -/
def State.cycleInc (s : State) : Nat :=
  let due := (s.dueActs.filter fun a => a.kind == 3).foldl (fun m a => match m with
    | some (b : ArmedAct) => if b.slot < a.slot then some a else some b
    | none => some a) none
  match due, s.tc.freqBy with
  | some a, some k => if a.slot < k then s.tc.outRegs.inc else a.inc
  | some a, none => a.inc
  | none, _ => s.tc.outRegs.inc

/-- A step from `tod.step` or from the servo joins the present cycle; beside a SET_AT it is refused (R79, R80). -/
def State.addStep (s : State) (src : Nat) (j : Int) : State :=
  match s.tc.setJump with
  | some _ => if src = 8 then s.setN Obj.tod_step_status 3 else s
  | none => { s with tc := { s.tc with jumps := s.tc.jumps ++ [(src, j)], manualJump := s.tc.manualJump || src != 9 } }

/-- A value of an I64 object that the manual states only while it fits: beyond, the value is free (log entry 6). -/
def State.fitI64 (s : State) (v : Int) : State × Int :=
  if -(2 ^ 63) ≤ v ∧ v < 2 ^ 63 then (s, v)
  else
    let (s, f) := s.open
    (s, (f + 2 ^ 63) % 2 ^ 64 - 2 ^ 63)

/-- What a step leaves in the time core's objects (R63, R76, R79, R81). DESIGN CHOICE (log entry 57): `tod.step_count` wraps at 2³². -/
def State.stepDoneObjs (s : State) (j : Int) : State :=
  let s := if s.tc.jumps.any (fun e => e.1 == 8) && s.tc.setJump.isNone then s.setN Obj.tod_step_status 2 else s
  let s := s.setN Obj.tod_step_count ((s.steps + 1) % 2 ^ 32)
  let s := s.setN Obj.tod_state 1
  let (s, ps) := s.fitI64 (uToPsNear j)
  s.setN Obj.tod_step ps

/-- The time of the leap registers, if a leap is pending. -/
def State.leapDue (s : State) : Bool :=
  match s.tc.outRegs.leap with
  | some l => decide (l.time ≤ s.tc.voted)
  | none => false

/-- The kind and time of a leap as its source gives them. -/
def LeapReg.seen (l : LeapReg) : Nat × Int := (if l.insert then 1 else 2, l.time)

/-- A leap ends: in effect it reads NONE and 0 (R92). -/
def State.endLeap (s : State) (l : LeapReg) (status : Nat) : State :=
  let s := { s with tc := { s.tc.all (fun r => { r with leap := none }) with
    leapEnded := s.tc.leapEnded || !l.gleaner, leapSeen := if l.gleaner then l.seen else s.tc.leapSeen } }
  let s := s.setN Obj.tod_leap_status status
  (s.setEff Obj.tod_leap_pending 0 0 (.n 0)).setEff Obj.tod_leap_time 0 0 (.n 0)

/-- Actions and the leap that a positive step has carried the time of day past read LATE (R84). -/
def State.passedLate (s : State) (before after : Tod) : State :=
  let late := s.tc.outRegs.acts.filter fun a => decide (before < a.time) && decide (a.time < after)
  let s := s.each late fun s a =>
    let s := { s with tc := s.tc.all fun r => { r with acts := r.acts.filter fun x => x.slot != a.slot } }
    (s.setN Obj.tod_action_arm 3 a.slot).raise 224 { detail := a.slot }
  match s.tc.outRegs.leap with
  | some l => if before < l.time ∧ l.time < after then (s.endLeap l 3).raise 224 else s
  | none => s

/-! ### The recent course of the time of day (R98, R107) -/

/-- The phase that the slew moves in the addition of the present cycle (R60). -/
def KeeperRegs.slewPart (r : KeeperRegs) : Int :=
  let part : Int := ((min r.slewRem.natAbs r.slewStep : Nat) : Int)
  if r.slewRem < 0 then -part else part

/-- A step takes effect in the present tick, on an earlier cycle of it or on this one (R82, R106). -/
def State.stepFlag (s : State) : Bool := s.tc.stepInTick || s.cycleStep.isSome

/-- The mark of the present cycle. -/
def State.nowMark (s : State) : TodMark :=
  let out := s.tc.outRegs
  { cyc := s.tc.cyc, tod := s.tc.voted, rate := out.inc + out.slewPart, steps := s.steps, step := s.stepFlag, unset := s.valN Obj.tod_state == 0 }

/-- A mark foretells another one. -/
def TodMark.gives (m n : TodMark) : Bool :=
  m.tod + ((n.cyc - m.cyc : Nat) : Int) * m.rate == n.tod && m.rate == n.rate && m.steps == n.steps && m.step == n.step && m.unset == n.unset

/-- The present cycle is marked unless the last mark foretells it; `jump` is the step that led to it. Marks older than 131 µs are dropped but for
the last of them: no frame on a line takes longer. -/
def State.markTod (s : State) (jump : Int) : State :=
  let n := { s.nowMark with jump := jump }
  let put (l : List TodMark) : State :=
    let k := (l.takeWhile fun m => decide (s.tc.cyc < m.cyc + 65536)).length
    { s with tc := { s.tc with hist := l.take (k + 1) } }
  match s.tc.hist with
  | [] => put [n]
  | m :: t => if jump = 0 && m.gives n then s else if m.cyc = n.cyc then put ({ n with jump := m.jump } :: t) else put (n :: m :: t)

/-- A time on the newest timescale is brought to the timescale of the cycle in which it lies (R107); the marks are given newest first. -/
def onScale (now : TodMark) : List TodMark → Tod → Tod × TodMark
  | [], t => (t, now)
  | m :: rest, t => if m.tod ≤ t || rest.isEmpty then (t, m) else onScale now rest (t - m.jump)

/-- The instant that lies `d` after a word clock edge `back` cycles ago, `fine` 2⁻¹⁶ ns into its cycle, on the timescale of the cycle in which it
lies, and the mark of that cycle (R98, R100, R107). -/
def State.edgeTime (s : State) (back fine : Nat) (d : Int) : Tod × TodMark :=
  let c := s.tc.cyc - back
  let now := s.nowMark
  let h := if s.tc.hist.isEmpty then [now] else s.tc.hist
  let later := h.takeWhile fun m => decide (c < m.cyc)
  let m := (h.find? fun m => decide (m.cyc ≤ c)).getD now
  let t := m.tod + ((c - m.cyc : Nat) : Int) * m.rate + from16 fine + (later.map TodMark.jump).sum + d
  let r := onScale now h t
  (r.1, if s.tc.voted ≤ r.1 then { r.2 with step := r.2.step || s.stepFlag } else r.2)

/-! ### Commits of the time core -/

/-- A change of the base increment is noted for the mean of R172; changes older than the longest `hold.avg_time` are dropped but
for the last of them. -/
def State.logInc (s : State) (inc : Nat) : State :=
  let l := s.hold.incLog
  let recent := l.takeWhile fun e => !s.passed e.1 (3600 * oneSec)
  { s with hold := { s.hold with incLog := (s.tc.cyc, s.tc.incTotal, inc) :: l.take (recent.length + 1) } }

/-- A base increment takes effect (R70, R71). DESIGN CHOICE (log entry 57): `tod.increment:00` keeps what was last written on an access path
when SA or a FREQ_AT changes the increment, and the digest comparison leaves it out. -/
def State.setIncrement (s : State) (inc : Nat) : State :=
  let s := s.logInc inc
  let s := { s with tc := s.tc.all fun r => { r with inc := inc } }
  (s.setEff Obj.tod_increment 0 0 (.n inc)).setN Obj.tod_freq_offset (incToFreq inc)

/-- A committed increment takes effect on the boundary cycle, unless a FREQ_AT fires on it (R70, R85). -/
def State.commitIncrement (s : State) (inc : Nat) : State := if s.tc.freqBy.isSome then s else s.setIncrement inc

/-- The largest slew remaining, units of 2⁻⁵⁶ ns. -/
def State.slewMax (s : State) : Int := psToU (s.effI Obj.tod_slew_max)

/-- An amount from an access path is added to the slew remaining (R72); whether it is refused is judged with its set (`splitItems`). -/
def State.commitSlew (s : State) (ps : Int) : State :=
  { s with tc := s.tc.all fun r => { r with slewRem := r.slewRem + psToU ps } }

/-- An amount that SA writes is clipped, never refused (R72). -/
def State.commitSaSlew (s : State) (ps : Int) : State :=
  let lim := s.slewMax
  { s with tc := s.tc.all fun r => { r with slewRem := max (-lim) (min lim (r.slewRem + psToU ps)) } }

/-- The slew with which a completion adopts its target: d less the slew remaining, so that the slew remaining becomes d (R145). -/
def State.commitSlewTo (s : State) (ps : Int) : State :=
  let lim := s.slewMax
  { s with tc := s.tc.all fun r => { r with slewRem := max (-lim) (min lim (psToU ps)) } }

/-- The slew step of a slew rate (R73). -/
def slewStepOf (rate : Nat) : Nat := (roundDiv ((rate : Int) * 2 * 2 ^ 56) 1000000000).toNat

/-- A committed slew rate applies to the slew remaining from the boundary on (R74). -/
def State.commitSlewRate (s : State) (rate : Nat) : State :=
  { s with tc := s.tc.all fun r => { r with slewStep := slewStepOf rate } }

/-- A committed write of `tod.step` (R79). DESIGN CHOICE (log entry 57): `tod.step_status` reads PENDING from the commit to the step, and
keeps its value while the write is only staged. -/
def State.commitStep (s : State) (ps : Int) : State :=
  if s.stepAllowed then (s.setN Obj.tod_step_status 1).addStep 8 (psToU ps) else s.setN Obj.tod_step_status 3

/-- Two times lie within 250 µs of each other (R87). -/
def near250 (a b : Tod) : Bool := decide ((a - b).natAbs ≤ 250000 * 2 ^ 56)

/-- A step-type action takes effect on its cycle, or reads REFUSED (R80, R85, R87). -/
def State.fireStep (s : State) (a : ArmedAct) : State :=
  if !s.stepAllowed then s.setN Obj.tod_action_arm 4 a.slot
  else
    let due := { s with tc := { s.tc with boundaryDue := s.tc.boundaryDue || !s.tc.stepDone, manualJump := true } }
    if a.kind = 2 then
      let s := due.each s.tc.jumps fun s e =>
        if e.1 < 8 then s.setN Obj.tod_action_arm 4 e.1 else if e.1 = 8 then s.setN Obj.tod_step_status 3 else s
      let s := { s with tc := { s.tc with jumps := [], setJump := some a.jump } }
      s.setN Obj.tod_action_arm 2 a.slot
    else if s.tc.setJump.isSome then s.setN Obj.tod_action_arm 4 a.slot
    else
      let s := { due with tc := { due.tc with jumps := due.tc.jumps ++ [(a.slot, a.jump)] } }
      s.setN Obj.tod_action_arm 2 a.slot

/-- A FREQ_AT takes effect: of several on one cycle the highest slot's increment stands (R85). -/
def State.fireFreq (s : State) (a : ArmedAct) : State :=
  let above := match s.tc.freqBy with
    | some k => decide (a.slot < k)
    | none => false
  let s := if above then s else ({ s with tc := { s.tc with freqBy := some a.slot } } : State).setIncrement a.inc
  s.setN Obj.tod_action_arm 2 a.slot

/-- A pending action slot whose time the present cycle has reached fires (R85). -/
def State.fireSlot (s : State) (k : Nat) : State :=
  match s.dueActs.find? fun a => a.slot == k with
  | none => s
  | some a =>
    let s := { s with tc := s.tc.all fun r => { r with acts := r.acts.filter fun x => x.slot != k } }
    if a.isStep then s.fireStep a else s.fireFreq a

/-- A committed write of 1 to an arm subindex (R86, R87); `lvl` is the level of that write. An action of the slot that this boundary cycle
reaches fires first (R85). DESIGN CHOICE (log entry 57): a PENDING action that lies ahead is given up by any later arming of its slot, also
by one that reads REFUSED or LATE. -/
def State.commitArm (s : State) (k lvl : Nat) : State :=
  let s := s.fireSlot k
  let kind := (s.cfgN Obj.tod_action_kind k).toNat
  let t := ofTime128 (s.cfgN Obj.tod_action_time k).toNat
  let isStep := kind = 1 || kind = 2
  let others := s.tc.outRegs.acts.filter fun a => a.slot != k
  let refused :=
    kind = 0 || (isStep && (!s.stepAllowed || lvl < 2)) || (kind = 3 && s.effN Obj.tod_control = 0) ||
      (isStep && others.any fun a => a.isStep && near250 a.time t)
  let s := { s with tc := { s.tc.all (fun r => { r with acts := r.acts.filter fun a => a.slot != k }) with
    levels := vmod s.tc.levels k fun _ => lvl } }
  if refused then s.setN Obj.tod_action_arm 4 k
  else if t ≤ s.tc.voted then (s.setN Obj.tod_action_arm 3 k).raise 224 { detail := k }
  else
    let a : ArmedAct :=
      { slot := k, kind := kind, time := t, offset := s.cfgN Obj.tod_action_offset k,
        value := ofTime128 (s.cfgN Obj.tod_action_value k).toNat, inc := (s.cfgN Obj.tod_action_increment k).toNat }
    let s := { s with tc := s.tc.all fun r => { r with acts := r.acts ++ [a] } }
    s.setN Obj.tod_action_arm 1 k

/-- A committed write of 0 to an arm subindex (R88): a PENDING slot whose time lies ahead is cancelled. -/
def State.commitCancel (s : State) (k : Nat) : State :=
  if s.tc.outRegs.acts.any fun a => a.slot == k && decide (s.tc.voted < a.time) then
    let s := { s with tc := s.tc.all fun r => { r with acts := r.acts.filter fun a => a.slot != k } }
    s.setN Obj.tod_action_arm 5 k
  else s

/-! ### UTC and leaps -/

/-- UTC values of a source: offset, pending leap (0 NONE, 1 INSERT, 2 DELETE) and its time. -/
structure Utc where
  off : Int
  pend : Nat
  time : Tod
deriving DecidableEq

/-- The dictionary's UTC values as written. -/
def State.utcDict (s : State) : Utc :=
  { off := s.cfgN Obj.tod_utc_offset, pend := (s.cfgN Obj.tod_leap_pending).toNat,
    time := ofTime128 (s.cfgN Obj.tod_leap_time).toNat }

/-- The UTC values of the active Cremin upstream of a worker, which stand in for the Gleaner's while its flag UTC_VALID is set (R459). -/
def State.utcCremin (s : State) : Option Utc :=
  let n := s.valN Obj.ref_active
  if s.dev.manager || !(n == 21 || n == 22) then none
  else
    match (List.range 4).find? fun l => s.effN Obj.crem_link_role l == n - 19 with
    | none => none
    | some l =>
      let d := (s.link l).last
      if (octet d 59).testBit 1 then
        some { off := beInt (slice d 56 2), pend := octet d 58, time := (field d 60 8 : Int) * secU }
      else none

/-- The Gleaner's UTC values, or those that R459 supplies on a worker in their place. -/
def State.utcGleaner (s : State) : Utc :=
  s.utcCremin.getD
    { off := s.valI Obj.gnss_utc_offset, pend := s.valN Obj.gnss_leap_pending, time := ofTime128 (s.valN Obj.gnss_leap_time) }

/-- The Gleaner's values, or those that stand in for them, are valid (R90, R459). -/
def State.utcValid (s : State) : Bool := s.utcCremin.isSome || s.valT Obj.gnss_utc_valid

/-- The Gleaner's values are in use (R90). -/
def State.utcFromGleaner (s : State) : Bool := (s.cfgN Obj.tod_utc_source) != 0 && s.utcValid

/-- The offset in effect comes from a valid source (R90): not while the dictionary stands in under GLEANER. Offset, leap and validity in effect
change together, at a boundary. -/
def State.utcOffsetValid (s : State) : Bool := s.tc.utcValid

/-- The UTC values now used (R90). -/
def State.utcNow (s : State) : Utc := if s.utcFromGleaner then s.utcGleaner else s.utcDict

/-- The rules of R91 for a leap time. -/
def leapOk (u : Utc) (newOff : Int) : Bool :=
  u.time % secU == 0 && (u.time / secU - newOff) % 86400 == 0

/-- The source of the UTC values is chosen for the tick that begins (R90). -/
def State.chooseUtc (s : State) : State :=
  let g := s.utcFromGleaner
  let s := s.setEff Obj.tod_utc_source 0 0 (.n (if s.cfgN Obj.tod_utc_source = 1 || g then 1 else 0))
  { s with tc := { s.tc with utcGleaner := g, utcValid := s.cfgN Obj.tod_utc_source != 1 || g } }

/-- The leap that the source gives has ended already (R92). -/
def State.leapOver (s : State) (u : Utc) : Bool :=
  if s.tc.utcGleaner then s.tc.leapSeen == (u.pend, u.time) else s.tc.leapEnded

/-- The leap in effect reads as given (R90, R92). -/
def State.showLeap (s : State) (pend : Nat) (time : Nat) : State :=
  (s.setEff Obj.tod_leap_pending 0 0 (.n pend)).setEff Obj.tod_leap_time 0 0 (.n time)

/-- A new leap is checked and becomes pending, reads REFUSED or reads LATE (R86, R91, R92). -/
def State.newLeap (s : State) (u : Utc) (off : Int) : State :=
  let newOff := off + (if u.pend = 1 then 1 else -1)
  let l : LeapReg := { insert := u.pend = 1, time := u.time, newOff := newOff, gleaner := s.tc.utcGleaner }
  let old := s.tc.outRegs.leap
  if old = some l then s
  else if !leapOk u newOff then s.endLeap l 4
  else if u.time ≤ s.tc.voted then (s.endLeap l 3).raise 224
  else
    let same := match old with
      | some o => o.time == l.time && o.insert == l.insert
      | none => false
    let s := { s with tc := { s.tc.all fun r => { r with leap := some l } with
      leapNewAt := if same then s.tc.leapNewAt else s.tc.boundaries } }
    (s.setN Obj.tod_leap_status 1).showLeap u.pend (time128 u.time)

/-- At a boundary, the UTC values in effect follow their source, and a new leap is checked and becomes pending (R90 to R92). A leap that this
cycle reaches takes effect, whatever the boundary commits (R85). DESIGN CHOICE (log entry 57): a pending leap whose offset, kind or time changes
is checked again and may read REFUSED or LATE. -/
def State.updateUtc (s : State) : State :=
  let s := s.chooseUtc
  let u := if s.tc.utcGleaner then s.utcGleaner else s.utcDict
  let ended := s.leapOver u
  let off := match s.tc.lastLeap with
    | some l => if s.tc.utcGleaner && ended && l.time = u.time then l.newOff else u.off
    | none => u.off
  let s := s.setEff Obj.tod_utc_offset 0 0 (.n off)
  if s.leapDue then s
  else if u.pend = 0 then
    let s := { s with tc := s.tc.all fun r => { r with leap := none } }
    let s := s.showLeap 0 (time128 u.time)
    if s.valN Obj.tod_leap_status = 1 then s.setN Obj.tod_leap_status 0 else s
  else if ended then s.showLeap 0 0
  else s.newLeap u off

/-- The inserted second (R93). -/
def State.inLeap (s : State) : Bool :=
  match s.tc.outRegs.leap with
  | some l => l.insert && decide (l.time - secU ≤ s.tc.voted) && decide (s.tc.voted < l.time)
  | none => false

/-! ### Meanings -/

/-- A due leap is applied: the new offset takes effect, and a leap of the dictionary clears its configured objects (R92). DESIGN CHOICE (log entry
57): the new offset is the sum of R91 also where it lies outside 0 to 255, so an INSERT at 255 configures 256 and a DELETE at 0 configures −1. -/
def leapApplyEff (s : State) : State :=
  match s.tc.outRegs.leap with
  | none => s
  | some l =>
    if s.tc.voted < l.time then s
    else
      let old := s.effI Obj.tod_utc_offset
      let s := s.endLeap l 2
      let s := { s with tc := { s.tc with offsetOld := old, lastLeap := some l } }
      let s := s.setEff Obj.tod_utc_offset 0 0 (.n l.newOff)
      if !l.gleaner then
        ((s.setCfg Obj.tod_utc_offset 0 0 (.n l.newOff)).setCfg Obj.tod_leap_pending 0 0 (.n 0)).setCfg Obj.tod_leap_time 0 0 (.n 0)
      else s

/-- LEAP_APPLY (R92). -/
def execLeapApply (s : State) : Host.Outcome State Fault Refusal := .next (leapApplyEff s)

/-- A pending action slot whose time the present cycle has reached fires (R85). On the cycle of a grid boundary the boundary's
commits come first (R87). -/
def actionFireEff (k : Nat) (s : State) : State :=
  if s.tc.nextGrid ≤ s.tc.voted then s else s.fireSlot k

/-- ACTION_FIRE (R85). -/
def execActionFire (k : Fin 8) (s : State) : Host.Outcome State Fault Refusal := .next (actionFireEff k.val s)

/-- The voted time of day is latched into the shadow of a master (R95). -/
def State.tkLatch (s : State) (m : Nat) : State :=
  let t := s.tc.voted
  let sh : TkShadow := { hi := todSec t / 2 ^ 32 % 2 ^ 32, ns := todNs t, frac := todFrac t }
  { s with tc := { s.tc with shadows := vmod s.tc.shadows m fun _ => sh } }

/-- Register `w` of the time-core block as a master reads it (R95): TK_SEC_LO of the present cycle, and TK_SEC_HI, TK_NS and TK_FRAC of the
master's shadow. -/
def State.tkWord (s : State) (m w : Nat) : Nat :=
  let sh := vat s.tc.shadows m {}
  match w with
  | 0 => todSec s.tc.voted % 2 ^ 32
  | 1 => sh.hi
  | 2 => sh.ns
  | _ => sh.frac

/-- TK_SEC_LO_READ (R95): the voted time of day is latched into the reading master's shadow; the low seconds word is returned. -/
def tkSecLoReadEff (m : Nat) (s : State) : State :=
  let t := s.tc.voted
  let s := s.tkLatch m
  { s with mtx := { s.mtx with delivered := s.mtx.delivered ++ [{ master := m, data := beBytes 4 (todSec t % 2 ^ 32) }] } }

/-- TK_SEC_LO_READ (R95). -/
def execTkSecLoRead (m : Fin 10) (s : State) : Host.Outcome State Fault Refusal := .next (tkSecLoReadEff m.val s)

end Sys2Proof.Machine
end

