-- ==== Sys2Proof/Machine/Matrix.lean ====
section
/-! DEFINITION. The core matrix (R533 to R545): windows, splitting, arbitration, credits, responses and errors, and the shared SRAM
behind its port groups (R34). -/
namespace Sys2Proof.Machine

/-! ### Memory -/

/-- What an address of the SRAM that nothing has written reads as (log entry 30). -/
def Memory.blank : BitVec 8 := 0

/-- The byte at an address. -/
def Memory.read (m : List Host.Cell) (a : Nat) : BitVec 8 := ((m.find? fun c => c.1 == a).map Prod.snd).getD Memory.blank

/-- A byte written: addresses stay strictly rising, and no entry equals what an unlisted address reads as. -/
def Memory.write (a : Nat) (b : BitVec 8) : List Host.Cell → List Host.Cell
  | [] => if b = Memory.blank then [] else [(a, b)]
  | (x, y) :: t =>
    if a < x then (if b = Memory.blank then (x, y) :: t else (a, b) :: (x, y) :: t)
    else if a = x then (if b = Memory.blank then t else (a, b) :: t)
    else (x, y) :: Memory.write a b t

/-- The canonical form: strictly rising addresses, all at or above `lo`, no blank entry. -/
def Memory.wfFrom (lo : Nat) : List Host.Cell → Bool
  | [] => true
  | (x, y) :: t => decide (lo ≤ x) && decide (y ≠ Memory.blank) && Memory.wfFrom (x + 1) t

/-- The canonical form. -/
def Memory.wf (m : List Host.Cell) : Bool := Memory.wfFrom 0 m

/-- A string written from an address on. -/
def Memory.writeAll (a : Nat) (b : Bytes) (m : List Host.Cell) : List Host.Cell :=
  match b with
  | [] => m
  | x :: t => Memory.writeAll (a + 1) t (Memory.write a x m)

/-- A string read from an address on. -/
def Memory.readAll (m : List Host.Cell) (a len : Nat) : Bytes := (List.range len).map fun i => Memory.read m (a + i)

/-! ### Windows (R535, R536) -/

/-- A window entry is enabled. -/
def winEnabled (b : Bytes) : Bool := (octet b 9).testBit 3

/-- The target of a window entry. -/
def winTarget (b : Bytes) : Nat := octet b 8

/-- An entry decodes a range of octets for a kind of access, 0 read, 1 write, 2 fetch (R535). -/
def winTakes (b : Bytes) (kind addr len : Nat) : Bool :=
  winEnabled b && (octet b 9).testBit kind && decide (field b 0 4 ≤ addr) && decide (addr + len ≤ field b 4 4 + 1)

/-- The target to which a master's windows decode a range (R535). -/
def State.decodeAddr (s : State) (m kind addr len : Nat) : Option Nat :=
  ((List.range 16).map fun w => s.effB Obj.mtx_window m w).findSome? fun b => if winTakes b kind addr len then some (winTarget b) else none

/-- A master has an enabled window to a target (R542). -/
def State.guaranteed (s : State) (m t : Nat) : Bool :=
  (List.range 16).any fun w => let b := s.effB Obj.mtx_window m w; winEnabled b && winTarget b == t

/-! ### Requests (R535, R538) -/

/-- The matrix changed. -/
def State.modMtx (s : State) (f : Matrix → Matrix) : State := { s with mtx := f s.mtx }

/-- The pieces of a range: split at every 256-octet boundary (R538); `fuel` bounds the pieces. -/
def splitLines : Nat → Nat → Nat → List (Nat × Nat)
  | 0, _, _ => []
  | fuel + 1, addr, len =>
    if len = 0 then []
    else
      let k := min len (256 - addr % 256)
      (addr, k) :: splitLines fuel (addr + k) (len - k)

/-- An error response to a request that is refused whole (R535, R538, R544): zero data for a read. -/
def State.refuseRequest (s : State) (m kind addr len req : Nat) : State :=
  let s := (s.count Obj.mtx_decode_errors).count Obj.mtx_error_responses
  let s := s.modMtx fun x =>
    { x with delivered := x.delivered ++ [{ req := req, master := m, error := true, data := if kind = 1 then [] else zeros len }] }
  s.raise 283 { access := kind + 1, master := m, addr := addr }

/-- MATRIX_REQUEST (R535, R538). -/
def matrixRequestEff (r : MatrixIn) (s : State) : State :=
  let m := r.master.val
  let kind := r.kind.val
  if s.boot.inReset || (m == 9 && !s.elec.jtag) || r.len = 0 || decide (2048 < r.len) || (kind == 1 && r.data.length != r.len) then s
  else
    let req := s.mtx.nextReq
    let s := s.modMtx fun x => { x with nextReq := req + 1 }
    match s.decodeAddr m kind r.addr r.len with
    | none => s.refuseRequest m kind r.addr r.len req
    | some t =>
      s.each (splitLines 9 r.addr r.len) fun s p =>
        let piece : Piece :=
          { id := s.mtx.nextId, req := req, master := m, target := t, addr := p.1, len := p.2, kind := kind
            data := slice r.data (p.1 - r.addr) p.2 }
        s.modMtx fun x => { x with pieces := x.pieces ++ [piece], nextId := x.nextId + 1 }

/-- MATRIX_REQUEST (R538). -/
def execMatrixRequest (r : MatrixIn) (s : State) : Host.Outcome State Fault Refusal := .next (matrixRequestEff r s)

/-! ### Grants (R539 to R542) -/

/-- The credits that a master holds at a target (R542). -/
def State.credits (s : State) (t m : Nat) : Nat :=
  (s.mtx.pieces.filter fun p => p.granted && p.done.isNone && p.target == t && p.master == m).length

/-- The pieces of a master outstanding (R539). -/
def State.outstanding (s : State) (m : Nat) : Nat := (s.mtx.pieces.filter fun p => p.granted && p.master == m).length

/-- A piece waits for an earlier one of its master in the same line, if either is a write (R541). -/
def State.lineHeld (s : State) (p : Piece) : Bool :=
  s.mtx.pieces.any fun q => decide (q.id < p.id) && q.master == p.master && q.addr / 256 == p.addr / 256 && (q.kind == 1 || p.kind == 1)

/-- The credits that a grant to a master must leave free at a target (R542). -/
def State.creditOk (s : State) (t m : Nat) : Bool :=
  let used := ((List.range 10).map fun k => s.credits t k).sum
  let keep := (((List.range 10).filter fun k => k != m && s.guaranteed k t).map fun k => 2 - s.credits t k).sum
  decide (used + 1 + keep ≤ 32)

/-- The oldest eligible piece of a master at a target. -/
def State.eligiblePiece (s : State) (t m : Nat) : Option Piece :=
  if s.outstanding m < 16 && s.creditOk t m then
    s.mtx.pieces.find? fun p => !p.granted && p.target == t && p.master == m && !s.lineHeld p
  else none

/-- The grants of a target in the present tclk cycle, which has two cycles of the matrix (R540). -/
def State.grantsNow (s : State) (t : Nat) : Nat :=
  let g := vat s.mtx.grants t (0, 0)
  if g.1 = s.tc.cyc then g.2 else 0

/-- The beats of 32 octets that a piece touches (R538). -/
def Piece.beats (p : Piece) : Nat := (p.addr % 32 + p.len + 31) / 32

/-- MATRIX_GRANT (R540): a target grants the highest master of its order that has an eligible piece, one piece in a cycle of the matrix. -/
def matrixGrantEff (t : Nat) (s : State) : State :=
  let order := (s.effB Obj.mtx_priority t).map fun b => b.toNat
  match order.findSome? fun m => s.eligiblePiece t m with
  | none => s
  | some p =>
    if 2 ≤ s.grantsNow t then s
    else
    let s := s.modMtx fun x =>
      { x with
        pieces := x.pieces.map fun q => if q.id == p.id then { q with granted := true, grantAt := s.tc.cyc } else q
        grants := vmod x.grants t fun _ => (s.tc.cyc, s.grantsNow t + 1) }
    let s := (s.tally (35 + t) 1 1).tally (35 + t) (0x100 + p.master) 1
    s.modMtx fun x => { x with peak := vmod x.peak p.master fun k => max k (s.outstanding p.master) }

/-- MATRIX_GRANT (R540). -/
def execMatrixGrant (t : Fin 9) (s : State) : Host.Outcome State Fault Refusal := .next (matrixGrantEff t.val s)

/-! ### Responses (R543 to R545) -/

/-- Answered pieces at the head of their requests are delivered in address order (R543); `fuel` bounds the pieces. -/
def State.deliver : Nat → Nat → State → State
  | 0, _, s => s
  | fuel + 1, req, s =>
    match s.mtx.pieces.find? fun p => p.req == req with
    | none => s
    | some p =>
      match p.done with
      | none => s
      | some (err, d) =>
        State.deliver fuel req (s.modMtx fun x =>
          { x with
            pieces := x.pieces.filter fun q => q.id != p.id
            delivered := x.delivered ++ [{ req := req, master := p.master, error := err, data := d }] })

/-- A target's answer to a piece, with its error flag and read data: zero data after an error (R544). -/
def State.finishPiece (s : State) (id : Nat) (err : Bool) (data : Bytes) : State :=
  match s.mtx.pieces.find? fun p => p.id == id with
  | none => s
  | some p =>
    let d := if p.kind = 1 then [] else if err then zeros p.len else padTo p.len (data.take p.len)
    let s := if !err then s.tally (35 + p.target) 2 p.beats
      else (if p.granted then s.tally (35 + p.target) 7 1 else s).count Obj.mtx_error_responses
    let s := s.modMtx fun x => { x with pieces := x.pieces.map fun q => if q.id == id then { q with done := some (err, d) } else q }
    State.deliver s.mtx.pieces.length p.req s

/-- The bank of an SRAM address, and the spare that has taken its place (R519, R534). -/
def State.bankAt (s : State) (addr : Nat) : Nat × Option Nat :=
  let b := addr / 0x80000
  (b, (s.win.bankMap.find? fun e => e.1 == b).map Prod.snd)

/-- An SRAM access: a lost bank answers with an error (R522); a word that fails ECC, or is poisoned, raises SRAM_UE of the bank that
serves the address and is poisoned in a spare that takes its place (R521). -/
def State.sramAnswer (s : State) (p : Piece) (bad : Bool) : State :=
  let (b, spare) := s.bankAt p.addr
  let words := (List.range (p.len / 32 + 2)).map fun i => (b, p.addr / 32 + i)
  let inPiece (w : Nat × Nat) : Bool := decide (w.2 * 32 < p.addr + p.len)
  if s.win.bankLost.contains b then s.finishPiece p.id true []
  else if p.kind = 1 then
    let s := s.modMtx fun x => { x with sram := Memory.writeAll p.addr p.data x.sram }
    (s.tally (31 + p.target) 2 p.beats).finishPiece p.id false []
  else
    let poisoned := spare.isSome && s.mtx.poisoned.any fun w => words.contains w && inPiece w
    if bad || poisoned then
      let s := if poisoned || spare.isSome then s else s.modMtx fun x => { x with poisoned := x.poisoned ++ [(b, p.addr / 32)] }
      (s.finishPiece p.id true []).raise (32 + spare.getD b) { access := p.kind + 1, master := p.master, addr := p.addr }
    else (s.tally (31 + p.target) 1 p.beats).finishPiece p.id false (Memory.readAll s.mtx.sram p.addr p.len)

/-- A read of whole registers of the time-core block on PB1 (R95, R534; log entry 58): the state after it and the data. A read that takes in TK_SEC_LO
latches the shadow first. -/
def State.timeBlockRead (s : State) (p : Piece) : Option (State × Bytes) :=
  let base := 0x41000000 + Config.timeBlock.val
  let off := p.addr - base
  if p.target = 5 ∧ p.kind = 0 ∧ base ≤ p.addr ∧ off + p.len ≤ 16 ∧ off % 4 = 0 ∧ p.len % 4 = 0 then
    let s := if off = 0 then s.tkLatch p.master else s
    some (s, ((List.range (p.len / 4)).map fun w => beBytes 4 (s.tkWord p.master (off / 4 + w))).flatten)
  else none

/-- MATRIX_RESPONSE (R543 to R545): the pieces of one master to one bridge complete in issue order. -/
def matrixResponseEff (r : RespIn) (s : State) : State :=
  match s.mtx.pieces.find? fun p => p.id == r.piece && p.granted && p.done.isNone with
  | none => s
  | some p =>
    let bridge := decide (4 ≤ p.target) && decide (p.target ≤ 6)
    let behind := bridge && s.mtx.pieces.any fun q =>
      decide (q.id < p.id) && q.master == p.master && q.target == p.target && q.granted && q.done.isNone
    if behind then s
    else if p.target < 4 then s.sramAnswer p r.uncorrectable
    else if bridge && r.busError then
      (s.finishPiece p.id true []).raise (281 + p.target) { access := p.kind + 1, master := p.master, addr := p.addr }
    else if p.target = 7 && p.kind == 1 then s.finishPiece p.id true []
    else
      match s.timeBlockRead p with
      | some (t, d) => t.finishPiece p.id false d
      | none => s.finishPiece p.id false r.data

/-- MATRIX_RESPONSE (R543). -/
def execMatrixResponse (r : RespIn) (s : State) : Host.Outcome State Fault Refusal := .next (matrixResponseEff r s)

/-- MATRIX_TIMEOUT (R544): a granted piece has had no response for 10 µs. -/
def matrixTimeoutEff (id : Nat) (s : State) : State :=
  match s.mtx.pieces.find? fun p => p.id == id && p.granted && p.done.isNone with
  | none => s
  | some p =>
    if s.passed p.grantAt 10000 then
      (((s.finishPiece id true []).count Obj.mtx_timeouts).tally (35 + p.target) 6 1).raise 284 { access := p.kind + 1, master := p.master, addr := p.addr }
    else s

/-- MATRIX_TIMEOUT (R544). -/
def execMatrixTimeout (piece : Nat) (s : State) : Host.Outcome State Fault Refusal := .next (matrixTimeoutEff piece s)

/-! ### Boundary (R537, R554) -/

/-- What has not been granted of a request is decoded again under changed windows; where they do not take it, it ends with error responses (R537,
R538). -/
def State.redecodeReq (s : State) (req : Nat) : State :=
  match s.mtx.pieces.filter fun p => p.req == req && !p.granted && p.done.isNone with
  | [] => s
  | p :: rest =>
    let last := rest.getLastD p
    match s.decodeAddr p.master p.kind p.addr (last.addr + last.len - p.addr) with
    | some t => s.modMtx fun x =>
        { x with pieces := x.pieces.map fun q => if q.req == req && !q.granted && q.done.isNone then { q with target := t } else q }
    | none =>
      let s := s.each (p :: rest) fun s q => s.finishPiece q.id true []
      (s.count Obj.mtx_decode_errors).raise 283 { access := p.kind + 1, master := p.master, addr := p.addr }

/-- Requests that have not been granted are decoded again under changed windows (R537). -/
def State.redecode (s : State) : State := s.each (s.mtx.pieces.map Piece.req).eraseDups State.redecodeReq

/-- `mtx.peak_outstanding` of the tick that ends (R554). -/
def State.mtxTick (s : State) : State :=
  let s := s.each (List.range 10) fun s m => s.setN Obj.mtx_peak_outstanding ((vat s.mtx.peak m 0 : Nat) : Int) m
  s.modMtx fun x => { x with delivered := [], peak := Vector.ofFn fun m => s.outstanding m.val }

/-! ### JTAG (R533, R616) -/

/-- JTAG_ACCESS (R616): the JTAG port leaves its reset state, which TRST_N alone brings back; while the part is held in reset, Winnow raises
nothing (R557). -/
def jtagAccessEff (s : State) : State :=
  if s.elec.jtag then s
  else
    let s : State := { s with elec := { s.elec with jtag := true } }
    if s.boot.inReset then s else s.raise 318

/-- JTAG_ACCESS (R616). -/
def execJtagAccess (s : State) : Host.Outcome State Fault Refusal := .next (jtagAccessEff s)

end Sys2Proof.Machine
end

