-- ==== Sys2Proof/Machine/Crypto.lean ====
section
/-! DEFINITION. The checks and ciphers that the manual names: CRC-32 (R454, R504, R571), CRC-16 (R250), SipHash-2-4 (R367),
AES-128-CMAC (R434, R488), AES-SIV (R394, R396), AES-256-GCM (R504), SHA-256 and HMAC-SHA-256 (R434, R504), SHA-384 and ECDSA over
P-384 (R574). The manual names them and gives no text of them; they are written from the public standards (log entry 18). -/
namespace Sys2Proof.Machine.Crypto

/-- The octets of a string as numbers. -/
def toNats (b : Bytes) : List Nat := b.map BitVec.toNat

/-- Numbers below 256 as octets. -/
def ofNats (l : List Nat) : Bytes := l.map (BitVec.ofNat 8)

/-- The CRC-32 of IEEE 802.3 (reflected polynomial EDB88320, initial value and final XOR all ones). -/
def crc32 (b : Bytes) : Nat :=
  let stepBit (c : Nat) : Nat := if c % 2 = 1 then (c / 2) ^^^ 0xEDB88320 else c / 2
  let stepByte (c : Nat) (x : Byte) : Nat :=
    stepBit (stepBit (stepBit (stepBit (stepBit (stepBit (stepBit (stepBit (c ^^^ x.toNat))))))))
  (b.foldl stepByte 0xFFFFFFFF) ^^^ 0xFFFFFFFF

/-- CRC-16/CCITT-FALSE (R250): polynomial 1021, initial value FFFF, no reflection, no final XOR. -/
def crc16 (b : Bytes) : Nat :=
  let stepBit (c : Nat) : Nat := if c / 32768 % 2 = 1 then (c * 2 % 65536) ^^^ 0x1021 else c * 2 % 65536
  let stepByte (c : Nat) (x : Byte) : Nat :=
    stepBit (stepBit (stepBit (stepBit (stepBit (stepBit (stepBit (stepBit (c ^^^ (x.toNat * 256)))))))))
  b.foldl stepByte 0xFFFF

/-! ### SipHash-2-4 -/

/-- The four words of SipHash. -/
structure Sip where
  v0 : Nat
  v1 : Nat
  v2 : Nat
  v3 : Nat

/-- Rotation to the left of a word of `w` bits. -/
def rotl (w k x : Nat) : Nat := (x <<< k ||| x >>> (w - k)) % 2 ^ w

/-- Rotation to the right of a word of `w` bits. -/
def rotr (w k x : Nat) : Nat := (x >>> k ||| x <<< (w - k)) % 2 ^ w

/-- A round of SipHash. -/
def Sip.round (s : Sip) : Sip :=
  let v0 := (s.v0 + s.v1) % 2 ^ 64
  let v1 := rotl 64 13 s.v1 ^^^ v0
  let v0 := rotl 64 32 v0
  let v2 := (s.v2 + s.v3) % 2 ^ 64
  let v3 := rotl 64 16 s.v3 ^^^ v2
  let v0 := (v0 + v3) % 2 ^ 64
  let v3 := rotl 64 21 v3 ^^^ v0
  let v2 := (v2 + v1) % 2 ^ 64
  let v1 := rotl 64 17 v1 ^^^ v2
  let v2 := rotl 64 32 v2
  ⟨v0, v1, v2, v3⟩

/-- One message word absorbed. -/
def Sip.absorb (s : Sip) (m : Nat) : Sip :=
  let t := (Sip.round (Sip.round { s with v3 := s.v3 ^^^ m }))
  { t with v0 := t.v0 ^^^ m }

/-- A little-endian number. -/
def leNat (b : Bytes) : Nat := beNat b.reverse

/-- Cut a list into pieces of `k`, the last one perhaps shorter; `fuel` bounds the number of pieces. -/
def cut {α : Type} (k : Nat) : Nat → List α → List (List α)
  | 0, _ => []
  | _, [] => []
  | fuel + 1, l => l.take k :: cut k fuel (l.drop k)

/-- SipHash-2-4 of a message under a key of 16 octets. -/
def sipHash (key msg : Bytes) : Nat :=
  let k0 := leNat (key.take 8)
  let k1 := leNat (key.drop 8)
  let s : Sip := ⟨k0 ^^^ 0x736f6d6570736575, k1 ^^^ 0x646f72616e646f6d, k0 ^^^ 0x6c7967656e657261, k1 ^^^ 0x7465646279746573⟩
  let full := msg.length / 8
  let words := (cut 8 full (msg.take (8 * full))).map leNat
  let last := leNat (msg.drop (8 * full)) + (msg.length % 256) * 2 ^ 56
  let s := (words ++ [last]).foldl Sip.absorb s
  let s := { s with v2 := s.v2 ^^^ 0xFF }
  let s := s.round.round.round.round
  s.v0 ^^^ s.v1 ^^^ s.v2 ^^^ s.v3

/-! ### AES -/

/-- The S-box of AES, entry x in bits 8x to 8x + 7. -/
def sboxTable : Nat := 0x16bb54b00f2d99416842e6bf0d89a18cdf2855cee9871e9b948ed9691198f8e19e1dc186b95735610ef6034866b53e708a8bbd4b1f74dde8c6b4a61c2e2578ba08ae7a65eaf4566ca94ed58d6d37c8e779e4959162acd3c25c2406490a3a32e0db0b5ede14b8ee4688902a22dc4f816073195d643d7ea7c41744975fec130ccdd2f3ff1021dab6bcf5389d928f40a351a89f3c507f02f94585334d43fbaaefd0cf584c4a39becb6a5bb1fc20ed00d153842fe329b3d63b52a05a6e1b1a2c830975b227ebe28012079a059618c323c7041531d871f1e5a534ccf73f362693fdb7c072a49cafa2d4adf04759fa7dc982ca76abd7fe2b670130c56f6bf27b777c63

/-- SubBytes of one octet. -/
def sbox (x : Nat) : Nat := sboxTable >>> (8 * x) % 256

/-- Multiplication by x in the field of AES. -/
def xtime (x : Nat) : Nat := if x < 128 then 2 * x else (2 * x - 256) ^^^ 0x1b

/-- The XOR of two lists of octets, as long as the shorter. -/
def xorL (a b : List Nat) : List Nat := List.zipWith (· ^^^ ·) a b

/-- SubBytes and ShiftRows of a state of 16 octets, column by column. -/
def subShift (s : List Nat) : List Nat :=
  [0, 5, 10, 15, 4, 9, 14, 3, 8, 13, 2, 7, 12, 1, 6, 11].map fun i => sbox (s.getD i 0)

/-- MixColumns of one column. -/
def mixColumn : List Nat → List Nat
  | [a, b, c, d] =>
    let t := a ^^^ b ^^^ c ^^^ d
    [a ^^^ t ^^^ xtime (a ^^^ b), b ^^^ t ^^^ xtime (b ^^^ c), c ^^^ t ^^^ xtime (c ^^^ d), d ^^^ t ^^^ xtime (d ^^^ a)]
  | l => l

/-- MixColumns. -/
def mixColumns (s : List Nat) : List Nat := ((cut 4 4 s).map mixColumn).flatten

/-- The next words of the key schedule: `nk` words of the key, `ws` the words so far with the newest first. -/
def expandWords (nk : Nat) : Nat → Nat → Nat → List (List Nat) → List (List Nat)
  | 0, _, _, ws => ws
  | fuel + 1, i, rcon, ws =>
    let prev := ws.headD []
    let old := ws.getD (nk - 1) []
    if i % nk = 0 then
      let r := (prev.drop 1 ++ prev.take 1).map sbox
      let r := xorL r [rcon, 0, 0, 0]
      expandWords nk fuel (i + 1) (xtime rcon) (xorL old r :: ws)
    else if nk = 8 && i % 8 = 4 then expandWords nk fuel (i + 1) rcon (xorL old (prev.map sbox) :: ws)
    else expandWords nk fuel (i + 1) rcon (xorL old prev :: ws)

/-- The round keys of a key of 16 or 32 octets. -/
def roundKeys (key : List Nat) : List (List Nat) :=
  let nk := key.length / 4
  let total := 4 * (nk + 7)
  let ws := (expandWords nk (total - nk) nk 1 (cut 4 nk key).reverse).reverse
  (cut 4 (nk + 7) ws).map List.flatten

/-- AES encryption of a block under expanded keys. -/
def aesRounds : List (List Nat) → List Nat → List Nat
  | [], s => s
  | [k], s => xorL (subShift s) k
  | k :: ks, s => aesRounds ks (xorL (mixColumns (subShift s)) k)

/-- AES encryption of one block. -/
def aesEnc (rk : List (List Nat)) (block : List Nat) : List Nat :=
  match rk with
  | [] => block
  | k :: ks => aesRounds ks (xorL block k)

/-- A block of octets as a number. -/
def blockNat (b : List Nat) : Nat := b.foldl (fun a x => a * 256 + x) 0

/-- A number as a block of 16 octets. -/
def natBlock (v : Nat) : List Nat := (List.range 16).map fun i => v >>> (8 * (15 - i)) % 256

/-- Doubling in the field of CMAC and SIV. -/
def dbl (b : List Nat) : List Nat :=
  let v := blockNat b
  natBlock (if v < 2 ^ 127 then 2 * v else (2 * v - 2 ^ 128) ^^^ 0x87)

/-- A block of zeros. -/
def zeroBlock : List Nat := List.replicate 16 0

/-- AES-CMAC with expanded keys. -/
def cmacL (rk : List (List Nat)) (msg : List Nat) : List Nat :=
  let k1 := dbl (aesEnc rk zeroBlock)
  let k2 := dbl k1
  let n := (msg.length + 15) / 16
  let full := n ≠ 0 && msg.length % 16 == 0
  let keep := 16 * (n - 1)
  let last := msg.drop keep
  let lastB := if full then xorL last k1 else xorL (last ++ [0x80] ++ List.replicate (15 - last.length) 0) k2
  let s := (cut 16 (n - 1) (msg.take keep)).foldl (fun a b => aesEnc rk (xorL a b)) zeroBlock
  aesEnc rk (xorL s lastB)

/-- AES-128-CMAC. -/
def cmac (key msg : Bytes) : Bytes := ofNats (cmacL (roundKeys (toNats key)) (toNats msg))

/-- S2V of AES-SIV: the associated strings, then the plaintext. -/
def s2v (rk : List (List Nat)) (ads : List (List Nat)) (p : List Nat) : List Nat :=
  let d := ads.foldl (fun d a => xorL (dbl d) (cmacL rk a)) (cmacL rk zeroBlock)
  let t :=
    if p.length < 16 then xorL (dbl d) (p ++ [0x80] ++ List.replicate (15 - p.length) 0)
    else p.take (p.length - 16) ++ xorL (p.drop (p.length - 16)) d
  cmacL rk t

/-- AES-CTR from a counter block. -/
def ctr (rk : List (List Nat)) (c0 : Nat) (p : List Nat) : List Nat :=
  let n := (p.length + 15) / 16
  let ks := (List.range n).map fun i => aesEnc rk (natBlock ((c0 + i) % 2 ^ 128))
  xorL p ks.flatten

/-- The counter block of SIV: bits 31 and 63 of the tag cleared. -/
def sivCounter (v : List Nat) : Nat :=
  let x := blockNat v
  x - (if x.testBit 63 then 2 ^ 63 else 0) - (if x.testBit 31 then 2 ^ 31 else 0)

/-- AES-SIV encryption (RFC 5297): the tag of 16 octets and the ciphertext. -/
def sivSeal (key : Bytes) (ads : List Bytes) (p : Bytes) : Bytes :=
  let k := toNats key
  let mac := roundKeys (k.take (k.length / 2))
  let enc := roundKeys (k.drop (k.length / 2))
  let v := s2v mac (ads.map toNats) (toNats p)
  ofNats (v ++ ctr enc (sivCounter v) (toNats p))

/-- AES-SIV decryption: the plaintext, none when the tag does not match. -/
def sivOpen (key : Bytes) (ads : List Bytes) (c : Bytes) : Option Bytes :=
  if c.length < 16 then none
  else
    let k := toNats key
    let mac := roundKeys (k.take (k.length / 2))
    let enc := roundKeys (k.drop (k.length / 2))
    let v := toNats (c.take 16)
    let p := ctr enc (sivCounter v) (toNats (c.drop 16))
    if s2v mac (ads.map toNats) p == v then some (ofNats p) else none

/-- Multiplication in the field of GCM: `fuel` bits of x, the most significant first. -/
def gmul : Nat → Nat → Nat → Nat → Nat
  | 0, _, _, z => z
  | fuel + 1, x, v, z =>
    gmul fuel x (if v % 2 = 1 then (v / 2) ^^^ (0xE1 <<< 120) else v / 2) (if x.testBit fuel then z ^^^ v else z)

/-- GHASH of blocks. -/
def ghash (h : Nat) (bs : List (List Nat)) : Nat :=
  bs.foldl (fun y b => gmul 128 (y ^^^ blockNat b) h 0) 0

/-- Zero octets that fill a string to whole blocks. -/
def pad16 (l : List Nat) : List Nat := l ++ List.replicate ((16 - l.length % 16) % 16) 0

/-- AES-GCM encryption with a nonce of 12 octets: ciphertext, then the tag of 16 octets. -/
def gcmSeal (key nonce aad p : Bytes) : Bytes :=
  let rk := roundKeys (toNats key)
  let h := blockNat (aesEnc rk zeroBlock)
  let j0 := beNat nonce * 2 ^ 32 + 1
  let c := ctr rk (j0 + 1) (toNats p)
  let lens := natBlock (aad.length * 8 * 2 ^ 64 + p.length * 8)
  let x := pad16 (toNats aad) ++ pad16 c ++ lens
  let s := ghash h (cut 16 (x.length / 16) x)
  ofNats (c ++ xorL (natBlock s) (aesEnc rk (natBlock j0)))

/-- AES-GCM decryption: the plaintext, none where the tag does not verify. -/
def gcmOpen (key nonce aad c : Bytes) : Option Bytes :=
  let n := c.length - 16
  let rk := roundKeys (toNats key)
  let p := ofNats (ctr rk (beNat nonce * 2 ^ 32 + 2) (toNats (c.take n)))
  if c.length < 16 then none else if gcmSeal key nonce aad p == c then some p else none

/-! ### SHA-2 -/

/-- The constants of SHA-256. -/
def k256 : List Nat :=
  [0x428a2f98, 0x71374491, 0xb5c0fbcf, 0xe9b5dba5, 0x3956c25b, 0x59f111f1, 0x923f82a4, 0xab1c5ed5] ++
  [0xd807aa98, 0x12835b01, 0x243185be, 0x550c7dc3, 0x72be5d74, 0x80deb1fe, 0x9bdc06a7, 0xc19bf174] ++
  [0xe49b69c1, 0xefbe4786, 0x0fc19dc6, 0x240ca1cc, 0x2de92c6f, 0x4a7484aa, 0x5cb0a9dc, 0x76f988da] ++
  [0x983e5152, 0xa831c66d, 0xb00327c8, 0xbf597fc7, 0xc6e00bf3, 0xd5a79147, 0x06ca6351, 0x14292967] ++
  [0x27b70a85, 0x2e1b2138, 0x4d2c6dfc, 0x53380d13, 0x650a7354, 0x766a0abb, 0x81c2c92e, 0x92722c85] ++
  [0xa2bfe8a1, 0xa81a664b, 0xc24b8b70, 0xc76c51a3, 0xd192e819, 0xd6990624, 0xf40e3585, 0x106aa070] ++
  [0x19a4c116, 0x1e376c08, 0x2748774c, 0x34b0bcb5, 0x391c0cb3, 0x4ed8aa4a, 0x5b9cca4f, 0x682e6ff3] ++
  [0x748f82ee, 0x78a5636f, 0x84c87814, 0x8cc70208, 0x90befffa, 0xa4506ceb, 0xbef9a3f7, 0xc67178f2]

/-- The initial state of SHA-256. -/
def h256 : List Nat :=
  [0x6a09e667, 0xbb67ae85, 0x3c6ef372, 0xa54ff53a, 0x510e527f, 0x9b05688c, 0x1f83d9ab, 0x5be0cd19]

/-- The constants of SHA-384. -/
def k512 : List Nat :=
  [0x428a2f98d728ae22, 0x7137449123ef65cd, 0xb5c0fbcfec4d3b2f, 0xe9b5dba58189dbbc, 0x3956c25bf348b538] ++
  [0x59f111f1b605d019, 0x923f82a4af194f9b, 0xab1c5ed5da6d8118, 0xd807aa98a3030242, 0x12835b0145706fbe] ++
  [0x243185be4ee4b28c, 0x550c7dc3d5ffb4e2, 0x72be5d74f27b896f, 0x80deb1fe3b1696b1, 0x9bdc06a725c71235] ++
  [0xc19bf174cf692694, 0xe49b69c19ef14ad2, 0xefbe4786384f25e3, 0x0fc19dc68b8cd5b5, 0x240ca1cc77ac9c65] ++
  [0x2de92c6f592b0275, 0x4a7484aa6ea6e483, 0x5cb0a9dcbd41fbd4, 0x76f988da831153b5, 0x983e5152ee66dfab] ++
  [0xa831c66d2db43210, 0xb00327c898fb213f, 0xbf597fc7beef0ee4, 0xc6e00bf33da88fc2, 0xd5a79147930aa725] ++
  [0x06ca6351e003826f, 0x142929670a0e6e70, 0x27b70a8546d22ffc, 0x2e1b21385c26c926, 0x4d2c6dfc5ac42aed] ++
  [0x53380d139d95b3df, 0x650a73548baf63de, 0x766a0abb3c77b2a8, 0x81c2c92e47edaee6, 0x92722c851482353b] ++
  [0xa2bfe8a14cf10364, 0xa81a664bbc423001, 0xc24b8b70d0f89791, 0xc76c51a30654be30, 0xd192e819d6ef5218] ++
  [0xd69906245565a910, 0xf40e35855771202a, 0x106aa07032bbd1b8, 0x19a4c116b8d2d0c8, 0x1e376c085141ab53] ++
  [0x2748774cdf8eeb99, 0x34b0bcb5e19b48a8, 0x391c0cb3c5c95a63, 0x4ed8aa4ae3418acb, 0x5b9cca4f7763e373] ++
  [0x682e6ff3d6b2b8a3, 0x748f82ee5defb2fc, 0x78a5636f43172f60, 0x84c87814a1f0ab72, 0x8cc702081a6439ec] ++
  [0x90befffa23631e28, 0xa4506cebde82bde9, 0xbef9a3f7b2c67915, 0xc67178f2e372532b, 0xca273eceea26619c] ++
  [0xd186b8c721c0c207, 0xeada7dd6cde0eb1e, 0xf57d4f7fee6ed178, 0x06f067aa72176fba, 0x0a637dc5a2c898a6] ++
  [0x113f9804bef90dae, 0x1b710b35131c471b, 0x28db77f523047d84, 0x32caab7b40c72493, 0x3c9ebe0a15c9bebc] ++
  [0x431d67c49c100d4c, 0x4cc5d4becb3e42b6, 0x597f299cfc657e2a, 0x5fcb6fab3ad6faec, 0x6c44198c4a475817]

/-- The initial state of SHA-384. -/
def h384 : List Nat :=
  [0xcbbb9d5dc1059ed8, 0x629a292a367cd507, 0x9159015a3070dd17, 0x152fecd8f70e5939, 0x67332667ffc00b31] ++
  [0x8eb44a8768581511, 0xdb0c2e0d64f98fa7, 0x47b5481dbefa4fa4]

/-- The rotations and shift of one of the functions of SHA-2. -/
structure ShaFn where
  a : Nat
  b : Nat
  c : Nat
  /-- the third term is a shift, not a rotation -/
  sh : Bool

/-- What distinguishes SHA-256 from SHA-384. -/
structure ShaPar where
  w : Nat
  rounds : Nat
  big0 : ShaFn
  big1 : ShaFn
  small0 : ShaFn
  small1 : ShaFn
  ks : List Nat

/-- SHA-256. -/
def par256 : ShaPar := ⟨32, 64, ⟨2, 13, 22, false⟩, ⟨6, 11, 25, false⟩, ⟨7, 18, 3, true⟩, ⟨17, 19, 10, true⟩, k256⟩

/-- SHA-384. -/
def par384 : ShaPar := ⟨64, 80, ⟨28, 34, 39, false⟩, ⟨14, 18, 41, false⟩, ⟨1, 8, 7, true⟩, ⟨19, 61, 6, true⟩, k512⟩

/-- One of the sigma functions. -/
def ShaFn.ap (f : ShaFn) (w x : Nat) : Nat :=
  rotr w f.a x ^^^ rotr w f.b x ^^^ (if f.sh then x >>> f.c else rotr w f.c x)

/-- The message schedule, newest word first. -/
def schedule (p : ShaPar) : Nat → List Nat → List Nat
  | 0, ws => ws
  | fuel + 1, ws =>
    let x := p.small1.ap p.w (ws.getD 1 0) + ws.getD 6 0 + p.small0.ap p.w (ws.getD 14 0) + ws.getD 15 0
    schedule p fuel (x % 2 ^ p.w :: ws)

/-- The rounds over the constants and the schedule. -/
def shaRounds (p : ShaPar) : List (Nat × Nat) → List Nat → List Nat
  | [], s => s
  | (k, x) :: r, s =>
    match s with
    | [a, b, c, d, e, f, g, h] =>
      let ch := (e &&& f) ^^^ ((2 ^ p.w - 1 - e) &&& g)
      let t1 := h + p.big1.ap p.w e + ch + k + x
      let t2 := p.big0.ap p.w a + ((a &&& b) ^^^ (a &&& c) ^^^ (b &&& c))
      shaRounds p r [(t1 + t2) % 2 ^ p.w, a, b, c, (d + t1) % 2 ^ p.w, e, f, g]
    | l => l

/-- One block of SHA-2. -/
def shaBlock (p : ShaPar) (h : List Nat) (block : List Nat) : List Nat :=
  let ws := (cut (p.w / 8) 16 block).map blockNat
  let sched := (schedule p (p.rounds - 16) ws.reverse).reverse
  List.zipWith (fun a b => (a + b) % 2 ^ p.w) h (shaRounds p (p.ks.zip sched) h)

/-- SHA-2 of a message: the state at the end. -/
def sha (p : ShaPar) (h0 : List Nat) (msg : List Nat) : List Nat :=
  let bl := p.w * 2
  let lenB := p.w / 4
  let rest := (bl - (msg.length + 1 + lenB) % bl) % bl
  let bits := msg.length * 8
  let tail := (List.range lenB).map fun i => bits >>> (8 * (lenB - 1 - i)) % 256
  let m := msg ++ [0x80] ++ List.replicate rest 0 ++ tail
  (cut bl (m.length / bl) m).foldl (shaBlock p) h0

/-- SHA-256. -/
def sha256 (b : Bytes) : Bytes := ((sha par256 h256 (toNats b)).map (beBytes 4)).flatten

/-- SHA-384. -/
def sha384 (b : Bytes) : Bytes := (((sha par384 h384 (toNats b)).take 6).map (beBytes 8)).flatten

/-- HMAC-SHA-256. -/
def hmac256 (key msg : Bytes) : Bytes :=
  let k := if key.length ≤ 64 then key else sha256 key
  let k := k ++ List.replicate (64 - k.length) 0
  sha256 (k.map (· ^^^ 0x5C) ++ sha256 (k.map (· ^^^ 0x36) ++ msg))

/-! ### ECDSA over P-384 -/

/-- The prime of P-384. -/
def p384 : Nat := 2 ^ 384 - 2 ^ 128 - 2 ^ 96 + 2 ^ 32 - 1

/-- The order of P-384. -/
def n384 : Nat :=
  0xffffffffffffffffffffffffffffffffffffffffffffffffc7634d81f4372ddf581a0db248b0a77aecec196accc52973

/-- The constant b of P-384. -/
def b384 : Nat :=
  0xb3312fa7e23ee7e4988e056be3f82d19181d9c6efe8141120314088f5013875ac656398d8a2ed19d2a85c8edd3ec2aef

/-- The base point of P-384. -/
def g384 : Nat × Nat :=
  (0xaa87ca22be8b05378eb1c71ef320ad746e1d3b628ba79b9859f741e082542a385502f25dbf55296c3a545e3872760ab7,
   0x3617de4a96262c6f5d9e98bf9292dc29f8f41dbd289a147ce9da3113b5f0b8c00a60b1ce1d7e819d7a431d7c90ea0e5f)

/-- A power modulo m; `fuel` bounds the bits of the exponent. -/
def powMod (m : Nat) : Nat → Nat → Nat → Nat → Nat
  | 0, _, _, acc => acc
  | fuel + 1, b, e, acc => powMod m fuel (b * b % m) (e / 2) (if e % 2 = 1 then acc * b % m else acc)

/-- The inverse modulo a prime of at most 384 bits. -/
def invMod (m x : Nat) : Nat := powMod m 384 (x % m) (m - 2) 1

/-- A point in Jacobian coordinates; z = 0 is the point at infinity. -/
abbrev Pt := Nat × Nat × Nat

/-- Subtraction modulo the prime. -/
def subP (a b : Nat) : Nat := (a + p384 - b % p384) % p384

/-- Doubling. -/
def ptDouble : Pt → Pt
  | (x, y, z) =>
    let delta := z * z % p384
    let gamma := y * y % p384
    let beta := x * gamma % p384
    let alpha := 3 * (subP x delta) * (x + delta) % p384
    let x3 := subP (alpha * alpha) (8 * beta)
    let z3 := 2 * y * z % p384
    (x3, subP (alpha * subP (4 * beta) x3) (8 * gamma * gamma), z3)

/-- Addition. -/
def ptAdd (p q : Pt) : Pt :=
  if p.2.2 = 0 then q
  else if q.2.2 = 0 then p
  else
    let (x1, y1, z1) := p
    let (x2, y2, z2) := q
    let a1 := z1 * z1 % p384
    let a2 := z2 * z2 % p384
    let u1 := x1 * a2 % p384
    let u2 := x2 * a1 % p384
    let s1 := y1 * z2 * a2 % p384
    let s2 := y2 * z1 * a1 % p384
    if u1 = u2 then (if s1 = s2 then ptDouble p else (1, 1, 0))
    else
      let h := subP u2 u1
      let r := subP s2 s1
      let h2 := h * h % p384
      let h3 := h * h2 % p384
      let v := u1 * h2 % p384
      let x3 := subP (subP (r * r) h3) (2 * v)
      (x3, subP (r * subP v x3) (s1 * h3), h * z1 * z2 % p384)

/-- A multiple of a point; `fuel` bounds the bits of the factor. -/
def ptMul : Nat → Nat → Pt → Pt → Pt
  | 0, _, _, acc => acc
  | fuel + 1, k, p, acc => ptMul fuel (k / 2) (ptDouble p) (if k % 2 = 1 then ptAdd acc p else acc)

/-- The point lies on the curve. -/
def onCurve (x y : Nat) : Bool :=
  decide (x < p384) && decide (y < p384) && (y * y % p384 == (x * x * x + (p384 - 3) * x + b384) % p384)

/-- ECDSA over P-384 with SHA-384 (FIPS 186): public key x then y and signature r then s, 48 octets each. -/
def ecdsa384 (pub msg sig : Bytes) : Bool :=
  let qx := beNat (pub.take 48)
  let qy := beNat (pub.drop 48)
  let r := beNat (sig.take 48)
  let s := beNat (sig.drop 48)
  let e := beNat (sha384 msg)
  let w := invMod n384 s
  let pt := ptAdd (ptMul 384 (e * w % n384) (g384.1, g384.2, 1) (1, 1, 0)) (ptMul 384 (r * w % n384) (qx, qy, 1) (1, 1, 0))
  let zi := invMod p384 pt.2.2
  pub.length == 96 && sig.length == 96 && onCurve qx qy && decide (0 < r) && decide (r < n384) && decide (0 < s) &&
    decide (s < n384) && pt.2.2 != 0 && (pt.1 * zi % p384 * zi % p384) % n384 == r

end Sys2Proof.Machine.Crypto
end

