-- ==== Sys2Proof/Machine/Pll.lean ====
section
/-! DEFINITION. Digital PLLs (07_synthesis.md R217 to R230): their states, phase detectors, loop filters and DCOs. -/
namespace Sys2Proof.Machine

/-! ### DPLLs (R217 to R229) -/

/-- DPLL `d`: 0 T, 1 A, 2 B, 3 C, 4 D. -/
def State.dpll (s : State) (d : Nat) : Dpll := vat s.dplls d {}

/-- A DPLL changed. -/
def State.modDpll (s : State) (d : Nat) (f : Dpll → Dpll) : State := { s with dplls := vmod s.dplls d f }

/-- dpll.state: 0 FREERUN, 1 ACQUIRE, 2 LOCKED, 3 HOLD, 4 SLEW. -/
def State.dpllState (s : State) (d : Nat) : Nat := s.valN Obj.dpll_state d

/-- A DPLL follows TODREF (R217). -/
def State.todref (s : State) (d : Nat) : Bool := d != 0 && s.effN Obj.dpll_ref d == 0

/-- The reference of a DPLL is present (R220, R226): TODREF from B06 on, a SyncE clock while its lane is locked, that of DPLL-T while
its DCO is not held. -/
def State.dpllRef (s : State) (d : Nat) : Bool :=
  let r := s.effN Obj.dpll_ref d
  if d = 0 then !(s.dpll 0).held
  else if r = 0 then s.tc.running
  else (s.lane (r - 1)).locked

/-- The DCO frequency of a DPLL now, mHz: in SLEW on its ramp (R237). -/
def State.dcoNow (s : State) (d : Nat) : Nat :=
  let x := s.dpll d
  if s.dpllState d = 4 then
    let moved := x.dco * s.effN Obj.dpll_slew_rate d * s.nsSince x.acqFrom / 10 ^ 18
    if x.dco ≤ x.target then min x.target (x.dco + moved) else max x.target (x.dco - moved)
  else x.dco

/-- LOCK_PDp (R230): low throughout FREERUN and HOLD, else whether the last PD sample lay within the window. -/
def State.putLockPd (s : State) : State :=
  let level (p : Nat) : Bool :=
    let d := s.effN Obj.lockpd_source p
    s.dpllState d != 0 && s.dpllState d != 3 && (s.dpll d).lastOk
  { s with elec := { s.elec with lockPd := Vector.ofFn fun p => level p.val } }

/-! ### Phase detector and loop filter (R219 to R225) -/

/-- The base rate of a DPLL's reference at the phase detector, µHz (R219). -/
def State.pdBase (s : State) (d : Nat) : Nat :=
  let r := s.effN Obj.dpll_ref d
  if d = 0 then (if s.hold.timebaseFly && s.effN Obj.fly_freq == 1 then 5000000000000 else 10000000000000)
  else if r = 0 then 1000000000000
  else if s.effN Obj.mac_mode (r - 1) = 4 then 1000000000000
  else 1258789062500

/-- f_pd, µHz: the base rate halved, passed or doubled by `dpll.prescale` (R219). -/
def State.pdRate (s : State) (d : Nat) : Nat := s.pdBase d * 2 ^ s.effN Obj.dpll_prescale d / 2

/-- The bandwidth of a code of R223, mHz. -/
def bandwidth (code : Nat) : Nat :=
  ([1, 2, 5, 10, 20, 50, 100, 200, 500, 1000, 2000, 5000, 10000, 20000, 50000, 100000, 200000, 500000, 1000000, 2000000, 4000000][code]?).getD 1

/-- The gains in use: proportional, integral, and that of the second integrator at the corner bandwidth / 16 where `dpll.int2` is true (R223, R225).
They follow f_pd, so that the bandwidth stays with `dpll.prescale` (R219). -/
def State.gains (s : State) (d : Nat) : Int × Int × Int :=
  let f := s.pdRate d
  let b := bandwidth (s.dpll d).bwNow
  (Config.dpllGain 0 (16 * b) f, Config.dpllGain 1 (16 * b) f, if s.effT Obj.dpll_int2 d then Config.dpllGain 2 b f else 0)

/-- e of a PD sample, units of 2⁻⁵⁶ ns: the feedback edge less the nearest ideal edge (R220), which for TODREF is a TOD instant k / f_pd, moved by
what steps and slews of the DCO have shifted it (R222, R226). -/
def State.pdError (s : State) (d : Nat) (x : PdSample) : Int :=
  let per : Rat := (secU : Rat) * 1000000 / (max 1 (s.pdRate d) : Nat)
  let t := x.edge - (s.dpll d).edgeOff - if s.todref d then 0 else x.ref
  let k : Int := ratRound ((t : Rat) / per)
  ratRound ((t : Rat) - k * per)

/-- The tuning of a DCO against its nominal frequency, FREQ64: the TOD rate fed forward (R221) and the filter. -/
def State.tuning (s : State) (d : Nat) : Int :=
  let x := s.dpll d
  (if s.todref d then (x.ff - 0x0200000000000000) * 128 else 0) + x.prop + x.integ + x.integ2

/-- The DCO's frequency with its tuning, µHz (R226). -/
def State.dcoTuned (s : State) (d : Nat) : Int :=
  match (s.dpll d).frozen with
  | some v => v
  | none =>
    let f : Int := (s.dcoNow d : Int) * 1000
    f + roundDiv (f * s.tuning d) (2 ^ 64)

/-- The loop takes one sample: the filter while the loop is closed (R223, R225), and the counts of R226. -/
def Dpll.take (x : Dpll) (g : Int × Int × Int) (closed : Bool) (window e : Int) (cyc : Nat) : Dpll :=
  let ok := decide ((e.natAbs : Int) ≤ window)
  let x :=
    { x with
      lastOk := ok, lastE := e, outRun := if ok then 0 else x.outRun + 1, inWin := if ok then some (x.inWin.getD cyc) else none }
  if closed then
    let p := roundDiv (e * g.1) (2 ^ 64)
    let i := x.integ + roundDiv (e * g.2.1) (2 ^ 64)
    { x with prop := p, integ := i, integ2 := x.integ2 + roundDiv ((p + i) * g.2.2) (2 ^ 64) }
  else x

/-- A sample of DPLL `d` is taken; one completed before the loop was last closed belongs to no lock. -/
def State.takePd (s : State) (d : Nat) (p : PdSample) : State :=
  let st := s.dpllState d
  if p.cyc < (s.dpll d).acqFrom && st == 1 then s
  else
    s.modDpll d fun x =>
      x.take (s.gains d) (st == 1 || st == 2 || st == 4) (psToU (s.effN Obj.dpll_lock_window d)) (s.pdError d p) p.cyc

/-- The cells of LOCK_PD that a DPLL has completed (R230): 1 µs each, high when the sample completed last before it lay in the window. `ok` is that
of the last sample of the tick before, `l` the samples of the tick. -/
def pdCells (ok : Bool) (l : List (Nat × Bool)) (from' till : Nat) : List Bool :=
  (List.range (min 1000 (till - from'))).map fun k =>
    ((l.takeWhile fun e => decide (e.1 ≤ 500 * (from' + k))).getLast?).elim ok Prod.snd

/-- Mean e and in-window fraction of a tick's samples (R252). -/
def State.putPd (s : State) (d : Nat) (es : List (Nat × Int × Bool)) : State :=
  if es.isEmpty then s
  else
    let n := es.length
    let err := uToPsNear (roundDiv ((es.map fun e => e.2.1).sum) n)
    let inside := (es.filter fun e => e.2.2).length
    (s.setN Obj.dpll_phase_err err d).setN Obj.dpll_density ((inside * 65535 / n : Nat) : Int) d

/-- What the phase detector of a DPLL brings to a boundary: its samples pass the loop in order, and the cells and tuning of the tick are kept. -/
def State.pdDpll (s : State) (pds : List PdIn) (d : Nat) : State :=
  let l := (pds.filter fun p => p.dpll.val == d).flatMap fun p => p.samples
  let window := psToU (s.effN Obj.dpll_lock_window d)
  let es := l.map fun p =>
    let e := s.pdError d p
    (p.cyc, e, decide ((e.natAbs : Int) ≤ window))
  let ok := (s.dpll d).lastOk
  let s := ((s.putPd d es).each l fun s p => s.takePd d p)
  let now := s.tc.cyc / 500
  let s := s.modDpll d fun x => { x with cells := pdCells ok (es.map fun e => (e.1, e.2.2)) x.cellAt now, cellAt := now }
  if s.dpllState d = 0 ∨ s.dpllState d = 3 then s
  else
    let f := s.dcoTuned d
    s.modDpll d fun x => { x with tunes := (f :: x.tunes).take 800 }

/-- The phase detectors at a boundary (R220 to R226, R230, R252). DESIGN CHOICE (log entry 63): the samples of a tick are brought to its end. -/
def State.pdTick (s : State) (pds : List PdIn) : State :=
  let s := (s.each (List.range 5) fun s d => s.pdDpll pds d).putLockPd
  let cells (p : Nat) : List Bool :=
    let d := s.effN Obj.lockpd_source p
    if s.dpllState d = 0 ∨ s.dpllState d = 3 then (s.dpll d).cells.map fun _ => false else (s.dpll d).cells
  { s with elec := { s.elec with lockCells := Vector.ofFn fun p => cells p.val } }

/-- The TOD rate of the present cycle's addition passes to every DPLL that follows TODREF (R221). -/
def State.feedForward (s : State) : State :=
  let r := s.tc.outRegs
  let rate : Int := r.inc + if s.tc.step.isSome then 0 else r.slewPart
  s.each [1, 2, 3, 4] fun s d => if s.todref d && (s.dpll d).ff != rate then s.modDpll d fun x => { x with ff := rate } else s

/-- A step shifts the ideal edges of every DPLL that follows TODREF (R222). -/
def State.stepEdges (s : State) (j : Int) : State :=
  s.each [1, 2, 3, 4] fun s d => if s.todref d then s.modDpll d fun x => { x with edgeOff := x.edgeOff + j } else s

/-- A DPLL enters a state. -/
def State.setDpll (s : State) (d st : Nat) : State := (s.setN Obj.dpll_state st d).putLockPd

/-! ### Closing and freezing a loop (R224, R226, R228) -/

/-- LOCKED or SLEW. -/
def State.lockedOrSlew (s : State) (d : Nat) : Bool := s.dpllState d == 2 || s.dpllState d == 4

/-- A loop is closed at B_acq (R224): the state is ACQUIRE from now on, and no sample has yet shown lock. DPLL-T takes its reference with phase
build-out (R228); the others have the ideal edges of R220. -/
def State.acquire (s : State) (d : Nat) : State :=
  let s := s.modDpll d fun x =>
    { x with
      acqFrom := s.tc.cyc, timedOut := false, inWin := none, outRun := 0, lastOk := false, edgeOff := if d = 0 then x.edgeOff + x.lastE else 0
      bwNow := max (s.effN Obj.dpll_acq_bw d) (s.effN Obj.dpll_bw d) }
  s.setDpll d 1

/-- LOCKED or SLEW is left for ACQUIRE or HOLD: counted in `dpll.unlocks`. -/
def State.leaveLock (s : State) (d : Nat) : State := if s.lockedOrSlew d then s.count Obj.dpll_unlocks d else s

/-- The mean of a list, 0 of none. -/
def meanOf (l : List Int) : Int := if l.isEmpty then 0 else roundDiv l.sum l.length

/-- A DCO is frozen at its mean tuning over the last 100 ms (R226): HOLD. -/
def State.freeze (s : State) (d : Nat) : State :=
  let old := s.dcoNow d
  let now := s.dcoTuned d
  let s := s.leaveLock d
  (s.modDpll d fun x =>
    { x with dco := old, lastOk := false, frozen := some (if x.tunes.isEmpty then now else meanOf x.tunes), tunes := [] }).setDpll d 3

/-- The loop closes on a DCO that was frozen: the integrator starts from where it was held (R226). -/
def State.thaw (s : State) (d : Nat) : State :=
  let x := s.dpll d
  let ff := if s.todref d then (x.ff - 0x0200000000000000) * 128 else 0
  let f : Int := (x.dco : Int) * 1000
  let held := roundDiv ((x.frozen.getD f - f) * 2 ^ 64) (max 1 f.natAbs)
  s.modDpll d fun x => { x with frozen := none, prop := 0, integ2 := 0, integ := held - ff }

end Sys2Proof.Machine
end

