-- ==== Sys2Proof/Machine/Model.lean ====
section
/-! DEFINITION. The learned model of the timebase oscillator (05_holdover.md R163 to R169): declared parameters, Allan deviation,
least-squares fit, prediction and band. -/
namespace Sys2Proof.Machine

/-- Declared parameters of an oscillator (R163), exact. Drift is per second. -/
structure OscPar where
  u0 : Rat
  dMax : Rat
  kMax : Rat
  a1 : Rat
  b : Rat
  retrace : Rat
deriving DecidableEq

/-- A day in seconds. -/
def dayS : Rat := 86400

/-- The declared parameters of the flywheel in effect. -/
def State.flyPar (s : State) : OscPar :=
  { u0 := freqRat (s.effI Obj.fly_u0), dMax := freqRat (s.effI Obj.fly_drift_max) / dayS,
    kMax := freqRat (s.effI Obj.fly_tempco_max), a1 := freqRat (s.effI Obj.fly_adev_1s),
    b := freqRat (s.effI Obj.fly_floor), retrace := freqRat (s.effI Obj.fly_retrace) }

/-- The declared parameters of the XO in effect. -/
def State.xoPar (s : State) : OscPar :=
  { u0 := freqRat (s.effI Obj.xo_u0), dMax := freqRat (s.effI Obj.xo_drift_max) / dayS,
    kMax := freqRat (s.effI Obj.xo_tempco_max), a1 := freqRat (s.effI Obj.xo_adev_1s),
    b := freqRat (s.effI Obj.xo_floor), retrace := 0 }

/-- The declared parameters of the timebase. -/
def State.oscPar (s : State) : OscPar := if s.hold.timebaseFly then s.flyPar else s.xoPar

/-- The model of the timebase. -/
def State.model (s : State) : OscModel := if s.hold.timebaseFly then s.hold.fly else s.hold.xo

/-- The model of the timebase written. -/
def State.setModel (s : State) (m : OscModel) : State :=
  if s.hold.timebaseFly then { s with hold := { s.hold with fly := m } } else { s with hold := { s.hold with xo := m } }

/-- The square of σ_y at τ seconds (R167). -/
def sigma2 (a1 b tau : Rat) : Rat := a1 * a1 / tau + b * b

/-- The time of day in seconds at the present tick's boundary, exact. -/
def State.nowS (s : State) : Rat := (s.tc.tickSec : Rat) + (s.tc.tickNo : Rat) / 8000

/-- The temperature term T − T₀ of the model: 0 while the temperature counts as constant (R163). -/
def State.tempDiff (s : State) (t0 : Rat) : Rat :=
  if s.effN Obj.fly_temp_source = 0 then 0
  else match s.hold.temp with
    | some t => t - t0
    | none => 0

/-- The predicted fractional frequency offset of the timebase (R166). -/
def State.fPred (s : State) : Rat :=
  let m := s.model
  m.f0 + m.d * (s.nowS - m.se) + m.k * s.tempDiff m.t0

/-- u_f with the addition of R190. -/
def OscModel.ufAll (m : OscModel) : Rat := m.uf + m.extraUf

/-- The band of R168 for a qualification time τ_q. -/
def State.band (s : State) (tauQ : Rat) : Rat :=
  let m := s.model
  let p := s.oscPar
  m.ufAll + m.ud * (s.nowS - m.se) + m.uk * ratAbs (s.tempDiff m.t0) + 3 * ratSqrt (sigma2 p.a1 p.b tauQ)

/-- The model has something to report: its state is not NONE and a fit has been made (R168). -/
def OscModel.reports (m : OscModel) : Bool := m.state != 0 && m.fitted

/-- The model reports valid to arbitration (R168). -/
def State.modelValidArb (s : State) : Bool := s.model.state == 2 && s.hold.timebaseFly

/-- The qualification time of the band that the objects show (R168): the longest among the slots in dispute, or 10 s. -/
def State.bandTau (s : State) : Nat :=
  match s.sel.disputes with
  | [] => 10
  | ds => ds.foldl (fun m d => max m (max (s.effN Obj.ref_qual_time d.a) (s.effN Obj.ref_qual_time d.b))) 1

/-- `hold.f_pred` (R168), FREQ64. -/
def State.viewFPred (s : State) : Int := if s.model.reports then ratFreq s.fPred else 0

/-- `hold.band` (R168), FREQ64. -/
def State.viewBand (s : State) : Int :=
  if s.model.reports then ratFreq (s.band s.bandTau) else ratFreq s.oscPar.u0

/-! ### Least squares -/

/-- A solution of normal equations with up to three unknowns, and the diagonal of the inverse. -/
structure Solved where
  x : List Rat
  inv : List Rat

/-- The determinant of a 3 × 3 matrix given by rows. -/
def det3 (a b c d e f g h i : Rat) : Rat := a * (e * i - f * h) - b * (d * i - f * g) + c * (d * h - e * g)

/-- The symmetric equations [[a,b,c],[b,d,e],[c,e,f]] x = [p,q,r]; none when singular. -/
def solve3 (a b c d e f p q r : Rat) : Option Solved :=
  let dt := det3 a b c b d e c e f
  if dt = 0 then none
  else
    some
      { x := [det3 p b c q d e r e f / dt, det3 a p c b q e c r f / dt, det3 a b p b d q c e r / dt]
        inv := [(d * f - e * e) / dt, (a * f - c * c) / dt, (a * d - b * b) / dt] }

/-- The sum of a function over a list. -/
def sumOf {α : Type} (l : List α) (f : α → Rat) : Rat := l.foldl (fun acc x => acc + f x) 0

/-- The terms of the fit: a term not fitted has zero columns and a unit on the diagonal, so that its unknown is 0. -/
def fitW (w : List WEntry) (se : Nat) (t0 : Rat) (withD withK : Bool) : Option Solved :=
  let col (e : WEntry) : Rat := if withD then (e.s : Rat) - se else 0
  let tmp (e : WEntry) : Rat := if withK then e.temp - t0 else 0
  solve3 w.length (sumOf w col) (sumOf w tmp)
    (if withD then sumOf w fun e => col e * col e else 1) (sumOf w fun e => col e * tmp e)
    (if withK then sumOf w fun e => tmp e * tmp e else 1)
    (sumOf w fun e => e.f) (sumOf w fun e => col e * e.f) (sumOf w fun e => tmp e * e.f)

/-- The fit of R166 over W: the model it leaves, and whether FLY_MODEL is raised. -/
def refit (m : OscModel) (p : OscPar) (tempNone : Bool) (learnMin : Nat) : OscModel × Bool :=
  let w := m.w
  let n := w.length
  match w with
  | [] => ({ m with state := 1 }, false)
  | newest :: _ =>
    let oldest := w.getLastD newest
    let span := newest.s - oldest.s
    let t0 := sumOf w (fun e => e.temp) / n
    let lo := w.foldl (fun a e => ratMin a e.temp) newest.temp
    let hi := w.foldl (fun a e => ratMax a e.temp) newest.temp
    let withD := decide (86400 ≤ span)
    let withK := !tempNone && decide (2 ≤ hi - lo)
    let terms := 1 + (if withD then 1 else 0) + (if withK then 1 else 0)
    match (if n < terms then none else fitW w newest.s t0 withD withK) with
    | none => ({ m with state := 1 }, false)
    | some r =>
      let f0 := r.x.getD 0 0
      let d := if withD then r.x.getD 1 0 else 0
      let k := if withK then r.x.getD 2 0 else 0
      let res (e : WEntry) : Rat := e.f - f0 - d * ((e.s : Rat) - newest.s) - k * (e.temp - t0)
      let rss := sumOf w fun e => res e * res e
      let var := if n = terms then 0 else rss / ((n - terms : Nat) : Rat)
      let se (i : Nat) : Rat := 3 * ratSqrt (var * r.inv.getD i 0)
      let newCount := (w.filter fun e => e.after).length
      let m' : OscModel :=
        { m with
          f0 := f0, d := d, k := k, se := newest.s, t0 := t0
          uf := ratMax (se 0) p.b
          ud := if withD then ratMax (se 1) (p.dMax / 10) else p.dMax
          uk := if withK then ratMax (se 2) (p.kMax / 10) else p.kMax
          fitted := true
          extraUf := if learnMin ≤ newCount * 60 then 0 else m.extraUf }
      if 9 * sigma2 p.a1 p.b 60 < rss / n then ({ m' with state := 1 }, true)
      else ({ m' with state := if learnMin ≤ span then 2 else 1 }, false)

end Sys2Proof.Machine
end

