-- ==== Sys2Proof/Machine/Refs.lean ====
section
/-! DEFINITION. Reference slots (04_references.md): kinds and terms, measurements, qualification, agreement, arbitration, selection,
transitions and the servo. SA's outputs are staged here and commit at a boundary (R37). -/
namespace Sys2Proof.Machine

/-! ### Kinds and terms -/

/-- A slot is a TIME slot (R124). -/
def State.isTime (s : State) (n : Nat) : Bool :=
  (decide (n < 8) && s.effN Obj.ref_kind n != 2) || (decide (8 ≤ n) && decide (n ≤ 12)) || n == 21 || n == 22

/-- A slot is a FREQ slot (R124). -/
def State.isFreq (s : State) (n : Nat) : Bool :=
  (decide (n < 8) && s.effN Obj.ref_kind n == 2) || (decide (13 ≤ n) && decide (n ≤ 20))

/-- The divided rate of a REF slot, Hz (R126). -/
def State.refRate (s : State) (n : Nat) : Nat := max 1 (s.effN Obj.ref_freq_hz n / max 1 (s.effN Obj.ref_divider n))

/-- The divided period of a REF slot, units of 2⁻⁵⁶ ns. -/
def State.refPeriod (s : State) (n : Nat) : Int := secU / (s.refRate n : Int)

/-- The source term of a slot (R124, R160). -/
def State.srcTerm (s : State) (n : Nat) : Nat :=
  if n < 8 then s.effN Obj.ref_source_scruple n
  else if n ≤ 12 ∨ n = 21 ∨ n = 22 then (s.slot n).srcTerm
  else unbounded

/-- The values of d_k of a PTP-in instance completed over the last second, or else the latest (R437). -/
def State.recentDelays (s : State) (i : Nat) : List Int :=
  match (s.ptp i).dks.filter fun e => !s.passed e.1 (oneSec + 1) with
  | [] => (s.ptp i).dLast.toList
  | l => l.map Prod.snd

/-- The mean path delay of a PTP-in instance (R437), ps, exact; 0 before the first measurement. -/
def State.meanDelayPs (s : State) (i : Nat) : Rat :=
  match s.recentDelays i with
  | [] => 0
  | l => ((l.sum * 1000 : Int) : Rat) / ((l.length * 2 ^ 56 : Nat) : Rat)

/-- The asymmetry part of a PTP-in slot, ps, exact (R207). -/
def State.asymExact (s : State) (n : Nat) : Rat :=
  if 9 ≤ n ∧ n ≤ 12 then ratMin (s.effN Obj.scr_asym_bound (n - 9)) (s.meanDelayPs (n - 9)) + s.valN Obj.scr_path_steps (n - 9) else 0

/-- The asymmetry part of a PTP-in slot in whole ps, rounded up (R194, R207). -/
def State.asymPart (s : State) (n : Nat) : Nat := satScr (ratCeil (s.asymExact n)).toNat

/-- m_inst of a slot, ps (R195). -/
def State.mInst (s : State) (n : Nat) : Nat :=
  if n ≤ 8 then 30
  else if n ≤ 12 then
    let p := s.effN Obj.ptp_slave_port (n - 9)
    if p < 9 then s.valN Obj.stamp_accuracy p else 2500
  else if n = 21 ∨ n = 22 then 40
  else 0

/-- The measurement term without its asymmetry part, exact (R195, R208). -/
def State.mBare (s : State) (n : Nat) : Rat := (s.mInst n : Rat) + (s.slot n).resid / 2

/-- The measurement term m of a slot, whole ps rounded up (R194, R195). -/
def State.measTerm (s : State) (n : Nat) : Nat := satScr (ratCeil (s.mBare n + s.asymExact n)).toNat

/-- A magnitude in units of 2⁻¹⁶ ns as picoseconds, exact. -/
def ps16 (x : Int) : Rat := ((x.natAbs * 1000 : Nat) : Rat) / 65536

/-- The measurements that were captured up to the start of the present tick (R37). -/
def State.captured (s : State) (n : Nat) : List Meas := (s.slot n).meas.filter fun m => decide (m.tickAt < s.tc.boundaries)

/-- The offset of a slot: that of its latest captured measurement. -/
def State.xOf (s : State) (n : Nat) : Option Int := (s.captured n).head?.map fun m => m.x

/-- A measurement of a slot made now, with the flags of its stamp. -/
def State.newMeas (s : State) (t : Tod) (x : Int) (flags : Nat) : Meas :=
  { t := t, x := x, tickAt := s.tc.boundaries, cyc := s.tc.cyc, slew := s.tc.slewTotal, inc := s.tc.incTotal, flags := flags }

/-- A measurement of a slot made at the boundary of the present tick, and so captured up to its start. -/
def State.tickMeas (s : State) (t : Tod) (x : Int) (y : Option Int) : Meas :=
  { t := t, x := x, tickAt := s.tc.boundaries - 1, cyc := s.tc.tickCyc, y := y, slew := s.tc.tickSlew, inc := s.tc.tickInc
    flags := 1 + (if s.valN Obj.tod_state = 0 then 0x400 else 0) }

/-- A measurement is added to its slot; what lies beyond the windows of R125 and R143 is dropped. -/
def State.addMeas (s : State) (n : Nat) (m : Meas) : State :=
  let keep := max (s.effN Obj.ref_qual_time n) 3 * oneSec
  s.modSlot n fun sl => { sl with meas := m :: sl.meas.filter fun o => s.passed o.cyc keep == false }

/-! ### History -/

/-- A history bit sets; with its mask bit set the slot's interrupt becomes pending and IRQ_N is driven low (R159). The history of a slot that is
not enabled does not change (R133). -/
def State.hist (s : State) (n bit : Nat) : State :=
  let h := s.valN Obj.ref_history n
  if h.testBit bit || !s.effT Obj.ref_enable n then s
  else
    let s := s.setN Obj.ref_history ((h ||| 2 ^ bit : Nat) : Int) n
    if (s.effN Obj.ref_irq_mask n).testBit bit then
      let s := s.setN Obj.ref_irq_pending ((s.valN Obj.ref_irq_pending ||| 2 ^ n : Nat) : Int)
      { s with elec := { s.elec with irqN := false } }
    else s

/-- The active slot, 255 for none. -/
def State.active (s : State) : Nat := s.valN Obj.ref_active

/-- ref.state: 0 UNREFERENCED, 1 TRANSITION, 2 LOCKED, 3 FREQUENCY. -/
def State.refState (s : State) : Nat := s.valN Obj.ref_state

/-- ref.state is LOCKED on a TIME slot. -/
def State.lockedTime (s : State) : Bool := s.refState == 2 && s.isTime s.active

/-- A slot is in an undecided dispute (R154). -/
def State.inDispute (s : State) (n : Nat) : Bool := s.sel.disputes.any fun d => d.a == n || d.b == n

/-- `ref.status` of a slot (R158); zero while it is not enabled (R133). -/
def State.refStatus (s : State) (n : Nat) : Nat :=
  if !s.effT Obj.ref_enable n then 0
  else
    let sl := s.slot n
    let bit (b : Bool) (k : Nat) : Nat := if b then 2 ^ k else 0
    bit sl.present 0 + bit sl.freqOk 1 + bit sl.phaseOk 2 + bit sl.consOk 3 + bit sl.qualified 4 +
      bit (sl.wtrStart.isSome && !sl.eligible) 5 + bit sl.eligible 6 + bit (s.active == n) 7 +
      bit (s.valN Obj.ref_target == n) 8 + bit sl.inconsistent 9 + bit sl.arbDisq 10 + bit (s.inDispute n) 11 +
      bit sl.agreed 12 + bit sl.forced 13 + bit sl.pathStep 14

/-! ### REF edges (R127 to R129) -/

/-- The offset of a REF slot at a stamped edge (R129), or the phase of a FREQ slot modulo its period (R125), 2⁻¹⁶ ns. -/
def State.refOffset (s : State) (n : Nat) (t : Tod) : Int :=
  if s.isFreq n then uTo16 ((-t) % s.refPeriod n)
  else
    let t' := t - psToU (s.effI Obj.ref_delay n)
    let sec := (2 * t' + secU) / (2 * secU)
    roundDiv (sec * secU - t') (2 ^ 40)

/-- A divided edge of REFn, stamped, is tested against its window and re-anchors the prediction (R128). -/
def State.refFeed (s : State) (n : Nat) (st : Nat) : State :=
  let t := ofStamp128 st
  if !s.effT Obj.ref_enable n then s
  else
    let p := s.refPeriod n
    let sl := s.slot n
    let inWin := match sl.pred with
      | some e => decide (8 * (t - e).natAbs ≤ p.natAbs)
      | none => false
    if sl.present && !inWin then s
    else
      let s := s.addMeas n (s.newMeas t (s.refOffset n t) (stampFlags st))
      if sl.present then s.modSlot n fun x => { x with missed := 0, pred := some (t + p) }
      else
        let k := if inWin && sl.good3 != 0 then sl.good3 + 1 else 1
        s.modSlot n fun x => { x with good3 := k, pred := some (t + p), missed := 0, present := decide (3 ≤ k) }

/-- An expected edge of REFn has not arrived (R128). -/
def refEdgeMissingEff (n : Nat) (s : State) : State :=
  let sl := s.slot n
  match sl.pred with
  | none => s
  | some e =>
    let p := s.refPeriod n
    if s.tod * 8 ≤ e * 8 + p then s
    else if sl.present && decide (2 ≤ sl.missed + 1) then
      (s.modSlot n fun x => { x with present := false, good3 := 0, missed := 0, pred := none }).hist n 0
    else if sl.present then s.modSlot n fun x => { x with missed := x.missed + 1, pred := some (e + p) }
    else s.modSlot n fun x => { x with good3 := 0, pred := some (e + p) }

/-- REF_EDGE_MISSING (R128). -/
def execRefEdgeMissing (n : Fin 8) (s : State) : Host.Outcome State Fault Refusal := .next (refEdgeMissingEff n.val s)

/-! ### Fits (R125) -/

/-- A straight line through points (seconds before the newest, value): its slope, and the peak-to-peak residual. -/
def lineFit (pts : List (Rat × Rat)) : Option (Rat × Rat) :=
  let n : Rat := pts.length
  let st := sumOf pts Prod.fst
  let sx := sumOf pts Prod.snd
  let stt := sumOf pts fun e => e.1 * e.1
  let stx := sumOf pts fun e => e.1 * e.2
  let dt := n * stt - st * st
  if dt = 0 then none
  else
    let k := (n * stx - st * sx) / dt
    let c := (sx - k * st) / n
    match pts.map fun e => e.2 - c - k * e.1 with
    | [] => none
    | r :: rs => some (k, rs.foldl ratMax r - rs.foldl ratMin r)

/-- A value reduced into a period. -/
def modPeriod (v p : Rat) : Rat := if p = 0 then v else v - p * (ratFloor (v / p) : Rat)

/-- The period whose multiples the phase of a clock slot leaves open, 2⁻¹⁶ ns (R125, R316): that of the divided clock of a REF slot, of the
recovered clock of a SyncE slot, whose divider reads 1, and of FLY_10M. -/
def State.slotPeriod (s : State) (n : Nat) : Rat :=
  if n < 8 then 65536000000000 / (s.refRate n : Rat)
  else if n ≤ 20 then (if s.effN Obj.mac_mode (n - 13) = 4 then 524288 else 67108864 / 165)
  else if s.effN Obj.fly_freq = 1 then 13107200
  else 6553600

/-- A slot whose phase is known modulo a period: a FREQ slot, and the flywheel. -/
def State.cyclic (s : State) (n : Nat) : Bool := s.isFreq n || n == 23

/-- Phases modulo a period followed back in time, newest first: of the values that the period allows, the one nearest to where the frequency
measured with the newer puts it. -/
def unwrap (p : Rat) : Rat → Meas → List Meas → List Rat
  | _, _, [] => []
  | v, m, o :: rest =>
    let guess := v - freqRat (m.y.getD 0) * (((m.t - o.t : Int) : Rat) / 2 ^ 40)
    let w := guess + (modPeriod ((o.x : Rat) - guess + p / 2) p - p / 2)
    w :: unwrap p w o rest

/-- The phase by which the increment's offset and slews had moved the TOD at a measurement, 2⁻¹⁶ ns (R625). -/
def Meas.moved (m : Meas) : Rat := ((m.inc - 2 ^ 57 * (m.cyc : Int) + m.slew : Int) : Rat) / 2 ^ 40

/-- y and the residual of a slot are updated from the measurements captured in its window by a straight line (R125). Fewer than two
measurements give no line: y is then the frequency measured, or keeps its value, and the residual is 0. The frequency of a Cremin slot is the
latest measured (R457). That of the flywheel has the offset of the increment and slews removed, which leaves its own (R625). -/
def State.updateFit (s : State) (n : Nat) : State :=
  let ms := (s.captured n).filter fun m => !s.passed m.cyc (s.effN Obj.ref_qual_time n * oneSec + 1)
  match ms with
  | [] => s
  | m0 :: rest =>
    let raw : List Rat := if s.cyclic n then (m0.x : Rat) :: unwrap (s.slotPeriod n) m0.x m0 rest else ms.map fun m => (m.x : Rat)
    let pts := (ms.zip raw).map fun e =>
      (((e.1.t - m0.t : Int) : Rat) / (secU : Rat), (if n = 23 then e.2 + e.1.moved else e.2) / (65536 * 1000000000))
    match lineFit pts with
    | some (k, r) =>
      let y := if n = 21 ∨ n = 22 then m0.y.getD (s.slot n).y else ratFreq k
      s.modSlot n fun sl => { sl with y := y, resid := (ratCeil (r * 1000000000000)).toNat }
    | none => s.modSlot n fun sl => { sl with y := m0.y.getD sl.y, resid := 0 }

/-! ### Presence (the tests of R130) -/

/-- The Cremin link of an upstream slot (R444). -/
def State.upLink (s : State) (n : Nat) : Option Nat :=
  if s.dev.manager then none
  else (List.range 4).find? fun l => s.effN Obj.crem_link_role l == n - 19

/-- S8's presence (R307). -/
def State.s8Present (s : State) : Bool :=
  let r := s.gnss.report
  if s.dev.part == 2 || !s.effT Obj.gnss_enable then false
  else if r.kind == 0 && decide (r.target ≤ todSec s.tod) then false
  else if !s.gnss.formed && decide ((r.target : Int) * secU + secU / 2 ≤ s.tod) then false
  else (s.slot 8).present || s.gnss.formed

/-- The presence test of a slot (R130); `fly` tells whether FLY_10M is present. -/
def State.presentNow (s : State) (n : Nat) (fly : Bool) : Bool :=
  if n < 8 then (s.slot n).present
  else if n = 8 then s.s8Present
  else if n ≤ 12 then
    let i := n - 9
    let st := s.valN Obj.ptp_slave_state i
    (st == 2 || st == 3) &&
      match (s.ptp i).lastSync with
      | some c =>
        let l := (s.ptp i).syncLog
        let ns := if l < 0 then 3 * oneSec / 2 ^ l.natAbs else 3 * oneSec * 2 ^ l.natAbs
        !s.passed c (ns + 1)
      | none => false
  else if n ≤ 20 then
    let p := n - 13
    s.valN Obj.mac_link p == 1 && (s.lane p).locked && decide (s.effN Obj.mac_mode p ≤ 4)
  else if n ≤ 22 then
    match s.upLink n with
    | some l => (s.link l).up && (s.link l).accepted && decide (8 ≤ (s.link l).steady)
    | none => false
  else fly

/-- A PTP-in slot that stops being present loses its path-step term and its detector starts afresh (R209). -/
def State.dropPath (s : State) (n : Nat) : State :=
  if 9 ≤ n ∧ n ≤ 12 then
    let i := n - 9
    let s := { s with scr := { s.scr with paths := vmod s.scr.paths i fun _ => {} } }
    let s := s.modSlot n fun sl => { sl with held := none, pathStep := false }
    (s.setN Obj.scr_path_steps 0 i).setN Obj.scr_path_state 0 i
  else s

/-! ### Qualification (R130 to R138) -/

/-- The first two conditions of R131: a bounded source term, and a set TOD for a REF slot. -/
def State.consBase (s : State) (n : Nat) : Bool :=
  s.srcTerm n != unbounded && (decide (8 ≤ n) || s.valN Obj.tod_state == 1)

/-- The consistency test of R131 on a TIME slot that has an offset. -/
def State.consistent (s : State) (n : Nat) : Bool :=
  if s.isTime n then
    match s.xOf n with
    | some x =>
      let b := satScr (s.valN Obj.scr_value + s.srcTerm n + s.measTerm n)
      s.consBase n && (b == unbounded || decide (ps16 x ≤ b))
    | none => false
  else true

/-- The frequency test. -/
def State.testFreq (s : State) (n : Nat) : Bool :=
  decide ((s.slot n).y.natAbs * 1000000000 ≤ s.effN Obj.ref_freq_window n * 2 ^ 48)

/-- The stability test. -/
def State.testPhase (s : State) (n : Nat) : Bool := decide ((s.slot n).resid ≤ s.effN Obj.ref_phase_limit n)

/-- `crem.system_id` that an upstream slot carries (R449): octets 76-77 of its latest TIME message. -/
def State.systemOf (s : State) (n : Nat) : Option Nat :=
  match s.upLink n with
  | some l => if (s.link l).last.isEmpty then none else some (field (s.link l).last 76 2)
  | none => none

/-- Two slots lie in different independence groups: S21 and S22 of one system are one group (R137, R449). -/
def State.independent (s : State) (a b : Nat) : Bool :=
  s.effN Obj.ref_group a != s.effN Obj.ref_group b &&
    !(min a b == 21 && max a b == 22 && (s.systemOf 21).isSome && s.systemOf 21 == s.systemOf 22)

/-- Two present TIME slots agree within their own terms (R137). -/
def State.agrees (s : State) (a b : Nat) : Bool :=
  a != b && s.isTime b && s.effT Obj.ref_enable b && (s.slot b).present && s.consBase a && s.consBase b &&
    s.independent a b && s.testFreq b && s.testPhase b &&
    match s.xOf a, s.xOf b with
    | some xa, some xb =>
      decide (ps16 (xa - xb) ≤ satScr (s.srcTerm a + s.measTerm a + s.srcTerm b + s.measTerm b))
    | _, _ => false

/-- The slots. -/
def allSlots : List Nat := List.range 24

/-- A slot has something to be tested by: a TIME slot needs a measurement. -/
def State.measured (s : State) (n : Nat) : Bool := !s.isTime n || (s.xOf n).isSome

/-- The floor of R138 for a slot. -/
def State.floorOf (s : State) (n : Nat) : Nat :=
  match s.xOf n with
  | some x => satScr ((ratCeil (ps16 x)).toNat + s.srcTerm n + s.measTerm n)
  | none => unbounded

/-- SA's staged outputs changed. -/
def State.stage (s : State) (f : SaOut → SaOut) : State := { s with sel := { s.sel with staged := f s.sel.staged } }

/-- A slot that is not qualified starts `ref.qual_time` and the WTR from the beginning (R130, R132). -/
def Slot.unqualify (sl : Slot) : Slot := { sl with goodSince := none, qualified := false, wtrStart := none, eligible := false }

/-- A slot that is not present has no standing (R130, R136); ARB_DISQUALIFIED waits for the next qualification (R153). -/
def Slot.drop (sl : Slot) : Slot :=
  { sl.unqualify with
    freqOk := false, phaseOk := false, consOk := false, inconsistent := false, agreed := false, forced := false
    tested := false, failed := false }

/-- What is left of a slot that is not enabled: it is not measured, not qualified and not selected (R133), and keeps what others supply for it:
its source's term (R196), the corrections in effect (R208), the last measurement (R161) and ARB_DISQUALIFIED (R153). -/
def Slot.disable (sl : Slot) : Slot := { srcTerm := sl.srcTerm, corr := sl.corr, lastMeas := sl.lastMeas, arbDisq := sl.arbDisq }

/-- QUALIFICATION (R130): a slot that has been good for its whole `ref.qual_time` becomes qualified and its WTR starts; without
`tod.first_lock` it is eligible at once (R134). -/
def State.gainQual (s : State) (n : Nat) : State :=
  let sl := s.slot n
  if s.effT Obj.ref_enable n && sl.present && !sl.qualified && s.passedO sl.goodSince (s.effN Obj.ref_qual_time n * oneSec) then
    let s := s.modSlot n fun x => { x with qualified := true, wtrStart := some s.tc.cyc, arbDisq := false }
    let s := s.hist n 4
    if s.valT Obj.tod_first_lock then s else (s.modSlot n fun x => { x with eligible := true }).hist n 5
  else s

/-- WTR (R134): a slot qualified throughout `ref.wtr` becomes eligible. -/
def State.gainElig (s : State) (n : Nat) : State :=
  let sl := s.slot n
  if sl.qualified && !sl.eligible && s.passedO sl.wtrStart (s.effN Obj.ref_wtr n * oneSec) then
    (s.modSlot n fun x => { x with eligible := true }).hist n 5
  else s

/-- A slot loses its presence between two tick evaluations (R132, R264, R436, R522): LOS sets, and nothing of its standing is left. -/
def State.losePresence (s : State) (n : Nat) : State :=
  let was := (s.slot n).present
  let s := s.modSlot n fun x => { x.drop with present := false, good3 := 0, missed := 0, pred := none }
  if was then (s.hist n 0).dropPath n else s

/-- The tests of one slot (R130 to R137): marks, history and loss of qualification. A test's history bit sets on the tick on which a slot that
passed it, or was not tested, fails it. CONSIST_FAIL sets whenever INCONSISTENT sets, be it for less than a tick since a rescue is there, and
again when a rescue or a force ends while the slot still fails. -/
def State.testSlot (s : State) (n : Nat) : State :=
  let old := s.slot n
  if !s.effT Obj.ref_enable n then (if old.present then s.dropPath n else s).modSlot n Slot.disable
  else if !old.present then s.modSlot n Slot.drop
  else
    let has := s.measured n
    let fly := n == 23
    let f := has && s.testFreq n
    let p := fly || (has && s.testPhase n)
    let own := fly || s.consistent n
    let forced := s.effN Obj.ref_force == n
    let failing := s.isTime n && has && !own
    let rescuer := if failing then allSlots.any fun b => s.agrees n b else false
    let rescues := allSlots.any fun a =>
      a != n && s.isTime a && s.effT Obj.ref_enable a && (s.slot a).present && (s.xOf a).isSome && !s.consistent a && s.agrees a n
    let c := own || rescuer || rescues
    let marked := failing && !rescuer && !rescues && !forced
    let fails := failing && !forced
    let sets := fails && !old.inconsistent && (marked || !old.failed)
    let s := s.modSlot n fun x =>
      { x with
        freqOk := f, phaseOk := p, consOk := c, inconsistent := marked, agreed := rescuer, forced := forced, tested := has, failed := fails }
    let s := if has && !f && (old.freqOk || !old.tested) then s.hist n 1 else s
    let s := if has && !p && (old.phaseOk || !old.tested) then s.hist n 2 else s
    let s := if sets then (s.hist n 3).raise 226 { detail := n } else s
    let s := if rescuer && !old.agreed then
        (s.hist n 12).stage fun o => { o with floors := o.floors ++ [s.floorOf n] }
      else s
    if f && p && c then
      s.modSlot n fun x => { x with goodSince := some (x.goodSince.getD s.tc.cyc) }
    else s.modSlot n Slot.unqualify

/-- `ref.measure` of a slot (R161): it is written on a tick that finds a new measurement, with the flags of its stamp, and holds it from then on. -/
def State.putMeasure (s : State) (n : Nat) : State :=
  match (s.captured n).head? with
  | none => s
  | some m =>
    if (s.slot n).lastMeas.any fun o => o.cyc == m.cyc && o.tickAt == m.tickAt then s
    else
      let x := max (-(2 ^ 63)) (min (2 ^ 63 - 1) m.x)
      let s := s.modSlot n fun sl => { sl with lastMeas := some m }
      s.setB Obj.ref_measure (beBytes 16 (stamp128 m.t m.flags) ++ intBytes 8 x ++ intBytes 8 (s.slot n).y) n

/-- QUALIFY (R130): presence, fits, tests and gains of every slot; `fly` tells whether FLY_10M is present. -/
def State.qualify (s : State) (fly : Bool) : State :=
  let s := s.each allSlots fun s n =>
    if !s.effT Obj.ref_enable n then s
    else
      let now := s.presentNow n fly
      let was := (s.slot n).present
      let s := s.modSlot n fun sl => { sl with present := now }
      let s := if was && !now then (s.hist n 0).dropPath n else s
      (s.updateFit n).putMeasure n
  let s := s.each allSlots State.testSlot
  let s := s.each allSlots State.gainQual
  s.each allSlots State.gainElig

/-- QUALIFICATION_GAINED (R130). -/
def execQualificationGained (n : Fin 24) (s : State) : Host.Outcome State Fault Refusal := .next (s.gainQual n.val)

/-- WTR_EXPIRE (R134). -/
def execWtrExpire (n : Fin 24) (s : State) : Host.Outcome State Fault Refusal := .next (s.gainElig n.val)

/-! ### Arbitration (R153, R154) -/

/-- The candidates of R140: eligible TIME slots, or else eligible FREQ slots, of rank below 255. -/
def State.candidates (s : State) : List Nat :=
  let ok (n : Nat) : Bool := (s.slot n).eligible && decide (s.effN Obj.ref_rank n < 255)
  let t := allSlots.filter fun n => s.isTime n && ok n
  if t.isEmpty then allSlots.filter fun n => s.isFreq n && ok n else t

/-- The candidates of the lowest rank. -/
def State.lowest (s : State) : List Nat :=
  let e := s.candidates
  let r := e.foldl (fun a n => min a (s.effN Obj.ref_rank n)) 255
  e.filter fun n => s.effN Obj.ref_rank n == r

/-- Two slots are in disagreement (R153). -/
def State.disagree (s : State) (a b : Nat) : Bool :=
  decide (s.effN Obj.ref_arb_threshold < ((s.slot a).y - (s.slot b).y).natAbs)

/-- A slot is disqualified by arbitration (R153). -/
def State.disqualify (s : State) (n : Nat) : State :=
  (s.modSlot n fun x => { x.unqualify with arbDisq := true }).hist n 8

/-- A slot lies outside the flywheel model's band (R153). -/
def State.outOfBand (s : State) (n : Nat) (f band : Rat) : Bool :=
  decide (band < ratAbs (freqRat ((s.slot n).y + s.valI Obj.tod_freq_offset) + f))

/-- ARBITRATE (R153): one disagreeing pair is judged, or a dispute begins. -/
def State.arbitrate (s : State) (a b : Nat) : State :=
  let tau := max (s.effN Obj.ref_qual_time a) (s.effN Obj.ref_qual_time b)
  let s := { s with sel := { s.sel with arbSeen := (a, b) :: s.sel.arbSeen } }
  let usable := (s.slot 23).qualified && s.modelValidArb
  let f := s.fPred
  let band := s.band tau
  let oa := usable && s.outOfBand a f band
  let ob := usable && s.outOfBand b f band
  if oa && !ob then (s.disqualify a).setN Obj.ref_arb_state 1
  else if ob && !oa then (s.disqualify b).setN Obj.ref_arb_state 1
  else if s.sel.disputes.any fun d => d.a == a && d.b == b then s
  else
    let s := { s with sel := { s.sel with disputes := s.sel.disputes ++ [({ a := a, b := b } : Dispute)] } }
    (((s.hist a 9).hist b 9).setN Obj.ref_arb_state 2).raise 228 { detail := a }

/-- The objects that show the undecided disputes (R154): from the first arbitration on, UNDECIDED while there is one, else RESOLVED. -/
def State.publishDisputes (s : State) : State :=
  let ks := s.sel.disputes.map fun d => d.a * 256 + d.b
  let s := s.setN Obj.ref_disputed ((ks.foldl min 0xFFFF : Nat) : Int)
  if !ks.isEmpty then s.setN Obj.ref_arb_state 2
  else if s.valN Obj.ref_arb_state = 2 then s.setN Obj.ref_arb_state 1
  else s

/-- A dispute ends when the pair has stayed within half the threshold long enough, or a slot of it is not eligible (R154). -/
def State.disputeOver (s : State) (d : Dispute) : Bool :=
  !(s.slot d.a).eligible || !(s.slot d.b).eligible ||
    s.passedO d.calm (max (s.effN Obj.ref_qual_time d.a) (s.effN Obj.ref_qual_time d.b) * oneSec)

/-- The disputes that are over end (R154). -/
def State.endDisputes (s : State) : State :=
  { s with sel := { s.sel with disputes := s.sel.disputes.filter fun d => !s.disputeOver d } }

/-- Arbitration of a tick: calm times, ends, and the pairs of B that newly disagree; of a pair that is no longer of B the disagreement is over. -/
def State.arbitration (s : State) : State :=
  let calm (d : Dispute) : Dispute :=
    if 2 * ((s.slot d.a).y - (s.slot d.b).y).natAbs ≤ s.effN Obj.ref_arb_threshold then
      { d with calm := some (d.calm.getD s.tc.cyc) }
    else { d with calm := none }
  let s := { s with sel := { s.sel with disputes := s.sel.disputes.map calm } }
  let s := s.endDisputes
  let b := s.lowest
  let pairs := b.flatMap fun x => (b.filter fun y => decide (x < y)).map fun y => (x, y)
  let s := { s with sel := { s.sel with arbSeen := s.sel.arbSeen.filter fun e => b.contains e.1 && b.contains e.2 && s.disagree e.1 e.2 } }
  let s := s.each pairs fun s e =>
    if s.disagree e.1 e.2 && !s.sel.arbSeen.contains e && (s.slot e.1).eligible && (s.slot e.2).eligible
    then s.arbitrate e.1 e.2 else s
  s.endDisputes.publishDisputes

/-- A dispute of two slots ends if R154 lets it. -/
def disputeEndEff (a b : Nat) (s : State) : State :=
  let lo := min a b
  let hi := max a b
  let ends := s.sel.disputes.any fun d => d.a == lo && d.b == hi && s.disputeOver d
  if ends then
    ({ s with sel := { s.sel with disputes := s.sel.disputes.filter fun d => !(d.a == lo && d.b == hi) } } : State).publishDisputes
  else s

/-- DISPUTE_END (R154). -/
def execDisputeEnd (a b : Fin 24) (s : State) : Host.Outcome State Fault Refusal := .next (disputeEndEff a.val b.val s)

/-- The arbitration term X (R154), ps: the largest difference over the undecided pairs. -/
def State.arbTerm (s : State) : Nat :=
  s.sel.disputes.foldl (fun m d =>
    match s.xOf d.a, s.xOf d.b with
    | some xa, some xb => max m (satScr (ratCeil (ps16 (xa - xb))).toNat)
    | _, _ => m) 0

/-! ### Selection (R139 to R147) -/

/-- The slot that selection picks, none for no slot (R140). -/
def State.pick (s : State) : Option Nat :=
  let force := s.effN Obj.ref_force
  let act := s.active
  if force ≠ 0xFF ∧ (s.slot force).present ∧ s.effT Obj.ref_enable force then some force
  else
    let e := s.candidates
    let pref := s.effN Obj.ref_preferred
    if e.contains pref then some pref
    else if e.isEmpty then none
    else
      let b := s.lowest
      let rb := s.effN Obj.ref_rank (b.headD 0)
      if e.contains act && decide (s.effN Obj.ref_rank act ≤ rb) then some act
      else if e.contains act && (b.any fun n => s.inDispute n) then some act
      else b.head?

/-- SELECT (R140): a transition begins, or no slot is left; either commits at the next boundary. -/
def State.select (s : State) : State :=
  if s.refState = 1 then s
  else
    match s.pick with
    | some c => if c = s.active then s else s.stage fun o => { o with begin := some c }
    | none => if s.active = 0xFF then s else s.stage fun o => { o with unref := true }

/-- The present tick is the last of the transition's window (R143, R145). -/
def State.lastWindowTick (s : State) : Bool :=
  s.refState == 1 && decide (s.sel.transBegan + s.sel.transTicks ≤ s.tc.boundaries + 1)

/-- The policy permits a servo step (R77). -/
def State.servoStepOk (s : State) : Bool :=
  let p := s.effN Obj.tod_step_policy
  p = 2 || (p = 1 && !s.valT Obj.tod_first_lock)

/-- s_r of R149: the slew remaining at the boundary of the present tick, in picoseconds, exact. -/
def State.slewRemPs (s : State) : Rat := ((s.tc.slewShown * 1000 : Int) : Rat) / (2 ^ 56 : Nat)

/-- complete(c) of R145: the outcome is staged and commits at the boundary that ends the window. -/
def State.completeTransition (s : State) : State :=
  let c := s.valN Obj.ref_target
  let win := (s.captured c).filter fun m => decide (s.sel.transBegan ≤ m.tickAt)
  let sl := s.slot c
  let ok := sl.eligible || (s.effN Obj.ref_force == c && sl.present)
  if !ok || win.isEmpty then s.stage fun o => { o with fail := some c }
  else if s.isFreq c then s.stage fun o => { o with adopt := some c }
  else
    let d : Rat := sumOf win (fun m => (m.x : Rat)) / win.length
    let dPs : Rat := d * 1000 / 65536
    let dU : Int := ratRound (d * 2 ^ 40)
    let s : State := { s with sel := { s.sel with adoptD := ratRound d } }
    if s.valN Obj.tod_state = 0 then s.stage fun o => { o with adopt := some c, step := some dU }
    else if s.effN Obj.tod_control = 1 then
      let (s, e) := s.fitI64 (ratRound d)
      (s.setN Obj.servo_error e).stage fun o => { o with adopt := some c }
    else if s.servoStepOk && decide ((s.effN Obj.tod_step_threshold : Rat) < ratAbs dPs) then
      s.stage fun o => { o with adopt := some c, step := some dU }
    else if ratAbs dPs ≤ s.effN Obj.tod_slew_max then
      s.stage fun o => { o with adopt := some c, slewTo := some (ratRound dPs) }
    else
      let s := (s.modSlot c fun x => { x.unqualify with inconsistent := true, consOk := false }).hist c 3
      (if sl.inconsistent then s else s.raise 226 { detail := c }).stage fun o => { o with fail := some c }

/-- TRANSITION_COMPLETE (R145): in the last tick of the window the target is adopted or the switch fails. -/
def transitionCompleteEff (s : State) : State :=
  if s.lastWindowTick && s.sel.staged.adopt.isNone && s.sel.staged.fail.isNone then s.completeTransition else s

/-- TRANSITION_COMPLETE (R145). -/
def execTransitionComplete (s : State) : Host.Outcome State Fault Refusal := .next (transitionCompleteEff s)

/-! ### The servo (R148 to R151) -/

/-- The time of day of the present boundary. -/
def State.tickTod (s : State) : Tod := (s.tc.tickSec : Int) * secU + (s.tc.tickNo : Int) * tickU

/-- The increment of a fractional rate, rounded and clipped to the range of R69. -/
def incOf (rate : Rat) : Nat :=
  let v := ratRound ((1 + rate) * 2 ^ 57)
  (max 0x01FFF00000000000 (min 0x0200100000000000 v)).toNat

/-- SERVO_UPDATE (R148 to R150): one update of the loop from the active slot's unused measurements. -/
def State.servoUpdate (s : State) : State :=
  let c := s.active
  let un := (s.captured c).filter fun m => !m.used
  if !((s.refState == 2 || s.refState == 3) && s.effN Obj.tod_control == 0) || un.isEmpty then s
  else
    let dt : Rat := ratMax (1 / 8000) (((s.tickTod - s.sel.lastUpd : Int) : Rat) / (secU : Rat))
    let w0 : Rat := 2 * piRat * (s.effN Obj.servo_bw : Rat) / 10000
    let zeta : Rat := (s.effN Obj.servo_damping : Rat) / 1000
    let w := if 1 / 2 < w0 * dt then 1 / 2 / dt else w0
    let s := s.modSlot c fun sl =>
      { sl with meas := sl.meas.map fun m => if m.tickAt < s.tc.boundaries then { m with used := true } else m }
    let s := { s with sel := { s.sel with lastUpd := s.tickTod } }
    let finish (s : State) (e16 : Int) : State :=
      let (s, e16) := s.fitI64 e16
      let s := s.stage fun o => { o with inc := some (incOf s.sel.fInt) }
      let s := (s.setN Obj.servo_error e16).setN Obj.servo_freq (ratFreq s.sel.fInt)
      s.setN Obj.servo_updates ((s.valN Obj.servo_updates + 1) % 2 ^ 32)
    if s.isTime c then
      let x : Rat := sumOf un (fun m => (m.x : Rat)) / un.length
      let xPs := x * 1000 / 65536
      if s.servoStepOk && decide ((s.effN Obj.tod_step_threshold : Rat) < ratAbs xPs) then
        s.stage fun o => { o with step := some (ratRound (x * 2 ^ 40)), restart := true }
      else
        let ePs := xPs - s.slewRemPs
        let f := s.sel.fInt + w * w * dt * (ePs / 1000000000000)
        let s := { s with sel := { s.sel with fInt := f } }
        let amount := ratMin 1 (2 * zeta * w * dt) * ePs
        let s := s.stage fun o => { o with slew := some (ratRound amount) }
        finish s (ratRound (ePs * 65536 / 1000))
    else
      let ys : Rat := sumOf un (fun m => freqRat (m.y.getD (s.slot c).y)) / un.length
      let f := s.sel.fInt + ratMin 1 (w * dt) * ys
      finish { s with sel := { s.sel with fInt := f } } 0

/-! ### Scruple terms of SA (R194, R198) -/

/-- SA's terms for the next boundary (R194): those of the active TIME slot while LOCKED, or of the slot that the next boundary
adopts. An offset is taken on the timescale of that boundary, after the step that commits with it. -/
def State.saTerms (s : State) : ScrTerms :=
  let x := s.arbTerm
  let c? : Option Nat := match s.sel.staged.adopt with
    | some c => if s.isTime c then some c else none
    | none => if s.lockedTime then some s.active else none
  match c? with
  | none => { x := x }
  | some c =>
    let e := match (s.captured c).head? with
      | some m =>
        let t : Rat := ((s.tc.nextGrid - m.t : Int) : Rat) / (secU : Rat)
        let off := m.x - roundDiv (s.sel.staged.step.getD 0) (2 ^ 40)
        satScr (ratCeil (ps16 off + ratAbs (freqRat (s.slot c).y) * ratMax 0 t * 1000000000000)).toNat
      | none => s.scr.live.e
    { t := s.srcTerm c, m := s.measTerm c, a := s.asymPart c, e := e, x := x }

/-! ### Commits of SA's outputs -/

/-- A target is adopted at the boundary (R145, R151). -/
def State.adopt (s : State) (c : Nat) (now : Tod) : State :=
  let old := s.active
  let time := s.isTime c
  let s := (s.setN Obj.ref_active c).setN Obj.ref_target 0xFF
  let s := s.setN Obj.ref_state (if time then 2 else 3)
  let s := s.setN Obj.ref_switches ((s.valN Obj.ref_switches + 1) % 2 ^ 32)
  let s := if old ≠ c then s.hist c 6 else s
  let s := if old ≠ c ∧ old < 24 then s.hist old 7 else s
  let s := if (s.slot c).qualified then s.setT Obj.tod_first_lock true else s
  let s := s.modSlot c fun sl => { sl with meas := sl.meas.map fun m => { m with used := true } }
  let f : Rat := ((s.tc.outRegs.inc : Int) : Rat) / 2 ^ 57 - 1
  let s := { s with sel := { s.sel with fInt := f, lastUpd := now, lastActive := some c } }
  if time then
    { s with
      sel := { s.sel with lastTime := some c }
      hold := { s.hold with adopted := true, adoptCyc := s.tc.cyc, closed := 0, hits := 0, seg := none }
      scr := { s.scr with adoptedNow := true, floors := s.scr.floors.map fun f => { f with adopted := true } } }
  else s

/-- A transition fails at the boundary (R145). -/
def State.failSwitch (s : State) (c : Nat) : State :=
  let old := s.active
  let s := s.setN Obj.ref_failed_switches ((s.valN Obj.ref_failed_switches + 1) % 2 ^ 32)
  let s := (s.hist c 10).raise 227 { detail := c }
  let s := if old < 24 then s.hist old 7 else s
  ((s.setN Obj.ref_active 0xFF).setN Obj.ref_target 0xFF).setN Obj.ref_state 0

/-- A transition begins at the boundary (R143, R147): a usable active slot keeps its name until completion. -/
def State.beginTransition (s : State) (c : Nat) : State :=
  let old := s.active
  let usable := old < 24 && (s.slot old).eligible
  let s := if usable then s
    else
      let s := if old < 24 then s.hist old 7 else s
      s.setN Obj.ref_active 0xFF
  let s := (s.setN Obj.ref_target c).setN Obj.ref_state 1
  { s with sel := { s.sel with
    transBegan := s.tc.boundaries, transTicks := s.effN Obj.ref_transition * 8 } }

/-- Selection goes to no slot at the boundary. -/
def State.goUnref (s : State) : State :=
  let old := s.active
  let s := if old < 24 then s.hist old 7 else s
  (s.setN Obj.ref_active 0xFF).setN Obj.ref_state 0

/-- A committed force (R138, R141): the floor of its slot is due in the tick that follows. -/
def State.commitForce (s : State) : State :=
  let n := s.effN Obj.ref_force
  if n < 24 then
    let s := s.hist n 13
    { s with sel := { s.sel with forcedFloor := true } }
  else s

/-- What a step does to the slots (R125, R128): offsets and predicted instants move onto the stepped timescale. -/
def State.stepSlots (s : State) (j : Int) : State :=
  let j16 := roundDiv j (2 ^ 40)
  let moved (n : Nat) (x : Int) : Int := if s.cyclic n then ratRound (modPeriod ((x - j16 : Int) : Rat) (s.slotPeriod n)) else x - j16
  let one (n : Nat) (m : Meas) : Meas := { m with x := moved n m.x, t := m.t + j }
  let s := s.each allSlots fun s n => s.modSlot n fun sl =>
    { sl with meas := sl.meas.map (one n), pred := sl.pred.map (· + j), held := sl.held.map (· - j16) }
  { s with
    sel := { s.sel with lastUpd := s.sel.lastUpd + j }
    stew := { s.stew with sa := { s.stew.sa with lastUpd := s.stew.sa.lastUpd + j } }
    hold := { s.hold with
      prevMeas := s.hold.prevMeas.map fun e => (e.1, one e.1 e.2)
      curMeas := s.hold.curMeas.map fun e => (e.1, one e.1 e.2)
      stepInSec := true }
    scr := { s.scr with paths := s.scr.paths.map fun d => { d with lastNormal := d.lastNormal - j16 } } }

end Sys2Proof.Machine
end

