-- ==== Sys2Proof/Machine/Holdover.lean ====
section
/-! DEFINITION. Flywheel, holdover and free run (05_holdover.md): learning, the holdover states and increment, the growth term, the
service code, timebase moves and re-centring. -/
namespace Sys2Proof.Machine

/-! ### Learning (R165, R166) -/

/-- Learning is allowed (R165). -/
def State.learning (s : State) : Bool :=
  let h := s.valN Obj.hold_state
  (h == 1 || h == 2) && s.effN Obj.tod_control == 0 && !(s.slot s.active).pathStep && s.valN Obj.ref_arb_state != 2 &&
    (!s.hold.timebaseFly || (s.slot 23).qualified)

/-- The mean fractional frequency offset of the base increments over `c` cycles that added `d` in all. -/
def meanFreq (d : Int) (c : Nat) : Rat := (d : Rat) / ((c : Rat) * (2 ^ 57 : Nat)) - 1

/-- The frequency sample f1 of the second that has ended (R166), if it gives one. -/
def State.secondSample (s : State) : Option Rat :=
  let c := s.active
  let of (l : List (Nat × Meas)) : Option Meas := (l.find? fun e => e.1 == c).map Prod.snd
  if s.hold.stepLast then none
  else if s.isTime c then
    match of s.hold.prevMeas, of s.hold.curMeas with
    | some m1, some m2 =>
      if m2.t ≤ m1.t ∨ m2.cyc ≤ m1.cyc then none
      else
        let dx : Rat := ((m2.x - m1.x : Int) : Rat) / 65536 + ((m2.slew - m1.slew : Int) : Rat) / (2 ^ 56 : Nat)
        let dt : Rat := ((m2.t - m1.t : Int) : Rat) / (2 ^ 56 : Nat)
        some (-(meanFreq (m2.inc - m1.inc) (m2.cyc - m1.cyc) + dx / dt))
    | _, _ => none
  else
    match s.hold.prevSec, s.hold.curSec with
    | some (c1, i1, w1), some (c2, i2, w2) =>
      let ys := ((s.captured c).filter fun m => decide (c1 < m.cyc) && decide (m.cyc ≤ c2)).filterMap fun m => m.y
      if ys.isEmpty ∨ c2 ≤ c1 then none
      else
        let moved : Rat := ((w2 - w1 : Int) : Rat) / (((c2 - c1) * 2 ^ 57 : Nat) : Rat)
        some (-(meanFreq (i2 - i1) (c2 - c1) + sumOf ys freqRat / ys.length + moved))
    | _, _ => none

/-- The temperature of the last second (R163); 0 while it counts as constant. -/
def State.modelTemp (s : State) : Rat := if s.effN Obj.fly_temp_source = 0 then 0 else s.hold.temp.getD 0

/-- MODEL_SAMPLE (R166): at tick 0 the sample of the second before joins the minute accumulator. -/
def modelSampleEff (s : State) : State :=
  if s.tc.tickNo = 0 && s.hold.accS != s.tc.tickSec && s.learning then
    match s.secondSample with
    | some f =>
      { s with hold := { s.hold with accF := f :: s.hold.accF, accT := s.modelTemp :: s.hold.accT, accS := s.tc.tickSec } }
    | none => s
  else s

/-- MODEL_SAMPLE (R166). -/
def execModelSample (s : State) : Host.Outcome State Fault Refusal := .next (modelSampleEff s)

/-- The minute accumulator closes into W (R166). -/
def State.closeMinute (s : State) : State :=
  let h := s.hold
  let m := s.model
  let n : Rat := h.accF.length
  let w := if h.accF.isEmpty then m.w
    else { s := h.accS, f := sumOf h.accF id / n, temp := sumOf h.accT id / n, after := true } :: m.w
  let w := w.filter fun e => decide (s.tc.tickSec ≤ e.s + s.effN Obj.hold_learn_window)
  ({ s with hold := { h with accF := [], accT := [] } } : State).setModel { m with w := w }

/-- MODEL_FIT (R166): at a minute the accumulator closes, and while learning is allowed the model is fitted. -/
def modelFitEff (s : State) : State :=
  if s.tc.tickNo = 0 && s.tc.tickSec % 60 == 0 then
    let s := s.closeMinute
    if s.learning then
      let (m, bad) := refit s.model s.oscPar (s.effN Obj.fly_temp_source == 0) (s.effN Obj.hold_learn_min)
      let s := s.setModel m
      if bad then s.raise 230 else s
    else s
  else s

/-- MODEL_FIT (R166). -/
def execModelFit (s : State) : Host.Outcome State Fault Refusal := .next (modelFitEff s)

/-- The timebase model is reset: state NONE and W empty (R169). -/
def State.resetModel (s : State) : State := s.setModel { s.model with state := 0, w := [] }

/-! ### Holdover increment (R172 to R176) -/

/-- A coasting state: BRIDGE, HOLDOVER or FREE_RUN. -/
def coasting (h : Nat) : Bool := h == 0 || h == 3 || h == 4

/-- f_avg over the last `hold.avg_time` (R172), while a reference has steered the present timebase throughout. -/
def State.avgFreq (s : State) : Option Rat :=
  let ns := s.effN Obj.hold_avg_time * oneSec
  if s.passedO s.hold.steerFrom ns then
    let c0 := s.tc.cyc - ns / 2
    let total : Int := match s.hold.incLog.find? fun e => decide (e.1 ≤ c0) with
      | some e => e.2.1 + (e.2.2 : Int) * ((c0 - e.1 : Nat) : Int)
      | none => s.tc.incTotal - (s.tc.outRegs.inc : Int) * ((s.tc.cyc - c0 : Nat) : Int)
    some (-(meanFreq (s.tc.incTotal - total) (s.tc.cyc - c0)))
  else none

/-- The increment of a timebase whose fractional frequency offset is f: 2.0 ns ÷ (1 + f), clipped to the range of R69 (R172). -/
def holdInc (f : Rat) : Nat :=
  let v := ratRound ((2 ^ 57 : Nat) / (1 + f))
  (max 0x01FFF00000000000 (min 0x0200100000000000 v)).toNat

/-- f of R172. -/
def State.holdF (s : State) : Rat := if s.model.state = 2 then s.fPred else s.hold.favg.getD 0

/-! ### Growth term (R179 to R183) -/

/-- Elapsed seconds since a coarse count, exact. -/
def State.age (s : State) (c : Nat) : Rat := (s.nsSince c : Rat) / 1000000000

/-- The value of a segment of age τ, ps (R179); 3·τ·σ_y(τ) is 3·√(a₁²·τ + b²·τ²). -/
def Segment.exact (g : Segment) (tau : Rat) : Rat :=
  if g.regime = 3 then g.u * tau * 1000000000000 + g.p
  else
    let noise := 3 * ratSqrt (g.a1 * g.a1 * tau + g.b * g.b * tau * tau)
    (g.u * tau + g.d * tau * tau / 2 + g.k * g.theta + noise) * 1000000000000

/-- The value of a segment in whole ps, rounded up (R194). -/
def Segment.value (g : Segment) (tau : Rat) : Nat := satScr (ratCeil (g.exact tau)).toNat

/-- The growth term H at an elapsed count, ps (R179, R183). -/
def State.growth (s : State) : Nat :=
  if !s.hold.adopted then unbounded
  else
    let seg := match s.hold.seg with
      | some g => g.value (s.age g.start)
      | none => 0
    satScr (s.hold.closed + s.hold.hits + seg)

/-- The open segment closes at a coarse count (R179). -/
def State.closeSeg (s : State) (at' : Nat) : State :=
  match s.hold.seg with
  | none => s
  | some g =>
    let tau : Rat := ((2 * (at' - g.start) : Nat) : Rat) / 1000000000
    { s with hold := { s.hold with closed := satScr (s.hold.closed + g.value tau), seg := none } }

/-- A segment of a regime opens at a coarse count (R179, R180); `back` on a restored flywheel. -/
def State.openSeg (s : State) (regime at' : Nat) (back : Bool) (p : OscPar) : State :=
  let m := s.model
  let extra := if back then p.retrace else 0
  let g : Segment :=
    if regime = 2 then
      { regime := 2, start := at', u := m.ufAll + m.ud * ratMax 0 (s.nowS - m.se) + extra, d := m.ud, k := m.uk,
        a1 := p.a1, b := p.b, t0 := some m.t0 }
    else if regime = 3 then
      { regime := 3, start := at', u := freqRat (s.effI Obj.hold_freq_slot_tol), p := (s.slot s.active).resid }
    else { regime := 1, start := at', u := p.u0 + extra, d := p.dMax, k := p.kMax, a1 := p.a1, b := p.b }
  { s with hold := { s.hold with seg := some g } }

/-- The 1 s temperature sample at tick 0: the integral of R179 grows, and a segment without T₀ takes it. -/
def State.sampleTheta (s : State) : State :=
  match s.hold.seg with
  | none => s
  | some g =>
    if s.effN Obj.fly_temp_source = 0 then s
    else
      match s.hold.temp, g.t0 with
      | some t, some t0 =>
        let g := { g with theta := g.theta + ratAbs (t - t0) * ratMin 1 (s.age g.start) }
        { s with hold := { s.hold with seg := some g } }
      | some t, none => { s with hold := { s.hold with seg := some { g with t0 := some t } } }
      | none, _ => s

/-- The flywheel has been lost and the move to the XO has not committed (R174). -/
def State.flyLost (s : State) : Bool := s.hold.timebaseFly && (vat s.dplls 0 {}).held

/-- HOLDOVER_RATE_UPDATE (R172): in the tick of entry and at tick 0 of every second SA stages the holdover increment, but not beside the increment
that goes with a move of the timebase (R174, R175). -/
def holdoverRateEff (s : State) : State :=
  if coasting (s.valN Obj.hold_state) && s.effN Obj.tod_control == 0 && (s.hold.entry || s.tc.tickNo == 0) && !s.flyLost &&
      !s.sel.staged.toXo && !s.sel.staged.toFly then
    s.stage fun o => { o with inc := some (holdInc s.holdF) }
  else s

/-- HOLDOVER_RATE_UPDATE (R172). -/
def execHoldoverRateUpdate (s : State) : Host.Outcome State Fault Refusal := .next (holdoverRateEff s)

/-- The regime that the open segment has to have, none for no segment (R179), with SA halted an UNMODELLED one (R199). -/
def State.wantRegime (s : State) (h : Nat) : Option Nat :=
  if !s.hold.adopted || s.stew.halted.contains 1 then some 1
  else if h = 1 then none
  else if h = 2 then some 3
  else if (h = 3 || h = 4) && s.effN Obj.tod_control == 0 && s.model.state == 2 && !s.hold.useAvg && !s.flyLost then some 2
  else some 1

/-- `hold.state` of R170. -/
def State.holdNow (s : State) : Nat :=
  let r := s.refState
  if r = 2 then 1 else if r = 3 then 2 else if r = 1 then 3 else if s.model.state = 2 then 4 else 0

/-- The holdover states, entry and segments of a boundary (R170, R171, R173, R179); `back` when a flywheel move commits. The open segment closes and
one opens where the regime changes, where the flywheel is restored while the time of day coasts, and where SA is halted (R199). -/
def State.updateHold (s : State) (back : Bool) : State :=
  let old := s.valN Obj.hold_state
  let entering := !coasting old && coasting s.holdNow
  let favg := if entering then s.avgFreq else s.hold.favg
  let far := match favg with
    | some f => s.model.state == 2 && decide (s.band s.bandTau < ratAbs (f - s.fPred))
    | none => false
  let s := if entering && far then (s.setModel { s.model with state := 1 }).raise 230 else s
  let new := s.holdNow
  let manual := s.effN Obj.tod_control != 0
  let s := { s with hold := { s.hold with
    entry := (entering || (coasting new && new != old)) && !manual
    favg := if coasting new then favg else none
    useAvg := coasting new && ((entering && far) || s.hold.useAvg)
    fromLocked := new == 3 && (if old == 3 then s.hold.fromLocked else old == 1)
    steerFrom := if coasting new || manual then none else some (s.hold.steerFrom.getD s.tc.cyc) } }
  let s := s.setN Obj.hold_state new
  let want := s.wantRegime new
  let have' := s.hold.seg.map Segment.regime
  let halted := s.stew.halted.contains 1
  let anew := (back && coasting new) || (halted && !s.hold.saHalted)
  let s := { s with hold := { s.hold with saHalted := halted } }
  let s := if want = have' && !anew then s
    else
      let s := s.closeSeg s.tc.cyc
      match want with
      | none => s
      | some r => s.openSeg r s.tc.cyc back (if s.flyLost then s.xoPar else s.oscPar)
  let s := s.setN Obj.hold_regime ((s.hold.seg.elim 0 Segment.regime : Nat) : Int)
  let s := s.setN Obj.hold_growth s.growth
  if s.hold.adopted then s.setN Obj.hold_age ((s.nsSince s.hold.adoptCyc / oneSec % 2 ^ 32 : Nat) : Int) else s

/-- What tick 0 of a second brings to the model: the temperature mean and the measurements of R166. -/
def State.secondHold (s : State) : State :=
  let ts := s.hold.temps
  let mean : Option Rat := if ts.isEmpty then s.hold.temp else some (sumOf ts (fun t => (t : Rat)) / ts.length / 100)
  let cur := allSlots.filterMap fun n => ((s.captured n).head?).map fun m => (n, m)
  let s := { s with hold := { s.hold with
    temps := [], temp := mean, prevMeas := s.hold.curMeas, curMeas := cur, prevSec := s.hold.curSec
    curSec := some (s.tc.tickCyc, s.tc.tickInc, s.tc.tickSlew), stepLast := s.hold.stepInSec, stepInSec := false } }
  s.sampleTheta

/-! ### Service (R184, R185) -/

/-- The code that the conditions of R184 give for a core scruple. -/
def State.serviceCode (s : State) (core : Nat) : Nat :=
  let h := s.valN Obj.hold_state
  if s.valN Obj.tod_state = 0 || decide (s.effN Obj.hold_thr_unsync < core) then 3
  else if s.effN Obj.hold_thr_spec < core then 2
  else if h = 1 || (h == 3 && s.hold.fromLocked) then 0
  else 1

/-- `hold.service` at a scruple update (R185): the highest code given within the last `hold.thr_dwell` seconds. -/
def State.updateService (s : State) (core : Nat) : State :=
  let c := s.serviceCode core
  let l := (c, s.tc.cyc) :: s.hold.codes.filter fun e => e.1 != c
  let s := { s with hold := { s.hold with codes := l } }
  let within := l.filter fun e => !s.passed e.2 (s.effN Obj.hold_thr_dwell * oneSec + 1)
  s.setN Obj.hold_service ((within.foldl (fun m e => max m e.1) 0 : Nat) : Int)

/-! ### Timebase moves (R174, R175) -/

/-- FLYWHEEL_LOSS (R174, R182): S23 is present no longer, DPLL-T holds its DCO and reads HOLD (R228), and the growth segment changes at the last boundary
at which S23 was present. SA stages the move in the tick that detects the loss. -/
def flywheelLossEff (s : State) : State :=
  if s.hold.timebaseFly && s.hold.typeAtStart != 0 && !s.flyLost then
    let s := s.losePresence 23
    let s := (s.freeze 0).modDpll 0 fun d => { d with held := true }
    match s.hold.seg with
    | some g => if g.regime = 3 then s else (s.closeSeg s.tc.tickCyc).openSeg 1 s.tc.tickCyc false s.xoPar
    | none => s
  else s

/-- FLYWHEEL_LOSS (R174). -/
def execFlywheelLoss (s : State) : Host.Outcome State Fault Refusal := .next (flywheelLossEff s)

/-- SA detects the loss: the move to XO_IN is staged, and under SERVO the nominal increment with it (R174). -/
def State.stageLoss (s : State) : State :=
  if s.flyLost && !s.sel.staged.toXo then
    let manual := s.effN Obj.tod_control != 0
    s.stage fun o => { o with toXo := true, inc := if manual then o.inc else some 0x0200000000000000 }
  else s

/-- FLYWHEEL_RESTORE (R175): the move back to FLY_10M is staged, and while coasting the increment of R172 with it. -/
def flywheelRestoreEff (s : State) : State :=
  if !s.hold.timebaseFly && s.hold.typeAtStart != 0 && (s.slot 23).qualified && !s.sel.staged.toFly &&
      s.passedO s.hold.flyQualSince (s.effN Obj.hold_fly_restore * oneSec) then
    let fly : State := { s with hold := { s.hold with timebaseFly := true, favg := none } }
    let inc := if coasting (s.valN Obj.hold_state) && s.effN Obj.tod_control == 0 then some (holdInc fly.holdF) else none
    s.stage fun o => { o with toFly := true, inc := inc.or o.inc }
  else s

/-- FLYWHEEL_RESTORE (R175). -/
def execFlywheelRestore (s : State) : Host.Outcome State Fault Refusal := .next (flywheelRestoreEff s)

/-- The time since which S23 has been qualified (R175). -/
def State.trackFly (s : State) : State :=
  { s with hold := { s.hold with
    flyQualSince := if (s.slot 23).qualified then some (s.hold.flyQualSince.getD s.tc.cyc) else none } }

/-- A timebase move commits (R174, R175): DPLL-T takes its reference with phase build-out. From HOLD it acquires (R226, R228); a move that meets it
locked leaves its state (log entry 63). -/
def State.commitMove (s : State) (fly : Bool) : State :=
  let s := s.modDpll 0 fun d => { d with held := false }
  let s := if s.dpllState 0 = 3 then (s.thaw 0).acquire 0 else s
  let s := { s with
    hold := { s.hold with
      timebaseFly := fly, xo := {}, steerFrom := none, favg := none, useAvg := false, flyQualSince := none, accF := [], accT := [] } }
  s.setN Obj.hold_timebase (if fly then 1 else 0)

/-! ### Phase hits (R164) -/

/-- FLY_PPS_EDGE (R164): an edge `fine` ps after the present tclk edge; an interval error beyond the limit is a phase hit. -/
def flyPpsEdgeEff (fine : Nat) (s : State) : State :=
  if s.effT Obj.fly_pps_enable && s.hold.timebaseFly then
    let now := 2000 * s.tc.cyc + fine
    let last := s.hold.ppsLast
    let s := { s with hold := { s.hold with ppsLast := some now } }
    match last with
    | none => s
    | some l =>
      let e := ((now : Int) - l - 1000000000000).natAbs
      if s.effN Obj.fly_pps_tol < e then
        let s := s.raise 229
        if s.valN Obj.hold_state = 1 then s else { s with hold := { s.hold with hits := satScr (s.hold.hits + e) } }
      else s
  else { s with hold := { s.hold with ppsLast := none } }

/-- FLY_PPS_EDGE (R164). -/
def execFlyPpsEdge (fine : Nat) (s : State) : Host.Outcome State Fault Refusal := .next (flyPpsEdgeEff fine s)

/-! ### Re-centring (R186 to R190) -/

/-- The conditions of R186 at tick 0. -/
def State.recentreDue (s : State) : Bool :=
  s.tc.tickNo == 0 && s.effN Obj.fly_recentre_mode != 0 && s.hold.timebaseFly && s.valN Obj.hold_state == 1 &&
    s.model.state == 2 && s.learning &&
    (decide (freqRat (s.effI Obj.fly_recentre_threshold) < ratAbs s.fPred) || s.valN Obj.fly_recentre_now == 1) &&
    decide (ofTime128 (s.valN Obj.fly_recentre_last) + s.effN Obj.fly_recentre_interval * 86400 * secU ≤ s.tickTod)

/-- The command of R189: each octet 0x25 is replaced by the count. -/
def uartCommand (t : Bytes) (count : Int) : Bytes := t.flatMap fun b => if b = 0x25#8 then decimal count else [b]

/-- Δf in whole units, or a free number where the unit is zero. -/
def State.inUnits (s : State) (df unit : Rat) : State × Int :=
  if unit = 0 then s.open else (s, ratRound (df / unit))

/-- The frame of R188 for a code. -/
def State.dacFrameOf (s : State) (code : Nat) : Nat :=
  s.effN Obj.fly_dac_cmd * 2 ^ 24 + code * 2 ^ (24 - s.effN Obj.fly_dac_bits) % 2 ^ 24

/-- A re-centring that is done moves W and f₀ and adds to u_f (R190). -/
def State.shiftModel (s : State) (df : Rat) : State :=
  let m := s.model
  s.setModel { m with
    w := m.w.map fun e => { e with f := e.f + df, after := false }
    f0 := m.f0 + df
    extraUf := m.extraUf + ratAbs df * s.effN Obj.fly_recentre_tol / 100 }

/-- A DAC code after a move by `c` codes; a code that the converter does not have is free (log entry 6). -/
def State.dacCode (s : State) (c : Int) : State × Nat :=
  let v := (s.valN Obj.fly_dac_code : Int) + c
  let top : Int := 2 ^ s.effN Obj.fly_dac_bits
  if 0 ≤ v ∧ v < top then (s, v.toNat)
  else
    let (s, f) := s.open
    (s, (f % top).toNat)

/-- FLY_RECENTRE (R187 to R190): a re-centring by DAC frame or UART command, or its refusal. -/
def flyRecentreEff (s : State) : State :=
  if !s.recentreDue then s
  else
    let dac := s.effN Obj.fly_recentre_mode == 2
    let lim := freqRat (s.effI Obj.fly_recentre_step_max)
    let want := ratMax (-lim) (ratMin lim (-s.fPred))
    let gain := freqRat (s.effI Obj.fly_dac_gain)
    let (s, c) := if dac then s.inUnits want gain else (s, 0)
    let df := if dac then (c : Rat) * gain else want
    let used := freqRat (s.valI Obj.fly_recentre_used) + df
    if freqRat (s.effI Obj.fly_recentre_range) < ratAbs used then
      ((s.setN Obj.fly_recentre_now 3).raise 231).resetModel
    else
      let s := s.setN Obj.fly_recentre_used (ratFreq used)
      let s := (s.setN Obj.fly_recentre_now 2).setN Obj.fly_recentre_last (time128 s.tickTod)
      let s := s.shiftModel df
      if dac then
        let (s, code) := s.dacCode c
        let f := s.sel.fInt - df
        let s : State := { s with sel := { s.sel with fInt := f } }
        s.stage fun o => { o with inc := some (incOf f), dac := some (s.dacFrameOf code) }
      else
        let (s, n) := s.inUnits df (freqRat (s.effI Obj.fly_uart_unit))
        let cmd := uartCommand (s.effB Obj.fly_uart_cmd) n
        let s : State := { s with hold := { s.hold with uartSent := cmd, uartAt := some s.tc.cyc } }
        s.setB Obj.fly_uart_reply []

/-- FLY_RECENTRE (R187). -/
def execFlyRecentre (s : State) : Host.Outcome State Fault Refusal := .next (flyRecentreEff s)

/-- The DAC frame begins at the boundary at which SA's feed-forward increment commits (R188): `fly.dac_code` reads the code sent. -/
def State.beginDac (s : State) (f : Nat) : State :=
  let s := { s with hold := { s.hold with dacFrame := some f, recentreAt := some s.tc.boundaries } }
  s.setN Obj.fly_dac_code ((f % 2 ^ 24 / 2 ^ (24 - s.effN Obj.fly_dac_bits) : Nat) : Int)

/-- FLY_UART_REPLY (R189): the first 32 octets received within 1 s of the command are kept. -/
def flyUartReplyEff (b : Bytes) (s : State) : State :=
  match s.hold.uartAt with
  | some c => if s.passed c (oneSec + 1) then s else s.setB Obj.fly_uart_reply ((s.val Obj.fly_uart_reply).bytes ++ b |>.take 32)
  | none => s

/-- FLY_UART_REPLY (R189). -/
def execFlyUartReply (b : Bytes) (s : State) : Host.Outcome State Fault Refusal := .next (flyUartReplyEff b s)

end Sys2Proof.Machine
end

