-- ==== Sys2Proof/Machine/Scruple.lean ====
section
/-! DEFINITION. The scruple unit (06_scruple.md): the update of R201, what ports serve (R210), the path-delay detector and its guard. -/
namespace Sys2Proof.Machine

/-! ### The update (R198 to R205) -/

/-- Q (R198), ps: u₀ times the time since SA's terms last committed. -/
def State.inputAge (s : State) : Nat :=
  if s.scr.fresh then 0 else satScr (ratCeil (s.oscPar.u0 * s.age s.scr.termsAt * 1000000000000)).toNat

/-- The condition of R203 on the path of the active slot. -/
def State.pathNormal (s : State) : Bool :=
  let c := s.active
  !(decide (9 ≤ c) && decide (c ≤ 12)) || s.valN Obj.scr_path_state (c - 9) == 0

/-- settled(k) of R203. -/
def State.settled (s : State) : Bool :=
  s.lockedTime && s.effN Obj.tod_control == 0 && s.passedO s.scr.settleStart (s.effN Obj.ref_settle s.active * oneSec) && s.pathNormal

/-- The largest live floor (R216), ps. -/
def State.topFloor (s : State) : Nat := s.scr.floors.foldl (fun m f => max m f.f) 0

/-- The tail of R201: at a settled update S falls to R, the floors set before settle_start are released, and J clears. -/
def State.settleTail (s : State) : State :=
  let s := s.setN Obj.scr_value (s.valI Obj.scr_raw)
  let st := s.scr.settleStart.getD 0
  let s := { s with scr := { s.scr with floors := s.scr.floors.filter fun f => decide (st ≤ f.start) } }
  (s.setN Obj.scr_floor s.topFloor).setN Obj.scr_manual 0

/-- The cause code of a rise or restart (R216). -/
def State.riseCause (s : State) (unset split floored : Bool) (q : Nat) : Nat :=
  if unset then 6 else if split then 5 else if s.scr.cause ≠ 0 then s.scr.cause
  else if 0 < q then (if s.stew.halted.contains 1 then 8 else 9)
  else if floored then 2 else 1

/-- The growth g over the next 250 µs (R210), ps. -/
def State.growNext (s : State) : Nat :=
  let seg : Rat := match s.hold.seg with
    | some g => let t := s.age g.start; g.exact (t + 1 / 4000) - g.exact t
    | none => 0
  let y : Rat := if s.lockedTime then ratAbs (freqRat (s.slot s.active).y) * 250000000 else 0
  (ratCeil (seg + y)).toNat

/-- S_p of a port (R193, R210), ps. -/
def State.portScr (s : State) (p : Nat) : Nat := s.valN Obj.scr_port p

/-- Seconds, rounded up, until settled (R216). -/
def State.settleLeft (s : State) : Nat :=
  match s.lockedTime, s.scr.settleStart with
  | true, some c => ceilDiv (s.effN Obj.ref_settle s.active * oneSec - s.nsSince c) oneSec
  | _, _ => 0xFFFFFFFF

/-- The live floors at an update (R205): one set before any later TIME adoption grows with H. -/
def State.growFloors (s : State) (h : Nat) : List Floor :=
  let d := if s.scr.lastH = unbounded ∨ h = unbounded then 0 else h - s.scr.lastH
  s.scr.floors.map fun f => if f.adopted then f else { f with f := satScr (f.f + d) }

/-- Every term, R, S and S_p are published (R201, R216). -/
def State.publishScr (s : State) (t : ScrTerms) (h j q : Nat) : State :=
  let s := (((s.setN Obj.scr_source t.t).setN Obj.scr_measure t.m).setN Obj.scr_asym t.a).setN Obj.scr_servo t.e
  let s := ((s.setN Obj.scr_growth h).setN Obj.scr_arb t.x).setN Obj.scr_manual j
  let s := s.setN Obj.scr_input_age q
  s.setN Obj.scr_floor s.topFloor

/-- S_p of every port (R193, R210): S, the port's accuracy and declared term, and g of this update. -/
def State.publishPorts (s : State) : State :=
  let core := s.valN Obj.scr_value
  s.each (List.range 9) fun s p =>
    s.setN Obj.scr_port (satScr (core + s.valN Obj.stamp_accuracy p + s.effN Obj.scr_dist_extra p + s.scr.g)) p

/-- The scruple update of action 4 at a boundary (R201). -/
def State.updateScruple (s : State) : State :=
  let unset := s.valN Obj.tod_state == 0
  let split := s.tc.splitSince
  let locked := s.lockedTime
  let h := s.growth
  let q := s.inputAge
  let live := { s.scr.live with x := s.scr.live.x }
  let t := if locked then live else { s.scr.frozen with x := live.x }
  let j := satScr (s.valN Obj.scr_manual + s.scr.jAdd)
  let floors := s.growFloors h
  let sum := satScr (t.t + t.m + t.e + h + t.x + j + q + s.effN Obj.scr_margin)
  let r0 := floors.foldl (fun m f => max m f.f) sum
  let floored := decide (sum < r0)
  let r := if unset || split then unbounded else r0
  let restart := unset || split || s.scr.restart || decide (0 < s.scr.jAdd) || decide (0 < q)
  let start := if locked then (if s.scr.adoptedNow || restart then some s.tc.cyc else some (s.scr.settleStart.getD s.tc.cyc)) else none
  let old := s.valN Obj.scr_value
  let s := { s with scr := { s.scr with
    floors := floors, frozen := if locked then t else s.scr.frozen, settleStart := start, lastH := h } }
  let s := s.publishScr t h j q
  let s := s.setN Obj.scr_raw r
  let s := if decide (old < r) || restart then s.setN Obj.scr_rise_cause (s.riseCause unset split floored q) else s
  let s := s.setT Obj.scr_settled s.settled
  let s := if old ≤ r then s.setN Obj.scr_value r else s
  let falls := s.settled && !restart
  let s := if falls then s.settleTail else s
  let s := s.setN Obj.scr_settle_left s.settleLeft
  let s := { s with
    scr := { s.scr with
      jAdd := 0, restart := false, adoptedNow := false, cause := 0, fresh := false, g := s.growNext, fell := falls }
    tc := { s.tc with splitSince := false } }
  s.publishPorts

/-- SA's terms commit at a boundary (R198), with the floors handed over (R138). -/
def State.commitTerms (s : State) (t : ScrTerms) : State :=
  { s with scr := { s.scr with live := t, termsAt := s.tc.cyc, fresh := true } }

/-- Floors handed over by SA are live from this update (R205). -/
def State.commitFloors (s : State) (fs : List Nat) : State :=
  { s with scr := { s.scr with floors := s.scr.floors ++ fs.map fun f => { f := f, start := s.tc.cyc } } }

/-- An amount joins J at the next update (R202): under MANUAL alone. -/
def State.addManual (s : State) (ps : Nat) : State :=
  if s.effN Obj.tod_control = 1 then { s with scr := { s.scr with jAdd := satScr (s.scr.jAdd + ps), cause := 3 } } else s

/-- The steps of the present boundary cycle join J at its own update (R82, R202). -/
def State.boundaryManual (s : State) : State :=
  let j := s.cycleManual
  if j = 0 then s else s.addManual j

/-- A restart event (R204) and its cause. -/
def State.scrRestart (s : State) (cause : Nat) : State := { s with scr := { s.scr with restart := true, cause := cause } }

/-- SETTLE_TIME_END (R203): on the boundary cycle of an update at which settled(k) held and no restart event stood, S is R, the older floors are
released, J is clear, and every port serves that. Settled(k) is the update's own: nothing that comes after the update changes it. -/
def settleTimeEndEff (s : State) : State :=
  if s.tc.cyc == s.tc.tickCyc && s.scr.fell then s.settleTail.publishPorts else s

/-- SETTLE_TIME_END (R203). -/
def execSettleTimeEnd (s : State) : Host.Outcome State Fault Refusal := .next (settleTimeEndEff s)

/-! ### Serving the scruple (R210 to R215) -/

/-- The value that a carrier with quantisation `c` carries from port `p` (R210). -/
def State.served (s : State) (p c : Nat) : Nat := satScr (s.portScr p + c)

/-- clockAccuracy of a value (R214). -/
def State.clockAccuracy (s : State) (v : Nat) : Nat :=
  if v = unbounded then 0xFE
  else
    match (List.range 16).find? fun k => let l := s.effN Obj.scr_ca_limit k; l != 0 && decide (v ≤ l) with
    | some k => s.effN Obj.scr_ca_code k
    | none => s.effN Obj.scr_ca_beyond

/-- What a Cremin link carries (R215). -/
def State.creminScr (s : State) : Nat := satScr (s.valN Obj.scr_value + s.scr.g)

/-! ### Path-delay steps (R206 to R209) -/

/-- The detector of instance `i`. -/
def State.path (s : State) (i : Nat) : PathDet := vat s.scr.paths i {}

/-- The detector of instance `i` changed. -/
def State.modPath (s : State) (i : Nat) (f : PathDet → PathDet) : State :=
  { s with scr := { s.scr with paths := vmod s.scr.paths i f } }

/-- RTT_ref (R206): the mean of the NORMAL RTTs of the last `scr.rtt_window` seconds, rounded. While there is none it keeps its last value
(log entry 61). -/
def State.rttRef (s : State) (i : Nat) : Nat :=
  match ((s.path i).rtts.filter fun e => !s.passed e.1 (s.effN Obj.scr_rtt_window * oneSec + 1)) with
  | [] => s.valN Obj.scr_rtt_ref i
  | l => (2 * (l.map Prod.snd).sum + l.length) / (2 * l.length)

/-- A number put in its place in a rising list. -/
def insertNat (x : Nat) : List Nat → List Nat
  | [] => [x]
  | y :: t => if x ≤ y then x :: y :: t else y :: insertNat x t

/-- Twice the median of a list. -/
def median2 (l : List Nat) : Nat :=
  let q := l.foldr insertNat []
  let n := q.length
  if n % 2 = 1 then 2 * q.getD (n / 2) 0 else q.getD (n / 2 - 1) 0 + q.getD (n / 2) 0

/-- A NORMAL measurement joins the window of RTT_ref. -/
def State.normalRtt (s : State) (i rtt : Nat) : State :=
  let w := s.effN Obj.scr_rtt_window * oneSec + 1
  let s := s.modPath i fun d => { d with rtts := (s.tc.cyc, rtt) :: d.rtts.filter fun e => !s.passed e.1 w }
  s.setN Obj.scr_rtt_ref (s.rttRef i) i

/-- The step of R206 is confirmed: |Δ|/2 joins the path-step term and the guard begins, or begins again. -/
def State.confirmStep (s : State) (i : Nat) : State :=
  let d := s.path i
  let n := 9 + i
  let half4 := ((median2 (d.suspects.map Prod.snd) : Int) - 2 * s.rttRef i).natAbs
  let s := s.setN Obj.scr_path_steps (satScr (s.valN Obj.scr_path_steps i + ceilDiv half4 4)) i
  let s := s.setN Obj.scr_path_count ((s.valN Obj.scr_path_count i + 1) % 2 ^ 32) i
  let first := (d.suspects.getLastD (s.tc.cyc, 0)).1
  let s := s.modPath i fun d =>
    { d with
      firstAt := if s.valN Obj.scr_path_state i = 2 then d.firstAt else first
      delta := satScr (d.delta + ceilDiv half4 2), guardFrom := some s.tc.cyc, during := [], rtts := d.suspects, suspects := [] }
  let s := s.setN Obj.scr_rtt_ref (s.rttRef i) i
  let s := (s.setN Obj.scr_path_state 2 i).modSlot n fun x => { x with pathStep := true }
  let s := s.hist n 11
  if s.active = n then s.scrRestart 4 else s

/-- The suspect measurements of instance `i` are discarded (R206): their path delays leave the mean. -/
def State.discardSuspects (s : State) (i : Nat) : State :=
  let l := (s.path i).suspects.map Prod.fst
  let s := s.modPath i fun x => { x with suspects := [] }
  s.modPtp i fun x => { x with dks := x.dks.filter fun e => !l.contains e.1 }

/-- A measured RTT passes the detector of instance `i` (R206). -/
def State.feedRtt (s : State) (i rtt : Nat) : State :=
  let d := s.path i
  let n := 9 + i
  let st := s.valN Obj.scr_path_state i
  let far := !d.rtts.isEmpty && decide (s.effN Obj.scr_step_thresh < ((rtt : Int) - s.rttRef i).natAbs)
  if far then
    let s := if st = 0 then
        (s.setN Obj.scr_path_state 1 i).modSlot n fun x => { x with held := some d.lastNormal }
      else s
    let s := s.modPath i fun x => { x with suspects := (s.tc.cyc, rtt) :: x.suspects }
    if s.effN Obj.scr_step_confirm ≤ (s.path i).suspects.length then s.confirmStep i else s
  else
    let s := s.discardSuspects i
    let s := if st = 1 then (s.setN Obj.scr_path_state 0 i).modSlot n fun x => { x with held := none } else s
    let s := s.normalRtt i rtt
    if st = 2 then s
    else
      match (s.slot n).meas.head? with
      | some m => s.modPath i fun x => { x with lastNormal := m.x }
      | none => s

/-- A raw offset of instance `i`, units of 2⁻¹⁶ ns, passes its detector: the offset that its slot supplies (R206, R208). -/
def State.feedOffset (s : State) (i : Nat) (raw : Int) : State × Int :=
  let n := 9 + i
  let st := s.valN Obj.scr_path_state i
  let x := raw - (s.slot n).corr
  let s := match (s.slot 8).meas.head? with
    | some m8 =>
      let v := x - m8.x
      let w := s.effN Obj.ref_qual_time n * oneSec + 1
      if st = 0 then s.modPath i fun d => { d with before := (s.tc.cyc, v) :: d.before.filter fun e => !s.passed e.1 w }
      else if st = 2 then s.modPath i fun d => { d with during := v :: d.during }
      else s
    | none => s
  (s, (s.slot n).held.getD x)

/-- The Gleaner is healthy at present (R208). -/
def State.gleanerHealthy (s : State) : Bool := (s.slot 8).qualified && (s.slot 8).consOk && !s.inDispute 8

/-- The time since which the Gleaner has been healthy. -/
def State.trackHealth (s : State) : State :=
  { s with scr := { s.scr with healthySince := if s.gleanerHealthy then some (s.scr.healthySince.getD s.tc.cyc) else none } }

/-- δ of R208, units of 2⁻¹⁶ ns, exact; free where the guard or the window before it holds no measurement. -/
def State.pathShift (s : State) (i : Nat) : State × Rat :=
  let d := s.path i
  let b := d.before.filter fun e =>
    decide (e.1 < d.firstAt) && decide (2 * d.firstAt ≤ 2 * e.1 + s.effN Obj.ref_qual_time (9 + i) * oneSec)
  if d.during.isEmpty ∨ b.isEmpty then
    let (s, f) := s.open
    (s, f)
  else (s, sumOf d.during (fun v => (v : Rat)) / d.during.length - sumOf b (fun e => (e.2 : Rat)) / b.length)

/-- The guard of instance `i` ends (R206, R208). -/
def State.endGuard (s : State) (i : Nat) : State :=
  let d := s.path i
  let n := 9 + i
  let healthy := match s.scr.healthySince with
    | some c => decide (2 * c + s.effN Obj.ref_qual_time n * oneSec ≤ 2 * d.firstAt)
    | none => false
  let s := if healthy then
      let (s, dl) := s.pathShift i
      let dPs := dl * 1000 / 65536
      let ares : Rat := 2 * (s.mBare 8 + s.mBare n)
      if ratAbs dPs ≤ (d.delta : Rat) / 2 + ares then
        let s := s.modSlot n fun x => { x with corr := x.corr + ratRound dl }
        let s := s.setN Obj.scr_asym_corr (s.valI Obj.scr_asym_corr i + ratRound dPs) i
        let s := s.setN Obj.scr_path_steps (satScr (ratCeil ares).toNat) i
        if s.active = n then s.scrRestart 4 else s
      else s.raise 232
    else s
  let s := s.modPath i fun x => { x with guardFrom := none, delta := 0, during := [], before := [], suspects := [] }
  let s := s.modSlot n fun x => { x with held := none, pathStep := false }
  s.setN Obj.scr_path_state 0 i

/-- PATH_GUARD_END (R208). -/
def pathGuardEndEff (i : Nat) (s : State) : State :=
  if s.valN Obj.scr_path_state i == 2 && s.passedO (s.path i).guardFrom (s.effN Obj.scr_guard * oneSec) then s.endGuard i else s

/-- PATH_GUARD_END (R208). -/
def execPathGuardEnd (i : Fin 4) (s : State) : Host.Outcome State Fault Refusal := .next (pathGuardEndEff i.val s)

/-- A committed write of 1 to `scr.path_clear` (R209). -/
def State.clearPath (s : State) (i : Nat) : State := (s.setN Obj.scr_path_steps 0 i).setN Obj.scr_path_clear 2 i

end Sys2Proof.Machine
end

