-- ==== Sys2Proof/Machine/Tx.lean ====
section
/-! DEFINITION. Transmission (03_timestamps.md, 11_egress_scheduling.md): modes and bit times, stamp flags, transmit buffers, stamp
queues, the launch calendar, selection and placement. -/
namespace Sys2Proof.Machine

/-! ### Modes (R102, R316) -/

/-- `mac.mode` in effect of a port; a lane that failed its power-up calibration is held DISABLED (R560). -/
def State.mode (s : State) (p : Nat) : Nat := if s.boot.laneHeld.contains p then 0 else s.effN Obj.mac_mode p

/-- Data rate of a mode, bits per ns; a disabled port has none and counts as 1. -/
def rateOf (mode : Nat) : Nat := if mode = 1 ∨ mode = 2 then 25 else if mode = 3 then 10 else 1

/-- Data rate of a port, bits per ns. -/
def State.rate (s : State) (p : Nat) : Nat := rateOf (s.mode p)

/-- The time of `n` bits on a port's line, units of 2⁻⁵⁶ ns, rounded up. -/
def State.bitTime (s : State) (p n : Nat) : Int := (ceilDiv (n * 2 ^ 56) (s.rate p) : Int)

/-- Wire time of a frame of `len` octets with preamble, SFD and inter-frame gap (R109). -/
def State.wireTime (s : State) (p len : Nat) : Int := s.bitTime p ((len + 20) * 8)

/-- Start-position spacing of a mode, units of 2⁻⁵⁶ ns: 16 ns at 1 Gbit/s, and free up to the bound of R102 otherwise (log entry 10). -/
def spacing (mode : Nat) : Int :=
  let upTo (bound : Nat) : Int := ((1 + Config.startSpacing mode % bound : Nat) : Int)
  if mode = 1 ∨ mode = 2 then upTo (132 * 2 ^ 56 / 100) else if mode = 3 then upTo (330 * 2 ^ 56 / 100) else 16 * 2 ^ 56

/-- The bit time of a mode on the line, units of 2⁻⁵⁶ ns: 25.78125, 10.3125 and 1.25 Gbaud (R102). -/
def baudTime (mode : Nat) : Rat :=
  (if mode = 1 ∨ mode = 2 then 32 / 825 else if mode = 3 then 16 / 165 else 4 / 5) * (2 ^ 56 : Nat)

/-- b of R99: the serial bits of the word ahead of the timestamp point, as a mode counts them. -/
def WordIn.bits (w : WordIn) (mode : Nat) : Nat :=
  if mode = 4 ∨ mode = 5 then 10 * w.units
  else if mode = 2 then w.units + w.trans + w.parity + w.marker
  else w.units + 2 * w.heads

/-- The latencies of a lane as they stand: those of its calibration (R105) and the external entries of a port (R97). -/
def State.laneNow (s : State) (l : Nat) : LaneUse := (s.lane l).uses.headD {}

/-- The latencies of a lane that were in use on a cycle. -/
def State.laneAt (s : State) (l c : Nat) : LaneUse :=
  let h := (s.lane l).uses
  (h.find? fun u => decide (u.cyc ≤ c)).getD (h.getLast?.getD {})

/-- The receive stamp of R98 on a lane that runs in a mode: T_w − rx_cal + b × UI − phy_latency_rx, with the mark of the cycle in which it lies and
the corrections that were applied. -/
def State.rxTime (s : State) (l mode : Nat) (w : WordIn) : Tod × TodMark × LaneUse :=
  let u := s.laneAt l (s.tc.cyc - w.back)
  let (t, m) := s.edgeTime w.back w.fine (ratRound (w.bits mode * baudTime mode) - psToU u.rx)
  (t, m, u)

/-- The transmit stamp of R100: T_w′ + tx_cal + b′ × UI + phy_latency_tx. -/
def State.txTime (s : State) (l mode : Nat) (w : WordIn) : Tod × TodMark × LaneUse :=
  let u := s.laneAt l (s.tc.cyc - w.back)
  let (t, m) := s.edgeTime w.back w.fine (ratRound (w.bits mode * baudTime mode) + psToU u.tx)
  (t, m, u)

/-- The transmit line reference of a lane, mHz (R321, R446): the DCO of DPLL-T divided by 64, or that of DPLL-B divided by 66. -/
def State.lineRef (s : State) (l : Nat) : Nat := if l < 9 ∧ s.effN Obj.mac_tx_clock l = 1 then s.dcoNow 2 / 66 else s.dcoNow 0 / 64

/-- The first start position at or after a time of day (R101, log entry 10): the line's own positions, moved to the reference plane by tx_cal and
the external latency. -/
def State.startAfter (s : State) (p : Nat) (t : Tod) : Tod :=
  let m := s.mode p
  let ph : Int := (Config.startPhase p m (s.lane p).lockedAt s.tc.cyc (s.lineRef p) : Int) + psToU (s.laneNow p).tx
  t + (ph - t) % spacing m

/-- The timestamp unit predicts instants up to 100 µs ahead (R101). -/
def State.predicts (s : State) (t : Tod) : Bool := decide (t ≤ s.tod + 100000 * nsU)

/-- The launch grid of a port, units of 2⁻⁵⁶ ns (R353). -/
def State.grid (s : State) (p : Nat) : Int := ((8 * 2 ^ s.effN Obj.sched_grid p * 2 ^ 56 : Nat) : Int)

/-- The first grid instant at or after a time of day (R353). -/
def State.gridUp (s : State) (p : Nat) (t : Tod) : Tod := -(-t / s.grid p) * s.grid p

/-- D_txfix of a port (R372). -/
def State.txFix (s : State) (p : Nat) : Int := 48 * nsU + psToU (s.effI Obj.stamp_phy_latency_tx p)

/-- Frame length as R324 counts it: with the FCS. -/
def TxFrame.len (f : TxFrame) : Nat := f.bytes.length + 4

/-- Cells of a frame of `len` octets (R36). -/
def cellsOf (len : Nat) : Nat := ceilDiv len 64

/-- The largest occupancy of a frame, or its present one: from the grid instant at or before its timestamp point (R355). -/
def State.occupancy (s : State) (p : Nat) (t w : Int) : Int := s.gridUp p (t + w) - t / s.grid p * s.grid p

/-! ### Stamp flags (R106) -/

/-- Flags of a stamp of a lane, of the cycle in which its timestamp point crossed and the corrections applied to it (R105 to R107). -/
def stampFlagsOf (m : TodMark) (u : LaneUse) (tx : Bool) : Nat :=
  1 + 2 + (if u.calibrated then 0 else 4) + (if tx then 0x100 else 0) + (if m.step then 0x200 else 0) + (if m.unset then 0x400 else 0)

/-- The update whose scruple a message built now carries (R211). -/
def State.update (s : State) : Option (Nat × Nat) := some (s.tc.boundaries, s.tc.tickCyc)

/-- Flags of a stamp of a port. -/
def State.portFlags (s : State) (p : Nat) (m : TodMark) (u : LaneUse) (tx reserved : Bool) : Nat :=
  stampFlagsOf m u tx + (if s.mode p = 5 then 0x800 else 0) + (if reserved then 0x1000 else 0)

/-- The accuracy figure of a mode and calibration state (R102, R103). -/
def accuracyOf (mode : Nat) (calibrated : Bool) : Nat :=
  if mode = 0 then 2500
  else if calibrated then (if mode ≤ 3 then 250 else 400)
  else if mode ≤ 3 then 2000 else 2500

/-- `stamp.accuracy` follows the mode and calibration state of its port (R103). -/
def State.putAccuracy (s : State) (p : Nat) : State :=
  s.setN Obj.stamp_accuracy (accuracyOf (s.mode p) (s.valN Obj.mac_link p == 1 && s.valN Obj.stamp_cal_state p == 2)) p

/-- The link of a port is up. -/
def State.linkUp (s : State) (p : Nat) : Bool := s.valN Obj.mac_link p == 1

/-! ### Queues -/

/-- Queue `q` of port `p`. -/
def State.queue (s : State) (p q : Nat) : Queue := vat (s.port p).queues q {}

/-- Queue `q` of port `p` changed. -/
def State.modQueue (s : State) (p q : Nat) (f : Queue → Queue) : State :=
  s.modPort p fun x => { x with queues := vmod x.queues q f }

/-- Tokens of a shaper at the present time of day, in units of 1 bit ÷ `secU` (R364). -/
def State.tokensNow (s : State) (p q : Nat) : Int :=
  let x := s.queue p q
  min (8 * (s.effN Obj.shaper_burst p q : Int) * secU) (x.tokens + s.effN Obj.shaper_rate p q * max 0 (s.tod - x.tokensAt))

/-- A queue is eligible (R352). -/
def State.eligibleQ (s : State) (p q : Nat) : Bool :=
  let x := s.queue p q
  !x.fifo.isEmpty && !x.held && (s.effN Obj.shaper_rate p q == 0 || decide (0 ≤ s.tokensNow p q))

/-- The queues that deficit round robin serves (R359, R361). -/
def State.drrQueues (s : State) (p : Nat) : List Nat :=
  if s.effT Obj.sched_privileged p && decide (p < 8) then [3, 4, 5, 6, 7] else List.range 8

/-- The time of day from which a queue's tokens have stood at zero or more (R364). -/
def State.creditAt (s : State) (p q : Nat) : Tod :=
  let x := s.queue p q
  let r : Int := s.effN Obj.shaper_rate p q
  if 0 ≤ x.tokens ∨ r = 0 then x.tokensAt else x.tokensAt + (-x.tokens + r - 1) / r

/-- A queue is put among others behind those whose key is not greater. -/
def insertQueue (key : Nat → Int) (q : Nat) : List Nat → List Nat
  | [] => [q]
  | h :: t => if key q < key h then q :: h :: t else h :: insertQueue key q t

/-- Queues that have become eligible join the active list, in the order in which they did (R359, R360). -/
def State.joinActive (s : State) (p : Nat) : State :=
  let new := (s.drrQueues p).filter fun q => s.eligibleQ p q && !(s.port p).active.contains q
  s.each (new.foldl (fun l q => insertQueue (s.creditAt p) q l) []) fun s q =>
    (s.modQueue p q fun x => { x with deficit := 0, granted := false }).modPort p fun x => { x with active := x.active ++ [q] }

/-- Cells of a port's transmit buffer that lie in lost banks (R34, R522): buffer `p` begins 2,560 + 384 p KiB into bank 0. -/
def State.lostTx (s : State) (p : Nat) : Nat :=
  (s.win.bankLost.map fun b =>
    if b < 12 then 16 * (min (512 * b + 512) (2944 + 384 * p) - max (512 * b) (2560 + 384 * p)) else 0).sum

/-- Free cells of a queue (R350), within what is left of its port's buffer. -/
def State.freeCells (s : State) (p q : Nat) : Nat :=
  min (s.effN Obj.queue_cells p q - (s.queue p q).used)
    (6144 - s.lostTx p - ((List.range 8).map fun k => (s.queue p k).used).sum)

/-- Cells of a queue taken or given back. -/
def State.useCells (s : State) (p q : Nat) (d : Int) : State :=
  s.modQueue p q fun x => { x with used := ((x.used : Int) + d).toNat }

/-- A frame padded to 60 octets before its FCS (R326). -/
def TxFrame.padded (f : TxFrame) : TxFrame := { f with bytes := padTo 60 f.bytes }

/-- An untimed frame enters its queue; none where the queue has no cells for it (R350). -/
def State.enqueue (s : State) (p : Nat) (f : TxFrame) : Option State :=
  let f := { f.padded with id := s.net.nextId }
  let c := cellsOf f.len
  if c ≤ s.freeCells p f.queue then
    let s := { s with net := { s.net with nextId := s.net.nextId + 1 } }
    let s := (s.modQueue p f.queue fun x => { x with fifo := x.fifo ++ [f] }).useCells p f.queue c
    some (s.joinActive p)
  else none

/-- A frame enters its queue, or is lost where there is no room. -/
def State.send (s : State) (p : Nat) (f : TxFrame) : State := (s.enqueue p f).getD s

/-! ### Stamp queues (R118 to R122) -/

/-- A stamp queue has a free entry. -/
def State.stampFree (s : State) (p : Nat) : Bool := decide ((s.port p).fifoStamp.length < 512)

/-- An entry is reserved for a frame at its selection (R119). -/
def State.reserveStamp (s : State) (p : Nat) (f : TxFrame) : State :=
  s.modPort p fun x =>
    { x with
      fifoStamp := x.fifoStamp ++ [{ tag := f.tag, seq := x.stampSeq, length := f.len, frame := f.id }]
      stampSeq := (x.stampSeq + 1) % 65536 }

/-- The entry of a frame is completed with its stamp or with DROPPED (R118, R120). -/
def State.completeStamp (s : State) (p id : Nat) (dropped : Bool) (stamp : Nat) : State :=
  s.modPort p fun x =>
    { x with fifoStamp := x.fifoStamp.map fun e =>
        if e.frame == id && !e.done then { e with done := true, dropped := dropped, stamp := stamp, doneAt := s.tc.boundaries } else e }

/-- The 24 octets of a completed entry (R118). -/
def StampEntry.octets (e : StampEntry) (p : Nat) : Bytes :=
  beBytes 2 e.tag ++ beBytes 2 e.seq ++ [BitVec.ofNat 8 p, if e.dropped then 1#8 else 0#8] ++ beBytes 2 e.length ++ beBytes 16 e.stamp

/-- Entries leave a stamp queue: its held queues may be eligible again (R352). -/
def State.freeStamps (s : State) (p : Nat) (keep : StampEntry → Bool) : State :=
  let n := (s.port p).fifoStamp.length
  let s := s.modPort p fun x => { x with fifoStamp := x.fifoStamp.filter keep }
  if (s.port p).fifoStamp.length < n then
    (s.each (List.range 8) fun s q => s.modQueue p q fun x => { x with held := false }).joinActive p
  else s

/-- A read of `stamp.queue.pop` (R120, R121): the oldest entry if it is completed, else zeros. -/
def State.popStamp (s : State) (p : Nat) : State × Bytes :=
  match (s.port p).fifoStamp with
  | e :: _ => if e.done then (s.freeStamps p fun x => x.seq != e.seq, e.octets p) else (s, zeros 24)
  | [] => (s, zeros 24)

/-- STAMP_QUEUE_POP (R121). -/
def stampQueuePopEff (p : Nat) (s : State) : State :=
  let (s, b) := s.popStamp p
  { s with gran := { s.gran with lastRead := [(Obj.stamp_queue_pop.key p 0, b)] } }

/-- STAMP_QUEUE_POP (R121). -/
def execStampQueuePop (p : Fin 8) (s : State) : Host.Outcome State Fault Refusal := .next (stampQueuePopEff p.val s)

/-- STAMP_ENTRY_RETIRE (R122): entries that have aged out are freed and counted lost. -/
def stampEntryRetireEff (p : Nat) (s : State) : State :=
  let old (e : StampEntry) : Bool := e.done && decide (e.doneAt + s.effN Obj.stamp_age_ticks ≤ s.tc.boundaries)
  let n := ((s.port p).fifoStamp.filter old).length
  if n = 0 then s else (s.freeStamps p fun e => !old e).count Obj.stamp_lost p 0 n

/-- STAMP_ENTRY_RETIRE (R122). -/
def execStampEntryRetire (p : Fin 8) (s : State) : Host.Outcome State Fault Refusal := .next (stampEntryRetireEff p.val s)

/-- A frame whose Follow_Up can no longer be sent is lost before it crosses (R421, R423). -/
def State.missNote (s : State) (f : TxFrame) : State :=
  match f.note with
  | .sync u p _ _ => s.count Obj.ptp_followup_missed u p
  | .pdelayResp u p _ _ => s.count Obj.ptp_followup_missed u p
  | _ => s

/-! ### Calendar (R354 to R357) -/

/-- Entries whose time is over leave the calendar (R354). -/
def State.pruneCal (s : State) (p : Nat) : State :=
  let now := s.tod
  s.modPort p fun x => { x with cal := x.cal.filter fun e => !(e.crossed && decide (e.t + e.w ≤ now)) }

/-- An entry that a placement starting at `t` for time `w` would overlap. -/
def clashing (cal : List CalEntry) (t w : Int) : Option CalEntry :=
  cal.find? fun e => !e.released && decide (t < e.t + e.w) && decide (e.t < t + w)

/-- The search of first_free: each clash moves it to the first grid instant from which the first start position does not lie before the end of the
entry it met. -/
def State.firstFreeGo (s : State) (p : Nat) (cal : List CalEntry) (w : Int) : Nat → Tod → Tod
  | 0, t => s.startAfter p (s.gridUp p t)
  | fuel + 1, t =>
    let st := s.startAfter p (s.gridUp p t)
    match clashing cal st w with
    | some e => State.firstFreeGo s p cal w fuel (s.startAfter p (e.t + e.w) - spacing (s.mode p) + 1)
    | none => st

/-- first_free(p, t, w) of R109. -/
def State.firstFree (s : State) (p : Nat) (t : Tod) (w : Int) : Tod :=
  let cal := (s.port p).cal
  s.firstFreeGo p cal w (cal.length + 1) t

/-- The present time in ps of tclk periods. -/
def State.nowPs (s : State) : Nat := 2000 * s.tc.cyc

/-- A PAUSE hold is in force on a port (R331). -/
def State.paused (s : State) (p : Nat) : Bool :=
  let x := s.port p
  match x.pauseFrom with
  | some a => decide (a ≤ s.nowPs) && decide (s.nowPs < x.pauseEnd)
  | none => false

/-- A TOD instant in ps of tclk periods, from the present instant on. -/
def State.todPs (s : State) (t : Tod) : Int := (s.nowPs : Int) + uToPs (t - s.tod)

/-- A TOD instant lies in the PAUSE hold of a port. -/
def State.inHold (s : State) (p : Nat) (t : Tod) : Bool :=
  let x := s.port p
  match x.pauseFrom with
  | some a => decide ((a : Int) ≤ s.todPs t) && decide (s.todPs t < x.pauseEnd)
  | none => false

/-- A step-type action whose time lies at or before a timestamp point is PENDING, or has fired on this cycle and takes effect at its end (R85,
R115). -/
def State.heldByAction (s : State) (t : Tod) : Bool :=
  (s.tc.outRegs.acts.any fun a => a.isStep && decide (a.time ≤ t)) || s.tc.setJump.isSome || s.tc.jumps.any fun e => decide (e.1 < 8)

/-! ### Selection (R359, R361) -/

/-- A queue leaves the active list. -/
def State.leaveActive (s : State) (p q : Nat) : State :=
  (s.modQueue p q fun x => { x with deficit := 0 }).modPort p fun x => { x with active := x.active.filter (· != q) }

/-- A queue is held for want of a stamp-queue entry (R119). -/
def State.holdQueue (s : State) (p q : Nat) : State := (s.modQueue p q fun x => { x with held := true }).count Obj.stamp_queue_wait p

/-- The first frame of a queue is taken: it leaves the buffer, with a stamp-queue entry where it asks for one (R119, R351). -/
def State.take (s : State) (p q : Nat) (f : TxFrame) : State :=
  let s := (s.modQueue p q fun x => { x with fifo := x.fifo.drop 1 }).useCells p q (-(cellsOf f.len : Int))
  if f.stampReq then s.reserveStamp p f else s

/-- Deficit round robin (R359); each step of the fuel is one turn of the loop. -/
def drr (p : Nat) : Nat → State → State × Option TxFrame
  | 0, s => (s, none)
  | fuel + 1, s =>
    match (s.port p).active with
    | [] => (s, none)
    | q :: rest =>
      if !s.eligibleQ p q then drr p fuel (s.leaveActive p q)
      else
        let s := if (s.queue p q).granted then s
          else s.modQueue p q fun x => { x with deficit := x.deficit + s.effN Obj.sched_quantum p q, granted := true }
        match (s.queue p q).fifo with
        | [] => drr p fuel (s.leaveActive p q)
        | f :: _ =>
          if (s.queue p q).deficit < f.len then
            drr p fuel ((s.modQueue p q fun x => { x with granted := false }).modPort p fun x => { x with active := rest ++ [q] })
          else if f.stampReq && !s.stampFree p then drr p fuel ((s.holdQueue p q).leaveActive p q)
          else
            let s := (s.modQueue p q fun x => { x with deficit := x.deficit - f.len }).take p q f
            (if (s.queue p q).fifo.isEmpty then s.leaveActive p q else s, some f)

/-- The strict queues of a privileged port (R361). -/
def strictSelect (p : Nat) : List Nat → State → State × Option TxFrame
  | [], s => (s, none)
  | q :: qs, s =>
    if s.eligibleQ p q then
      match (s.queue p q).fifo with
      | f :: _ => if f.stampReq && !s.stampFree p then strictSelect p qs (s.holdQueue p q) else (s.take p q f, some f)
      | [] => strictSelect p qs s
    else strictSelect p qs s

/-- select(p) of R359 and R361. A turn of every queue gives each at least 64 octets, so the fuel never runs out. -/
def State.selectFrame (s : State) (p : Nat) : State × Option TxFrame :=
  let s := s.joinActive p
  if s.effT Obj.sched_privileged p && decide (p < 8) then
    match strictSelect p [0, 1, 2] s with
    | (s, some f) => (s, some f)
    | (s, none) => drr p 2000 s
  else drr p 2000 s

/-- The port holds an untimed entry whose frame is not yet committed. -/
def Port.placed (x : Port) : Bool := x.cal.any fun e => !e.reserved && !e.committed

/-- A frame is placed at an instant; where a reservation that it did not fit before made it later, it counts as displaced (R354, R357). -/
def State.place (s : State) (p : Nat) (f : TxFrame) : State :=
  let w := s.wireTime p f.len
  let first := s.startAfter p (s.gridUp p (s.tod + s.txFix p))
  let t := s.firstFree p (s.tod + s.txFix p) w
  let past (e : CalEntry) : Bool := e.reserved && !e.released && decide (first < e.t + e.w) && decide (e.t < t)
  let s := if (s.port p).cal.any past then (s.count Obj.cal_displaced p).tally (44 + p) 7 1 else s
  s.modPort p fun x => { x with cal := x.cal ++ [{ t := t, w := w, frame := f }] }

/-- The placement of a frame lies within what the timestamp unit predicts (R101). -/
def State.placeable (s : State) (p : Nat) (f : TxFrame) : Bool := s.predicts (s.firstFree p (s.tod + s.txFix p) (s.wireTime p f.len))

/-- Entries that a hold or a step has released are placed again (R357); those whose place lies beyond the prediction wait (R101). -/
def State.replace (s : State) (p : Nat) : State :=
  let l := (s.port p).cal.filter fun e => e.released && !e.reserved
  s.each l fun s e => if s.placeable p e.frame then
      (s.modPort p fun x => { x with cal := x.cal.filter fun y => !(y.released && !y.reserved && y.frame.id == e.frame.id) }).place p e.frame
    else s

/-- UNTIMED_PLACE (R356): a frame is selected and placed in the calendar; one whose place lies beyond the prediction stays in its queue (R101,
log entry 10). -/
def untimedPlaceEff (p : Nat) (s : State) : State :=
  let s := s.pruneCal p
  if s.linkUp p && !s.paused p then
    let s := s.replace p
    if (s.port p).placed then s
    else
      match s.selectFrame p with
      | (t, some f) => if t.placeable p f then t.place p f else s
      | (t, none) => t
  else s

/-- UNTIMED_PLACE (R356). -/
def execUntimedPlace (p : Fin 9) (s : State) : Host.Outcome State Fault Refusal := .next (untimedPlaceEff p.val s)

/-- The octets of a frame's commit are counted and its shaper is charged (R364, R365). -/
def State.chargeTx (s : State) (p : Nat) (e : CalEntry) : State :=
  let q := e.frame.queue
  let s := (s.count Obj.queue_tx_frames p q).count Obj.queue_tx_octets p q e.frame.len
  if s.effN Obj.shaper_rate p q = 0 then s
  else
    let bits := s.occupancy p e.t e.w * s.rate p * 1000000000
    let now := s.tokensNow p q
    s.modQueue p q fun x => { x with tokens := now - bits, tokensAt := s.tod }

/-- A committed change of a shaper (R366): tokens start afresh and a debt is discarded. -/
def State.resetShaper (s : State) (p q : Nat) : State :=
  let now := s.tokensNow p q
  let s := if now < 0 then s.count Obj.shaper_debt_discarded p q (ceilDiv now.natAbs secU.natAbs) else s
  let full : Int := if s.effN Obj.shaper_reset_mode p q = 0 then 8 * s.effN Obj.shaper_burst p q * secU else 0
  (s.modQueue p q fun x => { x with tokens := full, tokensAt := s.tod }).setN Obj.shaper_tokens (full / secU) p q

/-- A committed change of `sched.privileged` (R363): the active list starts afresh, in ascending order. -/
def State.resetActive (s : State) (p : Nat) : State :=
  let s := s.each (List.range 8) fun s q => s.modQueue p q fun x => { x with deficit := 0, granted := false }
  s.modPort p fun x => { x with active := (s.drrQueues p).filter fun q => s.eligibleQ p q }

/-- The calendar entries that a port holds: those whose time is not over (R354). -/
def State.calHeld (s : State) (p : Nat) : Nat := ((s.port p).cal.filter fun e => !(e.crossed && decide (e.t + e.w ≤ s.tod))).length

/-- A frame of a calendar entry changed. -/
def State.modCal (s : State) (p id : Nat) (f : CalEntry → CalEntry) : State :=
  s.modPort p fun x => { x with cal := x.cal.map fun e => if e.frame.id == id then f e else e }

/-- A calendar entry is removed. -/
def State.dropCal (s : State) (p id : Nat) : State := s.modPort p fun x => { x with cal := x.cal.filter fun e => e.frame.id != id }

/-- A reserved frame leaves the transmit buffer: its entry goes and its cells return. -/
def State.releaseReserved (s : State) (p : Nat) (e : CalEntry) (c : Nat) : State :=
  (s.dropCal p e.frame.id).useCells p e.frame.queue (-(c : Int))

/-- The timestamp point of a committed frame had been reached before the end of a step cycle (R107): it crosses on the timescale before the step.
`edge` is that end, on the timescale before the step. -/
def CalEntry.passes (e : CalEntry) (edge : Tod) : Bool := e.committed && !e.crossed && (e.reached || decide (e.t < edge))

/-- A step meets a committed frame that carries a launch value or a reserved instant and has not reached its timestamp point (R116). -/
def CalEntry.spoilt (e : CalEntry) (edge : Tod) : Bool := e.committed && !e.crossed && !e.passes edge && (e.reserved || e.frame.enc != 0)

/-- What a step of `j` does to a calendar entry (R116, R117, R357). A committed frame is on its way and its instant moves with the timescale; an
untimed entry that is not committed is released. DEDUCED (log entry 59): a reserved instant is a time of day, so its launch check and its window
stay where they are. -/
def CalEntry.stepped (e : CalEntry) (edge : Tod) (j : Int) : CalEntry :=
  { e with
    t := if e.committed || e.crossed then e.t + j else e.t
    reached := e.passes edge, released := e.released || (!e.reserved && !e.committed)
    frame := if e.spoilt edge then { e.frame with badFcs := true } else e.frame }

/-- What a step does to the calendars and shapers (R116, R357): spoilt frames get an inverted FCS and are counted, untimed entries are placed again
on the stepped grid. -/
def State.stepPorts (s : State) (j : Int) : State :=
  let edge := s.tod - j
  s.each (List.range 9) fun s p =>
    let bad := (s.port p).cal.filter fun e => e.spoilt edge
    let s := s.modPort p fun x =>
      { x with
        cal := x.cal.map fun e => e.stepped edge j
        queues := x.queues.map fun q => { q with tokensAt := q.tokensAt + j } }
    let s := if bad.isEmpty then s else s.count Obj.stamp_step_drops p 0 bad.length
    if s.paused p then s else s.replace p

end Sys2Proof.Machine
end

