-- ==== Sys2Proof/Machine/Wire.lean ====
section
/-! DEFINITION. Octets on the wire: the layouts of Ethernet, 802.1Q tags, ARP, IPv4, IPv6, UDP and ICMP that the ports chapter
takes from the public standards (R333, R336, R338, R339; log entry 19). -/
namespace Sys2Proof.Machine

/-- Sixteen-bit words of a string added up; an odd last octet is a high octet. -/
def sum16 : Bytes → Nat
  | [] => 0
  | [a] => a.toNat * 256
  | a :: b :: t => a.toNat * 256 + b.toNat + sum16 t

/-- A sum folded to 16 bits with end-around carry. -/
def fold16 (v : Nat) : Nat :=
  let a := v / 65536 + v % 65536
  let b := a / 65536 + a % 65536
  b / 65536 + b % 65536

/-- The Internet checksum of a string: the value for its checksum field, which is zero in the string. -/
def inetSum (b : Bytes) : Nat := 0xFFFF - fold16 (sum16 b)

/-- The checksum of a string that holds its own field is right. -/
def inetOk (b : Bytes) : Bool := fold16 (sum16 b) == 0xFFFF

/-- The broadcast MAC address. -/
def bcast : Bytes := List.replicate 6 0xFF#8

/-- An address is a group address. -/
def isGroup (mac : Bytes) : Bool := octet mac 0 % 2 == 1

/-- What the tag level and the dispatcher read from the front of a frame (R333). -/
structure Parsed where
  dst : Bytes
  src : Bytes
  /-- EtherType behind the tags -/
  et : Nat
  /-- offset of what follows it -/
  off : Nat
  /-- tag set: outer and inner VID, 0xFFFF for none; none for tags of no kind that an entry can match -/
  tags : Option (Nat × Nat)
  /-- PCP of the outermost tag, and of the inner one -/
  pcp : Nat := 0
  ipcp : Nat := 0

/-- The tags and the EtherType of a frame (R333). -/
def parseEth (b : Bytes) : Parsed :=
  let dst := b.take 6
  let src := slice b 6 6
  let t := field b 12 2
  let vid (o : Nat) : Nat := field b o 2 % 4096
  if t = 0x8100 then
    { dst := dst, src := src, et := field b 16 2, off := 18, pcp := octet b 14 / 32,
      tags := some (if vid 14 = 0 then (0xFFFF, 0xFFFF) else (vid 14, 0xFFFF)) }
  else if t = 0x88A8 then
    if field b 16 2 = 0x8100 then
      { dst := dst, src := src, et := field b 20 2, off := 22, pcp := octet b 14 / 32, ipcp := octet b 18 / 32,
        tags := some (vid 14, vid 18) }
    else { dst := dst, src := src, et := field b 16 2, off := 18, pcp := octet b 14 / 32, tags := none }
  else { dst := dst, src := src, et := t, off := 14, tags := some (0xFFFF, 0xFFFF) }

/-- A tag. -/
def tagBytes (tpid pcp vid : Nat) : Bytes := beBytes 2 tpid ++ beBytes 2 (pcp % 8 * 8192 + vid % 4096)

/-- The tags of a tag set (R334). -/
def tagSetBytes (set : Nat × Nat) (pcp ipcp : Nat) : Bytes :=
  if set.1 = 0xFFFF then []
  else if set.2 = 0xFFFF then tagBytes 0x8100 pcp set.1
  else tagBytes 0x88A8 pcp set.1 ++ tagBytes 0x8100 ipcp set.2

/-- The IP layer of a received frame. -/
structure IpHead where
  /-- 4 or 6 -/
  fam : Nat
  src : Bytes
  dst : Bytes
  /-- protocol or next header -/
  proto : Nat
  /-- offset of the transport header in the frame, and the octets from there to the end of the datagram -/
  l4 : Nat
  len : Nat
  /-- a fragment, options or extension headers (row 9 of R336) -/
  odd : Bool
  /-- the IPv4 header checksum holds -/
  sumOk : Bool
  /-- DSCP and ECN -/
  tos : Nat
deriving DecidableEq, Repr

/-- IPv6 next-header codes of extension headers. -/
def v6Ext : List Nat := [0, 43, 44, 50, 51, 60, 135, 139, 140]

/-- The IP layer at an offset, if there is one. -/
def parseIp (b : Bytes) (et off : Nat) : Option IpHead :=
  if et = 0x0800 ∧ off + 20 ≤ b.length ∧ octet b off / 16 = 4 then
    let ihl := octet b off % 16 * 4
    let tl := field b (off + 2) 2
    some
      { fam := 4, src := slice b (off + 12) 4, dst := slice b (off + 16) 4, proto := octet b (off + 9), l4 := off + ihl,
        len := min (tl - ihl) (b.length - off - ihl),
        odd := ihl != 20 || field b (off + 6) 2 % 0x4000 != 0,
        sumOk := inetOk (slice b off (max 20 ihl)), tos := octet b (off + 1) }
  else if et = 0x86DD ∧ off + 40 ≤ b.length ∧ octet b off / 16 = 6 then
    let nh := octet b (off + 6)
    some
      { fam := 6, src := slice b (off + 8) 16, dst := slice b (off + 24) 16, proto := nh, l4 := off + 40,
        len := min (field b (off + 4) 2) (b.length - off - 40), odd := v6Ext.contains nh, sumOk := true,
        tos := field b off 2 / 16 % 256 }
  else none

/-- The pseudo-header of a transport segment. -/
def pseudo (fam : Nat) (src dst : Bytes) (proto len : Nat) : Bytes :=
  if fam = 4 then src ++ dst ++ [0#8, BitVec.ofNat 8 proto] ++ beBytes 2 len
  else src ++ dst ++ beBytes 4 len ++ [0#8, 0#8, 0#8, BitVec.ofNat 8 proto]

/-- The UDP checksum of a received datagram holds (row 10 of R336): zero means none over IPv4 and fails over IPv6. -/
def udpOk (b : Bytes) (h : IpHead) : Bool :=
  let ul := field b (h.l4 + 4) 2
  let c := field b (h.l4 + 6) 2
  if h.len < 8 ∨ ul < 8 ∨ h.len < ul then false
  else if c = 0 then h.fam == 4
  else inetOk (pseudo h.fam h.src h.dst 17 ul ++ slice b h.l4 ul)

/-- An IP header for `len` octets of payload (R387, log entry 19): IHL 5, identification 0, DF; flow label 0. -/
def ipHeader (fam tos len proto ttl : Nat) (src dst : Bytes) : Bytes :=
  if fam = 4 then
    let h := [0x45#8, BitVec.ofNat 8 tos] ++ beBytes 2 (20 + len) ++ [0#8, 0#8, 0x40#8, 0#8, BitVec.ofNat 8 ttl, BitVec.ofNat 8 proto]
    let c := inetSum (h ++ [0#8, 0#8] ++ src ++ dst)
    h ++ beBytes 2 c ++ src ++ dst
  else
    beBytes 4 (6 * 2 ^ 28 + tos * 2 ^ 20) ++ beBytes 2 len ++ [BitVec.ofNat 8 proto, BitVec.ofNat 8 ttl] ++ src ++ dst

/-- A UDP datagram with its checksum. -/
def udpDatagram (fam : Nat) (src dst : Bytes) (sport dport : Nat) (body : Bytes) : Bytes :=
  let n := 8 + body.length
  let h := beBytes 2 sport ++ beBytes 2 dport ++ beBytes 2 n
  let c := inetSum (pseudo fam src dst 17 n ++ h ++ [0#8, 0#8] ++ body)
  h ++ beBytes 2 (if c = 0 then 0xFFFF else c) ++ body

/-- A UDP checksum corrected for octets that change at an offset of the frame (R108). -/
def fixSum (b : Bytes) (csum off : Nat) (new : Bytes) : Bytes :=
  let old := slice b off new.length
  let b' := patch b off new
  let c := field b csum 2
  if csum = 0xFFFF ∨ c = 0 then b'
  else
    let even (x : Bytes) : Bytes := if (off + csum) % 2 = 1 then 0#8 :: x else x
    let v := 0xFFFF - c + sum16 (even new) + (0xFFFF * (new.length + 2) - sum16 (even old))
    let r := 0xFFFF - fold16 v
    patch b' csum (beBytes 2 (if r = 0 then 0xFFFF else r))

/-- An Ethernet frame before its FCS. -/
def ethFrame (dst src tags : Bytes) (et : Nat) (body : Bytes) : Bytes := dst ++ src ++ tags ++ beBytes 2 et ++ body

end Sys2Proof.Machine
end

