-- ==== Sys2Proof/Machine/Ports.lean ====
section
/-! DEFINITION. Network ports, host lane and MAC (10_ports.md) and lane calibration (R104): receive admission and classification,
punts, hardware answers, PAUSE, links, and frames from the host. -/
namespace Sys2Proof.Machine

/-! ### Lane calibration (R104, R105) -/

/-- The fixed part of a lane's latency with its temperature correction, ps (R105). DESIGN CHOICE (log entry 59): the correction is linear in the
difference of the SerDes domain's die temperature (sensor 9 of R619) from the temperature of the production test, by a coefficient in units of
2⁻¹⁶ ps per 0.01 °C, rounded to nearest. -/
def State.calFixed (s : State) (fused tc : List Int) (l : Nat) : Int :=
  fused.getD l 0 + roundDiv (tc.getD l 0 * (s.valI Obj.die_temp 9 - s.dev.calTemp)) 65536

/-- The calibration state of a lane: 0 DEFAULT, 1 CALIBRATING, 2 CALIBRATED, 3 FAILED. -/
def State.calState (s : State) (l : Nat) : Nat := if l < 9 then s.valN Obj.stamp_cal_state l else s.valN Obj.crem_cal_state (l - 9)

/-- The corrections in use on a lane change: stamps whose word came before keep the ones that they met (R98, R105). -/
def State.putUse (s : State) (l : Nat) (u : LaneUse) : State :=
  let n := s.laneNow l
  if n.rx = u.rx ∧ n.tx = u.tx ∧ n.calibrated = u.calibrated ∧ !(s.lane l).uses.isEmpty then s
  else s.modLane l fun x => { x with uses := keepNew 4 (u :: x.uses) }

/-- The latencies of a lane and the objects that show them (R97, R105): rx_cal and tx_cal, and with them the external entries of a port. -/
def State.putCal (s : State) (l : Nat) : State :=
  let v := s.calState l == 2
  let rx := max 0 (min 50000 (s.calFixed s.dev.rxCal s.dev.rxTc l + if v then (s.lane l).rxVar else 0))
  let tx := max 0 (min 50000 (s.calFixed s.dev.txCal s.dev.txTc l + if v then (s.lane l).txVar else 0))
  if l < 9 then
    let s := s.putUse l { cyc := s.tc.cyc, calibrated := v, rx := rx + s.effI Obj.stamp_phy_latency_rx l, tx := tx + s.effI Obj.stamp_phy_latency_tx l }
    ((s.setN Obj.stamp_rx_cal rx l).setN Obj.stamp_tx_cal tx l).putAccuracy l
  else s.putUse l { cyc := s.tc.cyc, calibrated := v, rx := rx, tx := tx }

/-- A lane enters a calibration state. -/
def State.setCal (s : State) (l st : Nat) : State :=
  (if l < 9 then s.setN Obj.stamp_cal_state st l else s.setN Obj.crem_cal_state st (l - 9)).putCal l

/-- A calibration measurement begins (R104). -/
def State.beginCal (s : State) (l : Nat) : State := (s.modLane l fun x => { x with calStart := s.tc.cyc }).setCal l 1

/-- What `stamp.calibrate` reads after a measurement that a write of it began. -/
def State.endCalibrate (s : State) (l v : Nat) : State :=
  if l < 9 && s.valN Obj.stamp_calibrate l == 1 then s.setN Obj.stamp_calibrate v l else s

/-- A measurement fails: the fused part alone is used (R104). -/
def State.failCal (s : State) (l : Nat) : State := ((s.setCal l 3).endCalibrate l 3).raise (250 + l)

/-- STAMP_CAL_DONE (R104). -/
def stampCalDoneEff (l : Nat) (c : CalIn) (s : State) : State :=
  if s.calState l != 1 then s
  else if c.ok then ((s.modLane l fun x => { x with rxVar := c.rxVar, txVar := c.txVar }).setCal l 2).endCalibrate l 2
  else s.failCal l

/-- STAMP_CAL_DONE (R104). -/
def execStampCalDone (l : Fin 13) (c : CalIn) (s : State) : Host.Outcome State Fault Refusal := .next (stampCalDoneEff l.val c s)

/-- STAMP_CAL_TIMEOUT (R104). -/
def stampCalTimeoutEff (l : Nat) (s : State) : State :=
  if s.calState l == 1 && s.passed (s.lane l).calStart (50 * oneMs) then s.failCal l else s

/-- STAMP_CAL_TIMEOUT (R104). -/
def execStampCalTimeout (l : Fin 13) (s : State) : Host.Outcome State Fault Refusal := .next (stampCalTimeoutEff l.val s)

/-- A committed write of 1 to `stamp.calibrate`: from DEFAULT or FAILED a measurement begins (R104). -/
def State.commitCalibrate (s : State) (p : Nat) : State :=
  let st := s.calState p
  if st = 0 ∨ st = 3 then (s.beginCal p).setN Obj.stamp_calibrate 1 p else s

/-! ### Served entries (R332, R333) -/

/-- The present served entries of a port: number and octets. -/
def State.entries (s : State) (p : Nat) : List (Nat × Bytes) :=
  if p < 8 then ((List.range 64).map fun i => (i, s.effB Obj.mac_served p i)).filter fun e => octet e.2 0 != 0 else []

/-- Family of an entry. -/
def entFam (e : Bytes) : Nat := octet e 0

/-- A service bit of an entry: 0 NTP, 1 PTP, 2 Atton, 3 ICMP. -/
def entSvc (e : Bytes) (k : Nat) : Bool := (octet e 1).testBit k

/-- The tag set of an entry. -/
def entTags (e : Bytes) : Nat × Nat := (field e 2 2, field e 4 2)

/-- The address of an entry. -/
def entAddr (e : Bytes) : Bytes := if entFam e = 4 then slice e 8 4 else slice e 8 16

/-- A PTP instance is enabled on a port. -/
def State.ptpOn (s : State) (p : Nat) : Bool :=
  (List.range 4).any fun i =>
    s.effT Obj.ptp_enable i && ((s.effN Obj.ptp_master_ports i).testBit p || s.effN Obj.ptp_slave_port i == p)

/-- A group MAC address that the port accepts (R337). -/
def State.groupOk (s : State) (p : Nat) (dst : Bytes) : Bool :=
  let es := (s.entries p).map Prod.snd
  dst == bcast || (s.ptpOn p && (beNat dst == 0x011B19000000 || beNat dst == 0x0180C200000E)) ||
    ((es.any fun e => entSvc e 1) && (beNat dst == 0x01005E000181 || beNat dst == 0x333300000181)) ||
    beNat dst == 0x333300000001 ||
    es.any fun e => entFam e == 6 && dst == [0x33#8, 0x33#8, 0xFF#8] ++ slice e 21 3

/-- ff02::1. -/
def allNodes : Bytes := beBytes 2 0xFF02 ++ zeros 13 ++ [1#8]

/-- The entry that a destination address names (R336, log entry 20): the entry with that address; for a multicast address that R337
lets in, the entry that it stands for. -/
def entryFor (es : List (Nat × Bytes)) (fam : Nat) (dst : Bytes) : Option (Nat × Bytes) :=
  match es.find? fun e => entFam e.2 == fam && entAddr e.2 == dst with
  | some e => some e
  | none =>
    if fam = 4 then
      if beNat dst = 0xE0000181 then es.find? fun e => entFam e.2 == 4 && entSvc e.2 1 else none
    else if dst.take 13 = beBytes 2 0xFF02 ++ zeros 9 ++ [1#8, 0xFF#8] then
      es.find? fun e => entFam e.2 == 6 && slice e.2 21 3 == dst.drop 13
    else if octet dst 0 = 0xFF ∧ dst.drop 2 = zeros 12 ++ [1#8, 0x81#8] then es.find? fun e => entFam e.2 == 6 && entSvc e.2 1
    else if dst = allNodes then es.find? fun e => entFam e.2 == 6
    else none

/-! ### Classification (R336) -/

/-- What the dispatcher decides on a frame. -/
inductive Verdict where
  | filtered
  | control
  | punt (reason : Nat)
  | take (kind : RxKind) (entry : Option Nat)

/-- Rows 9 to 17 of R336 for an IP datagram to entry `e`. -/
def State.classifyIp (s : State) (p : Nat) (b : Bytes) (es : List (Nat × Bytes)) (h : IpHead) (e : Nat × Bytes) : Verdict :=
  let on := s.boot.serving
  let sport := field b (h.l4 + 2) 2
  let type := octet b h.l4
  if h.odd then .punt 6
  else if !h.sumOk || (h.proto == 17 && !udpOk b h) then .punt 12
  else if h.fam = 6 ∧ h.proto = 58 ∧ type = 135 ∧ (es.any fun x => entFam x.2 == 6 && entAddr x.2 == slice b (h.l4 + 8) 16) then
    let t := (es.find? fun x => entFam x.2 == 6 && entAddr x.2 == slice b (h.l4 + 8) 16).getD e
    if on then .take .nd (some t.1) else .punt 8
  else if (h.fam = 4 ∧ h.proto = 1 ∧ type = 8) ∨ (h.fam = 6 ∧ h.proto = 58 ∧ type = 128) then
    if on && entSvc e.2 3 then .take .echo (some e.1) else .punt 8
  else if (h.fam = 4 ∧ h.proto = 1) ∨ (h.fam = 6 ∧ h.proto = 58) then .punt 10
  else if h.proto = 17 ∧ sport = 123 then (if on && entSvc e.2 0 then .take .ntp (some e.1) else .punt 8)
  else if h.proto = 17 ∧ (sport = 319 ∨ sport = 320) then
    if on && entSvc e.2 1 && s.ptpOn p then .take .ptp (some e.1) else .punt 8
  else if h.proto = 17 ∧ sport = s.effN Obj.atton_udp_port then
    if entSvc e.2 2 then .take .atton (some e.1) else .punt 8
  else .punt 1

/-- The first row of R336 that matches a frame from NP0 to NP7. -/
def State.classify (s : State) (p : Nat) (b : Bytes) : Verdict :=
  let h := parseEth b
  let on := s.boot.serving
  let es := (s.entries p).filter fun e => some (entTags e.2) == h.tags
  if field b 12 2 = 0x8808 then .control
  else if !isGroup h.dst && h.dst != s.effB Obj.mac_address p then .filtered
  else if isGroup h.dst && !s.groupOk p h.dst then .punt 9
  else if field b 12 2 = 0x8809 then .punt 11
  else if es.isEmpty then .punt 3
  else if h.et = 0x88F7 then (if on && s.ptpOn p then .take .ptp (es.head?.map Prod.fst) else .punt 8)
  else if h.et = s.effN Obj.atton_ethertype then .take .atton (es.head?.map Prod.fst)
  else if h.et = 0x0806 ∧ field b (h.off + 6) 2 = 1 ∧ h.off + 28 ≤ b.length ∧
      (es.any fun e => entFam e.2 == 4 && entAddr e.2 == slice b (h.off + 24) 4) then
    if on then .take .arp ((es.find? fun e => entFam e.2 == 4 && entAddr e.2 == slice b (h.off + 24) 4).map Prod.fst) else .punt 8
  else
    match parseIp b h.et h.off with
    | none => .punt 1
    | some ip =>
      match entryFor es ip.fam ip.dst with
      | none => .punt 2
      | some e => s.classifyIp p b es ip e

/-! ### The receive pool (R327 to R329) -/

/-- Cells of the pool. A bank that is lost takes its 8,192 cells with it (R522). -/
def State.poolCells (s : State) : Nat := 40960 - 8192 * (s.win.bankLost.filter fun b => decide (b < 5)).length

/-- Shared cells of the pool that are free. -/
def State.sharedFree (s : State) : Nat :=
  s.poolCells - ((List.range 9).map fun p => s.effN Obj.mac_rx_reserve p).sum - s.net.sharedUsed

/-- Cells are taken at the SFD, the reserve first (R328): the cells from the reserve, none where there are too few. -/
def State.admitFrame (s : State) (p n : Nat) : Option (State × Nat) :=
  let own := s.effN Obj.mac_rx_reserve p - (s.port p).rxReserve
  let r := min n own
  if n - r ≤ s.sharedFree then
    let s := s.modPort p fun x => { x with rxReserve := x.rxReserve + r }
    some ({ s with net := { s.net with sharedUsed := s.net.sharedUsed + (n - r) } }, r)
  else none

/-- Cells return to the pool: `r` to the reserve of the port and the rest to the shared cells. -/
def State.giveBack (s : State) (p r sh : Nat) : State :=
  let s := s.modPort p fun x => { x with rxReserve := x.rxReserve - r }
  { s with net := { s.net with sharedUsed := s.net.sharedUsed - sh } }

/-- The cells of a held frame return (R329). -/
def State.freeFrame (s : State) (f : RxFrame) : State := s.giveBack f.port f.reserve (f.cells - f.reserve)

/-! ### Punts and discards (R342 to R344, R348) -/

/-- A frame is discarded and counted (R348). -/
def State.discard (s : State) (p : Nat) : State := s.count Obj.mac_rx_discarded p

/-- The outer frame of a punt enters HP's transmit buffer (R342, R344); none where it has no room. -/
def State.puntRaw (s : State) (p : Nat) (b : Bytes) (reason flags stamp : Nat) : Option State :=
  let head := [1#8, 1#8, BitVec.ofNat 8 p, BitVec.ofNat 8 reason] ++ beBytes 2 b.length ++ beBytes 2 flags ++ beBytes 16 stamp
  let outer := ethFrame (s.effB Obj.hp_host_mac) (s.effB Obj.mac_address 8) [] (s.effN Obj.hp_ethertype) (head ++ b)
  s.enqueue 8 { bytes := outer, queue := s.effN Obj.hp_punt_queue, note := .answer }

/-- A frame is carried to the host (R342, R344). -/
def State.punt (s : State) (p : Nat) (b : Bytes) (reason flags stamp : Nat) : State :=
  match s.puntRaw p b reason flags stamp with
  | some s => s.count Obj.mac_rx_punted p
  | none => s.count Obj.mac_punt_drops p

/-- A Thresher punts a request under reason SERVICE, whatever the mask holds (R343); the request has counted as served (R405). Where HP's transmit
buffer has no room it is discarded and counted in `mac.punt_drops` (R56, R344). -/
def State.puntService (s : State) (f : RxFrame) : State := (s.puntRaw f.port f.bytes 7 0 f.stamp).getD (s.count Obj.mac_punt_drops f.port)

/-- "Punt (r)" of R336. HP punts nothing (R624). -/
def State.puntOr (s : State) (p : Nat) (b : Bytes) (reason flags stamp : Nat) : State :=
  if decide (p < 8) && (s.effN Obj.mac_punt_mask p).testBit reason then s.punt p b reason flags stamp else s.discard p

/-! ### Frames that end at a port -/

/-- The receive stamp of a frame (R98, R107): its instant, the STAMP128, and `tod.step_count` at the crossing. -/
def State.rxStamp (s : State) (f : FrameIn) : Tod × Nat × Nat :=
  let p := f.port.val
  let (t, m, u) := s.rxTime p (s.mode p) f.word
  (t, stamp128 t (s.portFlags p m u false false), m.steps)

/-- A frame joins those that wait for their unit (R329). -/
def State.await (s : State) (f : RxFrame) : State :=
  { s with net := { s.net with waiting := s.net.waiting ++ [{ f with id := s.net.nextId }], nextId := s.net.nextId + 1 } }

/-- Another node claims an address of an entry (R338). -/
def State.addrConflict (s : State) (p : Nat) (b : Bytes) : Bool :=
  let h := parseEth b
  let es := (s.entries p).filter fun e => some (entTags e.2) == h.tags
  let has (fam : Nat) (a : Bytes) : Bool := es.any fun e => entFam e.2 == fam && entAddr e.2 == a
  if h.src = s.effB Obj.mac_address p then false
  else if h.et = 0x0806 ∧ field b (h.off + 6) 2 = 1 ∧ h.off + 28 ≤ b.length then
    let spa := slice b (h.off + 14) 4
    has 4 spa || (spa == zeros 4 && has 4 (slice b (h.off + 24) 4))
  else
    match parseIp b h.et h.off with
    | some ip =>
      ip.fam == 6 && ip.proto == 58 && octet b ip.l4 == 135 &&
        (has 6 ip.src || (ip.src == zeros 16 && has 6 (slice b (ip.l4 + 8) 16)))
    | none => false

/-- The largest Atton message in octets (R487, R488). -/
def attonMax : Nat := 32 + 1360 + 16

/-- A message from a port reaches the Atton agent (R494): cells of its response are reserved, or it is discarded. -/
def State.attonArrive (s : State) (p : Nat) (back : Back) (msg : Bytes) : State :=
  let c := cellsOf (14 + 8 + 48 + attonMax + 4)
  let q := s.effN Obj.atton_queue
  let s := s.count Obj.mac_rx_served p
  if decide (64 ≤ s.gran.inbox.length) || decide (s.freeCells p q < c) then s.count Obj.atton_rx_drop
  else
    let s := s.useCells p q c
    { s with gran := { s.gran with inbox := s.gran.inbox ++ [{ bytes := msg, back := back, reserved := c, queue := q }] } }

/-- The transport return address and the message of a frame for the Atton agent (R495). -/
def attonBack (p : Nat) (entry : Option Nat) (b : Bytes) : Back × Bytes :=
  let h := parseEth b
  let e := entry.getD 0
  match parseIp b h.et h.off with
  | some ip =>
    ({ via := 2, port := p, entry := e, mac := h.src, addr := ip.src, udp := field b ip.l4 2, tags := h.off - 14, ipcp := h.ipcp },
      slice b (ip.l4 + 8) (field b (ip.l4 + 4) 2 - 8))
  | none =>
    let l := field b (h.off + 16) 2
    ({ via := 1, port := p, entry := e, mac := h.src, tags := h.off - 14, ipcp := h.ipcp }, slice b h.off (32 + l + 16))

/-- A MAC control frame at the frame level of its port, network port or HP (R330). DEDUCED (log entry 46): a PAUSE that is addressed to neither
address counts with the other opcodes. -/
def State.macControl (s : State) (f : RxFrame) : State :=
  let p := f.port
  let op := field f.bytes 14 2
  let own := f.bytes.take 6 == beBytes 6 0x0180C2000001 || f.bytes.take 6 == s.effB Obj.mac_address p
  if op = 1 ∧ own then s.await { f with kind := .pause }
  else if op = 0x0101 then ((s.freeFrame f).count Obj.mac_rx_pfc p).discard p
  else ((s.freeFrame f).count Obj.mac_rx_mac_ctl p).discard p

/-- The dispatcher reads a frame beyond row 2 of R336. -/
def Verdict.seen : Verdict → Bool
  | .filtered => false
  | .control => false
  | .punt r => r != 9
  | .take _ _ => true

/-- A frame that passed R324 and R325 is dispatched (R336, R345). -/
def State.dispatch (s : State) (f : RxFrame) : State :=
  let p := f.port
  let b := f.bytes
  if field b 12 2 = 0x8808 then s.macControl f
  else if p = 8 then
    if field b 12 2 = s.effN Obj.hp_ethertype then s.await { f with kind := .send }
    else if field b 12 2 = s.effN Obj.atton_ethertype then
      let (back, m) := attonBack 8 none b
      (s.freeFrame f).attonArrive 8 back m
    else ((s.freeFrame f).count Obj.hp_no_encap).discard 8
  else
    let v := s.classify p b
    let s := if v.seen && s.addrConflict p b then s.count Obj.mac_addr_conflict p else s
    match v with
    | .control => s.macControl f
    | .filtered => ((s.freeFrame f).count Obj.mac_rx_filtered p).discard p
    | .punt r => (s.freeFrame f).puntOr p b r 0 f.stamp
    | .take .atton e =>
      let (back, m) := attonBack p e b
      (s.freeFrame f).attonArrive p back m
    | .take k e =>
      let h := parseEth b
      s.await { f with kind := k, entry := e, tags := h.off - 14, pcp := h.pcp, ipcp := h.ipcp }

/-- FRAME_RECEIVE (R324, R325, R328, R336). -/
def frameReceiveEff (f : FrameIn) (s : State) : State :=
  let p := f.port.val
  let len := f.bytes.length + 4
  let maxl := s.effN Obj.mac_maxlen p + if p = 8 then 42 else 0
  if !s.linkUp p then s
  else
    let s := (s.count Obj.mac_rx_frames p).count Obj.mac_rx_octets p 0 len
    let s := (s.tally (44 + p) 1 1).tally (44 + p) 2 len
    let (t, st, steps) := s.rxStamp f
    match s.admitFrame p (cellsOf maxl) with
    | none => (s.count Obj.mac_rx_pool_drop p).tally (44 + p) 9 1
    | some (s, r) =>
      let all := cellsOf maxl
      let drop (s : State) : State := s.giveBack p r (all - r)
      if f.codeErr then ((drop s).count Obj.mac_rx_code_err p).discard p
      else if len < 64 then ((drop s).count Obj.mac_rx_runt p).discard p
      else if maxl < len then ((drop s).count Obj.mac_rx_oversize p).puntOr p (f.bytes.take maxl) 5 3 st
      else if !f.fcsOk then ((drop s).count Obj.mac_rx_fcs_err p).puntOr p f.bytes 4 1 st
      else
        let keep := cellsOf len
        let kr := min r keep
        let s := s.giveBack p (r - kr) (all - r - (keep - kr))
        s.dispatch
          { port := p, bytes := f.bytes, len := len, stamp := st, steps := steps, arr := t, cells := keep, reserve := kr, tick := s.tc.boundaries,
            cyc := s.tc.cyc }

/-- The oldest waiting frame of a kind. -/
def State.nextRx (s : State) (k : RxKind) : Option RxFrame := s.net.waiting.find? fun f => f.kind == k

/-- A waiting frame is taken from those that wait, and its cells return. -/
def State.takeRx (s : State) (f : RxFrame) : State :=
  ({ s with net := { s.net with waiting := s.net.waiting.filter fun x => x.id != f.id } } : State).freeFrame f

/-! ### Hardware answers (R334, R338 to R340) -/

/-- The tags of a frame that answers under an entry (R334). -/
def State.answerTags (s : State) (p : Nat) (e : Bytes) (ipcp : Nat) : Bytes :=
  tagSetBytes (entTags e) (s.effN Obj.mac_resp_pcp p) ipcp

/-- A frame built on a port under an entry (R334). -/
def State.buildFrame (s : State) (p : Nat) (e : Bytes) (ipcp : Nat) (dst : Bytes) (et : Nat) (body : Bytes) : Bytes :=
  ethFrame dst (s.effB Obj.mac_address p) (s.answerTags p e ipcp) et body

/-- A hardware response enters `mac.ctl_queue`, or its request is discarded (R340). -/
def State.answer (s : State) (p : Nat) (b : Bytes) : State :=
  match s.enqueue p { bytes := b, queue := s.effN Obj.mac_ctl_queue p, note := .answer } with
  | some s => s.count Obj.mac_rx_answered p
  | none => s.discard p

/-- The octets of the served entry that a frame answers. For a frame that drains after its entry was removed (R335), the entry is
the one that its own tags and destination name. -/
def State.entry (s : State) (f : RxFrame) : Bytes :=
  let e := s.effB Obj.mac_served f.port (f.entry.getD 0)
  if octet e 0 != 0 then e
  else
    let h := parseEth f.bytes
    let tags := h.tags.getD (0xFFFF, 0xFFFF)
    let head (fam : Byte) : Bytes := [fam, 0#8] ++ beBytes 2 tags.1 ++ beBytes 2 tags.2 ++ [0#8, 0#8]
    match parseIp f.bytes h.et h.off with
    | some ip => padTo 24 (head (BitVec.ofNat 8 ip.fam) ++ ip.dst)
    | none => padTo 24 (head 4#8 ++ slice f.bytes (h.off + 24) 4)

/-- An ARP body. -/
def arpBody (op : Nat) (sha spa tha tpa : Bytes) : Bytes :=
  beBytes 2 1 ++ beBytes 2 0x0800 ++ [6#8, 4#8] ++ beBytes 2 op ++ sha ++ spa ++ tha ++ tpa

/-- A neighbour advertisement as an IPv6 packet (R338). -/
def naPacket (solicited : Bool) (mac src dst : Bytes) : Bytes :=
  let body := [if solicited then 0x60#8 else 0x20#8, 0#8, 0#8, 0#8] ++ src ++ [2#8, 1#8] ++ mac
  let n := 4 + body.length
  let c := inetSum (pseudo 6 src dst 58 n ++ [136#8, 0#8, 0#8, 0#8] ++ body)
  ipHeader 6 0 n 58 255 src dst ++ [136#8, 0#8] ++ beBytes 2 c ++ body

/-- The ARP reply to a request (R338). -/
def State.arpReply (s : State) (f : RxFrame) : Bytes :=
  let h := parseEth f.bytes
  let e := s.entry f
  let mac := s.effB Obj.mac_address f.port
  let body := arpBody 2 mac (entAddr e) (slice f.bytes (h.off + 8) 6) (slice f.bytes (h.off + 14) 4)
  s.buildFrame f.port e f.ipcp h.src 0x0806 body

/-- ARP_REQUEST (R338). -/
def arpRequestEff (s : State) : State :=
  match s.nextRx .arp with
  | none => s
  | some f => (s.takeRx f).answer f.port (s.arpReply f)

/-- ARP_REQUEST (R338). -/
def execArpRequest (s : State) : Host.Outcome State Fault Refusal := .next (arpRequestEff s)

/-- The neighbour advertisement that answers a solicitation (R338): to all nodes where its source is unspecified. -/
def State.naReply (s : State) (f : RxFrame) : Bytes :=
  let h := parseEth f.bytes
  let e := s.entry f
  let mac := s.effB Obj.mac_address f.port
  let src := slice f.bytes (h.off + 8) 16
  if src = zeros 16 then s.buildFrame f.port e f.ipcp (beBytes 6 0x333300000001) 0x86DD (naPacket false mac (entAddr e) allNodes)
  else s.buildFrame f.port e f.ipcp h.src 0x86DD (naPacket true mac (entAddr e) src)

/-- NEIGHBOUR_SOLICITATION (R338). -/
def neighbourSolicitationEff (s : State) : State :=
  match s.nextRx .nd with
  | none => s
  | some f => (s.takeRx f).answer f.port (s.naReply f)

/-- NEIGHBOUR_SOLICITATION (R338). -/
def execNeighbourSolicitation (s : State) : Host.Outcome State Fault Refusal := .next (neighbourSolicitationEff s)

/-- The announcement of an entry (R338): a gratuitous ARP, or an unsolicited advertisement. -/
def State.announce (s : State) (p i : Nat) : State :=
  let e := s.effB Obj.mac_served p i
  let mac := s.effB Obj.mac_address p
  let a := entAddr e
  let put (b : Bytes) : State := s.send p { bytes := b, queue := s.effN Obj.mac_ctl_queue p, note := .answer }
  if !s.linkUp p then s
  else if entFam e = 4 then put (s.buildFrame p e 0 bcast 0x0806 (arpBody 1 mac a (zeros 6) a))
  else if entFam e = 6 then put (s.buildFrame p e 0 (beBytes 6 0x333300000001) 0x86DD (naPacket false mac a allNodes))
  else s

/-- Every entry of a port is announced when `mac.announce` is true (R338). -/
def State.announceAll (s : State) (p : Nat) : State :=
  if decide (p < 8) && s.effT Obj.mac_announce p then s.each ((s.entries p).map Prod.fst) fun s i => s.announce p i else s

/-- The echo reply to a request in packet `ip` (R339). -/
def State.echoReply (s : State) (f : RxFrame) (ip : IpHead) : Bytes :=
  let h := parseEth f.bytes
  let e := s.entry f
  let a := entAddr e
  let data := slice f.bytes (ip.l4 + 4) (ip.len - 4)
  let type : Byte := if ip.fam = 4 then 0#8 else 129#8
  let raw := [type, 0#8, 0#8, 0#8] ++ data
  let c := if ip.fam = 4 then inetSum raw else inetSum (pseudo 6 a ip.src 58 raw.length ++ raw)
  let m := [type, 0#8] ++ beBytes 2 c ++ data
  s.buildFrame f.port e f.ipcp h.src h.et (ipHeader ip.fam 0 m.length ip.proto 64 a ip.src ++ m)

/-- ICMP_ECHO_REQUEST (R339). -/
def icmpEchoRequestEff (s : State) : State :=
  match s.nextRx .echo with
  | none => s
  | some f =>
    let p := f.port
    let s1 := s.takeRx f
    if s.effN Obj.mac_icmp_rate p ≤ (s.port p).icmp then (s1.count Obj.mac_icmp_limited p).discard p
    else
      let h := parseEth f.bytes
      match parseIp f.bytes h.et h.off with
      | none => s1.discard p
      | some ip =>
        let t := s1.answer p (s.echoReply f ip)
        if t.valN Obj.mac_rx_answered p = s1.valN Obj.mac_rx_answered p then t else t.modPort p fun x => { x with icmp := x.icmp + 1 }

/-- ICMP_ECHO_REQUEST (R339). -/
def execIcmpEchoRequest (s : State) : Host.Outcome State Fault Refusal := .next (icmpEchoRequestEff s)

/-! ### PAUSE (R52, R331) -/

/-- Time of a PAUSE of `q` quanta on a port, ps. -/
def State.quantaPs (s : State) (p q : Nat) : Nat := q * 512 * 1000 / s.rate p

/-- The end of the frame in progress on a port, ps of tclk periods. -/
def State.frameEnd (s : State) (p : Nat) : Nat :=
  (s.port p).cal.foldl (fun m e => if e.committed then max m (s.todPs (e.t + e.w)).toNat else m) s.nowPs

/-- The MAC has a frame to send. -/
def Port.hasFrame (x : Port) : Bool := !x.cal.isEmpty || x.queues.toList.any fun q => !q.fifo.isEmpty

/-- Untimed entries whose instant falls in the hold are released (R357). -/
def State.releaseHeld (s : State) (p : Nat) : State :=
  let hit (e : CalEntry) : Bool := !e.reserved && !e.committed && s.inHold p e.t
  s.modPort p fun x => { x with cal := x.cal.map fun e => { e with released := e.released || hit e } }

/-- A hold begins at `from'` and ends at `till`, at most 125 µs later (R331). -/
def State.beginHold (s : State) (p from' till : Nat) : State :=
  (s.modPort p fun x => { x with pauseFrom := some from', pauseEnd := min till (from' + 125000000) }).releaseHeld p

/-- The time of a hold so far is counted (R331), ns. -/
def State.countHold (s : State) (p : Nat) : State :=
  match (s.port p).pauseFrom with
  | none => s
  | some a => s.count Obj.mac_pause_ns p 0 ((min s.nowPs (s.port p).pauseEnd - a) / 1000)

/-- A hold ends: its time is counted, and the MAC owes one frame before the next (R52). One that had not begun leaves nothing owed. -/
def State.endHold (s : State) (p : Nat) : State :=
  match (s.port p).pauseFrom with
  | none => s
  | some a => ((s.countHold p).modPort p fun x => { x with pauseFrom := none, pauseOwed := decide (a < s.nowPs) || x.pauseOwed }).replace p

/-- PAUSE (R330, R331): it is counted, and under HONOUR it holds the transmitter. -/
def pauseEff (s : State) : State :=
  match s.nextRx .pause with
  | none => s
  | some f =>
    let p := f.port
    let s := (((s.takeRx f).count Obj.mac_rx_pause p)).discard p
    let d := s.quantaPs p (field f.bytes 16 2)
    let x := s.port p
    if s.effN Obj.mac_pause_mode p = 0 then s
    else
      match x.pauseFrom with
      | some a =>
        if d = 0 then (s.modPort p fun x => { x with pauseEnd := s.nowPs }).endHold p
        else s.beginHold p a (max s.nowPs a + d)
      | none =>
        if d = 0 then s.modPort p fun x => { x with pauseNext := none }
        else if x.pauseOwed && x.hasFrame then s.modPort p fun x => { x with pauseNext := some (s.nowPs, d) }
        else
          let a := s.frameEnd p
          s.beginHold p a (a + d)

/-- PAUSE (R331). -/
def execPause (s : State) : Host.Outcome State Fault Refusal := .next (pauseEff s)

/-- PAUSE_HOLD_END (R331). -/
def pauseHoldEndEff (p : Nat) (s : State) : State :=
  let x := s.port p
  match x.pauseFrom with
  | some _ => if x.pauseEnd ≤ s.nowPs then s.endHold p else s
  | none => s

/-- PAUSE_HOLD_END (R331). -/
def execPauseHoldEnd (p : Fin 9) (s : State) : Host.Outcome State Fault Refusal := .next (pauseHoldEndEff p.val s)

/-- A frame has been sent: the frame that R52 owes is paid, and a PAUSE that waited for it begins. -/
def State.frameSent (s : State) (p : Nat) (till : Nat) : State :=
  let x := s.port p
  if !x.pauseOwed then s
  else
    let s := s.modPort p fun x => { x with pauseOwed := false, pauseNext := none }
    match x.pauseNext with
    | some (a, d) => if till < a + d then s.beginHold p till (a + d) else s
    | none => s

/-! ### Frames from the host (R346, R347) -/

/-- The checks of R347 on a SEND: the frame to transmit and its port, if it is good. Octets that pad an outer frame to 60 are not carried
(log entry 46). DESIGN CHOICE (log entry 59): for encoding 2 the correctionField that takes the fraction (R108) is the one of a PTP header whose body
begins with the stamp, 26 octets before it; with a stamp offset below 26 the fraction is dropped. -/
def State.checkSend (s : State) (b : Bytes) : Option (Nat × TxFrame) :=
  let h := b.drop 14
  let port := octet h 2
  let len := field h 4 2
  let carried := b.length - 38
  let req := (octet h 8).testBit 0
  let one := (octet h 8).testBit 1
  let enc := octet h 9
  let so := field h 10 2
  let co := field h 12 2
  let good :=
    decide (38 ≤ b.length) && octet h 0 == 1 && octet h 1 == 2 && decide (port < 8) && decide (octet h 3 < 8) && decide (14 ≤ len) &&
      decide (len + 4 ≤ s.effN Obj.mac_maxlen port) && (len == carried || (b.length == 60 && decide (len < carried))) && decide (octet h 8 < 4) && !(req && one) &&
      (if one then (enc == 2 || enc == 3) && decide (so + 10 ≤ len) else enc == 0 && so == 0) &&
      (co == 0xFFFF || decide (co + 2 ≤ len)) && (slice h 14 10).all (· == 0)
  if good then
    some (port,
      { bytes := slice b 38 len, queue := octet h 3, tag := field h 6 2, stampReq := req, enc := enc, stampOff := so, csumOff := co,
        cfOff := if enc = 2 ∧ 26 ≤ so then so - 26 else 0xFFFF, steps := s.steps, note := .host })
  else none

/-- HP_SEND (R346): a frame of the host enters the named queue, or is counted. -/
def hpSendEff (s : State) : State :=
  match s.nextRx .send with
  | none => s
  | some f =>
    let s := s.takeRx f
    match s.checkSend f.bytes with
    | none => (s.count Obj.hp_bad_send).discard 8
    | some (p, t) =>
      let full := (s.count Obj.mac_tx_drop_full p).discard 8
      if !s.linkUp p then full
      else
        match s.enqueue p t with
        | some s => s.count Obj.mac_rx_served 8
        | none => full

/-- HP_SEND (R346). -/
def execHpSend (s : State) : Host.Outcome State Fault Refusal := .next (hpSendEff s)

/-! ### Links (R318 to R320) -/

/-- The MACs run from boot step B11 on (R341). -/
def State.macsRun (s : State) : Bool := s.boot.reached != 0xFF && decide (11 ≤ s.boot.reached)

/-- A port negotiates: Clause 37, or the SGMII exchange (R316). -/
def State.negotiates (s : State) (p : Nat) : Bool := decide (4 ≤ s.mode p) && s.effN Obj.mac_an p == 1 && decide (p < 8)

/-- The link comes up, its calibration begins (R104) and its entries are announced (R338). -/
def State.linkRise (s : State) (p : Nat) : State :=
  if s.macsRun && s.mode p != 0 && !s.linkUp p then
    let s := s.setN Obj.mac_link 1 p
    let s := s.setN Obj.mac_an_result (if s.negotiates p then 1 else 0) p
    let s := s.modLane p fun x => { x with locked := true, lockedAt := s.tc.cyc }
    let s := (s.condEnd (263 + p)).beginCal p
    s.announceAll p
  else s

/-- Work dropped counts at its class (R48). -/
def State.drained (s : State) (cls n : Nat) : State := if n = 0 then s else s.count Obj.drain_drops cls 0 n

/-- Every frame of a transmit buffer is discarded (R320), and the cells of those that still held some return; what is reserved for frames
not yet built stays (R54). -/
def State.flush (s : State) (p : Nat) : State :=
  let x := s.port p
  let held := (x.queues.toList.map fun q => q.fifo).flatten
  let cal := (x.cal.filter fun e => !e.crossed).map fun e => e.frame
  let frames := held ++ cal
  let s := if frames.isEmpty then s else s.count Obj.mac_tx_flushed p 0 frames.length
  let s := s.each frames fun s f => (s.completeStamp p f.id true 0).missNote f
  let full := held ++ ((x.cal.filter fun e => e.reserved && !e.committed).map fun e => e.frame)
  let s := s.each full fun s f => s.useCells p f.queue (-(cellsOf f.len : Int))
  (s.countHold p).modPort p fun x =>
    { x with
      cal := [], active := [], pauseFrom := none, pauseOwed := false, pauseNext := none
      queues := x.queues.map fun q => { q with fifo := [], held := false, deficit := 0, granted := false } }

/-- The link of a port goes down (R320). -/
def State.linkDown (s : State) (p : Nat) : State :=
  let s := (s.setN Obj.mac_link 0 p).setN Obj.mac_an_result 0 p
  let s := (s.count Obj.mac_link_downs p).flush p
  let s := s.modLane p fun x => { x with locked := false }
  let s := s.modPort p fun x => { x with taking := false }
  let s := (s.setCal p 0).endCalibrate p 3
  s.condSet (263 + p) (s.mode p != 0)

/-- A committed change takes the link of a port down (R319): the frames flushed count at the class of the ports too (R48). -/
def State.takenDown (s : State) (p : Nat) : State :=
  let t := s.linkDown p
  t.drained 6 (t.valN Obj.mac_tx_flushed p - s.valN Obj.mac_tx_flushed p)

/-- A negotiation that refuses the link (R317, R318, log entry 46): under SGMII a PHY that reports 10 or 100 Mbit/s (`neg` = 1) holds the link
down and counts; another that does not complete shows FAILED. -/
def State.negRefused (s : State) (p neg : Nat) : State :=
  if s.macsRun then
    let wasUp := s.linkUp p
    let s := if wasUp then s.linkDown p else s
    if neg = 1 ∧ s.mode p = 5 then (if wasUp then s else s.count Obj.mac_link_downs p).setN Obj.mac_an_result 2 p
    else s.setN Obj.mac_an_result 3 p
  else s

/-- LINK_UP (R317, R318): the lock has held for `mac.up_delay`; `neg` is what negotiation found, 0 where it completed. -/
def linkUpEff (p held neg : Nat) (s : State) : State :=
  if neg ≠ 0 ∧ s.negotiates p then s.negRefused p neg
  else if s.effN Obj.mac_up_delay p ≤ held then s.linkRise p
  else s

/-- LINK_DOWN (R318, R320): a condition of the link has failed for `mac.down_delay`. -/
def linkDownEff (p failed : Nat) (s : State) : State := if s.linkUp p && decide (s.effN Obj.mac_down_delay p ≤ failed) then s.linkDown p else s

/-- The MAC of a port is sending a frame, or is committed to one. -/
def State.sending (s : State) (p : Nat) : Bool := (s.port p).cal.any fun e => e.committed && (!e.crossed || decide (s.tod < e.t + e.w))

/-- A committed change of `mac.mode`, `mac.tx_clock` or `serdes.polarity` (R319): the frame being sent ends first. -/
def State.retake (s : State) (p : Nat) : State :=
  let s := if s.linkUp p then (if s.sending p then s.modPort p fun x => { x with taking := true } else s.takenDown p) else s
  (s.condSet (263 + p) (s.mode p != 0 && !s.linkUp p)).putCal p

end Sys2Proof.Machine
end

