-- ==== Sys2Proof/Machine/Ntp.lean ====
section
/-! DEFINITION. NTP and NTS service (12_ntp_nts.md), the ingress policers (R367 to R371) and the reservation of launch instants on the
Flail pipelines (R109, R402). -/
namespace Sys2Proof.Machine

open Crypto

/-! ### Policing (R367 to R371) -/

/-- Entry `h` of the policer table. -/
def Policer.get (p : Policer) (h : Nat) : Nat := ((p.entries.find? fun e => e.1 == h).map Prod.snd).getD p.rest

/-- A rising list of numbered values with one value written; a value equal to `d` is not listed. -/
def putRising (h v d : Nat) : List (Nat × Nat) → List (Nat × Nat)
  | [] => if v = d then [] else [(h, v)]
  | (k, x) :: t =>
    if h < k then (if v = d then (k, x) :: t else (h, v) :: (k, x) :: t)
    else if h = k then (if v = d then t else (h, v) :: t)
    else (k, x) :: putRising h v d t

/-- Entry `h` written. -/
def Policer.put (p : Policer) (h v : Nat) : Policer := { p with entries := putRising h v p.rest p.entries }

/-- The fields of an entry as its 64 bits (R368). -/
def polEntry (stamp tokens excess : Nat) : Nat := stamp % 2 ^ 24 * 2 ^ 40 + tokens % 2 ^ 32 * 2 ^ 8 + excess % 2 * 2

/-- An entry brought up to date without charge (R369). -/
def State.polRefill (s : State) (e : Nat) : Nat :=
  let k := s.tickNow
  let add := (k % 2 ^ 24 + 2 ^ 24 - e / 2 ^ 40 % 2 ^ 24) % 2 ^ 24 * s.effN Obj.pol_rate * 65536 / 8000000
  polEntry k (min (e / 2 ^ 8 % 2 ^ 32 + add) (s.effN Obj.pol_burst * 65536)) (e / 2)

/-- The 17 octets that a message's source address gives (R367). -/
def State.polKey (s : State) (fam : Nat) (src : Bytes) : Bytes :=
  if fam = 4 then 4#8 :: padTo 16 src
  else
    let n := s.effN Obj.pol_v6_prefix
    6#8 :: beBytes 16 (beNat src / 2 ^ (128 - n) * 2 ^ (128 - n))

/-- The entry of a source: family 4 or 6 and its IP address (R367), or family 2 and its MAC address (log entry 22). -/
def State.polBucket (s : State) (fam : Nat) (src : Bytes) : Nat :=
  if fam = 2 then Config.macBucket src % 2 ^ 20 else sipHash (s.effB Obj.pol_hash_key) (s.polKey fam src) % 2 ^ 20

/-- police(m, s) of R369: whether the message passes. -/
def State.police (s : State) (p fam : Nat) (src : Bytes) (svc : Nat) : State × Bool :=
  let cost := s.effN Obj.pol_cost svc * 65536
  let h := s.polBucket fam src
  if !s.effT Obj.pol_enable || cost == 0 || s.win.bankLost.contains (28 + h / 65536) then (s.count Obj.pol_passed p, true)
  else
    let e := s.polRefill (s.net.policer.get h)
    let tokens := e / 2 ^ 8 % 2 ^ 32
    let pass := decide (cost ≤ tokens)
    let e := polEntry (e / 2 ^ 40) (if pass then tokens - cost else tokens) (if pass then 0 else 1)
    let s := { s with net := { s.net with policer := s.net.policer.put h e } }
    (if pass then s.count Obj.pol_passed p else s, pass)

/-- Every entry set as at start (R370). -/
def State.polReset (s : State) : State :=
  { s with net := { s.net with policer := { entries := [], rest := polEntry s.tickNow (s.effN Obj.pol_burst * 65536) 0 } } }

/-- POLICER_SWEEP (R370). -/
def policerSweepEff (s : State) : State :=
  let p := s.net.policer
  let rest := s.polRefill p.rest
  let l := (p.entries.map fun e => (e.1, s.polRefill e.2)).filter fun e => e.2 != rest
  { s with net := { s.net with policer := { entries := l, rest := rest } } }

/-- POLICER_SWEEP (R370). -/
def execPolicerSweep (s : State) : Host.Outcome State Fault Refusal := .next (policerSweepEff s)

/-- A kiss or a NAK may still be sent in the present TOD second (R371). -/
def State.kissLeft (s : State) (p : Nat) : Bool := decide ((s.port p).kisses < s.effN Obj.pol_kiss_rate)

/-- A kiss or a NAK is sent. -/
def State.useKiss (s : State) (p : Nat) : State := s.modPort p fun x => { x with kisses := x.kisses + 1 }

/-! ### The smear (R381, R382) -/

/-- The smear latch of an instance. -/
def State.smear (s : State) (i : Nat) : Smear := vat s.net.smears i {}

/-- The smear latch of an instance changed. -/
def State.modSmear (s : State) (i : Nat) (f : Smear → Smear) : State := { s with net := { s.net with smears := vmod s.net.smears i f } }

/-- r at a time of day at or after s_i (R380, R382). -/
def Smear.ratio (m : Smear) (t : Tod) : Rat :=
  match m.unwind with
  | some (b, r0) => ratMax 0 (r0 - ratMax 0 ((t - b : Int) : Rat) / (m.w : Rat))
  | none => ratMin 1 (((t - m.start : Int) : Rat) / (m.w : Rat))

/-- The pending leap in effect: +1 INSERT or −1 DELETE, and its time. -/
def State.leapEff (s : State) : Option (Int × Tod) :=
  let k := s.effN Obj.tod_leap_pending
  let t := ofTime128 (s.effN Obj.tod_leap_time)
  if k = 1 then some (1, t) else if k = 2 then some (-1, t) else none

/-- SMEAR_START (R382): at the boundary at s, or at a boundary within the first half of the window at which the leap becomes pending. -/
def smearStartEff (i : Nat) (s : State) : State :=
  match s.leapEff with
  | none => s
  | some (k, l) =>
    let w := s.effN Obj.ntp_smear_window i * secU
    let st := l - w / 2
    let b := s.tickTod
    if (s.smear i).held || s.effN Obj.ntp_timescale i != 1 then s
    else
      let latch (a wi : Int) : State :=
        let s := s.modSmear i fun _ => { held := true, start := a, w := wi, leap := l, k := k, old := s.effI Obj.tod_utc_offset }
        (s.setN Obj.ntp_smear_state 1 i).setN Obj.ntp_smear_start (time128 a) i
      if b = st then latch st w
      else if st < b ∧ b < l ∧ s.tc.leapNewAt = s.tc.boundaries then latch b (st + w - b)
      else s

/-- SMEAR_START (R382). -/
def execSmearStart (i : Fin 4) (s : State) : Host.Outcome State Fault Refusal := .next (smearStartEff i.val s)

/-- SMEAR_UNWIND (R382): the leap of the latch is pending no longer, before its time. -/
def smearUnwindEff (i : Nat) (s : State) : State :=
  let m := s.smear i
  let b := s.tickTod
  let fired := match s.tc.lastLeap with
    | some l => l.time == m.leap
    | none => false
  if m.held && m.unwind.isNone && decide (b < m.leap) && !fired && s.leapEff != some (m.k, m.leap) then
    (s.modSmear i fun m => { m with unwind := some (b, ratMax 0 (m.ratio b)) }).setN Obj.ntp_smear_state 2 i
  else s

/-- SMEAR_UNWIND (R382). -/
def execSmearUnwind (i : Fin 4) (s : State) : Host.Outcome State Fault Refusal := .next (smearUnwindEff i.val s)

/-- SMEAR_END (R382): the latch clears at s_i + W_i, or when unwinding has reached zero. -/
def smearEndEff (i : Nat) (s : State) : State :=
  let m := s.smear i
  let b := s.tickTod
  let over' := match m.unwind with
    | some _ => decide (m.ratio b ≤ 0)
    | none => decide (m.start + m.w ≤ b)
  if m.held && over' then ((s.modSmear i fun _ => {}).setN Obj.ntp_smear_state 0 i).setN Obj.ntp_smear_start 0 i else s

/-- SMEAR_END (R382). -/
def execSmearEnd (i : Fin 4) (s : State) : Host.Outcome State Fault Refusal := .next (smearEndEff i.val s)

/-! ### Conversion (R380) -/

/-- O(t): the offset in effect at a time of day (R380). -/
def State.offsetAt (s : State) (t : Tod) : Int :=
  match s.tc.lastLeap with
  | some l => if t < l.time then s.tc.offsetOld else s.effI Obj.tod_utc_offset
  | none => s.effI Obj.tod_utc_offset

/-- A time of day lies in the second that an insertion adds. -/
def State.inInserted (s : State) (t : Tod) : Bool :=
  let hit (l : LeapReg) : Bool := l.insert && decide (l.time - secU ≤ t) && decide (t < l.time)
  (s.tc.outRegs.leap.map hit).getD false || (s.tc.lastLeap.map hit).getD false

/-- u of R380 under UTC, in seconds. -/
def State.utcSeconds (s : State) (t : Tod) : Rat :=
  (t : Rat) / (secU : Rat) - (s.offsetAt t : Rat) - if s.inInserted t then 1 else 0

/-- u of R380 for an instance, in seconds. -/
def State.ntpSeconds (s : State) (i : Nat) (t : Tod) : Rat :=
  let m := s.smear i
  if s.effN Obj.ntp_timescale i = 1 ∧ m.held ∧ m.start ≤ t then (t : Rat) / (secU : Rat) - (m.old : Rat) - (m.k : Rat) * m.ratio t
  else s.utcSeconds t

/-- Seconds as a 64-bit NTP timestamp (R380). -/
def ntpOf (u : Rat) : Nat :=
  let w := u.floor
  ((w + 2208988800) % 2 ^ 32).toNat * 2 ^ 32 + ((u - (w : Rat)) * 2 ^ 32).floor.toNat % 2 ^ 32

/-- ntp64(i, t) of R380. -/
def State.ntp64 (s : State) (i : Nat) (t : Tod) : Nat := ntpOf (s.ntpSeconds i t)

/-! ### The response (R383 to R388) -/

/-- The UDP datagram of a received frame: its IP header and the payload. -/
def rxUdp (f : RxFrame) : Option (IpHead × Bytes) :=
  let h := parseEth f.bytes
  (parseIp f.bytes h.et h.off).map fun ip => (ip, slice f.bytes (ip.l4 + 8) (field f.bytes (ip.l4 + 4) 2 - 8))

/-- The instance of a received request (R379). -/
def State.ntpUnit (s : State) (f : RxFrame) : Nat := s.effN Obj.ntp_instance f.port (f.entry.getD 0) % 4

/-- The leap indicator (R383) of a response to a request received at `t`. -/
def State.ntpLi (s : State) (i : Nat) (t : Tod) : Nat :=
  let svc := s.valN Obj.hold_service
  if svc = 3 then 3
  else if svc = 2 ∧ s.effN Obj.ntp_li_out_of_spec = 1 then 3
  else if s.effN Obj.ntp_timescale i = 1 then 0
  else
    match s.leapEff with
    | some (k, l) => if l - s.effN Obj.ntp_leap_warn i * secU ≤ t ∧ t < l then (if k = 1 then 1 else 2) else 0
    | none => 0

/-- Precision of a port (R384): the smallest p with 2^p s at least its accuracy. -/
def State.ntpPrecision (s : State) (p : Nat) : Int := -(Nat.log2 (10 ^ 12 / max 1 (s.valN Obj.stamp_accuracy p)) : Int)

/-- Root dispersion (R385) of a response leaving at about `t`. -/
def State.ntpDispersion (s : State) (i p : Nat) (t : Tod) : Nat :=
  let sc := s.served p 233
  if sc = unbounded then 0xFFFFFFFF
  else
    let d := (s.ntp64 i t + 2 ^ 64 - ntpOf (s.utcSeconds t)) % 2 ^ 64
    let a : Rat := if s.effN Obj.ntp_smear_disp i = 1 then ((min d (2 ^ 64 - d) : Nat) : Rat) * 10 ^ 12 / 2 ^ 32 else 0
    min 0xFFFFFFFF (ratCeil (((sc : Rat) + a) * 65536 / 10 ^ 12)).toNat

/-- The reference ID (R386). -/
def State.ntpRefid (s : State) : Bytes :=
  let c := s.active
  if c < 23 then padTo 4 (s.effB Obj.ntp_refid c)
  else
    match s.sel.lastActive with
    | some c => padTo 4 (s.effB Obj.ntp_refid c)
    | none => [0x49#8, 0x4E#8, 0x49#8, 0x54#8]

/-- The 48-octet header of a response (R384) with the transmit timestamp `tx`, for a departure at about `t`. -/
def State.ntpHeader (s : State) (f : RxFrame) (req : Bytes) (tx : Nat) (t : Tod) : Bytes :=
  let i := s.ntpUnit f
  let p := f.port
  let li := s.ntpLi i f.arr
  let vn := octet req 0 / 8 % 8
  let poll := max (s.effI Obj.ntp_minpoll i) (min (s.effI Obj.ntp_maxpoll i) (beInt (slice req 2 1)))
  let ref := match s.sel.lockedTick with
    | some b => s.ntp64 i b
    | none => 0
  [BitVec.ofNat 8 (li * 64 + vn * 8 + 4), BitVec.ofNat 8 (if li = 3 then 16 else s.effN Obj.ntp_stratum i)] ++
    intBytes 1 poll ++ intBytes 1 (s.ntpPrecision p) ++ zeros 4 ++ beBytes 4 (s.ntpDispersion i p t) ++ s.ntpRefid ++
    beBytes 8 ref ++ slice req 40 8 ++ beBytes 8 (s.ntp64 i (ofStamp128 f.stamp)) ++ beBytes 8 tx

/-- The frame of a response with a UDP payload (R387). -/
def State.ntpFrame (s : State) (f : RxFrame) (ip : IpHead) (body : Bytes) : Bytes :=
  let h := parseEth f.bytes
  let e := s.entry f
  let a := entAddr e
  let u := udpDatagram ip.fam a ip.src 123 (field f.bytes ip.l4 2) body
  s.buildFrame f.port e f.ipcp h.src (if ip.fam = 4 then 0x0800 else 0x86DD)
    (ipHeader ip.fam (ip.tos / 4 * 4) u.length 17 (s.effN Obj.ntp_ttl) a ip.src ++ u)

/-- Octets of a response frame before its UDP payload. -/
def State.ntpFront (s : State) (f : RxFrame) (ip : IpHead) : Nat :=
  14 + (s.answerTags f.port (s.entry f) f.ipcp).length + (if ip.fam = 4 then 20 else 40) + 8

/-- Cells of a response with a UDP payload of `n` octets (R54). -/
def State.ntpCells (s : State) (f : RxFrame) (ip : IpHead) (n : Nat) : Nat := cellsOf (max 64 (s.ntpFront f ip + n + 4))

/-- The packet of R389: a kiss or a NAK without extension fields. -/
def State.kissPacket (s : State) (f : RxFrame) (req code : Bytes) : Bytes :=
  let vn := octet req 0 / 8 % 8
  let poll := max (beInt (slice req 2 1)) (s.effI Obj.ntp_kiss_minpoll (s.ntpUnit f))
  [BitVec.ofNat 8 (3 * 64 + vn * 8 + 4), 0#8] ++ intBytes 1 poll ++ intBytes 1 (s.ntpPrecision f.port) ++ zeros 8 ++ code ++
    zeros 8 ++ slice req 40 8 ++ zeros 16

/-- "RATE". -/
def rateCode : Bytes := [0x52#8, 0x41#8, 0x54#8, 0x45#8]

/-- "NTSN". -/
def ntsnCode : Bytes := [0x4E#8, 0x54#8, 0x53#8, 0x4E#8]

/-! ### Requests (R377, R378) -/

/-- An extension field: its type, its offset in the payload and its length. -/
structure ExtField where
  type : Nat
  off : Nat
  len : Nat
deriving DecidableEq, Repr

/-- The extension fields from an offset of the payload to its end (R378); none where the parse fails. -/
def extFields (b : Bytes) : Nat → Nat → Option (List ExtField)
  | 0, _ => none
  | fuel + 1, off =>
    if off = b.length then some []
    else
      let l := field b (off + 2) 2
      if off + 4 ≤ b.length ∧ l % 4 = 0 ∧ 16 ≤ l ∧ off + l ≤ b.length then
        (extFields b fuel (off + l)).map fun t => { type := field b off 2, off := off, len := l } :: t
      else none

/-- The fields of a payload. -/
def extOf (b : Bytes) : Option (List ExtField) := extFields b (b.length + 1) 48

/-- How R377 and R378 take a request. -/
inductive NtpClass where
  | legacy
  | badVersion
  | badMode
  | malformed
  | plain
  | nts
deriving DecidableEq, Repr

/-- The class of a UDP payload (R377, R378). -/
def ntpClass (b : Bytes) : NtpClass :=
  let vn := octet b 0 / 8 % 8
  let mode := octet b 0 % 8
  let bad := if b.length - 48 = 20 ∨ b.length - 48 = 24 then NtpClass.legacy else .malformed
  if mode = 6 ∨ mode = 7 then .legacy
  else if vn ≠ 3 ∧ vn ≠ 4 then .badVersion
  else if mode ≠ 3 then .badMode
  else if b.length < 48 then .malformed
  else if b.length = 48 then .plain
  else if vn = 3 then bad
  else
    match extOf b with
    | none => bad
    | some l =>
      if l.any fun e => e.type == 0x0104 then .nts
      else if l.any fun e => e.type == 0x0204 || e.type == 0x0404 then .malformed
      else .plain

/-- The class of a waiting frame. -/
def rxNtpClass (f : RxFrame) : NtpClass :=
  match rxUdp f with
  | some (_, b) => ntpClass b
  | none => .malformed

/-- A Thresher is left to take requests (R56). -/
def State.thresherUp (s : State) : Bool := s.win.thrSlots.toList.any Option.isSome

/-- A Thresher takes a frame: it counts once as served (R405). -/
def State.serve (s : State) (f : RxFrame) : State := (s.takeRx f).count Obj.mac_rx_served f.port

/-- A kiss-o'-death in excess (R389), or its discard (R371). -/
def State.kissPlain (s : State) (f : RxFrame) (ip : IpHead) (req : Bytes) : State :=
  let p := f.port
  if s.effN Obj.pol_action 0 = 0 then s.count Obj.pol_dropped p
  else if !s.kissLeft p then s.count Obj.pol_kiss_limited p
  else
    let frame : TxFrame :=
      { bytes := s.ntpFrame f ip (s.kissPacket f req rateCode), queue := s.effN Obj.ntp_queue (s.ntpUnit f), note := .answer }
    ((s.useKiss p).send p frame).count Obj.pol_kissed p

/-- A plain response enters its queue (R384, R387). -/
def State.ntpAnswer (s : State) (f : RxFrame) (ip : IpHead) (req : Bytes) : State :=
  let i := s.ntpUnit f
  let front := s.ntpFront f ip
  let frame : TxFrame :=
    { bytes := s.ntpFrame f ip (s.ntpHeader f req 0 s.tod), queue := s.effN Obj.ntp_queue i, enc := 1, stampOff := front + 40,
      csumOff := front - 2, steps := f.steps, note := .ntp i, born := s.update }
  s.send f.port frame

/-- A request of R377 that is no NTS request. -/
def State.ntpServe (s : State) (f : RxFrame) (ip : IpHead) (b : Bytes) : State :=
  let p := f.port
  let s := s.serve f
  match ntpClass b with
  | .legacy =>
    let s := s.count Obj.ntp_legacy p
    if s.effN Obj.ntp_unsupported = 1 then s.puntService f else s
  | .badVersion => s.count Obj.ntp_bad_version p
  | .badMode => s.count Obj.ntp_bad_mode p
  | .malformed => s.count Obj.ntp_malformed p
  | .nts => s
  | .plain =>
    let s := s.count Obj.ntp_requests p
    let s := if octet b 0 / 8 % 8 = 3 then s.count Obj.ntp_v3 p else s
    match s.police p ip.fam ip.src 0 with
    | (s, true) => s.ntpAnswer f ip b
    | (s, false) => s.kissPlain f ip b

/-- NTP_REQUEST (R377): the oldest waiting request that is no NTS request, once its cells are free (R54). -/
def ntpRequestEff (s : State) : State :=
  match s.net.waiting.find? fun f => f.kind == .ntp && rxNtpClass f != .nts with
  | none => s
  | some f =>
    match rxUdp f with
    | none => s
    | some (ip, b) =>
      let need := if ntpClass b = .plain then s.ntpCells f ip 48 else 0
      if s.thresherUp && decide (need ≤ s.freeCells f.port (s.effN Obj.ntp_queue (s.ntpUnit f))) then s.ntpServe f ip b else s

/-- NTP_REQUEST (R377). -/
def execNtpRequest (s : State) : Host.Outcome State Fault Refusal := .next (ntpRequestEff s)

/-! ### Reservation (R109 to R111) -/

/-- The least-loaded pipeline of a list and the time at which it is free. -/
def leastLoaded (active : List Nat) (free : Nat → Int) (now : Int) : Option (Nat × Int) :=
  active.foldl (fun b k =>
    let t := max now (free k)
    match b with
    | none => some (k, t)
    | some (j, u) => if t < u then some (k, t) else some (j, u)) none

/-- An AES pipeline for a job of `blocks` blocks: its number, the time at which it has accepted them, and the predicted completion. -/
def State.aesPick (s : State) (blocks : Nat) : Option (Nat × Int × Int) :=
  (leastLoaded s.win.aesActive (fun k => vat s.net.flail.aesFree k 0) s.tod).map fun (k, t) =>
    (k, t + blocks * nsU, t + (blocks + Config.aesDepth.val : Nat) * nsU)

/-- A SHA-256 pipeline for a job of `blocks` blocks (R434). -/
def State.shaPick (s : State) (blocks : Nat) : Option (Nat × Int × Int) :=
  (leastLoaded s.win.shaActive (fun k => vat s.net.flail.shaFree k 0) s.tod).map fun (k, t) =>
    (k, t + blocks * nsU, t + (blocks + Config.shaDepth.val : Nat) * nsU)

/-- reserve(p, r) of R109 for a wire time `w`, LEAD `lead` ns and predicted completion `c`: t_L, none where it lies too far ahead. -/
def State.reserve (s : State) (p lead : Nat) (w c : Int) : Option Tod :=
  let t := s.firstFree p (s.tod + lead * nsU + s.txFix p) w
  let t := if t - s.txFix p < c + 40 * nsU then s.firstFree p (c + 40 * nsU + s.txFix p) w else t
  if s.effN Obj.stamp_reserve_max * nsU < t - s.tod then none else some t

/-- A reservation enters the calendar and its frame's cells are held (R109, R351). -/
def State.enterReserved (s : State) (p : Nat) (t : Tod) (ready : Bool) (f : TxFrame) : State :=
  let s := s.pruneCal p
  let s := s.modPort p fun x =>
    { x with cal := x.cal ++ [{ t := t, w := s.wireTime p f.len, reserved := true, ready := ready, frame := f }] }
  ((s.useCells p f.queue (cellsOf f.len)).count Obj.cal_reservations p).tally (44 + p) 5 1

/-- A number for a frame or a job. -/
def State.takeId (s : State) : State × Nat := ({ s with net := { s.net with nextId := s.net.nextId + 1 } }, s.net.nextId)

/-- The Thresher that serves a request: one of the active ones, which the manual does not fix (log entry 28). -/
def State.someThresher (s : State) : State × Nat :=
  let l := s.win.thrSlots.toList.filterMap id
  let (s, v) := s.open
  (s, l.getD (v % (max 1 l.length : Nat)).toNat 0)

/-- A Flail pipeline, by its Tithe block, accepts a job of a Thresher whose blocks take the time from `a` to `b` (R547). -/
def State.tallyJob (s : State) (blk thr : Nat) (a b : Int) : State :=
  ((s.tally thr 5 1).tally blk 1 1).tally blk 2 ((b - a) / nsU).toNat

/-- A job is issued to an AES pipeline (R402). -/
def State.issueAes (s : State) (free : Int) (j : FlailJob) : State :=
  let (s, t) := s.someThresher
  let s := s.tallyJob (16 + j.pipe) t (max s.tod (vat s.net.flail.aesFree j.pipe 0)) free
  { s with net := { s.net with flail := { s.net.flail with
      jobs := s.net.flail.jobs ++ [{ j with thr := t }], aesFree := vmod s.net.flail.aesFree j.pipe fun _ => free } } }

/-- A job is issued to a SHA-256 pipeline (R434). -/
def State.issueSha (s : State) (free : Int) (j : FlailJob) : State :=
  let (s, t) := s.someThresher
  let s := s.tallyJob (26 + j.pipe) t (max s.tod (vat s.net.flail.shaFree j.pipe 0)) free
  { s with net := { s.net with flail := { s.net.flail with
      jobs := s.net.flail.jobs ++ [{ j with thr := t }], shaFree := vmod s.net.flail.shaFree j.pipe fun _ => free } } }

/-- The Flail pipelines' predicted times on the timescale after a step. -/
def State.stepFlail (s : State) (j : Int) : State :=
  { s with net := { s.net with flail :=
    { jobs := s.net.flail.jobs.map fun x => { x with doneAt := x.doneAt + j }
      aesFree := s.net.flail.aesFree.map (· + j), shaFree := s.net.flail.shaFree.map (· + j) } } }

/-! ### NTS requests (R391 to R394) -/

/-- What check 2 of R391 reads from an NTS request: its Unique Identifier field, its cookie, the number of placeholders, the offset
of its Authenticator field, nonce and ciphertext. -/
structure NtsReq where
  uid : Bytes
  cookie : Bytes
  holders : Nat
  auth : Nat
  nonce : Bytes
  ct : Bytes
deriving DecidableEq, Repr

/-- A length rounded up to whole words of 4 octets. -/
def pad4 (n : Nat) : Nat := (n + 3) / 4 * 4

/-- Check 2 of R391. -/
def ntsParse (b : Bytes) : Option NtsReq :=
  match extOf b with
  | none => none
  | some l =>
    let uids := l.filter fun e => e.type == 0x0104
    let cookies := l.filter fun e => e.type == 0x0204
    let holders := l.filter fun e => e.type == 0x0304
    let auths := l.filter fun e => e.type == 0x0404
    match uids, cookies, auths, l.getLast? with
    | [u], [c], [a], some z =>
      let n := field b (a.off + 4) 2
      let k := field b (a.off + 6) 2
      if 36 ≤ u.len ∧ c.len = 104 ∧ (holders.all fun e => e.len == 104) ∧ z.off = a.off ∧ 12 ≤ n ∧ n ≤ 32 ∧ 16 ≤ k ∧
          8 + pad4 n + pad4 k ≤ a.len then
        some
          { uid := slice b u.off u.len, cookie := slice b (c.off + 4) 100, holders := holders.length, auth := a.off,
            nonce := slice b (a.off + 8) n, ct := slice b (a.off + 8 + pad4 n) k }
      else none
    | _, _, _, _ => none

/-- The keys in a cookie (R395, R396): C2S and S2C, where it opens under a master key and its AEAD identifier is 15. -/
def openCookie (key cookie : Bytes) : Option (Bytes × Bytes) :=
  match sivOpen key [cookie.take 2, slice cookie 2 16] (cookie.drop 18) with
  | some p => if p.length = 66 ∧ field p 0 2 = 15 then some (slice p 2 32, slice p 34 32) else none
  | none => none

/-- A cookie minted under a master key with a nonce (R395, R396). -/
def mintCookie (key : Bytes) (id : Nat) (nonce c2s s2c : Bytes) : Bytes :=
  let h := beBytes 2 id
  h ++ nonce ++ sivSeal key [h, nonce] (beBytes 2 15 ++ c2s ++ s2c)

/-- The placeholders within a decrypted authenticator (R391). -/
def innerHolders (p : Bytes) : Nat :=
  match extFields p (p.length + 1) 0 with
  | some l => (l.filter fun e => e.type == 0x0304 && e.len == 104).length
  | none => 0

/-- What the crypto of a request yields (checks 6 and 7 of R391). -/
inductive NtsOpen where
  | badCookie
  | badAuth
  | ok (c2s s2c : Bytes) (holders : Nat)
deriving DecidableEq, Repr

/-- Checks 6 and 7 of R391 under a master key. -/
def ntsOpen (key b : Bytes) (r : NtsReq) : NtsOpen :=
  match openCookie key r.cookie with
  | none => .badCookie
  | some (c2s, s2c) =>
    match sivOpen c2s [b.take r.auth, r.nonce] r.ct with
    | none => .badAuth
    | some p => .ok c2s s2c (r.holders + innerHolders p)

/-- n of R392. -/
def State.ntsCount (s : State) (b : Bytes) (r : NtsReq) (holders : Nat) : Nat :=
  min (1 + holders) (min (s.effN Obj.nts_max_cookies) ((b.length - 84 - r.uid.length) / 104))

/-- AES blocks of the part of a job that opens and verifies (R402). -/
def verifyBlocks (r : NtsReq) : Nat :=
  let p := ceilDiv (r.ct.length - 16) 16
  12 + (2 + ceilDiv r.auth 16 + ceilDiv r.nonce.length 16 + max 1 p + p)

/-- AES blocks of an NTS response with `n` cookies (R402). -/
def ntsBlocks (r : NtsReq) (n : Nat) : Nat :=
  verifyBlocks r + 12 * n + (2 + ceilDiv (48 + r.uid.length) 16 + 1 + 2 * ceilDiv (104 * n) 16)

/-- AES blocks of an authenticated RATE packet (R402). -/
def kissBlocks (r : NtsReq) : Nat := verifyBlocks r + (2 + ceilDiv (48 + r.uid.length) 16 + 2)

/-- The slot under whose key cookies are minted (R398). -/
def State.mintSlot (s : State) : Option (Nat × KeySlot) :=
  ((List.range 8).map fun k => (k, vat s.net.nts k {})).find? fun e => e.2.state == 2

/-- The slot that a cookie's key ID names, if it is ACCEPT or ACTIVE in effect (check 4 of R391). -/
def State.cookieSlot (s : State) (r : NtsReq) : Option (Nat × KeySlot) :=
  ((List.range 8).map fun k => (k, vat s.net.nts k {})).find? fun e =>
    (e.2.state == 1 || e.2.state == 2) && e.2.id == field r.cookie 0 2

/-- A NAK (R394), within the budget of R371. -/
def State.nak (s : State) (f : RxFrame) (ip : IpHead) (b : Bytes) (r : NtsReq) : State :=
  let p := f.port
  if !s.kissLeft p then s.count Obj.pol_kiss_limited p
  else
    let frame : TxFrame :=
      { bytes := s.ntpFrame f ip (s.kissPacket f b ntsnCode ++ r.uid), queue := s.effN Obj.ntp_queue (s.ntpUnit f), note := .answer }
    ((s.useKiss p).send p frame).count Obj.nts_naks p

/-- An Authenticator field (R393). -/
def authField (nonce sealed : Bytes) : Bytes :=
  beBytes 2 0x0404 ++ beBytes 2 (8 + pad4 nonce.length + sealed.length) ++ beBytes 2 nonce.length ++ beBytes 2 sealed.length ++ nonce ++ sealed

/-- An NTS response is reserved and its job issued (checks 5 on of R391). It records the step_count of its request (R388). DESIGN CHOICE (log
entry 59): with no active AES pipeline left the request is discarded and counted in `stamp.crypto_busy`, as R109 does with one that no pipeline can
complete in time. -/
def State.ntsIssue (s : State) (f : RxFrame) (ip : IpHead) (b : Bytes) (r : NtsReq) (slot : Nat × KeySlot) : State :=
  let p := f.port
  let i := s.ntpUnit f
  let holders := match ntsOpen slot.2.key b r with
    | .ok _ _ h => h
    | _ => r.holders
  let n := s.ntsCount b r holders
  let len := s.ntpFront f ip + 84 + r.uid.length + 104 * n + 4
  let w := s.wireTime p (max 64 len)
  match s.aesPick (ntsBlocks r n) with
  | none => s.count Obj.stamp_crypto_busy p
  | some (pipe, free, c) =>
    match s.reserve p (s.effN Obj.stamp_lead_nts) w c with
    | none => s.count Obj.stamp_crypto_busy p
    | some t =>
      let head := s.ntpHeader f b (s.ntp64 i (ofStamp128 (stamp128 t 0))) t
      let body := head ++ r.uid ++ authField (zeros 12) (zeros (16 + 104 * n))
      let (s, id) := s.takeId
      let mint := (s.mintSlot).getD slot
      let frame : TxFrame :=
        { id := id, bytes := s.ntpFrame f ip body, queue := s.effN Obj.ntp_queue i, steps := f.steps, note := .nts,
          born := s.update }
      let s := s.enterReserved p t false frame.padded
      s.issueAes free
        { id := id, pipe := pipe, doneAt := c, port := p, work := .nts n i, key := slot.2.key, mint := mint.2.key, mintId := mint.2.id,
          mintSlot := mint.1, slot := slot.1, req := f, queue := frame.queue }

/-- A request in excess under KISS (R390): its RATE packet is a job too. -/
def State.kissIssue (s : State) (f : RxFrame) (ip : IpHead) (r : NtsReq) : State :=
  let p := f.port
  if s.effN Obj.pol_action 1 = 0 then s.count Obj.pol_dropped p
  else if !s.kissLeft p then s.count Obj.pol_kiss_limited p
  else
    match s.cookieSlot r with
    | none => s.count Obj.nts_bad_key p
    | some slot =>
      match s.aesPick (kissBlocks r) with
      | none => s.count Obj.stamp_crypto_busy p
      | some (pipe, free, c) =>
        let q := s.effN Obj.ntp_queue (s.ntpUnit f)
        let cells := s.ntpCells f ip (84 + r.uid.length)
        let (s, id) := s.takeId
        (s.useCells p q cells).issueAes free
          { id := id, pipe := pipe, doneAt := c, port := p, work := .kiss (s.ntpUnit f), key := slot.2.key, slot := slot.1, req := f,
            queue := q, cells := cells }

/-- The checks of R391 from check 3 on. -/
def State.ntsChecked (s : State) (f : RxFrame) (ip : IpHead) (b : Bytes) (r : NtsReq) : State :=
  match s.police f.port ip.fam ip.src 1 with
  | (s, false) => s.kissIssue f ip r
  | (s, true) =>
    match s.cookieSlot r with
    | none => (s.count Obj.nts_bad_key f.port).nak f ip b r
    | some slot => s.ntsIssue f ip b r slot

/-- NTS_REQUEST (R391): the oldest waiting NTS request, once cells for a response as long as it are free (R54, R392). DEDUCED (log entry 47): it
counts in `ntp.requests` once it is policed, as the table of R406 has it. -/
def ntsRequestEff (s : State) : State :=
  match s.net.waiting.find? fun f => f.kind == .ntp && rxNtpClass f == .nts with
  | none => s
  | some f =>
    match rxUdp f with
    | none => s
    | some (ip, b) =>
      let p := f.port
      let need := s.ntpCells f ip b.length
      if s.thresherUp && decide (need ≤ s.freeCells p (s.effN Obj.ntp_queue (s.ntpUnit f))) then
        let s := (s.serve f).count Obj.nts_requests p
        if !s.effT Obj.nts_enable then (s.count Obj.nts_punted p).puntService f
        else
          match ntsParse b with
          | none => s.count Obj.nts_malformed p
          | some r => (s.count Obj.ntp_requests p).ntsChecked f ip b r
      else s

/-- NTS_REQUEST (R391). -/
def execNtsRequest (s : State) : Host.Outcome State Fault Refusal := .next (ntsRequestEff s)

/-! ### The end of an NTS job (R393, R400) -/

/-- Cookies minted for a response (R393). -/
def State.mintMany (j : FlailJob) (c2s s2c : Bytes) : Nat → State → State × Bytes
  | 0, s => (s, [])
  | k + 1, s =>
    let (s, nonce) := s.random 16
    let c := beBytes 2 0x0204 ++ beBytes 2 104 ++ mintCookie j.mint j.mintId nonce c2s s2c
    let (s, rest) := State.mintMany j c2s s2c k s
    (s, c ++ rest)

/-- A reservation is released at a failed job. -/
def State.releaseJob (s : State) (j : FlailJob) : State :=
  match (s.port j.port).cal.find? fun e => e.frame.id == j.id with
  | some e => s.releaseReserved j.port e (cellsOf e.frame.len)
  | none => s

/-- An NTS response is sealed and its frame is complete in the transmit buffer (R393). -/
def State.ntsSeal (s : State) (j : FlailJob) (ip : IpHead) (r : NtsReq) (c2s s2c : Bytes) (n : Nat) : State :=
  let p := j.port
  let s := s.count Obj.nts_key_accepted j.slot
  match (s.port p).cal.find? fun e => e.frame.id == j.id with
  | none => s
  | some e =>
    let front := s.ntpFront j.req ip
    let ad := slice e.frame.bytes front (48 + r.uid.length)
    let (s, cookies) := State.mintMany j c2s s2c n s
    let (s, nonce) := s.random 12
    let body := ad ++ authField nonce (sivSeal s2c [ad, nonce] cookies)
    let s := (s.count Obj.nts_cookies p 0 n).count Obj.nts_key_minted j.mintSlot 0 n
    s.modCal p j.id fun e => { e with ready := true, frame := ({ e.frame with bytes := s.ntpFrame j.req ip body } : TxFrame).padded }

/-- An authenticated RATE packet is sent (R390). -/
def State.kissSeal (s : State) (j : FlailJob) (ip : IpHead) (b : Bytes) (r : NtsReq) (s2c : Bytes) : State :=
  let p := j.port
  let s := s.count Obj.nts_key_accepted j.slot
  if !s.kissLeft p then s.count Obj.pol_kiss_limited p
  else
    let ad := s.kissPacket j.req b rateCode ++ r.uid
    let (s, nonce) := s.random 12
    let body := ad ++ authField nonce (sivSeal s2c [ad, nonce] [])
    ((s.useKiss p).send p { bytes := s.ntpFrame j.req ip body, queue := j.queue, note := .answer }).count Obj.pol_kissed p

/-- An NTS response's job completes (R391 checks 6 and 7, R393). -/
def State.ntsDone (s : State) (j : FlailJob) (n : Nat) : State :=
  match rxUdp j.req with
  | none => s.releaseJob j
  | some (ip, b) =>
    match ntsParse b with
    | none => s.releaseJob j
    | some r =>
      match ntsOpen j.key b r with
      | .badCookie => ((s.releaseJob j).count Obj.nts_bad_cookie j.port).nak j.req ip b r
      | .badAuth => (((s.releaseJob j).count Obj.nts_key_accepted j.slot).count Obj.nts_bad_auth j.port).nak j.req ip b r
      | .ok c2s s2c _ => s.ntsSeal j ip r c2s s2c n

/-- An authenticated RATE packet's job completes (R390). -/
def State.kissDone (s : State) (j : FlailJob) : State :=
  let s := s.useCells j.port j.queue (-(j.cells : Int))
  match rxUdp j.req with
  | none => s
  | some (ip, b) =>
    match ntsParse b with
    | none => s
    | some r =>
      match ntsOpen j.key b r with
      | .badCookie => s.count Obj.nts_bad_cookie j.port
      | .badAuth => (s.count Obj.nts_key_accepted j.slot).count Obj.nts_bad_auth j.port
      | .ok _ s2c _ => s.kissSeal j ip b r s2c

/-! ### Master key slots (R398, R401) -/

/-- `nts.key_check` of a key (R401). -/
def keyCheck (key : Bytes) : Nat := beNat ((sivSeal key [zeros 2, zeros 16] []).take 4)

end Sys2Proof.Machine
end

