-- ==== Sys2Proof/Machine/PtpMsg.lean ====
section
/-! DEFINITION. PTP messages (13_ptp.md): their layouts, which are those of IEEE 1588-2019 and IEEE 802.1AS-2020 that the chapter names
(log entry 23), addressing (R411), time fields (R413), authentication (R432 to R434) and reception. -/
namespace Sys2Proof.Machine

open Crypto

/-! ### Message types -/

/-- Sync. -/
def mSync : Nat := 0
/-- Delay_Req. -/
def mDelayReq : Nat := 1
/-- Pdelay_Req. -/
def mPdelayReq : Nat := 2
/-- Pdelay_Resp. -/
def mPdelayResp : Nat := 3
/-- Follow_Up. -/
def mFollowUp : Nat := 8
/-- Delay_Resp. -/
def mDelayResp : Nat := 9
/-- Pdelay_Resp_Follow_Up. -/
def mPdelayFup : Nat := 10
/-- Announce. -/
def mAnnounce : Nat := 11
/-- Signaling. -/
def mSignaling : Nat := 12
/-- Management. -/
def mManagement : Nat := 13

/-- Octets of a message before its TLVs, by its type; none for a type that the standard reserves. -/
def ptpBody (t : Nat) : Option Nat :=
  if t = 0 ∨ t = 1 ∨ t = 8 ∨ t = 12 then some 44
  else if t = 2 ∨ t = 3 ∨ t = 9 ∨ t = 10 then some 54
  else if t = 11 then some 64
  else if t = 13 then some 48
  else none

/-! ### Settings of an instance -/

/-- Instance `i` runs a profile of 802.1AS. -/
def State.gptp (s : State) (i : Nat) : Bool := decide (3 ≤ s.effN Obj.ptp_profile i)

/-- majorSdoId of an instance (R411). -/
def State.ptpSdo (s : State) (i : Nat) : Nat := if s.gptp i then 1 else 0

/-- Port `p` is a master port of an enabled instance (R408). -/
def State.isMaster (s : State) (i p : Nat) : Bool := s.effT Obj.ptp_enable i && (s.effN Obj.ptp_master_ports i).testBit p

/-- Port `p` is the slave port of an enabled instance. -/
def State.isSlave (s : State) (i p : Nat) : Bool := s.effT Obj.ptp_enable i && s.effN Obj.ptp_slave_port i == p

/-- A master port of an instance is in the state MASTER (R410). -/
def State.masterUp (s : State) (i p : Nat) : Bool := s.isMaster i p && s.linkUp p && s.boot.serving

/-- The port identity of an instance on a port; its port number is n + 1 (log entry 23). -/
def State.ptpIdent (s : State) (i p : Nat) : Bytes := padTo 8 (s.effB Obj.ptp_clock_identity i) ++ beBytes 2 (p + 1)

/-- 2^log s in units of 2⁻⁵⁶ ns. -/
def logTod (l : Int) : Int := if l < 0 then secU / 2 ^ l.natAbs else secU * 2 ^ l.natAbs

/-- 2^log s in ns. -/
def logNs (l : Int) : Nat := if l < 0 then oneSec / 2 ^ l.natAbs else oneSec * 2 ^ l.natAbs

/-- c_fmt of an instance's encoding (R210, R413). -/
def State.ptpFmt (s : State) (i : Nat) : Nat := if s.effN Obj.ptp_ts_encoding i = 0 then 0 else 1000

/-! ### Time fields (R413) -/

/-- A PTP Timestamp of a STAMP128. -/
def ptpTs (st : Nat) : Bytes := beBytes 6 (st / 2 ^ 64 % 2 ^ 48) ++ beBytes 4 (st / 2 ^ 32 % 2 ^ 32)

/-- The fraction of a STAMP128 as an instance carries it in a correctionField, units of 2⁻¹⁶ ns. -/
def State.ptpFrac (s : State) (i st : Nat) : Int := if s.effN Obj.ptp_ts_encoding i = 0 then ((st / 2 ^ 16 % 2 ^ 16 : Nat) : Int) else 0

/-- The time of day of a PTP Timestamp. -/
def ofPtpTs (b : Bytes) : Tod := ((field b 0 6 : Nat) : Int) * secU + ((field b 6 4 : Nat) : Int) * nsU

/-- correctionField of a message, units of 2⁻¹⁶ ns. -/
def ptpCf (m : Bytes) : Int := beInt (slice m 8 8)

/-! ### Building -/

/-- controlField of a message type. -/
def ptpControl (t : Nat) : Nat := if t = 0 then 0 else if t = 1 then 1 else if t = 8 then 2 else if t = 9 then 3 else if t = 13 then 4 else 5

/-- A message of an instance on a port: the 34-octet header, and the body. -/
def State.ptpMsg (s : State) (i p t flags0 flags1 : Nat) (cf : Int) (seq : Nat) (log : Int) (body : Bytes) : Bytes :=
  [BitVec.ofNat 8 (s.ptpSdo i * 16 + t), 0x12#8] ++ beBytes 2 (34 + body.length) ++ [BitVec.ofNat 8 (s.effN Obj.ptp_domain i), 0#8] ++
    [BitVec.ofNat 8 flags0, BitVec.ofNat 8 flags1] ++ intBytes 8 cf ++ zeros 4 ++ s.ptpIdent i p ++ beBytes 2 seq ++
    [BitVec.ofNat 8 (ptpControl t)] ++ intBytes 1 log ++ body

/-- twoStepFlag. -/
def fTwoStep : Nat := 2

/-- unicastFlag. -/
def fUnicast : Nat := 4

/-! ### Authentication (R432 to R434) -/

/-- An ICV under a key: HMAC-SHA-256 truncated, or AES-128-CMAC. -/
def icvOf (alg : Nat) (key m : Bytes) : Bytes := if alg = 0 then (hmac256 key m).take 16 else cmac (key.take 16) m

/-- Blocks of a signature or verification over `m` octets (R434). -/
def icvBlocks (alg m : Nat) : Nat := if alg = 0 then ceilDiv (m + 9) 64 + 1 else ceilDiv m 16

/-- The octets that the ICV of a message covers: through octet 9 of its TLV at `off`, with a zero correctionField (R433). -/
def icvCover (m : Bytes) (off : Nat) : Bytes := patch (m.take (off + 10)) 8 (zeros 8)

/-- A signature or verification passes a Flail pipeline (R434); none where no pipeline is left. -/
def State.flailPass (s : State) (alg m : Nat) : Option State :=
  if alg = 0 then
    (s.shaPick (icvBlocks alg m)).map fun (k, free, _) =>
      { s with net := { s.net with flail := { s.net.flail with shaFree := vmod s.net.flail.shaFree k fun _ => free } } }
  else
    (s.aesPick (icvBlocks alg m)).map fun (k, free, _) =>
      { s with net := { s.net with flail := { s.net.flail with aesFree := vmod s.net.flail.aesFree k fun _ => free } } }

/-- A key slot of an instance in effect (R435). -/
def State.ptpKey (s : State) (i k : Nat) : KeySlot := vat (s.ptp i).keys k {}

/-- The slot with which an instance signs. -/
def State.ptpActiveKey (s : State) (i : Nat) : Option KeySlot := ((List.range 4).map (s.ptpKey i)).find? fun k => k.state == 2

/-- A message with an AUTHENTICATION TLV whose ICV is zero (R433). -/
def authTlv (m : Bytes) (spp id : Nat) : Bytes :=
  patch m 2 (beBytes 2 (m.length + 26)) ++ beBytes 2 0x8009 ++ beBytes 2 22 ++ [BitVec.ofNat 8 spp, 0#8] ++ beBytes 4 id ++ zeros 16

/-- A message as the instance sends it: signed unless `ptp.auth_mode` is OFF (R432). None where it cannot be signed. -/
def State.ptpSign (s : State) (i : Nat) (m : Bytes) : Option (State × Bytes) :=
  if s.effN Obj.ptp_auth_mode i = 0 then some (s, m)
  else
    match s.ptpActiveKey i with
    | none => none
    | some k =>
      let a := authTlv m (s.effN Obj.ptp_auth_spp i) k.id
      (s.flailPass k.alg (m.length + 10)).map fun s => (s, patch a (m.length + 10) (icvOf k.alg k.key (icvCover a m.length)))

/-! ### Frames (R411) -/

/-- The group MAC address and IP address of an instance's messages. -/
def State.ptpGroup (s : State) (i : Nat) (pdelay : Bool) : Bytes × Bytes :=
  let tr := s.effN Obj.ptp_transport i
  if tr = 1 then (beBytes 6 0x01005E000181, beBytes 4 0xE0000181)
  else if tr = 2 then (beBytes 6 0x333300000181, beBytes 2 0xFF0E ++ zeros 12 ++ [1#8, 0x81#8])
  else if pdelay || s.gptp i || s.effN Obj.ptp_l2_dest i == 1 then (beBytes 6 0x0180C200000E, [])
  else (beBytes 6 0x011B19000000, [])

/-- The frame of a message to a MAC and IP address, and the offset of the message in it. None where the port has no served entry to
send it from (R411, log entry 24). -/
def State.ptpFrame (s : State) (i p : Nat) (event : Bool) (dst : Bytes × Bytes) (ipcp : Nat) (m : Bytes) : Option (Bytes × Nat) :=
  let e := s.effB Obj.mac_served p (s.effN Obj.ptp_port_entry i p)
  let tr := s.effN Obj.ptp_transport i
  let fam := if tr = 1 then 4 else 6
  let tags := (s.answerTags p e ipcp).length
  if octet e 0 = 0 then none
  else if tr = 0 then some (s.buildFrame p e ipcp dst.1 0x88F7 m, 14 + tags)
  else if entFam e ≠ fam then none
  else
    let port := if event then 319 else 320
    let u := udpDatagram fam (entAddr e) dst.2 port port m
    let ip := ipHeader fam 184 u.length 17 64 (entAddr e) dst.2
    some (s.buildFrame p e ipcp dst.1 (if fam = 4 then 0x0800 else 0x86DD) (ip ++ u), 14 + tags + (if fam = 4 then 28 else 48))

/-- A message is signed, framed and queued (`ptp.queue`); whether it entered the queue. -/
def State.ptpSend (s : State) (i p : Nat) (event : Bool) (dst : Bytes × Bytes) (ipcp : Nat) (note : TxNote) (m : Bytes) : State × Bool :=
  match s.ptpSign i m with
  | none => (s, false)
  | some (s', m) =>
    match s'.ptpFrame i p event dst ipcp m with
    | none => (s, false)
    | some (b, _) =>
      match s'.enqueue p { bytes := b, queue := s'.effN Obj.ptp_queue i, steps := s'.steps, note := note, born := s'.update } with
      | some s' => (s', true)
      | none => (s, false)

/-- A message is sent, or lost where its queue has no room. -/
def State.ptpPut (s : State) (i p : Nat) (event : Bool) (dst : Bytes × Bytes) (ipcp : Nat) (note : TxNote) (m : Bytes) : State :=
  (s.ptpSend i p event dst ipcp note m).1

/-! ### Reception (R411, R412) -/

/-- A PTP message as it was received. -/
structure PtpIn where
  /-- 0 L2, 1 UDP4, 2 UDP6 -/
  tr : Nat
  /-- family for the policer: 4, 6, or 2 for L2 -/
  fam : Nat
  /-- source IP address, or MAC address over L2 -/
  src : Bytes
  mac : Bytes
  /-- it was sent to the port alone -/
  uni : Bool
  /-- the message, cut at its messageLength -/
  msg : Bytes
  /-- octets that the frame carries from the start of the message on -/
  room : Nat
deriving DecidableEq, Repr

/-- The PTP message of a frame. -/
def ptpIn (f : RxFrame) : PtpIn :=
  let h := parseEth f.bytes
  let uni := !isGroup h.dst
  if h.et = 0x88F7 then
    let b := f.bytes.drop h.off
    { tr := 0, fam := 2, src := h.src, mac := h.src, uni := uni, msg := b.take (field b 2 2), room := b.length }
  else
    match parseIp f.bytes h.et h.off with
    | some ip =>
      let b := slice f.bytes (ip.l4 + 8) (field f.bytes (ip.l4 + 4) 2 - 8)
      { tr := if ip.fam = 4 then 1 else 2, fam := ip.fam, src := ip.src, mac := h.src, uni := uni, msg := b.take (field b 2 2),
        room := b.length }
    | none => { tr := 0, fam := 2, src := h.src, mac := h.src, uni := uni, msg := [], room := 0 }

/-- The type of a message. -/
def PtpIn.type (x : PtpIn) : Nat := octet x.msg 0 % 16

/-- The addresses to which an answer to the sender alone goes. -/
def PtpIn.back (x : PtpIn) : Bytes × Bytes := (x.mac, x.src)

/-- The TLVs of a message from an offset on: type, offset and length of the value; none where they do not fit. -/
def tlvsGo (m : Bytes) : Nat → Nat → Option (List (Nat × Nat × Nat))
  | 0, _ => none
  | fuel + 1, off =>
    if off = m.length then some []
    else
      let l := field m (off + 2) 2
      if off + 4 ≤ m.length ∧ off + 4 + l ≤ m.length then (tlvsGo m fuel (off + 4 + l)).map fun t => (field m off 2, off + 4, l) :: t
      else none

/-- The TLVs of a message. -/
def PtpIn.tlvs (x : PtpIn) : Option (List (Nat × Nat × Nat)) := (ptpBody x.type).bind fun n => tlvsGo x.msg (x.msg.length + 1) n

/-- A message has the length of its type and valid TLVs. -/
def PtpIn.wellFormed (x : PtpIn) : Bool :=
  match ptpBody x.type with
  | some n => decide (n ≤ x.msg.length) && decide (field x.msg 2 2 ≤ x.room) && x.tlvs.isSome
  | none => false

/-- A frame was received before the present tick began: its work is that of the present tick (R37, R427). -/
def State.earlier (s : State) (f : RxFrame) : Bool := decide (f.tick < s.tc.boundaries)

/-- An instance works on a frame: it is enabled, or it was disabled after the frame was received and still drains (R47). -/
def State.ptpWorks (s : State) (i : Nat) (f : RxFrame) : Bool :=
  s.effT Obj.ptp_enable i || s.net.drains.any fun d => d.1 == 2 + i && d.2.1 == 4 && decide (f.tick < d.2.2)

/-- A frame came by a master port of an instance that works on it. -/
def State.onMaster (s : State) (i : Nat) (f : RxFrame) : Bool := s.ptpWorks i f && (s.effN Obj.ptp_master_ports i).testBit f.port

/-- A message has the transport, the domain, the SDO and the version of an instance that has its port (R411). -/
def State.ptpMatch (s : State) (i : Nat) (f : RxFrame) (x : PtpIn) : Bool :=
  ((s.effN Obj.ptp_master_ports i).testBit f.port || s.effN Obj.ptp_slave_port i == f.port) && s.effN Obj.ptp_transport i == x.tr &&
    octet x.msg 4 == s.effN Obj.ptp_domain i && octet x.msg 0 / 16 == s.ptpSdo i && octet x.msg 1 % 16 == 2

/-- The instance of a message on a port (R411). -/
def State.ptpFor (s : State) (f : RxFrame) (x : PtpIn) : Option Nat := (List.range 4).find? fun i => s.ptpWorks i f && s.ptpMatch i f x

/-- The instance in whose `ptp.wrong_domain` a message counts that belongs to none: the lowest of its transport on the port. -/
def State.ptpWrong (s : State) (p : Nat) (x : PtpIn) : Option Nat :=
  let on (i : Nat) : Bool := s.isMaster i p || s.isSlave i p
  match (List.range 4).find? fun i => on i && s.effN Obj.ptp_transport i == x.tr with
  | some i => some i
  | none => (List.range 4).find? on

/-- What the authentication of a received message decides (R432, R433). -/
def State.ptpVerify (s : State) (i : Nat) (x : PtpIn) : State × Bool :=
  let mode := s.effN Obj.ptp_auth_mode i
  if mode = 0 then (s, true)
  else
    match (x.tlvs.getD []).getLast? with
    | some (t, off, l) =>
      if t ≠ 0x8009 then (s, mode == 1)
      else
        let id := field x.msg (off + 2) 4
        match ((List.range 4).map (s.ptpKey i)).find? fun k => (k.state == 1 || k.state == 2) && k.id == id with
        | none => (s, false)
        | some k =>
          if l ≠ 22 ∨ octet x.msg off ≠ s.effN Obj.ptp_auth_spp i ∨ octet x.msg (off + 1) ≠ 0 then (s, false)
          else
            match s.flailPass k.alg (off + 6) with
            | none => (s, false)
            | some s => (s, icvOf k.alg k.key (icvCover x.msg (off - 4)) == slice x.msg (off + 6) 16)
    | none => (s, mode == 1)

/-- A message is taken from those that wait: it is served, found to belong to an instance, well formed and authentic, and counted. -/
def State.ptpAccept (s : State) (f : RxFrame) (x : PtpIn) : State × Option Nat :=
  let p := f.port
  let s := s.serve f
  match s.ptpFor f x with
  | none =>
    match s.ptpWrong p x with
    | some i => (s.count Obj.ptp_wrong_domain i p, none)
    | none => (s, none)
  | some i =>
    if !x.wellFormed then (s.count Obj.ptp_malformed i p, none)
    else
      match s.ptpVerify i x with
      | (s, true) => (if x.type < 8 then s.count Obj.ptp_rx_event i p else s.count Obj.ptp_rx_general i p, some i)
      | (s, false) => (s.count Obj.ptp_auth_fail i p, none)

/-- A message that R412 polices is taken: in excess it is discarded. -/
def State.ptpPoliced (s : State) (f : RxFrame) (x : PtpIn) : State × Option Nat :=
  match s.police f.port x.fam x.src 2 with
  | (s, true) => s.ptpAccept f x
  | (s, false) => ((s.serve f).count Obj.pol_dropped f.port, none)

/-- The unicast negotiation TLVs: REQUEST 4, GRANT 5, CANCEL 6, ACKNOWLEDGE 7. -/
def negotiation (t : Nat) : Bool := decide (4 ≤ t) && decide (t ≤ 7)

/-- The first negotiation TLV of a Signaling message, 0 for none. -/
def PtpIn.signal (x : PtpIn) : Nat :=
  match (x.tlvs.getD []).find? fun t => negotiation t.1 with
  | some t => t.1
  | none => 0

/-- The oldest waiting PTP frame of a type. -/
def State.nextPtp (s : State) (t : Nat) : Option (RxFrame × PtpIn) :=
  ((s.net.waiting.filter fun f => f.kind == .ptp).map fun f => (f, ptpIn f)).find? fun e => e.2.type == t

/-- The oldest waiting Signaling message with a first negotiation TLV among some. -/
def State.nextSignal (s : State) (ts : List Nat) : Option (RxFrame × PtpIn) :=
  ((s.net.waiting.filter fun f => f.kind == .ptp).map fun f => (f, ptpIn f)).find? fun e =>
    e.2.type == mSignaling && ts.contains e.2.signal

/-- No operation of its own takes a message of this kind: Management, other Signaling, and types that the standard reserves. -/
def PtpIn.other (x : PtpIn) : Bool := x.type == mManagement || (x.type == mSignaling && x.signal == 0) || (ptpBody x.type).isNone

/-- Management and other Signaling messages are punted (R412); a message of a reserved type is malformed. -/
def State.ptpScreen (s : State) : State :=
  s.each (s.net.waiting.filter fun f => f.kind == .ptp && (ptpIn f).other) fun s f =>
    let x := ptpIn f
    match if x.type == mSignaling then s.ptpPoliced f x else s.ptpAccept f x with
    | (s, some _) => s.puntService f
    | (s, none) => s

/-- FRAME_RECEIVE (R336): the dispatcher's work, and R412 for the PTP messages that are punted. -/
def execFrameReceive (f : FrameIn) (s : State) : Host.Outcome State Fault Refusal := .next (frameReceiveEff f s).ptpScreen

end Sys2Proof.Machine
end

