-- ==== Sys2Proof/Machine/PtpMaster.lean ====
section
/-! DEFINITION. The master side of PTP (13_ptp.md R410 to R425): Sync, Follow_Up, Announce, Delay_Resp and the Pdelay exchanges. -/
namespace Sys2Proof.Machine

open Crypto

/-! ### gPTP (R424) -/

/-- The Follow_Up information TLV of 802.1AS (R424). -/
def State.gmTlv (s : State) (i : Nat) : Bytes :=
  let x := s.ptp i
  beBytes 2 3 ++ beBytes 2 28 ++ [0#8, 0x80#8, 0xC2#8, 0#8, 0#8, 1#8] ++ zeros 4 ++ beBytes 2 x.gmInd ++ intBytes 12 x.gmPhase ++
    intBytes 4 x.gmFreq

/-- A step or a TIME adoption changes what the TLV carries: a phase in 2⁻¹⁶ ns and a change of frequency, FREQ64 (R424). -/
def State.gmEvent (s : State) (phase freq : Int) : State :=
  s.each (List.range 4) fun s i => s.modPtp i fun x =>
    { x with gmInd := (x.gmInd + 1) % 65536, gmPhase := phase, gmFreq := roundDiv freq 128 }

/-- A port is asCapable (R424): of its last three exchanges that are over at least one completed, and the last mean link delay lies
within the limit. -/
def State.asCapable (s : State) (i p : Nat) : Bool :=
  let l := vat (s.ptp i).pExch p []
  let ended := match l with
    | e :: t => if e.done then l else t
    | [] => []
  ((ended.take 3).any fun e => e.done) &&
    match vat (s.ptp i).pDelay p none with
    | some d => decide (d ≤ s.effN Obj.ptp_nbr_thresh i * nsU)
    | none => false

/-- `ptp.as_capable` of an instance. -/
def State.putAsCapable (s : State) (i : Nat) : State :=
  s.setN Obj.ptp_as_capable ((((List.range 8).filter fun p => s.gptp i && s.isMaster i p && s.asCapable i p).map fun p => 2 ^ p).sum : Nat) i

/-! ### Announce (R414 to R418) -/

/-- The Announce of an instance's parent. -/
def State.parentData (s : State) (i : Nat) : Bytes :=
  match (s.ptp i).parent with
  | none => []
  | some id => (((s.ptp i).foreign.find? fun f => f.port == id).map fun f => f.data).getD []

/-- The Announce that an instance copies as a boundary clock (R415). -/
def State.passFrom (s : State) (i : Nat) : Option Bytes :=
  let c := s.active
  if s.effT Obj.ptp_class_pass i && s.valN Obj.hold_service == 0 && decide (9 ≤ c) && decide (c ≤ 12) then
    let d := s.parentData (c - 9)
    if 64 ≤ d.length then some d else none
  else none

/-- clockClass now announced (R415). -/
def State.classNow (s : State) (i : Nat) : Nat :=
  match s.passFrom i with
  | some d => octet d 48
  | none => s.effN Obj.ptp_class_map i (s.valN Obj.hold_service)

/-- timeSource (R416). -/
def State.timeSource (s : State) : Nat :=
  match s.sel.lastTime with
  | none => 0xA0
  | some n =>
    if n < 8 then 0x90 else if n = 8 then 0x20 else if n ≤ 12 then 0x40
    else
      match s.upLink n with
      | some l => if 48 ≤ (s.link l).last.length then octet (s.link l).last 47 else 0x90
      | none => 0x90

/-- LEAP61 and LEAP59 (R417), as flag bits. -/
def State.ptpLeap (s : State) (i : Nat) : Nat :=
  match s.leapEff with
  | some (k, l) => if l - s.effN Obj.ptp_leap_warn i * secU ≤ s.tod ∧ s.tod < l then (if k = 1 then 1 else 2) else 0
  | none => 0

/-- The Phiholt scruple TLV (R418). -/
def State.scrTlv (s : State) (i p : Nat) : Bytes :=
  let flags := (if s.lockedTime then 1 else 0) + (if s.valN Obj.tod_state = 1 then 2 else 0)
  beBytes 2 3 ++ beBytes 2 16 ++ beBytes 3 0xDA7C15 ++ beBytes 3 1 ++ beBytes 6 (s.served p (s.ptpFmt i)) ++
    [BitVec.ofNat 8 (s.valN Obj.hold_service), BitVec.ofNat 8 flags, 0#8, 0#8]

/-- An Announce of an instance on a port (R414). -/
def State.announceMsg (s : State) (i p : Nat) (uni : Bool) (seq : Nat) (log : Int) : Bytes :=
  let svc := s.valN Obj.hold_service
  let pass := s.passFrom i
  let own (a b : Bytes) : Bytes := if pass.isSome then a else b
  let d := pass.getD []
  let valid := s.valN Obj.tod_state == 1 && s.utcOffsetValid
  let flags1 := s.ptpLeap i + (if valid then 4 else 0) + 8 + (if svc < 2 then 0x30 else 0)
  let acc := s.clockAccuracy (s.served p (s.ptpFmt i))
  let var := s.effN Obj.ptp_variance i svc
  let body := ptpTs (stamp128 s.tod 0) ++ intBytes 2 (s.effI Obj.tod_utc_offset) ++ [0#8] ++
    own (slice d 47 1) [BitVec.ofNat 8 (s.effN Obj.ptp_priority1 i)] ++ [BitVec.ofNat 8 (s.classNow i), BitVec.ofNat 8 acc] ++
    own (slice d 50 2) (beBytes 2 var) ++ own (slice d 52 1) [BitVec.ofNat 8 (s.effN Obj.ptp_priority2 i)] ++
    own (slice d 53 8) (padTo 8 (s.effB Obj.ptp_clock_identity i)) ++
    beBytes 2 (if pass.isSome then field d 61 2 + 1 else 0) ++ [BitVec.ofNat 8 s.timeSource]
  let tlv := if s.effT Obj.ptp_scruple_tlv i then s.scrTlv i p else []
  s.ptpMsg i p mAnnounce (if uni then fUnicast else 0) flags1 0 seq log (body ++ tlv)

/-- The last instant of a lattice of period `per` through `off` at or before `t`. -/
def lastInstant (t off per : Int) : Int := (t - off) / per * per + off

/-- ANNOUNCE_SEND (R414): a multicast Announce at each multiple of its interval (log entry 25). -/
def announceSendEff (i p : Nat) (s : State) : State :=
  let log := s.effI Obj.ptp_log_announce i
  let m := lastInstant s.tod 0 (logTod log)
  if s.masterUp i p && decide (s.effN Obj.ptp_mode i < 2) && decide (s.tod - m < tickU) && vat (s.ptp i).annAt p 0 != m then
    let seq := vat (s.ptp i).annSeq p 0
    let s := s.modPtp i fun x =>
      { x with annAt := vmod x.annAt p fun _ => m, annSeq := vmod x.annSeq p fun v => (v + 1) % 65536 }
    s.ptpPut i p false (s.ptpGroup i false) 0 (.general i p) (s.announceMsg i p false seq log)
  else s

/-- ANNOUNCE_SEND (R414). -/
def execAnnounceSend (i : Fin 4) (p : Fin 8) (s : State) : Host.Outcome State Fault Refusal := .next (announceSendEff i.val p.val s)

/-! ### Sync (R420) -/

/-- A Sync message: with the flags, a correctionField and an originTimestamp. -/
def State.syncMsg (s : State) (i p : Nat) (two uni : Bool) (seq : Nat) (log cf : Int) (ts : Bytes) : Bytes :=
  let flags := (if two then fTwoStep else 0) + (if uni then fUnicast else 0)
  s.ptpMsg i p mSync flags 0 cf seq log (ts ++ if s.gptp i && !two then s.gmTlv i else [])

/-- An authenticated one-step Sync is reserved and its ICV is a job (R109, R420, R434). -/
def State.syncReserve (s : State) (i p : Nat) (dst : Bytes × Bytes) (uni : Bool) (seq : Nat) (log : Int) : State :=
  match s.ptpActiveKey i with
  | none => s
  | some k =>
    let build (t : Tod) : Option (Bytes × Nat) :=
      let st := stamp128 t 0
      let m := s.syncMsg i p false uni seq log (s.ptpFrac i st) (ptpTs st)
      s.ptpFrame i p true dst 0 (authTlv m (s.effN Obj.ptp_auth_spp i) k.id)
    match build 0 with
    | none => s
    | some (b0, off) =>
      let len := max 64 (b0.length + 4)
      let blocks := icvBlocks k.alg (field b0 (off + 2) 2 - 16)
      match if k.alg = 0 then s.shaPick blocks else s.aesPick blocks with
      | none => s.count Obj.stamp_crypto_busy p
      | some (pipe, free, c) =>
        match s.reserve p (s.effN Obj.stamp_lead_ptp_auth) (s.wireTime p len) c with
        | none => s.count Obj.stamp_crypto_busy p
        | some t =>
          match build t with
          | none => s
          | some (b, off) =>
            let q := s.effN Obj.ptp_queue i
            if s.freeCells p q < cellsOf len then s
            else
              let (s, id) := s.takeId
              let frame : TxFrame :=
                { id := id, bytes := b, queue := q, csumOff := if s.effN Obj.ptp_transport i = 0 then 0xFFFF else off - 2,
                  steps := s.steps, note := .oneStep i p }
              let s := s.enterReserved p t false frame.padded
              let job : FlailJob :=
                { id := id, sha := k.alg == 0, pipe := pipe, doneAt := c, port := p, work := .sign i off k.alg, key := k.key, queue := q }
              if k.alg = 0 then s.issueSha free job else s.issueAes free job

/-- A Sync of an instance leaves by a port: one step at launch, two steps, or one step by reservation (R420). -/
def State.releaseSync (s : State) (i p : Nat) (dst : Bytes × Bytes) (seq : Nat) (log : Int) (sess : Option Nat) : State :=
  let uni := sess.isSome
  if s.effN Obj.ptp_step_mode i = 1 then
    match s.ptpSend i p true dst 0 (.sync i p seq sess) (s.syncMsg i p true uni seq log 0 (zeros 10)) with
    | (s, true) => s
    | (s, false) => s.count Obj.ptp_followup_missed i p
  else if s.effN Obj.ptp_auth_mode i ≠ 0 then s.syncReserve i p dst uni seq log
  else
    match s.ptpFrame i p true dst 0 (s.syncMsg i p false uni seq log 0 (zeros 10)) with
    | none => s
    | some (b, off) =>
      s.send p
        { bytes := b, queue := s.effN Obj.ptp_queue i, enc := if s.effN Obj.ptp_ts_encoding i = 0 then 2 else 3, stampOff := off + 34,
          cfOff := off + 8, csumOff := if s.effN Obj.ptp_transport i = 0 then 0xFFFF else off - 2, steps := s.steps,
          note := .oneStep i p }

/-- SYNC_RELEASE (R420): at each TOD instant that is a whole multiple of the Sync interval. -/
def syncReleaseEff (i p : Nat) (s : State) : State :=
  let log := s.effI Obj.ptp_log_sync i
  let m := lastInstant s.tod 0 (logTod log)
  if s.masterUp i p && decide (s.effN Obj.ptp_mode i < 2) && (!s.gptp i || s.asCapable i p) && decide (s.tod - m < tickU) &&
      vat (s.ptp i).syncAt p 0 != m then
    let seq := vat (s.ptp i).syncSeq p 0
    let s := s.modPtp i fun x =>
      { x with syncAt := vmod x.syncAt p fun _ => m, syncSeq := vmod x.syncSeq p fun v => (v + 1) % 65536 }
    s.releaseSync i p (s.ptpGroup i false) seq log none
  else s

/-- SYNC_RELEASE (R420). -/
def execSyncRelease (i : Fin 4) (p : Fin 8) (s : State) : Host.Outcome State Fault Refusal := .next (syncReleaseEff i.val p.val s)

/-- A one-step Sync's job completes: its ICV is written and the frame is complete (R433, R434). -/
def State.signDone (s : State) (j : FlailJob) (off alg : Nat) : State :=
  s.modCal j.port j.id fun e =>
    let b := e.frame.bytes
    let m := slice b off (field b (off + 2) 2)
    let icv := icvOf alg j.key (icvCover m (m.length - 26))
    { e with ready := true, frame := { e.frame with bytes := fixSum b e.frame.csumOff (off + m.length - 16) icv } }

/-! ### Follow_Ups (R421, R423) -/

/-- A Follow_Up is built from a transmit stamp and waits to be queued. Its cells are reserved first; without room its signing job is not issued, and
it is missed (R55). -/
def State.addFup (s : State) (i p t : Nat) (dst : Bytes × Bytes) (m : Bytes) : State :=
  let missed := s.count Obj.ptp_followup_missed i p
  match s.ptpSign i m with
  | none => missed
  | some (s', m) =>
    match s'.ptpFrame i p false dst 0 m with
    | none => missed
    | some (b, _) =>
      let q := s.effN Obj.ptp_queue i
      let c := cellsOf (max 64 (b.length + 4))
      if s.freeCells p q < c then missed
      else (s'.useCells p q c).modPtp i fun x => { x with fups := x.fups ++ [{ port := p, type := t, bytes := b, queue := q, cells := c }] }

/-- A Follow_Up no longer waits: its cells return. -/
def State.dropFup (s : State) (i : Nat) (e : Fup) : State :=
  (s.useCells e.port e.queue (-(e.cells : Int))).modPtp i fun x => { x with fups := x.fups.erase e }

/-- A session by its number. -/
def State.session (s : State) (n : Nat) : Option Session := s.net.sessions.find? fun x => x.num == n

/-- A Sync with a Follow_Up, a Pdelay_Resp or a request of the part's own has crossed the reference plane at `st` (a STAMP128): what
its stamp brings about (R421, R423, R424, R437). -/
def State.ptpCrossed (s : State) (f : TxFrame) (st : Nat) : State :=
  let t := ofStamp128 st
  let mark (l : List Exchange) (seq : Nat) : List Exchange :=
    l.map fun e => if e.seq == seq && !e.done && e.tx.isNone then { e with tx := some t, steps := s.steps } else e
  match f.note with
  | .sync i p seq sess =>
    let s := s.count Obj.ptp_tx_event i p
    let body := ptpTs st ++ if s.gptp i then s.gmTlv i else []
    match sess with
    | none =>
      s.addFup i p mFollowUp (s.ptpGroup i false) (s.ptpMsg i p mFollowUp 0 0 (s.ptpFrac i st) seq (s.effI Obj.ptp_log_sync i) body)
    | some n =>
      match s.session n with
      | some x => s.addFup i p mFollowUp (x.mac, x.addr) (s.ptpMsg i p mFollowUp fUnicast 0 (s.ptpFrac i st) seq x.sync.log body)
      | none => s.count Obj.ptp_followup_missed i p
  | .oneStep i p => s.count Obj.ptp_tx_event i p
  | .pdelayResp i p seq who =>
    let s := s.count Obj.ptp_tx_event i p
    s.addFup i p mPdelayFup (s.ptpGroup i true) (s.ptpMsg i p mPdelayFup 0 0 (s.ptpFrac i st) seq 0x7F (ptpTs st ++ who))
  | .delayReq i seq =>
    let s := s.count Obj.ptp_tx_event i (s.effN Obj.ptp_slave_port i)
    s.modPtp i fun x => { x with exch := mark x.exch seq }
  | .pdelayReq i p seq slave =>
    let s := s.count Obj.ptp_tx_event i p
    if slave then s.modPtp i fun x => { x with exch := mark x.exch seq }
    else s.modPtp i fun x => { x with pExch := vmod x.pExch p fun l => mark l seq }
  | .general i p => s.count Obj.ptp_tx_general i p
  | _ => s

/-- The oldest waiting Follow_Up of a type on a port is queued; with the link down it is lost (R421). -/
def State.sendFup (s : State) (i p t : Nat) : State :=
  match (s.ptp i).fups.find? fun e => e.port == p && e.type == t with
  | none => s
  | some e =>
    let s := s.dropFup i e
    let f : TxFrame := { bytes := e.bytes, queue := e.queue, note := .general i p }
    if !s.linkUp p then s.count Obj.ptp_followup_missed i p
    else
      match s.enqueue p f with
      | some s => s
      | none => s.count Obj.ptp_followup_missed i p

/-- FOLLOW_UP_SEND (R421). -/
def followUpSendEff (i p : Nat) (s : State) : State := s.sendFup i p mFollowUp

/-- FOLLOW_UP_SEND (R421). -/
def execFollowUpSend (i : Fin 4) (p : Fin 8) (s : State) : Host.Outcome State Fault Refusal := .next (followUpSendEff i.val p.val s)

/-- PDELAY_RESP_FOLLOW_UP_SEND (R423). -/
def pdelayRespFollowUpSendEff (i p : Nat) (s : State) : State := s.sendFup i p mPdelayFup

/-- PDELAY_RESP_FOLLOW_UP_SEND (R423). -/
def execPdelayRespFollowUpSend (i : Fin 4) (p : Fin 8) (s : State) : Host.Outcome State Fault Refusal :=
  .next (pdelayRespFollowUpSendEff i.val p.val s)

/-! ### Delay_Req and Pdelay_Req (R422, R423, R425) -/

/-- Cells that an answer may need in the queue of the instance that a request names (R54). -/
def State.ptpRoom (s : State) (f : RxFrame) (x : PtpIn) : Bool :=
  s.thresherUp &&
    match s.ptpFor f x with
    | some i => decide (cellsOf (f.len + 40) ≤ s.freeCells f.port (s.effN Obj.ptp_queue i))
    | none => true

/-- The session of a client (R426). -/
def State.sessionOf (s : State) (i p : Nat) (addr ident : Bytes) : Option Session :=
  s.net.sessions.find? fun x => x.inst == i && x.port == p && x.addr == addr && x.ident == ident

/-- A session changed. -/
def State.modSession (s : State) (n : Nat) (f : Session → Session) : State :=
  { s with net := { s.net with sessions := s.net.sessions.map fun x => if x.num == n then f x else x } }

/-- A Delay_Req of an instance is answered with a Delay_Resp, or has no grant (R422, R425). -/
def State.delayResp (s : State) (i : Nat) (f : RxFrame) (x : PtpIn) : State :=
  let p := f.port
  let mode := s.effN Obj.ptp_mode i
  let sess := s.sessionOf i p x.src (slice x.msg 20 10)
  let granted := match sess with
    | some y => y.resp.log != 127
    | none => false
  let s := match sess with
    | some y => s.modSession y.num fun y => { y with mac := x.mac }
    | none => s
  if !s.onMaster i f || s.effN Obj.ptp_delay_mech i != 0 then s
  else if (mode == 0 && x.uni) || (mode == 2 && !granted) then s.count Obj.ptp_no_grant i p
  else
    let log := if mode = 2 then (sess.map fun y => y.resp.log).getD 127 else s.effI Obj.ptp_log_delay_req i
    let m := s.ptpMsg i p mDelayResp (if x.uni then fUnicast else 0) 0 (ptpCf x.msg - s.ptpFrac i f.stamp) (field x.msg 30 2) log
      (ptpTs f.stamp ++ slice x.msg 20 10)
    s.ptpPut i p false (if x.uni then x.back else s.ptpGroup i false) f.ipcp (.general i p) m

/-- DELAY_REQ_RECEIVE (R422): the oldest waiting Delay_Req is policed and answered. -/
def delayReqReceiveEff (s : State) : State :=
  match s.nextPtp mDelayReq with
  | none => s
  | some (f, x) =>
    if !s.ptpRoom f x then s
    else
      match s.ptpPoliced f x with
      | (s, some i) => s.delayResp i f x
      | (s, none) => s

/-- DELAY_REQ_RECEIVE (R422). -/
def execDelayReqReceive (s : State) : Host.Outcome State Fault Refusal := .next (delayReqReceiveEff s)

/-- PDELAY_REQ_RECEIVE (R423): the oldest waiting Pdelay_Req is policed and answered with a two-step Pdelay_Resp. -/
def pdelayReqReceiveEff (s : State) : State :=
  match s.nextPtp mPdelayReq with
  | none => s
  | some (f, x) =>
    if !s.ptpRoom f x then s
    else
      match s.ptpPoliced f x with
      | (s, none) => s
      | (s, some i) =>
        let p := f.port
        let seq := field x.msg 30 2
        let who := slice x.msg 20 10
        let m := s.ptpMsg i p mPdelayResp fTwoStep 0 (s.ptpFrac i f.stamp) seq 0x7F (ptpTs f.stamp ++ who)
        if s.effN Obj.ptp_transport i ≠ 0 then s
        else s.ptpPut i p true (s.ptpGroup i true) f.ipcp (.pdelayResp i p seq who) m

/-- PDELAY_REQ_RECEIVE (R423). -/
def execPdelayReqReceive (s : State) : Host.Outcome State Fault Refusal := .next (pdelayReqReceiveEff s)

/-! ### Pdelay exchanges (R424) -/

/-- A Pdelay_Req message. -/
def State.pdelayReqMsg (s : State) (i p seq : Nat) : Bytes :=
  s.ptpMsg i p mPdelayReq 0 0 0 seq (if s.gptp i then s.effI Obj.ptp_log_pdelay i else 0x7F) (zeros 20)

/-- PDELAY_REQ_SEND (R424): on a master port under GPTP or GPTP_60802, each interval, while SB runs (R46). -/
def pdelayReqSendEff (i p : Nat) (s : State) : State :=
  let due := match vat (s.ptp i).pReqAt p none with
    | some c => s.passed c (logNs (s.effI Obj.ptp_log_pdelay i))
    | none => true
  if s.roleRuns 2 && s.gptp i && s.masterUp i p && due then
    let seq := vat (s.ptp i).pSeq p 0
    let s := s.modPtp i fun x =>
      { x with
        pReqAt := vmod x.pReqAt p fun _ => some s.tc.cyc, pSeq := vmod x.pSeq p fun v => (v + 1) % 65536
        pExch := vmod x.pExch p fun l => ({ seq := seq } : Exchange) :: l.take 4 }
    (s.putAsCapable i).ptpPut i p true (s.ptpGroup i true) 0 (.pdelayReq i p seq false) (s.pdelayReqMsg i p seq)
  else s

/-- PDELAY_REQ_SEND (R424). -/
def execPdelayReqSend (i : Fin 4) (p : Fin 8) (s : State) : Host.Outcome State Fault Refusal := .next (pdelayReqSendEff i.val p.val s)

/-- The exchange that a Pdelay_Resp (`fup` false) or its Follow_Up (`fup` true) belongs to, after the message: the mean link delay
where it completes. Its stamps t1 and t4 carry one step_count, or nothing is measured (R438). -/
def pdelayStep (e : Exchange) (f : RxFrame) (x : PtpIn) (fup : Bool) : Exchange × Option Int :=
  let cf := from16 (ptpCf x.msg)
  match e.tx, e.resp with
  | some t1, none =>
    if fup then (e, none)
    else if (octet x.msg 6).testBit 1 then ({ e with resp := some (ofPtpTs (slice x.msg 34 10) + cf, f.arr, f.steps, 0) }, none)
    else if e.steps ≠ f.steps then ({ e with resp := some (0, f.arr, f.steps, 0) }, none)
    else ({ e with done := true }, some ((f.arr - t1 - cf) / 2))
  | some t1, some (t2, t4, st, _) =>
    if fup && e.steps == st then ({ e with done := true }, some (((t4 - t1) - (ofPtpTs (slice x.msg 34 10) + cf - t2)) / 2)) else (e, none)
  | none, _ => (e, none)

/-- A Pdelay_Resp or its Follow_Up on a master port of gPTP: asCapable is reassessed (R424). -/
def State.pdelayMaster (s : State) (i : Nat) (f : RxFrame) (x : PtpIn) : State :=
  let p := f.port
  let seq := field x.msg 30 2
  let l := vat (s.ptp i).pExch p []
  match l.find? fun e => e.seq == seq && !e.done with
  | none => s
  | some e =>
    let (e', d) := pdelayStep e f x (x.type == mPdelayFup)
    let s := s.modPtp i fun y =>
      { y with
        pExch := vmod y.pExch p fun l => l.map fun z => if z.seq == seq then e' else z
        pDelay := match d with
          | some v => vmod y.pDelay p fun _ => some v
          | none => y.pDelay }
    s.putAsCapable i

end Sys2Proof.Machine
end

