-- ==== Sys2Proof/Machine/Cremin.lean ====
section
/-! DEFINITION. Cremin (14_cremin.md): links, TIME messages and the measurement over them, node numbers, transmit queues and
Winnow summaries. TUNNEL messages are received in Atton.lean, since they end at the Atton agent. -/
namespace Sys2Proof.Machine

/-! ### Links (R444 to R448) -/

/-- `crem.link_role` in effect: 0 OFF, 1 DOWN, 2 UP_PRIMARY, 3 UP_SECONDARY. -/
def State.role (s : State) (l : Nat) : Nat := if s.boot.laneHeld.contains (9 + l) then 0 else s.effN Obj.crem_link_role l

/-- A link leads up. -/
def State.isUp (s : State) (l : Nat) : Bool := s.role l == 2 || s.role l == 3

/-- A link is up and accepted. -/
def State.linkOk (s : State) (l : Nat) : Bool := (s.link l).up && (s.link l).accepted

/-- The accepted DOWN links. -/
def State.downLinks (s : State) : List Nat := (List.range 4).filter fun l => s.role l == 1 && s.linkOk l

/-- The accepted upstream link, UP_PRIMARY first. -/
def State.upstream (s : State) : Option Nat :=
  match (List.range 4).find? fun l => s.role l == 2 && s.linkOk l with
  | some l => some l
  | none => (List.range 4).find? fun l => s.role l == 3 && s.linkOk l

/-- A link comes up or goes down. -/
def State.setUp (s : State) (l : Nat) (up : Bool) : State :=
  let s := s.modLink l fun x =>
    { last := x.last, counts := x.counts, y := x.y, up := up, sentTick := true,
      lockSince := if up then some s.tc.cyc else none }
  let s := s.modLane (9 + l) fun x => { x with locked := up, lockedAt := if up then s.tc.cyc else x.lockedAt }
  let s := s.setN Obj.crem_link_state (if up then 1 else 0) l
  if up then s
  else ((s.setN Obj.crem_peer_node 0xFF l).setN Obj.crem_peer_depth 0xFF l).setN Obj.crem_roster 0 l

/-- A Cremin link may run: its lanes have started, `crem.enable` is true and its role is not OFF. -/
def State.linkRuns (s : State) (l : Nat) : Bool := s.crem.started && s.effT Obj.crem_enable && s.role l != 0

/-- CREMIN_LINK_UP (R446, R460): block lock has held without hi_ber for `held` ms; from 10 ms the link comes up and its lane is calibrated. -/
def creminLinkUpEff (l held : Nat) (s : State) : State :=
  if s.linkRuns l && !(s.link l).up && decide (10 ≤ held) then (s.setUp l true).beginCal (9 + l) else s

/-- CREMIN_LINK_UP (R446). -/
def execCreminLinkUp (l : Fin 4) (s : State) (held : Nat := 10) : Host.Outcome State Fault Refusal := .next (creminLinkUpEff l.val held s)

/-- A link goes down; the loss of an accepted upstream is a fault (R446, R469), and the lane's calibration is lost (R104). -/
def State.creminDown (s : State) (l : Nat) : State :=
  let lost := s.isUp l && s.linkOk l
  let s := (s.setUp l false).setCal (9 + l) 0
  if lost then s.raise (272 + l) else s

/-- CREMIN_LINK_DOWN (R446): block lock is lost, or no TIME message has passed its CRC for 8 consecutive ticks. -/
def creminLinkDownEff (l : Nat) (lockLost : Bool) (s : State) : State :=
  if (s.link l).up && (lockLost || decide (8 ≤ (s.link l).quiet)) then s.creminDown l else s

/-- CREMIN_LINK_DOWN (R446). -/
def execCreminLinkDown (l : Fin 4) (s : State) (lockLost : Bool := true) : Host.Outcome State Fault Refusal :=
  .next (creminLinkDownEff l.val lockLost s)

/-- A committed change of `crem.link_role` or `crem.enable`: a link that may no longer run goes down, and what waits on it drains (R47); a new role
is accepted anew. -/
def State.commitRole (s : State) (l : Nat) : State :=
  if !s.linkRuns l then
    if (s.link l).up then
      let q := (s.link l).queue
      (s.creminDown l).modLink l fun x => { x with queue := q }
    else s
  else if (s.link l).up then
    (s.modLink l fun x => { x with accepted := false, refused := false, arrived := false, lastSeq := none, steady := 0, dks := [], joinAt := none }).setN
      Obj.crem_link_state 1 l
  else s

/-- What a tick boundary does to the links: a tick without a transfer is counted, and the marks of the tick are cleared (R446, R454). -/
def State.creminTick (s : State) : State :=
  let s := s.each (List.range 4) fun s l =>
    let x := s.link l
    if x.up then
      let s := if x.arrived then s else s.count Obj.crem_time_missed l
      s.modLink l fun x =>
        { x with
          quiet := if x.crcOk then 0 else x.quiet + 1, steady := if x.arrived then x.steady + 1 else 0
          arrived := false, crcOk := false, sentTick := false, sent := [], blocks := 0 }
    else s.modLink l fun x => { x with sent := [], blocks := 0 }
  { s with crem := { s.crem with nodes := s.crem.nodes.map fun n => if n.held then { n with silent := if n.heard then 0 else n.silent + 1, heard := false } else n } }

/-! ### Messages (R450, R451, R467) -/

/-- The octets of a message: header block and data area with its CRC (R450, R451). -/
def creminMsg (type seq : Nat) (specific data : Bytes) : Bytes :=
  let h := [BitVec.ofNat 8 type, BitVec.ofNat 8 ((data.length + 4) / 8)] ++ beBytes 2 seq ++ specific
  h ++ data ++ beBytes 4 (Crypto.crc32 (h.drop 1 ++ data))

/-- A received message passes its CRC (R451): its header has no coding error and N names its data blocks. -/
def CremIn.ok (m : CremIn) : Bool :=
  let n := octet m.header 1
  !m.coding && m.header.length == 8 && decide (1 ≤ n) && decide (n ≤ 128) && m.data.length == 8 * n &&
    Crypto.crc32 (m.header.drop 1 ++ m.data.take (8 * n - 4)) == field m.data (8 * n - 4) 4

/-- Message type. -/
def CremIn.type (m : CremIn) : Nat := octet m.header 0

/-- Message sequence number. -/
def CremIn.seq (m : CremIn) : Nat := field m.header 2 2

/-- A discarded message or header block counts (R450, R451). -/
def State.creminBad (s : State) (l : Nat) : State := (s.count Obj.crem_crc_errors l).tally (53 + l) 3 1

/-- A header block that R450 discards: an unlisted type, a listed one with N of 0 or above 128, or an IDLE block that is not all
zeros. -/
def CremIn.badBlock (m : CremIn) : Bool :=
  let t := m.type
  let n := octet m.header 1
  if t = 0 then m.header.drop 1 != zeros 7
  else !([1, 0x81, 2, 3, 4, 5].contains t) || n == 0 || decide (128 < n)

/-- CREMIN_BAD_BLOCK (R450): the block is discarded with its data blocks and counted. -/
def creminBadBlockEff (l : Nat) (m : CremIn) (s : State) : State :=
  if (s.link l).up && m.badBlock then s.creminBad l else s

/-- CREMIN_BAD_BLOCK (R450). -/
def execCreminBadBlock (l : Fin 4) (m : CremIn) (s : State) : Host.Outcome State Fault Refusal := .next (creminBadBlockEff l.val m s)

/-- Octets that a waiting message takes in its queue. -/
def CremTx.size (m : CremTx) : Nat := 8 + m.data.length + 4

/-- A message joins the 64 KiB transmit queue of a link, or is discarded and counted (R467). -/
def State.creminQueue (s : State) (l : Nat) (m : CremTx) : State :=
  if ((s.link l).queue.map CremTx.size).sum + m.size ≤ 65536 then s.modLink l fun x => { x with queue := x.queue ++ [m] }
  else s.count Obj.crem_tunnel_drops

/-- The waiting message that goes first: ASSIGN, JOIN and SUMMARY before TUNNEL (R467). -/
def nextTx (q : List CremTx) : Option CremTx :=
  match q.find? fun m => m.type != 2 with
  | some m => some m
  | none => q.head?

/-- Whole blocks of a tick: 125 µs at 6.4 ns (R446, R467). -/
def tickBlocks : Nat := 19531

/-- Messages leave a queue while the tick has blocks for them; `fuel` bounds their number. -/
def State.creminDrain (l : Nat) : Nat → State → State
  | 0, s => s
  | fuel + 1, s =>
    match nextTx (s.link l).queue with
    | none => s
    | some m =>
      let n := 1 + (m.data.length + 4) / 8
      if tickBlocks < (s.link l).blocks + n then s
      else
        let seq := vat (s.link l).counts m.type 0
        let s := s.modLink l fun x =>
          { x with
            queue := x.queue.erase m, blocks := x.blocks + n, counts := vmod x.counts m.type fun c => (c + 1) % 65536
            sent := x.sent ++ [creminMsg m.type seq m.specific m.data] }
        creminDrain l fuel (if m.type = 2 then (s.count Obj.crem_tunnel_tx l).tally (53 + l) 4 n else s)

/-- TUNNEL_SEND (R467): after TIME and TIME_COPY, the queued messages are sent in the time that the tick leaves. -/
def tunnelSendEff (l : Nat) (s : State) : State :=
  if (s.link l).up && (s.link l).sentTick then State.creminDrain l (s.link l).queue.length s else s

/-- TUNNEL_SEND (R467). -/
def execTunnelSend (l : Fin 4) (s : State) : Host.Outcome State Fault Refusal := .next (tunnelSendEff l.val s)

/-! ### TIME (R452, R453) -/

/-- The timestamp point of a tick's TIME message: the first block boundary of its lane at or after 1,000 ns past the tick
boundary (R452, log entry 10). -/
def State.timePoint (s : State) (l : Nat) : Tod :=
  let start := if s.tc.stepInTick then s.tod - 2 * nsU * ((s.tc.cyc - s.tc.tickCyc : Nat) : Int) else s.tickTod
  let t := start + 1000 * nsU
  let ph : Int := (Config.startPhase (9 + l) 6 (s.lane (9 + l)).lockedAt s.tc.cyc (s.lineRef (9 + l)) : Int) + psToU (s.laneNow (9 + l)).tx
  t + (ph - t) % (64 * 2 ^ 56 / 10)

/-- A bit of a roster for a node number. -/
def rosterBit (n : Nat) : Nat := if 1 ≤ n ∧ n ≤ 48 then 2 ^ n else 0

/-- The roster sent on a link (R453, R466): the sender and what lies on its other accepted links, away from the receiver. -/
def State.rosterFor (s : State) (l : Nat) : Nat :=
  let others := if s.isUp l then s.downLinks else (List.range 4).filter fun k => k != l && s.linkOk k
  others.foldl (fun r k => r ||| s.valN Obj.crem_roster k % 2 ^ 49 / 2 * 2) (rosterBit s.crem.node)

/-- The 92 octets of a TIME message before its CRC (R453). -/
def State.timeData (s : State) (l : Nat) (t3 : Tod) : Bytes :=
  let x := s.link l
  let pend := s.effN Obj.tod_leap_pending
  let flags := (if s.valN Obj.tod_state = 1 then 1 else 0) + (if s.utcOffsetValid then 2 else 0) + (if s.lockedTime then 4 else 0) +
    (if s.inLeap then 8 else 0)
  beBytes 16 (stamp128 t3 (stampFlagsOf s.nowMark (s.laneNow (9 + l)) true)) ++ beBytes 16 x.rxStamp ++
    beBytes 2 (match x.rxLog with | e :: _ => e.1 | [] => 0) ++ beBytes 2 s.tc.tickNo ++ beBytes 2 s.steps ++
    [BitVec.ofNat 8 s.crem.depth, BitVec.ofNat 8 s.crem.node] ++ beBytes 6 s.creminScr ++
    [BitVec.ofNat 8 (s.valN Obj.hold_service), BitVec.ofNat 8 s.timeSource] ++ intBytes 8 (s.valI Obj.tod_freq_offset) ++
    intBytes 2 (s.effI Obj.tod_utc_offset) ++ [BitVec.ofNat 8 pend, BitVec.ofNat 8 flags] ++
    beBytes 8 (if pend = 0 then 0 else s.effN Obj.tod_leap_time / 2 ^ 64) ++ beBytes 8 (s.rosterFor l) ++
    beBytes 2 (s.effN Obj.crem_system_id) ++ padTo 3 s.crem.lineage ++ [BitVec.ofNat 8 l, BitVec.ofNat 8 (s.role l)] ++ zeros 9

/-- TIME (R452): once in every tick a link that is up sends TIME and then TIME_COPY. -/
def timeEff (l : Nat) (s : State) : State :=
  if (s.link l).up && !(s.link l).sentTick then
    let t3 := s.timePoint l
    let seq := s.tickNow % 65536
    let d := s.timeData l t3
    let st := ofStamp128 (stamp128 t3 0)
    (s.tally (53 + l) 1 1).modLink l fun x =>
      { x with
        sentTick := true, blocks := x.blocks + 26, txLog := keepNew 8 ((seq, st, s.steps) :: x.txLog)
        sent := x.sent ++ [creminMsg 1 seq (zeros 4) d, creminMsg 0x81 seq (zeros 4) d] }
  else s

/-- TIME (R452). -/
def execTime (l : Fin 4) (s : State) : Host.Outcome State Fault Refusal := .next (timeEff l.val s)

/-! ### Acceptance and measurement (R448, R454 to R458) -/

/-- `crem.link_state` that a TIME message gives: 2 accepted, or the failing condition of R448. -/
def State.acceptance (s : State) (l : Nat) (d : Bytes) : Nat :=
  let claim := octet d 82
  let depth := octet d 38
  if s.role l = 1 then (if claim = 2 ∨ claim = 3 then 2 else 3)
  else if claim ≠ 1 then 3
  else if 2 < depth then 4
  else if octet d 39 = 0xFF ∧ depth ≠ 0 then 5
  else if (slice d 78 3).contains (BitVec.ofNat 8 s.crem.node) then 6
  else 2

/-- A worker's depth and lineage follow its accepted upstream link (R445); so does the system identity it reads. -/
def State.retree (s : State) : State :=
  match s.upstream with
  | none => s
  | some l =>
    let d := (s.link l).last
    if s.dev.manager ∨ d.isEmpty then s
    else
      let depth := octet d 38 + 1
      let s := { s with crem := { s.crem with
        depth := depth, lineage := patch (slice d 78 3) (depth - 1) [BitVec.ofNat 8 s.crem.node] } }
      let s := s.setN Obj.crem_depth depth
      let id : Val := .n (field d 76 2)
      (s.setEff Obj.crem_system_id 0 0 id).setCfg Obj.crem_system_id 0 0 id

/-- The path delay d: the mean of the last values of d_k (R455). -/
def CremLink.delay (x : CremLink) : Option Int := if x.dks.isEmpty then none else some (roundDiv x.dks.sum x.dks.length)

/-- A value that an I64 field holds, clipped to its most positive or most negative value (R456). -/
def clipI64 (v : Int) : Int := max (-(2 ^ 63)) (min (2 ^ 63 - 1) v)

/-- d_k is formed where a message brings a valid t4 of one of our messages (R455): t1 and t2 are those of the message before. -/
def State.creminDelay (s : State) (l : Nat) (d : Bytes) : State :=
  let x := s.link l
  let rx := field d 16 16
  match x.txLog.find? (fun e => e.1 == field d 32 2), x.t1Log, x.rxLog with
  | some t3, t1 :: _, _ =>
    match x.rxLog.find? fun e => e.1 == t1.1 with
    | some t2 =>
      if stampFlags rx % 2 = 1 ∧ t1.2.2 = field d 36 2 ∧ t2.2.2 = t3.2.2 then
        let dk := ((t2.2.1 - t1.2.1) + (ofStamp128 rx - t3.2.1)) / 2
        let s := s.modLink l fun x => { x with dks := keepNew 8 (dk :: x.dks) }
        s.setN Obj.crem_path_delay (clipI64 (roundDiv ((s.link l).delay.getD 0) (2 ^ 40))) l
      else s
    | none => s
  | _, _, _ => s

/-- The offset x of a transfer with valid t1 and t2 (R455, R456). -/
def State.creminOffset (s : State) (l : Nat) (m : CremIn) : State :=
  let x := s.link l
  let d := x.last
  let tx := field d 0 16
  match x.delay, x.rxLog.find? fun e => e.1 == m.seq with
  | some dl, some t2 =>
    if stampFlags tx % 2 = 1 ∧ t2.2.2 = s.steps then
      let off := ofStamp128 tx + dl + psToU (s.effI Obj.crem_asym l) - t2.2.1
      let x16 := roundDiv off (2 ^ 40)
      let s := s.setN Obj.crem_offset (clipI64 x16) l
      s.addMeas (19 + s.role l) (s.newMeas t2.2.1 x16 (stampFlags x.rxStamp))
    else s
  | _, _ => s

/-- An accepted TIME message or copy is the transfer of its tick (R454). A t1 that is not valid is not kept (R455). -/
def State.creminTransfer (s : State) (l : Nat) (m : CremIn) : State :=
  let d := m.data
  let s := s.tally (53 + l) 2 1
  let s := if s.isUp l then s.creminDelay l d else s
  let s := s.modLink l fun x =>
    { x with
      arrived := true, last := d, lastSeq := some m.seq
      t1Log := if stampFlags (field d 0 16) % 2 = 1 then keepNew 8 ((m.seq, ofStamp128 (field d 0 16), field d 36 2) :: x.t1Log) else [] }
  if s.isUp l then
    let s := s.retree
    let term := if (octet d 59).testBit 0 then field d 40 6 else unbounded
    let s := s.modSlot (19 + s.role l) fun x => { x with srcTerm := term }
    s.creminOffset l m
  else s

/-- A message that passed its CRC is held against R448. The copy of a message that has been a transfer brings nothing new, but makes its own tick
one with a transfer (R454). -/
def State.creminJudge (s : State) (l : Nat) (m : CremIn) : State :=
  let d := m.data
  let a := s.acceptance l d
  let x := s.link l
  let s := s.setN Obj.crem_link_state a l
  let s := (s.setN Obj.crem_peer_node (octet d 39) l).setN Obj.crem_peer_depth (octet d 38) l
  let s := s.setN Obj.crem_roster (field d 68 8) l
  let s := s.modLink l fun x => { x with crcOk := true, accepted := a == 2, refused := a != 2 }
  if a = 2 then (if x.lastSeq = some m.seq then s.modLink l fun x => { x with arrived := true } else s.creminTransfer l m)
  else if x.refused then s else s.raise (276 + l)

/-- TIME_RECEIVE (R454): the receive stamp comes from a TIME header block without a coding error; a message that fails its CRC or has
another length is discarded and counted. -/
def timeReceiveEff (l : Nat) (m : CremIn) (s : State) : State :=
  if !(s.link l).up || !(m.type == 1 || m.type == 0x81) then s
  else
    let (t, mk, u) := s.rxTime (9 + l) 3 m.word
    let st := stamp128 t (stampFlagsOf mk u false)
    let s :=
      if m.type = 1 ∧ !m.coding then
        s.modLink l fun x =>
          { x with rxStamp := st, rxLog := keepNew 8 ((m.seq, ofStamp128 st, mk.steps) :: x.rxLog) }
      else s
    if m.ok && m.data.length == 96 then s.creminJudge l m else s.creminBad l

/-- TIME_RECEIVE (R454). -/
def execTimeReceive (l : Fin 4) (m : CremIn) (s : State) : Host.Outcome State Fault Refusal := .next (timeReceiveEff l.val m s)

/-! ### Node numbers (R461 to R464) -/

/-- The data area of a JOIN or ASSIGN without its CRC (R462). -/
def joinData (serial : Bytes) (node len : Nat) (path : Bytes) (index : Nat) : Bytes :=
  padTo 16 (serial.take 16) ++ [BitVec.ofNat 8 node, BitVec.ofNat 8 len] ++ padTo 3 (path.take 3) ++ [BitVec.ofNat 8 index] ++ zeros 6

/-- JOIN (R461): a worker sends it on an accepted upstream link at link-up and every 8,000 ticks. -/
def joinEff (l : Nat) (s : State) : State :=
  let due := match (s.link l).joinAt with
    | some b => decide (b + 8000 ≤ s.tc.boundaries)
    | none => true
  if !s.dev.manager && s.isUp l && s.linkOk l && due then
    let s := s.modLink l fun x => { x with joinAt := some s.tc.boundaries }
    s.creminQueue l { type := 3, specific := zeros 4, data := joinData s.dev.serial s.crem.node 0 [] 0 }
  else s

/-- JOIN (R461). -/
def execJoin (l : Fin 4) (s : State) : Host.Outcome State Fault Refusal := .next (joinEff l.val s)

/-- A node number's record. -/
def State.nodeRec (s : State) (n : Nat) : CremNode := vat s.crem.nodes n {}

/-- A node number's record changed. -/
def State.modNode (s : State) (n : Nat) (f : CremNode → CremNode) : State :=
  { s with crem := { s.crem with nodes := vmod s.crem.nodes n f } }

/-- `crem.nodes` counts the numbers held. -/
def State.countNodes (s : State) : State :=
  s.setN Obj.crem_nodes (((List.range 49).filter fun n => (s.nodeRec n).held).length : Nat)

/-- The serial that `crem.assign` reserves for a node, if any. -/
def State.reservedFor (s : State) (n : Nat) : Option Bytes :=
  let a := s.effB Obj.crem_assign (n - 1)
  if a = zeros 16 then none else some a

/-- The numbers 1 to 48. -/
def nodeNumbers : List Nat := (List.range 48).map (· + 1)

/-- Another serial has held a number within the last 3 s (R463). -/
def State.heldByOther (s : State) (n : Nat) (serial : Bytes) : Bool :=
  let r := s.nodeRec n
  r.serial != serial && (r.held || match r.relAt with
    | some c => !s.passed c (3 * oneSec)
    | none => false)

/-- The number that the manager gives in answer to a JOIN, 0xFF for refused (R463). -/
def State.assignFor (s : State) (serial : Bytes) (node : Nat) : Nat :=
  if node = 0xFF then
    match nodeNumbers.find? fun n => s.reservedFor n == some serial with
    | some n => n
    | none =>
      match nodeNumbers.find? fun n => (s.nodeRec n).held && (s.nodeRec n).serial == serial with
      | some n => n
      | none => (nodeNumbers.find? fun n => !(s.nodeRec n).held && (s.reservedFor n).isNone).getD 0xFF
  else if node = 0 ∨ 48 < node then 0xFF
  else if (s.reservedFor node).any (fun r => r != serial) || s.heldByOther node serial then 0xFF
  else node

/-- A JOIN of a serial keeps every number that it holds (R463). -/
def State.refreshSerial (s : State) (serial : Bytes) : State :=
  { s with crem := { s.crem with nodes := s.crem.nodes.map fun n =>
      if n.held && n.serial == serial then { n with heldAt := s.tc.cyc } else n } }

/-- The manager's answer to a JOIN (R463). -/
def State.answerJoin (s : State) (serial : Bytes) (node len : Nat) (path : Bytes) : State :=
  let s := s.refreshSerial serial
  let n := s.assignFor serial node
  let s :=
    if n = 0xFF then s.raise 280
    else
      let s := s.modNode n fun r =>
        if r.held ∧ r.serial = serial then r else { r with serial := serial, heldAt := s.tc.cyc, held := true, heard := true, silent := 0, lost := false }
      (s.setB Obj.crem_node_serial serial (n - 1)).countNodes
  let first := octet path 0
  if s.role first = 1 ∧ (s.link first).up then
    s.creminQueue first { type := 4, specific := zeros 4, data := joinData serial n len path 1 }
  else s

/-- JOIN_RECEIVE (R461, R463): the link joins the path, manager end first, and the JOIN goes on up the tree or is answered. -/
def joinReceiveEff (l : Nat) (m : CremIn) (s : State) : State :=
  if !(s.link l).up || m.type != 3 then s
  else if !(m.ok && m.data.length == 32) then s.creminBad l
  else
    let d := m.data
    let len := octet d 17
    if s.role l ≠ 1 ∨ 3 ≤ len then s
    else
      let path := (BitVec.ofNat 8 l :: slice d 18 3).take 3
      if s.dev.manager then s.answerJoin (d.take 16) (octet d 16) (len + 1) path
      else
        match s.upstream with
        | some u => s.creminQueue u { type := 3, specific := zeros 4, data := joinData (d.take 16) (octet d 16) (len + 1) path 0 }
        | none => s

/-- JOIN_RECEIVE (R463). -/
def execJoinReceive (l : Fin 4) (m : CremIn) (s : State) : Host.Outcome State Fault Refusal := .next (joinReceiveEff l.val m s)

/-- A node number is taken by this worker. -/
def State.takeNode (s : State) (n source : Nat) : State :=
  let s := { s with crem := { s.crem with node := n } }
  ((s.setN Obj.crem_node n).setN Obj.crem_addr_source source).retree

/-- An ASSIGN for this worker (R464). A worker that was refused keeps 0xFF until reset. -/
def State.assigned (s : State) (n : Nat) : State :=
  let src := s.valN Obj.crem_addr_source
  if s.crem.node = 0xFF then (if n = 0xFF ∨ src = 3 then s else s.takeNode n 2)
  else if n = s.crem.node then s
  else if n = 0xFF ∧ src = 1 then (s.takeNode 0xFF 3).raise 280
  else s.raise 280

/-- ASSIGN (R464): delivered at the end of its path, else forwarded down link path[index]. -/
def assignEff (l : Nat) (m : CremIn) (s : State) : State :=
  if !(s.link l).up || m.type != 4 then s
  else if !(m.ok && m.data.length == 32) then s.creminBad l
  else
    let d := m.data
    let len := octet d 17
    let index := octet d 21
    if s.dev.manager ∨ !s.isUp l then s
    else if index = len then (if d.take 16 = s.dev.serial then s.assigned (octet d 16) else s)
    else
      let next := octet d (18 + index)
      if index < 3 ∧ s.role next = 1 ∧ next < 4 ∧ (s.link next).up then
        s.creminQueue next { type := 4, specific := zeros 4, data := joinData (d.take 16) (octet d 16) len (slice d 18 3) (index + 1) }
      else s

/-- ASSIGN (R464). -/
def execAssign (l : Fin 4) (m : CremIn) (s : State) : Host.Outcome State Fault Refusal := .next (assignEff l.val m s)

/-- ADDRESS_HOLD_EXPIRE (R463): 3 s without a JOIN from its serial release a number. -/
def addressHoldExpireEff (n : Nat) (s : State) : State :=
  let r := s.nodeRec n
  if r.held && s.passed r.heldAt (3 * oneSec) then
    ((s.modNode n fun r => { r with held := false, relAt := some s.tc.cyc, silent := 0 }).setB Obj.crem_node_serial (zeros 16) (n - 1)).countNodes
  else s

/-- ADDRESS_HOLD_EXPIRE (R463). -/
def execAddressHoldExpire (n : Fin 49) (s : State) : Host.Outcome State Fault Refusal := .next (addressHoldExpireEff n.val s)

/-! ### Winnow summaries (R468, R469) -/

/-- The active fault sources (R509). -/
def State.activeSrcs (s : State) : List Nat := (List.range 320).filter fun k => (vat s.win.srcs k {}).active

/-- The highest severity among the active sources, 0xFF for none. -/
def State.highestSev (s : State) : Nat :=
  match s.activeSrcs with
  | [] => 0xFF
  | l => l.foldl (fun m k => max m (s.severity k)) 0

/-- `win.degraded` (R524): bits 14 and 15 follow their conditions. -/
def State.degraded (s : State) : Nat :=
  s.win.degraded % 2 ^ 14 + (if s.win.heartLost then 2 ^ 14 else 0) + (if s.win.pinLatch then 2 ^ 15 else 0)

/-- The 28 octets of a SUMMARY before its CRC (R468). -/
def State.summaryData (s : State) : Bytes :=
  let flags := (if s.degraded = 0 then 0 else 1) + (if s.valN Obj.win_status % 2 = 1 then 2 else 0) +
    (if s.win.pinLatch || s.win.heartLost then 4 else 0) + (if s.boot.outcome = 4 then 8 else 0) +
    (if s.active = 21 then 16 else 0) + (if s.active = 22 then 32 else 0)
  let first := match s.win.first with
    | some r => field r 0 2
    | none => 0xFFFF
  [BitVec.ofNat 8 s.crem.node, BitVec.ofNat 8 s.crem.depth, BitVec.ofNat 8 s.highestSev, BitVec.ofNat 8 flags] ++ beBytes 2 first ++
    beBytes 2 s.activeSrcs.length ++ beBytes 6 (s.valN Obj.scr_value) ++
    [BitVec.ofNat 8 (s.valN Obj.hold_service), BitVec.ofNat 8 s.active] ++ beBytes 4 s.dev.firmware ++ zeros 8

/-- SUMMARY (R468): a worker's summary of a tick whose number is congruent to 4 modulo 8. -/
def summaryEff (s : State) : State :=
  if !s.dev.manager && s.tc.tickNo % 8 == 4 && s.crem.sumAt != s.tc.boundaries && s.crem.started then
    let s := { s with crem := { s.crem with sumAt := s.tc.boundaries } }
    match s.upstream with
    | some u => s.creminQueue u { type := 5, specific := zeros 4, data := s.summaryData }
    | none => s
  else s

/-- SUMMARY (R468). -/
def execSummary (s : State) : Host.Outcome State Fault Refusal := .next (summaryEff s)

/-- SUMMARY_RECEIVE (R468, R469): a worker forwards it up the tree, the manager stores it. -/
def summaryReceiveEff (l : Nat) (m : CremIn) (s : State) : State :=
  if !(s.link l).up || m.type != 5 then s
  else if !(m.ok && m.data.length == 32) then s.creminBad l
  else if s.role l ≠ 1 then s
  else
    let d := m.data.take 28
    let n := octet d 0
    if s.dev.manager then
      if 1 ≤ n ∧ n ≤ 48 then
        (s.modNode n fun r => { r with silent := 0, heard := true, lost := false }).setB Obj.crem_node_state d (n - 1)
      else s
    else
      match s.upstream with
      | some u => s.creminQueue u { type := 5, specific := slice m.header 4 4, data := d }
      | none => s

/-- SUMMARY_RECEIVE (R469). -/
def execSummaryReceive (l : Fin 4) (m : CremIn) (s : State) : Host.Outcome State Fault Refusal := .next (summaryReceiveEff l.val m s)

/-- CREMIN_NODE_LOST (R469): a held number without a SUMMARY for 16 consecutive ticks is reported once. -/
def creminNodeLostEff (n : Nat) (s : State) : State :=
  let r := s.nodeRec n
  if s.dev.manager && r.held && decide (16 ≤ r.silent) && !r.lost then (s.modNode n fun r => { r with lost := true }).raise 281 else s

/-- CREMIN_NODE_LOST (R469). -/
def execCreminNodeLost (n : Fin 49) (s : State) : Host.Outcome State Fault Refusal := .next (creminNodeLostEff n.val s)

/-! ### TUNNEL routing (R465, R466) -/

/-- The segments of an Atton message (R465). -/
def segments : Nat → Bytes → List Bytes
  | 0, _ => []
  | fuel + 1, b => if b.length ≤ 1016 then [b] else b.take 1016 :: segments fuel (b.drop 1016)

/-- The TUNNEL messages that carry an Atton message (R465). -/
def tunnelMsgs (dst src ident : Nat) (msg : Bytes) : List CremTx :=
  let segs := segments 4 msg
  segs.zipIdx.map fun e =>
    let flags := (if e.2 = 0 then 1 else 0) + (if e.2 + 1 = segs.length then 2 else 0)
    let body := beBytes 2 e.1.length ++ beBytes 2 ident ++ e.1
    { type := 2, specific := [BitVec.ofNat 8 dst, BitVec.ofNat 8 src, BitVec.ofNat 8 flags, 0#8],
      data := padTo (8 * ceilDiv (e.1.length + 8) 8 - 4) body }

/-- The links on which a TUNNEL message for `dst` goes on (rules 2 to 4 of R466); `from'` is the link it came in on. -/
def State.tunnelLinks (s : State) (dst : Nat) (from' : Option Nat) : List Nat :=
  if dst = 0xFE then s.downLinks.filter fun l => some l != from'
  else
    match s.downLinks.find? fun l => (s.valN Obj.crem_roster l).testBit dst with
    | some l => [l]
    | none =>
      if s.dev.manager then []
      else match s.upstream with
        | some u => [u]
        | none => []

/-- A TUNNEL message goes on, or is discarded and counted (R466). -/
def State.tunnelForward (s : State) (dst : Nat) (from' : Option Nat) (m : CremTx) : State :=
  match s.tunnelLinks dst from' with
  | [] => if dst = 0xFE then s else s.count Obj.crem_tunnel_drops
  | ls => s.each ls fun s l => s.creminQueue l m

/-- An Atton message is sent to a node over the tree (R465, R495). -/
def State.tunnelOut (s : State) (dst : Nat) (msg : Bytes) : State :=
  let ident := s.crem.tunnelId
  let s := { s with crem := { s.crem with tunnelId := (ident + 1) % 65536 } }
  s.each (tunnelMsgs dst s.crem.node ident msg) fun s m => s.tunnelForward dst none m

end Sys2Proof.Machine
end

