-- ==== Sys2Proof/Machine/PtpSlave.lean ====
section
/-! DEFINITION. The slave side of PTP (13_ptp.md R436 to R438): the slave port's states, the choice of a parent, the measurements, and
what links and commits do to it. -/
namespace Sys2Proof.Machine

/-! ### Signaling as a unicast client (R436) -/

/-- An upstream's address: `ptp.uc_master` m, none while its family is 0. -/
def State.ucMaster (s : State) (i m : Nat) : Option (Nat × Bytes) :=
  let b := s.effB Obj.ptp_uc_master i m
  if octet b 0 = 4 then some (4, slice b 1 4) else if octet b 0 = 6 then some (6, slice b 1 16) else none

/-- The MAC address of an upstream: that of its latest message; before one has come the manual names none, and it is free (log entry 26). -/
def State.ucMac (s : State) (i : Nat) (addr : Bytes) : State × Bytes :=
  match (s.ptp i).foreign.find? fun f => f.addr == addr with
  | some f => (s, f.mac)
  | none =>
    let (s, v) := s.open
    (s, beBytes 6 (v.natAbs % 2 ^ 48))

/-- A Signaling message of an instance (R427, R436): the target port identity and the TLVs. -/
def State.signalMsg (s : State) (i p : Nat) (target tlvs : Bytes) : Bytes :=
  s.ptpMsg i p mSignaling fUnicast 0 0 (s.ptp i).sigSeq 0x7F (padTo 10 target ++ tlvs)

/-- A Signaling message is sent. -/
def State.sendSignal (s : State) (i p : Nat) (dst : Bytes × Bytes) (target tlvs : Bytes) : State :=
  let m := s.signalMsg i p target tlvs
  (s.modPtp i fun x => { x with sigSeq := (x.sigSeq + 1) % 65536 }).ptpPut i p false dst 0 (.general i p) m

/-- All port identities. -/
def anyTarget : Bytes := List.replicate 10 0xFF#8

/-- The log period that an instance requests for a message type (R436). -/
def State.ucLog (s : State) (i msg : Nat) : Int :=
  if msg = mAnnounce then s.effI Obj.ptp_log_announce i
  else if msg = mSync then s.effI Obj.ptp_log_sync i
  else s.effI Obj.ptp_log_delay_req i

/-- A REQUEST_UNICAST_TRANSMISSION TLV. -/
def requestTlv (msg : Nat) (log : Int) (dur : Nat) : Bytes :=
  beBytes 2 4 ++ beBytes 2 6 ++ [BitVec.ofNat 8 (msg * 16)] ++ intBytes 1 log ++ beBytes 4 dur

/-- Grants of some types are requested from an upstream (R436). -/
def State.ucRequest (s : State) (i p : Nat) (addr : Bytes) (msgs : List Nat) : State :=
  let (s, mac) := s.ucMac i addr
  s.sendSignal i p (mac, addr) anyTarget
    (msgs.flatMap fun m => requestTlv m (s.ucLog i m) (s.effN Obj.ptp_uc_duration_max i))

/-- A CANCEL_UNICAST_TRANSMISSION TLV. -/
def cancelTlv (type msg : Nat) : Bytes := beBytes 2 type ++ beBytes 2 2 ++ [BitVec.ofNat 8 (msg * 16), 0#8]

/-- Grants held are cancelled (R436). -/
def State.ucCancel (s : State) (i p : Nat) : State :=
  let gs := (s.ptp i).grants
  let s := s.modPtp i fun x => { x with grants := [] }
  if !s.linkUp p then s
  else
    s.each gs fun s g =>
      match s.ucMaster i g.master with
      | some (_, a) =>
        let (s, mac) := s.ucMac i a
        s.sendSignal i p (mac, a) anyTarget (cancelTlv 6 g.msg)
      | none => s

/-! ### States of the slave port (R436) -/

/-- The measurements of a parent are forgotten. -/
def PtpInst.forget (x : PtpInst) : PtpInst :=
  { x with complete := 0, syncs := [], dks := [], dLast := none, lastSync := none, exch := [], fwd := none }

/-- No parent: the source term is unbounded while no Announce has been received (R196). -/
def State.noParent (s : State) (i : Nat) : State :=
  let s := s.modPtp i fun x => { x.forget with parent := none }
  let s := s.modSlot (9 + i) fun x => { x with srcTerm := unbounded }
  (s.setB Obj.ptp_parent (zeros 10) i).setN Obj.ptp_gm_class 255 i

/-- The slave port enters DISABLED. -/
def State.slaveDown (s : State) (i : Nat) : State :=
  let p := (s.ptp i).slavePort
  let s := (s.ucCancel i p).noParent i
  (s.modPtp i fun x => { x with foreign := [], slavePort := 0xFF }).setN Obj.ptp_slave_state 0 i

/-- The slave port leaves DISABLED for LISTENING. -/
def State.slaveUp (s : State) (i p : Nat) : State :=
  let s := (s.modPtp i fun x => { x with slavePort := p }).setN Obj.ptp_slave_state 1 i
  if s.effN Obj.ptp_mode i = 2 then
    s.each (List.range 4) fun s m =>
      match s.ucMaster i m with
      | some (_, a) => s.ucRequest i p a [mAnnounce]
      | none => s
  else s

/-- The slave port of an instance follows its enable, its port and the link. -/
def State.slaveRefresh (s : State) (i : Nat) : State :=
  let p := s.effN Obj.ptp_slave_port i
  let want := s.effT Obj.ptp_enable i && decide (p < 8) && s.linkUp p && s.boot.serving
  let s := if s.valN Obj.ptp_slave_state i ≠ 0 ∧ (!want || (s.ptp i).slavePort != p) then s.slaveDown i else s
  if want && s.valN Obj.ptp_slave_state i == 0 then s.slaveUp i p else s

/-- Every slave port follows. -/
def State.slavesRefresh (s : State) : State := s.each (List.range 4) fun s i => s.slaveRefresh i

/-- LINK_UP (R317, R318, R410, R436). -/
def execLinkUp (p : Fin 9) (neg : Fin 3) (s : State) (held : Nat := 1000) : Host.Outcome State Fault Refusal :=
  .next (linkUpEff p.val held neg.val s).slavesRefresh

/-- LINK_DOWN (R320, R410, R436). -/
def execLinkDown (p : Fin 9) (s : State) (failed : Nat := 1000) : Host.Outcome State Fault Refusal := .next (linkDownEff p.val failed s).slavesRefresh

/-! ### The choice of a parent (R436) -/

/-- The upper bound of a clockAccuracy code under IEEE 1588-2019, ps; none where the code has none (R196, log entry 23). -/
def caBound (c : Nat) : Option Nat :=
  match [10, 25, 100, 250, 1000, 2500, 10000, 25000, 100000, 250000, 1000000, 2500000, 10000000, 25000000, 100000000, 250000000, 1000000000,
      2500000000, 10000000000, 25000000000, 100000000000, 250000000000, 1000000000000, 2500000000000, 10000000000000,
      100000000000000][c - 0x17]? with
  | some v => if 0x17 ≤ c then some v else none
  | none => none

/-- The scruple that an Announce carries (R419). -/
def announceTerm (x : Bytes) : Option Nat :=
  match tlvsGo x (x.length + 1) 64 with
  | some l =>
    (l.find? fun t => t.1 == 3 && decide (16 ≤ t.2.2) && field x t.2.1 3 == 0xDA7C15 && field x (t.2.1 + 3) 3 == 1).map fun t =>
      field x (t.2.1 + 6) 6
  | none => none

/-- The source term that an Announce gives (R196, R419). -/
def announceSource (x : Bytes) : Nat := (announceTerm x).getD (((caBound (octet x 49)).map fun v => satScr (ceilDiv v 10)).getD unbounded)

/-- Lexicographic order of lists of numbers. -/
def lexLt : List Nat → List Nat → Bool
  | a :: as, b :: bs => if a < b then true else if b < a then false else lexLt as bs
  | _, _ => false

/-- What is compared of two Announces (IEEE 1588-2019, and the alternate BMCA of G.8275; log entry 23): lower is better. -/
def bmcaKey (alt : Bool) (same : Bool) (f : PtpForeign) : List Nat :=
  let d := f.data
  let path := [field d 61 2, beNat f.port]
  let gm := beNat (slice d 53 8)
  if same then path
  else if alt then
    [octet d 48, octet d 49, field d 50 2, octet d 52] ++ if octet d 48 ≤ 127 then path else gm :: path
  else [octet d 47, octet d 48, octet d 49, field d 50 2, octet d 52, gm] ++ path

/-- A foreign master is better than another. -/
def betterMaster (alt : Bool) (a b : PtpForeign) : Bool :=
  let same := slice a.data 53 8 == slice b.data 53 8
  lexLt (bmcaKey alt same a) (bmcaKey alt same b)

/-- The parent that the BMCA selects. -/
def State.bmca (s : State) (i : Nat) : Option PtpForeign :=
  let x := s.ptp i
  let q := x.foreign.filter fun f => f.qualified
  let prof := s.effN Obj.ptp_profile i
  if prof = 4 then
    match q.find? fun f => some f.port == x.parent with
    | some f => some f
    | none => q.head?
  else q.foldl (fun b f => match b with
    | none => some f
    | some g => if betterMaster (prof == 1 || prof == 2) f g then some f else some g) none

/-- A parent is taken (R436); its Announce was received at a coarse count. -/
def State.newParent (s : State) (i : Nat) (f : PtpForeign) (at' : Nat) : State :=
  let st := s.valN Obj.ptp_slave_state i
  let p := (s.ptp i).slavePort
  let s := if st = 2 ∨ st = 3 then s.losePresence (9 + i) else s
  let s := s.modPtp i fun x => { x.forget with parent := some f.port, parentAt := at' }
  let s := (s.setB Obj.ptp_parent f.port i).setN Obj.ptp_slave_state 2 i
  if s.effN Obj.ptp_mode i = 2 then s.ucRequest i p f.addr [mSync, mDelayResp] else s

/-- What follows the parent's Announce: its class and the source term of the slot (R196, R419). -/
def State.followParent (s : State) (i : Nat) : State :=
  let d := s.parentData i
  if d.isEmpty then s
  else
    let s := s.modSlot (9 + i) fun x => { x with srcTerm := announceSource d }
    s.setN Obj.ptp_gm_class (octet d 48) i

/-- The interval of an Announce: its own, or the instance's where it names none. -/
def State.announceLog (s : State) (i : Nat) (f : PtpForeign) : Int := if f.interval = 127 then s.effI Obj.ptp_log_announce i else f.interval

/-- Two coarse counts lie at least `ns` apart. -/
def apart (a b ns : Nat) : Bool := decide (ns ≤ 2 * (b - a))

/-- An Announce joins the foreign masters of a slave port; it was received at a coarse count. -/
def State.hearForeign (s : State) (i : Nat) (x : PtpIn) (at' : Nat) : State :=
  let id := slice x.msg 20 10
  let log := beInt (slice x.msg 33 1)
  let old := ((s.ptp i).foreign.find? fun f => f.port == id).getD {}
  let f : PtpForeign := { old with port := id, interval := log, data := x.msg, addr := x.src, mac := x.mac }
  let win := 4 * logNs (s.announceLog i f)
  let times := at' :: old.times.filter fun c => !apart c at' (win + 1)
  let f := { f with times := times.take 4, qualified := old.qualified || decide (2 ≤ times.length) }
  let stale (g : PtpForeign) : Bool :=
    apart (g.times.headD 0) at' (s.effN Obj.ptp_announce_timeout i * logNs (s.announceLog i g)) && some g.port != (s.ptp i).parent
  s.modPtp i fun y =>
    { y with
      foreign := if y.foreign.any fun g => g.port == id then (y.foreign.map fun g => if g.port == id then f else g).filter fun g => !stale g
        else (y.foreign.filter fun g => !stale g) ++ [f]
      parentAt := if y.parent == some id then at' else y.parentAt }

/-- What an Announce does on a slave port when SB's output for it commits (R436). -/
def State.commitAnnounce (s : State) (i : Nat) (f : RxFrame) : State :=
  let s := s.hearForeign i (ptpIn f) f.cyc
  let s := match s.bmca i with
    | some b => if some b.port = (s.ptp i).parent then s else s.newParent i b f.cyc
    | none => s
  s.followParent i

/-- The parent of a slave port has been silent for `ptp.announce_timeout` of its intervals (R436). -/
def State.commitSilent (s : State) (i : Nat) (id : Bytes) : State :=
  ((s.noParent i).modPtp i fun x => { x with foreign := x.foreign.filter fun g => g.port != id }).setN Obj.ptp_slave_state 1 i

/-- An output of SB for a slave port commits: what it rests on still holds, and the port is not DISABLED. -/
def State.commitSbOut (s : State) (o : SbOut) : State :=
  let i := o.inst
  if s.valN Obj.ptp_slave_state i = 0 then s
  else
    match o.event with
    | .announce f => s.commitAnnounce i f
    | .silent id last => if (s.ptp i).parent = some id ∧ (s.ptp i).parentAt = last then s.commitSilent i id else s
    | .calibrated =>
      if s.valN Obj.ptp_slave_state i = 2 ∧ s.effN Obj.ptp_calib_count i ≤ (s.ptp i).complete then s.setN Obj.ptp_slave_state 3 i else s

/-- The outputs of SB for the slave ports that are due commit, in the order of its work (R37). -/
def State.commitSlaves (s : State) : State :=
  let due (o : SbOut) : Bool := decide (o.due ≤ s.tc.boundaries)
  let l := s.net.sbOut.filter due
  ({ s with net := { s.net with sbOut := s.net.sbOut.filter fun o => !due o } } : State).each l State.commitSbOut

/-- SB stages an event of a slave port: its output commits `n` boundaries on. -/
def State.stageSb (s : State) (n i : Nat) (e : SbEvent) : State :=
  { s with net := { s.net with sbOut := s.net.sbOut ++ [{ due := s.tc.boundaries + n, inst := i, event := e }] } }

/-- An Announce that goes to SB waits for SB's work of the tick after its receipt, and for an SB that runs (R37, R46). -/
def State.announceWaits (s : State) (f : RxFrame) (x : PtpIn) : Bool :=
  match s.ptpFor f x with
  | some i => !s.onMaster i f && (!s.earlier f || !s.roleRuns 2)
  | none => false

/-- ANNOUNCE_RECEIVE (R37, R410, R436): foreign on a master port; on a slave port SB takes it into the choice of a parent at the next boundary. -/
def announceReceiveEff (s : State) : State :=
  match s.nextPtp mAnnounce with
  | none => s
  | some (f, x) =>
    if s.announceWaits f x then s
    else
      match s.ptpAccept f x with
      | (s, none) => s
      | (s, some i) =>
        if s.onMaster i f then s.count Obj.ptp_rx_foreign i f.port
        else if s.valN Obj.ptp_slave_state i = 0 ∨ slice x.msg 20 8 = padTo 8 (s.effB Obj.ptp_clock_identity i) then s
        else s.stageSb 1 i (.announce f)

/-- ANNOUNCE_RECEIVE (R436). -/
def execAnnounceReceive (s : State) : Host.Outcome State Fault Refusal := .next (announceReceiveEff s)

/-- ANNOUNCE_TIMEOUT (R37, R436): the parent has been silent for `ptp.announce_timeout` of its intervals, and SB stages what follows. -/
def announceTimeoutEff (i : Nat) (s : State) : State :=
  match (s.ptp i).parent with
  | none => s
  | some id =>
    let f := ((s.ptp i).foreign.find? fun f => f.port == id).getD {}
    let last := (s.ptp i).parentAt
    if s.roleRuns 2 && s.valN Obj.ptp_slave_state i != 0 && s.passed last (s.effN Obj.ptp_announce_timeout i * logNs (s.announceLog i f)) then
      s.stageSb 1 i (.silent id last)
    else s

/-- ANNOUNCE_TIMEOUT (R436). -/
def execAnnounceTimeout (i : Fin 4) (s : State) : Host.Outcome State Fault Refusal := .next (announceTimeoutEff i.val s)

/-! ### Measurements (R437, R438) -/

/-- The path delay d of an instance, units of 2⁻⁵⁶ ns: the mean over the last second, or the latest. -/
def State.pathDelay (s : State) (i : Nat) : Option Int :=
  match s.recentDelays i with
  | [] => none
  | l => some (roundDiv l.sum l.length)

/-- A path delay d_k completes: it joins the mean, and its round trip passes the detector (R206, R437), which may discard suspect ones. -/
def State.addDelay (s : State) (i : Nat) (d : Int) : State :=
  let s := s.modPtp i fun x =>
    { x with dks := (s.tc.cyc, d) :: x.dks.filter fun e => !s.passed e.1 (oneSec + 1), dLast := some d }
  let s := s.feedRtt i (uToPsNear (2 * d)).toNat
  let (s, v) := s.fitI64 (roundDiv ((s.pathDelay i).getD 0) (2 ^ 40))
  s.setN Obj.ptp_mean_path_delay v i

/-- A Sync and its times give an offset (R437): `t1` with cf_s added, and t2 with its step_count and flags. -/
def State.formOffset (s : State) (i : Nat) (t1 t2 : Int) (steps flags : Nat) : State :=
  let s := s.modPtp i fun x => { x with fwd := some (t2 - t1, steps) }
  let st := s.valN Obj.ptp_slave_state i
  if steps ≠ s.steps then s.modPtp i fun x => { x with complete := 0 }
  else
    match s.pathDelay i with
    | none => s
    | some d =>
      let x := roundDiv (t1 + d + psToU (s.effI Obj.ptp_asym i) - t2) (2 ^ 40)
      if st = 2 then
        let s := s.modPtp i fun y => { y with complete := y.complete + 1 }
        if s.effN Obj.ptp_calib_count i ≤ (s.ptp i).complete && s.roleRuns 2 then s.stageSb 2 i .calibrated else s
      else if st = 3 then
        let (s, v) := s.fitI64 x
        let s := s.setN Obj.ptp_offset v i
        let (s, x') := s.feedOffset i x
        s.addMeas (9 + i) (s.newMeas t2 x' flags)
      else s

/-- A message is from the parent of the slave port of its instance, and SB runs: with SB halted nothing of PTP moves (R46). -/
def State.fromParent (s : State) (i p : Nat) (x : PtpIn) : Bool :=
  s.roleRuns 2 && s.isSlave i p && (s.valN Obj.ptp_slave_state i == 2 || s.valN Obj.ptp_slave_state i == 3) &&
    (s.ptp i).parent == some (slice x.msg 20 10)

/-- SYNC_RECEIVE (R437): a Sync of the parent gives t2, and t1 where it has one step. -/
def syncReceiveEff (s : State) : State :=
  match s.nextPtp mSync with
  | none => s
  | some (f, x) =>
    match s.ptpAccept f x with
    | (s, none) => s
    | (s, some i) =>
      if !s.fromParent i f.port x then s
      else
        let log := beInt (slice x.msg 33 1)
        let s := s.modPtp i fun y =>
          { y with lastSync := some s.tc.cyc, syncLog := if log = 127 then s.effI Obj.ptp_log_sync i else log }
        if (octet x.msg 6).testBit 1 then
          let e : SyncIn := { seq := field x.msg 30 2, t2 := f.arr, steps := f.steps, cf := ptpCf x.msg, flags := stampFlags f.stamp }
          s.modPtp i fun y => { y with syncs := (e :: y.syncs).take 8 }
        else s.formOffset i (ofPtpTs (slice x.msg 34 10) + from16 (ptpCf x.msg)) f.arr f.steps (stampFlags f.stamp)

/-- SYNC_RECEIVE (R437). -/
def execSyncReceive (s : State) : Host.Outcome State Fault Refusal := .next (syncReceiveEff s)

/-- FOLLOW_UP_RECEIVE (R437): a Follow_Up of the parent gives t1 and completes cf_s. -/
def followUpReceiveEff (s : State) : State :=
  match s.nextPtp mFollowUp with
  | none => s
  | some (f, x) =>
    match s.ptpAccept f x with
    | (s, none) => s
    | (s, some i) =>
      if !s.fromParent i f.port x then s
      else
        match (s.ptp i).syncs.find? fun e => e.seq == field x.msg 30 2 with
        | none => s
        | some e =>
          let s := s.modPtp i fun y => { y with syncs := y.syncs.filter fun z => z.seq != e.seq }
          s.formOffset i (ofPtpTs (slice x.msg 34 10) + from16 (e.cf + ptpCf x.msg)) e.t2 e.steps e.flags

/-- FOLLOW_UP_RECEIVE (R437). -/
def execFollowUpReceive (s : State) : Host.Outcome State Fault Refusal := .next (followUpReceiveEff s)

/-- The addresses of the parent of an instance. -/
def State.parentAddr (s : State) (i : Nat) : Option (Bytes × Bytes) :=
  (s.ptp i).parent.bind fun id => ((s.ptp i).foreign.find? fun f => f.port == id).map fun f => (f.mac, f.addr)

/-- SLAVE_DELAY_REQ_SEND (R436, R437): a Delay_Req, or a Pdelay_Req under P2P, at its interval, while SB runs (R46). Under HYBRID and UNICAST it
goes to the parent alone (log entry 27). -/
def slaveDelayReqSendEff (i : Nat) (s : State) : State :=
  let st := s.valN Obj.ptp_slave_state i
  let p := (s.ptp i).slavePort
  let p2p := s.effN Obj.ptp_delay_mech i == 1
  let log := if p2p then s.effI Obj.ptp_log_pdelay i else s.effI Obj.ptp_log_delay_req i
  let seq := (s.ptp i).reqSeq
  if (st = 2 ∨ st = 3) ∧ (s.passed (s.ptp i).reqAt (logNs log) || (s.ptp i).reqAt == 0) ∧ s.linkUp p ∧ s.roleRuns 2 then
    let s := s.modPtp i fun x =>
      { x with reqSeq := (x.reqSeq + 1) % 65536, reqAt := s.tc.cyc, exch := ({ seq := seq } : Exchange) :: x.exch.take 7 }
    if p2p then s.ptpPut i p true (s.ptpGroup i true) 0 (.pdelayReq i p seq true) (s.pdelayReqMsg i p seq)
    else
      let uni := s.effN Obj.ptp_mode i != 0
      match if uni then s.parentAddr i else some (s.ptpGroup i false) with
      | none => s
      | some dst =>
        s.ptpPut i p true dst 0 (.delayReq i seq) (s.ptpMsg i p mDelayReq (if uni then fUnicast else 0) 0 0 seq 0x7F (zeros 10))
  else s

/-- SLAVE_DELAY_REQ_SEND (R437). -/
def execSlaveDelayReqSend (i : Fin 4) (s : State) : Host.Outcome State Fault Refusal := .next (slaveDelayReqSendEff i.val s)

/-- A Delay_Resp of the parent to a Delay_Req of the slave port: d_k (R437, R438). -/
def State.takeDelayResp (s : State) (i : Nat) (x : PtpIn) : State :=
  let seq := field x.msg 30 2
  match (s.ptp i).exch.find? fun e => e.seq == seq && !e.done with
  | none => s
  | some e =>
    match e.tx, (s.ptp i).fwd with
    | some t3, some (fw, st) =>
      let s := s.modPtp i fun y => { y with exch := y.exch.map fun z => if z.seq == seq then { z with done := true } else z }
      if st ≠ e.steps then s.modPtp i fun y => { y with complete := 0 }
      else s.addDelay i (roundDiv (fw + (ofPtpTs (slice x.msg 34 10) - from16 (ptpCf x.msg) - t3)) 2)
    | _, _ => s

/-- DELAY_RESP_RECEIVE (R437). -/
def delayRespReceiveEff (s : State) : State :=
  match s.nextPtp mDelayResp with
  | none => s
  | some (f, x) =>
    match s.ptpAccept f x with
    | (s, none) => s
    | (s, some i) =>
      if s.fromParent i f.port x && slice x.msg 44 10 == s.ptpIdent i f.port && s.effN Obj.ptp_delay_mech i == 0 then s.takeDelayResp i x else s

/-- DELAY_RESP_RECEIVE (R437). -/
def execDelayRespReceive (s : State) : Host.Outcome State Fault Refusal := .next (delayRespReceiveEff s)

/-- A Pdelay_Resp or its Follow_Up on the slave port (R437). -/
def State.pdelaySlave (s : State) (i : Nat) (f : RxFrame) (x : PtpIn) : State :=
  let seq := field x.msg 30 2
  match (s.ptp i).exch.find? fun e => e.seq == seq && !e.done with
  | none => s
  | some e =>
    let (e', d) := pdelayStep e f x (x.type == mPdelayFup)
    let s := s.modPtp i fun y => { y with exch := y.exch.map fun z => if z.seq == seq then e' else z }
    match d with
    | some v => s.addDelay i v
    | none => s

/-- PDELAY_RESP_RECEIVE (R424, R437): the oldest waiting Pdelay_Resp or Pdelay_Resp_Follow_Up; with SB halted it changes nothing (R46). -/
def pdelayRespReceiveEff (s : State) : State :=
  match ((s.net.waiting.filter fun f => f.kind == .ptp).map fun f => (f, ptpIn f)).find? fun e =>
      e.2.type == mPdelayResp || e.2.type == mPdelayFup with
  | none => s
  | some (f, x) =>
    match s.ptpAccept f x with
    | (s, none) => s
    | (s, some i) =>
      if slice x.msg 44 10 != s.ptpIdent i f.port || !s.roleRuns 2 then s
      else if s.onMaster i f then s.pdelayMaster i f x
      else s.pdelaySlave i f x

/-- PDELAY_RESP_RECEIVE (R424). -/
def execPdelayRespReceive (s : State) : Host.Outcome State Fault Refusal := .next (pdelayRespReceiveEff s)

/-! ### Grants held as a client (R436) -/

/-- A GRANT TLV from an upstream sets or, with a duration of zero, ends a grant. -/
def State.takeGrant (s : State) (i m : Nat) (v : Bytes) : State :=
  let msg := octet v 0 / 16
  let g : Grant := { master := m, msg := msg, log := beInt (slice v 1 1), dur := field v 2 4, since := s.tc.cyc }
  s.modPtp i fun x =>
    { x with grants := (x.grants.filter fun h => !(h.master == m && h.msg == msg)) ++ if g.dur = 0 then [] else [g] }

/-- GRANT_UNICAST_TRANSMISSION (R436): the oldest waiting GRANT, on a slave port, while SB runs (R46). -/
def grantUnicastTransmissionEff (s : State) : State :=
  match s.nextSignal [5] with
  | none => s
  | some (f, x) =>
    if !s.roleRuns 2 then s
    else
      match s.ptpPoliced f x with
      | (s, none) => s
      | (s, some i) =>
        if !s.isSlave i f.port then s
        else
          match (List.range 4).find? fun m => (s.ucMaster i m).map Prod.snd == some x.src with
          | none => s
          | some m =>
            s.each ((x.tlvs.getD []).filter fun t => t.1 == 5 && decide (8 ≤ t.2.2)) fun s t => s.takeGrant i m (slice x.msg t.2.1 t.2.2)

/-- GRANT_UNICAST_TRANSMISSION (R436). -/
def execGrantUnicastTransmission (s : State) : Host.Outcome State Fault Refusal := .next (grantUnicastTransmissionEff s)

/-- UNICAST_RENEW (R436): a grant half of whose duration has passed is requested again; one whose duration has passed is gone. With SB halted
nothing moves (R46). -/
def unicastRenewEff (i : Nat) (s : State) : State :=
  if !s.roleRuns 2 then s else
  let p := (s.ptp i).slavePort
  let gone (g : Grant) : Bool := s.passed g.since (g.dur * oneSec)
  let due (g : Grant) : Bool := !g.asked && s.passed g.since (g.dur * oneSec / 2)
  let gs := (s.ptp i).grants.filter fun g => !gone g
  let s := s.modPtp i fun x => { x with grants := gs.map fun g => if due g then { g with asked := true } else g }
  s.each (gs.filter due) fun s g =>
    match s.ucMaster i g.master with
    | some (_, a) => s.ucRequest i p a [g.msg]
    | none => s

/-- UNICAST_RENEW (R436). -/
def execUnicastRenew (i : Fin 4) (s : State) : Host.Outcome State Fault Refusal := .next (unicastRenewEff i.val s)

end Sys2Proof.Machine
end

