-- ==== Sys2Proof/Machine/PtpUnicast.lean ====
section
/-! DEFINITION. Unicast negotiation of PTP (13_ptp.md R426 to R431): the event load, decisions, grants, phases, releases and the session
records. -/
namespace Sys2Proof.Machine

/-! ### Sessions and the event load (R426) -/

/-- The grant of a session for a message type. -/
def Session.grant (x : Session) (msg : Nat) : SessGrant := if msg = mAnnounce then x.ann else if msg = mSync then x.sync else x.resp

/-- A session with a grant changed. -/
def Session.setGrant (x : Session) (msg : Nat) (g : SessGrant) : Session :=
  if msg = mAnnounce then { x with ann := g } else if msg = mSync then { x with sync := g } else { x with resp := g }

/-- Messages per second of a log period, 0 for none. -/
def rateOfLog (l : Int) : Rat := if l = 127 then 0 else if l < 0 then (2 ^ l.natAbs : Nat) else 1 / (2 ^ l.natAbs : Nat)

/-- The log period of a session for a message type, with the grants and cancels that are staged. -/
def State.stagedLog (s : State) (x : Session) (msg : Nat) : Int :=
  s.net.staged.foldl (fun l u => if u.sess == some x.num && u.msg == msg then (if u.cancel then 127 else u.log) else l) (x.grant msg).log

/-- The multicast part of the event load. -/
def State.multicastLoad (s : State) : Rat :=
  sumOf (List.range 4) fun i =>
    if s.effT Obj.ptp_enable i && decide (s.effN Obj.ptp_mode i < 2) then
      ((List.range 8).filter fun p => s.isMaster i p).length * rateOfLog (s.effI Obj.ptp_log_sync i)
    else 0

/-- The event load (R426); grants that are staged count. -/
def State.eventLoad (s : State) : Rat :=
  s.multicastLoad + sumOf s.net.sessions fun x => rateOfLog (s.stagedLog x mSync) + rateOfLog (s.stagedLog x mDelayResp)

/-- Records of the session store. A bank that is lost takes its 8,192 records (R522). -/
def State.recordOk (s : State) (n : Nat) : Bool := decide (n < 131072) && !s.win.bankLost.contains (12 + n / 8192)

/-- The first free record from `n` on; sessions are held rising by number. -/
def State.freeRecord (s : State) : List Session → Nat → Nat → Option Nat
  | _, 0, _ => none
  | [], fuel + 1, n => if s.recordOk n then some n else if n < 131072 then s.freeRecord [] fuel (n / 8192 * 8192 + 8192) else none
  | x :: t, fuel + 1, n =>
    if x.num < n then s.freeRecord t fuel n
    else if x.num = n then s.freeRecord t fuel (n + 1)
    else if s.recordOk n then some n
    else if n < 131072 then s.freeRecord (x :: t) fuel (n / 8192 * 8192 + 8192)
    else none

/-- A session put in its place. -/
def putSession (x : Session) : List Session → List Session
  | [] => [x]
  | y :: t => if x.num < y.num then x :: y :: t else y :: putSession x t

/-! ### Phases (R429) -/

/-- The phases of a log period, in half ticks: whole ticks, but half ticks at 2⁻⁷ s. -/
def phasesOf (l : Int) : List Nat :=
  if l = -7 then List.range 124
  else (List.range (8000 / 2 ^ l.natAbs)).map (2 * ·)

/-- The phase with the fewest Sync releases at a period, the lowest of several. -/
def State.choosePhase (s : State) (l : Int) : Nat :=
  let used (v : Nat) : Nat := (s.net.sessions.filter fun x => x.phased && s.stagedLog x mSync == l && x.phase == v).length
  ((phasesOf l).foldl (fun b v => match b with
    | none => some (v, used v)
    | some (w, n) => let k := used v; if k < n then some (v, k) else some (w, n)) (none : Option (Nat × Nat))).elim 0 Prod.fst

/-! ### Decisions (R427) -/

/-- A decision is staged. -/
def State.stageUc (s : State) (u : UcStaged) : State := { s with net := { s.net with staged := s.net.staged ++ [u] } }

/-- A denial: a GRANT with durationField 0. -/
def State.denyUc (s : State) (i p msg : Nat) (log : Int) (f : RxFrame) (c : Nat) : State :=
  (s.stageUc { inst := i, port := p, msg := msg, log := log, req := f, queue := s.effN Obj.ptp_queue i, cells := c }).count Obj.ptp_sess_denials

/-- decide(i, n, c, m, p, d) of R427; `c` cells are reserved for the answer (R54). -/
def State.decideUc (s : State) (i : Nat) (f : RxFrame) (x : PtpIn) (msg : Nat) (log : Int) (dur c : Nat) : State :=
  let p := f.port
  let ident := slice x.msg 20 10
  let deny := s.denyUc i p msg log f c
  if s.effN Obj.ptp_mode i ≠ 2 ∨ !s.isMaster i p ∨ !(msg == mAnnounce || msg == mSync || msg == mDelayResp) then deny
  else if log < s.effI Obj.ptp_uc_log_min i ∨ 0 < log ∨ (msg = mAnnounce ∧ log < -3) then deny
  else
    let old := s.sessionOf i p x.src ident
    let held := (s.net.sessions.filter fun y => y.inst == i).length
    let made : Option (State × Session) := match old with
      | some y => some (s, y)
      | none =>
        if s.effN Obj.ptp_uc_max_sessions i ≤ held then none
        else (s.freeRecord s.net.sessions (s.net.sessions.length + 40) 0).map fun n =>
          let y : Session :=
            { num := n, inst := i, port := p, family := if x.fam = 6 then 6 else 4, addr := x.src, ident := ident, mac := x.mac,
              entry := f.entry.getD 0 }
          ({ s with net := { s.net with sessions := putSession y s.net.sessions } }, y)
    match made with
    | none => deny
    | some (s', y) =>
      let load := s'.eventLoad - (if msg = mAnnounce then 0 else rateOfLog (s'.stagedLog y msg)) + rateOfLog log
      if msg ≠ mAnnounce ∧ (s.effN Obj.ptp_sess_budget : Rat) < load then deny
      else
        let ph := if msg = mSync && !y.phased then some (s'.choosePhase log) else none
        let s' := s'.modSession y.num fun z => { z with mac := x.mac, phase := ph.getD z.phase, phased := z.phased || ph.isSome }
        s'.stageUc
          { sess := some y.num, inst := i, port := p, msg := msg, log := log, dur := min dur (s.effN Obj.ptp_uc_duration_max i), req := f,
            queue := s.effN Obj.ptp_queue i, cells := c }

/-- The REQUEST TLVs of a message that are complete. -/
def PtpIn.requests (x : PtpIn) : List (Nat × Nat × Nat) := (x.tlvs.getD []).filter fun t => t.1 == 4 && decide (6 ≤ t.2.2)

/-- The CANCEL TLVs of a message that are complete. -/
def PtpIn.cancels (x : PtpIn) : List (Nat × Nat × Nat) := (x.tlvs.getD []).filter fun t => t.1 == 6 && decide (2 ≤ t.2.2)

/-- Cells of one Signaling message of an instance with `n` octets of TLVs, as large as it can be (R54). -/
def State.signalCells (s : State) (i p n : Nat) (x : PtpIn) : Nat :=
  let m := s.signalMsg i p (zeros 10) (zeros n) ++ if s.effN Obj.ptp_auth_mode i = 0 then [] else zeros 26
  match s.ptpFrame i p false x.back 0 m with
  | some (b, _) => cellsOf (max 64 (b.length + 4))
  | none => 0

/-- Cells that one answer to a Signaling message of an instance takes, and whether the queue has room for `k` of them (R54). -/
def State.signalRoom (s : State) (f : RxFrame) (x : PtpIn) (n k : Nat) : Nat × Bool :=
  match s.ptpFor f x with
  | some i =>
    let c := s.signalCells i f.port n x
    (c, decide (k * c ≤ s.freeCells f.port (s.effN Obj.ptp_queue i)))
  | none => (0, true)

/-- REQUEST_UNICAST_TRANSMISSION (R427): the oldest waiting request is decided, TLV by TLV, in the tick after its receipt, once cells are free for
every GRANT that answers it (R54), and while SB runs (R46). -/
def requestUnicastTransmissionEff (s : State) : State :=
  match s.nextSignal [4] with
  | none => s
  | some (f, x) =>
    let (c, room) := s.signalRoom f x 12 x.requests.length
    if !s.earlier f || !s.roleRuns 2 || !room then s
    else
      match s.ptpPoliced f x with
      | (s, none) => s
      | (s, some i) =>
        s.each x.requests fun s t =>
          let v := slice x.msg t.2.1 t.2.2
          (s.useCells f.port (s.effN Obj.ptp_queue i) c).decideUc i f x (octet v 0 / 16) (beInt (slice v 1 1)) (field v 2 4) c

/-- REQUEST_UNICAST_TRANSMISSION (R427). -/
def execRequestUnicastTransmission (s : State) : Host.Outcome State Fault Refusal := .next (requestUnicastTransmissionEff s)

/-- One CANCEL TLV: the grant ends at the next boundary and the cancel is acknowledged (R430); on a slave port a grant held ends. -/
def State.cancelUc (s : State) (i : Nat) (f : RxFrame) (x : PtpIn) (msg : Nat) : State :=
  let p := f.port
  let s := s.sendSignal i p x.back (slice x.msg 20 10) (cancelTlv 7 msg)
  if s.isSlave i p then
    match (List.range 4).find? fun m => (s.ucMaster i m).map Prod.snd == some x.src with
    | some m => s.modPtp i fun y => { y with grants := y.grants.filter fun g => !(g.master == m && g.msg == msg) }
    | none => s
  else
    match s.sessionOf i p x.src (slice x.msg 20 10) with
    | some y => s.stageUc { sess := some y.num, inst := i, port := p, msg := msg, cancel := true, req := f }
    | none => s

/-- CANCEL_UNICAST_TRANSMISSION (R430): the oldest waiting cancel, once cells are free for the acknowledgements (R54), and while SB runs (R46); an
acknowledgement has no further effect. -/
def cancelUnicastTransmissionEff (s : State) : State :=
  match s.nextSignal [6, 7] with
  | none => s
  | some (f, x) =>
    if !s.roleRuns 2 || !(s.signalRoom f x 6 x.cancels.length).2 then s
    else
      match s.ptpPoliced f x with
      | (s, none) => s
      | (s, some i) => s.each x.cancels fun s t => s.cancelUc i f x (octet x.msg t.2.1 / 16)

/-- CANCEL_UNICAST_TRANSMISSION (R430). -/
def execCancelUnicastTransmission (s : State) : Host.Outcome State Fault Refusal := .next (cancelUnicastTransmissionEff s)

/-! ### Commit and expiry (R428) -/

/-- A GRANT TLV (R427, R428). -/
def grantTlv (u : UcStaged) : Bytes :=
  beBytes 2 5 ++ beBytes 2 8 ++ [BitVec.ofNat 8 (u.msg * 16)] ++ intBytes 1 u.log ++ beBytes 4 u.dur ++
    [0#8, if u.dur = 0 then 0#8 else 1#8]

/-- The cells reserved for the answer to a staged decision return. -/
def State.freeUc (s : State) (u : UcStaged) : State := s.useCells u.port u.queue (-(u.cells : Int))

/-- A staged decision commits at the present boundary and its GRANT is sent. -/
def State.commitUc (s : State) (u : UcStaged) : State :=
  let s := s.freeUc u
  let x := ptpIn u.req
  let put (s : State) : State := s.sendSignal u.inst u.port x.back (slice x.msg 20 10) (grantTlv u)
  match u.sess with
  | none => put s
  | some n =>
    if u.cancel then s.modSession n fun y => y.setGrant u.msg {}
    else if (s.session n).isNone then s
    else
      let s := s.modSession n fun y => y.setGrant u.msg { log := u.log, tend := s.tickNow + u.dur * 8000 }
      put (s.count Obj.ptp_sess_grants)

/-- GRANT_COMMIT (R428): every staged decision, in order. -/
def State.commitGrants (s : State) : State :=
  let l := s.net.staged
  ({ s with net := { s.net with staged := [] } } : State).each l State.commitUc

/-- A session without the grants whose end has passed. -/
def Session.expire (x : Session) (now : Nat) : Session :=
  let f (g : SessGrant) : SessGrant := if g.tend ≤ now then {} else g
  { x with ann := f x.ann, sync := f x.sync, resp := f x.resp }

/-- A record holds no grant. -/
def Session.empty (x : Session) : Bool := x.ann.log == 127 && x.sync.log == 127 && x.resp.log == 127

/-- Staged decisions are dropped: their cells return. -/
def State.dropUc (s : State) (sel : UcStaged → Bool) : State :=
  let s := s.each (s.net.staged.filter sel) State.freeUc
  { s with net := { s.net with staged := s.net.staged.filter fun u => !sel u } }

/-- GRANT_EXPIRE (R428): after the commits of a boundary, grants whose end has passed are removed and empty records are freed. With SB halted
nothing moves (R46). -/
def grantExpireEff (s : State) : State :=
  if !s.roleRuns 2 then s else
  let waits (n : Nat) : Bool := s.net.staged.any fun u => u.sess == some n && !u.cancel
  let l := s.net.sessions.map fun x => x.expire s.tickNow
  let keep := l.filter fun x => !x.empty || waits x.num
  let n := l.length - keep.length
  let s : State := { s with net := { s.net with sessions := keep } }
  if n = 0 then s else s.count Obj.ptp_sess_expired 0 0 n

/-- GRANT_EXPIRE (R428). -/
def execGrantExpire (s : State) : Host.Outcome State Fault Refusal := .next (grantExpireEff s)

/-- Every session of an instance is freed at a commit, without CANCEL (R430). -/
def State.freeSessions (s : State) (i : Nat) : State :=
  let s := s.dropUc fun u => u.inst == i
  { s with net := { s.net with sessions := s.net.sessions.filter fun x => x.inst != i } }

/-! ### Releases (R429) -/

/-- UNICAST_RELEASE (R429): the Sync or Announce of a session at its phase. -/
def unicastReleaseEff (n : Nat) (announce : Bool) (s : State) : State :=
  match s.session n with
  | none => s
  | some x =>
    let g := if announce then x.ann else x.sync
    let m := lastInstant s.tickTod (x.phase * (tickU / 2)) (logTod g.log)
    let last := if announce then x.relAnn else x.relSync
    if g.log != 127 && s.masterUp x.inst x.port && decide (s.tickTod - m < tickU) && last != m then
      let dst := (x.mac, x.addr)
      if announce then
        let s := s.modSession n fun y => { y with relAnn := m, seqAnn := (y.seqAnn + 1) % 65536 }
        s.ptpPut x.inst x.port false dst 0 (.general x.inst x.port) (s.announceMsg x.inst x.port true x.seqAnn g.log)
      else
        let s := s.modSession n fun y => { y with relSync := m, seqSync := (y.seqSync + 1) % 65536 }
        s.releaseSync x.inst x.port dst x.seqSync g.log (some n)
    else s

/-- UNICAST_RELEASE (R429). -/
def execUnicastRelease (n : Nat) (announce : Bool) (s : State) : Host.Outcome State Fault Refusal := .next (unicastReleaseEff n announce s)

/-! ### Records (R431) -/

/-- The 64 octets of a session record. -/
def Session.octets (x : Session) : Bytes :=
  let addr := if x.family = 4 then padTo 16 (slice x.addr 0 4) else padTo 16 x.addr
  [1#8, BitVec.ofNat 8 x.inst, BitVec.ofNat 8 x.port, BitVec.ofNat 8 x.family] ++ addr ++ padTo 10 x.ident ++ padTo 6 x.mac ++
    [BitVec.ofNat 8 x.entry] ++ intBytes 1 x.ann.log ++ intBytes 1 x.sync.log ++ intBytes 1 x.resp.log ++ beBytes 2 x.phase ++
    beBytes 2 x.seqAnn ++ beBytes 2 x.seqSync ++ zeros 2 ++ beBytes 4 (x.ann.tend % 2 ^ 32) ++ beBytes 4 (x.sync.tend % 2 ^ 32) ++
    beBytes 4 (x.resp.tend % 2 ^ 32) ++ zeros 4

/-- The session record that an access path reads (R431). -/
def State.sessRecord (s : State) (path : Nat) : Bytes :=
  let n := ((s.net.selSess.find? fun e => e.1 == path).map Prod.snd).getD 0
  match s.session n with
  | some x => x.octets
  | none => zeros 64

/-- A path selects a session record (R431). -/
def State.selectSess (s : State) (path v : Nat) : State :=
  let s := s.setCfg Obj.ptp_sess_select 0 0 (.n v)
  { s with net := { s.net with selSess := putRising path v 0 s.net.selSess } }

/-- PTP_SESS_SELECT (R431): an immediate write on an access path; a number outside the store is refused, and with SB halted the answer is BUSY
(R46). -/
def ptpSessSelectEff (path v : Nat) (s : State) : State := if v < 131072 && !s.noStaging then s.selectSess path v else s

/-- PTP_SESS_SELECT (R431). -/
def execPtpSessSelect (path v : Nat) (s : State) : Host.Outcome State Fault Refusal := .next (ptpSessSelectEff path v s)

end Sys2Proof.Machine
end

