-- ==== Sys2Proof/Machine/Egress.lean ====
section
/-! DEFINITION. The launcher's commits and launch checks (R108, R112, R115, R356), departures (R100, R118) and the completion of Flail
jobs (R111, R402, R434). -/
namespace Sys2Proof.Machine

/-! ### Commit -/

/-- A stamp-at-launch value is written into a frame that will cross at `t` (R108). -/
def State.writeStamp (s : State) (f : TxFrame) (t : Tod) : TxFrame :=
  let st := stamp128 t 0
  let unit := match f.note with
    | .ntp i => i
    | _ => 0
  if f.enc = 1 then { f with bytes := fixSum f.bytes f.csumOff f.stampOff (beBytes 8 (s.ntp64 unit (ofStamp128 st))) }
  else if f.enc = 2 ∨ f.enc = 3 then
    let b := fixSum f.bytes f.csumOff f.stampOff (ptpTs st)
    if f.enc = 2 ∧ f.cfOff ≠ 0xFFFF then
      let cf := beInt (slice b f.cfOff 8) + ((st / 2 ^ 16 % 2 ^ 16 : Nat) : Int)
      { f with bytes := fixSum b f.csumOff f.cfOff (intBytes 8 cf) }
    else { f with bytes := b }
  else f

/-- What counts when a frame commits: its queue, its shaper (R364, R365) and the service (R405). -/
def State.commitCounts (s : State) (p : Nat) (e : CalEntry) : State :=
  let s := s.chargeTx p e
  match e.frame.note with
  | .ntp _ => s.count Obj.ntp_responses p
  | .nts => (s.count Obj.ntp_responses p).count Obj.nts_responses p
  | _ => s

/-- A frame that carries a scruple would be launched too late at `t` (R211): in a tick after the one that follows the tick of its update, or later
than 250 µs after the boundary of that update. -/
def State.tooOld (s : State) (f : TxFrame) (t : Tod) : Bool :=
  match f.born with
  | some (b, c) =>
    decide (b + 1 < s.tc.boundaries + (if s.tc.nextGrid ≤ t then 1 else 0)) || decide (((250000 - s.nsSince c : Nat) : Int) * nsU < t - s.tod) ||
      decide (250000 < s.nsSince c)
  | none => false

/-- An entry is due: its commit instant has come and nothing holds it (R115, R356). -/
def State.dueEntry (s : State) (p : Nat) (reserved : Bool) : Option CalEntry :=
  if (s.port p).taking || !s.linkUp p then none
  else
    (s.port p).cal.find? fun e =>
      e.reserved == reserved && !e.committed && !e.released && decide (e.t - s.txFix p ≤ s.tod) && !s.heldByAction e.t

/-- UNTIMED_COMMIT (R356, R388): the untimed entry that is due commits, with its stamp-at-launch value, or is dropped. One whose
instant has passed while an action held it is placed again. -/
def untimedCommitEff (p : Nat) (s : State) : State :=
  match s.dueEntry p false with
  | none => s
  | some e =>
    if s.inHold p e.t then s
    else if e.t < s.tod then (s.modCal p e.frame.id fun x => { x with released := true }).replace p
    else
      let plain := match e.frame.note with
        | .ntp _ => true
        | _ => false
      if plain && e.frame.steps != s.steps then (s.dropCal p e.frame.id).count Obj.stamp_step_drops p
      else if s.tooOld e.frame e.t then (s.dropCal p e.frame.id).missNote e.frame
      else
        let s := s.commitCounts p e
        s.modCal p e.frame.id fun x => { x with committed := true, frame := s.writeStamp x.frame x.t }

/-- UNTIMED_COMMIT (R356). -/
def execUntimedCommit (p : Fin 9) (s : State) : Host.Outcome State Fault Refusal := .next (untimedCommitEff p.val s)

/-- LAUNCH_CHECK (R112): a reserved frame that is complete and of the present step_count commits; otherwise it is dropped. DESIGN CHOICE (log entry
59): one that is incomplete counts in `stamp.late` alone, whatever its step_count; a complete one of the present step_count whose instant lies in
a PAUSE hold (R113), has passed before the check came, or is too late for the scruple it carries (R211) counts there too. -/
def launchCheckEff (p : Nat) (s : State) : State :=
  match s.dueEntry p true with
  | none => s
  | some e =>
    let c := cellsOf e.frame.len
    let late := (((s.releaseReserved p e c).count Obj.stamp_late p).tally (44 + p) 6 1).setN Obj.stamp_last_late (stamp128 e.t 0x1009) p
    if !e.ready then late
    else if e.frame.steps ≠ s.steps then (s.releaseReserved p e c).count Obj.stamp_step_drops p
    else if s.inHold p e.t || decide (e.t < s.tod) || s.tooOld e.frame e.t then late
    else ((s.commitCounts p e).useCells p e.frame.queue (-(c : Int))).modCal p e.frame.id fun x => { x with committed := true }

/-- LAUNCH_CHECK (R112). -/
def execLaunchCheck (p : Fin 9) (s : State) : Host.Outcome State Fault Refusal := .next (launchCheckEff p.val s)

/-! ### Departure -/

/-- The committed frame of a port whose timestamp point crosses first. -/
def State.nextCrossing (s : State) (p : Nat) : Option CalEntry :=
  ((s.port p).cal.filter fun e => e.committed && !e.crossed && (e.reached || decide (e.t ≤ s.tod))).foldl (fun b e => match b with
    | none => some e
    | some x => if e.t < x.t then some e else some x) none

/-- A transmit stamp lies within the accuracy of R102 of the instant that was predicted for it (R101), on the timescale on which the frame crosses;
`j` is the step that the calendar entry has been moved by since. -/
def State.asPredicted (s : State) (p : Nat) (e : CalEntry) (t : Tod) : Bool :=
  let j := if e.reached then ((s.tc.hist.find? fun m => m.jump != 0).map TodMark.jump).getD 0 else 0
  decide ((t - (e.t - j)).natAbs ≤ 2 * (psToU (s.valI Obj.stamp_accuracy p)).natAbs)

/-- FRAME_DEPARTURE (R100, R101, R120, R421): a frame's timestamp point crosses the reference plane; its stamp is formed from its word. A word whose
stamp lies farther from the predicted instant than the accuracies of stamp and prediction together belongs to no frame of the calendar
(log entry 1). -/
def frameDepartureEff (p : Nat) (w : WordIn) (s : State) : State :=
  let (t, m, u) := s.txTime p (s.mode p) w
  match (s.nextCrossing p).filter fun e => s.asPredicted p e t with
  | none => s
  | some e =>
    let f := e.frame
    let st := stamp128 t (s.portFlags p m u true e.reserved)
    let s := (s.count Obj.mac_tx_frames p).count Obj.mac_tx_octets p 0 f.len
    let s := (s.tally (44 + p) 3 1).tally (44 + p) 4 f.len
    let s := s.modCal p f.id fun x => { x with crossed := true }
    let s : State := { s with net := { s.net with sent := s.net.sent ++ [(p, f)] } }
    let s := if f.stampReq then s.completeStamp p f.id false st else s
    (s.ptpCrossed f st).frameSent p (s.todPs (e.t + e.w)).toNat

/-- FRAME_DEPARTURE (R100). -/
def execFrameDeparture (p : Fin 9) (w : WordIn) (s : State) : Host.Outcome State Fault Refusal := .next (frameDepartureEff p.val w s)

/-- A committed change of `mac.mode`, `mac.tx_clock` or `serdes.polarity` (R319), and what the slave ports see of it. -/
def State.retakeLink (s : State) (p : Nat) : State := (s.retake p).slavesRefresh

/-- Links that a committed change takes down go down once their MAC has sent the frame that it was sending (R319). -/
def State.takeLinks (s : State) : State :=
  match (List.range 9).filter fun p => (s.port p).taking && !s.sending p with
  | [] => s
  | ps => (s.each ps fun s p => s.takenDown p).slavesRefresh

/-! ### Flail jobs -/

/-- FLAIL_JOB_COMPLETE (R111): the oldest job of a pipeline completes at its predicted time. -/
def flailJobCompleteEff (job : Nat) (s : State) : State :=
  match s.net.flail.jobs.find? fun j => j.id == job with
  | none => s
  | some j =>
    let first := (s.net.flail.jobs.find? fun x => x.sha == j.sha && x.pipe == j.pipe).map FlailJob.id
    if s.tod < j.doneAt ∨ first ≠ some j.id then s
    else
      let s : State := { s with net := { s.net with flail := { s.net.flail with jobs := s.net.flail.jobs.filter fun x => x.id != job } } }
      match j.work with
      | .nts n _ => s.ntsDone j n
      | .kiss _ => s.kissDone j
      | .sign _ off alg => s.signDone j off alg
      | .none => s

/-- FLAIL_JOB_COMPLETE (R111). -/
def execFlailJobComplete (job : Nat) (s : State) : Host.Outcome State Fault Refusal := .next (flailJobCompleteEff job s)

end Sys2Proof.Machine
end

