-- ==== Sys2Proof/Machine/GnssDsp.lean ====
section
/-! DEFINITION. Signals, samples, replicas and correlation in the Gleaner (09_gnss_baseband.md R278, R279, R283, R286, R290). -/
namespace Sys2Proof.Machine

/-! ### Signals (R283) -/

/-- The system of an assignment: 1 GPS, 2 Galileo, 3 BeiDou, 4 QZSS (R315). -/
def asgSys (a : Nat) : Nat := a / 4096

/-- The band of an assignment: 0 L1, 1 L5. -/
def asgBand (a : Nat) : Nat := a / 256 % 16

/-- The same satellite on the other band. -/
def asgOther (a : Nat) : Nat := if asgBand a = 0 then a + 256 else a - 256

/-- The satellite of an assignment: the assignment of its L1-band signal. -/
def asgSat (a : Nat) : Nat := if asgBand a = 0 then a else a - 256

/-- Primary code length in chips (R283). -/
def codeChips (a : Nat) : Nat :=
  if asgBand a = 1 then 10230 else if asgSys a = 2 then 4092 else if asgSys a = 3 then 10230 else 1023

/-- Chip rate, chips per second (R283). -/
def chipRate (a : Nat) : Nat := if asgBand a = 1 then 10230000 else 1023000

/-- Primary code length in ms (R283). -/
def codeMs (a : Nat) : Nat := codeChips a * 1000 / chipRate a

/-- Carrier of a band, Hz (R283). -/
def bandCarrier (b : Nat) : Nat := if b = 1 then 1176450000 else 1575420000

/-- A BOC signal: E1 B/C and B1C (R283, R292). -/
def isBoc (a : Nat) : Bool := asgBand a == 0 && (asgSys a == 2 || asgSys a == 3)

/-- The tracked component carries the message: GPS and QZSS L1 C/A; every other signal has a pilot (R283). -/
def isCostas (a : Nat) : Bool := asgBand a == 0 && !isBoc a

/-- The chip at a code position in 2⁻⁴⁸ chip is -1 (R283, R290): the primary code of a component, and for BOC(1,1) the half chip. -/
def chipMinus (a comp : Nat) (pos : Int) : Bool :=
  let p := (pos % ((codeChips a * 2 ^ 48 : Nat) : Int)).toNat
  Config.gnssChip a comp (p / 2 ^ 48) != (isBoc a && decide (2 ^ 47 ≤ p % 2 ^ 48))

/-! ### Samples (R278) -/

/-- What a nibble stands for, in half LSB (R278): 0 TWOS, 1 OFFSET. -/
def feLevel (fmt v : Nat) : Int := if fmt = 0 then (if v < 8 then 2 * v else 2 * v - 32) else 2 * (v : Int) - 15

/-- I and Q of a sample, in half LSB: I[3:0] in the upper nibble. -/
def feSample (fmt : Nat) (b : Byte) : Int × Int := (feLevel fmt (b.toNat / 16), feLevel fmt (b.toNat % 16))

/-- A sample brought down by the carrier replica of a phase. -/
def wipeOff (v : Int × Int) (phase : Nat) : Int × Int :=
  let (c, s) := Config.gnssCarrier phase
  (v.1 * c + v.2 * s, v.2 * c - v.1 * s)

/-- A product with a chip joins a sum. -/
def addChip (x v : Int × Int) (minus : Bool) : Int × Int := if minus then (x.1 - v.1, x.2 - v.2) else (x.1 + v.1, x.2 + v.2)

/-- The sum of two complex numbers. -/
def addC (x y : Int × Int) : Int × Int := (x.1 + y.1, x.2 + y.2)

/-- Lists of sums added. -/
def addSums (x y : List (Int × Int)) : List (Int × Int) := x.zipWith addC y

/-- The power of a complex sum. -/
def power (x : Int × Int) : Nat := (x.1 * x.1 + x.2 * x.2).toNat

/-! ### Correlators (R290) -/

/-- The correlators of a channel (R290): component and spacing from P in 2⁻⁴⁸ chip, an early one negative; `d` in 1/32 chip, `vl` while C4 is at
VL. -/
def taps (a d : Nat) (vl : Bool) : List (Nat × Int) :=
  let e : Int := d * 2 ^ 42
  let first : List (Nat × Int) := [(0, -e), (0, 0), (0, e)]
  if isBoc a then first ++ [(1, 0), (0, if vl then 2 ^ 47 else -(2 ^ 47))]
  else if asgBand a = 1 then first ++ [(1, 0), (0, 16 * 2 ^ 48)]
  else first ++ [(0, -(2 ^ 48)), (0, 16 * 2 ^ 48)]

/-- The code position of a channel's NCO, 2⁻⁴⁸ chip. -/
def GnssChan.pos (c : GnssChan) : Int := (c.chips : Int) * 2 ^ 48 + c.codeFrac

/-- The code NCO set to a position (R290). -/
def GnssChan.putPos (c : GnssChan) (len : Nat) (pos : Int) : GnssChan :=
  let m := (pos % ((len * 2 ^ 48 : Nat) : Int)).toNat
  { c with chips := m / 2 ^ 48, codeFrac := m % 2 ^ 48 }

/-- The NCOs of a channel carried on by GF_SCLK periods (R290, R294). -/
def GnssChan.advance (c : GnssChan) (len n : Nat) : GnssChan :=
  let car : Int := c.carPhase + c.carRate * n
  { c.putPos len (c.pos + c.codeRate * n) with carPhase := (car % 2 ^ 40).toNat, cycles := c.cycles + car / 2 ^ 40 }

/-- One sample in the correlators, and the NCOs behind it (R290). -/
def GnssChan.sample (a d fmt : Nat) (c : GnssChan) (b : Byte) : GnssChan :=
  let v := wipeOff (feSample fmt b) c.carPhase
  let sums := (c.acc.zip (taps a d c.vlNow)).map fun t => addChip t.1 v (chipMinus a t.2.1 (c.pos - t.2.2))
  { c with acc := sums, accLen := c.accLen + 1 }.advance (codeChips a) 1

/-- The samples of a tick in a channel; over the GF_SCLK periods of a gap the NCOs are propagated (R290, R294). -/
def GnssChan.feed (a d fmt : Nat) (samples : Bytes) (more : Nat) (c : GnssChan) : GnssChan :=
  let c := samples.foldl (GnssChan.sample a d fmt) c
  { c.advance (codeChips a) more with accLen := c.accLen + more }

/-- The dump of a channel (R290, R291): the sums are latched with their true length, and C4 of a BOC signal changes sides. -/
def GnssChan.dump (c : GnssChan) : GnssChan :=
  { c with
    sums := c.acc, sumsLen := c.accLen, sumsGap := c.accGap, dumped := true, vlDump := c.vlNow
    acc := noSums, accLen := 0, accGap := none, vlNow := !c.vlNow }

/-! ### Acquisition dwells (R285, R286) -/

/-- One coherent sum of the tracked component over samples: code position and rate, carrier phase and rate. -/
def corrSum (a fmt : Nat) (rate : Int × Int) : Bytes → Int × Int → Int × Int → Int × Int
  | [], _, x => x
  | b :: t, ph, x =>
    let v := wipeOff (feSample fmt b) (ph.1 % 2 ^ 40).toNat
    corrSum a fmt rate t (ph.1 + rate.1, ph.2 + rate.2) (addChip x v (chipMinus a 0 ph.2))

/-- The power of one cell over `k` coherent periods of `n` samples, summed (R286). -/
def cellPower (a fmt n : Nat) (rate : Int × Int) : Nat → Bytes → Int × Int → Nat
  | 0, _, _ => 0
  | k + 1, samples, ph =>
    power (corrSum a fmt rate (samples.take n) ph (0, 0)) +
      cellPower a fmt n rate k (samples.drop n) (ph.1 + rate.1 * n, ph.2 + rate.2 * n)

/-- Doppler bin `k`, 500 Hz apart and nearest to the prediction first (R286), mHz from it. -/
def binOffset (k : Nat) : Int := if k % 2 = 1 then 500000 * ((k + 1) / 2 : Nat) else -(500000 * (k / 2 : Nat))

/-- The NCO rates of a Doppler in mHz on an assignment with an intermediate frequency in Hz: carrier in 80 MHz/2⁴⁰, code in 80 MHz/2⁴⁸
(R279, R290). -/
def ncoRatesAt (a : Nat) (ifHz doppler : Int) : Int × Int :=
  let fc := bandCarrier (asgBand a)
  (roundDiv ((ifHz * 1000 + doppler) * 2 ^ 40) 80000000000,
   roundDiv ((chipRate a : Int) * ((fc : Int) * 1000 + doppler) * 2 ^ 48) (80000000 * 1000 * fc))

/-- The Doppler in mHz of a carrier NCO rate. -/
def rateDoppler (ifHz rate : Int) : Int := roundDiv (rate * 80000000000) (2 ^ 40) - ifHz * 1000

/-! ### Front-end tests (R281, R282) -/

/-- GF_SCLK periods since each ball last toggled, after one more sample: ball 0 is I[3], ball 7 is Q[0] (R282). -/
def ballAges (old new : Byte) (ages : List Nat) : List Nat :=
  (List.range 8).map fun k => if old.toNat.testBit (7 - k) == new.toNat.testBit (7 - k) then ages.getD k 0 + 1 else 0

/-- The ages after the samples of a tick. -/
def ballAgesAll : Bytes → Byte → List Nat → Byte × List Nat
  | [], last, ages => (last, ages)
  | b :: t, last, ages => ballAgesAll t b (ballAges last b ages)

/-- The squares of I and of Q summed over samples, units of 0.25 LSB². -/
def squaresOf (fmt : Nat) (samples : Bytes) : Nat × Nat :=
  samples.foldl (fun x b => let v := feSample fmt b; (x.1 + (v.1 * v.1).toNat, x.2 + (v.2 * v.2).toNat)) (0, 0)

/-- GF_SCLK periods up to a coarse count: 80 MHz against 500 MHz. -/
def sclkAt (c : Nat) : Nat := c * 4 / 25

end Sys2Proof.Machine
end

