-- ==== Sys2Proof/Machine/Gnss.lean ====
section
/-! DEFINITION. The Gleaner satellite baseband (09_gnss_baseband.md R278 to R295): channels, start types, samples, acquisition, front end and
tracking. What the manual gives no formula for stands in Config (log entry 11). -/
namespace Sys2Proof.Machine

/-! ### Channels -/

/-- Channel `n`. -/
def State.gch (s : State) (n : Nat) : GnssChan := vat s.gnss.chans n {}

/-- A channel changed. -/
def State.modGch (s : State) (n : Nat) (f : GnssChan → GnssChan) : State :=
  { s with gnss := { s.gnss with chans := vmod s.gnss.chans n f } }

/-- The Gleaner changed. -/
def State.modGnss (s : State) (f : Gnss → Gnss) : State := { s with gnss := f s.gnss }

/-- A band. -/
def State.gband (s : State) (b : Nat) : GnssBand := vat s.gnss.bands b {}

/-- A band changed. -/
def State.modGband (s : State) (b : Nat) (f : GnssBand → GnssBand) : State := s.modGnss fun g => { g with bands := vmod g.bands b f }

/-- An engine changed. -/
def State.modEngine (s : State) (e : Nat) (f : GnssEngine → GnssEngine) : State :=
  s.modGnss fun g => { g with engines := vmod g.engines e f }

/-- The state code of a channel (R293). -/
def State.gchState (s : State) (n : Nat) : Nat := s.valN Obj.gnss_ch_state n

/-- What a channel is assigned to. -/
def State.gchAssign (s : State) (n : Nat) : Nat := s.valN Obj.gnss_ch_assign n

/-- The Gleaner runs: fitted, started at B10 and enabled (R311, R314). -/
def State.gnssOn (s : State) : Bool := s.dev.part == 1 && s.gnss.started && s.effT Obj.gnss_enable

/-- The Gleaner finishes work in flight: it runs, or has been disabled less than two boundaries ago (R47). -/
def State.gnssWorks (s : State) : Bool := s.gnssOn || (s.dev.part == 1 && s.gnss.started && s.net.drains.any fun d => d.1 == 8)

/-- The satellites of the L1 band that the configuration admits (R283). -/
def State.l1Signals (s : State) : List Nat :=
  let on (k : Nat) : Bool := (s.effN Obj.gnss_systems).testBit k
  let run (k sys first n : Nat) : List Nat := if on k then (List.range n).map fun i => sys * 4096 + first + i else []
  run 0 1 1 32 ++ run 1 2 1 36 ++ run 2 3 19 45 ++ run 3 4 193 10

/-- The signals that are searched unaided (R287): those of the L1 band, and under `gnss.l5_direct` those of the L5 band. -/
def State.searchSignals (s : State) : List Nat :=
  let l1 := s.l1Signals
  l1 ++ if s.effT Obj.gnss_l5_direct && s.effN Obj.gnss_bands == 1 then l1.map (· + 256) else []

/-- An assignment is admitted by the systems and bands in effect. -/
def State.admitted (s : State) (a : Nat) : Bool :=
  (s.effN Obj.gnss_systems).testBit (asgSys a - 1) && (asgBand a == 0 || s.effN Obj.gnss_bands == 1)

/-- A flag of a channel. -/
def State.setFlag (s : State) (n bit : Nat) (on : Bool) : State :=
  let f := s.valN Obj.gnss_ch_flags n
  s.setN Obj.gnss_ch_flags (((if f.testBit bit then f - 2 ^ bit else f) + (if on then 2 ^ bit else 0) : Nat) : Int) n

/-- A channel enters a state. -/
def State.setGch (s : State) (n st : Nat) : State :=
  let s := s.setN Obj.gnss_ch_state st n
  s.modGch n fun c => { c with since := s.tc.cyc, lockSince := none, lowSince := none, queued := st == 1 }

/-- A channel drops its assignment and enters IDLE or FENCED. -/
def State.dropGch (s : State) (n st : Nat) : State :=
  let s := match (s.gch n).pair with
    | some m => s.modGch m fun c => { c with pair := none }
    | none => s
  let s := s.each (List.range 16) fun s e =>
    if (vat s.gnss.engines e {}).chan = some n then s.modEngine e fun _ => {} else s
  let s := s.modGch n fun _ => { since := s.tc.cyc }
  let s := (s.setN Obj.gnss_ch_assign 0 n).setN Obj.gnss_ch_state st n
  (s.setN Obj.gnss_ch_flags 0 n).setN Obj.gnss_ch_cn0 0 n

/-- A channel returns its satellite to the search list (R293). -/
def State.giveUp (s : State) (n : Nat) : State :=
  let a := s.gchAssign n
  (s.dropGch n 0).modGnss fun g => { g with searchList := g.searchList ++ [a] }

/-- The logical groups that serve: a group whose physical group is gone reads FENCED. -/
def State.groupDead (s : State) (g : Nat) : Bool := (s.valN Obj.gnss_groups).testBit g

/-- The intermediate frequency of a band, Hz (R279). -/
def State.ifHz (s : State) (b : Nat) : Int := if b = 1 then s.effI Obj.gnss_if_l5 else s.effI Obj.gnss_if_l1

/-- The NCO rates of a Doppler in mHz on an assignment (R279, R290). -/
def State.ncoRates (s : State) (a : Nat) (doppler : Int) : Int × Int := ncoRatesAt a (s.ifHz (asgBand a)) doppler

/-- The early-late spacing of an assignment, 1/32 chip (R290). -/
def State.elSpacing (s : State) (a : Nat) : Nat := if asgBand a = 1 then s.effN Obj.gnss_el_spacing_l5 else s.effN Obj.gnss_el_spacing_l1

/-! ### Start types (R288, R289) -/

/-- The mode acts as HOLD (R298). -/
def State.gnssHold (s : State) : Bool :=
  let m := s.effN Obj.gnss_pos_mode
  m == 2 || (m == 1 && s.valN Obj.gnss_survey_state == 2)

/-- The position held, ECEF mm (R298). -/
def State.heldPos (s : State) : Int × Int × Int :=
  let b := if s.effN Obj.gnss_pos_mode = 2 then s.effB Obj.gnss_position else (s.val Obj.gnss_survey_result).bytes
  (beInt (slice b 0 8), beInt (slice b 8 8), beInt (slice b 16 8))

/-- The uncertainty of the position held, mm: `gnss.pos_unc`, or the figure of the survey (R298). -/
def State.heldUnc (s : State) : Nat :=
  if s.effN Obj.gnss_pos_mode = 2 then s.effN Obj.gnss_pos_unc else field (s.val Obj.gnss_survey_result).bytes 24 4

/-- A position within 100 km (R288): the held one by its uncertainty, else the last one found (log entry 65). -/
def State.nearPos (s : State) : Option (Int × Int × Int) :=
  if s.gnssHold then (if s.heldUnc ≤ 100000000 then some s.heldPos else none) else s.gnss.pos

/-- A time within 2 s (R288, R289), TAI in 2⁻⁵⁶ ns: a SET TOD whose scruple is no larger, else the last `gnss.aid_time` carried on. -/
def State.nearTime (s : State) : Option Int :=
  if s.valN Obj.tod_state = 1 ∧ s.valN Obj.scr_value ≤ 2000000000000 then some s.tod
  else s.gnss.aidAt.map fun e => e.1 + s.nsSince e.2 * nsU

/-- Data held for a satellite. -/
def satData (l : List (Nat × Bytes)) (sat : Nat) : Option Bytes := (l.find? fun e => e.1 == sat).map Prod.snd

/-- Data of a satellite replaced. -/
def putSat (l : List (Nat × Bytes)) (sat : Nat) (b : Bytes) : List (Nat × Bytes) := (sat, b) :: l.filter fun e => e.1 != sat

/-- The ephemeris of a satellite, if it is valid now (R288). -/
def State.validEph (s : State) (sat : Nat) : Option Bytes :=
  match satData s.gnss.eph sat, s.nearTime with
  | some e, some t => if Config.gnssEphValid e t then some e else none
  | _, _ => none

/-- The orbit data of a satellite: its ephemeris, else its almanac (R288). -/
def State.orbit (s : State) (sat : Nat) : Option Bytes := (satData s.gnss.eph sat).or (satData s.gnss.alm sat)

/-- The start type of a search for a satellite that begins now: 0 COLD, 1 WARM, 2 TIMING (R288). -/
def State.startFor (s : State) (sat : Nat) : Nat :=
  if s.gnssHold && (s.validEph sat).isSome && s.valN Obj.tod_state == 1 && decide (s.valN Obj.scr_value ≤ 10000000) then 2
  else if (s.orbit sat).isSome && s.nearPos.isSome && s.nearTime.isSome then 1
  else 0

/-- `gnss.start_type` (R289): the best that any satellite's search would have. -/
def State.startType (s : State) : Nat :=
  ((s.gnss.eph ++ s.gnss.alm).map fun e => s.startFor e.1).foldl max 0

/-- The start type evaluated again (R289). -/
def State.startEval (s : State) : State := if s.gnssOn then s.setN Obj.gnss_start_type s.startType else s

/-- What orbit data predict for a signal at a time (R288): Doppler, mHz, and code position. -/
def State.predict (s : State) (a : Nat) (t : Int) : Option (Int × Int) :=
  match s.orbit (asgSat a), s.nearPos with
  | some d, some p =>
    let (f, c) := Config.gnssPredict a d p t
    some (f, c)
  | _, _ => none

/-- u of R288, exact. -/
def State.gnssU (s : State) : Rat := if s.model.state = 2 then freqRat s.viewBand else s.oscPar.u0

/-- u_pos (R288, R308), ps, exact: `gnss.pos_unc` ÷ c. -/
def State.gnssUPos (s : State) : Rat := (s.effN Obj.gnss_pos_unc * 1000000000 : Nat) / (299792458 : Rat)

/-- Doppler bins of a half-width in Hz (R286, R288). -/
def dopplerBins (f : Rat) : Nat := if f ≤ 250 then 1 else 2 * (ratCeil (f / 500)).toNat + 1

/-- Half-chip cells of the code window ±`w` ps (R288). -/
def codeCells (w : Rat) (rate : Nat) : Nat := (ratCeil (2 * w * (2 * rate : Nat) / 1000000000000)).toNat + 1

/-- Cells and bins of a search by start type (R287, R288); `aided` is the hand-off of an L5 channel from its L1 channel. -/
def State.searchSize (s : State) (a start : Nat) (aided : Bool) : Nat × Nat :=
  let fc : Rat := s.gnssU * (bandCarrier (asgBand a) : Rat)
  if aided then (9, 1)
  else if start = 2 then
    (codeCells ((s.valN Obj.scr_value : Rat) + s.gnssUPos + 300000) (chipRate a), dopplerBins (50 + fc))
  else (2 * codeChips a, dopplerBins ((if start = 1 then 500 else 5000) + fc))

/-! ### Assignment (R37, R284, R287, R293) -/

/-- The channel that carries an assignment. -/
def State.carrier (s : State) (a : Nat) : Option Nat := (List.range 128).find? fun n => s.gchAssign n == a && s.gchState n != 6

/-- A satellite's L1 channel in TRACK or LOCKED, with whose aid its L5 signal may be searched (R287). -/
def State.l1Of (s : State) (a : Nat) : Option Nat := (s.carrier (asgSat a)).filter fun n => s.gchState n == 3 || s.gchState n == 4

/-- An L5 signal may be searched with aid (R287). -/
def State.l5Aided (s : State) (a : Nat) : Bool := asgBand a == 1 && (s.l1Of a).isSome

/-- A signal may be searched now (R283, R287). -/
def State.searchable (s : State) (a : Nat) : Bool :=
  s.admitted a && (asgBand a == 0 || s.effT Obj.gnss_l5_direct || s.l5Aided a) && (s.carrier a).isNone

/-- An L1 channel entered TRACK: its satellite's L5 signal heads the search list (R287). -/
def State.offerL5 (s : State) (n : Nat) : State :=
  let a := s.gchAssign n + 256
  if asgBand (a - 256) = 0 && s.effN Obj.gnss_bands == 1 && (s.carrier a).isNone && !s.gnss.searchList.contains a then
    s.modGnss fun g => { g with searchList := a :: g.searchList }
  else s

/-- SB pairs the heads of the search list with IDLE channels (R293). -/
def assignList : List Nat → List Nat → List (Nat × Nat)
  | n :: ns, a :: t => (n, a) :: assignList ns t
  | _, _ => []

/-- SB's assignment of signals in a tick (R293): it takes effect at the next boundary (R37). What can no longer be searched leaves the list. -/
def State.gnssAssign (s : State) : State :=
  if !s.gnssOn then s
  else
    let idle := (List.range 128).filter fun n => s.gchState n == 0 && !s.groupDead (n / 16)
    let list := s.gnss.searchList.filter s.searchable
    s.modGnss fun g => { g with assigned := assignList idle list, searchList := list }

/-- An assignment takes effect (R284, R293). -/
def State.takeAssign (s : State) (n a : Nat) : State :=
  if s.gchState n != 0 || s.groupDead (n / 16) || !s.gnss.searchList.contains a || !s.searchable a then s
  else
    let other := s.carrier (asgOther a)
    let s := s.modGnss fun g => { g with searchList := g.searchList.filter fun x => x != a }
    let s := s.modGch n fun _ => { pair := other }
    let s := match other with
      | some m => s.modGch m fun c => { c with pair := some n }
      | none => s
    (s.setN Obj.gnss_ch_assign a n).setGch n 1

/-- Dwells may begin on a band: it holds a snapshot, and no refresh waits or is being written (R285). -/
def GnssBand.ready (b : GnssBand) : Bool := b.snapAt.isSome && !b.due && b.writing.isNone

/-- An idle engine takes the first queued channel whose band's snapshot may be searched (R285, R286). -/
def State.engineTake (s : State) (e : Nat) : State :=
  let ok (n : Nat) : Bool := (s.gch n).queued && s.gchState n == 1 && (s.gband (asgBand (s.gchAssign n))).ready
  match (List.range 128).find? ok with
  | none => s
  | some n =>
    let a := s.gchAssign n
    let again := (s.gch n).reacq
    let aided := s.l5Aided a
    if asgBand a = 1 && !aided && !again && !s.effT Obj.gnss_l5_direct then s.giveUp n
    else
      let kind := s.startFor (asgSat a)
      let start := if again then max 1 kind else kind
      let (cells, bins) := s.searchSize a start aided
      let x : GnssEngine :=
        { chan := some n, start := start, bins := bins, blocks := ceilDiv cells 32, cells := cells, whole := !aided && start != 2, aided := aided
          dwelling := true, dwellAt := s.tc.cyc }
      (s.modGch n fun c => { c with queued := false }).modEngine e fun _ => x

/-- The assignments of SB take effect at a boundary, and idle engines take queued channels (R37, R286, R293). -/
def State.commitAssigned (s : State) : State :=
  let l := s.gnss.assigned
  let s := (s.modGnss fun g => { g with assigned := [] }).each l fun s e => s.takeAssign e.1 e.2
  s.each ((List.range 16).filter fun e => (vat s.gnss.engines e {}).chan.isNone) State.engineTake

/-! ### Snapshots and acquisition (R285, R286) -/

/-- The engines that search a band. -/
def State.bandEngines (s : State) (b : Nat) : List Nat :=
  (List.range 16).filter fun e =>
    match (vat s.gnss.engines e {}).chan with
    | some n => asgBand (s.gchAssign n) == b
    | none => false

/-- Samples of a 10 ms snapshot (R285). -/
def snapLen : Nat := 800000

/-- GNSS_SNAPSHOT (R285): a refresh that is due begins to be written once the dwells in progress on its band have ended: from the first sample whose
time is not before the present one (R279). -/
def gnssSnapshotEff (b : Nat) (s : State) : State :=
  if s.gnssOn && (s.gband b).due && (s.bandEngines b).all (fun e => !(vat s.gnss.engines e {}).dwelling) then
    s.modGband b fun x =>
      { x with
        due := false, snap := [], snapAt := some s.tod
        writing := some (sclkAt s.tc.cyc - sclkAt s.gnss.sampledAt + s.effN Obj.gnss_fe_pipe) }
  else s

/-- GNSS_SNAPSHOT (R285). -/
def execGnssSnapshot (b : Fin 2) (s : State) : Host.Outcome State Fault Refusal := .next (gnssSnapshotEff b.val s)

/-- The samples of a tick in a snapshot that is being written (R285); after a gap it begins afresh. `start` is the number of the tick's first
period and `tod` the time of the boundary that ends the tick. -/
def GnssBand.write (x : GnssBand) (samples : Bytes) (start : Nat) (gap : Bool) (tod : Int) : GnssBand :=
  match x.writing with
  | none => x
  | some skip =>
    if gap then { x with snap := [], snapAt := some tod, writing := some 0 }
    else
      let l := x.snap ++ samples.drop skip
      let x := if x.snap.isEmpty then { x with snapNo := start + skip } else x
      { x with snap := l.take snapLen, writing := if snapLen ≤ l.length then none else some (skip - samples.length) }

/-- The code position of a channel's NCO at a band's snapshot (R285). -/
def State.snapPos (s : State) (b n : Nat) : Int :=
  let c := s.gch n
  c.pos - c.codeRate * ((s.gnss.periods : Int) - (s.gband b).snapNo)

/-- The centre of a search: code position at the snapshot, and Doppler in mHz (R287, R288, R293). -/
def State.searchCentre (s : State) (x : GnssEngine) (n : Nat) : Int × Int :=
  let a := s.gchAssign n
  let b := asgBand a
  match x.aided, s.l1Of a with
  | true, some m => (s.snapPos b m * 10, roundDiv (s.valI Obj.gnss_ch_doppler m * 117645) 157542)
  | _, _ =>
    if (s.gch n).reacq then (s.snapPos b n, s.valI Obj.gnss_ch_doppler n)
    else if x.start = 0 then (0, 0)
    else
      match (s.predict a ((s.gband b).snapAt.getD 0)) with
      | some p => (p.2, p.1)
      | none => (0, 0)

/-- The code position of a cell of a search at the snapshot: half-chip steps from the first chip, or about the centre (R286). -/
def GnssEngine.cellPos (x : GnssEngine) (centre : Int) (k : Nat) : Int :=
  if x.whole then (k : Int) * 2 ^ 47 else centre + ((k : Int) - ((x.cells - 1) / 2 : Nat)) * 2 ^ 47

/-- The cells of the present dwell: a block of 32, or the cell being verified and its neighbours (R286). -/
def GnssEngine.dwellCells (x : GnssEngine) : List Nat :=
  match x.verify with
  | some (c, _) => [c - 1, c, c + 1].eraseDups.filter fun k => decide (k < x.cells)
  | none => ((List.range 32).map (32 * x.block + ·)).filter fun k => decide (k < x.cells)

/-- The powers of a dwell's cells (R286), at the Doppler of its bin. -/
def State.dwellPowers (s : State) (x : GnssEngine) (n : Nat) : List (Nat × Nat) :=
  let a := s.gchAssign n
  let b := s.gband (asgBand a)
  let (centre, dop) := s.searchCentre x n
  let rate := s.ncoRates a (dop + binOffset x.bin)
  x.dwellCells.map fun k =>
    (k, cellPower a (s.effN Obj.gnss_fe_format) (80000 * s.effN Obj.gnss_acq_coh) rate (s.effN Obj.gnss_acq_noncoh) b.snap
      (0, x.cellPos centre k))

/-- The strongest cell of a dwell, the first of equals, where its ratio to the noise estimate exceeds `gnss.acq_thresh` (R286). -/
def State.dwellFinds (s : State) (x : GnssEngine) (n : Nat) : Option Nat :=
  let l := s.dwellPowers x n
  let top := l.foldl (fun (m : Nat × Nat) e => if m.2 < e.2 then e else m) (0, 0)
  if s.effN Obj.gnss_acq_thresh * Config.gnssNoise (l.map Prod.snd) < 100 * top.2 then some top.1 else none

/-- The objects that show a channel's NCOs. -/
def State.putPhase (s : State) (n : Nat) : State :=
  let c := s.gch n
  s.setN Obj.gnss_ch_code_phase ((c.chips * 2 ^ 18 + c.codeFrac / 2 ^ 30 : Nat) : Int) n

/-- A search that found its signal hands over (R285, R286, R293): the NCOs are loaded from the cell, propagated to the present with the Doppler of
the bin, and the channel pulls in. -/
def State.handOff (s : State) (x : GnssEngine) (n cell bin : Nat) : State :=
  let a := s.gchAssign n
  let (centre, dop) := s.searchCentre x n
  let doppler := dop + binOffset bin
  let (car, code) := s.ncoRates a doppler
  let pos := x.cellPos centre cell + code * ((s.gnss.periods : Int) - (s.gband (asgBand a)).snapNo)
  let s := s.setGch n 2
  let s := s.modGch n fun c =>
    { ({ since := c.since, retried := c.retried, pair := c.pair, before := c.before } : GnssChan).putPos (codeChips a) pos with
      carRate := car, codeRate := code }
  (s.setN Obj.gnss_ch_doppler doppler n).putPhase n

/-- ACQ_DWELL_DONE (R286): a dwell ends, one sixteenth of its samples' time after it began; the search verifies, hands off, goes on or is
exhausted. -/
def acqDwellDoneEff (e : Nat) (s : State) : State :=
  let x := vat s.gnss.engines e {}
  match x.chan with
  | none => s
  | some n =>
    if !s.gnssWorks || !x.dwelling || !s.passed x.dwellAt (62500 * s.effN Obj.gnss_acq_coh * s.effN Obj.gnss_acq_noncoh) then s
    else if !s.gnssOn then s.modEngine e fun _ => {}
    else
      let go := (s.gband (asgBand (s.gchAssign n))).ready
      let next (y : GnssEngine) : GnssEngine := { y with dwelling := go, dwellAt := s.tc.cyc }
      match s.dwellFinds x n, x.verify with
      | some _, some (c, b) => (s.handOff x n c b).modEngine e fun _ => {}
      | some c, none => s.modEngine e fun y => next { y with verify := some (c, y.bin) }
      | none, _ =>
        let blk := x.block + 1
        let bin := if blk < x.blocks then x.bin else x.bin + 1
        if x.bins ≤ bin then (s.modEngine e fun _ => {}).giveUp n
        else s.modEngine e fun y => next { y with verify := none, block := if blk < x.blocks then blk else 0, bin := bin }

/-- ACQ_DWELL_DONE (R286). -/
def execAcqDwellDone (e : Fin 16) (_ : Unit) (s : State) : Host.Outcome State Fault Refusal := .next (acqDwellDoneEff e.val s)

/-! ### Front end (R280 to R282) -/

/-- The transfers of `gnss.fe_init` (R280); `fuel` bounds the records. -/
def feTransfers : Nat → Bytes → List Bytes
  | 0, _ => []
  | fuel + 1, b =>
    match b with
    | [] => []
    | l :: t => if l = 0 then [] else t.take l.toNat :: feTransfers fuel (t.drop l.toNat)

/-- The front end is configured over its SPI (R280). -/
def State.feInit (s : State) : State := s.modGnss fun g => { g with feLast := feTransfers 256 (s.effB Obj.gnss_fe_init) }

/-- A committed write of 1 to `gnss.fe_reinit` (R280). -/
def State.commitFeReinit (s : State) : State := s.feInit.setN Obj.gnss_fe_reinit 2

/-- The gain code one step toward the target (R281): the rms over the last 100 ms lies outside `gnss.agc_target` ± 10 %. `x` holds the squares of I
and Q in 0.25 LSB² and the samples. -/
def agcStep (target g : Nat) (x : Nat × Nat) : Nat :=
  if 8 * x.2 * (11 * target) ^ 2 < 10000 * x.1 then g - 1
  else if 10000 * x.1 < 8 * x.2 * (9 * target) ^ 2 then min 255 (g + 1)
  else g

/-- GNSS_AGC (R281): every 100 ms; `code` is what GF_MISO answers to the read command. -/
def gnssAgcEff (b : Nat) (code : Byte) (s : State) : State :=
  let x := s.gband b
  let due := match x.agcAt with
    | some c => s.passed c (100 * oneMs)
    | none => true
  if !s.gnssOn || !due then s
  else
    let s := s.modGband b fun y => { y with agcAt := some s.tc.cyc, squares := (0, 0) }
    let send (s : State) (m : Bytes) : State := s.modGnss fun g => { g with agcLast := vmod g.agcLast b fun _ => m }
    let cmd := s.effB Obj.gnss_agc_cmd
    match s.effN Obj.gnss_agc_mode with
    | 1 => (send s (slice cmd (2 + b) 1)).setN Obj.gnss_agc_gain (code.toNat : Nat) b
    | 2 =>
      let g := s.valN Obj.gnss_agc_gain b
      let g' := agcStep (s.effN Obj.gnss_agc_target) g x.squares
      if g' = g then s else (send s (slice cmd b 1 ++ beBytes 1 g')).setN Obj.gnss_agc_gain g' b
    | _ => s

/-- GNSS_AGC (R281). -/
def execGnssAgc (b : Fin 2) (code : Byte) (s : State) : Host.Outcome State Fault Refusal := .next (gnssAgcEff b.val code s)

/-- A tracking channel enters COAST (R293). -/
def State.coast (s : State) (n : Nat) : State :=
  let st := s.gchState n
  if st = 2 || st = 3 || st = 4 then
    let pred := s.nearTime.bind fun t => (s.predict (s.gchAssign n) t).map Prod.fst
    (s.setGch n 5).modGch n fun c => { c with before := st, coastDop := pred }
  else s

/-- What the samples of a tick say of a band (R281, R282); `fmt` is `gnss.fe_format`, `start` the coarse count of the tick's start. -/
def GnssBand.tests (x : GnssBand) (fmt : Nat) (samples : Bytes) (start : Nat) : GnssBand :=
  let (last, ages) := ballAgesAll samples x.last x.quiet
  let (i, q) := squaresOf fmt samples
  let n := samples.length
  let bad := [decide (i < n), decide (144 * n < i), decide (q < n), decide (144 * n < q)]
  { x with
    last := last, quiet := ages, squares := (x.squares.1 + i + q, x.squares.2 + n)
    rmsBad := (List.range 4).map fun k => if bad.getD k false then some ((x.rmsBad.getD k none).getD start) else none }

/-- A failure condition of a band holds (R282): a data ball has not toggled for 1 ms, or the rms of I or Q has stayed outside 0.5 to 6 LSB for
1 s. -/
def State.bandBad (s : State) (b : Nat) : Bool :=
  let x := s.gband b
  x.quiet.any (fun a => decide (80000 ≤ a)) || x.rmsBad.any fun c => s.passedO c oneSec

/-- GNSS_BAND_FAIL (R282): the band is FAILED and its channels coast. -/
def gnssBandFailEff (b : Nat) (s : State) : State :=
  if s.gnssOn && (vat s.outs 12 {}).running && s.bandBad b && s.valN Obj.gnss_band_state b == 0 then
    let s := ((s.modGband b fun y => { y with failedAt := s.tc.cyc }).setN Obj.gnss_band_state 1 b).condBegin (246 + b)
    s.each ((List.range 128).filter fun n => asgBand (s.gchAssign n) == b) State.coast
  else s

/-- GNSS_BAND_FAIL (R282). -/
def execGnssBandFail (b : Fin 2) (s : State) : Host.Outcome State Fault Refusal := .next (gnssBandFailEff b.val s)

/-- GNSS_BAND_OK (R282): after 1 s without either condition. -/
def gnssBandOkEff (b : Nat) (s : State) : State :=
  if s.valN Obj.gnss_band_state b = 1 && !s.bandBad b && s.passed (s.gband b).failedAt oneSec then
    (s.setN Obj.gnss_band_state 0 b).condEnd (246 + b)
  else s

/-- GNSS_BAND_OK (R282). -/
def execGnssBandOk (b : Fin 2) (s : State) : Host.Outcome State Fault Refusal := .next (gnssBandOkEff b.val s)

/-! ### Samples of a tick (R278, R279, R290, R294) -/

/-- A gap that a stretch since a coarse count contains: its length in ns, if any (R294). -/
def State.gapNs (s : State) (from' : Nat) : Option Nat :=
  match s.gnss.gap.2 with
  | none => some (s.nsSince s.gnss.gap.1)
  | some t => if from' ≤ t && decide (0 < t) then some (2 * (t - s.gnss.gap.1)) else none

/-- The longer of two gaps. -/
def longerGap (a b : Option Nat) : Option Nat :=
  match a, b with
  | some x, some y => some (max x y)
  | x, y => x.or y

/-- The samples of a tick in a band: its tests, and a snapshot that is being written; a snapshot that is complete lets the engines of the band
dwell. -/
def State.bandSamples (s : State) (b : Nat) (l : Bytes) (gap : Bool) : State :=
  let g := s.gnss
  let busy := (s.gband b).writing.isSome
  let s := s.modGband b fun x => (x.tests (s.effN Obj.gnss_fe_format) l g.sampledAt).write l g.periods gap s.tod
  let s := if s.bandBad b then s.modGband b fun x => { x with failedAt := s.tc.cyc } else s
  if busy && (s.gband b).writing.isNone then
    s.each (s.bandEngines b) fun s e => s.modEngine e fun x => { x with dwelling := true, dwellAt := s.tc.cyc }
  else s

/-- The samples of a tick in a channel (R290, R294); while it is searched for again after COAST its NCOs are propagated. -/
def State.chanSamples (s : State) (n : Nat) (l : Bytes) (more : Nat) (gap : Option Nat) : State :=
  let a := s.gchAssign n
  let st := s.gchState n
  if 2 ≤ st ∧ st ≤ 5 then
    s.modGch n fun c =>
      let c := c.feed a (s.elSpacing a) (s.effN Obj.gnss_fe_format) l more
      { c with accGap := longerGap c.accGap gap }
  else if st = 1 && (s.gch n).reacq then s.modGch n fun c => c.advance (codeChips a) (l.length + more)
  else s

/-- The samples captured in the tick that ends, I and Q of L1 and of L5 for each GF_SCLK period (R278): while GF_SCLK is gated there are none, and
the periods of the gap are propagated (R294). -/
def State.gnssSamples (s : State) (gf : List (Byte × Byte)) : State :=
  let g := s.gnss
  let gap := s.gapNs g.sampledAt
  let off := g.gap.2.isNone && decide (g.gap.1 ≤ g.sampledAt)
  let l := if off then [] else gf
  let more := if gap.isSome then sclkAt s.tc.cyc - sclkAt g.sampledAt - l.length else 0
  let l1 := l.map Prod.fst
  let l5 := l.map Prod.snd
  let s := (s.bandSamples 0 l1 gap.isSome).bandSamples 1 l5 gap.isSome
  let s := s.each (List.range 128) fun s n => s.chanSamples n (if asgBand (s.gchAssign n) = 1 then l5 else l1) more gap
  s.modGnss fun g => { g with periods := g.periods + l.length + more, sampledAt := s.tc.cyc }

/-- The correlators of the group of a tick dump at its boundary (R291). -/
def State.groupDump (s : State) : State :=
  let g := s.tc.tickNo % 8
  s.each ((List.range 16).map (16 * g + ·)) fun s n =>
    if 2 ≤ s.gchState n ∧ s.gchState n ≤ 5 then (s.modGch n GnssChan.dump).putPhase n else s

/-! ### Tracking (R290 to R294) -/

/-- The mean of a sum and count exceeds that of another. -/
def meanOver (a b : Nat × Nat) : Bool := decide (0 < a.2) && decide (a.1 * max 1 b.2 > b.1 * a.2)

/-- BOC side peaks over 100 ms: SB moves P by half a chip onto the main peak (R292). -/
def GnssChan.bocCheck (c : GnssChan) (now : Nat) : GnssChan :=
  let add (x : Nat × Nat) (v : Int × Int) : Nat × Nat := (x.1 + power v, x.2 + 1)
  let c4 := c.sums.getD 4 (0, 0)
  let c := { c with pSum := add c.pSum (c.sums.getD 1 (0, 0)) }
  let c := if c.vlDump then { c with vlSum := add c.vlSum c4 } else { c with veSum := add c.veSum c4 }
  if 2 * (now - c.bocFrom) < 100 * oneMs then c
  else
    { c with
      move := if meanOver c.veSum c.pSum then 2 ^ 47 else if meanOver c.vlSum c.pSum then -(2 ^ 47) else 0
      veSum := (0, 0), vlSum := (0, 0), pSum := (0, 0), bocFrom := now }

/-- A dump joins the sum over the primary code (R292): the sums and periods of a code that it completes. -/
def GnssChan.primary (a : Nat) (c : GnssChan) : GnssChan × Option (List (Int × Int) × Nat) :=
  let (x, k, n) := c.prim
  let x := addSums x c.sums
  if k + 1 < codeMs a then ({ c with prim := (x, k + 1, n + c.sumsLen) }, none)
  else ({ c with prim := (noSums, 0, 0) }, some (x, n + c.sumsLen))

/-- Sums with the sign of a secondary-code chip taken off. -/
def signedSums (minus : Bool) (x : List (Int × Int)) : List (Int × Int) := if minus then x.map fun v => (-v.1, -v.2) else x

/-- A primary code joins the sum over the secondary code or bit once that is synchronised (R292): the combined sums and periods that it
completes. -/
def GnssChan.combine (a : Nat) (x : List (Int × Int)) (n : Nat) (c : GnssChan) : GnssChan × Option (List (Int × Int) × Nat) :=
  let p := x.getD 1 (0, 0)
  let c := { c with
    prims := keepNew 400 (p :: c.prims), datas := keepNew 400 ((if isCostas a then p else x.getD 3 (0, 0)) :: c.datas) }
  match c.sync with
  | none => ({ c with sync := Config.gnssSync a c.prims, comb := (noSums, 0, 0) }, some (x, n))
  | some k =>
    let (y, m, len) := c.comb
    let y := addSums y (signedSums (!isCostas a && Config.gnssSecChip a k) x)
    let top := Config.gnssSecondary a + 1
    let c := { c with sync := some ((k + 1) % top) }
    if k + 1 < top then ({ c with comb := (y, m + 1, len + n) }, none)
    else ({ c with comb := (noSums, 0, 0) }, some (y, len + n))

/-- The carrier and code loops on a combined sum (R292): an FLL assists while the channel pulls in, a PLL at `gnss.pll_bw` follows a pilot, or as a
Costas loop the data; the carrier-aided DLL at `gnss.dll_bw` uses the normalised early-minus-late power. Their rates are staged (R291). -/
def GnssChan.loops (a : Nat) (pull : Bool) (pll dll : Nat) (ifHz : Int) (x : List (Int × Int)) (n : Nat) (c : GnssChan) : GnssChan :=
  let p := x.getD 1 (0, 0)
  let ferr := if pull then some (Config.gnssFreqError c.lastP p) else none
  let (cm, dcar) := Config.gnssCarrierFilter pll n ferr (Config.gnssPhaseError (isCostas a) p) c.carMem
  let car := c.carRate + dcar
  let e := power (x.getD 0 (0, 0))
  let l := power (x.getD 2 (0, 0))
  let disc : Rat := if e + l = 0 then 0 else ((e : Int) - l : Int) / ((e + l : Nat) : Rat)
  let (km, dcode) := Config.gnssCodeFilter dll n disc c.codeMem
  { c with
    staged := some (car, (ncoRatesAt a ifHz (rateDoppler ifHz car)).2 + dcode), carMem := cm, codeMem := km, lastP := p }

/-- The UTC parameters that two satellites have delivered identically, newest first (R302). -/
def utcAgreed (l : List (Nat × Int × Nat × Nat)) : Option (Int × Nat × Nat) :=
  (l.find? fun e => l.any fun f => f.1 != e.1 && f.2 == e.2).map Prod.snd

/-- UTC parameters that a satellite of the reference system delivers (R302); the leap time is that of R91. -/
def State.takeUtc (s : State) (sat : Nat) (u : Int × Nat × Nat) : State :=
  if asgSys sat ≠ s.effN Obj.gnss_ref_system + 1 then s
  else
    let seen := (sat, u) :: s.gnss.utcSeen.filter fun e => e.1 != sat
    let s := s.modGnss fun g => { g with utcSeen := seen }
    match utcAgreed seen with
    | some (off, leap, t) =>
      (((s.setT Obj.gnss_utc_valid true).setN Obj.gnss_utc_offset off).setN Obj.gnss_leap_pending (leap % 3 : Nat)).setN Obj.gnss_leap_time
        (time128 ((t : Int) * secU))
    | none => s

/-- A message symbol of a channel (R283, R293, R302). -/
def State.takeSymbol (s : State) (n : Nat) (b : Bool) : State :=
  let a := s.gchAssign n
  let s := s.modGch n fun c => { c with bits := keepNew 60000 (b :: c.bits) }
  let bits := (s.gch n).bits
  let (frame, eph, alm) := Config.gnssMessage a bits
  let s := s.setFlag n 4 frame
  let s := match eph with
    | some e => s.modGnss fun g => { g with eph := putSat g.eph (asgSat a) e }
    | none => s
  let s := s.each alm fun s e => s.modGnss fun g => { g with alm := putSat g.alm e.1 e.2 }
  match Config.gnssUtc a bits with
  | some u => s.takeUtc (asgSat a) u
  | none => s

/-- What SB forms from the sums over a primary code: sums over the secondary code or bit, the lock indicator, and a message symbol (R283, R292,
R293). -/
def State.trackPrimary (s : State) (n : Nat) (x : List (Int × Int)) (len : Nat) : State × Option (List (Int × Int) × Nat) :=
  let a := s.gchAssign n
  let place := (s.gch n).sync
  let (c, out) := (s.gch n).combine a x len
  let s := s.modGch n fun _ => { c with lock := if c.spoilt then c.lock else Config.gnssLock (isCostas a) c.prims }
  let s := s.setFlag n 3 c.sync.isSome
  match place.bind fun k => if c.spoilt then none else Config.gnssSymbol a k c.datas with
  | some b => (s.takeSymbol n b, out)
  | none => (s, out)

/-- What SB forms from combined sums (R292, R297, R315): C/N0, cycle slips, and the loops, which a channel in COAST does not close; nothing from sums
with a gap (R294). -/
def State.trackCombined (s : State) (n : Nat) (x : List (Int × Int)) (len : Nat) : State :=
  if (s.gch n).spoilt then s.modGch n fun c => { c with spoilt := false }
  else
  let a := s.gchAssign n
  let now := s.tc.cyc
  let p := x.getD 1 (0, 0)
  let cn0 := Config.gnssCn0 (power p) (power (x.getD (if isBoc a then 3 else 4) (0, 0))) len
  let low := decide ((cn0 : Int) < ((s.effN Obj.gnss_cn0_mask : Int) - 3) * 100)
  let slip := Config.gnssSlip (isCostas a) (s.gch n).lastP p
  let st := s.gchState n
  let s := (s.setN Obj.gnss_ch_cn0 (min cn0 65535 : Nat) n).modGch n fun c =>
    { c with
      lowSince := if low then some (c.lowSince.getD now) else none, slipAt := if slip then some now else c.slipAt
      smoothed := if slip then 0 else c.smoothed }
  if st = 5 then s
  else s.modGch n (GnssChan.loops a (st == 2) (s.effN Obj.gnss_pll_bw) (s.effN Obj.gnss_dll_bw) (s.ifHz (asgBand a)) x len)

/-- The rates of a channel in COAST follow what the ephemeris predicts since it began to coast (R293). -/
def State.coastRates (s : State) (n : Nat) : State :=
  let a := s.gchAssign n
  let pred := s.nearTime.bind fun t => (s.predict a t).map Prod.fst
  match pred, (s.gch n).coastDop with
  | some f, some f0 =>
    let r := s.ncoRates a (rateDoppler (s.ifHz (asgBand a)) (s.gch n).carRate + f - f0)
    s.modGch n fun c => { c with staged := some r, coastDop := some f }
  | _, _ => s

/-- The transitions of R293 that a dump brings. -/
def State.trackMoves (s : State) (n : Nat) : State :=
  let c := s.gch n
  let lost := s.passedO c.lowSince oneSec || decide (c.lock < 50)
  match s.gchState n with
  | 5 => if s.valN Obj.gnss_band_state (asgBand (s.gchAssign n)) == 0 && decide (50 ≤ c.lock) && c.lowSince.isNone then s.setGch n c.before else s
  | 3 =>
    if lost then s.coast n
    else if (s.valN Obj.gnss_ch_flags n).testBit 4 && (s.valN Obj.gnss_ch_flags n).testBit 5 then s.setGch n 4
    else s
  | 4 => if lost then s.coast n else s
  | _ => s

/-- The noise correlator of a dump joins the band's mean (R290, R309). -/
def State.addNoise (s : State) (a : Nat) (c : GnssChan) : State :=
  if isBoc a || c.sumsLen == 0 then s
  else s.modGband (asgBand a) fun b => { b with noise := (b.noise.1 + power (c.sums.getD 4 (0, 0)) / c.sumsLen, b.noise.2 + 1) }

/-- A dump joins the sums over primary code, secondary code and bit (R292). -/
def State.trackSums (s : State) (n : Nat) : State :=
  let (c, code) := (s.gch n).primary (s.gchAssign n)
  let s := s.modGch n fun _ => c
  match code with
  | some (x, len) =>
    match s.trackPrimary n x len with
    | (s, some (y, m)) => s.trackCombined n y m
    | (s, none) => s
  | none => s

/-- One channel's dump without a gap: SB's loops (R292) and the transitions of R293. -/
def State.trackDump (s : State) (n : Nat) : State :=
  let a := s.gchAssign n
  let s := s.addNoise a (s.gch n)
  let s := (if isBoc a then s.modGch n fun c => c.bocCheck s.tc.cyc else s).trackSums n
  let now := s.tc.cyc
  let s := s.modGch n fun c => { c with lockSince := if 80 < c.lock then some (c.lockSince.getD now) else none }
  let slipping := match (s.gch n).slipAt with
    | some t => !s.passed t oneSec
    | none => false
  let s := (s.setFlag n 7 slipping).setFlag n 5 (s.validEph (asgSat a)).isSome
  let s := match satData s.gnss.eph (asgSat a), s.nearPos, s.nearTime with
    | some e, some p, some t => s.setN Obj.gnss_ch_elev (Config.gnssElevation e p t) n
    | _, _, _ => s
  s.trackMoves n

/-- One channel's dump (R291, R294): across a gap SB propagates the NCOs and closes no loop. -/
def State.dumpOne (s : State) (n : Nat) : State :=
  let st := s.gchState n
  let c := s.gch n
  if st < 2 || 5 < st || !c.dumped then s
  else
    let s := s.modGch n fun c => { c with dumped := false }
    let s := match c.sumsGap with
      | some ns =>
        let s := ((s.setFlag n 6 true).modGch n fun c => { c with spoilt := true }).trackSums n
        if oneMs < ns then s.coast n else s
      | none => (s.setFlag n 6 false).trackDump n
    if s.gchState n = 5 then s.coastRates n else s

/-- CORRELATOR_DUMP (R41, R291): group `g` dumps in the ticks congruent to it modulo 8, and SB, where it runs, runs its loops. -/
def correlatorDumpEff (g : Nat) (s : State) : State :=
  if s.gnssWorks && s.roleRuns 2 && s.tc.tickNo % 8 == g && vat s.gnss.dumpTick g 0 != s.tc.boundaries && !s.groupDead g then
    let s := s.modGnss fun x => { x with dumpTick := vmod x.dumpTick g fun _ => s.tc.boundaries }
    s.each ((List.range 16).map (16 * g + ·)) State.dumpOne
  else s

/-- CORRELATOR_DUMP (R291). -/
def execCorrelatorDump (g : Fin 8) (_ : Unit) (s : State) : Host.Outcome State Fault Refusal := .next (correlatorDumpEff g.val s)

/-- The NCO rates and moves that SB wrote take effect at a tick boundary (R291). -/
def State.gnssRates (s : State) : State :=
  s.each ((List.range 128).filter fun n => (s.gch n).staged.isSome || (s.gch n).move != 0) fun s n =>
    let a := s.gchAssign n
    let s := s.modGch n fun c =>
      let c := c.putPos (codeChips a) (c.pos + c.move)
      let r := c.staged.getD (c.carRate, c.codeRate)
      { c with move := 0, staged := none, carRate := r.1, codeRate := r.2 }
    s.setN Obj.gnss_ch_doppler (rateDoppler (s.ifHz (asgBand a)) (s.gch n).carRate) n

/-- CHANNEL_PULL_IN_LOCK (R293): the lock indicator has been above 0.8 for 100 ms. -/
def channelPullInLockEff (n : Nat) (s : State) : State :=
  if s.roleRuns 2 && s.gchState n == 2 && s.passedO (s.gch n).lockSince (100 * oneMs) then (s.setGch n 3).offerL5 n else s

/-- CHANNEL_PULL_IN_LOCK (R293). -/
def execChannelPullInLock (c : Fin 128) (s : State) : Host.Outcome State Fault Refusal := .next (channelPullInLockEff c.val s)

/-- CHANNEL_PULL_IN_TIMEOUT (R293): no lock within 1 s; once back to SEARCH, then IDLE. -/
def channelPullInTimeoutEff (n : Nat) (s : State) : State :=
  if s.roleRuns 2 && s.gchState n == 2 && s.passed (s.gch n).since oneSec && !s.passedO (s.gch n).lockSince (100 * oneMs) then
    if (s.gch n).retried then s.giveUp n else (s.setGch n 1).modGch n fun c => { c with retried := true, reacq := false }
  else s

/-- CHANNEL_PULL_IN_TIMEOUT (R293). -/
def execChannelPullInTimeout (c : Fin 128) (s : State) : Host.Outcome State Fault Refusal := .next (channelPullInTimeoutEff c.val s)

/-- CHANNEL_COAST_TIMEOUT (R293): `gnss.coast_max` has passed. -/
def channelCoastTimeoutEff (n : Nat) (s : State) : State :=
  if s.roleRuns 2 && s.gchState n == 5 && s.passed (s.gch n).since (s.effN Obj.gnss_coast_max * oneMs) then
    (s.setGch n 1).modGch n fun c => { c with retried := false, reacq := true }
  else s

/-- CHANNEL_COAST_TIMEOUT (R293). -/
def execChannelCoastTimeout (c : Fin 128) (s : State) : Host.Outcome State Fault Refusal := .next (channelCoastTimeoutEff c.val s)

end Sys2Proof.Machine
end

