-- ==== Sys2Proof/Machine/GnssFix.lean ====
section
/-! DEFINITION. The Gleaner's timing solution, its report and raw PPS, interference, start and groups (09_gnss_baseband.md R296 to R313). -/
namespace Sys2Proof.Machine

/-! ### Epoch (R296) -/

/-- EPOCH_LATCH (R279, R296): at the first sample of a TOD second, `gnss.fe_pipe` periods behind the boundary; an epoch at which GF_SCLK is
gated is invalid. -/
def epochLatchEff (s : State) : State :=
  if s.gnssWorks && s.tc.tickNo == 0 && s.gnss.epochAt != s.tc.boundaries then
    let ok := (s.gapNs s.tc.tickCyc).isNone
    let pipe := s.effN Obj.gnss_fe_pipe
    let tracking (n : Nat) : Bool := s.gchState n == 3 || s.gchState n == 4
    let s := s.each (List.range 128) fun s n => s.modGch n fun c =>
      if ok && tracking n then
        let p := c.advance (codeChips (s.gchAssign n)) pipe
        { c with latCode := p.codeFrac, latChips := p.chips, latCar := p.cycles * 2 ^ 40 + p.carPhase, latched := true }
      else { c with latched := false }
    s.modGnss fun g =>
      { g with
        epochM := s.tc.tickSec, epochAt := s.tc.boundaries, epochOk := ok, epochSteps := s.steps % 65536
        epochCyc := s.tc.cyc, epochInc := s.tc.incTotal, epochSlew := s.tc.slewTotal, epochStep := 0, solved := false }
  else s

/-- EPOCH_LATCH (R296). -/
def execEpochLatch (s : State) : Host.Outcome State Fault Refusal := .next (epochLatchEff s)

/-! ### Observations (R297, R301) -/

/-- SB carrier-smooths the code observation of a latched channel over `gnss.smooth` seconds (R297). -/
def State.smoothObs (s : State) (n : Nat) : State :=
  let a := s.gchAssign n
  let top := s.effN Obj.gnss_smooth
  s.modGch n fun c =>
    if !c.latched then c
    else
      let code := Config.gnssCode a c.bits c.latChips c.latCode
      let k := min top (c.smoothed + 1)
      { c with
        smoothed := k, smoothCar := c.latCar
        smooth := if k ≤ 1 then code else Config.gnssSmooth k c.smooth code (c.latCar - c.smoothCar) }

/-- A channel's observation may be used (R301): LOCKED, latched, above `gnss.elev_mask` and `gnss.cn0_mask`. -/
def State.obsOk (s : State) (n : Nat) : Bool :=
  s.gchState n == 4 && (s.gch n).latched && decide ((s.effN Obj.gnss_elev_mask * 100 : Int) < s.valI Obj.gnss_ch_elev n) &&
    decide (s.effN Obj.gnss_cn0_mask * 100 < s.valN Obj.gnss_ch_cn0 n)

/-- The other-band channel with which an L1-band channel forms the ionosphere-free combination (R297). -/
def State.ionoPair (s : State) (n : Nat) : Option Nat := (s.gch n).pair.filter s.obsOk

/-- The ionosphere-free combination, in millionths (R297). -/
def ionoFree (l1 l5 : Int) : Int := roundDiv (2260604 * l1 - 1260604 * l5) 1000000

/-- The antenna delay of a satellite (R297), ps, exact. -/
def State.antDelay (s : State) (dual : Bool) : Rat :=
  let l1 : Rat := s.effI Obj.gnss_ant_delay_l1
  if dual then (2260604 * l1 - 1260604 * (s.effI Obj.gnss_ant_delay_l5 : Rat)) / 1000000 else l1

/-- Picoseconds as units of 2⁻⁵⁶ ns, rounded. -/
def psRound (x : Rat) : Int := ratRound (x * 2 ^ 56 / 1000)

/-- One satellite's observation. -/
structure GnssObs where
  /-- the L1-band channel -/
  chan : Nat := 0
  /-- assignment -/
  asg : Nat := 0
  /-- formed from both bands -/
  dual : Bool := false
  /-- its system has no other satellite and is not the reference system (R300) -/
  broadcast : Bool := false
  /-- modelled ionospheric delay of a single-band satellite, ps (R297, R308) -/
  iono : Nat := 0
  /-- transmit time of what reached the antenna at the epoch, units of 2^-56 ns (R297) -/
  obs : Int := 0
deriving DecidableEq, Repr

/-- The observations of an epoch before biases (R297): both bands where both are LOCKED, else L1 with the broadcast ionosphere; an L5 signal is never
used alone. -/
def State.observations (s : State) (at' : Option (Int × Int × Int)) : List GnssObs :=
  ((List.range 128).filter fun n => asgBand (s.gchAssign n) == 0 && s.obsOk n).map fun n =>
    let a := s.gchAssign n
    let l1 := (s.gch n).smooth
    match s.ionoPair n with
    | some m =>
      { chan := n, asg := a, dual := true, obs := ionoFree l1 (s.gch m).smooth + psRound (s.antDelay true) }
    | none =>
      let d := Config.gnssIono a ((satData s.gnss.eph a).getD []) (at'.getD (s.gnss.pos.getD (0, 0, 0))) (s.gnss.epochM * secU)
      { chan := n, asg := a, iono := d, obs := l1 + psRound (s.antDelay false) + psRound d }

/-- Satellites of a system among observations. -/
def sysCount (l : List GnssObs) (y : Nat) : Nat := (l.filter fun o => asgSys o.asg == y).length

/-- The other systems whose time bias is estimated (R300): at least two satellites. -/
def biasSystems (ref : Nat) (l : List GnssObs) : List Nat :=
  [1, 2, 3, 4].filter fun y => y != ref && decide (2 ≤ sysCount l y)

/-- The observations of one pass (R300): a satellite alone in its system takes that system's broadcast offset and is marked. -/
def State.withBroadcast (s : State) (ref : Nat) (l : List GnssObs) : List GnssObs :=
  l.map fun o =>
    if asgSys o.asg ≠ ref ∧ sysCount l (asgSys o.asg) = 1 then
      { o with
        broadcast := true, obs := o.obs + psRound (Config.gnssOffset (asgSys o.asg - 1) (ref - 1) ((satData s.gnss.eph o.asg).getD [])) }
    else o

/-- One pass of the weighted least squares (R300, R301). -/
def State.lsq (s : State) (ref : Nat) (at' : Option (Int × Int × Int)) (l : List GnssObs) : Config.Lsq :=
  let rows := (s.withBroadcast ref l).map fun o =>
    (o.asg, o.obs, (satData s.gnss.eph o.asg).getD [], Config.gnssWeight (s.valN Obj.gnss_ch_cn0 o.chan) (s.valI Obj.gnss_ch_elev o.chan))
  Config.gnssLsq (s.gnss.epochM * secU) (ref - 1) ((biasSystems ref l).map (· - 1)) at' rows

/-- How many unknowns a pass has (R300): the clock, the position where it is solved, and the estimated biases. -/
def unknownsOf (ref : Nat) (at' : Option (Int × Int × Int)) (l : List GnssObs) : Nat :=
  1 + (if at'.isSome then 0 else 3) + (biasSystems ref l).length

/-- The place of the largest normalised residual, the first of equals, and its value in 0.01. -/
def worstOf (l : List (Int × Nat)) : Nat × Nat :=
  ((List.range l.length).zip l).foldl (fun m e => if m.2 < e.2.2 then (e.1, e.2.2) else m) (0, 0)

/-- Exclusions (R301): while satellites exceed the unknowns, the one with the largest normalised residual goes if that exceeds `gnss.fde_k`, and the
solution is formed again; `fuel` bounds the passes. The last pass, what it used and what was excluded. -/
def State.fde (s : State) (ref : Nat) (at' : Option (Int × Int × Int)) : Nat → List GnssObs → List GnssObs → Config.Lsq × List GnssObs × List GnssObs
  | 0, l, out => (s.lsq ref at' l, l, out)
  | fuel + 1, l, out =>
    let x := s.lsq ref at' l
    let (k, v) := worstOf x.resid
    if unknownsOf ref at' l < l.length && decide (100 * s.effN Obj.gnss_fde_k < v) then
      match l[k]? with
      | some o => s.fde ref at' fuel (l.filter fun y => y.chan != o.chan) (o :: out)
      | none => (x, l, out)
    else (x, l, out)

/-! ### Survey (R298, R299) -/

/-- A fix joins the survey: averages of 60 s (R298). -/
def State.surveyFix (s : State) (p : Int × Int × Int) : State :=
  if s.effN Obj.gnss_pos_mode != 1 || s.valN Obj.gnss_survey_state != 1 then s
  else
    let g := s.gnss
    if s.passed g.surveyMinAt (60 * oneSec) && !g.surveyMin.isEmpty then
      let n := g.surveyMin.length
      let mean (f : Int × Int × Int → Int) : Int := roundDiv (g.surveyMin.map f).sum n
      let avg := (mean fun e => e.1, mean fun e => e.2.1, mean fun e => e.2.2)
      s.modGnss fun g => { g with surveyAvg := avg :: g.surveyAvg, surveyMin := [p], surveyMinAt := s.tc.cyc }
    else s.modGnss fun g => { g with surveyMin := p :: g.surveyMin }

/-- The 1-sigma figure of a survey squared and multiplied by nine, mm²: three times the standard deviation of the mean (R298). -/
def surveyFigure2 (l : List (Int × Int × Int)) : Option Rat :=
  let n := l.length
  if n < 2 then none
  else
    let one (f : Int × Int × Int → Int) : Rat :=
      let m : Rat := ((l.map f).sum : Int) / (n : Rat)
      sumOf l (fun e => ((f e : Rat) - m) * ((f e : Rat) - m)) / ((n * (n - 1) : Nat) : Rat)
    some (9 * (one (fun e => e.1) + one (fun e => e.2.1) + one fun e => e.2.2))

/-- SURVEY_DONE (R298): the survey time has passed and the figure is small enough. -/
def surveyDoneEff (s : State) : State :=
  let l := s.gnss.surveyAvg
  let acc := s.effN Obj.gnss_survey_acc
  match surveyFigure2 l with
  | some f =>
    if s.gnssOn && s.effN Obj.gnss_pos_mode == 1 && s.valN Obj.gnss_survey_state == 1 &&
        s.passed s.gnss.surveyFrom (s.effN Obj.gnss_survey_time * oneSec) && decide (f ≤ ((acc * acc : Nat) : Rat)) then
      let mean (g : Int × Int × Int → Int) : Int := roundDiv (l.map g).sum l.length
      let b := intBytes 8 (mean fun e => e.1) ++ intBytes 8 (mean fun e => e.2.1) ++ intBytes 8 (mean fun e => e.2.2) ++
        beBytes 4 (ratCeil (ratSqrt f)).toNat
      let s := (s.setB Obj.gnss_survey_result b).setN Obj.gnss_survey_state 2
      s.modGnss fun g => { g with record := { g.record with survey := b } }
    else s
  | none => s

/-- SURVEY_DONE (R298). -/
def execSurveyDone (s : State) : Host.Outcome State Fault Refusal := .next (surveyDoneEff s)

/-- A survey begins. -/
def State.surveyBegin (s : State) : State :=
  let s := s.setN Obj.gnss_survey_state (if s.effN Obj.gnss_pos_mode = 1 then 1 else 0)
  s.modGnss fun g => { g with surveyFrom := s.tc.cyc, surveyMinAt := s.tc.cyc, surveyMin := [], surveyAvg := [] }

/-- A committed write of 1 to `gnss.resurvey` (R299). -/
def State.commitResurvey (s : State) : State :=
  let s := (s.setB Obj.gnss_survey_result (zeros 28)).surveyBegin.setN Obj.gnss_resurvey 2
  s.modGnss fun g => { g with record := { g.record with survey := [] } }

/-- A committed change of `gnss.pos_mode` (R298). -/
def State.commitPosMode (s : State) : State := if s.valN Obj.gnss_survey_state = 2 then s else s.surveyBegin

/-! ### Solution (R301 to R303, R308) -/

/-- The squared distance of two positions, mm². -/
def dist2 (a b : Int × Int × Int) : Int := (a.1 - b.1) ^ 2 + (a.2.1 - b.2.1) ^ 2 + (a.2.2 - b.2.2) ^ 2

/-- A SPOOF indicator is set or held (R309, R310). -/
def State.spoofed (s : State) : Bool := s.valN Obj.gnss_indicators &&& 0xF0 != 0

/-- The change of t_N that the model and the time core predict since the previous solution (R309): the seconds of TAI between as the TOD counts
them, with the increments and slews committed since. -/
def State.predictedChange (s : State) (l : GnssPrev) (n : Int) : Rat :=
  let g := s.gnss
  let cycles := g.epochCyc - l.cyc
  let rate : Rat := if cycles = 0 then 1 else (g.epochInc - l.inc : Int) / ((cycles * 2 ^ 57 : Nat) : Rat)
  (n - l.second : Int) * (secU : Rat) * rate * (1 + s.fPred) + (g.epochSlew - l.slew : Int)

/-- A solution's uncertainty U_t (R308). -/
def State.solutionUnc (s : State) (x : Config.Lsq) (used : List GnssObs) : Nat :=
  let worst := (used.filter fun o => !o.dual).foldl (fun m o => max m o.iono) 0
  let iono : Rat := if used.all GnssObs.dual then 0 else (worst : Rat) / 2 + s.effN Obj.gnss_iono_floor
  let bias : Rat := if used.any GnssObs.broadcast then s.effN Obj.gnss_bias_unc else 0
  let pos : Rat := if s.gnssHold then s.gnssUPos else 0
  let sum := s.effN Obj.gnss_unc_k * x.sigma + s.effN Obj.gnss_ant_delay_unc + s.effN Obj.gnss_mp_allow + s.effN Obj.gnss_sys_unc
  satScr (ratCeil ((sum : Nat) + pos + iono + bias)).toNat

/-- t_N and N for the coming TOD second M, moved by whole seconds into [M - 0.5 s, M + 0.5 s) (R303). -/
def chooseN (t n m : Int) : Int × Int :=
  let k := (t - (m * secU - secU / 2)) / secU
  (t - k * secU, n - k)

/-- The mark e: the GF_SCLK phase target nearest t_N, a tie to the later (R303). -/
def sclkMark (t : Int) : Int := (2 * t + 25 * 2 ^ 55) / (50 * 2 ^ 55) * (25 * 2 ^ 55)

/-- TAI less the time of a reference system, s (R302): 0 GPS, 1 Galileo, 2 BeiDou. -/
def taiOffset (ref : Nat) : Int := if ref = 2 then 33 else 19

/-- The report of a valid solution (R302, R303, R305, R308). -/
def State.solutionReport (s : State) (x : Config.Lsq) (used : List GnssObs) (excluded : Bool) : GnssReport :=
  let m := s.gnss.epochM + 1
  let (t, sec) := chooseN (x.tN + s.gnss.epochStep) (x.second + taiOffset (s.effN Obj.gnss_ref_system)) m
  let flags := (if used.all GnssObs.dual then 1 else 0) +
    (if s.gnssHold && s.effN Obj.gnss_pos_mode == 1 then 32 else 0) + (if excluded then 64 else 0)
  { kind := if !s.gnssHold then 1 else if used.length = 1 then 3 else 2
    second := sec.toNat, mark := sclkMark t, q := t - sclkMark t, unc := s.solutionUnc x used, flags := flags
    used := used.length, tdop := min 65535 x.tdop, steps := s.gnss.epochSteps, target := m, tN := t }

/-- The channels' flags and residuals after a solution (R315). -/
def State.markUsed (s : State) (x : Config.Lsq) (used out : List GnssObs) : State :=
  let s := s.each (List.range 128) fun s n =>
    let is (l : List GnssObs) : Bool := l.any fun o => o.chan == n
    (((s.setFlag n 0 (is used)).setFlag n 1 (is out)).setFlag n 2 (is (used.filter GnssObs.dual))).setFlag n 8
      (is (used.filter GnssObs.broadcast))
  s.each (used.zip x.resid) fun s e => s.setN Obj.gnss_ch_residual e.2.1 e.1.chan

/-- The biases in use (R300): those estimated, and the broadcast offset of a system with one satellite. -/
def State.putBiases (s : State) (x : Config.Lsq) (ref : Nat) (used : List GnssObs) : State :=
  s.each [1, 2, 3, 4] fun s y =>
    let v : Int :=
      match x.bias.find? fun e => e.1 + 1 == y with
      | some e => e.2
      | none =>
        match used.find? fun o => o.broadcast && asgSys o.asg == y with
        | some o => Config.gnssOffset (y - 1) (ref - 1) ((satData s.gnss.eph o.asg).getD [])
        | none => 0
    s.setN Obj.gnss_sys_bias v (y - 1)

/-- A NAV fix formed alongside in HOLD, with at least 5 satellites, lies too far from the held position (R309). -/
def State.farFix (s : State) (ref : Nat) (l : List GnssObs) : Bool :=
  s.gnssHold && decide (5 ≤ l.length) &&
    decide ((s.effN Obj.gnss_pos_jump * 1000 : Int) ^ 2 < dist2 (s.lsq ref none l).pos s.heldPos)

/-- t_N departs from the change that is predicted since the previous solution (R309). -/
def State.jumps (s : State) (r : GnssReport) : Bool :=
  match s.gnss.lastTN with
  | some l =>
    s.model.state == 2 &&
      decide (((s.effN Obj.gnss_jump_min + r.unc + l.unc : Nat) : Rat) * 2 ^ 56 / 1000 <
        ratAbs (((r.tN - l.tN : Int) : Rat) - s.predictedChange l r.second))
  | none => false

/-- SB may end the solution of the latched epoch now (R296, R304): it runs, and tick 3,000 has not passed. -/
def State.solveReady (s : State) : Bool :=
  let g := s.gnss
  s.gnssWorks && s.roleRuns 2 && g.epochM == s.tc.tickSec && g.epochOk && !g.solved && decide (s.tc.tickNo ≤ 3000)

/-- The solution formed is valid (R301) but for the SPOOF indicators. -/
def State.formed (s : State) (ref : Nat) (at' : Option (Int × Int × Int)) (x : Config.Lsq) (used : List GnssObs) : Bool :=
  decide (s.effN Obj.gnss_min_sats ≤ used.length) && decide (unknownsOf ref at' used ≤ used.length) && decide (x.tdop ≤ s.effN Obj.gnss_tdop_max)

/-- GNSS_SOLUTION (R297 to R302, R308): SB ends the solution of the latched epoch. -/
def gnssSolutionEff (s : State) : State :=
  if !s.solveReady then s
  else
    let s := (s.modGnss fun g => { g with solved := true }).each (List.range 128) State.smoothObs
    let at' := if s.gnssHold then some s.heldPos else none
    let ref := s.effN Obj.gnss_ref_system + 1
    let all := s.observations at'
    let (x, kept, out) := s.fde ref at' 128 all []
    let used := s.withBroadcast ref kept
    let s := if all.isEmpty then s.markUsed {} [] [] else (s.markUsed x used out).putBiases x ref used
    if all.isEmpty || !s.formed ref at' x used then s
    else
      let r := s.solutionReport x used (!out.isEmpty)
      let g := s.gnss
      let prev : GnssPrev := { tN := r.tN, second := r.second, unc := r.unc, cyc := g.epochCyc, inc := g.epochInc, slew := g.epochSlew }
      let bad := s.jumps r
      let far := s.farFix ref kept
      let s := s.modGnss fun g =>
        { g with lastTN := some prev, jumpBad := bad, badPos := if far then g.badPos + 1 else 0, pos := some (if s.gnssHold then s.heldPos else x.pos) }
      let s := if s.gnssHold then s else s.surveyFix x.pos
      if s.spoofed then s else s.modGnss fun g => { g with pending := some r }

/-- GNSS_SOLUTION (R301). -/
def execGnssSolution (_ : Unit) (s : State) : Host.Outcome State Fault Refusal := .next (gnssSolutionEff s)

/-! ### Publication and the raw PPS (R303 to R306) -/

/-- The 48 octets of a report (R305). A report without a solution says nothing of time, uncertainty and TDOP: those values are free, the mark among
legal times (R8). -/
def State.reportBytes (s : State) (r : GnssReport) : State × Bytes :=
  let tracked := ((List.range 128).filter fun n => s.gchState n == 3 || s.gchState n == 4).length
  let (s, head, td) :=
    if r.kind = 0 then
      let (s, a) := s.random 20
      let (s, m) := s.open
      (s, a.take 8 ++ beBytes 16 (time128 (m.natAbs : Int)) ++ slice a 8 10, a.drop 18)
    else
      (s, beBytes 8 r.second ++ beBytes 16 (time128 r.mark) ++ intBytes 4 (roundDiv r.q (2 ^ 40)) ++ beBytes 6 r.unc, beBytes 2 r.tdop)
  (s, head ++ beBytes 1 r.kind ++ beBytes 1 r.flags ++ beBytes 1 r.used ++ beBytes 1 tracked ++ td ++
    intBytes 2 r.utc ++ beBytes 1 r.leap ++ beBytes 1 (s.effN Obj.gnss_ref_system) ++ beBytes 2 r.steps ++ zeros 2)

/-- A report is published (R303, R304, R312). -/
def State.publish (s : State) (r0 : GnssReport) : State :=
  let ind := s.valN Obj.gnss_indicators
  let gap := match s.gnss.gap.2 with
    | none => true
    | some t => decide (s.gnss.epochCyc - 500000000 ≤ t) && decide (0 < t)
  let utcOk := s.valT Obj.gnss_utc_valid
  let r : GnssReport :=
    { r0 with
      flags := r0.flags + (if utcOk then 2 else 0) + (if ind &&& 0x0F != 0 then 4 else 0) + (if s.spoofed then 8 else 0) +
        (if gap then 16 else 0)
      utc := s.valI Obj.gnss_utc_offset, leap := s.valN Obj.gnss_leap_pending, steps := s.gnss.epochSteps }
  let (s, b) := s.reportBytes r
  let s := ((s.setB Obj.gnss_epoch b).setN Obj.gnss_solution r.kind).setN Obj.gnss_sats_used r.used
  let s := if r.kind = 0 then s.count Obj.gnss_reports_missed else s
  let s := if r.kind != 0 && !s.gnss.ttffDone then
      (s.setN Obj.gnss_ttff ((min (2 ^ 32 - 1) (s.nsSince s.gnss.ttffFrom / 1000000) : Nat) : Int)).modGnss fun g => { g with ttffDone := true }
    else s
  s.modGnss fun g =>
    { g with
      pending := none, report := r, pubFor := some r.target, pulse := if r.kind = 0 then none else some r.mark
      stamped := none, formed := false }

/-- EPOCH_REPORT_PUBLISH (R304): the report for the coming TOD second, at the boundary of tick 3,000 at the latest. -/
def epochReportPublishEff (s : State) : State :=
  let m := s.tc.tickSec + 1
  if !s.gnssWorks || s.gnss.pubFor == some m then s
  else
    let ready := match s.gnss.pending with
      | some r => if r.target = m && decide (s.tc.tickNo ≤ 3000) && !s.spoofed then some r else none
      | none => none
    match ready with
    | some r => s.publish r
    | none => if 3000 ≤ s.tc.tickNo then s.publish { target := m, steps := s.gnss.epochSteps } else s

/-- EPOCH_REPORT_PUBLISH (R304). -/
def execEpochReportPublish (s : State) : Host.Outcome State Fault Refusal := .next (epochReportPublishEff s)

/-- RAW_PPS (R303, R295): on the cycle that reaches the mark, while GF_SCLK runs, the raw PPS is emitted and stamped `fine` ps after
the present cycle's edge. -/
def rawPpsEff (fine : Nat) (s : State) : State :=
  match s.gnss.pulse with
  | none => s
  | some e =>
    if s.gnssOn && s.reaches e && (vat s.outs 12 {}).running && s.gnss.pulseLast != some (e, s.steps) then
      let t := s.tod + psToU (fine % 2000 : Nat)
      (s.setN Obj.gnss_pps_stamp (stamp128 t (1 + (if s.stepFlag then 512 else 0) + if s.valN Obj.tod_state = 0 then 1024 else 0))).modGnss fun g => { g with pulseLast := some (e, s.steps), stamped := some t }
    else s

/-- RAW_PPS (R303). -/
def execRawPps (fine : Nat) (s : State) : Host.Outcome State Fault Refusal := .next (rawPpsEff fine s)

/-- SA forms the offset of S8 at the next boundary after the raw PPS (R306); U_t is its source term (R308). -/
def State.formS8 (s : State) : State :=
  let r := s.gnss.report
  match s.gnss.stamped with
  | some t =>
    if s.gnss.formed || r.kind = 0 || decide (s.tickTod ≤ t) then s
    else
      let x := roundDiv ((r.second : Int) * secU - (t + r.q)) (2 ^ 40)
      let s := s.addMeas 8 { s.newMeas t x (stampFlags (s.valN Obj.gnss_pps_stamp)) with tickAt := s.tc.boundaries - 1 }
      let s := s.modSlot 8 fun sl => { sl with srcTerm := r.unc, present := true }
      s.modGnss fun g => { g with formed := true }
  | none => s

/-- What a step does to the Gleaner: its clock state moves onto the stepped timescale (R295). -/
def State.stepGnss (s : State) (j : Int) : State :=
  let move (r : GnssReport) : GnssReport :=
    let (t, n) := chooseN (r.tN + j) r.second r.target
    { r with tN := t, second := n.toNat, mark := sclkMark t, q := t - sclkMark t }
  s.modGnss fun g =>
    { g with
      epochStep := g.epochStep + j, bands := g.bands.map fun b => { b with snapAt := b.snapAt.map (· + j) }
      pending := g.pending.map move, stamped := g.stamped.map (· + j)
      lastTN := g.lastTN.map fun l => { l with tN := l.tN + j } }

/-! ### Interference (R309, R310) -/

/-- Twice the median of a list. -/
def gnssMedian2 (l : List Int) : Option Int :=
  let v := l.mergeSort (fun a b => decide (a ≤ b))
  match v with
  | [] => none
  | _ => some (v.getD ((v.length - 1) / 2) 0 + v.getD (v.length / 2) 0)

/-- A value departs from its baseline by more than a tolerance (R309). -/
def departs (l : List Int) (v tol : Int) : Bool :=
  match gnssMedian2 l with
  | some m => decide (2 * tol < ((2 * v - m).natAbs : Int))
  | none => false

/-- A power exceeds its baseline by more than so many dB (R309): their ratio to the tenth power exceeds ten to the tolerance. -/
def exceedsDb (l : List Int) (v : Int) (db : Nat) : Bool :=
  match gnssMedian2 l with
  | some m => decide (m.toNat ^ 10 * 10 ^ db < (2 * v).toNat ^ 10)
  | none => false

/-- The POWER indicator (R309) over LOCKED channels: (band, C/N0, elevation). -/
def powerBad (top : Nat) (l : List (Nat × Nat × Int)) : Bool :=
  l.any (fun e => decide (top * 100 < e.2.1)) ||
  l.any fun e =>
    let w := l.filter fun f => f.1 == e.1 && decide (e.2.1 ≤ f.2.1) && decide (f.2.1 ≤ e.2.1 + 150)
    decide (4 ≤ w.length) && w.any fun a => w.any fun b => decide (3000 < a.2.2 - b.2.2)

/-- GNSS_INDICATORS (R309, R310): once per TOD second. -/
def gnssIndicatorsEff (s : State) : State :=
  if !s.gnssOn || s.gnss.indSec == some s.tc.tickSec then s
  else
    let g := s.gnss
    let gain (b : Nat) : Nat := s.valN Obj.gnss_agc_gain b
    let mean (b : Nat) : Int := let x := (s.gband b).noise; (x.1 / max 1 x.2 : Nat)
    let agc (b : Nat) : Bool :=
      s.effN Obj.gnss_agc_mode != 0 && departs ((s.gband b).gainHist.map fun v => (v : Int)) (gain b) (s.effI Obj.gnss_agc_tol)
    let noisy (b : Nat) : Bool := (s.gband b).noise.2 != 0 && exceedsDb (s.gband b).noiseHist (mean b) (s.effN Obj.gnss_noise_tol)
    let locked := (List.range 128).filter fun n => s.gchState n == 4
    let pw := powerBad (s.effN Obj.gnss_cn0_max)
      (locked.map fun n => (asgBand (s.gchAssign n), s.valN Obj.gnss_ch_cn0 n, s.valI Obj.gnss_ch_elev n))
    let bit (c : Bool) (k : Nat) : Nat := if c then 2 ^ k else 0
    let new := bit (agc 0) 0 + bit (agc 1) 1 + bit (noisy 0) 2 + bit (noisy 1) 3 + bit pw 4 + bit g.jumpBad 5 +
      bit (decide (10 ≤ g.badPos)) 6
    let old := s.valN Obj.gnss_indicators
    let rises := new &&& (0x7F ^^^ (old &&& 0x7F))
    let spoof := new &&& 0x70 != 0
    let held := spoof || old.testBit 7
    let s := s.setN Obj.gnss_indicators ((new + bit held 7 : Nat) : Int)
    let s := s.setN Obj.gnss_ind_history ((s.valN Obj.gnss_ind_history ||| new ||| bit held 7 : Nat) : Int)
    let s := if rises &&& 0x0F != 0 then s.raise 248 else s
    let s := if rises &&& 0x70 != 0 then s.raise 249 else s
    let learn (b : Nat) (y : GnssBand) : GnssBand :=
      { y with
        gainHist := keepNew 86400 (gain b :: y.gainHist)
        noiseHist := if y.noise.2 = 0 then y.noiseHist else keepNew 86400 (mean b :: y.noiseHist) }
    let fresh (y : GnssBand) : GnssBand := { y with noise := (0, 0) }
    s.modGnss fun g =>
      { g with
        indSec := some s.tc.tickSec
        spoofClear := if spoof || !held then none else some (g.spoofClear.getD s.tc.cyc)
        bands := (if new = 0 then vmod (vmod g.bands 0 (learn 0)) 1 (learn 1) else g.bands).map fresh }

/-- GNSS_INDICATORS (R309). -/
def execGnssIndicators (_ : Unit) (s : State) : Host.Outcome State Fault Refusal := .next (gnssIndicatorsEff s)

/-- SPOOF_HOLD_END (R310): every SPOOF indicator has been clear for `gnss.spoof_hold` seconds. -/
def spoofHoldEndEff (s : State) : State :=
  let i := s.valN Obj.gnss_indicators
  if i.testBit 7 && s.passedO s.gnss.spoofClear (s.effN Obj.gnss_spoof_hold * oneSec) then
    (s.setN Obj.gnss_indicators ((i - 128 : Nat) : Int)).modGnss fun g => { g with spoofClear := none }
  else s

/-- SPOOF_HOLD_END (R310). -/
def execSpoofHoldEnd (s : State) : Host.Outcome State Fault Refusal := .next (spoofHoldEndEff s)

/-! ### Start, restart and groups (R311 to R313) -/

/-- The Gleaner starts to search from its record (R311, R312). -/
def State.gnssBegin (s : State) : State :=
  let s := s.each (List.range 128) fun s n => if s.gchState n = 6 then s else s.dropGch n 0
  let all := s.searchSignals
  let s := s.modGnss fun g =>
    { g with
      engines := Vector.replicate 16 {}, searchList := all, assigned := [], pending := none, pulse := none, lastTN := none, jumpBad := false
      badPos := 0, ttffFrom := s.tc.cyc, ttffDone := false, epochOk := false, utcSeen := []
      eph := g.record.eph, alm := g.record.alm, pos := g.record.pos, sampledAt := s.tc.cyc }
  let s := s.setN Obj.gnss_ttff 0
  let rec' := s.gnss.record
  let blank := (s.val Obj.gnss_survey_result).bytes == zeros 28
  let s := if rec'.valid && decide (rec'.survey.length = 28) && rec'.survey != zeros 28 then
      (s.setB Obj.gnss_survey_result rec'.survey).setN Obj.gnss_survey_state 2
    else if !blank then s.setN Obj.gnss_survey_state 2
    else s.surveyBegin
  let seed (b : Nat) (y : GnssBand) : GnssBand :=
    match rec'.gains[b]? with
    | some v => if y.gainHist.isEmpty then { y with gainHist := [v] } else y
    | none => y
  (s.modGnss fun g => { g with bands := vmod (vmod g.bands 0 (seed 0)) 1 (seed 1) }).startEval

/-- Boot step B10 (R280, R311). -/
def State.gnssStart (s : State) : State :=
  if s.dev.part != 1 then s
  else
    let s := (s.modGnss fun g => { g with started := true }).feInit
    if s.gnssOn then s.gnssBegin else s

/-- Work of the Gleaner in flight (R47, R48): searches, a latched epoch whose solution has not ended, and a solution that awaits
publication. -/
def State.gnssInFlight (s : State) : Nat :=
  (s.gnss.engines.toList.filter fun x => x.chan.isSome).length + (if s.gnss.epochOk && !s.gnss.solved then 1 else 0) +
    if s.gnss.pending.isSome then 1 else 0

/-- The Gleaner stops: every channel that is not FENCED is IDLE, and nothing is in flight. -/
def State.gnssStop (s : State) : State :=
  let s := s.each (List.range 128) fun s n => if s.gchState n = 6 then s else s.dropGch n 0
  s.modGnss fun g =>
    { g with
      engines := Vector.replicate 16 {}, searchList := [], assigned := [], pending := none, pulse := none, epochOk := false
      bands := g.bands.map fun b => { b with due := false, writing := none, snapAt := none, snap := [] } }

/-- A committed change of `gnss.enable` (R47, R314): disabled, the Gleaner takes no new work, and what is in flight drains. -/
def State.commitGnssEnable (s : State) : State :=
  if !s.gnss.started then s
  else if s.gnssOn then s.gnssBegin
  else
    let s := s.modGnss fun g => { g with searchList := [], assigned := [] }
    { s with net := { s.net with drains := s.net.drains ++ [(8, 0, s.tc.boundaries)] } }

/-- A committed change of `gnss.systems`, `gnss.bands` or `gnss.l5_direct` (R283, R287, R314): channels of what is no longer admitted are
dropped, and what is newly searched joins the list. -/
def State.commitGnssSignals (s : State) : State :=
  if !s.gnssOn then s
  else
    let s := s.each ((List.range 128).filter fun n => s.gchAssign n != 0 && !s.admitted (s.gchAssign n)) fun s n => s.dropGch n 0
    let new := s.searchSignals.filter fun a => (s.carrier a).isNone && !s.gnss.searchList.contains a
    let s := s.modGnss fun g => { g with searchList := g.searchList.filter s.admitted ++ new }
    s.each ((List.range 128).filter fun n => asgBand (s.gchAssign n) == 0 && (s.gchState n == 3 || s.gchState n == 4)) State.offerL5

/-- A committed change of `gnss.ref_system` (R302): UTC parameters are collected afresh. -/
def State.commitRefSystem (s : State) : State := s.modGnss fun g => { g with utcSeen := [] }

/-- A committed write to `gnss.restart` (R312): 1 discards the record, 2 keeps it. -/
def State.commitGnssRestart (s : State) (v : Nat) : State :=
  let s := if v = 1 then
      ((s.modGnss fun g => { g with record := {} }).setB Obj.gnss_survey_result (zeros 28)).setN Obj.gnss_survey_state 0
    else s
  let s := s.setN Obj.gnss_restart 2
  if s.gnssOn then s.gnssBegin else s

/-- An immediate write of `gnss.aid_time` (R289): the object keeps it. -/
def State.aidTime (s : State) (v : Nat) : State :=
  let s := (s.setCfg Obj.gnss_aid_time 0 0 (.n v)).setEff Obj.gnss_aid_time 0 0 (.n v)
  (s.modGnss fun g => { g with aidAt := some (ofTime128 v, s.tc.cyc) }).startEval

/-- The logical group that a physical group serves. -/
def State.groupOf (s : State) (p : Nat) : Option Nat := (List.range 8).find? fun g => vat s.gnss.groups g 0 == p && !s.groupDead g

/-- A reset or lost group's channels coast from their last state (R313). -/
def State.groupCoast (s : State) (p : Nat) : State :=
  match s.groupOf p with
  | some g => s.each ((List.range 16).map (16 * g + ·)) fun s n =>
    (s.modGch n fun c => { c with acc := noSums, accLen := 0, sums := noSums, dumped := false, staged := none, move := 0 }).coast n
  | none => s

/-- A physical group is fenced (R313, R519): whether a spare remains for it; the spare takes over at the next tick boundary. -/
def State.fenceGroup (s : State) (p : Nat) : State × Bool :=
  match s.groupOf p with
  | none => (s.modGnss fun g => { g with spareUsed := g.spareUsed || p == 8 }, true)
  | some g =>
    if s.gnss.spareUsed then
      let s := s.each ((List.range 16).map (16 * g + ·)) fun s n => s.dropGch n 6
      (s.setN Obj.gnss_groups ((s.valN Obj.gnss_groups ||| 2 ^ g : Nat) : Int), false)
    else
      (({ s with win := { s.win with groupPend := s.win.groupPend ++ [g] } } : State).modGnss fun x => { x with spareUsed := true }, true)

/-- Spare groups take over at a tick boundary (R313). -/
def State.groupTakeover (s : State) : State :=
  let s := s.each s.win.groupPend fun s g =>
    let s := s.groupCoast (vat s.gnss.groups g 0)
    (s.modGnss fun x => { x with groups := vmod x.groups g fun _ => 8 }).setN Obj.gnss_groups
      ((s.valN Obj.gnss_groups ||| 256 : Nat) : Int)
  { s with win := { s.win with groupPend := [] } }

/-- What a tick boundary does in the Gleaner: the samples of the tick that ends, the dump of a group, what SB staged, snapshots due at tick 0, start
types (R278, R285, R289, R291). -/
def State.gnssTick (s : State) (gf : List (Byte × Byte)) (rates : Bool) : State :=
  if !s.gnssWorks then s
  else
    let s := (s.gnssSamples gf).groupDump
    let s := if rates then s.gnssRates else s
    if !s.gnssOn then s
    else
      let s := if rates then s.commitAssigned else s
      let s := if s.tc.tickNo = 0 then
          s.modGnss fun g => { g with bands := g.bands.map fun b => { b with due := true } }
        else s
      s.startEval

end Sys2Proof.Machine
end

