-- ==== Sys2Proof/Machine/Synth.lean ====
section
/-! DEFINITION. The transitions of the digital PLLs, clock outputs, PPS outputs and time-of-day UARTs (07_synthesis.md). -/
namespace Sys2Proof.Machine

/-! ### Outputs (R232 to R243) -/

/-- Output `o`: OUT0 to OUT11, and GF_SCLK as 12. -/
def State.out (s : State) (o : Nat) : Output := vat s.outs o {}

/-- The DPLL of an output's source code. -/
def State.outSrc (s : State) (o : Nat) : Nat := if o = 12 then 4 else s.effN Obj.out_source o + 1

/-- An output is enabled (R236, R243): GF_SCLK on the OT9600-MX. -/
def State.outOn (s : State) (o : Nat) : Bool := if o = 12 then s.dev.part == 1 else s.effT Obj.out_enable o

/-- The divider of an output (R243 for GF_SCLK). -/
def State.outDiv (s : State) (o : Nat) : Nat :=
  if o = 12 then max 1 (s.effN Obj.dpll_dco_freq 4 / 80000000000) else max 1 (s.effN Obj.out_divider o)

/-- The objects that show an output. -/
def State.putOut (s : State) (o : Nat) : State :=
  let x := s.out o
  if o < 12 then (s.setN Obj.out_state (if x.running then 2 else if s.outOn o then 1 else 0) o).setT Obj.out_aligned x.aligned o else s

/-- An output changed. -/
def State.modOut (s : State) (o : Nat) (f : Output → Output) : State := ({ s with outs := vmod s.outs o f } : State).putOut o

/-- `out.freq` (R252): the nominal frequency now produced, mHz. -/
def State.viewOutFreq (s : State) (o : Nat) : Nat :=
  let x := s.out o
  if x.running then s.dcoNow (x.src + 1) / max 1 x.div else 0

/-- The outputs that run on a DPLL or are to run on it. -/
def State.dependents (s : State) (d : Nat) : List Nat :=
  (List.range 13).filter fun o => if (s.out o).running then (s.out o).src + 1 == d else s.outSrc o == d

/-- A gate is triggered: the output is held low from its first falling edge (R235, R238). -/
def State.gate (s : State) (o : Nat) : State := if (s.out o).running then s.modOut o fun x => { x with gating := true } else s

/-- Every output on a DPLL is gated. -/
def State.gateAll (s : State) (d : Nat) : State := if d = 0 then s else s.each (s.dependents d) State.gate

/-- The alignment of every output on a DPLL is lost (R234). -/
def State.misalign (s : State) (d : Nat) : State :=
  s.each (s.dependents d) fun s o => s.modOut o fun x => { x with aligned := false }

/-- The DCO is tuned open-loop to its frequency in effect, and the filter starts afresh (R217, R226). -/
def State.tune (s : State) (d : Nat) : State :=
  let f := s.effN Obj.dpll_dco_freq d
  s.modDpll d fun x => { x with dco := f, target := f, retune := false, prop := 0, integ := 0, integ2 := 0, frozen := none }

/-- A retune that waits is made once no dependent output runs (R236). -/
def State.tuneQuiet (s : State) (d : Nat) : State :=
  if (s.dpll d).retune && !((s.dependents d).any fun o => (s.out o).running) then s.tune d else s

/-- The DCO is to be retuned: every dependent output is gated first (R236). -/
def State.askRetune (s : State) (d : Nat) : State := ((s.gateAll d).modDpll d fun x => { x with retune := true }).tuneQuiet d

/-- OUTPUT_GATE (R235): the first falling edge at or after the triggering cycle. -/
def outputGateEff (o : Nat) (s : State) : State :=
  let x := s.out o
  if x.gating && x.running then
    let s := (s.modOut o fun y => { y with high := false, gating := false, running := false, aligned := false }).tuneQuiet (x.src + 1)
    if o < 12 then s.count Obj.out_gatings o else { s with gnss := { s.gnss with gap := (s.tc.cyc, none) } }
  else s

/-- OUTPUT_GATE (R235). -/
def execOutputGate (o : Fin 13) (s : State) : Host.Outcome State Fault Refusal := .next (outputGateEff o.val s)

/-- The first phase target of an output at or after a time of day (R233), for a divider and a DCO frequency in mHz. -/
def phaseTarget (t : Tod) (dco div phase : Nat) (delay : Int) : Tod :=
  let per : Rat := (div : Rat) * 1000 / (max 1 dco : Nat)
  let t0 : Rat := (phase : Rat) * 1000 / (max 1 dco : Nat) + (delay : Rat) / 1000000000000
  let x : Rat := (t : Rat) / (secU : Rat)
  let k := ratCeil ((x - t0) / per)
  ratCeil (((k : Rat) * per + t0) * (secU : Rat))

/-- A write of `dpll.realign` is done when none of the outputs it gated waits any more (R242). -/
def State.endRealign (s : State) (d : Nat) : State :=
  if s.valN Obj.dpll_realign d = 1 ∧ !((List.range 13).any fun o => (s.out o).realign && s.outSrc o == d) then s.setN Obj.dpll_realign 2 d
  else s

/-- A frequency that has committed and that the DPLL does not yet run toward. -/
def State.freqDue (s : State) (d : Nat) : Bool := d != 0 && s.effN Obj.dpll_dco_freq d != (s.dpll d).target

/-- The change to the committed frequency is hitless (R237, R240). -/
def State.hitlessOk (s : State) (d : Nat) : Bool :=
  let old := s.dcoNow d
  let new := s.effN Obj.dpll_dco_freq d
  s.lockedOrSlew d && s.effT Obj.dpll_hitless d &&
    decide (((new : Int) - old).natAbs * 1000000 ≤ old * s.effN Obj.dpll_hitless_dev d)

/-- The newest settings of a DPLL have been taken, or are reached without a hit (R239). -/
def State.settledFreq (s : State) (d : Nat) : Bool := !(s.dpll d).retune && (!s.freqDue d || s.hitlessOk d)

/-- OUTPUT_RELEASE (R235, R239): a gated output that may run is loaded and starts at a phase target, once the newest settings are locked. -/
def outputReleaseEff (o : Nat) (s : State) : State :=
  let x := s.out o
  let d := s.outSrc o
  if !x.running && s.outOn o && s.lockedOrSlew d && s.settledFreq d then
    let phase := if o = 12 then 0 else s.effN Obj.out_phase o
    let delay := if o = 12 then 0 else s.effI Obj.out_delay o
    let t := phaseTarget (s.tod + 40 * nsU) (s.dcoNow d) (s.outDiv o) phase delay
    let s := s.modOut o fun x =>
      { x with
        high := true, gating := false, loading := false, realign := false, running := true, aligned := s.todref d
        div := s.outDiv o, src := d - 1, relAt := some t }
    let s : State := if o = 12 then { s with gnss := { s.gnss with gap := (s.gnss.gap.1, some s.tc.cyc) } } else s
    s.endRealign d
  else s

/-- OUTPUT_RELEASE (R235). -/
def execOutputRelease (o : Fin 13) (s : State) : Host.Outcome State Fault Refusal := .next (outputReleaseEff o.val s)

/-- A committed change of `out.divider`, `out.phase` or `out.source` (R236, R239). -/
def State.commitOutLoad (s : State) (o : Nat) : State := (s.modOut o fun x => { x with loading := true }).gate o

/-- A committed change of `out.enable` (R236). -/
def State.commitOutEnable (s : State) (o : Nat) : State :=
  if s.outOn o then s.putOut o
  else ((s.modOut o fun x => { x with realign := false }).gate o).endRealign (s.outSrc o)

/-- A committed write of 1 to `dpll.realign` (R242). -/
def State.commitRealign (s : State) (d : Nat) : State :=
  let os := (s.dependents d).filter s.outOn
  let s := s.setN Obj.dpll_realign 1 d
  (s.each os fun s o => (s.modOut o fun x => { x with realign := true }).gate o).endRealign d

/-- What a step does to the outputs (R241): each aligned output on TODREF is realigned, unless the step is a whole multiple of its
period. -/
def State.stepOutputs (s : State) (j : Int) : State :=
  s.each (List.range 13) fun s o =>
    let x := s.out o
    let d := x.src + 1
    let whole := (j.natAbs * s.dcoNow d) % (secU.natAbs * 1000 * max 1 x.div) == 0
    if x.running && x.aligned && s.todref d && !whole then (s.modOut o fun x => { x with realign := true }).gate o else s

/-! ### Transitions of the DPLLs (R226) -/

/-- DPLL_ACQUIRE (R226): FREERUN with the reference present. -/
def dpllAcquireEff (d : Nat) (s : State) : State :=
  if s.dpllState d = 0 ∧ s.dpllRef d then (s.tune d).acquire d else s

/-- DPLL_ACQUIRE (R226). -/
def execDpllAcquire (d : Fin 5) (s : State) : Host.Outcome State Fault Refusal := .next (dpllAcquireEff d.val s)

/-- DPLL_LOCK (R224, R226, R239): every sample has lain in the window for `dpll.lock_time`, at the newest frequency. The integrators stay as they
are. -/
def dpllLockEff (d : Nat) (s : State) : State :=
  if s.dpllState d = 1 ∧ !(s.dpll d).retune ∧ !s.freqDue d ∧ s.passedO (s.dpll d).inWin (s.effN Obj.dpll_lock_time d * oneMs) then
    (s.modDpll d fun x => { x with bwNow := s.effN Obj.dpll_bw d }).setDpll d 2
  else s

/-- DPLL_LOCK (R226). -/
def execDpllLock (d : Fin 5) (s : State) : Host.Outcome State Fault Refusal := .next (dpllLockEff d.val s)

/-- DPLL_RELOCK_TIMEOUT (R226): `dpll.relock_max` has passed in ACQUIRE. -/
def dpllRelockTimeoutEff (d : Nat) (s : State) : State :=
  let x := s.dpll d
  if s.dpllState d = 1 ∧ !x.timedOut ∧ s.passed x.acqFrom (s.effN Obj.dpll_relock_max d * oneMs) then
    (s.modDpll d fun x => { x with timedOut := true }).raise (238 + d)
  else s

/-- DPLL_RELOCK_TIMEOUT (R226). -/
def execDpllRelockTimeout (d : Fin 5) (s : State) : Host.Outcome State Fault Refusal := .next (dpllRelockTimeoutEff d.val s)

/-- DPLL_UNLOCK (R226, R228): `dpll.unlock_count` consecutive samples lay outside the window. The loop re-acquires; a ramp of SLEW is given up for
a retune to its end point (log entry 63). DPLL-T re-acquires without gating. -/
def dpllUnlockEff (d : Nat) (s : State) : State :=
  if s.lockedOrSlew d && decide (s.effN Obj.dpll_unlock_count d ≤ (s.dpll d).outRun) then
    let slew := s.dpllState d == 4
    let old := s.dcoNow d
    let s := ((s.leaveLock d).gateAll d).raise (233 + d)
    let s := s.modDpll d fun x => { x with dco := old }
    (if slew then s.askRetune d else s).acquire d
  else s

/-- DPLL_UNLOCK (R226). -/
def execDpllUnlock (d : Fin 5) (s : State) : Host.Outcome State Fault Refusal := .next (dpllUnlockEff d.val s)

/-- DPLL_FREQ_CHANGE (R226, R236, R239): a non-hitless change gates the outputs, and the DCO retunes once they are held low; in ACQUIRE the re-lock
starts afresh. -/
def dpllFreqChangeEff (d : Nat) (s : State) : State :=
  if s.freqDue d && !s.hitlessOk d && (s.lockedOrSlew d || s.dpllState d == 1) then
    let old := s.dcoNow d
    (((s.leaveLock d).modDpll d fun x => { x with dco := old }).askRetune d).acquire d
  else s

/-- DPLL_FREQ_CHANGE (R226). -/
def execDpllFreqChange (d : Fin 5) (s : State) : Host.Outcome State Fault Refusal := .next (dpllFreqChangeEff d.val s)

/-- DPLL_HITLESS_CHANGE (R237, R240): the DCO ramps from its present frequency; the alignment of the outputs is lost (R234). -/
def dpllHitlessChangeEff (d : Nat) (s : State) : State :=
  if s.freqDue d && s.hitlessOk d then
    let old := s.dcoNow d
    let s := s.misalign d
    (s.modDpll d fun x => { x with dco := old, target := s.effN Obj.dpll_dco_freq d, acqFrom := s.tc.cyc }).setDpll d 4
  else s

/-- DPLL_HITLESS_CHANGE (R237). -/
def execDpllHitlessChange (d : Fin 5) (s : State) : Host.Outcome State Fault Refusal := .next (dpllHitlessChangeEff d.val s)

/-- DPLL_SLEW_DONE (R226): the DCO has reached the new frequency, and the ideal edges are those of the present phase. -/
def dpllSlewDoneEff (d : Nat) (s : State) : State :=
  let x := s.dpll d
  if s.dpllState d = 4 ∧ s.dcoNow d = x.target then
    (s.modDpll d fun x => { x with dco := x.target, edgeOff := x.edgeOff + x.lastE, lastE := 0 }).setDpll d 2
  else s

/-- DPLL_SLEW_DONE (R226). -/
def execDpllSlewDone (d : Fin 5) (s : State) : Host.Outcome State Fault Refusal := .next (dpllSlewDoneEff d.val s)

/-- DPLL_REF_LOSS (R226): the SyncE lane of DPLL-B has unlocked. -/
def dpllRefLossEff (s : State) : State :=
  if s.dpllState 2 ≠ 0 ∧ s.dpllState 2 ≠ 3 ∧ !s.dpllRef 2 then ((s.gateAll 2).raise 243).freeze 2 else s

/-- DPLL_REF_LOSS (R226). -/
def execDpllRefLoss (s : State) : Host.Outcome State Fault Refusal := .next (dpllRefLossEff s)

/-- DPLL_REF_RETURN (R226): the reference is present again in HOLD. -/
def dpllRefReturnEff (s : State) : State :=
  if s.dpllState 2 = 3 ∧ s.dpllRef 2 then
    let s := s.thaw 2
    (if (s.dpll 2).dco = (s.dpll 2).target then s else s.askRetune 2).acquire 2
  else s

/-- DPLL_REF_RETURN (R226). -/
def execDpllRefReturn (s : State) : Host.Outcome State Fault Refusal := .next (dpllRefReturnEff s)

/-- DCO_SPARE_IN (R229): after the fence of the active DCO the spare takes over at the next tclk cycle; 2 ps join H. -/
def dcoSpareInEff (s : State) : State :=
  if s.win.dcoPend && s.win.dcoSpare then
    let s := { s with win := { s.win with dcoPend := false, dcoSpare := false } }
    let s := s.setN Obj.dpll_dco_spare 1
    let s := if s.valN Obj.hold_state = 1 then s else { s with hold := { s.hold with hits := satScr (s.hold.hits + 2) } }
    s.raiseHeld 244
  else s

/-- DCO_SPARE_IN (R229). -/
def execDcoSpareIn (s : State) : Host.Outcome State Fault Refusal := .next (dcoSpareInEff s)

/-- A committed change of `dpll.ref` of DPLL-B: an output under SyncE is never aligned (R234). -/
def State.commitDpllRef (s : State) (d : Nat) : State := if s.todref d then s else s.misalign d

/-- A committed change of `dpll.bw` or `dpll.acq_bw` (R224). -/
def State.commitBw (s : State) (d : Nat) : State :=
  s.modDpll d fun x =>
    { x with bwNow := if s.dpllState d = 1 then max (s.effN Obj.dpll_acq_bw d) (s.effN Obj.dpll_bw d) else s.effN Obj.dpll_bw d }

/-- A committed change of `dpll.slew_rate` (R237): a ramp goes on from where it is, and `a` is the state before. -/
def State.commitRamp (a s : State) (d : Nat) : State :=
  if s.dpllState d = 4 then s.modDpll d fun x => { x with dco := a.dcoNow d, acqFrom := s.tc.cyc } else s

/-- A committed change of `dpll.int2` (R225): what the second integrator holds when it is switched off stays in the first (log entry 63). -/
def State.commitInt2 (s : State) (d : Nat) : State :=
  if s.effT Obj.dpll_int2 d then s else s.modDpll d fun x => { x with integ := x.integ + x.integ2, integ2 := 0 }

/-! ### PPS outputs (R244 to R247) -/

/-- PPS output `m`. -/
def State.ppso (s : State) (m : Nat) : PpsOut := vat s.pps m {}

/-- A PPS output changed. -/
def State.modPps (s : State) (m : Nat) (f : PpsOut → PpsOut) : State := { s with pps := vmod s.pps m f }

/-- The level of a PPS pin (R244): that of a pulse while one is in progress, inverted by `pps.polarity`. -/
def State.putPps (s : State) (m : Nat) : State :=
  s.modPps m fun x => { x with level := x.active != (s.effN Obj.pps_polarity m == 1) }

/-- The source of a PPS output lets it pulse (R245). -/
def State.ppsRuns (s : State) (m : Nat) : Bool :=
  let st := s.dpllState (s.effN Obj.pps_source m + 1)
  s.effT Obj.pps_enable m && st != 0 && st != 1

/-- `pps.state` (R253). -/
def State.viewPpsState (s : State) (m : Nat) : Nat :=
  if !s.effT Obj.pps_enable m then 0 else if s.ppsRuns m && !(s.ppso m).holdSrc then 2 else 1

/-- PPS_PULSE_START (R244 to R246): at each TOD second plus `pps.offset`; a pulse that cannot start is omitted and counted. -/
def ppsPulseStartEff (m : Nat) (s : State) : State :=
  let off := psToU (s.effI Obj.pps_offset m)
  let t := (s.tod - off) / secU * secU + off
  let x := s.ppso m
  if s.tc.running && s.reaches t && x.last != some (t, s.steps) then
    let locked := s.dpllState (s.effN Obj.pps_source m + 1) == 2
    let s := s.modPps m fun x => { x with last := some (t, s.steps) }
    let held := x.holdSrc && !(locked && s.effT Obj.pps_enable m)
    if !s.ppsRuns m || held || x.active then s.count Obj.pps_missed m
    else (s.modPps m fun x => { x with active := true, holdSrc := false, widthCyc := s.tc.cyc, width := s.effN Obj.pps_width m }).putPps m
  else s

/-- PPS_PULSE_START (R244). -/
def execPpsPulseStart (m : Fin 4) (s : State) : Host.Outcome State Fault Refusal := .next (ppsPulseStartEff m.val s)

/-- PPS_PULSE_END (R244, R246): a pulse in progress completes its width. -/
def ppsPulseEndEff (m : Nat) (s : State) : State :=
  let x := s.ppso m
  if x.active && s.passed x.widthCyc x.width then (s.modPps m fun x => { x with active := false }).putPps m else s

/-- PPS_PULSE_END (R244). -/
def execPpsPulseEnd (m : Fin 4) (s : State) : Host.Outcome State Fault Refusal := .next (ppsPulseEndEff m.val s)

/-- A committed change of `pps.source` (R245). -/
def State.commitPpsSource (s : State) (m : Nat) : State := s.modPps m fun x => { x with holdSrc := true }

/-! ### Time-of-day UARTs (R248 to R251) -/

/-- The civil date of a day number since 1970-01-01: year, month, day (log entry 19). -/
def civil (days : Nat) : Nat × Nat × Nat :=
  let z := days + 719468
  let era := z / 146097
  let doe := z % 146097
  let yoe := (doe - doe / 1460 + doe / 36524 - doe / 146096) / 365
  let doy := doe - (365 * yoe + yoe / 4 - yoe / 100)
  let mp := (5 * doy + 2) / 153
  let d := doy - (153 * mp + 2) / 5 + 1
  let m := if mp < 10 then mp + 3 else mp - 9
  (yoe + era * 400 + (if m ≤ 2 then 1 else 0), m, d)

/-- The day number of a civil date; none before 1970. -/
def dayNumber (y m d : Nat) : Nat :=
  let y' := if m ≤ 2 then y - 1 else y
  let era := y' / 400
  let yoe := y' % 400
  let doy := (153 * (if 2 < m then m - 3 else m + 9) + 2) / 5 + d - 1
  era * 146097 + yoe * 365 + yoe / 4 - yoe / 100 + doy - 719468

/-- ASCII octets of a list of codes. -/
def ascii (l : List Nat) : Bytes := l.map (BitVec.ofNat 8)

/-- Whole octets of a message that have been sent since it started, 10 bits each (R248). -/
def State.uartGone (s : State) (u : Nat) : Nat :=
  let x := vat s.uarts u {}
  s.nsSince x.started.1 * x.started.2 / (10 * oneSec)

/-- What is left of the message that a UART sends ends here; whether there was any (R47). -/
def State.cutUart (s : State) (u : Nat) : State × Nat :=
  let n := s.uartGone u
  if n < (vat s.uarts u {}).sent.length then ({ s with uarts := vmod s.uarts u fun x => { x with sent := x.sent.take n } }, 1) else (s, 0)

/-- One upper-case hexadecimal digit. -/
def hexDigit (v : Nat) : Byte := BitVec.ofNat 8 (if v < 10 then 0x30 + v else 0x37 + v)

/-- The NMEA checksum: the XOR of the characters between the dollar sign and the asterisk. -/
def nmeaSum (b : Bytes) : Nat := b.foldl (fun a x => a ^^^ x.toNat) 0

/-- The BINARY message of a TOD second (R249). -/
def State.uartBinary (s : State) (u sec : Nat) : Bytes :=
  let t : Tod := (sec : Int) * secU
  let inLeap := s.inInserted t
  let pend := s.effN Obj.tod_leap_pending
  let flags := (if s.valN Obj.tod_state = 1 then 1 else 0) + (if inLeap then 2 else 0)
  let body := ascii [0xC7, 0x3E, 0x01, 28] ++ beBytes 8 sec ++ intBytes 2 (s.offsetAt t) ++ ascii [pend, flags] ++
    ascii [s.valN Obj.hold_service, s.active] ++ beBytes 6 (satScr ((vat s.uarts u {}).scr0 + 50)) ++
    beBytes 8 (if pend = 0 then 0 else s.effN Obj.tod_leap_time / 2 ^ 64)
  body ++ beBytes 2 (Crypto.crc16 body)

/-- The ZDA sentence of a TOD second (R250). -/
def State.uartZda (s : State) (u sec : Nat) : Bytes :=
  let t : Tod := (sec : Int) * secU
  let ins := s.inInserted t
  let utc := ((sec : Int) - s.offsetAt t - if ins then 1 else 0).toNat
  let day := civil (utc / 86400)
  let r := utc % 86400
  let comma : Bytes := [0x2C#8]
  let body := s.effB Obj.uart_talker u ++ ascii [0x5A, 0x44, 0x41] ++ comma ++
    digits 2 (r / 3600) ++ digits 2 (r / 60 % 60) ++ digits 2 (if ins then 60 else r % 60) ++ ascii [0x2E, 0x30, 0x30] ++ comma ++
    digits 2 day.2.2 ++ comma ++ digits 2 day.2.1 ++ comma ++ digits 4 day.1 ++ comma ++ digits 2 0 ++ comma ++ digits 2 0
  let c := nmeaSum body
  [0x24#8] ++ body ++ [0x2A#8, hexDigit (c / 16), hexDigit (c % 16), 0x0D#8, 0x0A#8]

/-- TOD_UART_SEND (R248): the message of TOD second s starts at s + `uart.delay`. -/
def todUartSendEff (u : Nat) (s : State) : State :=
  let fmt := s.effN Obj.uart_format u
  let delay : Tod := (s.effN Obj.uart_delay u : Int) * 1000000 * nsU
  let sec := ((s.tod - delay) / secU).toNat
  let t := (sec : Int) * secU + delay
  let x := vat s.uarts u {}
  if s.tc.running && fmt != 0 && s.reaches t && x.last != some (t, s.steps) then
    let put (b : Bytes) : State :=
      { s with uarts := vmod s.uarts u fun x =>
        { x with sent := b, last := some (t, s.steps), started := (s.tc.cyc, s.effN Obj.uart_baud u) } }
    if fmt = 1 then put (s.uartBinary u sec)
    else if s.valN Obj.tod_state = 0 then s
    else put (s.uartZda u sec)
  else s

/-- TOD_UART_SEND (R248). -/
def execTodUartSend (u : Fin 2) (s : State) : Host.Outcome State Fault Refusal := .next (todUartSendEff u.val s)

/-- A decimal number in ASCII octets, none where an octet is no digit. -/
def parseDec : Bytes → Option Nat
  | b => b.foldl (fun a x =>
      match a with
      | some v => if 0x30 ≤ x.toNat ∧ x.toNat ≤ 0x39 then some (v * 10 + (x.toNat - 0x30)) else none
      | none => none) (some 0)

/-- The TOD second that a received message names, none where it fails its checksum or framing (R249 to R251). -/
def State.uartParse (s : State) (fmt : Nat) (b : Bytes) : Option Int :=
  if fmt = 1 then
    if b.length = 34 ∧ b.take 4 = ascii [0xC7, 0x3E, 0x01, 28] ∧ Crypto.crc16 (b.take 32) = field b 32 2 then some (field b 4 8 : Nat)
    else none
  else
    let body := (b.drop 1).take 32
    let c := nmeaSum body
    let marks := b.take 1 == [0x24#8] && slice b 3 3 == ascii [0x5A, 0x44, 0x41] && slice b 33 1 == [0x2A#8] &&
      slice b 34 2 == [hexDigit (c / 16), hexDigit (c % 16)] && b.drop 36 == [0x0D#8, 0x0A#8]
    match parseDec (slice b 7 2), parseDec (slice b 9 2), parseDec (slice b 11 2), parseDec (slice b 17 2),
      parseDec (slice b 20 2), parseDec (slice b 23 4) with
    | some h, some mi, some se, some d, some mo, some y =>
      if marks && b.length == 38 && decide (1 ≤ mo) && decide (mo ≤ 12) && decide (1 ≤ d) && decide (1970 ≤ y) then
        some ((dayNumber y mo d * 86400 + h * 3600 + mi * 60 + se : Nat) + s.effI Obj.tod_utc_offset)
      else none
    | _, _, _, _, _, _ => none

/-- TOD_UART_RECEIVE (R251): the named second is compared with the TOD second at the end of reception. -/
def todUartReceiveEff (u : Nat) (b : Bytes) (framing : Bool) (s : State) : State :=
  let fmt := s.effN Obj.uart_rx_format u
  if fmt = 0 then s
  else
    match (if framing then none else s.uartParse fmt b) with
    | none => s.count Obj.uart_rx_errors u
    | some named =>
      let now : Int := (todSec s.tod : Nat)
      let ref := if (named + 1) * secU < s.tod then now - 1 else now
      let d := named - ref
      let s := s.setB Obj.uart_rx_last b u
      if -(2 ^ 31) ≤ d ∧ d < 2 ^ 31 then s.setN Obj.uart_rx_diff d u
      else
        let (s, f) := s.open
        s.setN Obj.uart_rx_diff ((f + 2 ^ 31) % 2 ^ 32 - 2 ^ 31) u

/-- TOD_UART_RECEIVE (R251). -/
def execTodUartReceive (u : Fin 2) (b : Bytes) (framing : Bool) (s : State) : Host.Outcome State Fault Refusal :=
  .next (todUartReceiveEff u.val b framing s)

end Sys2Proof.Machine
end

