-- ==== Sys2Proof/Machine/TicUnit.lean ====
section
/-! DEFINITION. The time-interval counter (08_interval_measurement.md) and the edges of the REF inputs (R126 to R129): conditioning,
conversion, interpolators and their tables, time bases, gates, records and differences. -/
namespace Sys2Proof.Machine

/-! ### Interpolators (R260 to R264) -/

/-- Channel `c`: TI0-TI7, REF channels as 8-15, the TB channel as 16. -/
def State.chan (s : State) (c : Nat) : TicChan := vat s.tic.chans c {}

/-- A channel changed. -/
def State.modChan (s : State) (c : Nat) (f : TicChan → TicChan) : State := { s with tic := { s.tic with chans := vmod s.tic.chans c f } }

/-- An interpolator of a channel. -/
def TicChan.interp (x : TicChan) (i : Nat) : Interp := if i = 0 then x.i0 else x.i1

/-- An interpolator of a channel changed. -/
def TicChan.modInterp (x : TicChan) (i : Nat) (f : Interp → Interp) : TicChan :=
  if i = 0 then { x with i0 := f x.i0 } else { x with i1 := f x.i1 }

/-- The interpolator that measures, if any (R262). -/
def TicChan.measuring (x : TicChan) : Option Nat := if x.i0.state = 2 then some 0 else if x.i1.state = 2 then some 1 else none

/-- How many interpolators of a channel are fenced. -/
def TicChan.fencedN (x : TicChan) : Nat := (if x.i0.state = 3 then 1 else 0) + if x.i1.state = 3 then 1 else 0

/-- The mode of a channel: 0 PAIR, 1 SINGLE, 2 FAILED (R262, R264). -/
def State.putInterp (s : State) (c : Nat) : State :=
  let m := (s.chan c).fencedN
  if c < 8 then s.setN Obj.tic_interp m c else s.setN Obj.tic_ref_interp m (c - 8)

/-- Hits below a code, and at it. -/
def hitsAt (h : List Nat) (k : Nat) : Nat × Nat := ((h.take k).sum, h.getD k 0)

/-- t_fine of a code and the width of its bin, units of 2⁻²⁴ ps (R260); a table of N = 2ⁿ hits, n ≤ 24, gives whole units. -/
def Interp.fine (x : Interp) (k : Nat) : Int × Int :=
  let (below, own) := hitsAt x.hits k
  let n := max 1 x.total
  (((2000 * 2 ^ 24 * (2 * below + own) / (2 * n) : Nat) : Int), ((2000 * 2 ^ 24 * own / n : Nat) : Int))

/-- The checks of R260 on a histogram. -/
def tablePasses (h : List Nat) (n : Nat) : Bool :=
  let bins := (h.filter fun x => x != 0).length
  let inner := (h.dropWhile fun x => x == 0).reverse.dropWhile fun x => x == 0
  decide (800 ≤ bins) && decide (bins ≤ 1150) && h.all (fun x => decide (x * 2000 ≤ 8 * n)) && inner.all fun x => x != 0

/-- An interpolator fails its table: two failures in a row raise its source (R261). -/
def State.tableFails (s : State) (c i : Nat) : State :=
  let f := ((s.chan c).interp i).fails + 1
  let s := s.modChan c fun x => x.modInterp i fun y => { y with fails := f }
  if 2 ≤ f then s.raise (168 + 2 * c + i) else s

/-- The hold-off of a channel (R127, R256), ns. -/
def State.holdNs (s : State) (c : Nat) : Nat :=
  if c < 8 then max 8 (s.effN Obj.tic_holdoff c)
  else if c < 16 then
    let f := 2 * s.effN Obj.ref_freq_hz (c - 8)
    max 8 (if f = 0 then oneMs else min oneMs ((oneSec + f - 1) / f))
  else 8

/-- The channel collects events now: its gate is ALWAYS or its window is open (R267). -/
def State.windowOpen (s : State) (c : Nat) : Bool := s.effN Obj.tic_gate c == 0 || (s.chan c).winOpen

/-- The channel accepts no event at all (R263, R271): `tic.mode` is OFF or its gate window is closed. -/
def State.shut (s : State) (c : Nat) : Bool := decide (c < 8) && (s.effN Obj.tic_mode c == 0 || !s.windowOpen c)

/-- Cycles up to the present one in which the only interpolator of a channel took calibration edges (R263): `o` has the settings of that time. -/
def State.quietGain (o s : State) (c : Nat) : Nat :=
  let x := s.chan c
  if o.shut c then s.tc.cyc - x.quietAt
  else
    match x.lastEv with
    | none => 0
    | some l => min s.tc.cyc (l + (o.holdNs c + 1) / 2) - max l x.quietAt

/-- These cycles are counted. -/
def State.settleQuiet (o s : State) (c : Nat) : State :=
  s.modChan c fun x => { x with quiet := x.quiet + State.quietGain o s c, quietAt := s.tc.cyc }

/-- They are counted afresh. -/
def State.freshQuiet (s : State) (c : Nat) : State := s.modChan c fun x => { x with quiet := 0, quietAt := s.tc.cyc }

/-- TIC_CAL_TABLE_DONE (R260, R261, R263): a table of 2^`tic.cal_hits` hits passes or fails. A conversion takes 8 ns (R256), so the table of
an interpolator that measures alone takes as many cycles of quiet as that asks for (log entry 64). -/
def ticCalTableDoneEff (c i : Nat) (hits : List Nat) (s : State) : State :=
  let n := 2 ^ s.effN Obj.tic_cal_hits
  let x := s.chan c
  let y := x.interp i
  let single := x.fencedN == 1 && decide (4 * n ≤ x.quiet + State.quietGain s s c)
  if hits.length ≠ 1152 ∨ hits.sum ≠ n ∨ !(y.state == 0 || (y.state == 2 && single)) then s
  else if !tablePasses hits n then (s.tableFails c i).freshQuiet c
  else if y.state = 2 then
    (s.modChan c fun x => x.modInterp i fun y => { y with next := hits, nextAt := s.tc.cyc, fails := 0 }).freshQuiet c
  else
    s.modChan c fun x => x.modInterp i fun y =>
      { y with hits := hits, total := n, doneAt := s.tc.cyc, fails := 0, stored := false, state := 1 }

/-- TIC_CAL_TABLE_DONE (R260). -/
def execTicCalTableDone (c : Fin 17) (i : Fin 2) (hits : List Nat) (s : State) : Host.Outcome State Fault Refusal :=
  .next (ticCalTableDoneEff c.val i.val hits s)

/-- The swap of R262 and R263 in one channel at a tick boundary: a READY interpolator measures with its new table and the other starts
afresh; in SINGLE mode a new table replaces the old. -/
def TicChan.swap (x : TicChan) : TicChan :=
  let renew (y : Interp) : Interp :=
    if y.state = 2 ∧ !y.next.isEmpty then { y with hits := y.next, total := y.next.sum, next := [], doneAt := y.nextAt, stored := false } else y
  let retire (y : Interp) : Interp := if y.state = 2 then { y with state := 0, hits := [], total := 0, next := [], stored := false } else y
  if x.i0.state = 1 then { x with i0 := { x.i0 with state := 2 }, i1 := retire x.i1 }
  else if x.i1.state = 1 then { x with i1 := { x.i1 with state := 2 }, i0 := retire x.i0 }
  else { x with i0 := renew x.i0, i1 := renew x.i1 }

/-- TIC_INTERP_SWAP (R262) of every channel. -/
def State.ticSwap (s : State) : State := { s with tic := { s.tic with chans := s.tic.chans.map TicChan.swap } }

/-- An interpolator is fenced (R262, R264): the other, if it is READY, measures from the next cycle, and from this one where that is the
boundary cycle at which it would have measured anyway. A channel without an interpolator forms no further records, and the slot of a REF
channel loses its presence. -/
def State.fenceInterp (s : State) (c i : Nat) : State :=
  let next := if s.tc.boundaryDue then s.tc.cyc else s.tc.cyc + 1
  let s := s.modChan c fun x =>
    let x := x.modInterp i fun y => { y with state := 3 }
    x.modInterp (1 - i) fun y => if y.state = 1 then { y with state := 2, since := next } else y
  let s := (s.putInterp c).freshQuiet c
  if (s.chan c).fencedN ≠ 2 then s
  else if c < 8 then { s with tic := { s.tic with waits := s.tic.waits.filter fun w => w.unit != c } }
  else if c < 16 then s.losePresence (c - 8)
  else s

/-- `tic.bins` (R277): bins with hits in the table in use. -/
def State.viewTicBins (s : State) (c : Nat) : Nat :=
  match (s.chan c).measuring with
  | some i => (((s.chan c).interp i).hits.filter fun x => x != 0).length
  | none => 0

/-- `tic.cal_age` (R277): ms since the table in use completed. -/
def State.viewTicAge (s : State) (c : Nat) : Nat :=
  match (s.chan c).measuring with
  | some i => min (s.nsSince ((s.chan c).interp i).doneAt / oneMs) (2 ^ 32 - 1)
  | none => 0

/-! ### Conversion (R255 to R258) -/

/-- A channel as it stands on the present cycle: on a boundary cycle the swap of R262 has taken place. -/
def State.chanNow (s : State) (c : Nat) : TicChan := if s.tc.boundaryDue then (s.chan c).swap else s.chan c

/-- A channel converts an edge of the present coarse cycle (R258, R263, R564): the event and its interpolator, none where nothing measures. -/
def State.convert (s : State) (c k : Nat) : Option (TicEv × Nat) :=
  let x := s.chanNow c
  match x.measuring with
  | none => none
  | some i =>
    let y := x.interp i
    if s.tc.cyc < y.since then none
    else
    let (fine, bin) := y.fine k
    let delay := if c < 8 then s.effI Obj.tic_delay c * 2 ^ 24 else 0
    let off := (fine - delay) * s.tc.outRegs.inc * 2 ^ 32 / (1000 * 2 ^ 57)
    let old := y.stored || (x.fencedN == 1 && decide (s.effN Obj.tic_cal_max_age * oneSec < s.nsSince y.doneAt))
    let flags := 1 + 2 + (if old then 4 else 0) + (if s.stepFlag then 0x200 else 0) + (if s.valN Obj.tod_state = 0 then 0x400 else 0)
    let ev : TicEv :=
      { c := s.tc.cyc, k := k, u := (s.tc.cyc : Int) * 2000 * 2 ^ 24 + fine - delay, fine := fine, bin := bin
        stamp := stamp128 (s.tod + off) flags, tod := s.tod + off }
    some (ev, i)

/-- The hold-off of R127 for REFn: an accepted input edge too recent. -/
def State.refHeld (s : State) (n : Nat) (last : Option Nat) : Bool :=
  match last with
  | none => false
  | some c =>
    let e := s.nsSince c
    decide (e * 2 * s.effN Obj.ref_freq_hz n < oneSec) && decide (e < oneMs)

/-- A candidate is ignored during the hold-off of its channel (R256). -/
def State.held (s : State) (c : Nat) : Bool :=
  match (s.chan c).lastEv with
  | none => false
  | some l => decide (s.nsSince l < s.holdNs c)

/-- The polarity of an edge is one that the channel takes (R255). -/
def State.edgeOk (s : State) (c : Nat) (rise : Bool) : Bool :=
  if c < 8 then
    let m := s.effN Obj.tic_edge c
    m == 2 || (m == 0) == rise
  else if c < 16 then (s.effN Obj.ref_kind (c - 8) == 1) != rise
  else rise

/-! ### Records (R271 to R276) -/

/-- A record joins a channel's queue, or is discarded and counted (R273). -/
def State.pushTic (s : State) (c : Nat) (body : Bytes) (kind : Nat) (tail : Bytes) : State :=
  let x := s.chan c
  if 1024 ≤ x.queue.length then s.count Obj.tic_overruns c
  else
    let r := body ++ [BitVec.ofNat 8 kind, BitVec.ofNat 8 c] ++ beBytes 2 x.seq ++ tail
    s.modChan c fun x => { x with queue := x.queue ++ [r], seq := (x.seq + 1) % 65536 }

/-- Difference unit `d`. -/
def State.diff (s : State) (d : Nat) : TicDiff := vat s.tic.diffs d {}

/-- A difference unit changed. -/
def State.modDiff (s : State) (d : Nat) (f : TicDiff → TicDiff) : State := { s with tic := { s.tic with diffs := vmod s.tic.diffs d f } }

/-- A record joins a difference unit's queue, or is discarded and counted (R273); `tic.diff.last` shows its interval. -/
def State.pushDiff (s : State) (d stamp : Nat) (units : Int) (winNo : Nat) : State :=
  let s := s.setN Obj.tic_diff_last units d
  let x := s.diff d
  if 256 ≤ x.queue.length then s.count Obj.tic_diff_overruns d
  else
    let r := beBytes 16 stamp ++ intBytes 8 units ++ [3#8, BitVec.ofNat 8 d] ++ beBytes 2 x.seq ++ beBytes 4 winNo
    s.modDiff d fun x => { x with queue := x.queue ++ [r], seq := (x.seq + 1) % 65536 }

/-- The stamp of a result: the first event's, with the flags of the result as a whole (R272). -/
def resultStamp (a b : TicEv) (flags : Nat) : Nat := a.stamp ||| (b.stamp &&& 4) ||| flags

/-- The span of two events in seconds, exact: on TB_IN where both have a position, else on tclk (R265). -/
def spanSec (a b : TicEv) : Rat :=
  match a.pos, b.pos with
  | some p, some q => (q - p) / 10000000
  | _, _ => ((b.u - a.u : Int) : Rat) / (2 ^ 24 * 1000000000000 : Nat)

/-- Seconds in units of 2⁻¹⁴ ns, rounded (R272). -/
def units14 (x : Rat) : Int := ratRound (x * 1000000000 * 16384)

/-- A frequency record of a window (R275). -/
def State.emitFreq (s : State) (w : TicWait) (flags : Nat) : State :=
  let c := w.unit
  let span := spanSec w.a w.b
  let s :=
    if span = 0 then s
    else
      let f : Rat := (w.n : Rat) * w.presc / span
      s.setN Obj.tic_freq (ratFreq (f / w.nominal - 1)) c
  s.pushTic c (beBytes 16 (resultStamp w.a w.b flags) ++ intBytes 8 (units14 span)) 2 (beBytes 4 w.n)

/-- A difference record of a pair (R276) that has not overflowed. -/
def State.emitDiff (s : State) (w : TicWait) (flags : Nat) : State :=
  let d := w.unit - 8
  let together := w.a.c == w.b.c && decide (((w.b.fine - w.a.fine).natAbs : Int) < max w.a.bin w.b.bin)
  if together then s.pushDiff d (resultStamp w.a w.b (flags + 0x10)) 0 w.winNo
  else
    let i := units14 (spanSec w.a w.b)
    s.pushDiff d (resultStamp w.a w.b (flags + if w.b.u < w.a.u then 0x20 else 0)) i w.winNo

/-- A result is emitted. -/
def State.emitTic (s : State) (w : TicWait) (flags : Nat) : State := if w.unit < 8 then s.emitFreq w flags else s.emitDiff w flags

/-- TB_IN is the selected time base (R265). -/
def State.tbSelected (s : State) : Bool := s.effN Obj.tic_timebase == 1

/-- A result is complete: it is emitted at once, waits for a TB_IN edge, or falls back to tclk (R265, R266). -/
def State.finishTic (s : State) (w : TicWait) : State :=
  let tcl (w : TicWait) : TicWait := { w with a := { w.a with pos := none }, b := { w.b with pos := none } }
  if !w.tb then s.emitTic (tcl w) 0
  else if w.a.pos.isSome && w.b.pos.isSome then s.emitTic w 0
  else
    let latest : Int := match s.tic.tbEdges with
      | e :: _ => e.2
      | [] => 0
    let lost (e : TicEv) : Bool := e.pos.isNone && decide (e.u < latest)
    if s.valN Obj.tic_tb_state = 1 && !lost w.a && !lost w.b then { s with tic := { s.tic with waits := s.tic.waits ++ [w] } }
    else s.emitTic (tcl w) 0x80

/-- Every waiting result is looked at again. -/
def State.retryTic (s : State) : State :=
  let l := s.tic.waits
  ({ s with tic := { s.tic with waits := [] } } : State).each l State.finishTic

/-- A window's frequency result (R264, R275): at least two divided events in a channel that has not failed; `o` is the state whose settings
the window had. -/
def State.closeFreq (o s : State) (c : Nat) : State :=
  let x := s.chan c
  match x.freqFirst, x.freqLast with
  | some a, some b =>
    if 0 < x.freqN ∧ x.fencedN ≠ 2 then
      s.finishTic
        { unit := c, a := a, b := b, n := x.freqN, winNo := x.winNo, tb := o.tbSelected
          presc := o.effN Obj.tic_prescale c, nominal := o.effN Obj.tic_nominal_hz c }
    else s
  | _, _ => s

/-- A channel's window under the settings of `o` closes (R267, R275). -/
def State.closeChan (o s : State) (c : Nat) : State :=
  (State.settleQuiet o (State.closeFreq o s c) c).modChan c fun x => { x with winOpen := false, freqFirst := none, freqLast := none, freqN := 0 }

/-- A difference unit's window closes: unpaired counts are settled (R274). -/
def State.closeDiff (s : State) (d : Nat) : State :=
  let x := s.diff d
  if !x.winOpen then s
  else
    let s := if x.pairs = 0 ∧ x.p.isSome then s.count Obj.tic_diff_unpaired d else s
    let s := if x.pairs = 0 ∧ x.s.isSome then s.count Obj.tic_diff_no_stop d else s
    s.modDiff d fun x => { x with winOpen := false, s := none, p := none, pairs := 0, ovf := false }

/-- The coarse count of a pair had reached 2⁴⁷ when the pair was completed (R276). -/
def TicDiff.overflowed (x : TicDiff) (a b : TicEv) : Bool := x.ovf || decide (2 ^ 47 ≤ ((a.c : Int) - b.c).natAbs)

/-- try_pair of R274, and the overflow case of R276. -/
def State.tryPair (s : State) (d : Nat) : State :=
  let x := s.diff d
  match x.s, x.p with
  | some a, some b =>
    if x.pairs = 0 then
      let s :=
        if x.overflowed a b then
          let i : Int := if a.u ≤ b.u then 2 ^ 62 else -(2 ^ 62)
          s.pushDiff d (resultStamp a b 0x40) i x.winNo
        else s.finishTic { unit := 8 + d, a := a, b := b, winNo := x.winNo, tb := s.tbSelected }
      s.modDiff d fun x => { x with pairs := 1 }
    else s
  | _, _ => s

/-- An event of channel `c` reaches the difference units that use it (R271, R274). -/
def State.feedDiffs (s : State) (c : Nat) (e : TicEv) : State :=
  s.each (List.range 8) fun s d =>
    if !(s.effT Obj.tic_diff_enable d && (s.diff d).winOpen) then s
    else
      let s :=
        if s.effN Obj.tic_diff_start d = c then
          if (s.diff d).s.isNone then (s.modDiff d fun x => { x with s := some e }).tryPair d else s.count Obj.tic_diff_surplus d
        else s
      if s.effN Obj.tic_diff_stop d = c then
        if (s.diff d).p.isNone then (s.modDiff d fun x => { x with p := some e }).tryPair d else s.count Obj.tic_diff_surplus d
      else s

/-- The position of an event among TB edges, newest first, where it lies between two of them (R265). -/
def placeTb (edges : List (Nat × Int)) (e : TicEv) : TicEv :=
  match edges with
  | (_, v) :: (j, w) :: t =>
    if e.pos.isNone ∧ w ≤ e.u ∧ e.u < v then { e with pos := some ((j : Rat) + ((e.u - w : Int) : Rat) / ((v - w : Int) : Rat)) }
    else placeTb ((j, w) :: t) e
  | _ => e

/-- Every held event gets its position when a TB edge arrives (R265). -/
def State.placeAll (s : State) : State :=
  let es := s.tic.tbEdges
  let p := placeTb es
  let chan (x : TicChan) : TicChan := { x with freqFirst := x.freqFirst.map p, freqLast := x.freqLast.map p }
  let diff (x : TicDiff) : TicDiff := { x with s := x.s.map p, p := x.p.map p }
  let wait (w : TicWait) : TicWait := { w with a := p w.a, b := p w.b }
  let s : State := { s with tic := { s.tic with
    chans := s.tic.chans.map chan, diffs := s.tic.diffs.map diff, waits := s.tic.waits.map wait } }
  s.retryTic

/-- Octets 16 to 23 of an event record (R255, R272): coarse count, interpolator, polarity and code. -/
def eventWord (e : TicEv) (i : Nat) : Nat :=
  e.c % 2 ^ 48 * 65536 + i * 32768 + (if e.fall then 2048 else 0) + e.k % 2048

/-- An accepted event of TI channel `c` (R271, R275). -/
def State.tiEvent (s : State) (c : Nat) (e : TicEv) (i : Nat) : State :=
  let e := if s.valN Obj.tic_tb_state = 1 then placeTb s.tic.tbEdges e else e
  let mode := s.effN Obj.tic_mode c
  if mode = 2 then
    let n := (s.chan c).presc + 1
    let whole := decide (s.effN Obj.tic_prescale c ≤ n)
    let s := s.modChan c fun x => { x with presc := if whole then 0 else n }
    if whole then
      s.modChan c fun x =>
        match x.freqFirst with
        | none => { x with freqFirst := some e, freqLast := some e, freqN := 0 }
        | some _ => { x with freqLast := some e, freqN := x.freqN + 1 }
    else s
  else
    let s :=
      if mode = 1 then
        let body := beBytes 16 e.stamp ++ beBytes 8 (eventWord e i)
        s.pushTic c body 1 (beBytes 4 (if s.effN Obj.tic_gate c = 0 then 0 else (s.chan c).winNo))
      else s
    s.feedDiffs c e

/-- A TB_IN period within 100 ns ± 0.1 % (R266), units of 2⁻²⁴ ps. -/
def tbPeriodOk (p : Int) : Bool := decide (99900 * 2 ^ 24 ≤ p) && decide (p ≤ 100100 * 2 ^ 24)

/-- How many TB edges are kept: those of 2.4 µs, beyond the reach of `tic.delay` (R265). -/
def tbKept : Nat := 24

/-- An edge of TB_IN (R265, R266). -/
def State.tbEvent (s : State) (e : TicEv) : State :=
  let prev := s.tic.tbEdges.head?
  let good := match prev with
    | some (_, v) => tbPeriodOk (e.u - v)
    | none => false
  let idx := match prev with
    | some (j, _) => j + 1
    | none => 0
  let run := if good then min 10000 (s.tic.tbRun + 1) else 0
  let s := { s with tic := { s.tic with
    tbEdges := keepNew tbKept ((idx, e.u) :: s.tic.tbEdges), tbTod := e.tod, tbRun := run
    tbMark := if good then s.tic.tbMark else none
    tbSince := if s.tic.tbSince.isSome then s.tic.tbSince else if 10000 ≤ run then some s.tc.cyc else none } }
  if s.valN Obj.tic_tb_state = 1 && good then s.placeAll else s

/-- The channel is open, past its hold-off, and converts an edge that it accepts (R255, R256, R262, R263, R264). -/
def State.takeEdge (s : State) (c : Nat) (e : EdgeIn) : State × Option (TicEv × Nat) :=
  if !s.edgeOk c e.rise || s.shut c || s.held c || (s.chan c).fencedN == 2 || decide (1152 ≤ e.k) then (s, none)
  else
    match s.convert c e.k with
    | some r => ((State.settleQuiet s s c).modChan c fun x => { x with lastEv := some s.tc.cyc }, some r)
    | none => (if c < 8 then s.count Obj.tic_overruns c else s, none)

/-- The candidate of TI channel `c` on the cycle that ends (R255, R268): windows that opened on the cycle hold it, those that closed do
not. -/
def State.tiCandidate (s : State) (c : Nat) : State :=
  match (s.chan c).fresh with
  | none => s
  | some (k, rise) =>
    match (s.modChan c fun x => { x with fresh := none }).takeEdge c { k := k, rise := rise } with
    | (s, some (ev, i)) => s.tiEvent c { ev with fall := !rise && s.effN Obj.tic_edge c == 2 } i
    | (s, none) => s

/-- The candidates of the cycle that ends. -/
def State.tiCycle (s : State) : State := s.each (List.range 8) State.tiCandidate

/-- TIC_EVENT (R258): a candidate edge at TI0-TI7, which the end of its cycle takes up (R268), behind the pre-divider of REF0-REF7, or at
TB_IN. -/
def ticEventEff (c : Nat) (e : EdgeIn) (s : State) : State :=
  if c < 8 then
    if (s.chan c).fresh.isSome then s else s.modChan c fun x => { x with fresh := some (e.k, e.rise) }
  else
    match s.takeEdge c e with
    | (s, some (ev, _)) => if c < 16 then s.refFeed (c - 8) ev.stamp else s.tbEvent ev
    | (s, none) => s

/-- TIC_EVENT (R258). -/
def execTicEvent (c : Fin 17) (e : EdgeIn) (s : State) : Host.Outcome State Fault Refusal := .next (ticEventEff c.val e s)

/-- REF_EDGE (R126 to R129): an input edge of REFn is counted by the pre-divider; a divided edge is stamped by its channel and tested. -/
def refEdgeEff (n : Nat) (e : EdgeIn) (s : State) : State :=
  let sl := s.slot n
  if !s.edgeOk (8 + n) e.rise || s.refHeld n sl.lastEdge then s
  else
    let k := sl.divCount + 1
    let whole := decide (s.effN Obj.ref_divider n ≤ k)
    let s := s.modSlot n fun x => { x with lastEdge := some s.tc.cyc, divCount := if whole then 0 else k }
    if !whole then s
    else
      match s.takeEdge (8 + n) e with
      | (s, some (ev, _)) => s.refFeed n ev.stamp
      | (s, none) => s

/-- REF_EDGE (R128). -/
def execRefEdge (n : Fin 8) (e : EdgeIn) (s : State) : Host.Outcome State Fault Refusal := .next (refEdgeEff n.val e s)

/-! ### Gates (R267 to R270) -/

/-- A gate's window is open. -/
def State.gateOpen (s : State) (g : Nat) : Bool := if g = 0 then s.tic.gate0 else if g = 1 then s.tic.gate1 else s.tic.period

/-- A gate's window opens or closes. -/
def State.setGate (s : State) (g : Nat) (b : Bool) : State :=
  if g = 0 then { s with tic := { s.tic with gate0 := b } }
  else if g = 1 then { s with tic := { s.tic with gate1 := b } }
  else { s with tic := { s.tic with period := b } }

/-- The last PERIOD instant at or before now (R267). -/
def State.periodInstant (s : State) : Tod :=
  let off := psToU (s.effI Obj.tic_period_offset)
  let p : Int := (s.effN Obj.tic_period : Int) * 1000000 * nsU
  (s.tod - off) / p * p + off

/-- An edge of the ball of GATE0 or GATE1 is the active one (R267, R277). -/
def State.gateActive (s : State) (g : Nat) (rise : Bool) : Bool := rise != (s.effN Obj.tic_gate_polarity).testBit g

/-- TIC_WINDOW_OPEN (R267): on the active edge of GATE0 or GATE1, or at a PERIOD instant. -/
def ticWindowOpenEff (g : Nat) (rise : Bool) (s : State) : State :=
  let t := s.periodInstant
  if s.gateOpen g || (g == 2 && !s.reaches t) || (g != 2 && !s.gateActive g rise) then s
  else
    let s := (s.setGate g true).setN Obj.tic_windows ((s.valN Obj.tic_windows g + 1) % 2 ^ 32) g
    let no := s.valN Obj.tic_windows g
    let s := if g = 2 then { s with tic := { s.tic with perAt := t } } else s
    let s := s.each (List.range 8) fun s c =>
      if s.effN Obj.tic_gate c = g + 1 then
        (State.settleQuiet s s c).modChan c fun x => { x with winOpen := true, winNo := no, freqFirst := none, freqLast := none, freqN := 0 }
      else s
    s.each (List.range 8) fun s d =>
      if s.effT Obj.tic_diff_enable d && s.effN Obj.tic_diff_gate d == g + 1 then
        s.modDiff d fun x => { x with winOpen := true, winNo := no, s := none, p := none, pairs := 0, ovf := false }
      else s

/-- TIC_WINDOW_OPEN (R267). -/
def execTicWindowOpen (g : Fin 3) (s : State) (rise : Bool := true) : Host.Outcome State Fault Refusal := .next (ticWindowOpenEff g.val rise s)

/-- The windows of a gate close. -/
def State.closeGate (s : State) (g : Nat) : State :=
  let s := s.setGate g false
  let s := s.each (List.range 8) fun s c => if s.effN Obj.tic_gate c = g + 1 && (s.chan c).winOpen then State.closeChan s s c else s
  s.each (List.range 8) fun s d => if s.effN Obj.tic_diff_gate d = g + 1 then s.closeDiff d else s

/-- TIC_WINDOW_CLOSE (R267, R274): on the inactive edge, or at the PERIOD instant that ends the window. -/
def ticWindowCloseEff (g : Nat) (rise : Bool) (s : State) : State :=
  let t := s.periodInstant
  if !s.gateOpen g || (g == 2 && !(s.reaches t && t != s.tic.perAt)) || (g != 2 && s.gateActive g rise) then s else s.closeGate g

/-- TIC_WINDOW_CLOSE (R274). -/
def execTicWindowClose (g : Fin 3) (s : State) (rise : Bool := false) : Host.Outcome State Fault Refusal := .next (ticWindowCloseEff g.val rise s)

/-- A step while a PERIOD window is open closes it (R269), and TB_IN is measured afresh. -/
def State.stepTic (s : State) : State :=
  let s : State := { s with tic := { s.tic with tbMark := none } }
  if s.tic.period then s.closeGate 2 else s

/-- A committed change of a channel's configuration (R270); `o` is the state before. -/
def State.commitChan (o s : State) (c : Nat) : State := (State.closeChan o s c).modChan c fun x => { x with presc := 0 }

/-- A unit of the interval counter is disabled (R47): channel 0 to 7 OFF, or difference unit 8 + d. -/
def State.ticDisabled (s : State) (u : Nat) : Bool := if u < 8 then s.effN Obj.tic_mode u == 0 else !s.effT Obj.tic_diff_enable (u - 8)

/-- A committed change of the global configuration closes every window (R270); TB_IN comes into use once it has been present for
1 s (R266), and results that wait for it are formed on tclk. -/
def State.commitTic (o s : State) : State :=
  let s := (s.each (List.range 8) (State.commitChan o)).each (List.range 8) State.closeDiff
  let s := { s with tic := { s.tic with gate0 := false, gate1 := false, period := false, tbReturn := false } }
  let st := if !s.tbSelected then 0 else if s.passedO s.tic.tbSince oneSec then 1 else 2
  ((s.setN Obj.tic_tb_state st)).retryTic

/-- The first event of a pair that is not complete (R276). -/
def TicDiff.first (x : TicDiff) : Option TicEv :=
  match x.s, x.p with
  | some a, none => some a
  | none, some b => some b
  | _, _ => none

/-- DIFF_OVERFLOW (R274, R276): the coarse count of an open pair has reached 2⁴⁷; the record that the pair's completion emits carries OVERFLOW. -/
def diffOverflowEff (d : Nat) (s : State) : State :=
  let x := s.diff d
  match x.first with
  | none => s
  | some e => if x.pairs ≠ 0 ∨ s.tc.cyc - e.c < 2 ^ 47 then s else s.modDiff d fun x => { x with ovf := true }

/-- DIFF_OVERFLOW (R276). -/
def execDiffOverflow (d : Fin 8) (s : State) : Host.Outcome State Fault Refusal := .next (diffOverflowEff d.val s)

/-! ### TB_IN (R266) -/

/-- TB_IN_LOSS (R266): a period outside 100 ns ± 0.1 %, or no edge for longer. -/
def tbInLossEff (s : State) : State :=
  let late := match s.tic.tbEdges with
    | (_, v) :: _ => decide (100100 * 2 ^ 24 < (s.tc.cyc : Int) * 2000 * 2 ^ 24 - v)
    | [] => true
  if s.tic.tbSince.isSome && (s.tic.tbRun == 0 || late) then
    let s := { s with tic := { s.tic with tbSince := none, tbRun := 0, tbReturn := false, tbMark := none } }
    let s := (s.count Obj.tic_tb_losses).raise 245
    (if s.tbSelected then s.setN Obj.tic_tb_state 2 else s).retryTic
  else s

/-- TB_IN_LOSS (R266). -/
def execTbInLoss (s : State) : Host.Outcome State Fault Refusal := .next (tbInLossEff s)

/-- TB_IN_RETURN (R266): present for 1 s, TB_IN returns to use at the next boundary. -/
def tbInReturnEff (s : State) : State :=
  if s.tbSelected && s.valN Obj.tic_tb_state == 2 && s.passedO s.tic.tbSince oneSec then { s with tic := { s.tic with tbReturn := true } } else s

/-- TB_IN_RETURN (R266). -/
def execTbInReturn (s : State) : Host.Outcome State Fault Refusal := .next (tbInReturnEff s)

/-- The return of TB_IN at a boundary (R266). -/
def State.tbBoundary (s : State) : State :=
  if s.tic.tbReturn && s.tbSelected then ({ s with tic := { s.tic with tbReturn := false } } : State).setN Obj.tic_tb_state 1 else s

/-- TB_IN's fractional frequency against the TOD over the second that ends (R266, R277): the edges between the newest of each end. Without
TB_IN at both ends, or with a step between, nothing is measured. -/
def State.tbSecond (s : State) : State :=
  let now : Option (Nat × Int) := if s.tic.tbSince.isSome then s.tic.tbEdges.head?.map fun e => (e.1, s.tic.tbTod) else none
  let s := match s.tic.tbMark, now with
    | some (j, t), some (k, u) =>
      if t < u then s.setN Obj.tic_tb_freq (ratFreq ((((k : Int) - j) * 100 * nsU : Int) / ((u - t : Int) : Rat) - 1)) else s
    | _, _ => s
  { s with tic := { s.tic with tbMark := now } }

/-! ### Reads (R273) -/

/-- TIC_POP (R273): the oldest record of a channel is returned and removed. -/
def ticPopEff (c : Nat) (s : State) : State :=
  let b := (s.chan c).queue.headD (zeros 32)
  let s := s.modChan c fun x => { x with queue := x.queue.drop 1 }
  { s with gran := { s.gran with lastRead := [(Obj.tic_pop.key c 0, b)] } }

/-- TIC_POP (R273). -/
def execTicPop (c : Fin 8) (s : State) : Host.Outcome State Fault Refusal := .next (ticPopEff c.val s)

/-- TIC_DIFF_POP (R273): the oldest record of a difference unit is returned and removed. -/
def ticDiffPopEff (d : Nat) (s : State) : State :=
  let b := (s.diff d).queue.headD (zeros 32)
  let s := s.modDiff d fun x => { x with queue := x.queue.drop 1 }
  { s with gran := { s.gran with lastRead := [(Obj.tic_diff_pop.key d 0, b)] } }

/-- TIC_DIFF_POP (R273). -/
def execTicDiffPop (d : Fin 8) (s : State) : Host.Outcome State Fault Refusal := .next (ticDiffPopEff d.val s)

end Sys2Proof.Machine
end

