-- ==== Sys2Proof/Machine/Reset.lean ====
section
/-! DEFINITION. Resets (R556, R557), what survives them, and the pins FAULT_N and IRQ_N (R525, R529, R600). -/
namespace Sys2Proof.Machine

/-- Operating range of each rail (R594), 0.1 mV. -/
def railRange (r : Nat) : Nat × Nat :=
  ([(7275, 7725), (7760, 8240), (8730, 9270), (8730, 9270), (11640, 12360), (17100, 18900), (31350, 34650), (17100, 18900)] :
    List (Nat × Nat)).getD r (0, 0)

/-- A rail is within its operating range. -/
def State.railOk (s : State) (r : Nat) : Bool :=
  let v := vat s.elec.rail r 0
  decide ((railRange r).1 ≤ v) && decide (v ≤ (railRange r).2)

/-- The level of FAULT_N (R529, R600): released when no cause holds it low. -/
def State.faultFree (s : State) : Bool :=
  !s.boot.inReset && (s.boot.serving || s.boot.outcome == 4) && !s.win.pinLatch && !s.win.heartLost &&
    (List.range 7).all fun r => decide ((railRange r).1 ≤ vat s.elec.rail r 0)

/-- IRQ_N is released (R525): no source has INT pending and no bit of `ref.irq_pending` is set. -/
def State.irqFree (s : State) : Bool :=
  s.valN Obj.ref_irq_pending == 0 && (List.range 320).all fun k => !(s.valN Obj.win_src_state k).testBit 1

/-- FAULT_N and IRQ_N driven as the state has it. -/
def State.putPins (s : State) : State := { s with elec := { s.elec with faultN := s.faultFree, irqN := s.irqFree } }

/-- Start, install and ageing changed. -/
def State.modBoot (s : State) (f : Boot → Boot) : State := { s with boot := f s.boot }

/-! ### Records in two erase blocks (R569 to R571) -/

/-- Records in a region of two erase blocks of `n` records, newest first, with one more in front. When both blocks are full, the older one is
erased, once the records that `keep` picks have been copied (R570). -/
def pushBlocks {α : Type} [DecidableEq α] (n : Nat) (keep : List α → List α) (x : α) (l : List α) : List α :=
  if l.length < 2 * n then x :: l else x :: (l.take n ++ (keep l).filter fun r => !(l.take n).contains r)

/-- The newest good record of each bank among the records given. -/
def newestOfBanks (l : List BankRec) : List BankRec :=
  (List.range 2).filterMap fun k => l.find? fun r => r.good && r.bank == k

/-- A record joins the bank table (R570, R571). -/
def Boot.pushBank (b : Boot) (r : BankRec) : Boot := { b with bankRecs := pushBlocks 2048 newestOfBanks r b.bankRecs }

/-- A bank record with the next seq (R571). -/
def Boot.nextBankRec (b : Boot) (bank state len version : Nat) (digest : Bytes) : BankRec :=
  let seq := b.bankRecs.foldl (fun m r => max m r.seq) 0 + 1
  { bank := bank, state := state, seq := seq, length := len, version := version, digest := digest }

/-- A bank record written (R571): seq rises by 1. -/
def State.writeBankRec (s : State) (bank state len version : Nat) (digest : Bytes) : State :=
  s.modBoot fun b => b.pushBank (b.nextBankRec bank state len version digest)

/-- The bank table after a reset (R582): one that cuts step 9 short leaves a record whose CRC fails. -/
def State.bankRecsAfter (s : State) : List BankRec :=
  let b := s.boot
  if b.install.stage = 9 ∧ s.valN Obj.install_state = 3 then
    (b.pushBank { b.nextBankRec (1 - b.bank) 4 0 0 [] with good := false }).bankRecs
  else b.bankRecs

/-- The state right after a reset with a cause (R556, R557): everything is lost but the fuses and straps, the flash (journal, ledger,
bank table, image banks, calibration store, monitor values), the always-on domain (first-error record and ledger record) and what the
environment drives. Of causes that occur together, before the start begins, the lowest is recorded (R599). -/
def State.deviceReset (s : State) (cause : Nat) : State :=
  let b := s.boot
  let boot : Boot :=
    { cause := if b.inReset then min b.cause cause else cause
      starts := b.starts, ledger := b.ledger, ledgerAon := b.ledgerAon, history := b.history, bankRecs := s.bankRecsAfter, images := b.images
      bank := b.bank, safeNext := b.safeNext, clearNext := b.clearNext, calStore := b.calStore
      ages := b.agesKept, agesKept := b.agesKept
      hours := b.kept.1, powerSec := b.kept.2, kept := b.kept }
  let win : Winnow := { first := s.win.first }
  let since := s.valI Obj.win_first_since
  let out : State :=
    { dev := s.dev, boot := boot, win := win
      gran := { journal := s.gran.journal }
      elec := { s.elec with
        faultN := false, faultAlive := false, irqN := true, lockPd := Vector.replicate 2 false, lockCells := Vector.replicate 2 []
        ospiReset := false, ospiOctal := false, sfdp := [] }
      fresh := s.fresh, pending := s.pending }
  out.setN Obj.win_first_since since

/-- RESET_N (R556, R603): a low level of so many ns. At least 1 µs resets the part, below 100 ns it is ignored. -/
def resetNEff (lowNs : Nat) (s : State) : State :=
  if 1000 ≤ lowNs then s.deviceReset 1
  else if lowNs < 100 then s
  else
    let r := Config.shortReset lowNs s.fresh
    let s : State := { s with fresh := s.fresh + 1 }
    if r then s.deviceReset 1 else s

/-- RESET_N (R556). -/
def execResetN (s : State) (lowNs : Nat := 1000) : Host.Outcome State Fault Refusal := .next (resetNEff lowNs s)

/-- JTAG_RESET (R556, R616): a port that is held in its reset state asks for nothing. -/
def jtagResetEff (s : State) : State := if s.elec.jtag then s.deviceReset 6 else s

/-- JTAG_RESET (R556). -/
def execJtagReset (s : State) : Host.Outcome State Fault Refusal := .next (jtagResetEff s)

/-- Reset thresholds of VDD_CORE and VDD_SRAM, falling (R594), 0.1 mV. -/
def supplyThreshold (r : Nat) : Nat := if r = 0 then 6900 else 7400

/-- VDD_CORE or VDD_SRAM has stayed below its reset threshold for 500 ns (R595). -/
def State.supplyLow (s : State) : Bool :=
  (List.range 2).any fun r =>
    match vat s.elec.lowSince r none with
    | some t => decide (t + 500 ≤ s.elec.clockNs)
    | none => false

/-- SUPPLY_RESET (R595): VDD_CORE or VDD_SRAM has stayed below its reset threshold for 500 ns. -/
def supplyResetEff (s : State) : State := if s.supplyLow then s.deviceReset 2 else s

/-- SUPPLY_RESET (R595). -/
def execSupplyReset (s : State) : Host.Outcome State Fault Refusal := .next (supplyResetEff s)

/-- The always-on domain is lost and the part is held in its power-on reset (R556, R595). -/
def State.loseAon (s : State) : State :=
  let s := s.deviceReset 0
  { s with
    boot := { s.boot with ledger := [], ledgerAon := false, cause := 0, safeNext := false, clearNext := false }
    win := {}, dict := {}, elec := { s.elec with aon := false, jtag := false } }

/-- VDD_AON as it now stands, 0.1 mV. -/
def State.setAon (s : State) (v : Nat) : State := { s with elec := { s.elec with rail := vmod s.elec.rail 7 fun _ => v } }

/-- VDD_AON_FALL (R594, R595): VDD_AON falls to so many 0.1 mV; below 1.55 V the power-on reset asserts. -/
def vddAonFallEff (v : Nat) (s : State) : State :=
  let s := s.setAon v
  if v < 15500 then s.loseAon else s

/-- VDD_AON_FALL (R595). -/
def execVddAonFall (s : State) (v : Nat := 0) : Host.Outcome State Fault Refusal := .next (vddAonFallEff v s)

/-- POWER_ON (R556, R595): VDD_AON rises to so many 0.1 mV; at 1.62 V and above the power-on reset ends. A part whose always-on domain was
supplied has lost it before (log entry 55). -/
def powerOnEff (v : Nat) (s : State) : State :=
  let s := s.setAon v
  if 16200 ≤ v then
    let s := s.loseAon
    { s with elec := { s.elec with aon := true } }
  else s

/-- POWER_ON (R556). -/
def execPowerOn (s : State) (v : Nat := 18000) : Host.Outcome State Fault Refusal := .next (powerOnEff v s)

end Sys2Proof.Machine
end

