-- ==== Sys2Proof/Machine/Winnow.lean ====
section
/-! DEFINITION. Winnow fault handling (16_winnow.md): raising, presentation, fences and block resets, the spares, the Steward pairs and
their roles (R43 to R46), degraded operation and the heartbeat. -/
namespace Sys2Proof.Machine

/-! ### Raising (R509, R514 to R516) -/

/-- Winnow changed. -/
def State.modWin (s : State) (f : Winnow → Winnow) : State := { s with win := f s.win }

/-- A corrected error of a bank: SRAM_CE is raised when the errors of the TOD second reach `win.ce_threshold`, once in the second (R508). -/
def State.correctedError (s : State) (b : Nat) (i : FaultInfo) : State :=
  let n := vat s.win.ce b 0 + 1
  let s := s.modWin fun w => { w with ce := vmod w.ce b fun _ => n }
  let s := s.tally (31 + (if b < 64 then b / 16 else b - 64)) 3 1
  if s.effN Obj.win_ce_threshold ≤ n && !(vat s.win.ceRaised b false) then
    (s.modWin fun w => { w with ceRaised := vmod w.ceRaised b fun _ => true }).raise (100 + b) i
  else s

/-- FAULT_RAISE (R509): a fault event or the begin of a condition. A lockstep fault blocks its pair's outputs from this cycle (R31);
REEVE_HEARTBEAT has its own command. -/
def faultRaiseEff (x : Nat) (i : FaultInfo) (s : State) : State :=
  if s.boot.inReset ∨ x = 311 then s
  else if 100 ≤ x ∧ x < 168 then s.correctedError (x - 100) i
  else if 211 ≤ x ∧ x ≤ 213 then
    if (s.pair (x - 211)).fenced then s else (s.modPair (x - 211) fun p => { p with blocked := true }).raise x i
  else if (srcRow x).cond then s.condBegin x i
  else s.raise x i

/-- SOURCE_ACTIVE_EXPIRE (R509): an EVENT source is active for 8,000 ticks. -/
def sourceActiveExpireEff (x : Nat) (s : State) : State :=
  let r := vat s.win.srcs x {}
  if r.active && !(srcRow x).cond && decide (r.activeTo ≤ s.tc.boundaries) then s.modSrc x fun r => { r with active := false } else s

/-- SOURCE_ACTIVE_EXPIRE (R509). -/
def execSourceActiveExpire (x : Fin 320) (s : State) : Host.Outcome State Fault Refusal := .next (sourceActiveExpireEff x.val s)

/-! ### Fences and block resets (R519 to R523) -/

/-- Work dropped with a unit is counted (R511, R520). -/
def State.fenceDrops (s : State) (n : Nat) : State := if n = 0 then s else s.count Obj.win_fence_drops 0 0 n

/-- A Flail job is dropped: a launch instant it was reserved for meets the LATE path (R520). -/
def State.dropJobs (s : State) (sel : FlailJob → Bool) : State :=
  let gone := s.net.flail.jobs.filter sel
  let s := s.each gone fun s j =>
    match j.work with
    | .kiss _ => s.useCells j.port j.queue (-(j.cells : Int))
    | _ => s
  let s : State := { s with net := { s.net with flail := { s.net.flail with jobs := s.net.flail.jobs.filter fun j => !sel j } } }
  s.fenceDrops gone.length

/-- Jobs of a fenced pipeline are redone on another (R519). -/
def State.redoJobs (s : State) (sha : Bool) (old new : Nat) : State :=
  let mine := s.net.flail.jobs.filter fun j => j.sha == sha && j.pipe == old
  s.each mine fun s j =>
    let free := max s.tod (if sha then vat s.net.flail.shaFree new 0 else vat s.net.flail.aesFree new 0)
    let start := if sha then vat s.net.flail.shaFree old 0 else vat s.net.flail.aesFree old 0
    let depth : Int := ((if sha then Config.shaDepth.val else Config.aesDepth.val : Nat) : Int) * nsU
    let blocks := max nsU (start - (j.doneAt - depth))
    let done := free + blocks + depth
    let blk := if sha then 26 + new else 16 + new
    let s := ((s.tally blk 1 1).tally blk 2 (blocks / nsU).toNat).tally blk 4 1
    let move (x : FlailJob) : FlailJob := if x.id == j.id then { x with pipe := new, doneAt := done } else x
    let fl := s.net.flail
    { s with net := { s.net with flail :=
      { jobs := fl.jobs.map move
        aesFree := if sha then fl.aesFree else vmod fl.aesFree new fun _ => free + blocks
        shaFree := if sha then vmod fl.shaFree new fun _ => free + blocks else fl.shaFree } } }

/-- The degraded bits of a state that begins (R524): set at the next boundary. -/
def State.degrade (s : State) (bit : Nat) : State := s.modWin fun w => { w with degPend := w.degPend ||| 2 ^ bit }

/-- The fence of a Thresher (R519, R520). Here and below the second part of the result says that the fence finds no spare (R523). -/
def State.fenceThresher (s : State) (t : Nat) : State × Bool :=
  let s := s.dropJobs fun j => j.thr == t
  let s := s.modWin fun w => { w with thrSpare := w.thrSpare.filter fun k => k != t }
  match (List.range 16).find? fun k => vat s.win.thrSlots k none == some t with
  | none => (s, false)
  | some k =>
    let s := s.modWin fun w => { w with thrSlots := vmod w.thrSlots k fun _ => none }
    if s.win.thrPend.length < s.win.thrSpare.length then (s.modWin fun w => { w with thrPend := w.thrPend ++ [k] }, false)
    else (s.degrade 1, true)

/-- The fence of a Flail pipeline (R519): a spare takes its place at once. -/
def State.fencePipe (s : State) (sha : Bool) (p : Nat) : State × Bool :=
  let w := s.win
  let (act, spare) := if sha then (w.shaActive, w.shaSpare) else (w.aesActive, w.aesSpare)
  let put (s : State) (a b : List Nat) : State :=
    s.modWin fun w => if sha then { w with shaActive := a, shaSpare := b } else { w with aesActive := a, aesSpare := b }
  if spare.contains p then (put s act (spare.filter fun k => k != p), false)
  else if !act.contains p then (s, false)
  else
    match spare with
    | n :: rest =>
      let s := put s (act.map fun k => if k = p then n else k) rest
      ((s.redoJobs sha p n).degrade 2, false)
    | [] =>
      let left := act.filter fun k => k != p
      let s := put s left []
      let s := match leastLoaded left (fun k => if sha then vat s.net.flail.shaFree k 0 else vat s.net.flail.aesFree k 0) s.tod with
        | some (n, _) => s.redoJobs sha p n
        | none => s.dropJobs fun j => j.sha == sha && j.pipe == p
      (s.degrade 3, true)

/-- A role is halted (R46). -/
def State.haltRole (s : State) (r : Nat) : State :=
  if s.stew.halted.contains r then s else { s with stew := { s.stew with halted := s.stew.halted ++ [r] } }

/-- A free choice that the manual leaves open. -/
def State.flip (s : State) : State × Bool :=
  let (s, v) := s.open
  (s, v % 2 == 1)

/-- Frames of a lost packet-buffer bank (R522). Which frames lay in it the manual does not say: each is free (log entry 29). -/
def State.loseBuffers (s : State) (b : Nat) : State :=
  if b < 5 then
    s.each s.net.waiting fun s f =>
      let (s, hit) := s.flip
      if hit then
        let s := (s.freeFrame f).count Obj.mac_rx_pool_drop f.port
        { s with net := { s.net with waiting := s.net.waiting.filter fun g => g.id != f.id } }
      else s
  else
    s.each ((List.range 9).filter fun p => decide (512 * b < 2944 + 384 * p) && decide (2560 + 384 * p < 512 * b + 512)) fun s p =>
      let frames := (((s.port p).queues.toList.map fun q => q.fifo).flatten).map fun f => (f, none)
      let cal := ((s.port p).cal.filter fun e => !e.committed).map fun e => (e.frame, some e)
      s.each (frames ++ cal) fun s f =>
        let (s, hit) := s.flip
        if !hit then s
        else
          let s := ((s.completeStamp p f.1.id true 0).missNote f.1).count Obj.mac_tx_flushed p
          match f.2 with
          | some e => s.releaseReserved p e (cellsOf f.1.len)
          | none =>
            (s.modQueue p f.1.queue fun q => { q with fifo := q.fifo.filter fun g => g.id != f.1.id }).useCells p f.1.queue
              (-(cellsOf f.1.len : Int))

/-- The region of a bank that is lost (R522). -/
def State.loseRegion (s : State) (b : Nat) : State :=
  if b < 12 then s.loseBuffers b
  else if b < 28 then
    let k := b - 12
    let gone := s.net.sessions.filter fun x => x.num / 8192 == k
    let s := s.each gone fun s x => s.count Obj.ptp_sess_expired x.inst
    { s with net := { s.net with sessions := s.net.sessions.filter fun x => x.num / 8192 != k } }
  else if b < 44 then s
  else if b < 56 then
    let s := s.modWin fun w => { w with pinLatch := true, aliveStop := true }
    ((s.haltRole 1).haltRole 2).putPins
  else if b < 60 then
    let s := s.setEff Obj.gnss_enable 0 0 (.n 0)
    let s := s.gnssStop
    s.losePresence 8
  else s.setEff Obj.nts_enable 0 0 (.n 0)

/-- The bank whose addresses a spare has taken, if any. -/
def State.bankBehind (s : State) (b : Nat) : Nat := ((s.win.bankMap.find? fun e => e.2 == b).map Prod.fst).getD b

/-- A bank is retired: it is copied to the spare of its port group, which takes its addresses at the next boundary (R519, R521), or it
is lost (R522). The result says whether a spare remained. -/
def State.retireBank (s : State) (b : Nat) : State × Bool :=
  if s.win.bankLost.contains b || s.win.bankMap.any (fun e => e.1 == b) || s.win.bankPend.any (fun e => e.1 == b) then (s, true)
  else if 64 ≤ b && s.win.sramSpare.contains b then
    (s.modWin fun w => { w with sramSpare := w.sramSpare.filter fun k => k != b }, true)
  else
    let home := s.bankBehind b
    let sp := 64 + home / 16
    if b < 64 && s.win.sramSpare.contains sp then
      (s.modWin fun w => { w with sramSpare := w.sramSpare.filter fun k => k != sp, bankPend := w.bankPend ++ [(b, sp)] }, true)
    else if 64 ≤ b && home = b then (s, true)
    else
      let s := s.modWin fun w => { w with bankLost := w.bankLost ++ [home] ++ (if home = b then [] else [b]) }
      ((s.loseRegion home).degrade 5, false)

/-- The role state of SA (R43). -/
def State.saRole (s : State) : SaCheck :=
  let h := s.hold
  { at' := s.tc.boundaries, slots := s.slots, disputes := s.sel.disputes, arbSeen := s.sel.arbSeen, fInt := s.sel.fInt, lastUpd := s.sel.lastUpd
    fly := h.fly, xo := h.xo, acc := (h.accF, h.accT, h.accS), flyQualSince := h.flyQualSince }

/-- The role state of SB (R43). -/
def State.sbRole (s : State) : SbCheck :=
  { at' := s.tc.boundaries, foreign := s.net.ptp.map PtpInst.foreign, grants := s.net.ptp.map PtpInst.grants, chans := s.gnss.chans
    chStates := (List.range 128).map fun n => (s.gchAssign n, s.gchState n), searchList := s.gnss.searchList }

/-- A checkpoint of a role completes (R43); its pair has written it (R547). -/
def State.checkpoint (s : State) (r : Nat) : State :=
  let s := match s.roleAt r with
    | some p => s.tally (57 + p) 4 1
    | none => s
  if r = 1 then { s with stew := { s.stew with sa := s.saRole } } else { s with stew := { s.stew with sb := s.sbRole } }

/-- A slot as SA's checkpoint has it: SA's results, with the edges and measurements captured since. -/
def Slot.resume (sl c : Slot) : Slot :=
  let used (m : Meas) : Bool := c.meas.any fun x => x.cyc == m.cyc && x.used
  { sl with
    meas := sl.meas.map fun m => { m with used := used m }
    y := c.y, resid := c.resid, freqOk := c.freqOk, phaseOk := c.phaseOk, consOk := c.consOk, goodSince := c.goodSince
    qualified := c.qualified && sl.present, wtrStart := c.wtrStart, eligible := c.eligible && sl.present, inconsistent := c.inconsistent
    agreed := c.agreed, arbDisq := c.arbDisq, forced := c.forced, tested := c.tested, failed := c.failed }

/-- The SA role stands where its last completed checkpoint has it (R44). -/
def State.resumeSa (s : State) : State :=
  let c := s.stew.sa
  { s with
    slots := Vector.ofFn fun i => s.slots[i].resume c.slots[i]
    sel := { s.sel with disputes := c.disputes, arbSeen := c.arbSeen, fInt := c.fInt, lastUpd := c.lastUpd }
    hold := { s.hold with fly := c.fly, xo := c.xo, accF := c.acc.1, accT := c.acc.2.1, accS := c.acc.2.2, flyQualSince := c.flyQualSince } }

/-- A tracking channel as SB's checkpoint has it: the loops and what they hold, with the NCOs, correlators, dumps and latches as they are. -/
def GnssChan.resume (x c : GnssChan) : GnssChan :=
  { c with
    carPhase := x.carPhase, carRate := x.carRate, codeFrac := x.codeFrac, chips := x.chips, codeRate := x.codeRate, cycles := x.cycles
    acc := x.acc, accLen := x.accLen, accGap := x.accGap, vlNow := x.vlNow, sums := x.sums, sumsLen := x.sumsLen, sumsGap := x.sumsGap
    dumped := x.dumped, vlDump := x.vlDump, latCode := x.latCode, latChips := x.latChips, latCar := x.latCar, latched := x.latched
    queued := x.queued, staged := none, move := 0 }

/-- The channels of SB's checkpoint that still carry what they carried then stand as it has them (R44). -/
def State.resumeChans (s : State) (c : SbCheck) : State :=
  s.each ((List.range 128).zip c.chStates) fun s e =>
    let (n, a, st) := e
    let now := s.gchState n
    if a = 0 || s.gchAssign n != a || st < 2 || 5 < st || now < 2 || 5 < now then s
    else (s.setN Obj.gnss_ch_state st n).modGch n fun x => x.resume (vat c.chans n {})

/-- The SB role stands where its last completed checkpoint has it (R44). -/
def State.resumeSb (s : State) : State :=
  let c := s.stew.sb
  ({ s with
    net := { s.net with ptp := Vector.ofFn fun i => { s.net.ptp[i] with foreign := c.foreign[i], grants := c.grants[i] } }
    gnss := { s.gnss with assigned := [], searchList := c.searchList } } : State).resumeChans c

/-- A pair that holds a role is fenced (R43, R44): work of the tick that it has completed has been checkpointed; otherwise the role goes back to its
last completed checkpoint, where the next holder takes it up. -/
def State.roleBack (s : State) (p r : Nat) : State :=
  if (s.pair p).done then s.checkpoint r else if r = 1 then s.resumeSa else s.resumeSb

/-- The fence of a Steward pair (R44, R46): the standby takes its role at the next boundary, or the role is halted. -/
def State.fencePair (s : State) (p : Nat) : State × Bool :=
  let r := (s.pair p).role
  let s := if r = 1 ∨ r = 2 then s.roleBack p r else s
  let s := s.modPair p fun q => { q with fenced := true, role := if q.role = 3 then 0 else q.role, loading := false, ret := false }
  if r = 1 ∨ r = 2 then
    if (s.roleAt 3).isSome && s.stew.takeover.isEmpty then ({ s with stew := { s.stew with takeover := [r] } }, false)
    else (s.haltRole r, true)
  else (s, false)

/-- A lockstep fault or the loss of a Steward bank during steps 5 to 8 stops the install (R583). -/
def State.installStop (s : State) : State :=
  if s.valN Obj.install_state = 3 then
    ((s.setN Obj.install_state 6).setN Obj.install_error 9).raiseHeld 313
  else s

/-- The fence of a source's unit takes effect (R519). -/
def State.fenceUnit (s : State) (x : Nat) : State × Bool :=
  match (srcRow x).unit with
  | .thresher => s.fenceThresher x
  | .aes => s.fencePipe false (x - 16)
  | .sha => s.fencePipe true (x - 26)
  | .bank =>
    let b := (x - 32) % 68
    let (s, spare) := s.retireBank b
    (if 44 ≤ b ∧ b < 56 ∧ !spare then s.installStop else s, !spare)
  | .interp =>
    let c := (x - 168) / 2
    let s := s.fenceInterp c (x % 2)
    if (s.chan c).fencedN = 2 then (s.degrade 7, true) else (s.degrade 6, false)
  | .group =>
    let (s, spare) := s.fenceGroup (x - 202)
    (if spare then s else s.degrade 9, !spare)
  | .pair => s.fencePair (x - 211)
  | .dco =>
    if x = 215 && s.win.dcoSpare && !s.win.dcoPend then (s.modWin fun w => { w with dcoSpare := false }, false)
    else if x = 214 && s.win.dcoSpare then (s.modWin fun w => { w with dcoPend := true }, false)
    else (s.modWin fun w => { w with dcoStuck := true }, true)
  | .nothing => (s, false)

/-- The sources among `new` whose fence finds no spare, once the fences under way (`before`) have taken theirs (R523). -/
def State.spareless (s : State) (before new : List Nat) : List Nat :=
  let v := s.each before fun s x => (s.fenceUnit x).1
  (new.foldl (fun a x => let r := a.1.fenceUnit x; (r.1, if r.2 then a.2 ++ [x] else a.2)) (v, ([] : List Nat))).2

/-- The matrix pieces outstanding at a bridge that is reset end with an error response (R545). -/
def State.dropPieces (s : State) (t : Nat) : State :=
  let gone := s.mtx.pieces.filter fun p => p.target == t && p.granted && p.done.isNone
  let s := s.each gone fun s p => s.finishPiece p.id true []
  s.fenceDrops gone.length

/-- A running STORE is dropped: its handle reads STORE_FAILED (R503, R511). -/
def State.dropStore (s : State) : State :=
  match s.gran.store with
  | none => s
  | some j =>
    let fail (h : HandleRec) : HandleRec := { h with status := 0x20 }
    let s : State := { s with gran := { s.gran with
      store := none, handles := s.gran.handles.map fun e => if e.1 = j.handle then (e.1, fail e.2) else e } }
    (s.setN Obj.store_state 3).fenceDrops 1

/-- A block is reset: its work in flight is dropped (R511). -/
def State.blockReset (s : State) (x : Nat) : State :=
  match (srcRow x).block with
  | .thresher => s.dropJobs fun j => j.thr == x
  | .pipe => s.dropJobs fun j => if x < 26 then !j.sha && j.pipe == x - 16 else j.sha && j.pipe == x - 26
  | .rng => s
  | .group => s.groupCoast (x - 202)
  | .mac =>
    let p := x - 263
    let n := s.valN Obj.mac_tx_flushed p
    let s := if s.linkUp p then s.linkDown p else s.flush p
    s.fenceDrops (s.valN Obj.mac_tx_flushed p - n)
  | .flash => s.dropStore
  | .bridge => s.dropPieces (x - 281)
  | .nothing => s

/-- A fence or block reset is completed by the hardware after handling ends (R515). -/
def State.completeFence (s : State) (x : Nat) : State :=
  let w := s.win
  let s := if w.fencing.contains x then (s.modWin fun w => { w with fencing := w.fencing.filter fun k => k != x }).fenceUnit x |>.1 else s
  if w.resetting.contains x then (s.modWin fun w => { w with resetting := w.resetting.filter fun k => k != x }).blockReset x else s

/-- FENCE_COMPLETE (R515, R519). -/
def fenceCompleteEff (x : Nat) (s : State) : State := if s.win.busy then s else s.completeFence x

/-- FENCE_COMPLETE (R519). -/
def execFenceComplete (x : Fin 320) (s : State) : Host.Outcome State Fault Refusal := .next (fenceCompleteEff x.val s)

/-! ### Handling (R511, R514, R517) -/

/-- The stamp of the present cycle (R106). -/
def State.stampNow (s : State) : Nat :=
  stamp128 s.tod (1 + (if s.stepFlag then 512 else 0) + if s.valN Obj.tod_state = 0 then 1024 else 0)

/-- Of two sources the one with the higher severity, the lower number on a tie (R514). -/
def State.leadOf (s : State) : List (Nat × FaultInfo) → Option (Nat × FaultInfo)
  | [] => none
  | a :: t =>
    match s.leadOf t with
    | none => some a
    | some b =>
      let x := s.severity a.1
      let y := s.severity b.1
      some (if y < x || (x == y && decide (a.1 < b.1)) then a else b)

/-- The 32 octets of a first-error record (R517). -/
def State.firstRecord (s : State) (lead : Nat × FaultInfo) (m : Nat) : Bytes :=
  let i := lead.2
  beBytes 2 lead.1 ++ beBytes 1 (s.severity lead.1) ++ beBytes 1 i.access ++ beBytes 1 i.master ++ beBytes 1 m ++ beBytes 2 i.detail ++
    beBytes 8 i.addr ++ beBytes 16 s.stampNow

/-- The unit of a source is isolated as soon as it is fenced: it takes no new work, until the fence completes (R514, R519). Once the spare DCO is in use,
a fault of the active DCO is a second fence, which finds none (R229, R523). -/
def State.isolate (s : State) (x : Nat) : State :=
  let again := x == 214 && s.valN Obj.dpll_dco_spare == 1 && !s.win.dcoStuck && !s.win.fencing.contains x
  if (s.win.fenced.contains x && !again) || (srcRow x).unit = .nothing then s
  else
    let s := (s.srcBits x 4).modWin fun w => { w with fenced := if w.fenced.contains x then w.fenced else w.fenced ++ [x], fencing := w.fencing ++ [x] }
    if 211 ≤ x ∧ x ≤ 213 then (s.modPair (x - 211) fun q => { q with blocked := true }).installStop else s

/-- The sources whose NMI goes to the pair that holds the SA role (R511). -/
def nmiToSa (x : Nat) : Bool := (decide (168 ≤ x) && decide (x ≤ 201)) || (decide (214 ≤ x) && decide (x ≤ 245))

/-- NMI is raised on the pair that holds the role of a source (R511). -/
def State.nmi (s : State) (x : Nat) : State :=
  match s.roleAt (if nmiToSa x then 1 else 2) with
  | some p => s.modWin fun w => { w with nmi := vmod w.nmi p fun _ => true }
  | none => s

/-- A presentation whose lead is severe enough freezes the Tithe store at the next boundary (R553). -/
def State.freezeBy (s : State) (lead : Option (Nat × FaultInfo)) : State :=
  let v := s.effN Obj.tithe_freeze_sev
  match lead with
  | some l =>
    if v != 0xFF && decide (v ≤ s.severity l.1) && !s.tithe.frozen then { s with tithe := { s.tithe with freezeNext := true } } else s
  | none => s

/-- handle(P) of R514. A fence that finds no spare raises FENCE_NO_SPARE, which is held until handling ends, with the fenced source in the
detail field (R516, R523). -/
def State.handle (s : State) (P : List (Nat × FaultInfo)) : State :=
  let ns := P.map Prod.fst
  let s := s.modWin fun w => { w with now := [], busy := true, handling := ns }
  let s := s.count Obj.win_presentations
  let s := s.each ns fun s x => (s.count Obj.win_src_count x).setN Obj.win_src_last s.stampNow x
  let m := ns.foldl (fun a x => a ||| s.mask x) 0
  let s := match s.win.first, s.leadOf P with
    | none, some l => (s.modWin fun w => { w with first := some (s.firstRecord l m) }).setN Obj.win_first_since 0
    | _, _ => s.count Obj.win_first_since
  let s := s.freezeBy (s.leadOf P)
  let s := if m.testBit 5 then s.modWin fun w => { w with pinLatch := true, aliveStop := true } else s
  let s := s.each (ns.filter fun x => (s.mask x).testBit 0) fun s x => s.srcBits x 2
  let s := s.each (ns.filter fun x => (s.mask x).testBit 1) State.nmi
  let before := s.win.fencing
  let s := s.each (ns.filter fun x => (s.mask x).testBit 3 || (decide (211 ≤ x) && decide (x ≤ 213))) State.isolate
  let s := s.each (s.spareless before (s.win.fencing.drop before.length)) fun s x => s.raiseHeld 310 { detail := x }
  let rs := ns.filter fun x => (s.mask x).testBit 2 && (srcRow x).block != .nothing
  let s := s.modWin fun w => { w with resetting := w.resetting ++ rs.filter fun x => !w.resetting.contains x }
  if m.testBit 4 then s.deviceReset 3 else s.putPins

/-- PRESENTATION (R514): the sources raised on one cycle are presented while the Reeve is idle. -/
def presentationEff (s : State) : State :=
  if s.boot.inReset || s.boot.halted || s.win.busy || s.win.heartLost || s.win.now.isEmpty then s else s.handle s.win.now

/-- PRESENTATION (R514). -/
def execPresentation (s : State) : Host.Outcome State Fault Refusal := .next (presentationEff s)

/-- HANDLING_END (R515, R516): the held sources are presented together on the next cycle. -/
def handlingEndEff (s : State) : State :=
  if s.win.busy && !s.win.heartLost then
    s.modWin fun w =>
      { w with busy := false, handling := [], nmi := Vector.replicate 3 false, now := w.now ++ w.held, held := [] }
  else s

/-- HANDLING_END (R515). -/
def execHandlingEnd (s : State) : Host.Outcome State Fault Refusal := .next (handlingEndEff s)

/-! ### Boundary: takeovers, halts, degraded bits, re-raises (R44 to R46, R516, R519, R524, R526) -/

/-- Spares take over at a boundary (R519): Threshers, SRAM banks and Gleaner groups. -/
def State.spareTakeover (s : State) : State :=
  let s := s.each s.win.thrPend fun s k =>
    match s.win.thrSpare with
    | t :: rest => (s.modWin fun w => { w with thrSlots := vmod w.thrSlots k fun _ => some t, thrSpare := rest }).degrade 0
    | [] => s.degrade 1
  let s := s.modWin fun w => { w with thrPend := [] }
  let banks := s.win.bankPend
  let s := s.modWin fun w => { w with bankMap := w.bankMap ++ banks, bankPend := [] }
  let s := if banks.isEmpty then s else s.degrade 4
  let groups := !s.win.groupPend.isEmpty
  let s := s.groupTakeover
  if groups then s.degrade 8 else s

/-- Pairs that have reloaded return: into a halted role, else as standby (R45). -/
def State.pairReturn (s : State) (p : Nat) : State :=
  let x := 211 + p
  let r := s.stew.halted.head?
  let s := s.modPair p fun q => { q with fenced := false, blocked := false, ret := false, role := r.getD 3 }
  let s : State := { s with stew := { s.stew with halted := s.stew.halted.tail } }
  let s := s.modWin fun w => { w with fenced := w.fenced.filter fun k => k != x }
  let v := s.valN Obj.win_src_state x
  s.setN Obj.win_src_state ((if v.testBit 2 then v - 4 else v : Nat) : Int) x

/-- The roles move at a boundary (R44, R45). -/
def State.roleTakeover (s : State) : State :=
  let s := match s.stew.takeover, s.roleAt 3 with
    | r :: _, some p =>
      let s := match s.roleAt r with
        | some old => s.modPair old fun q => { q with role := 0 }
        | none => s
      let s := s.modPair p fun q => { q with role := r }
      ({ s with stew := { s.stew with takeover := [] } } : State)
    | r :: _, none => ({ s with stew := { s.stew with takeover := [] } } : State).haltRole r
    | [], _ => s
  let s := s.each s.stew.halted fun s r =>
    match s.roleAt r with
    | some p => if (s.pair p).fenced then s.modPair p fun q => { q with role := 0 } else s
    | none => s
  s.each ((List.range 3).filter fun p => (s.pair p).ret) State.pairReturn

/-- A pair is standby, or is loading and counts as the standby that it is becoming (R524). -/
def State.standby (s : State) : Bool := (s.roleAt 3).isSome || (List.range 3).any fun p => (s.pair p).loading && !(s.pair p).fenced

/-- The degraded bits of a boundary (R524). -/
def State.putDegraded (s : State) : State :=
  let keep := (s.win.degraded ||| s.win.degPend) % 2 ^ 14
  let keep := keep - (keep &&& (2 ^ 10 + 2 ^ 11))
  let keeper := s.tc.k0.failed || s.tc.k1.failed || s.tc.k2.failed
  let bit (c : Bool) (k : Nat) : Nat := if c then 2 ^ k else 0
  let started := decide (9 ≤ s.boot.reached) && s.boot.reached != 0xFF
  let stopped := s.valN Obj.install_state == 6 && decide (s.win.thrSpare.length < 2)
  let v := keep ||| bit stopped 0 ||| bit (started && !s.standby) 10 ||| bit (!s.stew.halted.isEmpty) 11 ||| bit (s.valN Obj.dpll_dco_spare == 1) 12 ||| bit keeper 13
  s.modWin fun w => { w with degraded := v, degPend := 0 }

/-- `win.spares` (R524). -/
def State.viewSpares (s : State) : Nat :=
  let w := s.win
  let thr := w.thrSpare.length + s.boot.install.loading.length - w.thrPend.length
  let bit (c : Bool) (k : Nat) : Nat := if c then 2 ^ k else 0
  min 3 thr + 4 * w.aesSpare.length + 16 * w.shaSpare.length +
    bit (w.sramSpare.contains 64) 5 + bit (w.sramSpare.contains 65) 6 + bit (w.sramSpare.contains 66) 7 + bit (w.sramSpare.contains 67) 8 +
    bit (!s.gnss.spareUsed) 9 + bit s.standby 10 + bit w.dcoSpare 11

/-- Fences whose handling has ended complete at the boundary at the latest, since their spares take over there (R44, R519). -/
def State.fencesDue (s : State) : State :=
  if s.win.busy then s else s.each (s.win.fencing ++ s.win.resetting) State.completeFence

/-- A CONDITION source whose raise was lost is raised again at each boundary while its condition holds (R516). -/
def State.conditionReraise (s : State) : State :=
  s.each ((List.range 320).filter fun x => (vat s.win.srcs x {}).lostCond && (vat s.win.srcs x {}).cond) fun s x => s.raise x

/-- FAULT_ALIVE at a boundary (R526, R528). -/
def State.faultAliveUpdate (s : State) : State :=
  if s.win.pinLatch || s.win.heartLost then s.modWin fun w => { w with aliveStop := true }
  else
    let s := s.modWin fun w => { w with aliveStop := false }
    { s with elec := { s.elec with faultAlive := s.tc.tickNo / 8 % 2 == 0 } }

/-- Winnow's part of a tick boundary. -/
def State.winTick (s : State) : State :=
  let s := s.conditionReraise
  let s := if s.tc.tickNo = 0 then s.modWin fun w => { w with ce := Vector.replicate 68 0, ceRaised := Vector.replicate 68 false } else s
  s.faultAliveUpdate.putDegraded.putPins

/-! ### Steward pairs, heartbeat, clears (R45, R518, R525, R530, R531) -/

/-- PAIR_RELOAD_DONE (R45): a fenced pair has reloaded; when it passes, its fence ends at the next boundary. -/
def pairReloadDoneEff (p : Nat) (ok : Bool) (s : State) : State :=
  let q := s.pair p
  if q.fenced && !q.dead && !s.win.fencing.contains (211 + p) then
    s.modPair p fun q => { q with ret := ok, dead := !ok }
  else s

/-- PAIR_RELOAD_DONE (R45). -/
def execPairReloadDone (p : Fin 3) (ok : Bool) (s : State) : Host.Outcome State Fault Refusal := .next (pairReloadDoneEff p.val ok s)

/-- HEARTBEAT_WRITE (R531). -/
def heartbeatWriteEff (s : State) : State := if s.win.heartLost then s else s.modWin fun w => { w with beatAt := s.tc.cyc }

/-- HEARTBEAT_WRITE (R531). -/
def execHeartbeatWrite (s : State) : Host.Outcome State Fault Refusal := .next (heartbeatWriteEff s)

/-- The limit of the heartbeat watchdog, ns (R531); on the internal oscillator, 10 % fast at most (R601). -/
def State.beatLimit (s : State) : Nat := if s.elec.xoOk then 2000000 else 1820000

/-- REEVE_HEARTBEAT (R531): the limit has passed without a write; what was raised and not presented is lost or stays held (R516). -/
def reeveHeartbeatEff (s : State) : State :=
  if !s.win.heartLost && !s.boot.inReset && s.passed s.win.beatAt s.beatLimit then
    let now := s.win.now
    let s := s.modWin fun w => { w with heartLost := true, pinLatch := true, aliveStop := true, now := [] }
    let s := (s.srcBits 311 8).modSrc 311 fun r => { r with active := true, cond := true }
    (s.each now fun s e => s.raise e.1 e.2).putPins
  else s

/-- REEVE_HEARTBEAT (R531). -/
def execReeveHeartbeat (s : State) : Host.Outcome State Fault Refusal := .next (reeveHeartbeatEff s)

/-- A committed write of `win.clear` (R516, R518). -/
def State.commitWinClear (s : State) (v : Nat) : State :=
  let s := if v.testBit 0 then (s.modWin fun w => { w with first := none }).setN Obj.win_first_since 0 else s
  let s := if v.testBit 1 then
      (s.setN Obj.win_lost 0).setN Obj.win_status ((s.valN Obj.win_status / 2 * 2 : Nat) : Int)
    else s
  s.setN Obj.win_clear 2

/-- A committed write of 1 to `win.pin_clear` (R530). -/
def State.commitPinClear (s : State) : State :=
  if s.win.heartLost then s.setN Obj.win_pin_clear 3
  else ((s.modWin fun w => { w with pinLatch := false }).setN Obj.win_pin_clear 2).putPins

/-- An RC read of `win.int_next` (R525): the lowest source with INT pending, whose bit is cleared; 0xFFFF for none. -/
def State.intNext (s : State) : State × Nat :=
  match (List.range 320).find? fun k => (s.valN Obj.win_src_state k).testBit 1 with
  | some k => ((s.setN Obj.win_src_state ((s.valN Obj.win_src_state k - 2 : Nat) : Int) k).putPins, k)
  | none => (s, 0xFFFF)

/-- WIN_INT_NEXT (R525). -/
def winIntNextEff (s : State) : State :=
  let (s, k) := s.intNext
  { s with gran := { s.gran with lastRead := [(Obj.win_int_next.key 0 0, beBytes 2 k)] } }

/-- WIN_INT_NEXT (R525). -/
def execWinIntNext (s : State) : Host.Outcome State Fault Refusal := .next (winIntNextEff s)

end Sys2Proof.Machine
end

