-- ==== Sys2Proof/Machine/Elec.lean ====
section
/-! DEFINITION. The rail monitors, XO_IN and the die sensors (19_electrical.md R594, R595, R600, R601, R618, R619). -/
namespace Sys2Proof.Machine

/-- Supplies, temperatures and pins changed. -/
def State.modElec (s : State) (f : Elec → Elec) : State := { s with elec := f s.elec }

/-- One rail compared with its operating range: the time since which it has been outside (R595). -/
def railMark (now v : Nat) (r : Nat) (since : Option Nat) : Option Nat :=
  if (railRange r).1 ≤ v ∧ v ≤ (railRange r).2 then none
  else match since with
    | some t => some t
    | none => some now

/-- A rail has been outside its range for at least 1 µs (R595). -/
def State.railBad (s : State) (r : Nat) : Bool :=
  match vat s.elec.railSince r none with
  | some t => decide (t + 1000 ≤ s.elec.clockNs)
  | none => false

/-- RAIL_MONITOR (R595): the samples of the eight rails, 0.1 mV, 100 ns after the last ones. While the part is held in reset, Winnow
raises nothing (R557). -/
def railMonitorEff (v : List Nat) (s : State) : State :=
  let s := s.modElec fun e =>
    let now := e.clockNs + 100
    let x (r : Nat) : Nat := v.getD r (vat e.rail r 0)
    { e with
      rail := Vector.ofFn fun r => x r.val
      railSince := Vector.ofFn fun r => railMark now (x r.val) r.val (vat e.railSince r.val none)
      lowSince := Vector.ofFn fun r => if x r.val < supplyThreshold r.val then some ((vat e.lowSince r.val none).getD now) else none
      clockNs := now
      railSum := Vector.ofFn fun r => vat e.railSum r.val 0 + x r.val
      railN := e.railN + 1 }
  let s := if s.boot.inReset then s else s.each (List.range 8) fun s r => s.condSet (288 + r) (s.railBad r)
  s.putPins

/-- RAIL_MONITOR (R595). -/
def execRailMonitor (v : List Nat) (s : State) : Host.Outcome State Fault Refusal := .next (railMonitorEff v s)

/-- `die.rail` at a tick boundary: the mean of the tick's samples (R619). -/
def State.railTick (s : State) : State :=
  if s.elec.railN = 0 then s
  else
    let s := s.each (List.range 8) fun s r =>
      s.setN Obj.die_rail (roundDiv ((vat s.elec.railSum r 0 : Nat) : Int) s.elec.railN) r
    s.modElec fun e => { e with railSum := Vector.replicate 8 0, railN := 0 }

/-- A frequency of XO_IN, Hz, lies within 50 MHz ± 100 ppm (R605); 0 stands for an absent clock. -/
def xoInRange (hz : Nat) : Bool := decide (49995000 ≤ hz) && decide (hz ≤ 50005000)

/-- XO_FAULT (R601, R605): XO_IN is measured at so many Hz. Absent or outside 50 MHz ± 100 ppm it is a fault, and the heartbeat watchdog
counts the internal oscillator. -/
def xoFaultEff (hz : Nat) (s : State) : State :=
  if xoInRange hz then s
  else
    let s := s.modElec fun e => { e with xoOk := false }
    if s.boot.inReset then s else s.condBegin 316

/-- XO_FAULT (R601). -/
def execXoFault (s : State) (hz : Nat := 0) : Host.Outcome State Fault Refusal := .next (xoFaultEff hz s)

/-- XO_IN_RETURN (R601, R605): XO_IN is measured at so many Hz. Back in range, XO_FAULT stops being active. -/
def xoInReturnEff (hz : Nat) (s : State) : State :=
  if xoInRange hz then (s.modElec fun e => { e with xoOk := true }).condEnd 316 else s

/-- XO_IN_RETURN (R601). -/
def execXoInReturn (s : State) (hz : Nat := 50000000) : Host.Outcome State Fault Refusal := .next (xoInReturnEff hz s)

/-- DIE_TEMP_SAMPLE (R619): the samples of the twelve sensors, 0.01 °C, 1 ms after the last ones. A sample stands in `die.temp` until the next:
the mean of a tick within which none falls (log entry 55). TEMP_HIGH lies above 105 °C and TEMP_CRIT above 115 °C (R509).
Sensor 8 is the sensor nearest FLY_10M (R163). -/
def dieTempSampleEff (t : List Int) (s : State) : State :=
  if s.boot.inReset then s
  else
    let s := s.each (List.range 12) fun s n =>
      match t[n]? with
      | none => s
      | some v =>
        let s := s.setN Obj.die_temp v n
        let s := if s.valI Obj.die_temp_max < v then s.setN Obj.die_temp_max v else s
        s.condSet (296 + n) (decide (10500 < v))
    let s := s.condSet 308 ((List.range 12).any fun n => decide (11500 < s.valI Obj.die_temp n))
    match t[8]? with
    | none => s
    | some v => { s with hold := { s.hold with temps := s.hold.temps ++ [v] } }

/-- DIE_TEMP_SAMPLE (R619). -/
def execDieTempSample (t : List Int) (s : State) : Host.Outcome State Fault Refusal := .next (dieTempSampleEff t s)

end Sys2Proof.Machine
end

