-- ==== Sys2Proof/Machine/Ledger.lean ====
section
/-! DEFINITION. The start ledger, the bank table and the header of a Goldel image (18_start_update_ageing.md R562 to R565, R569 to R573). -/
namespace Sys2Proof.Machine

/-! ### Bits of the plan (R562) -/

/-- ALT_BANK. -/
def planAltBank : Nat := 0
/-- SPARE_DCO. -/
def planSpareDco : Nat := 1
/-- STORED_TDC. -/
def planStoredTdc : Nat := 2
/-- DEFAULTS. -/
def planDefaults : Nat := 3
/-- NO_GLEANER. -/
def planNoGleaner : Nat := 4
/-- PORTS_HELD. -/
def planPortsHeld : Nat := 5
/-- BANKS_LOST. -/
def planBanksLost : Nat := 6
/-- SAFE. -/
def planSafe : Nat := 7
/-- STRAP_CONFLICT. -/
def planStrap : Nat := 8

/-- A bit of a plan set. -/
def planAdd (p bit : Nat) : Nat := p ||| 2 ^ bit

/-- A bit of a plan cleared. -/
def planDrop (p bit : Nat) : Nat := if p.testBit bit then p - 2 ^ bit else p

/-! ### Bank table (R571, R572) -/

/-- The newest good record of a bank. -/
def Boot.newest (b : Boot) (k : Nat) : Option BankRec := b.bankRecs.find? fun r => r.good && r.bank == k

/-- The ACTIVE record with the highest seq (R572). -/
def Boot.activeRec (b : Boot) : Option BankRec :=
  b.bankRecs.foldl (fun a r =>
    if r.good && r.state == 4 then
      match a with
      | some x => if x.seq < r.seq then some r else a
      | none => some r
    else a) none

/-- The bank that the bank table selects (R572); A where it lists no ACTIVE record. -/
def Boot.tableBank (b : Boot) : Nat := (b.activeRec.map fun r => r.bank).getD 0

/-- The other bank is the fallback: its newest record is ACTIVE (R572). -/
def Boot.hasFallback (b : Boot) : Bool :=
  match b.newest (1 - b.tableBank) with
  | some r => r.state == 4
  | none => false

/-- `boot.bank_state` (R589): 0 EMPTY, 1 INVALID, 2 WRITING, 3 STAGED, 4 ACTIVE, 5 FALLBACK. -/
def State.viewBankState (s : State) (k : Nat) : Nat :=
  match s.boot.newest k with
  | none => 0
  | some r => if r.state = 4 then (if s.boot.tableBank = k then 4 else 5) else r.state

/-- `boot.bank_version` (R589). -/
def State.viewBankVersion (s : State) (k : Nat) : Nat := ((s.boot.newest k).map fun r => r.version).getD 0

/-! ### Ledger (R562) -/

/-- The detail field: an install in progress has its step in bits 31 to 24. -/
def State.ledgerDetail (s : State) : Nat :=
  let st := s.valN Obj.install_step
  if st = 0 then s.boot.detail else st * 2 ^ 24

/-- The duration field, ms, up to now. -/
def State.ledgerMs (s : State) : Nat :=
  s.boot.duration + (if s.boot.serving || s.boot.outcome == 4 then s.nsSince s.boot.serviceFrom / oneMs else 0)

/-- The record of the present start (R562). -/
def State.makeLedger (s : State) : Bytes :=
  let b := s.boot
  let body := beBytes 4 b.starts ++ beBytes 1 b.cause ++ beBytes 1 b.reached ++ beBytes 1 b.outcome ++ beBytes 1 b.failedStep ++
    beBytes 2 b.plan ++ beBytes 1 b.bank ++ beBytes 1 b.streak ++ beBytes 4 s.ledgerDetail ++ beBytes 4 s.ledgerMs ++
    beBytes 4 (s.viewBankVersion b.bank) ++ zeros 4
  body ++ beBytes 4 (Crypto.crc32 body)

/-- The always-on ledger registers take the present record (R562). -/
def State.putLedger (s : State) : State := s.modBoot fun b => { b with ledger := s.makeLedger, ledgerAon := true }

/-- The present record is also appended to the ledger region of the flash (R562, R570). -/
def State.logLedger (s : State) : State :=
  let s := s.putLedger
  s.modBoot fun b => { b with history := pushBlocks 2048 (fun l => l.take 1) b.ledger b.history }

/-- `boot.history` (R589): the newest flash record of the start `k` starts back; zeros where there is none. -/
def State.viewHistory (s : State) (k : Nat) : Bytes :=
  if s.boot.starts < k then zeros 32
  else (s.boot.history.find? fun r => field r 0 4 == s.boot.starts - k).getD (zeros 32)

/-- `boot.state` (R589): 0 STARTING, 1 IN_SERVICE, 2 STABLE, 3 SAFE. -/
def State.viewBootState (s : State) : Nat :=
  match s.boot.outcome with
  | 1 => 1
  | 2 => 2
  | 4 => 3
  | _ => 0

/-! ### Image header (R573) -/

/-- Version of an image. -/
def imgVersion (b : Bytes) : Nat := field b 8 4
/-- Oldest running version that may share the engines. -/
def imgCompat (b : Bytes) : Nat := field b 12 4
/-- Security version of an image. -/
def imgSecver (b : Bytes) : Nat := field b 16 4
/-- Count of component entries. -/
def imgCount (b : Bytes) : Nat := field b 24 2

/-- A component: type, and its octets. -/
def imgComp (b : Bytes) (k : Nat) : Nat × Bytes :=
  let e := slice b (64 + 16 * k) 16
  (octet e 0, slice b (field e 4 4) (field e 8 4))

/-- Component entry `k` is laid out as R573, lies inside the image and matches its CRC (R575). -/
def imgCompOk (b : Bytes) (k : Nat) : Bool :=
  let e := slice b (64 + 16 * k) 16
  let off := field e 4 4
  let len := field e 8 4
  let t := octet e 0
  field e 1 3 == 0 && decide (off + len ≤ b.length) && Crypto.crc32 (slice b off len) == field e 12 4 &&
    ((decide (1 ≤ t) && decide (t ≤ 4)) || decide (0x80 ≤ t))

/-- The check of an image (R575): 0 where it passes, else the code of `install.error` (R589). An install also requires
compat_min to be at or below the running version. -/
def State.imageCheck (s : State) (b : Bytes) (install : Bool) : Nat :=
  let n := imgCount b
  let types := (List.range n).map fun k => (imgComp b k).1
  let key := octet b 6
  if field b 0 4 != 0x474C444C || field b 4 2 != 1 || decide (3 < key) || decide (3 < octet b 7) || field b 20 4 != b.length ||
      decide (8388608 < b.length) || decide (n < 4) || decide (8 < n) || slice b 26 38 != zeros 38 ||
      !((List.range n).all fun k => imgCompOk b k) || !([1, 2, 3, 4].all fun t => types.count t == 1) then 2
  else if !(octet b 7).testBit (s.dev.part - 1) then 3
  else if s.dev.revoked.testBit key then 4
  else if imgSecver b < s.valN Obj.boot_min_secver then 5
  else if !Crypto.ecdsa384 (s.dev.romKeys.getD key []) (b.take (b.length - 96)) (b.drop (b.length - 96)) then 6
  else if install && decide (s.valN Obj.id_firmware < imgCompat b) then 7
  else 0

/-- The default windows in a WINDOWS component: master by master, 16 windows of 16 octets (log entry 31). -/
def imgWindows (b : Bytes) : List (Nat × Bytes) :=
  match ((List.range (imgCount b)).map (imgComp b)).find? fun c => c.1 == 4 with
  | none => []
  | some c => (List.range 160).map fun k => (k, padTo 16 (slice c.2 (16 * k) 16))

end Sys2Proof.Machine
end

