-- ==== Sys2Proof/Machine/Operands.lean ====
section
/-! DEFINITION. The operands of accesses to the dictionary: which object an index and a subindex name (R471, R622), how a value is
encoded (R15), and the first five checks of a write (R478), each with its status (R486). -/
namespace Sys2Proof.Machine

/-! ### Status codes (R486) -/

/-- OK. -/
def stOk : Nat := 0
/-- PENDING. -/
def stPending : Nat := 1
/-- DONE. -/
def stDone : Nat := 2
/-- SUPERSEDED. -/
def stSuperseded : Nat := 3
/-- ABSENT. -/
def stAbsent : Nat := 0x10
/-- ACCESS. -/
def stAccess : Nat := 0x11
/-- LEVEL. -/
def stLevel : Nat := 0x12
/-- TYPE. -/
def stType : Nat := 0x13
/-- RANGE. -/
def stRange : Nat := 0x14
/-- CONFLICT. -/
def stConflict : Nat := 0x15
/-- NOT_BUNDLABLE. -/
def stNotBundlable : Nat := 0x16
/-- BUSY. -/
def stBusy : Nat := 0x18
/-- STALE. -/
def stStale : Nat := 0x19
/-- MALFORMED. -/
def stMalformed : Nat := 0x1A
/-- UNKNOWN_OP. -/
def stUnknownOp : Nat := 0x1B
/-- UNKNOWN_HANDLE. -/
def stUnknownHandle : Nat := 0x1C
/-- STORE_FAILED. -/
def stStoreFailed : Nat := 0x20

/-! ### Objects -/

/-- Every row of the object tables. -/
def Obj.all : List Row := Obj.rowsA ++ Obj.rowsB ++ Obj.rowsC ++ Obj.rowsD ++ Obj.rowsE ++ Obj.rowsF

/-- What an index and a subindex name: element (i, j) of a row, or its in-effect twin (R471). -/
structure ObjRef where
  row : Row
  i : Nat
  j : Nat
  twin : Bool := false

/-- The key of an index and a subindex. -/
def keyOf (index sub : Nat) : Nat := index * 256 + sub

/-- The object at a key, if a chapter defines one (R622). -/
def objAt (k : Nat) : Option ObjRef :=
  match Obj.all.findSome? fun r => (r.elem k).map fun e => ({ row := r, i := e.1, j := e.2 } : ObjRef) with
  | some o => some o
  | none =>
    Obj.all.findSome? fun r =>
      if r.twin = 0 ∨ k < r.twin then none
      else (r.elem (k - r.twin)).map fun e => ({ row := r, i := e.1, j := e.2, twin := true } : ObjRef)

/-- The configured key of an object. -/
def ObjRef.key (o : ObjRef) : Nat := o.row.key o.i o.j

/-- Rows that HP does not have (R123, R349, R362): their element 8 is absent. -/
def hpAbsent (r : Row) : Bool :=
  r.base == 0x6120 || r.base == 0x610A || r.base == 0x6106 || r.base == 0x610D || r.base == 0x610C || r.base == 0x6181

/-- An object is absent on this part, in this role or in RECOVERY (R2, R123, R349, R362, R470, R568). -/
def State.absent (s : State) (o : ObjRef) : Bool :=
  let index := o.key / 256
  (s.dev.part == 2 && decide (0x5000 ≤ index) && decide (index ≤ 0x5FFF)) ||
    (!s.dev.manager && decide (0x7820 ≤ index) && decide (index ≤ 0x7823)) ||
    (hpAbsent o.row && o.i == 8) ||
    (s.boot.recovery && !(decide (0x1000 ≤ index) && decide (index ≤ 0x10FF)) &&
      !(decide (0x9800 ≤ index) && decide (index ≤ 0x98FF)))

/-- The object at an index and a subindex that is present, if any. -/
def State.objPresent (s : State) (index sub : Nat) : Option ObjRef :=
  match objAt (keyOf index sub) with
  | some o => if decide (sub < 256) && !s.absent o then some o else none
  | none => none

/-- Rows that are RO on S8 to S23 (R160). -/
def slotFixed (r : Row) : Bool := decide (0x2802 ≤ r.base) && decide (r.base ≤ 0x2806)

/-- The access code permits a write (R16, R160, R252, R470, R471). On DPLL-T, `dpll.ref`, `dpll.dco_freq`, `dpll.hitless` and
`dpll.realign` refuse writes; on a worker `crem.system_id` does. -/
def State.writable (s : State) (o : ObjRef) : Bool :=
  !o.twin && (o.row.acc == .rw || o.row.acc == .wo || o.row.acc == .rwx) &&
    !(slotFixed o.row && decide (8 ≤ o.i)) &&
    !((o.row.base == 0x3000 || o.row.base == 0x3001 || o.row.base == 0x300A || o.row.base == 0x300D) && o.i == 0) &&
    !(o.row.base == 0x7803 && !s.dev.manager)

/-- The level that a write of an object needs: 3 Keeper, 2 Operator (R19). -/
def ObjRef.writeLevel (o : ObjRef) : Nat :=
  match o.row.ty with
  | .key _ => 3
  | _ => if o.row.keeper then 3 else 2

/-- The level that a read of an object needs (R19): an RC read changes state. -/
def ObjRef.readLevel (o : ObjRef) : Nat := if o.row.acc == .rc && !o.twin then 2 else 1

/-! ### Values -/

/-- A value as octets of its type (R6, R15); a KEY reads as zeros (R472). -/
def encodeVal (t : Ty) (v : Val) : Bytes :=
  match t with
  | .octets _ _ => v.bytes
  | .key k => zeros k
  | t =>
    match t.width with
    | some (w, _) => intBytes w v.num
    | none => []

/-- The value that octets hold for a type, none where the size or the encoding is wrong (R15). -/
def decodeVal (t : Ty) (b : Bytes) : Option Val :=
  match t with
  | .octets lo hi => if lo ≤ b.length ∧ b.length ≤ hi then some (.o b) else none
  | .key k => if b.length = k then some (.o b) else none
  | .bool => if b.length = 1 ∧ beNat b ≤ 1 then some (.n (beNat b)) else none
  | t =>
    match t.width with
    | some (w, true) => if b.length = w then some (.n (beInt b)) else none
    | some (w, false) => if b.length = w then some (.n (beNat b)) else none
    | none => none

/-- A value lies in a range (check 5 of R478). -/
def Rng.ok (r : Rng) (i j : Nat) (v : Val) : Bool :=
  match r with
  | .any => true
  | .within lo hi => decide (lo ≤ v.num) && decide (v.num ≤ hi)
  | .among cs => cs.contains v.num
  | .withinOr lo hi cs => (decide (lo ≤ v.num) && decide (v.num ≤ hi)) || cs.contains v.num
  | .special f => f i j v

/-- Conditions of check 5 that depend on the part: R8 for every TIME128, R139 (S8 on the OT9600-WX), R218 (SyncE only on DPLL-B),
R243 (DPLL-D on the OT9600-MX) and
R444 (a manager has no upstream link). -/
def State.valueOk (s : State) (o : ObjRef) (v : Val) : Bool :=
  let x := v.num
  (o.row.ty != .time128 || time128Ok x.toNat) &&
    !((o.row.base == 0x2060 || o.row.base == 0x2064) && s.dev.part == 2 && x == 8) &&
    !(o.row.base == 0x3000 && o.i != 2 && x != 0) &&
    !(o.row.base == 0x7810 && s.dev.manager && decide (1 < x)) &&
    !(o.row.base == 0x3001 && o.i == 4 && s.dev.part == 1 && x % 80000000000 != 0) &&
    !(o.row.base == 0x300A && o.i == 4 && s.dev.part == 1 && x != 0)

/-- A listed code that an element refuses for itself: `mac.mode` of HP (R316) and KISS for PTP in `pol.action` (R371). -/
def enumRange (o : ObjRef) (v : Val) : Bool := (o.row.base == 0x6100 && decide (v.num ≤ 5)) || (o.row.base == 0x6A05 && decide (v.num ≤ 1))

/-- The first five checks of R478 on one write: the object and its value, or the status of the first check that fails. -/
def State.checkWrite (s : State) (level index sub : Nat) (b : Bytes) : Except Nat (ObjRef × Val) :=
  match s.objPresent index sub with
  | none => .error stAbsent
  | some o =>
    if !s.writable o then .error stAccess
    else if level < o.writeLevel then .error stLevel
    else
      match decodeVal o.row.ty b with
      | none => .error stType
      | some v =>
        if o.row.ty == .enum && !o.row.rng.ok o.i o.j v && !enumRange o v then .error stType
        else if o.row.rng.ok o.i o.j v && s.valueOk o v then .ok (o, v)
        else .error stRange

end Sys2Proof.Machine
end

