-- ==== Sys2Proof/Machine/Journal.lean ====
section
/-! DEFINITION. The flash journal (15_granary_atton.md R503 to R506): records, the ring of erase blocks, STORE, and the Gleaner's
record (R311). -/
namespace Sys2Proof.Machine

/-! ### Commit handles (R484) -/

/-- A new commit handle with its status and commit boundary; the outcomes of the last 4,096 are kept. -/
def State.newHandle (s : State) (r : HandleRec) : State × Nat :=
  let h := s.valN Obj.gran_handle + 1
  let s : State := { s with gran := { s.gran with handles := keepNew 4096 ((h, r) :: s.gran.handles) } }
  (s.setN Obj.gran_handle h, h)

/-- The outcome of a handle changed. -/
def State.setHandle (s : State) (h : Nat) (f : HandleRec → HandleRec) : State :=
  { s with gran := { s.gran with handles := s.gran.handles.map fun e => if e.1 = h then (e.1, f e.2) else e } }

/-- A handle takes a status; its boundary stays. -/
def State.endHandle (s : State) (h status : Nat) : State := s.setHandle h fun r => { r with status := status }

/-! ### Records (R504, R505) -/

/-- Octets that a record takes in the flash: head and payload, aligned to 16. -/
def JRecord.size (r : JRecord) : Nat := (16 + r.data.length + 15) / 16 * 16

/-- A record that the scan does not skip: it passes its CRC, and none that fails precedes it in its block (R505). -/
def Journal.usable (j : Journal) (r : JRecord) : Bool :=
  r.good && !(j.records.any fun q => q.block == r.block && !q.good && decide (q.off < r.off))

/-- The records of one kind of a dictionary generation, in the order written. -/
def Journal.ofGen (j : Journal) (g kind : Nat) : List JRecord := j.records.filter fun r => r.kind == kind && r.gen == g

/-- A dictionary generation is complete (R505). -/
def Journal.complete (j : Journal) (g : Nat) : Bool :=
  let data := j.ofGen g 2
  (data.all j.usable) && (j.ofGen g 1).all j.usable &&
    match j.ofGen g 3 with
    | e :: _ => j.usable e && slice e.data 14 32 == Crypto.sha256 (data.map fun r => r.data).flatten
    | [] => false

/-- The valid dictionary generation, 0 for none (R505). -/
def Journal.validGen (j : Journal) : Nat :=
  ((j.records.filter fun r => r.kind == 3).map fun r => r.gen).foldl (fun m g => if m < g && j.complete g then g else m) 0

/-- The newest complete UNIT record of a unit. -/
def Journal.unitRec (j : Journal) (u : Nat) : Option JRecord :=
  j.records.foldl (fun a r =>
    if r.kind == 0x10 && r.unit == u && j.usable r then
      match a with
      | some x => if x.gen < r.gen then some r else a
      | none => some r
    else a) none

/-- A record is live: it belongs to the valid generation or is the newest of its unit (R506). -/
def Journal.live (j : Journal) (valid : Nat) (r : JRecord) : Bool :=
  j.usable r && (if r.kind = 0x10 then j.unitRec r.unit == some r else r.gen == valid && valid != 0)

/-- Octets of live records: `store.used`. -/
def Journal.used (j : Journal) (valid : Nat) : Nat := ((j.records.filter (j.live valid)).map JRecord.size).sum

/-- The records of a block that is erased: those that are not live go, and live ones are copied to its beginning, one after the other
(R506, log entry 32). The result says how many octets they take. -/
def replaceLive (blk : Nat) (live : JRecord → Bool) : List JRecord → Nat → List JRecord × Nat
  | [], off => ([], off)
  | r :: t, off =>
    if r.block = blk then
      if live r then
        let p := replaceLive blk live t (off + r.size)
        ({ r with off := off } :: p.1, p.2)
      else replaceLive blk live t off
    else
      let p := replaceLive blk live t off
      (r :: p.1, p.2)

/-- A record appended at the write head, which enters the next erase block when the present one has no room; `fuel` bounds the
blocks entered. -/
def Journal.append (valid : Nat) (r : JRecord) : Nat → Journal → Journal
  | 0, j => j
  | fuel + 1, j =>
    let b := j.head / 65536
    let p := if j.head % 65536 = 0 then replaceLive b (j.live valid) j.records 0 else (j.records, j.head % 65536)
    if p.2 + r.size ≤ 65536 then
      { j with records := p.1 ++ [{ r with block := b, off := p.2 }], head := (b * 65536 + p.2 + r.size) % 4194304 }
    else Journal.append valid r fuel { j with records := p.1, head := (b + 1) % 64 * 65536 }

/-- The next generation number of a unit; unit 0 is the dictionary. -/
def Journal.nextGen (j : Journal) (u : Nat) : Nat := ((j.unitGen.find? fun e => e.1 == u).map Prod.snd).getD 0 + 1

/-- A generation number taken. -/
def Journal.takeGen (j : Journal) (u : Nat) : Journal :=
  { j with unitGen := (u, j.nextGen u) :: j.unitGen.filter fun e => e.1 != u }

/-- The journal changed; `store.used` follows (R507). -/
def State.putJournal (s : State) (j : Journal) : State :=
  let s : State := { s with gran := { s.gran with journal := j } }
  s.setN Obj.store_used ((j.used (s.valN Obj.store_generation) : Nat) : Int)

/-- A UNIT record appended (R504). -/
def State.appendUnit (s : State) (u : Nat) (data : Bytes) : State :=
  let j := s.gran.journal
  let r : JRecord := { kind := 0x10, unit := u, gen := j.nextGen u, data := data }
  s.putJournal (Journal.append (s.valN Obj.store_generation) r 65 (j.takeGen u))

/-! ### The Gleaner's record (R311) -/

/-- Satellites' data in a record: satellite, length and data of each (log entry 33). -/
def satsBytes (l : List (Nat × Bytes)) : Bytes := l.flatMap fun e => beBytes 2 e.1 ++ beBytes 2 e.2.length ++ e.2

/-- Satellites' data read back; `fuel` bounds the entries. -/
def satsOf : Nat → Bytes → List (Nat × Bytes)
  | 0, _ => []
  | fuel + 1, b => if b.length < 4 then [] else (field b 0 2, slice b 4 (field b 2 2)) :: satsOf fuel (b.drop (4 + field b 2 2))

/-- The payload of a UNIT record of unit 1 (log entry 33): survey, gain codes, last position, almanac and ephemerides, each behind its length. -/
def GnssRecord.payload (r : GnssRecord) : Bytes :=
  let pos := match r.pos with
    | some p => intBytes 8 p.1 ++ intBytes 8 p.2.1 ++ intBytes 8 p.2.2
    | none => []
  let alm := satsBytes r.alm
  beBytes 1 r.survey.length ++ r.survey ++ beBytes 1 r.gains.length ++ (r.gains.map (beBytes 1)).flatten ++ beBytes 1 pos.length ++ pos ++
    beBytes 4 alm.length ++ alm ++ satsBytes r.eph

/-- The record that a payload holds; an empty payload is no record. -/
def GnssRecord.parse (b : Bytes) : GnssRecord :=
  if b.isEmpty then {}
  else
    let n := octet b 0
    let m := octet b (1 + n)
    let p := b.drop (2 + n + m)
    let k := octet p 0
    let a := p.drop (1 + k)
    let l := field a 0 4
    { survey := slice b 1 n, gains := (slice b (2 + n) m).map fun x => x.toNat
      pos := if k = 24 then some (beInt (slice p 1 8), beInt (slice p 9 8), beInt (slice p 17 8)) else none
      alm := satsOf 65536 (slice a 4 l), eph := satsOf 65536 (a.drop (4 + l)), valid := true }

/-- GNSS_STORE_RECORD (R311): every `gnss.store_interval`, while SB runs. -/
def gnssStoreRecordEff (s : State) : State :=
  if s.gnssOn && s.roleRuns 2 && s.passed s.gnss.storeFrom (s.effN Obj.gnss_store_interval * oneSec) then
    let gains := s.gnss.bands.toList.map fun b => b.gainHist.headD 0
    let s := s.modGnss fun g =>
      { g with
        storeFrom := s.tc.cyc
        record := { alm := g.alm, eph := g.eph, pos := g.pos, survey := (s.val Obj.gnss_survey_result).bytes, gains := gains, valid := true } }
    s.appendUnit 1 s.gnss.record.payload
  else s

/-- GNSS_STORE_RECORD (R311). -/
def execGnssStoreRecord (s : State) : Host.Outcome State Fault Refusal := .next (gnssStoreRecordEff s)

/-- The stored record is discarded (R312): an empty UNIT record replaces it. -/
def State.dropGnssRecord (s : State) : State :=
  if (s.gran.journal.unitRec 1).isSome then s.appendUnit 1 [] else s

/-! ### STORE (R503 to R505) -/

/-- The elements of a row. -/
def Row.elems (r : Row) : List (Nat × Nat) := ((List.range r.n).map fun i => (List.range r.m).map fun j => (i, j)).flatten

/-- The octets of a stored value: a KEY is sealed with the storage key, under the nonce given (R504). -/
def State.storedOctets (s : State) (r : Row) (v : Val) (nonce : Bytes) : Bytes :=
  match r.ty with
  | .key _ => nonce ++ Crypto.gcmSeal s.dev.storageKey nonce [] v.bytes
  | t => encodeVal t v

/-- A write entry (R489). -/
def writeEntry (k : Nat) (v : Bytes) : Bytes := beBytes 2 (k / 256) ++ beBytes 1 (k % 256) ++ [0#8] ++ beBytes 2 v.length ++ v

/-- A row's type is a KEY. -/
def Row.isKey (r : Row) : Bool :=
  match r.ty with
  | .key _ => true
  | _ => false

/-- The entries that a STORE captures (R503): committed configured values with flag P, and the values of the RO P objects. Each KEY
draws a nonce of its own. -/
def State.captureEntries (s : State) : State × List Bytes :=
  (Obj.all.filter fun r => r.p).foldl (fun acc r =>
    r.elems.foldl (fun (a : State × List Bytes) e =>
      let (s, out) := a
      if s.absent { row := r, i := e.1, j := e.2 } then a
      else
        let (s, nonce) := if r.isKey then s.random 12 else (s, [])
        let v := if r.acc = .ro then s.val r e.1 e.2 else s.cfg r e.1 e.2
        (s, writeEntry (r.key e.1 e.2) (s.storedOctets r v nonce) :: out)) acc) (s, [])

/-- An entry joins the payload begun last, unless that would exceed 65,520 octets. A payload under way is its length and its entries,
newest first; the newest payload stands first. -/
def gatherEntry (acc : List (Nat × List Bytes)) (e : Bytes) : List (Nat × List Bytes) :=
  match acc with
  | [] => [(e.length, [e])]
  | (n, es) :: t => if n + e.length ≤ 65520 then (n + e.length, e :: es) :: t else (e.length, [e]) :: (n, es) :: t

/-- Entries, oldest first, gathered into payloads of at most 65,520 octets. -/
def gatherEntries (es : List Bytes) : List Bytes := ((es.foldl gatherEntry []).map fun p => p.2.reverse.flatten).reverse

/-- A STORE fails: its handle reads STORE_FAILED. -/
def State.storeFail (s : State) (h : Nat) : State :=
  ({ s with gran := { s.gran with store := none } } : State).setN Obj.store_state 3 |>.endHandle h stStoreFailed

/-- Octets that the records of a STORE take: BEGIN, DATA and END. -/
def storeSize (d : List Bytes) : Nat := 16 + (d.map fun p => (16 + p.length + 15) / 16 * 16).sum + 64

/-- The waiting STORE is captured after a boundary's commit, when none runs (R503). One larger than 1 MiB is refused (R505). -/
def State.captureStore (s : State) : State :=
  match s.gran.store, s.gran.storeNext with
  | none, some j =>
    let (s, es) := s.captureEntries
    let data := gatherEntries es.reverse
    let job : StoreJob := { handle := j.handle, captured := true, data := data, count := es.length, sec := s.tc.tickSec, tick := s.tc.tickNo }
    let s : State := { s with gran := { s.gran with store := some job, storeNext := none } }
    let s := s.setHandle j.handle fun h => { h with sec := s.tc.tickSec, tick := s.tc.tickNo }
    if 1048576 < storeSize data then s.storeFail j.handle else s.setN Obj.store_state 1
  | _, _ => s

/-- The records of a captured STORE: BEGIN, DATA, END (R504). -/
def StoreJob.records (j : StoreJob) (g : Nat) : List JRecord :=
  [{ kind := 1, gen := g }] ++ (j.data.map fun d => { kind := 2, gen := g, data := d }) ++
    [{ kind := 3, gen := g, data := beBytes 4 j.count ++ beBytes 8 j.sec ++ beBytes 2 j.tick ++ Crypto.sha256 j.data.flatten }]

/-- Records appended as those of a new dictionary generation; the valid generation stays live meanwhile (R506). -/
def Journal.appendAll (jr : Journal) (valid : Nat) (l : List JRecord) : Journal :=
  l.foldl (fun a r => Journal.append valid r 65 a) (jr.takeGen 0)

/-- The records of a captured STORE written (R504). -/
def State.writeStore (s : State) (j : StoreJob) : State :=
  let g := s.gran.journal.nextGen 0
  let a := s.gran.journal.appendAll (s.valN Obj.store_generation) (j.records g)
  let s := (s.setN Obj.store_generation g).setN Obj.store_last
    ((time128 ((j.sec : Int) * secU + (j.tick : Int) * tickU) : Nat) : Int)
  s.putJournal a

/-- A STORE whose writing fails leaves records of its generation behind, the last of which fails its CRC (R503, R505). How many were written before
it is free (log entry 32). -/
def State.breakStore (s : State) (j : StoreJob) : State :=
  let (s, b) := s.random 4
  let rs := j.records (s.gran.journal.nextGen 0)
  let n := beNat b % rs.length
  let torn := (rs.drop n).take 1 |>.map fun r => { r with good := false }
  s.putJournal (s.gran.journal.appendAll (s.valN Obj.store_generation) (rs.take n ++ torn))

/-- STORE_COMPLETE (R503): END is written and read back, or a program, erase or read-back fails. DEFAULTS leaves the plan (R565). -/
def storeCompleteEff (ok : Bool) (s : State) : State :=
  match s.gran.store with
  | none => s
  | some j =>
    if !j.captured then s
    else if ok then
      let s := s.writeStore j
      let s : State := { s with gran := { s.gran with store := none } }
      let s := (s.setN Obj.store_state 2).endHandle j.handle stDone
      if s.boot.plan.testBit planDefaults then (s.modBoot fun b => { b with plan := planDrop b.plan planDefaults }).putLedger else s
    else ((s.breakStore j).storeFail j.handle).raise 282

/-- STORE_COMPLETE (R503). -/
def execStoreComplete (ok : Bool) (s : State) : Host.Outcome State Fault Refusal := .next (storeCompleteEff ok s)

end Sys2Proof.Machine
end

