-- ==== Sys2Proof/Machine/Ageing.lean ====
section
/-! DEFINITION. Ageing (18_start_update_ageing.md R584 to R588): the monitors, their daily fits and the planned swaps. -/
namespace Sys2Proof.Machine

/-- The key of a monitor instance. -/
def ageKey (cls n : Nat) : Nat := cls * 256 + n

/-- A monitor instance. -/
def Boot.age (b : Boot) (k : Nat) : AgeInst := ((b.ages.find? fun e => e.1 == k).map Prod.snd).getD {}

/-- A monitor instance changed; the instances stay in the order of their keys. -/
def putAge (k : Nat) (x : AgeInst) : List (Nat × AgeInst) → List (Nat × AgeInst)
  | [] => [(k, x)]
  | (k', x') :: t => if k < k' then (k, x) :: (k', x') :: t else if k = k' then (k, x) :: t else (k', x') :: putAge k x t

/-- A monitor instance changed. -/
def State.modAge (s : State) (k : Nat) (f : AgeInst → AgeInst) : State :=
  s.modBoot fun b => { b with ages := putAge k (f (b.age k)) b.ages }

/-- Instances of each class (R584). -/
def ageCount : List (Nat × Nat) := [(1, 12), (2, 68), (3, 13), (4, 6)]

/-- The class and number of an instance exist. -/
def ageListed (cls n : Nat) : Bool := ageCount.any fun e => e.1 == cls && decide (n < e.2)

/-- The hottest die sensor, 0.01 °C. -/
def State.hottest (s : State) : Int := (List.range 12).foldl (fun m n => max m (s.valI Obj.die_temp n)) (s.valI Obj.die_temp 0)

/-- The factor of an equivalent hour at a junction temperature in 0.01 °C (R586). -/
def equivFactor (t : Int) : Rat := ratExp (8123.5 * (1 / 368.15 - 1 / ((t : Rat) / 100 + 273.15)))

/-- A sample joins the present day of its instance, and its object follows (R584, R589). -/
def State.ageValue (s : State) (cls n v : Nat) : State :=
  if !ageListed cls n then s
  else
    let s := s.modAge (ageKey cls n) fun x => { x with acc := x.acc ++ [(v : Rat)] }
    match cls with
    | 1 => s.setN Obj.age_ro_delay v n
    | 2 => s.setN Obj.age_sram_margin v n
    | 3 =>
      let low := min v ((vat s.boot.eyeLow n none).getD v)
      (s.modBoot fun b => { b with eyeLow := vmod b.eyeLow n fun _ => some low }).setN Obj.age_eye_min low n
    | 4 => s.setN Obj.age_dco_code v n
    | _ => s

/-- The number of the newest day: class 6 has a value for every day. -/
def Boot.ageDay (b : Boot) : Nat := (b.age (ageKey 6 0)).dayOf.headD 0

/-- A day ends: the mean of its samples is the daily value of each instance that has any (log entry 34). -/
def AgeInst.endDay (x : AgeInst) (day : Nat) : AgeInst :=
  if x.acc.isEmpty then x
  else { x with daily := keepNew 400 (x.acc.sum / x.acc.length :: x.daily), dayOf := keepNew 400 (day :: x.dayOf), acc := [] }

/-- The payload of a UNIT record of unit 2: equivalent hours, seconds powered and the newest daily values (log entry 34). -/
def Boot.agePayload (b : Boot) : Bytes :=
  beBytes 4 b.hours.floor.toNat ++ beBytes 8 b.powerSec ++
    (b.ages.map fun e => beBytes 2 e.1 ++ beBytes 2 (e.2.dayOf.headD 0) ++ beBytes 4 (e.2.daily.headD 0).floor.toNat).flatten

/-- SB appends the monitor values to the journal once each day (R586). -/
def State.keepAges (s : State) : State :=
  if !s.roleRuns 2 then s
  else
    let s := s.modBoot fun b => { b with kept := (b.hours, b.powerSec), agesKept := b.ages.map fun e => (e.1, { e.2 with warned := false, acc := [] }) }
    s.appendUnit 2 s.boot.agePayload

/-- The hour ends for the eye of a lane (R584): the mean of its samples while the link was up, if there were any. -/
def State.eyeHour (s : State) (l : Nat) : State :=
  let e := vat s.boot.eyes l (0, 0)
  let s := s.modBoot fun b => { b with eyes := vmod b.eyes l fun _ => (0, 0) }
  if e.2 = 0 then s else s.ageValue 3 l (roundDiv (e.1 : Nat) e.2).toNat

/-- Length of each schedule of R584, ns: a second, an hour, a day. -/
def agePeriod (k : Nat) : Nat := [oneSec, 3600 * oneSec, 86400 * oneSec].getD k 0

/-- AGE_SAMPLE (R584): the samples of a second, an hour or a day, once that time has passed since the last ones. -/
def ageSampleEff (a : AgeIn) (s : State) : State :=
  if s.boot.inReset || s.boot.halted || s.boot.recovery || !s.passed (vat s.boot.ageAt a.period.val 0) (agePeriod a.period.val) then s
  else
    let s := s.modBoot fun b => { b with ageAt := vmod b.ageAt a.period.val fun _ => s.tc.cyc }
    if a.period = 0 then
      let s := s.modBoot fun b => { b with hours := b.hours + equivFactor s.hottest / 3600, powerSec := b.powerSec + 1 }
      (s.setN Obj.age_equiv_hours s.boot.hours.floor).setN Obj.age_power_hours ((s.boot.powerSec / 3600 : Nat) : Int)
    else if a.period = 1 then
      let s := s.each (a.values.filter fun v => v.1 == 1) fun s v => s.ageValue v.1 v.2.1 v.2.2
      s.each (List.range 13) State.eyeHour
    else
      let s := s.each (a.values.filter fun v => v.1 == 4) fun s v => s.ageValue v.1 v.2.1 v.2.2
      let s := s.modAge (ageKey 6 0) fun x => { x with acc := [s.boot.hours] }
      let day := s.boot.ageDay + 1
      (s.modBoot fun b => { b with ages := b.ages.map fun e => (e.1, e.2.endDay day) }).keepAges

/-- AGE_SAMPLE (R584). -/
def execAgeSample (a : AgeIn) (s : State) : Host.Outcome State Fault Refusal := .next (ageSampleEff a s)

/-! ### Fit (R585, R587, R588) -/

/-- No prediction. -/
def ageNone : Nat := 0xFFFFFFFF

/-- A prediction in whole hours. -/
def ageHours (h : Rat) : Nat := if h < 0 then 0 else min h.floor.toNat ageNone

/-- The daily values of the last `days` days: day and value. -/
def AgeInst.window (x : AgeInst) (now days : Nat) : List (Nat × Rat) :=
  (x.dayOf.zip x.daily).filter fun e => decide (now < e.1 + days)

/-- P of classes 1 to 4 (R585): the least-squares line over the window reaches the limit. -/
def ageLine (pts : List (Nat × Rat)) (now : Nat) (limit : Rat) (rising : Bool) : Nat :=
  let n : Rat := pts.length
  let mx := sumOf pts (fun e => (e.1 : Rat)) / n
  let my := sumOf pts (fun e => e.2) / n
  let sxx := sumOf pts fun e => ((e.1 : Rat) - mx) * ((e.1 : Rat) - mx)
  let sxy := sumOf pts fun e => ((e.1 : Rat) - mx) * (e.2 - my)
  if pts.length < 14 ∨ sxx = 0 then ageNone
  else
    let b := sxy / sxx
    if (rising ∧ b ≤ 0) ∨ (!rising ∧ 0 ≤ b) then ageNone
    else ageHours ((mx + (limit - my) / b - (now : Rat)) * 24)

/-- Limit of a class in the units of its objects, and whether the value rises toward it (R584). -/
def ageLimit (cls : Nat) : Rat × Bool :=
  match cls with
  | 1 => (1000, true)
  | 2 => (250, false)
  | 3 => (150, false)
  | _ => (8500, true)

/-- P of an instance of classes 1 to 4. -/
def State.agePred (s : State) (cls n : Nat) : Nat :=
  let x := s.boot.age (ageKey cls n)
  let now := s.boot.ageDay
  ageLine (x.window now (s.effN Obj.age_fit_days)) now (ageLimit cls).1 (ageLimit cls).2

/-- P of class 5 (R585): the remaining re-centring budget at the learned drift, while the flywheel model is VALID. -/
def State.flyPred (s : State) : Nat :=
  let perHour := ratAbs (freqRat (ratFreq (s.hold.fly.d * dayS))) / 24
  let left := freqRat (s.effI Obj.fly_recentre_range) - ratAbs (freqRat (s.valI Obj.fly_recentre_used))
  if s.hold.fly.state != 2 || perHour == 0 then ageNone else ageHours (left / perHour)

/-- P of class 6 (R585): the remaining equivalent hours at their mean rate over the fit window. -/
def State.tempPred (s : State) : Nat :=
  let w := (s.boot.age (ageKey 6 0)).window s.boot.ageDay (s.effN Obj.age_fit_days)
  match w, w.getLast? with
  | new :: _, some old =>
    let rate := (new.2 - old.2) / (24 * ((new.1 : Rat) - old.1))
    if new.1 = old.1 ∨ rate ≤ 0 then ageNone else ageHours ((175200 - s.boot.hours) / rate)
  | _, _ => ageNone

/-- An instance has a spare that is unused (R584): the bank's group spare, or the spare DCO of DPLL-T for the active one. -/
def State.ageSpare (s : State) (k : Nat) : Bool :=
  if k / 256 = 2 then
    let b := k % 256
    decide (b < 64) && s.win.sramSpare.contains (64 + b / 16) && !s.win.bankLost.contains b && !(s.win.bankMap.any fun e => e.1 == b) &&
      !(s.win.bankPend.any fun e => e.1 == b)
  else k == ageKey 4 0 && s.win.dcoSpare && !s.win.dcoPend

/-- A prediction falls below the threshold for the first time in this start: AGE_PREDICT, and the planned swap (R588). -/
def State.ageWarn (s : State) (k p : Nat) : State :=
  if s.effN Obj.age_spare_threshold ≤ p ∨ (s.boot.age k).warned then s
  else
    let s := (s.modAge k fun x => { x with warned := true }).raise 309
    if s.effT Obj.age_auto_spare && s.ageSpare k then s.modBoot fun b => { b with swapPend := b.swapPend ++ [k] } else s

/-- P of every instance: the instances of classes 1 to 4, then class 5 and class 6. -/
def State.agePreds (s : State) : List (Nat × Nat) :=
  ((ageCount.map fun e => (List.range e.2).map fun n => (ageKey e.1 n, s.agePred e.1 n)).flatten) ++
    [(ageKey 5 0, s.flyPred), (ageKey 6 0, s.tempPred)]

/-- AGE_FIT (R585, R587, R588). -/
def ageFitEff (s : State) : State :=
  if s.boot.inReset || s.boot.halted || s.boot.recovery then s
  else
    let ps := s.agePreds
    let s := s.each ps fun s e =>
      let v : Int := (e.2 : Nat)
      let n := e.1 % 256
      match e.1 / 256 with
      | 1 => s.setN Obj.age_ro_eol v n
      | 2 => s.setN Obj.age_sram_eol v n
      | 3 => s.setN Obj.age_eye_eol v n
      | 4 => s.setN Obj.age_dco_eol v n
      | 5 => s.setN Obj.age_fly_eol v
      | _ => s.setN Obj.age_temp_eol v
    let best := ps.foldl (fun (m : Nat × Nat) e => if e.2 < m.2 then e else m) (0xFFFF, ageNone)
    let s := (s.setN Obj.age_eol (best.2 : Nat)).setN Obj.age_eol_monitor (best.1 : Nat)
    s.each ps fun s e => s.ageWarn e.1 e.2

/-- AGE_FIT (R585). -/
def execAgeFit (s : State) : Host.Outcome State Fault Refusal := .next (ageFitEff s)

/-- The planned swaps of a boundary (R588). A fence of the same unit has come first: a bank that it retired has no spare left. -/
def State.plannedSwaps (s : State) : State :=
  let ks := s.boot.swapPend
  let s := s.modBoot fun b => { b with swapPend := [] }
  s.each ks fun s k =>
    if !s.ageSpare k then s
    else
      if k / 256 = 2 then (s.retireBank (k % 256)).1 else s.modWin fun w => { w with dcoPend := true }

end Sys2Proof.Machine
end

