-- ==== Sys2Proof/Machine/Install.lean ====
section
/-! DEFINITION. Firmware install (18_start_update_ageing.md R573 to R583): the image in chunks, its checks, and the move of every engine
to it. -/
namespace Sys2Proof.Machine

/-- The install changed. -/
def State.modInst (s : State) (f : Install → Install) : State := s.modBoot fun b => { b with install := f b.install }

/-- `install.state`. -/
def State.instState (s : State) : Nat := s.valN Obj.install_state

/-- The install's step changes, and the always-on ledger follows (R562, R582). -/
def State.instStep (s : State) (k : Nat) : State := if s.valN Obj.install_step = k then s else (s.setN Obj.install_step k).putLedger

/-- The bank that an install writes: the one that does not run. -/
def State.instBank (s : State) : Nat := 1 - s.boot.bank

/-! ### Steps 1 to 4 (R577, R578) -/

/-- A new install may begin (R578). -/
def State.instFree (s : State) : Bool := s.instState == 0 || 4 ≤ s.instState

/-- A committed write of `install.begin`: step 1. -/
def State.commitInstBegin (s : State) (v : Bytes) : State :=
  if !s.instFree then s
  else
    let k := s.instBank
    let s := s.writeBankRec k 1 0 0 []
    let s := s.modBoot fun b => { b with images := vmod b.images k fun _ => [] }
    let s := s.writeBankRec k 2 (field v 0 4) 0 (slice v 4 12)
    let s := s.modInst fun _ => { len := field v 0 4, hash := v.drop 4 }
    (((s.setN Obj.install_state 1).setN Obj.install_written 0).setN Obj.install_error 0).instStep 1

/-- The status of a chunk (R578). -/
def State.chunkStatus (s : State) (v : Bytes) : Nat :=
  let i := s.boot.install
  let off := field v 0 4
  let n := v.length - 4
  let full := n % 16 == 0 || off + n == i.len
  if s.instState ≠ 1 then stConflict
  else if v.length < 20 ∨ 1028 < v.length ∨ off % 16 ≠ 0 ∨ !full ∨ i.len < off + n ∨ 8388608 < off + n then stRange
  else if i.chunks.any fun c => decide (c.1 < off + n) && decide (off < c.1 + c.2.length) then stRange
  else stDone

/-- A chunk programmed; the chunks stay in the order of their offsets (R578). -/
def putChunk (off : Nat) (b : Bytes) : List (Nat × Bytes) → List (Nat × Bytes)
  | [] => [(off, b)]
  | c :: t => if off < c.1 then (off, b) :: c :: t else c :: putChunk off b t

/-- A write of `install.chunk` (R578), at once. -/
def State.writeChunk (s : State) (v : Bytes) : State × Nat :=
  let st := s.chunkStatus v
  if st = stDone then
    let s := s.modInst fun i => { i with chunks := putChunk (field v 0 4) (v.drop 4) i.chunks }
    (s.setN Obj.install_written ((s.valN Obj.install_written + (v.length - 4) : Nat) : Int), st)
  else (s, st)

/-- The install has failed: the bank is INVALID (R577). -/
def State.instBad (s : State) (code : Nat) : State :=
  let s := s.writeBankRec s.instBank 1 0 0 []
  ((s.setN Obj.install_state 5).setN Obj.install_error code).instStep 0

/-- A check of steps 2 to 3 fails (R577). -/
def State.instFail (s : State) (code : Nat) : State := (s.instBad code).raise 313

/-- FAULT_RAISE (R509). INSTALL_FAIL while an image is programmed is the flash's failure, error 8 (R577, R589). -/
def execFaultRaise (x : Fin 320) (i : FaultInfo) (s : State) : Host.Outcome State Fault Refusal :=
  .next (faultRaiseEff x.val i (if x.val = 313 ∧ s.instState = 1 then s.instBad 8 else s))

/-- A committed write of `install.finish`: steps 2 to 4. -/
def State.commitInstFinish (s : State) : State :=
  let i := s.boot.install
  if s.instState ≠ 1 ∨ s.valN Obj.install_written ≠ i.len then s
  else
    let img := (i.chunks.map Prod.snd).flatten
    let s := s.instStep 2
    let hash := Crypto.sha384 img
    if hash ≠ i.hash then s.instFail 1
    else
      let s := s.instStep 3
      let code := s.imageCheck img true
      if code ≠ 0 then s.instFail code
      else
        let k := s.instBank
        let s := s.modBoot fun b => { b with images := vmod b.images k fun _ => img }
        let s := s.writeBankRec k 3 img.length (imgVersion img) (hash.take 12)
        ((s.modInst fun i => { i with image := img.take 64, chunks := [] }).setN Obj.install_state 2).instStep 4

/-! ### Steps 5 to 8 (R579, R580, R583) -/

/-- The rotation moves engines: forward while SWITCHING, or back after an abort. -/
def State.rotating (s : State) : Bool :=
  s.boot.install.stage != 0 && (s.instState == 3 || s.boot.install.back)

/-- A committed write of `install.activate` (R577). In RECOVERY it resets the part in place of steps 5 to 9 (R568). -/
def State.commitInstActivate (s : State) : State :=
  if s.instState ≠ 2 then s
  else if s.boot.recovery then s.deviceReset 5
  else
    ((s.setN Obj.install_state 3).modInst fun i => { i with stage := 5, back := false, slot := 0, loadDone := none }).instStep 5

/-- A committed write of 1 to `install.abort` (R583). -/
def State.commitInstAbort (s : State) : State :=
  if s.instState ≠ 3 ∧ s.instState ≠ 6 then s
  else s.modInst fun i => { i with stage := 5, back := true, slot := 0 }

/-- STEWARD_LOAD_DONE (R579): a loading pair has loaded and passed its self-test; it takes its role at the following boundary. -/
def stewardLoadDoneEff (p : Nat) (s : State) : State :=
  let q := s.pair p
  if q.loading && !q.fenced then s.modInst fun i => { i with loadDone := some p } else s

/-- STEWARD_LOAD_DONE (R579). -/
def execStewardLoadDone (p : Fin 3) (s : State) : Host.Outcome State Fault Refusal := .next (stewardLoadDoneEff p.val s)

/-- A pair holds the image that the rotation moves away from. -/
def State.pairWrong (s : State) (p : Nat) : Bool := (s.pair p).fresh == s.boot.install.back && !(s.pair p).fenced

/-- The pair that holds a role, where it holds the image to move away from. -/
def State.wrongAt (s : State) (r : Nat) : Option Nat :=
  match s.roleAt r with
  | some p => if s.pairWrong p then some p else none
  | none => none

/-- A pair with the image to move to takes the first role whose pair has the other; that pair loads. With none it is the standby. -/
def State.moveRole (s : State) (p : Nat) : State :=
  let take (s : State) (r old : Nat) : State :=
    (s.modPair old fun q => { q with role := 0, loading := true }).modPair p fun q => { q with role := r }
  match s.wrongAt 1, s.wrongAt 2 with
  | some old, _ => take s 1 old
  | none, some old => take s 2 old
  | none, none => s.modPair p fun q => { q with role := 3 }

/-- The Steward roles move at a boundary (R579, R583). -/
def State.rotatePairs (s : State) : State :=
  let i := s.boot.install
  match i.loadDone with
  | some p =>
    let s := s.modInst fun i => { i with loadDone := none }
    if !(s.pair p).loading then s
    else
      let s := s.modPair p fun q => { q with loading := false, fresh := !i.back }
      if s.rotating then s.moveRole p else s.modPair p fun q => { q with role := 3 }
  | none =>
    if !s.rotating || decide (7 < i.stage) || (List.range 3).any fun p => (s.pair p).loading then s
    else
      match s.roleAt 3 with
      | some p =>
        if s.pairWrong p then s.modPair p fun q => { q with role := 0, loading := true }
        else if (s.wrongAt 1).isSome || (s.wrongAt 2).isSome then s.moveRole p
        else s
      | none => s

/-- Step 8 begins when no pair is left to move; without a standby the pairs of a way back keep their image (R583). -/
def State.pairsDone (s : State) : Bool :=
  !((List.range 3).any fun p => (s.pair p).loading) &&
    (((s.wrongAt 1).isNone && (s.wrongAt 2).isNone && (s.wrongAt 3).isNone) || (s.boot.install.back && (s.roleAt 3).isNone))

/-- A Thresher holds the image that the rotation moves away from. -/
def State.thrWrong (s : State) (t : Nat) : Bool := s.boot.install.fresh.contains t == s.boot.install.back

/-- A Thresher begins to load: it drains first, and has loaded 4 ticks later (R580). -/
def State.loadThresher (s : State) (t : Nat) : State :=
  s.modInst fun i => { i with loading := i.loading ++ [(t, s.tc.boundaries + 4)] }

/-- Threshers at a boundary: the work left in one that drains is dropped at the second boundary (R47, R520), and one that has loaded
is a spare, or returns to its slot when it loaded in place (R580, R583). -/
def State.threshersLoad (s : State) : State :=
  let s := s.modInst fun i => { i with loading := i.loading.filter fun e => !s.win.fenced.contains e.1 }
  let s := s.each (s.boot.install.loading.filter fun e => e.2 == s.tc.boundaries + 2) fun s e => s.dropJobs fun j => j.thr == e.1
  s.each (s.boot.install.loading.filter fun e => decide (e.2 ≤ s.tc.boundaries)) fun s e =>
    let t := e.1
    let s := s.modInst fun i =>
      { i with
        loading := i.loading.filter fun x => x.1 != t
        fresh := if i.back then i.fresh.filter fun x => x != t else i.fresh.filter (fun x => x != t) ++ [t] }
    match s.boot.install.inPlace with
    | some k => (s.modInst fun i => { i with inPlace := none }).modWin fun w => { w with thrSlots := vmod w.thrSlots k fun _ => some t }
    | none => s.modWin fun w => { w with thrSpare := w.thrSpare ++ [t] }

/-- Step 8 begins: the spares load (R580). -/
def State.rotateBegin (s : State) : State :=
  let old := s.win.thrSpare.filter s.thrWrong
  let s := s.modWin fun w => { w with thrSpare := w.thrSpare.filter fun t => !s.thrWrong t }
  let s := s.each old State.loadThresher
  (s.modInst fun i => { i with stage := 8, slot := 0, nextAt := s.tc.boundaries + (if old.isEmpty then 0 else 4) }).instStep 8

/-- The next slot whose Thresher is still to move. -/
def State.nextSlot (s : State) : Option Nat :=
  (List.range 16).find? fun k =>
    match vat s.win.thrSlots k none with
    | some t => s.thrWrong t
    | none => false

/-- THRESHER_ROTATE (R580, R583): every 2 ticks a spare with the image to move to takes the next slot, and its Thresher loads. Without
a spare the Thresher loads in place. -/
def thresherRotateEff (s : State) : State :=
  let i := s.boot.install
  if !s.rotating || i.stage != 8 || decide (s.tc.boundaries < i.nextAt) then s
  else
    match s.nextSlot with
    | none => s
    | some k =>
      let t := (vat s.win.thrSlots k none).getD 0
      match s.win.thrSpare.find? fun x => !s.thrWrong x with
      | some n =>
        let s := s.modWin fun w => { w with thrSlots := vmod w.thrSlots k fun _ => some n, thrSpare := w.thrSpare.filter fun x => x != n }
        (s.loadThresher t).modInst fun i => { i with slot := k + 1, nextAt := s.tc.boundaries + 2 }
      | none =>
        if !i.loading.isEmpty || !s.win.thrSpare.isEmpty then s
        else if i.back then s.modInst fun i => { i with stage := 0 }
        else
          let s := s.modWin fun w => { w with thrSlots := vmod w.thrSlots k fun _ => none }
          (s.loadThresher t).modInst fun i => { i with inPlace := some k, slot := k + 1, nextAt := s.tc.boundaries + 4 }

/-- THRESHER_ROTATE (R580). -/
def execThresherRotate (s : State) : Host.Outcome State Fault Refusal := .next (thresherRotateEff s)

/-- The default windows change, and configured windows keep their values (R581). -/
def State.putWindows (s : State) (w : List (Nat × Bytes)) : State :=
  let old := Obj.mtx_window.elems.map fun e => (e, s.cfg Obj.mtx_window e.1 e.2, s.eff Obj.mtx_window e.1 e.2)
  let s : State := { s with dev := { s.dev with windows := w } }
  s.each old fun s e => (s.setCfg Obj.mtx_window e.1.1 e.1.2 e.2.1).setEff Obj.mtx_window e.1.1 e.1.2 e.2.2

/-- The install's part of a tick boundary (R579 to R583). -/
def State.installTick (s : State) : State :=
  let s := s.threshersLoad.rotatePairs
  let s := if s.rotating && decide (s.boot.install.stage ≤ 7) then
      if s.pairsDone then s.rotateBegin
      else if s.boot.install.back then s
      else s.instStep (if (s.wrongAt 1).isSome then 5 else if (s.wrongAt 2).isSome then 6 else 7)
    else s
  let s := if s.rotating && s.boot.install.stage == 8 && s.nextSlot.isNone && s.boot.install.loading.isEmpty then
      if s.boot.install.back then s.modInst fun i => { i with stage := 0 }
      else s.modInst fun i => { i with stage := 9 }
    else s
  let s := if s.boot.install.back && s.boot.install.stage == 0 then
      ((s.modInst fun i => { i with back := false }).setN Obj.install_state 6).instStep 0
    else s
  match s.boot.install.verAt with
  | some b =>
    if b ≤ s.tc.boundaries then
      let s := s.modInst fun i => { i with verAt := none }
      { s with dev := { s.dev with firmware := imgVersion s.boot.install.image } }
    else s
  | none => s

/-- REEVE_SWITCH (R581, step 9 of R577): the Reeve runs the new component, the new windows are the defaults, and the bank record makes the
new bank ACTIVE. -/
def reeveSwitchEff (s : State) : State :=
  if !s.rotating || s.boot.install.stage != 9 then s
  else
    let k := s.instBank
    let img := vat s.boot.images k []
    let s := s.putWindows (imgWindows img)
    let s := s.instStep 9
    let s := s.writeBankRec k 4 img.length (imgVersion img) ((Crypto.sha384 img).take 12)
    let s := s.modInst fun i => { i with reeve := true, stage := 0, verAt := some (s.tc.boundaries + 1), fresh := [] }
    let s : State := { s with stew := { s.stew with pairs := s.stew.pairs.map fun q => { q with fresh := false } } }
    let s := s.modBoot fun b => { b with bank := k, secver := imgSecver img }
    (s.setN Obj.install_state 4).instStep 0

/-- REEVE_SWITCH (R581). -/
def execReeveSwitch (s : State) : Host.Outcome State Fault Refusal := .next (reeveSwitchEff s)

/-- A committed write of 1 to `boot.secver_commit` (R576). -/
def State.commitSecver (s : State) : State :=
  let b := s.boot
  let other := vat b.images (1 - b.bank) []
  if s.viewBootState == 2 && s.viewBankState (1 - b.bank) == 5 && decide (b.secver ≤ imgSecver other) then
    ({ s with dev := { s.dev with minSecver := max s.dev.minSecver b.secver } } : State).setN Obj.boot_secver_commit 2
  else s.setN Obj.boot_secver_commit 4

/-- A committed write of `boot.restart` (R567): 1 with the streak and the plan cleared, 2 into a safe start. -/
def State.commitRestart (s : State) (v : Nat) : State :=
  (s.modBoot fun b => { b with clearNext := v == 1, safeNext := v == 2 }).deviceReset 5

end Sys2Proof.Machine
end

