-- ==== Sys2Proof/Machine/Conflict.lean ====
section
/-! DEFINITION. Check 6 of R478: the rules that relate a value to other objects, each with the objects it involves, and the values
that a write of `ptp.profile` (R409) or `fly.type` (R191) gives to other objects. -/
namespace Sys2Proof.Machine

/-! ### Values that follow another object -/

/-- What a PTP profile admits and gives by default (R409): transports, delay mechanisms, domains with their default, log Sync interval with
its default, log Announce interval with its default, and modes. -/
structure ProfileRow where
  transports : List Int
  mechs : List Int
  domain : Int × Int × Int
  sync : Int × Int × Int
  announce : Int × Int × Int
  modes : List Int

/-- The rows of R409. Where the row says "per grant", the default is 0 (log entry 35). -/
def profileRow (p : Int) : ProfileRow :=
  if p = 0 then
    { transports := [0, 1, 2], mechs := [0, 1], domain := (0, 127, 0), sync := (-7, 1, 0), announce := (-3, 4, 1), modes := [0, 1, 2] }
  else if p = 1 then
    { transports := [0], mechs := [0], domain := (24, 43, 24), sync := (-4, -4, -4), announce := (-3, -3, -3), modes := [0] }
  else if p = 2 then
    { transports := [1, 2], mechs := [0], domain := (44, 63, 44), sync := (-7, 0, 0), announce := (-3, 0, 0), modes := [2] }
  else if p = 3 then
    { transports := [0], mechs := [1], domain := (0, 127, 0), sync := (-7, 1, -3), announce := (-3, 4, 0), modes := [0] }
  else
    { transports := [0], mechs := [1], domain := (0, 127, 0), sync := (-5, 0, -3), announce := (-3, 4, 0), modes := [0] }

/-- The defaults of the objects that follow `ptp.profile`. -/
def profileDefaults (p : Int) : List (Row × Int) :=
  let r := profileRow p
  [(Obj.ptp_transport, r.transports.headD 0), (Obj.ptp_delay_mech, r.mechs.headD 0), (Obj.ptp_domain, r.domain.2.2),
    (Obj.ptp_log_sync, r.sync.2.2), (Obj.ptp_log_announce, r.announce.2.2), (Obj.ptp_mode, r.modes.headD 0)]

/-- The default of `ptp.class_map` at a code of `hold.service` under a profile (R415). -/
def classDefault (p : Int) (c : Nat) : Int := if c = 2 then (if p = 0 then 52 else if p ≤ 2 then 140 else 248) else if c = 0 then 6 else if c = 1 then 7 else 248

/-- The figures of R163 for an oscillator type, in the order u₀, drift, temperature coefficient, a₁, b, retrace; zeros for NONE. -/
def flyFigures (t : Int) : List Rat :=
  if t = 1 then [5 / 10 ^ 11, 2 / 10 ^ 12, 3 / 10 ^ 12, 3 / 10 ^ 11, 1 / 10 ^ 12, 2 / 10 ^ 11]
  else if t = 2 then [5 / 10 ^ 10, 3 / 10 ^ 11, 1 / 10 ^ 11, 3 / 10 ^ 10, 1 / 10 ^ 11, 5 / 10 ^ 11]
  else if t = 3 then [1 / 10 ^ 8, 1 / 10 ^ 10, 1 / 10 ^ 11, 5 / 10 ^ 12, 5 / 10 ^ 12, 1 / 10 ^ 9]
  else [0, 0, 0, 0, 0, 0]

/-- The objects that follow `fly.type` (R191). -/
def flyObjects : List Row := [Obj.fly_u0, Obj.fly_drift_max, Obj.fly_tempco_max, Obj.fly_adev_1s, Obj.fly_floor, Obj.fly_retrace]

/-- A write entry as the object and the value it names. -/
def WriteEntry.parse (e : WriteEntry) : Option (ObjRef × Val) :=
  match objAt (keyOf e.index e.sub) with
  | none => none
  | some o => (decodeVal o.row.ty e.value).map fun v => (o, v)

/-- The configuration with the writes of a set applied: those of RW and WO objects, after the values that a change of a profile or of
`fly.type` gives to objects that the set does not write (R191, R409, R415). DEDUCED (log entry 48): the defaults of `ptp.class_map` are those of the
profile, so they follow it. Under NONE the `fly.` parameters read 0, whatever is written (R191). -/
def State.withWrites (s : State) (es : List (ObjRef × Val)) : State :=
  let plain := es.filter fun e => e.1.row.acc != .rwx
  let written (k : Nat) : Bool := plain.any fun e => e.1.key == k
  let last (k : Nat) : Option Int := ((plain.filter fun e => e.1.key == k).getLast?).map fun e => e.2.num
  let s := s.each (List.range 4) fun t i =>
    match last (Obj.ptp_profile.key i 0) with
    | some p =>
      if p = s.cfgN Obj.ptp_profile i then t
      else
        let t := t.each (profileDefaults p) fun t r => if written (r.1.key i 0) then t else t.setCfg r.1 i 0 (.n r.2)
        t.each (List.range 4) fun t c =>
          if written (Obj.ptp_class_map.key i c) then t else t.setCfg Obj.ptp_class_map i c (.n (classDefault p c))
    | none => t
  let s := match last (Obj.fly_type.key 0 0) with
    | some p =>
      if p = s.cfgN Obj.fly_type then s
      else s.each (flyObjects.zip (flyFigures p)) fun t r => if written (r.1.key 0 0) then t else t.setCfg r.1 0 0 (.n (ratFreq r.2))
    | none => s
  let s : State := s.each plain fun s e => s.setCfg e.1.row e.1.i e.1.j e.2
  if s.cfgN Obj.fly_type = 0 then s.each flyObjects fun t r => t.setCfg r 0 0 (.n 0) else s

/-! ### Rules -/

/-- A rule of check 6: the indexes of the objects it relates, and the keys involved in what a configuration breaks. `status` is
CONFLICT but where the rule names another. -/
structure CRule where
  touches : Nat → Bool
  broken : State → List Nat
  status : Nat := stConflict

/-- An index is that of an element of one of some rows. -/
def inRows (rs : List Row) (x : Nat) : Bool :=
  rs.any fun r => (List.range r.n).any fun i => r.key i 0 / 256 == x

/-- Keys where a condition fails. -/
def broke (c : Bool) (ks : List Nat) : List Nat := if c then [] else ks

/-- R114. -/
def ruleReserve : CRule :=
  { touches := inRows [Obj.stamp_reserve_max, Obj.stamp_lead_nts, Obj.stamp_lead_ptp_auth], status := stRange
    broken := fun s =>
      broke (decide (max (s.cfgN Obj.stamp_lead_nts) (s.cfgN Obj.stamp_lead_ptp_auth) + 64 ≤ s.cfgN Obj.stamp_reserve_max))
        [Obj.stamp_reserve_max.key 0 0, Obj.stamp_lead_nts.key 0 0, Obj.stamp_lead_ptp_auth.key 0 0] }

/-- R126. -/
def ruleDivider : CRule :=
  { touches := inRows [Obj.ref_kind, Obj.ref_freq_hz, Obj.ref_divider]
    broken := fun s => ((List.range 8).map fun i =>
      let f := s.cfgN Obj.ref_freq_hz i
      let d := s.cfgN Obj.ref_divider i
      broke (decide (0 < d) && f % d == 0 && decide (1 ≤ f / d) && decide (f / d ≤ 8000)) [Obj.ref_freq_hz.key i 0, Obj.ref_divider.key i 0] ++
        broke (decide (2 ≤ s.cfgN Obj.ref_kind i) || (f == 1 && d == 1))
          [Obj.ref_kind.key i 0, Obj.ref_freq_hz.key i 0, Obj.ref_divider.key i 0]).flatten }

/-- The last rules of R191. -/
def ruleFly : CRule :=
  { touches := inRows [Obj.fly_recentre_mode, Obj.fly_type, Obj.hold_learn_min, Obj.hold_learn_window, Obj.hold_thr_unsync, Obj.hold_thr_spec]
    broken := fun s =>
      broke (s.cfgN Obj.fly_recentre_mode == 0 || s.cfgN Obj.fly_type != 0) [Obj.fly_recentre_mode.key 0 0, Obj.fly_type.key 0 0] ++
        broke (decide (s.cfgN Obj.hold_learn_min ≤ s.cfgN Obj.hold_learn_window)) [Obj.hold_learn_min.key 0 0, Obj.hold_learn_window.key 0 0] ++
        broke (decide (s.cfgN Obj.hold_thr_spec ≤ s.cfgN Obj.hold_thr_unsync)) [Obj.hold_thr_unsync.key 0 0, Obj.hold_thr_spec.key 0 0] }

/-- R214: the limits that are not zero ascend, and a code's bound is not below its limit. -/
def ruleAccuracy : CRule :=
  { touches := inRows [Obj.scr_ca_limit, Obj.scr_ca_code]
    broken := fun s =>
      let ks := (List.range 16).filter fun k => s.cfgN Obj.scr_ca_limit k != 0
      (((ks.zip ks.tail).filter fun e => decide (s.cfgN Obj.scr_ca_limit e.2 ≤ s.cfgN Obj.scr_ca_limit e.1)).map fun e =>
          [Obj.scr_ca_limit.key e.1 0, Obj.scr_ca_limit.key e.2 0]).flatten ++
        ((ks.filter fun k =>
          match caBound (s.cfgN Obj.scr_ca_code k).toNat with
          | some b => decide ((b : Int) < 10 * s.cfgN Obj.scr_ca_limit k)
          | none => false).map fun k => [Obj.scr_ca_limit.key k 0, Obj.scr_ca_code.key k 0]).flatten }

/-- The largest frequency of an output format, Hz (R608). -/
def formatMax (f : Int) : Nat := if f = 1 then 400000000 else if f = 3 then 250000000 else 1250000000

/-- The highest frequency, mHz, that a DPLL reaches: the configured one, or that from which a hitless change starts (R232, R237). -/
def State.peakDco (s : State) (d : Nat) : Nat :=
  let new := (s.cfgN Obj.dpll_dco_freq d).toNat
  let old := s.dcoNow d
  if s.cfgN Obj.dpll_hitless d != 0 &&
      decide (((new : Int) - old).natAbs * 1000000 ≤ old * (s.cfgN Obj.dpll_hitless_dev d).toNat) then max new old else new

/-- R232 with R608. -/
def ruleOutput : CRule :=
  { touches := inRows [Obj.out_divider, Obj.out_source, Obj.out_fmax, Obj.out_format, Obj.dpll_dco_freq, Obj.dpll_hitless, Obj.dpll_hitless_dev]
    broken := fun s => ((List.range 12).map fun o =>
      let d := (s.cfgN Obj.out_source o).toNat + 1
      let cap := min (s.cfgN Obj.out_fmax o).toNat (formatMax (s.cfgN Obj.out_format o)) * 1000
      broke (decide (s.peakDco d ≤ cap * (s.cfgN Obj.out_divider o).toNat))
        ([Obj.out_divider, Obj.out_source, Obj.out_fmax, Obj.out_format].map (fun r => r.key o 0) ++
          [Obj.dpll_dco_freq, Obj.dpll_hitless, Obj.dpll_hitless_dev].map fun r => r.key d 0)).flatten }

/-- The range of `out.phase` (R233, R252): 0 to `out.divider` - 1. -/
def rulePhase : CRule :=
  { touches := inRows [Obj.out_divider, Obj.out_phase]
    broken := fun s => ((List.range 12).map fun o =>
      broke (decide (s.cfgN Obj.out_phase o < s.cfgN Obj.out_divider o)) [Obj.out_divider.key o 0, Obj.out_phase.key o 0]).flatten }

/-- The range of `tic.period_offset` (R277): its magnitude lies below `tic.period`. -/
def rulePeriod : CRule :=
  { touches := inRows [Obj.tic_period, Obj.tic_period_offset]
    broken := fun s =>
      broke (decide ((s.cfgN Obj.tic_period_offset).natAbs < (s.cfgN Obj.tic_period).natAbs * 1000000000))
        [Obj.tic_period.key 0 0, Obj.tic_period_offset.key 0 0] }

/-- R247 and R27. -/
def rulePps : CRule :=
  { touches := inRows [Obj.pps_source, Obj.dpll_ref]
    broken := fun s => ((List.range 4).map fun m =>
      broke (s.cfgN Obj.pps_source m != 1 || s.cfgN Obj.dpll_ref 2 == 0) [Obj.pps_source.key m 0, Obj.dpll_ref.key 2 0]).flatten }

/-- Octets of a UART message: none, BINARY (R249) or ZDA (R250). -/
def uartLen (f : Int) : Nat := if f = 1 then 34 else if f = 2 then 38 else 0

/-- R248. -/
def ruleUart : CRule :=
  { touches := inRows [Obj.uart_format, Obj.uart_baud, Obj.uart_delay]
    broken := fun s => ((List.range 2).map fun u =>
      let baud := (s.cfgN Obj.uart_baud u).toNat
      broke (decide ((s.cfgN Obj.uart_delay u).toNat * baud + 10000 * uartLen (s.cfgN Obj.uart_format u) < 1000 * baud))
        ([Obj.uart_format, Obj.uart_baud, Obj.uart_delay].map fun r => r.key u 0)).flatten }

/-- R274, for units that are enabled (log entry 36). Modes: 0 OFF, 2 FREQ. -/
def ruleDiff : CRule :=
  { touches := inRows [Obj.tic_diff_enable, Obj.tic_diff_start, Obj.tic_diff_stop, Obj.tic_diff_gate, Obj.tic_mode]
    broken := fun s => ((List.range 8).map fun d =>
      let a := (s.cfgN Obj.tic_diff_start d).toNat
      let b := (s.cfgN Obj.tic_diff_stop d).toNat
      let ok (c : Nat) : Bool := s.cfgN Obj.tic_mode c != 0 && s.cfgN Obj.tic_mode c != 2
      broke (s.cfgN Obj.tic_diff_enable d == 0 || (a != b && ok a && ok b))
        ([Obj.tic_diff_enable, Obj.tic_diff_start, Obj.tic_diff_stop].map (fun r => r.key d 0) ++ [Obj.tic_mode.key a 0, Obj.tic_mode.key b 0])).flatten }

/-- R287. -/
def ruleAcq : CRule :=
  { touches := inRows [Obj.gnss_acq_coh, Obj.gnss_acq_noncoh]
    broken := fun s =>
      broke (decide (s.cfgN Obj.gnss_acq_coh * s.cfgN Obj.gnss_acq_noncoh ≤ 10)) [Obj.gnss_acq_coh.key 0 0, Obj.gnss_acq_noncoh.key 0 0] }

/-- R322. -/
def ruleExport : CRule :=
  { touches := inRows [Obj.mac_tx_clock, Obj.dpll_dco_freq, Obj.dpll_hitless]
    broken := fun s => ((List.range 9).map fun p =>
      broke (s.cfgN Obj.mac_tx_clock p == 0 || (s.cfgN Obj.dpll_dco_freq 2 == 10312500000000 && s.cfgN Obj.dpll_hitless 2 == 0))
        [Obj.mac_tx_clock.key p 0, Obj.dpll_dco_freq.key 2 0, Obj.dpll_hitless.key 2 0]).flatten }

/-- R327. -/
def rulePool : CRule :=
  { touches := inRows [Obj.mac_rx_reserve]
    broken := fun s =>
      broke (decide ((((List.range 9).map fun p => s.cfgN Obj.mac_rx_reserve p).sum) + 4096 ≤ 40960))
        ((List.range 9).map fun p => Obj.mac_rx_reserve.key p 0) }

/-- R332: two present entries of a port have the same address and tag set. -/
def ruleServed : CRule :=
  { touches := inRows [Obj.mac_served]
    broken := fun s => ((List.range 8).map fun p =>
      let es := ((List.range 64).map fun k => (k, (s.cfg Obj.mac_served p k).bytes)).filter fun e => octet e.2 0 != 0
      let same (a b : Bytes) : Bool := octet a 0 == octet b 0 && slice a 2 4 == slice b 2 4 && a.drop 8 == b.drop 8
      ((es.filter fun e => es.any fun f => f.1 != e.1 && same e.2 f.2).map fun e => Obj.mac_served.key p e.1)).flatten }

/-- R350. -/
def ruleCells : CRule :=
  { touches := inRows [Obj.queue_cells]
    broken := fun s => ((List.range 9).map fun p =>
      broke (decide (((List.range 8).map fun q => s.cfgN Obj.queue_cells p q).sum ≤ 6144))
        ((List.range 8).map fun q => Obj.queue_cells.key p q)).flatten }

/-- R362. -/
def rulePrivileged : CRule :=
  { touches := inRows [Obj.sched_privileged]
    broken := fun s =>
      broke (decide ((((List.range 8).filter fun p => s.cfgN Obj.sched_privileged p != 0)).length ≤ 2))
        ((List.range 8).map fun p => Obj.sched_privileged.key p 0) }

/-- R399 over one group of slots: state and identifier as configured, and the slots in effect. -/
def slotsBroken (states : List Int) (ids : List Int) (live : List KeySlot) (need : Bool) (stKey idKey : Nat → Nat) (enKey : Nat) :
    List Nat :=
  let n := states.length
  let active := (List.range n).filter fun k => states.getD k 0 == 2
  let there (k : Nat) : Bool := (live.getD k {}).state != 0 || states.getD k 0 != 0
  let idOf (k : Nat) : Int := if (live.getD k {}).state != 0 then (live.getD k {}).id else ids.getD k 0
  broke (decide (active.length ≤ 1)) (active.map stKey) ++
    broke (!need || !active.isEmpty) (enKey :: (List.range n).map stKey) ++
    (((List.range n).filter fun k => there k && (List.range n).any fun m => m != k && there m && idOf m == idOf k).map fun k =>
      [stKey k, idKey k]).flatten

/-- R399. -/
def ruleNts : CRule :=
  { touches := inRows [Obj.nts_key_id, Obj.nts_key_state, Obj.nts_enable]
    broken := fun s =>
      slotsBroken ((List.range 8).map fun k => s.cfgN Obj.nts_key_state k) ((List.range 8).map fun k => s.cfgN Obj.nts_key_id k)
        s.net.nts.toList (s.cfgN Obj.nts_enable != 0) (fun k => Obj.nts_key_state.key k 0) (fun k => Obj.nts_key_id.key k 0)
        (Obj.nts_enable.key 0 0) }

/-- R435. -/
def rulePtpKeys : CRule :=
  { touches := inRows [Obj.ptp_key_id, Obj.ptp_key_state, Obj.ptp_auth_mode]
    broken := fun s => ((List.range 4).map fun i =>
      slotsBroken ((List.range 4).map fun k => s.cfgN Obj.ptp_key_state i k) ((List.range 4).map fun k => s.cfgN Obj.ptp_key_id i k)
        (s.ptp i).keys.toList (s.cfgN Obj.ptp_auth_mode i != 0) (fun k => Obj.ptp_key_state.key i k) (fun k => Obj.ptp_key_id.key i k)
        (Obj.ptp_auth_mode.key i 0)).flatten }

/-- The ports of an instance as configured. -/
def State.cfgPorts (s : State) (i : Nat) : List Nat :=
  (List.range 8).filter fun p => (s.cfgN Obj.ptp_master_ports i).toNat.testBit p || s.cfgN Obj.ptp_slave_port i == p

/-- R408. -/
def rulePtpPorts : CRule :=
  { touches := inRows [Obj.ptp_master_ports, Obj.ptp_slave_port, Obj.ptp_enable, Obj.ptp_domain, Obj.ptp_transport, Obj.ptp_profile]
    broken := fun s =>
      ((List.range 4).map fun i =>
        let p := s.cfgN Obj.ptp_slave_port i
        broke (!(decide (p ≤ 7) && (s.cfgN Obj.ptp_master_ports i).toNat.testBit p.toNat))
          [Obj.ptp_master_ports.key i 0, Obj.ptp_slave_port.key i 0]).flatten ++
      ((List.range 4).map fun i => ((List.range i).map fun j =>
        let share := (s.cfgPorts i).any fun p => (s.cfgPorts j).contains p
        broke (!(s.cfgN Obj.ptp_enable i != 0 && s.cfgN Obj.ptp_enable j != 0 && share &&
            s.cfgN Obj.ptp_domain i == s.cfgN Obj.ptp_domain j && s.cfgN Obj.ptp_transport i == s.cfgN Obj.ptp_transport j))
          (([Obj.ptp_enable, Obj.ptp_master_ports, Obj.ptp_slave_port, Obj.ptp_domain, Obj.ptp_transport, Obj.ptp_profile].map fun r =>
            [r.key i 0, r.key j 0]).flatten)).flatten).flatten }

/-- A value within bounds. -/
def between (x : Int) (b : Int × Int × Int) : Bool := decide (b.1 ≤ x) && decide (x ≤ b.2.1)

/-- R409. -/
def ruleProfile : CRule :=
  { touches := inRows [Obj.ptp_profile, Obj.ptp_transport, Obj.ptp_delay_mech, Obj.ptp_domain, Obj.ptp_log_sync, Obj.ptp_log_announce, Obj.ptp_mode]
    broken := fun s => ((List.range 4).map fun i =>
      let r := profileRow (s.cfgN Obj.ptp_profile i)
      let k := Obj.ptp_profile.key i 0
      let tr := s.cfgN Obj.ptp_transport i
      let dm := s.cfgN Obj.ptp_delay_mech i
      broke (r.transports.contains tr) [Obj.ptp_transport.key i 0, k] ++
        broke (r.mechs.contains dm && (dm == 0 || tr == 0)) [Obj.ptp_delay_mech.key i 0, Obj.ptp_transport.key i 0, k] ++
        broke (between (s.cfgN Obj.ptp_domain i) r.domain) [Obj.ptp_domain.key i 0, k] ++
        broke (between (s.cfgN Obj.ptp_log_sync i) r.sync) [Obj.ptp_log_sync.key i 0, k] ++
        broke (between (s.cfgN Obj.ptp_log_announce i) r.announce) [Obj.ptp_log_announce.key i 0, k] ++
        broke (r.modes.contains (s.cfgN Obj.ptp_mode i)) [Obj.ptp_mode.key i 0, k]).flatten }

/-- Twice the multicast Sync rate of an instance (R426). -/
def State.cfgSyncRate2 (s : State) (i : Nat) : Nat :=
  if s.cfgN Obj.ptp_enable i != 0 && decide (s.cfgN Obj.ptp_mode i ≤ 1) then
    ((List.range 8).filter fun p => (s.cfgN Obj.ptp_master_ports i).toNat.testBit p).length * 2 ^ (1 - s.cfgN Obj.ptp_log_sync i).toNat
  else 0

/-- R426. -/
def ruleBudget : CRule :=
  { touches := inRows [Obj.ptp_enable, Obj.ptp_mode, Obj.ptp_master_ports, Obj.ptp_log_sync, Obj.ptp_profile, Obj.ptp_sess_budget]
    broken := fun s =>
      broke (decide (((List.range 4).map s.cfgSyncRate2).sum ≤ 2 * (s.cfgN Obj.ptp_sess_budget).toNat))
        (Obj.ptp_sess_budget.key 0 0 :: ((List.range 4).map fun i =>
          [Obj.ptp_enable, Obj.ptp_mode, Obj.ptp_master_ports, Obj.ptp_log_sync, Obj.ptp_profile].map fun r => r.key i 0).flatten) }

/-- R444: a worker has at most one UP_PRIMARY and one UP_SECONDARY link. -/
def ruleRoles : CRule :=
  { touches := inRows [Obj.crem_link_role]
    broken := fun s => ([2, 3].map fun (r : Int) =>
      let ls := (List.range 4).filter fun l => s.cfgN Obj.crem_link_role l == r
      broke (decide (ls.length ≤ 1)) (ls.map fun l => Obj.crem_link_role.key l 0)).flatten }

/-- R507: the EtherTypes of Atton and HP differ. -/
def ruleEther : CRule :=
  { touches := inRows [Obj.atton_ethertype, Obj.hp_ethertype]
    broken := fun s =>
      broke (s.cfgN Obj.atton_ethertype != s.cfgN Obj.hp_ethertype) [Obj.atton_ethertype.key 0 0, Obj.hp_ethertype.key 0 0] }

/-- The range of `ntp.maxpoll` (R406): not below `ntp.minpoll`. -/
def rulePoll : CRule :=
  { touches := inRows [Obj.ntp_minpoll, Obj.ntp_maxpoll]
    broken := fun s => ((List.range 4).map fun i =>
      broke (decide (s.cfgN Obj.ntp_minpoll i ≤ s.cfgN Obj.ntp_maxpoll i)) [Obj.ntp_minpoll.key i 0, Obj.ntp_maxpoll.key i 0]).flatten }

/-- The rules of check 6 over configurations. -/
def cRules : List CRule :=
  [ruleReserve, ruleDivider, ruleFly, ruleAccuracy, ruleOutput, rulePhase, rulePeriod, rulePps, ruleUart, ruleDiff, ruleAcq, ruleExport, rulePool, ruleServed, ruleCells,
    rulePrivileged, ruleNts, rulePtpKeys, rulePtpPorts, ruleProfile, ruleBudget, ruleRoles, ruleEther, rulePoll]

/-- The part offers the recovered clock of a port to DPLL-B (R323): modes 1 to 4, link up. -/
def State.offersClock (s : State) (p : Nat) : Bool :=
  s.linkUp p && decide (1 ≤ s.effN Obj.mac_mode p) && decide (s.effN Obj.mac_mode p ≤ 4)

/-- Rules of check 6 about one write, against the configuration as it would stand (R68, R323, R382, R399, R435, R578): 0 where it passes. -/
def State.writeRule (s : State) (P : State) (o : ObjRef) (v : Val) : Nat :=
  let b := o.row.base
  if (b = 0x2010 ∨ b = 0x2020) ∧ P.cfgN Obj.tod_control = 0 then stConflict
  else if b = 0x3000 ∧ o.i = 2 ∧ 1 ≤ v.num ∧ !s.offersClock (v.num - 1).toNat then stConflict
  else if (b = 0x7010 ∨ b = 0x7012) ∧ (vat s.net.smears o.i {}).held then stConflict
  else if b = 0x7110 ∧ o.row.sub = 0 ∧ (vat s.net.nts o.i {}).state ≠ 0 then stConflict
  else if b = 0x743C ∧ o.row.sub = 0 ∧ (vat (s.ptp o.i).keys o.j {}).state ≠ 0 then stConflict
  else if b = 0x9820 ∧ !s.instFree then stConflict
  else 0

/-- Check 6 over entries: the number of the first entry that names an object involved in a broken rule, and the status; none where every
rule holds. `P` is the configuration as it would stand. -/
def State.checkRules (s : State) (P : State) (es : List (ObjRef × Val)) : Option (Nat × Nat) :=
  let live := cRules.filter fun r => es.any fun e => r.touches (e.1.key / 256)
  let bad := live.map fun r => (r.status, r.broken P)
  let judge (e : ObjRef × Val) : Nat :=
    let w := s.writeRule P e.1 e.2
    if w ≠ 0 then w
    else match bad.find? fun b => b.2.contains e.1.key with
      | some b => b.1
      | none => 0
  match ((List.range es.length).zip es).find? fun e => judge e.2 != 0 with
  | some e => some (e.1, judge e.2)
  | none =>
    match bad.find? fun b => !b.2.isEmpty with
    | some b => some (0, b.1)
    | none => none

end Sys2Proof.Machine
end

