-- ==== Sys2Proof/Machine/Staging.lean ====
section
/-! DEFINITION. Staging (15_granary_atton.md R476 to R484): the commit set a write joins, what it supersedes, and the checks it meets
there. -/
namespace Sys2Proof.Machine

/-- The Granary changed. -/
def State.modGran (s : State) (f : Granary → Granary) : State := { s with gran := f s.gran }

/-- The access path of a Steward pair or the Reeve acting internally (R474): associations are paths 0 to 63, the SPI slave is 64. -/
def pathInternal : Nat := 65

/-- The access path of the SPI slave (R474). -/
def pathSpi : Nat := 64

/-- The staging close of the next boundary has begun: 5 µs before it (R476). -/
def State.stagingClosed (s : State) : Bool := decide (s.tc.nextGrid - 5000 * nsU ≤ s.tod)

/-- The commit sets, that of the next boundary first. -/
def State.sets (s : State) : List CommitSet := s.gran.cur :: s.gran.later

/-- The commit sets replaced; sets that hold nothing at the end of the list are not kept. -/
def State.putSets (s : State) (cs : List CommitSet) : State :=
  let rest := (cs.tail.reverse.dropWhile fun c => c == ({} : CommitSet)).reverse
  s.modGran fun g => { g with cur := cs.headD {}, later := rest }

/-- Items of a set that nothing has superseded. -/
def CommitSet.live (c : CommitSet) : List Staged := c.items.filter fun i => !i.superseded

/-- Writes that a set holds (R477). -/
def CommitSet.count (c : CommitSet) : Nat := (c.live.map fun i => i.entries.length).sum

/-- The key that an entry names. -/
def WriteEntry.key (e : WriteEntry) : Nat := keyOf e.index e.sub

/-- A bundle of a set holds an object (R480). -/
def CommitSet.bundled (c : CommitSet) (k : Nat) : Bool := c.live.any fun i => i.bundle && i.entries.any fun e => e.key == k

/-- An object is an action object, whose writes all apply (R479). -/
def WriteEntry.acts (e : WriteEntry) : Bool :=
  match objAt e.key with
  | some o => o.row.acc == .rwx
  | none => false

/-- An earlier single write that a later write or bundle replaces (R479, R480). -/
def replaces (es : List WriteEntry) (i : Staged) : Bool :=
  !i.bundle && !i.superseded && i.entries.any fun x => !x.acts && es.any fun e => e.key == x.key

/-- Writes that a set holds once some entries have joined it (R477). DEDUCED (log entry 50): those that they replace no longer count. -/
def CommitSet.countWith (c : CommitSet) (es : List WriteEntry) : Nat :=
  ({ c with items := c.items.filter fun i => !replaces es i } : CommitSet).count + es.length

/-- A set takes some entries: 0 yes, 1 no, by the limit of R477 or by R480, 2 no, since a RESTORE_DEFAULTS occupies it (R483). -/
def CommitSet.bars (c : CommitSet) (es : List WriteEntry) : Nat :=
  if c.restore.isSome then 2
  else if 256 < c.countWith es ∨ es.any (fun e => c.bundled e.key) then 1
  else 0

/-- The first set from number `k` on that takes some entries, and whether the limit or R480 moved them. -/
def findSet (es : List WriteEntry) : Nat → List CommitSet → Bool → Nat × Bool
  | k, [], m => (k, m)
  | k, c :: t, m =>
    match c.bars es with
    | 0 => (k, m)
    | b => findSet es (k + 1) t (m || b == 1)

/-- Where entries that reach the Granary now are staged: during the staging close, from the following set on (R476). -/
def State.target (s : State) (es : List WriteEntry) : Nat × Bool :=
  let k := if s.stagingClosed then 1 else 0
  findSet es k (s.sets.drop k) false

/-- The TOD of the boundary at which set `k` commits. -/
def State.setTod (s : State) (k : Nat) : Tod := s.tc.nextGrid + (k : Int) * tickU

/-- The identity of a boundary time: TOD seconds and tick number (R23). -/
def tickIdent (t : Tod) : Nat × Nat := ((t / secU).toNat, ((t % secU) / tickU).toNat)

/-- A set with an item staged into it, and the handles that now read SUPERSEDED. -/
def CommitSet.join (c : CommitSet) (it : Staged) : CommitSet × List Nat :=
  let mark (i : Staged) : Staged := if replaces it.entries i then { i with superseded := true } else i
  ({ c with items := c.items.map mark ++ [it] }, (c.items.filter (replaces it.entries)).map fun i => i.handle)

/-- An item staged into set `k`. -/
def State.putItem (s : State) (k : Nat) (it : Staged) : State :=
  let cs := s.sets ++ List.replicate (k + 1 - s.sets.length) ({} : CommitSet)
  let (c, gone) := ((cs[k]?).getD {}).join it
  (s.putSets (cs.set k c)).each gone fun s h => s.endHandle h stSuperseded

/-- Every configured object outside 0x1100-0x11FF takes its default (R483). -/
def State.defaultCfg (s : State) : State :=
  { s with dict := { s.dict with cfg := s.dict.cfg.filter fun e => decide (0x110000 ≤ e.1) && decide (e.1 < 0x120000) } }

/-- The configuration after a commit set. -/
def State.afterSet (s : State) (c : CommitSet) : State :=
  if c.restore.isSome then s.defaultCfg
  else s.withWrites ((c.live.map fun i => i.entries.filterMap WriteEntry.parse).flatten)

/-- The configuration as it would stand with entries staged into set `k`: after every write staged up to that set (check 6 of R478). -/
def State.projected (s : State) (k : Nat) (es : List (ObjRef × Val)) : State :=
  (((s.sets.take (k + 1)).foldl State.afterSet s)).withWrites es

/-- The answer to a write: status, handle, commit boundary, and the object that a refusal names (R490). -/
structure WriteAns where
  status : Nat := 0
  handle : Nat := 0
  sec : Nat := 0
  tick : Nat := 0
  index : Nat := 0
  sub : Nat := 0
deriving DecidableEq, Repr

/-- A refused write or bundle is counted, and nothing of it is staged (R478, R507). -/
def State.refuse (s : State) (st index sub : Nat) : State × WriteAns :=
  (s.count Obj.gran_refused, { status := st, index := index, sub := sub })

/-- Entries that have passed their checks are staged into a set under a new handle (R477 to R480, R484). -/
def State.stageItem (s : State) (bundle : Bool) (level path : Nat) (es : List WriteEntry) (k : Nat) (moved : Bool) : State × WriteAns :=
  let t := tickIdent (s.setTod k)
  let s := s.putItem k { handle := s.valN Obj.gran_handle + 1, bundle := bundle, entries := es, level := level, path := path }
  let (s, h) := s.newHandle { status := stPending, sec := t.1, tick := t.2 }
  (if moved then s.count Obj.gran_deferred else s, { status := stPending, handle := h, sec := t.1, tick := t.2 })

/-- Check 6 for entries that would join set `k`, then their staging. -/
def State.stageChecked (s : State) (bundle : Bool) (level path : Nat) (es : List WriteEntry) (os : List (ObjRef × Val)) : State × WriteAns :=
  let (k, moved) := s.target es
  match s.checkRules (s.projected k os) os with
  | some (n, st) =>
    let e := (es[n]?).getD {}
    s.refuse st e.index e.sub
  | none => s.stageItem bundle level path es k moved

/-- An immediate write (R482): its effect, and its status. -/
def State.immediate (s : State) (path : Nat) (o : ObjRef) (v : Val) : State × Nat :=
  if o.row.base = 0x9821 then s.writeChunk v.bytes
  else if o.row.base = 0x502C then (s.aidTime v.num.toNat, stDone)
  else (s.selectSess path v.num.toNat, stDone)

/-- A single write (R478, R482). -/
def State.stageWrite (s : State) (level path : Nat) (e : WriteEntry) : State × WriteAns :=
  if s.noStaging then (s, { status := stBusy })
  else
    match s.checkWrite level e.index e.sub e.value with
    | .error st => s.refuse st e.index e.sub
    | .ok (o, v) =>
      if o.row.im then
        let (s, st) := s.immediate path o v
        if st = stDone then (s, { status := stDone }) else s.refuse st e.index e.sub
      else s.stageChecked false level path [e] [(o, v)]

/-- The checks of R481 on an entry of a bundle, after the entries before it. -/
def State.bundleEntry (s : State) (level : Nat) (before : List WriteEntry) (e : WriteEntry) : Except Nat (ObjRef × Val) :=
  match s.objPresent e.index e.sub with
  | none => .error stAbsent
  | some o =>
    if !o.row.b || o.twin || before.any fun x => x.key == e.key then .error stNotBundlable
    else s.checkWrite level e.index e.sub e.value

/-- The per-entry checks of a bundle in entry order: its objects and values, or the first entry that fails and its status. -/
def State.bundleEntries (s : State) (level : Nat) (before : List WriteEntry) : List WriteEntry → Except (WriteEntry × Nat) (List (ObjRef × Val))
  | [] => .ok []
  | e :: t =>
    match s.bundleEntry level before e with
    | .error st => .error (e, st)
    | .ok o =>
      match s.bundleEntries level (before ++ [e]) t with
      | .error x => .error x
      | .ok os => .ok (o :: os)

/-- A bundle (R480, R481). -/
def State.stageBundle (s : State) (level path : Nat) (es : List WriteEntry) : State × WriteAns :=
  if s.noStaging then (s, { status := stBusy })
  else
    match s.bundleEntries level [] es with
    | .error (e, st) => s.refuse st e.index e.sub
    | .ok os => s.stageChecked true level path es os

/-- A RESTORE_DEFAULTS occupies a set alone; what was staged into that set reads SUPERSEDED (R483). -/
def State.stageRestore (s : State) : State × WriteAns :=
  let k0 := if s.stagingClosed then 1 else 0
  let k := k0 + ((s.sets.drop k0).takeWhile fun c => c.restore.isSome).length
  let t := tickIdent (s.setTod k)
  let cs := s.sets ++ List.replicate (k + 1 - s.sets.length) ({} : CommitSet)
  let gone := (((cs[k]?).getD {}).live).map fun i => i.handle
  let s := (s.putSets (cs.set k { restore := some (s.valN Obj.gran_handle + 1) })).each gone fun s h => s.endHandle h stSuperseded
  let (s, h) := s.newHandle { status := stPending, sec := t.1, tick := t.2 }
  (s, { status := stPending, handle := h, sec := t.1, tick := t.2 })

/-- A STORE joins the one that waits, or waits itself (R503): its handle. -/
def State.stageStore (s : State) : State × WriteAns :=
  let t := tickIdent (s.setTod 0)
  match s.gran.storeNext with
  | some j =>
    let r := ((s.gran.handles.find? fun e => e.1 == j.handle).map Prod.snd).getD {}
    (s, { status := stPending, handle := j.handle, sec := r.sec, tick := r.tick })
  | none =>
    let (s, h) := s.newHandle { status := stPending, sec := t.1, tick := t.2 }
    (s.modGran fun g => { g with storeNext := some { handle := h } }, { status := stPending, handle := h })

end Sys2Proof.Machine
end

