-- ==== Sys2Proof/Machine/TitheUnit.lean ====
section
/-! DEFINITION. Tithe (R546 to R553): counters, the latch at a boundary, freezing, clears. The events of a block that
the model does not see occur are an operand of the boundary (log entry 2). -/
namespace Sys2Proof.Machine

/-- What a block counted in the tick that ends joins its counters: its cycles, and the events that do not count where they occur (R547, log
entry 67). -/
def State.titheCount (s : State) (i : TitheIn) : State :=
  let b := i.block.val
  if s.titheFenced b then s
  else
    let codes := (List.range 8).map fun e => (e, s.effN Obj.tithe_event b e)
    let x := (vat s.tithe.blocks b {}).add 8 i.cycles
    let x := (i.events.filter fun ev => !titheOwn b ev.1).foldl (fun x ev =>
      (codes.filter fun c => c.2 == ev.1 && c.2 != 0).foldl (fun x c => x.add c.1 ev.2) x) x
    s.modTithe fun t => { t with blocks := vmod t.blocks b fun _ => x }

/-- TITHE_SNAPSHOT (R550): every counter and SAT flag is latched; the reads of Tithe objects return the latch. -/
def State.titheLatch (s : State) : State :=
  s.modTithe fun t =>
    { t with blocks := t.blocks.map fun x => { x with snapCycles := x.cycles, snapCounts := x.counts, snapSat := x.sat } }

/-- Action 1 of a boundary (R39, R550, R552): a frozen store latches only where a write of 0 commits. The flag says whether it did. -/
def State.titheTick (s : State) (ins : List TitheIn) (resume : Bool) : State × Bool :=
  let s := s.each ins State.titheCount
  if s.tithe.frozen && !resume then (s, false) else (s.titheLatch, true)

/-- The boundary that the snapshot names (R550), and a freeze that a presentation asked for (R553). -/
def State.titheName (s : State) (latched : Bool) : State :=
  let s := if latched then
      ((s.setN Obj.tithe_snap_seconds s.tc.tickSec).setN Obj.tithe_snap_tick s.tc.tickNo).setN Obj.tithe_snap_id
        (((s.valN Obj.tithe_snap_id + 1) % 2 ^ 32 : Nat) : Int)
    else s
  if s.tithe.freezeNext then
    (s.modTithe fun t => { t with freezeNext := false, frozen := true }).setN Obj.tithe_freeze 2
  else s

/-- A committed write to `tithe.freeze` (R552). -/
def State.commitFreeze (s : State) (v : Nat) : State :=
  (s.modTithe fun t => { t with frozen := v == 1, freezeNext := false }).setN Obj.tithe_freeze (if v = 1 then 2 else 0)

/-- A committed change of `tithe.event` (R551): the counter counts from zero with SAT clear. -/
def State.commitEvent (s : State) (b e : Nat) : State :=
  s.modTithe fun t => { t with blocks := vmod t.blocks b fun x =>
    { x with counts := vmod x.counts e fun _ => 0, sat := if x.sat.testBit e then x.sat - 2 ^ e else x.sat } }

/-- A committed write of 1 to `tithe.clear` (R551). -/
def State.commitTitheClear (s : State) (b : Nat) : State :=
  (s.modTithe fun t => { t with blocks := vmod t.blocks b fun x =>
    { x with cycles := 0, counts := Vector.replicate 8 0, sat := 0 } }).setN Obj.tithe_clear 2 b

end Sys2Proof.Machine
end

