-- ==== Sys2Proof/Machine/Commit.lean ====
section
/-! DEFINITION. The commit of a set at a tick boundary (15_granary_atton.md R476 to R485): what each object's change or write does to its
unit, the key slots (R398, R435), and the drain of what a commit has disabled (R47). -/
namespace Sys2Proof.Machine

/-! ### Drains (R47, R48) -/

/-- A function of a class is disabled at this boundary: what is in flight drains until DRAIN_END. -/
def State.beginDrain (s : State) (cls el : Nat) : State :=
  { s with net := { s.net with drains := s.net.drains ++ [(cls, el, s.tc.boundaries)] } }

/-- Flail jobs dropped by a drain: their reservations and cells return. -/
def State.drainJobs (s : State) (cls : Nat) (sel : FlailJob → Bool) : State :=
  let gone := s.net.flail.jobs.filter sel
  let s := s.each gone fun s j =>
    match j.work with
    | .kiss _ => s.useCells j.port j.queue (-(j.cells : Int))
    | _ => s.releaseJob j
  let s : State := { s with net := { s.net with flail := { s.net.flail with jobs := s.net.flail.jobs.filter fun j => !sel j } } }
  s.drained cls gone.length

/-- Waiting frames dropped by a drain. -/
def State.drainFrames (s : State) (cls : Nat) (sel : RxFrame → Bool) : State :=
  let gone := s.net.waiting.filter sel
  (s.each gone State.takeRx).drained cls gone.length

/-- A job of the NTS service. -/
def FlailJob.isNts (j : FlailJob) : Bool :=
  match j.work with
  | .nts _ _ => true
  | .kiss _ => true
  | _ => false

/-- A job of a PTP instance. -/
def FlailJob.isPtp (i : Nat) (j : FlailJob) : Bool :=
  match j.work with
  | .sign u _ _ => u == i
  | _ => false

/-- A job holds a key. -/
def FlailJob.holds (k : Bytes) (j : FlailJob) : Bool := j.key == k || j.mint == k

/-- The end of one drain: class, element and the boundary of the commit (R47, R398). Class 0: waiting NTP requests to a served
entry (64 x port + entry) that was removed or has another instance. Class 1: jobs of the NTS service (element 8) or those that hold the key of a
slot. Classes 2 to 5: frames, Follow_Ups and jobs of a PTP instance (element 4), or the jobs that hold the key of a slot. Class 7: results of a
channel or difference unit that wait for a TB_IN edge. Class 8: searches and solutions of the Gleaner. Class 9: the queue of a Cremin link. Class
10: NOTIFYs of freed associations. Class 11: the message of a UART whose format is NONE. What is enabled again keeps what is left (log entry 62). -/
def State.endDrain (s : State) (d : Nat × Nat × Nat) : State :=
  let (cls, el, b) := d
  let old (f : RxFrame) : Bool := decide (f.tick < b)
  if cls = 0 then
    s.drainFrames 0 fun f => f.kind == .ntp && 64 * f.port + f.entry.getD 64 == el && old f
  else if cls = 1 then
    if el = 8 then (if s.effT Obj.nts_enable then s else s.drainJobs 1 FlailJob.isNts)
    else
      let k := vat s.net.nts el {}
      let s := s.drainJobs 1 fun j => j.isNts && j.holds k.key
      let s : State := { s with net := { s.net with nts := vmod s.net.nts el fun _ => {} } }
      ((s.setN Obj.nts_key_check 0 el).setEff Obj.nts_key_state el 0 (.n 0)).setEff Obj.nts_key_id el 0 (.n 0)
  else if cls = 7 then
    let gone := if s.ticDisabled el then s.tic.waits.filter fun w => w.unit == el else []
    ({ s with tic := { s.tic with waits := s.tic.waits.filter fun w => !gone.contains w } } : State).drained 7 gone.length
  else if cls = 8 then (if s.gnssOn then s else s.gnssStop.drained 8 s.gnssInFlight)
  else if cls = 9 then
    if s.linkRuns el then s
    else
      let n := (s.link el).queue.length
      (s.modLink el fun x => { x with queue := [] }).drained 9 n
  else if cls = 10 then
    let n := s.gran.draining.length
    (s.modGran fun g => { g with draining := [] }).drained 10 n
  else if cls = 11 then
    if s.effN Obj.uart_format el ≠ 0 then s
    else
      let (s, n) := s.cutUart el
      s.drained 11 n
  else if 2 ≤ cls ∧ cls ≤ 5 then
    let i := cls - 2
    if el = 4 then
      if s.effT Obj.ptp_enable i then s
      else
        let s := s.drainFrames cls fun f => f.kind == .ptp && old f && s.ptpMatch i f (ptpIn f)
        let l := (s.ptp i).fups
        let s := (s.each l fun s e => s.dropFup i e).drained cls l.length
        s.drainJobs cls (FlailJob.isPtp i)
    else
      let k := s.ptpKey i el
      let s := s.drainJobs cls fun j => j.isPtp i && j.holds k.key
      let s := s.modPtp i fun x => { x with keys := vmod x.keys el fun _ => {} }
      (((s.setN Obj.ptp_key_check 0 i el).setEff Obj.ptp_key_state i el (.n 0)).setEff Obj.ptp_key_id i el (.n 0)).setEff Obj.ptp_key_alg i el (.n 0)
  else s

/-- DRAIN_END (R47): at the second boundary after the commit, what remains is dropped and counted. -/
def drainEndEff (s : State) : State :=
  let due (d : Nat × Nat × Nat) : Bool := decide (d.2.2 + 2 ≤ s.tc.boundaries)
  let now := s.net.drains.filter due
  let s : State := { s with net := { s.net with drains := s.net.drains.filter fun d => !due d } }
  s.each now State.endDrain

/-- DRAIN_END (R47). -/
def execDrainEnd (s : State) : Host.Outcome State Fault Refusal := .next (drainEndEff s)

/-! ### Key slots (R398, R435) -/

/-- One event of the table of R398 for a slot whose configured state, key, key ID and algorithm are given. -/
def KeySlot.event (k : KeySlot) (st id alg : Nat) (key : Bytes) : KeySlot :=
  if k.state = 0 then (if st = 0 then k else { key := key, id := id, alg := alg, state := st })
  else if k.state = 3 then k
  else if st = 0 then { k with state := 3 }
  else { k with state := st, id := id, alg := alg }

/-- The NTS key slots follow their configuration at a boundary (R398, R401). -/
def State.ntsSlots (s : State) : State :=
  s.each (List.range 8) fun s i =>
    let old := vat s.net.nts i {}
    let new := old.event (s.cfgN Obj.nts_key_state i).toNat (s.cfgN Obj.nts_key_id i).toNat 0 (s.cfg Obj.nts_key i).bytes
    if new = old then s
    else
      let s : State := { s with net := { s.net with nts := vmod s.net.nts i fun _ => new } }
      let s := (s.setEff Obj.nts_key_state i 0 (.n new.state)).setEff Obj.nts_key_id i 0 (.n new.id)
      let s := if old.state = 0 then s.setN Obj.nts_key_check (keyCheck new.key) i else s
      if new.state = 3 then s.beginDrain 1 i else s

/-- The key slots of the PTP instances follow their configuration at a boundary (R435). -/
def State.ptpSlots (s : State) : State :=
  s.each (List.range 4) fun s i => s.each (List.range 4) fun s k =>
    let old := s.ptpKey i k
    let new := old.event (s.cfgN Obj.ptp_key_state i k).toNat (s.cfgN Obj.ptp_key_id i k).toNat (s.cfgN Obj.ptp_key_alg i k).toNat
      (s.cfg Obj.ptp_key i k).bytes
    if new = old then s
    else
      let s := s.modPtp i fun x => { x with keys := vmod x.keys k fun _ => new }
      let s := ((s.setEff Obj.ptp_key_state i k (.n new.state)).setEff Obj.ptp_key_id i k (.n new.id)).setEff Obj.ptp_key_alg i k (.n new.alg)
      let s := s.setN Obj.ptp_key_check (beNat ((icvOf new.alg new.key (zeros 16)).take 4)) i k
      if new.state = 3 then s.beginDrain (2 + i) k else s

/-- A management key in effect from a boundary on (R488, R507). -/
def State.putAttonKey (s : State) (l : Nat) (key : Bytes) : State :=
  let s := s.modGran fun g => { g with keys := vmod g.keys l fun _ => key }
  s.setN Obj.atton_key_check (if key = zeros 16 then 0 else (beNat ((Crypto.cmac key (zeros 16)).take 4) : Nat)) (l - 1)

/-! ### What a change does (the chapters' rules on a commit) -/

/-- Objects whose value in effect does not simply follow the commit: `fly.type` and `fly.freq` (R162), the UTC objects (R90, R92),
`tod.increment` (R85), and the key slots (R398, R435). A worker's `crem.system_id` follows its upstream (R449); `gnss.enable` and
`nts.enable` stay false while the region of their unit is lost (R522), and `gnss.enable` under NO_GLEANER (R564). -/
def State.followsAlone (s : State) (o : ObjRef) : Bool :=
  let b := o.row.base
  b == 0x2A00 || b == 0x2A01 || (decide (0x2030 ≤ b) && decide (b ≤ 0x2033)) || b == 0x2010 || b == 0x7110 || b == 0x743C ||
    (b == 0x7803 && !s.dev.manager) || (b == 0x5000 && (s.boot.plan.testBit planNoGleaner || s.win.bankLost.any fun k => decide (56 ≤ k) && decide (k < 60))) ||
    (b == 0x7100 && s.win.bankLost.any fun k => decide (60 ≤ k) && decide (k < 64))

/-- A change of `mac.served` (R335, R338): a new entry is announced, and requests to a removed one drain. -/
def State.servedChange (a s : State) (p i : Nat) : State :=
  let old := a.effB Obj.mac_served p i
  let new := s.effB Obj.mac_served p i
  let s := if entFam old ≠ 0 && (!(entFam new == entFam old && entAddr new == entAddr old) || (entSvc old 0 && !entSvc new 0)) then s.beginDrain 0 (64 * p + i) else s
  if entFam new ≠ 0 && s.effT Obj.mac_announce p then s.announce p i else s

/-- A disabled unit's results that wait for a TB_IN edge drain (R47). -/
def State.ticOff (s : State) (u : Nat) : State :=
  if s.ticDisabled u && s.tic.waits.any (fun w => w.unit == u) then s.beginDrain 7 u else s

/-- A change of an object of a PTP instance (R409, R430, R436): sessions of a disabled or changed instance are freed. -/
def State.ptpChange (s : State) (o : ObjRef) : State :=
  let i := o.i
  let b := o.row.base
  let off := b = 0x7400 && !s.effT Obj.ptp_enable i
  let s := if off || b = 0x7401 || b = 0x7402 || b = 0x7403 then s.freeSessions i else s
  let s := if off then s.beginDrain (2 + i) 4 else s
  (s.putAsCapable i).slavesRefresh

/-- What a changed object does to its unit, once every change of the set is in effect; `a` is the state before. -/
def State.changed (a s : State) (o : ObjRef) : State :=
  let b := o.row.base
  let i := o.i
  if b = 0x2010 then s.commitIncrement (s.cfgN Obj.tod_increment).toNat
  else if b = 0x2021 then s.commitSlewRate (s.effN Obj.tod_slew_rate)
  else if b = 0x2032 ∨ b = 0x2033 then { s with tc := { s.tc with leapEnded := false } }
  else if b = 0x2064 then s.commitForce
  else if b = 0x3000 then s.commitDpllRef i
  else if b = 0x3003 ∨ b = 0x3004 then s.commitBw i
  else if b = 0x3005 then s.commitInt2 i
  else if b = 0x300C then State.commitRamp a s i
  else if b = 0x3908 then s.putPps i
  else if b = 0x30F0 then s.putLockPd
  else if b = 0x3800 then s.commitOutEnable i
  else if 0x3801 ≤ b ∧ b ≤ 0x3803 then s.commitOutLoad i
  else if b = 0x3902 then s.commitPpsSource i
  else if b = 0x3920 then (if s.effN Obj.uart_format i = 0 then s.beginDrain 11 i else s)
  else if b = 0x4000 ∨ (0x4004 ≤ b ∧ b ≤ 0x4008) then State.commitTic a s
  else if 0x4100 ≤ b ∧ b ≤ 0x4108 then (State.commitChan a s i).ticOff i
  else if 0x4180 ≤ b ∧ b ≤ 0x4183 then (s.closeDiff i).ticOff (8 + i)
  else if b = 0x5000 then s.commitGnssEnable
  else if b = 0x5001 ∨ b = 0x5002 ∨ b = 0x502B then s.commitGnssSignals
  else if b = 0x5003 then s.commitRefSystem
  else if b = 0x5004 then s.commitPosMode
  else if b = 0x6100 ∨ b = 0x6107 ∨ b = 0x610F then s.retakeLink i
  else if b = 0x6120 then State.servedChange a s i o.j
  else if b = 0x6181 then s.resetActive i
  else if b = 0x6186 ∨ b = 0x6188 then s.resetShaper i o.j
  else if b = 0x6A08 then s.polReset
  else if b = 0x7040 then s.beginDrain 0 (64 * i + o.j)
  else if b = 0x7100 then (if s.effT Obj.nts_enable then s else s.beginDrain 1 8)
  else if b = 0x7810 then
    let s := if s.role i = 0 then s.beginDrain 9 i else s
    s.commitRole i
  else if b = 0x7800 then
    s.each (List.range 4) fun s l => (if s.effT Obj.crem_enable then s else s.beginDrain 9 l).commitRole l
  else if b = 0x1110 then s.putAttonKey (i + 1) (s.cfg Obj.atton_key i).bytes
  else if b = 0x8900 then s.commitEvent i o.j
  else if b = 0x9020 then s.redecode
  else if 0x7400 ≤ b ∧ b ≤ 0x7427 then s.ptpChange o
  else s

/-! ### Actions -/

/-- `atton.assoc_reset` (R475, R501): every association is freed, and a new boot identifier is drawn. -/
def State.assocReset (s : State) : State :=
  let left := s.gran.assocs.flatMap fun e => e.2.notify.map fun m => (e.2.back, m)
  let s := (if left.isEmpty then s else s.beginDrain 10 0).modGran fun g =>
    { g with draining := g.draining ++ left, assocs := [], subs := g.subs.filter fun u => u.owner == pathSpi, spiWin := Vector.replicate 4 {} }
  let s : State := { s with net := { s.net with selSess := s.net.selSess.filter fun e => decide (pathSpi ≤ e.1) } }
  let (s, b) := s.random 4
  ((s.setN Obj.atton_boot_id (beNat b)).setN Obj.atton_assocs 0).setN Obj.atton_assoc_reset 2

/-- A write of an action object takes effect (R16, R479); `lvl` is the level of the write as R19 numbers it. The reset of `boot.restart`
is made at the end of the commit. -/
def State.action (s : State) (lvl : Nat) (o : ObjRef) (v : Val) : State :=
  let b := o.row.base
  let n := v.num.toNat
  if b = 0x2020 then (s.commitSlew v.num).addManual v.num.natAbs
  else if b = 0x202A then s.commitStep v.num
  else if b = 0x2040 then (if n = 1 then s.commitArm o.i (lvl - 1) else s.commitCancel o.i)
  else if b = 0x2103 then s.commitCalibrate o.i
  else if b = 0x2246 then s.clearPath o.i
  else if b = 0x2A35 then s.resetModel.setN Obj.hold_model_reset 2
  else if b = 0x2A47 then s.setN Obj.fly_recentre_now 1
  else if b = 0x300D then s.commitRealign o.i
  else if b = 0x500B then s.commitResurvey
  else if b = 0x501A then s.commitFeReinit
  else if b = 0x502F then (if n = 1 then s.dropGnssRecord else s).commitGnssRestart n
  else if b = 0x1104 then s.assocReset
  else if b = 0x8004 then s.commitWinClear n
  else if b = 0x8005 then s.commitPinClear
  else if b = 0x8800 then s.commitFreeze n
  else if b = 0x8903 then s.commitTitheClear o.i
  else if b = 0x9809 then s.commitSecver
  else if b = 0x9820 then s.commitInstBegin v.bytes
  else if b = 0x9822 then s.commitInstFinish
  else if b = 0x9823 then s.commitInstActivate
  else if b = 0x9824 then s.commitInstAbort
  else s

/-! ### The commit of a set -/

/-- The entries of an item as objects and values. -/
def Staged.parsed (i : Staged) : List (ObjRef × Val) := i.entries.filterMap WriteEntry.parse

/-- Whether an item's writes to `tod.slew` pass at the commit (R72, R480), given the slew remaining and the largest slew: the item
commits whole, with the remaining slew and the limit it leaves, or it is refused. -/
def slewItem (acc : Int × Int) : List (ObjRef × Val) → Option (Int × Int)
  | [] => some acc
  | (o, v) :: t =>
    if o.row.base = 0x2020 then
      let r := acc.1 + psToU v.num
      if acc.2 < (r.natAbs : Int) then none else slewItem (r, acc.2) t
    else slewItem acc t

/-- The largest slew that an item sets, or the one before it. -/
def slewLimit (m : Int) (es : List (ObjRef × Val)) : Int :=
  match es.find? fun e => e.1.row.base == 0x2022 with
  | some e => psToU e.2.num
  | none => m

/-- The items of a set that commit, and those that R72 refuses: an item is judged by the largest slew that it or an item before it leaves, and
its amounts are then added whatever a later item sets (log entry 50). -/
def splitItems : Int × Int → List Staged → List Staged × List Staged
  | _, [] => ([], [])
  | acc, i :: t =>
    let m := slewLimit acc.2 i.parsed
    match slewItem (acc.1, m) i.parsed with
    | some acc' =>
      let r := splitItems acc' t
      (i :: r.1, r.2)
    | none =>
      let r := splitItems acc t
      (r.1, i :: r.2)

/-- Keys at which two stores differ. -/
def Store.differ (a b : Store) : List Nat :=
  let ka := (a.filter fun e => b.find e.1 != some e.2).map Prod.fst
  let kb := (b.filter fun e => (a.find e.1).isNone).map Prod.fst
  ka ++ kb

/-- Values in effect follow the changed objects, and each change does its work (R18, R49). Leap objects count as changed when they are
written at all (R92). -/
def State.applyChanges (a s : State) (written : List Nat) : State :=
  let keys := a.dict.cfg.differ s.dict.cfg
  let keys := keys ++ written.filter fun k => !keys.contains k && (k == Obj.tod_leap_pending.key 0 0 || k == Obj.tod_leap_time.key 0 0 || k == Obj.tod_increment.key 0 0)
  let os := keys.filterMap objAt
  let s := s.each os fun s o => if o.row.twin = 0 || s.followsAlone o then s else s.setEff o.row o.i o.j (s.cfg o.row o.i o.j)
  s.each os (State.changed a)

/-- A commit of items that nothing has superseded: plain writes, then the actions in staging order, then `boot.restart`. The result says
which handles have committed. -/
def State.commitItems (s : State) (items : List Staged) : State × List Nat :=
  let (ok, bad) := splitItems (s.tc.outRegs.slewRem, s.slewMax) items
  let all := (ok.map Staged.parsed).flatten
  let a := s
  let s := State.applyChanges a (s.withWrites all) (all.map fun e => e.1.key)
  let s := s.each bad fun s i => s.endHandle i.handle stRange
  let s := s.each ok fun s i => s.endHandle i.handle stDone
  let n := (ok.map fun i => i.entries.length).sum
  let s := (s.count Obj.gran_commits 0 0 n).setN Obj.gran_last_set n
  let s := s.each ok fun s i => s.each (i.parsed.filter fun e => e.1.row.acc == .rwx) fun s e => s.action i.level e.1 e.2
  let s := match (all.filter fun e => e.1.row.base == 0x9807).getLast? with
    | some e => s.commitRestart e.2.num.toNat
    | none => s
  (s, ok.map fun i => i.handle)

/-- A RESTORE_DEFAULTS commits (R483). -/
def State.commitRestore (s : State) (h : Nat) : State × List Nat :=
  let s := State.applyChanges s s.defaultCfg []
  ((s.endHandle h stDone).setN Obj.gran_last_set 0, [h])

/-- The commit set of the boundary commits, and the following set opens (R476). -/
def State.commitSet (s : State) : State × List Nat :=
  let c := s.gran.cur
  let s := s.putSets (s.gran.later.headD {} :: s.gran.later.tail)
  match c.restore with
  | some h => s.commitRestore h
  | none => s.commitItems c.live

/-- Handles that have committed name the boundary at which they did (R484). -/
def State.stampHandles (s : State) (hs : List Nat) : State :=
  s.each hs fun s h => s.setHandle h fun r => { r with sec := s.tc.tickSec, tick := s.tc.tickNo }

/-! ### Writes as they reach the Granary -/

/-- In RECOVERY the Reeve serves the writes, and what is staged takes effect at once (R568, log entry 37). -/
def State.recoverNow (s : State) (x : State × WriteAns) : State × WriteAns :=
  if s.boot.recovery && x.2.status == stPending then
    let (t, hs) := x.1.commitSet
    (t.stampHandles hs, x.2)
  else x

/-- A single write that reaches the Granary (R478, R482). -/
def State.write (s : State) (level path : Nat) (e : WriteEntry) : State × WriteAns := s.recoverNow (s.stageWrite level path e)

/-- A bundle that reaches the Granary (R480, R481). -/
def State.bundle (s : State) (level path : Nat) (es : List WriteEntry) : State × WriteAns := s.recoverNow (s.stageBundle level path es)

/-- A number as the octets of a type; one octet too few where the type does not hold it, so that the write meets TYPE (R478). -/
def numOctets (t : Ty) (v : Int) : Bytes :=
  let b := encodeVal t (.n v)
  if decodeVal t b = some (.n v) then b else b.drop 1

/-- A write of a number to an object by a command of its own, on the internal path (R474). -/
def State.writeNum (s : State) (lvl : Level) (r : Row) (v : Int) (i : Nat := 0) (j : Nat := 0) : State :=
  let k := r.key i j
  (s.write (lvl.val + 1) pathInternal { index := k / 256, sub := k % 256, value := numOctets r.ty v }).1

/-- A write of octets to an object by a command of its own. -/
def State.writeOctets (s : State) (lvl : Level) (r : Row) (v : Bytes) : State :=
  (s.write (lvl.val + 1) pathInternal { index := r.base, sub := r.sub, value := v }).1

/-- CONFIG_WRITE (R18, R478). -/
def configWriteEff (lvl : Level) (index sub : Nat) (value : Bytes) (s : State) : State :=
  (s.write (lvl.val + 1) pathInternal { index := index, sub := sub, value := value }).1

/-- CONFIG_WRITE (R18). -/
def execConfigWrite (lvl : Level) (index sub : Nat) (value : Bytes) (s : State) : Host.Outcome State Fault Refusal :=
  .next (configWriteEff lvl index sub value s)

end Sys2Proof.Machine
end

