-- ==== Sys2Proof/Machine/Views.lean ====
section
/-! DEFINITION. Reads of the dictionary (R16, R472, R473, R491): objects that show what a unit holds, and the reading of one object on an
access path, with the effect of an RC read. -/
namespace Sys2Proof.Machine

/-- A bit of a status word. -/
def flag (c : Bool) (k : Nat) : Nat := if c then 2 ^ k else 0

/-- `tod.keepers` (R95). -/
def State.viewKeepers (s : State) : Nat :=
  let t := s.tc
  flag t.k0.trusted 0 + flag t.k1.trusted 1 + flag t.k2.trusted 2 + flag t.k0.failed 3 + flag t.k1.failed 4 + flag t.k2.failed 5 + flag t.split 6

/-- `win.status` (R532): LOST is held in the store, the other bits are seen where they arise. -/
def State.viewWinStatus (s : State) : Nat :=
  s.valN Obj.win_status % 2 + flag s.win.first.isSome 1 + flag s.win.busy 2 + flag s.win.pinLatch 3 + flag s.win.heartLost 4 + flag s.win.aliveStop 5

/-- `win.degraded` (R524): bits 14 and 15 follow their conditions. -/
def State.viewDegraded (s : State) : Nat := s.win.degraded + flag s.win.heartLost 14 + flag s.win.pinLatch 15

/-- `win.src.state` (R532): INT pending and raised-since-start are held in the store. -/
def State.viewSrcState (s : State) (x : Nat) : Nat :=
  (s.valN Obj.win_src_state x &&& 10) + flag (vat s.win.srcs x {}).active 0 + flag (s.win.fenced.contains x) 2

/-- `queue.state` (R352, R366). -/
def State.viewQueueState (s : State) (p q : Nat) : Nat :=
  let x := s.queue p q
  if x.fifo.isEmpty then 0 else if x.held then 2 else if s.eligibleQ p q then 1 else 3

/-- `ntp.smear_offset` (R382): k x r in ps of the smeared second. -/
def State.viewSmear (s : State) (i : Nat) : Int :=
  let m := s.smear i
  if m.held && decide (m.start ≤ s.tod) then ratRound ((m.k : Rat) * m.ratio s.tod * 1000000000000) else 0

/-- An action object shows PENDING while a write of one of some values waits in a commit set (R552, R551, R567). -/
def State.staged (s : State) (k : Nat) (vs : List Nat) : Option Nat :=
  ((s.sets.map CommitSet.live).flatten.map fun i => i.entries).flatten.findSome? fun e =>
    if e.key = k && vs.contains (beNat e.value) then some (beNat e.value) else none

/-- `tithe.freeze` (R552): 0 RUNNING, 1 freeze pending, 2 FROZEN, 3 resume pending. -/
def State.viewFreeze (s : State) : Nat :=
  match s.staged (Obj.tithe_freeze.key 0 0) [0, 1] with
  | some 0 => if s.tithe.frozen then 3 else 0
  | some _ => if s.tithe.frozen then 2 else 1
  | none => if s.tithe.freezeNext then 1 else s.valN Obj.tithe_freeze

/-- The octets of `ref.source_scruple` of S8 to S23 (R160). -/
def State.viewTerm (s : State) (n : Nat) : Nat := if n ≤ 12 || n == 21 || n == 22 then (s.slot n).srcTerm else unbounded

/-- The value of an object that shows what a unit holds; none for the objects whose value is held in the dictionary's stores. -/
def State.view (s : State) (path : Nat) (o : ObjRef) : Option Val :=
  let i := o.i
  let j := o.j
  let num (v : Nat) : Option Val := some (.n v)
  let fr (q : Rat) : Option Val := some (.n (ratFreq q))
  let m := s.model
  if o.twin then
    match o.row.base with
    | 0x2806 => if 8 ≤ i then num (s.viewTerm i) else none
    | 0x3000 => if i = 0 then num (if s.hold.timebaseFly then 16 else 17) else none
    | 0x6100 => num (s.mode i)
    | 0x7810 => num (s.role i)
    | _ => none
  else
    match o.row.base, o.row.sub with
    | 0x2000, _ => num (time128 s.tod)
    | 0x2003, _ => num s.viewKeepers
    | 0x2020, _ => some (.n (uToPs s.tc.slewShown))
    | 0x2035, _ => num (if s.inLeap then 1 else 0)
    | 0x2121, _ => num (s.port i).fifoStamp.length
    | 0x2806, _ => if 8 ≤ i then num (s.viewTerm i) else none
    | 0x280D, _ => num (s.refStatus i)
    | 0x2A22, _ => num m.state
    | 0x2A26, _ => some (.n s.viewFPred)
    | 0x2A27, _ => some (.n s.viewBand)
    | 0x2A28, _ => fr m.ufAll
    | 0x2A29, _ => fr (m.d * 86400)
    | 0x2A2A, _ => fr (m.ud * 86400)
    | 0x2A2B, _ => fr m.k
    | 0x2A2C, _ => fr m.uk
    | 0x3000, _ => if i = 0 then num (if s.hold.timebaseFly then 16 else 17) else none
    | 0x3809, _ => num (s.viewOutFreq i)
    | 0x390A, _ => num (s.viewPpsState i)
    | 0x410A, _ => num (s.viewTicBins i)
    | 0x410B, _ => num (s.viewTicAge i)
    | 0x410D, _ => num (s.chan i).queue.length
    | 0x4189, _ => num (s.diff i).queue.length
    | 0x6190, _ => num (s.viewQueueState i j)
    | 0x6191, _ => num (s.queue i j).used
    | 0x61A2, _ => num (s.calHeld i)
    | 0x7023, _ => some (.n (s.viewSmear i))
    | 0x7102, _ => num (((s.net.nts.toList.find? fun k => k.state == 2).map KeySlot.id).getD 0)
    | 0x742E, _ => num (s.classNow i)
    | 0x7430, _ => num (s.net.sessions.filter fun x => x.inst == i).length
    | 0x7500, _ => num (((s.net.selSess.find? fun e => e.1 == path).map Prod.snd).getD 0)
    | 0x7501, _ => some (.o (s.sessRecord path))
    | 0x7502, _ => num s.net.sessions.length
    | 0x7504, _ => some (.n s.eventLoad.floor)
    | 0x7804, _ => num s.crem.waddr
    | 0x8002, _ => num s.viewWinStatus
    | 0x8006, _ => num s.viewDegraded
    | 0x8007, _ => num s.viewSpares
    | 0x8008, _ => num s.activeSrcs.length
    | 0x8009, _ => num s.highestSev
    | 0x8300, _ => some (.o (s.win.first.getD (zeros 32)))
    | 0x8800, _ => num s.viewFreeze
    | 0x8902, 0 => num (vat s.tithe.blocks i {}).snapCycles
    | 0x8902, _ => num (vat (vat s.tithe.blocks i {}).snapCounts j 0)
    | 0x8903, 0 => num (vat s.tithe.blocks i {}).snapSat
    | 0x8903, _ => if (s.staged (o.row.key i 0) [1]).isSome then num 1 else none
    | 0x9800, _ => num s.viewBootState
    | 0x9801, _ => some (.o s.makeLedger)
    | 0x9802, _ => some (.o (s.viewHistory i))
    | 0x9803, _ => num s.boot.streak
    | 0x9804, _ => num s.boot.plan
    | 0x9805, _ => num s.boot.bank
    | 0x9807, _ => num (if (s.staged (o.row.key 0 0) [1, 2]).isSome then 1 else 0)
    | 0x980B, _ => num s.boot.starts
    | 0x9810, _ => num (s.viewBankState i)
    | 0x9811, _ => num (s.viewBankVersion i)
    | 0x9820, _ => num s.instState
    | 0x9822, _ => num s.instState
    | 0x9823, _ => num s.instState
    | 0x9824, _ => num s.instState
    | b, sub => if b = 0x8100 && sub = 5 then num (s.viewSrcState i) else none

/-- The value of an object (R473): configured, in effect, or what its unit shows. -/
def State.look (s : State) (path : Nat) (o : ObjRef) : Val :=
  match s.view path o with
  | some v => v
  | none =>
    if o.twin then s.eff o.row o.i o.j
    else
      match o.row.acc with
      | .rw => s.cfg o.row o.i o.j
      | .wo => o.row.dflt s.dev o.i o.j
      | _ => s.val o.row o.i o.j

/-- The octets of an object. `install.begin`, whose type is OCTETS, reads the code of `install.state` (R589). -/
def State.lookOctets (s : State) (path : Nat) (o : ObjRef) : Bytes :=
  if o.row.base = 0x9820 then beBytes 1 s.instState else encodeVal o.row.ty (s.look path o)

/-- The signals on the interrupt pins follow what a read has cleared (R525). -/
def State.clearRc (s : State) (o : ObjRef) : State := (s.setVal o.row o.i o.j (o.row.dflt s.dev o.i o.j)).putPins

/-- A read of one object on an access path (R491): its octets; an RC object is cleared as it is read. -/
def State.readObj (s : State) (path : Nat) (o : ObjRef) : State × Bytes :=
  if o.row.acc = .rc && !o.twin then
    if o.row.base = 0x2120 then s.popStamp o.i
    else if o.row.base = 0x410C then
      (s.modChan o.i fun x => { x with queue := x.queue.drop 1 }, (s.chan o.i).queue.headD (zeros 32))
    else if o.row.base = 0x4188 then
      (s.modDiff o.i fun x => { x with queue := x.queue.drop 1 }, (s.diff o.i).queue.headD (zeros 32))
    else if o.row.base = 0x800A then
      let (s, k) := s.intNext
      (s, beBytes 2 k)
    else (s.clearRc o, s.lookOctets path o)
  else (s, s.lookOctets path o)

/-- A read entry served at a level (R489, R490): the result code, and the octets where it is OK. -/
def State.readEntry (s : State) (level path index sub : Nat) : State × Nat × Bytes :=
  match s.objPresent index sub with
  | none => (s, stAbsent, [])
  | some o =>
    if level < o.readLevel then (s, stLevel, [])
    else
      let (s, b) := s.readObj path o
      (s, stOk, b)

/-- The octets that a read entry would return. -/
def State.entryLen (s : State) (level path index sub : Nat) : Nat :=
  match s.objPresent index sub with
  | some o => if level < o.readLevel then 0 else (s.lookOctets path o).length
  | none => 0

/-- The result entries of a list of read entries, served in order. An entry whose value does not fit beside those that follow within
`room` octets is not served, and its result is MALFORMED (log entry 38). -/
def State.readEntries (level path : Nat) : Nat → List (Nat × Nat) → State → State × Bytes
  | _, [], s => (s, [])
  | room, e :: t, s =>
    let fits := decide (6 + s.entryLen level path e.1 e.2 + 6 * t.length ≤ room)
    let (s, st, b) := if fits then s.readEntry level path e.1 e.2 else (s, stMalformed, [])
    let (s, rest) := State.readEntries level path (room - 6 - b.length) t s
    (s, beBytes 2 e.1 ++ beBytes 1 e.2 ++ beBytes 1 st ++ beBytes 2 b.length ++ b ++ rest)

/-- An internal read of an RC object, whose octets are kept (R491). -/
def State.internalRead (s : State) (k : Nat) : State :=
  match s.objPresent (k / 256) (k % 256) with
  | none => s
  | some o =>
    if o.row.acc = .rc && !o.twin then
      let (s, b) := s.readObj pathInternal o
      s.modGran fun g => { g with lastRead := [(k, b)] }
    else s

/-- COUNTER_READ_CLEAR (R491): an RC counter is read and cleared. -/
def counterReadClearEff (index sub : Nat) (s : State) : State := s.internalRead (keyOf index sub)

/-- COUNTER_READ_CLEAR (R491). -/
def execCounterReadClear (index sub : Nat) (s : State) : Host.Outcome State Fault Refusal := .next (counterReadClearEff index sub s)

/-- REF_HISTORY_READ (R159): a slot's history is read and cleared. -/
def refHistoryReadEff (n : Nat) (s : State) : State := s.internalRead (Obj.ref_history.key n 0)

/-- REF_HISTORY_READ (R159). -/
def execRefHistoryRead (n : Fin 24) (s : State) : Host.Outcome State Fault Refusal := .next (refHistoryReadEff n.val s)

end Sys2Proof.Machine
end

