-- ==== Sys2Proof/Machine/Atton.lean ====
section
/-! DEFINITION. The Atton agent (15_granary_atton.md R487 to R502): the checks of a message, the operations, transports, subscriptions,
and the SPI slave; and TUNNEL messages (14_cremin.md R465, R466), which end at the agent. -/
namespace Sys2Proof.Machine

/-- The Atton agent and the SPI slave serve: from the end of boot step B09, or in RECOVERY (R568). -/
def State.attonUp (s : State) : Bool := s.boot.recovery || (s.boot.reached != 0xFF && decide (9 ≤ s.boot.reached))

/-! ### The message (R487, R488) -/

/-- Header field: op. -/
def AttonMsg.op (m : AttonMsg) : Nat := octet m.bytes 1
/-- Header field: level. -/
def AttonMsg.level (m : AttonMsg) : Nat := octet m.bytes 2
/-- Header field: sender. -/
def AttonMsg.sender (m : AttonMsg) : Nat := field m.bytes 4 2
/-- Header field: node. -/
def AttonMsg.node (m : AttonMsg) : Nat := octet m.bytes 6
/-- Header field: seq. -/
def AttonMsg.seq (m : AttonMsg) : Nat := field m.bytes 8 8
/-- Header field: boot_id. -/
def AttonMsg.bootId (m : AttonMsg) : Nat := field m.bytes 20 4
/-- The body. -/
def AttonMsg.body (m : AttonMsg) : Bytes := slice m.bytes 32 (field m.bytes 16 2)
/-- The tag. -/
def AttonMsg.tag (m : AttonMsg) : Bytes := m.bytes.drop (m.bytes.length - 16)

/-- Check 1 of R492. -/
def AttonMsg.wellFormed (m : AttonMsg) : Bool :=
  decide (48 ≤ m.bytes.length) && octet m.bytes 0 == 1 && decide (1 ≤ m.level) && decide (m.level ≤ 3) &&
    m.bytes.length == 48 + field m.bytes 16 2 && decide (field m.bytes 16 2 ≤ 1360)

/-- The management key of a level in effect; zeros while none has been committed (R488). -/
def State.attonKey (s : State) (level : Nat) : Bytes := padTo 16 (vat s.gran.keys level [])

/-- A message of the device: header, body and tag (R487, R488). -/
def State.attonBuild (s : State) (op level sender node seq status : Nat) (body : Bytes) : Bytes :=
  let h := [1#8] ++ beBytes 1 op ++ beBytes 1 level ++ [1#8] ++ beBytes 2 sender ++ beBytes 1 node ++ [0#8] ++ beBytes 8 seq ++
    beBytes 2 body.length ++ beBytes 2 status ++ beBytes 4 (s.valN Obj.atton_boot_id) ++ zeros 8
  h ++ body ++ Crypto.cmac (s.attonKey level) (h ++ body)

/-! ### Transports (R495) -/

/-- The frame that carries a message to a transport address on a port. -/
def State.attonFrame (s : State) (b : Back) (msg : Bytes) : Bytes :=
  let p := b.port
  if b.via = 2 then
    let e := s.effB Obj.mac_served p b.entry
    let a := entAddr e
    let fam := entFam e
    let port := s.effN Obj.atton_udp_port
    let u := udpDatagram fam a b.addr port b.udp msg
    s.buildFrame p e b.ipcp b.mac (if fam = 4 then 0x0800 else 0x86DD) (ipHeader fam 0 u.length 17 64 a b.addr ++ u)
  else if p = 8 then ethFrame b.mac (s.effB Obj.mac_address 8) [] (s.effN Obj.atton_ethertype) msg
  else s.buildFrame p (s.effB Obj.mac_served p b.entry) b.ipcp b.mac (s.effN Obj.atton_ethertype) msg

/-- What is sent in a tick is kept. -/
def State.noteOut (s : State) (b : Back) (msg : Bytes) : State := s.modGran fun g => { g with outSent := g.outSent ++ [(b, msg)] }

/-- A message leaves on a transport; none where a port's queue has no room for it. -/
def State.attonOut (s : State) (b : Back) (msg : Bytes) : Option State :=
  if b.via = 0 then some (s.modGran fun g => { g with spiResp := some msg })
  else if b.via = 3 then some ((s.tunnelOut b.node msg).noteOut b msg)
  else
    (s.enqueue b.port { bytes := s.attonFrame b msg, queue := s.effN Obj.atton_queue, note := .answer }).map fun s => s.noteOut b msg

/-- A message leaves the receive queue, and the cells reserved for its response return. -/
def State.attonPop (s : State) (m : AttonMsg) : State :=
  let s := s.modGran fun g => { g with inbox := g.inbox.drop 1 }
  if m.reserved = 0 then s else s.useCells m.back.port m.queue (-(m.reserved : Int))

/-- The response to a message. -/
def State.attonAnswer (s : State) (m : AttonMsg) (status : Nat) (body : Bytes) : State :=
  (s.attonOut m.back (s.attonBuild m.op m.level m.sender m.node m.seq status body)).getD s

/-! ### Reception (R492, R493) -/

/-- Check 2 of R492: the message is for this device. -/
def State.attonHere (s : State) (m : AttonMsg) : Bool := m.node == 0xFF || (s.crem.node != 0xFF && m.node == s.crem.node)

/-- A sequence number is accepted by a window (R493): the window that results. The number 0 is never accepted (R487). -/
def Window.accept (w : Window) (seq : Nat) : Option Window :=
  if seq = 0 then none
  else if w.top < seq then
    some { top := seq, map := if seq - w.top < 64 then (w.map * 2 ^ (seq - w.top) + 1) % 2 ^ 64 else 1 }
  else
    let d := w.top - seq
    if d < 64 && !w.map.testBit d then some { w with map := w.map + 2 ^ d } else none

/-- The lowest free association number. -/
def State.freeAssoc (s : State) : Option Nat := (List.range 64).find? fun n => !(s.gran.assocs.any fun e => e.1 == n)

/-- An association written. -/
def State.putAssoc (s : State) (n : Nat) (a : Assoc) : State :=
  let rest := s.gran.assocs.filter fun e => e.1 != n
  let s := s.modGran fun g => { g with assocs := rest.filter (fun e => decide (e.1 < n)) ++ [(n, a)] ++ rest.filter fun e => decide (n < e.1) }
  s.setN Obj.atton_assocs s.gran.assocs.length

/-- How the checks 3 to 6 of R492 end: on an access path, discarded at a counter, or answered with a status. -/
inductive Recv where
  | pass (path : Nat)
  | drop (r : Row)
  | reply (status : Nat)

/-- Check 3 of R492. -/
def State.attonTagOk (s : State) (m : AttonMsg) : Bool :=
  let k := s.attonKey m.level
  k != zeros 16 && Crypto.cmac k (m.bytes.take (m.bytes.length - 16)) == m.tag

/-- Checks 3 to 6 of R492 for a message of the SPI slave (R501). -/
def State.recvSpi (s : State) (m : AttonMsg) : State × Recv :=
  if !s.effT Obj.spi_lock then (s, .pass pathSpi)
  else if !s.attonTagOk m then (s, .drop Obj.atton_auth_fail)
  else if m.bootId ≠ s.valN Obj.atton_boot_id then (s, .reply stStale)
  else
    match (vat s.gran.spiWin m.level {}).accept m.seq with
    | some w => (s.modGran fun g => { g with spiWin := vmod g.spiWin m.level fun _ => w }, .pass pathSpi)
    | none => (s, .drop Obj.atton_replay)

/-- Checks 3 to 6 of R492 for a message of an association (R475, R493). -/
def State.recvAssoc (s : State) (m : AttonMsg) : State × Recv :=
  if !s.attonTagOk m then (s, .drop Obj.atton_auth_fail)
  else if m.bootId ≠ s.valN Obj.atton_boot_id then (s, .reply stStale)
  else
    match s.gran.assocs.find? fun e => e.2.sender == m.sender && e.2.level == m.level with
    | some (n, a) =>
      match a.window.accept m.seq with
      | some w => (s.putAssoc n { a with window := w }, .pass n)
      | none => (s, .drop Obj.atton_replay)
    | none =>
      match s.freeAssoc with
      | none => (s, .reply stBusy)
      | some n =>
        match (({} : Window)).accept m.seq with
        | some w => (s.putAssoc n { sender := m.sender, level := m.level, window := w, back := m.back }, .pass n)
        | none => (s, .drop Obj.atton_replay)

/-! ### Bodies (R489, R490) -/

/-- Read entries: as many as counted, and nothing after them. -/
def parseReads : Nat → Bytes → Option (List (Nat × Nat))
  | 0, b => if b.isEmpty then some [] else none
  | n + 1, b =>
    if b.length < 3 then none else (parseReads n (b.drop 3)).map fun l => (field b 0 2, octet b 2) :: l

/-- Write entries: as many as counted, and nothing after them. -/
def parseWrites : Nat → Bytes → Option (List WriteEntry)
  | 0, b => if b.isEmpty then some [] else none
  | n + 1, b =>
    let l := field b 4 2
    if b.length < 6 ∨ octet b 3 ≠ 0 ∨ b.length < 6 + l then none
    else (parseWrites n (b.drop (6 + l))).map fun t => { index := field b 0 2, sub := octet b 2, value := slice b 6 l } :: t

/-- The body of an answer to a write (R490). -/
def WriteAns.body (a : WriteAns) : Bytes :=
  if a.status = stPending ∨ a.status = stDone then beBytes 4 a.handle ++ beBytes 8 a.sec ++ beBytes 2 a.tick
  else if a.status = stBusy then []
  else beBytes 2 a.index ++ beBytes 1 a.sub

/-! ### Operations -/

/-- READ (R491). -/
def State.opRead (s : State) (m : AttonMsg) (path : Nat) : State × Nat × Bytes :=
  let n := octet m.body 0
  match parseReads n (m.body.drop 1) with
  | none => (s, stMalformed, [])
  | some es =>
    if n = 0 ∨ 64 < n then (s, stMalformed, [])
    else
      let (s, b) := State.readEntries m.level path 1359 es s
      (s, stOk, beBytes 1 n ++ b)

/-- WRITE (R478, R482). -/
def State.opWrite (s : State) (m : AttonMsg) (path : Nat) : State × Nat × Bytes :=
  match parseWrites 1 m.body with
  | some [e] =>
    let (s, a) := s.write m.level path e
    (s, a.status, a.body)
  | _ => (s, stMalformed, [])

/-- BUNDLE_WRITE (R480, R481). -/
def State.opBundle (s : State) (m : AttonMsg) (path : Nat) : State × Nat × Bytes :=
  let n := octet m.body 0
  match parseWrites n (m.body.drop 1) with
  | none => (s, stMalformed, [])
  | some es =>
    if n = 0 ∨ 64 < n then (s, stMalformed, [])
    else
      let (s, a) := s.bundle m.level path es
      (s, a.status, a.body)

/-- COMMIT_STATUS (R484). -/
def State.opStatus (s : State) (m : AttonMsg) (_path : Nat) : State × Nat × Bytes :=
  if m.body.length ≠ 4 then (s, stMalformed, [])
  else
    match s.gran.handles.find? fun e => e.1 == beNat m.body with
    | none => (s, stOk, beBytes 2 stUnknownHandle)
    | some (_, r) =>
      (s, stOk, beBytes 2 r.status ++ (if r.status = stPending ∨ r.status = stDone then beBytes 8 r.sec ++ beBytes 2 r.tick else []))

/-- A subscription created, replaced or ended (R497). -/
def State.subscribe (s : State) (m : AttonMsg) (path id period life : Nat) (es : List (Nat × Nat)) : State × Nat × Bytes :=
  let mine := s.gran.subs.filter fun u => u.owner == path && u.ident != id
  let rest := s.gran.subs.filter fun u => !(u.owner == path && u.ident == id)
  if period = 0 then (s.modGran fun g => { g with subs := rest }, stOk, beBytes 2 id)
  else if es.isEmpty ∨ life = 0 ∨ 3600 < life then (s, stMalformed, [])
  else if m.level < 2 && es.any fun e => match s.objPresent e.1 e.2 with
      | some o => decide (m.level < o.readLevel)
      | none => false then (s, stLevel, [])
  else if 32 ≤ rest.length ∨ 8 ≤ mine.length then (s, stBusy, [])
  else
    let u : Sub := { owner := path, ident := id, period := period, life := life, since := s.tc.cyc, entries := es, level := m.level, sender := m.sender }
    (s.modGran fun g => { g with subs := rest ++ [u] }, stOk, beBytes 2 id)

/-- SUBSCRIBE (R497, R498). -/
def State.opSubscribe (s : State) (m : AttonMsg) (path : Nat) : State × Nat × Bytes :=
  let b := m.body
  let n := octet b 6
  match parseReads n (b.drop 7) with
  | none => (s, stMalformed, [])
  | some es =>
    if b.length < 7 ∨ 32 < n then (s, stMalformed, [])
    else
      let s := match s.gran.assocs.find? fun e => e.1 == path with
        | some (k, a) => s.putAssoc k { a with back := m.back }
        | none => s
      s.subscribe m path (field b 0 2) (field b 2 2) (field b 4 2) es

/-- STORE (R503). -/
def State.opStore (s : State) (m : AttonMsg) (_path : Nat) : State × Nat × Bytes :=
  if !m.body.isEmpty then (s, stMalformed, [])
  else if m.level < 2 then (s, stLevel, [])
  else if s.boot.recovery || s.noStaging then (s, stBusy, [])
  else
    let (s, a) := s.stageStore
    (s, a.status, beBytes 4 a.handle)

/-- RESTORE_DEFAULTS (R483). -/
def State.opRestore (s : State) (m : AttonMsg) (_path : Nat) : State × Nat × Bytes :=
  if !m.body.isEmpty then (s, stMalformed, [])
  else if m.level < 3 then (s, stLevel, [])
  else if s.boot.recovery || s.noStaging then (s, stBusy, [])
  else
    let (s, a) := s.stageRestore
    (s, a.status, a.body)

/-- A message that waits through the staging close (R476): it would be staged. -/
def State.attonWaits (s : State) (m : AttonMsg) : Bool :=
  s.stagingClosed && !s.boot.recovery && !s.noStaging &&
    ((m.op == 3 && decide (1 ≤ octet m.body 0) && decide (octet m.body 0 ≤ 64) && (parseWrites (octet m.body 0) (m.body.drop 1)).isSome) ||
      (m.op == 8 && m.body.isEmpty && decide (3 ≤ m.level)) ||
      (m.op == 2 &&
        match parseWrites 1 m.body with
        | some [e] => (match s.objPresent e.index e.sub with
          | some o => !o.row.im
          | none => false)
        | _ => false))

/-- The request operations. -/
def requestOps : List Nat := [1, 2, 3, 4, 5, 7, 8]

/-- The operation whose command takes a message; one that names no request operation is taken by READ. -/
def AttonMsg.taker (m : AttonMsg) : Nat := if requestOps.contains m.op then m.op else 1

/-- The checks 3 to 6 of R492; a message that has waited through a staging close has passed them. -/
def State.attonChecks (s : State) (m : AttonMsg) : State × Recv :=
  match m.passed with
  | some path => (s, .pass path)
  | none => if m.back.via = 0 then s.recvSpi m else s.recvAssoc m

/-- The command of an operation takes the message at the head of the receive queue through the checks of R492, carries it out and
answers it. Messages for other nodes are left to ATTON_FORWARD. -/
def State.attonServe (op : Nat) (f : State → AttonMsg → Nat → State × Nat × Bytes) (s : State) : State :=
  match s.gran.inbox.head? with
  | none => s
  | some m =>
    if !s.attonUp || m.taker != op then s
    else if !m.wellFormed then (s.attonPop m).count Obj.atton_malformed
    else if !s.attonHere m then s
    else
      let (s, r) := s.attonChecks m
      match r with
      | .drop row => (s.attonPop m).count row
      | .reply st => (s.attonPop m).attonAnswer m st []
      | .pass path =>
        if !requestOps.contains m.op then (s.attonPop m).attonAnswer m stUnknownOp []
        else if s.attonWaits m then
          s.modGran fun g => { g with inbox := g.inbox.drop 1, held := g.held ++ [{ m with passed := some path }] }
        else
          let (s, st, b) := f (s.attonPop m) m path
          s.attonAnswer m st b

/-- READ (R491). -/
def readEff (s : State) : State := s.attonServe 1 State.opRead
/-- READ (R491). -/
def execRead (s : State) : Host.Outcome State Fault Refusal := .next (readEff s)

/-- WRITE (R478). -/
def writeEff (s : State) : State := s.attonServe 2 State.opWrite
/-- WRITE (R478). -/
def execWrite (s : State) : Host.Outcome State Fault Refusal := .next (writeEff s)

/-- BUNDLE_WRITE (R480). -/
def bundleWriteEff (s : State) : State := s.attonServe 3 State.opBundle
/-- BUNDLE_WRITE (R480). -/
def execBundleWrite (s : State) : Host.Outcome State Fault Refusal := .next (bundleWriteEff s)

/-- COMMIT_STATUS (R484). -/
def commitStatusEff (s : State) : State := s.attonServe 4 State.opStatus
/-- COMMIT_STATUS (R484). -/
def execCommitStatus (s : State) : Host.Outcome State Fault Refusal := .next (commitStatusEff s)

/-- SUBSCRIBE (R497). -/
def subscribeEff (s : State) : State := s.attonServe 5 State.opSubscribe
/-- SUBSCRIBE (R497). -/
def execSubscribe (s : State) : Host.Outcome State Fault Refusal := .next (subscribeEff s)

/-- STORE (R503). -/
def storeEff (s : State) : State := s.attonServe 7 State.opStore
/-- STORE (R503). -/
def execStore (s : State) : Host.Outcome State Fault Refusal := .next (storeEff s)

/-- RESTORE_DEFAULTS (R483). -/
def restoreDefaultsEff (s : State) : State := s.attonServe 8 State.opRestore
/-- RESTORE_DEFAULTS (R483). -/
def execRestoreDefaults (s : State) : Host.Outcome State Fault Refusal := .next (restoreDefaultsEff s)

/-! ### Other nodes (R466, R496) -/

/-- A return record written; the oldest is replaced when 256 are held (R496). -/
def State.keepReturn (s : State) (r : RetRec) : State :=
  let rest := s.gran.returns.filter fun x => !(x.node == r.node && x.sender == r.sender)
  let rest := if rest.length < 256 then rest else rest.drop 1
  s.modGran fun g => { g with returns := rest ++ [r] }

/-- ATTON_FORWARD (R492 check 2, R496): the message goes on unchanged in TUNNEL messages. -/
def attonForwardEff (s : State) : State :=
  match s.gran.inbox.head? with
  | none => s
  | some m =>
    if !s.attonUp || !m.wellFormed || s.attonHere m then s
    else
      let s := (s.attonPop m).count Obj.atton_forwarded
      let s := s.keepReturn { node := m.node, sender := m.sender, back := m.back, used := s.tc.cyc }
      s.tunnelOut m.node m.bytes

/-- ATTON_FORWARD (R496). -/
def execAttonForward (s : State) : Host.Outcome State Fault Refusal := .next (attonForwardEff s)

/-- RETURN_RECORD_EXPIRE (R496). -/
def returnRecordExpireEff (s : State) : State :=
  s.modGran fun g => { g with returns := g.returns.filter fun r => !s.passed r.used (3600 * oneSec) }

/-- RETURN_RECORD_EXPIRE (R496). -/
def execReturnRecordExpire (s : State) : Host.Outcome State Fault Refusal := .next (returnRecordExpireEff s)

/-- A NOTIFY joins the queue of its path; the oldest is discarded when 16 wait (R498). -/
def State.queueNotify (s : State) (path : Nat) (msg : Bytes) : State :=
  let add (q : List Bytes) : List Bytes := (if q.length < 16 then q else q.drop 1) ++ [msg]
  let full (q : List Bytes) : Bool := decide (16 ≤ q.length)
  if path = pathSpi then
    let s := if full s.gran.spiNotify then s.count Obj.atton_notify_dropped else s
    s.modGran fun g => { g with spiNotify := add g.spiNotify }
  else
    match s.gran.assocs.find? fun e => e.1 == path with
    | none => s
    | some (n, a) => (if full a.notify then s.count Obj.atton_notify_dropped else s).putAssoc n { a with notify := add a.notify }

/-- A whole Atton message that the tree has delivered (R466): a response or NOTIFY leaves on its recorded path, a NOTIFY to the SPI slave
through its notification queue (R501); anything else is a request to this node's agent. -/
def State.attonDeliver (s : State) (src : Nat) (msg : Bytes) : State :=
  if (octet msg 3).testBit 0 then
    let sender := field msg 4 2
    match s.gran.returns.find? fun r => r.node == src && r.sender == sender with
    | some r =>
      let s := s.keepReturn { r with used := s.tc.cyc }
      if r.back.via = 0 ∧ octet msg 1 = 6 then s.queueNotify pathSpi msg else (s.attonOut r.back msg).getD s
    | none => s.count Obj.crem_tunnel_drops
  else if 64 ≤ s.gran.inbox.length then s.count Obj.atton_rx_drop
  else s.modGran fun g => { g with inbox := g.inbox ++ [{ bytes := msg, back := { via := 3, node := src } }] }

/-- A segment joins those of its source and identifier (R465). A message whose first segment is missing is discarded. -/
def State.attonSegment (s : State) (src ident flags : Nat) (seg : Bytes) : State :=
  let put (s : State) (l : List (Nat × Nat × Bytes)) : State := { s with crem := { s.crem with parts := l } }
  let others := s.crem.parts.filter fun e => e.1 != src
  let have' : Option Bytes :=
    if flags.testBit 0 then some seg
    else (s.crem.parts.find? fun e => e.1 == src && e.2.1 == ident).map fun e => e.2.2 ++ seg
  match have' with
  | none => put s others
  | some b => if flags.testBit 1 then (put s others).attonDeliver src b else put s (others ++ [(src, ident, b)])

/-- TUNNEL (R465, R466): delivered here, sent on, or discarded. -/
def tunnelEff (l : Nat) (m : CremIn) (s : State) : State :=
  if !(s.link l).up || m.type != 2 then s
  else
    let len := field m.data 0 2
    if !m.ok || len == 0 || decide (1016 < len) || m.data.length != 8 * ceilDiv (len + 8) 8 then s.creminBad l
    else
      let dst := octet m.header 4
      let src := octet m.header 5
      let tx : CremTx := { type := 2, specific := slice m.header 4 4, data := m.data.take (m.data.length - 4) }
      let here (s : State) : State := s.attonSegment src (field m.data 2 2) (octet m.header 6) (slice m.data 4 len)
      if dst = s.crem.node && s.crem.node != 0xFF then here s
      else if dst = 0xFE then (here s).tunnelForward dst (some l) tx
      else s.tunnelForward dst (some l) tx

/-- TUNNEL (R466). -/
def execTunnel (l : Fin 4) (m : CremIn) (s : State) : Host.Outcome State Fault Refusal := .next (tunnelEff l.val m s)

/-! ### Notifications (R497 to R499) -/

/-- The next outbound count of a path (R498). -/
def State.nextOut (s : State) (path : Nat) : State × Nat :=
  if path = pathSpi then
    let k := s.gran.spiOut + 1
    (s.modGran fun g => { g with spiOut := k }, k)
  else
    match s.gran.assocs.find? fun e => e.1 == path with
    | none => (s, 1)
    | some (n, a) => (s.putAssoc n { a with outSeq := a.outSeq + 1 }, a.outSeq + 1)

/-- The report of a subscription at the present boundary (R497, R498). -/
def State.report (s : State) (u : Sub) : State :=
  let (s, b) := State.readEntries u.level u.owner 1347 u.entries s
  let body := beBytes 2 u.ident ++ beBytes 8 s.tc.tickSec ++ beBytes 2 s.tc.tickNo ++ beBytes 1 u.entries.length ++ b
  let (s, seq) := s.nextOut u.owner
  s.queueNotify u.owner (s.attonBuild 6 u.level u.sender 0xFF seq 0 body)

/-- The waiting NOTIFYs of an association leave, oldest first, while there is room for them. -/
def State.flushNotify (n : Nat) : Nat → State → State
  | 0, s => s
  | fuel + 1, s =>
    match s.gran.assocs.find? fun e => e.1 == n with
    | some (_, a) =>
      match a.notify with
      | [] => s
      | msg :: rest =>
        match s.attonOut a.back msg with
        | some s => State.flushNotify n fuel (s.putAssoc n { a with notify := rest })
        | none => s
    | none => s

/-- The NOTIFYs of freed associations leave while there is room for them (R47). -/
def State.flushDraining : Nat → State → State
  | 0, s => s
  | fuel + 1, s =>
    match s.gran.draining with
    | [] => s
    | (b, msg) :: rest =>
      match s.attonOut b msg with
      | some s => State.flushDraining fuel (s.modGran fun g => { g with draining := rest })
      | none => s

/-- NOTIFY (R497, R498): reports due at the present boundary are taken, and waiting NOTIFYs leave. -/
def notifyEff (s : State) : State :=
  let s := State.flushDraining s.gran.draining.length s
  let due := s.gran.subs.filter fun u => u.dueAt != 0
  let s := s.modGran fun g => { g with subs := g.subs.map fun u => { u with dueAt := 0 } }
  let s := s.each due State.report
  s.each (s.gran.assocs.map Prod.fst) fun s n => State.flushNotify n 16 s

/-- NOTIFY (R497). -/
def execNotify (s : State) : Host.Outcome State Fault Refusal := .next (notifyEff s)

/-- SUBSCRIPTION_EXPIRE (R497). -/
def subscriptionExpireEff (s : State) : State :=
  s.modGran fun g => { g with subs := g.subs.filter fun u => !s.passed u.since (u.life * oneSec) }

/-- SUBSCRIPTION_EXPIRE (R497). -/
def execSubscriptionExpire (s : State) : Host.Outcome State Fault Refusal := .next (subscriptionExpireEff s)

/-- The NOTIFY that carries a completed stamp-queue entry (R121, R499). -/
def State.stampPushMsg (s : State) (p : Nat) (e : StampEntry) : Bytes :=
  let k := Obj.stamp_queue_pop.key p 0
  let o := e.octets p
  let body := beBytes 2 0xFF01 ++ beBytes 8 s.tc.tickSec ++ beBytes 2 s.tc.tickNo ++ [1#8] ++ beBytes 2 (k / 256) ++ beBytes 1 (k % 256) ++
    [0#8] ++ beBytes 2 o.length ++ o
  s.attonBuild 6 2 (s.effN Obj.atton_push_sender) 0xFF (s.gran.pushSeq + 1) 0 body

/-- Where pushed stamps go: the host on HP. -/
def State.pushBack (s : State) : Back := { via := 1, port := 8, mac := s.effB Obj.hp_host_mac }

/-- STAMP_PUSH (R121, R499): the oldest completed entry leaves as a NOTIFY over HP; without room it is offered again later. -/
def stampPushEff (p : Nat) (s : State) : State :=
  match (s.port p).fifoStamp with
  | e :: _ =>
    if s.effN Obj.stamp_delivery = 1 && e.done && s.linkUp 8 then
      match s.attonOut s.pushBack (s.stampPushMsg p e) with
      | some s1 => (s1.modGran fun g => { g with pushSeq := s.gran.pushSeq + 1 }).freeStamps p fun x => x.seq != e.seq
      | none => s
    else s
  | [] => s

/-- STAMP_PUSH (R121). -/
def execStampPush (p : Fin 8) (s : State) : Host.Outcome State Fault Refusal := .next (stampPushEff p.val s)

/-! ### SPI slave (R500, R501) -/

/-- SEND (R500): the message passes to the Atton agent, unless a response waits unread. -/
def sendEff (msg : Bytes) (s : State) : State :=
  if !s.attonUp then s
  else
    let busy := s.gran.spiResp.isSome
    let s := s.modGran fun g => { g with spiMiso := zeros msg.length }
    if busy then s
    else if 64 ≤ s.gran.inbox.length then s.count Obj.atton_rx_drop
    else s.modGran fun g => { g with inbox := g.inbox ++ [{ bytes := msg }] }

/-- SEND (R500). -/
def execSend (msg : Bytes) (s : State) : Host.Outcome State Fault Refusal := .next (sendEff msg s)

/-- The message that waits to be read, response first (R500). -/
def State.spiWaiting (s : State) : Option Bytes :=
  match s.gran.spiResp with
  | some b => some b
  | none => s.gran.spiNotify.head?

/-- The status word of R500. -/
def State.spiStatus (s : State) : Nat :=
  flag s.gran.spiResp.isSome 0 + flag (!s.gran.spiNotify.isEmpty) 1 + flag s.gran.spiResp.isSome 2 + flag (s.effT Obj.spi_lock) 3 +
    (match s.spiWaiting with
      | some b => b.length
      | none => 0) * 2 ^ 16

/-- STATUS (R500). -/
def statusEff (s : State) : State :=
  if !s.attonUp then s else s.modGran fun g => { g with spiMiso := [0#8] ++ beBytes 4 s.spiStatus }

/-- STATUS (R500). -/
def execStatus (s : State) : Host.Outcome State Fault Refusal := .next (statusEff s)

/-- FETCH (R500): the message that waits is returned and freed. -/
def fetchEff (s : State) : State :=
  if !s.attonUp then s
  else
    match s.gran.spiResp with
    | some b => s.modGran fun g => { g with spiResp := none, spiMiso := [0#8] ++ b }
    | none => s.modGran fun g => { g with spiNotify := g.spiNotify.drop 1, spiMiso := [0#8] ++ g.spiNotify.headD [] }

/-- FETCH (R500). -/
def execFetch (s : State) : Host.Outcome State Fault Refusal := .next (fetchEff s)

/-- SPI_BAD_COMMAND (R500). -/
def spiBadCommandEff (cmd : Byte) (s : State) : State :=
  if !s.attonUp || cmd == 1#8 || cmd == 2#8 || cmd == 3#8 then s
  else (s.modGran fun g => { g with spiMiso := [] }).count Obj.spi_bad_command

/-- SPI_BAD_COMMAND (R500). -/
def execSpiBadCommand (cmd : Byte) (s : State) : Host.Outcome State Fault Refusal := .next (spiBadCommandEff cmd s)

end Sys2Proof.Machine
end

