-- ==== Sys2Proof/Machine/WriteRows.lean ====
section
/-! DEFINITION. The commands that are a write of one action object: each is checked and staged as R478 states, at the level it carries,
and its effect is that of the object's action at the commit (Commit.lean); an object with flag I acts at once (R482). -/
namespace Sys2Proof.Machine

/-- TOD_STEP (R79). -/
def todStepEff (lvl : Level) (v : Int) (s : State) : State := s.writeNum lvl Obj.tod_step v

/-- TOD_STEP (R79). -/
def execTodStep (lvl : Level) (v : Int) (s : State) : Host.Outcome State Fault Refusal := .next (todStepEff lvl v s)

/-- TOD_SLEW (R72). -/
def todSlewEff (lvl : Level) (v : Int) (s : State) : State := s.writeNum lvl Obj.tod_slew v

/-- TOD_SLEW (R72). -/
def execTodSlew (lvl : Level) (v : Int) (s : State) : Host.Outcome State Fault Refusal := .next (todSlewEff lvl v s)

/-- ACTION_ARM (R86). -/
def actionArmEff (lvl : Level) (k : Nat) (s : State) : State := s.writeNum lvl Obj.tod_action_arm 1 k

/-- ACTION_ARM (R86). -/
def execActionArm (lvl : Level) (k : Fin 8) (s : State) : Host.Outcome State Fault Refusal := .next (actionArmEff lvl k.val s)

/-- ACTION_CANCEL (R88). -/
def actionCancelEff (lvl : Level) (k : Nat) (s : State) : State := s.writeNum lvl Obj.tod_action_arm 0 k

/-- ACTION_CANCEL (R88). -/
def execActionCancel (lvl : Level) (k : Fin 8) (s : State) : Host.Outcome State Fault Refusal := .next (actionCancelEff lvl k.val s)

/-- STAMP_CALIBRATE (R104). -/
def stampCalibrateEff (lvl : Level) (p : Nat) (s : State) : State := s.writeNum lvl Obj.stamp_calibrate 1 p

/-- STAMP_CALIBRATE (R104). -/
def execStampCalibrate (lvl : Level) (p : Fin 9) (s : State) : Host.Outcome State Fault Refusal := .next (stampCalibrateEff lvl p.val s)

/-- DPLL_REALIGN (R242). -/
def dpllRealignEff (lvl : Level) (d : Nat) (s : State) : State := s.writeNum lvl Obj.dpll_realign 1 d

/-- DPLL_REALIGN (R242). -/
def execDpllRealign (lvl : Level) (d : Fin 5) (s : State) : Host.Outcome State Fault Refusal := .next (dpllRealignEff lvl d.val s)

/-- HOLD_MODEL_RESET (R169). -/
def holdModelResetEff (lvl : Level) (s : State) : State := s.writeNum lvl Obj.hold_model_reset 1

/-- HOLD_MODEL_RESET (R169). -/
def execHoldModelReset (lvl : Level) (s : State) : Host.Outcome State Fault Refusal := .next (holdModelResetEff lvl s)

/-- FLY_RECENTRE_NOW (R186). -/
def flyRecentreNowEff (lvl : Level) (s : State) : State := s.writeNum lvl Obj.fly_recentre_now 1

/-- FLY_RECENTRE_NOW (R186). -/
def execFlyRecentreNow (lvl : Level) (s : State) : Host.Outcome State Fault Refusal := .next (flyRecentreNowEff lvl s)

/-- GNSS_RESURVEY (R299). -/
def gnssResurveyEff (lvl : Level) (s : State) : State := s.writeNum lvl Obj.gnss_resurvey 1

/-- GNSS_RESURVEY (R299). -/
def execGnssResurvey (lvl : Level) (s : State) : Host.Outcome State Fault Refusal := .next (gnssResurveyEff lvl s)

/-- GNSS_FE_REINIT (R280). -/
def gnssFeReinitEff (lvl : Level) (s : State) : State := s.writeNum lvl Obj.gnss_fe_reinit 1

/-- GNSS_FE_REINIT (R280). -/
def execGnssFeReinit (lvl : Level) (s : State) : Host.Outcome State Fault Refusal := .next (gnssFeReinitEff lvl s)

/-- GNSS_RESTART_COLD (R312). -/
def gnssRestartColdEff (lvl : Level) (s : State) : State := s.writeNum lvl Obj.gnss_restart 1

/-- GNSS_RESTART_COLD (R312). -/
def execGnssRestartCold (lvl : Level) (s : State) : Host.Outcome State Fault Refusal := .next (gnssRestartColdEff lvl s)

/-- GNSS_RESTART_WARM (R312). -/
def gnssRestartWarmEff (lvl : Level) (s : State) : State := s.writeNum lvl Obj.gnss_restart 2

/-- GNSS_RESTART_WARM (R312). -/
def execGnssRestartWarm (lvl : Level) (s : State) : Host.Outcome State Fault Refusal := .next (gnssRestartWarmEff lvl s)

/-- GNSS_AID_TIME (R289). -/
def gnssAidTimeEff (lvl : Level) (v : Nat) (s : State) : State := s.writeNum lvl Obj.gnss_aid_time v

/-- GNSS_AID_TIME (R289). -/
def execGnssAidTime (lvl : Level) (v : Nat) (s : State) : Host.Outcome State Fault Refusal := .next (gnssAidTimeEff lvl v s)

/-- SCR_PATH_CLEAR (R209). -/
def scrPathClearEff (lvl : Level) (i : Nat) (s : State) : State := s.writeNum lvl Obj.scr_path_clear 1 i

/-- SCR_PATH_CLEAR (R209). -/
def execScrPathClear (lvl : Level) (i : Fin 4) (s : State) : Host.Outcome State Fault Refusal := .next (scrPathClearEff lvl i.val s)

/-- WIN_CLEAR_FIRST (R518). -/
def winClearFirstEff (lvl : Level) (s : State) : State := s.writeNum lvl Obj.win_clear 1

/-- WIN_CLEAR_FIRST (R518). -/
def execWinClearFirst (lvl : Level) (s : State) : Host.Outcome State Fault Refusal := .next (winClearFirstEff lvl s)

/-- WIN_CLEAR_LOST (R516). -/
def winClearLostEff (lvl : Level) (s : State) : State := s.writeNum lvl Obj.win_clear 2

/-- WIN_CLEAR_LOST (R516). -/
def execWinClearLost (lvl : Level) (s : State) : Host.Outcome State Fault Refusal := .next (winClearLostEff lvl s)

/-- WIN_PIN_CLEAR (R530). -/
def winPinClearEff (lvl : Level) (s : State) : State := s.writeNum lvl Obj.win_pin_clear 1

/-- WIN_PIN_CLEAR (R530). -/
def execWinPinClear (lvl : Level) (s : State) : Host.Outcome State Fault Refusal := .next (winPinClearEff lvl s)

/-- ATTON_ASSOC_RESET (R475). -/
def attonAssocResetEff (lvl : Level) (s : State) : State := s.writeNum lvl Obj.atton_assoc_reset 1

/-- ATTON_ASSOC_RESET (R475). -/
def execAttonAssocReset (lvl : Level) (s : State) : Host.Outcome State Fault Refusal := .next (attonAssocResetEff lvl s)

/-- TITHE_FREEZE (R552). -/
def titheFreezeEff (lvl : Level) (s : State) : State := s.writeNum lvl Obj.tithe_freeze 1

/-- TITHE_FREEZE (R552). -/
def execTitheFreeze (lvl : Level) (s : State) : Host.Outcome State Fault Refusal := .next (titheFreezeEff lvl s)

/-- TITHE_RESUME (R552). -/
def titheResumeEff (lvl : Level) (s : State) : State := s.writeNum lvl Obj.tithe_freeze 0

/-- TITHE_RESUME (R552). -/
def execTitheResume (lvl : Level) (s : State) : Host.Outcome State Fault Refusal := .next (titheResumeEff lvl s)

/-- TITHE_CLEAR (R551). -/
def titheClearEff (lvl : Level) (b : Nat) (s : State) : State := s.writeNum lvl Obj.tithe_clear 1 b

/-- TITHE_CLEAR (R551). -/
def execTitheClear (lvl : Level) (b : Fin 75) (s : State) : Host.Outcome State Fault Refusal := .next (titheClearEff lvl b.val s)

/-- BOOT_RESTART_NORMAL (R567). -/
def bootRestartNormalEff (lvl : Level) (s : State) : State := s.writeNum lvl Obj.boot_restart 1

/-- BOOT_RESTART_NORMAL (R567). -/
def execBootRestartNormal (lvl : Level) (s : State) : Host.Outcome State Fault Refusal := .next (bootRestartNormalEff lvl s)

/-- BOOT_RESTART_SAFE (R567). -/
def bootRestartSafeEff (lvl : Level) (s : State) : State := s.writeNum lvl Obj.boot_restart 2

/-- BOOT_RESTART_SAFE (R567). -/
def execBootRestartSafe (lvl : Level) (s : State) : Host.Outcome State Fault Refusal := .next (bootRestartSafeEff lvl s)

/-- BOOT_SECVER_COMMIT (R576). -/
def bootSecverCommitEff (lvl : Level) (s : State) : State := s.writeNum lvl Obj.boot_secver_commit 1

/-- BOOT_SECVER_COMMIT (R576). -/
def execBootSecverCommit (lvl : Level) (s : State) : Host.Outcome State Fault Refusal := .next (bootSecverCommitEff lvl s)

/-- INSTALL_BEGIN (R577). -/
def installBeginEff (lvl : Level) (v : Bytes) (s : State) : State := s.writeOctets lvl Obj.install_begin v

/-- INSTALL_BEGIN (R577). -/
def execInstallBegin (lvl : Level) (v : Bytes) (s : State) : Host.Outcome State Fault Refusal := .next (installBeginEff lvl v s)

/-- INSTALL_CHUNK (R578). -/
def installChunkEff (lvl : Level) (v : Bytes) (s : State) : State := s.writeOctets lvl Obj.install_chunk v

/-- INSTALL_CHUNK (R578). -/
def execInstallChunk (lvl : Level) (v : Bytes) (s : State) : Host.Outcome State Fault Refusal := .next (installChunkEff lvl v s)

/-- INSTALL_FINISH (R577). -/
def installFinishEff (lvl : Level) (s : State) : State := s.writeNum lvl Obj.install_finish 1

/-- INSTALL_FINISH (R577). -/
def execInstallFinish (lvl : Level) (s : State) : Host.Outcome State Fault Refusal := .next (installFinishEff lvl s)

/-- INSTALL_ACTIVATE (R577). -/
def installActivateEff (lvl : Level) (s : State) : State := s.writeNum lvl Obj.install_activate 1

/-- INSTALL_ACTIVATE (R577). -/
def execInstallActivate (lvl : Level) (s : State) : Host.Outcome State Fault Refusal := .next (installActivateEff lvl s)

/-- INSTALL_ABORT (R583). -/
def installAbortEff (lvl : Level) (s : State) : State := s.writeNum lvl Obj.install_abort 1

/-- INSTALL_ABORT (R583). -/
def execInstallAbort (lvl : Level) (s : State) : Host.Outcome State Fault Refusal := .next (installAbortEff lvl s)

end Sys2Proof.Machine
end

