-- ==== Sys2Proof/Machine/Boot.lean ====
section
/-! DEFINITION. The start: steps B00 to B12, the plan, the dictionary restore, safe start and recovery (18_start_update_ageing.md R558 to
R568, R572). The whole start is one command (log entry 16). -/
namespace Sys2Proof.Machine

/-- Step `k` of the start fails, as the environment has it. -/
def BootIn.failsAt (b : BootIn) (k : Nat) : Bool :=
  match b.fails with
  | some f => f.val == k
  | none => false

/-! ### The previous start (R563, R564) -/

/-- The record of the previous start (R563): the always-on copy when its CRC passes, otherwise the newest flash record. -/
def Boot.prev (b : Boot) : Bytes :=
  if b.ledgerAon && b.ledger.length == 32 && Crypto.crc32 (b.ledger.take 28) == field b.ledger 28 4 then b.ledger else b.history.headD []

/-- The previous start failed (R563). -/
def prevFailed (p : Bytes) (cause : Nat) : Bool :=
  let o := octet p 6
  p.length == 32 && (o == 3 || (o == 0 && cause != 0 && cause != 2) || (o == 1 && cause == 3))

/-- The step that failed in the previous start: the one recorded, the one under way in a start that was still running, or 13 after
B12 (R562, R564). -/
def prevStep (p : Bytes) : Nat :=
  if octet p 6 = 1 then 13
  else if octet p 6 = 0 then (if octet p 5 = 0xFF then 0 else octet p 5 + 1)
  else octet p 7

/-- The plan with the alternate for a failed step (R564); one that is already in the plan or cannot apply adds nothing. -/
def addAlternate (plan step : Nat) (fallback : Bool) : Nat :=
  match step with
  | 5 => planAdd plan planBanksLost
  | 6 => planAdd plan planSpareDco
  | 7 => planAdd plan planStoredTdc
  | 8 => planAdd plan planDefaults
  | 9 | 12 | 13 =>
    if plan.testBit planAltBank then planAdd plan planDefaults else if fallback then planAdd plan planAltBank else plan
  | 10 => planAdd plan planNoGleaner
  | 11 => planAdd plan planPortsHeld
  | _ => plan

/-- Streak and plan of a start from the previous record (R564). -/
def nextPlan (p : Bytes) (cause : Nat) (fallback : Bool) : Nat × Nat :=
  if p.length ≠ 32 then (0, 0)
  else
    let plan := planDrop (field p 8 2) planStrap
    if prevFailed p cause then (min 255 (octet p 11 + 1), addAlternate plan (prevStep p) fallback)
    else if octet p 6 = 2 then (0, plan &&& (2 ^ planDefaults + 2 ^ planBanksLost))
    else (octet p 11, plan)

/-! ### Outcomes (R561) -/

/-- A step completes. -/
def State.stepReached (s : State) (k : Nat) : State := (s.modBoot fun b => { b with reached := k }).putLedger

/-- A required step from B05 on fails (R561). -/
def State.stepFails (s : State) (k detail : Nat) : State :=
  ((s.modBoot fun b => { b with outcome := 3, failedStep := k, detail := detail }).logLedger).deviceReset 4

/-- RECOVERY (R568). -/
def State.enterRecovery (s : State) (k : Nat) : State :=
  (s.modBoot fun b => { b with recovery := true, outcome := 5, failedStep := k }).logLedger

/-- B01 or B02 fails: the Reeve halts (R558). -/
def State.haltStart (s : State) (k : Nat) : State := (s.modBoot fun b => { b with halted := true, failedStep := k }).putLedger

/-! ### B02 to B05 -/

/-- B02 (R442, R443, R3): the straps are sampled, and a conflict enters the ledger there; a strapped worker holds its number. -/
def State.bootStraps (s : State) (i : BootIn) : State :=
  let s : State := { s with elec := { s.elec with rolePin := i.role, waddrPin := i.waddr % 64 } }
  let role := s.elec.rolePin
  let manager := role && s.dev.part == 1
  let w := s.elec.waddrPin
  let s : State := { s with dev := { s.dev with manager := manager }, crem := { s.crem with waddr := w } }
  let clash := role && s.dev.part == 2
  let s := s.modBoot fun b => { b with strapConflict := clash, plan := if clash then planAdd 0 planStrap else 0 }
  if manager then
    let s : State := { s with crem := { s.crem with node := 0, depth := 0 } }
    (s.setN Obj.crem_node 0).setN Obj.crem_depth 0
  else if 1 ≤ w ∧ w ≤ 48 then s.takeNode w 1
  else s

/-- B03 (R563 to R567, R572): plan and bank. -/
def State.bootPlan (s : State) : State :=
  let b := s.boot
  let fallback := b.hasFallback
  let (streak, plan) := if b.clearNext then (0, 0) else nextPlan b.prev b.cause fallback
  let safe := decide (3 ≤ streak) || b.safeNext || plan.testBit planSafe
  let plan := if safe then planAdd (planAdd (planAdd plan planSafe) planDefaults) planNoGleaner else plan
  let plan := if b.strapConflict then planAdd plan planStrap else plan
  let bank := if plan.testBit planAltBank && fallback then 1 - b.tableBank else b.tableBank
  let other := 1 - b.tableBank
  let s := match b.newest other with
    | some r => if r.state = 2 ∨ r.state = 3 then s.writeBankRec other 1 0 0 [] else s
    | none => s
  s.modBoot fun b => { b with streak := streak, plan := plan, bank := bank, safeNext := false, clearNext := false }

/-- Bank `k` passes B04 (R575, R558): its newest record is ACTIVE, and its image passes. Where the model holds no image for the bank, as
for the images programmed at manufacture, the operand says whether it passes. -/
def State.bankPasses (s : State) (i : BootIn) (k : Nat) : Bool :=
  let img := vat s.boot.images k []
  match s.boot.newest k with
  | some r => r.state == 4 && (if img.isEmpty then !i.failsAt 4 else s.imageCheck img false == 0)
  | none => false

/-- B04: the selected bank, or the other one in the same start. -/
def State.passingBank (s : State) (i : BootIn) : Option Nat :=
  if s.bankPasses i s.boot.bank then some s.boot.bank
  else if s.bankPasses i (1 - s.boot.bank) then some (1 - s.boot.bank)
  else none

/-- The device facts that the selected image brings (R20, R536, R576). -/
def State.takeImage (s : State) (i : BootIn) (k : Nat) : State :=
  let img := vat s.boot.images k []
  let s := s.modBoot fun b => { b with bank := k, secver := if img.isEmpty then 0 else imgSecver img }
  { s with dev := { s.dev with
      firmware := s.viewBankVersion k, windows := if img.isEmpty then i.windows else imgWindows img } }

/-- B05: banks that failed repair are lost under BANKS_LOST (R564, R522); the plan drops it when every bank is repaired (R565). -/
def State.bootBanks (s : State) (i : BootIn) : State :=
  let s := s.each i.margins fun s m => s.ageValue 2 m.1.val m.2
  if i.badBanks.isEmpty then s.modBoot fun b => { b with plan := planDrop b.plan planBanksLost }
  else
    s.each i.badBanks fun s k =>
      if k.val < 64 then ((s.modWin fun w => { w with bankLost := w.bankLost ++ [k.val] }).loseRegion k.val).degrade 5
      else s.modWin fun w => { w with sramSpare := w.sramSpare.filter fun x => x != k.val }

/-! ### B08: the dictionary restore (R559) -/

/-- The write entries in a payload; `fuel` bounds them. -/
def payloadEntries : Nat → Bytes → List WriteEntry
  | 0, _ => []
  | n + 1, b =>
    let l := field b 4 2
    if b.length < 6 ∨ b.length < 6 + l then []
    else { index := field b 0 2, sub := octet b 2, value := slice b 6 l } :: payloadEntries n (b.drop (6 + l))

/-- The entries of the valid dictionary generation (R505). -/
def Journal.entries (j : Journal) : List WriteEntry :=
  let g := j.validGen
  if g = 0 then [] else ((j.ofGen g 2).map fun r => payloadEntries r.data.length r.data).flatten

/-- The octets of a stored value: a KEY is sealed under the storage key (R504). -/
def State.openStored (s : State) (o : ObjRef) (v : Bytes) : Option Bytes :=
  if o.row.isKey then Crypto.gcmOpen s.dev.storageKey (v.take 12) [] (v.drop 12) else some v

/-- What a stored entry gives: a stored status value, or a write that has passed checks 1 to 5 (R559, R478). -/
def State.restoreEntry (s : State) (e : WriteEntry) : Option (ObjRef × Val) :=
  match s.objPresent e.index e.sub with
  | none => none
  | some o =>
    match s.openStored o e.value with
    | none => none
    | some v =>
      if o.row.acc == .ro && o.row.p && !o.twin then (decodeVal o.row.ty v).map fun x => (o, x)
      else match s.checkWrite 3 e.index e.sub v with
        | .ok x => some x
        | .error _ => none

/-- The stored entries that this start applies, and how many are skipped. -/
def State.restorable (s : State) : List (ObjRef × Val) × Nat :=
  let es := s.gran.journal.entries
  let es := if s.boot.plan.testBit planDefaults then es.filter fun e => decide (0x1100 ≤ e.index) && decide (e.index ≤ 0x11FF) else es
  let ok := es.filterMap s.restoreEntry
  (ok, es.length - ok.length)

/-- B08: the set takes check 6 and commits on top of the defaults; none where check 6 fails. -/
def State.restoreDict (s : State) : Option State :=
  let (all, skipped) := s.restorable
  let ws := all.filter fun e => e.1.row.acc != .ro
  let ros := all.filter fun e => e.1.row.acc == .ro
  if (s.checkRules (s.withWrites ws) ws).isSome then none
  else
    let s := s.each ros fun s e => s.setVal e.1.row e.1.i e.1.j e.2
    let s := (State.applyChanges s (s.withWrites ws) []).ntsSlots.ptpSlots
    let g := s.gran.journal.validGen
    let s := if skipped = 0 then s else s.count Obj.boot_restore_skipped 0 0 skipped
    let s := s.setN Obj.store_generation g
    match (s.gran.journal.ofGen g 3).head? with
    | some r =>
      if g = 0 then some s
      else some (s.setN Obj.store_last ((time128 ((field r.data 4 8 : Int) * secU + (field r.data 12 2 : Int) * tickU) : Nat) : Int))
    | none => some s

/-! ### B06 and B07 -/

/-- The keepers start from zero (R63). -/
def TimeCore.started : TimeCore := { running := true }

/-- B06 (R63, R162, R188, R564): the oscillator of DPLL-T, which locks, and the start of the keepers. `p` is the state whose configured
values are those of the stored generation. -/
def State.bootClock (s : State) (i : BootIn) (p : State) : State :=
  let type := (p.cfgN Obj.fly_type).toNat
  let fly := type != 0 && i.flyPresent
  let s : State := { s with tc := TimeCore.started, hold := { s.hold with timebaseFly := fly, typeAtStart := type } }
  let s := ((s.setEff Obj.fly_type 0 0 (p.cfg Obj.fly_type)).setEff Obj.fly_freq 0 0 (p.cfg Obj.fly_freq)).setN Obj.hold_timebase (if fly then 1 else 0)
  let s := (s.modDpll 0 fun x => { x with bwNow := s.effN Obj.dpll_bw 0 }).setDpll 0 2
  if s.boot.plan.testBit planSpareDco then (s.modWin fun w => { w with dcoSpare := false }).setN Obj.dpll_dco_spare 1 else s

/-- A table in the calibration store: 4 octets for each count (log entry 19). -/
def tableOctets (h : List Nat) : Bytes := (h.map (beBytes 4)).flatten

/-- The counts of a stored table. -/
def octetsTable (b : Bytes) : List Nat := (List.range (b.length / 4)).map fun k => field b (4 * k) 4

/-- An interpolator with a table, or without one that passes (R260, R261). -/
def bootInterp (n : Nat) (h : Option (List Nat)) (stored : Bool) : Interp :=
  match h with
  | some h => if tablePasses h n && h.length == 1152 && h.sum == n then { state := 1, hits := h, total := n, stored := stored } else { fails := 1 }
  | none => {}

/-- A channel after its first tables: interpolator 0 measures if its table passes, else interpolator 1 (R262). -/
def bootChan (x : TicChan) (a b : Interp) : TicChan :=
  if a.state = 1 then { x with i0 := { a with state := 2 }, i1 := b }
  else if b.state = 1 then { x with i0 := a, i1 := { b with state := 2 } }
  else { x with i0 := a, i1 := b }

/-- B07 (R260, R564, R569): the first two tables of every interpolator, or under STORED_TDC those of the calibration store; what passes is
written to the calibration store. -/
def State.bootTables (s : State) (i : BootIn) : State :=
  let st := s.boot.plan.testBit planStoredTdc
  let n := 2 ^ s.effN Obj.tic_cal_hits
  let table (c k : Nat) : Interp :=
    if st then
      let h := (s.boot.calStore.find? fun e => e.1 == 2 * c + k).map fun e => octetsTable e.2
      bootInterp ((h.map List.sum).getD 0) h true
    else bootInterp n ((i.tables.find? fun e => e.1 == 2 * c + k).map Prod.snd) false
  let s := s.each (List.range 17) fun s c => s.modChan c fun x => bootChan x (table c 0) (table c 1)
  if st then s
  else
    s.each (List.range 34) fun s k =>
      let y := (s.chan (k / 2)).interp (k % 2)
      if y.hits.isEmpty then s
      else s.modBoot fun b => { b with calStore := putChunk k (tableOctets y.hits) (b.calStore.filter fun e => e.1 != k) }

/-- The flywheel's DAC code at the start (R188). -/
def State.bootDac (s : State) : State :=
  if s.effN Obj.fly_recentre_mode = 2 then
    let c := s.effN Obj.fly_dac_init
    let s : State := { s with hold := { s.hold with dacFrame := some (s.dacFrameOf c) } }
    s.setN Obj.fly_dac_code c
  else s

/-! ### B09 to B12 -/

/-- B09: roles and standby (R43). -/
def State.bootPairs (s : State) : State :=
  let s := s.modPair 0 fun q => { q with role := 1 }
  let s := s.modPair 1 fun q => { q with role := 2 }
  s.modPair 2 fun q => { q with role := 3 }

/-- B10: the Gleaner, with its stored record; skipped on the OT9600-WX and under NO_GLEANER (R311, R564). -/
def State.bootGnss (s : State) (i : BootIn) : State :=
  let s := if i.failsAt 10 ∧ s.dev.part = 1 ∧ !s.boot.plan.testBit planNoGleaner then
      s.modBoot fun b => { b with failedStep := 10, plan := planAdd b.plan planNoGleaner }
    else s
  if s.boot.plan.testBit planNoGleaner then s.setEff Obj.gnss_enable 0 0 (.n 0)
  else
    let r := match s.gran.journal.unitRec 1 with
      | some r => GnssRecord.parse r.data
      | none => {}
    (s.modGnss fun g => { g with record := r, storeFrom := s.tc.cyc }).gnssStart

/-- Lanes held DISABLED in effect (R560, R564). -/
def State.heldLanes (s : State) (i : BootIn) : List Nat :=
  let held := if s.boot.plan.testBit planPortsHeld then [0, 1, 2, 3, 4, 5, 6, 7, 9, 10, 11, 12] else []
  (List.range 13).filter fun l => held.contains l || i.badLanes.any fun k => k.val == l

/-- B11: ports, HP and Cremin lanes (R560, R447). -/
def State.bootLanes (s : State) (i : BootIn) : State :=
  let held := s.heldLanes i
  let s := s.modBoot fun b => { b with laneHeld := held, detail := (held.map fun l => 2 ^ l).sum }
  { s with crem := { s.crem with started := true } }

/-- The end of the start: in service after B12 (R562, R370), or a safe start at the end of B11 (R566). -/
def State.bootEnd (s : State) (i : BootIn) : State :=
  let s := s.modBoot fun b => { b with duration := i.duration, serviceFrom := s.tc.cyc }
  if s.boot.plan.testBit planSafe then
    ((s.modBoot fun b => { b with outcome := 4, reached := 11 }).logLedger.raise 315).putPins
  else
    let s := (s.modBoot fun b => { b with outcome := 1, reached := 12, serving := true }).polReset.logLedger
    (if s.boot.plan.testBit planStrap && s.boot.plan == 2 ^ planStrap || s.boot.plan == 0 then s else s.raise 314).putPins

/-- B09 to B12. -/
def State.bootServe (s : State) (i : BootIn) : State :=
  if i.failsAt 9 then s.stepFails 9 0
  else
    let s := (s.bootPairs.stepReached 9).bootGnss i
    let s := s.stepReached 10
    if i.failsAt 11 ∨ i.badLanes.any (fun l => l.val == 8) then s.stepFails 11 0
    else
      let s := (s.bootLanes i).stepReached 11
      if i.failsAt 12 ∧ !s.boot.plan.testBit planSafe then s.stepFails 12 0 else s.bootEnd i

/-- B05 to B08. -/
def State.bootUnits (s : State) (i : BootIn) : State :=
  if i.failsAt 5 ∨ (!i.badBanks.isEmpty ∧ !s.boot.plan.testBit planBanksLost) then
    s.stepFails 5 ((i.badBanks.map Fin.val).headD 0)
  else
    let s := (s.bootBanks i).stepReached 5
    let p := s.withWrites (s.restorable.1.filter fun e => e.1.row.acc != .ro)
    let s := s.bootClock i p
    if i.failsAt 6 ∨ (!s.hold.timebaseFly ∧ !s.elec.xoOk) then s.stepFails 6 0
    else
      let s := s.stepReached 6
      if i.failsAt 7 then s.stepFails 7 0
      else
        let s := (s.bootTables i).stepReached 7
        if i.failsAt 8 then s.stepFails 8 0
        else match s.restoreDict with
          | none => s.stepFails 8 0
          | some s =>
            let (s, id) := s.random 4
            let s := (s.setN Obj.atton_boot_id (beNat id)).bootDac
            ((s.modWin fun w => { w with beatAt := s.tc.cyc }).stepReached 8).bootServe i

/-- The flash at B03 (R615): the SFDP table is read in 1S-1S-1S; the part switches to 8D-8D-8D where the table describes that mode. -/
def State.bootFlash (s : State) (i : BootIn) : State :=
  { s with elec := { s.elec with sfdp := i.sfdp, ospiOctal := Config.flashOctal i.sfdp } }

/-- B03 and B04. -/
def State.bootImage (s : State) (i : BootIn) : State :=
  let s := s.bootFlash i
  if i.failsAt 3 then s.enterRecovery 3
  else
    let s := s.bootPlan
    let s := (s.modBoot fun b => { b with reached := 3 }).logLedger
    match s.passingBank i with
    | none => s.enterRecovery 4
    | some k => ((s.takeImage i k).stepReached 4).bootUnits i

/-- The OT9600 may leave B00 (R558, R595): it is in reset, the always-on domain is supplied and every rail is within its limits. -/
def State.mayStart (s : State) : Bool := s.boot.inReset && s.elec.aon && (List.range 8).all fun r => s.railOk r

/-- BOOT (R558): the start, from B00 to the end of B12, of a safe start, of a RECOVERY or of a failed step. -/
def bootEff (i : BootIn) (s : State) : State :=
  if !s.mayStart ∨ i.railsMs < 10 ∨ i.failsAt 0 then s
  else
    let s := s.modBoot fun b =>
      { b with inReset := false, starts := b.starts + 1, reached := 0, duration := i.duration }
    let s : State := { s.modWin (fun w => { w with beatAt := s.tc.cyc }) with elec := { s.elec with ospiReset := true } }
    let s := if s.elec.xoOk then s else s.condBegin 316
    if i.failsAt 1 then s.haltStart 1
    else if i.failsAt 2 then (s.modBoot fun b => { b with reached := 1 }).haltStart 2
    else ((s.bootStraps i).modBoot fun b => { b with reached := 2 }).bootImage i

/-- BOOT (R558). -/
def execBoot (b : BootIn) (s : State) : Host.Outcome State Fault Refusal := .next (bootEff b s)

/-- START_STABLE (R563, R565): `boot.stable_time` of service without a reset; a start that used ALT_BANK makes its bank ACTIVE. -/
def startStableEff (s : State) : State :=
  if s.boot.serving && s.boot.outcome == 1 && s.passed s.boot.serviceFrom (s.effN Obj.boot_stable_time * oneSec) then
    let k := s.boot.bank
    let s := s.modBoot fun b => { b with outcome := 2 }
    let s := if s.boot.plan.testBit planAltBank ∧ k ≠ s.boot.tableBank then
        match s.boot.newest k with
        | some r => s.writeBankRec k 4 r.length r.version r.digest
        | none => s.writeBankRec k 4 0 0 []
      else s
    s.logLedger
  else s

/-- START_STABLE (R563). -/
def execStartStable (s : State) : Host.Outcome State Fault Refusal := .next (startStableEff s)

end Sys2Proof.Machine
end

