-- ==== Sys2Proof/Machine/Cycle.lean ====
section
/-! DEFINITION. One tclk cycle of the time core: the addition of R60, the vote of R64, and what a step brings about in the units that hold
instants or offsets (02_time_core.md R60 to R65, R80 to R84). -/
namespace Sys2Proof.Machine

/-- A further cycle may pass: the keepers run, and what the present cycle asks for, its boundary, due actions and a due leap, has been
done (log entry 1). -/
def State.cycleReady (s : State) : Bool := s.tc.running && !s.tc.boundaryDue && s.dueActs.isEmpty && !s.leapDue

/-- The keepers after the addition at the end of the cycle, and after the upsets that the new cycle finds (R60, R64). Where the seconds wrap, the
grid wraps with them. -/
def TimeCore.advance (t : TimeCore) (ups : List KeeperUpset) : TimeCore :=
  let j := t.step
  let out := t.outRegs
  let moved : Int := if j.isSome then 0 else out.slewPart
  let t := t.all fun r => r.advance j
  let t := ups.foldl (fun t u => t.modKeeper u.keeper.val fun k => { k with regs := u.apply k.regs }) t
  let clear (k : Keeper) : Keeper := { k with newly := false }
  { t with
    k0 := clear t.k0, k1 := clear t.k1, k2 := clear t.k2
    cyc := t.cyc + 1, slewTotal := t.slewTotal + moved, incTotal := t.incTotal + out.inc
    slewShown := if j.isSome then 0 else t.slewShown
    nextGrid := if (out.count + out.inc + moved) < countU then t.nextGrid else t.nextGrid - countU
    jumps := [], setJump := none, manualJump := false, freqBy := none, stepDone := false }

/-- What a step brings about in the units, once the time of day stands on the new timescale (R83, R84, R106, R125, R356, R424). -/
def State.stepHooks (s : State) (before : Tod) (j : Int) : State :=
  let s := { s with tc := { s.tc with nextGrid := gridAfter (s.tc.voted + tickU), stepInTick := true } }
  let s := s.passedLate before s.tc.voted
  let s := ((s.stepSlots j).stepFlail j).stepPorts j
  (((((s.gmEvent (uTo16 j) 0).stepTic).stepEdges j).stepOutputs j).stepGnss j)

/-- KEEPER_CYCLE (R60, R64): one tclk cycle. A manual step joins J here unless the update of this boundary cycle has taken it. -/
def keeperCycleEff (ups : List KeeperUpset) (s : State) : State :=
  if !s.cycleReady then s
  else
    let s := s.tiCycle
    let before := s.tc.voted
    let j := s.tc.step
    let s := (if j.isSome then s.markTod 0 else s).feedForward
    let s := match j with
      | some j => (if s.tc.manualJump && !s.tc.stepDone then s.addManual s.cycleManual else s).stepDoneObjs j
      | none => s
    let s := ({ s with tc := s.tc.advance ups } : State).runVote
    let s := match j with
      | some j => s.stepHooks before j
      | none => s
    (({ s with tc := { s.tc with boundaryDue := decide (s.tc.nextGrid ≤ s.tc.voted) } } : State).markTod (j.getD 0)).takeLinks

/-- KEEPER_CYCLE (R60). -/
def execKeeperCycle (upsets : List KeeperUpset) (s : State) : Host.Outcome State Fault Refusal := .next (keeperCycleEff upsets s)

end Sys2Proof.Machine
end

