-- ==== Sys2Proof/Machine/Boundary.lean ====
section
/-! DEFINITION. A tick boundary: the six ordered actions of R39, the overrun of R42, and the digest comparison of R50
(01_architecture.md, with what the other chapters place on a boundary). -/
namespace Sys2Proof.Machine

/-! ### Identity of the boundary (R21, R38, R82) -/

/-- The boundary's identity: the last grid time at or before the time of day, or before the stepped time of day where a step takes effect
on this cycle. -/
def State.identify (s : State) : State :=
  let t := match s.cycleStep with
    | some j => gridBefore ((s.tc.voted + s.cycleInc + j) % countU)
    | none => gridBefore s.tc.voted
  { s with tc := { s.tc with
    tickSec := todSec t, tickNo := tickOf t, tickCyc := s.tc.cyc, tickSlew := s.tc.slewTotal, tickInc := s.tc.incTotal } }

/-- The boundary is asserted on this cycle (R38, R82): it is counted, and the next boundary of the grid is named. -/
def State.assertBoundary (s : State) : State :=
  let s : State := { s with tc := { s.tc with
    boundaries := s.tc.boundaries + 1, boundaryDue := false, stepDone := true, stepInTick := false
    nextGrid := gridBefore s.tc.voted + tickU } }
  s.resyncKeepers.identify

/-! ### Outputs of SA (R37, R42) -/

/-- The outputs of SA in the order of its work: increment and slew, with the steps and timebase moves that go with them, then selection,
then scruple terms and floors. -/
def SaOut.part (o : SaOut) (k : Nat) : SaOut :=
  match k with
  | 0 => { inc := o.inc, slew := o.slew, slewTo := o.slewTo, step := o.step, restart := o.restart, toXo := o.toXo, toFly := o.toFly, dac := o.dac }
  | 1 => { adopt := o.adopt, fail := o.fail, begin := o.begin, unref := o.unref }
  | _ => { terms := o.terms, floors := o.floors }

/-- Two sets of outputs in one: of a value written twice the later stands, and amounts add. -/
def SaOut.merge (a b : SaOut) : SaOut :=
  { inc := b.inc.or a.inc
    slew := match a.slew, b.slew with
      | some x, some y => some (x + y)
      | x, y => y.or x
    slewTo := b.slewTo.or a.slewTo
    step := match a.step, b.step with
      | some x, some y => some (x + y)
      | x, y => y.or x
    adopt := b.adopt.or a.adopt, fail := b.fail.or a.fail, begin := b.begin.or a.begin, unref := a.unref || b.unref
    terms := b.terms.or a.terms, floors := a.floors ++ b.floors
    restart := a.restart || b.restart, toXo := a.toXo || b.toXo, toFly := a.toFly || b.toFly, dac := b.dac.or a.dac }

/-- The first `n` groups of outputs, and the rest. -/
def SaOut.cut (o : SaOut) (n : Nat) : SaOut × SaOut :=
  let take (l : List Nat) : SaOut := (l.map o.part).foldl SaOut.merge {}
  (take ((List.range 3).filter fun k => decide (k < n)), take ((List.range 3).filter fun k => decide (n ≤ k)))

/-- SA's outputs commit (R37): `now` is the time of day of the boundary. -/
def State.commitSa (s : State) (o : SaOut) (now : Tod) : State :=
  let f0 := s.valI Obj.tod_freq_offset
  let s := o.dac.elim (o.inc.elim s s.commitIncrement) (o.inc.elim s s.commitIncrement).beginDac
  let s := o.slewTo.elim s s.commitSlewTo
  let s := o.slew.elim s s.commitSaSlew
  let s := o.step.elim s (s.addStep 9)
  let s := o.fail.elim s s.failSwitch
  let s := match o.adopt with
    | some c =>
      let s := s.adopt c now
      if s.isTime c then s.gmEvent s.sel.adoptD (s.valI Obj.tod_freq_offset - f0) else s
    | none => s
  let s := o.begin.elim s s.beginTransition
  let s := if o.unref then s.goUnref else s
  let s := s.commitFloors o.floors
  let s := o.terms.elim s s.commitTerms
  let s := if o.restart then s.scrRestart 7 else s
  let s := if o.toXo then s.commitMove false else s
  if o.toFly then s.commitMove true else s

/-! ### Overrun (R42) -/

/-- How many of its groups of outputs a role has written before the boundary; all three unless it overruns. -/
def BoundaryIn.written (b : BoundaryIn) (r : Nat) : Nat :=
  match b.overrun.find? fun e => e.1.val + 1 == r with
  | some e => e.2
  | none => 3

/-- A role that runs has not finished its tick work (R42). -/
def State.overruns (s : State) (b : BoundaryIn) (r : Nat) : Bool :=
  s.roleRuns r && (b.overrun.any (fun e => e.1.val + 1 == r) ||
    match s.roleAt r with
    | some p => !(s.pair p).done
    | none => false)

/-- The newest write of the commit set goes to the following sets: before what was staged after it, which may replace it (R476, R477, R479). A
RESTORE_DEFAULTS takes the following set, and what waits behind it moves back one set. -/
def State.unstage (s : State) : State :=
  let t (k : Nat) : Nat × Nat := tickIdent (s.setTod k)
  let due (h k : Nat) (s : State) : State := s.modGran fun g =>
    { g with handles := g.handles.map fun e => if e.1 = h then (e.1, { e.2 with sec := (t k).1, tick := (t k).2 }) else e }
  match s.gran.cur.restore, s.gran.cur.items.getLast? with
  | some h, _ => due h 0 (s.putSets ({} :: s.sets))
  | none, none => s
  | none, some it =>
    let n := (s.gran.later.takeWhile fun c => c.restore.isSome || decide (256 < c.count + it.entries.length)).length
    let c := (s.gran.later[n]?).getD {}
    let gone := it.superseded || c.live.any fun j => replaces j.entries it
    let ls := s.gran.later ++ List.replicate (n + 1 - s.gran.later.length) ({} : CommitSet)
    let cur := { s.gran.cur with items := s.gran.cur.items.dropLast }
    let s := s.putSets (cur :: ls.set n { c with items := { it with superseded := gone } :: c.items })
    if gone && !it.superseded then s.endHandle it.handle stSuperseded else due it.handle n s

/-- Writes that SB had not staged by the staging close, since it overran, go to the following commit sets (R42). -/
def State.unstageLate (s : State) (b : BoundaryIn) : State :=
  if s.overruns b 2 && decide (b.written 2 < 3) then s.each (List.range (min b.unstaged s.gran.cur.items.length)) fun s _ => s.unstage else s

/-- TICK_OVERRUN (R42): each role still working is reported, and its tick's checkpoint is not taken. -/
def State.overrunMarks (s : State) (b : BoundaryIn) : State :=
  let l := [1, 2].filter fun r => s.overruns b r
  let s := (s.each l fun s r => s.raise 223 { detail := r - 1 }).unstageLate b
  { s with stew := { s.stew with
    overrun := l, checkpoint := if l.isEmpty then s.tc.boundaries - 1 else s.stew.checkpoint } }

/-- The checkpoints of the roles that run and have not overrun stand with what the boundary commits (R43). -/
def State.checkpoints (s : State) : State :=
  s.each ([1, 2].filter fun r => s.roleRuns r && !s.stew.overrun.contains r) State.checkpoint

/-- The tick work of the pairs that hold a role begins (R40). -/
def State.beginWork (s : State) : State :=
  { s with stew := { s.stew with pairs := s.stew.pairs.map fun q => { q with done := !(q.role == 1 || q.role == 2) || q.fenced } } }

/-- The outputs of the roles commit (R37, R42, R44): a fenced or halted role has written none. -/
def State.commitRoles (s : State) (b : BoundaryIn) : State :=
  let o := s.sel.staged
  let old := s.sel.carried
  let (now, later) := o.cut (b.written 1)
  let runs := s.roleRuns 1
  let s : State := { s with sel := { s.sel with staged := {}, carried := if runs then later else {} } }
  let s := if runs then s.commitSa (old.merge now) (gridBefore s.tc.voted) else s
  if !s.roleRuns 2 then
    let s := s.dropUc fun _ => true
    { s with net := { s.net with sbOut := [] } }
  else if b.written 2 < 2 then s
  else s.commitSlaves.commitGrants

/-! ### Digests (R49, R50, R485) -/

/-- Ranges of the index space whose units repeat: first index, last index, and the distance from one unit to the next. -/
def unitRows : List (Nat × Nat × Nat) :=
  [(0x2800, 0x297F, 0x10), (0x3000, 0x3413, 0x100), (0x3800, 0x38BB, 0x10), (0x4100, 0x417F, 0x10), (0x4180, 0x41FE, 0x10),
    (0x6100, 0x69A2, 0x100), (0x7400, 0x74FF, 0x40), (0x8900, 0x8A2B, 4), (0x9020, 0x9033, 2)]

/-- First indexes of the other units. -/
def unitBases : List Nat :=
  [0x1000, 0x1100, 0x1200, 0x2000, 0x2060, 0x2100, 0x2200, 0x2A00, 0x3900, 0x4000, 0x5000, 0x5400, 0x6000, 0x6A00, 0x7000, 0x7100, 0x7500,
    0x7800, 0x8000, 0x8100, 0x8300, 0x8800, 0x9000, 0x9800, 0x9C00]

/-- The base index of the unit that an index belongs to. -/
def unitOf (x : Nat) : Nat :=
  match unitRows.find? fun u => decide (u.1 ≤ x) && decide (x ≤ u.2.1) with
  | some u => u.1 + (x - u.1) / u.2.2 * u.2.2
  | none => unitBases.foldl (fun m b => if b ≤ x then b else m) 0

/-- A value in effect that the comparison covers: one that follows the configured value at its commit (R485). -/
def State.compared (s : State) (o : ObjRef) : Bool :=
  o.row.twin != 0 && !s.followsAlone o && !(o.row.base == 0x3000 && o.i == 0) && !(o.row.base == 0x2806 && decide (8 ≤ o.i))

/-- Configured keys whose value in effect differs. -/
def State.differing (s : State) : List Nat :=
  (s.dict.cfg.differ s.dict.eff).filter fun k =>
    match objAt k with
    | some o => s.compared o
    | none => false

/-- Values in effect that a fault has changed (R50). -/
def State.upset (s : State) (l : List (Nat × Val)) : State :=
  s.each l fun s e =>
    match objAt e.1 with
    | some o => if s.compared o then s.setEff o.row o.i o.j e.2 else s
    | none => s

/-- Reapplication (R50): the units found differing at the boundary before take their configuration again, but where they do not take it. -/
def State.reapply (s : State) (stuck : List Nat) : State :=
  let due := (s.gran.bad.filter fun u => !u.2).map Prod.fst
  if due.isEmpty then s
  else s.each (s.differing.filter fun k => due.contains (unitOf (k / 256)) && !stuck.contains k) fun s k =>
    match objAt k with
    | some o => s.setEff o.row o.i o.j (s.cfg o.row o.i o.j)
    | none => s

/-- A write of a unit's configuration lets it be applied again (R50). -/
def State.unitsWritten (s : State) (keys : List Nat) : State :=
  s.modGran fun g => { g with bad := g.bad.map fun u => if keys.any (fun k => unitOf (k / 256) == u.1) then (u.1, false) else u }

/-- DIGEST_COMPARE (R50): `due` are the units applied again at this boundary. -/
def State.compare (s : State) (due : List Nat) : State :=
  let now := (s.differing.map fun k => unitOf (k / 256)).eraseDups
  let old := s.gran.bad
  let s := s.each (now.filter fun u => due.contains u) fun s u => s.raise 225 { addr := u }
  let s := s.modGran fun g => { g with bad := now.map fun u => (u, due.contains u || old.contains (u, true)) }
  s.setN Obj.gran_mismatch ((now.length : Nat) : Int)

/-! ### The actions in order (R39) -/

/-- The tokens of every shaper are brought up to the boundary (R364), once the queues back in credit have joined their lists. -/
def State.settleShapers (s : State) : State :=
  s.each (List.range 9) fun s p => (s.joinActive p).each (List.range 8) fun s q =>
    if s.effN Obj.shaper_rate p q = 0 then s
    else
      let t := s.tokensNow p q
      (s.modQueue p q fun x => { x with tokens := t, tokensAt := s.tod }).setN Obj.shaper_tokens (t / secU) p q

/-- The commit set lets the Tithe store resume at this boundary (R552). -/
def State.resumes (s : State) : Bool :=
  s.gran.cur.live.any fun i => i.entries.any fun e => e.key == Obj.tithe_freeze.key 0 0 && beNat e.value == 0

/-- Action 2: what takes effect in every unit, spares and roles first, then the outputs of SA and SB, then the commit set. -/
def State.commitAll (s : State) (b : BoundaryIn) : State × List Nat :=
  let runs2 := s.roleRuns 2 && decide (1 ≤ b.written 2)
  let s := (s.fencesDue.settleShapers.commitRoles b).gnssTick b.gf runs2
  let s := s.plannedSwaps.spareTakeover.roleTakeover.beginWork
  let keys := (s.gran.cur.live.map fun i => i.entries.map WriteEntry.key).flatten
  let due := ((s.gran.bad.filter fun u => !u.2).map Prod.fst).filter fun u => !(keys.any fun k => unitOf (k / 256) == u)
  let s := (s.unitsWritten keys).reapply b.stuck
  let (s, hs) := s.commitSet
  if s.boot.inReset then (s, hs) else ((s.ntsSlots.ptpSlots.compare due), hs)

/-- Action 4 and what goes with it: holdover, scruple, service, DAC (R39, R171, R185, R188, R201). -/
def State.updateTime (s : State) (back : Bool) : State :=
  let s := if s.tc.tickNo = 0 then s.secondHold else s
  let s := (s.updateHold back).boundaryManual.updateScruple
  let s := s.updateService (s.valN Obj.scr_value)
  if s.tc.tickNo = 0 then { s with uarts := s.uarts.map fun u => { u with scr0 := s.valN Obj.scr_value } } else s

/-- Counts that start afresh in each TOD second (R339, R371). -/
def State.newSecond (s : State) (before : Nat) : State :=
  if s.tc.tickSec ≠ before ∨ s.tc.tickNo = 0 then
    s.each (List.range 9) fun s p => s.modPort p fun x => { x with icmp := 0, kisses := 0 }
  else s

/-- The link of a lane is up, in the order of R562: NP0 to NP7, HP, CL0 to CL3. -/
def State.laneUp (s : State) (l : Nat) : Bool := if l < 9 then s.linkUp l else (s.link (l - 9)).up

/-- What the ports and lanes show at a boundary: calibration, eyes, FEC counts, frames that crossed in the tick that has ended. -/
def State.portTick (s : State) (l : List LaneIn) : State :=
  let s := s.each (List.range 13) State.putCal
  let s := s.each l fun s x =>
    let p := x.lane.val
    let s := if s.laneUp p then s.modBoot fun b => { b with eyes := vmod b.eyes p fun e => (e.1 + x.eye, e.2 + 1) } else s
    if 8 < p then s
    else
      let s := s.setN Obj.serdes_eye x.eye p
      let fec := s.mode p == 2
      let s := if !fec || x.fecOk == 0 then s else s.count Obj.mac_fec_corrected p 0 x.fecOk
      if !fec || x.fecBad == 0 then s else s.count Obj.mac_fec_uncorrected p 0 x.fecBad
  { s with net := { s.net with sent := [] } }

/-- Subscriptions due at this boundary (R497), messages that waited through the staging close (R476), and the messages of the tick. -/
def State.attonTick (s : State) : State :=
  s.modGran fun g =>
    { g with
      subs := g.subs.map fun u => if s.tickNow % max 1 u.period = 0 then { u with dueAt := s.tc.boundaries } else u
      inbox := g.held ++ g.inbox, held := [], outSent := [] }

/-- `tod.slew` shows the slew remaining as the boundary leaves it (R76). -/
def State.showSlew (s : State) : State := { s with tc := { s.tc with slewShown := s.tc.outRegs.slewRem } }

/-- The units' own work at a boundary, after the commits. -/
def State.unitsTick (s : State) (b : BoundaryIn) : State :=
  let s := (s.portTick b.lanes).ticSwap.tbBoundary
  let s := if s.tc.tickNo = 0 then s.tbSecond else s
  let s := (s.pdTick b.pds).creminTick.mtxTick
  let s := s.railTick.installTick.captureStore.slavesRefresh
  s.attonTick.winTick

/-- TICK_BOUNDARY (R39, R82): on the boundary cycle, every action in its order. A committed `boot.restart` ends it. -/
def tickBoundaryEff (b : BoundaryIn) (s : State) : State :=
  if !s.tc.boundaryDue then s
  else
    let before := s.tc.tickSec
    let s := (s.upset b.upsets).assertBoundary
    let (s, latched) := s.titheTick b.tithe s.resumes
    let fly := s.hold.timebaseFly
    let s := s.overrunMarks b
    let (s, hs) := s.commitAll b
    if s.boot.inReset then s
    else
      let s := s.updateUtc.identify
      let s := (s.stampHandles hs).titheName latched
      ((((s.newSecond before).showSlew).updateTime (!fly && s.hold.timebaseFly)).unitsTick b).checkpoints.markTod 0

/-- TICK_BOUNDARY (R39). -/
def execTickBoundary (b : BoundaryIn) (s : State) : Host.Outcome State Fault Refusal := .next (tickBoundaryEff b s)

end Sys2Proof.Machine
end

