-- ==== Sys2Proof/Machine/Steward.lean ====
section
/-! DEFINITION. The tick work of the Steward roles (01_architecture.md R37, R40 to R43): SA's servo, qualification, selection and scruple
inputs, and what SB adds to the Gleaner commands. -/
namespace Sys2Proof.Machine

/-- What a phase detector found of a SyncE slot or of the flywheel up to the start of the tick joins the slot's window (R125); a slot that is
not enabled is not measured (R133). -/
def State.takeFreq (s : State) (f : FreqIn) : State :=
  let n := f.slot.val
  if !((13 ≤ n ∧ n ≤ 20) ∨ n = 23) ∨ !s.effT Obj.ref_enable n then s
  else s.addMeas n (s.tickMeas s.tickTod (ratRound (modPeriod f.x (s.slotPeriod n))) (some f.y))

/-- The newest captured measurement of a slot with a frequency. -/
def withFreq (now : Nat) (y : Int) : List Meas → List Meas
  | [] => []
  | m :: t => if m.tickAt < now then { m with y := some y } :: t else m :: withFreq now y t

/-- The frequency of a Cremin upstream slot, r + F_u (R457). -/
def State.takeCremin (s : State) (l : Nat) (r : Int) : State :=
  let x := s.link l
  if x.last.isEmpty ∨ !s.isUp l then s
  else
    let y := r + beInt (slice x.last 48 8)
    let s := s.modLink l fun x => { x with y := y }
    s.modSlot (19 + s.role l) fun sl => { sl with meas := withFreq s.tc.boundaries y sl.meas }

/-- The floor of a slot whose force has committed (R138). -/
def State.forceFloor (s : State) : State :=
  if !s.sel.forcedFloor then s
  else
    let n := s.effN Obj.ref_force
    let s : State := { s with sel := { s.sel with forcedFloor := false } }
    if n < 24 ∧ (s.slot n).present then s.stage fun o => { o with floors := o.floors ++ [s.floorOf n] } else s

/-- The work of SA in one tick, in the order of R41. -/
def State.workSa (s : State) (w : WorkIn) : State :=
  let s := s.each w.freqs State.takeFreq
  let s := s.each w.cremin fun s e => s.takeCremin e.1.val e.2
  let s := s.formS8.servoUpdate
  let had := (s.slot 23).present
  let s := s.qualify w.fly
  let s := (if had && !w.fly then flywheelLossEff s else s).trackFly.trackHealth
  let s := s.arbitration
  let s := (transitionCompleteEff s).select
  let s := s.forceFloor
  let s := (holdoverRateEff s).stageLoss
  s.stage fun o => { o with terms := some s.saTerms }

/-- STEWARD_TICK_WORK (R40): a role that runs does its work of the present tick once. -/
def stewardTickWorkEff (w : WorkIn) (s : State) : State :=
  let r := w.role.val + 1
  match s.roleAt r with
  | none => s
  | some p =>
    if !s.roleRuns r || (s.pair p).done || s.tc.boundaries == 0 then s
    else
      let s := if r = 1 then s.workSa w else s.gnssAssign
      s.modPair p fun q => { q with done := true }

/-- STEWARD_TICK_WORK (R40). -/
def execStewardTickWork (w : WorkIn) (s : State) : Host.Outcome State Fault Refusal := .next (stewardTickWorkEff w s)

end Sys2Proof.Machine
end

