-- ==== Sys2Proof/Machine/Dispatch.lean ====
section
/-! DEFINITION. The dispatch of the commands: one arm for each constructor of Instr. -/
namespace Sys2Proof.Machine

def exec (i : Instr) (s : State) : Host.Outcome State Fault Refusal :=
  match i with
  | .keeperCycle u => Sys2Proof.Machine.execKeeperCycle u s
  | .tickBoundary b => Sys2Proof.Machine.execTickBoundary b s
  | .stewardTickWork w => Sys2Proof.Machine.execStewardTickWork w s
  | .flywheelLoss => Sys2Proof.Machine.execFlywheelLoss s
  | .flywheelRestore => Sys2Proof.Machine.execFlywheelRestore s
  | .actionFire k => Sys2Proof.Machine.execActionFire k s
  | .leapApply => Sys2Proof.Machine.execLeapApply s
  | .todStep lvl v => Sys2Proof.Machine.execTodStep lvl v s
  | .todSlew lvl v => Sys2Proof.Machine.execTodSlew lvl v s
  | .actionArm lvl k => Sys2Proof.Machine.execActionArm lvl k s
  | .actionCancel lvl k => Sys2Proof.Machine.execActionCancel lvl k s
  | .tkSecLoRead m => Sys2Proof.Machine.execTkSecLoRead m s
  | .read => Sys2Proof.Machine.execRead s
  | .write => Sys2Proof.Machine.execWrite s
  | .bundleWrite => Sys2Proof.Machine.execBundleWrite s
  | .commitStatus => Sys2Proof.Machine.execCommitStatus s
  | .subscribe => Sys2Proof.Machine.execSubscribe s
  | .store => Sys2Proof.Machine.execStore s
  | .restoreDefaults => Sys2Proof.Machine.execRestoreDefaults s
  | .attonForward => Sys2Proof.Machine.execAttonForward s
  | .notify => Sys2Proof.Machine.execNotify s
  | .subscriptionExpire => Sys2Proof.Machine.execSubscriptionExpire s
  | .configWrite lvl index sub value => Sys2Proof.Machine.execConfigWrite lvl index sub value s
  | .send msg => Sys2Proof.Machine.execSend msg s
  | .status => Sys2Proof.Machine.execStatus s
  | .fetch => Sys2Proof.Machine.execFetch s
  | .spiBadCommand cmd => Sys2Proof.Machine.execSpiBadCommand cmd s
  | .stampCalibrate lvl p => Sys2Proof.Machine.execStampCalibrate lvl p s
  | .stampCalDone l c => Sys2Proof.Machine.execStampCalDone l c s
  | .stampCalTimeout l => Sys2Proof.Machine.execStampCalTimeout l s
  | .dpllRealign lvl d => Sys2Proof.Machine.execDpllRealign lvl d s
  | .holdModelReset lvl => Sys2Proof.Machine.execHoldModelReset lvl s
  | .flyRecentreNow lvl => Sys2Proof.Machine.execFlyRecentreNow lvl s
  | .flyRecentre => Sys2Proof.Machine.execFlyRecentre s
  | .flyUartReply b => Sys2Proof.Machine.execFlyUartReply b s
  | .flyPpsEdge fine => Sys2Proof.Machine.execFlyPpsEdge fine s
  | .modelSample => Sys2Proof.Machine.execModelSample s
  | .modelFit => Sys2Proof.Machine.execModelFit s
  | .holdoverRateUpdate => Sys2Proof.Machine.execHoldoverRateUpdate s
  | .qualificationGained n => Sys2Proof.Machine.execQualificationGained n s
  | .wtrExpire n => Sys2Proof.Machine.execWtrExpire n s
  | .disputeEnd a b => Sys2Proof.Machine.execDisputeEnd a b s
  | .transitionComplete => Sys2Proof.Machine.execTransitionComplete s
  | .settleTimeEnd => Sys2Proof.Machine.execSettleTimeEnd s
  | .refEdge n e => Sys2Proof.Machine.execRefEdge n e s
  | .refEdgeMissing n => Sys2Proof.Machine.execRefEdgeMissing n s
  | .dpllAcquire d => Sys2Proof.Machine.execDpllAcquire d s
  | .dpllLock d => Sys2Proof.Machine.execDpllLock d s
  | .dpllRelockTimeout d => Sys2Proof.Machine.execDpllRelockTimeout d s
  | .dpllUnlock d => Sys2Proof.Machine.execDpllUnlock d s
  | .dpllFreqChange d => Sys2Proof.Machine.execDpllFreqChange d s
  | .dpllHitlessChange d => Sys2Proof.Machine.execDpllHitlessChange d s
  | .dpllSlewDone d => Sys2Proof.Machine.execDpllSlewDone d s
  | .dpllRefLoss => Sys2Proof.Machine.execDpllRefLoss s
  | .dpllRefReturn => Sys2Proof.Machine.execDpllRefReturn s
  | .dcoSpareIn => Sys2Proof.Machine.execDcoSpareIn s
  | .outputGate o => Sys2Proof.Machine.execOutputGate o s
  | .outputRelease o => Sys2Proof.Machine.execOutputRelease o s
  | .ppsPulseStart m => Sys2Proof.Machine.execPpsPulseStart m s
  | .ppsPulseEnd m => Sys2Proof.Machine.execPpsPulseEnd m s
  | .todUartSend u => Sys2Proof.Machine.execTodUartSend u s
  | .todUartReceive u b framing => Sys2Proof.Machine.execTodUartReceive u b framing s
  | .ticEvent c e => Sys2Proof.Machine.execTicEvent c e s
  | .ticWindowOpen g rise => Sys2Proof.Machine.execTicWindowOpen g s rise
  | .ticWindowClose g rise => Sys2Proof.Machine.execTicWindowClose g s rise
  | .diffOverflow d => Sys2Proof.Machine.execDiffOverflow d s
  | .ticCalTableDone c n hits => Sys2Proof.Machine.execTicCalTableDone c n hits s
  | .tbInLoss => Sys2Proof.Machine.execTbInLoss s
  | .tbInReturn => Sys2Proof.Machine.execTbInReturn s
  | .gnssSnapshot b => Sys2Proof.Machine.execGnssSnapshot b s
  | .acqDwellDone e x => Sys2Proof.Machine.execAcqDwellDone e x s
  | .gnssAgc b code => Sys2Proof.Machine.execGnssAgc b code s
  | .gnssBandFail b => Sys2Proof.Machine.execGnssBandFail b s
  | .gnssBandOk b => Sys2Proof.Machine.execGnssBandOk b s
  | .correlatorDump g x => Sys2Proof.Machine.execCorrelatorDump g x s
  | .channelPullInLock c => Sys2Proof.Machine.execChannelPullInLock c s
  | .channelPullInTimeout c => Sys2Proof.Machine.execChannelPullInTimeout c s
  | .channelCoastTimeout c => Sys2Proof.Machine.execChannelCoastTimeout c s
  | .epochLatch => Sys2Proof.Machine.execEpochLatch s
  | .gnssSolution x => Sys2Proof.Machine.execGnssSolution x s
  | .epochReportPublish => Sys2Proof.Machine.execEpochReportPublish s
  | .rawPps fine => Sys2Proof.Machine.execRawPps fine s
  | .gnssIndicators x => Sys2Proof.Machine.execGnssIndicators x s
  | .spoofHoldEnd => Sys2Proof.Machine.execSpoofHoldEnd s
  | .surveyDone => Sys2Proof.Machine.execSurveyDone s
  | .gnssStoreRecord => Sys2Proof.Machine.execGnssStoreRecord s
  | .gnssResurvey lvl => Sys2Proof.Machine.execGnssResurvey lvl s
  | .gnssFeReinit lvl => Sys2Proof.Machine.execGnssFeReinit lvl s
  | .gnssRestartCold lvl => Sys2Proof.Machine.execGnssRestartCold lvl s
  | .gnssRestartWarm lvl => Sys2Proof.Machine.execGnssRestartWarm lvl s
  | .gnssAidTime lvl v => Sys2Proof.Machine.execGnssAidTime lvl v s
  | .scrPathClear lvl n => Sys2Proof.Machine.execScrPathClear lvl n s
  | .pathGuardEnd n => Sys2Proof.Machine.execPathGuardEnd n s
  | .frameReceive f => Sys2Proof.Machine.execFrameReceive f s
  | .arpRequest => Sys2Proof.Machine.execArpRequest s
  | .neighbourSolicitation => Sys2Proof.Machine.execNeighbourSolicitation s
  | .icmpEchoRequest => Sys2Proof.Machine.execIcmpEchoRequest s
  | .pause => Sys2Proof.Machine.execPause s
  | .pauseHoldEnd p => Sys2Proof.Machine.execPauseHoldEnd p s
  | .hpSend => Sys2Proof.Machine.execHpSend s
  | .linkUp p neg held => Sys2Proof.Machine.execLinkUp p neg s held
  | .linkDown p failed => Sys2Proof.Machine.execLinkDown p s failed
  | .ntpRequest => Sys2Proof.Machine.execNtpRequest s
  | .ntsRequest => Sys2Proof.Machine.execNtsRequest s
  | .flailJobComplete job => Sys2Proof.Machine.execFlailJobComplete job s
  | .launchCheck p => Sys2Proof.Machine.execLaunchCheck p s
  | .untimedPlace p => Sys2Proof.Machine.execUntimedPlace p s
  | .untimedCommit p => Sys2Proof.Machine.execUntimedCommit p s
  | .frameDeparture p jitter => Sys2Proof.Machine.execFrameDeparture p jitter s
  | .stampQueuePop p => Sys2Proof.Machine.execStampQueuePop p s
  | .stampPush p => Sys2Proof.Machine.execStampPush p s
  | .stampEntryRetire p => Sys2Proof.Machine.execStampEntryRetire p s
  | .policerSweep => Sys2Proof.Machine.execPolicerSweep s
  | .smearStart n => Sys2Proof.Machine.execSmearStart n s
  | .smearUnwind n => Sys2Proof.Machine.execSmearUnwind n s
  | .smearEnd n => Sys2Proof.Machine.execSmearEnd n s
  | .drainEnd => Sys2Proof.Machine.execDrainEnd s
  | .syncRelease n p => Sys2Proof.Machine.execSyncRelease n p s
  | .followUpSend n p => Sys2Proof.Machine.execFollowUpSend n p s
  | .announceSend n p => Sys2Proof.Machine.execAnnounceSend n p s
  | .delayReqReceive => Sys2Proof.Machine.execDelayReqReceive s
  | .pdelayReqReceive => Sys2Proof.Machine.execPdelayReqReceive s
  | .pdelayRespFollowUpSend n p => Sys2Proof.Machine.execPdelayRespFollowUpSend n p s
  | .pdelayReqSend n p => Sys2Proof.Machine.execPdelayReqSend n p s
  | .pdelayRespReceive => Sys2Proof.Machine.execPdelayRespReceive s
  | .announceReceive => Sys2Proof.Machine.execAnnounceReceive s
  | .syncReceive => Sys2Proof.Machine.execSyncReceive s
  | .followUpReceive => Sys2Proof.Machine.execFollowUpReceive s
  | .slaveDelayReqSend n => Sys2Proof.Machine.execSlaveDelayReqSend n s
  | .delayRespReceive => Sys2Proof.Machine.execDelayRespReceive s
  | .announceTimeout n => Sys2Proof.Machine.execAnnounceTimeout n s
  | .unicastRenew n => Sys2Proof.Machine.execUnicastRenew n s
  | .requestUnicastTransmission => Sys2Proof.Machine.execRequestUnicastTransmission s
  | .cancelUnicastTransmission => Sys2Proof.Machine.execCancelUnicastTransmission s
  | .grantExpire => Sys2Proof.Machine.execGrantExpire s
  | .unicastRelease n announce => Sys2Proof.Machine.execUnicastRelease n announce s
  | .ptpSessSelect path v => Sys2Proof.Machine.execPtpSessSelect path v s
  | .creminLinkUp l held => Sys2Proof.Machine.execCreminLinkUp l s held
  | .creminLinkDown l lockLost => Sys2Proof.Machine.execCreminLinkDown l s lockLost
  | .time l => Sys2Proof.Machine.execTime l s
  | .timeReceive l m => Sys2Proof.Machine.execTimeReceive l m s
  | .creminBadBlock l m => Sys2Proof.Machine.execCreminBadBlock l m s
  | .join l => Sys2Proof.Machine.execJoin l s
  | .joinReceive l m => Sys2Proof.Machine.execJoinReceive l m s
  | .assign l m => Sys2Proof.Machine.execAssign l m s
  | .addressHoldExpire n => Sys2Proof.Machine.execAddressHoldExpire n s
  | .tunnel l m => Sys2Proof.Machine.execTunnel l m s
  | .tunnelSend l => Sys2Proof.Machine.execTunnelSend l s
  | .summary => Sys2Proof.Machine.execSummary s
  | .summaryReceive l m => Sys2Proof.Machine.execSummaryReceive l m s
  | .creminNodeLost n => Sys2Proof.Machine.execCreminNodeLost n s
  | .faultRaise x n => Sys2Proof.Machine.execFaultRaise x n s
  | .presentation => Sys2Proof.Machine.execPresentation s
  | .handlingEnd => Sys2Proof.Machine.execHandlingEnd s
  | .fenceComplete x => Sys2Proof.Machine.execFenceComplete x s
  | .sourceActiveExpire x => Sys2Proof.Machine.execSourceActiveExpire x s
  | .pairReloadDone p ok => Sys2Proof.Machine.execPairReloadDone p ok s
  | .heartbeatWrite => Sys2Proof.Machine.execHeartbeatWrite s
  | .reeveHeartbeat => Sys2Proof.Machine.execReeveHeartbeat s
  | .winClearFirst lvl => Sys2Proof.Machine.execWinClearFirst lvl s
  | .winClearLost lvl => Sys2Proof.Machine.execWinClearLost lvl s
  | .winPinClear lvl => Sys2Proof.Machine.execWinPinClear lvl s
  | .winIntNext => Sys2Proof.Machine.execWinIntNext s
  | .refHistoryRead n => Sys2Proof.Machine.execRefHistoryRead n s
  | .ticPop c => Sys2Proof.Machine.execTicPop c s
  | .ticDiffPop d => Sys2Proof.Machine.execTicDiffPop d s
  | .counterReadClear index sub => Sys2Proof.Machine.execCounterReadClear index sub s
  | .attonAssocReset lvl => Sys2Proof.Machine.execAttonAssocReset lvl s
  | .matrixRequest r => Sys2Proof.Machine.execMatrixRequest r s
  | .matrixGrant t => Sys2Proof.Machine.execMatrixGrant t s
  | .matrixResponse r => Sys2Proof.Machine.execMatrixResponse r s
  | .matrixTimeout piece => Sys2Proof.Machine.execMatrixTimeout piece s
  | .titheFreeze lvl => Sys2Proof.Machine.execTitheFreeze lvl s
  | .titheResume lvl => Sys2Proof.Machine.execTitheResume lvl s
  | .titheClear lvl b => Sys2Proof.Machine.execTitheClear lvl b s
  | .storeComplete ok => Sys2Proof.Machine.execStoreComplete ok s
  | .powerOn v => Sys2Proof.Machine.execPowerOn s v
  | .resetN lowNs => Sys2Proof.Machine.execResetN s lowNs
  | .supplyReset => Sys2Proof.Machine.execSupplyReset s
  | .jtagReset => Sys2Proof.Machine.execJtagReset s
  | .railMonitor v => Sys2Proof.Machine.execRailMonitor v s
  | .xoFault hz => Sys2Proof.Machine.execXoFault s hz
  | .dieTempSample t => Sys2Proof.Machine.execDieTempSample t s
  | .jtagAccess => Sys2Proof.Machine.execJtagAccess s
  | .boot b => Sys2Proof.Machine.execBoot b s
  | .startStable => Sys2Proof.Machine.execStartStable s
  | .bootRestartNormal lvl => Sys2Proof.Machine.execBootRestartNormal lvl s
  | .bootRestartSafe lvl => Sys2Proof.Machine.execBootRestartSafe lvl s
  | .bootSecverCommit lvl => Sys2Proof.Machine.execBootSecverCommit lvl s
  | .installBegin lvl v => Sys2Proof.Machine.execInstallBegin lvl v s
  | .installChunk lvl v => Sys2Proof.Machine.execInstallChunk lvl v s
  | .installFinish lvl => Sys2Proof.Machine.execInstallFinish lvl s
  | .installActivate lvl => Sys2Proof.Machine.execInstallActivate lvl s
  | .installAbort lvl => Sys2Proof.Machine.execInstallAbort lvl s
  | .stewardLoadDone p => Sys2Proof.Machine.execStewardLoadDone p s
  | .thresherRotate => Sys2Proof.Machine.execThresherRotate s
  | .reeveSwitch => Sys2Proof.Machine.execReeveSwitch s
  | .ageSample a => Sys2Proof.Machine.execAgeSample a s
  | .ageFit => Sys2Proof.Machine.execAgeFit s
  | .grantUnicastTransmission => Sys2Proof.Machine.execGrantUnicastTransmission s
  | .xoInReturn hz => Sys2Proof.Machine.execXoInReturn s hz
  | .vddAonFall v => Sys2Proof.Machine.execVddAonFall s v
  | .returnRecordExpire => Sys2Proof.Machine.execReturnRecordExpire s

end Sys2Proof.Machine
end

