-- ==== Sys2Proof/WellFormed.lean ====
section
/-! DEFINITION. Which commands are well formed: operands lie in the ranges that the manual gives the registers, messages and samples they
stand for. An operand that is a `Fin` needs no check. -/
namespace Sys2Proof

/-- A number that an I64 holds (R15). -/
def inI64 (v : Int) : Bool := decide (-(2 ^ 63) ≤ v) && decide (v < 2 ^ 63)

/-- The command octets of the SPI slave (R500). -/
def spiCommands : List Byte := [0x01#8, 0x02#8, 0x03#8]

open Sys2Proof.Machine in
/-- A word lies among the word times that a lane still holds, its edge within a cycle, and the bits ahead of the timestamp point within a word (R98, R99). -/
def Machine.WordIn.ok (w : WordIn) : Bool :=
  decide (w.back ≤ 65536) && decide (w.fine ≤ 131072) && decide (w.units + 2 * w.heads + w.trans + w.parity + w.marker < 512)

/-- A command is well formed. -/
def Instr.wf : Instr → Bool
  | .keeperCycle _ => true
  | .tickBoundary b => decide (b.gf.length ≤ 20000) && b.overrun.all (fun e => decide (e.2 ≤ 2)) && b.upsets.all (fun e => decide (e.1 < 2 ^ 24)) && b.stuck.all (fun k => decide (k < 2 ^ 24)) &&
      b.pds.all (fun x => decide (x.samples.length ≤ 5000)) && decide (b.unstaged ≤ 256)
  | .stewardTickWork w => w.freqs.all fun f => inI64 f.y && inI64 f.x
  | .flywheelLoss => true
  | .flywheelRestore => true
  | .actionFire _ => true
  | .leapApply => true
  | .todStep _ v => inI64 v
  | .todSlew _ v => inI64 v
  | .actionArm _ _ => true
  | .actionCancel _ _ => true
  | .tkSecLoRead _ => true
  | .read => true
  | .write => true
  | .bundleWrite => true
  | .commitStatus => true
  | .subscribe => true
  | .store => true
  | .restoreDefaults => true
  | .attonForward => true
  | .notify => true
  | .subscriptionExpire => true
  | .configWrite _ index sub value => decide (index < 65536) && decide (sub < 256) && decide (value.length ≤ 1028)
  | .send msg => decide (msg.length ≤ 2048)
  | .status => true
  | .fetch => true
  | .spiBadCommand cmd => !(spiCommands.contains cmd)
  | .stampCalibrate _ _ => true
  | .stampCalDone _ _ => true
  | .stampCalTimeout _ => true
  | .dpllRealign _ _ => true
  | .holdModelReset _ => true
  | .flyRecentreNow _ => true
  | .flyRecentre => true
  | .flyUartReply b => decide (b.length ≤ 11520)
  | .flyPpsEdge fine => decide (fine < 2000)
  | .modelSample => true
  | .modelFit => true
  | .holdoverRateUpdate => true
  | .qualificationGained _ => true
  | .wtrExpire _ => true
  | .disputeEnd _ _ => true
  | .transitionComplete => true
  | .settleTimeEnd => true
  | .refEdge _ e => decide (e.k < 1152)
  | .refEdgeMissing _ => true
  | .dpllAcquire _ => true
  | .dpllLock _ => true
  | .dpllRelockTimeout _ => true
  | .dpllUnlock _ => true
  | .dpllFreqChange _ => true
  | .dpllHitlessChange _ => true
  | .dpllSlewDone _ => true
  | .dpllRefLoss => true
  | .dpllRefReturn => true
  | .dcoSpareIn => true
  | .outputGate _ => true
  | .outputRelease _ => true
  | .ppsPulseStart _ => true
  | .ppsPulseEnd _ => true
  | .todUartSend _ => true
  | .todUartReceive _ b _ => decide (b.length ≤ 64)
  | .ticEvent _ e => decide (e.k < 1152)
  | .ticWindowOpen _ _ => true
  | .ticWindowClose _ _ => true
  | .diffOverflow _ => true
  | .ticCalTableDone _ _ hits => decide (hits.length = 1152)
  | .tbInLoss => true
  | .tbInReturn => true
  | .gnssSnapshot _ => true
  | .acqDwellDone _ _ => true
  | .gnssAgc _ _ => true
  | .gnssBandFail _ => true
  | .gnssBandOk _ => true
  | .correlatorDump _ _ => true
  | .channelPullInLock _ => true
  | .channelPullInTimeout _ => true
  | .channelCoastTimeout _ => true
  | .epochLatch => true
  | .gnssSolution _ => true
  | .epochReportPublish => true
  | .rawPps fine => decide (fine < 2000)
  | .gnssIndicators _ => true
  | .spoofHoldEnd => true
  | .surveyDone => true
  | .gnssStoreRecord => true
  | .gnssResurvey _ => true
  | .gnssFeReinit _ => true
  | .gnssRestartCold _ => true
  | .gnssRestartWarm _ => true
  | .gnssAidTime _ v => decide (v < 2 ^ 128)
  | .scrPathClear _ _ => true
  | .pathGuardEnd _ => true
  | .frameReceive f => f.word.ok && decide (14 ≤ f.bytes.length) && decide (f.bytes.length ≤ 16384)
  | .arpRequest => true
  | .neighbourSolicitation => true
  | .icmpEchoRequest => true
  | .pause => true
  | .pauseHoldEnd _ => true
  | .hpSend => true
  | .linkUp _ _ _ => true
  | .linkDown _ _ => true
  | .ntpRequest => true
  | .ntsRequest => true
  | .flailJobComplete _ => true
  | .launchCheck _ => true
  | .untimedPlace _ => true
  | .untimedCommit _ => true
  | .frameDeparture _ w => w.ok
  | .stampQueuePop _ => true
  | .stampPush _ => true
  | .stampEntryRetire _ => true
  | .policerSweep => true
  | .smearStart _ => true
  | .smearUnwind _ => true
  | .smearEnd _ => true
  | .drainEnd => true
  | .syncRelease _ _ => true
  | .followUpSend _ _ => true
  | .announceSend _ _ => true
  | .delayReqReceive => true
  | .pdelayReqReceive => true
  | .pdelayRespFollowUpSend _ _ => true
  | .pdelayReqSend _ _ => true
  | .pdelayRespReceive => true
  | .announceReceive => true
  | .syncReceive => true
  | .followUpReceive => true
  | .slaveDelayReqSend _ => true
  | .delayRespReceive => true
  | .announceTimeout _ => true
  | .unicastRenew _ => true
  | .requestUnicastTransmission => true
  | .cancelUnicastTransmission => true
  | .grantExpire => true
  | .unicastRelease n _ => decide (n < 131072)
  | .ptpSessSelect path v => decide (path ≤ 65) && decide (v < 2 ^ 32)
  | .creminLinkUp _ _ => true
  | .creminLinkDown _ _ => true
  | .time _ => true
  | .timeReceive _ m => m.word.ok && decide (m.header.length = 8)
  | .creminBadBlock _ m => decide (m.header.length = 8)
  | .join _ => true
  | .joinReceive _ m => decide (m.header.length = 8)
  | .assign _ m => decide (m.header.length = 8)
  | .addressHoldExpire _ => true
  | .tunnel _ m => decide (m.header.length = 8)
  | .tunnelSend _ => true
  | .summary => true
  | .summaryReceive _ m => decide (m.header.length = 8)
  | .creminNodeLost _ => true
  | .faultRaise _ _ => true
  | .presentation => true
  | .handlingEnd => true
  | .fenceComplete _ => true
  | .sourceActiveExpire _ => true
  | .pairReloadDone _ _ => true
  | .heartbeatWrite => true
  | .reeveHeartbeat => true
  | .winClearFirst _ => true
  | .winClearLost _ => true
  | .winPinClear _ => true
  | .winIntNext => true
  | .refHistoryRead _ => true
  | .ticPop _ => true
  | .ticDiffPop _ => true
  | .counterReadClear index sub => decide (index < 65536) && decide (sub < 256)
  | .attonAssocReset _ => true
  | .matrixRequest r => decide (1 ≤ r.len) && decide (r.len ≤ 2048) && decide (r.addr < 2 ^ 32) && (r.kind.val != 1 || decide (r.data.length = r.len))
  | .matrixGrant _ => true
  | .matrixResponse _ => true
  | .matrixTimeout _ => true
  | .titheFreeze _ => true
  | .titheResume _ => true
  | .titheClear _ _ => true
  | .storeComplete _ => true
  | .powerOn _ => true
  | .resetN _ => true
  | .supplyReset => true
  | .jtagReset => true
  | .railMonitor v => decide (v.length = 8)
  | .xoFault _ => true
  | .dieTempSample t => decide (t.length = 12)
  | .jtagAccess => true
  | .boot b => b.tables.all (fun e => decide (e.1 < 34) && decide (e.2.length = 1152)) && b.margins.all (fun e => decide (e.2 < 65536))
  | .startStable => true
  | .bootRestartNormal _ => true
  | .bootRestartSafe _ => true
  | .bootSecverCommit _ => true
  | .installBegin _ v => decide (v.length = 52)
  | .installChunk _ v => decide (v.length ≤ 1028)
  | .installFinish _ => true
  | .installActivate _ => true
  | .installAbort _ => true
  | .stewardLoadDone _ => true
  | .thresherRotate => true
  | .reeveSwitch => true
  | .ageSample a => a.values.all fun e => decide (e.1 ≤ 4) && decide (e.2.2 < 65536)
  | .ageFit => true
  | .grantUnicastTransmission => true
  | .xoInReturn _ => true
  | .vddAonFall _ => true
  | .returnRecordExpire => true

end Sys2Proof
end

