-- ==== Sys2Proof/Safety.lean ====
section
/-! DEFINITION. What statements about the part are written with: what a step leaves as it was in the dictionary, when a fault source
is taken and what that marks, keepers in agreement, the invariants of every state, and a queue that is safe to run. -/
namespace Sys2Proof.Machine

/-! ### The dictionary's frame -/

/-- Status values, counters and results read as before, but at the listed keys. -/
def SameVals (s t : State) (ks : List Nat) : Prop := ∀ k, k ∉ ks → Store.find t.dict.val k = Store.find s.dict.val k

/-- Values in effect read as before, but at the listed keys. -/
def SameEffs (s t : State) (ks : List Nat) : Prop := ∀ k, k ∉ ks → Store.find t.dict.eff k = Store.find s.dict.eff k

/-- Configured values read as before, but at the listed keys. -/
def SameCfgs (s t : State) (ks : List Nat) : Prop := ∀ k, k ∉ ks → Store.find t.dict.cfg k = Store.find s.dict.cfg k

/-- The configuration and what is in effect are unchanged; other values are, but at the listed keys. -/
def SameDict (s t : State) (ks : List Nat) : Prop := t.dict.cfg = s.dict.cfg ∧ t.dict.eff = s.dict.eff ∧ SameVals s t ks

/-! ### Fault sources -/

/-- A raise of a source is taken on the present cycle (R509, R516, R522): no handling is in progress, the heartbeat is not lost, the
source is not raised yet on this cycle, and it is not one of a lost bank. -/
abbrev CanRaise (s : State) (src : Nat) : Prop :=
  src < 320 ∧ (src < 32 ∨ 168 ≤ src) ∧ s.win.busy = false ∧ s.win.heartLost = false ∧
    (s.win.now.any fun h => h.1 == src) = false

/-- The key of a source's bits in `win.src.state`. -/
def srcKey (src : Nat) : Nat := Obj.win_src_state.key src 0

/-- `t` differs from `s`, in the Winnow, by one source raised: it joins the presentation of the cycle, is active, and no other source is
touched. -/
abbrev Raised (s t : State) (src : Nat) (i : FaultInfo) : Prop :=
  t.win = { s.win with now := t.win.now, srcs := t.win.srcs } ∧ t.win.now = s.win.now ++ [(src, i)] ∧
    (vat t.win.srcs src {}).active = true ∧ ∀ n, n ≠ src → vat t.win.srcs n {} = vat s.win.srcs n {}

/-- `t` differs from `s`, in the Winnow, by what a raise of a source does in whatever state Winnow is: it joins the presentation of
the cycle, is held, or is lost (R509, R514, R516). -/
abbrev RaisedAs (s t : State) (src : Nat) (i : FaultInfo) : Prop := t.win = (s.raise src i).win

/-- The keys of the values that a raise of a source can write. -/
def raiseKeys (src : Nat) : List Nat := [srcKey src, Obj.win_lost.key 0 0, Obj.win_status.key 0 0]

/-! ### Outputs -/

/-- The outputs that run on a DPLL: OUT0 to OUT11, and GF_SCLK as 12. -/
def State.runsOn (s : State) (d : Nat) : List Nat := (List.range 13).filter fun o => (s.out o).running && (s.out o).src + 1 == d

/-- The keys of the objects that show the outputs of a list. -/
def outKeysOf (l : List Nat) : List Nat := l.flatMap fun o => [Obj.out_state.key o 0, Obj.out_aligned.key o 0]

/-- The keys of the objects that show OUT0 to OUT11. -/
def outKeys : List Nat := (List.range 12).flatMap fun o => [Obj.out_state.key o 0, Obj.out_aligned.key o 0]

/-! ### Time core -/

/-- Three keepers that vote and hold one state (R64). -/
abbrev KeepersAgree (t : TimeCore) : Prop :=
  t.k1.regs = t.k0.regs ∧ t.k2.regs = t.k0.regs ∧ t.k0.trusted = true ∧ t.k1.trusted = true ∧ t.k2.trusted = true ∧
    t.k0.failed = false ∧ t.k1.failed = false ∧ t.k2.failed = false

/-! ### Writes -/

/-- A write of an entry passes checks 1 to 6 of R478 and is no immediate write. -/
abbrev Passes (s : State) (level : Nat) (e : WriteEntry) : Prop :=
  s.boot.recovery = false ∧ s.noStaging = false ∧
    (match s.checkWrite level e.index e.sub e.value with
      | .ok (o, v) => !o.row.im && (s.checkRules (s.projected (s.target [e]).1 [(o, v)]) [(o, v)]).isNone
      | .error _ => false) = true

/-- The write of an entry is staged (R476, R477, R484): a new handle reads PENDING with the boundary of its set, the set's last item is the
write with its level, and nothing outside the Granary and its counters changes. -/
def StagedIn (s t : State) (level : Nat) (e : WriteEntry) : Prop :=
  ∃ h k c, h = s.valN Obj.gran_handle + 1 ∧ k = (s.target [e]).1 ∧ t.sets[k]? = some c ∧
    c.items.getLast? = some { handle := h, bundle := false, entries := [e], level := level, path := pathInternal } ∧
    (t.gran.handles.find? fun x => x.1 == h) =
      some (h, { status := 1, sec := (tickIdent (s.setTod k)).1, tick := (tickIdent (s.setTod k)).2 }) ∧
    t = { s with gran := t.gran, dict := t.dict } ∧
    SameDict s t [Obj.gran_handle.key 0 0, Obj.gran_deferred.key 0 0]

/-! ### Invariants and safe runs -/

/-- The shared SRAM is in its canonical form: addresses strictly rising, no entry equal to what an unlisted address reads as. -/
abbrev SramInv (s : State) : Prop := Memory.wf s.mtx.sram = true

/-- A state from which the waiting commands can run: every one is well formed. -/
def State.ready (s : State) : Bool := s.pending.all Instr.wf

end Sys2Proof.Machine
end

