-- ==== Sys2Proof/Certificates/Slice0/Obligations.lean ====
section
/-! DEFINITION. The statements about the part for the provers. Each says what its docstring says, over every state and every operand that
meets its hypotheses; `basis` and `cites` stand in OBLIGATIONS.json. -/
open Sys2Proof

open Sys2Proof.Machine

/-- A step takes the front of the queue and carries it out on the rest; on an empty queue it idles (the model's choice, log entry 3). -/
def Obligations.StepTakesFront : Prop :=
    (∀ (s : State) (c : Instr) (rest : List Instr),
      Sys2Proof.Machine.step { s with pending := c :: rest } = Sys2Proof.Machine.exec c { s with pending := rest }) ∧
    (∀ s : State, s.pending = [] → Sys2Proof.Machine.step s = .next s)

/-- Every step keeps the shared SRAM canonical (the blank byte is the model's choice, log entry 30). -/
def Obligations.SramStaysCanonical : Prop :=
    ∀ s t : State, SramInv s → Sys2Proof.Machine.step s = .next t → SramInv t

/-- Whatever a command does, the queue of the commands that wait is left alone. -/
def Obligations.QueueIsOnlyTakenFrom : Prop :=
    ∀ (c : Instr) (s t : State), Sys2Proof.Machine.exec c s = .next t → t.pending = s.pending

/-- What a reset leaves, as the object tables give it; the SRAM form and the queue are the model's (log entries 7 and 30). -/
def Obligations.ResetState : Prop :=
    State.reset.tc.running = false ∧ State.reset.valN Obj.tod_state = 0 ∧ State.reset.steps = 0 ∧
    State.reset.tc.k0.regs.inc = 0x0200000000000000 ∧ State.reset.valN Obj.ref_active = 0xFF ∧
    State.reset.valN Obj.hold_state = 0 ∧ State.reset.valN Obj.scr_value = unbounded ∧
    SramInv State.reset ∧ State.reset.pending = []

/-- KEEPER_CYCLE: every keeper updates its count by the procedure of R60 -/
def Obligations.KeeperCycleUpdatesCount : Prop :=
    ∀ (s : State),
      s.cycleReady = true →
      ∃ t, Sys2Proof.Machine.exec (.keeperCycle []) s = .next t ∧
        t.tc.cyc = s.tc.cyc + 1 ∧
        (∀ k : Nat, k < 3 →
          let r := (s.tc.keeper k).regs
          let q := (t.tc.keeper k).regs
          q.inc = r.inc ∧ q.slewStep = r.slewStep ∧
            (∀ j, s.tc.step = some j → q.count = (r.count + r.inc + j) % countU ∧ q.slewRem = 0) ∧
            (s.tc.step = none → ∃ d : Int, d = Int.sign r.slewRem * ((min r.slewRem.natAbs r.slewStep : Nat) : Int) ∧
              q.count = (r.count + r.inc + d) % countU ∧ q.slewRem = r.slewRem - d))

/-- The vote: agreeing keepers give the TOD; one that differs loses trust and raises KEEPER_DISAGREE -/
def Obligations.VoteDistributesMajority : Prop :=
    (∀ (s : State),
      s.cycleReady = true →
      s.tc.step = none →
      KeepersAgree s.tc →
      (∀ c, c < 8 → (s.chan c).fresh = none) →
      (∀ p, p < 9 → (s.port p).taking = false) →
      ∃ t, Sys2Proof.Machine.exec (.keeperCycle []) s = .next t ∧
        t.tc.voted = t.tc.k0.regs.count ∧
        t.tc.k1.regs = t.tc.k0.regs ∧
        t.tc.k2.regs = t.tc.k0.regs ∧
        KeepersAgree t.tc ∧
        (t.tc.boundaryDue = true ↔ t.tc.nextGrid ≤ t.tc.voted) ∧
        (s.tc.k0.regs.count + s.tc.k0.regs.inc + s.tc.k0.regs.slewPart < countU → t.tc.nextGrid = s.tc.nextGrid) ∧
        (∀ d : Nat, t.dpll d = if 1 ≤ d ∧ d ≤ 4 ∧ s.todref d = true then { s.dpll d with ff := (s.tc.k0.regs.inc : Int) + s.tc.k0.regs.slewPart } else s.dpll d) ∧
        t = { s with tc := t.tc, dplls := t.dplls }) ∧
    (∀ (s : State) (k : Fin 3) (e : Int),
      s.cycleReady = true →
      s.tc.step = none →
      KeepersAgree s.tc →
      e % countU ≠ 0 →
      CanRaise s (216 + k.val) →
      (∀ c, c < 8 → (s.chan c).fresh = none) →
      (∀ p, p < 9 → (s.port p).taking = false) →
      ∃ t, Sys2Proof.Machine.exec (.keeperCycle [{ keeper := k, count := e }]) s = .next t ∧
        t.tc.voted = (t.tc.keeper ((k.val + 1) % 3)).regs.count ∧
        (t.tc.keeper k.val).trusted = false ∧
        (t.tc.keeper k.val).regs.count = (t.tc.voted + e) % countU ∧
        (t.tc.keeper ((k.val + 1) % 3)).trusted = true ∧
        (t.tc.keeper ((k.val + 2) % 3)).trusted = true ∧
        Raised s t (216 + k.val) {} ∧
        (∀ d : Nat, t.dpll d = if 1 ≤ d ∧ d ≤ 4 ∧ s.todref d = true then { s.dpll d with ff := (s.tc.k0.regs.inc : Int) + s.tc.k0.regs.slewPart } else s.dpll d) ∧
        t = { s with tc := t.tc, win := t.win, dplls := t.dplls, dict := t.dict } ∧
        SameDict s t [srcKey (216 + k.val)])

/-- A cycle on which a step takes effect counts one step, sets the TOD and cancels the slew -/
def Obligations.StepCountsAndEndsSlew : Prop :=
    ∀ (s : State) (j : Int),
      s.cycleReady = true →
      s.tc.step = some j →
      KeepersAgree s.tc →
      s.tc.manualJump = false →
      ∃ t, Sys2Proof.Machine.exec (.keeperCycle []) s = .next t ∧
        t.tc.voted = (s.tc.k0.regs.count + s.tc.k0.regs.inc + j) % countU ∧
        t.steps = (s.steps + 1) % 2 ^ 32 ∧
        t.valN Obj.tod_state = 1 ∧
        t.tc.k0.regs.slewRem = 0 ∧
        t.tc.nextGrid = gridAfter (t.tc.voted + tickU) ∧
        t.tc.stepInTick = true ∧
        t.tc.jumps = []

/-- ACTION_FIRE: a due slot fires on its cycle; STEP_AT adds its offset, SET_AT stands alone, FREQ_AT gives the increment -/
def Obligations.ActionsFire : Prop :=
    (∀ (s : State) (k : Fin 8) (a : ArmedAct),
      s.tc.voted < s.tc.nextGrid →
      (s.dueActs.find? fun x => x.slot == k.val) = some a →
      a.kind = 1 →
      s.stepAllowed = true →
      s.tc.setJump = none →
      ∃ t, Sys2Proof.Machine.exec (.actionFire k) s = .next t ∧
        t.tc.jumps = s.tc.jumps ++ [(k.val, psToU a.offset)] ∧
        t.tc.setJump = none ∧
        t.valN Obj.tod_action_arm k.val = 2 ∧
        t.tc.boundaryDue = (s.tc.boundaryDue || !s.tc.stepDone) ∧
        ((t.tc.outRegs.acts.all fun x => x.slot != k.val) = true) ∧
        t.tc.voted = s.tc.voted ∧
        t = { s with tc := t.tc, dict := t.dict } ∧
        SameDict s t [Obj.tod_action_arm.key k.val 0]) ∧
    (∀ (s : State) (k : Fin 8) (a : ArmedAct),
      s.tc.voted < s.tc.nextGrid →
      (s.dueActs.find? fun x => x.slot == k.val) = some a →
      a.kind = 2 →
      s.stepAllowed = true →
      s.tc.jumps = [] →
      ∃ t, Sys2Proof.Machine.exec (.actionFire k) s = .next t ∧
        t.tc.setJump = some (a.value - a.time) ∧
        t.tc.jumps = [] ∧
        t.valN Obj.tod_action_arm k.val = 2 ∧
        t = { s with tc := t.tc, dict := t.dict } ∧
        SameDict s t [Obj.tod_action_arm.key k.val 0]) ∧
    (∀ (s : State) (k : Fin 8) (a : ArmedAct) (m : Fin 8) (j : Int),
      s.tc.voted < s.tc.nextGrid →
      (s.dueActs.find? fun x => x.slot == k.val) = some a →
      a.kind = 2 →
      s.stepAllowed = true →
      s.tc.jumps = [(m.val, j)] →
      m ≠ k →
      ∃ t, Sys2Proof.Machine.exec (.actionFire k) s = .next t ∧
        t.tc.setJump = some (a.value - a.time) ∧
        t.tc.jumps = [] ∧
        t.valN Obj.tod_action_arm m.val = 4 ∧
        t.valN Obj.tod_action_arm k.val = 2 ∧
        t = { s with tc := t.tc, dict := t.dict } ∧
        SameDict s t [Obj.tod_action_arm.key k.val 0, Obj.tod_action_arm.key m.val 0]) ∧
    (∀ (s : State) (k : Fin 8) (a : ArmedAct),
      s.tc.voted < s.tc.nextGrid →
      (s.dueActs.find? fun x => x.slot == k.val) = some a →
      a.isStep = true →
      s.stepAllowed = false →
      ∃ t, Sys2Proof.Machine.exec (.actionFire k) s = .next t ∧
        t.tc.jumps = s.tc.jumps ∧
        t.tc.setJump = s.tc.setJump ∧
        t.valN Obj.tod_action_arm k.val = 4 ∧
        t = { s with tc := t.tc, dict := t.dict } ∧
        SameDict s t [Obj.tod_action_arm.key k.val 0]) ∧
    (∀ (s : State) (k : Fin 8) (a : ArmedAct),
      s.tc.voted < s.tc.nextGrid →
      (s.dueActs.find? fun x => x.slot == k.val) = some a →
      a.kind = 3 →
      s.tc.freqBy = none →
      ∃ t, Sys2Proof.Machine.exec (.actionFire k) s = .next t ∧
        t.tc.k0.regs.inc = a.inc ∧
        t.tc.k1.regs.inc = a.inc ∧
        t.tc.k2.regs.inc = a.inc ∧
        t.tc.freqBy = some k.val ∧
        t.effI Obj.tod_increment = a.inc ∧
        t.valI Obj.tod_freq_offset = roundDiv ((a.inc : Int) - 2 ^ 57) 512 ∧
        t.valN Obj.tod_action_arm k.val = 2 ∧
        t.tc.jumps = s.tc.jumps ∧
        t.dict.cfg = s.dict.cfg ∧
        SameEffs s t [Obj.tod_increment.key 0 0] ∧
        SameVals s t [Obj.tod_action_arm.key k.val 0, Obj.tod_freq_offset.key 0 0] ∧
        t = { s with tc := t.tc, dict := t.dict, hold := t.hold })

/-- LEAP_APPLY: the new UTC offset takes effect when the TOD reaches the leap time -/
def Obligations.LeapAppliesOffset : Prop :=
    (∀ (s : State) (l : LeapReg),
      s.tc.outRegs.leap = some l →
      l.time ≤ s.tc.voted →
      l.gleaner = false →
      ∃ t, Sys2Proof.Machine.exec (.leapApply) s = .next t ∧
        t.effI Obj.tod_utc_offset = l.newOff ∧
        t.valN Obj.tod_leap_status = 2 ∧
        t.effI Obj.tod_leap_pending = 0 ∧
        t.effI Obj.tod_leap_time = 0 ∧
        t.cfgN Obj.tod_utc_offset = l.newOff ∧
        t.cfgN Obj.tod_leap_pending = 0 ∧
        t.cfgN Obj.tod_leap_time = 0 ∧
        t.tc.k0.regs.leap = none ∧
        t.tc.k1.regs.leap = none ∧
        t.tc.k2.regs.leap = none ∧
        SameVals s t [Obj.tod_leap_status.key 0 0] ∧
        SameEffs s t [Obj.tod_utc_offset.key 0 0, Obj.tod_leap_pending.key 0 0, Obj.tod_leap_time.key 0 0] ∧
        SameCfgs s t [Obj.tod_utc_offset.key 0 0, Obj.tod_leap_pending.key 0 0, Obj.tod_leap_time.key 0 0] ∧
        t = { s with tc := t.tc, dict := t.dict }) ∧
    (∀ (s : State) (l : LeapReg),
      s.tc.outRegs.leap = some l →
      l.time ≤ s.tc.voted →
      l.gleaner = true →
      ∃ t, Sys2Proof.Machine.exec (.leapApply) s = .next t ∧
        t.effI Obj.tod_utc_offset = l.newOff ∧
        t.valN Obj.tod_leap_status = 2 ∧
        t.effI Obj.tod_leap_pending = 0 ∧
        t.dict.cfg = s.dict.cfg ∧
        t.tc.offsetOld = s.effI Obj.tod_utc_offset ∧
        SameVals s t [Obj.tod_leap_status.key 0 0] ∧
        SameEffs s t [Obj.tod_utc_offset.key 0 0, Obj.tod_leap_pending.key 0 0, Obj.tod_leap_time.key 0 0] ∧
        t = { s with tc := t.tc, dict := t.dict })

/-- TK_SEC_LO_READ copies the whole voted TOD into the reading master's shadow and returns the low seconds word -/
def Obligations.TkSecLoReadLatchesShadow : Prop :=
    ∀ (s : State) (m : Fin 10),
      ∃ t, Sys2Proof.Machine.exec (.tkSecLoRead m) s = .next t ∧
        vat t.tc.shadows m.val {} = { hi := todSec s.tc.voted / 2 ^ 32 % 2 ^ 32, ns := todNs s.tc.voted, frac := todFrac s.tc.voted } ∧
        (∀ n : Nat, n ≠ m.val → vat t.tc.shadows n {} = vat s.tc.shadows n {}) ∧
        t.mtx = { s.mtx with delivered := s.mtx.delivered ++ [{ master := m.val, data := beBytes 4 (todSec s.tc.voted % 2 ^ 32) }] } ∧
        t.tc = { s.tc with shadows := t.tc.shadows } ∧
        t = { s with tc := t.tc, mtx := t.mtx }

/-- TICK_BOUNDARY counts, names and commits; STEWARD_TICK_WORK does the work of a role that runs, once -/
def Obligations.BoundaryAndTickWork : Prop :=
    (∀ (s : State),
      s.tc.boundaryDue = true →
      s.boot.inReset = false →
      s.gran.cur = {} →
      s.sel.staged = {} →
      s.sel.carried = {} →
      s.tc.step = none →
      s.dueActs = [] →
      ∃ t, Sys2Proof.Machine.exec (.tickBoundary {}) s = .next t ∧
        t.tc.boundaries = s.tc.boundaries + 1 ∧
        t.tc.boundaryDue = false ∧
        t.tc.nextGrid = gridBefore s.tc.voted + tickU ∧
        t.tc.tickSec = todSec (gridBefore s.tc.voted) ∧
        t.tc.tickNo = tickOf (gridBefore s.tc.voted) ∧
        t.tc.tickCyc = s.tc.cyc ∧
        t.boot.inReset = false ∧
        t.pending = s.pending) ∧
    (∀ (s : State) (h : Nat) (v : Byte),
      s.tc.boundaryDue = true →
      s.boot.inReset = false →
      s.sel.staged = {} →
      s.sel.carried = {} →
      s.tc.step = none →
      s.dueActs = [] →
      s.gran.cur = { items := [{ handle := h, entries := [{ index := 0x1102, sub := 0, value := [v] }] }] } →
      (s.gran.handles.any fun e => e.1 == h) = true →
      ∃ t, Sys2Proof.Machine.exec (.tickBoundary {}) s = .next t ∧
        t.cfgN Obj.atton_queue = v.toNat ∧
        t.effN Obj.atton_queue = v.toNat ∧
        (((t.gran.handles.find? fun e => e.1 == h).map Prod.snd) = some { status := 2, sec := t.tc.tickSec, tick := t.tc.tickNo }) ∧
        t.gran.cur = s.gran.later.headD {} ∧
        t.tc.boundaries = s.tc.boundaries + 1) ∧
    (∀ (s : State) (b : BoundaryIn),
      s.tc.boundaryDue = false →
      ∃ t, Sys2Proof.Machine.exec (.tickBoundary b) s = .next t ∧
        t = s) ∧
    (∀ (s : State) (w : WorkIn) (p : Nat),
      w.role = 1 →
      s.roleAt 2 = some p →
      s.roleRuns 2 = true →
      (s.pair p).done = false →
      s.tc.boundaries ≠ 0 →
      s.gnssOn = false →
      ∃ t, Sys2Proof.Machine.exec (.stewardTickWork w) s = .next t ∧
        t.pair p = { s.pair p with done := true } ∧
        (∀ k : Nat, k ≠ p → t.pair k = s.pair k) ∧
        t.stew = { s.stew with pairs := t.stew.pairs } ∧
        t = { s with stew := t.stew }) ∧
    (∀ (s : State) (w : WorkIn) (p : Nat),
      w.role = 0 →
      s.roleAt 1 = some p →
      s.roleRuns 1 = true →
      (s.pair p).done = false →
      s.tc.boundaries ≠ 0 →
      ∃ t, Sys2Proof.Machine.exec (.stewardTickWork w) s = .next t ∧
        t.pair p = { s.pair p with done := true } ∧
        (∀ k : Nat, k ≠ p → t.pair k = s.pair k) ∧
        t.stew = { s.stew with pairs := t.stew.pairs } ∧
        t.boot = s.boot ∧
        t.gran = s.gran ∧
        t.net = { s.net with ptp := t.net.ptp } ∧
        t.tc = s.tc ∧
        t.sel.staged.terms.isSome = true) ∧
    (∀ (s : State) (w : WorkIn),
      s.tc.boundaries = 0 ∨ s.roleAt (w.role.val + 1) = none →
      ∃ t, Sys2Proof.Machine.exec (.stewardTickWork w) s = .next t ∧
        t = s)

/-- QUALIFICATION_GAINED qualifies a slot good for its whole ref.qual_time; WTR_EXPIRE makes a slot qualified throughout ref.wtr eligible -/
def Obligations.QualificationAndEligibility : Prop :=
    (∀ (s : State) (n : Fin 24),
      s.effT Obj.ref_enable n.val = true →
      (s.slot n.val).present = true →
      (s.slot n.val).qualified = false →
      s.passedO (s.slot n.val).goodSince (s.effN Obj.ref_qual_time n.val * oneSec) = true →
      ∃ t, Sys2Proof.Machine.exec (.qualificationGained n) s = .next t ∧
        (t.slot n.val).qualified = true ∧
        (t.slot n.val).wtrStart = some s.tc.cyc ∧
        (t.slot n.val).present = true ∧
        (t.valN Obj.ref_history n.val).testBit 4 = true ∧
        (s.valT Obj.tod_first_lock = false → (t.slot n.val).eligible = true) ∧
        (s.valT Obj.tod_first_lock = true → (t.slot n.val).eligible = (s.slot n.val).eligible) ∧
        (∀ m : Nat, m ≠ n.val → t.slot m = s.slot m) ∧
        t.elec = { s.elec with irqN := t.elec.irqN } ∧
        t = { s with slots := t.slots, dict := t.dict, elec := t.elec } ∧
        SameDict s t [Obj.ref_history.key n.val 0, Obj.ref_irq_pending.key 0 0]) ∧
    (∀ (s : State) (n : Fin 24),
      (s.slot n.val).qualified = true →
      (s.slot n.val).eligible = false →
      s.passedO (s.slot n.val).wtrStart (s.effN Obj.ref_wtr n.val * oneSec) = true →
      ∃ t, Sys2Proof.Machine.exec (.wtrExpire n) s = .next t ∧
        t.slot n.val = { s.slot n.val with eligible := true } ∧
        (s.effT Obj.ref_enable (n.val) = true → (t.valN Obj.ref_history (n.val)).testBit 5 = true) ∧
        (∀ m : Nat, m ≠ n.val → t.slot m = s.slot m) ∧
        t.elec = { s.elec with irqN := t.elec.irqN } ∧
        t = { s with slots := t.slots, dict := t.dict, elec := t.elec } ∧
        SameDict s t [Obj.ref_history.key n.val 0, Obj.ref_irq_pending.key 0 0])

/-- REF_EDGE is counted, and re-anchors the prediction when expected; two REF_EDGE_MISSING end presence -/
def Obligations.RefEdgePrediction : Prop :=
    (∀ (s : State) (n : Fin 8) (e : EdgeIn),
      s.edgeOk (8 + n.val) e.rise = true →
      s.refHeld n.val (s.slot n.val).lastEdge = false →
      (s.slot n.val).divCount + 1 < s.effN Obj.ref_divider n.val →
      ∃ t, Sys2Proof.Machine.exec (.refEdge n e) s = .next t ∧
        (t.slot n.val).divCount = (s.slot n.val).divCount + 1 ∧
        (t.slot n.val).lastEdge = some s.tc.cyc ∧
        (t.slot n.val).meas = (s.slot n.val).meas ∧
        (∀ m : Nat, m ≠ n.val → t.slot m = s.slot m) ∧
        t = { s with slots := t.slots }) ∧
    (∀ (s : State) (n : Fin 8) (e : EdgeIn) (ev : TicEv) (i : Nat) (p : Int),
      s.effT Obj.ref_enable n.val = true →
      s.edgeOk (8 + n.val) e.rise = true →
      s.refHeld n.val (s.slot n.val).lastEdge = false →
      s.effN Obj.ref_divider n.val ≤ (s.slot n.val).divCount + 1 →
      s.held (8 + n.val) = false →
      (s.chan (8 + n.val)).fencedN ≠ 2 →
      e.k < 1152 →
      s.convert (8 + n.val) e.k = some (ev, i) →
      (s.slot n.val).present = true →
      (s.slot n.val).pred = some p →
      8 * (ofStamp128 ev.stamp - p).natAbs ≤ (s.refPeriod n.val).natAbs →
      ∃ t, Sys2Proof.Machine.exec (.refEdge n e) s = .next t ∧
        (t.slot n.val).present = true ∧
        (t.slot n.val).missed = 0 ∧
        (t.slot n.val).divCount = 0 ∧
        (t.slot n.val).pred = some (ofStamp128 ev.stamp + s.refPeriod n.val) ∧
        (((t.slot n.val).meas.head?.map fun m => (m.t, m.x, m.tickAt)) = some (ofStamp128 ev.stamp, s.refOffset n.val (ofStamp128 ev.stamp), s.tc.boundaries)) ∧
        (∀ m : Nat, m ≠ n.val → t.slot m = s.slot m) ∧
        t.tic = { s.tic with chans := t.tic.chans } ∧
        (∀ c : Nat, c ≠ 8 + n.val → t.chan c = s.chan c) ∧
        t = { s with slots := t.slots, tic := t.tic }) ∧
    (∀ (s : State) (n : Fin 8) (e : EdgeIn) (ev : TicEv) (i : Nat) (p : Int),
      s.effT Obj.ref_enable n.val = true →
      s.edgeOk (8 + n.val) e.rise = true →
      s.refHeld n.val (s.slot n.val).lastEdge = false →
      s.effN Obj.ref_divider n.val ≤ (s.slot n.val).divCount + 1 →
      s.held (8 + n.val) = false →
      (s.chan (8 + n.val)).fencedN ≠ 2 →
      e.k < 1152 →
      s.convert (8 + n.val) e.k = some (ev, i) →
      (s.slot n.val).present = false →
      (s.slot n.val).good3 = 2 →
      (s.slot n.val).pred = some p →
      8 * (ofStamp128 ev.stamp - p).natAbs ≤ (s.refPeriod n.val).natAbs →
      ∃ t, Sys2Proof.Machine.exec (.refEdge n e) s = .next t ∧
        (t.slot n.val).present = true ∧
        (t.slot n.val).pred = some (ofStamp128 ev.stamp + s.refPeriod n.val) ∧
        (∀ m : Nat, m ≠ n.val → t.slot m = s.slot m) ∧
        t.tic = { s.tic with chans := t.tic.chans } ∧
        (∀ c : Nat, c ≠ 8 + n.val → t.chan c = s.chan c) ∧
        t = { s with slots := t.slots, tic := t.tic }) ∧
    (∀ (s : State) (n : Fin 8) (p : Int),
      (s.slot n.val).present = true →
      (s.slot n.val).missed = 0 →
      (s.slot n.val).pred = some p →
      p * 8 + s.refPeriod n.val < s.tod * 8 →
      ∃ t, Sys2Proof.Machine.exec (.refEdgeMissing n) s = .next t ∧
        (t.slot n.val).present = true ∧
        (t.slot n.val).missed = 1 ∧
        (t.slot n.val).pred = some (p + s.refPeriod n.val) ∧
        (∀ m : Nat, m ≠ n.val → t.slot m = s.slot m) ∧
        t = { s with slots := t.slots }) ∧
    (∀ (s : State) (n : Fin 8) (p : Int),
      (s.slot n.val).present = true →
      (s.slot n.val).missed = 1 →
      (s.slot n.val).pred = some p →
      p * 8 + s.refPeriod n.val < s.tod * 8 →
      ∃ t, Sys2Proof.Machine.exec (.refEdgeMissing n) s = .next t ∧
        (t.slot n.val).present = false ∧
        (t.slot n.val).pred = none ∧
        (s.effT Obj.ref_enable (n.val) = true → (t.valN Obj.ref_history (n.val)).testBit 0 = true) ∧
        (∀ m : Nat, m ≠ n.val → t.slot m = s.slot m) ∧
        t.elec = { s.elec with irqN := t.elec.irqN } ∧
        t = { s with slots := t.slots, dict := t.dict, elec := t.elec } ∧
        SameDict s t [Obj.ref_history.key n.val 0, Obj.ref_irq_pending.key 0 0])

/-- TRANSITION_COMPLETE: in the last tick of the window the target is adopted by step or slew, or the switch fails -/
def Obligations.TransitionCompletes : Prop :=
    (∀ (s : State),
      s.lastWindowTick = true →
      s.sel.staged.adopt = none →
      s.sel.staged.fail = none →
      (s.slot (s.valN Obj.ref_target)).eligible = false →
      s.effN Obj.ref_force ≠ s.valN Obj.ref_target →
      ∃ t, Sys2Proof.Machine.exec (.transitionComplete) s = .next t ∧
        t.sel = { s.sel with staged := { s.sel.staged with fail := some (s.valN Obj.ref_target) } } ∧
        t = { s with sel := t.sel }) ∧
    (∀ (s : State),
      s.lastWindowTick = true →
      s.sel.staged.adopt = none →
      s.sel.staged.fail = none →
      (s.slot (s.valN Obj.ref_target)).eligible = true →
      ((s.captured (s.valN Obj.ref_target)).filter fun m => decide (s.sel.transBegan ≤ m.tickAt)) ≠ [] →
      s.isFreq (s.valN Obj.ref_target) = true →
      ∃ t, Sys2Proof.Machine.exec (.transitionComplete) s = .next t ∧
        t.sel = { s.sel with staged := { s.sel.staged with adopt := some (s.valN Obj.ref_target) } } ∧
        t = { s with sel := t.sel }) ∧
    (∀ (s : State) (m : Meas),
      s.lastWindowTick = true →
      s.sel.staged.adopt = none →
      s.sel.staged.fail = none →
      (s.slot (s.valN Obj.ref_target)).eligible = true →
      ((s.captured (s.valN Obj.ref_target)).filter fun m => decide (s.sel.transBegan ≤ m.tickAt)) = [m] →
      s.isFreq (s.valN Obj.ref_target) = false →
      s.valN Obj.tod_state = 0 →
      ∃ t, Sys2Proof.Machine.exec (.transitionComplete) s = .next t ∧
        t.sel.staged = { s.sel.staged with adopt := some (s.valN Obj.ref_target), step := some (m.x * 2 ^ 40) } ∧
        t.sel.adoptD = m.x ∧
        t = { s with sel := t.sel }) ∧
    (∀ (s : State) (m : Meas),
      s.lastWindowTick = true →
      s.sel.staged.adopt = none →
      s.sel.staged.fail = none →
      (s.slot (s.valN Obj.ref_target)).eligible = true →
      ((s.captured (s.valN Obj.ref_target)).filter fun m => decide (s.sel.transBegan ≤ m.tickAt)) = [m] →
      s.isFreq (s.valN Obj.ref_target) = false →
      s.valN Obj.tod_state ≠ 0 →
      s.effN Obj.tod_control = 1 →
      -(2 ^ 63) ≤ m.x →
      m.x < 2 ^ 63 →
      ∃ t, Sys2Proof.Machine.exec (.transitionComplete) s = .next t ∧
        t.sel.staged = { s.sel.staged with adopt := some (s.valN Obj.ref_target) } ∧
        t.valI Obj.servo_error = m.x ∧
        t = { s with sel := t.sel, dict := t.dict } ∧
        SameDict s t [Obj.servo_error.key 0 0]) ∧
    (∀ (s : State) (m : Meas),
      s.lastWindowTick = true →
      s.sel.staged.adopt = none →
      s.sel.staged.fail = none →
      (s.slot (s.valN Obj.ref_target)).eligible = true →
      ((s.captured (s.valN Obj.ref_target)).filter fun m => decide (s.sel.transBegan ≤ m.tickAt)) = [m] →
      s.isFreq (s.valN Obj.ref_target) = false →
      s.valN Obj.tod_state ≠ 0 →
      s.effN Obj.tod_control = 0 →
      s.servoStepOk = false →
      m.x.natAbs * 1000 ≤ s.effN Obj.tod_slew_max * 65536 →
      ∃ t, Sys2Proof.Machine.exec (.transitionComplete) s = .next t ∧
        t.sel.staged = { s.sel.staged with adopt := some (s.valN Obj.ref_target), slewTo := some (ratRound ((m.x : Rat) * 1000 / 65536)) } ∧
        t = { s with sel := t.sel }) ∧
    (∀ (s : State) (m : Meas),
      s.lastWindowTick = true →
      s.sel.staged.adopt = none →
      s.sel.staged.fail = none →
      (s.slot (s.valN Obj.ref_target)).eligible = true →
      ((s.captured (s.valN Obj.ref_target)).filter fun m => decide (s.sel.transBegan ≤ m.tickAt)) = [m] →
      s.isFreq (s.valN Obj.ref_target) = false →
      s.valN Obj.tod_state ≠ 0 →
      s.effN Obj.tod_control = 0 →
      s.servoStepOk = false →
      s.effN Obj.tod_slew_max * 65536 < m.x.natAbs * 1000 →
      s.valN Obj.ref_target < 24 →
      (s.slot (s.valN Obj.ref_target)).inconsistent = false →
      CanRaise s 226 →
      ∃ t, Sys2Proof.Machine.exec (.transitionComplete) s = .next t ∧
        t.sel.staged = { s.sel.staged with fail := some (s.valN Obj.ref_target) } ∧
        t.slot (s.valN Obj.ref_target) = { (s.slot (s.valN Obj.ref_target)).unqualify with inconsistent := true, consOk := false } ∧
        (∀ k, k ≠ s.valN Obj.ref_target → t.slot k = s.slot k) ∧
        Raised s t 226 { detail := s.valN Obj.ref_target } ∧
        (s.effT Obj.ref_enable (s.valN Obj.ref_target) = true → (t.valN Obj.ref_history (s.valN Obj.ref_target)).testBit 3 = true) ∧
        t.elec = { s.elec with irqN := t.elec.irqN } ∧
        t = { s with sel := t.sel, slots := t.slots, win := t.win, dict := t.dict, elec := t.elec } ∧
        SameDict s t [srcKey 226, Obj.ref_history.key (s.valN Obj.ref_target) 0, Obj.ref_irq_pending.key 0 0])

/-- DISPUTE_END removes a calm or ineligible pair; REF_HISTORY_READ returns a slot's history and clears it -/
def Obligations.DisputeAndHistory : Prop :=
    (∀ (s : State) (a b : Fin 24),
      (s.sel.disputes.any fun d => d.a == min a.val b.val && d.b == max a.val b.val && s.disputeOver d) = true →
      ∃ t, Sys2Proof.Machine.exec (.disputeEnd a b) s = .next t ∧
        (t.sel = { s.sel with disputes := s.sel.disputes.filter fun d => !(d.a == min a.val b.val && d.b == max a.val b.val) }) ∧
        (t.sel.disputes = [] → s.valN Obj.ref_arb_state = 2 → t.valN Obj.ref_arb_state = 1) ∧
        (t.sel.disputes ≠ [] → t.valN Obj.ref_arb_state = 2) ∧
        t = { s with sel := t.sel, dict := t.dict } ∧
        SameDict s t [Obj.ref_disputed.key 0 0, Obj.ref_arb_state.key 0 0]) ∧
    (∀ (s : State) (n : Fin 24),
      s.boot.recovery = false →
      ∃ t, Sys2Proof.Machine.exec (.refHistoryRead n) s = .next t ∧
        t.valN Obj.ref_history n.val = 0 ∧
        t.gran = { s.gran with lastRead := [(Obj.ref_history.key n.val 0, intBytes 2 (s.valI Obj.ref_history n.val))] } ∧
        t.elec = { s.elec with faultN := t.elec.faultN, irqN := t.elec.irqN } ∧
        t = { s with gran := t.gran, dict := t.dict, elec := t.elec } ∧
        SameDict s t [Obj.ref_history.key n.val 0])

/-- FLYWHEEL_LOSS holds DPLL-T and ends S23's presence; FLYWHEEL_RESTORE stages the move back to FLY_10M -/
def Obligations.FlywheelLossAndRestore : Prop :=
    (∀ (s : State),
      s.hold.timebaseFly = true →
      s.hold.typeAtStart ≠ 0 →
      (s.dpll 0).held = false →
      (s.slot 23).present = true →
      s.hold.seg = none →
      ∃ t, Sys2Proof.Machine.exec (.flywheelLoss) s = .next t ∧
        (t.dpll 0 = { s.dpll 0 with held := true, dco := s.dcoNow 0, lastOk := false, frozen := some (if (s.dpll 0).tunes.isEmpty then s.dcoTuned 0 else meanOf (s.dpll 0).tunes), tunes := [] }) ∧
        t.dpllState 0 = 3 ∧
        (s.lockedOrSlew 0 = true → t.valN Obj.dpll_unlocks 0 = min (s.valN Obj.dpll_unlocks 0 + 1) (2 ^ 32 - 1)) ∧
        (s.lockedOrSlew 0 = false → t.valN Obj.dpll_unlocks 0 = s.valN Obj.dpll_unlocks 0) ∧
        t.slot 23 = { (s.slot 23).drop with present := false, good3 := 0, missed := 0, pred := none } ∧
        (s.effT Obj.ref_enable 23 = true → (t.valN Obj.ref_history 23).testBit 0 = true) ∧
        (∀ m : Nat, m ≠ 23 → t.slot m = s.slot m) ∧
        (∀ m : Nat, m ≠ 0 → t.dpll m = s.dpll m) ∧
        t.elec = { s.elec with lockPd := t.elec.lockPd, irqN := t.elec.irqN } ∧
        t = { s with slots := t.slots, dplls := t.dplls, elec := t.elec, dict := t.dict } ∧
        SameDict s t [Obj.ref_history.key 23 0, Obj.ref_irq_pending.key 0 0, Obj.dpll_state.key 0 0, Obj.dpll_unlocks.key 0 0]) ∧
    (∀ (s : State) (g : Segment),
      s.hold.timebaseFly = true →
      s.hold.typeAtStart ≠ 0 →
      (s.dpll 0).held = false →
      (s.slot 23).present = true →
      s.hold.seg = some g →
      g.regime ≠ 3 →
      ∃ t, Sys2Proof.Machine.exec (.flywheelLoss) s = .next t ∧
        (t.dpll 0 = { s.dpll 0 with held := true, dco := s.dcoNow 0, lastOk := false, frozen := some (if (s.dpll 0).tunes.isEmpty then s.dcoTuned 0 else meanOf (s.dpll 0).tunes), tunes := [] }) ∧
        t.dpllState 0 = 3 ∧
        (s.lockedOrSlew 0 = true → t.valN Obj.dpll_unlocks 0 = min (s.valN Obj.dpll_unlocks 0 + 1) (2 ^ 32 - 1)) ∧
        (s.lockedOrSlew 0 = false → t.valN Obj.dpll_unlocks 0 = s.valN Obj.dpll_unlocks 0) ∧
        t.slot 23 = { (s.slot 23).drop with present := false, good3 := 0, missed := 0, pred := none } ∧
        (s.effT Obj.ref_enable 23 = true → (t.valN Obj.ref_history 23).testBit 0 = true) ∧
        (∀ m : Nat, m ≠ 23 → t.slot m = s.slot m) ∧
        (∀ m : Nat, m ≠ 0 → t.dpll m = s.dpll m) ∧
        t.elec = { s.elec with lockPd := t.elec.lockPd, irqN := t.elec.irqN } ∧
        t.hold = { s.hold with closed := satScr (s.hold.closed + g.value (((2 * (s.tc.tickCyc - g.start) : Nat) : Rat) / 1000000000)), seg := some { regime := 1, start := s.tc.tickCyc, u := s.xoPar.u0, d := s.xoPar.dMax, k := s.xoPar.kMax, a1 := s.xoPar.a1, b := s.xoPar.b } } ∧
        t = { s with slots := t.slots, dplls := t.dplls, elec := t.elec, hold := t.hold, dict := t.dict } ∧
        SameDict s t [Obj.ref_history.key 23 0, Obj.ref_irq_pending.key 0 0, Obj.dpll_state.key 0 0, Obj.dpll_unlocks.key 0 0]) ∧
    (∀ (s : State),
      s.hold.timebaseFly = false →
      s.hold.typeAtStart ≠ 0 →
      (s.slot 23).qualified = true →
      s.sel.staged.toFly = false →
      s.passedO s.hold.flyQualSince (s.effN Obj.hold_fly_restore * oneSec) = true →
      coasting (s.valN Obj.hold_state) = false →
      ∃ t, Sys2Proof.Machine.exec (.flywheelRestore) s = .next t ∧
        t.sel = { s.sel with staged := { s.sel.staged with toFly := true } } ∧
        t = { s with sel := t.sel })

/-- HOLDOVER_RATE_UPDATE stages 2 ns / (1 + f), and the nominal increment where neither model nor average is available -/
def Obligations.HoldoverRate : Prop :=
    (∀ (s : State),
      coasting (s.valN Obj.hold_state) = true →
      s.effN Obj.tod_control = 0 →
      s.hold.entry = true ∨ s.tc.tickNo = 0 →
      s.flyLost = false →
      s.sel.staged.toXo = false →
      s.sel.staged.toFly = false →
      ∃ t, Sys2Proof.Machine.exec (.holdoverRateUpdate) s = .next t ∧
        t.sel = { s.sel with staged := { s.sel.staged with inc := t.sel.staged.inc } } ∧
        ∃ f : Rat, (s.model.state = 2 → f = s.fPred) ∧ (∀ a, s.model.state ≠ 2 → s.hold.favg = some a → f = a) ∧ (s.model.state ≠ 2 → s.hold.favg = none → f = 0) ∧
          t.sel.staged.inc = some (max 0x01FFF00000000000 (min 0x0200100000000000 (ratRound ((2 ^ 57 : Nat) / (1 + f))))).toNat ∧
        t = { s with sel := t.sel }) ∧
    (∀ (s : State),
      coasting (s.valN Obj.hold_state) = true →
      s.effN Obj.tod_control = 0 →
      s.tc.tickNo = 0 →
      s.model.state ≠ 2 →
      s.hold.favg = none →
      s.flyLost = false →
      s.sel.staged.toXo = false →
      s.sel.staged.toFly = false →
      ∃ t, Sys2Proof.Machine.exec (.holdoverRateUpdate) s = .next t ∧
        t.sel.staged = { s.sel.staged with inc := some 0x0200000000000000 } ∧
        t = { s with sel := t.sel }) ∧
    (∀ (s : State),
      coasting (s.valN Obj.hold_state) = false →
      ∃ t, Sys2Proof.Machine.exec (.holdoverRateUpdate) s = .next t ∧
        t = s)

/-- MODEL_SAMPLE adds the second's sample to the minute accumulator; MODEL_FIT closes the minute and refits -/
def Obligations.ModelLearns : Prop :=
    (∀ (s : State) (f : Rat),
      s.tc.tickNo = 0 →
      s.hold.accS ≠ s.tc.tickSec →
      s.learning = true →
      s.secondSample = some f →
      ∃ t, Sys2Proof.Machine.exec (.modelSample) s = .next t ∧
        t.hold = { s.hold with accF := f :: s.hold.accF, accT := s.modelTemp :: s.hold.accT, accS := s.tc.tickSec } ∧
        t = { s with hold := t.hold }) ∧
    (∀ (s : State),
      s.tc.tickNo = 0 →
      s.tc.tickSec % 60 = 0 →
      s.learning = false →
      s.hold.accF = [] →
      ∃ t, Sys2Proof.Machine.exec (.modelFit) s = .next t ∧
        t.hold.accF = [] ∧
        t.hold.accT = [] ∧
        (t.model.w = s.model.w.filter fun e => decide (s.tc.tickSec ≤ e.s + s.effN Obj.hold_learn_window)) ∧
        t.model.state = s.model.state ∧
        t.model.f0 = s.model.f0 ∧
        t = { s with hold := t.hold }) ∧
    (∀ (s : State) (f x : Rat),
      s.tc.tickNo = 0 →
      s.tc.tickSec % 60 = 0 →
      s.learning = false →
      s.hold.accF = [f] →
      s.hold.accT = [x] →
      ∃ t, Sys2Proof.Machine.exec (.modelFit) s = .next t ∧
        t.hold.accF = [] ∧
        t.hold.accT = [] ∧
        (t.model.w = (({ s := s.hold.accS, f := f, temp := x, after := true } : WEntry) :: s.model.w).filter fun e => decide (s.tc.tickSec ≤ e.s + s.effN Obj.hold_learn_window)) ∧
        t.model.state = s.model.state ∧
        t = { s with hold := t.hold }) ∧
    (∀ (s : State),
      s.tc.tickNo = 0 →
      s.tc.tickSec % 60 = 0 →
      s.learning = true →
      s.hold.accF = [] →
      s.model.w = [] →
      ∃ t, Sys2Proof.Machine.exec (.modelFit) s = .next t ∧
        t.model.state = 1 ∧
        t.model.w = [] ∧
        t.model.f0 = s.model.f0 ∧
        t = { s with hold := t.hold })

/-- FLY_PPS_EDGE: an interval off by more than fly.pps_tol raises FLY_PHASE_HIT and, unless LOCKED, adds to the growth term -/
def Obligations.PhaseHits : Prop :=
    (∀ (s : State) (fine l : Nat),
      s.effT Obj.fly_pps_enable = true →
      s.hold.timebaseFly = true →
      s.hold.ppsLast = some l →
      (((2000 * s.tc.cyc + fine : Nat) : Int) - l - 1000000000000).natAbs ≤ s.effN Obj.fly_pps_tol →
      ∃ t, Sys2Proof.Machine.exec (.flyPpsEdge fine) s = .next t ∧
        t.hold = { s.hold with ppsLast := some (2000 * s.tc.cyc + fine) } ∧
        t = { s with hold := t.hold }) ∧
    (∀ (s : State) (fine l : Nat),
      s.effT Obj.fly_pps_enable = true →
      s.hold.timebaseFly = true →
      s.hold.ppsLast = some l →
      s.effN Obj.fly_pps_tol < (((2000 * s.tc.cyc + fine : Nat) : Int) - l - 1000000000000).natAbs →
      CanRaise s 229 →
      ∃ t, Sys2Proof.Machine.exec (.flyPpsEdge fine) s = .next t ∧
        Raised s t 229 {} ∧
        t.hold = { s.hold with ppsLast := some (2000 * s.tc.cyc + fine), hits := t.hold.hits } ∧
        (s.valN Obj.hold_state = 1 → t.hold.hits = s.hold.hits) ∧
        (s.valN Obj.hold_state ≠ 1 → t.hold.hits = min (s.hold.hits + (((2000 * s.tc.cyc + fine : Nat) : Int) - l - 1000000000000).natAbs) (2 ^ 48 - 1)) ∧
        t = { s with hold := t.hold, win := t.win, dict := t.dict } ∧
        SameDict s t [srcKey 229])

/-- FLY_RECENTRE refuses beyond fly.recentre_range, sends the UART command or stages the DAC frame; FLY_UART_REPLY keeps its first 32 octets -/
def Obligations.Recentring : Prop :=
    (∀ (s : State),
      s.recentreDue = true →
      s.effN Obj.fly_recentre_mode ≠ 2 →
      CanRaise s 231 →
      freqRat (s.effI Obj.fly_recentre_range) < ratAbs (freqRat (s.valI Obj.fly_recentre_used) + ratMax (-freqRat (s.effI Obj.fly_recentre_step_max)) (ratMin (freqRat (s.effI Obj.fly_recentre_step_max)) (-s.fPred))) →
      ∃ t, Sys2Proof.Machine.exec (.flyRecentre) s = .next t ∧
        t.valN Obj.fly_recentre_now = 3 ∧
        t.model.state = 0 ∧
        t.model.w = [] ∧
        Raised s t 231 {} ∧
        t.valI Obj.fly_recentre_used = s.valI Obj.fly_recentre_used ∧
        t = { s with hold := t.hold, win := t.win, dict := t.dict } ∧
        SameDict s t [Obj.fly_recentre_now.key 0 0, srcKey 231]) ∧
    (∀ (s : State),
      s.recentreDue = true →
      s.effN Obj.fly_recentre_mode = 1 →
      ratAbs (freqRat (s.valI Obj.fly_recentre_used) + ratMax (-freqRat (s.effI Obj.fly_recentre_step_max)) (ratMin (freqRat (s.effI Obj.fly_recentre_step_max)) (-s.fPred))) ≤ freqRat (s.effI Obj.fly_recentre_range) →
      ∃ t, Sys2Proof.Machine.exec (.flyRecentre) s = .next t ∧
        t.valN Obj.fly_recentre_now = 2 ∧
        (t.val Obj.fly_uart_reply).bytes = [] ∧
        t.hold.uartAt = some s.tc.cyc ∧
        t.valN Obj.fly_recentre_last = time128 s.tickTod ∧
        t.hold.dacFrame = s.hold.dacFrame ∧
        t = { s with hold := t.hold, dict := t.dict, fresh := t.fresh } ∧
        SameDict s t [Obj.fly_recentre_now.key 0 0, Obj.fly_recentre_used.key 0 0, Obj.fly_recentre_last.key 0 0, Obj.fly_uart_reply.key 0 0]) ∧
    (∀ (s : State) (c code : Int) (df : Rat),
      s.recentreDue = true →
      s.effN Obj.fly_recentre_mode = 2 →
      freqRat (s.effI Obj.fly_dac_gain) ≠ 0 →
      c = ratRound (ratMax (-freqRat (s.effI Obj.fly_recentre_step_max)) (ratMin (freqRat (s.effI Obj.fly_recentre_step_max)) (-s.fPred)) / freqRat (s.effI Obj.fly_dac_gain)) →
      df = (c : Rat) * freqRat (s.effI Obj.fly_dac_gain) →
      ratAbs (freqRat (s.valI Obj.fly_recentre_used) + df) ≤ freqRat (s.effI Obj.fly_recentre_range) →
      code = (s.valN Obj.fly_dac_code : Int) + c →
      0 ≤ code →
      code < 2 ^ s.effN Obj.fly_dac_bits →
      ∃ t, Sys2Proof.Machine.exec (.flyRecentre) s = .next t ∧
        t.valN Obj.fly_recentre_now = 2 ∧
        t.valN Obj.fly_recentre_last = time128 s.tickTod ∧
        t.sel = { s.sel with fInt := s.sel.fInt - df, staged := { s.sel.staged with inc := some (incOf (s.sel.fInt - df)), dac := some (s.dacFrameOf code.toNat) } } ∧
        t.model.f0 = s.model.f0 + df ∧
        t = { s with hold := t.hold, sel := t.sel, dict := t.dict } ∧
        SameDict s t [Obj.fly_recentre_now.key 0 0, Obj.fly_recentre_used.key 0 0, Obj.fly_recentre_last.key 0 0]) ∧
    (∀ (s : State),
      s.recentreDue = false →
      ∃ t, Sys2Proof.Machine.exec (.flyRecentre) s = .next t ∧
        t = s) ∧
    (∀ (s : State) (b : Bytes) (c : Nat),
      s.hold.uartAt = some c →
      s.passed c (oneSec + 1) = false →
      ∃ t, Sys2Proof.Machine.exec (.flyUartReply b) s = .next t ∧
        (t.val Obj.fly_uart_reply).bytes = ((s.val Obj.fly_uart_reply).bytes ++ b).take 32 ∧
        t = { s with dict := t.dict } ∧
        SameDict s t [Obj.fly_uart_reply.key 0 0]) ∧
    (∀ (s : State) (b : Bytes) (c : Nat),
      s.hold.uartAt = some c →
      s.passed c (oneSec + 1) = true →
      ∃ t, Sys2Proof.Machine.exec (.flyUartReply b) s = .next t ∧
        t = s)

/-- SETTLE_TIME_END: at a settled update the scruple falls to R, floors older than settle_start go, and the ports serve it -/
def Obligations.ScrupleSettles : Prop :=
    (∀ (s : State),
      s.tc.cyc = s.tc.tickCyc →
      s.scr.fell = true →
      ∃ t, Sys2Proof.Machine.exec (.settleTimeEnd) s = .next t ∧
        t.valI Obj.scr_value = s.valI Obj.scr_raw ∧
        t.valN Obj.scr_manual = 0 ∧
        (t.scr = { s.scr with floors := s.scr.floors.filter fun f => decide (s.scr.settleStart.getD 0 ≤ f.start) }) ∧
        (t.valN Obj.scr_floor = t.scr.floors.foldl (fun m f => max m f.f) 0) ∧
        (∀ p, p < 9 → t.valN Obj.scr_port p = min (s.valN Obj.scr_raw + s.valN Obj.stamp_accuracy p + s.effN Obj.scr_dist_extra p + s.scr.g) (2 ^ 48 - 1)) ∧
        SameDict s t ([Obj.scr_value.key 0 0, Obj.scr_manual.key 0 0, Obj.scr_floor.key 0 0] ++ (List.range 9).map fun p => Obj.scr_port.key p 0) ∧
        t = { s with scr := t.scr, dict := t.dict }) ∧
    (∀ (s : State),
      s.scr.fell = false →
      ∃ t, Sys2Proof.Machine.exec (.settleTimeEnd) s = .next t ∧
        t = s)

/-- PATH_GUARD_END: without a healthy Gleaner the guard ends with scr.path_steps unchanged and the detector NORMAL -/
def Obligations.PathGuardEnds : Prop :=
    (∀ (s : State) (i : Fin 4),
      s.valN Obj.scr_path_state i.val = 2 →
      s.passedO (s.path i.val).guardFrom (s.effN Obj.scr_guard * oneSec) = true →
      s.scr.healthySince = none →
      ∃ t, Sys2Proof.Machine.exec (.pathGuardEnd i) s = .next t ∧
        t.valN Obj.scr_path_state i.val = 0 ∧
        t.slot (9 + i.val) = { s.slot (9 + i.val) with held := none, pathStep := false } ∧
        t.path i.val = { s.path i.val with guardFrom := none, delta := 0, during := [], before := [], suspects := [] } ∧
        t.scr = { s.scr with paths := t.scr.paths } ∧
        (∀ m : Nat, m ≠ 9 + i.val → t.slot m = s.slot m) ∧
        (∀ m : Nat, m ≠ i.val → t.path m = s.path m) ∧
        t = { s with scr := t.scr, slots := t.slots, dict := t.dict } ∧
        SameDict s t [Obj.scr_path_state.key i.val 0]) ∧
    (∀ (s : State) (i : Fin 4),
      s.passedO (s.path i.val).guardFrom (s.effN Obj.scr_guard * oneSec) = false →
      ∃ t, Sys2Proof.Machine.exec (.pathGuardEnd i) s = .next t ∧
        t = s)

/-- DPLL_ACQUIRE, DPLL_LOCK and DPLL_RELOCK_TIMEOUT: the loop closes at B_acq, declares lock at B, and reports a lock that does not come -/
def Obligations.DpllAcquiresAndLocks : Prop :=
    (∀ (s : State) (d : Fin 5),
      s.dpllState d.val = 0 →
      s.dpllRef d.val = true →
      ∃ t, Sys2Proof.Machine.exec (.dpllAcquire d) s = .next t ∧
        t.dpllState d.val = 1 ∧
        (t.dpll d.val = { { (s.dpll d.val) with dco := s.effN Obj.dpll_dco_freq d.val, target := s.effN Obj.dpll_dco_freq d.val, retune := false, prop := 0, integ := 0, integ2 := 0, frozen := none } with acqFrom := s.tc.cyc, timedOut := false, inWin := none, outRun := 0, lastOk := false, edgeOff := (if d.val = 0 then (s.dpll d.val).edgeOff + (s.dpll d.val).lastE else 0), bwNow := max (s.effN Obj.dpll_acq_bw d.val) (s.effN Obj.dpll_bw d.val) }) ∧
        (∀ m : Nat, m ≠ d.val → t.dpll m = s.dpll m) ∧
        t.elec = { s.elec with lockPd := t.elec.lockPd } ∧
        t = { s with dplls := t.dplls, elec := t.elec, dict := t.dict } ∧
        SameDict s t [Obj.dpll_state.key d.val 0]) ∧
    (∀ (s : State) (d : Fin 5),
      s.dpllState d.val ≠ 0 ∨ s.dpllRef d.val = false →
      ∃ t, Sys2Proof.Machine.exec (.dpllAcquire d) s = .next t ∧
        t = s) ∧
    (∀ (s : State) (d : Fin 5),
      s.dpllState d.val = 1 →
      (s.dpll d.val).retune = false →
      s.freqDue d.val = false →
      s.passedO (s.dpll d.val).inWin (s.effN Obj.dpll_lock_time d.val * 1000000) = true →
      ∃ t, Sys2Proof.Machine.exec (.dpllLock d) s = .next t ∧
        t.dpllState d.val = 2 ∧
        t.dpll d.val = { s.dpll d.val with bwNow := s.effN Obj.dpll_bw d.val } ∧
        (∀ m : Nat, m ≠ d.val → t.dpll m = s.dpll m) ∧
        t.elec = { s.elec with lockPd := t.elec.lockPd } ∧
        t = { s with dplls := t.dplls, elec := t.elec, dict := t.dict } ∧
        SameDict s t [Obj.dpll_state.key d.val 0]) ∧
    (∀ (s : State) (d : Fin 5),
      (s.dpll d.val).retune = true ∨ s.freqDue d.val = true ∨ (s.dpll d.val).inWin = none →
      ∃ t, Sys2Proof.Machine.exec (.dpllLock d) s = .next t ∧
        t = s) ∧
    (∀ (s : State) (d : Fin 5),
      s.dpllState d.val = 1 →
      (s.dpll d.val).timedOut = false →
      s.passed (s.dpll d.val).acqFrom (s.effN Obj.dpll_relock_max d.val * 1000000) = true →
      CanRaise s (238 + d.val) →
      ∃ t, Sys2Proof.Machine.exec (.dpllRelockTimeout d) s = .next t ∧
        t.dpllState d.val = 1 ∧
        t.dpll d.val = { s.dpll d.val with timedOut := true } ∧
        (∀ m : Nat, m ≠ d.val → t.dpll m = s.dpll m) ∧
        Raised s t (238 + d.val) {} ∧
        t = { s with dplls := t.dplls, win := t.win, dict := t.dict } ∧
        SameDict s t [srcKey (238 + d.val)])

/-- DPLL_UNLOCK, DPLL_REF_LOSS, DPLL_REF_RETURN and DCO_SPARE_IN: what each does when it is due, and that it does nothing when it is not -/
def Obligations.DpllLosesLock : Prop :=
    (∀ (s : State) (d : Fin 5),
      s.dpllState d.val = 2 →
      s.effN Obj.dpll_unlock_count d.val ≤ (s.dpll d.val).outRun →
      ∃ t, Sys2Proof.Machine.exec (.dpllUnlock d) s = .next t ∧
        t.dpllState d.val = 1 ∧
        (t.dpll d.val = { (s.dpll d.val) with acqFrom := s.tc.cyc, timedOut := false, inWin := none, outRun := 0, lastOk := false, edgeOff := (if d.val = 0 then (s.dpll d.val).edgeOff + (s.dpll d.val).lastE else 0), bwNow := max (s.effN Obj.dpll_acq_bw d.val) (s.effN Obj.dpll_bw d.val) }) ∧
        t.valN Obj.dpll_unlocks d.val = min (s.valN Obj.dpll_unlocks d.val + 1) (2 ^ 32 - 1) ∧
        (∀ m : Nat, m ≠ d.val → t.dpll m = s.dpll m) ∧
        t.elec = { s.elec with lockPd := t.elec.lockPd } ∧
        (∀ o, o ∈ s.runsOn d.val → t.out o = { s.out o with gating := true }) ∧
        (∀ o, o ∉ s.runsOn d.val → t.out o = s.out o) ∧
        (∀ o, o < 12 ∧ o ∈ s.runsOn d.val → t.valN Obj.out_state o = 2) ∧
        (∀ o, o < 12 ∧ o ∈ s.runsOn d.val → t.valT Obj.out_aligned o = (s.out o).aligned) ∧
        RaisedAs s t (233 + d.val) {} ∧
        (CanRaise s (233 + d.val) → t.win.now = s.win.now ++ [((233 + d.val), ({} : FaultInfo))] ∧ (vat t.win.srcs (233 + d.val) {}).active = true) ∧
        SameDict s t ([Obj.dpll_state.key d.val 0, Obj.dpll_unlocks.key d.val 0] ++ raiseKeys (233 + d.val) ++ outKeysOf (s.runsOn d.val)) ∧
        t = { s with dplls := t.dplls, outs := t.outs, elec := t.elec, win := t.win, dict := t.dict }) ∧
    (∀ (s : State) (d : Fin 5),
      s.dpllState d.val = 4 →
      s.effN Obj.dpll_unlock_count d.val ≤ (s.dpll d.val).outRun →
      s.runsOn d.val ≠ [] →
      ∃ t, Sys2Proof.Machine.exec (.dpllUnlock d) s = .next t ∧
        t.dpllState d.val = 1 ∧
        (t.dpll d.val = { { (s.dpll d.val) with dco := s.dcoNow d.val, retune := true } with acqFrom := s.tc.cyc, timedOut := false, inWin := none, outRun := 0, lastOk := false, edgeOff := (if d.val = 0 then (s.dpll d.val).edgeOff + (s.dpll d.val).lastE else 0), bwNow := max (s.effN Obj.dpll_acq_bw d.val) (s.effN Obj.dpll_bw d.val) }) ∧
        t.valN Obj.dpll_unlocks d.val = min (s.valN Obj.dpll_unlocks d.val + 1) (2 ^ 32 - 1) ∧
        (∀ m : Nat, m ≠ d.val → t.dpll m = s.dpll m) ∧
        t.elec = { s.elec with lockPd := t.elec.lockPd } ∧
        (∀ o, o ∈ s.runsOn d.val → t.out o = { s.out o with gating := true }) ∧
        (∀ o, o ∉ s.runsOn d.val → t.out o = s.out o) ∧
        (∀ o, o < 12 ∧ o ∈ s.runsOn d.val → t.valN Obj.out_state o = 2) ∧
        (∀ o, o < 12 ∧ o ∈ s.runsOn d.val → t.valT Obj.out_aligned o = (s.out o).aligned) ∧
        RaisedAs s t (233 + d.val) {} ∧
        (CanRaise s (233 + d.val) → t.win.now = s.win.now ++ [((233 + d.val), ({} : FaultInfo))] ∧ (vat t.win.srcs (233 + d.val) {}).active = true) ∧
        SameDict s t ([Obj.dpll_state.key d.val 0, Obj.dpll_unlocks.key d.val 0] ++ raiseKeys (233 + d.val) ++ outKeysOf (s.runsOn d.val)) ∧
        t = { s with dplls := t.dplls, outs := t.outs, elec := t.elec, win := t.win, dict := t.dict }) ∧
    (∀ (s : State) (d : Fin 5),
      s.dpllState d.val = 4 →
      s.effN Obj.dpll_unlock_count d.val ≤ (s.dpll d.val).outRun →
      s.runsOn d.val = [] →
      ∃ t, Sys2Proof.Machine.exec (.dpllUnlock d) s = .next t ∧
        t.dpllState d.val = 1 ∧
        (t.dpll d.val = { { (s.dpll d.val) with dco := s.effN Obj.dpll_dco_freq d.val, target := s.effN Obj.dpll_dco_freq d.val, retune := false, prop := 0, integ := 0, integ2 := 0, frozen := none } with acqFrom := s.tc.cyc, timedOut := false, inWin := none, outRun := 0, lastOk := false, edgeOff := (if d.val = 0 then (s.dpll d.val).edgeOff + (s.dpll d.val).lastE else 0), bwNow := max (s.effN Obj.dpll_acq_bw d.val) (s.effN Obj.dpll_bw d.val) }) ∧
        t.valN Obj.dpll_unlocks d.val = min (s.valN Obj.dpll_unlocks d.val + 1) (2 ^ 32 - 1) ∧
        t.outs = s.outs ∧
        (∀ m : Nat, m ≠ d.val → t.dpll m = s.dpll m) ∧
        t.elec = { s.elec with lockPd := t.elec.lockPd } ∧
        RaisedAs s t (233 + d.val) {} ∧
        (CanRaise s (233 + d.val) → t.win.now = s.win.now ++ [((233 + d.val), ({} : FaultInfo))] ∧ (vat t.win.srcs (233 + d.val) {}).active = true) ∧
        SameDict s t ([Obj.dpll_state.key d.val 0, Obj.dpll_unlocks.key d.val 0] ++ raiseKeys (233 + d.val) ++ outKeysOf (s.runsOn d.val)) ∧
        t = { s with dplls := t.dplls, outs := t.outs, elec := t.elec, win := t.win, dict := t.dict }) ∧
    (∀ (s : State) (d : Fin 5),
      (s.dpllState d.val ≠ 2 ∧ s.dpllState d.val ≠ 4) ∨ (s.dpll d.val).outRun < s.effN Obj.dpll_unlock_count d.val →
      ∃ t, Sys2Proof.Machine.exec (.dpllUnlock d) s = .next t ∧
        t = s) ∧
    (∀ (s : State),
      s.dpllState 2 ≠ 0 →
      s.dpllState 2 ≠ 3 →
      s.dpllRef 2 = false →
      ∃ t, Sys2Proof.Machine.exec (.dpllRefLoss) s = .next t ∧
        t.dpllState 2 = 3 ∧
        (t.dpll 2 = { s.dpll 2 with dco := s.dcoNow 2, lastOk := false, frozen := some (if (s.dpll 2).tunes.isEmpty then s.dcoTuned 2 else meanOf (s.dpll 2).tunes), tunes := [] }) ∧
        (s.lockedOrSlew 2 = true → t.valN Obj.dpll_unlocks 2 = min (s.valN Obj.dpll_unlocks 2 + 1) (2 ^ 32 - 1)) ∧
        (s.lockedOrSlew 2 = false → t.valN Obj.dpll_unlocks 2 = s.valN Obj.dpll_unlocks 2) ∧
        (∀ m : Nat, m ≠ 2 → t.dpll m = s.dpll m) ∧
        t.elec = { s.elec with lockPd := t.elec.lockPd } ∧
        (∀ o, o ∈ s.runsOn 2 → t.out o = { s.out o with gating := true }) ∧
        (∀ o, o ∉ s.runsOn 2 → t.out o = s.out o) ∧
        (∀ o, o < 12 ∧ o ∈ s.runsOn 2 → t.valN Obj.out_state o = 2) ∧
        (∀ o, o < 12 ∧ o ∈ s.runsOn 2 → t.valT Obj.out_aligned o = (s.out o).aligned) ∧
        RaisedAs s t 243 {} ∧
        (CanRaise s 243 → t.win.now = s.win.now ++ [(243, ({} : FaultInfo))] ∧ (vat t.win.srcs 243 {}).active = true) ∧
        SameDict s t ([Obj.dpll_state.key 2 0, Obj.dpll_unlocks.key 2 0] ++ raiseKeys 243 ++ outKeysOf (s.runsOn 2)) ∧
        t = { s with dplls := t.dplls, outs := t.outs, elec := t.elec, win := t.win, dict := t.dict }) ∧
    (∀ (s : State),
      s.dpllState 2 = 0 ∨ s.dpllState 2 = 3 ∨ s.dpllRef 2 = true →
      ∃ t, Sys2Proof.Machine.exec (.dpllRefLoss) s = .next t ∧
        t = s) ∧
    (∀ (s : State) (f : Int),
      s.dpllState 2 = 3 →
      s.dpllRef 2 = true →
      f = ((s.dpll 2).dco : Int) * 1000 →
      (s.dpll 2).dco = (s.dpll 2).target →
      ∃ t, Sys2Proof.Machine.exec (.dpllRefReturn) s = .next t ∧
        t.dpllState 2 = 1 ∧
        (t.dpll 2 = { { s.dpll 2 with frozen := none, prop := 0, integ2 := 0, integ := roundDiv (((s.dpll 2).frozen.getD f - f) * 2 ^ 64) (max 1 f.natAbs) - (if s.todref 2 then ((s.dpll 2).ff - 0x0200000000000000) * 128 else 0) } with acqFrom := s.tc.cyc, timedOut := false, inWin := none, outRun := 0, lastOk := false, edgeOff := (if 2 = 0 then (s.dpll 2).edgeOff + (s.dpll 2).lastE else 0), bwNow := max (s.effN Obj.dpll_acq_bw 2) (s.effN Obj.dpll_bw 2) }) ∧
        (∀ m : Nat, m ≠ 2 → t.dpll m = s.dpll m) ∧
        t.elec = { s.elec with lockPd := t.elec.lockPd } ∧
        t = { s with dplls := t.dplls, elec := t.elec, dict := t.dict } ∧
        SameDict s t [Obj.dpll_state.key 2 0]) ∧
    (∀ (s : State) (f : Int),
      s.dpllState 2 = 3 →
      s.dpllRef 2 = true →
      f = ((s.dpll 2).dco : Int) * 1000 →
      (s.dpll 2).dco ≠ (s.dpll 2).target →
      s.runsOn 2 ≠ [] →
      ∃ t, Sys2Proof.Machine.exec (.dpllRefReturn) s = .next t ∧
        t.dpllState 2 = 1 ∧
        (t.dpll 2 = { { s.dpll 2 with frozen := none, retune := true, prop := 0, integ2 := 0, integ := roundDiv (((s.dpll 2).frozen.getD f - f) * 2 ^ 64) (max 1 f.natAbs) - (if s.todref 2 then ((s.dpll 2).ff - 0x0200000000000000) * 128 else 0) } with acqFrom := s.tc.cyc, timedOut := false, inWin := none, outRun := 0, lastOk := false, edgeOff := (if 2 = 0 then (s.dpll 2).edgeOff + (s.dpll 2).lastE else 0), bwNow := max (s.effN Obj.dpll_acq_bw 2) (s.effN Obj.dpll_bw 2) }) ∧
        (∀ m : Nat, m ≠ 2 → t.dpll m = s.dpll m) ∧
        t.elec = { s.elec with lockPd := t.elec.lockPd } ∧
        (∀ o, o ∈ s.runsOn 2 → t.out o = { s.out o with gating := true }) ∧
        (∀ o, o ∉ s.runsOn 2 → t.out o = s.out o) ∧
        (∀ o, o < 12 ∧ o ∈ s.runsOn 2 → t.valN Obj.out_state o = 2) ∧
        (∀ o, o < 12 ∧ o ∈ s.runsOn 2 → t.valT Obj.out_aligned o = (s.out o).aligned) ∧
        SameDict s t ([Obj.dpll_state.key 2 0] ++ outKeysOf (s.runsOn 2)) ∧
        t = { s with dplls := t.dplls, outs := t.outs, elec := t.elec, dict := t.dict }) ∧
    (∀ (s : State),
      s.dpllState 2 = 3 →
      s.dpllRef 2 = true →
      (s.dpll 2).dco ≠ (s.dpll 2).target →
      s.runsOn 2 = [] →
      ∃ t, Sys2Proof.Machine.exec (.dpllRefReturn) s = .next t ∧
        t.dpllState 2 = 1 ∧
        (t.dpll 2 = { { (s.dpll 2) with dco := s.effN Obj.dpll_dco_freq 2, target := s.effN Obj.dpll_dco_freq 2, retune := false, prop := 0, integ := 0, integ2 := 0, frozen := none } with acqFrom := s.tc.cyc, timedOut := false, inWin := none, outRun := 0, lastOk := false, edgeOff := (if 2 = 0 then (s.dpll 2).edgeOff + (s.dpll 2).lastE else 0), bwNow := max (s.effN Obj.dpll_acq_bw 2) (s.effN Obj.dpll_bw 2) }) ∧
        (∀ m : Nat, m ≠ 2 → t.dpll m = s.dpll m) ∧
        t.elec = { s.elec with lockPd := t.elec.lockPd } ∧
        t = { s with dplls := t.dplls, elec := t.elec, dict := t.dict } ∧
        SameDict s t [Obj.dpll_state.key 2 0]) ∧
    (∀ (s : State),
      s.dpllState 2 ≠ 3 ∨ s.dpllRef 2 = false →
      ∃ t, Sys2Proof.Machine.exec (.dpllRefReturn) s = .next t ∧
        t = s) ∧
    (∀ (s : State),
      s.win.dcoPend = true →
      s.win.dcoSpare = true →
      CanRaise s 244 →
      ∃ t, Sys2Proof.Machine.exec (.dcoSpareIn) s = .next t ∧
        t.win.dcoPend = false ∧
        t.win.dcoSpare = false ∧
        t.valN Obj.dpll_dco_spare = 1 ∧
        t.hold = { s.hold with hits := t.hold.hits } ∧
        (s.valN Obj.hold_state = 1 → t.hold.hits = s.hold.hits) ∧
        (s.valN Obj.hold_state ≠ 1 → t.hold.hits = min (s.hold.hits + 2) (2 ^ 48 - 1)) ∧
        t.win = { s.win with dcoPend := false, dcoSpare := false, now := s.win.now ++ [(244, ({} : FaultInfo))], srcs := t.win.srcs } ∧
        (vat t.win.srcs 244 {}).active = true ∧
        (∀ n : Nat, n ≠ 244 → vat t.win.srcs n {} = vat s.win.srcs n {}) ∧
        t = { s with hold := t.hold, win := t.win, dict := t.dict } ∧
        SameDict s t [Obj.dpll_dco_spare.key 0 0, srcKey 244]) ∧
    (∀ (s : State),
      s.win.dcoPend = true →
      s.win.dcoSpare = true →
      s.win.busy = true →
      (s.win.held.any fun h => h.1 == 244) = false →
      ∃ t, Sys2Proof.Machine.exec (.dcoSpareIn) s = .next t ∧
        t.win.dcoPend = false ∧
        t.win.dcoSpare = false ∧
        t.valN Obj.dpll_dco_spare = 1 ∧
        t.hold = { s.hold with hits := t.hold.hits } ∧
        (s.valN Obj.hold_state = 1 → t.hold.hits = s.hold.hits) ∧
        (s.valN Obj.hold_state ≠ 1 → t.hold.hits = min (s.hold.hits + 2) (2 ^ 48 - 1)) ∧
        t.win = { s.win with dcoPend := false, dcoSpare := false, held := s.win.held ++ [(244, ({} : FaultInfo))], srcs := t.win.srcs } ∧
        (vat t.win.srcs 244 {}).active = true ∧
        (∀ n : Nat, n ≠ 244 → vat t.win.srcs n {} = vat s.win.srcs n {}) ∧
        t = { s with hold := t.hold, win := t.win, dict := t.dict } ∧
        SameDict s t [Obj.dpll_dco_spare.key 0 0, srcKey 244]) ∧
    (∀ (s : State),
      s.win.dcoPend = false ∨ s.win.dcoSpare = false →
      ∃ t, Sys2Proof.Machine.exec (.dcoSpareIn) s = .next t ∧
        t = s)

/-- A committed frequency change re-acquires with the outputs gated, or ramps in SLEW when hitless, ending LOCKED -/
def Obligations.DpllFrequencyChanges : Prop :=
    (∀ (s : State) (d : Fin 5),
      s.freqDue d.val = true →
      s.hitlessOk d.val = false →
      s.dpllState d.val = 1 ∨ s.dpllState d.val = 2 ∨ s.dpllState d.val = 4 →
      s.runsOn d.val ≠ [] →
      ∃ t, Sys2Proof.Machine.exec (.dpllFreqChange d) s = .next t ∧
        t.dpllState d.val = 1 ∧
        (t.dpll d.val = { { (s.dpll d.val) with dco := s.dcoNow d.val, retune := true } with acqFrom := s.tc.cyc, timedOut := false, inWin := none, outRun := 0, lastOk := false, edgeOff := (if d.val = 0 then (s.dpll d.val).edgeOff + (s.dpll d.val).lastE else 0), bwNow := max (s.effN Obj.dpll_acq_bw d.val) (s.effN Obj.dpll_bw d.val) }) ∧
        (∀ m : Nat, m ≠ d.val → t.dpll m = s.dpll m) ∧
        t.elec = { s.elec with lockPd := t.elec.lockPd } ∧
        (s.lockedOrSlew d.val = true → t.valN Obj.dpll_unlocks d.val = min (s.valN Obj.dpll_unlocks d.val + 1) (2 ^ 32 - 1)) ∧
        (s.lockedOrSlew d.val = false → t.valN Obj.dpll_unlocks d.val = s.valN Obj.dpll_unlocks d.val) ∧
        (∀ o, o ∈ s.runsOn d.val → t.out o = { s.out o with gating := true }) ∧
        (∀ o, o ∉ s.runsOn d.val → t.out o = s.out o) ∧
        (∀ o, o < 12 ∧ o ∈ s.runsOn d.val → t.valN Obj.out_state o = 2) ∧
        (∀ o, o < 12 ∧ o ∈ s.runsOn d.val → t.valT Obj.out_aligned o = (s.out o).aligned) ∧
        SameDict s t ([Obj.dpll_state.key d.val 0, Obj.dpll_unlocks.key d.val 0] ++ outKeysOf (s.runsOn d.val)) ∧
        t = { s with dplls := t.dplls, outs := t.outs, elec := t.elec, dict := t.dict }) ∧
    (∀ (s : State) (d : Fin 5),
      s.freqDue d.val = true →
      s.hitlessOk d.val = false →
      s.dpllState d.val = 1 ∨ s.dpllState d.val = 2 ∨ s.dpllState d.val = 4 →
      s.runsOn d.val = [] →
      ∃ t, Sys2Proof.Machine.exec (.dpllFreqChange d) s = .next t ∧
        t.dpllState d.val = 1 ∧
        (t.dpll d.val = { { (s.dpll d.val) with dco := s.effN Obj.dpll_dco_freq d.val, target := s.effN Obj.dpll_dco_freq d.val, retune := false, prop := 0, integ := 0, integ2 := 0, frozen := none } with acqFrom := s.tc.cyc, timedOut := false, inWin := none, outRun := 0, lastOk := false, edgeOff := (if d.val = 0 then (s.dpll d.val).edgeOff + (s.dpll d.val).lastE else 0), bwNow := max (s.effN Obj.dpll_acq_bw d.val) (s.effN Obj.dpll_bw d.val) }) ∧
        (∀ m : Nat, m ≠ d.val → t.dpll m = s.dpll m) ∧
        t.elec = { s.elec with lockPd := t.elec.lockPd } ∧
        (s.lockedOrSlew d.val = true → t.valN Obj.dpll_unlocks d.val = min (s.valN Obj.dpll_unlocks d.val + 1) (2 ^ 32 - 1)) ∧
        (s.lockedOrSlew d.val = false → t.valN Obj.dpll_unlocks d.val = s.valN Obj.dpll_unlocks d.val) ∧
        t = { s with dplls := t.dplls, elec := t.elec, dict := t.dict } ∧
        SameDict s t [Obj.dpll_state.key d.val 0, Obj.dpll_unlocks.key d.val 0]) ∧
    (∀ (s : State) (d : Fin 5),
      s.freqDue d.val = true →
      s.hitlessOk d.val = true →
      ∃ t, Sys2Proof.Machine.exec (.dpllHitlessChange d) s = .next t ∧
        t.dpllState d.val = 4 ∧
        t.dpll d.val = { s.dpll d.val with dco := s.dcoNow d.val, target := s.effN Obj.dpll_dco_freq d.val, acqFrom := s.tc.cyc } ∧
        (∀ o, o ∈ s.dependents d.val → t.out o = { s.out o with aligned := false }) ∧
        (∀ o, o ∉ s.dependents d.val → t.out o = s.out o) ∧
        (∀ o, o < 12 ∧ o ∈ s.dependents d.val → t.valT Obj.out_aligned o = false) ∧
        (∀ m : Nat, m ≠ d.val → t.dpll m = s.dpll m) ∧
        t.elec = { s.elec with lockPd := t.elec.lockPd } ∧
        SameDict s t ([Obj.dpll_state.key d.val 0] ++ outKeysOf (s.dependents d.val)) ∧
        t = { s with dplls := t.dplls, outs := t.outs, elec := t.elec, dict := t.dict }) ∧
    (∀ (s : State) (d : Fin 5),
      s.dpllState d.val = 4 →
      s.dcoNow d.val = (s.dpll d.val).target →
      ∃ t, Sys2Proof.Machine.exec (.dpllSlewDone d) s = .next t ∧
        t.dpllState d.val = 2 ∧
        t.dpll d.val = { s.dpll d.val with dco := (s.dpll d.val).target, edgeOff := (s.dpll d.val).edgeOff + (s.dpll d.val).lastE, lastE := 0 } ∧
        (∀ m : Nat, m ≠ d.val → t.dpll m = s.dpll m) ∧
        t.elec = { s.elec with lockPd := t.elec.lockPd } ∧
        t = { s with dplls := t.dplls, elec := t.elec, dict := t.dict } ∧
        SameDict s t [Obj.dpll_state.key d.val 0]) ∧
    (∀ (s : State) (d : Fin 5),
      s.dcoNow d.val ≠ (s.dpll d.val).target →
      ∃ t, Sys2Proof.Machine.exec (.dpllSlewDone d) s = .next t ∧
        t = s)

/-- OUTPUT_GATE holds an output low; OUTPUT_RELEASE starts it at a phase target once its DPLL is settled in LOCKED or SLEW -/
def Obligations.OutputsGateAndRelease : Prop :=
    (∀ (s : State) (o : Fin 13),
      o.val < 12 →
      (s.out o.val).gating = true →
      (s.out o.val).running = true →
      (s.dpll ((s.out o.val).src + 1)).retune = false ∨ ∃ k : Fin 13, k.val ≠ o.val ∧ (s.out k.val).running = true ∧ (s.out k.val).src = (s.out o.val).src →
      ∃ t, Sys2Proof.Machine.exec (.outputGate o) s = .next t ∧
        t.out o.val = { s.out o.val with high := false, gating := false, running := false, aligned := false } ∧
        t.valN Obj.out_aligned o.val = 0 ∧
        (t.valN Obj.out_state o.val = (if s.effT Obj.out_enable o.val then 1 else 0)) ∧
        t.valN Obj.out_gatings o.val = min (s.valN Obj.out_gatings o.val + 1) (2 ^ 32 - 1) ∧
        (∀ m : Nat, m ≠ o.val → t.out m = s.out m) ∧
        t = { s with outs := t.outs, dict := t.dict } ∧
        SameDict s t [Obj.out_state.key o.val 0, Obj.out_aligned.key o.val 0, Obj.out_gatings.key o.val 0]) ∧
    (∀ (s : State),
      (s.out 12).gating = true →
      (s.out 12).running = true →
      (s.dpll ((s.out 12).src + 1)).retune = false ∨ ∃ k : Fin 13, k.val ≠ 12 ∧ (s.out k.val).running = true ∧ (s.out k.val).src = (s.out 12).src →
      ∃ t, Sys2Proof.Machine.exec (.outputGate 12) s = .next t ∧
        t.out 12 = { s.out 12 with high := false, gating := false, running := false, aligned := false } ∧
        t.gnss = { s.gnss with gap := (s.tc.cyc, none) } ∧
        (∀ m : Nat, m ≠ 12 → t.out m = s.out m) ∧
        t = { s with outs := t.outs, gnss := t.gnss }) ∧
    (∀ (s : State) (o : Fin 13) (d : Fin 5),
      (s.out o.val).gating = true →
      (s.out o.val).running = true →
      d.val = (s.out o.val).src + 1 →
      (s.dpll d.val).retune = true →
      (∀ k : Fin 13, k = o ∨ (s.out k.val).running = false ∨ (s.out k.val).src ≠ (s.out o.val).src) →
      ∃ t, Sys2Proof.Machine.exec (.outputGate o) s = .next t ∧
        t.out o.val = { s.out o.val with high := false, gating := false, running := false, aligned := false } ∧
        (∀ m : Nat, m ≠ o.val → t.out m = s.out m) ∧
        t.dpll d.val = { (s.dpll d.val) with dco := s.effN Obj.dpll_dco_freq d.val, target := s.effN Obj.dpll_dco_freq d.val, retune := false, prop := 0, integ := 0, integ2 := 0, frozen := none } ∧
        (∀ m : Nat, m ≠ d.val → t.dpll m = s.dpll m) ∧
        (o.val ≠ 12 → t.gnss = s.gnss) ∧
        (o.val = 12 → t.gnss = { s.gnss with gap := (s.tc.cyc, none) }) ∧
        (o.val < 12 → t.valN Obj.out_gatings o.val = min (s.valN Obj.out_gatings o.val + 1) (2 ^ 32 - 1)) ∧
        t = { s with outs := t.outs, dplls := t.dplls, gnss := t.gnss, dict := t.dict } ∧
        SameDict s t [Obj.out_state.key o.val 0, Obj.out_aligned.key o.val 0, Obj.out_gatings.key o.val 0]) ∧
    (∀ (s : State) (o : Fin 13),
      o.val < 12 →
      (s.out o.val).running = false →
      s.effT Obj.out_enable o.val = true →
      s.dpllState (s.effN Obj.out_source o.val + 1) = 2 ∨ s.dpllState (s.effN Obj.out_source o.val + 1) = 4 →
      s.settledFreq (s.effN Obj.out_source o.val + 1) = true →
      ∃ t, Sys2Proof.Machine.exec (.outputRelease o) s = .next t ∧
        t.out o.val = { s.out o.val with high := true, gating := false, loading := false, realign := false, running := true, aligned := s.todref (s.effN Obj.out_source o.val + 1), div := max 1 (s.effN Obj.out_divider o.val), src := s.effN Obj.out_source o.val, relAt := some (phaseTarget (s.tod + 40 * nsU) (s.dcoNow (s.outSrc o.val)) (s.outDiv o.val) (s.effN Obj.out_phase o.val) (s.effI Obj.out_delay o.val)) } ∧
        t.valN Obj.out_state o.val = 2 ∧
        (∀ m : Nat, m ≠ o.val → t.out m = s.out m) ∧
        t = { s with outs := t.outs, dict := t.dict } ∧
        SameDict s t [Obj.out_state.key o.val 0, Obj.out_aligned.key o.val 0, Obj.dpll_realign.key (s.effN Obj.out_source o.val + 1) 0]) ∧
    (∀ (s : State),
      s.dev.part = 1 →
      (s.out 12).running = false →
      s.dpllState 4 = 2 ∨ s.dpllState 4 = 4 →
      s.settledFreq 4 = true →
      ∃ t, Sys2Proof.Machine.exec (.outputRelease 12) s = .next t ∧
        t.out 12 = { s.out 12 with high := true, gating := false, loading := false, realign := false, running := true, aligned := s.todref 4, div := max 1 (s.effN Obj.dpll_dco_freq 4 / 80000000000), src := 3, relAt := some (phaseTarget (s.tod + 40 * nsU) (s.dcoNow 4) (max 1 (s.effN Obj.dpll_dco_freq 4 / 80000000000)) 0 0) } ∧
        t.gnss = { s.gnss with gap := (s.gnss.gap.1, some s.tc.cyc) } ∧
        (∀ m : Nat, m ≠ 12 → t.out m = s.out m) ∧
        t = { s with outs := t.outs, gnss := t.gnss, dict := t.dict } ∧
        SameDict s t [Obj.dpll_realign.key 4 0]) ∧
    (∀ (s : State) (o : Fin 13),
      s.lockedOrSlew (s.outSrc o.val) = false ∨ s.settledFreq (s.outSrc o.val) = false →
      ∃ t, Sys2Proof.Machine.exec (.outputRelease o) s = .next t ∧
        t = s)

/-- PPS_PULSE_START begins a pulse at each TOD second plus pps.offset, or omits and counts it; PPS_PULSE_END completes its width -/
def Obligations.PpsPulses : Prop :=
    (∀ (s : State) (m : Fin 4) (t0 : Int),
      t0 = (s.tod - psToU (s.effI Obj.pps_offset m.val)) / secU * secU + psToU (s.effI Obj.pps_offset m.val) →
      s.tc.running = true →
      s.reaches t0 = true →
      (s.ppso m.val).last ≠ some (t0, s.steps) →
      s.ppsRuns m.val = true →
      (s.ppso m.val).holdSrc = false ∨ s.dpllState (s.effN Obj.pps_source m.val + 1) = 2 →
      (s.ppso m.val).active = false →
      ∃ t, Sys2Proof.Machine.exec (.ppsPulseStart m) s = .next t ∧
        t.ppso m.val = { s.ppso m.val with active := true, holdSrc := false, widthCyc := s.tc.cyc, width := s.effN Obj.pps_width m.val, last := some (t0, s.steps), level := (t.ppso m.val).level } ∧
        ((s.effN Obj.pps_polarity m.val = 1 → (t.ppso m.val).level = false) ∧ (s.effN Obj.pps_polarity m.val ≠ 1 → (t.ppso m.val).level = true)) ∧
        (∀ k : Nat, k ≠ m.val → t.ppso k = s.ppso k) ∧
        t = { s with pps := t.pps }) ∧
    (∀ (s : State) (m : Fin 4) (t0 : Int),
      t0 = (s.tod - psToU (s.effI Obj.pps_offset m.val)) / secU * secU + psToU (s.effI Obj.pps_offset m.val) →
      s.tc.running = true →
      s.reaches t0 = true →
      (s.ppso m.val).last ≠ some (t0, s.steps) →
      s.ppsRuns m.val = false ∨ (s.ppso m.val).active = true ∨ ((s.ppso m.val).holdSrc = true ∧ s.dpllState (s.effN Obj.pps_source m.val + 1) ≠ 2) →
      ∃ t, Sys2Proof.Machine.exec (.ppsPulseStart m) s = .next t ∧
        t.valN Obj.pps_missed m.val = min (s.valN Obj.pps_missed m.val + 1) (2 ^ 32 - 1) ∧
        t.ppso m.val = { s.ppso m.val with last := some (t0, s.steps) } ∧
        (∀ k : Nat, k ≠ m.val → t.ppso k = s.ppso k) ∧
        t = { s with pps := t.pps, dict := t.dict } ∧
        SameDict s t [Obj.pps_missed.key m.val 0]) ∧
    (∀ (s : State) (m : Fin 4),
      s.tc.running = false →
      ∃ t, Sys2Proof.Machine.exec (.ppsPulseStart m) s = .next t ∧
        t = s) ∧
    (∀ (s : State) (m : Fin 4),
      (s.ppso m.val).active = true →
      s.passed (s.ppso m.val).widthCyc (s.ppso m.val).width = true →
      ∃ t, Sys2Proof.Machine.exec (.ppsPulseEnd m) s = .next t ∧
        t.ppso m.val = { s.ppso m.val with active := false, level := decide (s.effN Obj.pps_polarity m.val = 1) } ∧
        (∀ k : Nat, k ≠ m.val → t.ppso k = s.ppso k) ∧
        t = { s with pps := t.pps }) ∧
    (∀ (s : State) (m : Fin 4),
      (s.ppso m.val).active = false ∨ s.passed (s.ppso m.val).widthCyc (s.ppso m.val).width = false →
      ∃ t, Sys2Proof.Machine.exec (.ppsPulseEnd m) s = .next t ∧
        t = s)

/-- TOD_UART_SEND sends the BINARY message of its second; TOD_UART_RECEIVE keeps the difference of the named second, or counts an error -/
def Obligations.TodUart : Prop :=
    (∀ (s : State) (u : Fin 2) (sec : Nat) (delay : Int),
      delay = (s.effN Obj.uart_delay u.val : Int) * 1000000 * nsU →
      sec = ((s.tod - delay) / secU).toNat →
      s.tc.running = true →
      s.reaches ((sec : Int) * secU + delay) = true →
      (vat s.uarts u.val {}).last ≠ some ((sec : Int) * secU + delay, s.steps) →
      s.effN Obj.uart_format u.val = 1 →
      ∃ t, Sys2Proof.Machine.exec (.todUartSend u) s = .next t ∧
        (vat t.uarts u.val {}).sent.take 12 = [0xC7, 0x3E, 0x01, 28] ++ beBytes 8 sec ∧
        (vat t.uarts u.val {}).sent.drop 32 = beBytes 2 (Crypto.crc16 ((vat t.uarts u.val {}).sent.take 32)) ∧
        vat t.uarts u.val {} = { vat s.uarts u.val {} with sent := (vat t.uarts u.val {}).sent, last := some ((sec : Int) * secU + delay, s.steps), started := (s.tc.cyc, s.effN Obj.uart_baud u.val) } ∧
        (∀ k : Nat, k ≠ u.val → vat t.uarts k {} = vat s.uarts k {}) ∧
        t = { s with uarts := t.uarts }) ∧
    (∀ (s : State) (u : Fin 2) (sec : Nat) (delay : Int),
      delay = (s.effN Obj.uart_delay u.val : Int) * 1000000 * nsU →
      sec = ((s.tod - delay) / secU).toNat →
      s.tc.running = true →
      s.reaches ((sec : Int) * secU + delay) = true →
      (vat s.uarts u.val {}).last ≠ some ((sec : Int) * secU + delay, s.steps) →
      s.effN Obj.uart_format u.val = 2 →
      s.valN Obj.tod_state ≠ 0 →
      (s.effB Obj.uart_talker u.val).length = 2 →
      ∃ t, Sys2Proof.Machine.exec (.todUartSend u) s = .next t ∧
        (vat t.uarts u.val {}).sent.take 6 = [0x24] ++ s.effB Obj.uart_talker u.val ++ [0x5A, 0x44, 0x41] ∧
        (vat t.uarts u.val {}).sent.length = 38 ∧
        (vat t.uarts u.val {}).sent.drop 36 = [0x0D, 0x0A] ∧
        vat t.uarts u.val {} = { vat s.uarts u.val {} with sent := (vat t.uarts u.val {}).sent, last := some ((sec : Int) * secU + delay, s.steps), started := (s.tc.cyc, s.effN Obj.uart_baud u.val) } ∧
        (∀ k : Nat, k ≠ u.val → vat t.uarts k {} = vat s.uarts k {}) ∧
        t = { s with uarts := t.uarts }) ∧
    (∀ (s : State) (u : Fin 2),
      s.effN Obj.uart_format u.val = 0 →
      ∃ t, Sys2Proof.Machine.exec (.todUartSend u) s = .next t ∧
        t = s) ∧
    (∀ (s : State) (u : Fin 2),
      s.effN Obj.uart_format u.val = 2 →
      s.valN Obj.tod_state = 0 →
      ∃ t, Sys2Proof.Machine.exec (.todUartSend u) s = .next t ∧
        t = s) ∧
    (∀ (s : State) (u : Fin 2) (b : Bytes),
      s.effN Obj.uart_rx_format u.val ≠ 0 →
      ∃ t, Sys2Proof.Machine.exec (.todUartReceive u b true) s = .next t ∧
        t.valN Obj.uart_rx_errors u.val = min (s.valN Obj.uart_rx_errors u.val + 1) (2 ^ 32 - 1) ∧
        t = { s with dict := t.dict } ∧
        SameDict s t [Obj.uart_rx_errors.key u.val 0]) ∧
    (∀ (s : State) (u : Fin 2) (b : Bytes) (named ref : Int),
      s.effN Obj.uart_rx_format u.val ≠ 0 →
      s.uartParse (s.effN Obj.uart_rx_format u.val) b = some named →
      ref = (if (named + 1) * secU < s.tod then (todSec s.tod : Int) - 1 else (todSec s.tod : Int)) →
      -(2 ^ 31) ≤ named - ref →
      named - ref < 2 ^ 31 →
      ∃ t, Sys2Proof.Machine.exec (.todUartReceive u b false) s = .next t ∧
        t.valI Obj.uart_rx_diff u.val = named - ref ∧
        (t.val Obj.uart_rx_last u.val).bytes = b ∧
        t = { s with dict := t.dict } ∧
        SameDict s t [Obj.uart_rx_last.key u.val 0, Obj.uart_rx_diff.key u.val 0]) ∧
    (∀ (s : State) (u : Fin 2) (b : Bytes) (named ref : Int),
      s.effN Obj.uart_rx_format u.val ≠ 0 →
      s.uartParse (s.effN Obj.uart_rx_format u.val) b = some named →
      ref = (if (named + 1) * secU < s.tod then (todSec s.tod : Int) - 1 else (todSec s.tod : Int)) →
      2 ^ 31 ≤ named - ref ∨ named - ref < -(2 ^ 31) →
      ∃ t, Sys2Proof.Machine.exec (.todUartReceive u b false) s = .next t ∧
        (t.val Obj.uart_rx_last u.val).bytes = b ∧
        t.fresh = s.fresh + 1 ∧
        t = { s with dict := t.dict, fresh := t.fresh } ∧
        SameDict s t [Obj.uart_rx_last.key u.val 0, Obj.uart_rx_diff.key u.val 0]) ∧
    (∀ (s : State) (u : Fin 2) (b : Bytes) (f : Bool),
      s.effN Obj.uart_rx_format u.val = 0 →
      ∃ t, Sys2Proof.Machine.exec (.todUartReceive u b f) s = .next t ∧
        t = s)

/-- TIC_EVENT brings a candidate edge to its channel; the end of its cycle accepts it, records it or counts it, and OFF ignores it -/
def Obligations.TicEventRecords : Prop :=
    (∀ (s : State) (c : Fin 17) (e : EdgeIn),
      c.val < 8 →
      (s.chan c.val).fresh = none →
      ∃ t, Sys2Proof.Machine.exec (.ticEvent c e) s = .next t ∧
        t.chan c.val = { s.chan c.val with fresh := some (e.k, e.rise) } ∧
        (∀ m : Nat, m ≠ c.val → t.chan m = s.chan m) ∧
        t.tic = { s.tic with chans := t.tic.chans } ∧
        t = { s with tic := t.tic }) ∧
    (∀ (s : State) (c : Fin 17) (e : EdgeIn),
      c.val < 8 →
      (s.chan c.val).fresh ≠ none →
      ∃ t, Sys2Proof.Machine.exec (.ticEvent c e) s = .next t ∧
        t = s) ∧
    (∀ (s : State) (c : Fin 8) (k : Nat) (rise : Bool) (ev : TicEv) (i : Nat),
      s.cycleReady = true →
      s.tc.step = none →
      (∀ p, p < 9 → (s.port p).taking = false) →
      (∀ m, m < 8 → m = c.val ∨ (s.chan m).fresh = none) →
      (s.chan c.val).fresh = some (k, rise) →
      s.edgeOk c.val rise = true →
      s.shut c.val = false →
      s.held c.val = false →
      (s.chan c.val).fencedN ≠ 2 →
      k < 1152 →
      s.convert c.val k = some (ev, i) →
      s.effN Obj.tic_mode c.val = 1 →
      (s.chan c.val).queue.length < 1024 →
      ∃ t, Sys2Proof.Machine.exec (.keeperCycle []) s = .next t ∧
        ((t.chan c.val).queue = (s.chan c.val).queue ++ [(beBytes 16 ev.stamp ++ beBytes 8 (ev.c % 2 ^ 48 * 65536 + i * 32768 + (if rise = false ∧ s.effN Obj.tic_edge c.val = 2 then 2048 else 0) + ev.k % 2048) ++ [1#8, BitVec.ofNat 8 c.val] ++ beBytes 2 (s.chan c.val).seq ++ beBytes 4 (if s.effN Obj.tic_gate c.val = 0 then 0 else (s.chan c.val).winNo))]) ∧
        (t.chan c.val).seq = ((s.chan c.val).seq + 1) % 65536 ∧
        (t.chan c.val).lastEv = some s.tc.cyc ∧
        (t.chan c.val).fresh = none ∧
        (∀ m : Nat, m ≠ c.val → t.chan m = s.chan m) ∧
        (((List.range 8).all fun d => !s.effT Obj.tic_diff_enable d) = true → t.tic.diffs = s.tic.diffs)) ∧
    (∀ (s : State) (c : Fin 8) (k : Nat) (rise : Bool) (ev : TicEv) (i : Nat),
      s.cycleReady = true →
      s.tc.step = none →
      (∀ p, p < 9 → (s.port p).taking = false) →
      (∀ m, m < 8 → m = c.val ∨ (s.chan m).fresh = none) →
      (s.chan c.val).fresh = some (k, rise) →
      s.edgeOk c.val rise = true →
      s.shut c.val = false →
      s.held c.val = false →
      (s.chan c.val).fencedN ≠ 2 →
      k < 1152 →
      s.convert c.val k = some (ev, i) →
      s.effN Obj.tic_mode c.val = 1 →
      1024 ≤ (s.chan c.val).queue.length →
      ∃ t, Sys2Proof.Machine.exec (.keeperCycle []) s = .next t ∧
        (t.chan c.val).queue = (s.chan c.val).queue ∧
        (t.chan c.val).seq = (s.chan c.val).seq ∧
        (t.chan c.val).lastEv = some s.tc.cyc ∧
        (t.chan c.val).fresh = none ∧
        t.valN Obj.tic_overruns c.val = min (s.valN Obj.tic_overruns c.val + 1) (2 ^ 32 - 1) ∧
        (∀ m : Nat, m ≠ c.val → t.chan m = s.chan m)) ∧
    (∀ (s : State) (c : Fin 8) (k : Nat) (rise : Bool) (ev : TicEv) (i : Nat),
      s.cycleReady = true →
      s.tc.step = none →
      (∀ p, p < 9 → (s.port p).taking = false) →
      (∀ m, m < 8 → m = c.val ∨ (s.chan m).fresh = none) →
      (s.chan c.val).fresh = some (k, rise) →
      s.edgeOk c.val rise = true →
      s.shut c.val = false →
      s.held c.val = false →
      (s.chan c.val).fencedN ≠ 2 →
      k < 1152 →
      s.convert c.val k = some (ev, i) →
      s.effN Obj.tic_mode c.val = 2 →
      (s.chan c.val).presc + 1 < s.effN Obj.tic_prescale c.val →
      ∃ t, Sys2Proof.Machine.exec (.keeperCycle []) s = .next t ∧
        (t.chan c.val).presc = (s.chan c.val).presc + 1 ∧
        (t.chan c.val).queue = (s.chan c.val).queue ∧
        (t.chan c.val).freqN = (s.chan c.val).freqN ∧
        (t.chan c.val).lastEv = some s.tc.cyc ∧
        (t.chan c.val).fresh = none ∧
        (∀ m : Nat, m ≠ c.val → t.chan m = s.chan m) ∧
        t.tic.diffs = s.tic.diffs) ∧
    (∀ (s : State) (c : Fin 8) (k : Nat) (rise : Bool),
      s.cycleReady = true →
      s.tc.step = none →
      (∀ p, p < 9 → (s.port p).taking = false) →
      (∀ m, m < 8 → m = c.val ∨ (s.chan m).fresh = none) →
      (s.chan c.val).fresh = some (k, rise) →
      s.shut c.val = true →
      ∃ t, Sys2Proof.Machine.exec (.keeperCycle []) s = .next t ∧
        t.chan c.val = { s.chan c.val with fresh := none } ∧
        (∀ m : Nat, m ≠ c.val → t.chan m = s.chan m) ∧
        t.tic.diffs = s.tic.diffs) ∧
    (∀ (s : State) (c : Fin 17) (e : EdgeIn) (ev : TicEv) (i : Nat),
      8 ≤ c.val →
      c.val < 16 →
      s.effT Obj.ref_enable (c.val - 8) = false →
      s.edgeOk c.val e.rise = true →
      s.held c.val = false →
      (s.chan c.val).fencedN ≠ 2 →
      e.k < 1152 →
      s.convert c.val e.k = some (ev, i) →
      ∃ t, Sys2Proof.Machine.exec (.ticEvent c e) s = .next t ∧
        t.chan c.val = { s.chan c.val with lastEv := some s.tc.cyc, quiet := (t.chan c.val).quiet, quietAt := s.tc.cyc } ∧
        (∀ m : Nat, m ≠ c.val → t.chan m = s.chan m) ∧
        t.tic = { s.tic with chans := t.tic.chans } ∧
        t = { s with tic := t.tic })

/-- TIC_WINDOW_OPEN opens the windows of its gate under a new number; TIC_WINDOW_CLOSE closes them and forms frequency records -/
def Obligations.TicWindows : Prop :=
    (∀ (s : State) (g : Fin 3) (rise : Bool),
      s.gateOpen g.val = false →
      (g.val = 2 ∧ s.reaches s.periodInstant = true) ∨ (g.val ≠ 2 ∧ s.gateActive g.val rise = true) →
      ∃ t, Sys2Proof.Machine.exec (.ticWindowOpen g rise) s = .next t ∧
        t.gateOpen g.val = true ∧
        t.valN Obj.tic_windows g.val = (s.valN Obj.tic_windows g.val + 1) % 2 ^ 32 ∧
        (∀ k, k < 8 → s.effN Obj.tic_gate k = g.val + 1 → (t.chan k) = { s.chan k with winOpen := true, winNo := (s.valN Obj.tic_windows g.val + 1) % 2 ^ 32, freqFirst := none, freqLast := none, freqN := 0, quiet := (t.chan k).quiet, quietAt := s.tc.cyc }) ∧
        (∀ k, s.effN Obj.tic_gate k ≠ g.val + 1 → t.chan k = s.chan k) ∧
        (∀ k, k < 8 → s.effT Obj.tic_diff_enable k = true ∧ s.effN Obj.tic_diff_gate k = g.val + 1 → t.diff k = { s.diff k with winOpen := true, winNo := (s.valN Obj.tic_windows g.val + 1) % 2 ^ 32, s := none, p := none, pairs := 0, ovf := false }) ∧
        (∀ k, s.effT Obj.tic_diff_enable k = false ∨ s.effN Obj.tic_diff_gate k ≠ g.val + 1 → t.diff k = s.diff k) ∧
        t = { s with tic := t.tic, dict := t.dict } ∧
        SameDict s t [Obj.tic_windows.key g.val 0]) ∧
    (∀ (s : State) (g : Fin 3) (rise : Bool),
      s.gateOpen g.val = true ∨ (g.val = 2 ∧ s.reaches s.periodInstant = false) ∨ (g.val ≠ 2 ∧ s.gateActive g.val rise = false) →
      ∃ t, Sys2Proof.Machine.exec (.ticWindowOpen g rise) s = .next t ∧
        t = s) ∧
    (∀ (s : State) (g : Fin 3) (rise : Bool),
      s.gateOpen g.val = true →
      (g.val = 2 ∧ s.reaches s.periodInstant = true ∧ s.periodInstant ≠ s.tic.perAt) ∨ (g.val ≠ 2 ∧ s.gateActive g.val rise = false) →
      ∃ t, Sys2Proof.Machine.exec (.ticWindowClose g rise) s = .next t ∧
        t.gateOpen g.val = false ∧
        (∀ k, k < 8 → s.effN Obj.tic_gate k = g.val + 1 → (t.chan k).winOpen = false) ∧
        (∀ k, k < 8 → s.effN Obj.tic_diff_gate k = g.val + 1 → (t.diff k).winOpen = false) ∧
        (∀ k, s.effN Obj.tic_gate k ≠ g.val + 1 → t.chan k = s.chan k) ∧
        t = { s with tic := t.tic, dict := t.dict }) ∧
    (∀ (s : State) (g : Fin 3) (rise : Bool),
      s.gateOpen g.val = false ∨ (g.val ≠ 2 ∧ s.gateActive g.val rise = true) →
      ∃ t, Sys2Proof.Machine.exec (.ticWindowClose g rise) s = .next t ∧
        t = s) ∧
    (∀ (s : State) (g : Fin 3) (rise : Bool) (c : Fin 8) (a b : TicEv),
      s.gateOpen g.val = true →
      (g.val = 2 ∧ s.reaches s.periodInstant = true ∧ s.periodInstant ≠ s.tic.perAt) ∨ (g.val ≠ 2 ∧ s.gateActive g.val rise = false) →
      s.effN Obj.tic_gate c.val = g.val + 1 →
      s.effN Obj.tic_mode c.val = 2 →
      (s.chan c.val).winOpen = true →
      (s.chan c.val).fencedN ≠ 2 →
      (s.chan c.val).freqFirst = some a →
      (s.chan c.val).freqLast = some b →
      0 < (s.chan c.val).freqN →
      s.tbSelected = false →
      (s.chan c.val).queue.length < 1024 →
      ∃ t, Sys2Proof.Machine.exec (.ticWindowClose g rise) s = .next t ∧
        (t.chan c.val).queue = (s.chan c.val).queue ++ [beBytes 16 (resultStamp a b 0) ++ intBytes 8 (units14 (((b.u - a.u : Int) : Rat) / (2 ^ 24 * 1000000000000 : Nat))) ++ [2#8, BitVec.ofNat 8 c.val] ++ beBytes 2 (s.chan c.val).seq ++ beBytes 4 (s.chan c.val).freqN] ∧
        (t.chan c.val).winOpen = false ∧
        (t.chan c.val).freqN = 0 ∧
        t = { s with tic := t.tic, dict := t.dict })

/-- Pairs become difference records and DIFF_OVERFLOW marks one; tables pass or fail; TB_IN falls back and returns; pops return the oldest record -/
def Obligations.TicOverflowTablesTimebase : Prop :=
    (∀ (s : State) (d : Fin 8) (c : Fin 8) (k : Nat) (rise : Bool) (ev : TicEv) (i : Nat) (a : TicEv),
      s.cycleReady = true →
      s.tc.step = none →
      (∀ p, p < 9 → (s.port p).taking = false) →
      (∀ m, m < 8 → m = c.val ∨ (s.chan m).fresh = none) →
      (s.chan c.val).fresh = some (k, rise) →
      s.edgeOk c.val rise = true →
      s.shut c.val = false →
      s.held c.val = false →
      (s.chan c.val).fencedN ≠ 2 →
      k < 1152 →
      s.convert c.val k = some (ev, i) →
      s.effN Obj.tic_mode c.val ≠ 2 →
      s.effT Obj.tic_diff_enable d.val = true →
      (s.diff d.val).winOpen = true →
      s.effN Obj.tic_diff_stop d.val = c.val →
      s.effN Obj.tic_diff_start d.val ≠ c.val →
      (s.diff d.val).s = some a →
      (s.diff d.val).p = none →
      (s.diff d.val).pairs = 0 →
      (s.diff d.val).queue.length < 256 →
      s.tbSelected = false →
      (s.diff d.val).overflowed a ev = false →
      a.c ≠ ev.c →
      ∃ t, Sys2Proof.Machine.exec (.keeperCycle []) s = .next t ∧
        ((t.diff d.val).queue = (s.diff d.val).queue ++ [beBytes 16 (resultStamp a ev (if ev.u < a.u then 0x20 else 0)) ++ intBytes 8 (units14 (((ev.u - a.u : Int) : Rat) / (2 ^ 24 * 1000000000000 : Nat))) ++ [3#8, BitVec.ofNat 8 d.val] ++ beBytes 2 (s.diff d.val).seq ++ beBytes 4 (s.diff d.val).winNo]) ∧
        (t.diff d.val).pairs = 1 ∧
        (t.diff d.val).seq = ((s.diff d.val).seq + 1) % 65536 ∧
        (∀ m : Nat, m ≠ c.val → (t.chan m).queue = (s.chan m).queue)) ∧
    (∀ (s : State) (d : Fin 8) (c : Fin 8) (k : Nat) (rise : Bool) (ev : TicEv) (i : Nat) (a : TicEv),
      s.cycleReady = true →
      s.tc.step = none →
      (∀ p, p < 9 → (s.port p).taking = false) →
      (∀ m, m < 8 → m = c.val ∨ (s.chan m).fresh = none) →
      (s.chan c.val).fresh = some (k, rise) →
      s.edgeOk c.val rise = true →
      s.shut c.val = false →
      s.held c.val = false →
      (s.chan c.val).fencedN ≠ 2 →
      k < 1152 →
      s.convert c.val k = some (ev, i) →
      s.effN Obj.tic_mode c.val ≠ 2 →
      s.effT Obj.tic_diff_enable d.val = true →
      (s.diff d.val).winOpen = true →
      s.effN Obj.tic_diff_stop d.val = c.val →
      s.effN Obj.tic_diff_start d.val ≠ c.val →
      (s.diff d.val).s = some a →
      (s.diff d.val).p = none →
      (s.diff d.val).pairs = 0 →
      (s.diff d.val).queue.length < 256 →
      (s.diff d.val).overflowed a ev = true →
      ∃ t, Sys2Proof.Machine.exec (.keeperCycle []) s = .next t ∧
        ((t.diff d.val).queue = (s.diff d.val).queue ++ [beBytes 16 (resultStamp a ev 0x40) ++ intBytes 8 (if a.u ≤ ev.u then 2 ^ 62 else -(2 ^ 62)) ++ [3#8, BitVec.ofNat 8 d.val] ++ beBytes 2 (s.diff d.val).seq ++ beBytes 4 (s.diff d.val).winNo]) ∧
        (t.diff d.val).pairs = 1 ∧
        (t.valI Obj.tic_diff_last d.val = (if a.u ≤ ev.u then 2 ^ 62 else -(2 ^ 62)))) ∧
    (∀ (s : State) (d : Fin 8) (a : TicEv),
      (s.diff d.val).first = some a →
      (s.diff d.val).pairs = 0 →
      2 ^ 47 ≤ s.tc.cyc - a.c →
      ∃ t, Sys2Proof.Machine.exec (.diffOverflow d) s = .next t ∧
        t.diff d.val = { s.diff d.val with ovf := true } ∧
        (∀ m : Nat, m ≠ d.val → t.diff m = s.diff m) ∧
        t.tic = { s.tic with diffs := t.tic.diffs } ∧
        t = { s with tic := t.tic }) ∧
    (∀ (s : State) (d : Fin 8) (a : TicEv),
      (s.diff d.val).first = some a →
      s.tc.cyc - a.c < 2 ^ 47 →
      ∃ t, Sys2Proof.Machine.exec (.diffOverflow d) s = .next t ∧
        t = s) ∧
    (∀ (s : State) (c : Fin 17) (i : Fin 2) (hits : List Nat),
      hits.length = 1152 →
      hits.sum = 2 ^ s.effN Obj.tic_cal_hits →
      ((s.chan c.val).interp i.val).state = 0 →
      tablePasses hits (2 ^ s.effN Obj.tic_cal_hits) = true →
      ∃ t, Sys2Proof.Machine.exec (.ticCalTableDone c i hits) s = .next t ∧
        ((t.chan c.val).interp i.val) = { ((s.chan c.val).interp i.val) with hits := hits, total := 2 ^ s.effN Obj.tic_cal_hits, doneAt := s.tc.cyc, fails := 0, stored := false, state := 1 } ∧
        ((t.chan c.val).interp (1 - i.val)) = ((s.chan c.val).interp (1 - i.val)) ∧
        (∀ m : Nat, m ≠ c.val → t.chan m = s.chan m) ∧
        t.tic = { s.tic with chans := t.tic.chans } ∧
        t = { s with tic := t.tic }) ∧
    (∀ (s : State) (c : Fin 17) (i : Fin 2) (hits : List Nat),
      hits.length = 1152 →
      hits.sum = 2 ^ s.effN Obj.tic_cal_hits →
      ((s.chan c.val).interp i.val).state = 0 →
      tablePasses hits (2 ^ s.effN Obj.tic_cal_hits) = false →
      ((s.chan c.val).interp i.val).fails = 0 →
      ∃ t, Sys2Proof.Machine.exec (.ticCalTableDone c i hits) s = .next t ∧
        ((t.chan c.val).interp i.val) = { ((s.chan c.val).interp i.val) with fails := 1 } ∧
        ((t.chan c.val).interp (1 - i.val)) = ((s.chan c.val).interp (1 - i.val)) ∧
        (∀ m : Nat, m ≠ c.val → t.chan m = s.chan m) ∧
        t = { s with tic := t.tic }) ∧
    (∀ (s : State) (c : Fin 17) (i : Fin 2) (hits : List Nat),
      hits.length = 1152 →
      hits.sum = 2 ^ s.effN Obj.tic_cal_hits →
      ((s.chan c.val).interp i.val).state = 0 →
      tablePasses hits (2 ^ s.effN Obj.tic_cal_hits) = false →
      ((s.chan c.val).interp i.val).fails = 1 →
      CanRaise s (168 + 2 * c.val + i.val) →
      ∃ t, Sys2Proof.Machine.exec (.ticCalTableDone c i hits) s = .next t ∧
        ((t.chan c.val).interp i.val) = { ((s.chan c.val).interp i.val) with fails := 2 } ∧
        ((t.chan c.val).interp (1 - i.val)) = ((s.chan c.val).interp (1 - i.val)) ∧
        (∀ m : Nat, m ≠ c.val → t.chan m = s.chan m) ∧
        Raised s t (168 + 2 * c.val + i.val) {} ∧
        t = { s with tic := t.tic, win := t.win, dict := t.dict } ∧
        SameDict s t [srcKey (168 + 2 * c.val + i.val)]) ∧
    (∀ (s : State) (c : Fin 17) (i : Fin 2) (hits : List Nat),
      hits.length = 1152 →
      hits.sum = 2 ^ s.effN Obj.tic_cal_hits →
      ((s.chan c.val).interp i.val).state = 2 →
      (s.chan c.val).fencedN = 1 →
      4 * 2 ^ s.effN Obj.tic_cal_hits ≤ (s.chan c.val).quiet + State.quietGain s s c.val →
      tablePasses hits (2 ^ s.effN Obj.tic_cal_hits) = true →
      ∃ t, Sys2Proof.Machine.exec (.ticCalTableDone c i hits) s = .next t ∧
        ((t.chan c.val).interp i.val) = { ((s.chan c.val).interp i.val) with next := hits, nextAt := s.tc.cyc, fails := 0 } ∧
        ((t.chan c.val).interp (1 - i.val)) = ((s.chan c.val).interp (1 - i.val)) ∧
        (t.chan c.val).quiet = 0 ∧
        (∀ m : Nat, m ≠ c.val → t.chan m = s.chan m) ∧
        t = { s with tic := t.tic }) ∧
    (∀ (s : State) (c : Fin 17) (i : Fin 2) (hits : List Nat),
      ((s.chan c.val).interp i.val).state = 2 →
      (s.chan c.val).quiet + State.quietGain s s c.val < 4 * 2 ^ s.effN Obj.tic_cal_hits →
      ∃ t, Sys2Proof.Machine.exec (.ticCalTableDone c i hits) s = .next t ∧
        t = s) ∧
    (∀ (s : State),
      s.tic.tbSince.isSome = true →
      s.tic.tbRun = 0 →
      s.tbSelected = true →
      s.tic.waits = [] →
      CanRaise s 245 →
      ∃ t, Sys2Proof.Machine.exec (.tbInLoss) s = .next t ∧
        t.valN Obj.tic_tb_state = 2 ∧
        t.valN Obj.tic_tb_losses = min (s.valN Obj.tic_tb_losses + 1) (2 ^ 32 - 1) ∧
        Raised s t 245 {} ∧
        t.tic = { s.tic with tbSince := none, tbRun := 0, tbReturn := false, tbMark := none } ∧
        t = { s with tic := t.tic, win := t.win, dict := t.dict } ∧
        SameDict s t [Obj.tic_tb_state.key 0 0, Obj.tic_tb_losses.key 0 0, srcKey 245]) ∧
    (∀ (s : State),
      s.tic.tbSince.isSome = true →
      s.tic.tbRun = 0 →
      s.tbSelected = true →
      CanRaise s 245 →
      ∃ t, Sys2Proof.Machine.exec (.tbInLoss) s = .next t ∧
        t.tic.waits = [] ∧
        t.tic.tbSince = none ∧
        Raised s t 245 {} ∧
        t = { s with tic := t.tic, win := t.win, dict := t.dict }) ∧
    (∀ (s : State),
      s.tbSelected = true →
      s.valN Obj.tic_tb_state = 2 →
      s.passedO s.tic.tbSince oneSec = true →
      ∃ t, Sys2Proof.Machine.exec (.tbInReturn) s = .next t ∧
        t.tic = { s.tic with tbReturn := true } ∧
        t = { s with tic := t.tic }) ∧
    (∀ (s : State) (c : Fin 8),
      ∃ t, Sys2Proof.Machine.exec (.ticPop c) s = .next t ∧
        (t.chan c.val).queue = (s.chan c.val).queue.drop 1 ∧
        t.gran = { s.gran with lastRead := [(Obj.tic_pop.key c.val 0, (s.chan c.val).queue.headD (zeros 32))] } ∧
        (∀ m : Nat, m ≠ c.val → t.chan m = s.chan m) ∧
        (t.chan c.val).seq = (s.chan c.val).seq ∧
        t = { s with tic := t.tic, gran := t.gran }) ∧
    (∀ (s : State) (d : Fin 8),
      ∃ t, Sys2Proof.Machine.exec (.ticDiffPop d) s = .next t ∧
        (t.diff d.val).queue = (s.diff d.val).queue.drop 1 ∧
        t.gran = { s.gran with lastRead := [(Obj.tic_diff_pop.key d.val 0, (s.diff d.val).queue.headD (zeros 32))] } ∧
        (∀ m : Nat, m ≠ d.val → t.diff m = s.diff m) ∧
        t.tic.chans = s.tic.chans ∧
        t = { s with tic := t.tic, gran := t.gran })

/-- Snapshots wait for the dwells of their band; a dwell verifies, hands off, goes on or is exhausted; channels lock, retry or give up -/
def Obligations.GnssAcquisition : Prop :=
    (∀ (s : State) (b : Fin 2),
      s.gnssOn = true →
      (s.gband b.val).due = true →
      ((s.bandEngines b.val).all fun e => !(vat s.gnss.engines e {}).dwelling) = true →
      ∃ t, Sys2Proof.Machine.exec (.gnssSnapshot b) s = .next t ∧
        t.gband b.val = { s.gband b.val with due := false, snap := [], snapAt := some s.tod, writing := some (sclkAt s.tc.cyc - sclkAt s.gnss.sampledAt + s.effN Obj.gnss_fe_pipe) } ∧
        (∀ m : Nat, m ≠ b.val → t.gband m = s.gband m) ∧
        t.gnss = { s.gnss with bands := t.gnss.bands } ∧
        t = { s with gnss := t.gnss }) ∧
    (∀ (s : State) (b : Fin 2),
      (s.gband b.val).due = false ∨ ((s.bandEngines b.val).any fun e => (vat s.gnss.engines e {}).dwelling) = true →
      ∃ t, Sys2Proof.Machine.exec (.gnssSnapshot b) s = .next t ∧
        t = s) ∧
    (∀ (s : State) (e : Fin 16) (n : Fin 128),
      s.gnssOn = true →
      (vat s.gnss.engines e.val {}).chan = some n.val →
      (vat s.gnss.engines e.val {}).dwelling = true →
      s.passed (vat s.gnss.engines e.val {}).dwellAt (62500 * s.effN Obj.gnss_acq_coh * s.effN Obj.gnss_acq_noncoh) = true →
      ∃ t, Sys2Proof.Machine.exec (.acqDwellDone e ()) s = .next t ∧
        (s.dwellFinds (vat s.gnss.engines e.val {}) n.val ≠ none ∧ (vat s.gnss.engines e.val {}).verify = none → t = { s with gnss := { s.gnss with engines := t.gnss.engines } } ∧ vat t.gnss.engines e.val {} = { (vat s.gnss.engines e.val {}) with verify := (s.dwellFinds (vat s.gnss.engines e.val {}) n.val).map fun k => (k, (vat s.gnss.engines e.val {}).bin), dwelling := (s.gband (asgBand (s.gchAssign n.val))).ready, dwellAt := s.tc.cyc }) ∧
        (s.dwellFinds (vat s.gnss.engines e.val {}) n.val ≠ none ∧ (vat s.gnss.engines e.val {}).verify ≠ none → vat t.gnss.engines e.val {} = {} ∧ t.gchState n.val = 2 ∧ t.valI Obj.gnss_ch_doppler n.val = ((s.searchCentre (vat s.gnss.engines e.val {}) n.val).2 + binOffset ((vat s.gnss.engines e.val {}).verify.getD (0, 0)).2) ∧ ((t.gch n.val).carRate, (t.gch n.val).codeRate) = s.ncoRates (s.gchAssign n.val) ((s.searchCentre (vat s.gnss.engines e.val {}) n.val).2 + binOffset ((vat s.gnss.engines e.val {}).verify.getD (0, 0)).2) ∧ t.gnss = { s.gnss with engines := t.gnss.engines, chans := t.gnss.chans }) ∧
        (s.dwellFinds (vat s.gnss.engines e.val {}) n.val = none ∧ (if (vat s.gnss.engines e.val {}).block + 1 < (vat s.gnss.engines e.val {}).blocks then (vat s.gnss.engines e.val {}).bin else (vat s.gnss.engines e.val {}).bin + 1) < (vat s.gnss.engines e.val {}).bins → t = { s with gnss := { s.gnss with engines := t.gnss.engines } } ∧ vat t.gnss.engines e.val {} = { (vat s.gnss.engines e.val {}) with verify := none, block := (if (vat s.gnss.engines e.val {}).block + 1 < (vat s.gnss.engines e.val {}).blocks then (vat s.gnss.engines e.val {}).block + 1 else 0), bin := (if (vat s.gnss.engines e.val {}).block + 1 < (vat s.gnss.engines e.val {}).blocks then (vat s.gnss.engines e.val {}).bin else (vat s.gnss.engines e.val {}).bin + 1), dwelling := (s.gband (asgBand (s.gchAssign n.val))).ready, dwellAt := s.tc.cyc }) ∧
        (s.dwellFinds (vat s.gnss.engines e.val {}) n.val = none ∧ (vat s.gnss.engines e.val {}).bins ≤ (if (vat s.gnss.engines e.val {}).block + 1 < (vat s.gnss.engines e.val {}).blocks then (vat s.gnss.engines e.val {}).bin else (vat s.gnss.engines e.val {}).bin + 1) → vat t.gnss.engines e.val {} = {} ∧ t.gchState n.val = 0 ∧ t.gchAssign n.val = 0 ∧ t.gnss.searchList = s.gnss.searchList ++ [s.gchAssign n] ∧ t.gch n.val = { since := s.tc.cyc }) ∧
        (∀ m, m ≠ e.val ∧ (vat s.gnss.engines m {}).chan ≠ some n.val → vat t.gnss.engines m {} = vat s.gnss.engines m {}) ∧
        (∀ m, m ≠ n.val ∧ (s.gch n.val).pair ≠ some m → t.gch m = s.gch m) ∧
        t = { s with gnss := t.gnss, dict := t.dict } ∧
        SameDict s t [Obj.gnss_ch_state.key n.val 0, Obj.gnss_ch_doppler.key n.val 0, Obj.gnss_ch_code_phase.key n.val 0, Obj.gnss_ch_assign.key n.val 0, Obj.gnss_ch_flags.key n.val 0, Obj.gnss_ch_cn0.key n.val 0]) ∧
    (∀ (s : State) (e : Fin 16),
      (vat s.gnss.engines e.val {}).chan = none ∨ (vat s.gnss.engines e.val {}).dwelling = false ∨ s.passed (vat s.gnss.engines e.val {}).dwellAt (62500 * s.effN Obj.gnss_acq_coh * s.effN Obj.gnss_acq_noncoh) = false →
      ∃ t, Sys2Proof.Machine.exec (.acqDwellDone e ()) s = .next t ∧
        t = s) ∧
    (∀ (s : State) (c : Fin 128),
      s.roleRuns 2 = true →
      s.gchState c.val = 2 →
      s.passedO (s.gch c.val).lockSince 100000000 = true →
      ∃ t, Sys2Proof.Machine.exec (.channelPullInLock c) s = .next t ∧
        t.gchState c.val = 3 ∧
        t.gch c.val = { s.gch c.val with since := s.tc.cyc, lockSince := none, lowSince := none, queued := false } ∧
        (s.effN Obj.gnss_bands ≠ 1 ∨ asgBand (s.gchAssign c.val) ≠ 0 → t.gnss.searchList = s.gnss.searchList) ∧
        (t.gnss.searchList = s.gnss.searchList ∨ t.gnss.searchList = (s.gchAssign c.val + 256) :: s.gnss.searchList) ∧
        (∀ m : Nat, m ≠ c.val → t.gch m = s.gch m) ∧
        t.gnss = { s.gnss with chans := t.gnss.chans, searchList := t.gnss.searchList } ∧
        t = { s with gnss := t.gnss, dict := t.dict } ∧
        SameDict s t [Obj.gnss_ch_state.key c.val 0]) ∧
    (∀ (s : State) (c : Fin 128),
      s.roleRuns 2 = true →
      s.gchState c.val = 2 →
      s.passed (s.gch c.val).since 1000000000 = true →
      s.passedO (s.gch c.val).lockSince 100000000 = false →
      (s.gch c.val).retried = false →
      ∃ t, Sys2Proof.Machine.exec (.channelPullInTimeout c) s = .next t ∧
        t.gchState c.val = 1 ∧
        t.gch c.val = { s.gch c.val with since := s.tc.cyc, lockSince := none, lowSince := none, queued := true, retried := true, reacq := false } ∧
        (∀ m : Nat, m ≠ c.val → t.gch m = s.gch m) ∧
        t.gnss = { s.gnss with chans := t.gnss.chans } ∧
        t = { s with gnss := t.gnss, dict := t.dict } ∧
        SameDict s t [Obj.gnss_ch_state.key c.val 0]) ∧
    (∀ (s : State) (c : Fin 128),
      s.roleRuns 2 = true →
      s.gchState c.val = 2 →
      s.passed (s.gch c.val).since 1000000000 = true →
      s.passedO (s.gch c.val).lockSince 100000000 = false →
      (s.gch c.val).retried = true →
      ∃ t, Sys2Proof.Machine.exec (.channelPullInTimeout c) s = .next t ∧
        t.gchState c.val = 0 ∧
        t.gchAssign c.val = 0 ∧
        t.gnss.searchList = s.gnss.searchList ++ [s.gchAssign c.val] ∧
        t.gch c.val = { since := s.tc.cyc } ∧
        (∀ m, (vat s.gnss.engines m {}).chan ≠ some c.val → vat t.gnss.engines m {} = vat s.gnss.engines m {}) ∧
        (∀ m, m ≠ c.val ∧ (s.gch c.val).pair ≠ some m → t.gch m = s.gch m) ∧
        t = { s with gnss := t.gnss, dict := t.dict } ∧
        SameDict s t [Obj.gnss_ch_assign.key c.val 0, Obj.gnss_ch_state.key c.val 0, Obj.gnss_ch_flags.key c.val 0, Obj.gnss_ch_cn0.key c.val 0]) ∧
    (∀ (s : State) (c : Fin 128),
      s.roleRuns 2 = true →
      s.gchState c.val = 5 →
      s.passed (s.gch c.val).since (s.effN Obj.gnss_coast_max * 1000000) = true →
      ∃ t, Sys2Proof.Machine.exec (.channelCoastTimeout c) s = .next t ∧
        t.gchState c.val = 1 ∧
        t.gch c.val = { s.gch c.val with since := s.tc.cyc, lockSince := none, lowSince := none, queued := true, retried := false, reacq := true } ∧
        (∀ m : Nat, m ≠ c.val → t.gch m = s.gch m) ∧
        t.gnss = { s.gnss with chans := t.gnss.chans } ∧
        t = { s with gnss := t.gnss, dict := t.dict } ∧
        SameDict s t [Obj.gnss_ch_state.key c.val 0]) ∧
    (∀ (s : State) (c : Fin 128),
      s.gchState c.val ≠ 5 →
      ∃ t, Sys2Proof.Machine.exec (.channelCoastTimeout c) s = .next t ∧
        t = s)

/-- The AGC steps its gain, a band fails and recovers, groups dump, and jamming and spoofing indicators rise and end -/
def Obligations.GnssFrontEndAndInterference : Prop :=
    (∀ (s : State) (b : Fin 2) (x : Byte),
      s.gnssOn = true →
      (match (s.gband b.val).agcAt with | some c => s.passed c 100000000 | none => true) = true →
      s.effN Obj.gnss_agc_mode = 2 →
      8 * (s.gband b.val).squares.2 * (11 * s.effN Obj.gnss_agc_target) ^ 2 < 10000 * (s.gband b.val).squares.1 →
      0 < s.valN Obj.gnss_agc_gain b.val →
      ∃ t, Sys2Proof.Machine.exec (.gnssAgc b x) s = .next t ∧
        t.valN Obj.gnss_agc_gain b.val = s.valN Obj.gnss_agc_gain b.val - 1 ∧
        t.gband b.val = { s.gband b.val with agcAt := some s.tc.cyc, squares := (0, 0) } ∧
        vat t.gnss.agcLast b.val [] = slice (s.effB Obj.gnss_agc_cmd) b.val 1 ++ beBytes 1 (s.valN Obj.gnss_agc_gain b.val - 1) ∧
        (∀ m : Nat, m ≠ b.val → vat t.gnss.agcLast m [] = vat s.gnss.agcLast m []) ∧
        t.gnss = { s.gnss with bands := t.gnss.bands, agcLast := t.gnss.agcLast } ∧
        (∀ m : Nat, m ≠ b.val → t.gband m = s.gband m) ∧
        t = { s with gnss := t.gnss, dict := t.dict } ∧
        SameDict s t [Obj.gnss_agc_gain.key b.val 0]) ∧
    (∀ (s : State) (b : Fin 2) (x : Byte),
      s.gnssOn = true →
      (match (s.gband b.val).agcAt with | some c => s.passed c 100000000 | none => true) = true →
      s.effN Obj.gnss_agc_mode = 2 →
      10000 * (s.gband b.val).squares.1 < 8 * (s.gband b.val).squares.2 * (9 * s.effN Obj.gnss_agc_target) ^ 2 →
      s.valN Obj.gnss_agc_gain b.val < 255 →
      ∃ t, Sys2Proof.Machine.exec (.gnssAgc b x) s = .next t ∧
        t.valN Obj.gnss_agc_gain b.val = s.valN Obj.gnss_agc_gain b.val + 1 ∧
        t.gband b.val = { s.gband b.val with agcAt := some s.tc.cyc, squares := (0, 0) } ∧
        vat t.gnss.agcLast b.val [] = slice (s.effB Obj.gnss_agc_cmd) b.val 1 ++ beBytes 1 (s.valN Obj.gnss_agc_gain b.val + 1) ∧
        (∀ m : Nat, m ≠ b.val → vat t.gnss.agcLast m [] = vat s.gnss.agcLast m []) ∧
        t.gnss = { s.gnss with bands := t.gnss.bands, agcLast := t.gnss.agcLast } ∧
        (∀ m : Nat, m ≠ b.val → t.gband m = s.gband m) ∧
        t = { s with gnss := t.gnss, dict := t.dict } ∧
        SameDict s t [Obj.gnss_agc_gain.key b.val 0]) ∧
    (∀ (s : State) (b : Fin 2) (x : Byte),
      s.gnssOn = true →
      (match (s.gband b.val).agcAt with | some c => s.passed c 100000000 | none => true) = true →
      s.effN Obj.gnss_agc_mode = 1 →
      ∃ t, Sys2Proof.Machine.exec (.gnssAgc b x) s = .next t ∧
        t.valN Obj.gnss_agc_gain b.val = x.toNat ∧
        t.gband b.val = { s.gband b.val with agcAt := some s.tc.cyc, squares := (0, 0) } ∧
        vat t.gnss.agcLast b.val [] = slice (s.effB Obj.gnss_agc_cmd) (2 + b.val) 1 ∧
        (∀ m : Nat, m ≠ b.val → vat t.gnss.agcLast m [] = vat s.gnss.agcLast m []) ∧
        t.gnss = { s.gnss with bands := t.gnss.bands, agcLast := t.gnss.agcLast } ∧
        (∀ m : Nat, m ≠ b.val → t.gband m = s.gband m) ∧
        t = { s with gnss := t.gnss, dict := t.dict } ∧
        SameDict s t [Obj.gnss_agc_gain.key b.val 0]) ∧
    (∀ (s : State) (b : Fin 2) (x : Byte),
      s.gnssOn = true →
      (match (s.gband b.val).agcAt with | some c => s.passed c 100000000 | none => true) = true →
      s.effN Obj.gnss_agc_mode = 0 →
      ∃ t, Sys2Proof.Machine.exec (.gnssAgc b x) s = .next t ∧
        t.gband b.val = { s.gband b.val with agcAt := some s.tc.cyc, squares := (0, 0) } ∧
        t.gnss = { s.gnss with bands := t.gnss.bands } ∧
        (∀ m : Nat, m ≠ b.val → t.gband m = s.gband m) ∧
        t = { s with gnss := t.gnss }) ∧
    (∀ (s : State) (b : Fin 2) (x : Byte) (c : Nat),
      (s.gband b.val).agcAt = some c →
      s.passed c 100000000 = false →
      ∃ t, Sys2Proof.Machine.exec (.gnssAgc b x) s = .next t ∧
        t = s) ∧
    (∀ (s : State) (b : Fin 2),
      s.gnssOn = true →
      (vat s.outs 12 {}).running = true →
      s.bandBad b.val = true →
      s.valN Obj.gnss_band_state b.val = 0 →
      (vat s.win.srcs (246 + b.val) {}).cond = false →
      CanRaise s (246 + b.val) →
      ∃ t, Sys2Proof.Machine.exec (.gnssBandFail b) s = .next t ∧
        t.valN Obj.gnss_band_state b.val = 1 ∧
        t.win.now = s.win.now ++ [(246 + b.val, ({} : FaultInfo))] ∧
        (vat t.win.srcs (246 + b.val) {}).active = true ∧
        (vat t.win.srcs (246 + b.val) {}).cond = true ∧
        t.gband b.val = { s.gband b.val with failedAt := s.tc.cyc } ∧
        (∀ m : Nat, m ≠ b.val → t.gband m = s.gband m) ∧
        (∀ n, n < 128 → asgBand (s.gchAssign n) = b.val ∧ (s.gchState n = 2 ∨ s.gchState n = 3 ∨ s.gchState n = 4) → t.gchState n = 5) ∧
        (∀ n, n < 128 → asgBand (s.gchAssign n) ≠ b.val ∨ (s.gchState n ≠ 2 ∧ s.gchState n ≠ 3 ∧ s.gchState n ≠ 4) → t.gchState n = s.gchState n ∧ t.gch n = s.gch n) ∧
        t.gnss = { s.gnss with bands := t.gnss.bands, chans := t.gnss.chans } ∧
        SameDict s t (Obj.gnss_band_state.key b.val 0 :: srcKey (246 + b.val) :: (List.range 128).map fun n => Obj.gnss_ch_state.key n 0) ∧
        t = { s with gnss := t.gnss, win := t.win, dict := t.dict }) ∧
    (∀ (s : State) (b : Fin 2),
      s.bandBad b.val = false ∨ (vat s.outs 12 {}).running = false ∨ s.valN Obj.gnss_band_state b.val ≠ 0 →
      ∃ t, Sys2Proof.Machine.exec (.gnssBandFail b) s = .next t ∧
        t = s) ∧
    (∀ (s : State) (b : Fin 2),
      s.valN Obj.gnss_band_state b.val = 1 →
      s.bandBad b.val = false →
      s.passed (s.gband b.val).failedAt 1000000000 = true →
      ∃ t, Sys2Proof.Machine.exec (.gnssBandOk b) s = .next t ∧
        t.valN Obj.gnss_band_state b.val = 0 ∧
        (vat t.win.srcs (246 + b.val) {}).active = false ∧
        t = { s with win := t.win, dict := t.dict } ∧
        SameDict s t [Obj.gnss_band_state.key b.val 0]) ∧
    (∀ (s : State) (b : Fin 2),
      s.valN Obj.gnss_band_state b.val ≠ 1 ∨ s.bandBad b.val = true →
      ∃ t, Sys2Proof.Machine.exec (.gnssBandOk b) s = .next t ∧
        t = s) ∧
    (∀ (s : State) (g : Fin 8),
      s.gnssOn = true →
      s.roleRuns 2 = true →
      s.tc.tickNo % 8 = g.val →
      vat s.gnss.dumpTick g.val 0 ≠ s.tc.boundaries →
      s.groupDead g.val = false →
      ∃ t, Sys2Proof.Machine.exec (.correlatorDump g ()) s = .next t ∧
        vat t.gnss.dumpTick g.val 0 = s.tc.boundaries ∧
        (∀ m : Nat, m ≠ g.val → vat t.gnss.dumpTick m 0 = vat s.gnss.dumpTick m 0) ∧
        (∀ n, n < 128 → n / 16 ≠ g.val ∨ (s.gch n).dumped = false ∨ s.gchState n < 2 ∨ 5 < s.gchState n → t.gch n = s.gch n ∧ t.gchState n = s.gchState n) ∧
        (∀ n, n < 128 → n / 16 = g.val ∧ 2 ≤ s.gchState n ∧ s.gchState n ≤ 5 → (t.gch n).dumped = false) ∧
        (∀ n, n < 128 → n / 16 = g.val ∧ (s.gch n).dumped = true ∧ 2 ≤ s.gchState n ∧ s.gchState n ≤ 4 ∧ 1000000 < (s.gch n).sumsGap.getD 0 → t.gchState n = 5 ∧ (t.gch n).before = s.gchState n) ∧
        SameDict s t ((List.range 16).flatMap (fun k => [Obj.gnss_ch_cn0.key (16 * g.val + k) 0, Obj.gnss_ch_elev.key (16 * g.val + k) 0, Obj.gnss_ch_flags.key (16 * g.val + k) 0, Obj.gnss_ch_state.key (16 * g.val + k) 0]) ++ [Obj.gnss_utc_valid.key 0 0, Obj.gnss_utc_offset.key 0 0, Obj.gnss_leap_pending.key 0 0, Obj.gnss_leap_time.key 0 0]) ∧
        t = { s with gnss := t.gnss, dict := t.dict }) ∧
    (∀ (s : State) (g : Fin 8),
      s.tc.tickNo % 8 ≠ g.val ∨ s.roleRuns 2 = false ∨ vat s.gnss.dumpTick g.val 0 = s.tc.boundaries →
      ∃ t, Sys2Proof.Machine.exec (.correlatorDump g ()) s = .next t ∧
        t = s) ∧
    (∀ (s : State),
      s.gnssOn = true →
      s.gnss.indSec ≠ some s.tc.tickSec →
      s.gnss.jumpBad = true →
      s.gnss.badPos < 10 →
      s.effN Obj.gnss_agc_mode = 0 →
      ((List.range 2).all fun b => (s.gband b).noiseHist.isEmpty) = true →
      ((List.range 128).all fun n => s.gchState n != 4) = true →
      s.valN Obj.gnss_indicators = 0 →
      CanRaise s 249 →
      ∃ t, Sys2Proof.Machine.exec (.gnssIndicators ()) s = .next t ∧
        t.valN Obj.gnss_indicators = 32 + 128 ∧
        Raised s t 249 {} ∧
        (t.gnss = { s.gnss with indSec := some s.tc.tickSec, spoofClear := none, bands := s.gnss.bands.map fun y => { y with noise := (0, 0) } }) ∧
        t = { s with gnss := t.gnss, win := t.win, dict := t.dict } ∧
        SameDict s t [Obj.gnss_indicators.key 0 0, Obj.gnss_ind_history.key 0 0, srcKey 249]) ∧
    (∀ (s : State),
      s.gnss.indSec = some s.tc.tickSec →
      ∃ t, Sys2Proof.Machine.exec (.gnssIndicators ()) s = .next t ∧
        t = s) ∧
    (∀ (s : State),
      (s.valN Obj.gnss_indicators).testBit 7 = true →
      s.passedO s.gnss.spoofClear (s.effN Obj.gnss_spoof_hold * 1000000000) = true →
      ∃ t, Sys2Proof.Machine.exec (.spoofHoldEnd) s = .next t ∧
        t.valN Obj.gnss_indicators = s.valN Obj.gnss_indicators - 128 ∧
        t.gnss = { s.gnss with spoofClear := none } ∧
        t = { s with gnss := t.gnss, dict := t.dict } ∧
        SameDict s t [Obj.gnss_indicators.key 0 0]) ∧
    (∀ (s : State),
      (s.valN Obj.gnss_indicators).testBit 7 = false ∨ s.gnss.spoofClear = none →
      ∃ t, Sys2Proof.Machine.exec (.spoofHoldEnd) s = .next t ∧
        t = s)

/-- The epoch latches tracking channels, the solution awaits publication, the report and raw PPS follow, a survey ends, records are kept -/
def Obligations.GnssEpochs : Prop :=
    (∀ (s : State),
      s.gnssOn = true →
      s.tc.tickNo = 0 →
      s.gnss.epochAt ≠ s.tc.boundaries →
      s.gapNs s.tc.tickCyc = none →
      ∃ t, Sys2Proof.Machine.exec (.epochLatch) s = .next t ∧
        (∀ n, n < 128 → (s.gchState n = 3 ∨ s.gchState n = 4) → t.gch n = { s.gch n with latCode := ((s.gch n).advance (codeChips (s.gchAssign n)) (s.effN Obj.gnss_fe_pipe)).codeFrac, latChips := ((s.gch n).advance (codeChips (s.gchAssign n)) (s.effN Obj.gnss_fe_pipe)).chips, latCar := ((s.gch n).advance (codeChips (s.gchAssign n)) (s.effN Obj.gnss_fe_pipe)).cycles * 2 ^ 40 + ((s.gch n).advance (codeChips (s.gchAssign n)) (s.effN Obj.gnss_fe_pipe)).carPhase, latched := true }) ∧
        (∀ n, n < 128 → s.gchState n ≠ 3 ∧ s.gchState n ≠ 4 → t.gch n = { s.gch n with latched := false }) ∧
        t.gnss = { s.gnss with chans := t.gnss.chans, epochOk := true, epochM := s.tc.tickSec, epochAt := s.tc.boundaries, epochSteps := s.steps % 65536, epochCyc := s.tc.cyc, epochInc := s.tc.incTotal, epochSlew := s.tc.slewTotal, epochStep := 0, solved := false } ∧
        t = { s with gnss := t.gnss }) ∧
    (∀ (s : State),
      s.gnssOn = true →
      s.tc.tickNo = 0 →
      s.gnss.epochAt ≠ s.tc.boundaries →
      s.gapNs s.tc.tickCyc ≠ none →
      ∃ t, Sys2Proof.Machine.exec (.epochLatch) s = .next t ∧
        (∀ n, n < 128 → True → t.gch n = { s.gch n with latched := false }) ∧
        t.gnss = { s.gnss with chans := t.gnss.chans, epochOk := false, epochM := s.tc.tickSec, epochAt := s.tc.boundaries, epochSteps := s.steps % 65536, epochCyc := s.tc.cyc, epochInc := s.tc.incTotal, epochSlew := s.tc.slewTotal, epochStep := 0, solved := false } ∧
        t = { s with gnss := t.gnss }) ∧
    (∀ (s : State),
      s.tc.tickNo ≠ 0 ∨ s.gnss.epochAt = s.tc.boundaries →
      ∃ t, Sys2Proof.Machine.exec (.epochLatch) s = .next t ∧
        t = s) ∧
    (∀ (s : State),
      s.gnssOn = true →
      s.roleRuns 2 = true →
      s.gnss.epochM = s.tc.tickSec →
      s.gnss.epochOk = true →
      s.gnss.solved = false →
      s.tc.tickNo ≤ 3000 →
      ∃ t, Sys2Proof.Machine.exec (.gnssSolution ()) s = .next t ∧
        t.gnss.solved = true ∧
        (t.gnss.pending = s.gnss.pending ∨ (s.spoofed = false ∧ ∃ r ∈ t.gnss.pending, (s.gnssHold = true → r.kind = (if r.used = 1 then 3 else 2)) ∧ (s.gnssHold = false → r.kind = 1) ∧ r.target = s.gnss.epochM + 1 ∧ s.effN Obj.gnss_min_sats ≤ r.used ∧ 1 ≤ r.used ∧ r.mark % (25 * 2 ^ 55) = 0 ∧ r.q = r.tN - r.mark ∧ (r.target : Int) * secU - secU / 2 ≤ r.tN ∧ r.tN < (r.target : Int) * secU + secU / 2)) ∧
        (∀ n : Nat, t.gchState n = s.gchState n) ∧
        t.gnss.engines = s.gnss.engines ∧
        t.gnss.bands = s.gnss.bands ∧
        t.gnss.searchList = s.gnss.searchList ∧
        t.gnss.record = s.gnss.record ∧
        t = { s with gnss := t.gnss, dict := t.dict }) ∧
    (∀ (s : State),
      s.gnssOn = true →
      s.roleRuns 2 = true →
      s.gnss.epochM = s.tc.tickSec →
      s.gnss.epochOk = true →
      s.gnss.solved = false →
      s.tc.tickNo ≤ 3000 →
      ((List.range 128).all fun n => s.gchState n != 4) = true →
      ∃ t, Sys2Proof.Machine.exec (.gnssSolution ()) s = .next t ∧
        t.gnss = { s.gnss with solved := true, chans := t.gnss.chans } ∧
        (∀ n, n < 128 → True → (t.valN Obj.gnss_ch_flags n).testBit 0 = false) ∧
        t = { s with gnss := t.gnss, dict := t.dict }) ∧
    (∀ (s : State),
      s.gnss.solved = true ∨ 3000 < s.tc.tickNo ∨ s.gnss.epochOk = false ∨ s.roleRuns 2 = false →
      ∃ t, Sys2Proof.Machine.exec (.gnssSolution ()) s = .next t ∧
        t = s) ∧
    (∀ (s : State) (r : GnssReport),
      s.gnssOn = true →
      s.gnss.pubFor ≠ some (s.tc.tickSec + 1) →
      s.gnss.pending = some r →
      r.target = s.tc.tickSec + 1 →
      r.kind ≠ 0 →
      s.tc.tickNo ≤ 3000 →
      s.spoofed = false →
      ∃ t, Sys2Proof.Machine.exec (.epochReportPublish) s = .next t ∧
        t.valN Obj.gnss_solution = r.kind ∧
        t.valN Obj.gnss_sats_used = r.used ∧
        t.gnss.pubFor = some (s.tc.tickSec + 1) ∧
        t.gnss.pulse = some r.mark ∧
        t.gnss.pending = none ∧
        t.gnss.formed = false ∧
        t = { s with gnss := t.gnss, dict := t.dict } ∧
        SameDict s t [Obj.gnss_solution.key 0 0, Obj.gnss_sats_used.key 0 0, Obj.gnss_epoch.key 0 0, Obj.gnss_ttff.key 0 0]) ∧
    (∀ (s : State),
      s.gnssOn = true →
      s.gnss.pubFor ≠ some (s.tc.tickSec + 1) →
      s.gnss.pending = none →
      3000 ≤ s.tc.tickNo →
      ∃ t, Sys2Proof.Machine.exec (.epochReportPublish) s = .next t ∧
        t.valN Obj.gnss_solution = 0 ∧
        t.valN Obj.gnss_reports_missed  = min (s.valN Obj.gnss_reports_missed  + 1) (2 ^ 32 - 1) ∧
        t.gnss.pubFor = some (s.tc.tickSec + 1) ∧
        t.gnss.pulse = none ∧
        t = { s with gnss := t.gnss, dict := t.dict, fresh := t.fresh } ∧
        SameDict s t [Obj.gnss_solution.key 0 0, Obj.gnss_sats_used.key 0 0, Obj.gnss_epoch.key 0 0, Obj.gnss_reports_missed.key 0 0]) ∧
    (∀ (s : State),
      s.gnss.pubFor = some (s.tc.tickSec + 1) →
      ∃ t, Sys2Proof.Machine.exec (.epochReportPublish) s = .next t ∧
        t = s) ∧
    (∀ (s : State) (f : Nat) (e : Int),
      s.gnss.pulse = some e →
      s.gnssOn = true →
      s.reaches e = true →
      (vat s.outs 12 {}).running = true →
      s.gnss.pulseLast ≠ some (e, s.steps) →
      ∃ t, Sys2Proof.Machine.exec (.rawPps f) s = .next t ∧
        t.gnss = { s.gnss with pulseLast := some (e, s.steps), stamped := some (s.tod + psToU (f % 2000 : Nat)) } ∧
        t.valN Obj.gnss_pps_stamp / 65536 = stamp128 (s.tod + psToU (f % 2000 : Nat)) 0 / 65536 ∧
        t = { s with gnss := t.gnss, dict := t.dict } ∧
        SameDict s t [Obj.gnss_pps_stamp.key 0 0]) ∧
    (∀ (s : State) (f : Nat),
      s.gnss.pulse = none →
      ∃ t, Sys2Proof.Machine.exec (.rawPps f) s = .next t ∧
        t = s) ∧
    (∀ (s : State) (f : Rat),
      s.gnssOn = true →
      s.effN Obj.gnss_pos_mode = 1 →
      s.valN Obj.gnss_survey_state = 1 →
      surveyFigure2 s.gnss.surveyAvg = some f →
      s.passed s.gnss.surveyFrom (s.effN Obj.gnss_survey_time * 1000000000) = true →
      f ≤ ((s.effN Obj.gnss_survey_acc * s.effN Obj.gnss_survey_acc : Nat) : Rat) →
      ∃ t, Sys2Proof.Machine.exec (.surveyDone) s = .next t ∧
        t.valN Obj.gnss_survey_state = 2 ∧
        t.gnss = { s.gnss with record := { s.gnss.record with survey := (t.val Obj.gnss_survey_result).bytes } } ∧
        ((t.val Obj.gnss_survey_result).bytes.take 8 = intBytes 8 (roundDiv (s.gnss.surveyAvg.map fun e => e.1).sum s.gnss.surveyAvg.length)) ∧
        t = { s with gnss := t.gnss, dict := t.dict } ∧
        SameDict s t [Obj.gnss_survey_state.key 0 0, Obj.gnss_survey_result.key 0 0]) ∧
    (∀ (s : State),
      s.valN Obj.gnss_survey_state ≠ 1 →
      ∃ t, Sys2Proof.Machine.exec (.surveyDone) s = .next t ∧
        t = s) ∧
    (∀ (s : State),
      s.gnssOn = true →
      s.roleRuns 2 = true →
      s.passed s.gnss.storeFrom (s.effN Obj.gnss_store_interval * 1000000000) = true →
      ∃ t, Sys2Proof.Machine.exec (.gnssStoreRecord) s = .next t ∧
        t.gnss.record.valid = true ∧
        t.gnss.record.survey = (s.val Obj.gnss_survey_result).bytes ∧
        t.gnss.record.eph = s.gnss.eph ∧
        t.gnss.record.alm = s.gnss.alm ∧
        t.gnss.record.pos = s.gnss.pos ∧
        t.gnss = { s.gnss with record := t.gnss.record, storeFrom := s.tc.cyc } ∧
        t.gran.journal.nextGen 1 = s.gran.journal.nextGen 1 + 1 ∧
        t = { s with gnss := t.gnss, gran := t.gran, dict := t.dict } ∧
        SameDict s t [Obj.store_used.key 0 0]) ∧
    (∀ (s : State),
      s.gnssOn = false ∨ s.roleRuns 2 = false →
      ∃ t, Sys2Proof.Machine.exec (.gnssStoreRecord) s = .next t ∧
        t = s)

/-- STAMP_CAL_DONE makes a port CALIBRATED with its measured parts, or FAILED and raised; STAMP_CAL_TIMEOUT fails it after 50 ms -/
def Obligations.LaneCalibration : Prop :=
    (∀ (s : State) (l : Fin 13) (c : CalIn),
      l.val < 9 →
      s.calState l.val = 1 →
      c.ok = true →
      ∃ t, Sys2Proof.Machine.exec (.stampCalDone l c) s = .next t ∧
        t.calState l.val = 2 ∧
        t.lane l.val = { s.lane l.val with rxVar := c.rxVar, txVar := c.txVar, uses := (t.lane l.val).uses } ∧
        (t.laneNow l.val).calibrated = true ∧
        (t.laneNow l.val).rx = t.valI Obj.stamp_rx_cal l.val + s.effI Obj.stamp_phy_latency_rx l.val ∧
        (t.laneNow l.val).tx = t.valI Obj.stamp_tx_cal l.val + s.effI Obj.stamp_phy_latency_tx l.val ∧
        t.valI Obj.stamp_rx_cal l.val = max 0 (min 50000 (s.calFixed s.dev.rxCal s.dev.rxTc l.val + c.rxVar)) ∧
        t.valI Obj.stamp_tx_cal l.val = max 0 (min 50000 (s.calFixed s.dev.txCal s.dev.txTc l.val + c.txVar)) ∧
        (∀ m : Nat, m ≠ l.val → t.lane m = s.lane m) ∧
        t = { s with lanes := t.lanes, dict := t.dict } ∧
        SameDict s t [Obj.stamp_cal_state.key l.val 0, Obj.stamp_rx_cal.key l.val 0, Obj.stamp_tx_cal.key l.val 0, Obj.stamp_accuracy.key l.val 0, Obj.stamp_calibrate.key l.val 0]) ∧
    (∀ (s : State) (l : Fin 13) (c : CalIn),
      9 ≤ l.val →
      s.calState l.val = 1 →
      c.ok = true →
      ∃ t, Sys2Proof.Machine.exec (.stampCalDone l c) s = .next t ∧
        t.calState l.val = 2 ∧
        t.lane l.val = { s.lane l.val with rxVar := c.rxVar, txVar := c.txVar, uses := (t.lane l.val).uses } ∧
        (t.laneNow l.val).calibrated = true ∧
        (t.laneNow l.val).rx = max 0 (min 50000 (s.calFixed s.dev.rxCal s.dev.rxTc l.val + c.rxVar)) ∧
        (t.laneNow l.val).tx = max 0 (min 50000 (s.calFixed s.dev.txCal s.dev.txTc l.val + c.txVar)) ∧
        (∀ m : Nat, m ≠ l.val → t.lane m = s.lane m) ∧
        t = { s with lanes := t.lanes, dict := t.dict } ∧
        SameDict s t [Obj.crem_cal_state.key (l.val - 9) 0]) ∧
    (∀ (s : State) (l : Fin 13) (c : CalIn),
      l.val < 9 →
      s.calState l.val = 1 →
      c.ok = false →
      CanRaise s (250 + l.val) →
      ∃ t, Sys2Proof.Machine.exec (.stampCalDone l c) s = .next t ∧
        t.calState l.val = 3 ∧
        Raised s t (250 + l.val) {} ∧
        t.valI Obj.stamp_rx_cal l.val = max 0 (min 50000 (s.calFixed s.dev.rxCal s.dev.rxTc l.val + 0)) ∧
        t.lane l.val = { s.lane l.val with uses := (t.lane l.val).uses } ∧
        (t.laneNow l.val).calibrated = false ∧
        (∀ m : Nat, m ≠ l.val → t.lane m = s.lane m) ∧
        t = { s with lanes := t.lanes, win := t.win, dict := t.dict } ∧
        SameDict s t [Obj.stamp_cal_state.key l.val 0, Obj.stamp_rx_cal.key l.val 0, Obj.stamp_tx_cal.key l.val 0, Obj.stamp_accuracy.key l.val 0, Obj.stamp_calibrate.key l.val 0, srcKey (250 + l.val)]) ∧
    (∀ (s : State) (l : Fin 13) (c : CalIn),
      s.calState l.val ≠ 1 →
      ∃ t, Sys2Proof.Machine.exec (.stampCalDone l c) s = .next t ∧
        t = s) ∧
    (∀ (s : State) (l : Fin 13),
      9 ≤ l.val →
      s.calState l.val = 1 →
      s.passed (s.lane l.val).calStart 50000000 = true →
      CanRaise s (250 + l.val) →
      ∃ t, Sys2Proof.Machine.exec (.stampCalTimeout l) s = .next t ∧
        t.calState l.val = 3 ∧
        Raised s t (250 + l.val) {} ∧
        t.lane l.val = { s.lane l.val with uses := (t.lane l.val).uses } ∧
        (t.laneNow l.val).calibrated = false ∧
        (∀ m : Nat, m ≠ l.val → t.lane m = s.lane m) ∧
        t = { s with lanes := t.lanes, win := t.win, dict := t.dict } ∧
        SameDict s t [Obj.crem_cal_state.key (l.val - 9) 0, srcKey (250 + l.val)]) ∧
    (∀ (s : State) (l : Fin 13),
      l.val < 9 →
      s.calState l.val = 1 →
      s.passed (s.lane l.val).calStart 50000000 = true →
      CanRaise s (250 + l.val) →
      ∃ t, Sys2Proof.Machine.exec (.stampCalTimeout l) s = .next t ∧
        t.calState l.val = 3 ∧
        Raised s t (250 + l.val) {} ∧
        t.lane l.val = { s.lane l.val with uses := (t.lane l.val).uses } ∧
        (t.laneNow l.val).calibrated = false ∧
        (∀ m : Nat, m ≠ l.val → t.lane m = s.lane m) ∧
        t = { s with lanes := t.lanes, win := t.win, dict := t.dict } ∧
        SameDict s t [Obj.stamp_cal_state.key l.val 0, Obj.stamp_rx_cal.key l.val 0, Obj.stamp_tx_cal.key l.val 0, Obj.stamp_accuracy.key l.val 0, Obj.stamp_calibrate.key l.val 0, srcKey (250 + l.val)]) ∧
    (∀ (s : State) (l : Fin 13),
      s.passed (s.lane l.val).calStart 50000000 = false →
      ∃ t, Sys2Proof.Machine.exec (.stampCalTimeout l) s = .next t ∧
        t = s)

/-- FRAME_RECEIVE counts each frame, drops what the pool cannot take, discards runts and frames for others, and hands requests on -/
def Obligations.FrameReceive : Prop :=
    (∀ (s : State) (f : FrameIn),
      ((s.net.waiting.all fun g => !(g.kind == .ptp && (ptpIn g).other)) = true) →
      s.linkUp f.port.val = false →
      ∃ t, Sys2Proof.Machine.exec (.frameReceive f) s = .next t ∧
        t = s) ∧
    (∀ (s : State) (f : FrameIn),
      ((s.net.waiting.all fun g => !(g.kind == .ptp && (ptpIn g).other)) = true) →
      s.linkUp f.port.val = true →
      (s.admitFrame f.port.val (cellsOf (s.effN Obj.mac_maxlen f.port.val + if f.port.val = 8 then 42 else 0))) = none →
      ∃ t, Sys2Proof.Machine.exec (.frameReceive f) s = .next t ∧
        t.valN Obj.mac_rx_frames f.port.val = min (s.valN Obj.mac_rx_frames f.port.val + 1) (2 ^ 64 - 1) ∧
        t.valN Obj.mac_rx_octets f.port.val = min (s.valN Obj.mac_rx_octets f.port.val + (f.bytes.length + 4)) (2 ^ 64 - 1) ∧
        t.valN Obj.mac_rx_pool_drop f.port.val = min (s.valN Obj.mac_rx_pool_drop f.port.val + 1) (2 ^ 64 - 1) ∧
        t.tithe = (((s.tally (44 + f.port.val) 1 1).tally (44 + f.port.val) 2 (f.bytes.length + 4)).tally (44 + f.port.val) 9 1).tithe ∧
        t = { s with tithe := t.tithe, dict := t.dict } ∧
        SameDict s t [Obj.mac_rx_frames.key f.port.val 0, Obj.mac_rx_octets.key f.port.val 0, Obj.mac_rx_pool_drop.key f.port.val 0]) ∧
    (∀ (s : State) (f : FrameIn),
      ((s.net.waiting.all fun g => !(g.kind == .ptp && (ptpIn g).other)) = true) →
      s.linkUp f.port.val = true →
      (s.admitFrame f.port.val (cellsOf (s.effN Obj.mac_maxlen f.port.val + if f.port.val = 8 then 42 else 0))).isSome = true →
      f.codeErr = true →
      ∃ t, Sys2Proof.Machine.exec (.frameReceive f) s = .next t ∧
        t.valN Obj.mac_rx_frames f.port.val = min (s.valN Obj.mac_rx_frames f.port.val + 1) (2 ^ 64 - 1) ∧
        t.valN Obj.mac_rx_octets f.port.val = min (s.valN Obj.mac_rx_octets f.port.val + (f.bytes.length + 4)) (2 ^ 64 - 1) ∧
        t.tithe = ((s.tally (44 + f.port.val) 1 1).tally (44 + f.port.val) 2 (f.bytes.length + 4)).tithe ∧
        t.valN Obj.mac_rx_code_err f.port.val = min (s.valN Obj.mac_rx_code_err f.port.val + 1) (2 ^ 64 - 1) ∧
        t.valN Obj.mac_rx_discarded f.port.val = min (s.valN Obj.mac_rx_discarded f.port.val + 1) (2 ^ 64 - 1) ∧
        t = { s with tithe := t.tithe, dict := t.dict } ∧
        SameDict s t [Obj.mac_rx_frames.key f.port.val 0, Obj.mac_rx_octets.key f.port.val 0, Obj.mac_rx_code_err.key f.port.val 0, Obj.mac_rx_discarded.key f.port.val 0]) ∧
    (∀ (s : State) (f : FrameIn),
      ((s.net.waiting.all fun g => !(g.kind == .ptp && (ptpIn g).other)) = true) →
      s.linkUp f.port.val = true →
      (s.admitFrame f.port.val (cellsOf (s.effN Obj.mac_maxlen f.port.val + if f.port.val = 8 then 42 else 0))).isSome = true →
      f.codeErr = false →
      f.bytes.length + 4 < 64 →
      ∃ t, Sys2Proof.Machine.exec (.frameReceive f) s = .next t ∧
        t.valN Obj.mac_rx_frames f.port.val = min (s.valN Obj.mac_rx_frames f.port.val + 1) (2 ^ 64 - 1) ∧
        t.valN Obj.mac_rx_octets f.port.val = min (s.valN Obj.mac_rx_octets f.port.val + (f.bytes.length + 4)) (2 ^ 64 - 1) ∧
        t.tithe = ((s.tally (44 + f.port.val) 1 1).tally (44 + f.port.val) 2 (f.bytes.length + 4)).tithe ∧
        t.valN Obj.mac_rx_runt f.port.val = min (s.valN Obj.mac_rx_runt f.port.val + 1) (2 ^ 64 - 1) ∧
        t.valN Obj.mac_rx_discarded f.port.val = min (s.valN Obj.mac_rx_discarded f.port.val + 1) (2 ^ 64 - 1) ∧
        t = { s with tithe := t.tithe, dict := t.dict } ∧
        SameDict s t [Obj.mac_rx_frames.key f.port.val 0, Obj.mac_rx_octets.key f.port.val 0, Obj.mac_rx_runt.key f.port.val 0, Obj.mac_rx_discarded.key f.port.val 0]) ∧
    (∀ (s : State) (f : FrameIn),
      ((s.net.waiting.all fun g => !(g.kind == .ptp && (ptpIn g).other)) = true) →
      s.linkUp f.port.val = true →
      (s.admitFrame f.port.val (cellsOf (s.effN Obj.mac_maxlen f.port.val + if f.port.val = 8 then 42 else 0))).isSome = true →
      f.codeErr = false →
      f.fcsOk = true →
      64 ≤ f.bytes.length + 4 →
      f.bytes.length + 4 ≤ (s.effN Obj.mac_maxlen f.port.val + if f.port.val = 8 then 42 else 0) →
      f.port.val < 8 →
      field f.bytes 12 2 ≠ 0x8808 →
      isGroup (f.bytes.take 6) = false →
      f.bytes.take 6 ≠ s.effB Obj.mac_address f.port.val →
      s.addrConflict f.port.val f.bytes = false →
      ∃ t, Sys2Proof.Machine.exec (.frameReceive f) s = .next t ∧
        t.valN Obj.mac_rx_frames f.port.val = min (s.valN Obj.mac_rx_frames f.port.val + 1) (2 ^ 64 - 1) ∧
        t.valN Obj.mac_rx_octets f.port.val = min (s.valN Obj.mac_rx_octets f.port.val + (f.bytes.length + 4)) (2 ^ 64 - 1) ∧
        t.tithe = ((s.tally (44 + f.port.val) 1 1).tally (44 + f.port.val) 2 (f.bytes.length + 4)).tithe ∧
        t.valN Obj.mac_rx_filtered f.port.val = min (s.valN Obj.mac_rx_filtered f.port.val + 1) (2 ^ 64 - 1) ∧
        t.valN Obj.mac_rx_discarded f.port.val = min (s.valN Obj.mac_rx_discarded f.port.val + 1) (2 ^ 64 - 1) ∧
        t = { s with tithe := t.tithe, dict := t.dict } ∧
        SameDict s t [Obj.mac_rx_frames.key f.port.val 0, Obj.mac_rx_octets.key f.port.val 0, Obj.mac_rx_filtered.key f.port.val 0, Obj.mac_rx_discarded.key f.port.val 0]) ∧
    (∀ (s : State) (f : FrameIn) (e : Option Nat),
      ((s.net.waiting.all fun g => !(g.kind == .ptp && (ptpIn g).other)) = true) →
      s.linkUp f.port.val = true →
      (s.admitFrame f.port.val (cellsOf (s.effN Obj.mac_maxlen f.port.val + if f.port.val = 8 then 42 else 0))).isSome = true →
      f.codeErr = false →
      f.fcsOk = true →
      64 ≤ f.bytes.length + 4 →
      f.bytes.length + 4 ≤ (s.effN Obj.mac_maxlen f.port.val + if f.port.val = 8 then 42 else 0) →
      f.port.val < 8 →
      s.addrConflict f.port.val f.bytes = false →
      (match s.classify f.port.val f.bytes with | .take k e1 => k == .ntp && e1 == e | _ => false) = true →
      ∃ t, Sys2Proof.Machine.exec (.frameReceive f) s = .next t ∧
        t.valN Obj.mac_rx_frames f.port.val = min (s.valN Obj.mac_rx_frames f.port.val + 1) (2 ^ 64 - 1) ∧
        t.valN Obj.mac_rx_octets f.port.val = min (s.valN Obj.mac_rx_octets f.port.val + (f.bytes.length + 4)) (2 ^ 64 - 1) ∧
        t.tithe = ((s.tally (44 + f.port.val) 1 1).tally (44 + f.port.val) 2 (f.bytes.length + 4)).tithe ∧
        t.net.waiting.length = s.net.waiting.length + 1 ∧
        t.net.waiting.take s.net.waiting.length = s.net.waiting ∧
        ((t.net.waiting.getLast?.map fun x => (x.kind, x.bytes, x.port, x.stamp, x.entry)) = some (.ntp, f.bytes, f.port.val, (s.rxStamp f).2.1, e)) ∧
        t.net = { s.net with ports := t.net.ports, sharedUsed := t.net.sharedUsed, waiting := t.net.waiting, nextId := s.net.nextId + 1 } ∧
        t = { s with net := t.net, tithe := t.tithe, dict := t.dict } ∧
        SameDict s t [Obj.mac_rx_frames.key f.port.val 0, Obj.mac_rx_octets.key f.port.val 0])

/-- ARP_REQUEST, NEIGHBOUR_SOLICITATION and ICMP_ECHO_REQUEST queue their answers; echo requests beyond the rate are counted -/
def Obligations.HardwareAnswers : Prop :=
    (∀ (s : State) (f : RxFrame) (q : Nat),
      s.nextRx .arp = some f →
      f.port < 8 →
      s.effN Obj.mac_ctl_queue f.port = q →
      q < 8 →
      cellsOf ((padTo 60 (s.arpReply f)).length + 4) ≤ s.freeCells f.port q →
      ∃ t, Sys2Proof.Machine.exec (.arpRequest) s = .next t ∧
        (t.queue f.port q).fifo = (s.queue f.port q).fifo ++ [{ id := s.net.nextId, bytes := padTo 60 (s.arpReply f), queue := q, note := .answer }] ∧
        (t.net.waiting = s.net.waiting.filter fun x => x.id != f.id) ∧
        t.valN Obj.mac_rx_answered f.port = min (s.valN Obj.mac_rx_answered f.port + 1) (2 ^ 64 - 1) ∧
        (∀ m : Nat, m ≠ f.port → t.port m = s.port m) ∧
        t = { s with net := t.net, dict := t.dict } ∧
        SameDict s t [Obj.mac_rx_answered.key f.port 0]) ∧
    (∀ (s : State) (f : RxFrame) (q : Nat),
      s.nextRx .nd = some f →
      f.port < 8 →
      s.effN Obj.mac_ctl_queue f.port = q →
      q < 8 →
      cellsOf ((padTo 60 (s.naReply f)).length + 4) ≤ s.freeCells f.port q →
      ∃ t, Sys2Proof.Machine.exec (.neighbourSolicitation) s = .next t ∧
        (t.queue f.port q).fifo = (s.queue f.port q).fifo ++ [{ id := s.net.nextId, bytes := padTo 60 (s.naReply f), queue := q, note := .answer }] ∧
        (t.net.waiting = s.net.waiting.filter fun x => x.id != f.id) ∧
        t.valN Obj.mac_rx_answered f.port = min (s.valN Obj.mac_rx_answered f.port + 1) (2 ^ 64 - 1) ∧
        (∀ m : Nat, m ≠ f.port → t.port m = s.port m) ∧
        t = { s with net := t.net, dict := t.dict } ∧
        SameDict s t [Obj.mac_rx_answered.key f.port 0]) ∧
    (∀ (s : State) (f : RxFrame) (q : Nat) (ip : IpHead),
      s.nextRx .echo = some f →
      f.port < 8 →
      s.effN Obj.mac_ctl_queue f.port = q →
      q < 8 →
      parseIp f.bytes (parseEth f.bytes).et (parseEth f.bytes).off = some ip →
      (s.port f.port).icmp < s.effN Obj.mac_icmp_rate f.port →
      cellsOf ((padTo 60 (s.echoReply f ip)).length + 4) ≤ s.freeCells f.port q →
      ∃ t, Sys2Proof.Machine.exec (.icmpEchoRequest) s = .next t ∧
        (t.queue f.port q).fifo = (s.queue f.port q).fifo ++ [{ id := s.net.nextId, bytes := padTo 60 (s.echoReply f ip), queue := q, note := .answer }] ∧
        (t.net.waiting = s.net.waiting.filter fun x => x.id != f.id) ∧
        t.valN Obj.mac_rx_answered f.port = min (s.valN Obj.mac_rx_answered f.port + 1) (2 ^ 64 - 1) ∧
        (∀ m : Nat, m ≠ f.port → t.port m = s.port m) ∧
        (t.port f.port).icmp = (s.port f.port).icmp + 1 ∧
        t = { s with net := t.net, dict := t.dict } ∧
        SameDict s t [Obj.mac_rx_answered.key f.port 0]) ∧
    (∀ (s : State) (f : RxFrame),
      s.nextRx .echo = some f →
      s.effN Obj.mac_icmp_rate f.port ≤ (s.port f.port).icmp →
      ∃ t, Sys2Proof.Machine.exec (.icmpEchoRequest) s = .next t ∧
        t.valN Obj.mac_icmp_limited f.port = min (s.valN Obj.mac_icmp_limited f.port + 1) (2 ^ 64 - 1) ∧
        t.valN Obj.mac_rx_discarded f.port = min (s.valN Obj.mac_rx_discarded f.port + 1) (2 ^ 64 - 1) ∧
        (t.net.waiting = s.net.waiting.filter fun x => x.id != f.id) ∧
        t = { s with net := t.net, dict := t.dict } ∧
        SameDict s t [Obj.mac_icmp_limited.key f.port 0, Obj.mac_rx_discarded.key f.port 0]) ∧
    (∀ (s : State),
      s.nextRx .arp = none →
      ∃ t, Sys2Proof.Machine.exec (.arpRequest) s = .next t ∧
        t = s) ∧
    (∀ (s : State),
      s.nextRx .nd = none →
      ∃ t, Sys2Proof.Machine.exec (.neighbourSolicitation) s = .next t ∧
        t = s) ∧
    (∀ (s : State),
      s.nextRx .echo = none →
      ∃ t, Sys2Proof.Machine.exec (.icmpEchoRequest) s = .next t ∧
        t = s)

/-- PAUSE is counted; under HONOUR it holds the transmitter for its quanta, at most 125 us; PAUSE_HOLD_END ends the hold -/
def Obligations.PauseHolds : Prop :=
    (∀ (s : State) (f : RxFrame),
      s.nextRx .pause = some f →
      s.effN Obj.mac_pause_mode f.port = 0 →
      ∃ t, Sys2Proof.Machine.exec (.pause) s = .next t ∧
        t.valN Obj.mac_rx_pause f.port = min (s.valN Obj.mac_rx_pause f.port + 1) (2 ^ 64 - 1) ∧
        t.valN Obj.mac_rx_discarded f.port = min (s.valN Obj.mac_rx_discarded f.port + 1) (2 ^ 64 - 1) ∧
        (t.net.waiting = s.net.waiting.filter fun x => x.id != f.id) ∧
        (t.port f.port).pauseFrom = (s.port f.port).pauseFrom ∧
        (∀ m : Nat, m ≠ f.port → t.port m = s.port m) ∧
        t = { s with net := t.net, dict := t.dict } ∧
        SameDict s t [Obj.mac_rx_pause.key f.port 0, Obj.mac_rx_discarded.key f.port 0]) ∧
    (∀ (s : State) (f : RxFrame),
      s.nextRx .pause = some f →
      f.port < 9 →
      s.effN Obj.mac_pause_mode f.port = 1 →
      (s.port f.port).pauseFrom = none →
      (s.port f.port).pauseOwed = false ∨ (s.port f.port).hasFrame = false →
      0 < s.quantaPs f.port (field f.bytes 16 2) →
      ∃ t, Sys2Proof.Machine.exec (.pause) s = .next t ∧
        t.valN Obj.mac_rx_pause f.port = min (s.valN Obj.mac_rx_pause f.port + 1) (2 ^ 64 - 1) ∧
        (t.port f.port).pauseFrom = some (s.frameEnd f.port) ∧
        (t.port f.port).pauseEnd = min (s.frameEnd f.port + s.quantaPs f.port (field f.bytes 16 2)) (s.frameEnd f.port + 125000000) ∧
        (∀ m : Nat, m ≠ f.port → t.port m = s.port m) ∧
        t = { s with net := t.net, dict := t.dict } ∧
        SameDict s t [Obj.mac_rx_pause.key f.port 0, Obj.mac_rx_discarded.key f.port 0]) ∧
    (∀ (s : State),
      s.nextRx .pause = none →
      ∃ t, Sys2Proof.Machine.exec (.pause) s = .next t ∧
        t = s) ∧
    (∀ (s : State) (p : Fin 9) (a : Nat),
      (s.port p.val).pauseFrom = some a →
      (s.port p.val).pauseEnd ≤ 2000 * s.tc.cyc →
      ∃ t, Sys2Proof.Machine.exec (.pauseHoldEnd p) s = .next t ∧
        (t.port p.val).pauseFrom = none ∧
        (t.port p.val).pauseOwed = (decide (a < 2000 * s.tc.cyc) || (s.port p.val).pauseOwed) ∧
        t.valN Obj.mac_pause_ns p.val = min (s.valN Obj.mac_pause_ns p.val + ((s.port p.val).pauseEnd - a) / 1000) (2 ^ 64 - 1) ∧
        (∀ m : Nat, m ≠ p.val → t.port m = s.port m) ∧
        t.net = { s.net with ports := t.net.ports } ∧
        t = { s with net := t.net, tithe := t.tithe, dict := t.dict } ∧
        SameDict s t [Obj.mac_pause_ns.key p.val 0, Obj.cal_displaced.key p.val 0]) ∧
    (∀ (s : State) (p : Fin 9),
      (s.port p.val).pauseFrom = none →
      ∃ t, Sys2Proof.Machine.exec (.pauseHoldEnd p) s = .next t ∧
        t = s)

/-- LINK_UP starts calibration and shows the link up; LINK_DOWN flushes the port, resets its calibration and raises its source -/
def Obligations.LinksUpAndDown : Prop :=
    (∀ (s : State) (p : Fin 9) (held : Nat) (neg : Fin 3),
      s.effN Obj.mac_up_delay p.val ≤ held →
      s.macsRun = true →
      s.mode p.val ≠ 0 →
      s.linkUp p.val = false →
      neg = 0 ∨ s.negotiates p.val = false →
      ∃ t, Sys2Proof.Machine.exec (.linkUp p neg held) s = .next t ∧
        t.linkUp p.val = true ∧
        t.calState p.val = 1 ∧
        (t.lane p.val).calStart = s.tc.cyc ∧
        (t.lane p.val).locked = true ∧
        (vat t.win.srcs (263 + p.val) {}).cond = false ∧
        t.dict.cfg = s.dict.cfg ∧
        t.dict.eff = s.dict.eff ∧
        t = { s with lanes := t.lanes, slots := t.slots, win := t.win, net := t.net, dict := t.dict, fresh := t.fresh }) ∧
    (∀ (s : State) (p : Fin 9) (held : Nat),
      held < s.effN Obj.mac_up_delay p.val →
      ((List.range 4).all fun i => !s.effT Obj.ptp_enable i && s.valN Obj.ptp_slave_state i == 0) = true →
      ∃ t, Sys2Proof.Machine.exec (.linkUp p 0 held) s = .next t ∧
        t = s) ∧
    (∀ (s : State) (p : Fin 9) (held : Nat),
      s.macsRun = true →
      s.mode p.val = 5 →
      s.negotiates p.val = true →
      s.linkUp p.val = false →
      ((List.range 4).all fun i => !s.effT Obj.ptp_enable i && s.valN Obj.ptp_slave_state i == 0) = true →
      ∃ t, Sys2Proof.Machine.exec (.linkUp p 1 held) s = .next t ∧
        t.valN Obj.mac_an_result p.val = 2 ∧
        t.valN Obj.mac_link_downs p.val = min (s.valN Obj.mac_link_downs p.val + 1) (2 ^ 64 - 1) ∧
        t = { s with dict := t.dict } ∧
        SameDict s t [Obj.mac_an_result.key p.val 0, Obj.mac_link_downs.key p.val 0]) ∧
    (∀ (s : State) (p : Fin 9) (held : Nat),
      s.macsRun = true →
      s.negotiates p.val = true →
      s.linkUp p.val = false →
      ((List.range 4).all fun i => !s.effT Obj.ptp_enable i && s.valN Obj.ptp_slave_state i == 0) = true →
      ∃ t, Sys2Proof.Machine.exec (.linkUp p 2 held) s = .next t ∧
        t.valN Obj.mac_an_result p.val = 3 ∧
        t = { s with dict := t.dict } ∧
        SameDict s t [Obj.mac_an_result.key p.val 0]) ∧
    (∀ (s : State) (p : Fin 9) (failed : Nat),
      s.linkUp p.val = true →
      s.effN Obj.mac_down_delay p.val ≤ failed →
      s.mode p.val ≠ 0 →
      (vat s.win.srcs (263 + p.val) {}).cond = false →
      CanRaise s (263 + p.val) →
      ∃ t, Sys2Proof.Machine.exec (.linkDown p failed) s = .next t ∧
        t.linkUp p.val = false ∧
        t.calState p.val = 0 ∧
        (t.lane p.val).locked = false ∧
        t.valN Obj.mac_link_downs p.val = min (s.valN Obj.mac_link_downs p.val + 1) (2 ^ 64 - 1) ∧
        (t.port p.val).cal = [] ∧
        (∀ q : Nat, (t.queue p.val q).fifo = []) ∧
        (vat t.win.srcs (263 + p.val) {}).cond = true ∧
        t.win.now = s.win.now ++ [(263 + p.val, ({} : FaultInfo))] ∧
        t.dict.cfg = s.dict.cfg ∧
        t.dict.eff = s.dict.eff ∧
        t = { s with lanes := t.lanes, slots := t.slots, win := t.win, net := t.net, dict := t.dict, fresh := t.fresh }) ∧
    (∀ (s : State) (p : Fin 9) (failed : Nat),
      s.linkUp p.val = false ∨ failed < s.effN Obj.mac_down_delay p.val →
      ((List.range 4).all fun i => !s.effT Obj.ptp_enable i && s.valN Obj.ptp_slave_state i == 0) = true →
      ∃ t, Sys2Proof.Machine.exec (.linkDown p failed) s = .next t ∧
        t = s)

/-- HP_SEND: a good frame of the host enters its queue with its descriptor; a bad one, or one without room, is counted -/
def Obligations.HostFrames : Prop :=
    (∀ (s : State) (f : RxFrame),
      s.nextRx .send = some f →
      (s.checkSend f.bytes).isNone = true →
      ∃ t, Sys2Proof.Machine.exec (.hpSend) s = .next t ∧
        t.valN Obj.hp_bad_send  = min (s.valN Obj.hp_bad_send  + 1) (2 ^ 64 - 1) ∧
        t.valN Obj.mac_rx_discarded 8 = min (s.valN Obj.mac_rx_discarded 8 + 1) (2 ^ 64 - 1) ∧
        (t.net.waiting = s.net.waiting.filter fun x => x.id != f.id) ∧
        t = { s with net := t.net, dict := t.dict } ∧
        SameDict s t [Obj.hp_bad_send.key 0 0, Obj.mac_rx_discarded.key 8 0]) ∧
    (∀ (s : State) (f : RxFrame) (p : Nat) (x : TxFrame),
      s.nextRx .send = some f →
      f.port = 8 →
      s.checkSend f.bytes = some (p, x) →
      s.linkUp p = true →
      cellsOf ((padTo 60 x.bytes).length + 4) ≤ s.freeCells p x.queue →
      ∃ t, Sys2Proof.Machine.exec (.hpSend) s = .next t ∧
        t.valN Obj.mac_rx_served 8 = min (s.valN Obj.mac_rx_served 8 + 1) (2 ^ 64 - 1) ∧
        (t.queue p x.queue).fifo = (s.queue p x.queue).fifo ++ [{ x with id := s.net.nextId, bytes := padTo 60 x.bytes }] ∧
        p < 8 ∧
        x.queue < 8 ∧
        x.tag = field (f.bytes.drop 14) 6 2 ∧
        x.bytes = slice f.bytes 38 (field (f.bytes.drop 14) 4 2) ∧
        (∀ m : Nat, m ≠ p → m ≠ 8 → t.port m = s.port m) ∧
        t = { s with net := t.net, dict := t.dict } ∧
        SameDict s t [Obj.mac_rx_served.key 8 0]) ∧
    (∀ (s : State) (f : RxFrame) (p : Nat) (x : TxFrame),
      s.nextRx .send = some f →
      s.checkSend f.bytes = some (p, x) →
      s.linkUp p = false →
      ∃ t, Sys2Proof.Machine.exec (.hpSend) s = .next t ∧
        t.valN Obj.mac_rx_discarded 8 = min (s.valN Obj.mac_rx_discarded 8 + 1) (2 ^ 64 - 1) ∧
        t.valN Obj.mac_tx_drop_full p = min (s.valN Obj.mac_tx_drop_full p + 1) (2 ^ 64 - 1) ∧
        t = { s with net := t.net, dict := t.dict } ∧
        SameDict s t [Obj.mac_rx_discarded.key 8 0, Obj.mac_tx_drop_full.key p 0]) ∧
    (∀ (s : State) (f : RxFrame) (p : Nat) (x : TxFrame),
      s.nextRx .send = some f →
      s.checkSend f.bytes = some (p, x) →
      s.freeCells p x.queue < cellsOf ((padTo 60 x.bytes).length + 4) →
      ∃ t, Sys2Proof.Machine.exec (.hpSend) s = .next t ∧
        t.valN Obj.mac_rx_discarded 8 = min (s.valN Obj.mac_rx_discarded 8 + 1) (2 ^ 64 - 1) ∧
        t.valN Obj.mac_tx_drop_full p = min (s.valN Obj.mac_tx_drop_full p + 1) (2 ^ 64 - 1) ∧
        t = { s with net := t.net, dict := t.dict } ∧
        SameDict s t [Obj.mac_rx_discarded.key 8 0, Obj.mac_tx_drop_full.key p 0]) ∧
    (∀ (s : State),
      s.nextRx .send = none →
      ∃ t, Sys2Proof.Machine.exec (.hpSend) s = .next t ∧
        t = s)

/-- LAUNCH_CHECK commits a reserved frame that is ready and of the present step_count, and drops one that is late or stepped -/
def Obligations.LaunchCheck : Prop :=
    (∀ (s : State) (p : Fin 9) (e : CalEntry),
      s.dueEntry p.val true = some e →
      e.ready = true →
      s.inHold p.val e.t = false →
      s.tod ≤ e.t →
      s.tooOld e.frame e.t = false →
      e.frame.steps = s.steps →
      ∃ t, Sys2Proof.Machine.exec (.launchCheck p) s = .next t ∧
        ((t.port p.val).cal = (s.port p.val).cal.map fun x => if x.frame.id == e.frame.id then { x with committed := true } else x) ∧
        t.valN Obj.queue_tx_frames p.val e.frame.queue = min (s.valN Obj.queue_tx_frames p.val e.frame.queue + 1) (2 ^ 64 - 1) ∧
        t.valN Obj.queue_tx_octets p.val e.frame.queue = min (s.valN Obj.queue_tx_octets p.val e.frame.queue + e.frame.len) (2 ^ 64 - 1) ∧
        (t.queue p.val e.frame.queue).used = (s.queue p.val e.frame.queue).used - cellsOf e.frame.len ∧
        (∀ m : Nat, m ≠ p.val → t.port m = s.port m) ∧
        t = { s with net := t.net, dict := t.dict } ∧
        SameDict s t [Obj.queue_tx_frames.key p.val e.frame.queue, Obj.queue_tx_octets.key p.val e.frame.queue, Obj.ntp_responses.key p.val 0, Obj.nts_responses.key p.val 0]) ∧
    (∀ (s : State) (p : Fin 9) (e : CalEntry),
      s.dueEntry p.val true = some e →
      e.ready = false ∨ (e.frame.steps = s.steps ∧ (s.inHold p.val e.t = true ∨ e.t < s.tod ∨ s.tooOld e.frame e.t = true)) →
      ∃ t, Sys2Proof.Machine.exec (.launchCheck p) s = .next t ∧
        ((t.port p.val).cal = (s.port p.val).cal.filter fun x => x.frame.id != e.frame.id) ∧
        t.valN Obj.stamp_late p.val = min (s.valN Obj.stamp_late p.val + 1) (2 ^ 64 - 1) ∧
        t.valN Obj.stamp_last_late p.val = stamp128 e.t 0x1009 ∧
        t.tithe = (s.tally (44 + p.val) 6 1).tithe ∧
        (t.queue p.val e.frame.queue).used = (s.queue p.val e.frame.queue).used - cellsOf e.frame.len ∧
        (∀ m : Nat, m ≠ p.val → t.port m = s.port m) ∧
        t = { s with net := t.net, tithe := t.tithe, dict := t.dict } ∧
        SameDict s t [Obj.stamp_late.key p.val 0, Obj.stamp_last_late.key p.val 0]) ∧
    (∀ (s : State) (p : Fin 9) (e : CalEntry),
      s.dueEntry p.val true = some e →
      e.ready = true →
      e.frame.steps ≠ s.steps →
      ∃ t, Sys2Proof.Machine.exec (.launchCheck p) s = .next t ∧
        ((t.port p.val).cal = (s.port p.val).cal.filter fun x => x.frame.id != e.frame.id) ∧
        t.valN Obj.stamp_step_drops p.val = min (s.valN Obj.stamp_step_drops p.val + 1) (2 ^ 64 - 1) ∧
        (t.queue p.val e.frame.queue).used = (s.queue p.val e.frame.queue).used - cellsOf e.frame.len ∧
        (∀ m : Nat, m ≠ p.val → t.port m = s.port m) ∧
        t = { s with net := t.net, dict := t.dict } ∧
        SameDict s t [Obj.stamp_step_drops.key p.val 0]) ∧
    (∀ (s : State) (p : Fin 9),
      s.dueEntry p.val true = none →
      ∃ t, Sys2Proof.Machine.exec (.launchCheck p) s = .next t ∧
        t = s)

/-- UNTIMED_PLACE selects a frame and places it at the first free start; UNTIMED_COMMIT commits it with its launch stamp -/
def Obligations.UntimedFrames : Prop :=
    (∀ (s : State) (p : Fin 9) (f : TxFrame) (r : List TxFrame),
      s.linkUp p.val = true →
      (s.port p.val).cal = [] →
      s.paused p.val = false →
      p.val < 8 →
      s.effT Obj.sched_privileged p.val = true →
      s.eligibleQ p.val 0 = true →
      (s.queue p.val 0).fifo = f :: r →
      f.stampReq = false →
      ∃ t, Sys2Proof.Machine.exec (.untimedPlace p) s = .next t ∧
        (s.predicts (s.startAfter p.val (s.gridUp p.val (s.tod + s.txFix p.val))) = true → (t.port p.val).cal = [{ t := s.startAfter p.val (s.gridUp p.val (s.tod + s.txFix p.val)), w := s.wireTime p.val f.len, frame := f }] ∧ (t.queue p.val 0).fifo = r) ∧
        (s.predicts (s.startAfter p.val (s.gridUp p.val (s.tod + s.txFix p.val))) = false → t = s) ∧
        (∀ m : Nat, m ≠ p.val → t.port m = s.port m) ∧
        t = { s with net := t.net }) ∧
    (∀ (s : State) (p : Fin 9) (q : Fin 8) (f : TxFrame),
      s.linkUp p.val = true →
      (s.port p.val).cal = [] →
      s.paused p.val = false →
      s.effT Obj.sched_privileged p.val = false →
      (s.port p.val).active = [] →
      ((List.range 8).all fun k => k == q.val || (s.queue p.val k).fifo.isEmpty) = true →
      s.eligibleQ p.val q.val = true →
      (s.queue p.val q.val).fifo = [f] →
      f.stampReq = false →
      f.len ≤ s.effN Obj.sched_quantum p.val q.val →
      ∃ t, Sys2Proof.Machine.exec (.untimedPlace p) s = .next t ∧
        (s.predicts (s.startAfter p.val (s.gridUp p.val (s.tod + s.txFix p.val))) = true → (t.port p.val).cal = [{ t := s.startAfter p.val (s.gridUp p.val (s.tod + s.txFix p.val)), w := s.wireTime p.val f.len, frame := f }] ∧ (t.queue p.val q.val).fifo = []) ∧
        (s.predicts (s.startAfter p.val (s.gridUp p.val (s.tod + s.txFix p.val))) = false → t = s) ∧
        (∀ m : Nat, m ≠ p.val → t.port m = s.port m) ∧
        t = { s with net := t.net }) ∧
    (∀ (s : State) (p : Fin 9),
      s.linkUp p.val = false →
      (s.port p.val).cal = [] →
      ∃ t, Sys2Proof.Machine.exec (.untimedPlace p) s = .next t ∧
        t = s) ∧
    (∀ (s : State) (p : Fin 9) (e : CalEntry),
      s.dueEntry p.val false = some e →
      s.inHold p.val e.t = false →
      s.tod ≤ e.t →
      (match e.frame.note with | .ntp _ => e.frame.steps == s.steps | _ => true) = true →
      s.tooOld e.frame e.t = false →
      ∃ t, Sys2Proof.Machine.exec (.untimedCommit p) s = .next t ∧
        ((t.port p.val).cal = (s.port p.val).cal.map fun x => if x.frame.id == e.frame.id then { x with committed := true, frame := s.writeStamp x.frame x.t } else x) ∧
        t.valN Obj.queue_tx_frames p.val e.frame.queue = min (s.valN Obj.queue_tx_frames p.val e.frame.queue + 1) (2 ^ 64 - 1) ∧
        t.valN Obj.queue_tx_octets p.val e.frame.queue = min (s.valN Obj.queue_tx_octets p.val e.frame.queue + e.frame.len) (2 ^ 64 - 1) ∧
        (∀ m : Nat, m ≠ p.val → t.port m = s.port m) ∧
        t = { s with net := t.net, dict := t.dict } ∧
        SameDict s t [Obj.queue_tx_frames.key p.val e.frame.queue, Obj.queue_tx_octets.key p.val e.frame.queue, Obj.ntp_responses.key p.val 0, Obj.nts_responses.key p.val 0]) ∧
    (∀ (s : State) (p : Fin 9) (e : CalEntry) (i : Nat),
      s.dueEntry p.val false = some e →
      s.inHold p.val e.t = false →
      s.tod ≤ e.t →
      e.frame.note = .ntp i →
      e.frame.steps ≠ s.steps →
      ∃ t, Sys2Proof.Machine.exec (.untimedCommit p) s = .next t ∧
        ((t.port p.val).cal = (s.port p.val).cal.filter fun x => x.frame.id != e.frame.id) ∧
        t.valN Obj.stamp_step_drops p.val = min (s.valN Obj.stamp_step_drops p.val + 1) (2 ^ 64 - 1) ∧
        (∀ m : Nat, m ≠ p.val → t.port m = s.port m) ∧
        t = { s with net := t.net, dict := t.dict } ∧
        SameDict s t [Obj.stamp_step_drops.key p.val 0]) ∧
    (∀ (s : State) (p : Fin 9) (e : CalEntry) (u k : Nat),
      s.dueEntry p.val false = some e →
      s.inHold p.val e.t = false →
      s.tod ≤ e.t →
      e.frame.note = .general u k →
      s.tooOld e.frame e.t = true →
      ∃ t, Sys2Proof.Machine.exec (.untimedCommit p) s = .next t ∧
        ((t.port p.val).cal = (s.port p.val).cal.filter fun x => x.frame.id != e.frame.id) ∧
        (∀ m : Nat, m ≠ p.val → t.port m = s.port m) ∧
        t = { s with net := t.net }) ∧
    (∀ (s : State) (p : Fin 9),
      s.dueEntry p.val false = none →
      ∃ t, Sys2Proof.Machine.exec (.untimedCommit p) s = .next t ∧
        t = s)

/-- FRAME_DEPARTURE counts the frame and completes its stamp entry; the stamp queue pops, pushes and retires its entries -/
def Obligations.DepartureAndStampQueue : Prop :=
    (∀ (s : State) (p : Fin 9) (w : WordIn) (e : CalEntry) (c : Tod) (m : TodMark) (u : LaneUse),
      s.nextCrossing p.val = some e →
      s.txTime p.val (s.mode p.val) w = (c, m, u) →
      s.asPredicted p.val e c = true →
      e.frame.note = .host →
      e.frame.stampReq = true →
      (s.port p.val).pauseOwed = false →
      ∃ t, Sys2Proof.Machine.exec (.frameDeparture p w) s = .next t ∧
        ((t.port p.val).cal = (s.port p.val).cal.map fun x => if x.frame.id == e.frame.id then { x with crossed := true } else x) ∧
        t.valN Obj.mac_tx_frames p.val = min (s.valN Obj.mac_tx_frames p.val + 1) (2 ^ 64 - 1) ∧
        t.valN Obj.mac_tx_octets p.val = min (s.valN Obj.mac_tx_octets p.val + e.frame.len) (2 ^ 64 - 1) ∧
        ((t.port p.val).fifoStamp = (s.port p.val).fifoStamp.map fun x => if x.frame == e.frame.id && !x.done then { x with done := true, dropped := false, stamp := stamp128 c (s.portFlags p.val m u true e.reserved), doneAt := s.tc.boundaries } else x) ∧
        t.net.sent = s.net.sent ++ [(p.val, e.frame)] ∧
        t.tithe = ((s.tally (44 + p.val) 3 1).tally (44 + p.val) 4 e.frame.len).tithe ∧
        (∀ m : Nat, m ≠ p.val → t.port m = s.port m) ∧
        t = { s with net := t.net, tithe := t.tithe, dict := t.dict } ∧
        SameDict s t [Obj.mac_tx_frames.key p.val 0, Obj.mac_tx_octets.key p.val 0]) ∧
    (∀ (s : State) (p : Fin 9) (w : WordIn),
      ((s.nextCrossing p.val).all fun e => !s.asPredicted p.val e (s.txTime p.val (s.mode p.val) w).1) = true →
      ∃ t, Sys2Proof.Machine.exec (.frameDeparture p w) s = .next t ∧
        t = s) ∧
    (∀ (s : State) (p : Fin 8) (e : StampEntry) (r : List StampEntry),
      (s.port p.val).fifoStamp = e :: r →
      e.done = true →
      ∃ t, Sys2Proof.Machine.exec (.stampQueuePop p) s = .next t ∧
        (t.gran = { s.gran with lastRead := [(Obj.stamp_queue_pop.key p.val 0, beBytes 2 e.tag ++ beBytes 2 e.seq ++ [BitVec.ofNat 8 p.val, if e.dropped then 1#8 else 0#8] ++ beBytes 2 e.length ++ beBytes 16 e.stamp)] }) ∧
        ((t.port p.val).fifoStamp = r.filter fun x => x.seq != e.seq) ∧
        (∀ m : Nat, m ≠ p.val → t.port m = s.port m) ∧
        t = { s with net := t.net, gran := t.gran }) ∧
    (∀ (s : State) (p : Fin 8),
      (match (s.port p.val).fifoStamp with | e :: _ => e.done | [] => false) = false →
      ∃ t, Sys2Proof.Machine.exec (.stampQueuePop p) s = .next t ∧
        t.gran = { s.gran with lastRead := [(Obj.stamp_queue_pop.key p.val 0, List.replicate 24 0)] } ∧
        t = { s with gran := t.gran }) ∧
    (∀ (s : State) (p : Fin 8) (l : List StampEntry),
      (l = (s.port p.val).fifoStamp.filter fun e => e.done && decide (e.doneAt + s.effN Obj.stamp_age_ticks ≤ s.tc.boundaries)) →
      l ≠ [] →
      ∃ t, Sys2Proof.Machine.exec (.stampEntryRetire p) s = .next t ∧
        ((t.port p.val).fifoStamp = (s.port p.val).fifoStamp.filter fun e => !(e.done && decide (e.doneAt + s.effN Obj.stamp_age_ticks ≤ s.tc.boundaries))) ∧
        t.valN Obj.stamp_lost p.val = min (s.valN Obj.stamp_lost p.val + l.length) (2 ^ 64 - 1) ∧
        (∀ m : Nat, m ≠ p.val → t.port m = s.port m) ∧
        t = { s with net := t.net, dict := t.dict } ∧
        SameDict s t [Obj.stamp_lost.key p.val 0]) ∧
    (∀ (s : State) (p : Fin 8) (e : StampEntry) (r : List StampEntry),
      s.effN Obj.stamp_delivery = 1 →
      (s.port p.val).fifoStamp = e :: r →
      e.done = true →
      s.linkUp 8 = true →
      (s.attonOut s.pushBack (s.stampPushMsg p.val e)).isSome = true →
      ∃ t, Sys2Proof.Machine.exec (.stampPush p) s = .next t ∧
        t.gran.pushSeq = s.gran.pushSeq + 1 ∧
        ((t.port p.val).fifoStamp = r.filter fun x => x.seq != e.seq) ∧
        (∀ m : Nat, m ≠ p.val → (t.port m).fifoStamp = (s.port m).fifoStamp) ∧
        t = { s with net := t.net, gran := t.gran, dict := t.dict }) ∧
    (∀ (s : State) (p : Fin 8),
      s.effN Obj.stamp_delivery ≠ 1 →
      ∃ t, Sys2Proof.Machine.exec (.stampPush p) s = .next t ∧
        t = s)

/-- NTP_REQUEST takes the oldest plain request: legacy, bad version and malformed ones are counted, a good one is answered -/
def Obligations.NtpService : Prop :=
    (∀ (s : State) (f : RxFrame) (ip : IpHead) (b : Bytes),
      (s.net.waiting.find? fun f => f.kind == .ntp && rxNtpClass f != .nts) = some f →
      rxUdp f = some (ip, b) →
      s.thresherUp = true →
      ntpClass b = .legacy →
      s.effN Obj.ntp_unsupported = 0 →
      ∃ t, Sys2Proof.Machine.exec (.ntpRequest) s = .next t ∧
        t.valN Obj.ntp_legacy f.port = min (s.valN Obj.ntp_legacy f.port + 1) (2 ^ 64 - 1) ∧
        t.valN Obj.mac_rx_served f.port = min (s.valN Obj.mac_rx_served f.port + 1) (2 ^ 64 - 1) ∧
        (t.net.waiting = s.net.waiting.filter fun x => x.id != f.id) ∧
        t = { s with net := t.net, dict := t.dict } ∧
        SameDict s t [Obj.ntp_legacy.key f.port 0, Obj.mac_rx_served.key f.port 0]) ∧
    (∀ (s : State) (f : RxFrame) (ip : IpHead) (b : Bytes),
      (s.net.waiting.find? fun f => f.kind == .ntp && rxNtpClass f != .nts) = some f →
      rxUdp f = some (ip, b) →
      s.thresherUp = true →
      ntpClass b = .badVersion →
      ∃ t, Sys2Proof.Machine.exec (.ntpRequest) s = .next t ∧
        t.valN Obj.ntp_bad_version f.port = min (s.valN Obj.ntp_bad_version f.port + 1) (2 ^ 64 - 1) ∧
        t.valN Obj.mac_rx_served f.port = min (s.valN Obj.mac_rx_served f.port + 1) (2 ^ 64 - 1) ∧
        (t.net.waiting = s.net.waiting.filter fun x => x.id != f.id) ∧
        t = { s with net := t.net, dict := t.dict } ∧
        SameDict s t [Obj.ntp_bad_version.key f.port 0, Obj.mac_rx_served.key f.port 0]) ∧
    (∀ (s : State) (f : RxFrame) (ip : IpHead) (b : Bytes),
      (s.net.waiting.find? fun f => f.kind == .ntp && rxNtpClass f != .nts) = some f →
      rxUdp f = some (ip, b) →
      s.thresherUp = true →
      ntpClass b = .badMode →
      ∃ t, Sys2Proof.Machine.exec (.ntpRequest) s = .next t ∧
        t.valN Obj.ntp_bad_mode f.port = min (s.valN Obj.ntp_bad_mode f.port + 1) (2 ^ 64 - 1) ∧
        t.valN Obj.mac_rx_served f.port = min (s.valN Obj.mac_rx_served f.port + 1) (2 ^ 64 - 1) ∧
        (t.net.waiting = s.net.waiting.filter fun x => x.id != f.id) ∧
        t = { s with net := t.net, dict := t.dict } ∧
        SameDict s t [Obj.ntp_bad_mode.key f.port 0, Obj.mac_rx_served.key f.port 0]) ∧
    (∀ (s : State) (f : RxFrame) (ip : IpHead) (b : Bytes),
      (s.net.waiting.find? fun f => f.kind == .ntp && rxNtpClass f != .nts) = some f →
      rxUdp f = some (ip, b) →
      s.thresherUp = true →
      ntpClass b = .malformed →
      ∃ t, Sys2Proof.Machine.exec (.ntpRequest) s = .next t ∧
        t.valN Obj.ntp_malformed f.port = min (s.valN Obj.ntp_malformed f.port + 1) (2 ^ 64 - 1) ∧
        t.valN Obj.mac_rx_served f.port = min (s.valN Obj.mac_rx_served f.port + 1) (2 ^ 64 - 1) ∧
        (t.net.waiting = s.net.waiting.filter fun x => x.id != f.id) ∧
        t = { s with net := t.net, dict := t.dict } ∧
        SameDict s t [Obj.ntp_malformed.key f.port 0, Obj.mac_rx_served.key f.port 0]) ∧
    (∀ (s : State) (f : RxFrame) (ip : IpHead) (b : Bytes) (q : Nat),
      (s.net.waiting.find? fun f => f.kind == .ntp && rxNtpClass f != .nts) = some f →
      rxUdp f = some (ip, b) →
      s.thresherUp = true →
      ntpClass b = .plain →
      f.port < 8 →
      q = s.effN Obj.ntp_queue (s.ntpUnit f) →
      q < 8 →
      s.effT Obj.pol_enable = false →
      s.ntpCells f ip 48 ≤ s.freeCells f.port q →
      cellsOf ((padTo 60 (s.ntpFrame f ip (s.ntpHeader f b 0 s.tod))).length + 4) ≤ s.freeCells f.port q →
      ∃ t, Sys2Proof.Machine.exec (.ntpRequest) s = .next t ∧
        t.valN Obj.ntp_requests f.port = min (s.valN Obj.ntp_requests f.port + 1) (2 ^ 64 - 1) ∧
        t.valN Obj.mac_rx_served f.port = min (s.valN Obj.mac_rx_served f.port + 1) (2 ^ 64 - 1) ∧
        t.valN Obj.pol_passed f.port = min (s.valN Obj.pol_passed f.port + 1) (2 ^ 64 - 1) ∧
        (t.net.waiting = s.net.waiting.filter fun x => x.id != f.id) ∧
        (t.queue f.port q).fifo = (s.queue f.port q).fifo ++ [{ id := s.net.nextId, bytes := padTo 60 (s.ntpFrame f ip (s.ntpHeader f b 0 s.tod)), queue := q, enc := 1, stampOff := s.ntpFront f ip + 40, csumOff := s.ntpFront f ip - 2, steps := f.steps, note := .ntp (s.ntpUnit f), born := some (s.tc.boundaries, s.tc.tickCyc) }] ∧
        (∀ m : Nat, m ≠ f.port → t.port m = s.port m) ∧
        t = { s with net := t.net, dict := t.dict } ∧
        SameDict s t [Obj.ntp_requests.key f.port 0, Obj.mac_rx_served.key f.port 0, Obj.pol_passed.key f.port 0, Obj.ntp_v3.key f.port 0]) ∧
    (∀ (s : State),
      (s.net.waiting.find? fun f => f.kind == .ntp && rxNtpClass f != .nts) = none →
      ∃ t, Sys2Proof.Machine.exec (.ntpRequest) s = .next t ∧
        t = s)

/-- NTS_REQUEST reserves a launch instant and issues its Flail job; FLAIL_JOB_COMPLETE seals the response with its cookies -/
def Obligations.NtsService : Prop :=
    (∀ (s : State) (f : RxFrame) (ip : IpHead) (b : Bytes),
      (s.net.waiting.find? fun f => f.kind == .ntp && rxNtpClass f == .nts) = some f →
      rxUdp f = some (ip, b) →
      s.thresherUp = true →
      s.ntpCells f ip b.length ≤ s.freeCells f.port (s.effN Obj.ntp_queue (s.ntpUnit f)) →
      s.effT Obj.nts_enable = false →
      ∃ t, Sys2Proof.Machine.exec (.ntsRequest) s = .next t ∧
        t.valN Obj.nts_punted f.port = min (s.valN Obj.nts_punted f.port + 1) (2 ^ 64 - 1) ∧
        t.valN Obj.nts_requests f.port = min (s.valN Obj.nts_requests f.port + 1) (2 ^ 64 - 1) ∧
        t.valN Obj.mac_rx_served f.port = min (s.valN Obj.mac_rx_served f.port + 1) (2 ^ 64 - 1) ∧
        (t.net.waiting = s.net.waiting.filter fun x => x.id != f.id) ∧
        t = { s with net := t.net, dict := t.dict } ∧
        SameDict s t [Obj.nts_punted.key f.port 0, Obj.nts_requests.key f.port 0, Obj.mac_rx_served.key f.port 0, Obj.mac_punt_drops.key f.port 0]) ∧
    (∀ (s : State) (f : RxFrame) (ip : IpHead) (b : Bytes),
      (s.net.waiting.find? fun f => f.kind == .ntp && rxNtpClass f == .nts) = some f →
      rxUdp f = some (ip, b) →
      s.thresherUp = true →
      s.ntpCells f ip b.length ≤ s.freeCells f.port (s.effN Obj.ntp_queue (s.ntpUnit f)) →
      s.effT Obj.nts_enable = true →
      ntsParse b = none →
      ∃ t, Sys2Proof.Machine.exec (.ntsRequest) s = .next t ∧
        t.valN Obj.nts_malformed f.port = min (s.valN Obj.nts_malformed f.port + 1) (2 ^ 64 - 1) ∧
        t.valN Obj.nts_requests f.port = min (s.valN Obj.nts_requests f.port + 1) (2 ^ 64 - 1) ∧
        t.valN Obj.mac_rx_served f.port = min (s.valN Obj.mac_rx_served f.port + 1) (2 ^ 64 - 1) ∧
        (t.net.waiting = s.net.waiting.filter fun x => x.id != f.id) ∧
        t = { s with net := t.net, dict := t.dict } ∧
        SameDict s t [Obj.nts_malformed.key f.port 0, Obj.nts_requests.key f.port 0, Obj.mac_rx_served.key f.port 0]) ∧
    (∀ (s : State) (f : RxFrame) (ip : IpHead) (b : Bytes) (r : NtsReq) (k : Nat × KeySlot) (c2s s2c : Bytes) (h n : Nat) (w : Int),
      (s.net.waiting.find? fun f => f.kind == .ntp && rxNtpClass f == .nts) = some f →
      rxUdp f = some (ip, b) →
      s.thresherUp = true →
      s.ntpCells f ip b.length ≤ s.freeCells f.port (s.effN Obj.ntp_queue (s.ntpUnit f)) →
      f.port < 8 →
      s.effT Obj.nts_enable = true →
      ntsParse b = some r →
      s.effT Obj.pol_enable = false →
      s.cookieSlot r = some k →
      ntsOpen k.2.key b r = .ok c2s s2c h →
      n = s.ntsCount b r h →
      w = s.wireTime f.port (max 64 (s.ntpFront f ip + 84 + r.uid.length + 104 * n + 4)) →
      ∃ t, Sys2Proof.Machine.exec (.ntsRequest) s = .next t ∧
        t.valN Obj.nts_requests f.port = min (s.valN Obj.nts_requests f.port + 1) (2 ^ 64 - 1) ∧
        t.valN Obj.ntp_requests f.port = min (s.valN Obj.ntp_requests f.port + 1) (2 ^ 64 - 1) ∧
        t.valN Obj.mac_rx_served f.port = min (s.valN Obj.mac_rx_served f.port + 1) (2 ^ 64 - 1) ∧
        t.valN Obj.pol_passed f.port = min (s.valN Obj.pol_passed f.port + 1) (2 ^ 64 - 1) ∧
        (t.net.waiting = s.net.waiting.filter fun x => x.id != f.id) ∧
        ((match s.aesPick (ntsBlocks r n) with
        | some (pipe, free, c) =>
          (match s.reserve f.port (s.effN Obj.stamp_lead_nts) w c with
          | some tl =>
            (t.net.flail.jobs.getLast?.map fun j => (j.port, j.work, j.doneAt, j.pipe, j.key)) == some (f.port, FlailWork.nts n (s.ntpUnit f), c, pipe, k.2.key) &&
              t.net.flail.jobs.length == s.net.flail.jobs.length + 1 && vat t.net.flail.aesFree pipe free == free &&
              ((t.port f.port).cal.getLast?.map fun e => (e.t, e.reserved, e.ready)) == some (tl, true, false) &&
              t.valN Obj.cal_reservations f.port == min (s.valN Obj.cal_reservations f.port + 1) (2 ^ 64 - 1)
          | none => t.valN Obj.stamp_crypto_busy f.port == min (s.valN Obj.stamp_crypto_busy f.port + 1) (2 ^ 64 - 1))
        | none => t.valN Obj.stamp_crypto_busy f.port == min (s.valN Obj.stamp_crypto_busy f.port + 1) (2 ^ 64 - 1)) = true) ∧
        t = { s with net := t.net, dict := t.dict, fresh := t.fresh, tithe := t.tithe } ∧
        SameDict s t [Obj.nts_requests.key f.port 0, Obj.ntp_requests.key f.port 0, Obj.mac_rx_served.key f.port 0, Obj.pol_passed.key f.port 0, Obj.cal_reservations.key f.port 0, Obj.stamp_crypto_busy.key f.port 0]) ∧
    (∀ (s : State) (job : Nat) (j : FlailJob) (ip : IpHead) (b : Bytes) (r : NtsReq) (c2s s2c : Bytes) (h n u : Nat),
      s.net.flail.jobs.find? (fun x => x.id == job) = some j →
      j.doneAt ≤ s.tod →
      ((s.net.flail.jobs.find? fun x => x.sha == j.sha && x.pipe == j.pipe).map FlailJob.id) = some j.id →
      j.work = .nts n u →
      rxUdp j.req = some (ip, b) →
      ntsParse b = some r →
      ntsOpen j.key b r = .ok c2s s2c h →
      ((s.port j.port).cal.any fun e => e.frame.id == j.id) = true →
      ∃ t, Sys2Proof.Machine.exec (.flailJobComplete job) s = .next t ∧
        (t.net.flail.jobs = s.net.flail.jobs.filter fun x => x.id != job) ∧
        (((t.port j.port).cal.map fun e => (e.frame.id, e.ready)) = (s.port j.port).cal.map fun e => (e.frame.id, e.ready || e.frame.id == j.id)) ∧
        t.valN Obj.nts_key_accepted j.slot = min (s.valN Obj.nts_key_accepted j.slot + 1) (2 ^ 64 - 1) ∧
        t.valN Obj.nts_cookies j.port = min (s.valN Obj.nts_cookies j.port + n) (2 ^ 64 - 1) ∧
        t.valN Obj.nts_key_minted j.mintSlot = min (s.valN Obj.nts_key_minted j.mintSlot + n) (2 ^ 64 - 1) ∧
        t.fresh = s.fresh + 16 * n + 12 ∧
        t = { s with net := t.net, dict := t.dict, fresh := t.fresh } ∧
        SameDict s t [Obj.nts_key_accepted.key j.slot 0, Obj.nts_cookies.key j.port 0, Obj.nts_key_minted.key j.mintSlot 0]) ∧
    (∀ (s : State) (job : Nat),
      s.net.flail.jobs.find? (fun x => x.id == job) = none →
      ∃ t, Sys2Proof.Machine.exec (.flailJobComplete job) s = .next t ∧
        t = s) ∧
    (∀ (s : State),
      (s.net.waiting.find? fun f => f.kind == .ntp && rxNtpClass f == .nts) = none →
      ∃ t, Sys2Proof.Machine.exec (.ntsRequest) s = .next t ∧
        t = s)

/-- Smear latches start at their window, unwind when the leap is withdrawn and end; the policer sweeps; drains end -/
def Obligations.SmearPolicerDrain : Prop :=
    (∀ (s : State) (i : Fin 4) (k l : Int),
      s.leapEff = some (k, l) →
      (s.smear i.val).held = false →
      s.effN Obj.ntp_timescale i.val = 1 →
      s.tickTod = l - s.effN Obj.ntp_smear_window i.val * secU / 2 →
      ∃ t, Sys2Proof.Machine.exec (.smearStart i) s = .next t ∧
        t.smear i.val = { held := true, start := s.tickTod, w := s.effN Obj.ntp_smear_window i.val * secU, leap := l, k := k, old := s.effI Obj.tod_utc_offset } ∧
        t.valN Obj.ntp_smear_state i.val = 1 ∧
        (∀ m : Nat, m ≠ i.val → t.smear m = s.smear m) ∧
        t = { s with net := t.net, dict := t.dict } ∧
        SameDict s t [Obj.ntp_smear_state.key i.val 0, Obj.ntp_smear_start.key i.val 0]) ∧
    (∀ (s : State) (i : Fin 4),
      s.leapEff = none →
      ∃ t, Sys2Proof.Machine.exec (.smearStart i) s = .next t ∧
        t = s) ∧
    (∀ (s : State) (i : Fin 4),
      (s.smear i.val).held = true →
      (s.smear i.val).unwind = none →
      s.tickTod < (s.smear i.val).leap →
      s.tc.lastLeap = none →
      s.leapEff = none →
      ∃ t, Sys2Proof.Machine.exec (.smearUnwind i) s = .next t ∧
        t.smear i.val = { s.smear i.val with unwind := some (s.tickTod, ratMax 0 ((s.smear i.val).ratio s.tickTod)) } ∧
        t.valN Obj.ntp_smear_state i.val = 2 ∧
        (∀ m : Nat, m ≠ i.val → t.smear m = s.smear m) ∧
        t = { s with net := t.net, dict := t.dict } ∧
        SameDict s t [Obj.ntp_smear_state.key i.val 0, Obj.ntp_smear_start.key i.val 0]) ∧
    (∀ (s : State) (i : Fin 4),
      (s.smear i.val).held = false →
      ∃ t, Sys2Proof.Machine.exec (.smearUnwind i) s = .next t ∧
        t = s) ∧
    (∀ (s : State) (i : Fin 4),
      (s.smear i.val).held = true →
      (s.smear i.val).unwind = none →
      (s.smear i.val).start + (s.smear i.val).w ≤ s.tickTod →
      ∃ t, Sys2Proof.Machine.exec (.smearEnd i) s = .next t ∧
        t.smear i.val = {} ∧
        t.valN Obj.ntp_smear_state i.val = 0 ∧
        (∀ m : Nat, m ≠ i.val → t.smear m = s.smear m) ∧
        t = { s with net := t.net, dict := t.dict } ∧
        SameDict s t [Obj.ntp_smear_state.key i.val 0, Obj.ntp_smear_start.key i.val 0]) ∧
    (∀ (s : State) (i : Fin 4),
      (s.smear i.val).held = false →
      ∃ t, Sys2Proof.Machine.exec (.smearEnd i) s = .next t ∧
        t = s) ∧
    (∀ (s : State),
      s.net.policer.entries.Pairwise (fun a b => a.1 < b.1) →
      ∃ t, Sys2Proof.Machine.exec (.policerSweep) s = .next t ∧
        (∀ h : Nat, t.net.policer.get h = s.polRefill (s.net.policer.get h)) ∧
        t.net = { s.net with policer := t.net.policer } ∧
        t = { s with net := t.net }) ∧
    (∀ (s : State) (l b : Nat),
      s.net.drains = [(9, l, b)] →
      l < 4 →
      b + 2 ≤ s.tc.boundaries →
      s.linkRuns l = false →
      ∃ t, Sys2Proof.Machine.exec (.drainEnd) s = .next t ∧
        t.net.drains = [] ∧
        (t.link l).queue = [] ∧
        t.valN Obj.drain_drops 9 = min (s.valN Obj.drain_drops 9 + (s.link l).queue.length) (2 ^ 64 - 1) ∧
        (∀ m : Nat, m ≠ l → t.link m = s.link m) ∧
        t = { s with net := t.net, crem := t.crem, dict := t.dict } ∧
        SameDict s t [Obj.drain_drops.key 9 0]) ∧
    (∀ (s : State) (l b : Nat),
      s.net.drains = [(9, l, b)] →
      b + 2 ≤ s.tc.boundaries →
      s.linkRuns l = true →
      ∃ t, Sys2Proof.Machine.exec (.drainEnd) s = .next t ∧
        t.net = { s.net with drains := [] } ∧
        t = { s with net := t.net }) ∧
    (∀ (s : State),
      ((s.net.drains.filter fun d => decide (d.2.2 + 2 ≤ s.tc.boundaries)) = []) →
      ∃ t, Sys2Proof.Machine.exec (.drainEnd) s = .next t ∧
        t = s)

/-- A master port releases Sync and Announce at multiples of their intervals and answers Delay_Req and Pdelay_Req; Follow_Ups are queued -/
def Obligations.PtpMaster : Prop :=
    (∀ (s : State) (i : Fin 4) (p : Fin 8) (b : Bytes) (off q : Nat),
      s.masterUp i.val p.val = true →
      s.effN Obj.ptp_mode i.val < 2 →
      s.tod - (lastInstant s.tod 0 (logTod (s.effI Obj.ptp_log_announce i.val))) < tickU →
      vat (s.ptp i.val).annAt p.val 0 ≠ (lastInstant s.tod 0 (logTod (s.effI Obj.ptp_log_announce i.val))) →
      s.effN Obj.ptp_auth_mode i.val = 0 →
      s.ptpFrame i.val p.val false (s.ptpGroup i.val false) 0 (s.announceMsg i.val p.val false (vat (s.ptp i.val).annSeq p.val 0) (s.effI Obj.ptp_log_announce i.val)) = some (b, off) →
      s.effN Obj.ptp_queue i.val = q →
      q < 8 →
      cellsOf ((padTo 60 b).length + 4) ≤ s.freeCells p.val q →
      ∃ t, Sys2Proof.Machine.exec (.announceSend i p) s = .next t ∧
        (t.queue p.val q).fifo = (s.queue p.val q).fifo ++ [{ id := s.net.nextId, bytes := padTo 60 b, queue := q, steps := s.steps, note := .general i.val p.val, born := some (s.tc.boundaries, s.tc.tickCyc) }] ∧
        vat (t.ptp i.val).annSeq p.val 0 = (vat (s.ptp i.val).annSeq p.val 0 + 1) % 65536 ∧
        vat (t.ptp i.val).annAt p.val 0 = (lastInstant s.tod 0 (logTod (s.effI Obj.ptp_log_announce i.val))) ∧
        (∀ m : Nat, m ≠ p.val → t.port m = s.port m) ∧
        t = { s with net := t.net }) ∧
    (∀ (s : State) (i : Fin 4) (p : Fin 8),
      s.masterUp i.val p.val = false ∨ 2 ≤ s.effN Obj.ptp_mode i.val ∨ tickU ≤ s.tod - (lastInstant s.tod 0 (logTod (s.effI Obj.ptp_log_announce i.val))) ∨ vat (s.ptp i.val).annAt p.val 0 = (lastInstant s.tod 0 (logTod (s.effI Obj.ptp_log_announce i.val))) →
      ∃ t, Sys2Proof.Machine.exec (.announceSend i p) s = .next t ∧
        t = s) ∧
    (∀ (s : State) (i : Fin 4) (p : Fin 8) (b : Bytes) (off q : Nat),
      s.masterUp i.val p.val = true →
      s.effN Obj.ptp_mode i.val < 2 →
      s.gptp i.val = false →
      s.tod - (lastInstant s.tod 0 (logTod (s.effI Obj.ptp_log_sync i.val))) < tickU →
      vat (s.ptp i.val).syncAt p.val 0 ≠ (lastInstant s.tod 0 (logTod (s.effI Obj.ptp_log_sync i.val))) →
      s.effN Obj.ptp_auth_mode i.val = 0 →
      s.effN Obj.ptp_step_mode i.val = 0 →
      s.ptpFrame i.val p.val true (s.ptpGroup i.val false) 0 (s.syncMsg i.val p.val false false (vat (s.ptp i.val).syncSeq p.val 0) (s.effI Obj.ptp_log_sync i.val) 0 (zeros 10)) = some (b, off) →
      s.effN Obj.ptp_queue i.val = q →
      q < 8 →
      cellsOf ((padTo 60 b).length + 4) ≤ s.freeCells p.val q →
      ∃ t, Sys2Proof.Machine.exec (.syncRelease i p) s = .next t ∧
        (((t.queue p.val q).fifo.getLast?.map fun f => (f.bytes, f.enc != 0, f.stampOff, f.cfOff, f.note)) = some (padTo 60 b, true, off + 34, off + 8, .oneStep i.val p.val)) ∧
        (t.queue p.val q).fifo.length = (s.queue p.val q).fifo.length + 1 ∧
        vat (t.ptp i.val).syncSeq p.val 0 = (vat (s.ptp i.val).syncSeq p.val 0 + 1) % 65536 ∧
        (∀ m : Nat, m ≠ p.val → t.port m = s.port m) ∧
        t = { s with net := t.net }) ∧
    (∀ (s : State) (i : Fin 4) (p : Fin 8),
      s.masterUp i.val p.val = false ∨ 2 ≤ s.effN Obj.ptp_mode i.val ∨ (s.gptp i.val = true ∧ s.asCapable i.val p.val = false) ∨ tickU ≤ s.tod - (lastInstant s.tod 0 (logTod (s.effI Obj.ptp_log_sync i.val))) ∨ vat (s.ptp i.val).syncAt p.val 0 = (lastInstant s.tod 0 (logTod (s.effI Obj.ptp_log_sync i.val))) →
      ∃ t, Sys2Proof.Machine.exec (.syncRelease i p) s = .next t ∧
        t = s) ∧
    (∀ (s : State) (i : Fin 4) (p : Fin 8) (e : Fup),
      (s.ptp i.val).fups.find? (fun e => e.port == p.val && e.type == mFollowUp) = some e →
      s.linkUp p.val = true →
      e.queue < 8 →
      cellsOf ((padTo 60 e.bytes).length + 4) ≤ (s.dropFup i.val e).freeCells p.val e.queue →
      ∃ t, Sys2Proof.Machine.exec (.followUpSend i p) s = .next t ∧
        (t.queue p.val e.queue).fifo = (s.queue p.val e.queue).fifo ++ [{ id := s.net.nextId, bytes := padTo 60 e.bytes, queue := e.queue, note := .general i.val p.val }] ∧
        t.ptp i.val = { s.ptp i.val with fups := (s.ptp i.val).fups.erase e } ∧
        (∀ m : Nat, m ≠ i.val → t.ptp m = s.ptp m) ∧
        (∀ m : Nat, m ≠ p.val → t.port m = s.port m) ∧
        t = { s with net := t.net }) ∧
    (∀ (s : State) (i : Fin 4) (p : Fin 8) (e : Fup),
      (s.ptp i.val).fups.find? (fun e => e.port == p.val && e.type == mFollowUp) = some e →
      s.linkUp p.val = false ∨ (s.dropFup i.val e).freeCells p.val e.queue < cellsOf ((padTo 60 e.bytes).length + 4) →
      ∃ t, Sys2Proof.Machine.exec (.followUpSend i p) s = .next t ∧
        t.valN Obj.ptp_followup_missed i.val p.val = min (s.valN Obj.ptp_followup_missed i.val p.val + 1) (2 ^ 64 - 1) ∧
        t.ptp i.val = { s.ptp i.val with fups := (s.ptp i.val).fups.erase e } ∧
        (∀ m : Nat, m ≠ i.val → t.ptp m = s.ptp m) ∧
        (∀ m : Nat, m ≠ p.val → t.port m = s.port m) ∧
        t = { s with net := t.net, dict := t.dict } ∧
        SameDict s t [Obj.ptp_followup_missed.key i.val p.val]) ∧
    (∀ (s : State) (i : Fin 4) (p : Fin 8),
      (s.ptp i.val).fups.find? (fun e => e.port == p.val && e.type == mFollowUp) = none →
      ∃ t, Sys2Proof.Machine.exec (.followUpSend i p) s = .next t ∧
        t = s) ∧
    (∀ (s : State) (i : Fin 4) (p : Fin 8) (e : Fup),
      (s.ptp i.val).fups.find? (fun e => e.port == p.val && e.type == mPdelayFup) = some e →
      s.linkUp p.val = true →
      e.queue < 8 →
      cellsOf ((padTo 60 e.bytes).length + 4) ≤ (s.dropFup i.val e).freeCells p.val e.queue →
      ∃ t, Sys2Proof.Machine.exec (.pdelayRespFollowUpSend i p) s = .next t ∧
        (t.queue p.val e.queue).fifo = (s.queue p.val e.queue).fifo ++ [{ id := s.net.nextId, bytes := padTo 60 e.bytes, queue := e.queue, note := .general i.val p.val }] ∧
        t.ptp i.val = { s.ptp i.val with fups := (s.ptp i.val).fups.erase e } ∧
        (∀ m : Nat, m ≠ i.val → t.ptp m = s.ptp m) ∧
        (∀ m : Nat, m ≠ p.val → t.port m = s.port m) ∧
        t = { s with net := t.net }) ∧
    (∀ (s : State) (i : Fin 4) (p : Fin 8) (e : Fup),
      (s.ptp i.val).fups.find? (fun e => e.port == p.val && e.type == mPdelayFup) = some e →
      s.linkUp p.val = false ∨ (s.dropFup i.val e).freeCells p.val e.queue < cellsOf ((padTo 60 e.bytes).length + 4) →
      ∃ t, Sys2Proof.Machine.exec (.pdelayRespFollowUpSend i p) s = .next t ∧
        t.valN Obj.ptp_followup_missed i.val p.val = min (s.valN Obj.ptp_followup_missed i.val p.val + 1) (2 ^ 64 - 1) ∧
        t.ptp i.val = { s.ptp i.val with fups := (s.ptp i.val).fups.erase e } ∧
        (∀ m : Nat, m ≠ i.val → t.ptp m = s.ptp m) ∧
        (∀ m : Nat, m ≠ p.val → t.port m = s.port m) ∧
        t = { s with net := t.net, dict := t.dict } ∧
        SameDict s t [Obj.ptp_followup_missed.key i.val p.val]) ∧
    (∀ (s : State) (i : Fin 4) (p : Fin 8),
      (s.ptp i.val).fups.find? (fun e => e.port == p.val && e.type == mPdelayFup) = none →
      ∃ t, Sys2Proof.Machine.exec (.pdelayRespFollowUpSend i p) s = .next t ∧
        t = s) ∧
    (∀ (s : State) (f : RxFrame) (x : PtpIn) (i : Nat) (b : Bytes) (off q : Nat),
      s.nextPtp mDelayReq = some (f, x) →
      s.ptpFor f x = some i →
      x.wellFormed = true →
      s.effN Obj.ptp_auth_mode i = 0 →
      s.effT Obj.pol_enable = false →
      s.thresherUp = true →
      cellsOf (f.len + 40) ≤ s.freeCells f.port (s.effN Obj.ptp_queue i) →
      f.port < 8 →
      s.onMaster i f = true →
      s.effN Obj.ptp_delay_mech i = 0 →
      s.effN Obj.ptp_mode i = 0 →
      x.uni = false →
      s.ptpFrame i f.port false (s.ptpGroup i false) f.ipcp (s.ptpMsg i f.port mDelayResp 0 0 (ptpCf x.msg - s.ptpFrac i f.stamp) (field x.msg 30 2) (s.effI Obj.ptp_log_delay_req i) (ptpTs f.stamp ++ slice x.msg 20 10)) = some (b, off) →
      s.effN Obj.ptp_queue i = q →
      q < 8 →
      cellsOf ((padTo 60 b).length + 4) ≤ s.freeCells f.port q →
      ∃ t, Sys2Proof.Machine.exec (.delayReqReceive) s = .next t ∧
        (t.queue f.port q).fifo = (s.queue f.port q).fifo ++ [{ id := s.net.nextId, bytes := padTo 60 b, queue := q, steps := s.steps, note := .general i f.port, born := some (s.tc.boundaries, s.tc.tickCyc) }] ∧
        (t.net.waiting = s.net.waiting.filter fun y => y.id != f.id) ∧
        t.valN Obj.ptp_rx_event i f.port = min (s.valN Obj.ptp_rx_event i f.port + 1) (2 ^ 64 - 1) ∧
        t.valN Obj.mac_rx_served f.port = min (s.valN Obj.mac_rx_served f.port + 1) (2 ^ 64 - 1) ∧
        t.valN Obj.pol_passed f.port = min (s.valN Obj.pol_passed f.port + 1) (2 ^ 64 - 1) ∧
        (∀ m : Nat, m ≠ f.port → t.port m = s.port m) ∧
        t = { s with net := t.net, dict := t.dict } ∧
        SameDict s t [Obj.ptp_rx_event.key i f.port, Obj.mac_rx_served.key f.port 0, Obj.pol_passed.key f.port 0]) ∧
    (∀ (s : State) (f : RxFrame) (x : PtpIn) (i : Nat) (b : Bytes) (off q : Nat),
      s.nextPtp mPdelayReq = some (f, x) →
      s.ptpFor f x = some i →
      x.wellFormed = true →
      s.effN Obj.ptp_auth_mode i = 0 →
      s.effT Obj.pol_enable = false →
      s.thresherUp = true →
      cellsOf (f.len + 40) ≤ s.freeCells f.port (s.effN Obj.ptp_queue i) →
      f.port < 8 →
      s.effN Obj.ptp_transport i = 0 →
      s.ptpFrame i f.port true (s.ptpGroup i true) f.ipcp (s.ptpMsg i f.port mPdelayResp fTwoStep 0 (s.ptpFrac i f.stamp) (field x.msg 30 2) 0x7F (ptpTs f.stamp ++ slice x.msg 20 10)) = some (b, off) →
      s.effN Obj.ptp_queue i = q →
      q < 8 →
      cellsOf ((padTo 60 b).length + 4) ≤ s.freeCells f.port q →
      ∃ t, Sys2Proof.Machine.exec (.pdelayReqReceive) s = .next t ∧
        (t.queue f.port q).fifo = (s.queue f.port q).fifo ++ [{ id := s.net.nextId, bytes := padTo 60 b, queue := q, steps := s.steps, note := .pdelayResp i f.port (field x.msg 30 2) (slice x.msg 20 10), born := some (s.tc.boundaries, s.tc.tickCyc) }] ∧
        (t.net.waiting = s.net.waiting.filter fun y => y.id != f.id) ∧
        t.valN Obj.ptp_rx_event i f.port = min (s.valN Obj.ptp_rx_event i f.port + 1) (2 ^ 64 - 1) ∧
        t.valN Obj.mac_rx_served f.port = min (s.valN Obj.mac_rx_served f.port + 1) (2 ^ 64 - 1) ∧
        t.valN Obj.pol_passed f.port = min (s.valN Obj.pol_passed f.port + 1) (2 ^ 64 - 1) ∧
        (∀ m : Nat, m ≠ f.port → t.port m = s.port m) ∧
        t = { s with net := t.net, dict := t.dict } ∧
        SameDict s t [Obj.ptp_rx_event.key i f.port, Obj.mac_rx_served.key f.port 0, Obj.pol_passed.key f.port 0]) ∧
    (∀ (s : State),
      s.nextPtp mDelayReq = none →
      ∃ t, Sys2Proof.Machine.exec (.delayReqReceive) s = .next t ∧
        t = s) ∧
    (∀ (s : State),
      s.nextPtp mPdelayReq = none →
      ∃ t, Sys2Proof.Machine.exec (.pdelayReqReceive) s = .next t ∧
        t = s)

/-- A slave port's Announces, silence and calibration go through SB and commit; it pairs Sync and Follow_Up and measures the delay; gPTP measures links -/
def Obligations.PtpSlave : Prop :=
    (∀ (s : State) (f : RxFrame) (x : PtpIn) (i : Nat),
      s.nextPtp mAnnounce = some (f, x) →
      s.ptpFor f x = some i →
      x.wellFormed = true →
      s.effN Obj.ptp_auth_mode i = 0 →
      s.onMaster i f = true →
      ∃ t, Sys2Proof.Machine.exec (.announceReceive) s = .next t ∧
        t.valN Obj.ptp_rx_general i f.port = min (s.valN Obj.ptp_rx_general i f.port + 1) (2 ^ 64 - 1) ∧
        t.valN Obj.mac_rx_served f.port = min (s.valN Obj.mac_rx_served f.port + 1) (2 ^ 64 - 1) ∧
        t.valN Obj.ptp_rx_foreign i f.port = min (s.valN Obj.ptp_rx_foreign i f.port + 1) (2 ^ 64 - 1) ∧
        (t.net.waiting = s.net.waiting.filter fun y => y.id != f.id) ∧
        t = { s with net := t.net, dict := t.dict } ∧
        SameDict s t [Obj.ptp_rx_general.key i f.port, Obj.mac_rx_served.key f.port 0, Obj.ptp_rx_foreign.key i f.port]) ∧
    (∀ (s : State) (f : RxFrame) (x : PtpIn) (i : Nat),
      s.nextPtp mAnnounce = some (f, x) →
      s.ptpFor f x = some i →
      x.wellFormed = true →
      s.effN Obj.ptp_auth_mode i = 0 →
      s.onMaster i f = false →
      s.earlier f = true →
      s.roleRuns 2 = true →
      s.valN Obj.ptp_slave_state i ≠ 0 →
      slice x.msg 20 8 ≠ padTo 8 (s.effB Obj.ptp_clock_identity i) →
      ∃ t, Sys2Proof.Machine.exec (.announceReceive) s = .next t ∧
        t.valN Obj.ptp_rx_general i f.port = min (s.valN Obj.ptp_rx_general i f.port + 1) (2 ^ 64 - 1) ∧
        t.valN Obj.mac_rx_served f.port = min (s.valN Obj.mac_rx_served f.port + 1) (2 ^ 64 - 1) ∧
        (t.net.waiting = s.net.waiting.filter fun y => y.id != f.id) ∧
        t.net = { s.net with ports := t.net.ports, sharedUsed := t.net.sharedUsed, waiting := t.net.waiting, sbOut := s.net.sbOut ++ [{ due := s.tc.boundaries + 1, inst := i, event := .announce f }] } ∧
        t = { s with net := t.net, dict := t.dict } ∧
        SameDict s t [Obj.ptp_rx_general.key i f.port, Obj.mac_rx_served.key f.port 0]) ∧
    (∀ (s : State) (f : RxFrame) (x : PtpIn),
      s.nextPtp mAnnounce = some (f, x) →
      s.announceWaits f x = true →
      ∃ t, Sys2Proof.Machine.exec (.announceReceive) s = .next t ∧
        t = s) ∧
    (∀ (s : State),
      s.nextPtp mAnnounce = none →
      ∃ t, Sys2Proof.Machine.exec (.announceReceive) s = .next t ∧
        t = s) ∧
    (∀ (s : State) (i : Fin 4) (f : RxFrame),
      s.valN Obj.ptp_slave_state i.val ≠ 0 →
      (s.ptp i.val).foreign = [] →
      (s.ptp i.val).parent = none →
      ∃ t : State, s.commitSbOut { inst := i.val, event := .announce f } = t ∧
        (((t.ptp i.val).foreign.map fun g => (g.port, g.data, g.times, g.qualified)) = [(slice (ptpIn f).msg 20 10, (ptpIn f).msg, [f.cyc], false)]) ∧
        t.ptp i.val = { s.ptp i.val with foreign := (t.ptp i.val).foreign } ∧
        (∀ m : Nat, m ≠ i.val → t.ptp m = s.ptp m) ∧
        t.net = { s.net with ptp := t.net.ptp } ∧
        t = { s with net := t.net }) ∧
    (∀ (s : State) (f : RxFrame) (x : PtpIn) (i : Nat),
      s.nextPtp mSync = some (f, x) →
      s.ptpFor f x = some i →
      x.wellFormed = true →
      s.effN Obj.ptp_auth_mode i = 0 →
      s.fromParent i f.port x = true →
      i < 4 →
      (octet x.msg 6).testBit 1 = true →
      ∃ t, Sys2Proof.Machine.exec (.syncReceive) s = .next t ∧
        t.valN Obj.ptp_rx_event i f.port = min (s.valN Obj.ptp_rx_event i f.port + 1) (2 ^ 64 - 1) ∧
        t.valN Obj.mac_rx_served f.port = min (s.valN Obj.mac_rx_served f.port + 1) (2 ^ 64 - 1) ∧
        (t.net.waiting = s.net.waiting.filter fun y => y.id != f.id) ∧
        (t.ptp i).syncs = (({ seq := field x.msg 30 2, t2 := f.arr, steps := f.steps, cf := ptpCf x.msg, flags := stampFlags f.stamp } : SyncIn) :: (s.ptp i).syncs).take 8 ∧
        (t.ptp i).lastSync = some s.tc.cyc ∧
        (∀ m : Nat, m ≠ i → t.ptp m = s.ptp m) ∧
        t = { s with net := t.net, dict := t.dict } ∧
        SameDict s t [Obj.ptp_rx_event.key i f.port, Obj.mac_rx_served.key f.port 0]) ∧
    (∀ (s : State) (f : RxFrame) (x : PtpIn) (i : Nat) (e : SyncIn) (d : Int),
      s.nextPtp mFollowUp = some (f, x) →
      s.ptpFor f x = some i →
      x.wellFormed = true →
      s.effN Obj.ptp_auth_mode i = 0 →
      s.fromParent i f.port x = true →
      i < 4 →
      (s.ptp i).syncs.find? (fun e => e.seq == field x.msg 30 2) = some e →
      s.pathDelay i = some d →
      e.steps = s.steps →
      s.valN Obj.ptp_slave_state i = 2 →
      s.effN Obj.ptp_calib_count i ≤ (s.ptp i).complete + 1 →
      ∃ t, Sys2Proof.Machine.exec (.followUpReceive) s = .next t ∧
        t.valN Obj.ptp_rx_general i f.port = min (s.valN Obj.ptp_rx_general i f.port + 1) (2 ^ 64 - 1) ∧
        t.valN Obj.mac_rx_served f.port = min (s.valN Obj.mac_rx_served f.port + 1) (2 ^ 64 - 1) ∧
        (t.net.waiting = s.net.waiting.filter fun y => y.id != f.id) ∧
        t.net.sbOut = s.net.sbOut ++ [{ due := s.tc.boundaries + 2, inst := i, event := .calibrated }] ∧
        (t.ptp i).complete = (s.ptp i).complete + 1 ∧
        ((t.ptp i).syncs = (s.ptp i).syncs.filter fun z => z.seq != e.seq) ∧
        (t.ptp i).fwd = some (e.t2 - (ofPtpTs (slice x.msg 34 10) + from16 (e.cf + ptpCf x.msg)), e.steps) ∧
        (∀ m : Nat, m ≠ i → t.ptp m = s.ptp m) ∧
        t = { s with net := t.net, dict := t.dict } ∧
        SameDict s t [Obj.ptp_rx_general.key i f.port, Obj.mac_rx_served.key f.port 0]) ∧
    (∀ (s : State) (i : Fin 4),
      s.valN Obj.ptp_slave_state i.val = 2 →
      s.effN Obj.ptp_calib_count i.val ≤ (s.ptp i.val).complete →
      ∃ t : State, s.commitSbOut { inst := i.val, event := .calibrated } = t ∧
        t.valN Obj.ptp_slave_state i.val = 3 ∧
        t = { s with dict := t.dict } ∧
        SameDict s t [Obj.ptp_slave_state.key i.val 0]) ∧
    (∀ (s : State) (i : Fin 4) (b : Bytes) (off q : Nat),
      s.valN Obj.ptp_slave_state i.val = 2 ∨ s.valN Obj.ptp_slave_state i.val = 3 →
      (s.ptp i.val).reqAt = 0 →
      s.linkUp (s.ptp i.val).slavePort = true →
      s.roleRuns 2 = true →
      s.effN Obj.ptp_delay_mech i.val = 0 →
      s.effN Obj.ptp_mode i.val = 0 →
      s.effN Obj.ptp_auth_mode i.val = 0 →
      (s.ptp i.val).slavePort < 8 →
      s.ptpFrame i.val (s.ptp i.val).slavePort true (s.ptpGroup i.val false) 0 (s.ptpMsg i.val (s.ptp i.val).slavePort mDelayReq 0 0 0 (s.ptp i.val).reqSeq 0x7F (zeros 10)) = some (b, off) →
      s.effN Obj.ptp_queue i.val = q →
      q < 8 →
      cellsOf ((padTo 60 b).length + 4) ≤ s.freeCells (s.ptp i.val).slavePort q →
      ∃ t, Sys2Proof.Machine.exec (.slaveDelayReqSend i) s = .next t ∧
        (t.queue (s.ptp i.val).slavePort q).fifo = (s.queue (s.ptp i.val).slavePort q).fifo ++ [{ id := s.net.nextId, bytes := padTo 60 b, queue := q, steps := s.steps, note := .delayReq i.val (s.ptp i.val).reqSeq, born := some (s.tc.boundaries, s.tc.tickCyc) }] ∧
        (t.ptp i.val).reqSeq = ((s.ptp i.val).reqSeq + 1) % 65536 ∧
        (t.ptp i.val).exch = ({ seq := (s.ptp i.val).reqSeq } : Exchange) :: (s.ptp i.val).exch.take 7 ∧
        (∀ m : Nat, m ≠ i.val → t.ptp m = s.ptp m) ∧
        t = { s with net := t.net }) ∧
    (∀ (s : State),
      s.nextPtp mSync = none →
      ∃ t, Sys2Proof.Machine.exec (.syncReceive) s = .next t ∧
        t = s) ∧
    (∀ (s : State),
      s.nextPtp mFollowUp = none →
      ∃ t, Sys2Proof.Machine.exec (.followUpReceive) s = .next t ∧
        t = s) ∧
    (∀ (s : State),
      s.nextPtp mDelayResp = none →
      ∃ t, Sys2Proof.Machine.exec (.delayRespReceive) s = .next t ∧
        t = s) ∧
    (∀ (s : State) (i : Fin 4),
      (s.valN Obj.ptp_slave_state i.val ≠ 2 ∧ s.valN Obj.ptp_slave_state i.val ≠ 3) ∨ s.linkUp (s.ptp i.val).slavePort = false ∨ s.roleRuns 2 = false →
      ∃ t, Sys2Proof.Machine.exec (.slaveDelayReqSend i) s = .next t ∧
        t = s) ∧
    (∀ (s : State) (f : RxFrame) (x : PtpIn) (i : Nat) (e : Exchange) (t3 fw : Int) (st : Nat),
      s.nextPtp mDelayResp = some (f, x) →
      s.ptpFor f x = some i →
      x.wellFormed = true →
      s.effN Obj.ptp_auth_mode i = 0 →
      s.fromParent i f.port x = true →
      i < 4 →
      slice x.msg 44 10 = s.ptpIdent i f.port →
      s.effN Obj.ptp_delay_mech i = 0 →
      (s.ptp i).exch.find? (fun e => e.seq == field x.msg 30 2 && !e.done) = some e →
      e.tx = some t3 →
      (s.ptp i).fwd = some (fw, st) →
      st = e.steps →
      ∃ t, Sys2Proof.Machine.exec (.delayRespReceive) s = .next t ∧
        (t.net.waiting = s.net.waiting.filter fun y => y.id != f.id) ∧
        (t.ptp i).dLast = some (roundDiv (fw + (ofPtpTs (slice x.msg 34 10) - from16 (ptpCf x.msg) - t3)) 2) ∧
        ((t.ptp i).exch = (s.ptp i).exch.map fun z => if z.seq == field x.msg 30 2 then { z with done := true } else z) ∧
        (∀ m : Nat, m ≠ i → t.ptp m = s.ptp m) ∧
        t.valN Obj.ptp_rx_general i f.port = min (s.valN Obj.ptp_rx_general i f.port + 1) (2 ^ 64 - 1) ∧
        t.valN Obj.mac_rx_served f.port = min (s.valN Obj.mac_rx_served f.port + 1) (2 ^ 64 - 1) ∧
        t = { s with net := t.net, scr := t.scr, slots := t.slots, dict := t.dict, fresh := t.fresh, elec := t.elec } ∧
        SameDict s t [Obj.ptp_rx_general.key i f.port, Obj.mac_rx_served.key f.port 0, Obj.scr_path_steps.key i 0, Obj.scr_path_count.key i 0, Obj.scr_path_state.key i 0, Obj.scr_rtt_ref.key i 0, Obj.ptp_mean_path_delay.key i 0, Obj.ref_history.key (9 + i) 0, Obj.ref_irq_pending.key 0 0]) ∧
    (∀ (s : State) (i : Fin 4) (id : Bytes) (g : PtpForeign),
      (s.ptp i.val).parent = some id →
      (s.ptp i.val).foreign.find? (fun f => f.port == id) = some g →
      s.roleRuns 2 = true →
      s.valN Obj.ptp_slave_state i.val ≠ 0 →
      s.passed (s.ptp i.val).parentAt (s.effN Obj.ptp_announce_timeout i.val * logNs (s.announceLog i.val g)) = true →
      ∃ t, Sys2Proof.Machine.exec (.announceTimeout i) s = .next t ∧
        t.net = { s.net with sbOut := s.net.sbOut ++ [{ due := s.tc.boundaries + 1, inst := i.val, event := .silent id (s.ptp i.val).parentAt }] } ∧
        t = { s with net := t.net }) ∧
    (∀ (s : State) (i : Fin 4) (id : Bytes),
      (s.ptp i.val).parent = some id →
      s.valN Obj.ptp_slave_state i.val ≠ 0 →
      ∃ t : State, s.commitSbOut { inst := i.val, event := .silent id (s.ptp i.val).parentAt } = t ∧
        t.valN Obj.ptp_slave_state i.val = 1 ∧
        t.valN Obj.ptp_gm_class i.val = 255 ∧
        (t.ptp i.val).parent = none ∧
        ((t.ptp i.val).foreign = (s.ptp i.val).foreign.filter fun g => g.port != id) ∧
        (t.slot (9 + i.val)).srcTerm = unbounded ∧
        (∀ m : Nat, m ≠ i.val → t.ptp m = s.ptp m) ∧
        t = { s with net := t.net, slots := t.slots, dict := t.dict } ∧
        SameDict s t [Obj.ptp_slave_state.key i.val 0, Obj.ptp_parent.key i.val 0, Obj.ptp_gm_class.key i.val 0]) ∧
    (∀ (s : State) (i : Fin 4),
      (s.ptp i.val).parent = none ∨ s.roleRuns 2 = false ∨ s.valN Obj.ptp_slave_state i.val = 0 →
      ∃ t, Sys2Proof.Machine.exec (.announceTimeout i) s = .next t ∧
        t = s) ∧
    (∀ (s : State) (i : Fin 4) (p : Fin 8) (b : Bytes) (off q : Nat),
      s.roleRuns 2 = true →
      s.gptp i.val = true →
      s.masterUp i.val p.val = true →
      vat (s.ptp i.val).pReqAt p.val none = none →
      s.effN Obj.ptp_auth_mode i.val = 0 →
      s.ptpFrame i.val p.val true (s.ptpGroup i.val true) 0 (s.pdelayReqMsg i.val p.val (vat (s.ptp i.val).pSeq p.val 0)) = some (b, off) →
      s.effN Obj.ptp_queue i.val = q →
      q < 8 →
      cellsOf ((padTo 60 b).length + 4) ≤ s.freeCells p.val q →
      ∃ t, Sys2Proof.Machine.exec (.pdelayReqSend i p) s = .next t ∧
        (t.queue p.val q).fifo = (s.queue p.val q).fifo ++ [{ id := s.net.nextId, bytes := padTo 60 b, queue := q, steps := s.steps, note := .pdelayReq i.val p.val (vat (s.ptp i.val).pSeq p.val 0) false, born := some (s.tc.boundaries, s.tc.tickCyc) }] ∧
        vat (t.ptp i.val).pSeq p.val 0 = (vat (s.ptp i.val).pSeq p.val 0 + 1) % 65536 ∧
        (vat (t.ptp i.val).pExch p.val []).head? = some { seq := vat (s.ptp i.val).pSeq p.val 0 } ∧
        (∀ m : Nat, m ≠ i.val → t.ptp m = s.ptp m) ∧
        t = { s with net := t.net, dict := t.dict } ∧
        SameDict s t [Obj.ptp_as_capable.key i.val 0]) ∧
    (∀ (s : State) (i : Fin 4) (p : Fin 8),
      s.gptp i.val = false ∨ s.masterUp i.val p.val = false ∨ s.roleRuns 2 = false →
      ∃ t, Sys2Proof.Machine.exec (.pdelayReqSend i p) s = .next t ∧
        t = s) ∧
    (∀ (s : State) (f : RxFrame) (x : PtpIn) (i st c : Nat) (e : Exchange) (t1 t2 t4 : Int),
      ((s.net.waiting.filter fun f => f.kind == .ptp).map fun f => (f, ptpIn f)).find? (fun e => e.2.type == mPdelayResp || e.2.type == mPdelayFup) = some (f, x) →
      s.ptpFor f x = some i →
      x.wellFormed = true →
      s.effN Obj.ptp_auth_mode i = 0 →
      i < 4 →
      f.port < 8 →
      x.type = mPdelayFup →
      slice x.msg 44 10 = s.ptpIdent i f.port →
      s.roleRuns 2 = true →
      s.onMaster i f = true →
      (vat (s.ptp i).pExch f.port []).find? (fun e => e.seq == field x.msg 30 2 && !e.done) = some e →
      e.tx = some t1 →
      e.resp = some (t2, t4, st, c) →
      e.steps = st →
      ∃ t, Sys2Proof.Machine.exec (.pdelayRespReceive) s = .next t ∧
        (t.net.waiting = s.net.waiting.filter fun y => y.id != f.id) ∧
        vat (t.ptp i).pDelay f.port none = some (((t4 - t1) - (ofPtpTs (slice x.msg 34 10) + from16 (ptpCf x.msg) - t2)) / 2) ∧
        (∀ m : Nat, m ≠ i → t.ptp m = s.ptp m) ∧
        t.valN Obj.ptp_rx_general i f.port = min (s.valN Obj.ptp_rx_general i f.port + 1) (2 ^ 64 - 1) ∧
        t.valN Obj.mac_rx_served f.port = min (s.valN Obj.mac_rx_served f.port + 1) (2 ^ 64 - 1) ∧
        t = { s with net := t.net, dict := t.dict } ∧
        SameDict s t [Obj.ptp_rx_general.key i f.port, Obj.mac_rx_served.key f.port 0, Obj.ptp_as_capable.key i 0])

/-- Unicast negotiation stages grants, denials and cancels, expires grants, releases messages and renews what the client holds -/
def Obligations.PtpUnicast : Prop :=
    (∀ (s : State) (f : RxFrame) (x : PtpIn) (i : Nat) (tl : Nat × Nat × Nat),
      s.nextSignal [4] = some (f, x) →
      s.ptpFor f x = some i →
      x.wellFormed = true →
      s.effN Obj.ptp_auth_mode i = 0 →
      s.effT Obj.pol_enable = false →
      x.tlvs = some [tl] →
      s.earlier f = true →
      s.roleRuns 2 = true →
      (s.signalRoom f x 12 1).2 = true →
      tl.1 = 4 →
      6 ≤ tl.2.2 →
      s.effN Obj.ptp_mode i ≠ 2 →
      ∃ t, Sys2Proof.Machine.exec (.requestUnicastTransmission) s = .next t ∧
        (t.net.waiting = s.net.waiting.filter fun y => y.id != f.id) ∧
        t.valN Obj.ptp_sess_denials  = min (s.valN Obj.ptp_sess_denials  + 1) (2 ^ 64 - 1) ∧
        t.net.staged = s.net.staged ++ [{ inst := i, port := f.port, msg := octet (slice x.msg tl.2.1 tl.2.2) 0 / 16, log := beInt (slice (slice x.msg tl.2.1 tl.2.2) 1 1), req := f, queue := s.effN Obj.ptp_queue i, cells := (s.signalRoom f x 12 1).1 }] ∧
        t.net.sessions = s.net.sessions ∧
        t.valN Obj.ptp_rx_general i f.port = min (s.valN Obj.ptp_rx_general i f.port + 1) (2 ^ 64 - 1) ∧
        t.valN Obj.mac_rx_served f.port = min (s.valN Obj.mac_rx_served f.port + 1) (2 ^ 64 - 1) ∧
        t.valN Obj.pol_passed f.port = min (s.valN Obj.pol_passed f.port + 1) (2 ^ 64 - 1) ∧
        t = { s with net := t.net, dict := t.dict } ∧
        SameDict s t [Obj.ptp_rx_general.key i f.port, Obj.mac_rx_served.key f.port 0, Obj.pol_passed.key f.port 0, Obj.ptp_sess_denials.key 0 0]) ∧
    (∀ (s : State) (f : RxFrame) (x : PtpIn) (i : Nat) (tl : Nat × Nat × Nat),
      s.nextSignal [4] = some (f, x) →
      s.ptpFor f x = some i →
      x.wellFormed = true →
      s.effN Obj.ptp_auth_mode i = 0 →
      s.effT Obj.pol_enable = false →
      x.tlvs = some [tl] →
      s.earlier f = true →
      s.roleRuns 2 = true →
      (s.signalRoom f x 12 1).2 = true →
      tl.1 = 4 →
      6 ≤ tl.2.2 →
      s.effN Obj.ptp_mode i = 2 →
      s.isMaster i f.port = true →
      octet (slice x.msg tl.2.1 tl.2.2) 0 / 16 = mSync →
      s.effI Obj.ptp_uc_log_min i ≤ beInt (slice (slice x.msg tl.2.1 tl.2.2) 1 1) →
      beInt (slice (slice x.msg tl.2.1 tl.2.2) 1 1) ≤ 0 →
      s.net.sessions = [] →
      0 < s.effN Obj.ptp_uc_max_sessions i →
      s.recordOk 0 = true →
      s.multicastLoad + rateOfLog (beInt (slice (slice x.msg tl.2.1 tl.2.2) 1 1)) ≤ (s.effN Obj.ptp_sess_budget : Rat) →
      (s.net.staged.all fun u => u.sess == none) = true →
      ∃ t, Sys2Proof.Machine.exec (.requestUnicastTransmission) s = .next t ∧
        (t.net.waiting = s.net.waiting.filter fun y => y.id != f.id) ∧
        ((t.net.sessions.map fun y => (y.num, y.inst, y.port, y.ident, y.phased)) = [(0, i, f.port, slice x.msg 20 10, true)]) ∧
        t.net.staged = s.net.staged ++ [{ sess := some 0, inst := i, port := f.port, msg := mSync, log := beInt (slice (slice x.msg tl.2.1 tl.2.2) 1 1), dur := min (field (slice x.msg tl.2.1 tl.2.2) 2 4) (s.effN Obj.ptp_uc_duration_max i), req := f, queue := s.effN Obj.ptp_queue i, cells := (s.signalRoom f x 12 1).1 }] ∧
        t.valN Obj.ptp_rx_general i f.port = min (s.valN Obj.ptp_rx_general i f.port + 1) (2 ^ 64 - 1) ∧
        t.valN Obj.mac_rx_served f.port = min (s.valN Obj.mac_rx_served f.port + 1) (2 ^ 64 - 1) ∧
        t.valN Obj.pol_passed f.port = min (s.valN Obj.pol_passed f.port + 1) (2 ^ 64 - 1) ∧
        t = { s with net := t.net, dict := t.dict } ∧
        SameDict s t [Obj.ptp_rx_general.key i f.port, Obj.mac_rx_served.key f.port 0, Obj.pol_passed.key f.port 0]) ∧
    (∀ (s : State) (f : RxFrame) (x : PtpIn) (i : Nat),
      s.nextSignal [4] = some (f, x) →
      s.earlier f = false ∨ s.roleRuns 2 = false ∨ (s.signalRoom f x 12 x.requests.length).2 = false →
      ∃ t, Sys2Proof.Machine.exec (.requestUnicastTransmission) s = .next t ∧
        t = s) ∧
    (∀ (s : State),
      s.nextSignal [4] = none →
      ∃ t, Sys2Proof.Machine.exec (.requestUnicastTransmission) s = .next t ∧
        t = s) ∧
    (∀ (s : State) (f : RxFrame) (x : PtpIn) (i : Nat) (tl : Nat × Nat × Nat) (y : Session),
      s.nextSignal [6, 7] = some (f, x) →
      s.ptpFor f x = some i →
      x.wellFormed = true →
      s.effN Obj.ptp_auth_mode i = 0 →
      s.effT Obj.pol_enable = false →
      x.tlvs = some [tl] →
      s.roleRuns 2 = true →
      (s.signalRoom f x 6 1).2 = true →
      tl.1 = 6 →
      2 ≤ tl.2.2 →
      s.isSlave i f.port = false →
      s.sessionOf i f.port x.src (slice x.msg 20 10) = some y →
      ∃ t, Sys2Proof.Machine.exec (.cancelUnicastTransmission) s = .next t ∧
        (t.net.waiting = s.net.waiting.filter fun y => y.id != f.id) ∧
        t.net.staged = s.net.staged ++ [{ sess := some y.num, inst := i, port := f.port, msg := octet x.msg tl.2.1 / 16, cancel := true, req := f }] ∧
        t.net.sessions = s.net.sessions ∧
        t.valN Obj.ptp_rx_general i f.port = min (s.valN Obj.ptp_rx_general i f.port + 1) (2 ^ 64 - 1) ∧
        t.valN Obj.mac_rx_served f.port = min (s.valN Obj.mac_rx_served f.port + 1) (2 ^ 64 - 1) ∧
        t.valN Obj.pol_passed f.port = min (s.valN Obj.pol_passed f.port + 1) (2 ^ 64 - 1) ∧
        t = { s with net := t.net, dict := t.dict } ∧
        SameDict s t [Obj.ptp_rx_general.key i f.port, Obj.mac_rx_served.key f.port 0, Obj.pol_passed.key f.port 0]) ∧
    (∀ (s : State) (f : RxFrame) (x : PtpIn) (i : Nat),
      s.nextSignal [6, 7] = some (f, x) →
      s.roleRuns 2 = false ∨ (s.signalRoom f x 6 x.cancels.length).2 = false →
      ∃ t, Sys2Proof.Machine.exec (.cancelUnicastTransmission) s = .next t ∧
        t = s) ∧
    (∀ (s : State),
      s.nextSignal [6, 7] = none →
      ∃ t, Sys2Proof.Machine.exec (.cancelUnicastTransmission) s = .next t ∧
        t = s) ∧
    (∀ (s : State) (x : Session),
      s.roleRuns 2 = true →
      s.net.sessions = [x] →
      s.net.staged = [] →
      x.ann.tend ≤ s.tickNow →
      x.sync.tend ≤ s.tickNow →
      x.resp.tend ≤ s.tickNow →
      ∃ t, Sys2Proof.Machine.exec (.grantExpire) s = .next t ∧
        t.net = { s.net with sessions := [] } ∧
        t.valN Obj.ptp_sess_expired  = min (s.valN Obj.ptp_sess_expired  + 1) (2 ^ 64 - 1) ∧
        t = { s with net := t.net, dict := t.dict } ∧
        SameDict s t [Obj.ptp_sess_expired.key 0 0]) ∧
    (∀ (s : State),
      s.roleRuns 2 = false →
      ∃ t, Sys2Proof.Machine.exec (.grantExpire) s = .next t ∧
        t = s) ∧
    (∀ (s : State) (x : Session),
      s.net.sessions = [x] →
      s.tickNow < x.ann.tend →
      s.tickNow < x.sync.tend →
      s.tickNow < x.resp.tend →
      x.ann.log ≠ 127 →
      ∃ t, Sys2Proof.Machine.exec (.grantExpire) s = .next t ∧
        t = s) ∧
    (∀ (s : State) (n : Nat) (x : Session) (b : Bytes) (off q : Nat),
      s.session n = some x →
      x.num = n →
      x.ann.log ≠ 127 →
      s.masterUp x.inst x.port = true →
      s.tickTod - (lastInstant s.tickTod (x.phase * (tickU / 2)) (logTod x.ann.log)) < tickU →
      x.relAnn ≠ (lastInstant s.tickTod (x.phase * (tickU / 2)) (logTod x.ann.log)) →
      s.effN Obj.ptp_auth_mode x.inst = 0 →
      x.port < 9 →
      s.ptpFrame x.inst x.port false (x.mac, x.addr) 0 (s.announceMsg x.inst x.port true x.seqAnn x.ann.log) = some (b, off) →
      s.effN Obj.ptp_queue x.inst = q →
      q < 8 →
      cellsOf ((padTo 60 b).length + 4) ≤ s.freeCells x.port q →
      ∃ t, Sys2Proof.Machine.exec (.unicastRelease n true) s = .next t ∧
        (t.queue x.port q).fifo = (s.queue x.port q).fifo ++ [{ id := s.net.nextId, bytes := padTo 60 b, queue := q, steps := s.steps, note := .general x.inst x.port, born := some (s.tc.boundaries, s.tc.tickCyc) }] ∧
        (∀ m : Nat, m ≠ x.port → t.port m = s.port m) ∧
        (t.net.sessions = s.net.sessions.map fun y => if y.num == n then { y with relAnn := (lastInstant s.tickTod (x.phase * (tickU / 2)) (logTod x.ann.log)), seqAnn := (y.seqAnn + 1) % 65536 } else y) ∧
        t = { s with net := t.net }) ∧
    (∀ (s : State) (n : Nat) (a : Bool),
      s.session n = none →
      ∃ t, Sys2Proof.Machine.exec (.unicastRelease n a) s = .next t ∧
        t = s) ∧
    (∀ (s : State) (path v : Nat),
      v < 131072 →
      s.noStaging = false →
      s.net.selSess.Pairwise (fun a b => a.1 < b.1) →
      ∃ t, Sys2Proof.Machine.exec (.ptpSessSelect path v) s = .next t ∧
        t.sessRecord path = (match s.session v with | some x => x.octets | none => zeros 64) ∧
        t.dict.eff = s.dict.eff ∧
        t.dict.val = s.dict.val ∧
        t.net = { s.net with selSess := t.net.selSess } ∧
        t = { s with net := t.net, dict := t.dict }) ∧
    (∀ (s : State) (path v : Nat),
      131072 ≤ v ∨ s.noStaging = true →
      ∃ t, Sys2Proof.Machine.exec (.ptpSessSelect path v) s = .next t ∧
        t = s) ∧
    (∀ (s : State) (f : RxFrame) (x : PtpIn) (i : Nat) (tl : Nat × Nat × Nat) (m : Nat),
      s.nextSignal [5] = some (f, x) →
      s.ptpFor f x = some i →
      x.wellFormed = true →
      s.effN Obj.ptp_auth_mode i = 0 →
      s.effT Obj.pol_enable = false →
      x.tlvs = some [tl] →
      s.roleRuns 2 = true →
      i < 4 →
      tl.1 = 5 →
      8 ≤ tl.2.2 →
      s.isSlave i f.port = true →
      (List.range 4).find? (fun m => (s.ucMaster i m).map Prod.snd == some x.src) = some m →
      field (slice x.msg tl.2.1 tl.2.2) 2 4 ≠ 0 →
      ∃ t, Sys2Proof.Machine.exec (.grantUnicastTransmission) s = .next t ∧
        (t.net.waiting = s.net.waiting.filter fun y => y.id != f.id) ∧
        ((t.ptp i).grants = ((s.ptp i).grants.filter fun h => !(h.master == m && h.msg == octet (slice x.msg tl.2.1 tl.2.2) 0 / 16)) ++ [{ master := m, msg := octet (slice x.msg tl.2.1 tl.2.2) 0 / 16, log := beInt (slice (slice x.msg tl.2.1 tl.2.2) 1 1), dur := field (slice x.msg tl.2.1 tl.2.2) 2 4, since := s.tc.cyc }]) ∧
        (∀ m : Nat, m ≠ i → t.ptp m = s.ptp m) ∧
        t.valN Obj.ptp_rx_general i f.port = min (s.valN Obj.ptp_rx_general i f.port + 1) (2 ^ 64 - 1) ∧
        t.valN Obj.mac_rx_served f.port = min (s.valN Obj.mac_rx_served f.port + 1) (2 ^ 64 - 1) ∧
        t.valN Obj.pol_passed f.port = min (s.valN Obj.pol_passed f.port + 1) (2 ^ 64 - 1) ∧
        t = { s with net := t.net, dict := t.dict } ∧
        SameDict s t [Obj.ptp_rx_general.key i f.port, Obj.mac_rx_served.key f.port 0, Obj.pol_passed.key f.port 0]) ∧
    (∀ (s : State),
      s.nextSignal [5] = none ∨ s.roleRuns 2 = false →
      ∃ t, Sys2Proof.Machine.exec (.grantUnicastTransmission) s = .next t ∧
        t = s) ∧
    (∀ (s : State) (i : Fin 4) (g : Grant) (fam : Nat) (a : Bytes) (h : PtpForeign) (b : Bytes) (off q : Nat),
      s.roleRuns 2 = true →
      (s.ptp i.val).grants = [g] →
      g.asked = false →
      s.passed g.since (g.dur * 1000000000) = false →
      s.passed g.since (g.dur * 1000000000 / 2) = true →
      s.ucMaster i.val g.master = some (fam, a) →
      (s.ptp i.val).foreign.find? (fun f => f.addr == a) = some h →
      s.effN Obj.ptp_auth_mode i.val = 0 →
      (s.ptp i.val).slavePort < 9 →
      s.ptpFrame i.val (s.ptp i.val).slavePort false (h.mac, a) 0 (s.signalMsg i.val (s.ptp i.val).slavePort anyTarget (requestTlv g.msg (s.ucLog i.val g.msg) (s.effN Obj.ptp_uc_duration_max i.val))) = some (b, off) →
      s.effN Obj.ptp_queue i.val = q →
      q < 8 →
      cellsOf ((padTo 60 b).length + 4) ≤ s.freeCells (s.ptp i.val).slavePort q →
      ∃ t, Sys2Proof.Machine.exec (.unicastRenew i) s = .next t ∧
        (t.queue (s.ptp i.val).slavePort q).fifo = (s.queue (s.ptp i.val).slavePort q).fifo ++ [{ id := s.net.nextId, bytes := padTo 60 b, queue := q, steps := s.steps, note := .general i.val (s.ptp i.val).slavePort, born := some (s.tc.boundaries, s.tc.tickCyc) }] ∧
        t.ptp i.val = { s.ptp i.val with grants := [{ g with asked := true }], sigSeq := ((s.ptp i.val).sigSeq + 1) % 65536 } ∧
        (∀ m : Nat, m ≠ i.val → t.ptp m = s.ptp m) ∧
        (∀ m : Nat, m ≠ (s.ptp i.val).slavePort → t.port m = s.port m) ∧
        t.net = { s.net with ptp := t.net.ptp, ports := t.net.ports, nextId := s.net.nextId + 1 } ∧
        t = { s with net := t.net }) ∧
    (∀ (s : State) (i : Fin 4) (g : Grant),
      s.roleRuns 2 = true →
      (s.ptp i.val).grants = [g] →
      s.passed g.since (g.dur * 1000000000) = true →
      ∃ t, Sys2Proof.Machine.exec (.unicastRenew i) s = .next t ∧
        t.ptp i.val = { s.ptp i.val with grants := [] } ∧
        (∀ m : Nat, m ≠ i.val → t.ptp m = s.ptp m) ∧
        t.net = { s.net with ptp := t.net.ptp } ∧
        t = { s with net := t.net }) ∧
    (∀ (s : State) (i : Fin 4),
      s.roleRuns 2 = false →
      ∃ t, Sys2Proof.Machine.exec (.unicastRenew i) s = .next t ∧
        t = s) ∧
    (∀ (s : State) (i : Fin 4),
      (s.ptp i.val).grants = [] →
      ∃ t, Sys2Proof.Machine.exec (.unicastRenew i) s = .next t ∧
        t = s)

/-- Cremin links come up, go down and carry one TIME and TIME_COPY a tick; received TIME messages are judged and give the transfer -/
def Obligations.CreminLinks : Prop :=
    (∀ (s : State) (l : Fin 4) (h : Nat),
      s.linkRuns l.val = true →
      (s.link l.val).up = false →
      10 ≤ h →
      ∃ t, Sys2Proof.Machine.exec (.creminLinkUp l h) s = .next t ∧
        t.link l.val = { last := (s.link l.val).last, counts := (s.link l.val).counts, y := (s.link l.val).y, up := true, sentTick := true, lockSince := some s.tc.cyc } ∧
        t.valN Obj.crem_link_state l.val = 1 ∧
        t.valN Obj.crem_cal_state l.val = 1 ∧
        t.lane (9 + l.val) = { s.lane (9 + l.val) with locked := true, lockedAt := s.tc.cyc, calStart := s.tc.cyc, uses := (t.lane (9 + l.val)).uses } ∧
        (∀ m : Nat, m ≠ l.val → t.link m = s.link m) ∧
        t.crem = { s.crem with links := t.crem.links } ∧
        (∀ m : Nat, m ≠ 9 + l.val → t.lane m = s.lane m) ∧
        t = { s with crem := t.crem, lanes := t.lanes, dict := t.dict } ∧
        SameDict s t [Obj.crem_link_state.key l.val 0, Obj.crem_cal_state.key l.val 0]) ∧
    (∀ (s : State) (l : Fin 4) (h : Nat),
      s.linkRuns l.val = false ∨ (s.link l.val).up = true ∨ h < 10 →
      ∃ t, Sys2Proof.Machine.exec (.creminLinkUp l h) s = .next t ∧
        t = s) ∧
    (∀ (s : State) (l : Fin 4) (b : Bool),
      (s.link l.val).up = true →
      b = true ∨ 8 ≤ (s.link l.val).quiet →
      (s.isUp l.val && s.linkOk l.val) = false →
      ∃ t, Sys2Proof.Machine.exec (.creminLinkDown l b) s = .next t ∧
        t.valN Obj.crem_link_state l.val = 0 ∧
        t.valN Obj.crem_cal_state l.val = 0 ∧
        t.valN Obj.crem_peer_node l.val = 0xFF ∧
        t.valN Obj.crem_peer_depth l.val = 0xFF ∧
        t.valN Obj.crem_roster l.val = 0 ∧
        t.link l.val = { last := (s.link l.val).last, counts := (s.link l.val).counts, y := (s.link l.val).y, up := false, sentTick := true } ∧
        (∀ m : Nat, m ≠ l.val → t.link m = s.link m) ∧
        t.crem = { s.crem with links := t.crem.links } ∧
        t.lane (9 + l.val) = { s.lane (9 + l.val) with locked := false, lockedAt := (s.lane (9 + l.val)).lockedAt, calStart := (s.lane (9 + l.val)).calStart, uses := (t.lane (9 + l.val)).uses } ∧
        (∀ m : Nat, m ≠ 9 + l.val → t.lane m = s.lane m) ∧
        t = { s with crem := t.crem, lanes := t.lanes, dict := t.dict } ∧
        SameDict s t [Obj.crem_link_state.key l.val 0, Obj.crem_cal_state.key l.val 0, Obj.crem_peer_node.key l.val 0, Obj.crem_peer_depth.key l.val 0, Obj.crem_roster.key l.val 0]) ∧
    (∀ (s : State) (l : Fin 4) (b : Bool),
      (s.link l.val).up = true →
      b = true ∨ 8 ≤ (s.link l.val).quiet →
      s.isUp l.val = true →
      s.linkOk l.val = true →
      ∃ t, Sys2Proof.Machine.exec (.creminLinkDown l b) s = .next t ∧
        t.valN Obj.crem_link_state l.val = 0 ∧
        t.valN Obj.crem_cal_state l.val = 0 ∧
        t.valN Obj.crem_peer_node l.val = 0xFF ∧
        t.valN Obj.crem_peer_depth l.val = 0xFF ∧
        t.valN Obj.crem_roster l.val = 0 ∧
        t.link l.val = { last := (s.link l.val).last, counts := (s.link l.val).counts, y := (s.link l.val).y, up := false, sentTick := true } ∧
        (∀ m : Nat, m ≠ l.val → t.link m = s.link m) ∧
        t.crem = { s.crem with links := t.crem.links } ∧
        t.lane (9 + l.val) = { s.lane (9 + l.val) with locked := false, lockedAt := (s.lane (9 + l.val)).lockedAt, calStart := (s.lane (9 + l.val)).calStart, uses := (t.lane (9 + l.val)).uses } ∧
        (∀ m : Nat, m ≠ 9 + l.val → t.lane m = s.lane m) ∧
        RaisedAs s t (272 + l.val) {} ∧
        (CanRaise s (272 + l.val) → t.win.now = s.win.now ++ [(272 + l.val, ({} : FaultInfo))] ∧ (vat t.win.srcs (272 + l.val) {}).active = true) ∧
        t = { s with crem := t.crem, lanes := t.lanes, win := t.win, dict := t.dict } ∧
        SameDict s t ([Obj.crem_link_state.key l.val 0, Obj.crem_cal_state.key l.val 0, Obj.crem_peer_node.key l.val 0, Obj.crem_peer_depth.key l.val 0, Obj.crem_roster.key l.val 0] ++ raiseKeys (272 + l.val))) ∧
    (∀ (s : State) (l : Fin 4) (b : Bool),
      (s.link l.val).up = false ∨ (b = false ∧ (s.link l.val).quiet < 8) →
      ∃ t, Sys2Proof.Machine.exec (.creminLinkDown l b) s = .next t ∧
        t = s) ∧
    (∀ (s : State) (l : Fin 4),
      (s.link l.val).up = true →
      (s.link l.val).sentTick = false →
      ∃ t, Sys2Proof.Machine.exec (.time l) s = .next t ∧
        t.link l.val = { s.link l.val with sentTick := true, txLog := keepNew 8 ((s.tickNow % 65536, ofStamp128 (stamp128 (s.timePoint l.val) 0), s.steps) :: (s.link l.val).txLog), blocks := (s.link l.val).blocks + 26, sent := (s.link l.val).sent ++ [(creminMsg 1 (s.tickNow % 65536) (zeros 4) (s.timeData l.val (s.timePoint l.val))), (creminMsg 0x81 (s.tickNow % 65536) (zeros 4) (s.timeData l.val (s.timePoint l.val)))] } ∧
        (s.timeData l.val (s.timePoint l.val)).length = 92 ∧
        (∀ m : Nat, m ≠ l.val → t.link m = s.link m) ∧
        t.crem = { s.crem with links := t.crem.links } ∧
        t.tithe = (s.tally (53 + l.val) 1 1).tithe ∧
        t = { s with crem := t.crem, tithe := t.tithe }) ∧
    (∀ (s : State) (l : Fin 4),
      (s.link l.val).up = false ∨ (s.link l.val).sentTick = true →
      ∃ t, Sys2Proof.Machine.exec (.time l) s = .next t ∧
        t = s) ∧
    (∀ (s : State) (l : Fin 4) (m : CremIn),
      (s.link l.val).up = true →
      m.type = 1 →
      m.ok = true →
      m.data.length = 96 →
      s.role l.val = 1 →
      s.acceptance l.val m.data = 2 →
      (s.link l.val).lastSeq ≠ some m.seq →
      ∃ t, Sys2Proof.Machine.exec (.timeReceive l m) s = .next t ∧
        (t.link l.val = { (s.link l.val) with rxStamp := (stamp128 (s.rxTime (9 + l.val) 3 m.word).1 (stampFlagsOf (s.rxTime (9 + l.val) 3 m.word).2.1 (s.rxTime (9 + l.val) 3 m.word).2.2 false)), rxLog := keepNew 8 ((m.seq, ofStamp128 (stamp128 (s.rxTime (9 + l.val) 3 m.word).1 (stampFlagsOf (s.rxTime (9 + l.val) 3 m.word).2.1 (s.rxTime (9 + l.val) 3 m.word).2.2 false)), (s.rxTime (9 + l.val) 3 m.word).2.1.steps) :: (s.link l.val).rxLog), crcOk := true, accepted := true, refused := false, arrived := true, last := m.data, lastSeq := some m.seq, t1Log := (if stampFlags (field m.data 0 16) % 2 = 1 then keepNew 8 ((m.seq, ofStamp128 (field m.data 0 16), field m.data 36 2) :: (s.link l.val).t1Log) else []) }) ∧
        t.valN Obj.crem_link_state l.val = 2 ∧
        t.valN Obj.crem_peer_node l.val = octet m.data 39 ∧
        t.valN Obj.crem_peer_depth l.val = octet m.data 38 ∧
        t.valN Obj.crem_roster l.val = field m.data 68 8 ∧
        (∀ m : Nat, m ≠ l.val → t.link m = s.link m) ∧
        t.crem = { s.crem with links := t.crem.links } ∧
        t.tithe = (s.tally (53 + l.val) 2 1).tithe ∧
        t = { s with crem := t.crem, dict := t.dict, tithe := t.tithe } ∧
        SameDict s t [Obj.crem_link_state.key l.val 0, Obj.crem_peer_node.key l.val 0, Obj.crem_peer_depth.key l.val 0, Obj.crem_roster.key l.val 0]) ∧
    (∀ (s : State) (l : Fin 4) (m : CremIn) (dl : Int),
      (s.link l.val).up = true →
      m.type = 1 →
      m.ok = true →
      m.data.length = 96 →
      s.role l.val = 2 →
      (List.range 4).find? (fun k => s.role k == 2) = some l.val →
      s.acceptance l.val m.data = 2 →
      (s.link l.val).lastSeq ≠ some m.seq →
      (s.link l.val).txLog = [] →
      (s.link l.val).delay = some dl →
      s.dev.manager = false →
      (s.rxTime (9 + l.val) 3 m.word).2.1.steps = s.steps →
      stampFlags (field m.data 0 16) % 2 = 1 →
      ∃ t, Sys2Proof.Machine.exec (.timeReceive l m) s = .next t ∧
        (t.link l.val = { (s.link l.val) with rxStamp := (stamp128 (s.rxTime (9 + l.val) 3 m.word).1 (stampFlagsOf (s.rxTime (9 + l.val) 3 m.word).2.1 (s.rxTime (9 + l.val) 3 m.word).2.2 false)), rxLog := keepNew 8 ((m.seq, ofStamp128 (stamp128 (s.rxTime (9 + l.val) 3 m.word).1 (stampFlagsOf (s.rxTime (9 + l.val) 3 m.word).2.1 (s.rxTime (9 + l.val) 3 m.word).2.2 false)), (s.rxTime (9 + l.val) 3 m.word).2.1.steps) :: (s.link l.val).rxLog), crcOk := true, accepted := true, refused := false, arrived := true, last := m.data, lastSeq := some m.seq, t1Log := (if stampFlags (field m.data 0 16) % 2 = 1 then keepNew 8 ((m.seq, ofStamp128 (field m.data 0 16), field m.data 36 2) :: (s.link l.val).t1Log) else []) }) ∧
        t.valN Obj.crem_link_state l.val = 2 ∧
        t.valN Obj.crem_peer_node l.val = octet m.data 39 ∧
        t.valN Obj.crem_peer_depth l.val = octet m.data 38 ∧
        t.valN Obj.crem_roster l.val = field m.data 68 8 ∧
        t.crem = { s.crem with links := t.crem.links, depth := octet m.data 38 + 1, lineage := t.crem.lineage } ∧
        t.valN Obj.crem_depth = octet m.data 38 + 1 ∧
        t.effN Obj.crem_system_id = field m.data 76 2 ∧
        ((t.slot 21).srcTerm = if (octet m.data 59).testBit 0 then field m.data 40 6 else unbounded) ∧
        t.valI Obj.crem_offset l.val = clipI64 (roundDiv (ofStamp128 (field m.data 0 16) + dl + psToU (s.effI Obj.crem_asym l) - (ofStamp128 (stamp128 (s.rxTime (9 + l.val) 3 m.word).1 (stampFlagsOf (s.rxTime (9 + l.val) 3 m.word).2.1 (s.rxTime (9 + l.val) 3 m.word).2.2 false)))) (2 ^ 40)) ∧
        (((t.slot 21).meas.head?.map fun z => (z.t, z.x)) = some ((ofStamp128 (stamp128 (s.rxTime (9 + l.val) 3 m.word).1 (stampFlagsOf (s.rxTime (9 + l.val) 3 m.word).2.1 (s.rxTime (9 + l.val) 3 m.word).2.2 false))), (roundDiv (ofStamp128 (field m.data 0 16) + dl + psToU (s.effI Obj.crem_asym l) - (ofStamp128 (stamp128 (s.rxTime (9 + l.val) 3 m.word).1 (stampFlagsOf (s.rxTime (9 + l.val) 3 m.word).2.1 (s.rxTime (9 + l.val) 3 m.word).2.2 false)))) (2 ^ 40)))) ∧
        (∀ m : Nat, m ≠ l.val → t.link m = s.link m) ∧
        (∀ k : Nat, k ≠ 21 → t.slot k = s.slot k) ∧
        t.tithe = (s.tally (53 + l.val) 2 1).tithe ∧
        SameVals s t [Obj.crem_link_state.key l.val 0, Obj.crem_peer_node.key l.val 0, Obj.crem_peer_depth.key l.val 0, Obj.crem_roster.key l.val 0, Obj.crem_depth.key 0 0, Obj.crem_offset.key l.val 0] ∧
        SameEffs s t [Obj.crem_system_id.key 0 0] ∧
        SameCfgs s t [Obj.crem_system_id.key 0 0] ∧
        t = { s with crem := t.crem, slots := t.slots, dict := t.dict, tithe := t.tithe }) ∧
    (∀ (s : State) (l : Fin 4) (m : CremIn),
      (s.link l.val).up = true →
      m.type = 0x81 →
      m.ok = true →
      m.data.length = 96 →
      s.acceptance l.val m.data = 2 →
      (s.link l.val).lastSeq = some m.seq →
      ∃ t, Sys2Proof.Machine.exec (.timeReceive l m) s = .next t ∧
        t.link l.val = { (s.link l.val) with crcOk := true, accepted := true, refused := false, arrived := true } ∧
        t.valN Obj.crem_link_state l.val = 2 ∧
        t.valN Obj.crem_peer_node l.val = octet m.data 39 ∧
        t.valN Obj.crem_peer_depth l.val = octet m.data 38 ∧
        t.valN Obj.crem_roster l.val = field m.data 68 8 ∧
        (∀ m : Nat, m ≠ l.val → t.link m = s.link m) ∧
        t.crem = { s.crem with links := t.crem.links } ∧
        t = { s with crem := t.crem, dict := t.dict } ∧
        SameDict s t [Obj.crem_link_state.key l.val 0, Obj.crem_peer_node.key l.val 0, Obj.crem_peer_depth.key l.val 0, Obj.crem_roster.key l.val 0]) ∧
    (∀ (s : State) (l : Fin 4) (m : CremIn),
      (s.link l.val).up = true →
      m.type = 1 ∨ m.type = 0x81 →
      m.ok = false ∨ m.data.length ≠ 96 →
      ∃ t, Sys2Proof.Machine.exec (.timeReceive l m) s = .next t ∧
        t.valN Obj.crem_crc_errors l.val = min (s.valN Obj.crem_crc_errors l.val + 1) (2 ^ 64 - 1) ∧
        t.tithe = (s.tally (53 + l.val) 3 1).tithe ∧
        (t.link l.val = if m.type = 1 ∧ m.coding = false then { (s.link l.val) with rxStamp := (stamp128 (s.rxTime (9 + l.val) 3 m.word).1 (stampFlagsOf (s.rxTime (9 + l.val) 3 m.word).2.1 (s.rxTime (9 + l.val) 3 m.word).2.2 false)), rxLog := keepNew 8 ((m.seq, ofStamp128 (stamp128 (s.rxTime (9 + l.val) 3 m.word).1 (stampFlagsOf (s.rxTime (9 + l.val) 3 m.word).2.1 (s.rxTime (9 + l.val) 3 m.word).2.2 false)), (s.rxTime (9 + l.val) 3 m.word).2.1.steps) :: (s.link l.val).rxLog) } else (s.link l.val)) ∧
        (∀ m : Nat, m ≠ l.val → t.link m = s.link m) ∧
        t.crem = { s.crem with links := t.crem.links } ∧
        t = { s with crem := t.crem, dict := t.dict, tithe := t.tithe } ∧
        SameDict s t [Obj.crem_crc_errors.key l.val 0]) ∧
    (∀ (s : State) (l : Fin 4) (m : CremIn),
      (s.link l.val).up = true →
      m.type = 1 →
      m.ok = true →
      m.data.length = 96 →
      s.acceptance l.val m.data ≠ 2 →
      ∃ t, Sys2Proof.Machine.exec (.timeReceive l m) s = .next t ∧
        t.link l.val = { (s.link l.val) with rxStamp := (stamp128 (s.rxTime (9 + l.val) 3 m.word).1 (stampFlagsOf (s.rxTime (9 + l.val) 3 m.word).2.1 (s.rxTime (9 + l.val) 3 m.word).2.2 false)), rxLog := keepNew 8 ((m.seq, ofStamp128 (stamp128 (s.rxTime (9 + l.val) 3 m.word).1 (stampFlagsOf (s.rxTime (9 + l.val) 3 m.word).2.1 (s.rxTime (9 + l.val) 3 m.word).2.2 false)), (s.rxTime (9 + l.val) 3 m.word).2.1.steps) :: (s.link l.val).rxLog), crcOk := true, accepted := false, refused := true } ∧
        t.valN Obj.crem_link_state l.val = s.acceptance l.val m.data ∧
        t.valN Obj.crem_peer_node l.val = octet m.data 39 ∧
        t.valN Obj.crem_peer_depth l.val = octet m.data 38 ∧
        t.valN Obj.crem_roster l.val = field m.data 68 8 ∧
        (∀ m : Nat, m ≠ l.val → t.link m = s.link m) ∧
        t.crem = { s.crem with links := t.crem.links } ∧
        (t.win = (if (s.link l.val).refused then s.win else (s.raise (276 + l.val)).win)) ∧
        ((s.link l.val).refused = false ∧ CanRaise s (276 + l.val) → (vat t.win.srcs (276 + l.val) {}).active = true) ∧
        t = { s with crem := t.crem, win := t.win, dict := t.dict } ∧
        SameDict s t ([Obj.crem_link_state.key l.val 0, Obj.crem_peer_node.key l.val 0, Obj.crem_peer_depth.key l.val 0, Obj.crem_roster.key l.val 0] ++ raiseKeys (276 + l.val))) ∧
    (∀ (s : State) (l : Fin 4) (m : CremIn),
      (s.link l.val).up = false ∨ (m.type ≠ 1 ∧ m.type ≠ 0x81) →
      ∃ t, Sys2Proof.Machine.exec (.timeReceive l m) s = .next t ∧
        t = s) ∧
    (∀ (s : State) (l : Fin 4) (m : CremIn),
      (s.link l.val).up = true →
      m.badBlock = true →
      ∃ t, Sys2Proof.Machine.exec (.creminBadBlock l m) s = .next t ∧
        t.valN Obj.crem_crc_errors l.val = min (s.valN Obj.crem_crc_errors l.val + 1) (2 ^ 64 - 1) ∧
        t.tithe = (s.tally (53 + l.val) 3 1).tithe ∧
        t = { s with dict := t.dict, tithe := t.tithe } ∧
        SameDict s t [Obj.crem_crc_errors.key l.val 0]) ∧
    (∀ (s : State) (l : Fin 4) (m : CremIn),
      (s.link l.val).up = false ∨ m.badBlock = false →
      ∃ t, Sys2Proof.Machine.exec (.creminBadBlock l m) s = .next t ∧
        t = s) ∧
    (∀ (s : State) (n : Fin 49),
      s.dev.manager = true →
      (s.nodeRec n.val).held = true →
      16 ≤ (s.nodeRec n.val).silent →
      (s.nodeRec n.val).lost = false →
      ∃ t, Sys2Proof.Machine.exec (.creminNodeLost n) s = .next t ∧
        RaisedAs s t (281) {} ∧
        (CanRaise s (281) → t.win.now = s.win.now ++ [(281, ({} : FaultInfo))] ∧ (vat t.win.srcs (281) {}).active = true) ∧
        t.nodeRec n.val = { s.nodeRec n.val with lost := true } ∧
        (∀ k : Nat, k ≠ n.val → t.nodeRec k = s.nodeRec k) ∧
        t.crem = { s.crem with nodes := t.crem.nodes } ∧
        t = { s with crem := t.crem, win := t.win, dict := t.dict } ∧
        SameDict s t (raiseKeys 281)) ∧
    (∀ (s : State) (n : Fin 49),
      s.dev.manager = false ∨ (s.nodeRec n.val).held = false ∨ (s.nodeRec n.val).silent < 16 ∨ (s.nodeRec n.val).lost = true →
      ∃ t, Sys2Proof.Machine.exec (.creminNodeLost n) s = .next t ∧
        t = s)

/-- JOIN, ASSIGN, SUMMARY and TUNNEL messages: when each is queued, forwarded, answered, taken, kept, dropped or sent, case by case -/
def Obligations.CreminTree : Prop :=
    (∀ (s : State) (l : Fin 4),
      s.dev.manager = false →
      s.isUp l.val = true →
      s.linkOk l.val = true →
      (match (s.link l.val).joinAt with | some b => decide (b + 8000 ≤ s.tc.boundaries) | none => true) = true →
      ((s.link l.val).queue.map CremTx.size).sum + ({ type := 3, specific := zeros 4, data := joinData s.dev.serial s.crem.node 0 [] 0 } : CremTx).size ≤ 65536 →
      ∃ t, Sys2Proof.Machine.exec (.join l) s = .next t ∧
        t.link l.val = { s.link l.val with joinAt := some s.tc.boundaries, queue := (s.link l.val).queue ++ [{ type := 3, specific := zeros 4, data := joinData s.dev.serial s.crem.node 0 [] 0 }] } ∧
        (∀ m : Nat, m ≠ l.val → t.link m = s.link m) ∧
        t.crem = { s.crem with links := t.crem.links } ∧
        t = { s with crem := t.crem }) ∧
    (∀ (s : State) (l : Fin 4),
      s.dev.manager = false →
      s.isUp l.val = true →
      s.linkOk l.val = true →
      (match (s.link l.val).joinAt with | some b => decide (b + 8000 ≤ s.tc.boundaries) | none => true) = true →
      65536 < ((s.link l.val).queue.map CremTx.size).sum + ({ type := 3, specific := zeros 4, data := joinData s.dev.serial s.crem.node 0 [] 0 } : CremTx).size →
      ∃ t, Sys2Proof.Machine.exec (.join l) s = .next t ∧
        t.link l.val = { s.link l.val with joinAt := some s.tc.boundaries } ∧
        (∀ m : Nat, m ≠ l.val → t.link m = s.link m) ∧
        t.crem = { s.crem with links := t.crem.links } ∧
        t.valN Obj.crem_tunnel_drops  = min (s.valN Obj.crem_tunnel_drops  + 1) (2 ^ 64 - 1) ∧
        t = { s with crem := t.crem, dict := t.dict } ∧
        SameDict s t [Obj.crem_tunnel_drops.key 0 0]) ∧
    (∀ (s : State) (l : Fin 4),
      s.dev.manager = true ∨ s.isUp l.val = false ∨ s.linkOk l.val = false ∨ (match (s.link l.val).joinAt with | some b => decide (b + 8000 ≤ s.tc.boundaries) | none => true) = false →
      ∃ t, Sys2Proof.Machine.exec (.join l) s = .next t ∧
        t = s) ∧
    (∀ (s : State) (l : Fin 4) (m : CremIn) (u : Nat),
      (s.link l.val).up = true →
      m.type = 3 →
      m.ok = true →
      m.data.length = 32 →
      s.role l.val = 1 →
      octet m.data 17 < 3 →
      s.dev.manager = false →
      s.upstream = some u →
      ((s.link u).queue.map CremTx.size).sum + ({ type := 3, specific := zeros 4, data := joinData (m.data.take 16) (octet m.data 16) (octet m.data 17 + 1) ((BitVec.ofNat 8 l.val :: slice m.data 18 3).take 3) 0 } : CremTx).size ≤ 65536 →
      ∃ t, Sys2Proof.Machine.exec (.joinReceive l m) s = .next t ∧
        t.link u = { s.link u with queue := (s.link u).queue ++ [{ type := 3, specific := zeros 4, data := joinData (m.data.take 16) (octet m.data 16) (octet m.data 17 + 1) ((BitVec.ofNat 8 l.val :: slice m.data 18 3).take 3) 0 }] } ∧
        (∀ k : Nat, k ≠ u → t.link k = s.link k) ∧
        t.crem = { s.crem with links := t.crem.links } ∧
        t = { s with crem := t.crem }) ∧
    (∀ (s : State) (l : Fin 4) (m : CremIn) (n : Nat),
      (s.link l.val).up = true →
      m.type = 3 →
      m.ok = true →
      m.data.length = 32 →
      s.role l.val = 1 →
      octet m.data 17 < 3 →
      s.dev.manager = true →
      ((s.refreshSerial (m.data.take 16)).assignFor (m.data.take 16) (octet m.data 16)) = n →
      1 ≤ n →
      n ≤ 48 →
      ((s.link l.val).queue.map CremTx.size).sum + ({ type := 4, specific := zeros 4, data := joinData (m.data.take 16) n (octet m.data 17 + 1) ((BitVec.ofNat 8 l.val :: slice m.data 18 3).take 3) 1 } : CremTx).size ≤ 65536 →
      ∃ t, Sys2Proof.Machine.exec (.joinReceive l m) s = .next t ∧
        (t.nodeRec n = if ((s.refreshSerial (m.data.take 16)).nodeRec n).held ∧ ((s.refreshSerial (m.data.take 16)).nodeRec n).serial = (m.data.take 16) then (s.refreshSerial (m.data.take 16)).nodeRec n else { (s.refreshSerial (m.data.take 16)).nodeRec n with serial := (m.data.take 16), heldAt := s.tc.cyc, held := true, heard := true, silent := 0, lost := false }) ∧
        (∀ k : Nat, k ≠ n → t.nodeRec k = (s.refreshSerial (m.data.take 16)).nodeRec k) ∧
        (t.val Obj.crem_node_serial (n - 1)).bytes = m.data.take 16 ∧
        (t.valN Obj.crem_nodes = ((List.range 49).filter fun k => (t.nodeRec k).held).length) ∧
        t.link l.val = { s.link l.val with queue := (s.link l.val).queue ++ [{ type := 4, specific := zeros 4, data := joinData (m.data.take 16) n (octet m.data 17 + 1) ((BitVec.ofNat 8 l.val :: slice m.data 18 3).take 3) 1 }] } ∧
        (∀ k : Nat, k ≠ l.val → t.link k = s.link k) ∧
        t.crem = { s.crem with links := t.crem.links, nodes := t.crem.nodes } ∧
        t = { s with crem := t.crem, dict := t.dict } ∧
        SameDict s t [Obj.crem_node_serial.key (n - 1) 0, Obj.crem_nodes.key 0 0]) ∧
    (∀ (s : State) (l : Fin 4) (m : CremIn) (n : Nat),
      (s.link l.val).up = true →
      m.type = 3 →
      m.ok = true →
      m.data.length = 32 →
      s.role l.val = 1 →
      octet m.data 17 < 3 →
      s.dev.manager = true →
      ((s.refreshSerial (m.data.take 16)).assignFor (m.data.take 16) (octet m.data 16)) = n →
      n = 255 →
      ((s.link l.val).queue.map CremTx.size).sum + ({ type := 4, specific := zeros 4, data := joinData (m.data.take 16) n (octet m.data 17 + 1) ((BitVec.ofNat 8 l.val :: slice m.data 18 3).take 3) 1 } : CremTx).size ≤ 65536 →
      ∃ t, Sys2Proof.Machine.exec (.joinReceive l m) s = .next t ∧
        RaisedAs s t (280) {} ∧
        (CanRaise s (280) → t.win.now = s.win.now ++ [(280, ({} : FaultInfo))] ∧ (vat t.win.srcs (280) {}).active = true) ∧
        t.crem.nodes = (s.refreshSerial (m.data.take 16)).crem.nodes ∧
        t.link l.val = { s.link l.val with queue := (s.link l.val).queue ++ [{ type := 4, specific := zeros 4, data := joinData (m.data.take 16) n (octet m.data 17 + 1) ((BitVec.ofNat 8 l.val :: slice m.data 18 3).take 3) 1 }] } ∧
        (∀ k : Nat, k ≠ l.val → t.link k = s.link k) ∧
        t.crem = { s.crem with links := t.crem.links, nodes := t.crem.nodes } ∧
        t = { s with crem := t.crem, win := t.win, dict := t.dict } ∧
        SameDict s t (raiseKeys 280)) ∧
    (∀ (s : State) (l : Fin 4) (m : CremIn),
      (s.link l.val).up = true →
      m.type = 3 →
      m.ok = false ∨ m.data.length ≠ 32 →
      ∃ t, Sys2Proof.Machine.exec (.joinReceive l m) s = .next t ∧
        t.valN Obj.crem_crc_errors l.val = min (s.valN Obj.crem_crc_errors l.val + 1) (2 ^ 64 - 1) ∧
        t.tithe = (s.tally (53 + l.val) 3 1).tithe ∧
        t = { s with dict := t.dict, tithe := t.tithe } ∧
        SameDict s t [Obj.crem_crc_errors.key l.val 0]) ∧
    (∀ (s : State) (l : Fin 4) (m : CremIn),
      (s.link l.val).up = false ∨ m.type ≠ 3 ∨ (m.ok = true ∧ m.data.length = 32 ∧ (s.role l.val ≠ 1 ∨ 3 ≤ octet m.data 17 ∨ (s.dev.manager = false ∧ s.upstream = none))) →
      ∃ t, Sys2Proof.Machine.exec (.joinReceive l m) s = .next t ∧
        t = s) ∧
    (∀ (s : State) (l : Fin 4) (m : CremIn),
      (s.link l.val).up = true →
      m.type = 4 →
      m.ok = true →
      m.data.length = 32 →
      s.dev.manager = false →
      s.isUp l.val = true →
      octet m.data 21 = octet m.data 17 →
      m.data.take 16 = s.dev.serial →
      s.crem.node = 255 →
      octet m.data 16 ≠ 255 →
      s.valN Obj.crem_addr_source ≠ 3 →
      ∃ t, Sys2Proof.Machine.exec (.assign l m) s = .next t ∧
        t.crem.node = octet m.data 16 ∧
        t.valN Obj.crem_node = octet m.data 16 ∧
        t.valN Obj.crem_addr_source = 2 ∧
        t.crem = ((({ s with crem := { s.crem with node := octet m.data 16 } } : State)).retree).crem ∧
        SameVals s t [Obj.crem_node.key 0 0, Obj.crem_addr_source.key 0 0, Obj.crem_depth.key 0 0] ∧
        SameEffs s t [Obj.crem_system_id.key 0 0] ∧
        SameCfgs s t [Obj.crem_system_id.key 0 0] ∧
        t = { s with crem := t.crem, dict := t.dict }) ∧
    (∀ (s : State) (l : Fin 4) (m : CremIn),
      (s.link l.val).up = true →
      m.type = 4 →
      m.ok = true →
      m.data.length = 32 →
      s.dev.manager = false →
      s.isUp l.val = true →
      octet m.data 21 = octet m.data 17 →
      m.data.take 16 = s.dev.serial →
      s.crem.node ≠ 255 →
      octet m.data 16 = 255 →
      s.valN Obj.crem_addr_source = 1 →
      ∃ t, Sys2Proof.Machine.exec (.assign l m) s = .next t ∧
        t.crem.node = 255 ∧
        t.valN Obj.crem_node = 255 ∧
        t.valN Obj.crem_addr_source = 3 ∧
        t.crem = ((({ s with crem := { s.crem with node := 0xFF } } : State)).retree).crem ∧
        RaisedAs s t (280) {} ∧
        (CanRaise s (280) → t.win.now = s.win.now ++ [(280, ({} : FaultInfo))] ∧ (vat t.win.srcs (280) {}).active = true) ∧
        t = { s with crem := t.crem, win := t.win, dict := t.dict } ∧
        SameVals s t ([Obj.crem_node.key 0 0, Obj.crem_addr_source.key 0 0, Obj.crem_depth.key 0 0] ++ raiseKeys 280) ∧
        SameEffs s t [Obj.crem_system_id.key 0 0] ∧
        SameCfgs s t [Obj.crem_system_id.key 0 0]) ∧
    (∀ (s : State) (l : Fin 4) (m : CremIn),
      (s.link l.val).up = true →
      m.type = 4 →
      m.ok = true →
      m.data.length = 32 →
      s.dev.manager = false →
      s.isUp l.val = true →
      octet m.data 21 = octet m.data 17 →
      m.data.take 16 = s.dev.serial →
      s.crem.node ≠ 255 →
      octet m.data 16 ≠ s.crem.node →
      ¬ (octet m.data 16 = 255 ∧ s.valN Obj.crem_addr_source = 1) →
      ∃ t, Sys2Proof.Machine.exec (.assign l m) s = .next t ∧
        RaisedAs s t (280) {} ∧
        (CanRaise s (280) → t.win.now = s.win.now ++ [(280, ({} : FaultInfo))] ∧ (vat t.win.srcs (280) {}).active = true) ∧
        t = { s with win := t.win, dict := t.dict } ∧
        SameDict s t (raiseKeys 280)) ∧
    (∀ (s : State) (l : Fin 4) (m : CremIn),
      (s.link l.val).up = true →
      m.type = 4 →
      m.ok = true →
      m.data.length = 32 →
      s.dev.manager = false →
      s.isUp l.val = true →
      octet m.data 21 = octet m.data 17 →
      m.data.take 16 ≠ s.dev.serial ∨ octet m.data 16 = s.crem.node ∨ (s.crem.node = 255 ∧ s.valN Obj.crem_addr_source = 3) →
      ∃ t, Sys2Proof.Machine.exec (.assign l m) s = .next t ∧
        t = s) ∧
    (∀ (s : State) (l : Fin 4) (m : CremIn) (k : Nat),
      (s.link l.val).up = true →
      m.type = 4 →
      m.ok = true →
      m.data.length = 32 →
      s.dev.manager = false →
      s.isUp l.val = true →
      octet m.data 21 ≠ octet m.data 17 →
      octet m.data 21 < 3 →
      octet m.data (18 + octet m.data 21) = k →
      k < 4 →
      s.role k = 1 →
      (s.link k).up = true →
      ((s.link k).queue.map CremTx.size).sum + ({ type := 4, specific := zeros 4, data := joinData (m.data.take 16) (octet m.data 16) (octet m.data 17) (slice m.data 18 3) (octet m.data 21 + 1) } : CremTx).size ≤ 65536 →
      ∃ t, Sys2Proof.Machine.exec (.assign l m) s = .next t ∧
        t.link k = { s.link k with queue := (s.link k).queue ++ [{ type := 4, specific := zeros 4, data := joinData (m.data.take 16) (octet m.data 16) (octet m.data 17) (slice m.data 18 3) (octet m.data 21 + 1) }] } ∧
        (∀ k : Nat, k ≠ k → t.link k = s.link k) ∧
        t.crem = { s.crem with links := t.crem.links } ∧
        t = { s with crem := t.crem }) ∧
    (∀ (s : State) (l : Fin 4) (m : CremIn) (k : Nat),
      (s.link l.val).up = true →
      m.type = 4 →
      m.ok = true →
      m.data.length = 32 →
      s.isUp l.val = true →
      octet m.data 21 ≠ octet m.data 17 →
      octet m.data (18 + octet m.data 21) = k →
      3 ≤ octet m.data 21 ∨ 4 ≤ k ∨ s.role k ≠ 1 ∨ (s.link k).up = false →
      ∃ t, Sys2Proof.Machine.exec (.assign l m) s = .next t ∧
        t = s) ∧
    (∀ (s : State) (l : Fin 4) (m : CremIn),
      (s.link l.val).up = true →
      m.type = 4 →
      m.ok = false ∨ m.data.length ≠ 32 →
      ∃ t, Sys2Proof.Machine.exec (.assign l m) s = .next t ∧
        t.valN Obj.crem_crc_errors l.val = min (s.valN Obj.crem_crc_errors l.val + 1) (2 ^ 64 - 1) ∧
        t.tithe = (s.tally (53 + l.val) 3 1).tithe ∧
        t = { s with dict := t.dict, tithe := t.tithe } ∧
        SameDict s t [Obj.crem_crc_errors.key l.val 0]) ∧
    (∀ (s : State) (l : Fin 4) (m : CremIn),
      (s.link l.val).up = false ∨ m.type ≠ 4 ∨ (m.ok = true ∧ m.data.length = 32 ∧ (s.dev.manager = true ∨ s.isUp l.val = false)) →
      ∃ t, Sys2Proof.Machine.exec (.assign l m) s = .next t ∧
        t = s) ∧
    (∀ (s : State) (n : Fin 49),
      (s.nodeRec n.val).held = true →
      s.passed (s.nodeRec n.val).heldAt (3 * oneSec) = true →
      ∃ t, Sys2Proof.Machine.exec (.addressHoldExpire n) s = .next t ∧
        t.nodeRec n.val = { s.nodeRec n.val with held := false, relAt := some s.tc.cyc, silent := 0 } ∧
        (∀ k : Nat, k ≠ n.val → t.nodeRec k = s.nodeRec k) ∧
        t.crem = { s.crem with nodes := t.crem.nodes } ∧
        (t.val Obj.crem_node_serial (n.val - 1)).bytes = zeros 16 ∧
        (t.valN Obj.crem_nodes = ((List.range 49).filter fun k => (t.nodeRec k).held).length) ∧
        t = { s with crem := t.crem, dict := t.dict } ∧
        SameDict s t [Obj.crem_node_serial.key (n.val - 1) 0, Obj.crem_nodes.key 0 0]) ∧
    (∀ (s : State) (n : Fin 49),
      (s.nodeRec n.val).held = false ∨ s.passed (s.nodeRec n.val).heldAt (3 * oneSec) = false →
      ∃ t, Sys2Proof.Machine.exec (.addressHoldExpire n) s = .next t ∧
        t = s) ∧
    (∀ (s : State) (l : Fin 4) (m : CremIn) (u : Nat),
      (s.link l.val).up = true →
      m.type = 2 →
      m.ok = true →
      1 ≤ field m.data 0 2 →
      field m.data 0 2 ≤ 1016 →
      m.data.length = 8 * ceilDiv (field m.data 0 2 + 8) 8 →
      octet m.header 4 ≠ s.crem.node ∨ s.crem.node = 255 →
      octet m.header 4 ≠ 0xFE →
      s.tunnelLinks (octet m.header 4) (some l.val) = [u] →
      ((s.link u).queue.map CremTx.size).sum + ({ type := 2, specific := slice m.header 4 4, data := m.data.take (m.data.length - 4) } : CremTx).size ≤ 65536 →
      ∃ t, Sys2Proof.Machine.exec (.tunnel l m) s = .next t ∧
        t.link u = { s.link u with queue := (s.link u).queue ++ [{ type := 2, specific := slice m.header 4 4, data := m.data.take (m.data.length - 4) }] } ∧
        (∀ k : Nat, k ≠ u → t.link k = s.link k) ∧
        t.crem = { s.crem with links := t.crem.links } ∧
        t = { s with crem := t.crem }) ∧
    (∀ (s : State) (l : Fin 4) (m : CremIn),
      (s.link l.val).up = true →
      m.type = 2 →
      m.ok = true →
      1 ≤ field m.data 0 2 →
      field m.data 0 2 ≤ 1016 →
      m.data.length = 8 * ceilDiv (field m.data 0 2 + 8) 8 →
      octet m.header 4 ≠ s.crem.node ∨ s.crem.node = 255 →
      octet m.header 4 ≠ 0xFE →
      s.tunnelLinks (octet m.header 4) (some l.val) = [] →
      ∃ t, Sys2Proof.Machine.exec (.tunnel l m) s = .next t ∧
        t.valN Obj.crem_tunnel_drops  = min (s.valN Obj.crem_tunnel_drops  + 1) (2 ^ 64 - 1) ∧
        t = { s with dict := t.dict } ∧
        SameDict s t [Obj.crem_tunnel_drops.key 0 0]) ∧
    (∀ (s : State) (l : Fin 4) (m : CremIn),
      (s.link l.val).up = true →
      m.type = 2 →
      m.ok = false ∨ field m.data 0 2 = 0 ∨ 1016 < field m.data 0 2 ∨ m.data.length ≠ 8 * ceilDiv (field m.data 0 2 + 8) 8 →
      ∃ t, Sys2Proof.Machine.exec (.tunnel l m) s = .next t ∧
        t.valN Obj.crem_crc_errors l.val = min (s.valN Obj.crem_crc_errors l.val + 1) (2 ^ 64 - 1) ∧
        t.tithe = (s.tally (53 + l.val) 3 1).tithe ∧
        t = { s with dict := t.dict, tithe := t.tithe } ∧
        SameDict s t [Obj.crem_crc_errors.key l.val 0]) ∧
    (∀ (s : State) (l : Fin 4) (m : CremIn),
      (s.link l.val).up = true →
      m.type = 2 →
      m.ok = true →
      1 ≤ field m.data 0 2 →
      field m.data 0 2 ≤ 1016 →
      m.data.length = 8 * ceilDiv (field m.data 0 2 + 8) 8 →
      octet m.header 4 = s.crem.node →
      s.crem.node ≠ 255 →
      (octet m.header 6).testBit 0 = true →
      (octet m.header 6).testBit 1 = false →
      ∃ t, Sys2Proof.Machine.exec (.tunnel l m) s = .next t ∧
        (t.crem = { s.crem with parts := (s.crem.parts.filter fun e => e.1 != octet m.header 5) ++ [(octet m.header 5, field m.data 2 2, (slice m.data 4 (field m.data 0 2)))] }) ∧
        t = { s with crem := t.crem }) ∧
    (∀ (s : State) (l : Fin 4) (m : CremIn) (e : Nat × Nat × Bytes),
      (s.link l.val).up = true →
      m.type = 2 →
      m.ok = true →
      1 ≤ field m.data 0 2 →
      field m.data 0 2 ≤ 1016 →
      m.data.length = 8 * ceilDiv (field m.data 0 2 + 8) 8 →
      octet m.header 4 = s.crem.node →
      s.crem.node ≠ 255 →
      (octet m.header 6).testBit 0 = false →
      (octet m.header 6).testBit 1 = false →
      s.crem.parts.find? (fun e => e.1 == octet m.header 5 && e.2.1 == field m.data 2 2) = some e →
      ∃ t, Sys2Proof.Machine.exec (.tunnel l m) s = .next t ∧
        (t.crem = { s.crem with parts := (s.crem.parts.filter fun e => e.1 != octet m.header 5) ++ [(octet m.header 5, field m.data 2 2, e.2.2 ++ (slice m.data 4 (field m.data 0 2)))] }) ∧
        t = { s with crem := t.crem }) ∧
    (∀ (s : State) (l : Fin 4) (m : CremIn),
      (s.link l.val).up = true →
      m.type = 2 →
      m.ok = true →
      1 ≤ field m.data 0 2 →
      field m.data 0 2 ≤ 1016 →
      m.data.length = 8 * ceilDiv (field m.data 0 2 + 8) 8 →
      octet m.header 4 = s.crem.node →
      s.crem.node ≠ 255 →
      (octet m.header 6).testBit 0 = false →
      s.crem.parts.find? (fun e => e.1 == octet m.header 5 && e.2.1 == field m.data 2 2) = none →
      ∃ t, Sys2Proof.Machine.exec (.tunnel l m) s = .next t ∧
        (t.crem = { s.crem with parts := (s.crem.parts.filter fun e => e.1 != octet m.header 5) }) ∧
        t = { s with crem := t.crem }) ∧
    (∀ (s : State) (l : Fin 4) (m : CremIn),
      (s.link l.val).up = true →
      m.type = 2 →
      m.ok = true →
      1 ≤ field m.data 0 2 →
      field m.data 0 2 ≤ 1016 →
      m.data.length = 8 * ceilDiv (field m.data 0 2 + 8) 8 →
      octet m.header 4 = s.crem.node →
      s.crem.node ≠ 255 →
      (octet m.header 6).testBit 0 = true →
      (octet m.header 6).testBit 1 = true →
      (octet (slice m.data 4 (field m.data 0 2)) 3).testBit 0 = false →
      s.gran.inbox.length < 64 →
      ∃ t, Sys2Proof.Machine.exec (.tunnel l m) s = .next t ∧
        (t.crem = { s.crem with parts := (s.crem.parts.filter fun e => e.1 != octet m.header 5) }) ∧
        t.gran = { s.gran with inbox := s.gran.inbox ++ [{ bytes := (slice m.data 4 (field m.data 0 2)), back := { via := 3, node := octet m.header 5 } }] } ∧
        t = { s with crem := t.crem, gran := t.gran }) ∧
    (∀ (s : State) (l : Fin 4) (m : CremIn),
      (s.link l.val).up = true →
      m.type = 2 →
      m.ok = true →
      1 ≤ field m.data 0 2 →
      field m.data 0 2 ≤ 1016 →
      m.data.length = 8 * ceilDiv (field m.data 0 2 + 8) 8 →
      octet m.header 4 = 0xFE →
      s.crem.node ≠ 0xFE →
      (octet m.header 6).testBit 0 = true →
      (octet m.header 6).testBit 1 = false →
      s.tunnelLinks 0xFE (some l.val) = [] →
      ∃ t, Sys2Proof.Machine.exec (.tunnel l m) s = .next t ∧
        (t.crem = { s.crem with parts := (s.crem.parts.filter fun e => e.1 != octet m.header 5) ++ [(octet m.header 5, field m.data 2 2, (slice m.data 4 (field m.data 0 2)))] }) ∧
        t = { s with crem := t.crem }) ∧
    (∀ (s : State) (l : Fin 4) (m : CremIn),
      (s.link l.val).up = false ∨ m.type ≠ 2 →
      ∃ t, Sys2Proof.Machine.exec (.tunnel l m) s = .next t ∧
        t = s) ∧
    (∀ (s : State) (l : Fin 4) (m : CremTx),
      (s.link l.val).up = true →
      (s.link l.val).sentTick = true →
      (s.link l.val).queue = [m] →
      (s.link l.val).blocks + (1 + (m.data.length + 4) / 8) ≤ 19531 →
      ∃ t, Sys2Proof.Machine.exec (.tunnelSend l) s = .next t ∧
        (t.link l.val = { s.link l.val with queue := [], blocks := (s.link l.val).blocks + (1 + (m.data.length + 4) / 8), counts := vmod (s.link l.val).counts m.type fun c => (c + 1) % 65536, sent := (s.link l.val).sent ++ [creminMsg m.type (vat (s.link l.val).counts m.type 0) m.specific m.data] }) ∧
        (t.valN Obj.crem_tunnel_tx l.val = if m.type = 2 then min (s.valN Obj.crem_tunnel_tx l.val + 1) (2 ^ 64 - 1) else s.valN Obj.crem_tunnel_tx l.val) ∧
        (∀ m : Nat, m ≠ l.val → t.link m = s.link m) ∧
        t.crem = { s.crem with links := t.crem.links } ∧
        (t.tithe = if m.type = 2 then (s.tally (53 + l.val) 4 (1 + (m.data.length + 4) / 8)).tithe else s.tithe) ∧
        t = { s with crem := t.crem, dict := t.dict, tithe := t.tithe } ∧
        SameDict s t [Obj.crem_tunnel_tx.key l.val 0]) ∧
    (∀ (s : State) (l : Fin 4) (m k : CremTx),
      (s.link l.val).up = true →
      (s.link l.val).sentTick = true →
      (s.link l.val).queue = [m, k] →
      m.type = 2 →
      k.type ≠ 2 →
      (s.link l.val).blocks + (1 + (k.data.length + 4) / 8) + (1 + (m.data.length + 4) / 8) ≤ 19531 →
      ∃ t, Sys2Proof.Machine.exec (.tunnelSend l) s = .next t ∧
        (t.link l.val).queue = [] ∧
        (t.link l.val).sent = (s.link l.val).sent ++ [creminMsg k.type (vat (s.link l.val).counts k.type 0) k.specific k.data, creminMsg 2 (vat (s.link l.val).counts 2 0) m.specific m.data] ∧
        (∀ m : Nat, m ≠ l.val → t.link m = s.link m) ∧
        t.crem = { s.crem with links := t.crem.links } ∧
        t = { s with crem := t.crem, dict := t.dict, tithe := t.tithe } ∧
        SameDict s t [Obj.crem_tunnel_tx.key l.val 0]) ∧
    (∀ (s : State) (l : Fin 4),
      (s.link l.val).up = false ∨ (s.link l.val).sentTick = false ∨ (s.link l.val).queue = [] ∨ ((s.link l.val).queue.length = 1 ∧ 19531 < (s.link l.val).blocks + (1 + (((s.link l.val).queue.headD {}).data.length + 4) / 8)) →
      ∃ t, Sys2Proof.Machine.exec (.tunnelSend l) s = .next t ∧
        t = s) ∧
    (∀ (s : State) (u : Nat),
      s.dev.manager = false →
      s.tc.tickNo % 8 = 4 →
      s.crem.sumAt ≠ s.tc.boundaries →
      s.crem.started = true →
      s.upstream = some u →
      ((s.link u).queue.map CremTx.size).sum + ({ type := 5, specific := zeros 4, data := s.summaryData } : CremTx).size ≤ 65536 →
      ∃ t, Sys2Proof.Machine.exec (.summary) s = .next t ∧
        t.crem = { s.crem with links := t.crem.links, sumAt := s.tc.boundaries } ∧
        t.link u = { s.link u with queue := (s.link u).queue ++ [{ type := 5, specific := zeros 4, data := s.summaryData }] } ∧
        (∀ k : Nat, k ≠ u → t.link k = s.link k) ∧
        s.summaryData.length = 28 ∧
        t = { s with crem := t.crem }) ∧
    (∀ (s : State),
      s.dev.manager = false →
      s.tc.tickNo % 8 = 4 →
      s.crem.sumAt ≠ s.tc.boundaries →
      s.crem.started = true →
      s.upstream = none →
      ∃ t, Sys2Proof.Machine.exec (.summary) s = .next t ∧
        t.crem = { s.crem with sumAt := s.tc.boundaries } ∧
        t = { s with crem := t.crem }) ∧
    (∀ (s : State),
      s.dev.manager = true ∨ s.tc.tickNo % 8 ≠ 4 ∨ s.crem.sumAt = s.tc.boundaries ∨ s.crem.started = false →
      ∃ t, Sys2Proof.Machine.exec (.summary) s = .next t ∧
        t = s) ∧
    (∀ (s : State) (l : Fin 4) (m : CremIn),
      (s.link l.val).up = true →
      m.type = 5 →
      m.ok = true →
      m.data.length = 32 →
      s.role l.val = 1 →
      s.dev.manager = true →
      1 ≤ octet m.data 0 →
      octet m.data 0 ≤ 48 →
      ∃ t, Sys2Proof.Machine.exec (.summaryReceive l m) s = .next t ∧
        t.nodeRec (octet m.data 0) = { s.nodeRec (octet m.data 0) with silent := 0, heard := true, lost := false } ∧
        (t.val Obj.crem_node_state (octet m.data 0 - 1)).bytes = m.data.take 28 ∧
        (∀ k : Nat, k ≠ octet m.data 0 → t.nodeRec k = s.nodeRec k) ∧
        t.crem = { s.crem with nodes := t.crem.nodes } ∧
        t = { s with crem := t.crem, dict := t.dict } ∧
        SameDict s t [Obj.crem_node_state.key (octet m.data 0 - 1) 0]) ∧
    (∀ (s : State) (l : Fin 4) (m : CremIn) (u : Nat),
      (s.link l.val).up = true →
      m.type = 5 →
      m.ok = true →
      m.data.length = 32 →
      s.role l.val = 1 →
      s.dev.manager = false →
      s.upstream = some u →
      ((s.link u).queue.map CremTx.size).sum + ({ type := 5, specific := slice m.header 4 4, data := m.data.take 28 } : CremTx).size ≤ 65536 →
      ∃ t, Sys2Proof.Machine.exec (.summaryReceive l m) s = .next t ∧
        t.link u = { s.link u with queue := (s.link u).queue ++ [{ type := 5, specific := slice m.header 4 4, data := m.data.take 28 }] } ∧
        (∀ k : Nat, k ≠ u → t.link k = s.link k) ∧
        t.crem = { s.crem with links := t.crem.links } ∧
        t = { s with crem := t.crem }) ∧
    (∀ (s : State) (l : Fin 4) (m : CremIn),
      (s.link l.val).up = true →
      m.type = 5 →
      m.ok = false ∨ m.data.length ≠ 32 →
      ∃ t, Sys2Proof.Machine.exec (.summaryReceive l m) s = .next t ∧
        t.valN Obj.crem_crc_errors l.val = min (s.valN Obj.crem_crc_errors l.val + 1) (2 ^ 64 - 1) ∧
        t.tithe = (s.tally (53 + l.val) 3 1).tithe ∧
        t = { s with dict := t.dict, tithe := t.tithe } ∧
        SameDict s t [Obj.crem_crc_errors.key l.val 0]) ∧
    (∀ (s : State) (l : Fin 4) (m : CremIn),
      (s.link l.val).up = false ∨ m.type ≠ 5 ∨ (m.ok = true ∧ m.data.length = 32 ∧ (s.role l.val ≠ 1 ∨ (s.dev.manager = true ∧ (octet m.data 0 = 0 ∨ 48 < octet m.data 0)) ∨ (s.dev.manager = false ∧ s.upstream = none))) →
      ∃ t, Sys2Proof.Machine.exec (.summaryReceive l m) s = .next t ∧
        t = s)

/-- The Atton agent answers reads, handles, subscriptions and stores on the SPI path; SPI commands move messages; failed checks discard -/
def Obligations.AttonReads : Prop :=
    (∀ (s : State) (m : AttonMsg) (rest : List AttonMsg) (st : Nat) (b : Bytes),
      s.gran.inbox = m :: rest →
      s.attonUp = true →
      m.wellFormed = true →
      s.attonHere m = true →
      s.attonWaits m = false →
      m.passed = none →
      m.back.via = 0 →
      m.reserved = 0 →
      s.effT Obj.spi_lock = false →
      m.op = 1 →
      m.body.length = 4 →
      octet m.body 0 = 1 →
      ({ s with gran := { s.gran with inbox := rest } } : State).readEntry m.level pathSpi (field m.body 1 2) (octet m.body 3) = (({ s with gran := { s.gran with inbox := rest } } : State), st, b) →
      ({ s with gran := { s.gran with inbox := rest } } : State).entryLen m.level pathSpi (field m.body 1 2) (octet m.body 3) ≤ 1353 →
      ∃ t, Sys2Proof.Machine.exec (.read) s = .next t ∧
        t.gran.spiResp = some (s.attonBuild 1 m.level m.sender m.node m.seq 0 ([1] ++ beBytes 2 (field m.body 1 2) ++ beBytes 1 (octet m.body 3) ++ beBytes 1 st ++ beBytes 2 b.length ++ b)) ∧
        t.gran.inbox = rest ∧
        t.gran = { s.gran with inbox := t.gran.inbox, spiResp := t.gran.spiResp } ∧
        t = { s with gran := t.gran }) ∧
    (∀ (s : State) (m : AttonMsg) (rest : List AttonMsg) (r : HandleRec) (h : Nat),
      s.gran.inbox = m :: rest →
      s.attonUp = true →
      m.wellFormed = true →
      s.attonHere m = true →
      s.attonWaits m = false →
      m.passed = none →
      m.back.via = 0 →
      m.reserved = 0 →
      s.effT Obj.spi_lock = false →
      m.op = 4 →
      m.body.length = 4 →
      s.gran.handles.find? (fun e => e.1 == beNat m.body) = some (h, r) →
      r.status = 1 ∨ r.status = 2 →
      ∃ t, Sys2Proof.Machine.exec (.commitStatus) s = .next t ∧
        t.gran.spiResp = some (s.attonBuild 4 m.level m.sender m.node m.seq 0 (beBytes 2 r.status ++ beBytes 8 r.sec ++ beBytes 2 r.tick)) ∧
        t.gran.inbox = rest ∧
        t.gran = { s.gran with inbox := t.gran.inbox, spiResp := t.gran.spiResp } ∧
        t = { s with gran := t.gran }) ∧
    (∀ (s : State) (m : AttonMsg) (rest : List AttonMsg),
      s.gran.inbox = m :: rest →
      s.attonUp = true →
      m.wellFormed = true →
      s.attonHere m = true →
      s.attonWaits m = false →
      m.passed = none →
      m.back.via = 0 →
      m.reserved = 0 →
      s.effT Obj.spi_lock = false →
      m.op = 4 →
      m.body.length = 4 →
      s.gran.handles.find? (fun e => e.1 == beNat m.body) = none →
      ∃ t, Sys2Proof.Machine.exec (.commitStatus) s = .next t ∧
        t.gran.spiResp = some (s.attonBuild 4 m.level m.sender m.node m.seq 0 (beBytes 2 0x1C)) ∧
        t.gran.inbox = rest ∧
        t.gran = { s.gran with inbox := t.gran.inbox, spiResp := t.gran.spiResp } ∧
        t = { s with gran := t.gran }) ∧
    (∀ (s : State) (m : AttonMsg) (rest : List AttonMsg) (es : List (Nat × Nat)),
      s.gran.inbox = m :: rest →
      s.attonUp = true →
      m.wellFormed = true →
      s.attonHere m = true →
      s.attonWaits m = false →
      m.passed = none →
      m.back.via = 0 →
      m.reserved = 0 →
      s.effT Obj.spi_lock = false →
      m.op = 5 →
      7 ≤ m.body.length →
      parseReads (octet m.body 6) (m.body.drop 7) = some es →
      es ≠ [] →
      octet m.body 6 ≤ 32 →
      1 ≤ field m.body 2 2 →
      1 ≤ field m.body 4 2 →
      field m.body 4 2 ≤ 3600 →
      2 ≤ m.level →
      s.gran.subs = [] →
      (s.gran.assocs.find? fun e => e.1 == pathSpi) = none →
      ∃ t, Sys2Proof.Machine.exec (.subscribe) s = .next t ∧
        t.gran.spiResp = some (s.attonBuild 5 m.level m.sender m.node m.seq 0 (beBytes 2 (field m.body 0 2))) ∧
        t.gran.inbox = rest ∧
        t.gran.subs = [{ owner := 64, ident := field m.body 0 2, period := field m.body 2 2, life := field m.body 4 2, since := s.tc.cyc, entries := es, level := m.level, sender := m.sender }] ∧
        t.gran = { s.gran with inbox := t.gran.inbox, spiResp := t.gran.spiResp, subs := t.gran.subs } ∧
        t = { s with gran := t.gran }) ∧
    (∀ (s : State) (m : AttonMsg) (rest : List AttonMsg),
      s.gran.inbox = m :: rest →
      s.attonUp = true →
      m.wellFormed = true →
      s.attonHere m = true →
      m.passed = none →
      m.back.via ≠ 0 →
      m.reserved = 0 →
      m.op = 1 →
      s.attonTagOk m = false →
      ∃ t, Sys2Proof.Machine.exec (.read) s = .next t ∧
        t.valN Obj.atton_auth_fail  = min (s.valN Obj.atton_auth_fail  + 1) (2 ^ 64 - 1) ∧
        t.gran = { s.gran with inbox := rest } ∧
        t = { s with gran := t.gran, dict := t.dict } ∧
        SameDict s t [Obj.atton_auth_fail.key 0 0]) ∧
    (∀ (s : State) (m : AttonMsg) (rest : List AttonMsg),
      s.gran.inbox = m :: rest →
      s.attonUp = true →
      m.wellFormed = false →
      m.reserved = 0 →
      m.op = 5 →
      ∃ t, Sys2Proof.Machine.exec (.subscribe) s = .next t ∧
        t.valN Obj.atton_malformed  = min (s.valN Obj.atton_malformed  + 1) (2 ^ 64 - 1) ∧
        t.gran = { s.gran with inbox := rest } ∧
        t = { s with gran := t.gran, dict := t.dict } ∧
        SameDict s t [Obj.atton_malformed.key 0 0]) ∧
    (∀ (s : State) (c : Instr),
      s.gran.inbox = [] →
      c ∈ [Instr.read, .write, .bundleWrite, .commitStatus, .subscribe, .store, .restoreDefaults, .attonForward] →
      ∃ t, Sys2Proof.Machine.exec c s = .next t ∧
        t = s) ∧
    (∀ (s : State) (c : Instr),
      s.attonUp = false →
      c ∈ [Instr.read, .write, .bundleWrite, .commitStatus, .subscribe, .store, .restoreDefaults, .attonForward] →
      ∃ t, Sys2Proof.Machine.exec c s = .next t ∧
        t = s) ∧
    (∀ (s : State) (m : AttonMsg) (rest : List AttonMsg) (u : Nat),
      s.gran.inbox = m :: rest →
      s.attonUp = true →
      m.wellFormed = true →
      s.attonHere m = false →
      m.back.via = 0 →
      m.reserved = 0 →
      m.bytes.length ≤ 1016 →
      s.tunnelLinks m.node none = [u] →
      (((s.link u).queue ++ tunnelMsgs m.node s.crem.node s.crem.tunnelId m.bytes).map CremTx.size).sum ≤ 65536 →
      ∃ t, Sys2Proof.Machine.exec (.attonForward) s = .next t ∧
        (t.link u).queue = (s.link u).queue ++ tunnelMsgs m.node s.crem.node s.crem.tunnelId m.bytes ∧
        (tunnelMsgs m.node s.crem.node s.crem.tunnelId m.bytes).length = 1 ∧
        t.gran.returns.getLast? = some { node := m.node, sender := m.sender, back := m.back, used := s.tc.cyc } ∧
        t.gran.inbox = rest ∧
        t.crem.tunnelId = (s.crem.tunnelId + 1) % 65536 ∧
        t.gran = { s.gran with inbox := t.gran.inbox, returns := t.gran.returns } ∧
        t.valN Obj.atton_forwarded  = min (s.valN Obj.atton_forwarded  + 1) (2 ^ 64 - 1) ∧
        (∀ k : Nat, k ≠ u → t.link k = s.link k) ∧
        t = { s with gran := t.gran, crem := t.crem, dict := t.dict } ∧
        SameDict s t [Obj.atton_forwarded.key 0 0]) ∧
    (∀ (s : State) (u : Sub) (b : Bytes),
      s.gran.draining = [] →
      s.gran.subs = [u] →
      s.gran.assocs = [] →
      u.dueAt ≠ 0 →
      u.owner = 64 →
      s.gran.spiNotify.length < 16 →
      State.readEntries u.level 64 1347 u.entries ({ s with gran := { s.gran with subs := [{ u with dueAt := 0 }] } } : State) = ({ s with gran := { s.gran with subs := [{ u with dueAt := 0 }] } }, b) →
      ∃ t, Sys2Proof.Machine.exec (.notify) s = .next t ∧
        t.gran.spiNotify = s.gran.spiNotify ++ [s.attonBuild 6 u.level u.sender 0xFF (s.gran.spiOut + 1) 0 (beBytes 2 u.ident ++ beBytes 8 s.tc.tickSec ++ beBytes 2 s.tc.tickNo ++ beBytes 1 u.entries.length ++ b)] ∧
        t.gran.spiOut = s.gran.spiOut + 1 ∧
        t.gran.subs = [{ u with dueAt := 0 }] ∧
        t.gran = { s.gran with spiNotify := t.gran.spiNotify, spiOut := t.gran.spiOut, subs := t.gran.subs } ∧
        t = { s with gran := t.gran }) ∧
    (∀ (s : State),
      s.gran.draining = [] →
      s.gran.subs = [] →
      s.gran.assocs = [] →
      ∃ t, Sys2Proof.Machine.exec (.notify) s = .next t ∧
        t = s) ∧
    (∀ (s : State) (u v : Sub),
      s.gran.subs = [u, v] →
      s.passed u.since (u.life * oneSec) = true →
      s.passed v.since (v.life * oneSec) = false →
      ∃ t, Sys2Proof.Machine.exec (.subscriptionExpire) s = .next t ∧
        t.gran = { s.gran with subs := [v] } ∧
        t = { s with gran := t.gran }) ∧
    (∀ (s : State) (u v : RetRec),
      s.gran.returns = [u, v] →
      s.passed u.used (3600 * oneSec) = true →
      s.passed v.used (3600 * oneSec) = false →
      ∃ t, Sys2Proof.Machine.exec (.returnRecordExpire) s = .next t ∧
        t.gran = { s.gran with returns := [v] } ∧
        t = { s with gran := t.gran }) ∧
    (∀ (s : State) (msg : Bytes),
      s.attonUp = true →
      s.gran.spiResp = none →
      s.gran.inbox.length < 64 →
      ∃ t, Sys2Proof.Machine.exec (.send msg) s = .next t ∧
        t.gran = { s.gran with inbox := s.gran.inbox ++ [{ bytes := msg }], spiMiso := zeros msg.length } ∧
        t = { s with gran := t.gran }) ∧
    (∀ (s : State) (msg b : Bytes),
      s.attonUp = true →
      s.gran.spiResp = some b →
      ∃ t, Sys2Proof.Machine.exec (.send msg) s = .next t ∧
        t.gran = { s.gran with spiMiso := zeros msg.length } ∧
        t = { s with gran := t.gran }) ∧
    (∀ (s : State) (msg : Bytes),
      s.attonUp = true →
      s.gran.spiResp = none →
      64 ≤ s.gran.inbox.length →
      ∃ t, Sys2Proof.Machine.exec (.send msg) s = .next t ∧
        t.gran = { s.gran with spiMiso := zeros msg.length } ∧
        t.valN Obj.atton_rx_drop  = min (s.valN Obj.atton_rx_drop  + 1) (2 ^ 64 - 1) ∧
        t = { s with gran := t.gran, dict := t.dict } ∧
        SameDict s t [Obj.atton_rx_drop.key 0 0]) ∧
    (∀ (s : State) (b : Bytes),
      s.attonUp = true →
      s.gran.spiResp = some b →
      s.effT Obj.spi_lock = false →
      ∃ t, Sys2Proof.Machine.exec (.status) s = .next t ∧
        (t.gran = { s.gran with spiMiso := [0] ++ beBytes 4 (5 + (if s.gran.spiNotify = [] then 0 else 2) + b.length * 65536) }) ∧
        t = { s with gran := t.gran }) ∧
    (∀ (s : State),
      s.attonUp = true →
      s.gran.spiResp = none →
      s.gran.spiNotify = [] →
      s.effT Obj.spi_lock = false →
      ∃ t, Sys2Proof.Machine.exec (.status) s = .next t ∧
        t.gran = { s.gran with spiMiso := zeros 5 } ∧
        t = { s with gran := t.gran }) ∧
    (∀ (s : State) (b : Bytes),
      s.attonUp = true →
      s.gran.spiResp = some b →
      ∃ t, Sys2Proof.Machine.exec (.fetch) s = .next t ∧
        t.gran = { s.gran with spiResp := none, spiMiso := [0] ++ b } ∧
        t = { s with gran := t.gran }) ∧
    (∀ (s : State) (b : Bytes) (l : List Bytes),
      s.attonUp = true →
      s.gran.spiResp = none →
      s.gran.spiNotify = b :: l →
      ∃ t, Sys2Proof.Machine.exec (.fetch) s = .next t ∧
        t.gran = { s.gran with spiNotify := l, spiMiso := [0] ++ b } ∧
        t = { s with gran := t.gran }) ∧
    (∀ (s : State) (cmd : Byte),
      s.attonUp = true →
      cmd ≠ 1 →
      cmd ≠ 2 →
      cmd ≠ 3 →
      ∃ t, Sys2Proof.Machine.exec (.spiBadCommand cmd) s = .next t ∧
        t.gran = { s.gran with spiMiso := [] } ∧
        t.valN Obj.spi_bad_command  = min (s.valN Obj.spi_bad_command  + 1) (2 ^ 64 - 1) ∧
        t = { s with gran := t.gran, dict := t.dict } ∧
        SameDict s t [Obj.spi_bad_command.key 0 0]) ∧
    (∀ (s : State) (c : Instr) (msg : Bytes) (cmd : Byte),
      s.attonUp = false →
      c ∈ [Instr.send msg, .status, .fetch, .spiBadCommand cmd] →
      ∃ t, Sys2Proof.Machine.exec c s = .next t ∧
        t = s) ∧
    (∀ (s : State) (index sub : Nat),
      (match s.objPresent index sub with | some o => o.row.acc == .rc && !o.twin && !([0x2120, 0x410C, 0x4188, 0x800A].contains o.row.base) && o.row.key o.i o.j == keyOf index sub | none => false) = true →
      ∃ t, Sys2Proof.Machine.exec (.counterReadClear index sub) s = .next t ∧
        (match s.objPresent index sub with | some o => decide (t.val o.row o.i o.j = o.row.dflt s.dev o.i o.j) && decide (t.gran.lastRead = [(keyOf index sub, s.lookOctets pathInternal o)]) | none => false) = true ∧
        t.gran = { s.gran with lastRead := t.gran.lastRead } ∧
        t.elec = { s.elec with faultN := t.elec.faultN, irqN := t.elec.irqN } ∧
        t = { s with gran := t.gran, dict := t.dict, elec := t.elec } ∧
        SameDict s t [keyOf index sub]) ∧
    (∀ (s : State) (index sub : Nat),
      (match s.objPresent index sub with | some o => o.row.acc != .rc || o.twin | none => true) = true →
      ∃ t, Sys2Proof.Machine.exec (.counterReadClear index sub) s = .next t ∧
        t = s)

/-- WRITE, BUNDLE_WRITE, STORE and RESTORE_DEFAULTS stage and answer; refusals stage nothing; a staging close holds them; STORE_COMPLETE ends a STORE -/
def Obligations.AttonWrites : Prop :=
    (∀ (s : State) (m : AttonMsg) (rest : List AttonMsg) (e : WriteEntry),
      s.gran.inbox = m :: rest →
      s.attonUp = true →
      m.wellFormed = true →
      s.attonHere m = true →
      s.attonWaits m = false →
      m.passed = none →
      m.back.via = 0 →
      m.reserved = 0 →
      s.effT Obj.spi_lock = false →
      m.op = 2 →
      parseWrites 1 m.body = some [e] →
      Passes s m.level e →
      ∃ t, Sys2Proof.Machine.exec (.write) s = .next t ∧
        t.gran.spiResp = some (s.attonBuild 2 m.level m.sender m.node m.seq 1 (beBytes 4 (s.valN Obj.gran_handle + 1) ++ beBytes 8 (tickIdent (s.setTod (s.target [e]).1)).1 ++ beBytes 2 (tickIdent (s.setTod (s.target [e]).1)).2)) ∧
        t.gran.inbox = rest ∧
        ((t.sets[(s.target [e]).1]?.map fun c => c.items.getLast?) = some (some { handle := (s.valN Obj.gran_handle + 1), bundle := false, entries := [e], level := m.level, path := 64 })) ∧
        t.valN Obj.gran_handle = (s.valN Obj.gran_handle + 1) ∧
        t = { s with gran := t.gran, dict := t.dict } ∧
        SameDict s t [Obj.gran_handle.key 0 0, Obj.gran_deferred.key 0 0]) ∧
    (∀ (s : State) (m : AttonMsg) (rest : List AttonMsg) (e : WriteEntry) (st : Nat),
      s.gran.inbox = m :: rest →
      s.attonUp = true →
      m.wellFormed = true →
      s.attonHere m = true →
      s.attonWaits m = false →
      m.passed = none →
      m.back.via = 0 →
      m.reserved = 0 →
      s.effT Obj.spi_lock = false →
      m.op = 2 →
      parseWrites 1 m.body = some [e] →
      s.noStaging = false →
      s.boot.recovery = false →
      (match s.checkWrite m.level e.index e.sub e.value with | .error x => x == st | _ => false) = true →
      16 ≤ st →
      st < 24 →
      ∃ t, Sys2Proof.Machine.exec (.write) s = .next t ∧
        t.gran.spiResp = some (s.attonBuild 2 m.level m.sender m.node m.seq st (beBytes 2 e.index ++ beBytes 1 e.sub)) ∧
        t.gran.inbox = rest ∧
        t.valN Obj.gran_refused  = min (s.valN Obj.gran_refused  + 1) (2 ^ 64 - 1) ∧
        t.gran = { s.gran with inbox := t.gran.inbox, spiResp := t.gran.spiResp } ∧
        t = { s with gran := t.gran, dict := t.dict } ∧
        SameDict s t [Obj.gran_refused.key 0 0]) ∧
    (∀ (s : State) (m : AttonMsg) (rest : List AttonMsg) (es : List WriteEntry),
      s.gran.inbox = m :: rest →
      s.attonUp = true →
      m.wellFormed = true →
      s.attonHere m = true →
      s.attonWaits m = false →
      m.passed = none →
      m.back.via = 0 →
      m.reserved = 0 →
      s.effT Obj.spi_lock = false →
      m.op = 3 →
      1 ≤ octet m.body 0 →
      octet m.body 0 ≤ 64 →
      parseWrites (octet m.body 0) (m.body.drop 1) = some es →
      s.noStaging = false →
      s.boot.recovery = false →
      (match s.bundleEntries m.level [] es with | .ok os => (s.checkRules (s.projected (s.target es).1 os) os).isNone | .error _ => false) = true →
      ∃ t, Sys2Proof.Machine.exec (.bundleWrite) s = .next t ∧
        t.gran.spiResp = some (s.attonBuild 3 m.level m.sender m.node m.seq 1 (beBytes 4 (s.valN Obj.gran_handle + 1) ++ beBytes 8 (tickIdent (s.setTod (s.target es).1)).1 ++ beBytes 2 (tickIdent (s.setTod (s.target es).1)).2)) ∧
        t.gran.inbox = rest ∧
        ((t.sets[(s.target es).1]?.map fun c => c.items.getLast?) = some (some { handle := (s.valN Obj.gran_handle + 1), bundle := true, entries := es, level := m.level, path := 64 })) ∧
        t.valN Obj.gran_handle = (s.valN Obj.gran_handle + 1) ∧
        t = { s with gran := t.gran, dict := t.dict } ∧
        SameDict s t [Obj.gran_handle.key 0 0, Obj.gran_deferred.key 0 0]) ∧
    (∀ (s : State) (m : AttonMsg) (rest : List AttonMsg),
      s.gran.inbox = m :: rest →
      s.attonUp = true →
      m.wellFormed = true →
      s.attonHere m = true →
      m.passed = none →
      m.back.via = 0 →
      m.reserved = 0 →
      s.effT Obj.spi_lock = false →
      m.op = 3 →
      s.attonWaits m = true →
      ∃ t, Sys2Proof.Machine.exec (.bundleWrite) s = .next t ∧
        t.gran = { s.gran with inbox := rest, held := s.gran.held ++ [{ m with passed := some 64 }] } ∧
        t = { s with gran := t.gran }) ∧
    (∀ (s : State) (m : AttonMsg) (rest : List AttonMsg),
      s.gran.inbox = m :: rest →
      s.attonUp = true →
      m.wellFormed = true →
      s.attonHere m = true →
      s.attonWaits m = false →
      m.passed = none →
      m.back.via = 0 →
      m.reserved = 0 →
      s.effT Obj.spi_lock = false →
      m.op = 7 →
      m.body = [] →
      2 ≤ m.level →
      s.noStaging = false →
      s.boot.recovery = false →
      s.gran.storeNext = none →
      ∃ t, Sys2Proof.Machine.exec (.store) s = .next t ∧
        t.gran.spiResp = some (s.attonBuild 7 m.level m.sender m.node m.seq 1 (beBytes 4 (s.valN Obj.gran_handle + 1))) ∧
        t.gran.inbox = rest ∧
        t.gran.storeNext = some { handle := (s.valN Obj.gran_handle + 1) } ∧
        t.valN Obj.gran_handle = (s.valN Obj.gran_handle + 1) ∧
        t.gran = { s.gran with inbox := t.gran.inbox, spiResp := t.gran.spiResp, storeNext := t.gran.storeNext, handles := t.gran.handles } ∧
        t = { s with gran := t.gran, dict := t.dict } ∧
        SameDict s t [Obj.gran_handle.key 0 0]) ∧
    (∀ (s : State) (m : AttonMsg) (rest : List AttonMsg) (j : StoreJob),
      s.gran.inbox = m :: rest →
      s.attonUp = true →
      m.wellFormed = true →
      s.attonHere m = true →
      s.attonWaits m = false →
      m.passed = none →
      m.back.via = 0 →
      m.reserved = 0 →
      s.effT Obj.spi_lock = false →
      m.op = 7 →
      m.body = [] →
      2 ≤ m.level →
      s.noStaging = false →
      s.boot.recovery = false →
      s.gran.storeNext = some j →
      ∃ t, Sys2Proof.Machine.exec (.store) s = .next t ∧
        t.gran.spiResp = some (s.attonBuild 7 m.level m.sender m.node m.seq 1 (beBytes 4 j.handle)) ∧
        t.gran.inbox = rest ∧
        t.gran = { s.gran with inbox := t.gran.inbox, spiResp := t.gran.spiResp } ∧
        t = { s with gran := t.gran }) ∧
    (∀ (s : State) (m : AttonMsg) (rest : List AttonMsg),
      s.gran.inbox = m :: rest →
      s.attonUp = true →
      m.wellFormed = true →
      s.attonHere m = true →
      s.attonWaits m = false →
      m.passed = none →
      m.back.via = 0 →
      m.reserved = 0 →
      s.effT Obj.spi_lock = false →
      m.op = 7 →
      m.body = [] →
      m.level = 1 →
      ∃ t, Sys2Proof.Machine.exec (.store) s = .next t ∧
        t.gran.spiResp = some (s.attonBuild 7 m.level m.sender m.node m.seq 0x12 ([])) ∧
        t.gran.inbox = rest ∧
        t.gran = { s.gran with inbox := t.gran.inbox, spiResp := t.gran.spiResp } ∧
        t = { s with gran := t.gran }) ∧
    (∀ (s : State) (m : AttonMsg) (rest : List AttonMsg) (k : Nat),
      s.gran.inbox = m :: rest →
      s.attonUp = true →
      m.wellFormed = true →
      s.attonHere m = true →
      s.attonWaits m = false →
      m.passed = none →
      m.back.via = 0 →
      m.reserved = 0 →
      s.effT Obj.spi_lock = false →
      m.op = 8 →
      m.body = [] →
      m.level = 3 →
      s.noStaging = false →
      s.boot.recovery = false →
      (s.sets.takeWhile fun c => c.restore.isSome).length = k →
      ∃ t, Sys2Proof.Machine.exec (.restoreDefaults) s = .next t ∧
        t.gran.spiResp = some (s.attonBuild 8 m.level m.sender m.node m.seq 1 (beBytes 4 (s.valN Obj.gran_handle + 1) ++ beBytes 8 (tickIdent (s.setTod k)).1 ++ beBytes 2 (tickIdent (s.setTod k)).2)) ∧
        t.gran.inbox = rest ∧
        t.sets[k]? = some { restore := some (s.valN Obj.gran_handle + 1) } ∧
        t.valN Obj.gran_handle = (s.valN Obj.gran_handle + 1) ∧
        t = { s with gran := t.gran, dict := t.dict } ∧
        SameDict s t [Obj.gran_handle.key 0 0]) ∧
    (∀ (s : State) (j : StoreJob),
      s.gran.store = some j →
      j.captured = true →
      s.boot.plan.testBit planDefaults = false →
      ∃ t, Sys2Proof.Machine.exec (.storeComplete true) s = .next t ∧
        t.gran.store = none ∧
        t.valN Obj.store_state = 2 ∧
        t.valN Obj.store_generation = s.gran.journal.nextGen 0 ∧
        (∀ e ∈ t.gran.handles, e.1 = j.handle → e.2.status = 2) ∧
        t.gran = { s.gran with store := none, handles := t.gran.handles, journal := t.gran.journal } ∧
        t = { s with gran := t.gran, dict := t.dict } ∧
        SameDict s t [Obj.store_state.key 0 0, Obj.store_generation.key 0 0, Obj.store_last.key 0 0, Obj.store_used.key 0 0]) ∧
    (∀ (s : State) (j : StoreJob),
      s.gran.store = some j →
      j.captured = true →
      ∃ t, Sys2Proof.Machine.exec (.storeComplete false) s = .next t ∧
        t.gran.store = none ∧
        t.valN Obj.store_state = 3 ∧
        RaisedAs s t 282 {} ∧
        (CanRaise s 282 → t.win.now = s.win.now ++ [(282, ({} : FaultInfo))] ∧ (vat t.win.srcs 282 {}).active = true) ∧
        t.fresh = s.fresh + 4 ∧
        (∀ e ∈ t.gran.handles, e.1 = j.handle → e.2.status = 0x20) ∧
        t.gran = { s.gran with store := none, handles := t.gran.handles, journal := t.gran.journal } ∧
        t = { s with gran := t.gran, win := t.win, dict := t.dict, fresh := t.fresh } ∧
        SameDict s t ([Obj.store_state.key 0 0, Obj.store_used.key 0 0] ++ raiseKeys 282)) ∧
    (∀ (s : State) (ok : Bool),
      (match s.gran.store with | some j => j.captured | none => false) = false →
      ∃ t, Sys2Proof.Machine.exec (.storeComplete ok) s = .next t ∧
        t = s)

/-- FAULT_RAISE raises, holds or loses a source; PRESENTATION counts and records it and reacts; HANDLING_END presents what was held -/
def Obligations.FaultsRaisedAndPresented : Prop :=
    (∀ (s : State) (x : Fin 320) (i : FaultInfo),
      s.boot.inReset = false →
      x.val ≠ 311 →
      ¬ (x.val = 313 ∧ s.instState = 1) →
      ¬ (100 ≤ x.val ∧ x.val < 168) →
      ¬ (211 ≤ x.val ∧ x.val ≤ 213) →
      (srcRow x.val).cond = false →
      CanRaise s x.val →
      ∃ t, Sys2Proof.Machine.exec (.faultRaise x i) s = .next t ∧
        Raised s t x.val i ∧
        t.valN Obj.win_src_state x.val = s.valN Obj.win_src_state x.val ||| 8 ∧
        t = { s with win := t.win, dict := t.dict } ∧
        SameDict s t [srcKey x.val]) ∧
    (∀ (s : State) (x : Fin 320) (i : FaultInfo),
      s.boot.inReset = false →
      x.val ≠ 311 →
      ¬ (x.val = 313 ∧ s.instState = 1) →
      ¬ (100 ≤ x.val ∧ x.val < 168) →
      ¬ (211 ≤ x.val ∧ x.val ≤ 213) →
      (srcRow x.val).cond = true →
      (vat s.win.srcs x.val {}).cond = false →
      CanRaise s x.val →
      ∃ t, Sys2Proof.Machine.exec (.faultRaise x i) s = .next t ∧
        Raised s t x.val i ∧
        (vat t.win.srcs x.val {}).cond = true ∧
        t.valN Obj.win_src_state x.val = s.valN Obj.win_src_state x.val ||| 8 ∧
        t = { s with win := t.win, dict := t.dict } ∧
        SameDict s t [srcKey x.val]) ∧
    (∀ (s : State) (x : Fin 320) (i : FaultInfo) (p : Nat),
      s.boot.inReset = false →
      x.val ≠ 311 →
      ¬ (x.val = 313 ∧ s.instState = 1) →
      x.val = 211 + p →
      p < 3 →
      (s.pair p).fenced = false →
      CanRaise s x.val →
      ∃ t, Sys2Proof.Machine.exec (.faultRaise x i) s = .next t ∧
        Raised s t x.val i ∧
        t.pair p = { s.pair p with blocked := true } ∧
        (∀ k : Nat, k ≠ p → t.pair k = s.pair k) ∧
        t.stew = { s.stew with pairs := t.stew.pairs } ∧
        t = { s with win := t.win, dict := t.dict, stew := t.stew } ∧
        SameDict s t [srcKey x.val]) ∧
    (∀ (s : State) (x : Fin 320) (i : FaultInfo),
      s.boot.inReset = false →
      x.val ≠ 311 →
      ¬ (x.val = 313 ∧ s.instState = 1) →
      ¬ (100 ≤ x.val ∧ x.val < 168) →
      ¬ (211 ≤ x.val ∧ x.val ≤ 213) →
      (srcRow x.val).cond = false →
      (x.val < 168 ∧ 32 ≤ x.val → s.win.bankLost.contains ((x.val - 32) % 68) = false) →
      s.win.busy = true ∨ s.win.heartLost = true →
      s.mask x.val &&& 0x0C ≠ 0 →
      (s.win.held.any fun h => h.1 == x.val) = false →
      ∃ t, Sys2Proof.Machine.exec (.faultRaise x i) s = .next t ∧
        t.win.held = s.win.held ++ [(x.val, i)] ∧
        (vat t.win.srcs x.val {}).active = true ∧
        t.win = { s.win with held := t.win.held, srcs := t.win.srcs } ∧
        t = { s with win := t.win, dict := t.dict } ∧
        SameDict s t [srcKey x.val]) ∧
    (∀ (s : State) (x : Fin 320) (i : FaultInfo),
      s.boot.inReset = false →
      x.val ≠ 311 →
      ¬ (x.val = 313 ∧ s.instState = 1) →
      ¬ (100 ≤ x.val ∧ x.val < 168) →
      ¬ (211 ≤ x.val ∧ x.val ≤ 213) →
      (srcRow x.val).cond = false →
      (x.val < 168 ∧ 32 ≤ x.val → s.win.bankLost.contains ((x.val - 32) % 68) = false) →
      s.win.busy = true ∨ s.win.heartLost = true →
      s.mask x.val &&& 0x0C = 0 ∨ (s.win.held.any fun h => h.1 == x.val) = true →
      ∃ t, Sys2Proof.Machine.exec (.faultRaise x i) s = .next t ∧
        t.valN Obj.win_lost = min (s.valN Obj.win_lost + 1) (2 ^ 16 - 1) ∧
        t.valN Obj.win_status = s.valN Obj.win_status ||| 1 ∧
        t = { s with dict := t.dict } ∧
        SameDict s t [Obj.win_lost.key 0 0, Obj.win_status.key 0 0]) ∧
    (∀ (s : State) (x : Fin 320) (i : FaultInfo) (b : Nat),
      s.boot.inReset = false →
      x.val ≠ 311 →
      ¬ (x.val = 313 ∧ s.instState = 1) →
      x.val = 100 + b →
      b < 68 →
      vat s.win.ce b 0 + 1 < s.effN Obj.win_ce_threshold ∨ vat s.win.ceRaised b false = true →
      ∃ t, Sys2Proof.Machine.exec (.faultRaise x i) s = .next t ∧
        vat t.win.ce b 0 = vat s.win.ce b 0 + 1 ∧
        (∀ k : Nat, k ≠ b → vat t.win.ce k 0 = vat s.win.ce k 0) ∧
        (t.tithe = (s.tally (31 + if b < 64 then b / 16 else b - 64) 3 1).tithe) ∧
        t.win = { s.win with ce := t.win.ce } ∧
        t = { s with win := t.win, tithe := t.tithe }) ∧
    (∀ (s : State) (x : Fin 320) (i : FaultInfo) (b : Nat),
      s.boot.inReset = false →
      x.val ≠ 311 →
      ¬ (x.val = 313 ∧ s.instState = 1) →
      x.val = 100 + b →
      b < 68 →
      s.effN Obj.win_ce_threshold ≤ vat s.win.ce b 0 + 1 →
      vat s.win.ceRaised b false = false →
      s.win.bankLost.contains b = false →
      s.win.busy = false →
      s.win.heartLost = false →
      (s.win.now.any fun h => h.1 == x.val) = false →
      ∃ t, Sys2Proof.Machine.exec (.faultRaise x i) s = .next t ∧
        vat t.win.ce b 0 = vat s.win.ce b 0 + 1 ∧
        (∀ k : Nat, k ≠ b → vat t.win.ce k 0 = vat s.win.ce k 0) ∧
        (t.tithe = (s.tally (31 + if b < 64 then b / 16 else b - 64) 3 1).tithe) ∧
        vat t.win.ceRaised b false = true ∧
        (∀ k : Nat, k ≠ b → vat t.win.ceRaised k false = vat s.win.ceRaised k false) ∧
        (vat t.win.srcs x.val {}).active = true ∧
        (∀ k : Nat, k ≠ x.val → vat t.win.srcs k {} = vat s.win.srcs k {}) ∧
        t.valN Obj.win_src_state x.val = s.valN Obj.win_src_state x.val ||| 8 ∧
        t.win = { s.win with ce := t.win.ce, ceRaised := t.win.ceRaised, now := s.win.now ++ [(x.val, i)], srcs := t.win.srcs } ∧
        t = { s with win := t.win, tithe := t.tithe, dict := t.dict } ∧
        SameDict s t [srcKey x.val]) ∧
    (∀ (s : State) (x : Fin 320) (i : FaultInfo),
      s.boot.inReset = false →
      x.val ≠ 311 →
      ¬ (x.val = 313 ∧ s.instState = 1) →
      32 ≤ x.val →
      x.val < 100 →
      (srcRow x.val).cond = false →
      s.win.bankLost.contains (x.val - 32) = true →
      ∃ t, Sys2Proof.Machine.exec (.faultRaise x i) s = .next t ∧
        t = s) ∧
    (∀ (s : State) (x : Fin 320) (i : FaultInfo),
      s.boot.inReset = false →
      x.val = 313 →
      s.instState = 1 →
      ∃ t, Sys2Proof.Machine.exec (.faultRaise x i) s = .next t ∧
        t.valN Obj.install_state = 5 ∧
        t.valN Obj.install_error = 8 ∧
        t.valN Obj.install_step = 0 ∧
        RaisedAs s t 313 i ∧
        (CanRaise s 313 → t.win.now = s.win.now ++ [(313, i)]) ∧
        t = { s with win := t.win, dict := t.dict, boot := t.boot }) ∧
    (∀ (s : State) (x : Fin 320) (i : FaultInfo) (p : Nat),
      x.val = 211 + p →
      p < 3 →
      (s.pair p).fenced = true →
      ∃ t, Sys2Proof.Machine.exec (.faultRaise x i) s = .next t ∧
        t = s) ∧
    (∀ (s : State) (x : Fin 320) (i : FaultInfo),
      s.boot.inReset = true →
      ∃ t, Sys2Proof.Machine.exec (.faultRaise x i) s = .next t ∧
        t = s) ∧
    (∀ (s : State) (x : Nat) (i : FaultInfo),
      s.boot.inReset = false →
      s.boot.halted = false →
      s.win.busy = false →
      s.win.heartLost = false →
      s.win.now = [(x, i)] →
      x < 320 →
      ¬ (211 ≤ x ∧ x ≤ 213) →
      s.win.first = none →
      s.mask x = 1 →
      s.effN Obj.tithe_freeze_sev = 0xFF →
      ∃ t, Sys2Proof.Machine.exec (.presentation) s = .next t ∧
        t.valN Obj.win_presentations  = min (s.valN Obj.win_presentations  + 1) (2 ^ 64 - 1) ∧
        t.valN Obj.win_src_count x = min (s.valN Obj.win_src_count x + 1) (2 ^ 32 - 1) ∧
        t.valN Obj.win_src_last x = s.stampNow ∧
        t.valN Obj.win_first_since = 0 ∧
        t.valN Obj.win_src_state x = s.valN Obj.win_src_state x ||| 2 ∧
        t.win = { s.win with now := [], busy := true, handling := [x], first := some (beBytes 2 x ++ beBytes 1 (s.severity x) ++ beBytes 1 i.access ++ beBytes 1 i.master ++ beBytes 1 1 ++ beBytes 2 i.detail ++ beBytes 8 i.addr ++ beBytes 16 s.stampNow) } ∧
        t = { s with win := t.win, dict := t.dict, elec := t.elec } ∧
        SameDict s t [Obj.win_presentations.key 0 0, Obj.win_src_count.key x 0, Obj.win_src_last.key x 0, Obj.win_first_since.key 0 0, srcKey x]) ∧
    (∀ (s : State) (x : Nat) (i : FaultInfo) (r : Bytes),
      s.boot.inReset = false →
      s.boot.halted = false →
      s.win.busy = false →
      s.win.heartLost = false →
      s.win.now = [(x, i)] →
      x < 320 →
      ¬ (211 ≤ x ∧ x ≤ 213) →
      s.win.first = some r →
      s.mask x = 0 →
      s.effN Obj.tithe_freeze_sev = 0xFF →
      ∃ t, Sys2Proof.Machine.exec (.presentation) s = .next t ∧
        t.valN Obj.win_presentations  = min (s.valN Obj.win_presentations  + 1) (2 ^ 64 - 1) ∧
        t.valN Obj.win_src_count x = min (s.valN Obj.win_src_count x + 1) (2 ^ 32 - 1) ∧
        t.valN Obj.win_src_last x = s.stampNow ∧
        t.valN Obj.win_first_since  = min (s.valN Obj.win_first_since  + 1) (2 ^ 32 - 1) ∧
        t.win = { s.win with now := [], busy := true, handling := [x] } ∧
        t = { s with win := t.win, dict := t.dict, elec := t.elec } ∧
        SameDict s t [Obj.win_presentations.key 0 0, Obj.win_src_count.key x 0, Obj.win_src_last.key x 0, Obj.win_first_since.key 0 0]) ∧
    (∀ (s : State) (x : Nat) (i : FaultInfo) (k : Nat),
      s.boot.inReset = false →
      s.boot.halted = false →
      s.win.busy = false →
      s.win.heartLost = false →
      s.win.now = [(x, i)] →
      x < 320 →
      ¬ (211 ≤ x ∧ x ≤ 213) →
      x < 16 →
      s.win.first = none →
      s.mask x = 8 →
      s.effN Obj.tithe_freeze_sev = 0xFF →
      x ∉ s.win.fenced →
      s.win.fencing = [] →
      s.win.held = [] →
      s.net.flail.jobs = [] →
      (List.range 16).find? (fun k => vat s.win.thrSlots k none == some x) = some k →
      s.win.thrSpare = [] →
      ∃ t, Sys2Proof.Machine.exec (.presentation) s = .next t ∧
        t.valN Obj.win_presentations  = min (s.valN Obj.win_presentations  + 1) (2 ^ 64 - 1) ∧
        t.valN Obj.win_src_count x = min (s.valN Obj.win_src_count x + 1) (2 ^ 32 - 1) ∧
        t.valN Obj.win_src_last x = s.stampNow ∧
        t.valN Obj.win_src_state x = s.valN Obj.win_src_state x ||| 4 ∧
        t.valN Obj.win_src_state 310 = s.valN Obj.win_src_state 310 ||| 8 ∧
        t.win = { s.win with now := [], busy := true, handling := [x], first := some (beBytes 2 x ++ beBytes 1 (s.severity x) ++ beBytes 1 i.access ++ beBytes 1 i.master ++ beBytes 1 8 ++ beBytes 2 i.detail ++ beBytes 8 i.addr ++ beBytes 16 s.stampNow), fenced := s.win.fenced ++ [x], fencing := [x], held := [(310, { detail := x })], srcs := t.win.srcs } ∧
        t = { s with win := t.win, dict := t.dict, elec := t.elec } ∧
        SameDict s t [Obj.win_presentations.key 0 0, Obj.win_src_count.key x 0, Obj.win_src_last.key x 0, Obj.win_first_since.key 0 0, srcKey x, srcKey 310]) ∧
    (∀ (s : State) (x : Nat) (i : FaultInfo),
      s.boot.inReset = false →
      s.boot.halted = false →
      s.win.busy = false →
      s.win.heartLost = false →
      s.win.now = [(x, i)] →
      x < 320 →
      ¬ (211 ≤ x ∧ x ≤ 213) →
      s.win.first = none →
      s.mask x = 0x10 →
      ∃ t, Sys2Proof.Machine.exec (.presentation) s = .next t ∧
        t.boot.inReset = true ∧
        t.boot.cause = 3 ∧
        t.win = { first := some (beBytes 2 x ++ beBytes 1 (s.severity x) ++ beBytes 1 i.access ++ beBytes 1 i.master ++ beBytes 1 0x10 ++ beBytes 2 i.detail ++ beBytes 8 i.addr ++ beBytes 16 s.stampNow) } ∧
        t.tc = {} ∧
        t.dict.eff = [] ∧
        t.dict.cfg = [] ∧
        t.mtx = {} ∧
        t.pending = s.pending) ∧
    (∀ (s : State),
      s.win.now = [] ∨ s.win.busy = true ∨ s.win.heartLost = true ∨ s.boot.inReset = true ∨ s.boot.halted = true →
      ∃ t, Sys2Proof.Machine.exec (.presentation) s = .next t ∧
        t = s) ∧
    (∀ (s : State),
      s.win.busy = true →
      s.win.heartLost = false →
      ∃ t, Sys2Proof.Machine.exec (.handlingEnd) s = .next t ∧
        t.win = { s.win with busy := false, handling := [], nmi := Vector.replicate 3 false, now := s.win.now ++ s.win.held, held := [] } ∧
        t = { s with win := t.win }) ∧
    (∀ (s : State),
      s.win.busy = false ∨ s.win.heartLost = true →
      ∃ t, Sys2Proof.Machine.exec (.handlingEnd) s = .next t ∧
        t = s) ∧
    (∀ (s : State) (x : Fin 320),
      (vat s.win.srcs x.val {}).active = true →
      (srcRow x.val).cond = false →
      (vat s.win.srcs x.val {}).activeTo ≤ s.tc.boundaries →
      ∃ t, Sys2Proof.Machine.exec (.sourceActiveExpire x) s = .next t ∧
        vat t.win.srcs x.val {} = { vat s.win.srcs x.val {} with active := false } ∧
        (∀ k : Nat, k ≠ x.val → vat t.win.srcs k {} = vat s.win.srcs k {}) ∧
        t.win = { s.win with srcs := t.win.srcs } ∧
        t = { s with win := t.win }) ∧
    (∀ (s : State) (x : Fin 320),
      s.tc.boundaries < (vat s.win.srcs x.val {}).activeTo ∨ (vat s.win.srcs x.val {}).active = false ∨ (srcRow x.val).cond = true →
      ∃ t, Sys2Proof.Machine.exec (.sourceActiveExpire x) s = .next t ∧
        t = s) ∧
    (∀ (s : State),
      s.win.heartLost = false →
      ∃ t, Sys2Proof.Machine.exec (.heartbeatWrite) s = .next t ∧
        t.win = { s.win with beatAt := s.tc.cyc } ∧
        t = { s with win := t.win }) ∧
    (∀ (s : State),
      s.win.heartLost = true →
      ∃ t, Sys2Proof.Machine.exec (.heartbeatWrite) s = .next t ∧
        t = s) ∧
    (∀ (s : State),
      s.win.heartLost = false →
      s.boot.inReset = false →
      s.passed s.win.beatAt s.beatLimit = true →
      s.win.now = [] →
      ∃ t, Sys2Proof.Machine.exec (.reeveHeartbeat) s = .next t ∧
        t.win.heartLost = true ∧
        t.win.pinLatch = true ∧
        t.win.aliveStop = true ∧
        t.elec.faultN = false ∧
        (vat t.win.srcs 311 {}).active = true ∧
        t.valN Obj.win_src_state 311 = s.valN Obj.win_src_state 311 ||| 8 ∧
        (∀ k : Nat, k ≠ 311 → vat t.win.srcs k {} = vat s.win.srcs k {}) ∧
        t.win = { s.win with heartLost := true, pinLatch := true, aliveStop := true, srcs := t.win.srcs } ∧
        t = { s with win := t.win, dict := t.dict, elec := t.elec } ∧
        SameDict s t [srcKey 311]) ∧
    (∀ (s : State),
      s.passed s.win.beatAt s.beatLimit = false ∨ s.win.heartLost = true ∨ s.boot.inReset = true →
      ∃ t, Sys2Proof.Machine.exec (.reeveHeartbeat) s = .next t ∧
        t = s) ∧
    (∀ (s : State) (k : Nat),
      (List.range 320).find? (fun k => (s.valN Obj.win_src_state k).testBit 1) = some k →
      ∃ t, Sys2Proof.Machine.exec (.winIntNext) s = .next t ∧
        t.gran = { s.gran with lastRead := [(0x800A00, beBytes 2 k)] } ∧
        t.valN Obj.win_src_state k = s.valN Obj.win_src_state k - 2 ∧
        t = { s with gran := t.gran, dict := t.dict, elec := t.elec } ∧
        SameDict s t [srcKey k]) ∧
    (∀ (s : State),
      (List.range 320).find? (fun k => (s.valN Obj.win_src_state k).testBit 1) = none →
      ∃ t, Sys2Proof.Machine.exec (.winIntNext) s = .next t ∧
        t.gran = { s.gran with lastRead := [(0x800A00, [0xFF, 0xFF])] } ∧
        t = { s with gran := t.gran })

/-- FENCE_COMPLETE isolates a unit and schedules its spare, or degrades; a fenced pair hands its role to the standby; PAIR_RELOAD_DONE brings it back -/
def Obligations.FencesAndPairs : Prop :=
    (∀ (s : State) (x : Fin 320) (k : Nat),
      x.val < 16 →
      s.win.busy = false →
      s.win.fencing = [x.val] →
      s.win.resetting = [] →
      s.net.flail.jobs = [] →
      (List.range 16).find? (fun k => vat s.win.thrSlots k none == some x.val) = some k →
      s.win.thrPend.length < (s.win.thrSpare.filter fun n => n != x.val).length →
      ∃ t, Sys2Proof.Machine.exec (.fenceComplete x) s = .next t ∧
        vat t.win.thrSlots k none = none ∧
        (∀ m : Nat, m ≠ k → vat t.win.thrSlots m none = vat s.win.thrSlots m none) ∧
        (t.win = { s.win with fencing := [], thrSlots := t.win.thrSlots, thrSpare := s.win.thrSpare.filter fun n => n != x.val, thrPend := s.win.thrPend ++ [k] }) ∧
        t = { s with win := t.win }) ∧
    (∀ (s : State) (x : Fin 320) (k : Nat),
      x.val < 16 →
      s.win.busy = false →
      s.win.fencing = [x.val] →
      s.win.resetting = [] →
      s.net.flail.jobs = [] →
      (List.range 16).find? (fun k => vat s.win.thrSlots k none == some x.val) = some k →
      s.win.thrSpare = [] →
      ∃ t, Sys2Proof.Machine.exec (.fenceComplete x) s = .next t ∧
        vat t.win.thrSlots k none = none ∧
        (∀ m : Nat, m ≠ k → vat t.win.thrSlots m none = vat s.win.thrSlots m none) ∧
        t.win.degPend = s.win.degPend ||| 2 ∧
        t.win = { s.win with fencing := [], thrSlots := t.win.thrSlots, degPend := t.win.degPend } ∧
        t = { s with win := t.win }) ∧
    (∀ (s : State) (x : Fin 320) (p n : Nat) (rest : List Nat),
      x.val = 16 + p →
      p < 10 →
      s.win.busy = false →
      s.win.fencing = [x.val] →
      s.win.resetting = [] →
      s.net.flail.jobs = [] →
      s.win.aesSpare = n :: rest →
      p ∉ s.win.aesSpare →
      p ∈ s.win.aesActive →
      ∃ t, Sys2Proof.Machine.exec (.fenceComplete x) s = .next t ∧
        (t.win = { s.win with fencing := [], aesActive := s.win.aesActive.map fun k => if k = p then n else k, aesSpare := rest, degPend := s.win.degPend ||| 4 }) ∧
        t = { s with win := t.win }) ∧
    (∀ (s : State) (x : Fin 320) (p r : Nat),
      x.val = 211 + p →
      p < 3 →
      s.win.busy = false →
      s.win.fencing = [x.val] →
      s.win.resetting = [] →
      (s.pair p).role = r →
      r = 1 ∨ r = 2 →
      (s.roleAt 3).isSome = true →
      s.stew.takeover = [] →
      (s.pair p).done = true →
      s.roleAt r = some p →
      ∃ t, Sys2Proof.Machine.exec (.fenceComplete x) s = .next t ∧
        t.stew.takeover = [r] ∧
        t.pair p = { s.pair p with fenced := true, loading := false, ret := false } ∧
        (∀ k : Nat, k ≠ p → t.pair k = s.pair k) ∧
        (t.stew = { s.stew with pairs := t.stew.pairs, takeover := [r], sa := if r = 1 then s.saRole else s.stew.sa, sb := if r = 1 then s.stew.sb else s.sbRole }) ∧
        t.tithe = (s.tally (57 + p) 4 1).tithe ∧
        t.win = { s.win with fencing := [] } ∧
        t = { s with win := t.win, stew := t.stew, tithe := t.tithe }) ∧
    (∀ (s : State) (x : Fin 320) (p r : Nat),
      x.val = 211 + p →
      p < 3 →
      s.win.busy = false →
      s.win.fencing = [x.val] →
      s.win.resetting = [] →
      (s.pair p).role = r →
      r = 1 ∨ r = 2 →
      (s.roleAt 3).isSome = true →
      s.stew.takeover = [] →
      (s.pair p).done = false →
      ∃ t, Sys2Proof.Machine.exec (.fenceComplete x) s = .next t ∧
        t.pair p = { s.pair p with fenced := true, loading := false, ret := false } ∧
        (∀ k : Nat, k ≠ p → t.pair k = s.pair k) ∧
        t.stew = { s.stew with pairs := t.stew.pairs, takeover := [r] } ∧
        t.win = { s.win with fencing := [] } ∧
        (t = { (if r = 1 then s.resumeSa else s.resumeSb) with stew := t.stew, win := t.win })) ∧
    (∀ (s : State) (x : Fin 320) (p r : Nat),
      x.val = 211 + p →
      p < 3 →
      s.win.busy = false →
      s.win.fencing = [x.val] →
      s.win.resetting = [] →
      (s.pair p).role = r →
      r = 1 ∨ r = 2 →
      s.roleAt 3 = none ∨ s.stew.takeover ≠ [] →
      r ∉ s.stew.halted →
      (s.pair p).done = true →
      s.roleAt r = some p →
      ∃ t, Sys2Proof.Machine.exec (.fenceComplete x) s = .next t ∧
        t.stew.halted = s.stew.halted ++ [r] ∧
        (t.pair p).fenced = true ∧
        (∀ k : Nat, k ≠ p → t.pair k = s.pair k) ∧
        t.stew = { s.stew with pairs := t.stew.pairs, halted := t.stew.halted, sa := t.stew.sa, sb := t.stew.sb } ∧
        t.win = { s.win with fencing := [] } ∧
        t = { s with win := t.win, stew := t.stew, tithe := t.tithe }) ∧
    (∀ (s : State) (x : Fin 320),
      s.win.busy = true →
      ∃ t, Sys2Proof.Machine.exec (.fenceComplete x) s = .next t ∧
        t = s) ∧
    (∀ (s : State) (x : Fin 320),
      s.win.busy = false →
      s.win.fencing = [] →
      s.win.resetting = [x.val] →
      (srcRow x.val).block = .rng →
      ∃ t, Sys2Proof.Machine.exec (.fenceComplete x) s = .next t ∧
        t.win = { s.win with resetting := [] } ∧
        t = { s with win := t.win }) ∧
    (∀ (s : State) (x : Fin 320),
      x.val ∉ s.win.fencing →
      x.val ∉ s.win.resetting →
      ∃ t, Sys2Proof.Machine.exec (.fenceComplete x) s = .next t ∧
        t = s) ∧
    (∀ (s : State) (p : Fin 3) (ok : Bool),
      (s.pair p.val).fenced = true →
      (s.pair p.val).dead = false →
      211 + p.val ∉ s.win.fencing →
      ∃ t, Sys2Proof.Machine.exec (.pairReloadDone p ok) s = .next t ∧
        t.pair p.val = { s.pair p.val with ret := ok, dead := !ok } ∧
        (∀ k : Nat, k ≠ p.val → t.pair k = s.pair k) ∧
        t.stew = { s.stew with pairs := t.stew.pairs } ∧
        t = { s with stew := t.stew }) ∧
    (∀ (s : State) (p : Fin 3) (ok : Bool),
      (s.pair p.val).fenced = false ∨ (s.pair p.val).dead = true ∨ 211 + p.val ∈ s.win.fencing →
      ∃ t, Sys2Proof.Machine.exec (.pairReloadDone p ok) s = .next t ∧
        t = s)

/-- Matrix requests are decoded whole, split, granted by priority and answered; SRAM keeps what is written; errors are counted and raised -/
def Obligations.MatrixRequestsAndResponses : Prop :=
    (∀ (s : State) (r : MatrixIn) (g : Nat),
      s.boot.inReset = false →
      (r.master.val = 9 → s.elec.jtag = true) →
      1 ≤ r.len →
      r.len ≤ 2048 →
      (r.kind.val = 1 → r.data.length = r.len) →
      s.decodeAddr r.master.val r.kind.val r.addr r.len = some g →
      r.addr % 256 + r.len ≤ 256 →
      ∃ t, Sys2Proof.Machine.exec (.matrixRequest r) s = .next t ∧
        t.mtx = { s.mtx with nextReq := s.mtx.nextReq + 1, nextId := s.mtx.nextId + 1, pieces := s.mtx.pieces ++ [{ id := s.mtx.nextId, req := s.mtx.nextReq, master := r.master.val, target := g, addr := r.addr, len := r.len, kind := r.kind.val, data := r.data.take r.len }] } ∧
        t = { s with mtx := t.mtx }) ∧
    (∀ (s : State) (r : MatrixIn) (g : Nat),
      s.boot.inReset = false →
      (r.master.val = 9 → s.elec.jtag = true) →
      1 ≤ r.len →
      r.len ≤ 2048 →
      (r.kind.val = 1 → r.data.length = r.len) →
      s.decodeAddr r.master.val r.kind.val r.addr r.len = some g →
      ∃ t, Sys2Proof.Machine.exec (.matrixRequest r) s = .next t ∧
        (t.mtx = { s.mtx with nextReq := s.mtx.nextReq + 1, nextId := s.mtx.nextId + (splitLines 9 r.addr r.len).length, pieces := s.mtx.pieces ++ (splitLines 9 r.addr r.len).zipIdx.map fun e => { id := s.mtx.nextId + e.2, req := s.mtx.nextReq, master := r.master.val, target := g, addr := e.1.1, len := e.1.2, kind := r.kind.val, data := slice r.data (e.1.1 - r.addr) e.1.2 } }) ∧
        t = { s with mtx := t.mtx }) ∧
    (∀ (s : State) (r : MatrixIn),
      s.boot.inReset = false →
      (r.master.val = 9 → s.elec.jtag = true) →
      1 ≤ r.len →
      r.len ≤ 2048 →
      (r.kind.val = 1 → r.data.length = r.len) →
      s.decodeAddr r.master.val r.kind.val r.addr r.len = none →
      ∃ t, Sys2Proof.Machine.exec (.matrixRequest r) s = .next t ∧
        t.valN Obj.mtx_decode_errors  = min (s.valN Obj.mtx_decode_errors  + 1) (2 ^ 64 - 1) ∧
        t.valN Obj.mtx_error_responses  = min (s.valN Obj.mtx_error_responses  + 1) (2 ^ 64 - 1) ∧
        (t.mtx = { s.mtx with nextReq := s.mtx.nextReq + 1, delivered := s.mtx.delivered ++ [{ req := s.mtx.nextReq, master := r.master.val, error := true, data := if r.kind.val = 1 then [] else zeros r.len }] }) ∧
        RaisedAs s t (283) { access := r.kind.val + 1, master := r.master.val, addr := r.addr } ∧
        (CanRaise s (283) → t.win.now = s.win.now ++ [(283, ({ access := r.kind.val + 1, master := r.master.val, addr := r.addr } : FaultInfo))] ∧ (vat t.win.srcs (283) {}).active = true) ∧
        t = { s with mtx := t.mtx, win := t.win, dict := t.dict } ∧
        SameDict s t ([Obj.mtx_decode_errors.key 0 0, Obj.mtx_error_responses.key 0 0] ++ raiseKeys (283))) ∧
    (∀ (s : State) (r : MatrixIn),
      s.boot.inReset = true ∨ (r.master.val = 9 ∧ s.elec.jtag = false) ∨ r.len = 0 ∨ 2048 < r.len ∨ (r.kind.val = 1 ∧ r.data.length ≠ r.len) →
      ∃ t, Sys2Proof.Machine.exec (.matrixRequest r) s = .next t ∧
        t = s) ∧
    (∀ (s : State) (g : Fin 9) (m : Nat) (p : Piece),
      ((s.effB Obj.mtx_priority g.val).map fun b => b.toNat).find? (fun m => (s.eligiblePiece g.val m).isSome) = some m →
      s.eligiblePiece g.val m = some p →
      s.grantsNow g.val < 2 →
      ∃ t, Sys2Proof.Machine.exec (.matrixGrant g) s = .next t ∧
        (t.mtx.pieces = s.mtx.pieces.map fun q => if q.id = p.id then { q with granted := true, grantAt := s.tc.cyc } else q) ∧
        (t.mtx.peak = vmod s.mtx.peak p.master fun k => max k (t.outstanding p.master)) ∧
        (t.mtx = { s.mtx with pieces := t.mtx.pieces, peak := t.mtx.peak, grants := vmod s.mtx.grants g.val fun _ => (s.tc.cyc, s.grantsNow g.val + 1) }) ∧
        t.tithe = ((s.tally (35 + g.val) 1 (1)).tally (35 + g.val) (0x100 + p.master) (1)).tithe ∧
        t = { s with mtx := t.mtx, tithe := t.tithe }) ∧
    (∀ (s : State) (g : Fin 9),
      s.mtx.pieces = [] ∨ 2 ≤ s.grantsNow g.val →
      ∃ t, Sys2Proof.Machine.exec (.matrixGrant g) s = .next t ∧
        t = s) ∧
    (∀ (s : State) (p : Piece) (x : RespIn),
      s.mtx.pieces = [p] →
      p.granted = true →
      p.done = none →
      x.piece = p.id →
      p.target < 4 →
      (p.addr / 0x80000) ∉ s.win.bankLost →
      p.kind ≠ 1 →
      s.mtx.poisoned = [] →
      x.uncorrectable = false →
      ∃ t, Sys2Proof.Machine.exec (.matrixResponse x) s = .next t ∧
        t.mtx = { s.mtx with pieces := [], delivered := s.mtx.delivered ++ [{ req := p.req, master := p.master, error := false, data := Memory.readAll s.mtx.sram p.addr p.len }] } ∧
        t.tithe = ((s.tally (31 + p.target) 1 (p.beats)).tally (35 + p.target) 2 (p.beats)).tithe ∧
        t = { s with mtx := t.mtx, tithe := t.tithe }) ∧
    (∀ (s : State) (p : Piece) (x : RespIn),
      s.mtx.pieces = [p] →
      p.granted = true →
      p.done = none →
      x.piece = p.id →
      p.target < 4 →
      (p.addr / 0x80000) ∉ s.win.bankLost →
      p.kind = 1 →
      SramInv s →
      ∃ t, Sys2Proof.Machine.exec (.matrixResponse x) s = .next t ∧
        (∀ a : Nat, Memory.read t.mtx.sram a = if p.addr ≤ a ∧ a < p.addr + p.data.length then p.data.getD (a - p.addr) 0 else Memory.read s.mtx.sram a) ∧
        SramInv t ∧
        t.mtx = { s.mtx with pieces := [], sram := t.mtx.sram, delivered := s.mtx.delivered ++ [{ req := p.req, master := p.master, error := false, data := [] }] } ∧
        t.tithe = ((s.tally (31 + p.target) 2 (p.beats)).tally (35 + p.target) 2 (p.beats)).tithe ∧
        t = { s with mtx := t.mtx, tithe := t.tithe }) ∧
    (∀ (s : State) (p : Piece) (x : RespIn) (b : Nat),
      s.mtx.pieces = [p] →
      p.granted = true →
      p.done = none →
      x.piece = p.id →
      p.target < 4 →
      (p.addr / 0x80000) ∉ s.win.bankLost →
      p.kind ≠ 1 →
      s.mtx.poisoned = [] →
      x.uncorrectable = true →
      p.addr / 0x80000 = b →
      (s.win.bankMap.find? fun e => e.1 == b) = none →
      32 + b < 100 →
      s.win.busy = false →
      s.win.heartLost = false →
      (s.win.now.any fun h => h.1 == 32 + b) = false →
      ∃ t, Sys2Proof.Machine.exec (.matrixResponse x) s = .next t ∧
        t.valN Obj.mtx_error_responses  = min (s.valN Obj.mtx_error_responses  + 1) (2 ^ 64 - 1) ∧
        Raised s t (32 + b) { access := p.kind + 1, master := p.master, addr := p.addr } ∧
        t.mtx = { s.mtx with pieces := [], poisoned := [(b, p.addr / 32)], delivered := s.mtx.delivered ++ [{ req := p.req, master := p.master, error := true, data := zeros p.len }] } ∧
        t.tithe = (s.tally (35 + p.target) 7 (1)).tithe ∧
        t = { s with mtx := t.mtx, win := t.win, dict := t.dict, tithe := t.tithe } ∧
        SameDict s t [Obj.mtx_error_responses.key 0 0, srcKey (32 + b)]) ∧
    (∀ (s : State) (p : Piece) (x : RespIn),
      s.mtx.pieces = [p] →
      p.granted = true →
      p.done = none →
      x.piece = p.id →
      4 ≤ p.target →
      p.target ≤ 6 →
      x.busError = true →
      p.kind ≠ 1 →
      ∃ t, Sys2Proof.Machine.exec (.matrixResponse x) s = .next t ∧
        t.valN Obj.mtx_error_responses  = min (s.valN Obj.mtx_error_responses  + 1) (2 ^ 64 - 1) ∧
        t.mtx = { s.mtx with pieces := [], delivered := s.mtx.delivered ++ [{ req := p.req, master := p.master, error := true, data := zeros p.len }] } ∧
        t.tithe = (s.tally (35 + p.target) 7 (1)).tithe ∧
        RaisedAs s t (281 + p.target) { access := p.kind + 1, master := p.master, addr := p.addr } ∧
        (CanRaise s (281 + p.target) → t.win.now = s.win.now ++ [(281 + p.target, ({ access := p.kind + 1, master := p.master, addr := p.addr } : FaultInfo))] ∧ (vat t.win.srcs (281 + p.target) {}).active = true) ∧
        t = { s with mtx := t.mtx, win := t.win, dict := t.dict, tithe := t.tithe } ∧
        SameDict s t ([Obj.mtx_error_responses.key 0 0] ++ raiseKeys (281 + p.target))) ∧
    (∀ (s : State) (p : Piece) (x : RespIn),
      s.mtx.pieces = [p] →
      p.granted = true →
      p.done = none →
      x.piece = p.id →
      p.target = 4 ∨ p.target = 6 ∨ p.target = 7 ∨ p.target = 8 →
      x.busError = false →
      p.kind ≠ 1 →
      ∃ t, Sys2Proof.Machine.exec (.matrixResponse x) s = .next t ∧
        t.mtx = { s.mtx with pieces := [], delivered := s.mtx.delivered ++ [{ req := p.req, master := p.master, error := false, data := padTo p.len (x.data.take p.len) }] } ∧
        t.tithe = (s.tally (35 + p.target) 2 (p.beats)).tithe ∧
        t = { s with mtx := t.mtx, tithe := t.tithe }) ∧
    (∀ (s : State) (p : Piece) (x : RespIn),
      s.mtx.pieces = [p] →
      p.granted = true →
      p.done = none →
      x.piece = p.id →
      p.target = 7 →
      p.kind = 1 →
      ∃ t, Sys2Proof.Machine.exec (.matrixResponse x) s = .next t ∧
        t.valN Obj.mtx_error_responses  = min (s.valN Obj.mtx_error_responses  + 1) (2 ^ 64 - 1) ∧
        t.mtx = { s.mtx with pieces := [], delivered := s.mtx.delivered ++ [{ req := p.req, master := p.master, error := true, data := [] }] } ∧
        t.tithe = (s.tally (35 + p.target) 7 (1)).tithe ∧
        t = { s with mtx := t.mtx, tithe := t.tithe, dict := t.dict } ∧
        SameDict s t [Obj.mtx_error_responses.key 0 0]) ∧
    (∀ (s : State) (p : Piece) (x : RespIn),
      s.mtx.pieces = [p] →
      p.granted = true →
      p.done = none →
      x.piece = p.id →
      p.target < 4 →
      (p.addr / 0x80000) ∈ s.win.bankLost →
      p.kind ≠ 1 →
      ∃ t, Sys2Proof.Machine.exec (.matrixResponse x) s = .next t ∧
        t.valN Obj.mtx_error_responses  = min (s.valN Obj.mtx_error_responses  + 1) (2 ^ 64 - 1) ∧
        t.mtx = { s.mtx with pieces := [], delivered := s.mtx.delivered ++ [{ req := p.req, master := p.master, error := true, data := zeros p.len }] } ∧
        t.tithe = (s.tally (35 + p.target) 7 (1)).tithe ∧
        t = { s with mtx := t.mtx, tithe := t.tithe, dict := t.dict } ∧
        SameDict s t [Obj.mtx_error_responses.key 0 0]) ∧
    (∀ (s : State) (x : RespIn),
      (s.mtx.pieces.find? fun p => p.id == x.piece && p.granted && p.done.isNone) = none →
      ∃ t, Sys2Proof.Machine.exec (.matrixResponse x) s = .next t ∧
        t = s) ∧
    (∀ (s : State) (p : Piece),
      s.mtx.pieces = [p] →
      p.granted = true →
      p.done = none →
      s.passed p.grantAt 10000 = true →
      p.kind ≠ 1 →
      ∃ t, Sys2Proof.Machine.exec (.matrixTimeout p.id) s = .next t ∧
        t.valN Obj.mtx_error_responses  = min (s.valN Obj.mtx_error_responses  + 1) (2 ^ 64 - 1) ∧
        t.valN Obj.mtx_timeouts  = min (s.valN Obj.mtx_timeouts  + 1) (2 ^ 64 - 1) ∧
        t.mtx = { s.mtx with pieces := [], delivered := s.mtx.delivered ++ [{ req := p.req, master := p.master, error := true, data := zeros p.len }] } ∧
        t.tithe = ((s.tally (35 + p.target) 7 (1)).tally (35 + p.target) 6 (1)).tithe ∧
        RaisedAs s t (284) { access := p.kind + 1, master := p.master, addr := p.addr } ∧
        (CanRaise s (284) → t.win.now = s.win.now ++ [(284, ({ access := p.kind + 1, master := p.master, addr := p.addr } : FaultInfo))] ∧ (vat t.win.srcs (284) {}).active = true) ∧
        t = { s with mtx := t.mtx, win := t.win, dict := t.dict, tithe := t.tithe } ∧
        SameDict s t ([Obj.mtx_error_responses.key 0 0, Obj.mtx_timeouts.key 0 0] ++ raiseKeys (284))) ∧
    (∀ (s : State) (p : Piece),
      s.mtx.pieces = [p] →
      s.passed p.grantAt 10000 = false →
      ∃ t, Sys2Proof.Machine.exec (.matrixTimeout p.id) s = .next t ∧
        t = s) ∧
    (∀ (s : State),
      s.elec.jtag = false →
      s.boot.inReset = false →
      ∃ t, Sys2Proof.Machine.exec (.jtagAccess) s = .next t ∧
        t.elec = { s.elec with jtag := true } ∧
        RaisedAs s t (318) {} ∧
        (CanRaise s (318) → t.win.now = s.win.now ++ [(318, ({} : FaultInfo))] ∧ (vat t.win.srcs (318) {}).active = true) ∧
        t = { s with elec := t.elec, win := t.win, dict := t.dict } ∧
        SameDict s t (raiseKeys 318)) ∧
    (∀ (s : State),
      s.elec.jtag = false →
      s.boot.inReset = true →
      ∃ t, Sys2Proof.Machine.exec (.jtagAccess) s = .next t ∧
        t.elec = { s.elec with jtag := true } ∧
        t = { s with elec := t.elec }) ∧
    (∀ (s : State),
      s.elec.jtag = true →
      ∃ t, Sys2Proof.Machine.exec (.jtagAccess) s = .next t ∧
        t = s)

/-- Every reset leaves the same state with its cause; BOOT reaches service, halts or enters RECOVERY; START_STABLE makes the start good -/
def Obligations.ResetsAndStart : Prop :=
    (∀ (s : State) (n : Nat),
      s.boot.inReset = false →
      1000 ≤ n →
      ∃ t, Sys2Proof.Machine.exec (.resetN n) s = .next t ∧
        t.boot.cause = 1 ∧
        t.boot.inReset = true ∧
        t.boot = { cause := 1, starts := s.boot.starts, ledger := s.boot.ledger, ledgerAon := s.boot.ledgerAon, history := s.boot.history, bankRecs := s.bankRecsAfter, images := s.boot.images, bank := s.boot.bank, safeNext := s.boot.safeNext, clearNext := s.boot.clearNext, calStore := s.boot.calStore, ages := s.boot.agesKept, agesKept := s.boot.agesKept, hours := s.boot.kept.1, powerSec := s.boot.kept.2, kept := s.boot.kept } ∧
        t.win = { first := s.win.first } ∧
        t.dict.cfg = [] ∧
        t.dict.eff = [] ∧
        t.valI Obj.win_first_since = s.valI Obj.win_first_since ∧
        (∀ k : Nat, k ≠ Obj.win_first_since.key 0 0 → Store.find t.dict.val k = none) ∧
        t.elec = { s.elec with faultN := false, faultAlive := false, irqN := true, lockPd := Vector.replicate 2 false, lockCells := Vector.replicate 2 [], ospiReset := false, ospiOctal := false, sfdp := [] } ∧
        t = { ({} : State) with dev := s.dev, boot := t.boot, win := t.win, dict := t.dict, elec := t.elec, gran := { journal := s.gran.journal }, fresh := s.fresh, pending := s.pending }) ∧
    (∀ (s : State) (n : Nat),
      n < 100 →
      ∃ t, Sys2Proof.Machine.exec (.resetN n) s = .next t ∧
        t = s) ∧
    (∀ (s : State) (n : Nat),
      100 ≤ n →
      n < 1000 →
      ∃ t, Sys2Proof.Machine.exec (.resetN n) s = .next t ∧
        (t = if Config.shortReset n s.fresh = true then ({ s with fresh := s.fresh + 1 } : State).deviceReset 1 else { s with fresh := s.fresh + 1 })) ∧
    (∀ (s : State),
      s.boot.inReset = false →
      s.elec.jtag = true →
      ∃ t, Sys2Proof.Machine.exec (.jtagReset) s = .next t ∧
        t.boot.cause = 6 ∧
        t.boot.inReset = true ∧
        t.boot = { cause := 6, starts := s.boot.starts, ledger := s.boot.ledger, ledgerAon := s.boot.ledgerAon, history := s.boot.history, bankRecs := s.bankRecsAfter, images := s.boot.images, bank := s.boot.bank, safeNext := s.boot.safeNext, clearNext := s.boot.clearNext, calStore := s.boot.calStore, ages := s.boot.agesKept, agesKept := s.boot.agesKept, hours := s.boot.kept.1, powerSec := s.boot.kept.2, kept := s.boot.kept } ∧
        t.win = { first := s.win.first } ∧
        t.dict.cfg = [] ∧
        t.dict.eff = [] ∧
        t.valI Obj.win_first_since = s.valI Obj.win_first_since ∧
        (∀ k : Nat, k ≠ Obj.win_first_since.key 0 0 → Store.find t.dict.val k = none) ∧
        t.elec = { s.elec with faultN := false, faultAlive := false, irqN := true, lockPd := Vector.replicate 2 false, lockCells := Vector.replicate 2 [], ospiReset := false, ospiOctal := false, sfdp := [] } ∧
        t = { ({} : State) with dev := s.dev, boot := t.boot, win := t.win, dict := t.dict, elec := t.elec, gran := { journal := s.gran.journal }, fresh := s.fresh, pending := s.pending }) ∧
    (∀ (s : State),
      s.elec.jtag = false →
      ∃ t, Sys2Proof.Machine.exec (.jtagReset) s = .next t ∧
        t = s) ∧
    (∀ (s : State),
      s.boot.inReset = false →
      s.supplyLow = true →
      ∃ t, Sys2Proof.Machine.exec (.supplyReset) s = .next t ∧
        t.boot.cause = 2 ∧
        t.boot.inReset = true ∧
        t.boot = { cause := 2, starts := s.boot.starts, ledger := s.boot.ledger, ledgerAon := s.boot.ledgerAon, history := s.boot.history, bankRecs := s.bankRecsAfter, images := s.boot.images, bank := s.boot.bank, safeNext := s.boot.safeNext, clearNext := s.boot.clearNext, calStore := s.boot.calStore, ages := s.boot.agesKept, agesKept := s.boot.agesKept, hours := s.boot.kept.1, powerSec := s.boot.kept.2, kept := s.boot.kept } ∧
        t.win = { first := s.win.first } ∧
        t.dict.cfg = [] ∧
        t.dict.eff = [] ∧
        t.valI Obj.win_first_since = s.valI Obj.win_first_since ∧
        (∀ k : Nat, k ≠ Obj.win_first_since.key 0 0 → Store.find t.dict.val k = none) ∧
        t.elec = { s.elec with faultN := false, faultAlive := false, irqN := true, lockPd := Vector.replicate 2 false, lockCells := Vector.replicate 2 [], ospiReset := false, ospiOctal := false, sfdp := [] } ∧
        t = { ({} : State) with dev := s.dev, boot := t.boot, win := t.win, dict := t.dict, elec := t.elec, gran := { journal := s.gran.journal }, fresh := s.fresh, pending := s.pending }) ∧
    (∀ (s : State),
      s.boot.inReset = true →
      s.elec.jtag = true →
      ∃ t, Sys2Proof.Machine.exec (.jtagReset) s = .next t ∧
        t.boot.cause = min s.boot.cause 6 ∧
        t.boot.inReset = true ∧
        t.boot = { cause := min s.boot.cause 6, starts := s.boot.starts, ledger := s.boot.ledger, ledgerAon := s.boot.ledgerAon, history := s.boot.history, bankRecs := s.bankRecsAfter, images := s.boot.images, bank := s.boot.bank, safeNext := s.boot.safeNext, clearNext := s.boot.clearNext, calStore := s.boot.calStore, ages := s.boot.agesKept, agesKept := s.boot.agesKept, hours := s.boot.kept.1, powerSec := s.boot.kept.2, kept := s.boot.kept } ∧
        t.win = { first := s.win.first } ∧
        t.dict.cfg = [] ∧
        t.dict.eff = [] ∧
        t.valI Obj.win_first_since = s.valI Obj.win_first_since ∧
        (∀ k : Nat, k ≠ Obj.win_first_since.key 0 0 → Store.find t.dict.val k = none) ∧
        t.elec = { s.elec with faultN := false, faultAlive := false, irqN := true, lockPd := Vector.replicate 2 false, lockCells := Vector.replicate 2 [], ospiReset := false, ospiOctal := false, sfdp := [] } ∧
        t = { ({} : State) with dev := s.dev, boot := t.boot, win := t.win, dict := t.dict, elec := t.elec, gran := { journal := s.gran.journal }, fresh := s.fresh, pending := s.pending }) ∧
    (∀ (s : State),
      s.supplyLow = false →
      ∃ t, Sys2Proof.Machine.exec (.supplyReset) s = .next t ∧
        t = s) ∧
    (∀ (s : State) (v : Nat),
      v < 15500 →
      ∃ t, Sys2Proof.Machine.exec (.vddAonFall v) s = .next t ∧
        t.boot.cause = 0 ∧
        t.boot.inReset = true ∧
        t.boot = { cause := 0, starts := s.boot.starts, ledger := [], ledgerAon := false, history := s.boot.history, bankRecs := s.bankRecsAfter, images := s.boot.images, bank := s.boot.bank, safeNext := false, clearNext := false, calStore := s.boot.calStore, ages := s.boot.agesKept, agesKept := s.boot.agesKept, hours := s.boot.kept.1, powerSec := s.boot.kept.2, kept := s.boot.kept } ∧
        t.win = {} ∧
        t.dict = {} ∧
        (t.elec = { s.elec with faultN := false, faultAlive := false, irqN := true, lockPd := Vector.replicate 2 false, lockCells := Vector.replicate 2 [], ospiReset := false, ospiOctal := false, sfdp := [], aon := false, jtag := false, rail := vmod s.elec.rail 7 fun _ => v }) ∧
        t = { ({} : State) with dev := s.dev, boot := t.boot, win := t.win, dict := t.dict, elec := t.elec, gran := { journal := s.gran.journal }, fresh := s.fresh, pending := s.pending }) ∧
    (∀ (s : State) (v : Nat),
      15500 ≤ v →
      ∃ t, Sys2Proof.Machine.exec (.vddAonFall v) s = .next t ∧
        (t.elec = { s.elec with rail := vmod s.elec.rail 7 fun _ => v }) ∧
        t = { s with elec := t.elec }) ∧
    (∀ (s : State) (v : Nat),
      16200 ≤ v →
      ∃ t, Sys2Proof.Machine.exec (.powerOn v) s = .next t ∧
        t.boot.cause = 0 ∧
        t.boot.inReset = true ∧
        t.boot = { cause := 0, starts := s.boot.starts, ledger := [], ledgerAon := false, history := s.boot.history, bankRecs := s.bankRecsAfter, images := s.boot.images, bank := s.boot.bank, safeNext := false, clearNext := false, calStore := s.boot.calStore, ages := s.boot.agesKept, agesKept := s.boot.agesKept, hours := s.boot.kept.1, powerSec := s.boot.kept.2, kept := s.boot.kept } ∧
        t.win = {} ∧
        t.dict = {} ∧
        (t.elec = { s.elec with faultN := false, faultAlive := false, irqN := true, lockPd := Vector.replicate 2 false, lockCells := Vector.replicate 2 [], ospiReset := false, ospiOctal := false, sfdp := [], aon := true, jtag := false, rail := vmod s.elec.rail 7 fun _ => v }) ∧
        t = { ({} : State) with dev := s.dev, boot := t.boot, win := t.win, dict := t.dict, elec := t.elec, gran := { journal := s.gran.journal }, fresh := s.fresh, pending := s.pending }) ∧
    (∀ (s : State) (v : Nat),
      v < 16200 →
      ∃ t, Sys2Proof.Machine.exec (.powerOn v) s = .next t ∧
        (t.elec = { s.elec with rail := vmod s.elec.rail 7 fun _ => v }) ∧
        t = { s with elec := t.elec }) ∧
    (∀ (s : State) (b : BootIn),
      s.mayStart = true →
      10 ≤ b.railsMs →
      b.fails = some 1 →
      s.elec.xoOk = true →
      ∃ t, Sys2Proof.Machine.exec (.boot b) s = .next t ∧
        t.boot = { s.boot with inReset := false, starts := s.boot.starts + 1, duration := b.duration, ledger := t.boot.ledger, ledgerAon := true, reached := 0, halted := true, failedStep := 1 } ∧
        t.win = { s.win with beatAt := s.tc.cyc } ∧
        t.elec = { s.elec with ospiReset := true } ∧
        t = { s with boot := t.boot, win := t.win, elec := t.elec }) ∧
    (∀ (s : State) (b : BootIn),
      s.mayStart = true →
      10 ≤ b.railsMs →
      b.fails = some 3 →
      s.elec.xoOk = true →
      b.role = false →
      b.waddr % 64 = 0 →
      ∃ t, Sys2Proof.Machine.exec (.boot b) s = .next t ∧
        t.boot = { s.boot with inReset := false, starts := s.boot.starts + 1, duration := b.duration, ledger := t.boot.ledger, ledgerAon := true, history := t.boot.history, reached := 2, recovery := true, outcome := 5, failedStep := 3, plan := 0, strapConflict := false } ∧
        t.boot.history.head? = some t.boot.ledger ∧
        t.dev = { s.dev with manager := false } ∧
        t.crem = { s.crem with waddr := 0 } ∧
        t.win = { s.win with beatAt := s.tc.cyc } ∧
        t.elec = { s.elec with ospiReset := true, rolePin := false, waddrPin := 0, sfdp := b.sfdp, ospiOctal := Config.flashOctal b.sfdp } ∧
        t = { s with boot := t.boot, win := t.win, dev := t.dev, crem := t.crem, elec := t.elec }) ∧
    (∀ (s : State) (b : BootIn) (r : BankRec),
      s.mayStart = true →
      10 ≤ b.railsMs →
      b.fails = none →
      b.badBanks = [] →
      b.badLanes = [] →
      s.elec.xoOk = true →
      b.role = false →
      b.waddr % 64 = 0 →
      s.boot.clearNext = true →
      s.boot.safeNext = false →
      s.boot.newest s.boot.tableBank = some r →
      r.state = 4 →
      vat s.boot.images s.boot.tableBank [] = [] →
      s.gran.journal.validGen = 0 →
      s.tc = {} →
      s.stew = {} →
      ∃ t, Sys2Proof.Machine.exec (.boot b) s = .next t ∧
        t.boot.inReset = false ∧
        t.boot.starts = s.boot.starts + 1 ∧
        t.boot.reached = 12 ∧
        t.boot.outcome = 1 ∧
        t.boot.serving = true ∧
        t.boot.plan = 0 ∧
        t.boot.streak = 0 ∧
        t.boot.bank = s.boot.tableBank ∧
        t.roleAt 1 = some 0 ∧
        t.roleAt 2 = some 1 ∧
        t.roleAt 3 = some 2 ∧
        t.tc.running = true ∧
        t.dev.manager = false ∧
        t.elec.ospiReset = true ∧
        t.elec.ospiOctal = Config.flashOctal b.sfdp ∧
        t.pending = s.pending) ∧
    (∀ (s : State) (b : BootIn),
      s.mayStart = false ∨ b.railsMs < 10 ∨ b.fails = some 0 →
      ∃ t, Sys2Proof.Machine.exec (.boot b) s = .next t ∧
        t = s) ∧
    (∀ (s : State),
      s.boot.serving = true →
      s.boot.outcome = 1 →
      s.passed s.boot.serviceFrom (s.effN Obj.boot_stable_time * oneSec) = true →
      s.boot.plan.testBit planAltBank = false →
      ∃ t, Sys2Proof.Machine.exec (.startStable) s = .next t ∧
        t.boot = { s.boot with outcome := 2, ledger := t.boot.ledger, ledgerAon := true, history := t.boot.history } ∧
        t.boot.history.length ≤ max 4096 (s.boot.history.length - 1) ∧
        t.boot.history.head? = some t.boot.ledger ∧
        t = { s with boot := t.boot }) ∧
    (∀ (s : State),
      s.boot.serving = false ∨ s.boot.outcome ≠ 1 ∨ s.passed s.boot.serviceFrom (s.effN Obj.boot_stable_time * oneSec) = false →
      ∃ t, Sys2Proof.Machine.exec (.startStable) s = .next t ∧
        t = s)

/-- STEWARD_LOAD_DONE, THRESHER_ROTATE and REEVE_SWITCH move the part to the new image; AGE_SAMPLE and AGE_FIT keep the monitors and predictions -/
def Obligations.RotationAndAgeing : Prop :=
    (∀ (s : State) (p : Fin 3),
      (s.pair p.val).loading = true →
      (s.pair p.val).fenced = false →
      ∃ t, Sys2Proof.Machine.exec (.stewardLoadDone p) s = .next t ∧
        t.boot.install = { s.boot.install with loadDone := some p.val } ∧
        t.boot = { s.boot with install := t.boot.install } ∧
        t = { s with boot := t.boot }) ∧
    (∀ (s : State) (p : Fin 3),
      (s.pair p.val).loading = false ∨ (s.pair p.val).fenced = true →
      ∃ t, Sys2Proof.Machine.exec (.stewardLoadDone p) s = .next t ∧
        t = s) ∧
    (∀ (s : State) (k old new : Nat),
      s.rotating = true →
      s.boot.install.stage = 8 →
      s.boot.install.nextAt ≤ s.tc.boundaries →
      s.nextSlot = some k →
      vat s.win.thrSlots k none = some old →
      s.win.thrSpare.find? (fun x => !s.thrWrong x) = some new →
      ∃ t, Sys2Proof.Machine.exec (.thresherRotate) s = .next t ∧
        vat t.win.thrSlots k none = some new ∧
        (∀ m : Nat, m ≠ k → vat t.win.thrSlots m none = vat s.win.thrSlots m none) ∧
        (t.win = { s.win with thrSlots := t.win.thrSlots, thrSpare := s.win.thrSpare.filter fun x => x != new }) ∧
        t.boot.install = { s.boot.install with loading := s.boot.install.loading ++ [(old, s.tc.boundaries + 4)], slot := k + 1, nextAt := s.tc.boundaries + 2 } ∧
        t.boot = { s.boot with install := t.boot.install } ∧
        t = { s with boot := t.boot, win := t.win }) ∧
    (∀ (s : State),
      s.rotating = false ∨ s.boot.install.stage ≠ 8 ∨ s.tc.boundaries < s.boot.install.nextAt ∨ s.nextSlot = none →
      ∃ t, Sys2Proof.Machine.exec (.thresherRotate) s = .next t ∧
        t = s) ∧
    (∀ (s : State),
      s.rotating = true →
      s.boot.install.stage = 9 →
      ∃ t, Sys2Proof.Machine.exec (.reeveSwitch) s = .next t ∧
        t.valN Obj.install_state = 4 ∧
        t.valN Obj.install_step = 0 ∧
        t.boot.bank = s.instBank ∧
        t.boot.secver = imgSecver (vat s.boot.images s.instBank []) ∧
        ((t.boot.newest s.instBank).map (fun r => r.state) = some 4) ∧
        t.boot.install = { s.boot.install with stage := 0, reeve := true, verAt := some (s.tc.boundaries + 1), fresh := [] } ∧
        t.dev = { s.dev with windows := imgWindows (vat s.boot.images s.instBank []) } ∧
        (∀ p, p < 3 → t.pair p = { s.pair p with fresh := false }) ∧
        (∀ e ∈ Obj.mtx_window.elems, t.cfg Obj.mtx_window e.1 e.2 = s.cfg Obj.mtx_window e.1 e.2 ∧ t.eff Obj.mtx_window e.1 e.2 = s.eff Obj.mtx_window e.1 e.2) ∧
        SameVals s t [Obj.install_state.key 0 0, Obj.install_step.key 0 0] ∧
        t = { s with boot := t.boot, stew := t.stew, dev := t.dev, dict := t.dict }) ∧
    (∀ (s : State),
      s.rotating = false ∨ s.boot.install.stage ≠ 9 →
      ∃ t, Sys2Proof.Machine.exec (.reeveSwitch) s = .next t ∧
        t = s) ∧
    (∀ (s : State),
      s.boot.inReset = false →
      s.boot.halted = false →
      s.boot.recovery = false →
      s.passed (vat s.boot.ageAt 0 0) (agePeriod 0) = true →
      ∃ t, Sys2Proof.Machine.exec (.ageSample {}) s = .next t ∧
        t.boot.hours = s.boot.hours + equivFactor s.hottest / 3600 ∧
        t.boot.powerSec = s.boot.powerSec + 1 ∧
        t.valI Obj.age_equiv_hours = t.boot.hours.floor ∧
        t.valN Obj.age_power_hours = t.boot.powerSec / 3600 ∧
        (t.boot = { s.boot with hours := t.boot.hours, powerSec := t.boot.powerSec, ageAt := vmod s.boot.ageAt 0 fun _ => s.tc.cyc }) ∧
        t = { s with boot := t.boot, dict := t.dict } ∧
        SameDict s t [Obj.age_equiv_hours.key 0 0, Obj.age_power_hours.key 0 0]) ∧
    (∀ (s : State) (n v : Nat),
      s.boot.inReset = false →
      s.boot.halted = false →
      s.boot.recovery = false →
      n < 12 →
      s.passed (vat s.boot.ageAt 1 0) (agePeriod 1) = true →
      ∃ t, Sys2Proof.Machine.exec (.ageSample { period := 1, values := [(1, n, v)] }) s = .next t ∧
        t.valI Obj.age_ro_delay n = v ∧
        (t.boot.age (ageKey 1 n)).acc = (s.boot.age (ageKey 1 n)).acc ++ [(v : Rat)] ∧
        (t.boot = { s.boot with ages := t.boot.ages, eyeLow := t.boot.eyeLow, eyes := Vector.replicate 13 (0, 0), ageAt := vmod s.boot.ageAt 1 fun _ => s.tc.cyc }) ∧
        SameDict s t (Obj.age_ro_delay.key n 0 :: (List.range 13).map fun l => Obj.age_eye_min.key l 0) ∧
        t = { s with boot := t.boot, dict := t.dict }) ∧
    (∀ (s : State) (l : Fin 13),
      s.boot.inReset = false →
      s.boot.halted = false →
      s.boot.recovery = false →
      s.passed (vat s.boot.ageAt 1 0) (agePeriod 1) = true →
      (vat s.boot.eyes l.val (0, 0)).2 ≠ 0 →
      ∃ t, Sys2Proof.Machine.exec (.ageSample { period := 1 }) s = .next t ∧
        t.valN Obj.age_eye_min l.val = min (roundDiv ((vat s.boot.eyes l.val (0, 0)).1 : Nat) (vat s.boot.eyes l.val (0, 0)).2).toNat ((vat s.boot.eyeLow l.val none).getD (roundDiv ((vat s.boot.eyes l.val (0, 0)).1 : Nat) (vat s.boot.eyes l.val (0, 0)).2).toNat) ∧
        vat t.boot.eyeLow l.val none = some (t.valN Obj.age_eye_min l.val) ∧
        vat t.boot.eyes l.val (0, 0) = (0, 0) ∧
        t = { s with boot := t.boot, dict := t.dict }) ∧
    (∀ (s : State) (n v : Nat),
      s.boot.inReset = false →
      s.boot.halted = false →
      s.boot.recovery = false →
      n < 6 →
      s.passed (vat s.boot.ageAt 2 0) (agePeriod 2) = true →
      ∃ t, Sys2Proof.Machine.exec (.ageSample { period := 2, values := [(4, n, v)] }) s = .next t ∧
        t.valI Obj.age_dco_code n = v ∧
        t.tc = s.tc ∧
        t.win = s.win ∧
        t.elec = s.elec ∧
        t.stew = s.stew) ∧
    (∀ (s : State) (a : AgeIn),
      s.boot.inReset = true ∨ s.boot.halted = true ∨ s.boot.recovery = true ∨ s.passed (vat s.boot.ageAt a.period.val 0) (agePeriod a.period.val) = false →
      ∃ t, Sys2Proof.Machine.exec (.ageSample a) s = .next t ∧
        t = s) ∧
    (∀ (s : State),
      s.boot.inReset = false →
      s.boot.halted = false →
      s.boot.recovery = false →
      s.effN Obj.age_spare_threshold = 0 →
      ∃ t, Sys2Proof.Machine.exec (.ageFit) s = .next t ∧
        (∀ n, n < 12 → t.valN Obj.age_ro_eol n = s.agePred 1 n) ∧
        (∀ n, n < 68 → t.valN Obj.age_sram_eol n = s.agePred 2 n) ∧
        (∀ n, n < 13 → t.valN Obj.age_eye_eol n = s.agePred 3 n) ∧
        (∀ n, n < 6 → t.valN Obj.age_dco_eol n = s.agePred 4 n) ∧
        t.valN Obj.age_fly_eol = s.flyPred ∧
        t.valN Obj.age_temp_eol = s.tempPred ∧
        (t.valN Obj.age_eol = s.agePreds.foldl (fun m e => min m e.2) 0xFFFFFFFF) ∧
        SameDict s t ([Obj.age_eol.key 0 0, Obj.age_eol_monitor.key 0 0, Obj.age_fly_eol.key 0 0, Obj.age_temp_eol.key 0 0] ++ (List.range 12).map (fun n => Obj.age_ro_eol.key n 0) ++ (List.range 68).map (fun n => Obj.age_sram_eol.key n 0) ++ (List.range 13).map (fun n => Obj.age_eye_eol.key n 0) ++ (List.range 6).map (fun n => Obj.age_dco_eol.key n 0)) ∧
        t = { s with dict := t.dict }) ∧
    (∀ (s : State) (k : Nat),
      s.boot.inReset = false →
      s.boot.halted = false →
      s.boot.recovery = false →
      (s.agePreds.all fun e => (e.1 == k) == decide (e.2 < s.effN Obj.age_spare_threshold)) = true →
      (s.agePreds.any fun e => e.1 == k) = true →
      (s.boot.age k).warned = false →
      ∃ t, Sys2Proof.Machine.exec (.ageFit) s = .next t ∧
        RaisedAs s t 309 {} ∧
        (CanRaise s 309 → t.win.now = s.win.now ++ [(309, ({} : FaultInfo))] ∧ (vat t.win.srcs 309 {}).active = true) ∧
        (t.boot.age k).warned = true ∧
        (t.boot = { s.boot with ages := t.boot.ages, swapPend := if (s.effT Obj.age_auto_spare && s.ageSpare k) = true then s.boot.swapPend ++ [k] else s.boot.swapPend }) ∧
        SameDict s t (raiseKeys 309 ++ [Obj.age_eol.key 0 0, Obj.age_eol_monitor.key 0 0, Obj.age_fly_eol.key 0 0, Obj.age_temp_eol.key 0 0] ++ (List.range 12).map (fun n => Obj.age_ro_eol.key n 0) ++ (List.range 68).map (fun n => Obj.age_sram_eol.key n 0) ++ (List.range 13).map (fun n => Obj.age_eye_eol.key n 0) ++ (List.range 6).map (fun n => Obj.age_dco_eol.key n 0)) ∧
        t = { s with dict := t.dict, win := t.win, boot := t.boot }) ∧
    (∀ (s : State),
      s.boot.inReset = true ∨ s.boot.halted = true ∨ s.boot.recovery = true →
      ∃ t, Sys2Proof.Machine.exec (.ageFit) s = .next t ∧
        t = s)

/-- RAIL_MONITOR, XO_FAULT, XO_IN_RETURN and DIE_TEMP_SAMPLE show what they sample and raise the conditions of R509, R595, R601 and R619 -/
def Obligations.SuppliesAndSensors : Prop :=
    (∀ (s : State) (v : List Nat),
      v.length = 8 →
      ((List.range 8).all fun r => decide ((railRange r).1 ≤ v.getD r 0) && decide (v.getD r 0 ≤ (railRange r).2)) = true →
      s.boot.inReset = false →
      ∃ t, Sys2Proof.Machine.exec (.railMonitor v) s = .next t ∧
        (∀ r, r < 8 → vat t.elec.rail r 0 = v.getD r 0) ∧
        (∀ r, r < 8 → vat t.elec.railSince r none = railMark (s.elec.clockNs + 100) (v.getD r 0) r (vat s.elec.railSince r none)) ∧
        (∀ r, r < 2 → vat t.elec.lowSince r none = if v.getD r 0 < supplyThreshold r then some ((vat s.elec.lowSince r none).getD (s.elec.clockNs + 100)) else none) ∧
        (∀ r, r < 8 → vat t.elec.railSum r 0 = vat s.elec.railSum r 0 + v.getD r 0) ∧
        t.elec = { s.elec with rail := t.elec.rail, railSince := t.elec.railSince, lowSince := t.elec.lowSince, railSum := t.elec.railSum, clockNs := (s.elec.clockNs + 100), railN := s.elec.railN + 1, faultN := t.faultFree, irqN := t.irqFree } ∧
        (∀ r, r < 8 → vat t.elec.railSince r none = none) ∧
        (∀ r, r < 8 → (vat t.win.srcs (288 + r) {}).cond = false) ∧
        (∀ r, r < 8 → (vat t.win.srcs (288 + r) {}).active = false) ∧
        t.win = { s.win with srcs := t.win.srcs } ∧
        t = { s with elec := t.elec, win := t.win }) ∧
    (∀ (s : State) (v : List Nat),
      v.length = 8 →
      s.boot.inReset = false →
      ∃ t, Sys2Proof.Machine.exec (.railMonitor v) s = .next t ∧
        (∀ r, r < 8 → vat t.elec.rail r 0 = v.getD r 0) ∧
        (∀ r, r < 8 → vat t.elec.railSince r none = railMark (s.elec.clockNs + 100) (v.getD r 0) r (vat s.elec.railSince r none)) ∧
        (∀ r, r < 2 → vat t.elec.lowSince r none = if v.getD r 0 < supplyThreshold r then some ((vat s.elec.lowSince r none).getD (s.elec.clockNs + 100)) else none) ∧
        (∀ r, r < 8 → vat t.elec.railSum r 0 = vat s.elec.railSum r 0 + v.getD r 0) ∧
        t.elec = { s.elec with rail := t.elec.rail, railSince := t.elec.railSince, lowSince := t.elec.lowSince, railSum := t.elec.railSum, clockNs := (s.elec.clockNs + 100), railN := s.elec.railN + 1, faultN := t.faultFree, irqN := t.irqFree } ∧
        (t.win = (s.each (List.range 8) fun u r => u.condSet (288 + r) (t.railBad r)).win) ∧
        SameDict s t ((List.range 8).flatMap fun r => raiseKeys (288 + r)) ∧
        t = { s with elec := t.elec, win := t.win, dict := t.dict }) ∧
    (∀ (s : State) (v : List Nat) (k : Nat) (since : Nat),
      v.length = 8 →
      k < 8 →
      ((List.range 8).all fun r => (r == k) != (decide ((railRange r).1 ≤ v.getD r 0) && decide (v.getD r 0 ≤ (railRange r).2))) = true →
      vat s.elec.railSince k none = some since →
      since + 900 ≤ s.elec.clockNs →
      s.boot.inReset = false →
      (vat s.win.srcs (288 + k) {}).cond = false →
      ∃ t, Sys2Proof.Machine.exec (.railMonitor v) s = .next t ∧
        (∀ r, r < 8 → vat t.elec.rail r 0 = v.getD r 0) ∧
        (∀ r, r < 8 → vat t.elec.railSince r none = railMark (s.elec.clockNs + 100) (v.getD r 0) r (vat s.elec.railSince r none)) ∧
        (∀ r, r < 2 → vat t.elec.lowSince r none = if v.getD r 0 < supplyThreshold r then some ((vat s.elec.lowSince r none).getD (s.elec.clockNs + 100)) else none) ∧
        (∀ r, r < 8 → vat t.elec.railSum r 0 = vat s.elec.railSum r 0 + v.getD r 0) ∧
        t.elec = { s.elec with rail := t.elec.rail, railSince := t.elec.railSince, lowSince := t.elec.lowSince, railSum := t.elec.railSum, clockNs := (s.elec.clockNs + 100), railN := s.elec.railN + 1, faultN := t.faultFree, irqN := t.irqFree } ∧
        (vat t.win.srcs (288 + k) {}).cond = true ∧
        (CanRaise s (288 + k) → t.win.now = s.win.now ++ [(288 + k, ({} : FaultInfo))] ∧ (vat t.win.srcs (288 + k) {}).active = true) ∧
        (∀ r, r < 8 → r ≠ k → (vat t.win.srcs (288 + r) {}).cond = false) ∧
        SameDict s t (raiseKeys (288 + k)) ∧
        t = { s with elec := t.elec, win := t.win, dict := t.dict }) ∧
    (∀ (s : State) (v : List Nat),
      v.length = 8 →
      s.boot.inReset = true →
      ∃ t, Sys2Proof.Machine.exec (.railMonitor v) s = .next t ∧
        (∀ r, r < 8 → vat t.elec.rail r 0 = v.getD r 0) ∧
        (∀ r, r < 8 → vat t.elec.railSince r none = railMark (s.elec.clockNs + 100) (v.getD r 0) r (vat s.elec.railSince r none)) ∧
        (∀ r, r < 2 → vat t.elec.lowSince r none = if v.getD r 0 < supplyThreshold r then some ((vat s.elec.lowSince r none).getD (s.elec.clockNs + 100)) else none) ∧
        (∀ r, r < 8 → vat t.elec.railSum r 0 = vat s.elec.railSum r 0 + v.getD r 0) ∧
        t.elec = { s.elec with rail := t.elec.rail, railSince := t.elec.railSince, lowSince := t.elec.lowSince, railSum := t.elec.railSum, clockNs := (s.elec.clockNs + 100), railN := s.elec.railN + 1, faultN := t.faultFree, irqN := t.irqFree } ∧
        t = { s with elec := t.elec }) ∧
    (∀ (s : State) (hz : Nat),
      s.boot.inReset = false →
      hz < 49995000 ∨ 50005000 < hz →
      (vat s.win.srcs 316 {}).cond = false →
      ∃ t, Sys2Proof.Machine.exec (.xoFault hz) s = .next t ∧
        t.win = (s.condBegin 316).win ∧
        (CanRaise s (316) → t.win.now = s.win.now ++ [(316, ({} : FaultInfo))] ∧ (vat t.win.srcs (316) {}).active = true) ∧
        (vat t.win.srcs 316 {}).cond = true ∧
        t.elec = { s.elec with xoOk := false } ∧
        SameDict s t (raiseKeys 316) ∧
        t = { s with elec := t.elec, win := t.win, dict := t.dict }) ∧
    (∀ (s : State) (hz : Nat),
      (vat s.win.srcs 316 {}).cond = true ∨ s.boot.inReset = true →
      hz < 49995000 ∨ 50005000 < hz →
      ∃ t, Sys2Proof.Machine.exec (.xoFault hz) s = .next t ∧
        t.elec = { s.elec with xoOk := false } ∧
        t = { s with elec := t.elec }) ∧
    (∀ (s : State) (hz : Nat),
      49995000 ≤ hz →
      hz ≤ 50005000 →
      ∃ t, Sys2Proof.Machine.exec (.xoFault hz) s = .next t ∧
        t = s) ∧
    (∀ (s : State) (hz : Nat),
      49995000 ≤ hz →
      hz ≤ 50005000 →
      ∃ t, Sys2Proof.Machine.exec (.xoInReturn hz) s = .next t ∧
        t.elec = { s.elec with xoOk := true } ∧
        (vat t.win.srcs 316 {}).active = false ∧
        (vat t.win.srcs 316 {}).cond = false ∧
        (∀ k : Nat, k ≠ 316 → vat t.win.srcs k {} = vat s.win.srcs k {}) ∧
        t.win = { s.win with srcs := t.win.srcs } ∧
        t = { s with elec := t.elec, win := t.win }) ∧
    (∀ (s : State) (hz : Nat),
      hz < 49995000 ∨ 50005000 < hz →
      ∃ t, Sys2Proof.Machine.exec (.xoInReturn hz) s = .next t ∧
        t = s) ∧
    (∀ (s : State) (x : List Int),
      x.length = 12 →
      (x.all fun v => decide (v ≤ 10500)) = true →
      s.boot.inReset = false →
      ∃ t, Sys2Proof.Machine.exec (.dieTempSample x) s = .next t ∧
        (∀ n, n < 12 → t.valI Obj.die_temp n = x.getD n 0) ∧
        t.valI Obj.die_temp_max = x.foldl max (s.valI Obj.die_temp_max) ∧
        t.hold = { s.hold with temps := s.hold.temps ++ [x.getD 8 0] } ∧
        (∀ n, n < 13 → (vat t.win.srcs (296 + n) {}).active = false) ∧
        t.win = { s.win with srcs := t.win.srcs } ∧
        SameDict s t ((List.range 12).map (fun n => Obj.die_temp.key n 0) ++ [Obj.die_temp_max.key 0 0]) ∧
        t = { s with hold := t.hold, win := t.win, dict := t.dict }) ∧
    (∀ (s : State) (x : List Int) (k : Nat),
      x.length = 12 →
      k < 12 →
      ((List.range 12).all fun n => (n == k) == decide (10500 < x.getD n 0)) = true →
      x.getD k 0 ≤ 11500 →
      s.boot.inReset = false →
      (vat s.win.srcs (296 + k) {}).cond = false →
      ∃ t, Sys2Proof.Machine.exec (.dieTempSample x) s = .next t ∧
        (∀ n, n < 12 → t.valI Obj.die_temp n = x.getD n 0) ∧
        t.valI Obj.die_temp_max = x.foldl max (s.valI Obj.die_temp_max) ∧
        t.hold = { s.hold with temps := s.hold.temps ++ [x.getD 8 0] } ∧
        (CanRaise s (296 + k) → t.win.now = s.win.now ++ [(296 + k, ({} : FaultInfo))] ∧ (vat t.win.srcs (296 + k) {}).active = true) ∧
        (vat t.win.srcs (296 + k) {}).cond = true ∧
        (vat t.win.srcs 308 {}).active = false ∧
        SameDict s t ((List.range 12).map (fun n => Obj.die_temp.key n 0) ++ [Obj.die_temp_max.key 0 0] ++ raiseKeys (296 + k)) ∧
        t = { s with hold := t.hold, win := t.win, dict := t.dict }) ∧
    (∀ (s : State) (x : List Int),
      s.boot.inReset = true →
      ∃ t, Sys2Proof.Machine.exec (.dieTempSample x) s = .next t ∧
        t = s)

/-- Each command that is a write of one object stages that write at its level; one that fails its check is refused; immediate writes act at once -/
def Obligations.WritesAreStaged : Prop :=
    (∀ (s : State) (lvl : Level) (v : Int),
      -(2 ^ 63) ≤ v →
      v < 2 ^ 63 →
      Passes s (lvl.val + 1) { index := 0x202A, sub := 0, value := intBytes 8 v } →
      ∃ t, Sys2Proof.Machine.exec (.todStep lvl v) s = .next t ∧
        StagedIn s t (lvl.val + 1) { index := 0x202A, sub := 0, value := intBytes 8 v }) ∧
    (∀ (s : State) (lvl : Level) (v : Int),
      -(2 ^ 63) ≤ v →
      v < 2 ^ 63 →
      Passes s (lvl.val + 1) { index := 0x2020, sub := 0, value := intBytes 8 v } →
      ∃ t, Sys2Proof.Machine.exec (.todSlew lvl v) s = .next t ∧
        StagedIn s t (lvl.val + 1) { index := 0x2020, sub := 0, value := intBytes 8 v }) ∧
    (∀ (s : State) (lvl : Level) (k : Fin 8),
      Passes s (lvl.val + 1) { index := 0x2040 + k.val, sub := 5, value := [1] } →
      ∃ t, Sys2Proof.Machine.exec (.actionArm lvl k) s = .next t ∧
        StagedIn s t (lvl.val + 1) { index := 0x2040 + k.val, sub := 5, value := [1] }) ∧
    (∀ (s : State) (lvl : Level) (k : Fin 8),
      Passes s (lvl.val + 1) { index := 0x2040 + k.val, sub := 5, value := [0] } →
      ∃ t, Sys2Proof.Machine.exec (.actionCancel lvl k) s = .next t ∧
        StagedIn s t (lvl.val + 1) { index := 0x2040 + k.val, sub := 5, value := [0] }) ∧
    (∀ (s : State) (lvl : Level) (p : Fin 9),
      Passes s (lvl.val + 1) { index := 0x2103, sub := p.val, value := [1] } →
      ∃ t, Sys2Proof.Machine.exec (.stampCalibrate lvl p) s = .next t ∧
        StagedIn s t (lvl.val + 1) { index := 0x2103, sub := p.val, value := [1] }) ∧
    (∀ (s : State) (lvl : Level) (d : Fin 5),
      Passes s (lvl.val + 1) { index := 0x300D + 0x100 * d.val, sub := 0, value := [1] } →
      ∃ t, Sys2Proof.Machine.exec (.dpllRealign lvl d) s = .next t ∧
        StagedIn s t (lvl.val + 1) { index := 0x300D + 0x100 * d.val, sub := 0, value := [1] }) ∧
    (∀ (s : State) (lvl : Level),
      Passes s (lvl.val + 1) { index := 0x2A35, sub := 0, value := [1] } →
      ∃ t, Sys2Proof.Machine.exec (.holdModelReset lvl) s = .next t ∧
        StagedIn s t (lvl.val + 1) { index := 0x2A35, sub := 0, value := [1] }) ∧
    (∀ (s : State) (lvl : Level),
      Passes s (lvl.val + 1) { index := 0x2A47, sub := 0, value := [1] } →
      ∃ t, Sys2Proof.Machine.exec (.flyRecentreNow lvl) s = .next t ∧
        StagedIn s t (lvl.val + 1) { index := 0x2A47, sub := 0, value := [1] }) ∧
    (∀ (s : State) (lvl : Level),
      Passes s (lvl.val + 1) { index := 0x500B, sub := 0, value := [1] } →
      ∃ t, Sys2Proof.Machine.exec (.gnssResurvey lvl) s = .next t ∧
        StagedIn s t (lvl.val + 1) { index := 0x500B, sub := 0, value := [1] }) ∧
    (∀ (s : State) (lvl : Level),
      Passes s (lvl.val + 1) { index := 0x501A, sub := 0, value := [1] } →
      ∃ t, Sys2Proof.Machine.exec (.gnssFeReinit lvl) s = .next t ∧
        StagedIn s t (lvl.val + 1) { index := 0x501A, sub := 0, value := [1] }) ∧
    (∀ (s : State) (lvl : Level),
      Passes s (lvl.val + 1) { index := 0x502F, sub := 0, value := [1] } →
      ∃ t, Sys2Proof.Machine.exec (.gnssRestartCold lvl) s = .next t ∧
        StagedIn s t (lvl.val + 1) { index := 0x502F, sub := 0, value := [1] }) ∧
    (∀ (s : State) (lvl : Level),
      Passes s (lvl.val + 1) { index := 0x502F, sub := 0, value := [2] } →
      ∃ t, Sys2Proof.Machine.exec (.gnssRestartWarm lvl) s = .next t ∧
        StagedIn s t (lvl.val + 1) { index := 0x502F, sub := 0, value := [2] }) ∧
    (∀ (s : State) (lvl : Level) (i : Fin 4),
      Passes s (lvl.val + 1) { index := 0x2246, sub := i.val, value := [1] } →
      ∃ t, Sys2Proof.Machine.exec (.scrPathClear lvl i) s = .next t ∧
        StagedIn s t (lvl.val + 1) { index := 0x2246, sub := i.val, value := [1] }) ∧
    (∀ (s : State) (lvl : Level),
      Passes s (lvl.val + 1) { index := 0x8004, sub := 0, value := [1] } →
      ∃ t, Sys2Proof.Machine.exec (.winClearFirst lvl) s = .next t ∧
        StagedIn s t (lvl.val + 1) { index := 0x8004, sub := 0, value := [1] }) ∧
    (∀ (s : State) (lvl : Level),
      Passes s (lvl.val + 1) { index := 0x8004, sub := 0, value := [2] } →
      ∃ t, Sys2Proof.Machine.exec (.winClearLost lvl) s = .next t ∧
        StagedIn s t (lvl.val + 1) { index := 0x8004, sub := 0, value := [2] }) ∧
    (∀ (s : State) (lvl : Level),
      Passes s (lvl.val + 1) { index := 0x8005, sub := 0, value := [1] } →
      ∃ t, Sys2Proof.Machine.exec (.winPinClear lvl) s = .next t ∧
        StagedIn s t (lvl.val + 1) { index := 0x8005, sub := 0, value := [1] }) ∧
    (∀ (s : State) (lvl : Level),
      Passes s (lvl.val + 1) { index := 0x1104, sub := 0, value := [1] } →
      ∃ t, Sys2Proof.Machine.exec (.attonAssocReset lvl) s = .next t ∧
        StagedIn s t (lvl.val + 1) { index := 0x1104, sub := 0, value := [1] }) ∧
    (∀ (s : State) (lvl : Level),
      Passes s (lvl.val + 1) { index := 0x8800, sub := 0, value := [1] } →
      ∃ t, Sys2Proof.Machine.exec (.titheFreeze lvl) s = .next t ∧
        StagedIn s t (lvl.val + 1) { index := 0x8800, sub := 0, value := [1] }) ∧
    (∀ (s : State) (lvl : Level),
      Passes s (lvl.val + 1) { index := 0x8800, sub := 0, value := [0] } →
      ∃ t, Sys2Proof.Machine.exec (.titheResume lvl) s = .next t ∧
        StagedIn s t (lvl.val + 1) { index := 0x8800, sub := 0, value := [0] }) ∧
    (∀ (s : State) (lvl : Level) (b : Fin 75),
      Passes s (lvl.val + 1) { index := 0x8903 + 4 * b.val, sub := 1, value := [1] } →
      ∃ t, Sys2Proof.Machine.exec (.titheClear lvl b) s = .next t ∧
        StagedIn s t (lvl.val + 1) { index := 0x8903 + 4 * b.val, sub := 1, value := [1] }) ∧
    (∀ (s : State) (lvl : Level),
      Passes s (lvl.val + 1) { index := 0x9807, sub := 0, value := [1] } →
      ∃ t, Sys2Proof.Machine.exec (.bootRestartNormal lvl) s = .next t ∧
        StagedIn s t (lvl.val + 1) { index := 0x9807, sub := 0, value := [1] }) ∧
    (∀ (s : State) (lvl : Level),
      Passes s (lvl.val + 1) { index := 0x9807, sub := 0, value := [2] } →
      ∃ t, Sys2Proof.Machine.exec (.bootRestartSafe lvl) s = .next t ∧
        StagedIn s t (lvl.val + 1) { index := 0x9807, sub := 0, value := [2] }) ∧
    (∀ (s : State) (lvl : Level),
      Passes s (lvl.val + 1) { index := 0x9809, sub := 0, value := [1] } →
      ∃ t, Sys2Proof.Machine.exec (.bootSecverCommit lvl) s = .next t ∧
        StagedIn s t (lvl.val + 1) { index := 0x9809, sub := 0, value := [1] }) ∧
    (∀ (s : State) (lvl : Level) (v : Bytes),
      Passes s (lvl.val + 1) { index := 0x9820, sub := 0, value := v } →
      ∃ t, Sys2Proof.Machine.exec (.installBegin lvl v) s = .next t ∧
        StagedIn s t (lvl.val + 1) { index := 0x9820, sub := 0, value := v }) ∧
    (∀ (s : State) (lvl : Level),
      Passes s (lvl.val + 1) { index := 0x9822, sub := 0, value := [1] } →
      ∃ t, Sys2Proof.Machine.exec (.installFinish lvl) s = .next t ∧
        StagedIn s t (lvl.val + 1) { index := 0x9822, sub := 0, value := [1] }) ∧
    (∀ (s : State) (lvl : Level),
      Passes s (lvl.val + 1) { index := 0x9823, sub := 0, value := [1] } →
      ∃ t, Sys2Proof.Machine.exec (.installActivate lvl) s = .next t ∧
        StagedIn s t (lvl.val + 1) { index := 0x9823, sub := 0, value := [1] }) ∧
    (∀ (s : State) (lvl : Level),
      Passes s (lvl.val + 1) { index := 0x9824, sub := 0, value := [1] } →
      ∃ t, Sys2Proof.Machine.exec (.installAbort lvl) s = .next t ∧
        StagedIn s t (lvl.val + 1) { index := 0x9824, sub := 0, value := [1] }) ∧
    (∀ (s : State) (lvl : Level) (index sub : Nat) (v : Bytes),
      Passes s (lvl.val + 1) { index := index, sub := sub, value := v } →
      ∃ t, Sys2Proof.Machine.exec (.configWrite lvl index sub v) s = .next t ∧
        StagedIn s t (lvl.val + 1) { index := index, sub := sub, value := v }) ∧
    (∀ (s : State) (lvl : Level) (index sub : Nat) (v : Bytes) (e : Nat),
      s.noStaging = false →
      s.boot.recovery = false →
      (match s.checkWrite (lvl.val + 1) index sub v with | .error x => x == e | .ok _ => false) = true →
      ∃ t, Sys2Proof.Machine.exec (.configWrite lvl index sub v) s = .next t ∧
        t.valN Obj.gran_refused  = min (s.valN Obj.gran_refused  + 1) (2 ^ 64 - 1) ∧
        t = { s with dict := t.dict } ∧
        SameDict s t [Obj.gran_refused.key 0 0]) ∧
    (∀ (s : State) (lvl : Level) (v : Nat),
      s.noStaging = false →
      v < 2 ^ 128 →
      (match s.checkWrite (lvl.val + 1) 0x502C 0 (beBytes 16 v) with | .ok _ => true | .error _ => false) = true →
      ∃ t, Sys2Proof.Machine.exec (.gnssAidTime lvl v) s = .next t ∧
        t.gnss = { s.gnss with aidAt := some (ofTime128 v, s.tc.cyc) } ∧
        t.eff Obj.gnss_aid_time = .n v ∧
        t.cfg Obj.gnss_aid_time = .n v ∧
        SameVals s t [Obj.gnss_start_type.key 0 0] ∧
        SameEffs s t [Obj.gnss_aid_time.key 0 0] ∧
        SameCfgs s t [Obj.gnss_aid_time.key 0 0] ∧
        t = { s with gnss := t.gnss, dict := t.dict }) ∧
    (∀ (s : State) (lvl : Level) (v : Bytes),
      s.noStaging = false →
      s.boot.recovery = false →
      (match s.checkWrite (lvl.val + 1) 0x9821 0 v with | .ok _ => true | .error _ => false) = true →
      s.instState = 1 →
      s.boot.install.chunks = [] →
      20 ≤ v.length →
      v.length ≤ 1028 →
      field v 0 4 % 16 = 0 →
      (v.length - 4) % 16 = 0 ∨ field v 0 4 + (v.length - 4) = s.boot.install.len →
      field v 0 4 + (v.length - 4) ≤ s.boot.install.len →
      field v 0 4 + (v.length - 4) ≤ 8388608 →
      ∃ t, Sys2Proof.Machine.exec (.installChunk lvl v) s = .next t ∧
        t.boot = { s.boot with install := { s.boot.install with chunks := [(field v 0 4, v.drop 4)] } } ∧
        t.valN Obj.install_written = s.valN Obj.install_written + (v.length - 4) ∧
        t = { s with boot := t.boot, dict := t.dict } ∧
        SameDict s t [Obj.install_written.key 0 0])
end

