-- ==== Sys2Proof/Laws/Memory.lean ====
section
/-! SUPPORT. The shared SRAM: every operation keeps the canonical form, a byte written reads as written, and every other byte as before. -/
namespace Sys2Proof.Machine

theorem Memory.wfFrom_mono {m : List Host.Cell} {a b : Nat} (h : a ≤ b) (hm : Memory.wfFrom b m = true) : Memory.wfFrom a m = true := by
  cases m with
  | nil => rfl
  | cons c t =>
    simp only [Memory.wfFrom, Bool.and_eq_true, decide_eq_true_eq] at *
    exact ⟨⟨h.trans hm.1.1, hm.1.2⟩, hm.2⟩

theorem Memory.wfFrom_write (m : List Host.Cell) (lo a : Nat) (b : BitVec 8) (hlo : lo ≤ a) (h : Memory.wfFrom lo m = true) :
    Memory.wfFrom lo (Memory.write a b m) = true := by
  induction m generalizing lo with
  | nil => by_cases hb : b = Memory.blank <;> simp [Memory.write, hb, Memory.wfFrom, hlo]
  | cons c t ih =>
    obtain ⟨x, y⟩ := c
    simp only [Memory.wfFrom, Bool.and_eq_true, decide_eq_true_eq] at h
    obtain ⟨⟨hx, hy⟩, ht⟩ := h
    unfold Memory.write
    by_cases h1 : a < x
    · by_cases hb : b = Memory.blank
      · simp [h1, hb, Memory.wfFrom, hx, hy, ht]
      · have : a + 1 ≤ x := h1
        simp [h1, hb, Memory.wfFrom, hlo, hy, ht, this]
    · by_cases h2 : a = x
      · by_cases hb : b = Memory.blank
        · simp only [h2, lt_irrefl, hb, if_true, if_false]
          exact Memory.wfFrom_mono (by omega) ht
        · subst h2
          simp [hb, Memory.wfFrom, hlo, ht]
      · simp only [h1, h2, if_false, Memory.wfFrom, Bool.and_eq_true, decide_eq_true_eq]
        exact ⟨⟨hx, hy⟩, ih _ (by omega) ht⟩

/-- A write keeps the canonical form. -/
theorem Memory.wf_write (m : List Host.Cell) (a : Nat) (b : BitVec 8) (h : Memory.wf m = true) : Memory.wf (Memory.write a b m) = true :=
  Memory.wfFrom_write m 0 a b (Nat.zero_le _) h

/-- A string written keeps the canonical form. -/
theorem Memory.wf_writeAll (b : Bytes) (a : Nat) (m : List Host.Cell) (h : Memory.wf m = true) :
    Memory.wf (Memory.writeAll a b m) = true := by
  induction b generalizing a m with
  | nil => exact h
  | cons x t ih => exact ih _ _ (Memory.wf_write _ _ _ h)

theorem Memory.read_cons (c : Host.Cell) (t : List Host.Cell) (a : Nat) :
    Memory.read (c :: t) a = if c.1 = a then c.2 else Memory.read t a := by
  by_cases h : c.1 = a <;> simp [Memory.read, h]

/-- Below the first address nothing is listed. -/
theorem Memory.read_below (m : List Host.Cell) (lo a : Nat) (h : Memory.wfFrom lo m = true) (ha : a < lo) :
    Memory.read m a = Memory.blank := by
  induction m generalizing lo with
  | nil => rfl
  | cons c t ih =>
    simp only [Memory.wfFrom, Bool.and_eq_true, decide_eq_true_eq] at h
    rw [Memory.read_cons, if_neg (by omega)]
    exact ih _ h.2 (by omega)

theorem Memory.read_writeFrom (m : List Host.Cell) (lo a : Nat) (b : BitVec 8) (h : Memory.wfFrom lo m = true) (k : Nat) :
    Memory.read (Memory.write a b m) k = if k = a then b else Memory.read m k := by
  induction m generalizing lo with
  | nil =>
    by_cases hb : b = Memory.blank
    · subst hb; simp [Memory.write, Memory.read]
    · simp only [Memory.write, hb, if_false, Memory.read_cons, eq_comm]
  | cons c t ih =>
    obtain ⟨x, y⟩ := c
    have hw := h
    simp only [Memory.wfFrom, Bool.and_eq_true, decide_eq_true_eq] at h
    obtain ⟨⟨hx, hy⟩, ht⟩ := h
    unfold Memory.write
    by_cases h1 : a < x
    · by_cases hb : b = Memory.blank
      · simp only [h1, hb, if_true]
        by_cases hk : k = a
        · subst hk
          rw [if_pos rfl, Memory.read_cons, if_neg (by simp; omega)]
          exact Memory.read_below t _ _ ht (by omega)
        · rw [if_neg hk]
      · simp only [h1, hb, if_true, if_false]
        rw [Memory.read_cons]
        by_cases hk : k = a <;> simp [hk, eq_comm]
        intro hh; exact absurd hh.symm hk
    · by_cases h2 : a = x
      · subst h2
        by_cases hb : b = Memory.blank
        · simp only [lt_irrefl, hb, if_true, if_false]
          by_cases hk : k = a
          · subst hk
            rw [if_pos rfl]; exact Memory.read_below t _ _ ht (by omega)
          · rw [if_neg hk, Memory.read_cons, if_neg (fun hh => hk hh.symm)]
        · simp only [lt_irrefl, hb, if_true, if_false, Memory.read_cons]
          by_cases hk : k = a
          · simp [hk]
          · simp [hk, Ne.symm hk]
      · simp only [h1, h2, if_false, Memory.read_cons, ih _ ht]
        by_cases hk : k = a
        · subst hk; simp [Ne.symm h2]
        · simp [hk]

/-- A byte written reads as written, every other one as before. -/
theorem Memory.read_write (m : List Host.Cell) (a : Nat) (b : BitVec 8) (h : Memory.wf m = true) (k : Nat) :
    Memory.read (Memory.write a b m) k = if k = a then b else Memory.read m k :=
  Memory.read_writeFrom m 0 a b h k

/-- Bytes outside a string that is written read as before. -/
theorem Memory.read_writeAll_other (b : Bytes) (a : Nat) (m : List Host.Cell) (h : Memory.wf m = true) (k : Nat)
    (hk : k < a ∨ a + b.length ≤ k) : Memory.read (Memory.writeAll a b m) k = Memory.read m k := by
  induction b generalizing a m with
  | nil => rfl
  | cons x t ih =>
    simp only [List.length_cons] at hk
    simp only [Memory.writeAll]
    rw [ih _ _ (Memory.wf_write _ _ _ h) (by omega), Memory.read_write _ _ _ h, if_neg (by omega)]

/-- The state after reset has canonical SRAM. -/
theorem sram_inv_reset : SramInv State.reset := rfl

end Sys2Proof.Machine
end

