-- ==== Sys2Proof/Laws/Store.lean ====
section
/-! SUPPORT. Laws of the dictionary's stores and of the vectors of units: what is read after a write. -/
namespace Sys2Proof.Machine

theorem Store.find_nil (k : Nat) : Store.find [] k = none := rfl

theorem Store.find_cons (e : Nat × Val) (t : Store) (k : Nat) :
    Store.find (e :: t) k = if e.1 = k then some e.2 else Store.find t k := by
  by_cases h : e.1 = k <;> simp [Store.find, h]

/-- Removing the entries of a key leaves every other key as it reads. -/
theorem Store.find_filter_other (st : Store) {k k' : Nat} (h : k' ≠ k) :
    Store.find (st.filter fun e => e.1 != k) k' = Store.find st k' := by
  induction st with
  | nil => rfl
  | cons e t ih =>
    by_cases he : e.1 = k
    · have : e.1 ≠ k' := fun hh => h (hh ▸ he)
      simp [he, Store.find_cons, ih, Ne.symm h]
    · simp [he, Store.find_cons, ih]

/-- Removing the entries of a key leaves none of it. -/
theorem Store.find_filter_same (st : Store) (k : Nat) :
    Store.find (st.filter fun e => e.1 != k) k = none := by
  induction st with
  | nil => rfl
  | cons e t ih =>
    by_cases he : e.1 = k
    · simp [he, ih]
    · simp [he, Store.find_cons, ih]

theorem Store.find_insert (k : Nat) (v : Val) (st : Store) (h : Store.find st k = none) (k' : Nat) :
    Store.find (Store.insert k v st) k' = if k' = k then some v else Store.find st k' := by
  induction st with
  | nil => simp [Store.insert, Store.find_cons, Store.find_nil, eq_comm]
  | cons e t ih =>
    simp only [Store.insert]
    rw [Store.find_cons] at h
    by_cases hek : e.1 = k
    · simp [hek] at h
    · simp only [hek, if_false] at h
      by_cases hlt : k < e.1
      · simp [hlt, Store.find_cons, eq_comm]
      · simp only [hlt, if_false, Store.find_cons, ih h]
        by_cases hk' : k' = k
        · subst hk'; simp [hek]
        · simp [hk']

/-- The key that was written reads what was written; the default is not listed. -/
theorem Store.find_put_same (k : Nat) (v d : Val) (st : Store) :
    Store.find (Store.put k v d st) k = if v = d then none else some v := by
  unfold Store.put
  by_cases h : v = d
  · simp [h, Store.find_filter_same]
  · simp [h, Store.find_insert _ _ _ (Store.find_filter_same st k)]

/-- A write leaves every other key as it reads. -/
theorem Store.find_put_other (k : Nat) (v d : Val) (st : Store) {k' : Nat} (h : k' ≠ k) :
    Store.find (Store.put k v d st) k' = Store.find st k' := by
  unfold Store.put
  by_cases hv : v = d
  · simp [hv, Store.find_filter_other st h]
  · simp [hv, Store.find_insert _ _ _ (Store.find_filter_same st k), h, Store.find_filter_other st h]

/-- A written value, read with the same default, is the value. -/
@[simp] theorem Store.getD_put_same (k : Nat) (v d : Val) (st : Store) :
    (Store.find (Store.put k v d st) k).getD d = v := by
  rw [Store.find_put_same]; by_cases h : v = d <;> simp [h]

theorem Store.risingFrom_mono (st : Store) {a b : Nat} (hab : a ≤ b) (h : Store.risingFrom b st = true) :
    Store.risingFrom a st = true := by
  cases st with
  | nil => rfl
  | cons e t => simp only [Store.risingFrom, Bool.and_eq_true, decide_eq_true_eq] at *; exact ⟨le_trans hab h.1, h.2⟩

theorem Store.risingFrom_filter (st : Store) (p : Nat × Val → Bool) (lo : Nat) (h : Store.risingFrom lo st = true) :
    Store.risingFrom lo (st.filter p) = true := by
  induction st generalizing lo with
  | nil => rfl
  | cons e t ih =>
    simp only [Store.risingFrom, Bool.and_eq_true, decide_eq_true_eq] at h
    by_cases hp : p e = true
    · simp [List.filter, hp, Store.risingFrom, h.1, ih _ h.2]
    · simp only [List.filter, hp]
      exact Store.risingFrom_mono _ (by omega) (ih _ h.2)

theorem Store.risingFrom_insert (k : Nat) (v : Val) (st : Store) (lo : Nat) (hlo : lo ≤ k)
    (h : Store.risingFrom lo st = true) (hk : ∀ e ∈ st, e.1 ≠ k) : Store.risingFrom lo (Store.insert k v st) = true := by
  induction st generalizing lo with
  | nil => simp [Store.insert, Store.risingFrom, hlo]
  | cons e t ih =>
    simp only [Store.risingFrom, Bool.and_eq_true, decide_eq_true_eq] at h
    have hne : e.1 ≠ k := hk e (by simp)
    simp only [Store.insert]
    by_cases hlt : k < e.1
    · simp [hlt, Store.risingFrom, hlo, h.2]
    · simp only [hlt, if_false, Store.risingFrom, Bool.and_eq_true, decide_eq_true_eq]
      exact ⟨h.1, ih _ (by omega) h.2 fun e' he' => hk e' (by simp [he'])⟩

/-- A write keeps the keys rising. -/
theorem Store.rising_put (k : Nat) (v d : Val) (st : Store) (h : Store.rising st = true) :
    Store.rising (Store.put k v d st) = true := by
  unfold Store.put Store.rising at *
  have hf := Store.risingFrom_filter st (fun e => e.1 != k) 0 h
  by_cases hv : v = d
  · simpa [hv] using hf
  · simp only [hv, if_false]
    exact Store.risingFrom_insert k v _ 0 (Nat.zero_le _) hf (by simp)

/-! ### Vectors of units -/

@[simp] theorem vat_vmod_same {α : Type} {n : Nat} (v : Vector α n) (i : Nat) (f : α → α) (d : α) (h : i < n) :
    vat (vmod v i f) i d = f (vat v i d) := by
  simp [vat, vmod, h]

@[simp] theorem vat_vmod_other {α : Type} {n : Nat} (v : Vector α n) {i j : Nat} (f : α → α) (d : α) (h : j ≠ i) :
    vat (vmod v i f) j d = vat v j d := by
  unfold vat vmod
  by_cases hi : i < n
  · by_cases hj : j < n
    · simp [hi, hj, Ne.symm h]
    · simp [hj]
  · simp [hi]

end Sys2Proof.Machine
end

