-- ==== Sys2Proof/Laws/State.lean ====
section
/-! SUPPORT. Every update of one component leaves every other component as it was, field by field; what a unit reads after it or another
unit has been changed. Written so that no later proof unfolds a record update. -/
namespace Sys2Proof.Machine

/-! ### setVal -/

@[simp] theorem State.setVal_dev (s : State) (r : Row) (i j : Nat) (v : Val) : (s.setVal r i j v).dev = s.dev := rfl
@[simp] theorem State.setVal_tc (s : State) (r : Row) (i j : Nat) (v : Val) : (s.setVal r i j v).tc = s.tc := rfl
@[simp] theorem State.setVal_lanes (s : State) (r : Row) (i j : Nat) (v : Val) : (s.setVal r i j v).lanes = s.lanes := rfl
@[simp] theorem State.setVal_slots (s : State) (r : Row) (i j : Nat) (v : Val) : (s.setVal r i j v).slots = s.slots := rfl
@[simp] theorem State.setVal_sel (s : State) (r : Row) (i j : Nat) (v : Val) : (s.setVal r i j v).sel = s.sel := rfl
@[simp] theorem State.setVal_hold (s : State) (r : Row) (i j : Nat) (v : Val) : (s.setVal r i j v).hold = s.hold := rfl
@[simp] theorem State.setVal_scr (s : State) (r : Row) (i j : Nat) (v : Val) : (s.setVal r i j v).scr = s.scr := rfl
@[simp] theorem State.setVal_dplls (s : State) (r : Row) (i j : Nat) (v : Val) : (s.setVal r i j v).dplls = s.dplls := rfl
@[simp] theorem State.setVal_outs (s : State) (r : Row) (i j : Nat) (v : Val) : (s.setVal r i j v).outs = s.outs := rfl
@[simp] theorem State.setVal_pps (s : State) (r : Row) (i j : Nat) (v : Val) : (s.setVal r i j v).pps = s.pps := rfl
@[simp] theorem State.setVal_uarts (s : State) (r : Row) (i j : Nat) (v : Val) : (s.setVal r i j v).uarts = s.uarts := rfl
@[simp] theorem State.setVal_tic (s : State) (r : Row) (i j : Nat) (v : Val) : (s.setVal r i j v).tic = s.tic := rfl
@[simp] theorem State.setVal_gnss (s : State) (r : Row) (i j : Nat) (v : Val) : (s.setVal r i j v).gnss = s.gnss := rfl
@[simp] theorem State.setVal_net (s : State) (r : Row) (i j : Nat) (v : Val) : (s.setVal r i j v).net = s.net := rfl
@[simp] theorem State.setVal_crem (s : State) (r : Row) (i j : Nat) (v : Val) : (s.setVal r i j v).crem = s.crem := rfl
@[simp] theorem State.setVal_gran (s : State) (r : Row) (i j : Nat) (v : Val) : (s.setVal r i j v).gran = s.gran := rfl
@[simp] theorem State.setVal_win (s : State) (r : Row) (i j : Nat) (v : Val) : (s.setVal r i j v).win = s.win := rfl
@[simp] theorem State.setVal_stew (s : State) (r : Row) (i j : Nat) (v : Val) : (s.setVal r i j v).stew = s.stew := rfl
@[simp] theorem State.setVal_mtx (s : State) (r : Row) (i j : Nat) (v : Val) : (s.setVal r i j v).mtx = s.mtx := rfl
@[simp] theorem State.setVal_tithe (s : State) (r : Row) (i j : Nat) (v : Val) : (s.setVal r i j v).tithe = s.tithe := rfl
@[simp] theorem State.setVal_boot (s : State) (r : Row) (i j : Nat) (v : Val) : (s.setVal r i j v).boot = s.boot := rfl
@[simp] theorem State.setVal_elec (s : State) (r : Row) (i j : Nat) (v : Val) : (s.setVal r i j v).elec = s.elec := rfl
@[simp] theorem State.setVal_fresh (s : State) (r : Row) (i j : Nat) (v : Val) : (s.setVal r i j v).fresh = s.fresh := rfl
@[simp] theorem State.setVal_pending (s : State) (r : Row) (i j : Nat) (v : Val) : (s.setVal r i j v).pending = s.pending := rfl

/-! ### setN -/

@[simp] theorem State.setN_dev (s : State) (r : Row) (v : Int) (i j : Nat) : (s.setN r v i j).dev = s.dev := rfl
@[simp] theorem State.setN_tc (s : State) (r : Row) (v : Int) (i j : Nat) : (s.setN r v i j).tc = s.tc := rfl
@[simp] theorem State.setN_lanes (s : State) (r : Row) (v : Int) (i j : Nat) : (s.setN r v i j).lanes = s.lanes := rfl
@[simp] theorem State.setN_slots (s : State) (r : Row) (v : Int) (i j : Nat) : (s.setN r v i j).slots = s.slots := rfl
@[simp] theorem State.setN_sel (s : State) (r : Row) (v : Int) (i j : Nat) : (s.setN r v i j).sel = s.sel := rfl
@[simp] theorem State.setN_hold (s : State) (r : Row) (v : Int) (i j : Nat) : (s.setN r v i j).hold = s.hold := rfl
@[simp] theorem State.setN_scr (s : State) (r : Row) (v : Int) (i j : Nat) : (s.setN r v i j).scr = s.scr := rfl
@[simp] theorem State.setN_dplls (s : State) (r : Row) (v : Int) (i j : Nat) : (s.setN r v i j).dplls = s.dplls := rfl
@[simp] theorem State.setN_outs (s : State) (r : Row) (v : Int) (i j : Nat) : (s.setN r v i j).outs = s.outs := rfl
@[simp] theorem State.setN_pps (s : State) (r : Row) (v : Int) (i j : Nat) : (s.setN r v i j).pps = s.pps := rfl
@[simp] theorem State.setN_uarts (s : State) (r : Row) (v : Int) (i j : Nat) : (s.setN r v i j).uarts = s.uarts := rfl
@[simp] theorem State.setN_tic (s : State) (r : Row) (v : Int) (i j : Nat) : (s.setN r v i j).tic = s.tic := rfl
@[simp] theorem State.setN_gnss (s : State) (r : Row) (v : Int) (i j : Nat) : (s.setN r v i j).gnss = s.gnss := rfl
@[simp] theorem State.setN_net (s : State) (r : Row) (v : Int) (i j : Nat) : (s.setN r v i j).net = s.net := rfl
@[simp] theorem State.setN_crem (s : State) (r : Row) (v : Int) (i j : Nat) : (s.setN r v i j).crem = s.crem := rfl
@[simp] theorem State.setN_gran (s : State) (r : Row) (v : Int) (i j : Nat) : (s.setN r v i j).gran = s.gran := rfl
@[simp] theorem State.setN_win (s : State) (r : Row) (v : Int) (i j : Nat) : (s.setN r v i j).win = s.win := rfl
@[simp] theorem State.setN_stew (s : State) (r : Row) (v : Int) (i j : Nat) : (s.setN r v i j).stew = s.stew := rfl
@[simp] theorem State.setN_mtx (s : State) (r : Row) (v : Int) (i j : Nat) : (s.setN r v i j).mtx = s.mtx := rfl
@[simp] theorem State.setN_tithe (s : State) (r : Row) (v : Int) (i j : Nat) : (s.setN r v i j).tithe = s.tithe := rfl
@[simp] theorem State.setN_boot (s : State) (r : Row) (v : Int) (i j : Nat) : (s.setN r v i j).boot = s.boot := rfl
@[simp] theorem State.setN_elec (s : State) (r : Row) (v : Int) (i j : Nat) : (s.setN r v i j).elec = s.elec := rfl
@[simp] theorem State.setN_fresh (s : State) (r : Row) (v : Int) (i j : Nat) : (s.setN r v i j).fresh = s.fresh := rfl
@[simp] theorem State.setN_pending (s : State) (r : Row) (v : Int) (i j : Nat) : (s.setN r v i j).pending = s.pending := rfl

/-! ### setT -/

@[simp] theorem State.setT_dev (s : State) (r : Row) (b : Bool) (i j : Nat) : (s.setT r b i j).dev = s.dev := rfl
@[simp] theorem State.setT_tc (s : State) (r : Row) (b : Bool) (i j : Nat) : (s.setT r b i j).tc = s.tc := rfl
@[simp] theorem State.setT_lanes (s : State) (r : Row) (b : Bool) (i j : Nat) : (s.setT r b i j).lanes = s.lanes := rfl
@[simp] theorem State.setT_slots (s : State) (r : Row) (b : Bool) (i j : Nat) : (s.setT r b i j).slots = s.slots := rfl
@[simp] theorem State.setT_sel (s : State) (r : Row) (b : Bool) (i j : Nat) : (s.setT r b i j).sel = s.sel := rfl
@[simp] theorem State.setT_hold (s : State) (r : Row) (b : Bool) (i j : Nat) : (s.setT r b i j).hold = s.hold := rfl
@[simp] theorem State.setT_scr (s : State) (r : Row) (b : Bool) (i j : Nat) : (s.setT r b i j).scr = s.scr := rfl
@[simp] theorem State.setT_dplls (s : State) (r : Row) (b : Bool) (i j : Nat) : (s.setT r b i j).dplls = s.dplls := rfl
@[simp] theorem State.setT_outs (s : State) (r : Row) (b : Bool) (i j : Nat) : (s.setT r b i j).outs = s.outs := rfl
@[simp] theorem State.setT_pps (s : State) (r : Row) (b : Bool) (i j : Nat) : (s.setT r b i j).pps = s.pps := rfl
@[simp] theorem State.setT_uarts (s : State) (r : Row) (b : Bool) (i j : Nat) : (s.setT r b i j).uarts = s.uarts := rfl
@[simp] theorem State.setT_tic (s : State) (r : Row) (b : Bool) (i j : Nat) : (s.setT r b i j).tic = s.tic := rfl
@[simp] theorem State.setT_gnss (s : State) (r : Row) (b : Bool) (i j : Nat) : (s.setT r b i j).gnss = s.gnss := rfl
@[simp] theorem State.setT_net (s : State) (r : Row) (b : Bool) (i j : Nat) : (s.setT r b i j).net = s.net := rfl
@[simp] theorem State.setT_crem (s : State) (r : Row) (b : Bool) (i j : Nat) : (s.setT r b i j).crem = s.crem := rfl
@[simp] theorem State.setT_gran (s : State) (r : Row) (b : Bool) (i j : Nat) : (s.setT r b i j).gran = s.gran := rfl
@[simp] theorem State.setT_win (s : State) (r : Row) (b : Bool) (i j : Nat) : (s.setT r b i j).win = s.win := rfl
@[simp] theorem State.setT_stew (s : State) (r : Row) (b : Bool) (i j : Nat) : (s.setT r b i j).stew = s.stew := rfl
@[simp] theorem State.setT_mtx (s : State) (r : Row) (b : Bool) (i j : Nat) : (s.setT r b i j).mtx = s.mtx := rfl
@[simp] theorem State.setT_tithe (s : State) (r : Row) (b : Bool) (i j : Nat) : (s.setT r b i j).tithe = s.tithe := rfl
@[simp] theorem State.setT_boot (s : State) (r : Row) (b : Bool) (i j : Nat) : (s.setT r b i j).boot = s.boot := rfl
@[simp] theorem State.setT_elec (s : State) (r : Row) (b : Bool) (i j : Nat) : (s.setT r b i j).elec = s.elec := rfl
@[simp] theorem State.setT_fresh (s : State) (r : Row) (b : Bool) (i j : Nat) : (s.setT r b i j).fresh = s.fresh := rfl
@[simp] theorem State.setT_pending (s : State) (r : Row) (b : Bool) (i j : Nat) : (s.setT r b i j).pending = s.pending := rfl

/-! ### setB -/

@[simp] theorem State.setB_dev (s : State) (r : Row) (b : Bytes) (i j : Nat) : (s.setB r b i j).dev = s.dev := rfl
@[simp] theorem State.setB_tc (s : State) (r : Row) (b : Bytes) (i j : Nat) : (s.setB r b i j).tc = s.tc := rfl
@[simp] theorem State.setB_lanes (s : State) (r : Row) (b : Bytes) (i j : Nat) : (s.setB r b i j).lanes = s.lanes := rfl
@[simp] theorem State.setB_slots (s : State) (r : Row) (b : Bytes) (i j : Nat) : (s.setB r b i j).slots = s.slots := rfl
@[simp] theorem State.setB_sel (s : State) (r : Row) (b : Bytes) (i j : Nat) : (s.setB r b i j).sel = s.sel := rfl
@[simp] theorem State.setB_hold (s : State) (r : Row) (b : Bytes) (i j : Nat) : (s.setB r b i j).hold = s.hold := rfl
@[simp] theorem State.setB_scr (s : State) (r : Row) (b : Bytes) (i j : Nat) : (s.setB r b i j).scr = s.scr := rfl
@[simp] theorem State.setB_dplls (s : State) (r : Row) (b : Bytes) (i j : Nat) : (s.setB r b i j).dplls = s.dplls := rfl
@[simp] theorem State.setB_outs (s : State) (r : Row) (b : Bytes) (i j : Nat) : (s.setB r b i j).outs = s.outs := rfl
@[simp] theorem State.setB_pps (s : State) (r : Row) (b : Bytes) (i j : Nat) : (s.setB r b i j).pps = s.pps := rfl
@[simp] theorem State.setB_uarts (s : State) (r : Row) (b : Bytes) (i j : Nat) : (s.setB r b i j).uarts = s.uarts := rfl
@[simp] theorem State.setB_tic (s : State) (r : Row) (b : Bytes) (i j : Nat) : (s.setB r b i j).tic = s.tic := rfl
@[simp] theorem State.setB_gnss (s : State) (r : Row) (b : Bytes) (i j : Nat) : (s.setB r b i j).gnss = s.gnss := rfl
@[simp] theorem State.setB_net (s : State) (r : Row) (b : Bytes) (i j : Nat) : (s.setB r b i j).net = s.net := rfl
@[simp] theorem State.setB_crem (s : State) (r : Row) (b : Bytes) (i j : Nat) : (s.setB r b i j).crem = s.crem := rfl
@[simp] theorem State.setB_gran (s : State) (r : Row) (b : Bytes) (i j : Nat) : (s.setB r b i j).gran = s.gran := rfl
@[simp] theorem State.setB_win (s : State) (r : Row) (b : Bytes) (i j : Nat) : (s.setB r b i j).win = s.win := rfl
@[simp] theorem State.setB_stew (s : State) (r : Row) (b : Bytes) (i j : Nat) : (s.setB r b i j).stew = s.stew := rfl
@[simp] theorem State.setB_mtx (s : State) (r : Row) (b : Bytes) (i j : Nat) : (s.setB r b i j).mtx = s.mtx := rfl
@[simp] theorem State.setB_tithe (s : State) (r : Row) (b : Bytes) (i j : Nat) : (s.setB r b i j).tithe = s.tithe := rfl
@[simp] theorem State.setB_boot (s : State) (r : Row) (b : Bytes) (i j : Nat) : (s.setB r b i j).boot = s.boot := rfl
@[simp] theorem State.setB_elec (s : State) (r : Row) (b : Bytes) (i j : Nat) : (s.setB r b i j).elec = s.elec := rfl
@[simp] theorem State.setB_fresh (s : State) (r : Row) (b : Bytes) (i j : Nat) : (s.setB r b i j).fresh = s.fresh := rfl
@[simp] theorem State.setB_pending (s : State) (r : Row) (b : Bytes) (i j : Nat) : (s.setB r b i j).pending = s.pending := rfl

/-! ### setCfg -/

@[simp] theorem State.setCfg_dev (s : State) (r : Row) (i j : Nat) (v : Val) : (s.setCfg r i j v).dev = s.dev := rfl
@[simp] theorem State.setCfg_tc (s : State) (r : Row) (i j : Nat) (v : Val) : (s.setCfg r i j v).tc = s.tc := rfl
@[simp] theorem State.setCfg_lanes (s : State) (r : Row) (i j : Nat) (v : Val) : (s.setCfg r i j v).lanes = s.lanes := rfl
@[simp] theorem State.setCfg_slots (s : State) (r : Row) (i j : Nat) (v : Val) : (s.setCfg r i j v).slots = s.slots := rfl
@[simp] theorem State.setCfg_sel (s : State) (r : Row) (i j : Nat) (v : Val) : (s.setCfg r i j v).sel = s.sel := rfl
@[simp] theorem State.setCfg_hold (s : State) (r : Row) (i j : Nat) (v : Val) : (s.setCfg r i j v).hold = s.hold := rfl
@[simp] theorem State.setCfg_scr (s : State) (r : Row) (i j : Nat) (v : Val) : (s.setCfg r i j v).scr = s.scr := rfl
@[simp] theorem State.setCfg_dplls (s : State) (r : Row) (i j : Nat) (v : Val) : (s.setCfg r i j v).dplls = s.dplls := rfl
@[simp] theorem State.setCfg_outs (s : State) (r : Row) (i j : Nat) (v : Val) : (s.setCfg r i j v).outs = s.outs := rfl
@[simp] theorem State.setCfg_pps (s : State) (r : Row) (i j : Nat) (v : Val) : (s.setCfg r i j v).pps = s.pps := rfl
@[simp] theorem State.setCfg_uarts (s : State) (r : Row) (i j : Nat) (v : Val) : (s.setCfg r i j v).uarts = s.uarts := rfl
@[simp] theorem State.setCfg_tic (s : State) (r : Row) (i j : Nat) (v : Val) : (s.setCfg r i j v).tic = s.tic := rfl
@[simp] theorem State.setCfg_gnss (s : State) (r : Row) (i j : Nat) (v : Val) : (s.setCfg r i j v).gnss = s.gnss := rfl
@[simp] theorem State.setCfg_net (s : State) (r : Row) (i j : Nat) (v : Val) : (s.setCfg r i j v).net = s.net := rfl
@[simp] theorem State.setCfg_crem (s : State) (r : Row) (i j : Nat) (v : Val) : (s.setCfg r i j v).crem = s.crem := rfl
@[simp] theorem State.setCfg_gran (s : State) (r : Row) (i j : Nat) (v : Val) : (s.setCfg r i j v).gran = s.gran := rfl
@[simp] theorem State.setCfg_win (s : State) (r : Row) (i j : Nat) (v : Val) : (s.setCfg r i j v).win = s.win := rfl
@[simp] theorem State.setCfg_stew (s : State) (r : Row) (i j : Nat) (v : Val) : (s.setCfg r i j v).stew = s.stew := rfl
@[simp] theorem State.setCfg_mtx (s : State) (r : Row) (i j : Nat) (v : Val) : (s.setCfg r i j v).mtx = s.mtx := rfl
@[simp] theorem State.setCfg_tithe (s : State) (r : Row) (i j : Nat) (v : Val) : (s.setCfg r i j v).tithe = s.tithe := rfl
@[simp] theorem State.setCfg_boot (s : State) (r : Row) (i j : Nat) (v : Val) : (s.setCfg r i j v).boot = s.boot := rfl
@[simp] theorem State.setCfg_elec (s : State) (r : Row) (i j : Nat) (v : Val) : (s.setCfg r i j v).elec = s.elec := rfl
@[simp] theorem State.setCfg_fresh (s : State) (r : Row) (i j : Nat) (v : Val) : (s.setCfg r i j v).fresh = s.fresh := rfl
@[simp] theorem State.setCfg_pending (s : State) (r : Row) (i j : Nat) (v : Val) : (s.setCfg r i j v).pending = s.pending := rfl

/-! ### setEff -/

@[simp] theorem State.setEff_dev (s : State) (r : Row) (i j : Nat) (v : Val) : (s.setEff r i j v).dev = s.dev := rfl
@[simp] theorem State.setEff_tc (s : State) (r : Row) (i j : Nat) (v : Val) : (s.setEff r i j v).tc = s.tc := rfl
@[simp] theorem State.setEff_lanes (s : State) (r : Row) (i j : Nat) (v : Val) : (s.setEff r i j v).lanes = s.lanes := rfl
@[simp] theorem State.setEff_slots (s : State) (r : Row) (i j : Nat) (v : Val) : (s.setEff r i j v).slots = s.slots := rfl
@[simp] theorem State.setEff_sel (s : State) (r : Row) (i j : Nat) (v : Val) : (s.setEff r i j v).sel = s.sel := rfl
@[simp] theorem State.setEff_hold (s : State) (r : Row) (i j : Nat) (v : Val) : (s.setEff r i j v).hold = s.hold := rfl
@[simp] theorem State.setEff_scr (s : State) (r : Row) (i j : Nat) (v : Val) : (s.setEff r i j v).scr = s.scr := rfl
@[simp] theorem State.setEff_dplls (s : State) (r : Row) (i j : Nat) (v : Val) : (s.setEff r i j v).dplls = s.dplls := rfl
@[simp] theorem State.setEff_outs (s : State) (r : Row) (i j : Nat) (v : Val) : (s.setEff r i j v).outs = s.outs := rfl
@[simp] theorem State.setEff_pps (s : State) (r : Row) (i j : Nat) (v : Val) : (s.setEff r i j v).pps = s.pps := rfl
@[simp] theorem State.setEff_uarts (s : State) (r : Row) (i j : Nat) (v : Val) : (s.setEff r i j v).uarts = s.uarts := rfl
@[simp] theorem State.setEff_tic (s : State) (r : Row) (i j : Nat) (v : Val) : (s.setEff r i j v).tic = s.tic := rfl
@[simp] theorem State.setEff_gnss (s : State) (r : Row) (i j : Nat) (v : Val) : (s.setEff r i j v).gnss = s.gnss := rfl
@[simp] theorem State.setEff_net (s : State) (r : Row) (i j : Nat) (v : Val) : (s.setEff r i j v).net = s.net := rfl
@[simp] theorem State.setEff_crem (s : State) (r : Row) (i j : Nat) (v : Val) : (s.setEff r i j v).crem = s.crem := rfl
@[simp] theorem State.setEff_gran (s : State) (r : Row) (i j : Nat) (v : Val) : (s.setEff r i j v).gran = s.gran := rfl
@[simp] theorem State.setEff_win (s : State) (r : Row) (i j : Nat) (v : Val) : (s.setEff r i j v).win = s.win := rfl
@[simp] theorem State.setEff_stew (s : State) (r : Row) (i j : Nat) (v : Val) : (s.setEff r i j v).stew = s.stew := rfl
@[simp] theorem State.setEff_mtx (s : State) (r : Row) (i j : Nat) (v : Val) : (s.setEff r i j v).mtx = s.mtx := rfl
@[simp] theorem State.setEff_tithe (s : State) (r : Row) (i j : Nat) (v : Val) : (s.setEff r i j v).tithe = s.tithe := rfl
@[simp] theorem State.setEff_boot (s : State) (r : Row) (i j : Nat) (v : Val) : (s.setEff r i j v).boot = s.boot := rfl
@[simp] theorem State.setEff_elec (s : State) (r : Row) (i j : Nat) (v : Val) : (s.setEff r i j v).elec = s.elec := rfl
@[simp] theorem State.setEff_fresh (s : State) (r : Row) (i j : Nat) (v : Val) : (s.setEff r i j v).fresh = s.fresh := rfl
@[simp] theorem State.setEff_pending (s : State) (r : Row) (i j : Nat) (v : Val) : (s.setEff r i j v).pending = s.pending := rfl

/-! ### modSlot -/

@[simp] theorem State.modSlot_dict (s : State) (n : Nat) (f : Slot → Slot) : (s.modSlot n f).dict = s.dict := rfl
@[simp] theorem State.modSlot_dev (s : State) (n : Nat) (f : Slot → Slot) : (s.modSlot n f).dev = s.dev := rfl
@[simp] theorem State.modSlot_tc (s : State) (n : Nat) (f : Slot → Slot) : (s.modSlot n f).tc = s.tc := rfl
@[simp] theorem State.modSlot_lanes (s : State) (n : Nat) (f : Slot → Slot) : (s.modSlot n f).lanes = s.lanes := rfl
@[simp] theorem State.modSlot_sel (s : State) (n : Nat) (f : Slot → Slot) : (s.modSlot n f).sel = s.sel := rfl
@[simp] theorem State.modSlot_hold (s : State) (n : Nat) (f : Slot → Slot) : (s.modSlot n f).hold = s.hold := rfl
@[simp] theorem State.modSlot_scr (s : State) (n : Nat) (f : Slot → Slot) : (s.modSlot n f).scr = s.scr := rfl
@[simp] theorem State.modSlot_dplls (s : State) (n : Nat) (f : Slot → Slot) : (s.modSlot n f).dplls = s.dplls := rfl
@[simp] theorem State.modSlot_outs (s : State) (n : Nat) (f : Slot → Slot) : (s.modSlot n f).outs = s.outs := rfl
@[simp] theorem State.modSlot_pps (s : State) (n : Nat) (f : Slot → Slot) : (s.modSlot n f).pps = s.pps := rfl
@[simp] theorem State.modSlot_uarts (s : State) (n : Nat) (f : Slot → Slot) : (s.modSlot n f).uarts = s.uarts := rfl
@[simp] theorem State.modSlot_tic (s : State) (n : Nat) (f : Slot → Slot) : (s.modSlot n f).tic = s.tic := rfl
@[simp] theorem State.modSlot_gnss (s : State) (n : Nat) (f : Slot → Slot) : (s.modSlot n f).gnss = s.gnss := rfl
@[simp] theorem State.modSlot_net (s : State) (n : Nat) (f : Slot → Slot) : (s.modSlot n f).net = s.net := rfl
@[simp] theorem State.modSlot_crem (s : State) (n : Nat) (f : Slot → Slot) : (s.modSlot n f).crem = s.crem := rfl
@[simp] theorem State.modSlot_gran (s : State) (n : Nat) (f : Slot → Slot) : (s.modSlot n f).gran = s.gran := rfl
@[simp] theorem State.modSlot_win (s : State) (n : Nat) (f : Slot → Slot) : (s.modSlot n f).win = s.win := rfl
@[simp] theorem State.modSlot_stew (s : State) (n : Nat) (f : Slot → Slot) : (s.modSlot n f).stew = s.stew := rfl
@[simp] theorem State.modSlot_mtx (s : State) (n : Nat) (f : Slot → Slot) : (s.modSlot n f).mtx = s.mtx := rfl
@[simp] theorem State.modSlot_tithe (s : State) (n : Nat) (f : Slot → Slot) : (s.modSlot n f).tithe = s.tithe := rfl
@[simp] theorem State.modSlot_boot (s : State) (n : Nat) (f : Slot → Slot) : (s.modSlot n f).boot = s.boot := rfl
@[simp] theorem State.modSlot_elec (s : State) (n : Nat) (f : Slot → Slot) : (s.modSlot n f).elec = s.elec := rfl
@[simp] theorem State.modSlot_fresh (s : State) (n : Nat) (f : Slot → Slot) : (s.modSlot n f).fresh = s.fresh := rfl
@[simp] theorem State.modSlot_pending (s : State) (n : Nat) (f : Slot → Slot) : (s.modSlot n f).pending = s.pending := rfl

/-! ### modPort -/

@[simp] theorem State.modPort_dict (s : State) (n : Nat) (f : Port → Port) : (s.modPort n f).dict = s.dict := rfl
@[simp] theorem State.modPort_dev (s : State) (n : Nat) (f : Port → Port) : (s.modPort n f).dev = s.dev := rfl
@[simp] theorem State.modPort_tc (s : State) (n : Nat) (f : Port → Port) : (s.modPort n f).tc = s.tc := rfl
@[simp] theorem State.modPort_lanes (s : State) (n : Nat) (f : Port → Port) : (s.modPort n f).lanes = s.lanes := rfl
@[simp] theorem State.modPort_slots (s : State) (n : Nat) (f : Port → Port) : (s.modPort n f).slots = s.slots := rfl
@[simp] theorem State.modPort_sel (s : State) (n : Nat) (f : Port → Port) : (s.modPort n f).sel = s.sel := rfl
@[simp] theorem State.modPort_hold (s : State) (n : Nat) (f : Port → Port) : (s.modPort n f).hold = s.hold := rfl
@[simp] theorem State.modPort_scr (s : State) (n : Nat) (f : Port → Port) : (s.modPort n f).scr = s.scr := rfl
@[simp] theorem State.modPort_dplls (s : State) (n : Nat) (f : Port → Port) : (s.modPort n f).dplls = s.dplls := rfl
@[simp] theorem State.modPort_outs (s : State) (n : Nat) (f : Port → Port) : (s.modPort n f).outs = s.outs := rfl
@[simp] theorem State.modPort_pps (s : State) (n : Nat) (f : Port → Port) : (s.modPort n f).pps = s.pps := rfl
@[simp] theorem State.modPort_uarts (s : State) (n : Nat) (f : Port → Port) : (s.modPort n f).uarts = s.uarts := rfl
@[simp] theorem State.modPort_tic (s : State) (n : Nat) (f : Port → Port) : (s.modPort n f).tic = s.tic := rfl
@[simp] theorem State.modPort_gnss (s : State) (n : Nat) (f : Port → Port) : (s.modPort n f).gnss = s.gnss := rfl
@[simp] theorem State.modPort_crem (s : State) (n : Nat) (f : Port → Port) : (s.modPort n f).crem = s.crem := rfl
@[simp] theorem State.modPort_gran (s : State) (n : Nat) (f : Port → Port) : (s.modPort n f).gran = s.gran := rfl
@[simp] theorem State.modPort_win (s : State) (n : Nat) (f : Port → Port) : (s.modPort n f).win = s.win := rfl
@[simp] theorem State.modPort_stew (s : State) (n : Nat) (f : Port → Port) : (s.modPort n f).stew = s.stew := rfl
@[simp] theorem State.modPort_mtx (s : State) (n : Nat) (f : Port → Port) : (s.modPort n f).mtx = s.mtx := rfl
@[simp] theorem State.modPort_tithe (s : State) (n : Nat) (f : Port → Port) : (s.modPort n f).tithe = s.tithe := rfl
@[simp] theorem State.modPort_boot (s : State) (n : Nat) (f : Port → Port) : (s.modPort n f).boot = s.boot := rfl
@[simp] theorem State.modPort_elec (s : State) (n : Nat) (f : Port → Port) : (s.modPort n f).elec = s.elec := rfl
@[simp] theorem State.modPort_fresh (s : State) (n : Nat) (f : Port → Port) : (s.modPort n f).fresh = s.fresh := rfl
@[simp] theorem State.modPort_pending (s : State) (n : Nat) (f : Port → Port) : (s.modPort n f).pending = s.pending := rfl

/-! ### modLane -/

@[simp] theorem State.modLane_dict (s : State) (n : Nat) (f : Lane → Lane) : (s.modLane n f).dict = s.dict := rfl
@[simp] theorem State.modLane_dev (s : State) (n : Nat) (f : Lane → Lane) : (s.modLane n f).dev = s.dev := rfl
@[simp] theorem State.modLane_tc (s : State) (n : Nat) (f : Lane → Lane) : (s.modLane n f).tc = s.tc := rfl
@[simp] theorem State.modLane_slots (s : State) (n : Nat) (f : Lane → Lane) : (s.modLane n f).slots = s.slots := rfl
@[simp] theorem State.modLane_sel (s : State) (n : Nat) (f : Lane → Lane) : (s.modLane n f).sel = s.sel := rfl
@[simp] theorem State.modLane_hold (s : State) (n : Nat) (f : Lane → Lane) : (s.modLane n f).hold = s.hold := rfl
@[simp] theorem State.modLane_scr (s : State) (n : Nat) (f : Lane → Lane) : (s.modLane n f).scr = s.scr := rfl
@[simp] theorem State.modLane_dplls (s : State) (n : Nat) (f : Lane → Lane) : (s.modLane n f).dplls = s.dplls := rfl
@[simp] theorem State.modLane_outs (s : State) (n : Nat) (f : Lane → Lane) : (s.modLane n f).outs = s.outs := rfl
@[simp] theorem State.modLane_pps (s : State) (n : Nat) (f : Lane → Lane) : (s.modLane n f).pps = s.pps := rfl
@[simp] theorem State.modLane_uarts (s : State) (n : Nat) (f : Lane → Lane) : (s.modLane n f).uarts = s.uarts := rfl
@[simp] theorem State.modLane_tic (s : State) (n : Nat) (f : Lane → Lane) : (s.modLane n f).tic = s.tic := rfl
@[simp] theorem State.modLane_gnss (s : State) (n : Nat) (f : Lane → Lane) : (s.modLane n f).gnss = s.gnss := rfl
@[simp] theorem State.modLane_net (s : State) (n : Nat) (f : Lane → Lane) : (s.modLane n f).net = s.net := rfl
@[simp] theorem State.modLane_crem (s : State) (n : Nat) (f : Lane → Lane) : (s.modLane n f).crem = s.crem := rfl
@[simp] theorem State.modLane_gran (s : State) (n : Nat) (f : Lane → Lane) : (s.modLane n f).gran = s.gran := rfl
@[simp] theorem State.modLane_win (s : State) (n : Nat) (f : Lane → Lane) : (s.modLane n f).win = s.win := rfl
@[simp] theorem State.modLane_stew (s : State) (n : Nat) (f : Lane → Lane) : (s.modLane n f).stew = s.stew := rfl
@[simp] theorem State.modLane_mtx (s : State) (n : Nat) (f : Lane → Lane) : (s.modLane n f).mtx = s.mtx := rfl
@[simp] theorem State.modLane_tithe (s : State) (n : Nat) (f : Lane → Lane) : (s.modLane n f).tithe = s.tithe := rfl
@[simp] theorem State.modLane_boot (s : State) (n : Nat) (f : Lane → Lane) : (s.modLane n f).boot = s.boot := rfl
@[simp] theorem State.modLane_elec (s : State) (n : Nat) (f : Lane → Lane) : (s.modLane n f).elec = s.elec := rfl
@[simp] theorem State.modLane_fresh (s : State) (n : Nat) (f : Lane → Lane) : (s.modLane n f).fresh = s.fresh := rfl
@[simp] theorem State.modLane_pending (s : State) (n : Nat) (f : Lane → Lane) : (s.modLane n f).pending = s.pending := rfl

/-! ### modPtp -/

@[simp] theorem State.modPtp_dict (s : State) (n : Nat) (f : PtpInst → PtpInst) : (s.modPtp n f).dict = s.dict := rfl
@[simp] theorem State.modPtp_dev (s : State) (n : Nat) (f : PtpInst → PtpInst) : (s.modPtp n f).dev = s.dev := rfl
@[simp] theorem State.modPtp_tc (s : State) (n : Nat) (f : PtpInst → PtpInst) : (s.modPtp n f).tc = s.tc := rfl
@[simp] theorem State.modPtp_lanes (s : State) (n : Nat) (f : PtpInst → PtpInst) : (s.modPtp n f).lanes = s.lanes := rfl
@[simp] theorem State.modPtp_slots (s : State) (n : Nat) (f : PtpInst → PtpInst) : (s.modPtp n f).slots = s.slots := rfl
@[simp] theorem State.modPtp_sel (s : State) (n : Nat) (f : PtpInst → PtpInst) : (s.modPtp n f).sel = s.sel := rfl
@[simp] theorem State.modPtp_hold (s : State) (n : Nat) (f : PtpInst → PtpInst) : (s.modPtp n f).hold = s.hold := rfl
@[simp] theorem State.modPtp_scr (s : State) (n : Nat) (f : PtpInst → PtpInst) : (s.modPtp n f).scr = s.scr := rfl
@[simp] theorem State.modPtp_dplls (s : State) (n : Nat) (f : PtpInst → PtpInst) : (s.modPtp n f).dplls = s.dplls := rfl
@[simp] theorem State.modPtp_outs (s : State) (n : Nat) (f : PtpInst → PtpInst) : (s.modPtp n f).outs = s.outs := rfl
@[simp] theorem State.modPtp_pps (s : State) (n : Nat) (f : PtpInst → PtpInst) : (s.modPtp n f).pps = s.pps := rfl
@[simp] theorem State.modPtp_uarts (s : State) (n : Nat) (f : PtpInst → PtpInst) : (s.modPtp n f).uarts = s.uarts := rfl
@[simp] theorem State.modPtp_tic (s : State) (n : Nat) (f : PtpInst → PtpInst) : (s.modPtp n f).tic = s.tic := rfl
@[simp] theorem State.modPtp_gnss (s : State) (n : Nat) (f : PtpInst → PtpInst) : (s.modPtp n f).gnss = s.gnss := rfl
@[simp] theorem State.modPtp_crem (s : State) (n : Nat) (f : PtpInst → PtpInst) : (s.modPtp n f).crem = s.crem := rfl
@[simp] theorem State.modPtp_gran (s : State) (n : Nat) (f : PtpInst → PtpInst) : (s.modPtp n f).gran = s.gran := rfl
@[simp] theorem State.modPtp_win (s : State) (n : Nat) (f : PtpInst → PtpInst) : (s.modPtp n f).win = s.win := rfl
@[simp] theorem State.modPtp_stew (s : State) (n : Nat) (f : PtpInst → PtpInst) : (s.modPtp n f).stew = s.stew := rfl
@[simp] theorem State.modPtp_mtx (s : State) (n : Nat) (f : PtpInst → PtpInst) : (s.modPtp n f).mtx = s.mtx := rfl
@[simp] theorem State.modPtp_tithe (s : State) (n : Nat) (f : PtpInst → PtpInst) : (s.modPtp n f).tithe = s.tithe := rfl
@[simp] theorem State.modPtp_boot (s : State) (n : Nat) (f : PtpInst → PtpInst) : (s.modPtp n f).boot = s.boot := rfl
@[simp] theorem State.modPtp_elec (s : State) (n : Nat) (f : PtpInst → PtpInst) : (s.modPtp n f).elec = s.elec := rfl
@[simp] theorem State.modPtp_fresh (s : State) (n : Nat) (f : PtpInst → PtpInst) : (s.modPtp n f).fresh = s.fresh := rfl
@[simp] theorem State.modPtp_pending (s : State) (n : Nat) (f : PtpInst → PtpInst) : (s.modPtp n f).pending = s.pending := rfl

/-! ### modLink -/

@[simp] theorem State.modLink_dict (s : State) (n : Nat) (f : CremLink → CremLink) : (s.modLink n f).dict = s.dict := rfl
@[simp] theorem State.modLink_dev (s : State) (n : Nat) (f : CremLink → CremLink) : (s.modLink n f).dev = s.dev := rfl
@[simp] theorem State.modLink_tc (s : State) (n : Nat) (f : CremLink → CremLink) : (s.modLink n f).tc = s.tc := rfl
@[simp] theorem State.modLink_lanes (s : State) (n : Nat) (f : CremLink → CremLink) : (s.modLink n f).lanes = s.lanes := rfl
@[simp] theorem State.modLink_slots (s : State) (n : Nat) (f : CremLink → CremLink) : (s.modLink n f).slots = s.slots := rfl
@[simp] theorem State.modLink_sel (s : State) (n : Nat) (f : CremLink → CremLink) : (s.modLink n f).sel = s.sel := rfl
@[simp] theorem State.modLink_hold (s : State) (n : Nat) (f : CremLink → CremLink) : (s.modLink n f).hold = s.hold := rfl
@[simp] theorem State.modLink_scr (s : State) (n : Nat) (f : CremLink → CremLink) : (s.modLink n f).scr = s.scr := rfl
@[simp] theorem State.modLink_dplls (s : State) (n : Nat) (f : CremLink → CremLink) : (s.modLink n f).dplls = s.dplls := rfl
@[simp] theorem State.modLink_outs (s : State) (n : Nat) (f : CremLink → CremLink) : (s.modLink n f).outs = s.outs := rfl
@[simp] theorem State.modLink_pps (s : State) (n : Nat) (f : CremLink → CremLink) : (s.modLink n f).pps = s.pps := rfl
@[simp] theorem State.modLink_uarts (s : State) (n : Nat) (f : CremLink → CremLink) : (s.modLink n f).uarts = s.uarts := rfl
@[simp] theorem State.modLink_tic (s : State) (n : Nat) (f : CremLink → CremLink) : (s.modLink n f).tic = s.tic := rfl
@[simp] theorem State.modLink_gnss (s : State) (n : Nat) (f : CremLink → CremLink) : (s.modLink n f).gnss = s.gnss := rfl
@[simp] theorem State.modLink_net (s : State) (n : Nat) (f : CremLink → CremLink) : (s.modLink n f).net = s.net := rfl
@[simp] theorem State.modLink_gran (s : State) (n : Nat) (f : CremLink → CremLink) : (s.modLink n f).gran = s.gran := rfl
@[simp] theorem State.modLink_win (s : State) (n : Nat) (f : CremLink → CremLink) : (s.modLink n f).win = s.win := rfl
@[simp] theorem State.modLink_stew (s : State) (n : Nat) (f : CremLink → CremLink) : (s.modLink n f).stew = s.stew := rfl
@[simp] theorem State.modLink_mtx (s : State) (n : Nat) (f : CremLink → CremLink) : (s.modLink n f).mtx = s.mtx := rfl
@[simp] theorem State.modLink_tithe (s : State) (n : Nat) (f : CremLink → CremLink) : (s.modLink n f).tithe = s.tithe := rfl
@[simp] theorem State.modLink_boot (s : State) (n : Nat) (f : CremLink → CremLink) : (s.modLink n f).boot = s.boot := rfl
@[simp] theorem State.modLink_elec (s : State) (n : Nat) (f : CremLink → CremLink) : (s.modLink n f).elec = s.elec := rfl
@[simp] theorem State.modLink_fresh (s : State) (n : Nat) (f : CremLink → CremLink) : (s.modLink n f).fresh = s.fresh := rfl
@[simp] theorem State.modLink_pending (s : State) (n : Nat) (f : CremLink → CremLink) : (s.modLink n f).pending = s.pending := rfl

/-! ### modNode -/

@[simp] theorem State.modNode_dict (s : State) (n : Nat) (f : CremNode → CremNode) : (s.modNode n f).dict = s.dict := rfl
@[simp] theorem State.modNode_dev (s : State) (n : Nat) (f : CremNode → CremNode) : (s.modNode n f).dev = s.dev := rfl
@[simp] theorem State.modNode_tc (s : State) (n : Nat) (f : CremNode → CremNode) : (s.modNode n f).tc = s.tc := rfl
@[simp] theorem State.modNode_lanes (s : State) (n : Nat) (f : CremNode → CremNode) : (s.modNode n f).lanes = s.lanes := rfl
@[simp] theorem State.modNode_slots (s : State) (n : Nat) (f : CremNode → CremNode) : (s.modNode n f).slots = s.slots := rfl
@[simp] theorem State.modNode_sel (s : State) (n : Nat) (f : CremNode → CremNode) : (s.modNode n f).sel = s.sel := rfl
@[simp] theorem State.modNode_hold (s : State) (n : Nat) (f : CremNode → CremNode) : (s.modNode n f).hold = s.hold := rfl
@[simp] theorem State.modNode_scr (s : State) (n : Nat) (f : CremNode → CremNode) : (s.modNode n f).scr = s.scr := rfl
@[simp] theorem State.modNode_dplls (s : State) (n : Nat) (f : CremNode → CremNode) : (s.modNode n f).dplls = s.dplls := rfl
@[simp] theorem State.modNode_outs (s : State) (n : Nat) (f : CremNode → CremNode) : (s.modNode n f).outs = s.outs := rfl
@[simp] theorem State.modNode_pps (s : State) (n : Nat) (f : CremNode → CremNode) : (s.modNode n f).pps = s.pps := rfl
@[simp] theorem State.modNode_uarts (s : State) (n : Nat) (f : CremNode → CremNode) : (s.modNode n f).uarts = s.uarts := rfl
@[simp] theorem State.modNode_tic (s : State) (n : Nat) (f : CremNode → CremNode) : (s.modNode n f).tic = s.tic := rfl
@[simp] theorem State.modNode_gnss (s : State) (n : Nat) (f : CremNode → CremNode) : (s.modNode n f).gnss = s.gnss := rfl
@[simp] theorem State.modNode_net (s : State) (n : Nat) (f : CremNode → CremNode) : (s.modNode n f).net = s.net := rfl
@[simp] theorem State.modNode_gran (s : State) (n : Nat) (f : CremNode → CremNode) : (s.modNode n f).gran = s.gran := rfl
@[simp] theorem State.modNode_win (s : State) (n : Nat) (f : CremNode → CremNode) : (s.modNode n f).win = s.win := rfl
@[simp] theorem State.modNode_stew (s : State) (n : Nat) (f : CremNode → CremNode) : (s.modNode n f).stew = s.stew := rfl
@[simp] theorem State.modNode_mtx (s : State) (n : Nat) (f : CremNode → CremNode) : (s.modNode n f).mtx = s.mtx := rfl
@[simp] theorem State.modNode_tithe (s : State) (n : Nat) (f : CremNode → CremNode) : (s.modNode n f).tithe = s.tithe := rfl
@[simp] theorem State.modNode_boot (s : State) (n : Nat) (f : CremNode → CremNode) : (s.modNode n f).boot = s.boot := rfl
@[simp] theorem State.modNode_elec (s : State) (n : Nat) (f : CremNode → CremNode) : (s.modNode n f).elec = s.elec := rfl
@[simp] theorem State.modNode_fresh (s : State) (n : Nat) (f : CremNode → CremNode) : (s.modNode n f).fresh = s.fresh := rfl
@[simp] theorem State.modNode_pending (s : State) (n : Nat) (f : CremNode → CremNode) : (s.modNode n f).pending = s.pending := rfl

/-! ### modSrc -/

@[simp] theorem State.modSrc_dict (s : State) (n : Nat) (f : RaisedSrc → RaisedSrc) : (s.modSrc n f).dict = s.dict := rfl
@[simp] theorem State.modSrc_dev (s : State) (n : Nat) (f : RaisedSrc → RaisedSrc) : (s.modSrc n f).dev = s.dev := rfl
@[simp] theorem State.modSrc_tc (s : State) (n : Nat) (f : RaisedSrc → RaisedSrc) : (s.modSrc n f).tc = s.tc := rfl
@[simp] theorem State.modSrc_lanes (s : State) (n : Nat) (f : RaisedSrc → RaisedSrc) : (s.modSrc n f).lanes = s.lanes := rfl
@[simp] theorem State.modSrc_slots (s : State) (n : Nat) (f : RaisedSrc → RaisedSrc) : (s.modSrc n f).slots = s.slots := rfl
@[simp] theorem State.modSrc_sel (s : State) (n : Nat) (f : RaisedSrc → RaisedSrc) : (s.modSrc n f).sel = s.sel := rfl
@[simp] theorem State.modSrc_hold (s : State) (n : Nat) (f : RaisedSrc → RaisedSrc) : (s.modSrc n f).hold = s.hold := rfl
@[simp] theorem State.modSrc_scr (s : State) (n : Nat) (f : RaisedSrc → RaisedSrc) : (s.modSrc n f).scr = s.scr := rfl
@[simp] theorem State.modSrc_dplls (s : State) (n : Nat) (f : RaisedSrc → RaisedSrc) : (s.modSrc n f).dplls = s.dplls := rfl
@[simp] theorem State.modSrc_outs (s : State) (n : Nat) (f : RaisedSrc → RaisedSrc) : (s.modSrc n f).outs = s.outs := rfl
@[simp] theorem State.modSrc_pps (s : State) (n : Nat) (f : RaisedSrc → RaisedSrc) : (s.modSrc n f).pps = s.pps := rfl
@[simp] theorem State.modSrc_uarts (s : State) (n : Nat) (f : RaisedSrc → RaisedSrc) : (s.modSrc n f).uarts = s.uarts := rfl
@[simp] theorem State.modSrc_tic (s : State) (n : Nat) (f : RaisedSrc → RaisedSrc) : (s.modSrc n f).tic = s.tic := rfl
@[simp] theorem State.modSrc_gnss (s : State) (n : Nat) (f : RaisedSrc → RaisedSrc) : (s.modSrc n f).gnss = s.gnss := rfl
@[simp] theorem State.modSrc_net (s : State) (n : Nat) (f : RaisedSrc → RaisedSrc) : (s.modSrc n f).net = s.net := rfl
@[simp] theorem State.modSrc_crem (s : State) (n : Nat) (f : RaisedSrc → RaisedSrc) : (s.modSrc n f).crem = s.crem := rfl
@[simp] theorem State.modSrc_gran (s : State) (n : Nat) (f : RaisedSrc → RaisedSrc) : (s.modSrc n f).gran = s.gran := rfl
@[simp] theorem State.modSrc_stew (s : State) (n : Nat) (f : RaisedSrc → RaisedSrc) : (s.modSrc n f).stew = s.stew := rfl
@[simp] theorem State.modSrc_mtx (s : State) (n : Nat) (f : RaisedSrc → RaisedSrc) : (s.modSrc n f).mtx = s.mtx := rfl
@[simp] theorem State.modSrc_tithe (s : State) (n : Nat) (f : RaisedSrc → RaisedSrc) : (s.modSrc n f).tithe = s.tithe := rfl
@[simp] theorem State.modSrc_boot (s : State) (n : Nat) (f : RaisedSrc → RaisedSrc) : (s.modSrc n f).boot = s.boot := rfl
@[simp] theorem State.modSrc_elec (s : State) (n : Nat) (f : RaisedSrc → RaisedSrc) : (s.modSrc n f).elec = s.elec := rfl
@[simp] theorem State.modSrc_fresh (s : State) (n : Nat) (f : RaisedSrc → RaisedSrc) : (s.modSrc n f).fresh = s.fresh := rfl
@[simp] theorem State.modSrc_pending (s : State) (n : Nat) (f : RaisedSrc → RaisedSrc) : (s.modSrc n f).pending = s.pending := rfl

/-! ### modWin -/

@[simp] theorem State.modWin_dict (s : State) (f : Winnow → Winnow) : (s.modWin f).dict = s.dict := rfl
@[simp] theorem State.modWin_dev (s : State) (f : Winnow → Winnow) : (s.modWin f).dev = s.dev := rfl
@[simp] theorem State.modWin_tc (s : State) (f : Winnow → Winnow) : (s.modWin f).tc = s.tc := rfl
@[simp] theorem State.modWin_lanes (s : State) (f : Winnow → Winnow) : (s.modWin f).lanes = s.lanes := rfl
@[simp] theorem State.modWin_slots (s : State) (f : Winnow → Winnow) : (s.modWin f).slots = s.slots := rfl
@[simp] theorem State.modWin_sel (s : State) (f : Winnow → Winnow) : (s.modWin f).sel = s.sel := rfl
@[simp] theorem State.modWin_hold (s : State) (f : Winnow → Winnow) : (s.modWin f).hold = s.hold := rfl
@[simp] theorem State.modWin_scr (s : State) (f : Winnow → Winnow) : (s.modWin f).scr = s.scr := rfl
@[simp] theorem State.modWin_dplls (s : State) (f : Winnow → Winnow) : (s.modWin f).dplls = s.dplls := rfl
@[simp] theorem State.modWin_outs (s : State) (f : Winnow → Winnow) : (s.modWin f).outs = s.outs := rfl
@[simp] theorem State.modWin_pps (s : State) (f : Winnow → Winnow) : (s.modWin f).pps = s.pps := rfl
@[simp] theorem State.modWin_uarts (s : State) (f : Winnow → Winnow) : (s.modWin f).uarts = s.uarts := rfl
@[simp] theorem State.modWin_tic (s : State) (f : Winnow → Winnow) : (s.modWin f).tic = s.tic := rfl
@[simp] theorem State.modWin_gnss (s : State) (f : Winnow → Winnow) : (s.modWin f).gnss = s.gnss := rfl
@[simp] theorem State.modWin_net (s : State) (f : Winnow → Winnow) : (s.modWin f).net = s.net := rfl
@[simp] theorem State.modWin_crem (s : State) (f : Winnow → Winnow) : (s.modWin f).crem = s.crem := rfl
@[simp] theorem State.modWin_gran (s : State) (f : Winnow → Winnow) : (s.modWin f).gran = s.gran := rfl
@[simp] theorem State.modWin_stew (s : State) (f : Winnow → Winnow) : (s.modWin f).stew = s.stew := rfl
@[simp] theorem State.modWin_mtx (s : State) (f : Winnow → Winnow) : (s.modWin f).mtx = s.mtx := rfl
@[simp] theorem State.modWin_tithe (s : State) (f : Winnow → Winnow) : (s.modWin f).tithe = s.tithe := rfl
@[simp] theorem State.modWin_boot (s : State) (f : Winnow → Winnow) : (s.modWin f).boot = s.boot := rfl
@[simp] theorem State.modWin_elec (s : State) (f : Winnow → Winnow) : (s.modWin f).elec = s.elec := rfl
@[simp] theorem State.modWin_fresh (s : State) (f : Winnow → Winnow) : (s.modWin f).fresh = s.fresh := rfl
@[simp] theorem State.modWin_pending (s : State) (f : Winnow → Winnow) : (s.modWin f).pending = s.pending := rfl

/-! ### modPair -/

@[simp] theorem State.modPair_dict (s : State) (n : Nat) (f : Pair → Pair) : (s.modPair n f).dict = s.dict := rfl
@[simp] theorem State.modPair_dev (s : State) (n : Nat) (f : Pair → Pair) : (s.modPair n f).dev = s.dev := rfl
@[simp] theorem State.modPair_tc (s : State) (n : Nat) (f : Pair → Pair) : (s.modPair n f).tc = s.tc := rfl
@[simp] theorem State.modPair_lanes (s : State) (n : Nat) (f : Pair → Pair) : (s.modPair n f).lanes = s.lanes := rfl
@[simp] theorem State.modPair_slots (s : State) (n : Nat) (f : Pair → Pair) : (s.modPair n f).slots = s.slots := rfl
@[simp] theorem State.modPair_sel (s : State) (n : Nat) (f : Pair → Pair) : (s.modPair n f).sel = s.sel := rfl
@[simp] theorem State.modPair_hold (s : State) (n : Nat) (f : Pair → Pair) : (s.modPair n f).hold = s.hold := rfl
@[simp] theorem State.modPair_scr (s : State) (n : Nat) (f : Pair → Pair) : (s.modPair n f).scr = s.scr := rfl
@[simp] theorem State.modPair_dplls (s : State) (n : Nat) (f : Pair → Pair) : (s.modPair n f).dplls = s.dplls := rfl
@[simp] theorem State.modPair_outs (s : State) (n : Nat) (f : Pair → Pair) : (s.modPair n f).outs = s.outs := rfl
@[simp] theorem State.modPair_pps (s : State) (n : Nat) (f : Pair → Pair) : (s.modPair n f).pps = s.pps := rfl
@[simp] theorem State.modPair_uarts (s : State) (n : Nat) (f : Pair → Pair) : (s.modPair n f).uarts = s.uarts := rfl
@[simp] theorem State.modPair_tic (s : State) (n : Nat) (f : Pair → Pair) : (s.modPair n f).tic = s.tic := rfl
@[simp] theorem State.modPair_gnss (s : State) (n : Nat) (f : Pair → Pair) : (s.modPair n f).gnss = s.gnss := rfl
@[simp] theorem State.modPair_net (s : State) (n : Nat) (f : Pair → Pair) : (s.modPair n f).net = s.net := rfl
@[simp] theorem State.modPair_crem (s : State) (n : Nat) (f : Pair → Pair) : (s.modPair n f).crem = s.crem := rfl
@[simp] theorem State.modPair_gran (s : State) (n : Nat) (f : Pair → Pair) : (s.modPair n f).gran = s.gran := rfl
@[simp] theorem State.modPair_win (s : State) (n : Nat) (f : Pair → Pair) : (s.modPair n f).win = s.win := rfl
@[simp] theorem State.modPair_mtx (s : State) (n : Nat) (f : Pair → Pair) : (s.modPair n f).mtx = s.mtx := rfl
@[simp] theorem State.modPair_tithe (s : State) (n : Nat) (f : Pair → Pair) : (s.modPair n f).tithe = s.tithe := rfl
@[simp] theorem State.modPair_boot (s : State) (n : Nat) (f : Pair → Pair) : (s.modPair n f).boot = s.boot := rfl
@[simp] theorem State.modPair_elec (s : State) (n : Nat) (f : Pair → Pair) : (s.modPair n f).elec = s.elec := rfl
@[simp] theorem State.modPair_fresh (s : State) (n : Nat) (f : Pair → Pair) : (s.modPair n f).fresh = s.fresh := rfl
@[simp] theorem State.modPair_pending (s : State) (n : Nat) (f : Pair → Pair) : (s.modPair n f).pending = s.pending := rfl

/-! ### modMtx -/

@[simp] theorem State.modMtx_dict (s : State) (f : Matrix → Matrix) : (s.modMtx f).dict = s.dict := rfl
@[simp] theorem State.modMtx_dev (s : State) (f : Matrix → Matrix) : (s.modMtx f).dev = s.dev := rfl
@[simp] theorem State.modMtx_tc (s : State) (f : Matrix → Matrix) : (s.modMtx f).tc = s.tc := rfl
@[simp] theorem State.modMtx_lanes (s : State) (f : Matrix → Matrix) : (s.modMtx f).lanes = s.lanes := rfl
@[simp] theorem State.modMtx_slots (s : State) (f : Matrix → Matrix) : (s.modMtx f).slots = s.slots := rfl
@[simp] theorem State.modMtx_sel (s : State) (f : Matrix → Matrix) : (s.modMtx f).sel = s.sel := rfl
@[simp] theorem State.modMtx_hold (s : State) (f : Matrix → Matrix) : (s.modMtx f).hold = s.hold := rfl
@[simp] theorem State.modMtx_scr (s : State) (f : Matrix → Matrix) : (s.modMtx f).scr = s.scr := rfl
@[simp] theorem State.modMtx_dplls (s : State) (f : Matrix → Matrix) : (s.modMtx f).dplls = s.dplls := rfl
@[simp] theorem State.modMtx_outs (s : State) (f : Matrix → Matrix) : (s.modMtx f).outs = s.outs := rfl
@[simp] theorem State.modMtx_pps (s : State) (f : Matrix → Matrix) : (s.modMtx f).pps = s.pps := rfl
@[simp] theorem State.modMtx_uarts (s : State) (f : Matrix → Matrix) : (s.modMtx f).uarts = s.uarts := rfl
@[simp] theorem State.modMtx_tic (s : State) (f : Matrix → Matrix) : (s.modMtx f).tic = s.tic := rfl
@[simp] theorem State.modMtx_gnss (s : State) (f : Matrix → Matrix) : (s.modMtx f).gnss = s.gnss := rfl
@[simp] theorem State.modMtx_net (s : State) (f : Matrix → Matrix) : (s.modMtx f).net = s.net := rfl
@[simp] theorem State.modMtx_crem (s : State) (f : Matrix → Matrix) : (s.modMtx f).crem = s.crem := rfl
@[simp] theorem State.modMtx_gran (s : State) (f : Matrix → Matrix) : (s.modMtx f).gran = s.gran := rfl
@[simp] theorem State.modMtx_win (s : State) (f : Matrix → Matrix) : (s.modMtx f).win = s.win := rfl
@[simp] theorem State.modMtx_stew (s : State) (f : Matrix → Matrix) : (s.modMtx f).stew = s.stew := rfl
@[simp] theorem State.modMtx_tithe (s : State) (f : Matrix → Matrix) : (s.modMtx f).tithe = s.tithe := rfl
@[simp] theorem State.modMtx_boot (s : State) (f : Matrix → Matrix) : (s.modMtx f).boot = s.boot := rfl
@[simp] theorem State.modMtx_elec (s : State) (f : Matrix → Matrix) : (s.modMtx f).elec = s.elec := rfl
@[simp] theorem State.modMtx_fresh (s : State) (f : Matrix → Matrix) : (s.modMtx f).fresh = s.fresh := rfl
@[simp] theorem State.modMtx_pending (s : State) (f : Matrix → Matrix) : (s.modMtx f).pending = s.pending := rfl

/-! ### modGran -/

@[simp] theorem State.modGran_dict (s : State) (f : Granary → Granary) : (s.modGran f).dict = s.dict := rfl
@[simp] theorem State.modGran_dev (s : State) (f : Granary → Granary) : (s.modGran f).dev = s.dev := rfl
@[simp] theorem State.modGran_tc (s : State) (f : Granary → Granary) : (s.modGran f).tc = s.tc := rfl
@[simp] theorem State.modGran_lanes (s : State) (f : Granary → Granary) : (s.modGran f).lanes = s.lanes := rfl
@[simp] theorem State.modGran_slots (s : State) (f : Granary → Granary) : (s.modGran f).slots = s.slots := rfl
@[simp] theorem State.modGran_sel (s : State) (f : Granary → Granary) : (s.modGran f).sel = s.sel := rfl
@[simp] theorem State.modGran_hold (s : State) (f : Granary → Granary) : (s.modGran f).hold = s.hold := rfl
@[simp] theorem State.modGran_scr (s : State) (f : Granary → Granary) : (s.modGran f).scr = s.scr := rfl
@[simp] theorem State.modGran_dplls (s : State) (f : Granary → Granary) : (s.modGran f).dplls = s.dplls := rfl
@[simp] theorem State.modGran_outs (s : State) (f : Granary → Granary) : (s.modGran f).outs = s.outs := rfl
@[simp] theorem State.modGran_pps (s : State) (f : Granary → Granary) : (s.modGran f).pps = s.pps := rfl
@[simp] theorem State.modGran_uarts (s : State) (f : Granary → Granary) : (s.modGran f).uarts = s.uarts := rfl
@[simp] theorem State.modGran_tic (s : State) (f : Granary → Granary) : (s.modGran f).tic = s.tic := rfl
@[simp] theorem State.modGran_gnss (s : State) (f : Granary → Granary) : (s.modGran f).gnss = s.gnss := rfl
@[simp] theorem State.modGran_net (s : State) (f : Granary → Granary) : (s.modGran f).net = s.net := rfl
@[simp] theorem State.modGran_crem (s : State) (f : Granary → Granary) : (s.modGran f).crem = s.crem := rfl
@[simp] theorem State.modGran_win (s : State) (f : Granary → Granary) : (s.modGran f).win = s.win := rfl
@[simp] theorem State.modGran_stew (s : State) (f : Granary → Granary) : (s.modGran f).stew = s.stew := rfl
@[simp] theorem State.modGran_mtx (s : State) (f : Granary → Granary) : (s.modGran f).mtx = s.mtx := rfl
@[simp] theorem State.modGran_tithe (s : State) (f : Granary → Granary) : (s.modGran f).tithe = s.tithe := rfl
@[simp] theorem State.modGran_boot (s : State) (f : Granary → Granary) : (s.modGran f).boot = s.boot := rfl
@[simp] theorem State.modGran_elec (s : State) (f : Granary → Granary) : (s.modGran f).elec = s.elec := rfl
@[simp] theorem State.modGran_fresh (s : State) (f : Granary → Granary) : (s.modGran f).fresh = s.fresh := rfl
@[simp] theorem State.modGran_pending (s : State) (f : Granary → Granary) : (s.modGran f).pending = s.pending := rfl

/-! ### modBoot -/

@[simp] theorem State.modBoot_dict (s : State) (f : Boot → Boot) : (s.modBoot f).dict = s.dict := rfl
@[simp] theorem State.modBoot_dev (s : State) (f : Boot → Boot) : (s.modBoot f).dev = s.dev := rfl
@[simp] theorem State.modBoot_tc (s : State) (f : Boot → Boot) : (s.modBoot f).tc = s.tc := rfl
@[simp] theorem State.modBoot_lanes (s : State) (f : Boot → Boot) : (s.modBoot f).lanes = s.lanes := rfl
@[simp] theorem State.modBoot_slots (s : State) (f : Boot → Boot) : (s.modBoot f).slots = s.slots := rfl
@[simp] theorem State.modBoot_sel (s : State) (f : Boot → Boot) : (s.modBoot f).sel = s.sel := rfl
@[simp] theorem State.modBoot_hold (s : State) (f : Boot → Boot) : (s.modBoot f).hold = s.hold := rfl
@[simp] theorem State.modBoot_scr (s : State) (f : Boot → Boot) : (s.modBoot f).scr = s.scr := rfl
@[simp] theorem State.modBoot_dplls (s : State) (f : Boot → Boot) : (s.modBoot f).dplls = s.dplls := rfl
@[simp] theorem State.modBoot_outs (s : State) (f : Boot → Boot) : (s.modBoot f).outs = s.outs := rfl
@[simp] theorem State.modBoot_pps (s : State) (f : Boot → Boot) : (s.modBoot f).pps = s.pps := rfl
@[simp] theorem State.modBoot_uarts (s : State) (f : Boot → Boot) : (s.modBoot f).uarts = s.uarts := rfl
@[simp] theorem State.modBoot_tic (s : State) (f : Boot → Boot) : (s.modBoot f).tic = s.tic := rfl
@[simp] theorem State.modBoot_gnss (s : State) (f : Boot → Boot) : (s.modBoot f).gnss = s.gnss := rfl
@[simp] theorem State.modBoot_net (s : State) (f : Boot → Boot) : (s.modBoot f).net = s.net := rfl
@[simp] theorem State.modBoot_crem (s : State) (f : Boot → Boot) : (s.modBoot f).crem = s.crem := rfl
@[simp] theorem State.modBoot_gran (s : State) (f : Boot → Boot) : (s.modBoot f).gran = s.gran := rfl
@[simp] theorem State.modBoot_win (s : State) (f : Boot → Boot) : (s.modBoot f).win = s.win := rfl
@[simp] theorem State.modBoot_stew (s : State) (f : Boot → Boot) : (s.modBoot f).stew = s.stew := rfl
@[simp] theorem State.modBoot_mtx (s : State) (f : Boot → Boot) : (s.modBoot f).mtx = s.mtx := rfl
@[simp] theorem State.modBoot_tithe (s : State) (f : Boot → Boot) : (s.modBoot f).tithe = s.tithe := rfl
@[simp] theorem State.modBoot_elec (s : State) (f : Boot → Boot) : (s.modBoot f).elec = s.elec := rfl
@[simp] theorem State.modBoot_fresh (s : State) (f : Boot → Boot) : (s.modBoot f).fresh = s.fresh := rfl
@[simp] theorem State.modBoot_pending (s : State) (f : Boot → Boot) : (s.modBoot f).pending = s.pending := rfl

/-! ### modInst -/

@[simp] theorem State.modInst_dict (s : State) (f : Install → Install) : (s.modInst f).dict = s.dict := rfl
@[simp] theorem State.modInst_dev (s : State) (f : Install → Install) : (s.modInst f).dev = s.dev := rfl
@[simp] theorem State.modInst_tc (s : State) (f : Install → Install) : (s.modInst f).tc = s.tc := rfl
@[simp] theorem State.modInst_lanes (s : State) (f : Install → Install) : (s.modInst f).lanes = s.lanes := rfl
@[simp] theorem State.modInst_slots (s : State) (f : Install → Install) : (s.modInst f).slots = s.slots := rfl
@[simp] theorem State.modInst_sel (s : State) (f : Install → Install) : (s.modInst f).sel = s.sel := rfl
@[simp] theorem State.modInst_hold (s : State) (f : Install → Install) : (s.modInst f).hold = s.hold := rfl
@[simp] theorem State.modInst_scr (s : State) (f : Install → Install) : (s.modInst f).scr = s.scr := rfl
@[simp] theorem State.modInst_dplls (s : State) (f : Install → Install) : (s.modInst f).dplls = s.dplls := rfl
@[simp] theorem State.modInst_outs (s : State) (f : Install → Install) : (s.modInst f).outs = s.outs := rfl
@[simp] theorem State.modInst_pps (s : State) (f : Install → Install) : (s.modInst f).pps = s.pps := rfl
@[simp] theorem State.modInst_uarts (s : State) (f : Install → Install) : (s.modInst f).uarts = s.uarts := rfl
@[simp] theorem State.modInst_tic (s : State) (f : Install → Install) : (s.modInst f).tic = s.tic := rfl
@[simp] theorem State.modInst_gnss (s : State) (f : Install → Install) : (s.modInst f).gnss = s.gnss := rfl
@[simp] theorem State.modInst_net (s : State) (f : Install → Install) : (s.modInst f).net = s.net := rfl
@[simp] theorem State.modInst_crem (s : State) (f : Install → Install) : (s.modInst f).crem = s.crem := rfl
@[simp] theorem State.modInst_gran (s : State) (f : Install → Install) : (s.modInst f).gran = s.gran := rfl
@[simp] theorem State.modInst_win (s : State) (f : Install → Install) : (s.modInst f).win = s.win := rfl
@[simp] theorem State.modInst_stew (s : State) (f : Install → Install) : (s.modInst f).stew = s.stew := rfl
@[simp] theorem State.modInst_mtx (s : State) (f : Install → Install) : (s.modInst f).mtx = s.mtx := rfl
@[simp] theorem State.modInst_tithe (s : State) (f : Install → Install) : (s.modInst f).tithe = s.tithe := rfl
@[simp] theorem State.modInst_elec (s : State) (f : Install → Install) : (s.modInst f).elec = s.elec := rfl
@[simp] theorem State.modInst_fresh (s : State) (f : Install → Install) : (s.modInst f).fresh = s.fresh := rfl
@[simp] theorem State.modInst_pending (s : State) (f : Install → Install) : (s.modInst f).pending = s.pending := rfl

/-! ### modElec -/

@[simp] theorem State.modElec_dict (s : State) (f : Elec → Elec) : (s.modElec f).dict = s.dict := rfl
@[simp] theorem State.modElec_dev (s : State) (f : Elec → Elec) : (s.modElec f).dev = s.dev := rfl
@[simp] theorem State.modElec_tc (s : State) (f : Elec → Elec) : (s.modElec f).tc = s.tc := rfl
@[simp] theorem State.modElec_lanes (s : State) (f : Elec → Elec) : (s.modElec f).lanes = s.lanes := rfl
@[simp] theorem State.modElec_slots (s : State) (f : Elec → Elec) : (s.modElec f).slots = s.slots := rfl
@[simp] theorem State.modElec_sel (s : State) (f : Elec → Elec) : (s.modElec f).sel = s.sel := rfl
@[simp] theorem State.modElec_hold (s : State) (f : Elec → Elec) : (s.modElec f).hold = s.hold := rfl
@[simp] theorem State.modElec_scr (s : State) (f : Elec → Elec) : (s.modElec f).scr = s.scr := rfl
@[simp] theorem State.modElec_dplls (s : State) (f : Elec → Elec) : (s.modElec f).dplls = s.dplls := rfl
@[simp] theorem State.modElec_outs (s : State) (f : Elec → Elec) : (s.modElec f).outs = s.outs := rfl
@[simp] theorem State.modElec_pps (s : State) (f : Elec → Elec) : (s.modElec f).pps = s.pps := rfl
@[simp] theorem State.modElec_uarts (s : State) (f : Elec → Elec) : (s.modElec f).uarts = s.uarts := rfl
@[simp] theorem State.modElec_tic (s : State) (f : Elec → Elec) : (s.modElec f).tic = s.tic := rfl
@[simp] theorem State.modElec_gnss (s : State) (f : Elec → Elec) : (s.modElec f).gnss = s.gnss := rfl
@[simp] theorem State.modElec_net (s : State) (f : Elec → Elec) : (s.modElec f).net = s.net := rfl
@[simp] theorem State.modElec_crem (s : State) (f : Elec → Elec) : (s.modElec f).crem = s.crem := rfl
@[simp] theorem State.modElec_gran (s : State) (f : Elec → Elec) : (s.modElec f).gran = s.gran := rfl
@[simp] theorem State.modElec_win (s : State) (f : Elec → Elec) : (s.modElec f).win = s.win := rfl
@[simp] theorem State.modElec_stew (s : State) (f : Elec → Elec) : (s.modElec f).stew = s.stew := rfl
@[simp] theorem State.modElec_mtx (s : State) (f : Elec → Elec) : (s.modElec f).mtx = s.mtx := rfl
@[simp] theorem State.modElec_tithe (s : State) (f : Elec → Elec) : (s.modElec f).tithe = s.tithe := rfl
@[simp] theorem State.modElec_boot (s : State) (f : Elec → Elec) : (s.modElec f).boot = s.boot := rfl
@[simp] theorem State.modElec_fresh (s : State) (f : Elec → Elec) : (s.modElec f).fresh = s.fresh := rfl
@[simp] theorem State.modElec_pending (s : State) (f : Elec → Elec) : (s.modElec f).pending = s.pending := rfl

/-! ### modTithe -/

@[simp] theorem State.modTithe_dict (s : State) (f : Tithe → Tithe) : (s.modTithe f).dict = s.dict := rfl
@[simp] theorem State.modTithe_dev (s : State) (f : Tithe → Tithe) : (s.modTithe f).dev = s.dev := rfl
@[simp] theorem State.modTithe_tc (s : State) (f : Tithe → Tithe) : (s.modTithe f).tc = s.tc := rfl
@[simp] theorem State.modTithe_lanes (s : State) (f : Tithe → Tithe) : (s.modTithe f).lanes = s.lanes := rfl
@[simp] theorem State.modTithe_slots (s : State) (f : Tithe → Tithe) : (s.modTithe f).slots = s.slots := rfl
@[simp] theorem State.modTithe_sel (s : State) (f : Tithe → Tithe) : (s.modTithe f).sel = s.sel := rfl
@[simp] theorem State.modTithe_hold (s : State) (f : Tithe → Tithe) : (s.modTithe f).hold = s.hold := rfl
@[simp] theorem State.modTithe_scr (s : State) (f : Tithe → Tithe) : (s.modTithe f).scr = s.scr := rfl
@[simp] theorem State.modTithe_dplls (s : State) (f : Tithe → Tithe) : (s.modTithe f).dplls = s.dplls := rfl
@[simp] theorem State.modTithe_outs (s : State) (f : Tithe → Tithe) : (s.modTithe f).outs = s.outs := rfl
@[simp] theorem State.modTithe_pps (s : State) (f : Tithe → Tithe) : (s.modTithe f).pps = s.pps := rfl
@[simp] theorem State.modTithe_uarts (s : State) (f : Tithe → Tithe) : (s.modTithe f).uarts = s.uarts := rfl
@[simp] theorem State.modTithe_tic (s : State) (f : Tithe → Tithe) : (s.modTithe f).tic = s.tic := rfl
@[simp] theorem State.modTithe_gnss (s : State) (f : Tithe → Tithe) : (s.modTithe f).gnss = s.gnss := rfl
@[simp] theorem State.modTithe_net (s : State) (f : Tithe → Tithe) : (s.modTithe f).net = s.net := rfl
@[simp] theorem State.modTithe_crem (s : State) (f : Tithe → Tithe) : (s.modTithe f).crem = s.crem := rfl
@[simp] theorem State.modTithe_gran (s : State) (f : Tithe → Tithe) : (s.modTithe f).gran = s.gran := rfl
@[simp] theorem State.modTithe_win (s : State) (f : Tithe → Tithe) : (s.modTithe f).win = s.win := rfl
@[simp] theorem State.modTithe_stew (s : State) (f : Tithe → Tithe) : (s.modTithe f).stew = s.stew := rfl
@[simp] theorem State.modTithe_mtx (s : State) (f : Tithe → Tithe) : (s.modTithe f).mtx = s.mtx := rfl
@[simp] theorem State.modTithe_boot (s : State) (f : Tithe → Tithe) : (s.modTithe f).boot = s.boot := rfl
@[simp] theorem State.modTithe_elec (s : State) (f : Tithe → Tithe) : (s.modTithe f).elec = s.elec := rfl
@[simp] theorem State.modTithe_fresh (s : State) (f : Tithe → Tithe) : (s.modTithe f).fresh = s.fresh := rfl
@[simp] theorem State.modTithe_pending (s : State) (f : Tithe → Tithe) : (s.modTithe f).pending = s.pending := rfl

/-! ### modGnss -/

@[simp] theorem State.modGnss_dict (s : State) (f : Gnss → Gnss) : (s.modGnss f).dict = s.dict := rfl
@[simp] theorem State.modGnss_dev (s : State) (f : Gnss → Gnss) : (s.modGnss f).dev = s.dev := rfl
@[simp] theorem State.modGnss_tc (s : State) (f : Gnss → Gnss) : (s.modGnss f).tc = s.tc := rfl
@[simp] theorem State.modGnss_lanes (s : State) (f : Gnss → Gnss) : (s.modGnss f).lanes = s.lanes := rfl
@[simp] theorem State.modGnss_slots (s : State) (f : Gnss → Gnss) : (s.modGnss f).slots = s.slots := rfl
@[simp] theorem State.modGnss_sel (s : State) (f : Gnss → Gnss) : (s.modGnss f).sel = s.sel := rfl
@[simp] theorem State.modGnss_hold (s : State) (f : Gnss → Gnss) : (s.modGnss f).hold = s.hold := rfl
@[simp] theorem State.modGnss_scr (s : State) (f : Gnss → Gnss) : (s.modGnss f).scr = s.scr := rfl
@[simp] theorem State.modGnss_dplls (s : State) (f : Gnss → Gnss) : (s.modGnss f).dplls = s.dplls := rfl
@[simp] theorem State.modGnss_outs (s : State) (f : Gnss → Gnss) : (s.modGnss f).outs = s.outs := rfl
@[simp] theorem State.modGnss_pps (s : State) (f : Gnss → Gnss) : (s.modGnss f).pps = s.pps := rfl
@[simp] theorem State.modGnss_uarts (s : State) (f : Gnss → Gnss) : (s.modGnss f).uarts = s.uarts := rfl
@[simp] theorem State.modGnss_tic (s : State) (f : Gnss → Gnss) : (s.modGnss f).tic = s.tic := rfl
@[simp] theorem State.modGnss_net (s : State) (f : Gnss → Gnss) : (s.modGnss f).net = s.net := rfl
@[simp] theorem State.modGnss_crem (s : State) (f : Gnss → Gnss) : (s.modGnss f).crem = s.crem := rfl
@[simp] theorem State.modGnss_gran (s : State) (f : Gnss → Gnss) : (s.modGnss f).gran = s.gran := rfl
@[simp] theorem State.modGnss_win (s : State) (f : Gnss → Gnss) : (s.modGnss f).win = s.win := rfl
@[simp] theorem State.modGnss_stew (s : State) (f : Gnss → Gnss) : (s.modGnss f).stew = s.stew := rfl
@[simp] theorem State.modGnss_mtx (s : State) (f : Gnss → Gnss) : (s.modGnss f).mtx = s.mtx := rfl
@[simp] theorem State.modGnss_tithe (s : State) (f : Gnss → Gnss) : (s.modGnss f).tithe = s.tithe := rfl
@[simp] theorem State.modGnss_boot (s : State) (f : Gnss → Gnss) : (s.modGnss f).boot = s.boot := rfl
@[simp] theorem State.modGnss_elec (s : State) (f : Gnss → Gnss) : (s.modGnss f).elec = s.elec := rfl
@[simp] theorem State.modGnss_fresh (s : State) (f : Gnss → Gnss) : (s.modGnss f).fresh = s.fresh := rfl
@[simp] theorem State.modGnss_pending (s : State) (f : Gnss → Gnss) : (s.modGnss f).pending = s.pending := rfl

/-! ### modGch -/

@[simp] theorem State.modGch_dict (s : State) (n : Nat) (f : GnssChan → GnssChan) : (s.modGch n f).dict = s.dict := rfl
@[simp] theorem State.modGch_dev (s : State) (n : Nat) (f : GnssChan → GnssChan) : (s.modGch n f).dev = s.dev := rfl
@[simp] theorem State.modGch_tc (s : State) (n : Nat) (f : GnssChan → GnssChan) : (s.modGch n f).tc = s.tc := rfl
@[simp] theorem State.modGch_lanes (s : State) (n : Nat) (f : GnssChan → GnssChan) : (s.modGch n f).lanes = s.lanes := rfl
@[simp] theorem State.modGch_slots (s : State) (n : Nat) (f : GnssChan → GnssChan) : (s.modGch n f).slots = s.slots := rfl
@[simp] theorem State.modGch_sel (s : State) (n : Nat) (f : GnssChan → GnssChan) : (s.modGch n f).sel = s.sel := rfl
@[simp] theorem State.modGch_hold (s : State) (n : Nat) (f : GnssChan → GnssChan) : (s.modGch n f).hold = s.hold := rfl
@[simp] theorem State.modGch_scr (s : State) (n : Nat) (f : GnssChan → GnssChan) : (s.modGch n f).scr = s.scr := rfl
@[simp] theorem State.modGch_dplls (s : State) (n : Nat) (f : GnssChan → GnssChan) : (s.modGch n f).dplls = s.dplls := rfl
@[simp] theorem State.modGch_outs (s : State) (n : Nat) (f : GnssChan → GnssChan) : (s.modGch n f).outs = s.outs := rfl
@[simp] theorem State.modGch_pps (s : State) (n : Nat) (f : GnssChan → GnssChan) : (s.modGch n f).pps = s.pps := rfl
@[simp] theorem State.modGch_uarts (s : State) (n : Nat) (f : GnssChan → GnssChan) : (s.modGch n f).uarts = s.uarts := rfl
@[simp] theorem State.modGch_tic (s : State) (n : Nat) (f : GnssChan → GnssChan) : (s.modGch n f).tic = s.tic := rfl
@[simp] theorem State.modGch_net (s : State) (n : Nat) (f : GnssChan → GnssChan) : (s.modGch n f).net = s.net := rfl
@[simp] theorem State.modGch_crem (s : State) (n : Nat) (f : GnssChan → GnssChan) : (s.modGch n f).crem = s.crem := rfl
@[simp] theorem State.modGch_gran (s : State) (n : Nat) (f : GnssChan → GnssChan) : (s.modGch n f).gran = s.gran := rfl
@[simp] theorem State.modGch_win (s : State) (n : Nat) (f : GnssChan → GnssChan) : (s.modGch n f).win = s.win := rfl
@[simp] theorem State.modGch_stew (s : State) (n : Nat) (f : GnssChan → GnssChan) : (s.modGch n f).stew = s.stew := rfl
@[simp] theorem State.modGch_mtx (s : State) (n : Nat) (f : GnssChan → GnssChan) : (s.modGch n f).mtx = s.mtx := rfl
@[simp] theorem State.modGch_tithe (s : State) (n : Nat) (f : GnssChan → GnssChan) : (s.modGch n f).tithe = s.tithe := rfl
@[simp] theorem State.modGch_boot (s : State) (n : Nat) (f : GnssChan → GnssChan) : (s.modGch n f).boot = s.boot := rfl
@[simp] theorem State.modGch_elec (s : State) (n : Nat) (f : GnssChan → GnssChan) : (s.modGch n f).elec = s.elec := rfl
@[simp] theorem State.modGch_fresh (s : State) (n : Nat) (f : GnssChan → GnssChan) : (s.modGch n f).fresh = s.fresh := rfl
@[simp] theorem State.modGch_pending (s : State) (n : Nat) (f : GnssChan → GnssChan) : (s.modGch n f).pending = s.pending := rfl

/-! ### modEngine -/

@[simp] theorem State.modEngine_dict (s : State) (n : Nat) (f : GnssEngine → GnssEngine) : (s.modEngine n f).dict = s.dict := rfl
@[simp] theorem State.modEngine_dev (s : State) (n : Nat) (f : GnssEngine → GnssEngine) : (s.modEngine n f).dev = s.dev := rfl
@[simp] theorem State.modEngine_tc (s : State) (n : Nat) (f : GnssEngine → GnssEngine) : (s.modEngine n f).tc = s.tc := rfl
@[simp] theorem State.modEngine_lanes (s : State) (n : Nat) (f : GnssEngine → GnssEngine) : (s.modEngine n f).lanes = s.lanes := rfl
@[simp] theorem State.modEngine_slots (s : State) (n : Nat) (f : GnssEngine → GnssEngine) : (s.modEngine n f).slots = s.slots := rfl
@[simp] theorem State.modEngine_sel (s : State) (n : Nat) (f : GnssEngine → GnssEngine) : (s.modEngine n f).sel = s.sel := rfl
@[simp] theorem State.modEngine_hold (s : State) (n : Nat) (f : GnssEngine → GnssEngine) : (s.modEngine n f).hold = s.hold := rfl
@[simp] theorem State.modEngine_scr (s : State) (n : Nat) (f : GnssEngine → GnssEngine) : (s.modEngine n f).scr = s.scr := rfl
@[simp] theorem State.modEngine_dplls (s : State) (n : Nat) (f : GnssEngine → GnssEngine) : (s.modEngine n f).dplls = s.dplls := rfl
@[simp] theorem State.modEngine_outs (s : State) (n : Nat) (f : GnssEngine → GnssEngine) : (s.modEngine n f).outs = s.outs := rfl
@[simp] theorem State.modEngine_pps (s : State) (n : Nat) (f : GnssEngine → GnssEngine) : (s.modEngine n f).pps = s.pps := rfl
@[simp] theorem State.modEngine_uarts (s : State) (n : Nat) (f : GnssEngine → GnssEngine) : (s.modEngine n f).uarts = s.uarts := rfl
@[simp] theorem State.modEngine_tic (s : State) (n : Nat) (f : GnssEngine → GnssEngine) : (s.modEngine n f).tic = s.tic := rfl
@[simp] theorem State.modEngine_net (s : State) (n : Nat) (f : GnssEngine → GnssEngine) : (s.modEngine n f).net = s.net := rfl
@[simp] theorem State.modEngine_crem (s : State) (n : Nat) (f : GnssEngine → GnssEngine) : (s.modEngine n f).crem = s.crem := rfl
@[simp] theorem State.modEngine_gran (s : State) (n : Nat) (f : GnssEngine → GnssEngine) : (s.modEngine n f).gran = s.gran := rfl
@[simp] theorem State.modEngine_win (s : State) (n : Nat) (f : GnssEngine → GnssEngine) : (s.modEngine n f).win = s.win := rfl
@[simp] theorem State.modEngine_stew (s : State) (n : Nat) (f : GnssEngine → GnssEngine) : (s.modEngine n f).stew = s.stew := rfl
@[simp] theorem State.modEngine_mtx (s : State) (n : Nat) (f : GnssEngine → GnssEngine) : (s.modEngine n f).mtx = s.mtx := rfl
@[simp] theorem State.modEngine_tithe (s : State) (n : Nat) (f : GnssEngine → GnssEngine) : (s.modEngine n f).tithe = s.tithe := rfl
@[simp] theorem State.modEngine_boot (s : State) (n : Nat) (f : GnssEngine → GnssEngine) : (s.modEngine n f).boot = s.boot := rfl
@[simp] theorem State.modEngine_elec (s : State) (n : Nat) (f : GnssEngine → GnssEngine) : (s.modEngine n f).elec = s.elec := rfl
@[simp] theorem State.modEngine_fresh (s : State) (n : Nat) (f : GnssEngine → GnssEngine) : (s.modEngine n f).fresh = s.fresh := rfl
@[simp] theorem State.modEngine_pending (s : State) (n : Nat) (f : GnssEngine → GnssEngine) : (s.modEngine n f).pending = s.pending := rfl

/-! ### modDpll -/

@[simp] theorem State.modDpll_dict (s : State) (n : Nat) (f : Dpll → Dpll) : (s.modDpll n f).dict = s.dict := rfl
@[simp] theorem State.modDpll_dev (s : State) (n : Nat) (f : Dpll → Dpll) : (s.modDpll n f).dev = s.dev := rfl
@[simp] theorem State.modDpll_tc (s : State) (n : Nat) (f : Dpll → Dpll) : (s.modDpll n f).tc = s.tc := rfl
@[simp] theorem State.modDpll_lanes (s : State) (n : Nat) (f : Dpll → Dpll) : (s.modDpll n f).lanes = s.lanes := rfl
@[simp] theorem State.modDpll_slots (s : State) (n : Nat) (f : Dpll → Dpll) : (s.modDpll n f).slots = s.slots := rfl
@[simp] theorem State.modDpll_sel (s : State) (n : Nat) (f : Dpll → Dpll) : (s.modDpll n f).sel = s.sel := rfl
@[simp] theorem State.modDpll_hold (s : State) (n : Nat) (f : Dpll → Dpll) : (s.modDpll n f).hold = s.hold := rfl
@[simp] theorem State.modDpll_scr (s : State) (n : Nat) (f : Dpll → Dpll) : (s.modDpll n f).scr = s.scr := rfl
@[simp] theorem State.modDpll_outs (s : State) (n : Nat) (f : Dpll → Dpll) : (s.modDpll n f).outs = s.outs := rfl
@[simp] theorem State.modDpll_pps (s : State) (n : Nat) (f : Dpll → Dpll) : (s.modDpll n f).pps = s.pps := rfl
@[simp] theorem State.modDpll_uarts (s : State) (n : Nat) (f : Dpll → Dpll) : (s.modDpll n f).uarts = s.uarts := rfl
@[simp] theorem State.modDpll_tic (s : State) (n : Nat) (f : Dpll → Dpll) : (s.modDpll n f).tic = s.tic := rfl
@[simp] theorem State.modDpll_gnss (s : State) (n : Nat) (f : Dpll → Dpll) : (s.modDpll n f).gnss = s.gnss := rfl
@[simp] theorem State.modDpll_net (s : State) (n : Nat) (f : Dpll → Dpll) : (s.modDpll n f).net = s.net := rfl
@[simp] theorem State.modDpll_crem (s : State) (n : Nat) (f : Dpll → Dpll) : (s.modDpll n f).crem = s.crem := rfl
@[simp] theorem State.modDpll_gran (s : State) (n : Nat) (f : Dpll → Dpll) : (s.modDpll n f).gran = s.gran := rfl
@[simp] theorem State.modDpll_win (s : State) (n : Nat) (f : Dpll → Dpll) : (s.modDpll n f).win = s.win := rfl
@[simp] theorem State.modDpll_stew (s : State) (n : Nat) (f : Dpll → Dpll) : (s.modDpll n f).stew = s.stew := rfl
@[simp] theorem State.modDpll_mtx (s : State) (n : Nat) (f : Dpll → Dpll) : (s.modDpll n f).mtx = s.mtx := rfl
@[simp] theorem State.modDpll_tithe (s : State) (n : Nat) (f : Dpll → Dpll) : (s.modDpll n f).tithe = s.tithe := rfl
@[simp] theorem State.modDpll_boot (s : State) (n : Nat) (f : Dpll → Dpll) : (s.modDpll n f).boot = s.boot := rfl
@[simp] theorem State.modDpll_elec (s : State) (n : Nat) (f : Dpll → Dpll) : (s.modDpll n f).elec = s.elec := rfl
@[simp] theorem State.modDpll_fresh (s : State) (n : Nat) (f : Dpll → Dpll) : (s.modDpll n f).fresh = s.fresh := rfl
@[simp] theorem State.modDpll_pending (s : State) (n : Nat) (f : Dpll → Dpll) : (s.modDpll n f).pending = s.pending := rfl

/-! ### modPps -/

@[simp] theorem State.modPps_dict (s : State) (n : Nat) (f : PpsOut → PpsOut) : (s.modPps n f).dict = s.dict := rfl
@[simp] theorem State.modPps_dev (s : State) (n : Nat) (f : PpsOut → PpsOut) : (s.modPps n f).dev = s.dev := rfl
@[simp] theorem State.modPps_tc (s : State) (n : Nat) (f : PpsOut → PpsOut) : (s.modPps n f).tc = s.tc := rfl
@[simp] theorem State.modPps_lanes (s : State) (n : Nat) (f : PpsOut → PpsOut) : (s.modPps n f).lanes = s.lanes := rfl
@[simp] theorem State.modPps_slots (s : State) (n : Nat) (f : PpsOut → PpsOut) : (s.modPps n f).slots = s.slots := rfl
@[simp] theorem State.modPps_sel (s : State) (n : Nat) (f : PpsOut → PpsOut) : (s.modPps n f).sel = s.sel := rfl
@[simp] theorem State.modPps_hold (s : State) (n : Nat) (f : PpsOut → PpsOut) : (s.modPps n f).hold = s.hold := rfl
@[simp] theorem State.modPps_scr (s : State) (n : Nat) (f : PpsOut → PpsOut) : (s.modPps n f).scr = s.scr := rfl
@[simp] theorem State.modPps_dplls (s : State) (n : Nat) (f : PpsOut → PpsOut) : (s.modPps n f).dplls = s.dplls := rfl
@[simp] theorem State.modPps_outs (s : State) (n : Nat) (f : PpsOut → PpsOut) : (s.modPps n f).outs = s.outs := rfl
@[simp] theorem State.modPps_uarts (s : State) (n : Nat) (f : PpsOut → PpsOut) : (s.modPps n f).uarts = s.uarts := rfl
@[simp] theorem State.modPps_tic (s : State) (n : Nat) (f : PpsOut → PpsOut) : (s.modPps n f).tic = s.tic := rfl
@[simp] theorem State.modPps_gnss (s : State) (n : Nat) (f : PpsOut → PpsOut) : (s.modPps n f).gnss = s.gnss := rfl
@[simp] theorem State.modPps_net (s : State) (n : Nat) (f : PpsOut → PpsOut) : (s.modPps n f).net = s.net := rfl
@[simp] theorem State.modPps_crem (s : State) (n : Nat) (f : PpsOut → PpsOut) : (s.modPps n f).crem = s.crem := rfl
@[simp] theorem State.modPps_gran (s : State) (n : Nat) (f : PpsOut → PpsOut) : (s.modPps n f).gran = s.gran := rfl
@[simp] theorem State.modPps_win (s : State) (n : Nat) (f : PpsOut → PpsOut) : (s.modPps n f).win = s.win := rfl
@[simp] theorem State.modPps_stew (s : State) (n : Nat) (f : PpsOut → PpsOut) : (s.modPps n f).stew = s.stew := rfl
@[simp] theorem State.modPps_mtx (s : State) (n : Nat) (f : PpsOut → PpsOut) : (s.modPps n f).mtx = s.mtx := rfl
@[simp] theorem State.modPps_tithe (s : State) (n : Nat) (f : PpsOut → PpsOut) : (s.modPps n f).tithe = s.tithe := rfl
@[simp] theorem State.modPps_boot (s : State) (n : Nat) (f : PpsOut → PpsOut) : (s.modPps n f).boot = s.boot := rfl
@[simp] theorem State.modPps_elec (s : State) (n : Nat) (f : PpsOut → PpsOut) : (s.modPps n f).elec = s.elec := rfl
@[simp] theorem State.modPps_fresh (s : State) (n : Nat) (f : PpsOut → PpsOut) : (s.modPps n f).fresh = s.fresh := rfl
@[simp] theorem State.modPps_pending (s : State) (n : Nat) (f : PpsOut → PpsOut) : (s.modPps n f).pending = s.pending := rfl

/-! ### modChan -/

@[simp] theorem State.modChan_dict (s : State) (n : Nat) (f : TicChan → TicChan) : (s.modChan n f).dict = s.dict := rfl
@[simp] theorem State.modChan_dev (s : State) (n : Nat) (f : TicChan → TicChan) : (s.modChan n f).dev = s.dev := rfl
@[simp] theorem State.modChan_tc (s : State) (n : Nat) (f : TicChan → TicChan) : (s.modChan n f).tc = s.tc := rfl
@[simp] theorem State.modChan_lanes (s : State) (n : Nat) (f : TicChan → TicChan) : (s.modChan n f).lanes = s.lanes := rfl
@[simp] theorem State.modChan_slots (s : State) (n : Nat) (f : TicChan → TicChan) : (s.modChan n f).slots = s.slots := rfl
@[simp] theorem State.modChan_sel (s : State) (n : Nat) (f : TicChan → TicChan) : (s.modChan n f).sel = s.sel := rfl
@[simp] theorem State.modChan_hold (s : State) (n : Nat) (f : TicChan → TicChan) : (s.modChan n f).hold = s.hold := rfl
@[simp] theorem State.modChan_scr (s : State) (n : Nat) (f : TicChan → TicChan) : (s.modChan n f).scr = s.scr := rfl
@[simp] theorem State.modChan_dplls (s : State) (n : Nat) (f : TicChan → TicChan) : (s.modChan n f).dplls = s.dplls := rfl
@[simp] theorem State.modChan_outs (s : State) (n : Nat) (f : TicChan → TicChan) : (s.modChan n f).outs = s.outs := rfl
@[simp] theorem State.modChan_pps (s : State) (n : Nat) (f : TicChan → TicChan) : (s.modChan n f).pps = s.pps := rfl
@[simp] theorem State.modChan_uarts (s : State) (n : Nat) (f : TicChan → TicChan) : (s.modChan n f).uarts = s.uarts := rfl
@[simp] theorem State.modChan_gnss (s : State) (n : Nat) (f : TicChan → TicChan) : (s.modChan n f).gnss = s.gnss := rfl
@[simp] theorem State.modChan_net (s : State) (n : Nat) (f : TicChan → TicChan) : (s.modChan n f).net = s.net := rfl
@[simp] theorem State.modChan_crem (s : State) (n : Nat) (f : TicChan → TicChan) : (s.modChan n f).crem = s.crem := rfl
@[simp] theorem State.modChan_gran (s : State) (n : Nat) (f : TicChan → TicChan) : (s.modChan n f).gran = s.gran := rfl
@[simp] theorem State.modChan_win (s : State) (n : Nat) (f : TicChan → TicChan) : (s.modChan n f).win = s.win := rfl
@[simp] theorem State.modChan_stew (s : State) (n : Nat) (f : TicChan → TicChan) : (s.modChan n f).stew = s.stew := rfl
@[simp] theorem State.modChan_mtx (s : State) (n : Nat) (f : TicChan → TicChan) : (s.modChan n f).mtx = s.mtx := rfl
@[simp] theorem State.modChan_tithe (s : State) (n : Nat) (f : TicChan → TicChan) : (s.modChan n f).tithe = s.tithe := rfl
@[simp] theorem State.modChan_boot (s : State) (n : Nat) (f : TicChan → TicChan) : (s.modChan n f).boot = s.boot := rfl
@[simp] theorem State.modChan_elec (s : State) (n : Nat) (f : TicChan → TicChan) : (s.modChan n f).elec = s.elec := rfl
@[simp] theorem State.modChan_fresh (s : State) (n : Nat) (f : TicChan → TicChan) : (s.modChan n f).fresh = s.fresh := rfl
@[simp] theorem State.modChan_pending (s : State) (n : Nat) (f : TicChan → TicChan) : (s.modChan n f).pending = s.pending := rfl

/-! ### modDiff -/

@[simp] theorem State.modDiff_dict (s : State) (n : Nat) (f : TicDiff → TicDiff) : (s.modDiff n f).dict = s.dict := rfl
@[simp] theorem State.modDiff_dev (s : State) (n : Nat) (f : TicDiff → TicDiff) : (s.modDiff n f).dev = s.dev := rfl
@[simp] theorem State.modDiff_tc (s : State) (n : Nat) (f : TicDiff → TicDiff) : (s.modDiff n f).tc = s.tc := rfl
@[simp] theorem State.modDiff_lanes (s : State) (n : Nat) (f : TicDiff → TicDiff) : (s.modDiff n f).lanes = s.lanes := rfl
@[simp] theorem State.modDiff_slots (s : State) (n : Nat) (f : TicDiff → TicDiff) : (s.modDiff n f).slots = s.slots := rfl
@[simp] theorem State.modDiff_sel (s : State) (n : Nat) (f : TicDiff → TicDiff) : (s.modDiff n f).sel = s.sel := rfl
@[simp] theorem State.modDiff_hold (s : State) (n : Nat) (f : TicDiff → TicDiff) : (s.modDiff n f).hold = s.hold := rfl
@[simp] theorem State.modDiff_scr (s : State) (n : Nat) (f : TicDiff → TicDiff) : (s.modDiff n f).scr = s.scr := rfl
@[simp] theorem State.modDiff_dplls (s : State) (n : Nat) (f : TicDiff → TicDiff) : (s.modDiff n f).dplls = s.dplls := rfl
@[simp] theorem State.modDiff_outs (s : State) (n : Nat) (f : TicDiff → TicDiff) : (s.modDiff n f).outs = s.outs := rfl
@[simp] theorem State.modDiff_pps (s : State) (n : Nat) (f : TicDiff → TicDiff) : (s.modDiff n f).pps = s.pps := rfl
@[simp] theorem State.modDiff_uarts (s : State) (n : Nat) (f : TicDiff → TicDiff) : (s.modDiff n f).uarts = s.uarts := rfl
@[simp] theorem State.modDiff_gnss (s : State) (n : Nat) (f : TicDiff → TicDiff) : (s.modDiff n f).gnss = s.gnss := rfl
@[simp] theorem State.modDiff_net (s : State) (n : Nat) (f : TicDiff → TicDiff) : (s.modDiff n f).net = s.net := rfl
@[simp] theorem State.modDiff_crem (s : State) (n : Nat) (f : TicDiff → TicDiff) : (s.modDiff n f).crem = s.crem := rfl
@[simp] theorem State.modDiff_gran (s : State) (n : Nat) (f : TicDiff → TicDiff) : (s.modDiff n f).gran = s.gran := rfl
@[simp] theorem State.modDiff_win (s : State) (n : Nat) (f : TicDiff → TicDiff) : (s.modDiff n f).win = s.win := rfl
@[simp] theorem State.modDiff_stew (s : State) (n : Nat) (f : TicDiff → TicDiff) : (s.modDiff n f).stew = s.stew := rfl
@[simp] theorem State.modDiff_mtx (s : State) (n : Nat) (f : TicDiff → TicDiff) : (s.modDiff n f).mtx = s.mtx := rfl
@[simp] theorem State.modDiff_tithe (s : State) (n : Nat) (f : TicDiff → TicDiff) : (s.modDiff n f).tithe = s.tithe := rfl
@[simp] theorem State.modDiff_boot (s : State) (n : Nat) (f : TicDiff → TicDiff) : (s.modDiff n f).boot = s.boot := rfl
@[simp] theorem State.modDiff_elec (s : State) (n : Nat) (f : TicDiff → TicDiff) : (s.modDiff n f).elec = s.elec := rfl
@[simp] theorem State.modDiff_fresh (s : State) (n : Nat) (f : TicDiff → TicDiff) : (s.modDiff n f).fresh = s.fresh := rfl
@[simp] theorem State.modDiff_pending (s : State) (n : Nat) (f : TicDiff → TicDiff) : (s.modDiff n f).pending = s.pending := rfl

/-! ### modSmear -/

@[simp] theorem State.modSmear_dict (s : State) (n : Nat) (f : Smear → Smear) : (s.modSmear n f).dict = s.dict := rfl
@[simp] theorem State.modSmear_dev (s : State) (n : Nat) (f : Smear → Smear) : (s.modSmear n f).dev = s.dev := rfl
@[simp] theorem State.modSmear_tc (s : State) (n : Nat) (f : Smear → Smear) : (s.modSmear n f).tc = s.tc := rfl
@[simp] theorem State.modSmear_lanes (s : State) (n : Nat) (f : Smear → Smear) : (s.modSmear n f).lanes = s.lanes := rfl
@[simp] theorem State.modSmear_slots (s : State) (n : Nat) (f : Smear → Smear) : (s.modSmear n f).slots = s.slots := rfl
@[simp] theorem State.modSmear_sel (s : State) (n : Nat) (f : Smear → Smear) : (s.modSmear n f).sel = s.sel := rfl
@[simp] theorem State.modSmear_hold (s : State) (n : Nat) (f : Smear → Smear) : (s.modSmear n f).hold = s.hold := rfl
@[simp] theorem State.modSmear_scr (s : State) (n : Nat) (f : Smear → Smear) : (s.modSmear n f).scr = s.scr := rfl
@[simp] theorem State.modSmear_dplls (s : State) (n : Nat) (f : Smear → Smear) : (s.modSmear n f).dplls = s.dplls := rfl
@[simp] theorem State.modSmear_outs (s : State) (n : Nat) (f : Smear → Smear) : (s.modSmear n f).outs = s.outs := rfl
@[simp] theorem State.modSmear_pps (s : State) (n : Nat) (f : Smear → Smear) : (s.modSmear n f).pps = s.pps := rfl
@[simp] theorem State.modSmear_uarts (s : State) (n : Nat) (f : Smear → Smear) : (s.modSmear n f).uarts = s.uarts := rfl
@[simp] theorem State.modSmear_tic (s : State) (n : Nat) (f : Smear → Smear) : (s.modSmear n f).tic = s.tic := rfl
@[simp] theorem State.modSmear_gnss (s : State) (n : Nat) (f : Smear → Smear) : (s.modSmear n f).gnss = s.gnss := rfl
@[simp] theorem State.modSmear_crem (s : State) (n : Nat) (f : Smear → Smear) : (s.modSmear n f).crem = s.crem := rfl
@[simp] theorem State.modSmear_gran (s : State) (n : Nat) (f : Smear → Smear) : (s.modSmear n f).gran = s.gran := rfl
@[simp] theorem State.modSmear_win (s : State) (n : Nat) (f : Smear → Smear) : (s.modSmear n f).win = s.win := rfl
@[simp] theorem State.modSmear_stew (s : State) (n : Nat) (f : Smear → Smear) : (s.modSmear n f).stew = s.stew := rfl
@[simp] theorem State.modSmear_mtx (s : State) (n : Nat) (f : Smear → Smear) : (s.modSmear n f).mtx = s.mtx := rfl
@[simp] theorem State.modSmear_tithe (s : State) (n : Nat) (f : Smear → Smear) : (s.modSmear n f).tithe = s.tithe := rfl
@[simp] theorem State.modSmear_boot (s : State) (n : Nat) (f : Smear → Smear) : (s.modSmear n f).boot = s.boot := rfl
@[simp] theorem State.modSmear_elec (s : State) (n : Nat) (f : Smear → Smear) : (s.modSmear n f).elec = s.elec := rfl
@[simp] theorem State.modSmear_fresh (s : State) (n : Nat) (f : Smear → Smear) : (s.modSmear n f).fresh = s.fresh := rfl
@[simp] theorem State.modSmear_pending (s : State) (n : Nat) (f : Smear → Smear) : (s.modSmear n f).pending = s.pending := rfl

/-! ### modPath -/

@[simp] theorem State.modPath_dict (s : State) (n : Nat) (f : PathDet → PathDet) : (s.modPath n f).dict = s.dict := rfl
@[simp] theorem State.modPath_dev (s : State) (n : Nat) (f : PathDet → PathDet) : (s.modPath n f).dev = s.dev := rfl
@[simp] theorem State.modPath_tc (s : State) (n : Nat) (f : PathDet → PathDet) : (s.modPath n f).tc = s.tc := rfl
@[simp] theorem State.modPath_lanes (s : State) (n : Nat) (f : PathDet → PathDet) : (s.modPath n f).lanes = s.lanes := rfl
@[simp] theorem State.modPath_slots (s : State) (n : Nat) (f : PathDet → PathDet) : (s.modPath n f).slots = s.slots := rfl
@[simp] theorem State.modPath_sel (s : State) (n : Nat) (f : PathDet → PathDet) : (s.modPath n f).sel = s.sel := rfl
@[simp] theorem State.modPath_hold (s : State) (n : Nat) (f : PathDet → PathDet) : (s.modPath n f).hold = s.hold := rfl
@[simp] theorem State.modPath_dplls (s : State) (n : Nat) (f : PathDet → PathDet) : (s.modPath n f).dplls = s.dplls := rfl
@[simp] theorem State.modPath_outs (s : State) (n : Nat) (f : PathDet → PathDet) : (s.modPath n f).outs = s.outs := rfl
@[simp] theorem State.modPath_pps (s : State) (n : Nat) (f : PathDet → PathDet) : (s.modPath n f).pps = s.pps := rfl
@[simp] theorem State.modPath_uarts (s : State) (n : Nat) (f : PathDet → PathDet) : (s.modPath n f).uarts = s.uarts := rfl
@[simp] theorem State.modPath_tic (s : State) (n : Nat) (f : PathDet → PathDet) : (s.modPath n f).tic = s.tic := rfl
@[simp] theorem State.modPath_gnss (s : State) (n : Nat) (f : PathDet → PathDet) : (s.modPath n f).gnss = s.gnss := rfl
@[simp] theorem State.modPath_net (s : State) (n : Nat) (f : PathDet → PathDet) : (s.modPath n f).net = s.net := rfl
@[simp] theorem State.modPath_crem (s : State) (n : Nat) (f : PathDet → PathDet) : (s.modPath n f).crem = s.crem := rfl
@[simp] theorem State.modPath_gran (s : State) (n : Nat) (f : PathDet → PathDet) : (s.modPath n f).gran = s.gran := rfl
@[simp] theorem State.modPath_win (s : State) (n : Nat) (f : PathDet → PathDet) : (s.modPath n f).win = s.win := rfl
@[simp] theorem State.modPath_stew (s : State) (n : Nat) (f : PathDet → PathDet) : (s.modPath n f).stew = s.stew := rfl
@[simp] theorem State.modPath_mtx (s : State) (n : Nat) (f : PathDet → PathDet) : (s.modPath n f).mtx = s.mtx := rfl
@[simp] theorem State.modPath_tithe (s : State) (n : Nat) (f : PathDet → PathDet) : (s.modPath n f).tithe = s.tithe := rfl
@[simp] theorem State.modPath_boot (s : State) (n : Nat) (f : PathDet → PathDet) : (s.modPath n f).boot = s.boot := rfl
@[simp] theorem State.modPath_elec (s : State) (n : Nat) (f : PathDet → PathDet) : (s.modPath n f).elec = s.elec := rfl
@[simp] theorem State.modPath_fresh (s : State) (n : Nat) (f : PathDet → PathDet) : (s.modPath n f).fresh = s.fresh := rfl
@[simp] theorem State.modPath_pending (s : State) (n : Nat) (f : PathDet → PathDet) : (s.modPath n f).pending = s.pending := rfl

/-! ### modSession -/

@[simp] theorem State.modSession_dict (s : State) (n : Nat) (f : Session → Session) : (s.modSession n f).dict = s.dict := rfl
@[simp] theorem State.modSession_dev (s : State) (n : Nat) (f : Session → Session) : (s.modSession n f).dev = s.dev := rfl
@[simp] theorem State.modSession_tc (s : State) (n : Nat) (f : Session → Session) : (s.modSession n f).tc = s.tc := rfl
@[simp] theorem State.modSession_lanes (s : State) (n : Nat) (f : Session → Session) : (s.modSession n f).lanes = s.lanes := rfl
@[simp] theorem State.modSession_slots (s : State) (n : Nat) (f : Session → Session) : (s.modSession n f).slots = s.slots := rfl
@[simp] theorem State.modSession_sel (s : State) (n : Nat) (f : Session → Session) : (s.modSession n f).sel = s.sel := rfl
@[simp] theorem State.modSession_hold (s : State) (n : Nat) (f : Session → Session) : (s.modSession n f).hold = s.hold := rfl
@[simp] theorem State.modSession_scr (s : State) (n : Nat) (f : Session → Session) : (s.modSession n f).scr = s.scr := rfl
@[simp] theorem State.modSession_dplls (s : State) (n : Nat) (f : Session → Session) : (s.modSession n f).dplls = s.dplls := rfl
@[simp] theorem State.modSession_outs (s : State) (n : Nat) (f : Session → Session) : (s.modSession n f).outs = s.outs := rfl
@[simp] theorem State.modSession_pps (s : State) (n : Nat) (f : Session → Session) : (s.modSession n f).pps = s.pps := rfl
@[simp] theorem State.modSession_uarts (s : State) (n : Nat) (f : Session → Session) : (s.modSession n f).uarts = s.uarts := rfl
@[simp] theorem State.modSession_tic (s : State) (n : Nat) (f : Session → Session) : (s.modSession n f).tic = s.tic := rfl
@[simp] theorem State.modSession_gnss (s : State) (n : Nat) (f : Session → Session) : (s.modSession n f).gnss = s.gnss := rfl
@[simp] theorem State.modSession_crem (s : State) (n : Nat) (f : Session → Session) : (s.modSession n f).crem = s.crem := rfl
@[simp] theorem State.modSession_gran (s : State) (n : Nat) (f : Session → Session) : (s.modSession n f).gran = s.gran := rfl
@[simp] theorem State.modSession_win (s : State) (n : Nat) (f : Session → Session) : (s.modSession n f).win = s.win := rfl
@[simp] theorem State.modSession_stew (s : State) (n : Nat) (f : Session → Session) : (s.modSession n f).stew = s.stew := rfl
@[simp] theorem State.modSession_mtx (s : State) (n : Nat) (f : Session → Session) : (s.modSession n f).mtx = s.mtx := rfl
@[simp] theorem State.modSession_tithe (s : State) (n : Nat) (f : Session → Session) : (s.modSession n f).tithe = s.tithe := rfl
@[simp] theorem State.modSession_boot (s : State) (n : Nat) (f : Session → Session) : (s.modSession n f).boot = s.boot := rfl
@[simp] theorem State.modSession_elec (s : State) (n : Nat) (f : Session → Session) : (s.modSession n f).elec = s.elec := rfl
@[simp] theorem State.modSession_fresh (s : State) (n : Nat) (f : Session → Session) : (s.modSession n f).fresh = s.fresh := rfl
@[simp] theorem State.modSession_pending (s : State) (n : Nat) (f : Session → Session) : (s.modSession n f).pending = s.pending := rfl

/-! ### The unit changed, and the others -/

@[simp] theorem State.modSlot_slot (s : State) (n : Nat) (f : Slot → Slot) (h : n < 24) : (s.modSlot n f).slot n = f (s.slot n) := vat_vmod_same _ _ _ _ h
@[simp] theorem State.modSlot_slot_other (s : State) (n : Nat) (f : Slot → Slot) (m : Nat) (h : m ≠ n) : (s.modSlot n f).slot m = s.slot m := vat_vmod_other _ _ _ h

@[simp] theorem State.modPort_port (s : State) (n : Nat) (f : Port → Port) (h : n < 9) : (s.modPort n f).port n = f (s.port n) := vat_vmod_same _ _ _ _ h
@[simp] theorem State.modPort_port_other (s : State) (n : Nat) (f : Port → Port) (m : Nat) (h : m ≠ n) : (s.modPort n f).port m = s.port m := vat_vmod_other _ _ _ h

@[simp] theorem State.modLane_lane (s : State) (n : Nat) (f : Lane → Lane) (h : n < 13) : (s.modLane n f).lane n = f (s.lane n) := vat_vmod_same _ _ _ _ h
@[simp] theorem State.modLane_lane_other (s : State) (n : Nat) (f : Lane → Lane) (m : Nat) (h : m ≠ n) : (s.modLane n f).lane m = s.lane m := vat_vmod_other _ _ _ h

@[simp] theorem State.modPtp_ptp (s : State) (n : Nat) (f : PtpInst → PtpInst) (h : n < 4) : (s.modPtp n f).ptp n = f (s.ptp n) := vat_vmod_same _ _ _ _ h
@[simp] theorem State.modPtp_ptp_other (s : State) (n : Nat) (f : PtpInst → PtpInst) (m : Nat) (h : m ≠ n) : (s.modPtp n f).ptp m = s.ptp m := vat_vmod_other _ _ _ h

@[simp] theorem State.modLink_link (s : State) (n : Nat) (f : CremLink → CremLink) (h : n < 4) : (s.modLink n f).link n = f (s.link n) := vat_vmod_same _ _ _ _ h
@[simp] theorem State.modLink_link_other (s : State) (n : Nat) (f : CremLink → CremLink) (m : Nat) (h : m ≠ n) : (s.modLink n f).link m = s.link m := vat_vmod_other _ _ _ h

@[simp] theorem State.modNode_nodeRec (s : State) (n : Nat) (f : CremNode → CremNode) (h : n < 49) : (s.modNode n f).nodeRec n = f (s.nodeRec n) := vat_vmod_same _ _ _ _ h
@[simp] theorem State.modNode_nodeRec_other (s : State) (n : Nat) (f : CremNode → CremNode) (m : Nat) (h : m ≠ n) : (s.modNode n f).nodeRec m = s.nodeRec m := vat_vmod_other _ _ _ h

@[simp] theorem State.modPair_pair (s : State) (n : Nat) (f : Pair → Pair) (h : n < 3) : (s.modPair n f).pair n = f (s.pair n) := vat_vmod_same _ _ _ _ h
@[simp] theorem State.modPair_pair_other (s : State) (n : Nat) (f : Pair → Pair) (m : Nat) (h : m ≠ n) : (s.modPair n f).pair m = s.pair m := vat_vmod_other _ _ _ h

/-! ### The dictionary -/

@[simp] theorem State.setVal_eff (s : State) (r : Row) (i j : Nat) (v : Val) : (s.setVal r i j v).dict.eff = s.dict.eff := rfl
@[simp] theorem State.setVal_cfg (s : State) (r : Row) (i j : Nat) (v : Val) : (s.setVal r i j v).dict.cfg = s.dict.cfg := rfl
@[simp] theorem State.setEff_val (s : State) (r : Row) (i j : Nat) (v : Val) : (s.setEff r i j v).dict.val = s.dict.val := rfl
@[simp] theorem State.setEff_cfg (s : State) (r : Row) (i j : Nat) (v : Val) : (s.setEff r i j v).dict.cfg = s.dict.cfg := rfl
@[simp] theorem State.setCfg_val (s : State) (r : Row) (i j : Nat) (v : Val) : (s.setCfg r i j v).dict.val = s.dict.val := rfl
@[simp] theorem State.setCfg_eff (s : State) (r : Row) (i j : Nat) (v : Val) : (s.setCfg r i j v).dict.eff = s.dict.eff := rfl

/-- A status value written reads as written. -/
@[simp] theorem State.val_setVal (s : State) (r : Row) (i j : Nat) (v : Val) : (s.setVal r i j v).val r i j = v :=
  Store.getD_put_same _ _ _ _

/-- A status value written leaves the values of other keys. -/
theorem State.val_setVal_other (s : State) (r r' : Row) (i j i' j' : Nat) (v : Val) (h : r'.key i' j' ≠ r.key i j) :
    (s.setVal r i j v).val r' i' j' = s.val r' i' j' := by
  simp [State.val, State.setVal, Store.find_put_other _ _ _ _ h]

@[simp] theorem State.valI_setN (s : State) (r : Row) (v : Int) (i j : Nat) : (s.setN r v i j).valI r i j = v := by
  simp [State.valI, State.setN, Val.num]

@[simp] theorem State.valN_setN (s : State) (r : Row) (v : Nat) (i j : Nat) : (s.setN r (v : Int) i j).valN r i j = v := by
  simp [State.valN]

/-- A value in effect written reads as written, where the object has a twin. -/
theorem State.eff_setEff (s : State) (r : Row) (i j : Nat) (v : Val) (h : r.twin ≠ 0) : (s.setEff r i j v).eff r i j = v := by
  simp only [State.eff, h, if_false]; exact Store.getD_put_same _ _ _ _

/-- A configured value written reads as written. -/
@[simp] theorem State.cfg_setCfg (s : State) (r : Row) (i j : Nat) (v : Val) : (s.setCfg r i j v).cfg r i j = v :=
  Store.getD_put_same _ _ _ _

/-- Status writes do not change what is in effect. -/
@[simp] theorem State.eff_setVal (s : State) (r r' : Row) (i j i' j' : Nat) (v : Val) : (s.setVal r i j v).eff r' i' j' = s.eff r' i' j' := rfl
@[simp] theorem State.effI_setN (s : State) (r r' : Row) (v : Int) (i j i' j' : Nat) : (s.setN r v i j).effI r' i' j' = s.effI r' i' j' := rfl
@[simp] theorem State.effN_setN (s : State) (r r' : Row) (v : Int) (i j i' j' : Nat) : (s.setN r v i j).effN r' i' j' = s.effN r' i' j' := rfl

end Sys2Proof.Machine
end

