-- ==== Sys2Proof/Laws/Raise.lean ====
section
/-! SUPPORT. What the shared operations can do, said once: status writes and counters within the dictionary's frame, raising a fault source,
and resets. Later proofs cite these and do not unfold the operations. -/
namespace Sys2Proof.Machine

/-! ### The dictionary's frame -/

theorem SameDict.refl (s : State) (ks : List Nat) : SameDict s s ks := ⟨rfl, rfl, fun _ _ => rfl⟩

/-- Frames compose. -/
theorem SameDict.trans {s t u : State} {ks ls : List Nat} (h : SameDict s t ks) (h' : SameDict t u ls) : SameDict s u (ks ++ ls) :=
  ⟨h'.1.trans h.1, h'.2.1.trans h.2.1, fun k hk => by
    rw [List.mem_append, not_or] at hk
    exact (h'.2.2 k hk.2).trans (h.2.2 k hk.1)⟩

/-- A frame holds with more keys excepted. -/
theorem SameDict.mono {s t : State} {ks ls : List Nat} (h : SameDict s t ks) (hl : ∀ k ∈ ks, k ∈ ls) : SameDict s t ls :=
  ⟨h.1, h.2.1, fun k hk => h.2.2 k fun hm => hk (hl k hm)⟩

/-- A status write changes the value of its key only. -/
theorem SameDict.setVal (s : State) (r : Row) (i j : Nat) (v : Val) : SameDict s (s.setVal r i j v) [r.key i j] :=
  ⟨rfl, rfl, fun k hk => by
    simp only [List.mem_singleton] at hk
    exact Store.find_put_other _ _ _ _ hk⟩

theorem SameDict.setN (s : State) (r : Row) (v : Int) (i j : Nat) : SameDict s (s.setN r v i j) [r.key i j] := SameDict.setVal s r i j _

/-! ### Raising (R509, R514, R516) -/

/-- Marking a source as raised: its bits, its mark, nothing else. -/
theorem State.markRaised_spec (s : State) (n : Nat) :
    s.markRaised n = { s with win := (s.markRaised n).win, dict := (s.markRaised n).dict } ∧
      (s.markRaised n).win = { s.win with srcs := (s.markRaised n).win.srcs } ∧
      (n < 320 → (vat (s.markRaised n).win.srcs n {}).active = true) ∧
      (∀ m, m ≠ n → vat (s.markRaised n).win.srcs m {} = vat s.win.srcs m {}) ∧
      (s.markRaised n).valN Obj.win_src_state n = s.valN Obj.win_src_state n ||| 8 ∧
      SameDict s (s.markRaised n) [srcKey n] := by
  refine ⟨rfl, rfl, fun h => ?_, fun m h => ?_, ?_, ?_⟩
  · simp [State.markRaised, State.modSrc, vat_vmod_same _ _ _ _ h]
  · simp only [State.markRaised, State.modSrc, State.srcBits]
    exact vat_vmod_other _ _ _ h
  · exact State.valN_setN _ _ _ _ _
  · exact SameDict.setN s Obj.win_src_state _ n 0

/-- A raise of any kind changes only Winnow and status values. -/
theorem State.raise_frame (s : State) (n : Nat) (i : FaultInfo) :
    s.raise n i = { s with win := (s.raise n i).win, dict := { s.dict with val := (s.raise n i).dict.val } } := by
  unfold State.raise
  split
  · rfl
  · split
    · split
      · rfl
      · unfold State.lose; split <;> rfl
    · split <;> rfl

/-- A raise that is taken: what it does, whole. -/
theorem State.raise_taken (s : State) (n : Nat) (i : FaultInfo) (h : CanRaise s n) :
    Raised s (s.raise n i) n i ∧ SameDict s (s.raise n i) [srcKey n] ∧
      (s.raise n i).valN Obj.win_src_state n = s.valN Obj.win_src_state n ||| 8 := by
  obtain ⟨h0, h1, h2, h3, h4⟩ := h
  have e : s.raise n i = { s.markRaised n with win := { (s.markRaised n).win with now := (s.markRaised n).win.now ++ [(n, i)] } } := by
    have hb : (decide (n < 168) && decide (32 ≤ n)) = false := by
      rcases h1 with h | h
      · simp; omega
      · simp; omega
    unfold State.raise
    simp [hb, h2, h3, h4]
  obtain ⟨-, hw, ha, ho, hv, hd⟩ := s.markRaised_spec n
  rw [e]
  exact ⟨⟨rfl, rfl, ha h0, ho⟩, hd, hv⟩

/-- A counter counts `k`, up to the largest value of its type, and nothing else changes. -/
theorem State.count_spec (s : State) (r : Row) (i j k : Nat) :
    s.count r i j k = { s with dict := (s.count r i j k).dict } ∧ SameDict s (s.count r i j k) [r.key i j] :=
  ⟨rfl, SameDict.setN s r _ i j⟩

end Sys2Proof.Machine
end

