-- ==== Sys2Proof/Tests/Slice0.lean ====
section
/-! SUPPORT. Small tests: the checks of WellFormed refuse an ill-formed term each, the hypotheses of every statement are met by a concrete
state, and single steps whose results come from the manual. -/
namespace Sys2Proof

open Sys2Proof.Machine

set_option Elab.async false

/-! ### States the witnesses use -/

/-- A part whose keepers run, in service. -/
def wRun : State := { tc := { running := true } }

/-- Three keepers in one state that run, at a time of day. -/
def wAt (r : KeeperRegs) (now : Int) : State :=
  { tc := { running := true, voted := now, k0 := { regs := r }, k1 := { regs := r }, k2 := { regs := r } } }


/-- An OT9600-MX in service: every pair holds its role, the Gleaner has started. -/
def wServe : State :=
  { dev := { part := 1 }, tc := { running := true, tickCyc := 10 ^ 7, cyc := 10 ^ 7, boundaries := 20 }
    boot := { reached := 12, serving := true }, gnss := { started := true, gap := (0, some 1) }
    stew := { pairs := Vector.ofFn fun i => { role := i.val + 1, done := false } } }

/-- A served IPv4 entry 10.0.0.1 with every service, without tags. -/
def wEntry : Bytes := [4, 15, 0xFF, 0xFF, 0xFF, 0xFF, 0, 0, 10, 0, 0, 1] ++ zeros 12

/-- A frame to 10.0.0.1 with a UDP payload. -/
def wUdp (port : Nat) (body : Bytes) : Bytes :=
  zeros 12 ++ [8, 0] ++ ipHeader 4 0 (8 + body.length) 17 64 [10, 0, 0, 9] [10, 0, 0, 1] ++ beBytes 2 4096 ++ beBytes 2 port ++
    beBytes 2 (8 + body.length) ++ [0, 0] ++ body

/-- A state in which one frame waits at port 2, which serves `wEntry`. -/
def wWait (k : RxKind) (b : Bytes) : State :=
  ((({ wServe with net := { waiting := [{ port := 2, kind := k, bytes := b, entry := some 0 }] } } : State).setEff Obj.mac_served 2 0 (.o wEntry)).setN
    Obj.mac_link 1 2).setEff Obj.mac_address 2 0 (.o (zeros 6))

/-- An NTP request of version 4, mode 3. -/
def wNtp : Bytes := [0x23] ++ zeros 47

/-- An NTS request without placeholders: a Unique Identifier, a cookie under the all-zero master key 7 with all-zero keys and nonce, and its
Authenticator with an all-zero nonce. -/
def wNts : Bytes :=
  wNtp ++ [1, 4, 0, 36] ++ zeros 32 ++ [2, 4, 0, 104] ++
    [0x00, 0x07, 0x00, 0x00, 0x00, 0x00, 0x00, 0x00, 0x00, 0x00, 0x00, 0x00, 0x00, 0x00, 0x00, 0x00, 0x00, 0x00, 0x2E, 0xFD, 0x7A, 0x0D, 0xEC, 0xE7, 0x74, 0x88] ++
    [0x64, 0x46, 0xFD, 0x96, 0x23, 0x4B, 0xFE, 0x49, 0x0B, 0xFB, 0x74, 0x32, 0xAA, 0x6F, 0x2A, 0x42, 0x9E, 0xC3, 0xA4, 0x95, 0x22, 0x47, 0x7C, 0x5A, 0x85, 0x8E] ++
    [0x91, 0x44, 0x00, 0x20, 0xE0, 0x3B, 0x4C, 0xF7, 0xB2, 0x49, 0x7E, 0x99, 0x8D, 0x8E, 0xAB, 0x34, 0xAE, 0xAA, 0x93, 0x83, 0x43, 0x97, 0x11, 0xBD, 0x26, 0x0B] ++
    [0x07, 0x7F, 0x5B, 0xB1, 0xDD, 0xF8, 0x39, 0x02, 0xE1, 0x3B, 0x94, 0x2E, 0x60, 0x01, 0x1A, 0x91, 0x2C, 0x3C, 0x12, 0xF1, 0x46, 0x9F] ++
    [0x04, 0x04, 0x00, 0x28, 0x00, 0x10, 0x00, 0x10, 0x00, 0x00, 0x00, 0x00, 0x00, 0x00, 0x00, 0x00, 0x00, 0x00, 0x00, 0x00, 0x00, 0x00, 0x00, 0x00, 0xF1, 0xD4] ++
    [0x92, 0xE3, 0x7F, 0x2D, 0xFC, 0x43, 0xE1, 0x68, 0x21, 0x79, 0xAE, 0xF6, 0x64, 0x89]

/-- What the NTS request reads as. -/
def wNtsReq : NtsReq := (ntsParse wNts).getD { uid := [], cookie := [], holders := 0, auth := 0, nonce := [], ct := [] }

/-- The IP header of the requests. -/
def wIp (b : Bytes) : IpHead :=
  ((rxUdp { bytes := wUdp 123 b }).map Prod.fst).getD
    { fam := 0, src := [], dst := [], proto := 0, l4 := 0, len := 0, odd := false, sumOk := false, tos := 0 }

/-- The waiting frame of `wWait`. -/
def wRx (k : RxKind) (b : Bytes) : RxFrame := { port := 2, kind := k, bytes := b, entry := some 0 }

/-- An NTS slot in use. -/
def wSlot : KeySlot := { key := zeros 32, id := 7, state := 2 }

/-- A port with an NTS request waiting, its key slot active and no policing. -/
def wNtsState : State :=
  let s := ((wWait .ntp (wUdp 123 wNts)).setEff Obj.nts_enable 0 0 (.n 1)).setEff Obj.pol_enable 0 0 (.n 0)
  { s with
    net := { s.net with nts := vmod s.net.nts 3 fun _ => wSlot }
    win := { s.win with thrSlots := vmod s.win.thrSlots 0 fun _ => some 0, aesActive := [0] } }

/-- A multicast PTP frame over Ethernet with a message of a type, flags, sequenceId and body. -/
def wPtpFrame (type flags seq : Nat) (body : Bytes) : Bytes :=
  beBytes 6 0x011B19000000 ++ zeros 6 ++ [0x88, 0xF7] ++ [BitVec.ofNat 8 type, 0x12] ++ beBytes 2 (34 + body.length) ++ [0, 0, BitVec.ofNat 8 flags, 0] ++
    zeros 12 ++ List.replicate 10 0xAA ++ beBytes 2 seq ++ [0, 0] ++ body

/-- The waiting frame of a PTP message, and the message. -/
def wPtpRx (b : Bytes) : RxFrame := { port := 2, kind := .ptp, bytes := b, arr := 5 }

/-- Instance 1 of PTP runs over Ethernet on port 2; frames wait. -/
def wPtp (l : List RxFrame) : State :=
  ((((({ wServe with net := { waiting := l }, tc := { wServe.tc with voted := secU, tickSec := 1 } } : State).setEff Obj.mac_served 2 0 (.o wEntry)).setN
    Obj.mac_link 1 2).setEff Obj.mac_address 2 0 (.o (zeros 6))).setEff Obj.pol_enable 0 0 (.n 0)).setEff Obj.ptp_enable 1 0 (.n 1)

/-- Port 2 is a master port of instance 1. -/
def wMaster (l : List RxFrame) : State := (wPtp l).setEff Obj.ptp_master_ports 1 0 (.n 4)

/-- Port 2 is the slave port of instance 1, UNCALIBRATED under the parent AA..AA. -/
def wSlave (l : List RxFrame) : State :=
  (((wPtp l).setEff Obj.ptp_slave_port 1 0 (.n 2)).setN Obj.ptp_slave_state 2 1).modPtp 1 fun x =>
    { x with slavePort := 2, parent := some (List.replicate 10 0xAA) }


/-- A Cremin message with a right CRC. -/
def wCrem (type : Nat) (specific data : Bytes) : CremIn :=
  let b := creminMsg type 5 specific data
  { header := b.take 8, data := b.drop 8 }

/-- A node whose four links are up and accepted; the roles are the defaults of its kind. -/
def wTree (manager : Bool) : State :=
  { dev := { manager := manager, serial := List.replicate 16 0x11 }, tc := { running := true, cyc := 10 ^ 12, boundaries := 20, tickNo := 4 }
    crem := { started := true, node := 9, links := Vector.replicate 4 { up := true, accepted := true } } }

/-- The data area of a TIME message without its CRC: depth 0 and node 0, port 1, claim 1 (DOWN). -/
def wTime (claim : Byte) : Bytes := [0, 0, 0, 0, 0, 0, 0, 0, 0, 0, 0, 0, 0, 0, 0, 1] ++ zeros 66 ++ [claim] ++ zeros 9

/-- An Atton message with an all-zero tag: sender 7, any node, sequence number 5. -/
def wMsg (op level : Nat) (body : Bytes) : AttonMsg :=
  { bytes := [1] ++ beBytes 1 op ++ beBytes 1 level ++ [0, 0, 7, 0xFF, 0] ++ beBytes 8 5 ++ beBytes 2 body.length ++ zeros 14 ++ body ++ zeros 16 }

/-- A part in service whose next boundary is far away; messages wait at the Atton agent. -/
def wAgent (l : List AttonMsg) : State :=
  (({ wServe with tc := { wServe.tc with nextGrid := 10 ^ 40 }, gran := { inbox := l } } : State).setCfg Obj.tod_control 0 0 (.n 1)).setEff
    Obj.tod_control 0 0 (.n 1)

/-- An OT9600-MX in service, out of reset. -/
def wServeUp : State := { wServe with boot := { inReset := false, reached := 12, outcome := 1, serving := true } }

/-- The state of witness stepCount. -/
def ws_stepCount : State := { wRun with tc := { running := true, jumps := [(9, 12345)] } }

/-- The state of witness actStep. -/
def ws_actStep : State := wAt { acts := [{ slot := 3, kind := 1, time := 5, offset := 7 }] } 10

/-- The state of witness actSet. -/
def ws_actSet : State := wAt { acts := [{ slot := 7, kind := 2, time := 5, value := 700 }] } 10

/-- The state of witness actSetAlone. -/
def ws_actSetAlone : State := (let s := wAt { acts := [{ slot := 7, kind := 2, time := 5, value := 700 }] } 10; { s with tc := { s.tc with jumps := [(0, 4)] } })

/-- The state of witness actRefused. -/
def ws_actRefused : State := (wAt { acts := [{ slot := 1, kind := 1, time := 5, offset := 7 }] } 10 : State).setN Obj.tod_state 1 |>.setEff Obj.tod_step_policy 0 0 (.n 0)

/-- The state of witness actFreq. -/
def ws_actFreq : State := wAt { acts := [{ slot := 2, kind := 3, time := 10, inc := 0x0200000000000001 }] } 10

/-- The state of witness leapDict. -/
def ws_leapDict : State := wAt { leap := some { insert := true, time := 10, newOff := 38 } } 10

/-- The state of witness leapGnss. -/
def ws_leapGnss : State := wAt { leap := some { insert := true, time := 10, newOff := 38, gleaner := true } } 10

/-- The state of witness tick. -/
def ws_tick : State := { wServe with boot := { wServe.boot with inReset := false }, tc := { wServe.tc with boundaryDue := true, voted := secU } }

/-- The state of witness tickCommit. -/
def ws_tickCommit : State := { wServe with boot := { wServe.boot with inReset := false }, tc := { wServe.tc with boundaryDue := true, voted := secU }, gran := { cur := { items := [{ handle := 3, entries := [{ index := 0x1102, sub := 0, value := [5] }] }] }, handles := [(3, {})] } }

/-- The state of witness tickNot. -/
def ws_tickNot : State := {}

/-- The state of witness workSb. -/
def ws_workSb : State := { wServe with gnss := {} }

/-- The state of witness workNot. -/
def ws_workNot : State := {}

/-- The state of witness qualGained. -/
def ws_qualGained : State := ({ tc := { cyc := 40000000000 }, slots := Vector.replicate 24 { present := true, goodSince := some 0 } } : State).setEff Obj.ref_enable 3 0 (.n 1)

/-- The state of witness wtrExpire. -/
def ws_wtrExpire : State := { tc := { cyc := 400000000000 }, slots := Vector.replicate 24 { qualified := true, wtrStart := some 0 } }

/-- The state of witness refEdgeCount. -/
def ws_refEdgeCount : State := (({} : State).setEff Obj.ref_divider 2 0 (.n 10))

/-- The state of witness refEdgeHit. -/
def ws_refEdgeHit : State := (let s : State := { slots := Vector.replicate 24 { present := true, pred := some 0 }, tic := { chans := Vector.replicate 17 { i0 := { state := 2 } } } }; s.setEff Obj.ref_enable 1 0 (.n 1))

/-- The state of witness refEdgeThird. -/
def ws_refEdgeThird : State := (let s : State := { slots := Vector.replicate 24 { good3 := 2, pred := some 0 }, tic := { chans := Vector.replicate 17 { i0 := { state := 2 } } } }; s.setEff Obj.ref_enable 1 0 (.n 1))

/-- The state of witness refMissFirst. -/
def ws_refMissFirst : State := { tc := { voted := 10 ^ 30 }, slots := Vector.replicate 24 { present := true, pred := some 0 } }

/-- The state of witness refMissSecond. -/
def ws_refMissSecond : State := { tc := { voted := 10 ^ 30 }, slots := Vector.replicate 24 { present := true, missed := 1, pred := some 0 } }

/-- The state of witness trFail. -/
def ws_trFail : State := (({ tc := { boundaries := 100 }, sel := { transBegan := 90, transTicks := 8 } } : State).setN Obj.ref_state 1).setN Obj.ref_target 8

/-- The state of witness trFreq. -/
def ws_trFreq : State := (let s : State := { tc := { boundaries := 100 }, sel := { transBegan := 90, transTicks := 8 }, slots := Vector.replicate 24 { eligible := true, meas := [{ t := 0, x := 650000, tickAt := 95 }] } }; ((s.setN Obj.ref_state 1).setN Obj.ref_target 13))

/-- The state of witness trInitial. -/
def ws_trInitial : State := (let s : State := { tc := { boundaries := 100 }, sel := { transBegan := 90, transTicks := 8 }, slots := Vector.replicate 24 { eligible := true, meas := [{ t := 0, x := 650000, tickAt := 95 }] } }; ((s.setN Obj.ref_state 1).setN Obj.ref_target 8))

/-- The state of witness trManual. -/
def ws_trManual : State := (let s : State := { tc := { boundaries := 100 }, sel := { transBegan := 90, transTicks := 8 }, slots := Vector.replicate 24 { eligible := true, meas := [{ t := 0, x := 650000, tickAt := 95 }] } }; ((s.setN Obj.ref_state 1).setN Obj.ref_target 8).setN Obj.tod_state 1 |>.setEff Obj.tod_control 0 0 (.n 1))

/-- The state of witness trSlew. -/
def ws_trSlew : State := (let s : State := { tc := { boundaries := 100 }, sel := { transBegan := 90, transTicks := 8 }, slots := Vector.replicate 24 { eligible := true, meas := [{ t := 0, x := 650000, tickAt := 95 }] } }; ((s.setN Obj.ref_state 1).setN Obj.ref_target 8).setN Obj.tod_state 1 |>.setEff Obj.tod_step_policy 0 0 (.n 0))

/-- The state of witness trTooFar. -/
def ws_trTooFar : State := (let s : State := { tc := { boundaries := 100 }, sel := { transBegan := 90, transTicks := 8 }, slots := Vector.replicate 24 { eligible := true, meas := [{ t := 0, x := 10 ^ 20, tickAt := 95 }] } }; ((s.setN Obj.ref_state 1).setN Obj.ref_target 8).setN Obj.tod_state 1 |>.setEff Obj.tod_step_policy 0 0 (.n 0))

/-- The state of witness disputeEnd. -/
def ws_disputeEnd : State := ({ sel := { disputes := [{ a := 2, b := 7 }] } } : State).setN Obj.ref_arb_state 2

/-- The state of witness histRead. -/
def ws_histRead : State := ({} : State).setN Obj.ref_history 77 3

/-- The state of witness flyLoss. -/
def ws_flyLoss : State := ({ hold := { timebaseFly := true, typeAtStart := 1 }, slots := Vector.replicate 24 { present := true } } : State).setEff Obj.ref_enable 23 0 (.n 1)

/-- The state of witness flyLossSeg. -/
def ws_flyLossSeg : State := (({ tc := { tickCyc := 10 ^ 9 }, hold := { timebaseFly := true, typeAtStart := 1, seg := some { regime := 2, u := 1 / 10 ^ 9 } }, slots := Vector.replicate 24 { present := true } } : State).setN Obj.dpll_state 2 0)

/-- The state of witness flyRestore. -/
def ws_flyRestore : State := ({ tc := { cyc := 10 ^ 15 }, hold := { typeAtStart := 1, flyQualSince := some 0 }, slots := Vector.replicate 24 { qualified := true } } : State).setN Obj.hold_state 1

/-- The state of witness holdRate. -/
def ws_holdRate : State := {}

/-- The state of witness holdNominal. -/
def ws_holdNominal : State := {}

/-- The state of witness holdLocked. -/
def ws_holdLocked : State := ({} : State).setN Obj.hold_state 1

/-- The state of witness modelSample. -/
def ws_modelSample : State := ({ tc := { tickSec := 7 }, slots := Vector.replicate 24 { }, hold := { prevMeas := [(8, { t := 0, x := 0, cyc := 0 })], curMeas := [(8, { t := secU, x := 0, cyc := 500000000, inc := 500000000 * 2 ^ 57 })] } } : State).setN Obj.hold_state 1 |>.setN Obj.ref_active 8

/-- The state of witness modelClose. -/
def ws_modelClose : State := {}

/-- The state of witness modelAppend. -/
def ws_modelAppend : State := { hold := { accF := [3], accT := [5] } }

/-- The state of witness modelRefit. -/
def ws_modelRefit : State := ({} : State).setN Obj.hold_state 1

/-- The state of witness ppsFine. -/
def ws_ppsFine : State := ({ tc := { cyc := 500000000 }, hold := { timebaseFly := true, ppsLast := some 0 } } : State).setEff Obj.fly_pps_enable 0 0 (.n 1)

/-- The state of witness ppsHit. -/
def ws_ppsHit : State := ({ tc := { cyc := 500000100 }, hold := { timebaseFly := true, ppsLast := some 0 } } : State).setEff Obj.fly_pps_enable 0 0 (.n 1)

/-- The state of witness recRefuse. -/
def ws_recRefuse : State := ((({ tc := { tickSec := 10 ^ 9 }, hold := { timebaseFly := true, fly := { state := 2, fitted := true, f0 := 1 / 1000 } } } : State).setN Obj.hold_state 1).setEff Obj.fly_recentre_mode 0 0 (.n 1)).setN Obj.fly_recentre_used (2 ^ 60) |>.setN Obj.ref_active 8 |> fun s => { s with slots := Vector.replicate 24 { qualified := true } }

/-- The state of witness recUart. -/
def ws_recUart : State := ((({ tc := { tickSec := 10 ^ 9 }, hold := { timebaseFly := true, fly := { state := 2, fitted := true, f0 := 1 / 10000000 } } } : State).setN Obj.hold_state 1).setEff Obj.fly_recentre_mode 0 0 (.n 1)).setN Obj.ref_active 8 |> fun s => { s with slots := Vector.replicate 24 { qualified := true } }

/-- The state of witness recDac. -/
def ws_recDac : State := ((((({ tc := { tickSec := 10 ^ 9 }, hold := { timebaseFly := true, fly := { state := 2, fitted := true, f0 := 1 / 10000000 } } } : State).setN Obj.hold_state 1).setEff Obj.fly_recentre_mode 0 0 (.n 2)).setEff Obj.fly_dac_gain 0 0 (.n 1000)).setN Obj.fly_dac_code 32768).setN Obj.ref_active 8 |> fun s => { s with slots := Vector.replicate 24 { qualified := true } }

/-- The state of witness recNotDue. -/
def ws_recNotDue : State := {}

/-- The state of witness uartReply. -/
def ws_uartReply : State := { hold := { uartAt := some 0 } }

/-- The state of witness uartLate. -/
def ws_uartLate : State := { tc := { cyc := 10 ^ 9 }, hold := { uartAt := some 0 } }

/-- The state of witness settle. -/
def ws_settle : State := (({ tc := { cyc := 10 ^ 14, tickCyc := 10 ^ 14 }, scr := { settleStart := some 50, fell := true, g := 7, floors := [{ f := 9, start := 60 }, { f := 20, start := 3 }] } } : State).setN Obj.ref_active 8).setN Obj.ref_state 2 |>.setN Obj.scr_raw 1000

/-- The state of witness settleNot. -/
def ws_settleNot : State := {}

/-- The state of witness guardEnd. -/
def ws_guardEnd : State := ({ tc := { cyc := 10 ^ 14 }, scr := { paths := Vector.replicate 4 { guardFrom := some 0 } } } : State).setN Obj.scr_path_state 2 1

/-- The state of witness guardRuns. -/
def ws_guardRuns : State := {}

/-- The state of witness dAcqNot. -/
def ws_dAcqNot : State := ({} : State).setN Obj.dpll_state 2 1

/-- The state of witness dLock. -/
def ws_dLock : State := ({ tc := { cyc := 10 ^ 14 }, dplls := Vector.replicate 5 { inWin := some 0 } } : State).setN Obj.dpll_state 1 3

/-- The state of witness dLockNot. -/
def ws_dLockNot : State := { dplls := Vector.replicate 5 { retune := true } }

/-- The state of witness dTimeout. -/
def ws_dTimeout : State := ({ tc := { cyc := 10 ^ 14 } } : State).setN Obj.dpll_state 1 3

/-- The state of witness dUnlock. -/
def ws_dUnlock : State := ({ outs := Vector.replicate 13 { running := true, src := 0 }, dplls := Vector.replicate 5 { outRun := 4000000000, dco := 9 * 10 ^ 12 } } : State).setN Obj.dpll_state 2 1

/-- The state of witness dUnlockSlewRuns. -/
def ws_dUnlockSlewRuns : State := ({ outs := Vector.replicate 13 { running := true, src := 0 }, dplls := Vector.replicate 5 { outRun := 4000000000, dco := 9 * 10 ^ 12 }, tc := { cyc := 10 ^ 9 } } : State).setN Obj.dpll_state 4 1

/-- The state of witness dUnlockSlewQuiet. -/
def ws_dUnlockSlewQuiet : State := ({ dplls := Vector.replicate 5 { outRun := 4000000000, dco := 9 * 10 ^ 12 }, tc := { cyc := 10 ^ 9 } } : State).setN Obj.dpll_state 4 1

/-- The state of witness dUnlockNot. -/
def ws_dUnlockNot : State := ({ dplls := Vector.replicate 5 { outRun := 1 } } : State).setN Obj.dpll_state 2 1

/-- The state of witness dRefLoss. -/
def ws_dRefLoss : State := (({ outs := Vector.replicate 13 { running := true, src := 1 }, dplls := Vector.replicate 5 { tunes := [7, 9] } } : State).setN Obj.dpll_state 2 2).setEff Obj.dpll_ref 2 0 (.n 3)

/-- The state of witness dRefReturn. -/
def ws_dRefReturn : State := ({ wRun with dplls := Vector.replicate 5 { frozen := some (10 ^ 16 + 7) } } : State).setN Obj.dpll_state 3 2

/-- The state of witness dRefReturnRamp. -/
def ws_dRefReturnRamp : State := ({ wRun with dplls := Vector.replicate 5 { frozen := some (10 ^ 16 + 7), target := 9 * 10 ^ 12 }, outs := Vector.replicate 13 { running := true, src := 1 } } : State).setN Obj.dpll_state 3 2

/-- The state of witness dRefReturnTune. -/
def ws_dRefReturnTune : State := ({ wRun with dplls := Vector.replicate 5 { frozen := some (10 ^ 16 + 7), target := 9 * 10 ^ 12 } } : State).setN Obj.dpll_state 3 2

/-- The state of witness dSpare. -/
def ws_dSpare : State := { win := { dcoPend := true } }

/-- The state of witness dSpareHeld. -/
def ws_dSpareHeld : State := { win := { dcoPend := true, busy := true } }

/-- The state of witness dSpareNot. -/
def ws_dSpareNot : State := {}

/-- The state of witness dFreq. -/
def ws_dFreq : State := (({ outs := Vector.replicate 13 { running := true, src := 0 }, dplls := Vector.replicate 5 { target := 0 } } : State).setN Obj.dpll_state 2 1)

/-- The state of witness dFreqQuiet. -/
def ws_dFreqQuiet : State := (({ dplls := Vector.replicate 5 { target := 0 } } : State).setN Obj.dpll_state 2 1)

/-- The state of witness dHitless. -/
def ws_dHitless : State := ((({ outs := Vector.replicate 13 { running := true, src := 0 } } : State).setN Obj.dpll_state 2 1).setEff Obj.dpll_hitless 1 0 (.n 1)).setEff Obj.dpll_dco_freq 1 0 (.n 10000010000000)

/-- The state of witness dSlewDone. -/
def ws_dSlewDone : State := ({} : State).setN Obj.dpll_state 4 2

/-- The state of witness dSlewRuns. -/
def ws_dSlewRuns : State := { dplls := Vector.replicate 5 { dco := 5 } }

/-- The state of witness oGate. -/
def ws_oGate : State := { outs := Vector.replicate 13 { running := true, gating := true, high := true } }

/-- The state of witness oGateGf. -/
def ws_oGateGf : State := { outs := Vector.replicate 13 { running := true, gating := true, high := true } }

/-- The state of witness oGateTune. -/
def ws_oGateTune : State := { outs := vmod (Vector.replicate 13 {}) 4 (fun _ => { running := true, gating := true }), dplls := Vector.replicate 5 { retune := true, dco := 5 } }

/-- The state of witness oRel. -/
def ws_oRel : State := (wRun.setEff Obj.out_enable 4 0 (.n 1)).setN Obj.dpll_state 2 1

/-- The state of witness oRelGf. -/
def ws_oRelGf : State := ({ wRun with dev := { part := 1 } } : State).setN Obj.dpll_state 2 4

/-- The state of witness oRelNot. -/
def ws_oRelNot : State := {}

/-- The state of witness ppsStart. -/
def ws_ppsStart : State := (wRun.setEff Obj.pps_enable 2 0 (.n 1)).setN Obj.dpll_state 2 1

/-- The state of witness ppsNotYet. -/
def ws_ppsNotYet : State := {}

/-- The state of witness ppsEnd. -/
def ws_ppsEnd : State := { pps := Vector.replicate 4 { active := true } }

/-- The state of witness ppsLasts. -/
def ws_ppsLasts : State := { pps := Vector.replicate 4 { active := true, width := 10 } }

/-- The state of witness uartBin. -/
def ws_uartBin : State := (wRun.setEff Obj.uart_format 1 0 (.n 1)).setEff Obj.uart_delay 1 0 (.n 0)

/-- The state of witness uartZda. -/
def ws_uartZda : State := ((wRun.setEff Obj.uart_format 1 0 (.n 2)).setEff Obj.uart_delay 1 0 (.n 0)).setN Obj.tod_state 1

/-- The state of witness uartOff. -/
def ws_uartOff : State := {}

/-- The state of witness uartZdaUnset. -/
def ws_uartZdaUnset : State := ({} : State).setEff Obj.uart_format 0 0 (.n 2)

/-- The state of witness uartBad. -/
def ws_uartBad : State := ({} : State).setEff Obj.uart_rx_format 0 0 (.n 1)

/-- The state of witness uartGood. -/
def ws_uartGood : State := ({} : State).setEff Obj.uart_rx_format 0 0 (.n 1)

/-- The state of witness uartFar. -/
def ws_uartFar : State := ({} : State).setEff Obj.uart_rx_format 0 0 (.n 1)

/-- The state of witness uartRxOff. -/
def ws_uartRxOff : State := {}

/-- The state of witness ticCandidate. -/
def ws_ticCandidate : State := {}

/-- The state of witness ticSecond. -/
def ws_ticSecond : State := ({} : State).modChan 1 (fun x => { x with fresh := some (5, true) })

/-- The state of witness ticRecord. -/
def ws_ticRecord : State := ((({ tc := { running := true }, tic := { chans := Vector.replicate 17 { i0 := { state := 2 } } } } : State).setEff Obj.tic_mode 1 0 (.n 1)).setEff Obj.tic_gate 1 0 (.n 0)).modChan 1 (fun x => { x with fresh := some (5, true) })

/-- The state of witness ticOverrun. -/
def ws_ticOverrun : State := ((({ tc := { running := true }, tic := { chans := Vector.replicate 17 { i0 := { state := 2 } } } } : State).setEff Obj.tic_mode 1 0 (.n 1)).setEff Obj.tic_gate 1 0 (.n 0)).modChan 1 (fun x => { x with fresh := some (5, true), queue := List.replicate 1024 [] })

/-- The state of witness ticPrescale. -/
def ws_ticPrescale : State := ((({ tc := { running := true }, tic := { chans := Vector.replicate 17 { i0 := { state := 2 } } } } : State).setEff Obj.tic_mode 1 0 (.n 2)).setEff Obj.tic_prescale 1 0 (.n 10)).modChan 1 (fun x => { x with fresh := some (5, true) })

/-- The state of witness ticShut. -/
def ws_ticShut : State := ({ tc := { running := true } } : State).modChan 1 (fun x => { x with fresh := some (5, true) })

/-- The state of witness ticRefOff. -/
def ws_ticRefOff : State := ({ tic := { chans := Vector.replicate 17 { i0 := { state := 2 } } } } : State)

/-- The state of witness winOpen. -/
def ws_winOpen : State := ({} : State).setEff Obj.tic_gate 4 0 (.n 1)

/-- The state of witness winOpenNot. -/
def ws_winOpenNot : State := {}

/-- The state of witness winClose. -/
def ws_winClose : State := ({ tic := { gate0 := true, chans := Vector.replicate 17 { winOpen := true } } } : State).setEff Obj.tic_gate 4 0 (.n 1)

/-- The state of witness winCloseNot. -/
def ws_winCloseNot : State := { tic := { gate0 := true } }

/-- The state of witness freqRecord. -/
def ws_freqRecord : State := (({ tic := { gate0 := true, chans := Vector.replicate 17 { winOpen := true, freqFirst := some {}, freqLast := some { u := 2 ^ 60 }, freqN := 9 } } } : State).setEff Obj.tic_gate 4 0 (.n 1)).setEff Obj.tic_mode 4 0 (.n 2)

/-- The state of witness diffPair. -/
def ws_diffPair : State := (((((({ tc := { running := true, cyc := 2 ^ 50 }, tic := { chans := Vector.replicate 17 { i0 := { state := 2 } }, diffs := Vector.replicate 8 { winOpen := true, s := some { c := 2 ^ 50 - 9 } } } } : State).setEff Obj.tic_mode 1 0 (.n 3)).setEff Obj.tic_diff_enable 2 0 (.n 1)).setEff Obj.tic_diff_start 2 0 (.n 0)).setEff Obj.tic_diff_stop 2 0 (.n 1)).setEff Obj.tic_gate 1 0 (.n 0)).modChan 1 (fun x => { x with fresh := some (5, true) })

/-- The state of witness diffPairOvf. -/
def ws_diffPairOvf : State := (((((({ tc := { running := true, cyc := 2 ^ 50 }, tic := { chans := Vector.replicate 17 { i0 := { state := 2 } }, diffs := Vector.replicate 8 { winOpen := true, s := some { c := 0 } } } } : State).setEff Obj.tic_mode 1 0 (.n 3)).setEff Obj.tic_diff_enable 2 0 (.n 1)).setEff Obj.tic_diff_start 2 0 (.n 0)).setEff Obj.tic_diff_stop 2 0 (.n 1)).setEff Obj.tic_gate 1 0 (.n 0)).modChan 1 (fun x => { x with fresh := some (5, true) })

/-- The state of witness diffOvf. -/
def ws_diffOvf : State := { tc := { cyc := 2 ^ 48 }, tic := { diffs := Vector.replicate 8 { s := some {} } } }

/-- The state of witness diffOvfNot. -/
def ws_diffOvfNot : State := { tic := { diffs := Vector.replicate 8 { s := some {} } } }

/-- The state of witness tablePass. -/
def ws_tablePass : State := {}

/-- The state of witness tableFailFirst. -/
def ws_tableFailFirst : State := {}

/-- The state of witness tableFailSecond. -/
def ws_tableFailSecond : State := { tic := { chans := Vector.replicate 17 { i1 := { fails := 1 } } } }

/-- The state of witness tableSingle. -/
def ws_tableSingle : State := { tic := { chans := Vector.replicate 17 { i1 := { state := 2 }, i0 := { state := 3 }, quiet := 10 ^ 9 } } }

/-- The state of witness tableNotQuiet. -/
def ws_tableNotQuiet : State := { tic := { chans := Vector.replicate 17 { i1 := { state := 2 }, i0 := { state := 3 } } } }

/-- The state of witness tbLoss. -/
def ws_tbLoss : State := ({ tic := { tbSince := some 0 } } : State).setEff Obj.tic_timebase 0 0 (.n 1)

/-- The state of witness tbLossWaits. -/
def ws_tbLossWaits : State := ({ tic := { tbSince := some 0, waits := [{ tb := true }] } } : State).setEff Obj.tic_timebase 0 0 (.n 1)

/-- The state of witness tbReturn. -/
def ws_tbReturn : State := (({ tc := { cyc := 10 ^ 10 }, tic := { tbSince := some 0 } } : State).setEff Obj.tic_timebase 0 0 (.n 1)).setN Obj.tic_tb_state 2

/-- The state of witness gSnap. -/
def ws_gSnap : State := (wServe.modGnss fun g => { g with bands := Vector.replicate 2 { due := true } })

/-- The state of witness gSnapNot. -/
def ws_gSnapNot : State := {}

/-- The state of witness gDwell. -/
def ws_gDwell : State := ({ wServe with tc := { wServe.tc with cyc := 10 ^ 12 } }.modGnss fun g => { g with engines := vmod g.engines 3 fun _ => { chan := some 7, dwelling := true, blocks := 4, bins := 2 } })

/-- The state of witness gIdle. -/
def ws_gIdle : State := {}

/-- The state of witness pLock. -/
def ws_pLock : State := ({ wServe with tc := { cyc := 10 ^ 9 }, gnss := { chans := Vector.replicate 128 { lockSince := some 0 } } } : State).setN Obj.gnss_ch_state 2 9

/-- The state of witness pRetry. -/
def ws_pRetry : State := ({ wServe with tc := { cyc := 10 ^ 9 } } : State).setN Obj.gnss_ch_state 2 9

/-- The state of witness pGiveUp. -/
def ws_pGiveUp : State := ({ wServe with tc := { cyc := 10 ^ 9 }, gnss := { chans := Vector.replicate 128 { retried := true } } } : State).setN Obj.gnss_ch_state 2 9

/-- The state of witness cTimeout. -/
def ws_cTimeout : State := ({ wServe with tc := { cyc := 10 ^ 10 } } : State).setN Obj.gnss_ch_state 5 9

/-- The state of witness cStays. -/
def ws_cStays : State := {}

/-- The state of witness agcDown. -/
def ws_agcDown : State := ((wServe.modGband 1 fun y => { y with squares := (10 ^ 9, 10) }).setEff Obj.gnss_agc_mode 0 0 (.n 2)).setN Obj.gnss_agc_gain 9 1

/-- The state of witness agcUp. -/
def ws_agcUp : State := ((wServe.modGband 1 fun y => { y with squares := (0, 10) }).setEff Obj.gnss_agc_mode 0 0 (.n 2)).setN Obj.gnss_agc_gain 9 1

/-- The state of witness agcRead. -/
def ws_agcRead : State := (wServe.setEff Obj.gnss_agc_mode 0 0 (.n 1))

/-- The state of witness agcOff. -/
def ws_agcOff : State := (wServe.setEff Obj.gnss_agc_mode 0 0 (.n 0))

/-- The state of witness agcEarly. -/
def ws_agcEarly : State := { gnss := { bands := Vector.replicate 2 { agcAt := some 0 } } }

/-- The state of witness bFail. -/
def ws_bFail : State := ({ wServe with outs := Vector.replicate 13 { running := true }, gnss := { wServe.gnss with bands := Vector.replicate 2 { quiet := [80000] } } } : State).setN Obj.gnss_ch_state 4 9

/-- The state of witness bFailNot. -/
def ws_bFailNot : State := {}

/-- The state of witness bOk. -/
def ws_bOk : State := ({ tc := { cyc := 10 ^ 9 } } : State).setN Obj.gnss_band_state 1 1

/-- The state of witness bNotYet. -/
def ws_bNotYet : State := {}

/-- The state of witness dump. -/
def ws_dump : State := ({ wServe with gnss := { wServe.gnss with chans := Vector.replicate 128 { dumped := true, sumsGap := some 2000000 } } } : State).setN Obj.gnss_ch_state 3 5

/-- The state of witness dumpNot. -/
def ws_dumpNot : State := {}

/-- The state of witness jump. -/
def ws_jump : State := (wServe.modGnss fun g => { g with jumpBad := true }).setEff Obj.gnss_agc_mode 0 0 (.n 0)

/-- The state of witness indOnce. -/
def ws_indOnce : State := { gnss := { indSec := some 0 } }

/-- The state of witness spoofEnd. -/
def ws_spoofEnd : State := ({ tc := { cyc := 10 ^ 14 }, gnss := { spoofClear := some 0 } } : State).setN Obj.gnss_indicators 128

/-- The state of witness spoofOn. -/
def ws_spoofOn : State := {}

/-- The state of witness latch. -/
def ws_latch : State := wServe.setN Obj.gnss_ch_state 4 9

/-- The state of witness latchGated. -/
def ws_latchGated : State := { wServe with gnss := { started := true } }

/-- The state of witness latchNot. -/
def ws_latchNot : State := { tc := { tickNo := 3 } }

/-- The state of witness solve. -/
def ws_solve : State := ((wServe.setEff Obj.gnss_pos_mode 0 0 (.n 2)).setN Obj.gnss_ch_state 4 9).setN Obj.gnss_ch_elev 4500 9 |>.setN Obj.gnss_ch_cn0 4500 9 |>.modGch 9 (fun c => { c with latched := true }) |>.modGnss (fun g => { g with epochOk := true })

/-- The state of witness solveNone. -/
def ws_solveNone : State := wServe.modGnss fun g => { g with epochOk := true }

/-- The state of witness solveNot. -/
def ws_solveNot : State := { gnss := { solved := true } }

/-- The state of witness publish. -/
def ws_publish : State := (wServe.modGnss fun g => { g with pending := some { kind := 2, target := 1, used := 5 } })

/-- The state of witness publishNone. -/
def ws_publishNone : State := { wServe with tc := { running := true, tickNo := 3000 } }

/-- The state of witness publishOnce. -/
def ws_publishOnce : State := { gnss := { pubFor := some 1 } }

/-- The state of witness rawPps. -/
def ws_rawPps : State := { wServe with outs := Vector.replicate 13 { running := true }, gnss := { started := true, pulse := some 0 } }

/-- The state of witness rawPpsNone. -/
def ws_rawPpsNone : State := {}

/-- The state of witness survey. -/
def ws_survey : State := ({ wServe with tc := { cyc := 10 ^ 15, running := true }, gnss := { started := true, surveyAvg := [(5, 6, 7), (5, 6, 7)] } } : State).setN Obj.gnss_survey_state 1

/-- The state of witness surveyNot. -/
def ws_surveyNot : State := {}

/-- The state of witness store. -/
def ws_store : State := { wServe with tc := { cyc := 10 ^ 15, running := true } }

/-- The state of witness storeNot. -/
def ws_storeNot : State := {}

/-- The state of witness calDone. -/
def ws_calDone : State := (({} : State).setN Obj.stamp_cal_state 1 3)

/-- The state of witness calDoneC. -/
def ws_calDoneC : State := ({} : State).setN Obj.crem_cal_state 1 2

/-- The state of witness calBad. -/
def ws_calBad : State := (({} : State).setN Obj.stamp_cal_state 1 3)

/-- The state of witness calNot. -/
def ws_calNot : State := {}

/-- The state of witness calTimeout. -/
def ws_calTimeout : State := ({ tc := { cyc := 10 ^ 9 } } : State).setN Obj.crem_cal_state 1 2

/-- The state of witness calTimeoutN. -/
def ws_calTimeoutN : State := ({ tc := { cyc := 10 ^ 9 } } : State).setN Obj.stamp_cal_state 1 2

/-- The state of witness calWait. -/
def ws_calWait : State := {}

/-- The state of witness rxDown. -/
def ws_rxDown : State := {}

/-- The state of witness rxPool. -/
def ws_rxPool : State := ({ net := { sharedUsed := 100000, ports := Vector.replicate 9 { rxReserve := 10 ^ 6 } } } : State).setN Obj.mac_link 1 2

/-- The state of witness rxCode. -/
def ws_rxCode : State := (({} : State).setN Obj.mac_link 1 2)

/-- The state of witness rxRunt. -/
def ws_rxRunt : State := (({} : State).setN Obj.mac_link 1 2)

/-- The state of witness rxFilter. -/
def ws_rxFilter : State := (({} : State).setN Obj.mac_link 1 2)

/-- The state of witness rxNtp. -/
def ws_rxNtp : State := ((({ boot := { serving := true } } : State).setN Obj.mac_link 1 2).setEff Obj.mac_served 2 0 (.o ([4, 1, 0xFF, 0xFF, 0xFF, 0xFF, 0, 0, 10, 0, 0, 1] ++ zeros 12))).setEff Obj.mac_address 2 0 (.o [2, 0, 0, 0, 0, 1])

/-- The state of witness arp. -/
def ws_arp : State := ({ net := { waiting := [{ kind := .arp, port := 3, bytes := [] }] } } : State).setEff Obj.mac_ctl_queue 3 0 (.n 7)

/-- The state of witness nd. -/
def ws_nd : State := ({ net := { waiting := [{ kind := .nd, port := 3, bytes := [] }] } } : State).setEff Obj.mac_ctl_queue 3 0 (.n 7)

/-- The state of witness echo. -/
def ws_echo : State := ({ net := { waiting := [{ kind := .echo, port := 3, bytes := (zeros 12 ++ [8, 0] ++ ipHeader 4 0 28 1 64 [10, 0, 0, 9] [10, 0, 0, 1] ++ [8, 0, 0, 0, 1, 2, 3, 4] ++ zeros 20) }] } } : State).setEff Obj.mac_ctl_queue 3 0 (.n 7)

/-- The state of witness echoLimit. -/
def ws_echoLimit : State := { net := { waiting := [{ kind := .echo, port := 3 }], ports := Vector.replicate 9 { icmp := 10 ^ 9 } } }

/-- The state of witness arpNone. -/
def ws_arpNone : State := {}

/-- The state of witness ndNone. -/
def ws_ndNone : State := {}

/-- The state of witness echoNone. -/
def ws_echoNone : State := {}

/-- The state of witness pauseOff. -/
def ws_pauseOff : State := ({ net := { waiting := [{ kind := .pause, port := 3, bytes := List.replicate 16 0 ++ [1, 0] }] } } : State).setEff Obj.mac_pause_mode 3 0 (.n 0)

/-- The state of witness pauseOn. -/
def ws_pauseOn : State := ({ net := { waiting := [{ kind := .pause, port := 3, bytes := List.replicate 16 0 ++ [1, 0] }] } } : State).setEff Obj.mac_pause_mode 3 0 (.n 1)

/-- The state of witness pauseNone. -/
def ws_pauseNone : State := {}

/-- The state of witness holdEnds. -/
def ws_holdEnds : State := { tc := { cyc := 10 ^ 6 }, net := { ports := Vector.replicate 9 { pauseFrom := some 1, pauseEnd := 90001 } } }

/-- The state of witness holdOn. -/
def ws_holdOn : State := {}

/-- The state of witness linkUp. -/
def ws_linkUp : State := ({ boot := { reached := 12 } } : State).setEff Obj.mac_mode 2 0 (.n 1)

/-- The state of witness linkEarly. -/
def ws_linkEarly : State := ({} : State).setEff Obj.mac_up_delay 2 0 (.n 100)

/-- The state of witness linkSpeed. -/
def ws_linkSpeed : State := (({ boot := { reached := 12 } } : State).setEff Obj.mac_mode 2 0 (.n 5)).setEff Obj.mac_an 2 0 (.n 1)

/-- The state of witness linkNeg. -/
def ws_linkNeg : State := (({ boot := { reached := 12 } } : State).setEff Obj.mac_mode 2 0 (.n 4)).setEff Obj.mac_an 2 0 (.n 1)

/-- The state of witness linkDown. -/
def ws_linkDown : State := (({} : State).setN Obj.mac_link 1 2).setEff Obj.mac_mode 2 0 (.n 1)

/-- The state of witness linkStays. -/
def ws_linkStays : State := {}

/-- The state of witness sendBad. -/
def ws_sendBad : State := { net := { waiting := [{ kind := .send, port := 8 }] } }

/-- The state of witness sendGood. -/
def ws_sendGood : State := ({ net := { waiting := [{ kind := .send, port := 8, bytes := zeros 14 ++ [1, 2, 3, 5, 0, 60, 0, 7, 1, 0, 0, 0, 0xFF, 0xFF] ++ zeros 10 ++ zeros 60 }] } } : State).setN Obj.mac_link 1 3

/-- The state of witness sendDown. -/
def ws_sendDown : State := { net := { waiting := [{ kind := .send, port := 8, bytes := zeros 14 ++ [1, 2, 3, 5, 0, 60, 0, 7, 1, 0, 0, 0, 0xFF, 0xFF] ++ zeros 10 ++ zeros 60 }] } }

/-- The state of witness sendNoRoom. -/
def ws_sendNoRoom : State := (({ net := { waiting := [{ kind := .send, port := 8, bytes := zeros 14 ++ [1, 2, 3, 5, 0, 60, 0, 7, 1, 0, 0, 0, 0xFF, 0xFF] ++ zeros 10 ++ zeros 60 }] } } : State).setN Obj.mac_link 1 3).setEff Obj.queue_cells 3 5 (.n 0)

/-- The state of witness sendNone. -/
def ws_sendNone : State := {}

/-- The state of witness lcCommit. -/
def ws_lcCommit : State := ({ net := { ports := Vector.replicate 9 { cal := [{ reserved := true }] } } } : State).setN Obj.mac_link 1 3

/-- The state of witness lcLate. -/
def ws_lcLate : State := ({ net := { ports := Vector.replicate 9 { cal := [{ reserved := true, ready := false }] } } } : State).setN Obj.mac_link 1 3

/-- The state of witness lcStepped. -/
def ws_lcStepped : State := ({ net := { ports := Vector.replicate 9 { cal := [{ reserved := true, frame := { steps := 4 } }] } } } : State).setN Obj.mac_link 1 3

/-- The state of witness lcNone. -/
def ws_lcNone : State := {}

/-- The state of witness upStrict. -/
def ws_upStrict : State := ((({ net := { ports := Vector.replicate 9 { queues := Vector.replicate 8 { fifo := [{}], used := 1 } } } } : State).setN Obj.mac_link 1 3).setEff Obj.sched_privileged 3 0 (.n 1)).setEff Obj.mac_mode 3 0 (.n 1)

/-- The state of witness upDrr. -/
def ws_upDrr : State := (({} : State).modQueue 3 2 fun q => { q with fifo := [{}], used := 1 }).setN Obj.mac_link 1 3

/-- The state of witness upDown. -/
def ws_upDown : State := {}

/-- The state of witness ucCommit. -/
def ws_ucCommit : State := ({ net := { ports := Vector.replicate 9 { cal := [{ frame := { note := .answer } }] } } } : State).setN Obj.mac_link 1 3

/-- The state of witness ucStepped. -/
def ws_ucStepped : State := ({ net := { ports := Vector.replicate 9 { cal := [{ frame := { note := .ntp 2, steps := 4 } }] } } } : State).setN Obj.mac_link 1 3

/-- The state of witness ucTooOld. -/
def ws_ucTooOld : State := ({ tc := { boundaries := 5 }, net := { ports := Vector.replicate 9 { cal := [{ frame := { note := .general 0 1, born := some (0, 0) } }] } } } : State).setN Obj.mac_link 1 3

/-- The state of witness ucNone. -/
def ws_ucNone : State := {}

/-- The state of witness depart. -/
def ws_depart : State := { net := { ports := Vector.replicate 9 { fifoStamp := [{}], cal := [{ committed := true, frame := { stampReq := true } }] } } }

/-- The state of witness departNone. -/
def ws_departNone : State := {}

/-- The state of witness popDone. -/
def ws_popDone : State := { net := { ports := Vector.replicate 9 { fifoStamp := [{ done := true }, { seq := 1 }] } } }

/-- The state of witness popEmpty. -/
def ws_popEmpty : State := {}

/-- The state of witness retire. -/
def ws_retire : State := { tc := { boundaries := 10 ^ 7 }, net := { ports := Vector.replicate 9 { fifoStamp := [{ done := true }, { seq := 1 }] } } }

/-- The state of witness push. -/
def ws_push : State := ((({ net := { ports := Vector.replicate 9 { fifoStamp := [{ done := true }, { seq := 1 }] } } } : State).setN Obj.mac_link 1 8).setEff Obj.stamp_delivery 0 0 (.n 1)).setEff Obj.hp_host_mac 0 0 (.o (zeros 6))

/-- The state of witness pushOff. -/
def ws_pushOff : State := {}

/-- The state of witness ntpLegacy. -/
def ws_ntpLegacy : State := wWait .ntp (wUdp 123 ([0x26] ++ zeros 7))

/-- The state of witness ntpVersion. -/
def ws_ntpVersion : State := wWait .ntp (wUdp 123 ([0x0B] ++ zeros 47))

/-- The state of witness ntpMode. -/
def ws_ntpMode : State := wWait .ntp (wUdp 123 ([0x24] ++ zeros 47))

/-- The state of witness ntpMalformed. -/
def ws_ntpMalformed : State := wWait .ntp (wUdp 123 ([0x23] ++ zeros 40))

/-- The state of witness ntpPlain. -/
def ws_ntpPlain : State := (wWait .ntp (wUdp 123 wNtp)).setEff Obj.pol_enable 0 0 (.n 0)

/-- The state of witness ntpNone. -/
def ws_ntpNone : State := {}

/-- The state of witness ntsOff. -/
def ws_ntsOff : State := wNtsState.setEff Obj.nts_enable 0 0 (.n 0)

/-- The state of witness ntsBad. -/
def ws_ntsBad : State := (wWait .ntp (wUdp 123 (wNtp ++ [1, 4, 0, 36] ++ zeros 32))).setEff Obj.nts_enable 0 0 (.n 1)

/-- The state of witness jobDone. -/
def ws_jobDone : State := { wNtsState with net := { wNtsState.net with flail := { jobs := [{ id := 5, port := 2, work := .nts 1 0, key := zeros 32, mint := zeros 32, mintId := 7, mintSlot := 3, slot := 3, req := wRx .ntp (wUdp 123 wNts) }] }, ports := Vector.replicate 9 { cal := [{ reserved := true, ready := false, frame := { id := 5 } }] } } }

/-- The state of witness jobNone. -/
def ws_jobNone : State := {}

/-- The state of witness ntsNone. -/
def ws_ntsNone : State := {}

/-- The state of witness smStart. -/
def ws_smStart : State := (({ tc := { tickSec := 56800 } } : State).setEff Obj.tod_leap_pending 0 0 (.n 1)).setEff Obj.tod_leap_time 0 0 (.n (100000 * 2 ^ 64)) |>.setEff Obj.ntp_timescale 2 0 (.n 1) |>.setEff Obj.ntp_smear_window 2 0 (.n 86400)

/-- The state of witness smNoLeap. -/
def ws_smNoLeap : State := {}

/-- The state of witness smUnwind. -/
def ws_smUnwind : State := { net := { smears := Vector.replicate 4 { held := true, leap := 5, w := 1 } } }

/-- The state of witness smNoUnwind. -/
def ws_smNoUnwind : State := {}

/-- The state of witness smEnd. -/
def ws_smEnd : State := { net := { smears := Vector.replicate 4 { held := true } } }

/-- The state of witness smNoEnd. -/
def ws_smNoEnd : State := {}

/-- The state of witness polSweep. -/
def ws_polSweep : State := {}

/-- The state of witness drainLink. -/
def ws_drainLink : State := { tc := { boundaries := 9 }, net := { drains := [(9, 2, 7)] }, crem := { links := Vector.replicate 4 { queue := [{}] } } }

/-- The state of witness drainLinkRuns. -/
def ws_drainLinkRuns : State := ({ tc := { boundaries := 9 }, net := { drains := [(9, 2, 7)] }, crem := { started := true } } : State).setEff Obj.crem_enable 0 0 (.n 1) |>.setEff Obj.crem_link_role 2 0 (.n 1)

/-- The state of witness drainNone. -/
def ws_drainNone : State := { net := { drains := [(9, 2, 7)] } }

/-- The state of witness annSend. -/
def ws_annSend : State := wMaster [] |>.setEff Obj.ptp_log_announce 1 0 (.n 0)

/-- The state of witness annNot. -/
def ws_annNot : State := {}

/-- The state of witness synRel. -/
def ws_synRel : State := ((wMaster []).setEff Obj.ptp_step_mode 1 0 (.n 0))

/-- The state of witness synNot. -/
def ws_synNot : State := {}

/-- The state of witness fup. -/
def ws_fup : State := ((wMaster []).modPtp 1 fun x => { x with fups := [{ port := 2, type := mFollowUp, bytes := zeros 60 }] })

/-- The state of witness fupDown. -/
def ws_fupDown : State := ((wMaster []).modPtp 1 fun x => { x with fups := [{ port := 2, type := mFollowUp, bytes := zeros 60 }] }).setN Obj.mac_link 0 2

/-- The state of witness fupNone. -/
def ws_fupNone : State := {}

/-- The state of witness pfup. -/
def ws_pfup : State := ((wMaster []).modPtp 1 fun x => { x with fups := [{ port := 2, type := mPdelayFup, bytes := zeros 60 }] })

/-- The state of witness pfupDown. -/
def ws_pfupDown : State := ((wMaster []).modPtp 1 fun x => { x with fups := [{ port := 2, type := mPdelayFup, bytes := zeros 60 }] }).setN Obj.mac_link 0 2

/-- The state of witness pfupNone. -/
def ws_pfupNone : State := {}

/-- The state of witness dreq. -/
def ws_dreq : State := (wMaster [(wPtpRx (wPtpFrame 1 0 77 (zeros 10)))])

/-- The state of witness pdreq. -/
def ws_pdreq : State := (wMaster [(wPtpRx (wPtpFrame 2 0 78 (zeros 20)))])

/-- The state of witness dreqNone. -/
def ws_dreqNone : State := {}

/-- The state of witness pdreqNone. -/
def ws_pdreqNone : State := {}

/-- The state of witness annRxM. -/
def ws_annRxM : State := wMaster [(wPtpRx (wPtpFrame 11 0 5 (zeros 30)))]

/-- The state of witness annRxS. -/
def ws_annRxS : State := ((wSlave [(wPtpRx (wPtpFrame 11 0 5 (zeros 30)))]).modPtp 1 fun x => { x with parent := none })

/-- The state of witness annRxWait. -/
def ws_annRxWait : State := { wSlave [(wPtpRx (wPtpFrame 11 0 5 (zeros 30)))] with stew := {} }

/-- The state of witness annRxNone. -/
def ws_annRxNone : State := {}

/-- The state of witness annCommit. -/
def ws_annCommit : State := ((wSlave []).modPtp 1 fun x => { x with parent := none })

/-- The state of witness syncRx. -/
def ws_syncRx : State := wSlave [(wPtpRx (wPtpFrame 0 2 6 (zeros 10)))]

/-- The state of witness fupRx. -/
def ws_fupRx : State := ((wSlave [(wPtpRx (wPtpFrame 8 0 6 (zeros 10)))]).modPtp 1 fun x => { x with complete := 20, dLast := some 3, syncs := [{ seq := 6 }] })

/-- The state of witness calCommit. -/
def ws_calCommit : State := ((wSlave []).modPtp 1 fun x => { x with complete := 200 })

/-- The state of witness dreqTx. -/
def ws_dreqTx : State := wSlave []

/-- The state of witness syncNone. -/
def ws_syncNone : State := {}

/-- The state of witness fupRxNone. -/
def ws_fupRxNone : State := {}

/-- The state of witness drespNone. -/
def ws_drespNone : State := {}

/-- The state of witness dreqTxNot. -/
def ws_dreqTxNot : State := {}

/-- The state of witness dresp. -/
def ws_dresp : State := (((wSlave [(wPtpRx (wPtpFrame 9 0 4 (zeros 10 ++ zeros 8 ++ [0, 3])))]).modPtp 1 fun x => { x with fwd := some (8, 0), exch := [{ seq := 4, tx := some 2 }] }).setEff Obj.ptp_clock_identity 1 0 (.o (zeros 8)))

/-- The state of witness annTimeout. -/
def ws_annTimeout : State := ((wSlave []).modPtp 1 fun x => { x with foreign := [{ port := List.replicate 10 0xAA }] }) |> fun s => { s with tc := { s.tc with cyc := 10 ^ 15 } }

/-- The state of witness silCommit. -/
def ws_silCommit : State := wSlave []

/-- The state of witness annNoParent. -/
def ws_annNoParent : State := {}

/-- The state of witness pdTx. -/
def ws_pdTx : State := (((wMaster []).setEff Obj.ptp_profile 1 0 (.n 3)).setEff Obj.ptp_domain 1 0 (.n 0))

/-- The state of witness pdTxNot. -/
def ws_pdTxNot : State := {}

/-- The state of witness pdRx. -/
def ws_pdRx : State := (((wMaster [(wPtpRx (wPtpFrame 10 0 4 (zeros 10 ++ zeros 8 ++ [0, 3])))]).modPtp 1 fun x => { x with pExch := Vector.replicate 8 [{ seq := 4, tx := some 2, resp := some (5, 9, 0, 0) }] }).setEff Obj.ptp_clock_identity 1 0 (.o (zeros 8)))

/-- The state of witness reqDeny. -/
def ws_reqDeny : State := wMaster [(wPtpRx (wPtpFrame 12 4 3 (zeros 10 ++ [0, 4, 0, 6, 0x00, 0, 0, 0, 0, 60])))]

/-- The state of witness reqGrant. -/
def ws_reqGrant : State := ((wMaster [(wPtpRx (wPtpFrame 12 4 3 (zeros 10 ++ [0, 4, 0, 6, 0x00, 0, 0, 0, 0, 60])))]).setEff Obj.ptp_mode 1 0 (.n 2))

/-- The state of witness reqWait. -/
def ws_reqWait : State := { wMaster [(wPtpRx (wPtpFrame 12 4 3 (zeros 10 ++ [0, 4, 0, 6, 0x00, 0, 0, 0, 0, 60])))] with stew := {} }

/-- The state of witness reqNone. -/
def ws_reqNone : State := {}

/-- The state of witness cancel. -/
def ws_cancel : State := (({ ((wMaster [(wPtpRx (wPtpFrame 12 4 3 (zeros 10 ++ [0, 6, 0, 2, 0x00, 0])))]).setEff Obj.ptp_mode 1 0 (.n 2)) with net := { (((wMaster [(wPtpRx (wPtpFrame 12 4 3 (zeros 10 ++ [0, 6, 0, 2, 0x00, 0])))]).setEff Obj.ptp_mode 1 0 (.n 2))).net with sessions := [{ num := 0, inst := 1, port := 2, family := 4, addr := zeros 6, ident := List.replicate 10 0xAA, mac := zeros 6 }] } } : State))

/-- The state of witness cancelWait. -/
def ws_cancelWait : State := { wMaster [(wPtpRx (wPtpFrame 12 4 3 (zeros 10 ++ [0, 6, 0, 2, 0x00, 0])))] with stew := {} }

/-- The state of witness cancelNone. -/
def ws_cancelNone : State := {}

/-- The state of witness expire. -/
def ws_expire : State := { wServe with net := { sessions := [{ num := 3 }] } }

/-- The state of witness expireHalt. -/
def ws_expireHalt : State := {}

/-- The state of witness expireNot. -/
def ws_expireNot : State := { net := { sessions := [{ ann := { log := 0, tend := 9 }, sync := { tend := 9 }, resp := { tend := 9 } }] } }

/-- The state of witness release. -/
def ws_release : State := ({ wMaster [] with net := { (wMaster []).net with sessions := [{ num := 0, inst := 1, port := 2, family := 4, addr := zeros 6, ident := List.replicate 10 0xAA, mac := zeros 6, ann := { log := 0, tend := 9 } }] } } : State)

/-- The state of witness releaseNone. -/
def ws_releaseNone : State := {}

/-- The state of witness selectNot. -/
def ws_selectNot : State := {}

/-- The state of witness grant. -/
def ws_grant : State := (((wSlave [(wPtpRx (wUdp 320 ((wPtpFrame 12 4 3 (zeros 10 ++ [0, 5, 0, 8, 0x00, 0, 0, 0, 0, 60, 0, 1])).drop 14)))]).setEff Obj.ptp_transport 1 0 (.n 1)).setEff Obj.ptp_uc_master 1 3 (.o ([4, 10, 0, 0, 9] ++ zeros 12)))

/-- The state of witness grantNone. -/
def ws_grantNone : State := {}

/-- The state of witness renew. -/
def ws_renew : State := ({ (((wSlave []).setEff Obj.ptp_uc_master 1 3 (.o ([4, 10, 0, 0, 9] ++ zeros 12))).modPtp 1 fun x => { x with foreign := [{ addr := [10, 0, 0, 9], mac := zeros 6 }], grants := [{ dur := 1, msg := 11, master := 3 }] }) with tc := { wServe.tc with cyc := 4 * 10 ^ 8, voted := secU } } : State)

/-- The state of witness renewGone. -/
def ws_renewGone : State := { wServe with tc := { wServe.tc with cyc := 10 ^ 9 }, net := { ptp := Vector.replicate 4 { grants := [{ dur := 1 }] } } }

/-- The state of witness renewHalt. -/
def ws_renewHalt : State := {}

/-- The state of witness renewNone. -/
def ws_renewNone : State := {}

/-- The state of witness cremUp. -/
def ws_cremUp : State := { crem := { started := true } }

/-- The state of witness cremUpNot. -/
def ws_cremUpNot : State := { crem := { started := true } }

/-- The state of witness cremDown. -/
def ws_cremDown : State := wTree false

/-- The state of witness cremLost. -/
def ws_cremLost : State := wTree false

/-- The state of witness cremDownNot. -/
def ws_cremDownNot : State := {}

/-- The state of witness cremTime. -/
def ws_cremTime : State := wTree false

/-- The state of witness cremTimeNot. -/
def ws_cremTimeNot : State := { crem := { links := Vector.replicate 4 { up := true, sentTick := true } } }

/-- The state of witness timeDown. -/
def ws_timeDown : State := wTree true

/-- The state of witness timeUp. -/
def ws_timeUp : State := ({ wTree false with crem := { (wTree false).crem with links := vmod (wTree false).crem.links 0 fun x => { x with dks := [7] } } } : State)

/-- The state of witness timeCopy. -/
def ws_timeCopy : State := ({ wTree true with crem := { (wTree true).crem with links := vmod (wTree true).crem.links 2 fun x => { x with lastSeq := some 5 } } } : State)

/-- The state of witness timeBad. -/
def ws_timeBad : State := wTree true

/-- The state of witness timeRefused. -/
def ws_timeRefused : State := wTree true

/-- The state of witness timeNot. -/
def ws_timeNot : State := {}

/-- The state of witness badBlock. -/
def ws_badBlock : State := wTree true

/-- The state of witness goodBlock. -/
def ws_goodBlock : State := wTree true

/-- The state of witness nodeLost. -/
def ws_nodeLost : State := { dev := { manager := true }, crem := { nodes := Vector.replicate 49 { held := true, silent := 16 } } }

/-- The state of witness nodeLostNot. -/
def ws_nodeLostNot : State := { crem := { nodes := Vector.replicate 49 { lost := true } } }

/-- The state of witness join. -/
def ws_join : State := wTree false

/-- The state of witness joinFull. -/
def ws_joinFull : State := ({ wTree false with crem := { (wTree false).crem with links := vmod (wTree false).crem.links 0 fun x => { x with queue := [{ data := zeros 65500 }] } } } : State)

/-- The state of witness joinNot. -/
def ws_joinNot : State := wTree true

/-- The state of witness joinFwd. -/
def ws_joinFwd : State := wTree false

/-- The state of witness joinGive. -/
def ws_joinGive : State := wTree true

/-- The state of witness joinRefuse. -/
def ws_joinRefuse : State := wTree true

/-- The state of witness joinBad. -/
def ws_joinBad : State := wTree true

/-- The state of witness joinRxNot. -/
def ws_joinRxNot : State := wTree true

/-- The state of witness assignTake. -/
def ws_assignTake : State := ({ wTree false with crem := { (wTree false).crem with node := 255 } } : State)

/-- The state of witness assignRefused. -/
def ws_assignRefused : State := ((wTree false).setN Obj.crem_addr_source 1)

/-- The state of witness assignOther. -/
def ws_assignOther : State := wTree false

/-- The state of witness assignStray. -/
def ws_assignStray : State := wTree false

/-- The state of witness assignFwd. -/
def ws_assignFwd : State := wTree false

/-- The state of witness assignNoWay. -/
def ws_assignNoWay : State := wTree false

/-- The state of witness assignBad. -/
def ws_assignBad : State := wTree true

/-- The state of witness assignNot. -/
def ws_assignNot : State := wTree true

/-- The state of witness holdEnd. -/
def ws_holdEnd : State := ({ wTree true with crem := { nodes := Vector.replicate 49 { held := true } } } : State)

/-- The state of witness releaseNot. -/
def ws_releaseNot : State := {}

/-- The state of witness tunFwd. -/
def ws_tunFwd : State := wTree false

/-- The state of witness tunDrop. -/
def ws_tunDrop : State := wTree true

/-- The state of witness tunBad. -/
def ws_tunBad : State := wTree true

/-- The state of witness tunFirst. -/
def ws_tunFirst : State := wTree true

/-- The state of witness tunMiddle. -/
def ws_tunMiddle : State := ({ wTree true with crem := { (wTree true).crem with parts := [(3, 7, [8])] } } : State)

/-- The state of witness tunMissing. -/
def ws_tunMissing : State := wTree true

/-- The state of witness tunWhole. -/
def ws_tunWhole : State := wTree true

/-- The state of witness tunAll. -/
def ws_tunAll : State := ({ wTree false with crem := { (wTree false).crem with links := Vector.replicate 4 { up := true } } } : State)

/-- The state of witness tunNot. -/
def ws_tunNot : State := {}

/-- The state of witness tunSend. -/
def ws_tunSend : State := { crem := { links := Vector.replicate 4 { up := true, sentTick := true, queue := [{ type := 2, data := zeros 4 }] } } }

/-- The state of witness tunOrder. -/
def ws_tunOrder : State := { crem := { links := Vector.replicate 4 { up := true, sentTick := true, queue := [{ type := 2, data := zeros 4 }, { type := 5, data := zeros 28 }] } } }

/-- The state of witness tunSendNot. -/
def ws_tunSendNot : State := {}

/-- The state of witness summ. -/
def ws_summ : State := wTree false

/-- The state of witness summAlone. -/
def ws_summAlone : State := ({ wTree false with crem := { started := true } } : State)

/-- The state of witness summNot. -/
def ws_summNot : State := wTree true

/-- The state of witness summStore. -/
def ws_summStore : State := wTree true

/-- The state of witness summFwd. -/
def ws_summFwd : State := wTree false

/-- The state of witness summBad. -/
def ws_summBad : State := wTree true

/-- The state of witness summRxNot. -/
def ws_summRxNot : State := wTree true

/-- The state of witness read. -/
def ws_read : State := wAgent [wMsg 1 1 ([1, 0x12, 0x05, 0])]

/-- The state of witness status. -/
def ws_status : State := ({ wAgent [wMsg 4 1 [0, 0, 0, 9]] with gran := { inbox := [wMsg 4 1 [0, 0, 0, 9]], handles := [(9, {})] } } : State)

/-- The state of witness statusNone. -/
def ws_statusNone : State := wAgent [wMsg 4 1 ([0, 0, 0, 9])]

/-- The state of witness subscribe. -/
def ws_subscribe : State := wAgent [wMsg 5 2 ([0, 3, 0, 1, 0, 60, 1, 0x20, 0x05, 0])]

/-- The state of witness authFail. -/
def ws_authFail : State := wAgent [{ wMsg 1 1 [0] with back := { via := 1, port := 2 } }]

/-- The state of witness malformed. -/
def ws_malformed : State := wAgent [{ bytes := [2, 5] }]

/-- The state of witness noMsg. -/
def ws_noMsg : State := {}

/-- The state of witness agentDown. -/
def ws_agentDown : State := {}

/-- The state of witness forward. -/
def ws_forward : State := (({ wAgent [{ bytes := (wMsg 1 1 [0]).bytes.set 6 5 }] with crem := (wTree true).crem } : State).setN Obj.crem_roster 32 2)

/-- The state of witness notify. -/
def ws_notify : State := { gran := { subs := [{ owner := 64, dueAt := 3, entries := [(0x1205, 0)] }] } }

/-- The state of witness notifyNone. -/
def ws_notifyNone : State := {}

/-- The state of witness subExpire. -/
def ws_subExpire : State := { tc := { cyc := 10 ^ 10 }, gran := { subs := [{}, { life := 3000 }] } }

/-- The state of witness retExpire. -/
def ws_retExpire : State := { tc := { cyc := 2 * 10 ^ 12 }, gran := { returns := [{}, { used := 10 ^ 12 }] } }

/-- The state of witness sendBusy. -/
def ws_sendBusy : State := { wServe with gran := { spiResp := some [3] } }

/-- The state of witness sendFull. -/
def ws_sendFull : State := { wServe with gran := { inbox := List.replicate 64 {} } }

/-- The state of witness spiStatus. -/
def ws_spiStatus : State := { wServe with gran := { spiResp := some [3] } }

/-- The state of witness fetch. -/
def ws_fetch : State := { wServe with gran := { spiResp := some [3] } }

/-- The state of witness fetchNotify. -/
def ws_fetchNotify : State := { wServe with gran := { spiNotify := [[3], [4]] } }

/-- The state of witness spiOff. -/
def ws_spiOff : State := {}

/-- The state of witness readClear. -/
def ws_readClear : State := (wServe.setN Obj.gran_refused 7)

/-- The state of witness write. -/
def ws_write : State := wAgent [wMsg 2 2 ([0x20, 0x20, 0, 0, 0, 8] ++ intBytes 8 5)]

/-- The state of witness writeRefuse. -/
def ws_writeRefuse : State := wAgent [wMsg 2 1 ([0x20, 0x20, 0, 0, 0, 8] ++ intBytes 8 5)]

/-- The state of witness bundle. -/
def ws_bundle : State := wAgent [wMsg 3 2 ([1] ++ [0x20, 0x20, 0, 0, 0, 8] ++ intBytes 8 5)]

/-- The state of witness closed. -/
def ws_closed : State := ({ wAgent [wMsg 3 2 ([1] ++ [0x20, 0x20, 0, 0, 0, 8] ++ intBytes 8 5)] with tc := { wServe.tc with nextGrid := 0 } } : State)

/-- The state of witness storeOp. -/
def ws_storeOp : State := wAgent [wMsg 7 2 ([])]

/-- The state of witness storeJoins. -/
def ws_storeJoins : State := ({ wAgent [wMsg 7 2 []] with gran := { inbox := [wMsg 7 2 []], storeNext := some { handle := 4 } } } : State)

/-- The state of witness storeLow. -/
def ws_storeLow : State := wAgent [wMsg 7 1 ([])]

/-- The state of witness restore. -/
def ws_restore : State := wAgent [wMsg 8 3 ([])]

/-- The state of witness storeDone. -/
def ws_storeDone : State := { gran := { store := some { captured := true, handle := 4 }, handles := [(4, {})] } }

/-- The state of witness storeFail. -/
def ws_storeFail : State := { gran := { store := some { captured := true, handle := 4 }, handles := [(4, {})] } }

/-- The state of witness storeNone. -/
def ws_storeNone : State := {}

/-- The state of witness raiseEvent. -/
def ws_raiseEvent : State := { boot := { inReset := false } }

/-- The state of witness raiseCond. -/
def ws_raiseCond : State := { boot := { inReset := false } }

/-- The state of witness raisePair. -/
def ws_raisePair : State := { boot := { inReset := false } }

/-- The state of witness raiseHeld. -/
def ws_raiseHeld : State := ({ boot := { inReset := false }, win := { busy := true } } : State).setEff Obj.win_src_override 7 0 (.n 8)

/-- The state of witness raiseLost. -/
def ws_raiseLost : State := ({ boot := { inReset := false }, win := { busy := true } } : State).setEff Obj.win_src_override 7 0 (.n 1)

/-- The state of witness raiseCe. -/
def ws_raiseCe : State := ({ boot := { inReset := false } } : State).setEff Obj.win_ce_threshold 0 0 (.n 9)

/-- The state of witness raiseCeHit. -/
def ws_raiseCeHit : State := ({ boot := { inReset := false } } : State).setEff Obj.win_ce_threshold 0 0 (.n 1)

/-- The state of witness raiseBankGone. -/
def ws_raiseBankGone : State := { boot := { inReset := false }, win := { bankLost := [3] } }

/-- The state of witness raiseInstall. -/
def ws_raiseInstall : State := ({ boot := { inReset := false } } : State).setN Obj.install_state 1

/-- The state of witness raiseFenced. -/
def ws_raiseFenced : State := { stew := { pairs := Vector.replicate 3 { fenced := true } } }

/-- The state of witness raiseReset. -/
def ws_raiseReset : State := { boot := { inReset := true } }

/-- The state of witness present. -/
def ws_present : State := ({ boot := { inReset := false }, win := { now := [(7, {})] } } : State).setEff Obj.win_src_override 7 0 (.n 1)

/-- The state of witness presentMore. -/
def ws_presentMore : State := ({ boot := { inReset := false }, win := { now := [(7, {})], first := some [1] } } : State).setEff Obj.win_src_override 7 0 (.n 0)

/-- The state of witness presentFence. -/
def ws_presentFence : State := ({ boot := { inReset := false }, win := { now := [(7, {})], thrSpare := [] } } : State).setEff Obj.win_src_override 7 0 (.n 8)

/-- The state of witness presentReset. -/
def ws_presentReset : State := ({ boot := { inReset := false }, win := { now := [(7, {})] } } : State).setEff Obj.win_src_override 7 0 (.n 16)

/-- The state of witness presentNone. -/
def ws_presentNone : State := {}

/-- The state of witness handleEnd. -/
def ws_handleEnd : State := { win := { busy := true, held := [(7, {})] } }

/-- The state of witness handleNot. -/
def ws_handleNot : State := {}

/-- The state of witness activeEnd. -/
def ws_activeEnd : State := { win := { srcs := Vector.replicate 320 { active := true } } }

/-- The state of witness activeOn. -/
def ws_activeOn : State := { win := { srcs := Vector.replicate 320 { active := true, activeTo := 9 } } }

/-- The state of witness beat. -/
def ws_beat : State := {}

/-- The state of witness beatLate. -/
def ws_beatLate : State := { win := { heartLost := true } }

/-- The state of witness beatLost. -/
def ws_beatLost : State := { boot := { inReset := false }, tc := { cyc := 10 ^ 9 } }

/-- The state of witness beatOk. -/
def ws_beatOk : State := {}

/-- The state of witness intNext. -/
def ws_intNext : State := ({} : State).setN Obj.win_src_state 2 7

/-- The state of witness intNone. -/
def ws_intNone : State := {}

/-- The state of witness fenceThr. -/
def ws_fenceThr : State := { win := { fencing := [3] } }

/-- The state of witness fenceThrNone. -/
def ws_fenceThrNone : State := { win := { fencing := [3], thrSpare := [] } }

/-- The state of witness fenceAes. -/
def ws_fenceAes : State := { win := { fencing := [18] } }

/-- The state of witness fencePair. -/
def ws_fencePair : State := { wServe with win := { fencing := [211] }, stew := { pairs := Vector.ofFn fun i => { role := i.val + 1 } } }

/-- The state of witness fencePairBack. -/
def ws_fencePairBack : State := { wServe with win := { fencing := [211] } }

/-- The state of witness fencePairHalt. -/
def ws_fencePairHalt : State := { wServe with win := { fencing := [211] }, stew := { pairs := Vector.ofFn fun i => { role := if i.val = 0 then 1 else 0 } } }

/-- The state of witness fenceBusy. -/
def ws_fenceBusy : State := { win := { busy := true, fencing := [3] } }

/-- The state of witness resetOnly. -/
def ws_resetOnly : State := { win := { resetting := [31] } }

/-- The state of witness fenceNone. -/
def ws_fenceNone : State := {}

/-- The state of witness reload. -/
def ws_reload : State := { stew := { pairs := Vector.replicate 3 { fenced := true } } }

/-- The state of witness reloadNot. -/
def ws_reloadNot : State := {}

/-- The state of witness mtxReq. -/
def ws_mtxReq : State := (({ boot := { inReset := false } } : State).setEff Obj.mtx_window 2 0 (.o ([0, 0, 0, 0, 0, 0, 0xFF, 0xFF, 1, 0x0F] ++ zeros 6)))

/-- The state of witness mtxSplit. -/
def ws_mtxSplit : State := (({ boot := { inReset := false } } : State).setEff Obj.mtx_window 2 0 (.o ([0, 0, 0, 0, 0, 0, 0xFF, 0xFF, 1, 0x0F] ++ zeros 6)))

/-- The state of witness mtxNoWindow. -/
def ws_mtxNoWindow : State := { boot := { inReset := false } }

/-- The state of witness mtxReset. -/
def ws_mtxReset : State := { boot := { inReset := true } }

/-- The state of witness mtxGrant. -/
def ws_mtxGrant : State := { mtx := { pieces := [{ id := 1, master := 2, target := 3 }] } }

/-- The state of witness mtxIdle. -/
def ws_mtxIdle : State := {}

/-- The state of witness sramRead. -/
def ws_sramRead : State := ({ mtx := { pieces := [{ id := 1, master := 2, target := 1, addr := 0x40, len := 4, kind := 0, data := [1, 2, 3, 4], granted := true }] } } : State)

/-- The state of witness sramWrite. -/
def ws_sramWrite : State := ({ mtx := { pieces := [{ id := 1, master := 2, target := 1, addr := 0x40, len := 4, kind := 1, data := [1, 2, 3, 4], granted := true }] } } : State)

/-- The state of witness sramBad. -/
def ws_sramBad : State := ({ mtx := { pieces := [{ id := 1, master := 2, target := 1, addr := 0x40, len := 4, kind := 0, data := [1, 2, 3, 4], granted := true }] } } : State)

/-- The state of witness busError. -/
def ws_busError : State := ({ mtx := { pieces := [{ id := 1, master := 2, target := 5, addr := 0x40, len := 4, kind := 0, data := [1, 2, 3, 4], granted := true }] } } : State)

/-- The state of witness bridgeRead. -/
def ws_bridgeRead : State := ({ mtx := { pieces := [{ id := 1, master := 2, target := 6, addr := 0x40, len := 4, kind := 0, data := [1, 2, 3, 4], granted := true }] } } : State)

/-- The state of witness romWrite. -/
def ws_romWrite : State := ({ mtx := { pieces := [{ id := 1, master := 2, target := 7, addr := 0x40, len := 4, kind := 1, data := [1, 2, 3, 4], granted := true }] } } : State)

/-- The state of witness bankGone. -/
def ws_bankGone : State := ({ win := { bankLost := [0] }, mtx := { pieces := [{ id := 1, master := 2, target := 1, addr := 0x40, len := 4, kind := 0, data := [1, 2, 3, 4], granted := true }] } } : State)

/-- The state of witness respNone. -/
def ws_respNone : State := {}

/-- The state of witness mtxLate. -/
def ws_mtxLate : State := ({ tc := { cyc := 10 ^ 6 }, mtx := { pieces := [{ id := 1, master := 2, target := 4, addr := 0x40, len := 4, kind := 0, data := [1, 2, 3, 4], granted := true }] } } : State)

/-- The state of witness mtxWait. -/
def ws_mtxWait : State := ({ mtx := { pieces := [{ id := 1, master := 2, target := 1, addr := 0x40, len := 4, kind := 0, data := [1, 2, 3, 4], granted := true }] } } : State)

/-- The state of witness jtag. -/
def ws_jtag : State := { boot := { inReset := false } }

/-- The state of witness jtagHeld. -/
def ws_jtagHeld : State := { boot := { inReset := true } }

/-- The state of witness jtagOnce. -/
def ws_jtagOnce : State := { elec := { jtag := true } }

/-- The state of witness jtagReset. -/
def ws_jtagReset : State := { wServeUp with elec := { jtag := true } }

/-- The state of witness supplyReset. -/
def ws_supplyReset : State := { wServeUp with elec := { lowSince := #v[some 0, none], clockNs := 500 } }

/-- The state of witness resetLowest. -/
def ws_resetLowest : State := { elec := { jtag := true } }

/-- The state of witness bootHalt. -/
def ws_bootHalt : State := ({ elec := { rail := #v[7500, 8000, 9000, 9000, 12000, 18000, 33000, 18000] }, boot := { clearNext := true } } : State)

/-- The state of witness bootRecovery. -/
def ws_bootRecovery : State := ({ elec := { rail := #v[7500, 8000, 9000, 9000, 12000, 18000, 33000, 18000] }, boot := { clearNext := true } } : State)

/-- The state of witness bootService. -/
def ws_bootService : State := ({ elec := { rail := #v[7500, 8000, 9000, 9000, 12000, 18000, 33000, 18000] }, boot := { clearNext := true } } : State)

/-- The state of witness stable. -/
def ws_stable : State := { wServeUp with tc := { cyc := 10 ^ 13 } }

/-- The state of witness loadDone. -/
def ws_loadDone : State := { stew := { pairs := Vector.replicate 3 { loading := true } } }

/-- The state of witness loadNot. -/
def ws_loadNot : State := {}

/-- The state of witness rotate. -/
def ws_rotate : State := (({ tc := { boundaries := 50 }, boot := { install := { stage := 8, fresh := [14, 0] } } } : State).setN Obj.install_state 3)

/-- The state of witness rotateNot. -/
def ws_rotateNot : State := {}

/-- The state of witness reeve. -/
def ws_reeve : State := (({ tc := { boundaries := 50 }, boot := { install := { stage := 9 } } } : State).setN Obj.install_state 3)

/-- The state of witness reeveNot. -/
def ws_reeveNot : State := {}

/-- The state of witness ageSecond. -/
def ws_ageSecond : State := { wServeUp with tc := { cyc := 10 ^ 18 } }

/-- The state of witness ageHour. -/
def ws_ageHour : State := { wServeUp with tc := { cyc := 10 ^ 18 } }

/-- The state of witness ageEye. -/
def ws_ageEye : State := { wServeUp with tc := { cyc := 10 ^ 18 }, boot := { wServeUp.boot with eyes := Vector.replicate 13 (700, 2) } }

/-- The state of witness ageDay. -/
def ws_ageDay : State := { wServeUp with tc := { cyc := 10 ^ 18 } }

/-- The state of witness ageNot. -/
def ws_ageNot : State := { boot := { inReset := true } }

/-- The state of witness fit. -/
def ws_fit : State := wServeUp.setEff Obj.age_spare_threshold 0 0 (.n 0)

/-- The state of witness fitWarn. -/
def ws_fitWarn : State := { wServeUp with boot := { wServeUp.boot with hours := 175200, ages := [(ageKey 6 0, { daily := [20, 10], dayOf := [2, 1] })] } }

/-- The state of witness fitNot. -/
def ws_fitNot : State := { boot := { inReset := true } }

/-- The state of witness railAny. -/
def ws_railAny : State := { wServeUp with elec := { clockNs := 5000, railSince := Vector.replicate 8 (some 100) } }

/-- The state of witness railBad. -/
def ws_railBad : State := { wServeUp with elec := { clockNs := 5000, railSince := Vector.replicate 8 (some 100) } }

/-- The state of witness railReset. -/
def ws_railReset : State := { boot := { inReset := true } }

/-- The state of witness xoAgain. -/
def ws_xoAgain : State := { win := { srcs := Vector.replicate 320 { cond := true } } }

/-- The state of witness tempReset. -/
def ws_tempReset : State := { boot := { inReset := true } }

/-- The state of witness todStep. -/
def ws_todStep : State := wAgent []

/-- The state of witness todSlew. -/
def ws_todSlew : State := wAgent []

/-- The state of witness actArm. -/
def ws_actArm : State := wAgent []

/-- The state of witness actCancel. -/
def ws_actCancel : State := wAgent []

/-- The state of witness stampCal. -/
def ws_stampCal : State := wAgent []

/-- The state of witness realign. -/
def ws_realign : State := wAgent []

/-- The state of witness modelReset. -/
def ws_modelReset : State := wAgent []

/-- The state of witness recentre. -/
def ws_recentre : State := wAgent []

/-- The state of witness resurvey. -/
def ws_resurvey : State := wAgent []

/-- The state of witness feReinit. -/
def ws_feReinit : State := wAgent []

/-- The state of witness restartCold. -/
def ws_restartCold : State := wAgent []

/-- The state of witness restartWarm. -/
def ws_restartWarm : State := wAgent []

/-- The state of witness pathClear. -/
def ws_pathClear : State := wAgent []

/-- The state of witness clearFirst. -/
def ws_clearFirst : State := wAgent []

/-- The state of witness clearLost. -/
def ws_clearLost : State := wAgent []

/-- The state of witness pinClear. -/
def ws_pinClear : State := wAgent []

/-- The state of witness assocReset. -/
def ws_assocReset : State := wAgent []

/-- The state of witness freeze. -/
def ws_freeze : State := wAgent []

/-- The state of witness resume. -/
def ws_resume : State := wAgent []

/-- The state of witness titheClr. -/
def ws_titheClr : State := wAgent []

/-- The state of witness restartN. -/
def ws_restartN : State := wAgent []

/-- The state of witness restartS. -/
def ws_restartS : State := wAgent []

/-- The state of witness secver. -/
def ws_secver : State := wAgent []

/-- The state of witness instBegin. -/
def ws_instBegin : State := wAgent []

/-- The state of witness instFinish. -/
def ws_instFinish : State := wAgent []

/-- The state of witness instActivate. -/
def ws_instActivate : State := wAgent []

/-- The state of witness instAbort. -/
def ws_instAbort : State := wAgent []

/-- The state of witness cfgWrite. -/
def ws_cfgWrite : State := wAgent []

/-- The state of witness cfgRefused. -/
def ws_cfgRefused : State := wAgent []

/-- The state of witness aidTime. -/
def ws_aidTime : State := wAgent []

/-- The state of witness chunk. -/
def ws_chunk : State := (({ wAgent [] with boot := { (wAgent []).boot with install := { len := 100 } } } : State).setN Obj.install_state 1)

/-- The hypotheses of each clause of KeeperCycleUpdatesCount are met together. -/
theorem wit_KeeperCycleUpdatesCount :
    (∃ (s : State), (s.cycleReady = true)) :=
  ⟨wRun, by decide +kernel⟩

/-- The hypotheses of each clause of VoteDistributesMajority are met together. -/
theorem wit_VoteDistributesMajority :
    (∃ (s : State), (s.cycleReady = true) ∧ (s.tc.step = none) ∧ (KeepersAgree s.tc) ∧ ((∀ c, c < 8 → (s.chan c).fresh = none)) ∧ ((∀ p, p < 9 → (s.port p).taking = false))) ∧
    (∃ (s : State) (k : Fin 3) (e : Int), (s.cycleReady = true) ∧ (s.tc.step = none) ∧ (KeepersAgree s.tc) ∧ (e % countU ≠ 0) ∧ (CanRaise s (216 + k.val)) ∧ ((∀ c, c < 8 → (s.chan c).fresh = none)) ∧ ((∀ p, p < 9 → (s.port p).taking = false))) :=
  ⟨⟨wRun, by decide +kernel⟩,
    ⟨wRun, 1, 5, by decide +kernel⟩⟩

/-- The hypotheses of each clause of StepCountsAndEndsSlew are met together. -/
theorem wit_StepCountsAndEndsSlew :
    (∃ (s : State) (j : Int), (s.cycleReady = true) ∧ (s.tc.step = some j) ∧ (KeepersAgree s.tc) ∧ (s.tc.manualJump = false)) :=
  ⟨ws_stepCount, 12345, by decide +kernel⟩

/-- The hypotheses of each clause of ActionsFire are met together. -/
theorem wit_ActionsFire :
    (∃ (s : State) (k : Fin 8) (a : ArmedAct), (s.tc.voted < s.tc.nextGrid) ∧ ((s.dueActs.find? fun x => x.slot == k.val) = some a) ∧ (a.kind = 1) ∧ (s.stepAllowed = true) ∧ (s.tc.setJump = none)) ∧
    (∃ (s : State) (k : Fin 8) (a : ArmedAct), (s.tc.voted < s.tc.nextGrid) ∧ ((s.dueActs.find? fun x => x.slot == k.val) = some a) ∧ (a.kind = 2) ∧ (s.stepAllowed = true) ∧ (s.tc.jumps = [])) ∧
    (∃ (s : State) (k : Fin 8) (a : ArmedAct) (m : Fin 8) (j : Int), (s.tc.voted < s.tc.nextGrid) ∧ ((s.dueActs.find? fun x => x.slot == k.val) = some a) ∧ (a.kind = 2) ∧ (s.stepAllowed = true) ∧ (s.tc.jumps = [(m.val, j)]) ∧ (m ≠ k)) ∧
    (∃ (s : State) (k : Fin 8) (a : ArmedAct), (s.tc.voted < s.tc.nextGrid) ∧ ((s.dueActs.find? fun x => x.slot == k.val) = some a) ∧ (a.isStep = true) ∧ (s.stepAllowed = false)) ∧
    (∃ (s : State) (k : Fin 8) (a : ArmedAct), (s.tc.voted < s.tc.nextGrid) ∧ ((s.dueActs.find? fun x => x.slot == k.val) = some a) ∧ (a.kind = 3) ∧ (s.tc.freqBy = none)) :=
  ⟨⟨ws_actStep, 3, { slot := 3, kind := 1, time := 5, offset := 7 }, by decide +kernel⟩,
    ⟨ws_actSet, 7, { slot := 7, kind := 2, time := 5, value := 700 }, by decide +kernel⟩,
    ⟨ws_actSetAlone, 7, { slot := 7, kind := 2, time := 5, value := 700 }, 0, 4, by decide +kernel⟩,
    ⟨ws_actRefused, 1, { slot := 1, kind := 1, time := 5, offset := 7 }, by decide +kernel⟩,
    ⟨ws_actFreq, 2, { slot := 2, kind := 3, time := 10, inc := 0x0200000000000001 }, by decide +kernel⟩⟩

/-- The hypotheses of each clause of LeapAppliesOffset are met together. -/
theorem wit_LeapAppliesOffset :
    (∃ (s : State) (l : LeapReg), (s.tc.outRegs.leap = some l) ∧ (l.time ≤ s.tc.voted) ∧ (l.gleaner = false)) ∧
    (∃ (s : State) (l : LeapReg), (s.tc.outRegs.leap = some l) ∧ (l.time ≤ s.tc.voted) ∧ (l.gleaner = true)) :=
  ⟨⟨ws_leapDict, { insert := true, time := 10, newOff := 38 }, by decide +kernel⟩,
    ⟨ws_leapGnss, { insert := true, time := 10, newOff := 38, gleaner := true }, by decide +kernel⟩⟩

/-- The hypotheses of each clause of BoundaryAndTickWork are met together. -/
theorem wit_BoundaryAndTickWork :
    (∃ (s : State), (s.tc.boundaryDue = true) ∧ (s.boot.inReset = false) ∧ (s.gran.cur = {}) ∧ (s.sel.staged = {}) ∧ (s.sel.carried = {}) ∧ (s.tc.step = none) ∧ (s.dueActs = [])) ∧
    (∃ (s : State) (h : Nat) (v : Byte), (s.tc.boundaryDue = true) ∧ (s.boot.inReset = false) ∧ (s.sel.staged = {}) ∧ (s.sel.carried = {}) ∧ (s.tc.step = none) ∧ (s.dueActs = []) ∧ (s.gran.cur = { items := [{ handle := h, entries := [{ index := 0x1102, sub := 0, value := [v] }] }] }) ∧ ((s.gran.handles.any fun e => e.1 == h) = true)) ∧
    (∃ (s : State) (b : BoundaryIn), (s.tc.boundaryDue = false)) ∧
    (∃ (s : State) (w : WorkIn) (p : Nat), (w.role = 1) ∧ (s.roleAt 2 = some p) ∧ (s.roleRuns 2 = true) ∧ ((s.pair p).done = false) ∧ (s.tc.boundaries ≠ 0) ∧ (s.gnssOn = false)) ∧
    (∃ (s : State) (w : WorkIn) (p : Nat), (w.role = 0) ∧ (s.roleAt 1 = some p) ∧ (s.roleRuns 1 = true) ∧ ((s.pair p).done = false) ∧ (s.tc.boundaries ≠ 0)) ∧
    (∃ (s : State) (w : WorkIn), (s.tc.boundaries = 0 ∨ s.roleAt (w.role.val + 1) = none)) :=
  ⟨⟨ws_tick, by decide +kernel⟩,
    ⟨ws_tickCommit, 3, 5, by decide +kernel⟩,
    ⟨ws_tickNot, {}, by decide +kernel⟩,
    ⟨ws_workSb, { role := 1 }, 1, by decide +kernel⟩,
    ⟨wServe, { role := 0 }, 0, by decide +kernel⟩,
    ⟨ws_workNot, { role := 0 }, by decide +kernel⟩⟩

/-- The hypotheses of each clause of QualificationAndEligibility are met together. -/
theorem wit_QualificationAndEligibility :
    (∃ (s : State) (n : Fin 24), (s.effT Obj.ref_enable n.val = true) ∧ ((s.slot n.val).present = true) ∧ ((s.slot n.val).qualified = false) ∧ (s.passedO (s.slot n.val).goodSince (s.effN Obj.ref_qual_time n.val * oneSec) = true)) ∧
    (∃ (s : State) (n : Fin 24), ((s.slot n.val).qualified = true) ∧ ((s.slot n.val).eligible = false) ∧ (s.passedO (s.slot n.val).wtrStart (s.effN Obj.ref_wtr n.val * oneSec) = true)) :=
  ⟨⟨ws_qualGained, 3, by decide +kernel⟩,
    ⟨ws_wtrExpire, 5, by decide +kernel⟩⟩

/-- The hypotheses of each clause of RefEdgePrediction are met together. -/
theorem wit_RefEdgePrediction :
    (∃ (s : State) (n : Fin 8) (e : EdgeIn), (s.edgeOk (8 + n.val) e.rise = true) ∧ (s.refHeld n.val (s.slot n.val).lastEdge = false) ∧ ((s.slot n.val).divCount + 1 < s.effN Obj.ref_divider n.val)) ∧
    (∃ (s : State) (n : Fin 8) (e : EdgeIn) (ev : TicEv) (i : Nat) (p : Int), (s.effT Obj.ref_enable n.val = true) ∧ (s.edgeOk (8 + n.val) e.rise = true) ∧ (s.refHeld n.val (s.slot n.val).lastEdge = false) ∧ (s.effN Obj.ref_divider n.val ≤ (s.slot n.val).divCount + 1) ∧ (s.held (8 + n.val) = false) ∧ ((s.chan (8 + n.val)).fencedN ≠ 2) ∧ (e.k < 1152) ∧ (s.convert (8 + n.val) e.k = some (ev, i)) ∧ ((s.slot n.val).present = true) ∧ ((s.slot n.val).pred = some p) ∧ (8 * (ofStamp128 ev.stamp - p).natAbs ≤ (s.refPeriod n.val).natAbs)) ∧
    (∃ (s : State) (n : Fin 8) (e : EdgeIn) (ev : TicEv) (i : Nat) (p : Int), (s.effT Obj.ref_enable n.val = true) ∧ (s.edgeOk (8 + n.val) e.rise = true) ∧ (s.refHeld n.val (s.slot n.val).lastEdge = false) ∧ (s.effN Obj.ref_divider n.val ≤ (s.slot n.val).divCount + 1) ∧ (s.held (8 + n.val) = false) ∧ ((s.chan (8 + n.val)).fencedN ≠ 2) ∧ (e.k < 1152) ∧ (s.convert (8 + n.val) e.k = some (ev, i)) ∧ ((s.slot n.val).present = false) ∧ ((s.slot n.val).good3 = 2) ∧ ((s.slot n.val).pred = some p) ∧ (8 * (ofStamp128 ev.stamp - p).natAbs ≤ (s.refPeriod n.val).natAbs)) ∧
    (∃ (s : State) (n : Fin 8) (p : Int), ((s.slot n.val).present = true) ∧ ((s.slot n.val).missed = 0) ∧ ((s.slot n.val).pred = some p) ∧ (p * 8 + s.refPeriod n.val < s.tod * 8)) ∧
    (∃ (s : State) (n : Fin 8) (p : Int), ((s.slot n.val).present = true) ∧ ((s.slot n.val).missed = 1) ∧ ((s.slot n.val).pred = some p) ∧ (p * 8 + s.refPeriod n.val < s.tod * 8)) :=
  ⟨⟨ws_refEdgeCount, 2, { k := 5 }, by decide +kernel⟩,
    ⟨ws_refEdgeHit, 1, { k := 5 }, (match (({ tic := { chans := Vector.replicate 17 { i0 := { state := 2 } } } } : State).convert 9 5) with | some e => e.1 | none => {}), 0, 0, by decide +kernel⟩,
    ⟨ws_refEdgeThird, 1, { k := 5 }, (match (({ tic := { chans := Vector.replicate 17 { i0 := { state := 2 } } } } : State).convert 9 5) with | some e => e.1 | none => {}), 0, 0, by decide +kernel⟩,
    ⟨ws_refMissFirst, 4, 0, by decide +kernel⟩,
    ⟨ws_refMissSecond, 4, 0, by decide +kernel⟩⟩

/-- The hypotheses of each clause of TransitionCompletes are met together. -/
theorem wit_TransitionCompletes :
    (∃ (s : State), (s.lastWindowTick = true) ∧ (s.sel.staged.adopt = none) ∧ (s.sel.staged.fail = none) ∧ ((s.slot (s.valN Obj.ref_target)).eligible = false) ∧ (s.effN Obj.ref_force ≠ s.valN Obj.ref_target)) ∧
    (∃ (s : State), (s.lastWindowTick = true) ∧ (s.sel.staged.adopt = none) ∧ (s.sel.staged.fail = none) ∧ ((s.slot (s.valN Obj.ref_target)).eligible = true) ∧ (((s.captured (s.valN Obj.ref_target)).filter fun m => decide (s.sel.transBegan ≤ m.tickAt)) ≠ []) ∧ (s.isFreq (s.valN Obj.ref_target) = true)) ∧
    (∃ (s : State) (m : Meas), (s.lastWindowTick = true) ∧ (s.sel.staged.adopt = none) ∧ (s.sel.staged.fail = none) ∧ ((s.slot (s.valN Obj.ref_target)).eligible = true) ∧ (((s.captured (s.valN Obj.ref_target)).filter fun m => decide (s.sel.transBegan ≤ m.tickAt)) = [m]) ∧ (s.isFreq (s.valN Obj.ref_target) = false) ∧ (s.valN Obj.tod_state = 0)) ∧
    (∃ (s : State) (m : Meas), (s.lastWindowTick = true) ∧ (s.sel.staged.adopt = none) ∧ (s.sel.staged.fail = none) ∧ ((s.slot (s.valN Obj.ref_target)).eligible = true) ∧ (((s.captured (s.valN Obj.ref_target)).filter fun m => decide (s.sel.transBegan ≤ m.tickAt)) = [m]) ∧ (s.isFreq (s.valN Obj.ref_target) = false) ∧ (s.valN Obj.tod_state ≠ 0) ∧ (s.effN Obj.tod_control = 1) ∧ (-(2 ^ 63) ≤ m.x) ∧ (m.x < 2 ^ 63)) ∧
    (∃ (s : State) (m : Meas), (s.lastWindowTick = true) ∧ (s.sel.staged.adopt = none) ∧ (s.sel.staged.fail = none) ∧ ((s.slot (s.valN Obj.ref_target)).eligible = true) ∧ (((s.captured (s.valN Obj.ref_target)).filter fun m => decide (s.sel.transBegan ≤ m.tickAt)) = [m]) ∧ (s.isFreq (s.valN Obj.ref_target) = false) ∧ (s.valN Obj.tod_state ≠ 0) ∧ (s.effN Obj.tod_control = 0) ∧ (s.servoStepOk = false) ∧ (m.x.natAbs * 1000 ≤ s.effN Obj.tod_slew_max * 65536)) ∧
    (∃ (s : State) (m : Meas), (s.lastWindowTick = true) ∧ (s.sel.staged.adopt = none) ∧ (s.sel.staged.fail = none) ∧ ((s.slot (s.valN Obj.ref_target)).eligible = true) ∧ (((s.captured (s.valN Obj.ref_target)).filter fun m => decide (s.sel.transBegan ≤ m.tickAt)) = [m]) ∧ (s.isFreq (s.valN Obj.ref_target) = false) ∧ (s.valN Obj.tod_state ≠ 0) ∧ (s.effN Obj.tod_control = 0) ∧ (s.servoStepOk = false) ∧ (s.effN Obj.tod_slew_max * 65536 < m.x.natAbs * 1000) ∧ (s.valN Obj.ref_target < 24) ∧ ((s.slot (s.valN Obj.ref_target)).inconsistent = false) ∧ (CanRaise s 226)) :=
  ⟨⟨ws_trFail, by decide +kernel⟩,
    ⟨ws_trFreq, by decide +kernel⟩,
    ⟨ws_trInitial, { t := 0, x := 650000, tickAt := 95 }, by decide +kernel⟩,
    ⟨ws_trManual, { t := 0, x := 650000, tickAt := 95 }, by decide +kernel⟩,
    ⟨ws_trSlew, { t := 0, x := 650000, tickAt := 95 }, by decide +kernel⟩,
    ⟨ws_trTooFar, { t := 0, x := 10 ^ 20, tickAt := 95 }, by decide +kernel⟩⟩

/-- The hypotheses of each clause of DisputeAndHistory are met together. -/
theorem wit_DisputeAndHistory :
    (∃ (s : State) (a b : Fin 24), ((s.sel.disputes.any fun d => d.a == min a.val b.val && d.b == max a.val b.val && s.disputeOver d) = true)) ∧
    (∃ (s : State) (n : Fin 24), (s.boot.recovery = false)) :=
  ⟨⟨ws_disputeEnd, 7, 2, by decide +kernel⟩,
    ⟨ws_histRead, 3, by decide +kernel⟩⟩

/-- The hypotheses of each clause of FlywheelLossAndRestore are met together. -/
theorem wit_FlywheelLossAndRestore :
    (∃ (s : State), (s.hold.timebaseFly = true) ∧ (s.hold.typeAtStart ≠ 0) ∧ ((s.dpll 0).held = false) ∧ ((s.slot 23).present = true) ∧ (s.hold.seg = none)) ∧
    (∃ (s : State) (g : Segment), (s.hold.timebaseFly = true) ∧ (s.hold.typeAtStart ≠ 0) ∧ ((s.dpll 0).held = false) ∧ ((s.slot 23).present = true) ∧ (s.hold.seg = some g) ∧ (g.regime ≠ 3)) ∧
    (∃ (s : State), (s.hold.timebaseFly = false) ∧ (s.hold.typeAtStart ≠ 0) ∧ ((s.slot 23).qualified = true) ∧ (s.sel.staged.toFly = false) ∧ (s.passedO s.hold.flyQualSince (s.effN Obj.hold_fly_restore * oneSec) = true) ∧ (coasting (s.valN Obj.hold_state) = false)) :=
  ⟨⟨ws_flyLoss, by decide +kernel⟩,
    ⟨ws_flyLossSeg, { regime := 2, u := 1 / 10 ^ 9 }, by decide +kernel⟩,
    ⟨ws_flyRestore, by decide +kernel⟩⟩

/-- The hypotheses of each clause of HoldoverRate are met together. -/
theorem wit_HoldoverRate :
    (∃ (s : State), (coasting (s.valN Obj.hold_state) = true) ∧ (s.effN Obj.tod_control = 0) ∧ (s.hold.entry = true ∨ s.tc.tickNo = 0) ∧ (s.flyLost = false) ∧ (s.sel.staged.toXo = false) ∧ (s.sel.staged.toFly = false)) ∧
    (∃ (s : State), (coasting (s.valN Obj.hold_state) = true) ∧ (s.effN Obj.tod_control = 0) ∧ (s.tc.tickNo = 0) ∧ (s.model.state ≠ 2) ∧ (s.hold.favg = none) ∧ (s.flyLost = false) ∧ (s.sel.staged.toXo = false) ∧ (s.sel.staged.toFly = false)) ∧
    (∃ (s : State), (coasting (s.valN Obj.hold_state) = false)) :=
  ⟨⟨ws_holdRate, by decide +kernel⟩,
    ⟨ws_holdNominal, by decide +kernel⟩,
    ⟨ws_holdLocked, by decide +kernel⟩⟩

/-- The hypotheses of each clause of ModelLearns are met together. -/
theorem wit_ModelLearns :
    (∃ (s : State) (f : Rat), (s.tc.tickNo = 0) ∧ (s.hold.accS ≠ s.tc.tickSec) ∧ (s.learning = true) ∧ (s.secondSample = some f)) ∧
    (∃ (s : State), (s.tc.tickNo = 0) ∧ (s.tc.tickSec % 60 = 0) ∧ (s.learning = false) ∧ (s.hold.accF = [])) ∧
    (∃ (s : State) (f x : Rat), (s.tc.tickNo = 0) ∧ (s.tc.tickSec % 60 = 0) ∧ (s.learning = false) ∧ (s.hold.accF = [f]) ∧ (s.hold.accT = [x])) ∧
    (∃ (s : State), (s.tc.tickNo = 0) ∧ (s.tc.tickSec % 60 = 0) ∧ (s.learning = true) ∧ (s.hold.accF = []) ∧ (s.model.w = [])) :=
  ⟨⟨ws_modelSample, (match (({ tc := { tickSec := 7 }, slots := Vector.replicate 24 { }, hold := { prevMeas := [(8, { t := 0, x := 0, cyc := 0 })], curMeas := [(8, { t := secU, x := 0, cyc := 500000000, inc := 500000000 * 2 ^ 57 })] } } : State).setN Obj.hold_state 1 |>.setN Obj.ref_active 8).secondSample with | some f => f | none => 0), by decide +kernel⟩,
    ⟨ws_modelClose, by decide +kernel⟩,
    ⟨ws_modelAppend, 3, 5, by decide +kernel⟩,
    ⟨ws_modelRefit, by decide +kernel⟩⟩

/-- The hypotheses of each clause of PhaseHits are met together. -/
theorem wit_PhaseHits :
    (∃ (s : State) (fine l : Nat), (s.effT Obj.fly_pps_enable = true) ∧ (s.hold.timebaseFly = true) ∧ (s.hold.ppsLast = some l) ∧ ((((2000 * s.tc.cyc + fine : Nat) : Int) - l - 1000000000000).natAbs ≤ s.effN Obj.fly_pps_tol)) ∧
    (∃ (s : State) (fine l : Nat), (s.effT Obj.fly_pps_enable = true) ∧ (s.hold.timebaseFly = true) ∧ (s.hold.ppsLast = some l) ∧ (s.effN Obj.fly_pps_tol < (((2000 * s.tc.cyc + fine : Nat) : Int) - l - 1000000000000).natAbs) ∧ (CanRaise s 229)) :=
  ⟨⟨ws_ppsFine, 0, 0, by decide +kernel⟩,
    ⟨ws_ppsHit, 0, 0, by decide +kernel⟩⟩

/-- The hypotheses of each clause of Recentring are met together. -/
theorem wit_Recentring :
    (∃ (s : State), (s.recentreDue = true) ∧ (s.effN Obj.fly_recentre_mode ≠ 2) ∧ (CanRaise s 231) ∧ (freqRat (s.effI Obj.fly_recentre_range) < ratAbs (freqRat (s.valI Obj.fly_recentre_used) + ratMax (-freqRat (s.effI Obj.fly_recentre_step_max)) (ratMin (freqRat (s.effI Obj.fly_recentre_step_max)) (-s.fPred))))) ∧
    (∃ (s : State), (s.recentreDue = true) ∧ (s.effN Obj.fly_recentre_mode = 1) ∧ (ratAbs (freqRat (s.valI Obj.fly_recentre_used) + ratMax (-freqRat (s.effI Obj.fly_recentre_step_max)) (ratMin (freqRat (s.effI Obj.fly_recentre_step_max)) (-s.fPred))) ≤ freqRat (s.effI Obj.fly_recentre_range))) ∧
    (∃ (s : State) (c code : Int) (df : Rat), (s.recentreDue = true) ∧ (s.effN Obj.fly_recentre_mode = 2) ∧ (freqRat (s.effI Obj.fly_dac_gain) ≠ 0) ∧ (c = ratRound (ratMax (-freqRat (s.effI Obj.fly_recentre_step_max)) (ratMin (freqRat (s.effI Obj.fly_recentre_step_max)) (-s.fPred)) / freqRat (s.effI Obj.fly_dac_gain))) ∧ (df = (c : Rat) * freqRat (s.effI Obj.fly_dac_gain)) ∧ (ratAbs (freqRat (s.valI Obj.fly_recentre_used) + df) ≤ freqRat (s.effI Obj.fly_recentre_range)) ∧ (code = (s.valN Obj.fly_dac_code : Int) + c) ∧ (0 ≤ code) ∧ (code < 2 ^ s.effN Obj.fly_dac_bits)) ∧
    (∃ (s : State), (s.recentreDue = false)) ∧
    (∃ (s : State) (b : Bytes) (c : Nat), (s.hold.uartAt = some c) ∧ (s.passed c (oneSec + 1) = false)) ∧
    (∃ (s : State) (b : Bytes) (c : Nat), (s.hold.uartAt = some c) ∧ (s.passed c (oneSec + 1) = true)) :=
  ⟨⟨ws_recRefuse, by decide +kernel⟩,
    ⟨ws_recUart, by decide +kernel⟩,
    ⟨ws_recDac, -281, 32487, (-281 : Rat) * freqRat 1000, by decide +kernel⟩,
    ⟨ws_recNotDue, by decide +kernel⟩,
    ⟨ws_uartReply, [1, 2, 3], 0, by decide +kernel⟩,
    ⟨ws_uartLate, [1, 2, 3], 0, by decide +kernel⟩⟩

/-- The hypotheses of each clause of ScrupleSettles are met together. -/
theorem wit_ScrupleSettles :
    (∃ (s : State), (s.tc.cyc = s.tc.tickCyc) ∧ (s.scr.fell = true)) ∧
    (∃ (s : State), (s.scr.fell = false)) :=
  ⟨⟨ws_settle, by decide +kernel⟩,
    ⟨ws_settleNot, by decide +kernel⟩⟩

/-- The hypotheses of each clause of PathGuardEnds are met together. -/
theorem wit_PathGuardEnds :
    (∃ (s : State) (i : Fin 4), (s.valN Obj.scr_path_state i.val = 2) ∧ (s.passedO (s.path i.val).guardFrom (s.effN Obj.scr_guard * oneSec) = true) ∧ (s.scr.healthySince = none)) ∧
    (∃ (s : State) (i : Fin 4), (s.passedO (s.path i.val).guardFrom (s.effN Obj.scr_guard * oneSec) = false)) :=
  ⟨⟨ws_guardEnd, 1, by decide +kernel⟩,
    ⟨ws_guardRuns, 0, by decide +kernel⟩⟩

/-- The hypotheses of each clause of DpllAcquiresAndLocks are met together. -/
theorem wit_DpllAcquiresAndLocks :
    (∃ (s : State) (d : Fin 5), (s.dpllState d.val = 0) ∧ (s.dpllRef d.val = true)) ∧
    (∃ (s : State) (d : Fin 5), (s.dpllState d.val ≠ 0 ∨ s.dpllRef d.val = false)) ∧
    (∃ (s : State) (d : Fin 5), (s.dpllState d.val = 1) ∧ ((s.dpll d.val).retune = false) ∧ (s.freqDue d.val = false) ∧ (s.passedO (s.dpll d.val).inWin (s.effN Obj.dpll_lock_time d.val * 1000000) = true)) ∧
    (∃ (s : State) (d : Fin 5), ((s.dpll d.val).retune = true ∨ s.freqDue d.val = true ∨ (s.dpll d.val).inWin = none)) ∧
    (∃ (s : State) (d : Fin 5), (s.dpllState d.val = 1) ∧ ((s.dpll d.val).timedOut = false) ∧ (s.passed (s.dpll d.val).acqFrom (s.effN Obj.dpll_relock_max d.val * 1000000) = true) ∧ (CanRaise s (238 + d.val))) :=
  ⟨⟨wRun, 1, by decide +kernel⟩,
    ⟨ws_dAcqNot, 1, by decide +kernel⟩,
    ⟨ws_dLock, 3, by decide +kernel⟩,
    ⟨ws_dLockNot, 3, by decide +kernel⟩,
    ⟨ws_dTimeout, 3, by decide +kernel⟩⟩

/-- The hypotheses of each clause of DpllLosesLock are met together. -/
theorem wit_DpllLosesLock :
    (∃ (s : State) (d : Fin 5), (s.dpllState d.val = 2) ∧ (s.effN Obj.dpll_unlock_count d.val ≤ (s.dpll d.val).outRun)) ∧
    (∃ (s : State) (d : Fin 5), (s.dpllState d.val = 4) ∧ (s.effN Obj.dpll_unlock_count d.val ≤ (s.dpll d.val).outRun) ∧ (s.runsOn d.val ≠ [])) ∧
    (∃ (s : State) (d : Fin 5), (s.dpllState d.val = 4) ∧ (s.effN Obj.dpll_unlock_count d.val ≤ (s.dpll d.val).outRun) ∧ (s.runsOn d.val = [])) ∧
    (∃ (s : State) (d : Fin 5), ((s.dpllState d.val ≠ 2 ∧ s.dpllState d.val ≠ 4) ∨ (s.dpll d.val).outRun < s.effN Obj.dpll_unlock_count d.val)) ∧
    (∃ (s : State), (s.dpllState 2 ≠ 0) ∧ (s.dpllState 2 ≠ 3) ∧ (s.dpllRef 2 = false)) ∧
    (∃ (s : State), (s.dpllState 2 = 0 ∨ s.dpllState 2 = 3 ∨ s.dpllRef 2 = true)) ∧
    (∃ (s : State) (f : Int), (s.dpllState 2 = 3) ∧ (s.dpllRef 2 = true) ∧ (f = ((s.dpll 2).dco : Int) * 1000) ∧ ((s.dpll 2).dco = (s.dpll 2).target)) ∧
    (∃ (s : State) (f : Int), (s.dpllState 2 = 3) ∧ (s.dpllRef 2 = true) ∧ (f = ((s.dpll 2).dco : Int) * 1000) ∧ ((s.dpll 2).dco ≠ (s.dpll 2).target) ∧ (s.runsOn 2 ≠ [])) ∧
    (∃ (s : State), (s.dpllState 2 = 3) ∧ (s.dpllRef 2 = true) ∧ ((s.dpll 2).dco ≠ (s.dpll 2).target) ∧ (s.runsOn 2 = [])) ∧
    (∃ (s : State), (s.dpllState 2 ≠ 3 ∨ s.dpllRef 2 = false)) ∧
    (∃ (s : State), (s.win.dcoPend = true) ∧ (s.win.dcoSpare = true) ∧ (CanRaise s 244)) ∧
    (∃ (s : State), (s.win.dcoPend = true) ∧ (s.win.dcoSpare = true) ∧ (s.win.busy = true) ∧ ((s.win.held.any fun h => h.1 == 244) = false)) ∧
    (∃ (s : State), (s.win.dcoPend = false ∨ s.win.dcoSpare = false)) :=
  ⟨⟨ws_dUnlock, 1, by decide +kernel⟩,
    ⟨ws_dUnlockSlewRuns, 1, by decide +kernel⟩,
    ⟨ws_dUnlockSlewQuiet, 1, by decide +kernel⟩,
    ⟨ws_dUnlockNot, 1, by decide +kernel⟩,
    ⟨ws_dRefLoss, by decide +kernel⟩,
    ⟨wRun, by decide +kernel⟩,
    ⟨ws_dRefReturn, 10 ^ 16, by decide +kernel⟩,
    ⟨ws_dRefReturnRamp, 10 ^ 16, by decide +kernel⟩,
    ⟨ws_dRefReturnTune, by decide +kernel⟩,
    ⟨wRun, by decide +kernel⟩,
    ⟨ws_dSpare, by decide +kernel⟩,
    ⟨ws_dSpareHeld, by decide +kernel⟩,
    ⟨ws_dSpareNot, by decide +kernel⟩⟩

/-- The hypotheses of each clause of DpllFrequencyChanges are met together. -/
theorem wit_DpllFrequencyChanges :
    (∃ (s : State) (d : Fin 5), (s.freqDue d.val = true) ∧ (s.hitlessOk d.val = false) ∧ (s.dpllState d.val = 1 ∨ s.dpllState d.val = 2 ∨ s.dpllState d.val = 4) ∧ (s.runsOn d.val ≠ [])) ∧
    (∃ (s : State) (d : Fin 5), (s.freqDue d.val = true) ∧ (s.hitlessOk d.val = false) ∧ (s.dpllState d.val = 1 ∨ s.dpllState d.val = 2 ∨ s.dpllState d.val = 4) ∧ (s.runsOn d.val = [])) ∧
    (∃ (s : State) (d : Fin 5), (s.freqDue d.val = true) ∧ (s.hitlessOk d.val = true)) ∧
    (∃ (s : State) (d : Fin 5), (s.dpllState d.val = 4) ∧ (s.dcoNow d.val = (s.dpll d.val).target)) ∧
    (∃ (s : State) (d : Fin 5), (s.dcoNow d.val ≠ (s.dpll d.val).target)) :=
  ⟨⟨ws_dFreq, 1, by decide +kernel⟩,
    ⟨ws_dFreqQuiet, 1, by decide +kernel⟩,
    ⟨ws_dHitless, 1, by decide +kernel⟩,
    ⟨ws_dSlewDone, 2, by decide +kernel⟩,
    ⟨ws_dSlewRuns, 2, by decide +kernel⟩⟩

/-- The hypotheses of each clause of OutputsGateAndRelease are met together. -/
theorem wit_OutputsGateAndRelease :
    (∃ (s : State) (o : Fin 13), (o.val < 12) ∧ ((s.out o.val).gating = true) ∧ ((s.out o.val).running = true) ∧ ((s.dpll ((s.out o.val).src + 1)).retune = false ∨ ∃ k : Fin 13, k.val ≠ o.val ∧ (s.out k.val).running = true ∧ (s.out k.val).src = (s.out o.val).src)) ∧
    (∃ (s : State), ((s.out 12).gating = true) ∧ ((s.out 12).running = true) ∧ ((s.dpll ((s.out 12).src + 1)).retune = false ∨ ∃ k : Fin 13, k.val ≠ 12 ∧ (s.out k.val).running = true ∧ (s.out k.val).src = (s.out 12).src)) ∧
    (∃ (s : State) (o : Fin 13) (d : Fin 5), ((s.out o.val).gating = true) ∧ ((s.out o.val).running = true) ∧ (d.val = (s.out o.val).src + 1) ∧ ((s.dpll d.val).retune = true) ∧ (∀ k : Fin 13, k = o ∨ (s.out k.val).running = false ∨ (s.out k.val).src ≠ (s.out o.val).src)) ∧
    (∃ (s : State) (o : Fin 13), (o.val < 12) ∧ ((s.out o.val).running = false) ∧ (s.effT Obj.out_enable o.val = true) ∧ (s.dpllState (s.effN Obj.out_source o.val + 1) = 2 ∨ s.dpllState (s.effN Obj.out_source o.val + 1) = 4) ∧ (s.settledFreq (s.effN Obj.out_source o.val + 1) = true)) ∧
    (∃ (s : State), (s.dev.part = 1) ∧ ((s.out 12).running = false) ∧ (s.dpllState 4 = 2 ∨ s.dpllState 4 = 4) ∧ (s.settledFreq 4 = true)) ∧
    (∃ (s : State) (o : Fin 13), (s.lockedOrSlew (s.outSrc o.val) = false ∨ s.settledFreq (s.outSrc o.val) = false)) :=
  ⟨⟨ws_oGate, 4, by decide +kernel⟩,
    ⟨ws_oGateGf, by decide +kernel⟩,
    ⟨ws_oGateTune, 4, 1, by decide +kernel⟩,
    ⟨ws_oRel, 4, by decide +kernel⟩,
    ⟨ws_oRelGf, by decide +kernel⟩,
    ⟨ws_oRelNot, 4, by decide +kernel⟩⟩

/-- The hypotheses of each clause of PpsPulses are met together. -/
theorem wit_PpsPulses :
    (∃ (s : State) (m : Fin 4) (t0 : Int), (t0 = (s.tod - psToU (s.effI Obj.pps_offset m.val)) / secU * secU + psToU (s.effI Obj.pps_offset m.val)) ∧ (s.tc.running = true) ∧ (s.reaches t0 = true) ∧ ((s.ppso m.val).last ≠ some (t0, s.steps)) ∧ (s.ppsRuns m.val = true) ∧ ((s.ppso m.val).holdSrc = false ∨ s.dpllState (s.effN Obj.pps_source m.val + 1) = 2) ∧ ((s.ppso m.val).active = false)) ∧
    (∃ (s : State) (m : Fin 4) (t0 : Int), (t0 = (s.tod - psToU (s.effI Obj.pps_offset m.val)) / secU * secU + psToU (s.effI Obj.pps_offset m.val)) ∧ (s.tc.running = true) ∧ (s.reaches t0 = true) ∧ ((s.ppso m.val).last ≠ some (t0, s.steps)) ∧ (s.ppsRuns m.val = false ∨ (s.ppso m.val).active = true ∨ ((s.ppso m.val).holdSrc = true ∧ s.dpllState (s.effN Obj.pps_source m.val + 1) ≠ 2))) ∧
    (∃ (s : State) (m : Fin 4), (s.tc.running = false)) ∧
    (∃ (s : State) (m : Fin 4), ((s.ppso m.val).active = true) ∧ (s.passed (s.ppso m.val).widthCyc (s.ppso m.val).width = true)) ∧
    (∃ (s : State) (m : Fin 4), ((s.ppso m.val).active = false ∨ s.passed (s.ppso m.val).widthCyc (s.ppso m.val).width = false)) :=
  ⟨⟨ws_ppsStart, 2, 0, by decide +kernel⟩,
    ⟨wRun, 2, 0, by decide +kernel⟩,
    ⟨ws_ppsNotYet, 1, by decide +kernel⟩,
    ⟨ws_ppsEnd, 1, by decide +kernel⟩,
    ⟨ws_ppsLasts, 1, by decide +kernel⟩⟩

/-- The hypotheses of each clause of TodUart are met together. -/
theorem wit_TodUart :
    (∃ (s : State) (u : Fin 2) (sec : Nat) (delay : Int), (delay = (s.effN Obj.uart_delay u.val : Int) * 1000000 * nsU) ∧ (sec = ((s.tod - delay) / secU).toNat) ∧ (s.tc.running = true) ∧ (s.reaches ((sec : Int) * secU + delay) = true) ∧ ((vat s.uarts u.val {}).last ≠ some ((sec : Int) * secU + delay, s.steps)) ∧ (s.effN Obj.uart_format u.val = 1)) ∧
    (∃ (s : State) (u : Fin 2) (sec : Nat) (delay : Int), (delay = (s.effN Obj.uart_delay u.val : Int) * 1000000 * nsU) ∧ (sec = ((s.tod - delay) / secU).toNat) ∧ (s.tc.running = true) ∧ (s.reaches ((sec : Int) * secU + delay) = true) ∧ ((vat s.uarts u.val {}).last ≠ some ((sec : Int) * secU + delay, s.steps)) ∧ (s.effN Obj.uart_format u.val = 2) ∧ (s.valN Obj.tod_state ≠ 0) ∧ ((s.effB Obj.uart_talker u.val).length = 2)) ∧
    (∃ (s : State) (u : Fin 2), (s.effN Obj.uart_format u.val = 0)) ∧
    (∃ (s : State) (u : Fin 2), (s.effN Obj.uart_format u.val = 2) ∧ (s.valN Obj.tod_state = 0)) ∧
    (∃ (s : State) (u : Fin 2) (b : Bytes), (s.effN Obj.uart_rx_format u.val ≠ 0)) ∧
    (∃ (s : State) (u : Fin 2) (b : Bytes) (named ref : Int), (s.effN Obj.uart_rx_format u.val ≠ 0) ∧ (s.uartParse (s.effN Obj.uart_rx_format u.val) b = some named) ∧ (ref = (if (named + 1) * secU < s.tod then (todSec s.tod : Int) - 1 else (todSec s.tod : Int))) ∧ (-(2 ^ 31) ≤ named - ref) ∧ (named - ref < 2 ^ 31)) ∧
    (∃ (s : State) (u : Fin 2) (b : Bytes) (named ref : Int), (s.effN Obj.uart_rx_format u.val ≠ 0) ∧ (s.uartParse (s.effN Obj.uart_rx_format u.val) b = some named) ∧ (ref = (if (named + 1) * secU < s.tod then (todSec s.tod : Int) - 1 else (todSec s.tod : Int))) ∧ (2 ^ 31 ≤ named - ref ∨ named - ref < -(2 ^ 31))) ∧
    (∃ (s : State) (u : Fin 2) (b : Bytes) (f : Bool), (s.effN Obj.uart_rx_format u.val = 0)) :=
  ⟨⟨ws_uartBin, 1, 0, 0, by decide +kernel⟩,
    ⟨ws_uartZda, 1, 0, 0, by decide +kernel⟩,
    ⟨ws_uartOff, 0, by decide +kernel⟩,
    ⟨ws_uartZdaUnset, 0, by decide +kernel⟩,
    ⟨ws_uartBad, 0, [], by decide +kernel⟩,
    ⟨ws_uartGood, 0, [0xC7, 0x3E, 0x01, 28] ++ zeros 28 ++ beBytes 2 (Crypto.crc16 ([0xC7, 0x3E, 0x01, 28] ++ zeros 28)), 0, 0, by decide +kernel⟩,
    ⟨ws_uartFar, 0, [0xC7, 0x3E, 0x01, 28, 0, 0, 0, 1] ++ zeros 24 ++ beBytes 2 (Crypto.crc16 ([0xC7, 0x3E, 0x01, 28, 0, 0, 0, 1] ++ zeros 24)), 2 ^ 32, 0, by decide +kernel⟩,
    ⟨ws_uartRxOff, 0, [], true, by decide +kernel⟩⟩

/-- The hypotheses of each clause of TicEventRecords are met together. -/
theorem wit_TicEventRecords :
    (∃ (s : State) (c : Fin 17) (e : EdgeIn), (c.val < 8) ∧ ((s.chan c.val).fresh = none)) ∧
    (∃ (s : State) (c : Fin 17) (e : EdgeIn), (c.val < 8) ∧ ((s.chan c.val).fresh ≠ none)) ∧
    (∃ (s : State) (c : Fin 8) (k : Nat) (rise : Bool) (ev : TicEv) (i : Nat), (s.cycleReady = true) ∧ (s.tc.step = none) ∧ ((∀ p, p < 9 → (s.port p).taking = false)) ∧ ((∀ m, m < 8 → m = c.val ∨ (s.chan m).fresh = none)) ∧ ((s.chan c.val).fresh = some (k, rise)) ∧ (s.edgeOk c.val rise = true) ∧ (s.shut c.val = false) ∧ (s.held c.val = false) ∧ ((s.chan c.val).fencedN ≠ 2) ∧ (k < 1152) ∧ (s.convert c.val k = some (ev, i)) ∧ (s.effN Obj.tic_mode c.val = 1) ∧ ((s.chan c.val).queue.length < 1024)) ∧
    (∃ (s : State) (c : Fin 8) (k : Nat) (rise : Bool) (ev : TicEv) (i : Nat), (s.cycleReady = true) ∧ (s.tc.step = none) ∧ ((∀ p, p < 9 → (s.port p).taking = false)) ∧ ((∀ m, m < 8 → m = c.val ∨ (s.chan m).fresh = none)) ∧ ((s.chan c.val).fresh = some (k, rise)) ∧ (s.edgeOk c.val rise = true) ∧ (s.shut c.val = false) ∧ (s.held c.val = false) ∧ ((s.chan c.val).fencedN ≠ 2) ∧ (k < 1152) ∧ (s.convert c.val k = some (ev, i)) ∧ (s.effN Obj.tic_mode c.val = 1) ∧ (1024 ≤ (s.chan c.val).queue.length)) ∧
    (∃ (s : State) (c : Fin 8) (k : Nat) (rise : Bool) (ev : TicEv) (i : Nat), (s.cycleReady = true) ∧ (s.tc.step = none) ∧ ((∀ p, p < 9 → (s.port p).taking = false)) ∧ ((∀ m, m < 8 → m = c.val ∨ (s.chan m).fresh = none)) ∧ ((s.chan c.val).fresh = some (k, rise)) ∧ (s.edgeOk c.val rise = true) ∧ (s.shut c.val = false) ∧ (s.held c.val = false) ∧ ((s.chan c.val).fencedN ≠ 2) ∧ (k < 1152) ∧ (s.convert c.val k = some (ev, i)) ∧ (s.effN Obj.tic_mode c.val = 2) ∧ ((s.chan c.val).presc + 1 < s.effN Obj.tic_prescale c.val)) ∧
    (∃ (s : State) (c : Fin 8) (k : Nat) (rise : Bool), (s.cycleReady = true) ∧ (s.tc.step = none) ∧ ((∀ p, p < 9 → (s.port p).taking = false)) ∧ ((∀ m, m < 8 → m = c.val ∨ (s.chan m).fresh = none)) ∧ ((s.chan c.val).fresh = some (k, rise)) ∧ (s.shut c.val = true)) ∧
    (∃ (s : State) (c : Fin 17) (e : EdgeIn) (ev : TicEv) (i : Nat), (8 ≤ c.val) ∧ (c.val < 16) ∧ (s.effT Obj.ref_enable (c.val - 8) = false) ∧ (s.edgeOk c.val e.rise = true) ∧ (s.held c.val = false) ∧ ((s.chan c.val).fencedN ≠ 2) ∧ (e.k < 1152) ∧ (s.convert c.val e.k = some (ev, i))) :=
  ⟨⟨ws_ticCandidate, 3, { k := 5 }, by decide +kernel⟩,
    ⟨ws_ticSecond, 1, { k := 5 }, by decide +kernel⟩,
    ⟨ws_ticRecord, 1, 5, true, (match (({ tc := { running := true }, tic := { chans := Vector.replicate 17 { i0 := { state := 2 } } } } : State).convert 1 5) with | some e => e.1 | none => {}), 0, by decide +kernel⟩,
    ⟨ws_ticOverrun, 1, 5, true, (match (({ tc := { running := true }, tic := { chans := Vector.replicate 17 { i0 := { state := 2 } } } } : State).convert 1 5) with | some e => e.1 | none => {}), 0, by decide +kernel⟩,
    ⟨ws_ticPrescale, 1, 5, true, (match (({ tc := { running := true }, tic := { chans := Vector.replicate 17 { i0 := { state := 2 } } } } : State).convert 1 5) with | some e => e.1 | none => {}), 0, by decide +kernel⟩,
    ⟨ws_ticShut, 1, 5, true, by decide +kernel⟩,
    ⟨ws_ticRefOff, 9, { k := 5 }, (match (({ tc := { running := true }, tic := { chans := Vector.replicate 17 { i0 := { state := 2 } } } } : State).convert 9 5) with | some e => e.1 | none => {}), 0, by decide +kernel⟩⟩

/-- The hypotheses of each clause of TicWindows are met together. -/
theorem wit_TicWindows :
    (∃ (s : State) (g : Fin 3) (rise : Bool), (s.gateOpen g.val = false) ∧ ((g.val = 2 ∧ s.reaches s.periodInstant = true) ∨ (g.val ≠ 2 ∧ s.gateActive g.val rise = true))) ∧
    (∃ (s : State) (g : Fin 3) (rise : Bool), (s.gateOpen g.val = true ∨ (g.val = 2 ∧ s.reaches s.periodInstant = false) ∨ (g.val ≠ 2 ∧ s.gateActive g.val rise = false))) ∧
    (∃ (s : State) (g : Fin 3) (rise : Bool), (s.gateOpen g.val = true) ∧ ((g.val = 2 ∧ s.reaches s.periodInstant = true ∧ s.periodInstant ≠ s.tic.perAt) ∨ (g.val ≠ 2 ∧ s.gateActive g.val rise = false))) ∧
    (∃ (s : State) (g : Fin 3) (rise : Bool), (s.gateOpen g.val = false ∨ (g.val ≠ 2 ∧ s.gateActive g.val rise = true))) ∧
    (∃ (s : State) (g : Fin 3) (rise : Bool) (c : Fin 8) (a b : TicEv), (s.gateOpen g.val = true) ∧ ((g.val = 2 ∧ s.reaches s.periodInstant = true ∧ s.periodInstant ≠ s.tic.perAt) ∨ (g.val ≠ 2 ∧ s.gateActive g.val rise = false)) ∧ (s.effN Obj.tic_gate c.val = g.val + 1) ∧ (s.effN Obj.tic_mode c.val = 2) ∧ ((s.chan c.val).winOpen = true) ∧ ((s.chan c.val).fencedN ≠ 2) ∧ ((s.chan c.val).freqFirst = some a) ∧ ((s.chan c.val).freqLast = some b) ∧ (0 < (s.chan c.val).freqN) ∧ (s.tbSelected = false) ∧ ((s.chan c.val).queue.length < 1024)) :=
  ⟨⟨ws_winOpen, 0, true, by decide +kernel⟩,
    ⟨ws_winOpenNot, 0, false, by decide +kernel⟩,
    ⟨ws_winClose, 0, false, by decide +kernel⟩,
    ⟨ws_winCloseNot, 0, true, by decide +kernel⟩,
    ⟨ws_freqRecord, 0, false, 4, {}, { u := 2 ^ 60 }, by decide +kernel⟩⟩

/-- The hypotheses of each clause of TicOverflowTablesTimebase are met together. -/
theorem wit_TicOverflowTablesTimebase :
    (∃ (s : State) (d : Fin 8) (c : Fin 8) (k : Nat) (rise : Bool) (ev : TicEv) (i : Nat) (a : TicEv), (s.cycleReady = true) ∧ (s.tc.step = none) ∧ ((∀ p, p < 9 → (s.port p).taking = false)) ∧ ((∀ m, m < 8 → m = c.val ∨ (s.chan m).fresh = none)) ∧ ((s.chan c.val).fresh = some (k, rise)) ∧ (s.edgeOk c.val rise = true) ∧ (s.shut c.val = false) ∧ (s.held c.val = false) ∧ ((s.chan c.val).fencedN ≠ 2) ∧ (k < 1152) ∧ (s.convert c.val k = some (ev, i)) ∧ (s.effN Obj.tic_mode c.val ≠ 2) ∧ (s.effT Obj.tic_diff_enable d.val = true) ∧ ((s.diff d.val).winOpen = true) ∧ (s.effN Obj.tic_diff_stop d.val = c.val) ∧ (s.effN Obj.tic_diff_start d.val ≠ c.val) ∧ ((s.diff d.val).s = some a) ∧ ((s.diff d.val).p = none) ∧ ((s.diff d.val).pairs = 0) ∧ ((s.diff d.val).queue.length < 256) ∧ (s.tbSelected = false) ∧ ((s.diff d.val).overflowed a ev = false) ∧ (a.c ≠ ev.c)) ∧
    (∃ (s : State) (d : Fin 8) (c : Fin 8) (k : Nat) (rise : Bool) (ev : TicEv) (i : Nat) (a : TicEv), (s.cycleReady = true) ∧ (s.tc.step = none) ∧ ((∀ p, p < 9 → (s.port p).taking = false)) ∧ ((∀ m, m < 8 → m = c.val ∨ (s.chan m).fresh = none)) ∧ ((s.chan c.val).fresh = some (k, rise)) ∧ (s.edgeOk c.val rise = true) ∧ (s.shut c.val = false) ∧ (s.held c.val = false) ∧ ((s.chan c.val).fencedN ≠ 2) ∧ (k < 1152) ∧ (s.convert c.val k = some (ev, i)) ∧ (s.effN Obj.tic_mode c.val ≠ 2) ∧ (s.effT Obj.tic_diff_enable d.val = true) ∧ ((s.diff d.val).winOpen = true) ∧ (s.effN Obj.tic_diff_stop d.val = c.val) ∧ (s.effN Obj.tic_diff_start d.val ≠ c.val) ∧ ((s.diff d.val).s = some a) ∧ ((s.diff d.val).p = none) ∧ ((s.diff d.val).pairs = 0) ∧ ((s.diff d.val).queue.length < 256) ∧ ((s.diff d.val).overflowed a ev = true)) ∧
    (∃ (s : State) (d : Fin 8) (a : TicEv), ((s.diff d.val).first = some a) ∧ ((s.diff d.val).pairs = 0) ∧ (2 ^ 47 ≤ s.tc.cyc - a.c)) ∧
    (∃ (s : State) (d : Fin 8) (a : TicEv), ((s.diff d.val).first = some a) ∧ (s.tc.cyc - a.c < 2 ^ 47)) ∧
    (∃ (s : State) (c : Fin 17) (i : Fin 2) (hits : List Nat), (hits.length = 1152) ∧ (hits.sum = 2 ^ s.effN Obj.tic_cal_hits) ∧ (((s.chan c.val).interp i.val).state = 0) ∧ (tablePasses hits (2 ^ s.effN Obj.tic_cal_hits) = true)) ∧
    (∃ (s : State) (c : Fin 17) (i : Fin 2) (hits : List Nat), (hits.length = 1152) ∧ (hits.sum = 2 ^ s.effN Obj.tic_cal_hits) ∧ (((s.chan c.val).interp i.val).state = 0) ∧ (tablePasses hits (2 ^ s.effN Obj.tic_cal_hits) = false) ∧ (((s.chan c.val).interp i.val).fails = 0)) ∧
    (∃ (s : State) (c : Fin 17) (i : Fin 2) (hits : List Nat), (hits.length = 1152) ∧ (hits.sum = 2 ^ s.effN Obj.tic_cal_hits) ∧ (((s.chan c.val).interp i.val).state = 0) ∧ (tablePasses hits (2 ^ s.effN Obj.tic_cal_hits) = false) ∧ (((s.chan c.val).interp i.val).fails = 1) ∧ (CanRaise s (168 + 2 * c.val + i.val))) ∧
    (∃ (s : State) (c : Fin 17) (i : Fin 2) (hits : List Nat), (hits.length = 1152) ∧ (hits.sum = 2 ^ s.effN Obj.tic_cal_hits) ∧ (((s.chan c.val).interp i.val).state = 2) ∧ ((s.chan c.val).fencedN = 1) ∧ (4 * 2 ^ s.effN Obj.tic_cal_hits ≤ (s.chan c.val).quiet + State.quietGain s s c.val) ∧ (tablePasses hits (2 ^ s.effN Obj.tic_cal_hits) = true)) ∧
    (∃ (s : State) (c : Fin 17) (i : Fin 2) (hits : List Nat), (((s.chan c.val).interp i.val).state = 2) ∧ ((s.chan c.val).quiet + State.quietGain s s c.val < 4 * 2 ^ s.effN Obj.tic_cal_hits)) ∧
    (∃ (s : State), (s.tic.tbSince.isSome = true) ∧ (s.tic.tbRun = 0) ∧ (s.tbSelected = true) ∧ (s.tic.waits = []) ∧ (CanRaise s 245)) ∧
    (∃ (s : State), (s.tic.tbSince.isSome = true) ∧ (s.tic.tbRun = 0) ∧ (s.tbSelected = true) ∧ (CanRaise s 245)) ∧
    (∃ (s : State), (s.tbSelected = true) ∧ (s.valN Obj.tic_tb_state = 2) ∧ (s.passedO s.tic.tbSince oneSec = true)) :=
  ⟨⟨ws_diffPair, 2, 1, 5, true, (match (((((((({ tc := { running := true, cyc := 2 ^ 50 }, tic := { chans := Vector.replicate 17 { i0 := { state := 2 } }, diffs := Vector.replicate 8 { winOpen := true, s := some { c := 2 ^ 50 - 9 } } } } : State).setEff Obj.tic_mode 1 0 (.n 3)).setEff Obj.tic_diff_enable 2 0 (.n 1)).setEff Obj.tic_diff_start 2 0 (.n 0)).setEff Obj.tic_diff_stop 2 0 (.n 1)).setEff Obj.tic_gate 1 0 (.n 0)).modChan 1 (fun x => { x with fresh := some (5, true) })).convert 1 5) with | some e => e.1 | none => {}), 0, { c := 2 ^ 50 - 9 }, by decide +kernel⟩,
    ⟨ws_diffPairOvf, 2, 1, 5, true, (match (((((((({ tc := { running := true, cyc := 2 ^ 50 }, tic := { chans := Vector.replicate 17 { i0 := { state := 2 } }, diffs := Vector.replicate 8 { winOpen := true, s := some { c := 0 } } } } : State).setEff Obj.tic_mode 1 0 (.n 3)).setEff Obj.tic_diff_enable 2 0 (.n 1)).setEff Obj.tic_diff_start 2 0 (.n 0)).setEff Obj.tic_diff_stop 2 0 (.n 1)).setEff Obj.tic_gate 1 0 (.n 0)).modChan 1 (fun x => { x with fresh := some (5, true) })).convert 1 5) with | some e => e.1 | none => {}), 0, {}, by decide +kernel⟩,
    ⟨ws_diffOvf, 3, {}, by decide +kernel⟩,
    ⟨ws_diffOvfNot, 3, {}, by decide +kernel⟩,
    ⟨ws_tablePass, 2, 1, List.replicate 1024 1024 ++ List.replicate 128 0, by decide +kernel⟩,
    ⟨ws_tableFailFirst, 2, 1, 1048576 :: List.replicate 1151 0, by decide +kernel⟩,
    ⟨ws_tableFailSecond, 2, 1, 1048576 :: List.replicate 1151 0, by decide +kernel⟩,
    ⟨ws_tableSingle, 2, 1, List.replicate 1024 1024 ++ List.replicate 128 0, by decide +kernel⟩,
    ⟨ws_tableNotQuiet, 2, 1, List.replicate 1024 1024 ++ List.replicate 128 0, by decide +kernel⟩,
    ⟨ws_tbLoss, by decide +kernel⟩,
    ⟨ws_tbLossWaits, by decide +kernel⟩,
    ⟨ws_tbReturn, by decide +kernel⟩⟩

/-- The hypotheses of each clause of GnssAcquisition are met together. -/
theorem wit_GnssAcquisition :
    (∃ (s : State) (b : Fin 2), (s.gnssOn = true) ∧ ((s.gband b.val).due = true) ∧ (((s.bandEngines b.val).all fun e => !(vat s.gnss.engines e {}).dwelling) = true)) ∧
    (∃ (s : State) (b : Fin 2), ((s.gband b.val).due = false ∨ ((s.bandEngines b.val).any fun e => (vat s.gnss.engines e {}).dwelling) = true)) ∧
    (∃ (s : State) (e : Fin 16) (n : Fin 128), (s.gnssOn = true) ∧ ((vat s.gnss.engines e.val {}).chan = some n.val) ∧ ((vat s.gnss.engines e.val {}).dwelling = true) ∧ (s.passed (vat s.gnss.engines e.val {}).dwellAt (62500 * s.effN Obj.gnss_acq_coh * s.effN Obj.gnss_acq_noncoh) = true)) ∧
    (∃ (s : State) (e : Fin 16), ((vat s.gnss.engines e.val {}).chan = none ∨ (vat s.gnss.engines e.val {}).dwelling = false ∨ s.passed (vat s.gnss.engines e.val {}).dwellAt (62500 * s.effN Obj.gnss_acq_coh * s.effN Obj.gnss_acq_noncoh) = false)) ∧
    (∃ (s : State) (c : Fin 128), (s.roleRuns 2 = true) ∧ (s.gchState c.val = 2) ∧ (s.passedO (s.gch c.val).lockSince 100000000 = true)) ∧
    (∃ (s : State) (c : Fin 128), (s.roleRuns 2 = true) ∧ (s.gchState c.val = 2) ∧ (s.passed (s.gch c.val).since 1000000000 = true) ∧ (s.passedO (s.gch c.val).lockSince 100000000 = false) ∧ ((s.gch c.val).retried = false)) ∧
    (∃ (s : State) (c : Fin 128), (s.roleRuns 2 = true) ∧ (s.gchState c.val = 2) ∧ (s.passed (s.gch c.val).since 1000000000 = true) ∧ (s.passedO (s.gch c.val).lockSince 100000000 = false) ∧ ((s.gch c.val).retried = true)) ∧
    (∃ (s : State) (c : Fin 128), (s.roleRuns 2 = true) ∧ (s.gchState c.val = 5) ∧ (s.passed (s.gch c.val).since (s.effN Obj.gnss_coast_max * 1000000) = true)) ∧
    (∃ (s : State) (c : Fin 128), (s.gchState c.val ≠ 5)) :=
  ⟨⟨ws_gSnap, 1, by decide +kernel⟩,
    ⟨ws_gSnapNot, 1, by decide +kernel⟩,
    ⟨ws_gDwell, 3, 7, by decide +kernel⟩,
    ⟨ws_gIdle, 3, by decide +kernel⟩,
    ⟨ws_pLock, 9, by decide +kernel⟩,
    ⟨ws_pRetry, 9, by decide +kernel⟩,
    ⟨ws_pGiveUp, 9, by decide +kernel⟩,
    ⟨ws_cTimeout, 9, by decide +kernel⟩,
    ⟨ws_cStays, 9, by decide +kernel⟩⟩

/-- The hypotheses of each clause of GnssFrontEndAndInterference are met together. -/
theorem wit_GnssFrontEndAndInterference :
    (∃ (s : State) (b : Fin 2) (x : Byte), (s.gnssOn = true) ∧ ((match (s.gband b.val).agcAt with | some c => s.passed c 100000000 | none => true) = true) ∧ (s.effN Obj.gnss_agc_mode = 2) ∧ (8 * (s.gband b.val).squares.2 * (11 * s.effN Obj.gnss_agc_target) ^ 2 < 10000 * (s.gband b.val).squares.1) ∧ (0 < s.valN Obj.gnss_agc_gain b.val)) ∧
    (∃ (s : State) (b : Fin 2) (x : Byte), (s.gnssOn = true) ∧ ((match (s.gband b.val).agcAt with | some c => s.passed c 100000000 | none => true) = true) ∧ (s.effN Obj.gnss_agc_mode = 2) ∧ (10000 * (s.gband b.val).squares.1 < 8 * (s.gband b.val).squares.2 * (9 * s.effN Obj.gnss_agc_target) ^ 2) ∧ (s.valN Obj.gnss_agc_gain b.val < 255)) ∧
    (∃ (s : State) (b : Fin 2) (x : Byte), (s.gnssOn = true) ∧ ((match (s.gband b.val).agcAt with | some c => s.passed c 100000000 | none => true) = true) ∧ (s.effN Obj.gnss_agc_mode = 1)) ∧
    (∃ (s : State) (b : Fin 2) (x : Byte), (s.gnssOn = true) ∧ ((match (s.gband b.val).agcAt with | some c => s.passed c 100000000 | none => true) = true) ∧ (s.effN Obj.gnss_agc_mode = 0)) ∧
    (∃ (s : State) (b : Fin 2) (x : Byte) (c : Nat), ((s.gband b.val).agcAt = some c) ∧ (s.passed c 100000000 = false)) ∧
    (∃ (s : State) (b : Fin 2), (s.gnssOn = true) ∧ ((vat s.outs 12 {}).running = true) ∧ (s.bandBad b.val = true) ∧ (s.valN Obj.gnss_band_state b.val = 0) ∧ ((vat s.win.srcs (246 + b.val) {}).cond = false) ∧ (CanRaise s (246 + b.val))) ∧
    (∃ (s : State) (b : Fin 2), (s.bandBad b.val = false ∨ (vat s.outs 12 {}).running = false ∨ s.valN Obj.gnss_band_state b.val ≠ 0)) ∧
    (∃ (s : State) (b : Fin 2), (s.valN Obj.gnss_band_state b.val = 1) ∧ (s.bandBad b.val = false) ∧ (s.passed (s.gband b.val).failedAt 1000000000 = true)) ∧
    (∃ (s : State) (b : Fin 2), (s.valN Obj.gnss_band_state b.val ≠ 1 ∨ s.bandBad b.val = true)) ∧
    (∃ (s : State) (g : Fin 8), (s.gnssOn = true) ∧ (s.roleRuns 2 = true) ∧ (s.tc.tickNo % 8 = g.val) ∧ (vat s.gnss.dumpTick g.val 0 ≠ s.tc.boundaries) ∧ (s.groupDead g.val = false)) ∧
    (∃ (s : State) (g : Fin 8), (s.tc.tickNo % 8 ≠ g.val ∨ s.roleRuns 2 = false ∨ vat s.gnss.dumpTick g.val 0 = s.tc.boundaries)) ∧
    (∃ (s : State), (s.gnssOn = true) ∧ (s.gnss.indSec ≠ some s.tc.tickSec) ∧ (s.gnss.jumpBad = true) ∧ (s.gnss.badPos < 10) ∧ (s.effN Obj.gnss_agc_mode = 0) ∧ (((List.range 2).all fun b => (s.gband b).noiseHist.isEmpty) = true) ∧ (((List.range 128).all fun n => s.gchState n != 4) = true) ∧ (s.valN Obj.gnss_indicators = 0) ∧ (CanRaise s 249)) ∧
    (∃ (s : State), (s.gnss.indSec = some s.tc.tickSec)) ∧
    (∃ (s : State), ((s.valN Obj.gnss_indicators).testBit 7 = true) ∧ (s.passedO s.gnss.spoofClear (s.effN Obj.gnss_spoof_hold * 1000000000) = true)) ∧
    (∃ (s : State), ((s.valN Obj.gnss_indicators).testBit 7 = false ∨ s.gnss.spoofClear = none)) :=
  ⟨⟨ws_agcDown, 1, 0, by decide +kernel⟩,
    ⟨ws_agcUp, 1, 0, by decide +kernel⟩,
    ⟨ws_agcRead, 1, 77, by decide +kernel⟩,
    ⟨ws_agcOff, 1, 77, by decide +kernel⟩,
    ⟨ws_agcEarly, 1, 0, 0, by decide +kernel⟩,
    ⟨ws_bFail, 0, by decide +kernel⟩,
    ⟨ws_bFailNot, 0, by decide +kernel⟩,
    ⟨ws_bOk, 1, by decide +kernel⟩,
    ⟨ws_bNotYet, 1, by decide +kernel⟩,
    ⟨ws_dump, 0, by decide +kernel⟩,
    ⟨ws_dumpNot, 3, by decide +kernel⟩,
    ⟨ws_jump, by decide +kernel⟩,
    ⟨ws_indOnce, by decide +kernel⟩,
    ⟨ws_spoofEnd, by decide +kernel⟩,
    ⟨ws_spoofOn, by decide +kernel⟩⟩

/-- The hypotheses of each clause of GnssEpochs are met together. -/
theorem wit_GnssEpochs :
    (∃ (s : State), (s.gnssOn = true) ∧ (s.tc.tickNo = 0) ∧ (s.gnss.epochAt ≠ s.tc.boundaries) ∧ (s.gapNs s.tc.tickCyc = none)) ∧
    (∃ (s : State), (s.gnssOn = true) ∧ (s.tc.tickNo = 0) ∧ (s.gnss.epochAt ≠ s.tc.boundaries) ∧ (s.gapNs s.tc.tickCyc ≠ none)) ∧
    (∃ (s : State), (s.tc.tickNo ≠ 0 ∨ s.gnss.epochAt = s.tc.boundaries)) ∧
    (∃ (s : State), (s.gnssOn = true) ∧ (s.roleRuns 2 = true) ∧ (s.gnss.epochM = s.tc.tickSec) ∧ (s.gnss.epochOk = true) ∧ (s.gnss.solved = false) ∧ (s.tc.tickNo ≤ 3000)) ∧
    (∃ (s : State), (s.gnssOn = true) ∧ (s.roleRuns 2 = true) ∧ (s.gnss.epochM = s.tc.tickSec) ∧ (s.gnss.epochOk = true) ∧ (s.gnss.solved = false) ∧ (s.tc.tickNo ≤ 3000) ∧ (((List.range 128).all fun n => s.gchState n != 4) = true)) ∧
    (∃ (s : State), (s.gnss.solved = true ∨ 3000 < s.tc.tickNo ∨ s.gnss.epochOk = false ∨ s.roleRuns 2 = false)) ∧
    (∃ (s : State) (r : GnssReport), (s.gnssOn = true) ∧ (s.gnss.pubFor ≠ some (s.tc.tickSec + 1)) ∧ (s.gnss.pending = some r) ∧ (r.target = s.tc.tickSec + 1) ∧ (r.kind ≠ 0) ∧ (s.tc.tickNo ≤ 3000) ∧ (s.spoofed = false)) ∧
    (∃ (s : State), (s.gnssOn = true) ∧ (s.gnss.pubFor ≠ some (s.tc.tickSec + 1)) ∧ (s.gnss.pending = none) ∧ (3000 ≤ s.tc.tickNo)) ∧
    (∃ (s : State), (s.gnss.pubFor = some (s.tc.tickSec + 1))) ∧
    (∃ (s : State) (f : Nat) (e : Int), (s.gnss.pulse = some e) ∧ (s.gnssOn = true) ∧ (s.reaches e = true) ∧ ((vat s.outs 12 {}).running = true) ∧ (s.gnss.pulseLast ≠ some (e, s.steps))) ∧
    (∃ (s : State) (f : Nat), (s.gnss.pulse = none)) ∧
    (∃ (s : State) (f : Rat), (s.gnssOn = true) ∧ (s.effN Obj.gnss_pos_mode = 1) ∧ (s.valN Obj.gnss_survey_state = 1) ∧ (surveyFigure2 s.gnss.surveyAvg = some f) ∧ (s.passed s.gnss.surveyFrom (s.effN Obj.gnss_survey_time * 1000000000) = true) ∧ (f ≤ ((s.effN Obj.gnss_survey_acc * s.effN Obj.gnss_survey_acc : Nat) : Rat))) ∧
    (∃ (s : State), (s.valN Obj.gnss_survey_state ≠ 1)) ∧
    (∃ (s : State), (s.gnssOn = true) ∧ (s.roleRuns 2 = true) ∧ (s.passed s.gnss.storeFrom (s.effN Obj.gnss_store_interval * 1000000000) = true)) ∧
    (∃ (s : State), (s.gnssOn = false ∨ s.roleRuns 2 = false)) :=
  ⟨⟨ws_latch, by decide +kernel⟩,
    ⟨ws_latchGated, by decide +kernel⟩,
    ⟨ws_latchNot, by decide +kernel⟩,
    ⟨ws_solve, by decide +kernel⟩,
    ⟨ws_solveNone, by decide +kernel⟩,
    ⟨ws_solveNot, by decide +kernel⟩,
    ⟨ws_publish, { kind := 2, target := 1, used := 5 }, by decide +kernel⟩,
    ⟨ws_publishNone, by decide +kernel⟩,
    ⟨ws_publishOnce, by decide +kernel⟩,
    ⟨ws_rawPps, 1700, 0, by decide +kernel⟩,
    ⟨ws_rawPpsNone, 3, by decide +kernel⟩,
    ⟨ws_survey, 0, by decide +kernel⟩,
    ⟨ws_surveyNot, by decide +kernel⟩,
    ⟨ws_store, by decide +kernel⟩,
    ⟨ws_storeNot, by decide +kernel⟩⟩

/-- The hypotheses of each clause of LaneCalibration are met together. -/
theorem wit_LaneCalibration :
    (∃ (s : State) (l : Fin 13) (c : CalIn), (l.val < 9) ∧ (s.calState l.val = 1) ∧ (c.ok = true)) ∧
    (∃ (s : State) (l : Fin 13) (c : CalIn), (9 ≤ l.val) ∧ (s.calState l.val = 1) ∧ (c.ok = true)) ∧
    (∃ (s : State) (l : Fin 13) (c : CalIn), (l.val < 9) ∧ (s.calState l.val = 1) ∧ (c.ok = false) ∧ (CanRaise s (250 + l.val))) ∧
    (∃ (s : State) (l : Fin 13) (c : CalIn), (s.calState l.val ≠ 1)) ∧
    (∃ (s : State) (l : Fin 13), (9 ≤ l.val) ∧ (s.calState l.val = 1) ∧ (s.passed (s.lane l.val).calStart 50000000 = true) ∧ (CanRaise s (250 + l.val))) ∧
    (∃ (s : State) (l : Fin 13), (l.val < 9) ∧ (s.calState l.val = 1) ∧ (s.passed (s.lane l.val).calStart 50000000 = true) ∧ (CanRaise s (250 + l.val))) ∧
    (∃ (s : State) (l : Fin 13), (s.passed (s.lane l.val).calStart 50000000 = false)) :=
  ⟨⟨ws_calDone, 3, { rxVar := 70 }, by decide +kernel⟩,
    ⟨ws_calDoneC, 11, {}, by decide +kernel⟩,
    ⟨ws_calBad, 3, { ok := false }, by decide +kernel⟩,
    ⟨ws_calNot, 2, {}, by decide +kernel⟩,
    ⟨ws_calTimeout, 11, by decide +kernel⟩,
    ⟨ws_calTimeoutN, 2, by decide +kernel⟩,
    ⟨ws_calWait, 2, by decide +kernel⟩⟩

/-- The hypotheses of each clause of FrameReceive are met together. -/
theorem wit_FrameReceive :
    (∃ (s : State) (f : FrameIn), (((s.net.waiting.all fun g => !(g.kind == .ptp && (ptpIn g).other)) = true)) ∧ (s.linkUp f.port.val = false)) ∧
    (∃ (s : State) (f : FrameIn), (((s.net.waiting.all fun g => !(g.kind == .ptp && (ptpIn g).other)) = true)) ∧ (s.linkUp f.port.val = true) ∧ ((s.admitFrame f.port.val (cellsOf (s.effN Obj.mac_maxlen f.port.val + if f.port.val = 8 then 42 else 0))) = none)) ∧
    (∃ (s : State) (f : FrameIn), (((s.net.waiting.all fun g => !(g.kind == .ptp && (ptpIn g).other)) = true)) ∧ (s.linkUp f.port.val = true) ∧ ((s.admitFrame f.port.val (cellsOf (s.effN Obj.mac_maxlen f.port.val + if f.port.val = 8 then 42 else 0))).isSome = true) ∧ (f.codeErr = true)) ∧
    (∃ (s : State) (f : FrameIn), (((s.net.waiting.all fun g => !(g.kind == .ptp && (ptpIn g).other)) = true)) ∧ (s.linkUp f.port.val = true) ∧ ((s.admitFrame f.port.val (cellsOf (s.effN Obj.mac_maxlen f.port.val + if f.port.val = 8 then 42 else 0))).isSome = true) ∧ (f.codeErr = false) ∧ (f.bytes.length + 4 < 64)) ∧
    (∃ (s : State) (f : FrameIn), (((s.net.waiting.all fun g => !(g.kind == .ptp && (ptpIn g).other)) = true)) ∧ (s.linkUp f.port.val = true) ∧ ((s.admitFrame f.port.val (cellsOf (s.effN Obj.mac_maxlen f.port.val + if f.port.val = 8 then 42 else 0))).isSome = true) ∧ (f.codeErr = false) ∧ (f.fcsOk = true) ∧ (64 ≤ f.bytes.length + 4) ∧ (f.bytes.length + 4 ≤ (s.effN Obj.mac_maxlen f.port.val + if f.port.val = 8 then 42 else 0)) ∧ (f.port.val < 8) ∧ (field f.bytes 12 2 ≠ 0x8808) ∧ (isGroup (f.bytes.take 6) = false) ∧ (f.bytes.take 6 ≠ s.effB Obj.mac_address f.port.val) ∧ (s.addrConflict f.port.val f.bytes = false)) ∧
    (∃ (s : State) (f : FrameIn) (e : Option Nat), (((s.net.waiting.all fun g => !(g.kind == .ptp && (ptpIn g).other)) = true)) ∧ (s.linkUp f.port.val = true) ∧ ((s.admitFrame f.port.val (cellsOf (s.effN Obj.mac_maxlen f.port.val + if f.port.val = 8 then 42 else 0))).isSome = true) ∧ (f.codeErr = false) ∧ (f.fcsOk = true) ∧ (64 ≤ f.bytes.length + 4) ∧ (f.bytes.length + 4 ≤ (s.effN Obj.mac_maxlen f.port.val + if f.port.val = 8 then 42 else 0)) ∧ (f.port.val < 8) ∧ (s.addrConflict f.port.val f.bytes = false) ∧ ((match s.classify f.port.val f.bytes with | .take k e1 => k == .ntp && e1 == e | _ => false) = true)) :=
  ⟨⟨ws_rxDown, { port := 2, bytes := [] }, by decide +kernel⟩,
    ⟨ws_rxPool, { port := 2, bytes := [] }, by decide +kernel⟩,
    ⟨ws_rxCode, { port := 2, bytes := [], codeErr := true }, by decide +kernel⟩,
    ⟨ws_rxRunt, { port := 2, bytes := [] }, by decide +kernel⟩,
    ⟨ws_rxFilter, { port := 2, bytes := [0x02, 0x11] ++ List.replicate 62 0 }, by decide +kernel⟩,
    ⟨ws_rxNtp, { port := 2, bytes := [2, 0, 0, 0, 0, 1, 2, 0, 0, 0, 0, 2, 0x08, 0x00] ++ ipHeader 4 0 56 17 64 [10, 0, 0, 9] [10, 0, 0, 1] ++ [0x10, 0x00, 0x00, 0x7B, 0, 56, 0, 0] ++ zeros 48 }, some 0, by decide +kernel⟩⟩

/-- The hypotheses of each clause of HardwareAnswers are met together. -/
theorem wit_HardwareAnswers :
    (∃ (s : State) (f : RxFrame) (q : Nat), (s.nextRx .arp = some f) ∧ (f.port < 8) ∧ (s.effN Obj.mac_ctl_queue f.port = q) ∧ (q < 8) ∧ (cellsOf ((padTo 60 (s.arpReply f)).length + 4) ≤ s.freeCells f.port q)) ∧
    (∃ (s : State) (f : RxFrame) (q : Nat), (s.nextRx .nd = some f) ∧ (f.port < 8) ∧ (s.effN Obj.mac_ctl_queue f.port = q) ∧ (q < 8) ∧ (cellsOf ((padTo 60 (s.naReply f)).length + 4) ≤ s.freeCells f.port q)) ∧
    (∃ (s : State) (f : RxFrame) (q : Nat) (ip : IpHead), (s.nextRx .echo = some f) ∧ (f.port < 8) ∧ (s.effN Obj.mac_ctl_queue f.port = q) ∧ (q < 8) ∧ (parseIp f.bytes (parseEth f.bytes).et (parseEth f.bytes).off = some ip) ∧ ((s.port f.port).icmp < s.effN Obj.mac_icmp_rate f.port) ∧ (cellsOf ((padTo 60 (s.echoReply f ip)).length + 4) ≤ s.freeCells f.port q)) ∧
    (∃ (s : State) (f : RxFrame), (s.nextRx .echo = some f) ∧ (s.effN Obj.mac_icmp_rate f.port ≤ (s.port f.port).icmp)) ∧
    (∃ (s : State), (s.nextRx .arp = none)) ∧
    (∃ (s : State), (s.nextRx .nd = none)) ∧
    (∃ (s : State), (s.nextRx .echo = none)) :=
  ⟨⟨ws_arp, { kind := .arp, port := 3, bytes := [] }, 7, by decide +kernel⟩,
    ⟨ws_nd, { kind := .nd, port := 3, bytes := [] }, 7, by decide +kernel⟩,
    ⟨ws_echo, { kind := .echo, port := 3, bytes := (zeros 12 ++ [8, 0] ++ ipHeader 4 0 28 1 64 [10, 0, 0, 9] [10, 0, 0, 1] ++ [8, 0, 0, 0, 1, 2, 3, 4] ++ zeros 20) }, 7, ((parseIp (zeros 12 ++ [8, 0] ++ ipHeader 4 0 28 1 64 [10, 0, 0, 9] [10, 0, 0, 1] ++ [8, 0, 0, 0, 1, 2, 3, 4] ++ zeros 20) 0x800 14).getD { fam := 0, src := [], dst := [], proto := 0, l4 := 0, len := 0, odd := false, sumOk := false, tos := 0 }), by decide +kernel⟩,
    ⟨ws_echoLimit, { kind := .echo, port := 3 }, by decide +kernel⟩,
    ⟨ws_arpNone, by decide +kernel⟩,
    ⟨ws_ndNone, by decide +kernel⟩,
    ⟨ws_echoNone, by decide +kernel⟩⟩

/-- The hypotheses of each clause of PauseHolds are met together. -/
theorem wit_PauseHolds :
    (∃ (s : State) (f : RxFrame), (s.nextRx .pause = some f) ∧ (s.effN Obj.mac_pause_mode f.port = 0)) ∧
    (∃ (s : State) (f : RxFrame), (s.nextRx .pause = some f) ∧ (f.port < 9) ∧ (s.effN Obj.mac_pause_mode f.port = 1) ∧ ((s.port f.port).pauseFrom = none) ∧ ((s.port f.port).pauseOwed = false ∨ (s.port f.port).hasFrame = false) ∧ (0 < s.quantaPs f.port (field f.bytes 16 2))) ∧
    (∃ (s : State), (s.nextRx .pause = none)) ∧
    (∃ (s : State) (p : Fin 9) (a : Nat), ((s.port p.val).pauseFrom = some a) ∧ ((s.port p.val).pauseEnd ≤ 2000 * s.tc.cyc)) ∧
    (∃ (s : State) (p : Fin 9), ((s.port p.val).pauseFrom = none)) :=
  ⟨⟨ws_pauseOff, { kind := .pause, port := 3, bytes := List.replicate 16 0 ++ [1, 0] }, by decide +kernel⟩,
    ⟨ws_pauseOn, { kind := .pause, port := 3, bytes := List.replicate 16 0 ++ [1, 0] }, by decide +kernel⟩,
    ⟨ws_pauseNone, by decide +kernel⟩,
    ⟨ws_holdEnds, 3, 1, by decide +kernel⟩,
    ⟨ws_holdOn, 3, by decide +kernel⟩⟩

/-- The hypotheses of each clause of LinksUpAndDown are met together. -/
theorem wit_LinksUpAndDown :
    (∃ (s : State) (p : Fin 9) (held : Nat) (neg : Fin 3), (s.effN Obj.mac_up_delay p.val ≤ held) ∧ (s.macsRun = true) ∧ (s.mode p.val ≠ 0) ∧ (s.linkUp p.val = false) ∧ (neg = 0 ∨ s.negotiates p.val = false)) ∧
    (∃ (s : State) (p : Fin 9) (held : Nat), (held < s.effN Obj.mac_up_delay p.val) ∧ (((List.range 4).all fun i => !s.effT Obj.ptp_enable i && s.valN Obj.ptp_slave_state i == 0) = true)) ∧
    (∃ (s : State) (p : Fin 9) (held : Nat), (s.macsRun = true) ∧ (s.mode p.val = 5) ∧ (s.negotiates p.val = true) ∧ (s.linkUp p.val = false) ∧ (((List.range 4).all fun i => !s.effT Obj.ptp_enable i && s.valN Obj.ptp_slave_state i == 0) = true)) ∧
    (∃ (s : State) (p : Fin 9) (held : Nat), (s.macsRun = true) ∧ (s.negotiates p.val = true) ∧ (s.linkUp p.val = false) ∧ (((List.range 4).all fun i => !s.effT Obj.ptp_enable i && s.valN Obj.ptp_slave_state i == 0) = true)) ∧
    (∃ (s : State) (p : Fin 9) (failed : Nat), (s.linkUp p.val = true) ∧ (s.effN Obj.mac_down_delay p.val ≤ failed) ∧ (s.mode p.val ≠ 0) ∧ ((vat s.win.srcs (263 + p.val) {}).cond = false) ∧ (CanRaise s (263 + p.val))) ∧
    (∃ (s : State) (p : Fin 9) (failed : Nat), (s.linkUp p.val = false ∨ failed < s.effN Obj.mac_down_delay p.val) ∧ (((List.range 4).all fun i => !s.effT Obj.ptp_enable i && s.valN Obj.ptp_slave_state i == 0) = true)) :=
  ⟨⟨ws_linkUp, 2, 10 ^ 6, 1, by decide +kernel⟩,
    ⟨ws_linkEarly, 2, 99, by decide +kernel⟩,
    ⟨ws_linkSpeed, 2, 0, by decide +kernel⟩,
    ⟨ws_linkNeg, 2, 0, by decide +kernel⟩,
    ⟨ws_linkDown, 2, 10 ^ 9, by decide +kernel⟩,
    ⟨ws_linkStays, 2, 0, by decide +kernel⟩⟩

/-- The hypotheses of each clause of HostFrames are met together. -/
theorem wit_HostFrames :
    (∃ (s : State) (f : RxFrame), (s.nextRx .send = some f) ∧ ((s.checkSend f.bytes).isNone = true)) ∧
    (∃ (s : State) (f : RxFrame) (p : Nat) (x : TxFrame), (s.nextRx .send = some f) ∧ (f.port = 8) ∧ (s.checkSend f.bytes = some (p, x)) ∧ (s.linkUp p = true) ∧ (cellsOf ((padTo 60 x.bytes).length + 4) ≤ s.freeCells p x.queue)) ∧
    (∃ (s : State) (f : RxFrame) (p : Nat) (x : TxFrame), (s.nextRx .send = some f) ∧ (s.checkSend f.bytes = some (p, x)) ∧ (s.linkUp p = false)) ∧
    (∃ (s : State) (f : RxFrame) (p : Nat) (x : TxFrame), (s.nextRx .send = some f) ∧ (s.checkSend f.bytes = some (p, x)) ∧ (s.freeCells p x.queue < cellsOf ((padTo 60 x.bytes).length + 4))) ∧
    (∃ (s : State), (s.nextRx .send = none)) :=
  ⟨⟨ws_sendBad, { kind := .send, port := 8 }, by decide +kernel⟩,
    ⟨ws_sendGood, { kind := .send, port := 8, bytes := zeros 14 ++ [1, 2, 3, 5, 0, 60, 0, 7, 1, 0, 0, 0, 0xFF, 0xFF] ++ zeros 10 ++ zeros 60 }, 3, { bytes := zeros 60, queue := 5, tag := 7, stampReq := true, note := .host }, by decide +kernel⟩,
    ⟨ws_sendDown, { kind := .send, port := 8, bytes := zeros 14 ++ [1, 2, 3, 5, 0, 60, 0, 7, 1, 0, 0, 0, 0xFF, 0xFF] ++ zeros 10 ++ zeros 60 }, 3, { bytes := zeros 60, queue := 5, tag := 7, stampReq := true, note := .host }, by decide +kernel⟩,
    ⟨ws_sendNoRoom, { kind := .send, port := 8, bytes := zeros 14 ++ [1, 2, 3, 5, 0, 60, 0, 7, 1, 0, 0, 0, 0xFF, 0xFF] ++ zeros 10 ++ zeros 60 }, 3, { bytes := zeros 60, queue := 5, tag := 7, stampReq := true, note := .host }, by decide +kernel⟩,
    ⟨ws_sendNone, by decide +kernel⟩⟩

/-- The hypotheses of each clause of LaunchCheck are met together. -/
theorem wit_LaunchCheck :
    (∃ (s : State) (p : Fin 9) (e : CalEntry), (s.dueEntry p.val true = some e) ∧ (e.ready = true) ∧ (s.inHold p.val e.t = false) ∧ (s.tod ≤ e.t) ∧ (s.tooOld e.frame e.t = false) ∧ (e.frame.steps = s.steps)) ∧
    (∃ (s : State) (p : Fin 9) (e : CalEntry), (s.dueEntry p.val true = some e) ∧ (e.ready = false ∨ (e.frame.steps = s.steps ∧ (s.inHold p.val e.t = true ∨ e.t < s.tod ∨ s.tooOld e.frame e.t = true)))) ∧
    (∃ (s : State) (p : Fin 9) (e : CalEntry), (s.dueEntry p.val true = some e) ∧ (e.ready = true) ∧ (e.frame.steps ≠ s.steps)) ∧
    (∃ (s : State) (p : Fin 9), (s.dueEntry p.val true = none)) :=
  ⟨⟨ws_lcCommit, 3, { reserved := true }, by decide +kernel⟩,
    ⟨ws_lcLate, 3, { reserved := true, ready := false }, by decide +kernel⟩,
    ⟨ws_lcStepped, 3, { reserved := true, frame := { steps := 4 } }, by decide +kernel⟩,
    ⟨ws_lcNone, 3, by decide +kernel⟩⟩

/-- The hypotheses of each clause of UntimedFrames are met together. -/
theorem wit_UntimedFrames :
    (∃ (s : State) (p : Fin 9) (f : TxFrame) (r : List TxFrame), (s.linkUp p.val = true) ∧ ((s.port p.val).cal = []) ∧ (s.paused p.val = false) ∧ (p.val < 8) ∧ (s.effT Obj.sched_privileged p.val = true) ∧ (s.eligibleQ p.val 0 = true) ∧ ((s.queue p.val 0).fifo = f :: r) ∧ (f.stampReq = false)) ∧
    (∃ (s : State) (p : Fin 9) (q : Fin 8) (f : TxFrame), (s.linkUp p.val = true) ∧ ((s.port p.val).cal = []) ∧ (s.paused p.val = false) ∧ (s.effT Obj.sched_privileged p.val = false) ∧ ((s.port p.val).active = []) ∧ (((List.range 8).all fun k => k == q.val || (s.queue p.val k).fifo.isEmpty) = true) ∧ (s.eligibleQ p.val q.val = true) ∧ ((s.queue p.val q.val).fifo = [f]) ∧ (f.stampReq = false) ∧ (f.len ≤ s.effN Obj.sched_quantum p.val q.val)) ∧
    (∃ (s : State) (p : Fin 9), (s.linkUp p.val = false) ∧ ((s.port p.val).cal = [])) ∧
    (∃ (s : State) (p : Fin 9) (e : CalEntry), (s.dueEntry p.val false = some e) ∧ (s.inHold p.val e.t = false) ∧ (s.tod ≤ e.t) ∧ ((match e.frame.note with | .ntp _ => e.frame.steps == s.steps | _ => true) = true) ∧ (s.tooOld e.frame e.t = false)) ∧
    (∃ (s : State) (p : Fin 9) (e : CalEntry) (i : Nat), (s.dueEntry p.val false = some e) ∧ (s.inHold p.val e.t = false) ∧ (s.tod ≤ e.t) ∧ (e.frame.note = .ntp i) ∧ (e.frame.steps ≠ s.steps)) ∧
    (∃ (s : State) (p : Fin 9) (e : CalEntry) (u k : Nat), (s.dueEntry p.val false = some e) ∧ (s.inHold p.val e.t = false) ∧ (s.tod ≤ e.t) ∧ (e.frame.note = .general u k) ∧ (s.tooOld e.frame e.t = true)) ∧
    (∃ (s : State) (p : Fin 9), (s.dueEntry p.val false = none)) :=
  ⟨⟨ws_upStrict, 3, {}, [], by decide +kernel⟩,
    ⟨ws_upDrr, 3, 2, {}, by decide +kernel⟩,
    ⟨ws_upDown, 3, by decide +kernel⟩,
    ⟨ws_ucCommit, 3, { frame := { note := .answer } }, by decide +kernel⟩,
    ⟨ws_ucStepped, 3, { frame := { note := .ntp 2, steps := 4 } }, 2, by decide +kernel⟩,
    ⟨ws_ucTooOld, 3, { frame := { note := .general 0 1, born := some (0, 0) } }, 0, 1, by decide +kernel⟩,
    ⟨ws_ucNone, 3, by decide +kernel⟩⟩

/-- The hypotheses of each clause of DepartureAndStampQueue are met together. -/
theorem wit_DepartureAndStampQueue :
    (∃ (s : State) (p : Fin 9) (w : WordIn) (e : CalEntry) (c : Tod) (m : TodMark) (u : LaneUse), (s.nextCrossing p.val = some e) ∧ (s.txTime p.val (s.mode p.val) w = (c, m, u)) ∧ (s.asPredicted p.val e c = true) ∧ (e.frame.note = .host) ∧ (e.frame.stampReq = true) ∧ ((s.port p.val).pauseOwed = false)) ∧
    (∃ (s : State) (p : Fin 9) (w : WordIn), (((s.nextCrossing p.val).all fun e => !s.asPredicted p.val e (s.txTime p.val (s.mode p.val) w).1) = true)) ∧
    (∃ (s : State) (p : Fin 8) (e : StampEntry) (r : List StampEntry), ((s.port p.val).fifoStamp = e :: r) ∧ (e.done = true)) ∧
    (∃ (s : State) (p : Fin 8), ((match (s.port p.val).fifoStamp with | e :: _ => e.done | [] => false) = false)) ∧
    (∃ (s : State) (p : Fin 8) (l : List StampEntry), ((l = (s.port p.val).fifoStamp.filter fun e => e.done && decide (e.doneAt + s.effN Obj.stamp_age_ticks ≤ s.tc.boundaries))) ∧ (l ≠ [])) ∧
    (∃ (s : State) (p : Fin 8) (e : StampEntry) (r : List StampEntry), (s.effN Obj.stamp_delivery = 1) ∧ ((s.port p.val).fifoStamp = e :: r) ∧ (e.done = true) ∧ (s.linkUp 8 = true) ∧ ((s.attonOut s.pushBack (s.stampPushMsg p.val e)).isSome = true)) ∧
    (∃ (s : State) (p : Fin 8), (s.effN Obj.stamp_delivery ≠ 1)) :=
  ⟨⟨ws_depart, 3, {}, { committed := true, frame := { stampReq := true } }, (({ net := { ports := Vector.replicate 9 { fifoStamp := [{}], cal := [{ committed := true, frame := { stampReq := true } }] } } } : State).txTime 3 (({ net := { ports := Vector.replicate 9 { fifoStamp := [{}], cal := [{ committed := true, frame := { stampReq := true } }] } } } : State).mode 3) {}).1, (({ net := { ports := Vector.replicate 9 { fifoStamp := [{}], cal := [{ committed := true, frame := { stampReq := true } }] } } } : State).txTime 3 (({ net := { ports := Vector.replicate 9 { fifoStamp := [{}], cal := [{ committed := true, frame := { stampReq := true } }] } } } : State).mode 3) {}).2.1, (({ net := { ports := Vector.replicate 9 { fifoStamp := [{}], cal := [{ committed := true, frame := { stampReq := true } }] } } } : State).txTime 3 (({ net := { ports := Vector.replicate 9 { fifoStamp := [{}], cal := [{ committed := true, frame := { stampReq := true } }] } } } : State).mode 3) {}).2.2, by decide +kernel⟩,
    ⟨ws_departNone, 3, {}, by decide +kernel⟩,
    ⟨ws_popDone, 3, { done := true }, [{ seq := 1 }], by decide +kernel⟩,
    ⟨ws_popEmpty, 3, by decide +kernel⟩,
    ⟨ws_retire, 3, [{ done := true }], by decide +kernel⟩,
    ⟨ws_push, 3, { done := true }, [{ seq := 1 }], by decide +kernel⟩,
    ⟨ws_pushOff, 3, by decide +kernel⟩⟩

/-- The hypotheses of each clause of NtpService are met together. -/
theorem wit_NtpService :
    (∃ (s : State) (f : RxFrame) (ip : IpHead) (b : Bytes), ((s.net.waiting.find? fun f => f.kind == .ntp && rxNtpClass f != .nts) = some f) ∧ (rxUdp f = some (ip, b)) ∧ (s.thresherUp = true) ∧ (ntpClass b = .legacy) ∧ (s.effN Obj.ntp_unsupported = 0)) ∧
    (∃ (s : State) (f : RxFrame) (ip : IpHead) (b : Bytes), ((s.net.waiting.find? fun f => f.kind == .ntp && rxNtpClass f != .nts) = some f) ∧ (rxUdp f = some (ip, b)) ∧ (s.thresherUp = true) ∧ (ntpClass b = .badVersion)) ∧
    (∃ (s : State) (f : RxFrame) (ip : IpHead) (b : Bytes), ((s.net.waiting.find? fun f => f.kind == .ntp && rxNtpClass f != .nts) = some f) ∧ (rxUdp f = some (ip, b)) ∧ (s.thresherUp = true) ∧ (ntpClass b = .badMode)) ∧
    (∃ (s : State) (f : RxFrame) (ip : IpHead) (b : Bytes), ((s.net.waiting.find? fun f => f.kind == .ntp && rxNtpClass f != .nts) = some f) ∧ (rxUdp f = some (ip, b)) ∧ (s.thresherUp = true) ∧ (ntpClass b = .malformed)) ∧
    (∃ (s : State) (f : RxFrame) (ip : IpHead) (b : Bytes) (q : Nat), ((s.net.waiting.find? fun f => f.kind == .ntp && rxNtpClass f != .nts) = some f) ∧ (rxUdp f = some (ip, b)) ∧ (s.thresherUp = true) ∧ (ntpClass b = .plain) ∧ (f.port < 8) ∧ (q = s.effN Obj.ntp_queue (s.ntpUnit f)) ∧ (q < 8) ∧ (s.effT Obj.pol_enable = false) ∧ (s.ntpCells f ip 48 ≤ s.freeCells f.port q) ∧ (cellsOf ((padTo 60 (s.ntpFrame f ip (s.ntpHeader f b 0 s.tod))).length + 4) ≤ s.freeCells f.port q)) ∧
    (∃ (s : State), ((s.net.waiting.find? fun f => f.kind == .ntp && rxNtpClass f != .nts) = none)) :=
  ⟨⟨ws_ntpLegacy, wRx .ntp (wUdp 123 ([0x26] ++ zeros 7)), wIp ([0x26] ++ zeros 7), ([0x26] ++ zeros 7), by decide +kernel⟩,
    ⟨ws_ntpVersion, wRx .ntp (wUdp 123 ([0x0B] ++ zeros 47)), wIp ([0x0B] ++ zeros 47), ([0x0B] ++ zeros 47), by decide +kernel⟩,
    ⟨ws_ntpMode, wRx .ntp (wUdp 123 ([0x24] ++ zeros 47)), wIp ([0x24] ++ zeros 47), ([0x24] ++ zeros 47), by decide +kernel⟩,
    ⟨ws_ntpMalformed, wRx .ntp (wUdp 123 ([0x23] ++ zeros 40)), wIp ([0x23] ++ zeros 40), ([0x23] ++ zeros 40), by decide +kernel⟩,
    ⟨ws_ntpPlain, wRx .ntp (wUdp 123 wNtp), wIp wNtp, wNtp, 0, by decide +kernel⟩,
    ⟨ws_ntpNone, by decide +kernel⟩⟩

/-- The hypotheses of each clause of NtsService are met together. -/
theorem wit_NtsService :
    (∃ (s : State) (f : RxFrame) (ip : IpHead) (b : Bytes), ((s.net.waiting.find? fun f => f.kind == .ntp && rxNtpClass f == .nts) = some f) ∧ (rxUdp f = some (ip, b)) ∧ (s.thresherUp = true) ∧ (s.ntpCells f ip b.length ≤ s.freeCells f.port (s.effN Obj.ntp_queue (s.ntpUnit f))) ∧ (s.effT Obj.nts_enable = false)) ∧
    (∃ (s : State) (f : RxFrame) (ip : IpHead) (b : Bytes), ((s.net.waiting.find? fun f => f.kind == .ntp && rxNtpClass f == .nts) = some f) ∧ (rxUdp f = some (ip, b)) ∧ (s.thresherUp = true) ∧ (s.ntpCells f ip b.length ≤ s.freeCells f.port (s.effN Obj.ntp_queue (s.ntpUnit f))) ∧ (s.effT Obj.nts_enable = true) ∧ (ntsParse b = none)) ∧
    (∃ (s : State) (f : RxFrame) (ip : IpHead) (b : Bytes) (r : NtsReq) (k : Nat × KeySlot) (c2s s2c : Bytes) (h n : Nat) (w : Int), ((s.net.waiting.find? fun f => f.kind == .ntp && rxNtpClass f == .nts) = some f) ∧ (rxUdp f = some (ip, b)) ∧ (s.thresherUp = true) ∧ (s.ntpCells f ip b.length ≤ s.freeCells f.port (s.effN Obj.ntp_queue (s.ntpUnit f))) ∧ (f.port < 8) ∧ (s.effT Obj.nts_enable = true) ∧ (ntsParse b = some r) ∧ (s.effT Obj.pol_enable = false) ∧ (s.cookieSlot r = some k) ∧ (ntsOpen k.2.key b r = .ok c2s s2c h) ∧ (n = s.ntsCount b r h) ∧ (w = s.wireTime f.port (max 64 (s.ntpFront f ip + 84 + r.uid.length + 104 * n + 4)))) ∧
    (∃ (s : State) (job : Nat) (j : FlailJob) (ip : IpHead) (b : Bytes) (r : NtsReq) (c2s s2c : Bytes) (h n u : Nat), (s.net.flail.jobs.find? (fun x => x.id == job) = some j) ∧ (j.doneAt ≤ s.tod) ∧ (((s.net.flail.jobs.find? fun x => x.sha == j.sha && x.pipe == j.pipe).map FlailJob.id) = some j.id) ∧ (j.work = .nts n u) ∧ (rxUdp j.req = some (ip, b)) ∧ (ntsParse b = some r) ∧ (ntsOpen j.key b r = .ok c2s s2c h) ∧ (((s.port j.port).cal.any fun e => e.frame.id == j.id) = true)) ∧
    (∃ (s : State) (job : Nat), (s.net.flail.jobs.find? (fun x => x.id == job) = none)) ∧
    (∃ (s : State), ((s.net.waiting.find? fun f => f.kind == .ntp && rxNtpClass f == .nts) = none)) :=
  ⟨⟨ws_ntsOff, wRx .ntp (wUdp 123 wNts), wIp wNts, wNts, by decide +kernel⟩,
    ⟨ws_ntsBad, wRx .ntp (wUdp 123 (wNtp ++ [1, 4, 0, 36] ++ zeros 32)), wIp (wNtp ++ [1, 4, 0, 36] ++ zeros 32), wNtp ++ [1, 4, 0, 36] ++ zeros 32, by decide +kernel⟩,
    ⟨wNtsState, wRx .ntp (wUdp 123 wNts), wIp wNts, wNts, wNtsReq, (3, wSlot), zeros 32, zeros 32, 0, 1, wNtsState.wireTime 2 (max 64 (wNtsState.ntpFront (wRx .ntp (wUdp 123 wNts)) (wIp wNts) + 84 + 36 + 104 + 4)), by decide +kernel⟩,
    ⟨ws_jobDone, 5, { id := 5, port := 2, work := .nts 1 0, key := zeros 32, mint := zeros 32, mintId := 7, mintSlot := 3, slot := 3, req := wRx .ntp (wUdp 123 wNts) }, wIp wNts, wNts, wNtsReq, zeros 32, zeros 32, 0, 1, 0, by decide +kernel⟩,
    ⟨ws_jobNone, 5, by decide +kernel⟩,
    ⟨ws_ntsNone, by decide +kernel⟩⟩

/-- The hypotheses of each clause of SmearPolicerDrain are met together. -/
theorem wit_SmearPolicerDrain :
    (∃ (s : State) (i : Fin 4) (k l : Int), (s.leapEff = some (k, l)) ∧ ((s.smear i.val).held = false) ∧ (s.effN Obj.ntp_timescale i.val = 1) ∧ (s.tickTod = l - s.effN Obj.ntp_smear_window i.val * secU / 2)) ∧
    (∃ (s : State) (i : Fin 4), (s.leapEff = none)) ∧
    (∃ (s : State) (i : Fin 4), ((s.smear i.val).held = true) ∧ ((s.smear i.val).unwind = none) ∧ (s.tickTod < (s.smear i.val).leap) ∧ (s.tc.lastLeap = none) ∧ (s.leapEff = none)) ∧
    (∃ (s : State) (i : Fin 4), ((s.smear i.val).held = false)) ∧
    (∃ (s : State) (i : Fin 4), ((s.smear i.val).held = true) ∧ ((s.smear i.val).unwind = none) ∧ ((s.smear i.val).start + (s.smear i.val).w ≤ s.tickTod)) ∧
    (∃ (s : State) (i : Fin 4), ((s.smear i.val).held = false)) ∧
    (∃ (s : State), (s.net.policer.entries.Pairwise (fun a b => a.1 < b.1))) ∧
    (∃ (s : State) (l b : Nat), (s.net.drains = [(9, l, b)]) ∧ (l < 4) ∧ (b + 2 ≤ s.tc.boundaries) ∧ (s.linkRuns l = false)) ∧
    (∃ (s : State) (l b : Nat), (s.net.drains = [(9, l, b)]) ∧ (b + 2 ≤ s.tc.boundaries) ∧ (s.linkRuns l = true)) ∧
    (∃ (s : State), (((s.net.drains.filter fun d => decide (d.2.2 + 2 ≤ s.tc.boundaries)) = []))) :=
  ⟨⟨ws_smStart, 2, 1, 100000 * secU, by decide +kernel⟩,
    ⟨ws_smNoLeap, 2, by decide +kernel⟩,
    ⟨ws_smUnwind, 2, by decide +kernel⟩,
    ⟨ws_smNoUnwind, 2, by decide +kernel⟩,
    ⟨ws_smEnd, 2, by decide +kernel⟩,
    ⟨ws_smNoEnd, 2, by decide +kernel⟩,
    ⟨ws_polSweep, by decide +kernel⟩,
    ⟨ws_drainLink, 2, 7, by decide +kernel⟩,
    ⟨ws_drainLinkRuns, 2, 7, by decide +kernel⟩,
    ⟨ws_drainNone, by decide +kernel⟩⟩

/-- The hypotheses of each clause of PtpMaster are met together. -/
theorem wit_PtpMaster :
    (∃ (s : State) (i : Fin 4) (p : Fin 8) (b : Bytes) (off q : Nat), (s.masterUp i.val p.val = true) ∧ (s.effN Obj.ptp_mode i.val < 2) ∧ (s.tod - (lastInstant s.tod 0 (logTod (s.effI Obj.ptp_log_announce i.val))) < tickU) ∧ (vat (s.ptp i.val).annAt p.val 0 ≠ (lastInstant s.tod 0 (logTod (s.effI Obj.ptp_log_announce i.val)))) ∧ (s.effN Obj.ptp_auth_mode i.val = 0) ∧ (s.ptpFrame i.val p.val false (s.ptpGroup i.val false) 0 (s.announceMsg i.val p.val false (vat (s.ptp i.val).annSeq p.val 0) (s.effI Obj.ptp_log_announce i.val)) = some (b, off)) ∧ (s.effN Obj.ptp_queue i.val = q) ∧ (q < 8) ∧ (cellsOf ((padTo 60 b).length + 4) ≤ s.freeCells p.val q)) ∧
    (∃ (s : State) (i : Fin 4) (p : Fin 8), (s.masterUp i.val p.val = false ∨ 2 ≤ s.effN Obj.ptp_mode i.val ∨ tickU ≤ s.tod - (lastInstant s.tod 0 (logTod (s.effI Obj.ptp_log_announce i.val))) ∨ vat (s.ptp i.val).annAt p.val 0 = (lastInstant s.tod 0 (logTod (s.effI Obj.ptp_log_announce i.val))))) ∧
    (∃ (s : State) (i : Fin 4) (p : Fin 8) (b : Bytes) (off q : Nat), (s.masterUp i.val p.val = true) ∧ (s.effN Obj.ptp_mode i.val < 2) ∧ (s.gptp i.val = false) ∧ (s.tod - (lastInstant s.tod 0 (logTod (s.effI Obj.ptp_log_sync i.val))) < tickU) ∧ (vat (s.ptp i.val).syncAt p.val 0 ≠ (lastInstant s.tod 0 (logTod (s.effI Obj.ptp_log_sync i.val)))) ∧ (s.effN Obj.ptp_auth_mode i.val = 0) ∧ (s.effN Obj.ptp_step_mode i.val = 0) ∧ (s.ptpFrame i.val p.val true (s.ptpGroup i.val false) 0 (s.syncMsg i.val p.val false false (vat (s.ptp i.val).syncSeq p.val 0) (s.effI Obj.ptp_log_sync i.val) 0 (zeros 10)) = some (b, off)) ∧ (s.effN Obj.ptp_queue i.val = q) ∧ (q < 8) ∧ (cellsOf ((padTo 60 b).length + 4) ≤ s.freeCells p.val q)) ∧
    (∃ (s : State) (i : Fin 4) (p : Fin 8), (s.masterUp i.val p.val = false ∨ 2 ≤ s.effN Obj.ptp_mode i.val ∨ (s.gptp i.val = true ∧ s.asCapable i.val p.val = false) ∨ tickU ≤ s.tod - (lastInstant s.tod 0 (logTod (s.effI Obj.ptp_log_sync i.val))) ∨ vat (s.ptp i.val).syncAt p.val 0 = (lastInstant s.tod 0 (logTod (s.effI Obj.ptp_log_sync i.val))))) ∧
    (∃ (s : State) (i : Fin 4) (p : Fin 8) (e : Fup), ((s.ptp i.val).fups.find? (fun e => e.port == p.val && e.type == mFollowUp) = some e) ∧ (s.linkUp p.val = true) ∧ (e.queue < 8) ∧ (cellsOf ((padTo 60 e.bytes).length + 4) ≤ (s.dropFup i.val e).freeCells p.val e.queue)) ∧
    (∃ (s : State) (i : Fin 4) (p : Fin 8) (e : Fup), ((s.ptp i.val).fups.find? (fun e => e.port == p.val && e.type == mFollowUp) = some e) ∧ (s.linkUp p.val = false ∨ (s.dropFup i.val e).freeCells p.val e.queue < cellsOf ((padTo 60 e.bytes).length + 4))) ∧
    (∃ (s : State) (i : Fin 4) (p : Fin 8), ((s.ptp i.val).fups.find? (fun e => e.port == p.val && e.type == mFollowUp) = none)) ∧
    (∃ (s : State) (i : Fin 4) (p : Fin 8) (e : Fup), ((s.ptp i.val).fups.find? (fun e => e.port == p.val && e.type == mPdelayFup) = some e) ∧ (s.linkUp p.val = true) ∧ (e.queue < 8) ∧ (cellsOf ((padTo 60 e.bytes).length + 4) ≤ (s.dropFup i.val e).freeCells p.val e.queue)) ∧
    (∃ (s : State) (i : Fin 4) (p : Fin 8) (e : Fup), ((s.ptp i.val).fups.find? (fun e => e.port == p.val && e.type == mPdelayFup) = some e) ∧ (s.linkUp p.val = false ∨ (s.dropFup i.val e).freeCells p.val e.queue < cellsOf ((padTo 60 e.bytes).length + 4))) ∧
    (∃ (s : State) (i : Fin 4) (p : Fin 8), ((s.ptp i.val).fups.find? (fun e => e.port == p.val && e.type == mPdelayFup) = none)) ∧
    (∃ (s : State) (f : RxFrame) (x : PtpIn) (i : Nat) (b : Bytes) (off q : Nat), (s.nextPtp mDelayReq = some (f, x)) ∧ (s.ptpFor f x = some i) ∧ (x.wellFormed = true) ∧ (s.effN Obj.ptp_auth_mode i = 0) ∧ (s.effT Obj.pol_enable = false) ∧ (s.thresherUp = true) ∧ (cellsOf (f.len + 40) ≤ s.freeCells f.port (s.effN Obj.ptp_queue i)) ∧ (f.port < 8) ∧ (s.onMaster i f = true) ∧ (s.effN Obj.ptp_delay_mech i = 0) ∧ (s.effN Obj.ptp_mode i = 0) ∧ (x.uni = false) ∧ (s.ptpFrame i f.port false (s.ptpGroup i false) f.ipcp (s.ptpMsg i f.port mDelayResp 0 0 (ptpCf x.msg - s.ptpFrac i f.stamp) (field x.msg 30 2) (s.effI Obj.ptp_log_delay_req i) (ptpTs f.stamp ++ slice x.msg 20 10)) = some (b, off)) ∧ (s.effN Obj.ptp_queue i = q) ∧ (q < 8) ∧ (cellsOf ((padTo 60 b).length + 4) ≤ s.freeCells f.port q)) ∧
    (∃ (s : State) (f : RxFrame) (x : PtpIn) (i : Nat) (b : Bytes) (off q : Nat), (s.nextPtp mPdelayReq = some (f, x)) ∧ (s.ptpFor f x = some i) ∧ (x.wellFormed = true) ∧ (s.effN Obj.ptp_auth_mode i = 0) ∧ (s.effT Obj.pol_enable = false) ∧ (s.thresherUp = true) ∧ (cellsOf (f.len + 40) ≤ s.freeCells f.port (s.effN Obj.ptp_queue i)) ∧ (f.port < 8) ∧ (s.effN Obj.ptp_transport i = 0) ∧ (s.ptpFrame i f.port true (s.ptpGroup i true) f.ipcp (s.ptpMsg i f.port mPdelayResp fTwoStep 0 (s.ptpFrac i f.stamp) (field x.msg 30 2) 0x7F (ptpTs f.stamp ++ slice x.msg 20 10)) = some (b, off)) ∧ (s.effN Obj.ptp_queue i = q) ∧ (q < 8) ∧ (cellsOf ((padTo 60 b).length + 4) ≤ s.freeCells f.port q)) ∧
    (∃ (s : State), (s.nextPtp mDelayReq = none)) ∧
    (∃ (s : State), (s.nextPtp mPdelayReq = none)) :=
  ⟨⟨ws_annSend, 1, 2, (((wMaster [] |>.setEff Obj.ptp_log_announce 1 0 (.n 0)).ptpFrame 1 2 false ((wMaster [] |>.setEff Obj.ptp_log_announce 1 0 (.n 0)).ptpGroup 1 false) 0 ((wMaster [] |>.setEff Obj.ptp_log_announce 1 0 (.n 0)).announceMsg 1 2 false (vat ((wMaster [] |>.setEff Obj.ptp_log_announce 1 0 (.n 0)).ptp 1).annSeq 2 0) ((wMaster [] |>.setEff Obj.ptp_log_announce 1 0 (.n 0)).effI Obj.ptp_log_announce 1))).getD ([], 0)).1, (((wMaster [] |>.setEff Obj.ptp_log_announce 1 0 (.n 0)).ptpFrame 1 2 false ((wMaster [] |>.setEff Obj.ptp_log_announce 1 0 (.n 0)).ptpGroup 1 false) 0 ((wMaster [] |>.setEff Obj.ptp_log_announce 1 0 (.n 0)).announceMsg 1 2 false (vat ((wMaster [] |>.setEff Obj.ptp_log_announce 1 0 (.n 0)).ptp 1).annSeq 2 0) ((wMaster [] |>.setEff Obj.ptp_log_announce 1 0 (.n 0)).effI Obj.ptp_log_announce 1))).getD ([], 0)).2, 0, by decide +kernel⟩,
    ⟨ws_annNot, 1, 2, by decide +kernel⟩,
    ⟨ws_synRel, 1, 2, ((((wMaster []).setEff Obj.ptp_step_mode 1 0 (.n 0)).ptpFrame 1 2 true (((wMaster []).setEff Obj.ptp_step_mode 1 0 (.n 0)).ptpGroup 1 false) 0 (((wMaster []).setEff Obj.ptp_step_mode 1 0 (.n 0)).syncMsg 1 2 false false (vat (((wMaster []).setEff Obj.ptp_step_mode 1 0 (.n 0)).ptp 1).syncSeq 2 0) (((wMaster []).setEff Obj.ptp_step_mode 1 0 (.n 0)).effI Obj.ptp_log_sync 1) 0 (zeros 10))).getD ([], 0)).1, ((((wMaster []).setEff Obj.ptp_step_mode 1 0 (.n 0)).ptpFrame 1 2 true (((wMaster []).setEff Obj.ptp_step_mode 1 0 (.n 0)).ptpGroup 1 false) 0 (((wMaster []).setEff Obj.ptp_step_mode 1 0 (.n 0)).syncMsg 1 2 false false (vat (((wMaster []).setEff Obj.ptp_step_mode 1 0 (.n 0)).ptp 1).syncSeq 2 0) (((wMaster []).setEff Obj.ptp_step_mode 1 0 (.n 0)).effI Obj.ptp_log_sync 1) 0 (zeros 10))).getD ([], 0)).2, 0, by decide +kernel⟩,
    ⟨ws_synNot, 1, 2, by decide +kernel⟩,
    ⟨ws_fup, 1, 2, { port := 2, type := mFollowUp, bytes := zeros 60 }, by decide +kernel⟩,
    ⟨ws_fupDown, 1, 2, { port := 2, type := mFollowUp, bytes := zeros 60 }, by decide +kernel⟩,
    ⟨ws_fupNone, 1, 2, by decide +kernel⟩,
    ⟨ws_pfup, 1, 2, { port := 2, type := mPdelayFup, bytes := zeros 60 }, by decide +kernel⟩,
    ⟨ws_pfupDown, 1, 2, { port := 2, type := mPdelayFup, bytes := zeros 60 }, by decide +kernel⟩,
    ⟨ws_pfupNone, 1, 2, by decide +kernel⟩,
    ⟨ws_dreq, (wPtpRx (wPtpFrame 1 0 77 (zeros 10))), (ptpIn (wPtpRx (wPtpFrame 1 0 77 (zeros 10)))), 1, ((((wMaster [(wPtpRx (wPtpFrame 1 0 77 (zeros 10)))])).ptpFrame 1 (wPtpRx (wPtpFrame 1 0 77 (zeros 10))).port false (((wMaster [(wPtpRx (wPtpFrame 1 0 77 (zeros 10)))])).ptpGroup 1 false) (wPtpRx (wPtpFrame 1 0 77 (zeros 10))).ipcp (((wMaster [(wPtpRx (wPtpFrame 1 0 77 (zeros 10)))])).ptpMsg 1 (wPtpRx (wPtpFrame 1 0 77 (zeros 10))).port mDelayResp 0 0 (ptpCf (ptpIn (wPtpRx (wPtpFrame 1 0 77 (zeros 10)))).msg - ((wMaster [(wPtpRx (wPtpFrame 1 0 77 (zeros 10)))])).ptpFrac 1 (wPtpRx (wPtpFrame 1 0 77 (zeros 10))).stamp) (field (ptpIn (wPtpRx (wPtpFrame 1 0 77 (zeros 10)))).msg 30 2) (((wMaster [(wPtpRx (wPtpFrame 1 0 77 (zeros 10)))])).effI Obj.ptp_log_delay_req 1) (ptpTs (wPtpRx (wPtpFrame 1 0 77 (zeros 10))).stamp ++ slice (ptpIn (wPtpRx (wPtpFrame 1 0 77 (zeros 10)))).msg 20 10))).getD ([], 0)).1, ((((wMaster [(wPtpRx (wPtpFrame 1 0 77 (zeros 10)))])).ptpFrame 1 (wPtpRx (wPtpFrame 1 0 77 (zeros 10))).port false (((wMaster [(wPtpRx (wPtpFrame 1 0 77 (zeros 10)))])).ptpGroup 1 false) (wPtpRx (wPtpFrame 1 0 77 (zeros 10))).ipcp (((wMaster [(wPtpRx (wPtpFrame 1 0 77 (zeros 10)))])).ptpMsg 1 (wPtpRx (wPtpFrame 1 0 77 (zeros 10))).port mDelayResp 0 0 (ptpCf (ptpIn (wPtpRx (wPtpFrame 1 0 77 (zeros 10)))).msg - ((wMaster [(wPtpRx (wPtpFrame 1 0 77 (zeros 10)))])).ptpFrac 1 (wPtpRx (wPtpFrame 1 0 77 (zeros 10))).stamp) (field (ptpIn (wPtpRx (wPtpFrame 1 0 77 (zeros 10)))).msg 30 2) (((wMaster [(wPtpRx (wPtpFrame 1 0 77 (zeros 10)))])).effI Obj.ptp_log_delay_req 1) (ptpTs (wPtpRx (wPtpFrame 1 0 77 (zeros 10))).stamp ++ slice (ptpIn (wPtpRx (wPtpFrame 1 0 77 (zeros 10)))).msg 20 10))).getD ([], 0)).2, 0, by decide +kernel⟩,
    ⟨ws_pdreq, (wPtpRx (wPtpFrame 2 0 78 (zeros 20))), (ptpIn (wPtpRx (wPtpFrame 2 0 78 (zeros 20)))), 1, ((((wMaster [(wPtpRx (wPtpFrame 2 0 78 (zeros 20)))])).ptpFrame 1 (wPtpRx (wPtpFrame 2 0 78 (zeros 20))).port true (((wMaster [(wPtpRx (wPtpFrame 2 0 78 (zeros 20)))])).ptpGroup 1 true) (wPtpRx (wPtpFrame 2 0 78 (zeros 20))).ipcp (((wMaster [(wPtpRx (wPtpFrame 2 0 78 (zeros 20)))])).ptpMsg 1 (wPtpRx (wPtpFrame 2 0 78 (zeros 20))).port mPdelayResp fTwoStep 0 (((wMaster [(wPtpRx (wPtpFrame 2 0 78 (zeros 20)))])).ptpFrac 1 (wPtpRx (wPtpFrame 2 0 78 (zeros 20))).stamp) (field (ptpIn (wPtpRx (wPtpFrame 2 0 78 (zeros 20)))).msg 30 2) 0x7F (ptpTs (wPtpRx (wPtpFrame 2 0 78 (zeros 20))).stamp ++ slice (ptpIn (wPtpRx (wPtpFrame 2 0 78 (zeros 20)))).msg 20 10))).getD ([], 0)).1, ((((wMaster [(wPtpRx (wPtpFrame 2 0 78 (zeros 20)))])).ptpFrame 1 (wPtpRx (wPtpFrame 2 0 78 (zeros 20))).port true (((wMaster [(wPtpRx (wPtpFrame 2 0 78 (zeros 20)))])).ptpGroup 1 true) (wPtpRx (wPtpFrame 2 0 78 (zeros 20))).ipcp (((wMaster [(wPtpRx (wPtpFrame 2 0 78 (zeros 20)))])).ptpMsg 1 (wPtpRx (wPtpFrame 2 0 78 (zeros 20))).port mPdelayResp fTwoStep 0 (((wMaster [(wPtpRx (wPtpFrame 2 0 78 (zeros 20)))])).ptpFrac 1 (wPtpRx (wPtpFrame 2 0 78 (zeros 20))).stamp) (field (ptpIn (wPtpRx (wPtpFrame 2 0 78 (zeros 20)))).msg 30 2) 0x7F (ptpTs (wPtpRx (wPtpFrame 2 0 78 (zeros 20))).stamp ++ slice (ptpIn (wPtpRx (wPtpFrame 2 0 78 (zeros 20)))).msg 20 10))).getD ([], 0)).2, 0, by decide +kernel⟩,
    ⟨ws_dreqNone, by decide +kernel⟩,
    ⟨ws_pdreqNone, by decide +kernel⟩⟩

/-- The hypotheses of each clause of PtpSlave are met together. -/
theorem wit_PtpSlave :
    (∃ (s : State) (f : RxFrame) (x : PtpIn) (i : Nat), (s.nextPtp mAnnounce = some (f, x)) ∧ (s.ptpFor f x = some i) ∧ (x.wellFormed = true) ∧ (s.effN Obj.ptp_auth_mode i = 0) ∧ (s.onMaster i f = true)) ∧
    (∃ (s : State) (f : RxFrame) (x : PtpIn) (i : Nat), (s.nextPtp mAnnounce = some (f, x)) ∧ (s.ptpFor f x = some i) ∧ (x.wellFormed = true) ∧ (s.effN Obj.ptp_auth_mode i = 0) ∧ (s.onMaster i f = false) ∧ (s.earlier f = true) ∧ (s.roleRuns 2 = true) ∧ (s.valN Obj.ptp_slave_state i ≠ 0) ∧ (slice x.msg 20 8 ≠ padTo 8 (s.effB Obj.ptp_clock_identity i))) ∧
    (∃ (s : State) (f : RxFrame) (x : PtpIn), (s.nextPtp mAnnounce = some (f, x)) ∧ (s.announceWaits f x = true)) ∧
    (∃ (s : State), (s.nextPtp mAnnounce = none)) ∧
    (∃ (s : State) (i : Fin 4) (f : RxFrame), (s.valN Obj.ptp_slave_state i.val ≠ 0) ∧ ((s.ptp i.val).foreign = []) ∧ ((s.ptp i.val).parent = none)) ∧
    (∃ (s : State) (f : RxFrame) (x : PtpIn) (i : Nat), (s.nextPtp mSync = some (f, x)) ∧ (s.ptpFor f x = some i) ∧ (x.wellFormed = true) ∧ (s.effN Obj.ptp_auth_mode i = 0) ∧ (s.fromParent i f.port x = true) ∧ (i < 4) ∧ ((octet x.msg 6).testBit 1 = true)) ∧
    (∃ (s : State) (f : RxFrame) (x : PtpIn) (i : Nat) (e : SyncIn) (d : Int), (s.nextPtp mFollowUp = some (f, x)) ∧ (s.ptpFor f x = some i) ∧ (x.wellFormed = true) ∧ (s.effN Obj.ptp_auth_mode i = 0) ∧ (s.fromParent i f.port x = true) ∧ (i < 4) ∧ ((s.ptp i).syncs.find? (fun e => e.seq == field x.msg 30 2) = some e) ∧ (s.pathDelay i = some d) ∧ (e.steps = s.steps) ∧ (s.valN Obj.ptp_slave_state i = 2) ∧ (s.effN Obj.ptp_calib_count i ≤ (s.ptp i).complete + 1)) ∧
    (∃ (s : State) (i : Fin 4), (s.valN Obj.ptp_slave_state i.val = 2) ∧ (s.effN Obj.ptp_calib_count i.val ≤ (s.ptp i.val).complete)) ∧
    (∃ (s : State) (i : Fin 4) (b : Bytes) (off q : Nat), (s.valN Obj.ptp_slave_state i.val = 2 ∨ s.valN Obj.ptp_slave_state i.val = 3) ∧ ((s.ptp i.val).reqAt = 0) ∧ (s.linkUp (s.ptp i.val).slavePort = true) ∧ (s.roleRuns 2 = true) ∧ (s.effN Obj.ptp_delay_mech i.val = 0) ∧ (s.effN Obj.ptp_mode i.val = 0) ∧ (s.effN Obj.ptp_auth_mode i.val = 0) ∧ ((s.ptp i.val).slavePort < 8) ∧ (s.ptpFrame i.val (s.ptp i.val).slavePort true (s.ptpGroup i.val false) 0 (s.ptpMsg i.val (s.ptp i.val).slavePort mDelayReq 0 0 0 (s.ptp i.val).reqSeq 0x7F (zeros 10)) = some (b, off)) ∧ (s.effN Obj.ptp_queue i.val = q) ∧ (q < 8) ∧ (cellsOf ((padTo 60 b).length + 4) ≤ s.freeCells (s.ptp i.val).slavePort q)) ∧
    (∃ (s : State), (s.nextPtp mSync = none)) ∧
    (∃ (s : State), (s.nextPtp mFollowUp = none)) ∧
    (∃ (s : State), (s.nextPtp mDelayResp = none)) ∧
    (∃ (s : State) (i : Fin 4), ((s.valN Obj.ptp_slave_state i.val ≠ 2 ∧ s.valN Obj.ptp_slave_state i.val ≠ 3) ∨ s.linkUp (s.ptp i.val).slavePort = false ∨ s.roleRuns 2 = false)) ∧
    (∃ (s : State) (f : RxFrame) (x : PtpIn) (i : Nat) (e : Exchange) (t3 fw : Int) (st : Nat), (s.nextPtp mDelayResp = some (f, x)) ∧ (s.ptpFor f x = some i) ∧ (x.wellFormed = true) ∧ (s.effN Obj.ptp_auth_mode i = 0) ∧ (s.fromParent i f.port x = true) ∧ (i < 4) ∧ (slice x.msg 44 10 = s.ptpIdent i f.port) ∧ (s.effN Obj.ptp_delay_mech i = 0) ∧ ((s.ptp i).exch.find? (fun e => e.seq == field x.msg 30 2 && !e.done) = some e) ∧ (e.tx = some t3) ∧ ((s.ptp i).fwd = some (fw, st)) ∧ (st = e.steps)) ∧
    (∃ (s : State) (i : Fin 4) (id : Bytes) (g : PtpForeign), ((s.ptp i.val).parent = some id) ∧ ((s.ptp i.val).foreign.find? (fun f => f.port == id) = some g) ∧ (s.roleRuns 2 = true) ∧ (s.valN Obj.ptp_slave_state i.val ≠ 0) ∧ (s.passed (s.ptp i.val).parentAt (s.effN Obj.ptp_announce_timeout i.val * logNs (s.announceLog i.val g)) = true)) ∧
    (∃ (s : State) (i : Fin 4) (id : Bytes), ((s.ptp i.val).parent = some id) ∧ (s.valN Obj.ptp_slave_state i.val ≠ 0)) ∧
    (∃ (s : State) (i : Fin 4), ((s.ptp i.val).parent = none ∨ s.roleRuns 2 = false ∨ s.valN Obj.ptp_slave_state i.val = 0)) ∧
    (∃ (s : State) (i : Fin 4) (p : Fin 8) (b : Bytes) (off q : Nat), (s.roleRuns 2 = true) ∧ (s.gptp i.val = true) ∧ (s.masterUp i.val p.val = true) ∧ (vat (s.ptp i.val).pReqAt p.val none = none) ∧ (s.effN Obj.ptp_auth_mode i.val = 0) ∧ (s.ptpFrame i.val p.val true (s.ptpGroup i.val true) 0 (s.pdelayReqMsg i.val p.val (vat (s.ptp i.val).pSeq p.val 0)) = some (b, off)) ∧ (s.effN Obj.ptp_queue i.val = q) ∧ (q < 8) ∧ (cellsOf ((padTo 60 b).length + 4) ≤ s.freeCells p.val q)) ∧
    (∃ (s : State) (i : Fin 4) (p : Fin 8), (s.gptp i.val = false ∨ s.masterUp i.val p.val = false ∨ s.roleRuns 2 = false)) ∧
    (∃ (s : State) (f : RxFrame) (x : PtpIn) (i st c : Nat) (e : Exchange) (t1 t2 t4 : Int), (((s.net.waiting.filter fun f => f.kind == .ptp).map fun f => (f, ptpIn f)).find? (fun e => e.2.type == mPdelayResp || e.2.type == mPdelayFup) = some (f, x)) ∧ (s.ptpFor f x = some i) ∧ (x.wellFormed = true) ∧ (s.effN Obj.ptp_auth_mode i = 0) ∧ (i < 4) ∧ (f.port < 8) ∧ (x.type = mPdelayFup) ∧ (slice x.msg 44 10 = s.ptpIdent i f.port) ∧ (s.roleRuns 2 = true) ∧ (s.onMaster i f = true) ∧ ((vat (s.ptp i).pExch f.port []).find? (fun e => e.seq == field x.msg 30 2 && !e.done) = some e) ∧ (e.tx = some t1) ∧ (e.resp = some (t2, t4, st, c)) ∧ (e.steps = st)) :=
  ⟨⟨ws_annRxM, (wPtpRx (wPtpFrame 11 0 5 (zeros 30))), ptpIn (wPtpRx (wPtpFrame 11 0 5 (zeros 30))), 1, by decide +kernel⟩,
    ⟨ws_annRxS, (wPtpRx (wPtpFrame 11 0 5 (zeros 30))), ptpIn (wPtpRx (wPtpFrame 11 0 5 (zeros 30))), 1, by decide +kernel⟩,
    ⟨ws_annRxWait, (wPtpRx (wPtpFrame 11 0 5 (zeros 30))), ptpIn (wPtpRx (wPtpFrame 11 0 5 (zeros 30))), by decide +kernel⟩,
    ⟨ws_annRxNone, by decide +kernel⟩,
    ⟨ws_annCommit, 1, (wPtpRx (wPtpFrame 11 0 5 (zeros 30))), by decide +kernel⟩,
    ⟨ws_syncRx, (wPtpRx (wPtpFrame 0 2 6 (zeros 10))), ptpIn (wPtpRx (wPtpFrame 0 2 6 (zeros 10))), 1, by decide +kernel⟩,
    ⟨ws_fupRx, (wPtpRx (wPtpFrame 8 0 6 (zeros 10))), ptpIn (wPtpRx (wPtpFrame 8 0 6 (zeros 10))), 1, { seq := 6 }, 3, by decide +kernel⟩,
    ⟨ws_calCommit, 1, by decide +kernel⟩,
    ⟨ws_dreqTx, 1, (((wSlave []).ptpFrame 1 ((wSlave []).ptp 1).slavePort true ((wSlave []).ptpGroup 1 false) 0 ((wSlave []).ptpMsg 1 ((wSlave []).ptp 1).slavePort mDelayReq 0 0 0 ((wSlave []).ptp 1).reqSeq 0x7F (zeros 10))).getD ([], 0)).1, (((wSlave []).ptpFrame 1 ((wSlave []).ptp 1).slavePort true ((wSlave []).ptpGroup 1 false) 0 ((wSlave []).ptpMsg 1 ((wSlave []).ptp 1).slavePort mDelayReq 0 0 0 ((wSlave []).ptp 1).reqSeq 0x7F (zeros 10))).getD ([], 0)).2, 0, by decide +kernel⟩,
    ⟨ws_syncNone, by decide +kernel⟩,
    ⟨ws_fupRxNone, by decide +kernel⟩,
    ⟨ws_drespNone, by decide +kernel⟩,
    ⟨ws_dreqTxNot, 1, by decide +kernel⟩,
    ⟨ws_dresp, (wPtpRx (wPtpFrame 9 0 4 (zeros 10 ++ zeros 8 ++ [0, 3]))), ptpIn (wPtpRx (wPtpFrame 9 0 4 (zeros 10 ++ zeros 8 ++ [0, 3]))), 1, { seq := 4, tx := some 2 }, 2, 8, 0, by decide +kernel⟩,
    ⟨ws_annTimeout, 1, List.replicate 10 0xAA, { port := List.replicate 10 0xAA }, by decide +kernel⟩,
    ⟨ws_silCommit, 1, List.replicate 10 0xAA, by decide +kernel⟩,
    ⟨ws_annNoParent, 1, by decide +kernel⟩,
    ⟨ws_pdTx, 1, 2, (((((wMaster []).setEff Obj.ptp_profile 1 0 (.n 3)).setEff Obj.ptp_domain 1 0 (.n 0)).ptpFrame 1 2 true ((((wMaster []).setEff Obj.ptp_profile 1 0 (.n 3)).setEff Obj.ptp_domain 1 0 (.n 0)).ptpGroup 1 true) 0 ((((wMaster []).setEff Obj.ptp_profile 1 0 (.n 3)).setEff Obj.ptp_domain 1 0 (.n 0)).pdelayReqMsg 1 2 (vat ((((wMaster []).setEff Obj.ptp_profile 1 0 (.n 3)).setEff Obj.ptp_domain 1 0 (.n 0)).ptp 1).pSeq 2 0))).getD ([], 0)).1, (((((wMaster []).setEff Obj.ptp_profile 1 0 (.n 3)).setEff Obj.ptp_domain 1 0 (.n 0)).ptpFrame 1 2 true ((((wMaster []).setEff Obj.ptp_profile 1 0 (.n 3)).setEff Obj.ptp_domain 1 0 (.n 0)).ptpGroup 1 true) 0 ((((wMaster []).setEff Obj.ptp_profile 1 0 (.n 3)).setEff Obj.ptp_domain 1 0 (.n 0)).pdelayReqMsg 1 2 (vat ((((wMaster []).setEff Obj.ptp_profile 1 0 (.n 3)).setEff Obj.ptp_domain 1 0 (.n 0)).ptp 1).pSeq 2 0))).getD ([], 0)).2, 0, by decide +kernel⟩,
    ⟨ws_pdTxNot, 1, 2, by decide +kernel⟩,
    ⟨ws_pdRx, (wPtpRx (wPtpFrame 10 0 4 (zeros 10 ++ zeros 8 ++ [0, 3]))), ptpIn (wPtpRx (wPtpFrame 10 0 4 (zeros 10 ++ zeros 8 ++ [0, 3]))), 1, 0, 0, { seq := 4, tx := some 2, resp := some (5, 9, 0, 0) }, 2, 5, 9, by decide +kernel⟩⟩

/-- The hypotheses of each clause of PtpUnicast are met together. -/
theorem wit_PtpUnicast :
    (∃ (s : State) (f : RxFrame) (x : PtpIn) (i : Nat) (tl : Nat × Nat × Nat), (s.nextSignal [4] = some (f, x)) ∧ (s.ptpFor f x = some i) ∧ (x.wellFormed = true) ∧ (s.effN Obj.ptp_auth_mode i = 0) ∧ (s.effT Obj.pol_enable = false) ∧ (x.tlvs = some [tl]) ∧ (s.earlier f = true) ∧ (s.roleRuns 2 = true) ∧ ((s.signalRoom f x 12 1).2 = true) ∧ (tl.1 = 4) ∧ (6 ≤ tl.2.2) ∧ (s.effN Obj.ptp_mode i ≠ 2)) ∧
    (∃ (s : State) (f : RxFrame) (x : PtpIn) (i : Nat) (tl : Nat × Nat × Nat), (s.nextSignal [4] = some (f, x)) ∧ (s.ptpFor f x = some i) ∧ (x.wellFormed = true) ∧ (s.effN Obj.ptp_auth_mode i = 0) ∧ (s.effT Obj.pol_enable = false) ∧ (x.tlvs = some [tl]) ∧ (s.earlier f = true) ∧ (s.roleRuns 2 = true) ∧ ((s.signalRoom f x 12 1).2 = true) ∧ (tl.1 = 4) ∧ (6 ≤ tl.2.2) ∧ (s.effN Obj.ptp_mode i = 2) ∧ (s.isMaster i f.port = true) ∧ (octet (slice x.msg tl.2.1 tl.2.2) 0 / 16 = mSync) ∧ (s.effI Obj.ptp_uc_log_min i ≤ beInt (slice (slice x.msg tl.2.1 tl.2.2) 1 1)) ∧ (beInt (slice (slice x.msg tl.2.1 tl.2.2) 1 1) ≤ 0) ∧ (s.net.sessions = []) ∧ (0 < s.effN Obj.ptp_uc_max_sessions i) ∧ (s.recordOk 0 = true) ∧ (s.multicastLoad + rateOfLog (beInt (slice (slice x.msg tl.2.1 tl.2.2) 1 1)) ≤ (s.effN Obj.ptp_sess_budget : Rat)) ∧ ((s.net.staged.all fun u => u.sess == none) = true)) ∧
    (∃ (s : State) (f : RxFrame) (x : PtpIn) (i : Nat), (s.nextSignal [4] = some (f, x)) ∧ (s.earlier f = false ∨ s.roleRuns 2 = false ∨ (s.signalRoom f x 12 x.requests.length).2 = false)) ∧
    (∃ (s : State), (s.nextSignal [4] = none)) ∧
    (∃ (s : State) (f : RxFrame) (x : PtpIn) (i : Nat) (tl : Nat × Nat × Nat) (y : Session), (s.nextSignal [6, 7] = some (f, x)) ∧ (s.ptpFor f x = some i) ∧ (x.wellFormed = true) ∧ (s.effN Obj.ptp_auth_mode i = 0) ∧ (s.effT Obj.pol_enable = false) ∧ (x.tlvs = some [tl]) ∧ (s.roleRuns 2 = true) ∧ ((s.signalRoom f x 6 1).2 = true) ∧ (tl.1 = 6) ∧ (2 ≤ tl.2.2) ∧ (s.isSlave i f.port = false) ∧ (s.sessionOf i f.port x.src (slice x.msg 20 10) = some y)) ∧
    (∃ (s : State) (f : RxFrame) (x : PtpIn) (i : Nat), (s.nextSignal [6, 7] = some (f, x)) ∧ (s.roleRuns 2 = false ∨ (s.signalRoom f x 6 x.cancels.length).2 = false)) ∧
    (∃ (s : State), (s.nextSignal [6, 7] = none)) ∧
    (∃ (s : State) (x : Session), (s.roleRuns 2 = true) ∧ (s.net.sessions = [x]) ∧ (s.net.staged = []) ∧ (x.ann.tend ≤ s.tickNow) ∧ (x.sync.tend ≤ s.tickNow) ∧ (x.resp.tend ≤ s.tickNow)) ∧
    (∃ (s : State), (s.roleRuns 2 = false)) ∧
    (∃ (s : State) (x : Session), (s.net.sessions = [x]) ∧ (s.tickNow < x.ann.tend) ∧ (s.tickNow < x.sync.tend) ∧ (s.tickNow < x.resp.tend) ∧ (x.ann.log ≠ 127)) ∧
    (∃ (s : State) (n : Nat) (x : Session) (b : Bytes) (off q : Nat), (s.session n = some x) ∧ (x.num = n) ∧ (x.ann.log ≠ 127) ∧ (s.masterUp x.inst x.port = true) ∧ (s.tickTod - (lastInstant s.tickTod (x.phase * (tickU / 2)) (logTod x.ann.log)) < tickU) ∧ (x.relAnn ≠ (lastInstant s.tickTod (x.phase * (tickU / 2)) (logTod x.ann.log))) ∧ (s.effN Obj.ptp_auth_mode x.inst = 0) ∧ (x.port < 9) ∧ (s.ptpFrame x.inst x.port false (x.mac, x.addr) 0 (s.announceMsg x.inst x.port true x.seqAnn x.ann.log) = some (b, off)) ∧ (s.effN Obj.ptp_queue x.inst = q) ∧ (q < 8) ∧ (cellsOf ((padTo 60 b).length + 4) ≤ s.freeCells x.port q)) ∧
    (∃ (s : State) (n : Nat) (a : Bool), (s.session n = none)) ∧
    (∃ (s : State) (path v : Nat), (v < 131072) ∧ (s.noStaging = false) ∧ (s.net.selSess.Pairwise (fun a b => a.1 < b.1))) ∧
    (∃ (s : State) (path v : Nat), (131072 ≤ v ∨ s.noStaging = true)) ∧
    (∃ (s : State) (f : RxFrame) (x : PtpIn) (i : Nat) (tl : Nat × Nat × Nat) (m : Nat), (s.nextSignal [5] = some (f, x)) ∧ (s.ptpFor f x = some i) ∧ (x.wellFormed = true) ∧ (s.effN Obj.ptp_auth_mode i = 0) ∧ (s.effT Obj.pol_enable = false) ∧ (x.tlvs = some [tl]) ∧ (s.roleRuns 2 = true) ∧ (i < 4) ∧ (tl.1 = 5) ∧ (8 ≤ tl.2.2) ∧ (s.isSlave i f.port = true) ∧ ((List.range 4).find? (fun m => (s.ucMaster i m).map Prod.snd == some x.src) = some m) ∧ (field (slice x.msg tl.2.1 tl.2.2) 2 4 ≠ 0)) ∧
    (∃ (s : State), (s.nextSignal [5] = none ∨ s.roleRuns 2 = false)) ∧
    (∃ (s : State) (i : Fin 4) (g : Grant) (fam : Nat) (a : Bytes) (h : PtpForeign) (b : Bytes) (off q : Nat), (s.roleRuns 2 = true) ∧ ((s.ptp i.val).grants = [g]) ∧ (g.asked = false) ∧ (s.passed g.since (g.dur * 1000000000) = false) ∧ (s.passed g.since (g.dur * 1000000000 / 2) = true) ∧ (s.ucMaster i.val g.master = some (fam, a)) ∧ ((s.ptp i.val).foreign.find? (fun f => f.addr == a) = some h) ∧ (s.effN Obj.ptp_auth_mode i.val = 0) ∧ ((s.ptp i.val).slavePort < 9) ∧ (s.ptpFrame i.val (s.ptp i.val).slavePort false (h.mac, a) 0 (s.signalMsg i.val (s.ptp i.val).slavePort anyTarget (requestTlv g.msg (s.ucLog i.val g.msg) (s.effN Obj.ptp_uc_duration_max i.val))) = some (b, off)) ∧ (s.effN Obj.ptp_queue i.val = q) ∧ (q < 8) ∧ (cellsOf ((padTo 60 b).length + 4) ≤ s.freeCells (s.ptp i.val).slavePort q)) ∧
    (∃ (s : State) (i : Fin 4) (g : Grant), (s.roleRuns 2 = true) ∧ ((s.ptp i.val).grants = [g]) ∧ (s.passed g.since (g.dur * 1000000000) = true)) ∧
    (∃ (s : State) (i : Fin 4), (s.roleRuns 2 = false)) ∧
    (∃ (s : State) (i : Fin 4), ((s.ptp i.val).grants = [])) :=
  ⟨⟨ws_reqDeny, (wPtpRx (wPtpFrame 12 4 3 (zeros 10 ++ [0, 4, 0, 6, 0x00, 0, 0, 0, 0, 60]))), ptpIn (wPtpRx (wPtpFrame 12 4 3 (zeros 10 ++ [0, 4, 0, 6, 0x00, 0, 0, 0, 0, 60]))), 1, (4, 48, 6), by decide +kernel⟩,
    ⟨ws_reqGrant, (wPtpRx (wPtpFrame 12 4 3 (zeros 10 ++ [0, 4, 0, 6, 0x00, 0, 0, 0, 0, 60]))), ptpIn (wPtpRx (wPtpFrame 12 4 3 (zeros 10 ++ [0, 4, 0, 6, 0x00, 0, 0, 0, 0, 60]))), 1, (4, 48, 6), by decide +kernel⟩,
    ⟨ws_reqWait, (wPtpRx (wPtpFrame 12 4 3 (zeros 10 ++ [0, 4, 0, 6, 0x00, 0, 0, 0, 0, 60]))), ptpIn (wPtpRx (wPtpFrame 12 4 3 (zeros 10 ++ [0, 4, 0, 6, 0x00, 0, 0, 0, 0, 60]))), 1, by decide +kernel⟩,
    ⟨ws_reqNone, by decide +kernel⟩,
    ⟨ws_cancel, (wPtpRx (wPtpFrame 12 4 3 (zeros 10 ++ [0, 6, 0, 2, 0x00, 0]))), ptpIn (wPtpRx (wPtpFrame 12 4 3 (zeros 10 ++ [0, 6, 0, 2, 0x00, 0]))), 1, (6, 48, 2), { num := 0, inst := 1, port := 2, family := 4, addr := zeros 6, ident := List.replicate 10 0xAA, mac := zeros 6 }, by decide +kernel⟩,
    ⟨ws_cancelWait, (wPtpRx (wPtpFrame 12 4 3 (zeros 10 ++ [0, 6, 0, 2, 0x00, 0]))), ptpIn (wPtpRx (wPtpFrame 12 4 3 (zeros 10 ++ [0, 6, 0, 2, 0x00, 0]))), 1, by decide +kernel⟩,
    ⟨ws_cancelNone, by decide +kernel⟩,
    ⟨ws_expire, { num := 3 }, by decide +kernel⟩,
    ⟨ws_expireHalt, by decide +kernel⟩,
    ⟨ws_expireNot, { ann := { log := 0, tend := 9 }, sync := { tend := 9 }, resp := { tend := 9 } }, by decide +kernel⟩,
    ⟨ws_release, 0, { num := 0, inst := 1, port := 2, family := 4, addr := zeros 6, ident := List.replicate 10 0xAA, mac := zeros 6, ann := { log := 0, tend := 9 } }, ((({ wMaster [] with net := { (wMaster []).net with sessions := [{ num := 0, inst := 1, port := 2, family := 4, addr := zeros 6, ident := List.replicate 10 0xAA, mac := zeros 6, ann := { log := 0, tend := 9 } }] } } : State).ptpFrame ({ num := 0, inst := 1, port := 2, family := 4, addr := zeros 6, ident := List.replicate 10 0xAA, mac := zeros 6, ann := { log := 0, tend := 9 } } : Session).inst ({ num := 0, inst := 1, port := 2, family := 4, addr := zeros 6, ident := List.replicate 10 0xAA, mac := zeros 6, ann := { log := 0, tend := 9 } } : Session).port false (({ num := 0, inst := 1, port := 2, family := 4, addr := zeros 6, ident := List.replicate 10 0xAA, mac := zeros 6, ann := { log := 0, tend := 9 } } : Session).mac, ({ num := 0, inst := 1, port := 2, family := 4, addr := zeros 6, ident := List.replicate 10 0xAA, mac := zeros 6, ann := { log := 0, tend := 9 } } : Session).addr) 0 (({ wMaster [] with net := { (wMaster []).net with sessions := [{ num := 0, inst := 1, port := 2, family := 4, addr := zeros 6, ident := List.replicate 10 0xAA, mac := zeros 6, ann := { log := 0, tend := 9 } }] } } : State).announceMsg ({ num := 0, inst := 1, port := 2, family := 4, addr := zeros 6, ident := List.replicate 10 0xAA, mac := zeros 6, ann := { log := 0, tend := 9 } } : Session).inst ({ num := 0, inst := 1, port := 2, family := 4, addr := zeros 6, ident := List.replicate 10 0xAA, mac := zeros 6, ann := { log := 0, tend := 9 } } : Session).port true ({ num := 0, inst := 1, port := 2, family := 4, addr := zeros 6, ident := List.replicate 10 0xAA, mac := zeros 6, ann := { log := 0, tend := 9 } } : Session).seqAnn ({ num := 0, inst := 1, port := 2, family := 4, addr := zeros 6, ident := List.replicate 10 0xAA, mac := zeros 6, ann := { log := 0, tend := 9 } } : Session).ann.log)).getD ([], 0)).1, ((({ wMaster [] with net := { (wMaster []).net with sessions := [{ num := 0, inst := 1, port := 2, family := 4, addr := zeros 6, ident := List.replicate 10 0xAA, mac := zeros 6, ann := { log := 0, tend := 9 } }] } } : State).ptpFrame ({ num := 0, inst := 1, port := 2, family := 4, addr := zeros 6, ident := List.replicate 10 0xAA, mac := zeros 6, ann := { log := 0, tend := 9 } } : Session).inst ({ num := 0, inst := 1, port := 2, family := 4, addr := zeros 6, ident := List.replicate 10 0xAA, mac := zeros 6, ann := { log := 0, tend := 9 } } : Session).port false (({ num := 0, inst := 1, port := 2, family := 4, addr := zeros 6, ident := List.replicate 10 0xAA, mac := zeros 6, ann := { log := 0, tend := 9 } } : Session).mac, ({ num := 0, inst := 1, port := 2, family := 4, addr := zeros 6, ident := List.replicate 10 0xAA, mac := zeros 6, ann := { log := 0, tend := 9 } } : Session).addr) 0 (({ wMaster [] with net := { (wMaster []).net with sessions := [{ num := 0, inst := 1, port := 2, family := 4, addr := zeros 6, ident := List.replicate 10 0xAA, mac := zeros 6, ann := { log := 0, tend := 9 } }] } } : State).announceMsg ({ num := 0, inst := 1, port := 2, family := 4, addr := zeros 6, ident := List.replicate 10 0xAA, mac := zeros 6, ann := { log := 0, tend := 9 } } : Session).inst ({ num := 0, inst := 1, port := 2, family := 4, addr := zeros 6, ident := List.replicate 10 0xAA, mac := zeros 6, ann := { log := 0, tend := 9 } } : Session).port true ({ num := 0, inst := 1, port := 2, family := 4, addr := zeros 6, ident := List.replicate 10 0xAA, mac := zeros 6, ann := { log := 0, tend := 9 } } : Session).seqAnn ({ num := 0, inst := 1, port := 2, family := 4, addr := zeros 6, ident := List.replicate 10 0xAA, mac := zeros 6, ann := { log := 0, tend := 9 } } : Session).ann.log)).getD ([], 0)).2, 0, by decide +kernel⟩,
    ⟨ws_releaseNone, 3, true, by decide +kernel⟩,
    ⟨wServe, 65, 7, by decide +kernel⟩,
    ⟨ws_selectNot, 65, 7, by decide +kernel⟩,
    ⟨ws_grant, (wPtpRx (wUdp 320 ((wPtpFrame 12 4 3 (zeros 10 ++ [0, 5, 0, 8, 0x00, 0, 0, 0, 0, 60, 0, 1])).drop 14))), ptpIn (wPtpRx (wUdp 320 ((wPtpFrame 12 4 3 (zeros 10 ++ [0, 5, 0, 8, 0x00, 0, 0, 0, 0, 60, 0, 1])).drop 14))), 1, (5, 48, 8), 3, by decide +kernel⟩,
    ⟨ws_grantNone, by decide +kernel⟩,
    ⟨ws_renew, 1, { dur := 1, msg := 11, master := 3 }, 4, [10, 0, 0, 9], { addr := [10, 0, 0, 9], mac := zeros 6 }, ((({ (((wSlave []).setEff Obj.ptp_uc_master 1 3 (.o ([4, 10, 0, 0, 9] ++ zeros 12))).modPtp 1 fun x => { x with foreign := [{ addr := [10, 0, 0, 9], mac := zeros 6 }], grants := [{ dur := 1, msg := 11, master := 3 }] }) with tc := { wServe.tc with cyc := 4 * 10 ^ 8, voted := secU } } : State).ptpFrame 1 (({ (((wSlave []).setEff Obj.ptp_uc_master 1 3 (.o ([4, 10, 0, 0, 9] ++ zeros 12))).modPtp 1 fun x => { x with foreign := [{ addr := [10, 0, 0, 9], mac := zeros 6 }], grants := [{ dur := 1, msg := 11, master := 3 }] }) with tc := { wServe.tc with cyc := 4 * 10 ^ 8, voted := secU } } : State).ptp 1).slavePort false ((zeros 6), [10, 0, 0, 9]) 0 (({ (((wSlave []).setEff Obj.ptp_uc_master 1 3 (.o ([4, 10, 0, 0, 9] ++ zeros 12))).modPtp 1 fun x => { x with foreign := [{ addr := [10, 0, 0, 9], mac := zeros 6 }], grants := [{ dur := 1, msg := 11, master := 3 }] }) with tc := { wServe.tc with cyc := 4 * 10 ^ 8, voted := secU } } : State).signalMsg 1 (({ (((wSlave []).setEff Obj.ptp_uc_master 1 3 (.o ([4, 10, 0, 0, 9] ++ zeros 12))).modPtp 1 fun x => { x with foreign := [{ addr := [10, 0, 0, 9], mac := zeros 6 }], grants := [{ dur := 1, msg := 11, master := 3 }] }) with tc := { wServe.tc with cyc := 4 * 10 ^ 8, voted := secU } } : State).ptp 1).slavePort anyTarget (requestTlv 11 (({ (((wSlave []).setEff Obj.ptp_uc_master 1 3 (.o ([4, 10, 0, 0, 9] ++ zeros 12))).modPtp 1 fun x => { x with foreign := [{ addr := [10, 0, 0, 9], mac := zeros 6 }], grants := [{ dur := 1, msg := 11, master := 3 }] }) with tc := { wServe.tc with cyc := 4 * 10 ^ 8, voted := secU } } : State).ucLog 1 11) (({ (((wSlave []).setEff Obj.ptp_uc_master 1 3 (.o ([4, 10, 0, 0, 9] ++ zeros 12))).modPtp 1 fun x => { x with foreign := [{ addr := [10, 0, 0, 9], mac := zeros 6 }], grants := [{ dur := 1, msg := 11, master := 3 }] }) with tc := { wServe.tc with cyc := 4 * 10 ^ 8, voted := secU } } : State).effN Obj.ptp_uc_duration_max 1)))).getD ([], 0)).1, ((({ (((wSlave []).setEff Obj.ptp_uc_master 1 3 (.o ([4, 10, 0, 0, 9] ++ zeros 12))).modPtp 1 fun x => { x with foreign := [{ addr := [10, 0, 0, 9], mac := zeros 6 }], grants := [{ dur := 1, msg := 11, master := 3 }] }) with tc := { wServe.tc with cyc := 4 * 10 ^ 8, voted := secU } } : State).ptpFrame 1 (({ (((wSlave []).setEff Obj.ptp_uc_master 1 3 (.o ([4, 10, 0, 0, 9] ++ zeros 12))).modPtp 1 fun x => { x with foreign := [{ addr := [10, 0, 0, 9], mac := zeros 6 }], grants := [{ dur := 1, msg := 11, master := 3 }] }) with tc := { wServe.tc with cyc := 4 * 10 ^ 8, voted := secU } } : State).ptp 1).slavePort false ((zeros 6), [10, 0, 0, 9]) 0 (({ (((wSlave []).setEff Obj.ptp_uc_master 1 3 (.o ([4, 10, 0, 0, 9] ++ zeros 12))).modPtp 1 fun x => { x with foreign := [{ addr := [10, 0, 0, 9], mac := zeros 6 }], grants := [{ dur := 1, msg := 11, master := 3 }] }) with tc := { wServe.tc with cyc := 4 * 10 ^ 8, voted := secU } } : State).signalMsg 1 (({ (((wSlave []).setEff Obj.ptp_uc_master 1 3 (.o ([4, 10, 0, 0, 9] ++ zeros 12))).modPtp 1 fun x => { x with foreign := [{ addr := [10, 0, 0, 9], mac := zeros 6 }], grants := [{ dur := 1, msg := 11, master := 3 }] }) with tc := { wServe.tc with cyc := 4 * 10 ^ 8, voted := secU } } : State).ptp 1).slavePort anyTarget (requestTlv 11 (({ (((wSlave []).setEff Obj.ptp_uc_master 1 3 (.o ([4, 10, 0, 0, 9] ++ zeros 12))).modPtp 1 fun x => { x with foreign := [{ addr := [10, 0, 0, 9], mac := zeros 6 }], grants := [{ dur := 1, msg := 11, master := 3 }] }) with tc := { wServe.tc with cyc := 4 * 10 ^ 8, voted := secU } } : State).ucLog 1 11) (({ (((wSlave []).setEff Obj.ptp_uc_master 1 3 (.o ([4, 10, 0, 0, 9] ++ zeros 12))).modPtp 1 fun x => { x with foreign := [{ addr := [10, 0, 0, 9], mac := zeros 6 }], grants := [{ dur := 1, msg := 11, master := 3 }] }) with tc := { wServe.tc with cyc := 4 * 10 ^ 8, voted := secU } } : State).effN Obj.ptp_uc_duration_max 1)))).getD ([], 0)).2, 0, by decide +kernel⟩,
    ⟨ws_renewGone, 1, { dur := 1 }, by decide +kernel⟩,
    ⟨ws_renewHalt, 1, by decide +kernel⟩,
    ⟨ws_renewNone, 1, by decide +kernel⟩⟩

/-- The hypotheses of each clause of CreminLinks are met together. -/
theorem wit_CreminLinks :
    (∃ (s : State) (l : Fin 4) (h : Nat), (s.linkRuns l.val = true) ∧ ((s.link l.val).up = false) ∧ (10 ≤ h)) ∧
    (∃ (s : State) (l : Fin 4) (h : Nat), (s.linkRuns l.val = false ∨ (s.link l.val).up = true ∨ h < 10)) ∧
    (∃ (s : State) (l : Fin 4) (b : Bool), ((s.link l.val).up = true) ∧ (b = true ∨ 8 ≤ (s.link l.val).quiet) ∧ ((s.isUp l.val && s.linkOk l.val) = false)) ∧
    (∃ (s : State) (l : Fin 4) (b : Bool), ((s.link l.val).up = true) ∧ (b = true ∨ 8 ≤ (s.link l.val).quiet) ∧ (s.isUp l.val = true) ∧ (s.linkOk l.val = true)) ∧
    (∃ (s : State) (l : Fin 4) (b : Bool), ((s.link l.val).up = false ∨ (b = false ∧ (s.link l.val).quiet < 8))) ∧
    (∃ (s : State) (l : Fin 4), ((s.link l.val).up = true) ∧ ((s.link l.val).sentTick = false)) ∧
    (∃ (s : State) (l : Fin 4), ((s.link l.val).up = false ∨ (s.link l.val).sentTick = true)) ∧
    (∃ (s : State) (l : Fin 4) (m : CremIn), ((s.link l.val).up = true) ∧ (m.type = 1) ∧ (m.ok = true) ∧ (m.data.length = 96) ∧ (s.role l.val = 1) ∧ (s.acceptance l.val m.data = 2) ∧ ((s.link l.val).lastSeq ≠ some m.seq)) ∧
    (∃ (s : State) (l : Fin 4) (m : CremIn) (dl : Int), ((s.link l.val).up = true) ∧ (m.type = 1) ∧ (m.ok = true) ∧ (m.data.length = 96) ∧ (s.role l.val = 2) ∧ ((List.range 4).find? (fun k => s.role k == 2) = some l.val) ∧ (s.acceptance l.val m.data = 2) ∧ ((s.link l.val).lastSeq ≠ some m.seq) ∧ ((s.link l.val).txLog = []) ∧ ((s.link l.val).delay = some dl) ∧ (s.dev.manager = false) ∧ ((s.rxTime (9 + l.val) 3 m.word).2.1.steps = s.steps) ∧ (stampFlags (field m.data 0 16) % 2 = 1)) ∧
    (∃ (s : State) (l : Fin 4) (m : CremIn), ((s.link l.val).up = true) ∧ (m.type = 0x81) ∧ (m.ok = true) ∧ (m.data.length = 96) ∧ (s.acceptance l.val m.data = 2) ∧ ((s.link l.val).lastSeq = some m.seq)) ∧
    (∃ (s : State) (l : Fin 4) (m : CremIn), ((s.link l.val).up = true) ∧ (m.type = 1 ∨ m.type = 0x81) ∧ (m.ok = false ∨ m.data.length ≠ 96)) ∧
    (∃ (s : State) (l : Fin 4) (m : CremIn), ((s.link l.val).up = true) ∧ (m.type = 1) ∧ (m.ok = true) ∧ (m.data.length = 96) ∧ (s.acceptance l.val m.data ≠ 2)) ∧
    (∃ (s : State) (l : Fin 4) (m : CremIn), ((s.link l.val).up = false ∨ (m.type ≠ 1 ∧ m.type ≠ 0x81))) ∧
    (∃ (s : State) (l : Fin 4) (m : CremIn), ((s.link l.val).up = true) ∧ (m.badBlock = true)) ∧
    (∃ (s : State) (l : Fin 4) (m : CremIn), ((s.link l.val).up = false ∨ m.badBlock = false)) ∧
    (∃ (s : State) (n : Fin 49), (s.dev.manager = true) ∧ ((s.nodeRec n.val).held = true) ∧ (16 ≤ (s.nodeRec n.val).silent) ∧ ((s.nodeRec n.val).lost = false)) ∧
    (∃ (s : State) (n : Fin 49), (s.dev.manager = false ∨ (s.nodeRec n.val).held = false ∨ (s.nodeRec n.val).silent < 16 ∨ (s.nodeRec n.val).lost = true)) :=
  ⟨⟨ws_cremUp, 2, 10, by decide +kernel⟩,
    ⟨ws_cremUpNot, 2, 9, by decide +kernel⟩,
    ⟨ws_cremDown, 2, true, by decide +kernel⟩,
    ⟨ws_cremLost, 1, true, by decide +kernel⟩,
    ⟨ws_cremDownNot, 2, true, by decide +kernel⟩,
    ⟨ws_cremTime, 1, by decide +kernel⟩,
    ⟨ws_cremTimeNot, 2, by decide +kernel⟩,
    ⟨ws_timeDown, 2, wCrem 1 (zeros 4) (wTime 2), by decide +kernel⟩,
    ⟨ws_timeUp, 0, wCrem 1 (zeros 4) (wTime 1), 7, by decide +kernel⟩,
    ⟨ws_timeCopy, 2, wCrem 0x81 (zeros 4) (wTime 2), by decide +kernel⟩,
    ⟨ws_timeBad, 2, { header := [1], coding := true }, by decide +kernel⟩,
    ⟨ws_timeRefused, 2, wCrem 1 (zeros 4) (wTime 1), by decide +kernel⟩,
    ⟨ws_timeNot, 1, { header := [] }, by decide +kernel⟩,
    ⟨ws_badBlock, 3, { header := [9, 1] }, by decide +kernel⟩,
    ⟨ws_goodBlock, 3, { header := zeros 8 }, by decide +kernel⟩,
    ⟨ws_nodeLost, 7, by decide +kernel⟩,
    ⟨ws_nodeLostNot, 7, by decide +kernel⟩⟩

/-- The hypotheses of each clause of CreminTree are met together. -/
theorem wit_CreminTree :
    (∃ (s : State) (l : Fin 4), (s.dev.manager = false) ∧ (s.isUp l.val = true) ∧ (s.linkOk l.val = true) ∧ ((match (s.link l.val).joinAt with | some b => decide (b + 8000 ≤ s.tc.boundaries) | none => true) = true) ∧ (((s.link l.val).queue.map CremTx.size).sum + ({ type := 3, specific := zeros 4, data := joinData s.dev.serial s.crem.node 0 [] 0 } : CremTx).size ≤ 65536)) ∧
    (∃ (s : State) (l : Fin 4), (s.dev.manager = false) ∧ (s.isUp l.val = true) ∧ (s.linkOk l.val = true) ∧ ((match (s.link l.val).joinAt with | some b => decide (b + 8000 ≤ s.tc.boundaries) | none => true) = true) ∧ (65536 < ((s.link l.val).queue.map CremTx.size).sum + ({ type := 3, specific := zeros 4, data := joinData s.dev.serial s.crem.node 0 [] 0 } : CremTx).size)) ∧
    (∃ (s : State) (l : Fin 4), (s.dev.manager = true ∨ s.isUp l.val = false ∨ s.linkOk l.val = false ∨ (match (s.link l.val).joinAt with | some b => decide (b + 8000 ≤ s.tc.boundaries) | none => true) = false)) ∧
    (∃ (s : State) (l : Fin 4) (m : CremIn) (u : Nat), ((s.link l.val).up = true) ∧ (m.type = 3) ∧ (m.ok = true) ∧ (m.data.length = 32) ∧ (s.role l.val = 1) ∧ (octet m.data 17 < 3) ∧ (s.dev.manager = false) ∧ (s.upstream = some u) ∧ (((s.link u).queue.map CremTx.size).sum + ({ type := 3, specific := zeros 4, data := joinData (m.data.take 16) (octet m.data 16) (octet m.data 17 + 1) ((BitVec.ofNat 8 l.val :: slice m.data 18 3).take 3) 0 } : CremTx).size ≤ 65536)) ∧
    (∃ (s : State) (l : Fin 4) (m : CremIn) (n : Nat), ((s.link l.val).up = true) ∧ (m.type = 3) ∧ (m.ok = true) ∧ (m.data.length = 32) ∧ (s.role l.val = 1) ∧ (octet m.data 17 < 3) ∧ (s.dev.manager = true) ∧ (((s.refreshSerial (m.data.take 16)).assignFor (m.data.take 16) (octet m.data 16)) = n) ∧ (1 ≤ n) ∧ (n ≤ 48) ∧ (((s.link l.val).queue.map CremTx.size).sum + ({ type := 4, specific := zeros 4, data := joinData (m.data.take 16) n (octet m.data 17 + 1) ((BitVec.ofNat 8 l.val :: slice m.data 18 3).take 3) 1 } : CremTx).size ≤ 65536)) ∧
    (∃ (s : State) (l : Fin 4) (m : CremIn) (n : Nat), ((s.link l.val).up = true) ∧ (m.type = 3) ∧ (m.ok = true) ∧ (m.data.length = 32) ∧ (s.role l.val = 1) ∧ (octet m.data 17 < 3) ∧ (s.dev.manager = true) ∧ (((s.refreshSerial (m.data.take 16)).assignFor (m.data.take 16) (octet m.data 16)) = n) ∧ (n = 255) ∧ (((s.link l.val).queue.map CremTx.size).sum + ({ type := 4, specific := zeros 4, data := joinData (m.data.take 16) n (octet m.data 17 + 1) ((BitVec.ofNat 8 l.val :: slice m.data 18 3).take 3) 1 } : CremTx).size ≤ 65536)) ∧
    (∃ (s : State) (l : Fin 4) (m : CremIn), ((s.link l.val).up = true) ∧ (m.type = 3) ∧ (m.ok = false ∨ m.data.length ≠ 32)) ∧
    (∃ (s : State) (l : Fin 4) (m : CremIn), ((s.link l.val).up = false ∨ m.type ≠ 3 ∨ (m.ok = true ∧ m.data.length = 32 ∧ (s.role l.val ≠ 1 ∨ 3 ≤ octet m.data 17 ∨ (s.dev.manager = false ∧ s.upstream = none))))) ∧
    (∃ (s : State) (l : Fin 4) (m : CremIn), ((s.link l.val).up = true) ∧ (m.type = 4) ∧ (m.ok = true) ∧ (m.data.length = 32) ∧ (s.dev.manager = false) ∧ (s.isUp l.val = true) ∧ (octet m.data 21 = octet m.data 17) ∧ (m.data.take 16 = s.dev.serial) ∧ (s.crem.node = 255) ∧ (octet m.data 16 ≠ 255) ∧ (s.valN Obj.crem_addr_source ≠ 3)) ∧
    (∃ (s : State) (l : Fin 4) (m : CremIn), ((s.link l.val).up = true) ∧ (m.type = 4) ∧ (m.ok = true) ∧ (m.data.length = 32) ∧ (s.dev.manager = false) ∧ (s.isUp l.val = true) ∧ (octet m.data 21 = octet m.data 17) ∧ (m.data.take 16 = s.dev.serial) ∧ (s.crem.node ≠ 255) ∧ (octet m.data 16 = 255) ∧ (s.valN Obj.crem_addr_source = 1)) ∧
    (∃ (s : State) (l : Fin 4) (m : CremIn), ((s.link l.val).up = true) ∧ (m.type = 4) ∧ (m.ok = true) ∧ (m.data.length = 32) ∧ (s.dev.manager = false) ∧ (s.isUp l.val = true) ∧ (octet m.data 21 = octet m.data 17) ∧ (m.data.take 16 = s.dev.serial) ∧ (s.crem.node ≠ 255) ∧ (octet m.data 16 ≠ s.crem.node) ∧ (¬ (octet m.data 16 = 255 ∧ s.valN Obj.crem_addr_source = 1))) ∧
    (∃ (s : State) (l : Fin 4) (m : CremIn), ((s.link l.val).up = true) ∧ (m.type = 4) ∧ (m.ok = true) ∧ (m.data.length = 32) ∧ (s.dev.manager = false) ∧ (s.isUp l.val = true) ∧ (octet m.data 21 = octet m.data 17) ∧ (m.data.take 16 ≠ s.dev.serial ∨ octet m.data 16 = s.crem.node ∨ (s.crem.node = 255 ∧ s.valN Obj.crem_addr_source = 3))) ∧
    (∃ (s : State) (l : Fin 4) (m : CremIn) (k : Nat), ((s.link l.val).up = true) ∧ (m.type = 4) ∧ (m.ok = true) ∧ (m.data.length = 32) ∧ (s.dev.manager = false) ∧ (s.isUp l.val = true) ∧ (octet m.data 21 ≠ octet m.data 17) ∧ (octet m.data 21 < 3) ∧ (octet m.data (18 + octet m.data 21) = k) ∧ (k < 4) ∧ (s.role k = 1) ∧ ((s.link k).up = true) ∧ (((s.link k).queue.map CremTx.size).sum + ({ type := 4, specific := zeros 4, data := joinData (m.data.take 16) (octet m.data 16) (octet m.data 17) (slice m.data 18 3) (octet m.data 21 + 1) } : CremTx).size ≤ 65536)) ∧
    (∃ (s : State) (l : Fin 4) (m : CremIn) (k : Nat), ((s.link l.val).up = true) ∧ (m.type = 4) ∧ (m.ok = true) ∧ (m.data.length = 32) ∧ (s.isUp l.val = true) ∧ (octet m.data 21 ≠ octet m.data 17) ∧ (octet m.data (18 + octet m.data 21) = k) ∧ (3 ≤ octet m.data 21 ∨ 4 ≤ k ∨ s.role k ≠ 1 ∨ (s.link k).up = false)) ∧
    (∃ (s : State) (l : Fin 4) (m : CremIn), ((s.link l.val).up = true) ∧ (m.type = 4) ∧ (m.ok = false ∨ m.data.length ≠ 32)) ∧
    (∃ (s : State) (l : Fin 4) (m : CremIn), ((s.link l.val).up = false ∨ m.type ≠ 4 ∨ (m.ok = true ∧ m.data.length = 32 ∧ (s.dev.manager = true ∨ s.isUp l.val = false)))) ∧
    (∃ (s : State) (n : Fin 49), ((s.nodeRec n.val).held = true) ∧ (s.passed (s.nodeRec n.val).heldAt (3 * oneSec) = true)) ∧
    (∃ (s : State) (n : Fin 49), ((s.nodeRec n.val).held = false ∨ s.passed (s.nodeRec n.val).heldAt (3 * oneSec) = false)) ∧
    (∃ (s : State) (l : Fin 4) (m : CremIn) (u : Nat), ((s.link l.val).up = true) ∧ (m.type = 2) ∧ (m.ok = true) ∧ (1 ≤ field m.data 0 2) ∧ (field m.data 0 2 ≤ 1016) ∧ (m.data.length = 8 * ceilDiv (field m.data 0 2 + 8) 8) ∧ (octet m.header 4 ≠ s.crem.node ∨ s.crem.node = 255) ∧ (octet m.header 4 ≠ 0xFE) ∧ (s.tunnelLinks (octet m.header 4) (some l.val) = [u]) ∧ (((s.link u).queue.map CremTx.size).sum + ({ type := 2, specific := slice m.header 4 4, data := m.data.take (m.data.length - 4) } : CremTx).size ≤ 65536)) ∧
    (∃ (s : State) (l : Fin 4) (m : CremIn), ((s.link l.val).up = true) ∧ (m.type = 2) ∧ (m.ok = true) ∧ (1 ≤ field m.data 0 2) ∧ (field m.data 0 2 ≤ 1016) ∧ (m.data.length = 8 * ceilDiv (field m.data 0 2 + 8) 8) ∧ (octet m.header 4 ≠ s.crem.node ∨ s.crem.node = 255) ∧ (octet m.header 4 ≠ 0xFE) ∧ (s.tunnelLinks (octet m.header 4) (some l.val) = [])) ∧
    (∃ (s : State) (l : Fin 4) (m : CremIn), ((s.link l.val).up = true) ∧ (m.type = 2) ∧ (m.ok = false ∨ field m.data 0 2 = 0 ∨ 1016 < field m.data 0 2 ∨ m.data.length ≠ 8 * ceilDiv (field m.data 0 2 + 8) 8)) ∧
    (∃ (s : State) (l : Fin 4) (m : CremIn), ((s.link l.val).up = true) ∧ (m.type = 2) ∧ (m.ok = true) ∧ (1 ≤ field m.data 0 2) ∧ (field m.data 0 2 ≤ 1016) ∧ (m.data.length = 8 * ceilDiv (field m.data 0 2 + 8) 8) ∧ (octet m.header 4 = s.crem.node) ∧ (s.crem.node ≠ 255) ∧ ((octet m.header 6).testBit 0 = true) ∧ ((octet m.header 6).testBit 1 = false)) ∧
    (∃ (s : State) (l : Fin 4) (m : CremIn) (e : Nat × Nat × Bytes), ((s.link l.val).up = true) ∧ (m.type = 2) ∧ (m.ok = true) ∧ (1 ≤ field m.data 0 2) ∧ (field m.data 0 2 ≤ 1016) ∧ (m.data.length = 8 * ceilDiv (field m.data 0 2 + 8) 8) ∧ (octet m.header 4 = s.crem.node) ∧ (s.crem.node ≠ 255) ∧ ((octet m.header 6).testBit 0 = false) ∧ ((octet m.header 6).testBit 1 = false) ∧ (s.crem.parts.find? (fun e => e.1 == octet m.header 5 && e.2.1 == field m.data 2 2) = some e)) ∧
    (∃ (s : State) (l : Fin 4) (m : CremIn), ((s.link l.val).up = true) ∧ (m.type = 2) ∧ (m.ok = true) ∧ (1 ≤ field m.data 0 2) ∧ (field m.data 0 2 ≤ 1016) ∧ (m.data.length = 8 * ceilDiv (field m.data 0 2 + 8) 8) ∧ (octet m.header 4 = s.crem.node) ∧ (s.crem.node ≠ 255) ∧ ((octet m.header 6).testBit 0 = false) ∧ (s.crem.parts.find? (fun e => e.1 == octet m.header 5 && e.2.1 == field m.data 2 2) = none)) ∧
    (∃ (s : State) (l : Fin 4) (m : CremIn), ((s.link l.val).up = true) ∧ (m.type = 2) ∧ (m.ok = true) ∧ (1 ≤ field m.data 0 2) ∧ (field m.data 0 2 ≤ 1016) ∧ (m.data.length = 8 * ceilDiv (field m.data 0 2 + 8) 8) ∧ (octet m.header 4 = s.crem.node) ∧ (s.crem.node ≠ 255) ∧ ((octet m.header 6).testBit 0 = true) ∧ ((octet m.header 6).testBit 1 = true) ∧ ((octet (slice m.data 4 (field m.data 0 2)) 3).testBit 0 = false) ∧ (s.gran.inbox.length < 64)) ∧
    (∃ (s : State) (l : Fin 4) (m : CremIn), ((s.link l.val).up = true) ∧ (m.type = 2) ∧ (m.ok = true) ∧ (1 ≤ field m.data 0 2) ∧ (field m.data 0 2 ≤ 1016) ∧ (m.data.length = 8 * ceilDiv (field m.data 0 2 + 8) 8) ∧ (octet m.header 4 = 0xFE) ∧ (s.crem.node ≠ 0xFE) ∧ ((octet m.header 6).testBit 0 = true) ∧ ((octet m.header 6).testBit 1 = false) ∧ (s.tunnelLinks 0xFE (some l.val) = [])) ∧
    (∃ (s : State) (l : Fin 4) (m : CremIn), ((s.link l.val).up = false ∨ m.type ≠ 2)) ∧
    (∃ (s : State) (l : Fin 4) (m : CremTx), ((s.link l.val).up = true) ∧ ((s.link l.val).sentTick = true) ∧ ((s.link l.val).queue = [m]) ∧ ((s.link l.val).blocks + (1 + (m.data.length + 4) / 8) ≤ 19531)) ∧
    (∃ (s : State) (l : Fin 4) (m k : CremTx), ((s.link l.val).up = true) ∧ ((s.link l.val).sentTick = true) ∧ ((s.link l.val).queue = [m, k]) ∧ (m.type = 2) ∧ (k.type ≠ 2) ∧ ((s.link l.val).blocks + (1 + (k.data.length + 4) / 8) + (1 + (m.data.length + 4) / 8) ≤ 19531)) ∧
    (∃ (s : State) (l : Fin 4), ((s.link l.val).up = false ∨ (s.link l.val).sentTick = false ∨ (s.link l.val).queue = [] ∨ ((s.link l.val).queue.length = 1 ∧ 19531 < (s.link l.val).blocks + (1 + (((s.link l.val).queue.headD {}).data.length + 4) / 8)))) ∧
    (∃ (s : State) (u : Nat), (s.dev.manager = false) ∧ (s.tc.tickNo % 8 = 4) ∧ (s.crem.sumAt ≠ s.tc.boundaries) ∧ (s.crem.started = true) ∧ (s.upstream = some u) ∧ (((s.link u).queue.map CremTx.size).sum + ({ type := 5, specific := zeros 4, data := s.summaryData } : CremTx).size ≤ 65536)) ∧
    (∃ (s : State), (s.dev.manager = false) ∧ (s.tc.tickNo % 8 = 4) ∧ (s.crem.sumAt ≠ s.tc.boundaries) ∧ (s.crem.started = true) ∧ (s.upstream = none)) ∧
    (∃ (s : State), (s.dev.manager = true ∨ s.tc.tickNo % 8 ≠ 4 ∨ s.crem.sumAt = s.tc.boundaries ∨ s.crem.started = false)) ∧
    (∃ (s : State) (l : Fin 4) (m : CremIn), ((s.link l.val).up = true) ∧ (m.type = 5) ∧ (m.ok = true) ∧ (m.data.length = 32) ∧ (s.role l.val = 1) ∧ (s.dev.manager = true) ∧ (1 ≤ octet m.data 0) ∧ (octet m.data 0 ≤ 48)) ∧
    (∃ (s : State) (l : Fin 4) (m : CremIn) (u : Nat), ((s.link l.val).up = true) ∧ (m.type = 5) ∧ (m.ok = true) ∧ (m.data.length = 32) ∧ (s.role l.val = 1) ∧ (s.dev.manager = false) ∧ (s.upstream = some u) ∧ (((s.link u).queue.map CremTx.size).sum + ({ type := 5, specific := slice m.header 4 4, data := m.data.take 28 } : CremTx).size ≤ 65536)) ∧
    (∃ (s : State) (l : Fin 4) (m : CremIn), ((s.link l.val).up = true) ∧ (m.type = 5) ∧ (m.ok = false ∨ m.data.length ≠ 32)) ∧
    (∃ (s : State) (l : Fin 4) (m : CremIn), ((s.link l.val).up = false ∨ m.type ≠ 5 ∨ (m.ok = true ∧ m.data.length = 32 ∧ (s.role l.val ≠ 1 ∨ (s.dev.manager = true ∧ (octet m.data 0 = 0 ∨ 48 < octet m.data 0)) ∨ (s.dev.manager = false ∧ s.upstream = none))))) :=
  ⟨⟨ws_join, 0, by decide +kernel⟩,
    ⟨ws_joinFull, 0, by decide +kernel⟩,
    ⟨ws_joinNot, 0, by decide +kernel⟩,
    ⟨ws_joinFwd, 2, wCrem 3 (zeros 4) (joinData (List.replicate 16 0x22) 255 1 [] 0), 0, by decide +kernel⟩,
    ⟨ws_joinGive, 2, wCrem 3 (zeros 4) (joinData (List.replicate 16 0x22) 255 0 [] 0), 1, by decide +kernel⟩,
    ⟨ws_joinRefuse, 2, wCrem 3 (zeros 4) (joinData (List.replicate 16 0x22) 77 0 [] 0), 255, by decide +kernel⟩,
    ⟨ws_joinBad, 2, { header := [3] }, by decide +kernel⟩,
    ⟨ws_joinRxNot, 2, wCrem 4 (zeros 4) (joinData (List.replicate 16 0x22) 255 0 [] 0), by decide +kernel⟩,
    ⟨ws_assignTake, 0, wCrem 4 (zeros 4) (joinData (List.replicate 16 0x11) 7 2 [] 2), by decide +kernel⟩,
    ⟨ws_assignRefused, 0, wCrem 4 (zeros 4) (joinData (List.replicate 16 0x11) 255 2 [] 2), by decide +kernel⟩,
    ⟨ws_assignOther, 0, wCrem 4 (zeros 4) (joinData (List.replicate 16 0x11) 7 2 [] 2), by decide +kernel⟩,
    ⟨ws_assignStray, 0, wCrem 4 (zeros 4) (joinData (List.replicate 16 0x22) 7 2 [] 2), by decide +kernel⟩,
    ⟨ws_assignFwd, 0, wCrem 4 (zeros 4) (joinData (List.replicate 16 0x22) 7 2 [1, 3] 1), 3, by decide +kernel⟩,
    ⟨ws_assignNoWay, 0, wCrem 4 (zeros 4) (joinData (List.replicate 16 0x22) 7 2 [1, 0] 1), 0, by decide +kernel⟩,
    ⟨ws_assignBad, 2, { header := [4] }, by decide +kernel⟩,
    ⟨ws_assignNot, 0, wCrem 4 (zeros 4) (joinData (List.replicate 16 0x22) 7 2 [] 0), by decide +kernel⟩,
    ⟨ws_holdEnd, 5, by decide +kernel⟩,
    ⟨ws_releaseNot, 5, by decide +kernel⟩,
    ⟨ws_tunFwd, 2, wCrem 2 [5, 3, 3, 0] ([0, 4, 0, 7, 1, 2, 3, 4] ++ zeros 4), 0, by decide +kernel⟩,
    ⟨ws_tunDrop, 2, wCrem 2 [5, 3, 3, 0] ([0, 4, 0, 7, 1, 2, 3, 4] ++ zeros 4), by decide +kernel⟩,
    ⟨ws_tunBad, 2, { header := [2] }, by decide +kernel⟩,
    ⟨ws_tunFirst, 2, wCrem 2 [9, 3, 1, 0] ([0, 4, 0, 7, 1, 2, 3, 4] ++ zeros 4), by decide +kernel⟩,
    ⟨ws_tunMiddle, 2, wCrem 2 [9, 3, 0, 0] ([0, 4, 0, 7, 1, 2, 3, 4] ++ zeros 4), (3, 7, [8]), by decide +kernel⟩,
    ⟨ws_tunMissing, 2, wCrem 2 [9, 3, 2, 0] ([0, 4, 0, 7, 1, 2, 3, 4] ++ zeros 4), by decide +kernel⟩,
    ⟨ws_tunWhole, 2, wCrem 2 [9, 3, 3, 0] ([0, 4, 0, 7, 1, 2, 3, 4] ++ zeros 4), by decide +kernel⟩,
    ⟨ws_tunAll, 0, wCrem 2 [0xFE, 3, 1, 0] ([0, 4, 0, 7, 1, 2, 3, 4] ++ zeros 4), by decide +kernel⟩,
    ⟨ws_tunNot, 1, { header := [2] }, by decide +kernel⟩,
    ⟨ws_tunSend, 1, { type := 2, data := zeros 4 }, by decide +kernel⟩,
    ⟨ws_tunOrder, 1, { type := 2, data := zeros 4 }, { type := 5, data := zeros 28 }, by decide +kernel⟩,
    ⟨ws_tunSendNot, 1, by decide +kernel⟩,
    ⟨ws_summ, 0, by decide +kernel⟩,
    ⟨ws_summAlone, by decide +kernel⟩,
    ⟨ws_summNot, by decide +kernel⟩,
    ⟨ws_summStore, 2, wCrem 5 (zeros 4) ([5] ++ zeros 27), by decide +kernel⟩,
    ⟨ws_summFwd, 2, wCrem 5 (zeros 4) ([5] ++ zeros 27), 0, by decide +kernel⟩,
    ⟨ws_summBad, 2, { header := [5] }, by decide +kernel⟩,
    ⟨ws_summRxNot, 2, { header := [4] }, by decide +kernel⟩⟩

/-- The hypotheses of each clause of AttonReads are met together. -/
theorem wit_AttonReads :
    (∃ (s : State) (m : AttonMsg) (rest : List AttonMsg) (st : Nat) (b : Bytes), (s.gran.inbox = m :: rest) ∧ (s.attonUp = true) ∧ (m.wellFormed = true) ∧ (s.attonHere m = true) ∧ (s.attonWaits m = false) ∧ (m.passed = none) ∧ (m.back.via = 0) ∧ (m.reserved = 0) ∧ (s.effT Obj.spi_lock = false) ∧ (m.op = 1) ∧ (m.body.length = 4) ∧ (octet m.body 0 = 1) ∧ (({ s with gran := { s.gran with inbox := rest } } : State).readEntry m.level pathSpi (field m.body 1 2) (octet m.body 3) = (({ s with gran := { s.gran with inbox := rest } } : State), st, b)) ∧ (({ s with gran := { s.gran with inbox := rest } } : State).entryLen m.level pathSpi (field m.body 1 2) (octet m.body 3) ≤ 1353)) ∧
    (∃ (s : State) (m : AttonMsg) (rest : List AttonMsg) (r : HandleRec) (h : Nat), (s.gran.inbox = m :: rest) ∧ (s.attonUp = true) ∧ (m.wellFormed = true) ∧ (s.attonHere m = true) ∧ (s.attonWaits m = false) ∧ (m.passed = none) ∧ (m.back.via = 0) ∧ (m.reserved = 0) ∧ (s.effT Obj.spi_lock = false) ∧ (m.op = 4) ∧ (m.body.length = 4) ∧ (s.gran.handles.find? (fun e => e.1 == beNat m.body) = some (h, r)) ∧ (r.status = 1 ∨ r.status = 2)) ∧
    (∃ (s : State) (m : AttonMsg) (rest : List AttonMsg), (s.gran.inbox = m :: rest) ∧ (s.attonUp = true) ∧ (m.wellFormed = true) ∧ (s.attonHere m = true) ∧ (s.attonWaits m = false) ∧ (m.passed = none) ∧ (m.back.via = 0) ∧ (m.reserved = 0) ∧ (s.effT Obj.spi_lock = false) ∧ (m.op = 4) ∧ (m.body.length = 4) ∧ (s.gran.handles.find? (fun e => e.1 == beNat m.body) = none)) ∧
    (∃ (s : State) (m : AttonMsg) (rest : List AttonMsg) (es : List (Nat × Nat)), (s.gran.inbox = m :: rest) ∧ (s.attonUp = true) ∧ (m.wellFormed = true) ∧ (s.attonHere m = true) ∧ (s.attonWaits m = false) ∧ (m.passed = none) ∧ (m.back.via = 0) ∧ (m.reserved = 0) ∧ (s.effT Obj.spi_lock = false) ∧ (m.op = 5) ∧ (7 ≤ m.body.length) ∧ (parseReads (octet m.body 6) (m.body.drop 7) = some es) ∧ (es ≠ []) ∧ (octet m.body 6 ≤ 32) ∧ (1 ≤ field m.body 2 2) ∧ (1 ≤ field m.body 4 2) ∧ (field m.body 4 2 ≤ 3600) ∧ (2 ≤ m.level) ∧ (s.gran.subs = []) ∧ ((s.gran.assocs.find? fun e => e.1 == pathSpi) = none)) ∧
    (∃ (s : State) (m : AttonMsg) (rest : List AttonMsg), (s.gran.inbox = m :: rest) ∧ (s.attonUp = true) ∧ (m.wellFormed = true) ∧ (s.attonHere m = true) ∧ (m.passed = none) ∧ (m.back.via ≠ 0) ∧ (m.reserved = 0) ∧ (m.op = 1) ∧ (s.attonTagOk m = false)) ∧
    (∃ (s : State) (m : AttonMsg) (rest : List AttonMsg), (s.gran.inbox = m :: rest) ∧ (s.attonUp = true) ∧ (m.wellFormed = false) ∧ (m.reserved = 0) ∧ (m.op = 5)) ∧
    (∃ (s : State) (c : Instr), (s.gran.inbox = []) ∧ (c ∈ [Instr.read, .write, .bundleWrite, .commitStatus, .subscribe, .store, .restoreDefaults, .attonForward])) ∧
    (∃ (s : State) (c : Instr), (s.attonUp = false) ∧ (c ∈ [Instr.read, .write, .bundleWrite, .commitStatus, .subscribe, .store, .restoreDefaults, .attonForward])) ∧
    (∃ (s : State) (m : AttonMsg) (rest : List AttonMsg) (u : Nat), (s.gran.inbox = m :: rest) ∧ (s.attonUp = true) ∧ (m.wellFormed = true) ∧ (s.attonHere m = false) ∧ (m.back.via = 0) ∧ (m.reserved = 0) ∧ (m.bytes.length ≤ 1016) ∧ (s.tunnelLinks m.node none = [u]) ∧ ((((s.link u).queue ++ tunnelMsgs m.node s.crem.node s.crem.tunnelId m.bytes).map CremTx.size).sum ≤ 65536)) ∧
    (∃ (s : State) (u : Sub) (b : Bytes), (s.gran.draining = []) ∧ (s.gran.subs = [u]) ∧ (s.gran.assocs = []) ∧ (u.dueAt ≠ 0) ∧ (u.owner = 64) ∧ (s.gran.spiNotify.length < 16) ∧ (State.readEntries u.level 64 1347 u.entries ({ s with gran := { s.gran with subs := [{ u with dueAt := 0 }] } } : State) = ({ s with gran := { s.gran with subs := [{ u with dueAt := 0 }] } }, b))) ∧
    (∃ (s : State), (s.gran.draining = []) ∧ (s.gran.subs = []) ∧ (s.gran.assocs = [])) ∧
    (∃ (s : State) (u v : Sub), (s.gran.subs = [u, v]) ∧ (s.passed u.since (u.life * oneSec) = true) ∧ (s.passed v.since (v.life * oneSec) = false)) ∧
    (∃ (s : State) (u v : RetRec), (s.gran.returns = [u, v]) ∧ (s.passed u.used (3600 * oneSec) = true) ∧ (s.passed v.used (3600 * oneSec) = false)) ∧
    (∃ (s : State) (msg : Bytes), (s.attonUp = true) ∧ (s.gran.spiResp = none) ∧ (s.gran.inbox.length < 64)) ∧
    (∃ (s : State) (msg b : Bytes), (s.attonUp = true) ∧ (s.gran.spiResp = some b)) ∧
    (∃ (s : State) (msg : Bytes), (s.attonUp = true) ∧ (s.gran.spiResp = none) ∧ (64 ≤ s.gran.inbox.length)) ∧
    (∃ (s : State) (b : Bytes), (s.attonUp = true) ∧ (s.gran.spiResp = some b) ∧ (s.effT Obj.spi_lock = false)) ∧
    (∃ (s : State), (s.attonUp = true) ∧ (s.gran.spiResp = none) ∧ (s.gran.spiNotify = []) ∧ (s.effT Obj.spi_lock = false)) ∧
    (∃ (s : State) (b : Bytes), (s.attonUp = true) ∧ (s.gran.spiResp = some b)) ∧
    (∃ (s : State) (b : Bytes) (l : List Bytes), (s.attonUp = true) ∧ (s.gran.spiResp = none) ∧ (s.gran.spiNotify = b :: l)) ∧
    (∃ (s : State) (cmd : Byte), (s.attonUp = true) ∧ (cmd ≠ 1) ∧ (cmd ≠ 2) ∧ (cmd ≠ 3)) ∧
    (∃ (s : State) (c : Instr) (msg : Bytes) (cmd : Byte), (s.attonUp = false) ∧ (c ∈ [Instr.send msg, .status, .fetch, .spiBadCommand cmd])) ∧
    (∃ (s : State) (index sub : Nat), ((match s.objPresent index sub with | some o => o.row.acc == .rc && !o.twin && !([0x2120, 0x410C, 0x4188, 0x800A].contains o.row.base) && o.row.key o.i o.j == keyOf index sub | none => false) = true)) ∧
    (∃ (s : State) (index sub : Nat), ((match s.objPresent index sub with | some o => o.row.acc != .rc || o.twin | none => true) = true)) :=
  ⟨⟨ws_read, wMsg 1 1 ([1, 0x12, 0x05, 0]), [], 0, ((wAgent []).readEntry 1 pathSpi 0x1205 0).2.2, by decide +kernel⟩,
    ⟨ws_status, wMsg 4 1 [0, 0, 0, 9], [], {}, 9, by decide +kernel⟩,
    ⟨ws_statusNone, wMsg 4 1 ([0, 0, 0, 9]), [], by decide +kernel⟩,
    ⟨ws_subscribe, wMsg 5 2 ([0, 3, 0, 1, 0, 60, 1, 0x20, 0x05, 0]), [], [(0x2005, 0)], by decide +kernel⟩,
    ⟨ws_authFail, { wMsg 1 1 [0] with back := { via := 1, port := 2 } }, [], by decide +kernel⟩,
    ⟨ws_malformed, { bytes := [2, 5] }, [], by decide +kernel⟩,
    ⟨ws_noMsg, .read, by decide +kernel⟩,
    ⟨ws_agentDown, .write, by decide +kernel⟩,
    ⟨ws_forward, { bytes := (wMsg 1 1 [0]).bytes.set 6 5 }, [], 2, by decide +kernel⟩,
    ⟨ws_notify, { owner := 64, dueAt := 3, entries := [(0x1205, 0)] }, (State.readEntries 1 64 1347 [(0x1205, 0)] {}).2, by decide +kernel⟩,
    ⟨ws_notifyNone, by decide +kernel⟩,
    ⟨ws_subExpire, {}, { life := 3000 }, by decide +kernel⟩,
    ⟨ws_retExpire, {}, { used := 10 ^ 12 }, by decide +kernel⟩,
    ⟨wServe, [1, 2], by decide +kernel⟩,
    ⟨ws_sendBusy, [1, 2], [3], by decide +kernel⟩,
    ⟨ws_sendFull, [1, 2], by decide +kernel⟩,
    ⟨ws_spiStatus, [3], by decide +kernel⟩,
    ⟨wServe, by decide +kernel⟩,
    ⟨ws_fetch, [3], by decide +kernel⟩,
    ⟨ws_fetchNotify, [3], [[4]], by decide +kernel⟩,
    ⟨wServe, 9, by decide +kernel⟩,
    ⟨ws_spiOff, .fetch, [], 0, by decide +kernel⟩,
    ⟨ws_readClear, 0x1203, 0, by decide +kernel⟩,
    ⟨wServe, 0x2000, 0, by decide +kernel⟩⟩

/-- The hypotheses of each clause of AttonWrites are met together. -/
theorem wit_AttonWrites :
    (∃ (s : State) (m : AttonMsg) (rest : List AttonMsg) (e : WriteEntry), (s.gran.inbox = m :: rest) ∧ (s.attonUp = true) ∧ (m.wellFormed = true) ∧ (s.attonHere m = true) ∧ (s.attonWaits m = false) ∧ (m.passed = none) ∧ (m.back.via = 0) ∧ (m.reserved = 0) ∧ (s.effT Obj.spi_lock = false) ∧ (m.op = 2) ∧ (parseWrites 1 m.body = some [e]) ∧ (Passes s m.level e)) ∧
    (∃ (s : State) (m : AttonMsg) (rest : List AttonMsg) (e : WriteEntry) (st : Nat), (s.gran.inbox = m :: rest) ∧ (s.attonUp = true) ∧ (m.wellFormed = true) ∧ (s.attonHere m = true) ∧ (s.attonWaits m = false) ∧ (m.passed = none) ∧ (m.back.via = 0) ∧ (m.reserved = 0) ∧ (s.effT Obj.spi_lock = false) ∧ (m.op = 2) ∧ (parseWrites 1 m.body = some [e]) ∧ (s.noStaging = false) ∧ (s.boot.recovery = false) ∧ ((match s.checkWrite m.level e.index e.sub e.value with | .error x => x == st | _ => false) = true) ∧ (16 ≤ st) ∧ (st < 24)) ∧
    (∃ (s : State) (m : AttonMsg) (rest : List AttonMsg) (es : List WriteEntry), (s.gran.inbox = m :: rest) ∧ (s.attonUp = true) ∧ (m.wellFormed = true) ∧ (s.attonHere m = true) ∧ (s.attonWaits m = false) ∧ (m.passed = none) ∧ (m.back.via = 0) ∧ (m.reserved = 0) ∧ (s.effT Obj.spi_lock = false) ∧ (m.op = 3) ∧ (1 ≤ octet m.body 0) ∧ (octet m.body 0 ≤ 64) ∧ (parseWrites (octet m.body 0) (m.body.drop 1) = some es) ∧ (s.noStaging = false) ∧ (s.boot.recovery = false) ∧ ((match s.bundleEntries m.level [] es with | .ok os => (s.checkRules (s.projected (s.target es).1 os) os).isNone | .error _ => false) = true)) ∧
    (∃ (s : State) (m : AttonMsg) (rest : List AttonMsg), (s.gran.inbox = m :: rest) ∧ (s.attonUp = true) ∧ (m.wellFormed = true) ∧ (s.attonHere m = true) ∧ (m.passed = none) ∧ (m.back.via = 0) ∧ (m.reserved = 0) ∧ (s.effT Obj.spi_lock = false) ∧ (m.op = 3) ∧ (s.attonWaits m = true)) ∧
    (∃ (s : State) (m : AttonMsg) (rest : List AttonMsg), (s.gran.inbox = m :: rest) ∧ (s.attonUp = true) ∧ (m.wellFormed = true) ∧ (s.attonHere m = true) ∧ (s.attonWaits m = false) ∧ (m.passed = none) ∧ (m.back.via = 0) ∧ (m.reserved = 0) ∧ (s.effT Obj.spi_lock = false) ∧ (m.op = 7) ∧ (m.body = []) ∧ (2 ≤ m.level) ∧ (s.noStaging = false) ∧ (s.boot.recovery = false) ∧ (s.gran.storeNext = none)) ∧
    (∃ (s : State) (m : AttonMsg) (rest : List AttonMsg) (j : StoreJob), (s.gran.inbox = m :: rest) ∧ (s.attonUp = true) ∧ (m.wellFormed = true) ∧ (s.attonHere m = true) ∧ (s.attonWaits m = false) ∧ (m.passed = none) ∧ (m.back.via = 0) ∧ (m.reserved = 0) ∧ (s.effT Obj.spi_lock = false) ∧ (m.op = 7) ∧ (m.body = []) ∧ (2 ≤ m.level) ∧ (s.noStaging = false) ∧ (s.boot.recovery = false) ∧ (s.gran.storeNext = some j)) ∧
    (∃ (s : State) (m : AttonMsg) (rest : List AttonMsg), (s.gran.inbox = m :: rest) ∧ (s.attonUp = true) ∧ (m.wellFormed = true) ∧ (s.attonHere m = true) ∧ (s.attonWaits m = false) ∧ (m.passed = none) ∧ (m.back.via = 0) ∧ (m.reserved = 0) ∧ (s.effT Obj.spi_lock = false) ∧ (m.op = 7) ∧ (m.body = []) ∧ (m.level = 1)) ∧
    (∃ (s : State) (m : AttonMsg) (rest : List AttonMsg) (k : Nat), (s.gran.inbox = m :: rest) ∧ (s.attonUp = true) ∧ (m.wellFormed = true) ∧ (s.attonHere m = true) ∧ (s.attonWaits m = false) ∧ (m.passed = none) ∧ (m.back.via = 0) ∧ (m.reserved = 0) ∧ (s.effT Obj.spi_lock = false) ∧ (m.op = 8) ∧ (m.body = []) ∧ (m.level = 3) ∧ (s.noStaging = false) ∧ (s.boot.recovery = false) ∧ ((s.sets.takeWhile fun c => c.restore.isSome).length = k)) ∧
    (∃ (s : State) (j : StoreJob), (s.gran.store = some j) ∧ (j.captured = true) ∧ (s.boot.plan.testBit planDefaults = false)) ∧
    (∃ (s : State) (j : StoreJob), (s.gran.store = some j) ∧ (j.captured = true)) ∧
    (∃ (s : State) (ok : Bool), ((match s.gran.store with | some j => j.captured | none => false) = false)) :=
  ⟨⟨ws_write, wMsg 2 2 ([0x20, 0x20, 0, 0, 0, 8] ++ intBytes 8 5), [], { index := 0x2020, sub := 0, value := intBytes 8 5 }, by decide +kernel⟩,
    ⟨ws_writeRefuse, wMsg 2 1 ([0x20, 0x20, 0, 0, 0, 8] ++ intBytes 8 5), [], { index := 0x2020, sub := 0, value := intBytes 8 5 }, 0x12, by decide +kernel⟩,
    ⟨ws_bundle, wMsg 3 2 ([1] ++ [0x20, 0x20, 0, 0, 0, 8] ++ intBytes 8 5), [], [{ index := 0x2020, sub := 0, value := intBytes 8 5 }], by decide +kernel⟩,
    ⟨ws_closed, wMsg 3 2 ([1] ++ [0x20, 0x20, 0, 0, 0, 8] ++ intBytes 8 5), [], by decide +kernel⟩,
    ⟨ws_storeOp, wMsg 7 2 ([]), [], by decide +kernel⟩,
    ⟨ws_storeJoins, wMsg 7 2 [], [], { handle := 4 }, by decide +kernel⟩,
    ⟨ws_storeLow, wMsg 7 1 ([]), [], by decide +kernel⟩,
    ⟨ws_restore, wMsg 8 3 ([]), [], 0, by decide +kernel⟩,
    ⟨ws_storeDone, { captured := true, handle := 4 }, by decide +kernel⟩,
    ⟨ws_storeFail, { captured := true, handle := 4 }, by decide +kernel⟩,
    ⟨ws_storeNone, true, by decide +kernel⟩⟩

/-- The hypotheses of each clause of FaultsRaisedAndPresented are met together. -/
theorem wit_FaultsRaisedAndPresented :
    (∃ (s : State) (x : Fin 320) (i : FaultInfo), (s.boot.inReset = false) ∧ (x.val ≠ 311) ∧ (¬ (x.val = 313 ∧ s.instState = 1)) ∧ (¬ (100 ≤ x.val ∧ x.val < 168)) ∧ (¬ (211 ≤ x.val ∧ x.val ≤ 213)) ∧ ((srcRow x.val).cond = false) ∧ (CanRaise s x.val)) ∧
    (∃ (s : State) (x : Fin 320) (i : FaultInfo), (s.boot.inReset = false) ∧ (x.val ≠ 311) ∧ (¬ (x.val = 313 ∧ s.instState = 1)) ∧ (¬ (100 ≤ x.val ∧ x.val < 168)) ∧ (¬ (211 ≤ x.val ∧ x.val ≤ 213)) ∧ ((srcRow x.val).cond = true) ∧ ((vat s.win.srcs x.val {}).cond = false) ∧ (CanRaise s x.val)) ∧
    (∃ (s : State) (x : Fin 320) (i : FaultInfo) (p : Nat), (s.boot.inReset = false) ∧ (x.val ≠ 311) ∧ (¬ (x.val = 313 ∧ s.instState = 1)) ∧ (x.val = 211 + p) ∧ (p < 3) ∧ ((s.pair p).fenced = false) ∧ (CanRaise s x.val)) ∧
    (∃ (s : State) (x : Fin 320) (i : FaultInfo), (s.boot.inReset = false) ∧ (x.val ≠ 311) ∧ (¬ (x.val = 313 ∧ s.instState = 1)) ∧ (¬ (100 ≤ x.val ∧ x.val < 168)) ∧ (¬ (211 ≤ x.val ∧ x.val ≤ 213)) ∧ ((srcRow x.val).cond = false) ∧ ((x.val < 168 ∧ 32 ≤ x.val → s.win.bankLost.contains ((x.val - 32) % 68) = false)) ∧ (s.win.busy = true ∨ s.win.heartLost = true) ∧ (s.mask x.val &&& 0x0C ≠ 0) ∧ ((s.win.held.any fun h => h.1 == x.val) = false)) ∧
    (∃ (s : State) (x : Fin 320) (i : FaultInfo), (s.boot.inReset = false) ∧ (x.val ≠ 311) ∧ (¬ (x.val = 313 ∧ s.instState = 1)) ∧ (¬ (100 ≤ x.val ∧ x.val < 168)) ∧ (¬ (211 ≤ x.val ∧ x.val ≤ 213)) ∧ ((srcRow x.val).cond = false) ∧ ((x.val < 168 ∧ 32 ≤ x.val → s.win.bankLost.contains ((x.val - 32) % 68) = false)) ∧ (s.win.busy = true ∨ s.win.heartLost = true) ∧ (s.mask x.val &&& 0x0C = 0 ∨ (s.win.held.any fun h => h.1 == x.val) = true)) ∧
    (∃ (s : State) (x : Fin 320) (i : FaultInfo) (b : Nat), (s.boot.inReset = false) ∧ (x.val ≠ 311) ∧ (¬ (x.val = 313 ∧ s.instState = 1)) ∧ (x.val = 100 + b) ∧ (b < 68) ∧ (vat s.win.ce b 0 + 1 < s.effN Obj.win_ce_threshold ∨ vat s.win.ceRaised b false = true)) ∧
    (∃ (s : State) (x : Fin 320) (i : FaultInfo) (b : Nat), (s.boot.inReset = false) ∧ (x.val ≠ 311) ∧ (¬ (x.val = 313 ∧ s.instState = 1)) ∧ (x.val = 100 + b) ∧ (b < 68) ∧ (s.effN Obj.win_ce_threshold ≤ vat s.win.ce b 0 + 1) ∧ (vat s.win.ceRaised b false = false) ∧ (s.win.bankLost.contains b = false) ∧ (s.win.busy = false) ∧ (s.win.heartLost = false) ∧ ((s.win.now.any fun h => h.1 == x.val) = false)) ∧
    (∃ (s : State) (x : Fin 320) (i : FaultInfo), (s.boot.inReset = false) ∧ (x.val ≠ 311) ∧ (¬ (x.val = 313 ∧ s.instState = 1)) ∧ (32 ≤ x.val) ∧ (x.val < 100) ∧ ((srcRow x.val).cond = false) ∧ (s.win.bankLost.contains (x.val - 32) = true)) ∧
    (∃ (s : State) (x : Fin 320) (i : FaultInfo), (s.boot.inReset = false) ∧ (x.val = 313) ∧ (s.instState = 1)) ∧
    (∃ (s : State) (x : Fin 320) (i : FaultInfo) (p : Nat), (x.val = 211 + p) ∧ (p < 3) ∧ ((s.pair p).fenced = true)) ∧
    (∃ (s : State) (x : Fin 320) (i : FaultInfo), (s.boot.inReset = true)) ∧
    (∃ (s : State) (x : Nat) (i : FaultInfo), (s.boot.inReset = false) ∧ (s.boot.halted = false) ∧ (s.win.busy = false) ∧ (s.win.heartLost = false) ∧ (s.win.now = [(x, i)]) ∧ (x < 320) ∧ (¬ (211 ≤ x ∧ x ≤ 213)) ∧ (s.win.first = none) ∧ (s.mask x = 1) ∧ (s.effN Obj.tithe_freeze_sev = 0xFF)) ∧
    (∃ (s : State) (x : Nat) (i : FaultInfo) (r : Bytes), (s.boot.inReset = false) ∧ (s.boot.halted = false) ∧ (s.win.busy = false) ∧ (s.win.heartLost = false) ∧ (s.win.now = [(x, i)]) ∧ (x < 320) ∧ (¬ (211 ≤ x ∧ x ≤ 213)) ∧ (s.win.first = some r) ∧ (s.mask x = 0) ∧ (s.effN Obj.tithe_freeze_sev = 0xFF)) ∧
    (∃ (s : State) (x : Nat) (i : FaultInfo) (k : Nat), (s.boot.inReset = false) ∧ (s.boot.halted = false) ∧ (s.win.busy = false) ∧ (s.win.heartLost = false) ∧ (s.win.now = [(x, i)]) ∧ (x < 320) ∧ (¬ (211 ≤ x ∧ x ≤ 213)) ∧ (x < 16) ∧ (s.win.first = none) ∧ (s.mask x = 8) ∧ (s.effN Obj.tithe_freeze_sev = 0xFF) ∧ (x ∉ s.win.fenced) ∧ (s.win.fencing = []) ∧ (s.win.held = []) ∧ (s.net.flail.jobs = []) ∧ ((List.range 16).find? (fun k => vat s.win.thrSlots k none == some x) = some k) ∧ (s.win.thrSpare = [])) ∧
    (∃ (s : State) (x : Nat) (i : FaultInfo), (s.boot.inReset = false) ∧ (s.boot.halted = false) ∧ (s.win.busy = false) ∧ (s.win.heartLost = false) ∧ (s.win.now = [(x, i)]) ∧ (x < 320) ∧ (¬ (211 ≤ x ∧ x ≤ 213)) ∧ (s.win.first = none) ∧ (s.mask x = 0x10)) ∧
    (∃ (s : State), (s.win.now = [] ∨ s.win.busy = true ∨ s.win.heartLost = true ∨ s.boot.inReset = true ∨ s.boot.halted = true)) ∧
    (∃ (s : State), (s.win.busy = true) ∧ (s.win.heartLost = false)) ∧
    (∃ (s : State), (s.win.busy = false ∨ s.win.heartLost = true)) ∧
    (∃ (s : State) (x : Fin 320), ((vat s.win.srcs x.val {}).active = true) ∧ ((srcRow x.val).cond = false) ∧ ((vat s.win.srcs x.val {}).activeTo ≤ s.tc.boundaries)) ∧
    (∃ (s : State) (x : Fin 320), (s.tc.boundaries < (vat s.win.srcs x.val {}).activeTo ∨ (vat s.win.srcs x.val {}).active = false ∨ (srcRow x.val).cond = true)) ∧
    (∃ (s : State), (s.win.heartLost = false)) ∧
    (∃ (s : State), (s.win.heartLost = true)) ∧
    (∃ (s : State), (s.win.heartLost = false) ∧ (s.boot.inReset = false) ∧ (s.passed s.win.beatAt s.beatLimit = true) ∧ (s.win.now = [])) ∧
    (∃ (s : State), (s.passed s.win.beatAt s.beatLimit = false ∨ s.win.heartLost = true ∨ s.boot.inReset = true)) ∧
    (∃ (s : State) (k : Nat), ((List.range 320).find? (fun k => (s.valN Obj.win_src_state k).testBit 1) = some k)) ∧
    (∃ (s : State), ((List.range 320).find? (fun k => (s.valN Obj.win_src_state k).testBit 1) = none)) :=
  ⟨⟨ws_raiseEvent, 7, {}, by decide +kernel⟩,
    ⟨ws_raiseCond, 264, {}, by decide +kernel⟩,
    ⟨ws_raisePair, 212, {}, 1, by decide +kernel⟩,
    ⟨ws_raiseHeld, 7, {}, by decide +kernel⟩,
    ⟨ws_raiseLost, 7, {}, by decide +kernel⟩,
    ⟨ws_raiseCe, 103, {}, 3, by decide +kernel⟩,
    ⟨ws_raiseCeHit, 103, {}, 3, by decide +kernel⟩,
    ⟨ws_raiseBankGone, 35, {}, by decide +kernel⟩,
    ⟨ws_raiseInstall, 313, {}, by decide +kernel⟩,
    ⟨ws_raiseFenced, 212, {}, 1, by decide +kernel⟩,
    ⟨ws_raiseReset, 7, {}, by decide +kernel⟩,
    ⟨ws_present, 7, {}, by decide +kernel⟩,
    ⟨ws_presentMore, 7, {}, [1], by decide +kernel⟩,
    ⟨ws_presentFence, 7, {}, 7, by decide +kernel⟩,
    ⟨ws_presentReset, 7, {}, by decide +kernel⟩,
    ⟨ws_presentNone, by decide +kernel⟩,
    ⟨ws_handleEnd, by decide +kernel⟩,
    ⟨ws_handleNot, by decide +kernel⟩,
    ⟨ws_activeEnd, 7, by decide +kernel⟩,
    ⟨ws_activeOn, 7, by decide +kernel⟩,
    ⟨ws_beat, by decide +kernel⟩,
    ⟨ws_beatLate, by decide +kernel⟩,
    ⟨ws_beatLost, by decide +kernel⟩,
    ⟨ws_beatOk, by decide +kernel⟩,
    ⟨ws_intNext, 7, by decide +kernel⟩,
    ⟨ws_intNone, by decide +kernel⟩⟩

/-- The hypotheses of each clause of FencesAndPairs are met together. -/
theorem wit_FencesAndPairs :
    (∃ (s : State) (x : Fin 320) (k : Nat), (x.val < 16) ∧ (s.win.busy = false) ∧ (s.win.fencing = [x.val]) ∧ (s.win.resetting = []) ∧ (s.net.flail.jobs = []) ∧ ((List.range 16).find? (fun k => vat s.win.thrSlots k none == some x.val) = some k) ∧ (s.win.thrPend.length < (s.win.thrSpare.filter fun n => n != x.val).length)) ∧
    (∃ (s : State) (x : Fin 320) (k : Nat), (x.val < 16) ∧ (s.win.busy = false) ∧ (s.win.fencing = [x.val]) ∧ (s.win.resetting = []) ∧ (s.net.flail.jobs = []) ∧ ((List.range 16).find? (fun k => vat s.win.thrSlots k none == some x.val) = some k) ∧ (s.win.thrSpare = [])) ∧
    (∃ (s : State) (x : Fin 320) (p n : Nat) (rest : List Nat), (x.val = 16 + p) ∧ (p < 10) ∧ (s.win.busy = false) ∧ (s.win.fencing = [x.val]) ∧ (s.win.resetting = []) ∧ (s.net.flail.jobs = []) ∧ (s.win.aesSpare = n :: rest) ∧ (p ∉ s.win.aesSpare) ∧ (p ∈ s.win.aesActive)) ∧
    (∃ (s : State) (x : Fin 320) (p r : Nat), (x.val = 211 + p) ∧ (p < 3) ∧ (s.win.busy = false) ∧ (s.win.fencing = [x.val]) ∧ (s.win.resetting = []) ∧ ((s.pair p).role = r) ∧ (r = 1 ∨ r = 2) ∧ ((s.roleAt 3).isSome = true) ∧ (s.stew.takeover = []) ∧ ((s.pair p).done = true) ∧ (s.roleAt r = some p)) ∧
    (∃ (s : State) (x : Fin 320) (p r : Nat), (x.val = 211 + p) ∧ (p < 3) ∧ (s.win.busy = false) ∧ (s.win.fencing = [x.val]) ∧ (s.win.resetting = []) ∧ ((s.pair p).role = r) ∧ (r = 1 ∨ r = 2) ∧ ((s.roleAt 3).isSome = true) ∧ (s.stew.takeover = []) ∧ ((s.pair p).done = false)) ∧
    (∃ (s : State) (x : Fin 320) (p r : Nat), (x.val = 211 + p) ∧ (p < 3) ∧ (s.win.busy = false) ∧ (s.win.fencing = [x.val]) ∧ (s.win.resetting = []) ∧ ((s.pair p).role = r) ∧ (r = 1 ∨ r = 2) ∧ (s.roleAt 3 = none ∨ s.stew.takeover ≠ []) ∧ (r ∉ s.stew.halted) ∧ ((s.pair p).done = true) ∧ (s.roleAt r = some p)) ∧
    (∃ (s : State) (x : Fin 320), (s.win.busy = true)) ∧
    (∃ (s : State) (x : Fin 320), (s.win.busy = false) ∧ (s.win.fencing = []) ∧ (s.win.resetting = [x.val]) ∧ ((srcRow x.val).block = .rng)) ∧
    (∃ (s : State) (x : Fin 320), (x.val ∉ s.win.fencing) ∧ (x.val ∉ s.win.resetting)) ∧
    (∃ (s : State) (p : Fin 3) (ok : Bool), ((s.pair p.val).fenced = true) ∧ ((s.pair p.val).dead = false) ∧ (211 + p.val ∉ s.win.fencing)) ∧
    (∃ (s : State) (p : Fin 3) (ok : Bool), ((s.pair p.val).fenced = false ∨ (s.pair p.val).dead = true ∨ 211 + p.val ∈ s.win.fencing)) :=
  ⟨⟨ws_fenceThr, 3, 3, by decide +kernel⟩,
    ⟨ws_fenceThrNone, 3, 3, by decide +kernel⟩,
    ⟨ws_fenceAes, 18, 2, 8, [9], by decide +kernel⟩,
    ⟨ws_fencePair, 211, 0, 1, by decide +kernel⟩,
    ⟨ws_fencePairBack, 211, 0, 1, by decide +kernel⟩,
    ⟨ws_fencePairHalt, 211, 0, 1, by decide +kernel⟩,
    ⟨ws_fenceBusy, 3, by decide +kernel⟩,
    ⟨ws_resetOnly, 31, by decide +kernel⟩,
    ⟨ws_fenceNone, 3, by decide +kernel⟩,
    ⟨ws_reload, 1, true, by decide +kernel⟩,
    ⟨ws_reloadNot, 1, true, by decide +kernel⟩⟩

/-- The hypotheses of each clause of MatrixRequestsAndResponses are met together. -/
theorem wit_MatrixRequestsAndResponses :
    (∃ (s : State) (r : MatrixIn) (g : Nat), (s.boot.inReset = false) ∧ (r.master.val = 9 → s.elec.jtag = true) ∧ (1 ≤ r.len) ∧ (r.len ≤ 2048) ∧ (r.kind.val = 1 → r.data.length = r.len) ∧ (s.decodeAddr r.master.val r.kind.val r.addr r.len = some g) ∧ (r.addr % 256 + r.len ≤ 256)) ∧
    (∃ (s : State) (r : MatrixIn) (g : Nat), (s.boot.inReset = false) ∧ (r.master.val = 9 → s.elec.jtag = true) ∧ (1 ≤ r.len) ∧ (r.len ≤ 2048) ∧ (r.kind.val = 1 → r.data.length = r.len) ∧ (s.decodeAddr r.master.val r.kind.val r.addr r.len = some g)) ∧
    (∃ (s : State) (r : MatrixIn), (s.boot.inReset = false) ∧ (r.master.val = 9 → s.elec.jtag = true) ∧ (1 ≤ r.len) ∧ (r.len ≤ 2048) ∧ (r.kind.val = 1 → r.data.length = r.len) ∧ (s.decodeAddr r.master.val r.kind.val r.addr r.len = none)) ∧
    (∃ (s : State) (r : MatrixIn), (s.boot.inReset = true ∨ (r.master.val = 9 ∧ s.elec.jtag = false) ∨ r.len = 0 ∨ 2048 < r.len ∨ (r.kind.val = 1 ∧ r.data.length ≠ r.len))) ∧
    (∃ (s : State) (g : Fin 9) (m : Nat) (p : Piece), (((s.effB Obj.mtx_priority g.val).map fun b => b.toNat).find? (fun m => (s.eligiblePiece g.val m).isSome) = some m) ∧ (s.eligiblePiece g.val m = some p) ∧ (s.grantsNow g.val < 2)) ∧
    (∃ (s : State) (g : Fin 9), (s.mtx.pieces = [] ∨ 2 ≤ s.grantsNow g.val)) ∧
    (∃ (s : State) (p : Piece) (x : RespIn), (s.mtx.pieces = [p]) ∧ (p.granted = true) ∧ (p.done = none) ∧ (x.piece = p.id) ∧ (p.target < 4) ∧ ((p.addr / 0x80000) ∉ s.win.bankLost) ∧ (p.kind ≠ 1) ∧ (s.mtx.poisoned = []) ∧ (x.uncorrectable = false)) ∧
    (∃ (s : State) (p : Piece) (x : RespIn), (s.mtx.pieces = [p]) ∧ (p.granted = true) ∧ (p.done = none) ∧ (x.piece = p.id) ∧ (p.target < 4) ∧ ((p.addr / 0x80000) ∉ s.win.bankLost) ∧ (p.kind = 1) ∧ (SramInv s)) ∧
    (∃ (s : State) (p : Piece) (x : RespIn) (b : Nat), (s.mtx.pieces = [p]) ∧ (p.granted = true) ∧ (p.done = none) ∧ (x.piece = p.id) ∧ (p.target < 4) ∧ ((p.addr / 0x80000) ∉ s.win.bankLost) ∧ (p.kind ≠ 1) ∧ (s.mtx.poisoned = []) ∧ (x.uncorrectable = true) ∧ (p.addr / 0x80000 = b) ∧ ((s.win.bankMap.find? fun e => e.1 == b) = none) ∧ (32 + b < 100) ∧ (s.win.busy = false) ∧ (s.win.heartLost = false) ∧ ((s.win.now.any fun h => h.1 == 32 + b) = false)) ∧
    (∃ (s : State) (p : Piece) (x : RespIn), (s.mtx.pieces = [p]) ∧ (p.granted = true) ∧ (p.done = none) ∧ (x.piece = p.id) ∧ (4 ≤ p.target) ∧ (p.target ≤ 6) ∧ (x.busError = true) ∧ (p.kind ≠ 1)) ∧
    (∃ (s : State) (p : Piece) (x : RespIn), (s.mtx.pieces = [p]) ∧ (p.granted = true) ∧ (p.done = none) ∧ (x.piece = p.id) ∧ (p.target = 4 ∨ p.target = 6 ∨ p.target = 7 ∨ p.target = 8) ∧ (x.busError = false) ∧ (p.kind ≠ 1)) ∧
    (∃ (s : State) (p : Piece) (x : RespIn), (s.mtx.pieces = [p]) ∧ (p.granted = true) ∧ (p.done = none) ∧ (x.piece = p.id) ∧ (p.target = 7) ∧ (p.kind = 1)) ∧
    (∃ (s : State) (p : Piece) (x : RespIn), (s.mtx.pieces = [p]) ∧ (p.granted = true) ∧ (p.done = none) ∧ (x.piece = p.id) ∧ (p.target < 4) ∧ ((p.addr / 0x80000) ∈ s.win.bankLost) ∧ (p.kind ≠ 1)) ∧
    (∃ (s : State) (x : RespIn), ((s.mtx.pieces.find? fun p => p.id == x.piece && p.granted && p.done.isNone) = none)) ∧
    (∃ (s : State) (p : Piece), (s.mtx.pieces = [p]) ∧ (p.granted = true) ∧ (p.done = none) ∧ (s.passed p.grantAt 10000 = true) ∧ (p.kind ≠ 1)) ∧
    (∃ (s : State) (p : Piece), (s.mtx.pieces = [p]) ∧ (s.passed p.grantAt 10000 = false)) ∧
    (∃ (s : State), (s.elec.jtag = false) ∧ (s.boot.inReset = false)) ∧
    (∃ (s : State), (s.elec.jtag = false) ∧ (s.boot.inReset = true)) ∧
    (∃ (s : State), (s.elec.jtag = true)) :=
  ⟨⟨ws_mtxReq, { master := 2, kind := 0, addr := 0x40, len := 8 }, 1, by decide +kernel⟩,
    ⟨ws_mtxSplit, { master := 2, kind := 0, addr := 0x40, len := 600 }, 1, by decide +kernel⟩,
    ⟨ws_mtxNoWindow, { master := 2, kind := 0, addr := 0x40, len := 8 }, by decide +kernel⟩,
    ⟨ws_mtxReset, { master := 2, kind := 0, addr := 0x40, len := 8 }, by decide +kernel⟩,
    ⟨ws_mtxGrant, 3, 2, { id := 1, master := 2, target := 3 }, by decide +kernel⟩,
    ⟨ws_mtxIdle, 3, by decide +kernel⟩,
    ⟨ws_sramRead, { id := 1, master := 2, target := 1, addr := 0x40, len := 4, kind := 0, data := [1, 2, 3, 4], granted := true }, { piece := 1 }, by decide +kernel⟩,
    ⟨ws_sramWrite, { id := 1, master := 2, target := 1, addr := 0x40, len := 4, kind := 1, data := [1, 2, 3, 4], granted := true }, { piece := 1 }, by decide +kernel⟩,
    ⟨ws_sramBad, { id := 1, master := 2, target := 1, addr := 0x40, len := 4, kind := 0, data := [1, 2, 3, 4], granted := true }, { piece := 1, uncorrectable := true }, 0, by decide +kernel⟩,
    ⟨ws_busError, { id := 1, master := 2, target := 5, addr := 0x40, len := 4, kind := 0, data := [1, 2, 3, 4], granted := true }, { piece := 1, busError := true }, by decide +kernel⟩,
    ⟨ws_bridgeRead, { id := 1, master := 2, target := 6, addr := 0x40, len := 4, kind := 0, data := [1, 2, 3, 4], granted := true }, { piece := 1, data := [9] }, by decide +kernel⟩,
    ⟨ws_romWrite, { id := 1, master := 2, target := 7, addr := 0x40, len := 4, kind := 1, data := [1, 2, 3, 4], granted := true }, { piece := 1 }, by decide +kernel⟩,
    ⟨ws_bankGone, { id := 1, master := 2, target := 1, addr := 0x40, len := 4, kind := 0, data := [1, 2, 3, 4], granted := true }, { piece := 1 }, by decide +kernel⟩,
    ⟨ws_respNone, { piece := 1 }, by decide +kernel⟩,
    ⟨ws_mtxLate, { id := 1, master := 2, target := 4, addr := 0x40, len := 4, kind := 0, data := [1, 2, 3, 4], granted := true }, by decide +kernel⟩,
    ⟨ws_mtxWait, { id := 1, master := 2, target := 1, addr := 0x40, len := 4, kind := 0, data := [1, 2, 3, 4], granted := true }, by decide +kernel⟩,
    ⟨ws_jtag, by decide +kernel⟩,
    ⟨ws_jtagHeld, by decide +kernel⟩,
    ⟨ws_jtagOnce, by decide +kernel⟩⟩

/-- The hypotheses of each clause of ResetsAndStart are met together. -/
theorem wit_ResetsAndStart :
    (∃ (s : State) (n : Nat), (s.boot.inReset = false) ∧ (1000 ≤ n)) ∧
    (∃ (s : State) (n : Nat), (n < 100)) ∧
    (∃ (s : State) (n : Nat), (100 ≤ n) ∧ (n < 1000)) ∧
    (∃ (s : State), (s.boot.inReset = false) ∧ (s.elec.jtag = true)) ∧
    (∃ (s : State), (s.elec.jtag = false)) ∧
    (∃ (s : State), (s.boot.inReset = false) ∧ (s.supplyLow = true)) ∧
    (∃ (s : State), (s.boot.inReset = true) ∧ (s.elec.jtag = true)) ∧
    (∃ (s : State), (s.supplyLow = false)) ∧
    (∃ (s : State) (v : Nat), (v < 15500)) ∧
    (∃ (s : State) (v : Nat), (15500 ≤ v)) ∧
    (∃ (s : State) (v : Nat), (16200 ≤ v)) ∧
    (∃ (s : State) (v : Nat), (v < 16200)) ∧
    (∃ (s : State) (b : BootIn), (s.mayStart = true) ∧ (10 ≤ b.railsMs) ∧ (b.fails = some 1) ∧ (s.elec.xoOk = true)) ∧
    (∃ (s : State) (b : BootIn), (s.mayStart = true) ∧ (10 ≤ b.railsMs) ∧ (b.fails = some 3) ∧ (s.elec.xoOk = true) ∧ (b.role = false) ∧ (b.waddr % 64 = 0)) ∧
    (∃ (s : State) (b : BootIn) (r : BankRec), (s.mayStart = true) ∧ (10 ≤ b.railsMs) ∧ (b.fails = none) ∧ (b.badBanks = []) ∧ (b.badLanes = []) ∧ (s.elec.xoOk = true) ∧ (b.role = false) ∧ (b.waddr % 64 = 0) ∧ (s.boot.clearNext = true) ∧ (s.boot.safeNext = false) ∧ (s.boot.newest s.boot.tableBank = some r) ∧ (r.state = 4) ∧ (vat s.boot.images s.boot.tableBank [] = []) ∧ (s.gran.journal.validGen = 0) ∧ (s.tc = {}) ∧ (s.stew = {})) ∧
    (∃ (s : State) (b : BootIn), (s.mayStart = false ∨ b.railsMs < 10 ∨ b.fails = some 0)) ∧
    (∃ (s : State), (s.boot.serving = true) ∧ (s.boot.outcome = 1) ∧ (s.passed s.boot.serviceFrom (s.effN Obj.boot_stable_time * oneSec) = true) ∧ (s.boot.plan.testBit planAltBank = false)) ∧
    (∃ (s : State), (s.boot.serving = false ∨ s.boot.outcome ≠ 1 ∨ s.passed s.boot.serviceFrom (s.effN Obj.boot_stable_time * oneSec) = false)) :=
  ⟨⟨wServeUp, 1000, by decide +kernel⟩,
    ⟨wServeUp, 99, by decide +kernel⟩,
    ⟨wServeUp, 500, by decide +kernel⟩,
    ⟨ws_jtagReset, by decide +kernel⟩,
    ⟨wServeUp, by decide +kernel⟩,
    ⟨ws_supplyReset, by decide +kernel⟩,
    ⟨ws_resetLowest, by decide +kernel⟩,
    ⟨wServe, by decide +kernel⟩,
    ⟨wServeUp, 15000, by decide +kernel⟩,
    ⟨wServeUp, 16000, by decide +kernel⟩,
    ⟨wServeUp, 18000, by decide +kernel⟩,
    ⟨wServeUp, 16000, by decide +kernel⟩,
    ⟨ws_bootHalt, { fails := some 1 }, by decide +kernel⟩,
    ⟨ws_bootRecovery, { fails := some 3 }, by decide +kernel⟩,
    ⟨ws_bootService, { flyPresent := true }, { bank := 0, state := 4, seq := 1 }, by decide +kernel⟩,
    ⟨wServeUp, {}, by decide +kernel⟩,
    ⟨ws_stable, by decide +kernel⟩,
    ⟨wServeUp, by decide +kernel⟩⟩

/-- The hypotheses of each clause of RotationAndAgeing are met together. -/
theorem wit_RotationAndAgeing :
    (∃ (s : State) (p : Fin 3), ((s.pair p.val).loading = true) ∧ ((s.pair p.val).fenced = false)) ∧
    (∃ (s : State) (p : Fin 3), ((s.pair p.val).loading = false ∨ (s.pair p.val).fenced = true)) ∧
    (∃ (s : State) (k old new : Nat), (s.rotating = true) ∧ (s.boot.install.stage = 8) ∧ (s.boot.install.nextAt ≤ s.tc.boundaries) ∧ (s.nextSlot = some k) ∧ (vat s.win.thrSlots k none = some old) ∧ (s.win.thrSpare.find? (fun x => !s.thrWrong x) = some new)) ∧
    (∃ (s : State), (s.rotating = false ∨ s.boot.install.stage ≠ 8 ∨ s.tc.boundaries < s.boot.install.nextAt ∨ s.nextSlot = none)) ∧
    (∃ (s : State), (s.rotating = true) ∧ (s.boot.install.stage = 9)) ∧
    (∃ (s : State), (s.rotating = false ∨ s.boot.install.stage ≠ 9)) ∧
    (∃ (s : State), (s.boot.inReset = false) ∧ (s.boot.halted = false) ∧ (s.boot.recovery = false) ∧ (s.passed (vat s.boot.ageAt 0 0) (agePeriod 0) = true)) ∧
    (∃ (s : State) (n v : Nat), (s.boot.inReset = false) ∧ (s.boot.halted = false) ∧ (s.boot.recovery = false) ∧ (n < 12) ∧ (s.passed (vat s.boot.ageAt 1 0) (agePeriod 1) = true)) ∧
    (∃ (s : State) (l : Fin 13), (s.boot.inReset = false) ∧ (s.boot.halted = false) ∧ (s.boot.recovery = false) ∧ (s.passed (vat s.boot.ageAt 1 0) (agePeriod 1) = true) ∧ ((vat s.boot.eyes l.val (0, 0)).2 ≠ 0)) ∧
    (∃ (s : State) (n v : Nat), (s.boot.inReset = false) ∧ (s.boot.halted = false) ∧ (s.boot.recovery = false) ∧ (n < 6) ∧ (s.passed (vat s.boot.ageAt 2 0) (agePeriod 2) = true)) ∧
    (∃ (s : State) (a : AgeIn), (s.boot.inReset = true ∨ s.boot.halted = true ∨ s.boot.recovery = true ∨ s.passed (vat s.boot.ageAt a.period.val 0) (agePeriod a.period.val) = false)) ∧
    (∃ (s : State), (s.boot.inReset = false) ∧ (s.boot.halted = false) ∧ (s.boot.recovery = false) ∧ (s.effN Obj.age_spare_threshold = 0)) ∧
    (∃ (s : State) (k : Nat), (s.boot.inReset = false) ∧ (s.boot.halted = false) ∧ (s.boot.recovery = false) ∧ ((s.agePreds.all fun e => (e.1 == k) == decide (e.2 < s.effN Obj.age_spare_threshold)) = true) ∧ ((s.agePreds.any fun e => e.1 == k) = true) ∧ ((s.boot.age k).warned = false)) ∧
    (∃ (s : State), (s.boot.inReset = true ∨ s.boot.halted = true ∨ s.boot.recovery = true)) :=
  ⟨⟨ws_loadDone, 2, by decide +kernel⟩,
    ⟨ws_loadNot, 2, by decide +kernel⟩,
    ⟨ws_rotate, 1, 1, 14, by decide +kernel⟩,
    ⟨ws_rotateNot, by decide +kernel⟩,
    ⟨ws_reeve, by decide +kernel⟩,
    ⟨ws_reeveNot, by decide +kernel⟩,
    ⟨ws_ageSecond, by decide +kernel⟩,
    ⟨ws_ageHour, 3, 40, by decide +kernel⟩,
    ⟨ws_ageEye, 5, by decide +kernel⟩,
    ⟨ws_ageDay, 3, 40, by decide +kernel⟩,
    ⟨ws_ageNot, {}, by decide +kernel⟩,
    ⟨ws_fit, by decide +kernel⟩,
    ⟨ws_fitWarn, (ageKey 6 0), by decide +kernel⟩,
    ⟨ws_fitNot, by decide +kernel⟩⟩

/-- The hypotheses of each clause of SuppliesAndSensors are met together. -/
theorem wit_SuppliesAndSensors :
    (∃ (s : State) (v : List Nat), (v.length = 8) ∧ (((List.range 8).all fun r => decide ((railRange r).1 ≤ v.getD r 0) && decide (v.getD r 0 ≤ (railRange r).2)) = true) ∧ (s.boot.inReset = false)) ∧
    (∃ (s : State) (v : List Nat), (v.length = 8) ∧ (s.boot.inReset = false)) ∧
    (∃ (s : State) (v : List Nat) (k : Nat) (since : Nat), (v.length = 8) ∧ (k < 8) ∧ (((List.range 8).all fun r => (r == k) != (decide ((railRange r).1 ≤ v.getD r 0) && decide (v.getD r 0 ≤ (railRange r).2))) = true) ∧ (vat s.elec.railSince k none = some since) ∧ (since + 900 ≤ s.elec.clockNs) ∧ (s.boot.inReset = false) ∧ ((vat s.win.srcs (288 + k) {}).cond = false)) ∧
    (∃ (s : State) (v : List Nat), (v.length = 8) ∧ (s.boot.inReset = true)) ∧
    (∃ (s : State) (hz : Nat), (s.boot.inReset = false) ∧ (hz < 49995000 ∨ 50005000 < hz) ∧ ((vat s.win.srcs 316 {}).cond = false)) ∧
    (∃ (s : State) (hz : Nat), ((vat s.win.srcs 316 {}).cond = true ∨ s.boot.inReset = true) ∧ (hz < 49995000 ∨ 50005000 < hz)) ∧
    (∃ (s : State) (hz : Nat), (49995000 ≤ hz) ∧ (hz ≤ 50005000)) ∧
    (∃ (s : State) (hz : Nat), (49995000 ≤ hz) ∧ (hz ≤ 50005000)) ∧
    (∃ (s : State) (hz : Nat), (hz < 49995000 ∨ 50005000 < hz)) ∧
    (∃ (s : State) (x : List Int), (x.length = 12) ∧ ((x.all fun v => decide (v ≤ 10500)) = true) ∧ (s.boot.inReset = false)) ∧
    (∃ (s : State) (x : List Int) (k : Nat), (x.length = 12) ∧ (k < 12) ∧ (((List.range 12).all fun n => (n == k) == decide (10500 < x.getD n 0)) = true) ∧ (x.getD k 0 ≤ 11500) ∧ (s.boot.inReset = false) ∧ ((vat s.win.srcs (296 + k) {}).cond = false)) ∧
    (∃ (s : State) (x : List Int), (s.boot.inReset = true)) :=
  ⟨⟨wServeUp, [7500, 8000, 9000, 9000, 12000, 18000, 33000, 18000], by decide +kernel⟩,
    ⟨ws_railAny, [7500, 100, 9000, 9000, 12000, 18000, 100, 18000], by decide +kernel⟩,
    ⟨ws_railBad, [7500, 8000, 9000, 9000, 12000, 18000, 100, 18000], 6, 100, by decide +kernel⟩,
    ⟨ws_railReset, [7500, 8000, 9000, 9000, 12000, 18000, 33000, 18000], by decide +kernel⟩,
    ⟨wServeUp, 0, by decide +kernel⟩,
    ⟨ws_xoAgain, 50005001, by decide +kernel⟩,
    ⟨wServeUp, 49995000, by decide +kernel⟩,
    ⟨wServeUp, 50000000, by decide +kernel⟩,
    ⟨wServeUp, 49994999, by decide +kernel⟩,
    ⟨wServeUp, [10, 20, 30, 40, 50, 60, 70, 80, 90, 100, 110, 10500], by decide +kernel⟩,
    ⟨wServeUp, [10, 20, 30, 40, 50, 60, 70, 80, 90, 100, 110, 10501], 11, by decide +kernel⟩,
    ⟨ws_tempReset, [], by decide +kernel⟩⟩

/-- The hypotheses of each clause of WritesAreStaged are met together. -/
theorem wit_WritesAreStaged :
    (∃ (s : State) (lvl : Level) (v : Int), (-(2 ^ 63) ≤ v) ∧ (v < 2 ^ 63) ∧ (Passes s (lvl.val + 1) { index := 0x202A, sub := 0, value := intBytes 8 v })) ∧
    (∃ (s : State) (lvl : Level) (v : Int), (-(2 ^ 63) ≤ v) ∧ (v < 2 ^ 63) ∧ (Passes s (lvl.val + 1) { index := 0x2020, sub := 0, value := intBytes 8 v })) ∧
    (∃ (s : State) (lvl : Level) (k : Fin 8), (Passes s (lvl.val + 1) { index := 0x2040 + k.val, sub := 5, value := [1] })) ∧
    (∃ (s : State) (lvl : Level) (k : Fin 8), (Passes s (lvl.val + 1) { index := 0x2040 + k.val, sub := 5, value := [0] })) ∧
    (∃ (s : State) (lvl : Level) (p : Fin 9), (Passes s (lvl.val + 1) { index := 0x2103, sub := p.val, value := [1] })) ∧
    (∃ (s : State) (lvl : Level) (d : Fin 5), (Passes s (lvl.val + 1) { index := 0x300D + 0x100 * d.val, sub := 0, value := [1] })) ∧
    (∃ (s : State) (lvl : Level), (Passes s (lvl.val + 1) { index := 0x2A35, sub := 0, value := [1] })) ∧
    (∃ (s : State) (lvl : Level), (Passes s (lvl.val + 1) { index := 0x2A47, sub := 0, value := [1] })) ∧
    (∃ (s : State) (lvl : Level), (Passes s (lvl.val + 1) { index := 0x500B, sub := 0, value := [1] })) ∧
    (∃ (s : State) (lvl : Level), (Passes s (lvl.val + 1) { index := 0x501A, sub := 0, value := [1] })) ∧
    (∃ (s : State) (lvl : Level), (Passes s (lvl.val + 1) { index := 0x502F, sub := 0, value := [1] })) ∧
    (∃ (s : State) (lvl : Level), (Passes s (lvl.val + 1) { index := 0x502F, sub := 0, value := [2] })) ∧
    (∃ (s : State) (lvl : Level) (i : Fin 4), (Passes s (lvl.val + 1) { index := 0x2246, sub := i.val, value := [1] })) ∧
    (∃ (s : State) (lvl : Level), (Passes s (lvl.val + 1) { index := 0x8004, sub := 0, value := [1] })) ∧
    (∃ (s : State) (lvl : Level), (Passes s (lvl.val + 1) { index := 0x8004, sub := 0, value := [2] })) ∧
    (∃ (s : State) (lvl : Level), (Passes s (lvl.val + 1) { index := 0x8005, sub := 0, value := [1] })) ∧
    (∃ (s : State) (lvl : Level), (Passes s (lvl.val + 1) { index := 0x1104, sub := 0, value := [1] })) ∧
    (∃ (s : State) (lvl : Level), (Passes s (lvl.val + 1) { index := 0x8800, sub := 0, value := [1] })) ∧
    (∃ (s : State) (lvl : Level), (Passes s (lvl.val + 1) { index := 0x8800, sub := 0, value := [0] })) ∧
    (∃ (s : State) (lvl : Level) (b : Fin 75), (Passes s (lvl.val + 1) { index := 0x8903 + 4 * b.val, sub := 1, value := [1] })) ∧
    (∃ (s : State) (lvl : Level), (Passes s (lvl.val + 1) { index := 0x9807, sub := 0, value := [1] })) ∧
    (∃ (s : State) (lvl : Level), (Passes s (lvl.val + 1) { index := 0x9807, sub := 0, value := [2] })) ∧
    (∃ (s : State) (lvl : Level), (Passes s (lvl.val + 1) { index := 0x9809, sub := 0, value := [1] })) ∧
    (∃ (s : State) (lvl : Level) (v : Bytes), (Passes s (lvl.val + 1) { index := 0x9820, sub := 0, value := v })) ∧
    (∃ (s : State) (lvl : Level), (Passes s (lvl.val + 1) { index := 0x9822, sub := 0, value := [1] })) ∧
    (∃ (s : State) (lvl : Level), (Passes s (lvl.val + 1) { index := 0x9823, sub := 0, value := [1] })) ∧
    (∃ (s : State) (lvl : Level), (Passes s (lvl.val + 1) { index := 0x9824, sub := 0, value := [1] })) ∧
    (∃ (s : State) (lvl : Level) (index sub : Nat) (v : Bytes), (Passes s (lvl.val + 1) { index := index, sub := sub, value := v })) ∧
    (∃ (s : State) (lvl : Level) (index sub : Nat) (v : Bytes) (e : Nat), (s.noStaging = false) ∧ (s.boot.recovery = false) ∧ ((match s.checkWrite (lvl.val + 1) index sub v with | .error x => x == e | .ok _ => false) = true)) ∧
    (∃ (s : State) (lvl : Level) (v : Nat), (s.noStaging = false) ∧ (v < 2 ^ 128) ∧ ((match s.checkWrite (lvl.val + 1) 0x502C 0 (beBytes 16 v) with | .ok _ => true | .error _ => false) = true)) ∧
    (∃ (s : State) (lvl : Level) (v : Bytes), (s.noStaging = false) ∧ (s.boot.recovery = false) ∧ ((match s.checkWrite (lvl.val + 1) 0x9821 0 v with | .ok _ => true | .error _ => false) = true) ∧ (s.instState = 1) ∧ (s.boot.install.chunks = []) ∧ (20 ≤ v.length) ∧ (v.length ≤ 1028) ∧ (field v 0 4 % 16 = 0) ∧ ((v.length - 4) % 16 = 0 ∨ field v 0 4 + (v.length - 4) = s.boot.install.len) ∧ (field v 0 4 + (v.length - 4) ≤ s.boot.install.len) ∧ (field v 0 4 + (v.length - 4) ≤ 8388608)) :=
  ⟨⟨ws_todStep, 2, -700, by decide +kernel⟩,
    ⟨ws_todSlew, 2, -700, by decide +kernel⟩,
    ⟨ws_actArm, 2, 6, by decide +kernel⟩,
    ⟨ws_actCancel, 2, 6, by decide +kernel⟩,
    ⟨ws_stampCal, 2, 3, by decide +kernel⟩,
    ⟨ws_realign, 2, 2, by decide +kernel⟩,
    ⟨ws_modelReset, 2, by decide +kernel⟩,
    ⟨ws_recentre, 2, by decide +kernel⟩,
    ⟨ws_resurvey, 2, by decide +kernel⟩,
    ⟨ws_feReinit, 2, by decide +kernel⟩,
    ⟨ws_restartCold, 2, by decide +kernel⟩,
    ⟨ws_restartWarm, 2, by decide +kernel⟩,
    ⟨ws_pathClear, 2, 1, by decide +kernel⟩,
    ⟨ws_clearFirst, 2, by decide +kernel⟩,
    ⟨ws_clearLost, 2, by decide +kernel⟩,
    ⟨ws_pinClear, 2, by decide +kernel⟩,
    ⟨ws_assocReset, 2, by decide +kernel⟩,
    ⟨ws_freeze, 2, by decide +kernel⟩,
    ⟨ws_resume, 2, by decide +kernel⟩,
    ⟨ws_titheClr, 2, 70, by decide +kernel⟩,
    ⟨ws_restartN, 2, by decide +kernel⟩,
    ⟨ws_restartS, 2, by decide +kernel⟩,
    ⟨ws_secver, 2, by decide +kernel⟩,
    ⟨ws_instBegin, 2, zeros 52, by decide +kernel⟩,
    ⟨ws_instFinish, 2, by decide +kernel⟩,
    ⟨ws_instActivate, 2, by decide +kernel⟩,
    ⟨ws_instAbort, 2, by decide +kernel⟩,
    ⟨ws_cfgWrite, 2, 0x1102, 0, [5], by decide +kernel⟩,
    ⟨ws_cfgRefused, 0, 0x202A, 0, intBytes 8 5, 0x12, by decide +kernel⟩,
    ⟨ws_aidTime, 1, 12345, by decide +kernel⟩,
    ⟨ws_chunk, 2, zeros 4 ++ zeros 32, by decide +kernel⟩⟩

/-! ### WellFormed: each check refuses an ill-formed term -/

/-- Operands of boundaries and tick work out of range (R42, R15). -/
theorem test_wf_tick :
    (Instr.tickBoundary { overrun := [(0, 3)] }).wf = false ∧ (Instr.tickBoundary { upsets := [(2 ^ 24, .n 0)] }).wf = false ∧
    (Instr.tickBoundary { stuck := [2 ^ 24] }).wf = false ∧ (Instr.tickBoundary { pds := [{ dpll := 0, samples := List.replicate 5001 {} }] }).wf = false ∧
    (Instr.tickBoundary { unstaged := 257 }).wf = false ∧ (Instr.tickBoundary { gf := List.replicate 20001 (0, 0) }).wf = false ∧
    (Instr.stewardTickWork { role := 0, freqs := [{ slot := 13, y := 2 ^ 63 }] }).wf = false ∧
    (Instr.stewardTickWork { role := 0, freqs := [{ slot := 13, x := 2 ^ 63 }] }).wf = false ∧
    (Instr.todStep 0 (2 ^ 63)).wf = false ∧ (Instr.todSlew 0 (-(2 ^ 63) - 1)).wf = false := by decide +kernel

/-- Writes, messages and command octets out of range (R15, R17, R500). -/
theorem test_wf_access :
    (Instr.configWrite 0 65536 0 []).wf = false ∧ (Instr.configWrite 0 0 256 []).wf = false ∧
    (Instr.configWrite 0 0 0 (zeros 1029)).wf = false ∧ (Instr.send (zeros 2049)).wf = false ∧ (Instr.spiBadCommand 0x02).wf = false ∧
    (Instr.counterReadClear 65536 0).wf = false ∧ (Instr.counterReadClear 0 256).wf = false := by decide +kernel

/-- Edges, tables and UART octets out of range (R258, R260, R189, R250). -/
theorem test_wf_edges :
    (Instr.flyUartReply (zeros 11521)).wf = false ∧ (Instr.flyPpsEdge 2000).wf = false ∧ (Instr.refEdge 0 { k := 1152 }).wf = false ∧
    (Instr.todUartReceive 0 (zeros 65) false).wf = false ∧ (Instr.ticEvent 0 { k := 1152 }).wf = false ∧
    (Instr.ticCalTableDone 0 0 [1]).wf = false ∧ (Instr.rawPps 2000).wf = false := by decide +kernel

/-- The aided time of the Gleaner and the words of the lanes out of range (R8, R98, R99). -/
theorem test_wf_gnss :
    (Instr.gnssAidTime 0 (2 ^ 128)).wf = false ∧ (Instr.frameDeparture 0 { back := 65537 }).wf = false ∧
    (Instr.frameDeparture 0 { units := 512 }).wf = false ∧ (Instr.frameDeparture 0 { fine := 131073 }).wf = false := by decide

/-- Frames, sessions and Cremin headers out of range (R324, R450). -/
theorem test_wf_net :
    (Instr.frameReceive { port := 0, bytes := zeros 13 }).wf = false ∧ (Instr.frameReceive { port := 0, bytes := zeros 16385 }).wf = false ∧
    (Instr.unicastRelease 131072 false).wf = false ∧ (Instr.ptpSessSelect 66 0).wf = false ∧ (Instr.ptpSessSelect 0 (2 ^ 32)).wf = false ∧
    (Instr.timeReceive 0 { header := [] }).wf = false ∧ (Instr.creminBadBlock 0 { header := [] }).wf = false ∧
    (Instr.joinReceive 0 { header := [] }).wf = false ∧ (Instr.assign 0 { header := [] }).wf = false ∧
    (Instr.tunnel 0 { header := [] }).wf = false ∧ (Instr.summaryReceive 0 { header := [] }).wf = false := by decide +kernel

/-- Matrix requests, monitors, the start, images and ageing samples out of range (R538, R604, R558, R578, R584). -/
theorem test_wf_rest :
    (Instr.matrixRequest { master := 0, kind := 0, addr := 0, len := 0 }).wf = false ∧
    (Instr.matrixRequest { master := 0, kind := 0, addr := 0, len := 2049 }).wf = false ∧
    (Instr.matrixRequest { master := 0, kind := 0, addr := 2 ^ 32, len := 1 }).wf = false ∧
    (Instr.matrixRequest { master := 0, kind := 1, addr := 0, len := 2, data := [0] }).wf = false ∧
    (Instr.railMonitor [0]).wf = false ∧ (Instr.dieTempSample [0]).wf = false ∧ (Instr.boot { tables := [(34, [])] }).wf = false ∧
    (Instr.boot { tables := [(0, [1])] }).wf = false ∧ (Instr.boot { margins := [(0, 65536)] }).wf = false ∧
    (Instr.installBegin 0 []).wf = false ∧ (Instr.installChunk 0 (zeros 1029)).wf = false ∧ (Instr.ageSample { values := [(5, 0, 0)] }).wf = false ∧
    (Instr.ageSample { values := [(0, 0, 65536)] }).wf = false := by decide +kernel

/-! ### The manual's worked examples: where objects stand -/

/-- Indices and subindices that the notes to the object tables work out (R160, the notes under R216 to R622). -/
theorem test_key_examples :
    Obj.ref_rank.key 9 0 = 0x2891_00 ∧ Obj.ref_rank.key 9 0 + Obj.ref_rank.twin = 0x2891_01 ∧ Obj.out_divider.key 5 0 = 0x3852_00 ∧
    Obj.tic_holdoff.key 3 0 = 0x4134_00 ∧ Obj.tic_diff_stop.key 2 0 = 0x41A2_00 ∧ Obj.gnss_ch_cn0.key 37 0 = 0x552A_00 ∧
    Obj.sched_quantum.key 6 5 = 0x6782_05 ∧ Obj.sched_quantum.key 6 5 + Obj.sched_quantum.twin = 0x6783_05 ∧
    Obj.pol_action.key 1 0 = 0x6A05_01 ∧ Obj.pol_action.key 1 0 + Obj.pol_action.twin = 0x6A06_01 ∧
    Obj.ntp_smear_window.key 2 0 = 0x7012_02 ∧ Obj.ntp_smear_window.key 2 0 + Obj.ntp_smear_window.twin = 0x7013_02 ∧
    Obj.ntp_instance.key 6 5 = 0x704C_05 ∧ Obj.nts_key_state.key 3 0 + Obj.nts_key_state.twin = 0x7113_04 := by decide

/-- More of them. -/
theorem test_key_examples_2 :
    Obj.ptp_log_sync.key 2 0 = 0x748D_00 ∧ Obj.ptp_port_entry.key 2 5 = 0x74A4_05 ∧
    Obj.ptp_key_state.key 2 1 + Obj.ptp_key_state.twin = 0x74BC_16 ∧ Obj.crem_asym.key 2 0 = 0x7812_02 ∧
    Obj.crem_asym.key 2 0 + Obj.crem_asym.twin = 0x7813_02 ∧ Obj.crem_assign.key 16 0 = 0x7820_11 ∧
    Obj.win_src_severity.key 224 0 = 0x81E0_00 ∧ Obj.win_src_count.key 97 0 = 0x8161_04 ∧
    Obj.mtx_window.key 6 3 = 0x902C_03 ∧ Obj.mtx_window.key 6 3 + Obj.mtx_window.twin = 0x902D_03 ∧ Obj.tithe_count.key 32 0 = 0x8982_01 ∧
    Obj.age_sram_margin.key 65 0 = 0x9C20_41 ∧ Obj.age_eye_eol.key 11 0 = 0x9C31_0B ∧ Obj.die_rail.key 6 0 = 0x9C61_06 ∧
    Obj.die_temp.key 10 0 = 0x9C60_0A := by decide

/-! ### The manual's worked examples: numbers -/

/-- The TIME128 example under R9, and R10's truncation on it. -/
theorem test_time128 :
    time128 (1800000000 * secU + 123456789 * nsU + nsU / 2) = 0x0000_0000_6B49_D200_075B_CD15_8000_0000 ∧
    stamp128 (1800000000 * secU + 123456789 * nsU + nsU - 1) 3 = 0x0000_0000_6B49_D200_075B_CD15_FFFF_0003 := by decide +kernel

/-- FREQ64 of ±1 ppb (R12), and tod.freq_offset of the increment that cancels a flywheel 3.0 × 10⁻⁹ low (R71). -/
theorem test_freq64 :
    ratFreq (1 / 1000000000) = 0x4_4B83 ∧ ratFreq (-1 / 1000000000) = -281475 ∧ incToFreq 0x0200_0000_19C5_11DC = 844425 := by
  decide +kernel

/-- The slew step at 200 ns/s (R73). -/
theorem test_slew_step : slewStepOf 200 = 28823037615 := by decide +kernel

/-- The boundary after a jump of +0.3 s (R82): 800,125,000 is skipped. -/
theorem test_grid_after_step :
    tickOf (gridBefore (1800000100 * secU + 800000003 * nsU)) = 6400 ∧
    gridAfter (1800000100 * secU + 800000003 * nsU + tickU) = 1800000100 * secU + 800250000 * nsU := by decide +kernel

/-- The leap example under R93: 1,956,528,038 with the offset 38 is a UTC midnight (R91). -/
theorem test_leap_midnight : leapOk { off := 37, pend := 1, time := 1956528038 * secU } 38 = true := by decide +kernel

/-- The holdover table under R183: RUBIDIUM after 1 h and 24 h, in ps, to the figures printed. -/
theorem test_growth_rubidium :
    ({ regime := 2, u := 1 / 10 ^ 12, d := 2 / 10 ^ 13 / 86400, a1 := 3 / 10 ^ 11, b := 1 / 10 ^ 12 } : Segment).value 3600 / 100 = 156 ∧
    ({ regime := 2, u := 1 / 10 ^ 12, d := 2 / 10 ^ 13 / 86400, a1 := 3 / 10 ^ 11, b := 1 / 10 ^ 12 } : Segment).value 86400 / 100 = 3555 ∧
    ({ regime := 2, u := 1 / 10 ^ 12, d := 2 / 10 ^ 13 / 86400, a1 := 3 / 10 ^ 11, b := 1 / 10 ^ 12 } : Segment).value 602 = 3456 := by
  decide +kernel

/-- The calibration example under R264: t_fine and the width of code 500, units of 2⁻²⁴ ps rounded to 0.001 ps. -/
theorem test_tic_fine :
    let x : Interp := { hits := List.replicate 1 512288 ++ List.replicate 499 0 ++ [1031, 535257], total := 1048576 }
    roundDiv ((x.fine 500).1 * 1000) (2 ^ 24) = 978095 ∧ roundDiv ((x.fine 500).2 * 1000) (2 ^ 24) = 1966 := by decide +kernel

/-- The difference example under R269 in units of 2⁻¹⁴ ns. -/
theorem test_tic_diff : units14 ((-2567365 : Rat) / 1000000000000000) = -42064 := by decide +kernel

/-- The dwells of the example under R289: Doppler bins and code cells. -/
theorem test_acq_dwells :
    dopplerBins 20754 = 85 ∧ dopplerBins (50001 / 10) = 23 ∧ dopplerBins 50 = 1 ∧ codeCells 2301000 1023000 = 11 ∧ codeCells 2301000 10230000 = 96 := by
  decide +kernel

/-- The mark of the report example under R308: the phase target nearest M + 30,966.43 ps is M + 25,000 ps (R303). -/
theorem test_gnss_mark : sclkMark (1800004000 * secU + psToU 30966) = 1800004000 * secU + 25 * nsU := by decide +kernel

/-- The dual-band antenna delay of that example: 55,677.57 ps. -/
theorem test_gnss_ant_delay :
    let s : State := (({} : State).setEff Obj.gnss_ant_delay_l1 0 0 (.n 52400)).setEff Obj.gnss_ant_delay_l5 0 0 (.n 49800)
    ratRound (s.antDelay true * 100) = 5567757 := by decide +kernel

/-- The DAC frame of the example under R190. -/
theorem test_dac_frame :
    let s : State := (({} : State).setEff Obj.fly_dac_cmd 0 0 (.n 0x30)).setEff Obj.fly_dac_bits 0 0 (.n 16)
    s.dacFrameOf 32268 = 0x307E_0C00 := by decide +kernel

/-- The accuracy code of the example under R215: 5,262 ps has clockAccuracy 0x1F. -/
theorem test_clock_accuracy : ({} : State).clockAccuracy 5262 = 0x1F := by decide +kernel

/-- The offset of the PPS example under R129: 0x70999A. -/
theorem test_ref_offset :
    let s : State := (({} : State).setEff Obj.ref_delay 2 0 (.n 25000)).setEff Obj.ref_freq_hz 2 0 (.n 1)
    s.refOffset 2 (1800002000 * secU + psToU 999999912400) = 0x70_999A := by decide +kernel

/-- The servo example under R150: a slew of 14,150 ps and an integral part of 3.4445 × 10⁻⁹. -/
theorem test_servo_update :
    let s : State := ((((({ tc := { running := true, boundaries := 8, tickSec := 1 }
                            sel := { fInt := 3 / 1000000000, lastUpd := 0 } } : State).setEff Obj.servo_bw 0 0 (.n 100)).setEff
      Obj.servo_damping 0 0 (.n 1000)).setN Obj.ref_state 2).setN Obj.ref_active 2).setEff Obj.ref_freq_hz 2 0 (.n 1)
    let t := (s.modSlot 2 fun sl => { sl with meas := [{ t := 0, x := 7379354, tickAt := 7, cyc := 0 }] }).servoUpdate
    t.sel.staged.slew = some 14150 ∧ ratRound (t.sel.fInt * 100000000000000) = 344453 ∧ t.sel.staged.inc = some (incOf t.sel.fInt) := by
  decide +kernel

end Sys2Proof
end

/-! SUPPORT. KEEPER_CYCLE touches the time core in four places only: the marks of the recent course, the addition of R60, the vote, and what a
step does to the time core itself. What the cycle does in every other unit leaves the time core as it was, operation by operation, in the
order of the units; what a keeper counts with (R59) is then followed through the four. -/
namespace Sys2Proof.Machine

/-! ### Folds over units -/

/-- What no step of a fold changes, the fold does not change. -/
theorem State.each_keeps {α β : Type} (p : State → β) {f : State → α → State} (h : ∀ s a, p (f s a) = p s) (l : List α) (s : State) :
    p (s.each l f) = p s := by
  induction l generalizing s with
  | nil => rfl
  | cons a l ih => exact (ih (f s a)).trans (h s a)

theorem State.each_tc {α : Type} {f : State → α → State} (h : ∀ s a, (f s a).tc = s.tc) (l : List α) (s : State) : (s.each l f).tc = s.tc :=
  State.each_keeps State.tc h l s

/-! ### Counters and fault sources -/

@[simp] theorem State.count_tc (s : State) (r : Row) (i j k : Nat) : (s.count r i j k).tc = s.tc := rfl

@[simp] theorem State.open_tc (s : State) : s.open.1.tc = s.tc := rfl

@[simp] theorem State.raise_tc (s : State) (n : Nat) (i : FaultInfo) : (s.raise n i).tc = s.tc := by rw [s.raise_frame n i]

@[simp] theorem State.condSet_tc (s : State) (n : Nat) (b : Bool) (i : FaultInfo) : (s.condSet n b i).tc = s.tc := by
  cases b with
  | false => rfl
  | true =>
    simp only [State.condSet, State.condBegin, if_true]
    split
    · rfl
    · simp

@[simp] theorem State.tally_tc (s : State) (b code k : Nat) : (s.tally b code k).tc = s.tc := by
  unfold State.tally
  split
  · rfl
  · split <;> simp

/-! ### Interval counter -/

@[simp] theorem State.settleQuiet_tc (o s : State) (c : Nat) : (State.settleQuiet o s c).tc = s.tc := rfl

@[simp] theorem State.pushTic_tc (s : State) (c : Nat) (body : Bytes) (kind : Nat) (tail : Bytes) : (s.pushTic c body kind tail).tc = s.tc := by
  simp only [State.pushTic]
  split <;> simp

@[simp] theorem State.pushDiff_tc (s : State) (d stamp : Nat) (units : Int) (winNo : Nat) : (s.pushDiff d stamp units winNo).tc = s.tc := by
  simp only [State.pushDiff]
  split <;> simp

@[simp] theorem State.emitFreq_tc (s : State) (w : TicWait) (flags : Nat) : (s.emitFreq w flags).tc = s.tc := by
  simp only [State.emitFreq, State.pushTic_tc]
  split <;> simp

@[simp] theorem State.emitDiff_tc (s : State) (w : TicWait) (flags : Nat) : (s.emitDiff w flags).tc = s.tc := by
  simp only [State.emitDiff]
  split <;> simp

@[simp] theorem State.emitTic_tc (s : State) (w : TicWait) (flags : Nat) : (s.emitTic w flags).tc = s.tc := by
  unfold State.emitTic
  split <;> simp

@[simp] theorem State.finishTic_tc (s : State) (w : TicWait) : (s.finishTic w).tc = s.tc := by
  simp only [State.finishTic, apply_ite State.tc, State.emitTic_tc, ite_self]

@[simp] theorem State.tryPair_tc (s : State) (d : Nat) : (s.tryPair d).tc = s.tc := by
  simp only [State.tryPair]
  split
  · simp only [apply_ite State.tc, State.modDiff_tc, State.pushDiff_tc, State.finishTic_tc, ite_self]
  · rfl

@[simp] theorem State.feedDiffs_tc (s : State) (c : Nat) (e : TicEv) : (s.feedDiffs c e).tc = s.tc :=
  State.each_tc (fun s d => by
    simp only [apply_ite State.tc, State.tryPair_tc, State.modDiff_tc, State.count_tc, ite_self]) _ s

@[simp] theorem State.tiEvent_tc (s : State) (c : Nat) (e : TicEv) (i : Nat) : (s.tiEvent c e i).tc = s.tc := by
  simp only [State.tiEvent, apply_ite State.tc, State.modChan_tc, State.feedDiffs_tc, State.pushTic_tc, ite_self]

@[simp] theorem State.takeEdge_tc (s : State) (c : Nat) (e : EdgeIn) : (s.takeEdge c e).1.tc = s.tc := by
  unfold State.takeEdge
  split
  · rfl
  · split
    · simp
    · simp only [apply_ite State.tc, State.count_tc, ite_self]

@[simp] theorem State.tiCandidate_tc (s : State) (c : Nat) : (s.tiCandidate c).tc = s.tc := by
  unfold State.tiCandidate
  split
  · rfl
  · next k rise _ =>
    have h := (s.modChan c fun x => { x with fresh := none }).takeEdge_tc c { k := k, rise := rise }
    split
    · next heq => simpa [heq] using h
    · next heq => simpa [heq] using h

@[simp] theorem State.tiCycle_tc (s : State) : s.tiCycle.tc = s.tc := State.each_tc State.tiCandidate_tc _ s

@[simp] theorem State.setGate_tc (s : State) (g : Nat) (b : Bool) : (s.setGate g b).tc = s.tc := by
  simp only [State.setGate, apply_ite State.tc, ite_self]

@[simp] theorem State.closeFreq_tc (o s : State) (c : Nat) : (State.closeFreq o s c).tc = s.tc := by
  simp only [State.closeFreq]
  split
  · split <;> simp
  · rfl

@[simp] theorem State.closeChan_tc (o s : State) (c : Nat) : (State.closeChan o s c).tc = s.tc := by simp [State.closeChan]

@[simp] theorem State.closeDiff_tc (s : State) (d : Nat) : (s.closeDiff d).tc = s.tc := by
  simp only [State.closeDiff, apply_ite State.tc, State.modDiff_tc, State.count_tc, ite_self]

@[simp] theorem State.closeGate_tc (s : State) (g : Nat) : (s.closeGate g).tc = s.tc := by
  unfold State.closeGate
  rw [State.each_tc, State.each_tc, State.setGate_tc]
  · intro s c; split <;> simp
  · intro s d; split <;> simp

@[simp] theorem State.stepTic_tc (s : State) : s.stepTic.tc = s.tc := by
  simp only [State.stepTic, apply_ite State.tc, State.closeGate_tc, ite_self]

/-! ### Loops and outputs -/

@[simp] theorem State.feedForward_tc (s : State) : s.feedForward.tc = s.tc :=
  State.each_tc (fun s d => by simp only [apply_ite State.tc, State.modDpll_tc, ite_self]) _ s

@[simp] theorem State.stepEdges_tc (s : State) (j : Int) : (s.stepEdges j).tc = s.tc :=
  State.each_tc (fun s d => by split <;> simp) _ s

@[simp] theorem State.putOut_tc (s : State) (o : Nat) : (s.putOut o).tc = s.tc := by
  simp only [State.putOut]
  split <;> simp

@[simp] theorem State.modOut_tc (s : State) (o : Nat) (f : Output → Output) : (s.modOut o f).tc = s.tc := State.putOut_tc _ o

@[simp] theorem State.gate_tc (s : State) (o : Nat) : (s.gate o).tc = s.tc := by
  unfold State.gate
  split <;> simp

@[simp] theorem State.stepOutputs_tc (s : State) (j : Int) : (s.stepOutputs j).tc = s.tc :=
  State.each_tc (fun s d => by simp only [apply_ite State.tc, State.gate_tc, State.modOut_tc, ite_self]) _ s

/-! ### Slots, scruple, security engines, Gleaner -/

/-- The state after the fold over the slots is made opaque first, so that no check of this proof unfolds the fold or the offsets' arithmetic. -/
@[simp] theorem State.stepSlots_tc (s : State) (j : Int) : (s.stepSlots j).tc = s.tc := by
  unfold State.stepSlots
  extract_lets j16 moved one u
  have h : u.tc = s.tc := State.each_tc (fun _ _ => State.modSlot_tc _ _ _) _ s
  clear_value u
  exact Eq.trans (b := u.tc) rfl h

@[simp] theorem State.addManual_tc (s : State) (ps : Nat) : (s.addManual ps).tc = s.tc := by
  unfold State.addManual
  split <;> rfl

@[simp] theorem State.stepFlail_tc (s : State) (j : Int) : (s.stepFlail j).tc = s.tc := rfl

@[simp] theorem State.stepGnss_tc (s : State) (j : Int) : (s.stepGnss j).tc = s.tc := rfl

@[simp] theorem State.gmEvent_tc (s : State) (phase freq : Int) : (s.gmEvent phase freq).tc = s.tc :=
  State.each_tc (fun _ _ => State.modPtp_tc _ _ _) _ s

/-! ### Ports -/

@[simp] theorem State.place_tc (s : State) (p : Nat) (f : TxFrame) : (s.place p f).tc = s.tc := by
  simp only [State.place, State.modPort_tc]
  split <;> simp

@[simp] theorem State.replace_tc (s : State) (p : Nat) : (s.replace p).tc = s.tc :=
  State.each_tc (fun s e => by split <;> simp) _ s

@[simp] theorem State.stepPorts_tc (s : State) (j : Int) : (s.stepPorts j).tc = s.tc :=
  State.each_tc (fun s p => by
    simp only [apply_ite State.tc, State.replace_tc, State.count_tc, State.modPort_tc, ite_self]) _ s

@[simp] theorem State.modQueue_tc (s : State) (p q : Nat) (f : Queue → Queue) : (s.modQueue p q f).tc = s.tc := rfl

@[simp] theorem State.useCells_tc (s : State) (p q : Nat) (d : Int) : (s.useCells p q d).tc = s.tc := rfl

@[simp] theorem State.joinActive_tc (s : State) (p : Nat) : (s.joinActive p).tc = s.tc :=
  State.each_tc (fun s q => by simp) _ s

theorem State.enqueue_tc {s t : State} {p : Nat} {f : TxFrame} (h : s.enqueue p f = some t) : t.tc = s.tc := by
  simp only [State.enqueue] at h
  split at h
  · rw [← Option.some.inj h]; simp
  · cases h

@[simp] theorem State.completeStamp_tc (s : State) (p id : Nat) (dropped : Bool) (stamp : Nat) : (s.completeStamp p id dropped stamp).tc = s.tc := rfl

@[simp] theorem State.missNote_tc (s : State) (f : TxFrame) : (s.missNote f).tc = s.tc := by
  unfold State.missNote
  split <;> rfl

@[simp] theorem State.countHold_tc (s : State) (p : Nat) : (s.countHold p).tc = s.tc := by
  unfold State.countHold
  split <;> rfl

@[simp] theorem State.flush_tc (s : State) (p : Nat) : (s.flush p).tc = s.tc := by
  simp only [State.flush, State.modPort_tc, State.countHold_tc]
  rw [State.each_tc, State.each_tc]
  · split <;> simp
  · intro s f; simp
  · intro s f; simp

@[simp] theorem State.putAccuracy_tc (s : State) (p : Nat) : (s.putAccuracy p).tc = s.tc := rfl

@[simp] theorem State.putUse_tc (s : State) (l : Nat) (u : LaneUse) : (s.putUse l u).tc = s.tc := by
  simp only [State.putUse]
  split <;> simp

@[simp] theorem State.putCal_tc (s : State) (l : Nat) : (s.putCal l).tc = s.tc := by
  simp only [State.putCal]
  split <;> simp

@[simp] theorem State.setCal_tc (s : State) (l st : Nat) : (s.setCal l st).tc = s.tc := by
  simp only [State.setCal, State.putCal_tc]
  split <;> simp

@[simp] theorem State.endCalibrate_tc (s : State) (l v : Nat) : (s.endCalibrate l v).tc = s.tc := by
  unfold State.endCalibrate
  split <;> simp

@[simp] theorem State.linkDown_tc (s : State) (p : Nat) : (s.linkDown p).tc = s.tc := by simp [State.linkDown]

@[simp] theorem State.drained_tc (s : State) (cls n : Nat) : (s.drained cls n).tc = s.tc := by
  unfold State.drained
  split <;> simp

@[simp] theorem State.takenDown_tc (s : State) (p : Nat) : (s.takenDown p).tc = s.tc := by simp [State.takenDown]

/-! ### PTP messages and slave ports -/

theorem State.flailPass_tc {s t : State} {alg m : Nat} (h : s.flailPass alg m = some t) : t.tc = s.tc := by
  unfold State.flailPass at h
  split at h
  · obtain ⟨_, _, rfl⟩ := Option.map_eq_some_iff.mp h; rfl
  · obtain ⟨_, _, rfl⟩ := Option.map_eq_some_iff.mp h; rfl

theorem State.ptpSign_tc {s t : State} {i : Nat} {m b : Bytes} (h : s.ptpSign i m = some (t, b)) : t.tc = s.tc := by
  simp only [State.ptpSign] at h
  split at h
  · cases h; rfl
  · split at h
    · cases h
    · obtain ⟨u, hu, he⟩ := Option.map_eq_some_iff.mp h
      cases he
      exact State.flailPass_tc hu

@[simp] theorem State.ptpSend_tc (s : State) (i p : Nat) (event : Bool) (dst : Bytes × Bytes) (ipcp : Nat) (note : TxNote) (m : Bytes) :
    (s.ptpSend i p event dst ipcp note m).1.tc = s.tc := by
  unfold State.ptpSend
  split
  · rfl
  · next hs =>
    split
    · rfl
    · split
      · next he => exact (State.enqueue_tc he).trans (State.ptpSign_tc hs)
      · rfl

@[simp] theorem State.sendSignal_tc (s : State) (i p : Nat) (dst : Bytes × Bytes) (target tlvs : Bytes) :
    (s.sendSignal i p dst target tlvs).tc = s.tc := by simp [State.sendSignal, State.ptpPut]

@[simp] theorem State.ucMac_tc (s : State) (i : Nat) (addr : Bytes) : (s.ucMac i addr).1.tc = s.tc := by
  unfold State.ucMac
  split <;> rfl

@[simp] theorem State.ucRequest_tc (s : State) (i p : Nat) (addr : Bytes) (msgs : List Nat) : (s.ucRequest i p addr msgs).tc = s.tc := by
  simp [State.ucRequest]

@[simp] theorem State.ucCancel_tc (s : State) (i p : Nat) : (s.ucCancel i p).tc = s.tc := by
  simp only [State.ucCancel]
  split
  · simp
  · refine (State.each_tc (fun s g => ?_) _ _).trans (State.modPtp_tc _ _ _)
    split <;> simp

@[simp] theorem State.noParent_tc (s : State) (i : Nat) : (s.noParent i).tc = s.tc := rfl

@[simp] theorem State.slaveDown_tc (s : State) (i : Nat) : (s.slaveDown i).tc = s.tc := by simp [State.slaveDown]

@[simp] theorem State.slaveUp_tc (s : State) (i p : Nat) : (s.slaveUp i p).tc = s.tc := by
  simp only [State.slaveUp]
  split
  · refine (State.each_tc (fun s m => ?_) _ _).trans (by simp)
    split <;> simp
  · simp

@[simp] theorem State.slaveRefresh_tc (s : State) (i : Nat) : (s.slaveRefresh i).tc = s.tc := by
  simp only [State.slaveRefresh, apply_ite State.tc, State.slaveUp_tc, State.slaveDown_tc, ite_self]

@[simp] theorem State.slavesRefresh_tc (s : State) : s.slavesRefresh.tc = s.tc := State.each_tc State.slaveRefresh_tc _ s

@[simp] theorem State.takeLinks_tc (s : State) : s.takeLinks.tc = s.tc := by
  unfold State.takeLinks
  split
  · rfl
  · rw [State.slavesRefresh_tc, State.each_tc State.takenDown_tc]

/-! ### Objects of a step -/

@[simp] theorem State.fitI64_tc (s : State) (v : Int) : (s.fitI64 v).1.tc = s.tc := by
  unfold State.fitI64
  split <;> rfl

@[simp] theorem State.stepDoneObjs_tc (s : State) (j : Int) : (s.stepDoneObjs j).tc = s.tc := by
  simp only [State.stepDoneObjs, State.setN_tc, State.fitI64_tc]
  split <;> simp

/-! ### What the keepers count with (R59, R60) -/

/-- The part of a keeper's state that the procedure of R60 reads and writes: count, increment, slew remaining and slew step. -/
def KeeperRegs.counting (r : KeeperRegs) : Int × Nat × Int × Nat := (r.count, r.inc, r.slewRem, r.slewStep)

/-- The coarse counter, and what each of the three keepers counts with. -/
def TimeCore.counting (t : TimeCore) : Nat × (Int × Nat × Int × Nat) × (Int × Nat × Int × Nat) × (Int × Nat × Int × Nat) :=
  (t.cyc, t.k0.regs.counting, t.k1.regs.counting, t.k2.regs.counting)

/-- Time cores that count alike have one coarse count, and every keeper of the one counts with what that of the other does. -/
theorem TimeCore.counting_eq {t u : TimeCore} (h : t.counting = u.counting) :
    t.cyc = u.cyc ∧ ∀ k, (t.keeper k).regs.counting = (u.keeper k).regs.counting := by
  simp only [TimeCore.counting, Prod.mk.injEq] at h
  obtain ⟨hcyc, h0, h1, h2⟩ := h
  refine ⟨hcyc, fun k => ?_⟩
  unfold TimeCore.keeper
  split
  · exact h0
  · split
    · exact h1
    · exact h2

/-- A write into all three keepers that leaves what a keeper counts with. -/
theorem TimeCore.all_counting (t : TimeCore) {f : KeeperRegs → KeeperRegs} (h : ∀ r, (f r).counting = r.counting) :
    (t.all f).counting = t.counting := by
  simp [TimeCore.counting, TimeCore.all, h]

/-- A change of the voter's marks on a keeper leaves what the keepers count with. -/
theorem TimeCore.modKeeper_counting (t : TimeCore) (k : Nat) {f : Keeper → Keeper} (h : ∀ x, (f x).regs = x.regs) :
    (t.modKeeper k f).counting = t.counting := by
  unfold TimeCore.modKeeper
  split
  · simp [TimeCore.counting, h]
  · split <;> simp [TimeCore.counting, h]

/-- Keepers that lose trust go on counting (R64). -/
theorem TimeCore.distrust_counting (t : TimeCore) (l : List Nat) : (t.distrust l).counting = t.counting := by
  unfold TimeCore.distrust
  induction l generalizing t with
  | nil => rfl
  | cons k l ih => exact (ih _).trans (t.modKeeper_counting k fun _ => rfl)

/-! ### Marks, vote, actions and leap -/

/-- Marking the cycle changes the recent course only (R98). -/
theorem State.markTod_tc (s : State) (j : Int) : (s.markTod j).tc = { s.tc with hist := (s.markTod j).tc.hist } := by
  unfold State.markTod
  extract_lets n put
  split
  · rfl
  · split
    · rfl
    · split <;> rfl

@[simp] theorem State.markTod_counting (s : State) (j : Int) : (s.markTod j).tc.counting = s.tc.counting := by
  rw [s.markTod_tc]; rfl

@[simp] theorem State.runVote_counting (s : State) : s.runVote.tc.counting = s.tc.counting := by
  simp only [State.runVote, apply_ite State.tc, State.raise_tc, ite_self]
  rw [State.each_tc fun s k => s.raise_tc (216 + k) {}]
  refine Eq.trans (b := (s.tc.distrust s.tc.vote.bad).counting) ?_ (s.tc.distrust_counting _)
  split <;> rfl

@[simp] theorem State.endLeap_counting (s : State) (l : LeapReg) (status : Nat) : (s.endLeap l status).tc.counting = s.tc.counting :=
  s.tc.all_counting fun _ => rfl

/-- An action that reads LATE leaves the slots of the keepers, and nothing that they count with (R84). -/
@[simp] theorem State.passedLate_counting (s : State) (before after : Tod) : (s.passedLate before after).tc.counting = s.tc.counting := by
  unfold State.passedLate
  extract_lets late u
  have h : u.tc.counting = s.tc.counting := State.each_keeps (fun s => s.tc.counting) (fun s a => by
    simp only [State.raise_tc, State.setN_tc]
    exact s.tc.all_counting fun _ => rfl) _ s
  split
  · split
    · simpa using h
    · exact h
  · exact h

/-- The grid and the mark of a tick with a step have no part in the counting (R83, R106). -/
theorem TimeCore.counting_nextGrid_stepInTick (t : TimeCore) (g : Tod) (b : Bool) :
    ({ t with nextGrid := g, stepInTick := b } : TimeCore).counting = t.counting := rfl

@[simp] theorem State.stepHooks_counting (s : State) (before : Tod) (j : Int) : (s.stepHooks before j).tc.counting = s.tc.counting := by
  unfold State.stepHooks
  extract_lets tc s₁ s₂ s₃
  have h₁ : s₁.tc.counting = s.tc.counting := s.tc.counting_nextGrid_stepInTick _ true
  have h₂ : s₂.tc.counting = s₁.tc.counting := s₁.passedLate_counting before _
  have h₃ : s₃.tc = s₂.tc := calc
    s₃.tc = ((s₂.stepSlots j).stepFlail j).tc := State.stepPorts_tc _ j
    _ = (s₂.stepSlots j).tc := State.stepFlail_tc _ j
    _ = s₂.tc := s₂.stepSlots_tc j
  clear_value s₁ s₂ s₃
  simp only [State.stepGnss_tc, State.stepOutputs_tc, State.stepEdges_tc, State.stepTic_tc, State.gmEvent_tc, h₃, h₂, h₁]

/-! ### The addition of R60 -/

@[simp] theorem TimeCore.advance_cyc (t : TimeCore) : (t.advance []).cyc = t.cyc + 1 := rfl

/-- Without upsets every keeper makes the addition of R60, with the step of the cycle. -/
@[simp] theorem TimeCore.advance_keeper_regs (t : TimeCore) (k : Nat) :
    ((t.advance []).keeper k).regs = (t.keeper k).regs.advance t.step := by
  unfold TimeCore.keeper
  split
  · rfl
  · split <;> rfl

/-- The recent course has no part in the addition: a cycle that has been marked counts as before. -/
@[simp] theorem State.markTod_advance_counting (s : State) (j : Int) : ((s.markTod j).tc.advance []).counting = (s.tc.advance []).counting := by
  rw [s.markTod_tc]; rfl

/-- With a step the keeper adds it and its slew ends. -/
theorem KeeperRegs.advance_some (r : KeeperRegs) (j : Int) :
    r.advance (some j) = { r with count := (r.count + r.inc + j) % countU, slewRem := 0 } := rfl

/-- Without a step the keeper adds its slew part and has that much less to slew. -/
theorem KeeperRegs.advance_none (r : KeeperRegs) :
    r.advance none = { r with count := (r.count + r.inc + r.slewPart) % countU, slewRem := r.slewRem - r.slewPart } := rfl

@[simp] theorem KeeperRegs.advance_inc (r : KeeperRegs) (jump : Option Int) : (r.advance jump).inc = r.inc := by cases jump <;> rfl

@[simp] theorem KeeperRegs.advance_slewStep (r : KeeperRegs) (jump : Option Int) : (r.advance jump).slewStep = r.slewStep := by
  cases jump <;> rfl

/-- d of R60 is the slew remaining, clipped to the slew step, with its sign. -/
theorem KeeperRegs.slewPart_eq_sign_mul (r : KeeperRegs) :
    r.slewPart = Int.sign r.slewRem * ((min r.slewRem.natAbs r.slewStep : Nat) : Int) := by
  unfold KeeperRegs.slewPart
  rcases lt_trichotomy r.slewRem 0 with h | h | h
  · simp [h, Int.sign_eq_neg_one_of_neg h]
  · simp [h]
  · simp [h.not_gt, Int.sign_eq_one_of_pos h]

/-- After a cycle without upsets the time core counts as R60 has it: all else that the cycle does leaves its counting alone. -/
theorem keeperCycleEff_counting (s : State) (h : s.cycleReady = true) :
    (keeperCycleEff [] s).tc.counting = (s.tc.advance []).counting := by
  unfold keeperCycleEff
  rw [if_neg (by simp [h])]
  extract_lets s₁ before j s₂ s₃ s₄ s₅ tc
  have h₂ : (s₂.tc.advance []).counting = (s.tc.advance []).counting := by
    simp only [s₂, s₁, State.feedForward_tc]
    split <;> simp
  clear_value s₂ before j
  have h₃ : s₃.tc = s₂.tc := by
    simp only [s₃]
    split
    · simp only [State.stepDoneObjs_tc, apply_ite State.tc, State.addManual_tc, ite_self]
    · rfl
  clear_value s₃
  have h₄ : s₄.tc.counting = (s₃.tc.advance []).counting := State.runVote_counting _
  clear_value s₄
  have h₅ : s₅.tc.counting = s₄.tc.counting := by
    simp only [s₅]
    split
    · exact s₄.stepHooks_counting _ _
    · rfl
  clear_value s₅
  rw [State.takeLinks_tc, State.markTod_counting]
  refine Eq.trans (b := s₅.tc.counting) rfl ?_
  rw [h₅, h₄, h₃, h₂]

/-! ### The time core's shadows (R95) -/

/-- The latch writes the voted time of day of the cycle into the shadow of the reading master. -/
theorem State.tkLatch_shadow_same (s : State) {m : Nat} (h : m < 10) :
    vat (s.tkLatch m).tc.shadows m {} =
      { hi := todSec s.tc.voted / 2 ^ 32 % 2 ^ 32, ns := todNs s.tc.voted, frac := todFrac s.tc.voted } :=
  vat_vmod_same s.tc.shadows m _ {} h

/-- The latch leaves the shadow of every other master. -/
theorem State.tkLatch_shadow_other (s : State) {m n : Nat} (h : n ≠ m) :
    vat (s.tkLatch m).tc.shadows n {} = vat s.tc.shadows n {} :=
  vat_vmod_other s.tc.shadows _ {} h

/-- Settles O10: the latch writes one shadow, and the delivery is all else that the read does. -/
theorem tkSecLoReadLatchesShadow : Obligations.TkSecLoReadLatchesShadow := fun s m =>
  ⟨tkSecLoReadEff m.val s, rfl, s.tkLatch_shadow_same m.isLt, fun _ h => s.tkLatch_shadow_other h, rfl, rfl, rfl⟩

/-! ### KEEPER_CYCLE (R60) -/

/-- Keepers that count alike show the same count, increment, slew remaining and slew step. -/
theorem KeeperRegs.counting_eq_iff {q r : KeeperRegs} :
    q.counting = r.counting ↔ q.count = r.count ∧ q.inc = r.inc ∧ q.slewRem = r.slewRem ∧ q.slewStep = r.slewStep := by
  simp only [KeeperRegs.counting, Prod.mk.injEq]

/-- Settles O5: what the cycle does besides the addition leaves the keepers' counting alone, and the addition is that of R60 with a step
or without one. -/
theorem keeperCycleUpdatesCount : Obligations.KeeperCycleUpdatesCount := by
  intro s hready
  obtain ⟨hcyc, hkeeper⟩ := TimeCore.counting_eq (keeperCycleEff_counting s hready)
  refine ⟨keeperCycleEff [] s, rfl, hcyc.trans (TimeCore.advance_cyc _), fun k _ => ?_⟩
  have hk := hkeeper k
  rw [TimeCore.advance_keeper_regs] at hk
  obtain ⟨hcount, hinc, hslew, hstep⟩ := KeeperRegs.counting_eq_iff.mp hk
  refine ⟨hinc.trans (KeeperRegs.advance_inc _ _), hstep.trans (KeeperRegs.advance_slewStep _ _), fun j hj => ?_, fun hj => ?_⟩
  · rw [hj, KeeperRegs.advance_some] at hcount hslew
    exact ⟨hcount, hslew⟩
  · rw [hj, KeeperRegs.advance_none] at hcount hslew
    exact ⟨_, KeeperRegs.slewPart_eq_sign_mul _, hcount, hslew⟩

end Sys2Proof.Machine

/-! SUPPORT. What every command keeps. The operations are taken in the order of the model, unit by unit: each leaves the waiting commands and
the shared SRAM as they were, but for a reset, which keeps the one and clears the other, and for an answer of the SRAM, which writes it in its
canonical form. The statements about every step (O1 to O4) follow from the last of these lemmas. -/
namespace Sys2Proof.Machine

/-- What no command but a reset and an answer of the SRAM touches: the waiting commands and the shared SRAM. -/
def State.kept (s : State) : List Instr × List Host.Cell := (s.pending, s.mtx.sram)

@[simp] theorem State.kept_mk (a0 a1 a2 a3 a4 a5 a6 a7 a8 a9 a10 a11 a12 a13 a14 a15 a16 a17 a18 a19 a20 a21 a22 a23 a24) :
    State.kept ⟨a0, a1, a2, a3, a4, a5, a6, a7, a8, a9, a10, a11, a12, a13, a14, a15, a16, a17, a18, a19, a20, a21, a22, a23, a24⟩ =
      (a24, a19.sram) := rfl

@[simp] theorem State.kept_eta (s : State) : (s.pending, s.mtx.sram) = s.kept := rfl

@[simp] theorem State.kept_ite (c : Prop) [Decidable c] (s t : State) :
    (if c then s else t).kept = if c then s.kept else t.kept := apply_ite ..

@[simp] theorem State.fst_ite {α : Type} (c : Prop) [Decidable c] (s t : State × α) :
    (if c then s else t).1 = if c then s.1 else t.1 := apply_ite ..

@[simp] theorem State.each_kept {α : Type} {f : State → α → State} (h : ∀ s a, (f s a).kept = s.kept) (l : List α) (s : State) :
    (s.each l f).kept = s.kept := State.each_keeps State.kept h l s

theorem State.foldl_kept {α : Type} {f : State → α → State} (h : ∀ s a, (f s a).kept = s.kept) (l : List α) (s : State) :
    (l.foldl f s).kept = s.kept := State.each_keeps State.kept h l s

@[simp] theorem State.modMtx_kept (s : State) (f : Matrix → Matrix) : (s.modMtx f).kept = (s.pending, (f s.mtx).sram) := rfl

theorem State.fst_eq {α : Type} {r : State × α} {t : State} {a : α} (h : r = (t, a)) : t = r.1 := (congrArg Prod.fst h).symm

theorem State.getD_kept {o : Option State} {s : State} (h : ∀ t, o = some t → t.kept = s.kept) {d : State} (hd : d.kept = s.kept) :
    (o.getD d).kept = s.kept := by
  cases o with
  | none => exact hd
  | some t => exact h t rfl

theorem State.foldl_fst_kept {α β : Type} {f : State × β → α → State × β} (h : ∀ a x, (f a x).1.kept = a.1.kept) (l : List α)
    (a : State × β) : (l.foldl f a).1.kept = a.1.kept := by
  induction l generalizing a with
  | nil => rfl
  | cons x l ih => exact (ih _).trans (h a x)

@[simp] theorem State.setCfg_kept (s : State) (r : Row) (i : Nat) (j : Nat) (v : Val) : (State.setCfg s r i j v).kept = s.kept :=
  by simp [State.setCfg]

@[simp] theorem State.setEff_kept (s : State) (r : Row) (i : Nat) (j : Nat) (v : Val) : (State.setEff s r i j v).kept = s.kept :=
  by simp [State.setEff]

@[simp] theorem State.setVal_kept (s : State) (r : Row) (i : Nat) (j : Nat) (v : Val) : (State.setVal s r i j v).kept = s.kept :=
  by simp [State.setVal]

@[simp] theorem State.setN_kept (s : State) (r : Row) (v : Int) (i : Nat) (j : Nat) : (State.setN s r v i j).kept = s.kept := by simp [State.setN]

@[simp] theorem State.setT_kept (s : State) (r : Row) (b : Bool) (i : Nat) (j : Nat) : (State.setT s r b i j).kept = s.kept := by simp [State.setT]

@[simp] theorem State.setB_kept (s : State) (r : Row) (b : Bytes) (i : Nat) (j : Nat) : (State.setB s r b i j).kept = s.kept := by simp [State.setB]

@[simp] theorem State.count_kept (s : State) (r : Row) (i : Nat) (j : Nat) (k : Nat) : (State.count s r i j k).kept = s.kept := by simp [State.count]

@[simp] theorem State.random_kept (s : State) (k : Nat) : (State.random s k).1.kept = s.kept := by simp [State.random]

@[simp] theorem State.open_kept (s : State) : (State.open s).1.kept = s.kept := by simp [State.open]

@[simp] theorem State.modSrc_kept (s : State) (src : Nat) (f : RaisedSrc → RaisedSrc) : (State.modSrc s src f).kept = s.kept := by simp [State.modSrc]

@[simp] theorem State.srcBits_kept (s : State) (src : Nat) (set : Nat) : (State.srcBits s src set).kept = s.kept := by simp [State.srcBits]

@[simp] theorem State.lose_kept (s : State) (src : Nat) : (State.lose s src).kept = s.kept := by simp [State.lose]

@[simp] theorem State.markRaised_kept (s : State) (src : Nat) : (State.markRaised s src).kept = s.kept := by simp [State.markRaised]

@[simp] theorem State.raise_kept (s : State) (src : Nat) (i : FaultInfo) : (State.raise s src i).kept = s.kept := by simp [State.raise]

@[simp] theorem State.raiseHeld_kept (s : State) (src : Nat) (i : FaultInfo) : (State.raiseHeld s src i).kept = s.kept := by simp [State.raiseHeld]

@[simp] theorem State.condBegin_kept (s : State) (src : Nat) (i : FaultInfo) : (State.condBegin s src i).kept = s.kept := by simp [State.condBegin]

@[simp] theorem State.condEnd_kept (s : State) (src : Nat) : (State.condEnd s src).kept = s.kept := by simp [State.condEnd]

@[simp] theorem State.condSet_kept (s : State) (src : Nat) (holds : Bool) (i : FaultInfo) : (State.condSet s src holds i).kept = s.kept :=
  by simp [State.condSet]

@[simp] theorem State.modSlot_kept (s : State) (n : Nat) (f : Slot → Slot) : (State.modSlot s n f).kept = s.kept := by simp [State.modSlot]

@[simp] theorem State.modPort_kept (s : State) (p : Nat) (f : Port → Port) : (State.modPort s p f).kept = s.kept := by simp [State.modPort]

@[simp] theorem State.modLane_kept (s : State) (l : Nat) (f : Lane → Lane) : (State.modLane s l f).kept = s.kept := by simp [State.modLane]

@[simp] theorem State.modPtp_kept (s : State) (i : Nat) (f : PtpInst → PtpInst) : (State.modPtp s i f).kept = s.kept := by simp [State.modPtp]

@[simp] theorem State.modLink_kept (s : State) (l : Nat) (f : CremLink → CremLink) : (State.modLink s l f).kept = s.kept := by simp [State.modLink]

@[simp] theorem State.modPair_kept (s : State) (p : Nat) (f : Pair → Pair) : (State.modPair s p f).kept = s.kept := by simp [State.modPair]

@[simp] theorem State.modTithe_kept (s : State) (f : Tithe → Tithe) : (State.modTithe s f).kept = s.kept := by simp [State.modTithe]

@[simp] theorem State.tally_kept (s : State) (b : Nat) (code : Nat) (k : Nat) : (State.tally s b code k).kept = s.kept := by
  simp only [State.tally]
  split <;> simp

@[simp] theorem State.runVote_kept (s : State) : (State.runVote s).kept = s.kept := by simp [State.runVote]

@[simp] theorem State.resyncKeepers_kept (s : State) : s.resyncKeepers.kept = s.kept := by
  unfold State.resyncKeepers
  extract_lets out due u
  have h : u.kept = s.kept := State.each_kept (fun s k => by simp only; split <;> simp) _ s
  clear_value u
  exact h

@[simp] theorem State.addStep_kept (s : State) (src : Nat) (j : Int) : (State.addStep s src j).kept = s.kept := by
  simp only [State.addStep]
  split <;> simp

@[simp] theorem State.fitI64_kept (s : State) (v : Int) : (State.fitI64 s v).1.kept = s.kept := by simp [State.fitI64]

@[simp] theorem State.stepDoneObjs_kept (s : State) (j : Int) : (State.stepDoneObjs s j).kept = s.kept := by simp [State.stepDoneObjs]

@[simp] theorem State.endLeap_kept (s : State) (l : LeapReg) (status : Nat) : (State.endLeap s l status).kept = s.kept := by simp [State.endLeap]

@[simp] theorem State.passedLate_kept (s : State) (before : Tod) (after : Tod) : (State.passedLate s before after).kept = s.kept := by
  simp only [State.passedLate]
  split <;> simp

@[simp] theorem State.markTod_kept (s : State) (jump : Int) : (s.markTod jump).kept = s.kept := by
  unfold State.markTod
  extract_lets m n tc put
  have h : ∀ l, (put l).kept = s.kept := fun _ => rfl
  clear_value put n
  split
  · exact h _
  · simp only [State.kept_ite, h, ite_self]

@[simp] theorem State.logInc_kept (s : State) (inc : Nat) : (State.logInc s inc).kept = s.kept := by simp [State.logInc]

@[simp] theorem State.setIncrement_kept (s : State) (inc : Nat) : (State.setIncrement s inc).kept = s.kept := by simp [State.setIncrement]

@[simp] theorem State.commitIncrement_kept (s : State) (inc : Nat) : (State.commitIncrement s inc).kept = s.kept := by simp [State.commitIncrement]

@[simp] theorem State.commitSlew_kept (s : State) (ps : Int) : (State.commitSlew s ps).kept = s.kept := by simp [State.commitSlew]

@[simp] theorem State.commitSaSlew_kept (s : State) (ps : Int) : (State.commitSaSlew s ps).kept = s.kept := by simp [State.commitSaSlew]

@[simp] theorem State.commitSlewTo_kept (s : State) (ps : Int) : (State.commitSlewTo s ps).kept = s.kept := by simp [State.commitSlewTo]

@[simp] theorem State.commitSlewRate_kept (s : State) (rate : Nat) : (s.commitSlewRate rate).kept = s.kept := by
  unfold State.commitSlewRate
  rw [State.kept_mk, State.kept_eta]

@[simp] theorem State.commitStep_kept (s : State) (ps : Int) : (State.commitStep s ps).kept = s.kept := by simp [State.commitStep]

@[simp] theorem State.fireStep_kept (s : State) (a : ArmedAct) : (State.fireStep s a).kept = s.kept := by simp [State.fireStep]

@[simp] theorem State.fireFreq_kept (s : State) (a : ArmedAct) : (State.fireFreq s a).kept = s.kept := by simp [State.fireFreq]

@[simp] theorem State.fireSlot_kept (s : State) (k : Nat) : (State.fireSlot s k).kept = s.kept := by
  simp only [State.fireSlot]
  split <;> simp

@[simp] theorem State.commitArm_kept (s : State) (k : Nat) (lvl : Nat) : (State.commitArm s k lvl).kept = s.kept := by simp [State.commitArm]

@[simp] theorem State.commitCancel_kept (s : State) (k : Nat) : (State.commitCancel s k).kept = s.kept := by simp [State.commitCancel]

@[simp] theorem State.chooseUtc_kept (s : State) : (State.chooseUtc s).kept = s.kept := by simp [State.chooseUtc]

@[simp] theorem State.showLeap_kept (s : State) (pend : Nat) (time : Nat) : (State.showLeap s pend time).kept = s.kept := by simp [State.showLeap]

@[simp] theorem State.newLeap_kept (s : State) (u : Utc) (off : Int) : (State.newLeap s u off).kept = s.kept := by simp [State.newLeap]

@[simp] theorem State.updateUtc_kept (s : State) : (State.updateUtc s).kept = s.kept := by simp [State.updateUtc]

@[simp] theorem leapApplyEff_kept (s : State) : (leapApplyEff s).kept = s.kept := by
  simp only [leapApplyEff]
  split <;> simp

@[simp] theorem actionFireEff_kept (k : Nat) (s : State) : (actionFireEff k s).kept = s.kept := by simp [actionFireEff]

@[simp] theorem State.tkLatch_kept (s : State) (m : Nat) : (State.tkLatch s m).kept = s.kept := by simp [State.tkLatch]

@[simp] theorem tkSecLoReadEff_kept (m : Nat) (s : State) : (tkSecLoReadEff m s).kept = s.kept := by simp [tkSecLoReadEff]

@[simp] theorem State.refuseRequest_kept (s : State) (m : Nat) (kind : Nat) (addr : Nat) (len : Nat) (req : Nat) : (State.refuseRequest s m kind addr len req).kept = s.kept :=
  by simp [State.refuseRequest]

@[simp] theorem matrixRequestEff_kept (r : MatrixIn) (s : State) : (matrixRequestEff r s).kept = s.kept := by
  unfold matrixRequestEff
  extract_lets m kind req u
  have h : u.kept = s.kept := rfl
  clear_value u
  split
  · rfl
  · split
    · simp [h]
    · rw [State.each_kept, h]
      intro s a; rfl

@[simp] theorem matrixGrantEff_kept (t : Nat) (s : State) : (matrixGrantEff t s).kept = s.kept := by
  simp only [matrixGrantEff]
  split <;> simp

@[simp] theorem State.deliver_kept (fuel req : Nat) (s : State) : (State.deliver fuel req s).kept = s.kept := by
  induction fuel generalizing s with
  | zero => rfl
  | succ fuel ih =>
    unfold State.deliver
    split
    · rfl
    · split
      · rfl
      · rw [ih]; rfl

@[simp] theorem State.finishPiece_kept (s : State) (id : Nat) (err : Bool) (data : Bytes) : (State.finishPiece s id err data).kept = s.kept := by
  simp only [State.finishPiece]
  split <;> simp

theorem State.timeBlockRead_kept {s : State} {p : Piece} {r : State × Bytes} (h : s.timeBlockRead p = some r) : r.1.kept = s.kept := by
  simp only [State.timeBlockRead] at h
  split at h
  · rw [← Option.some.inj h]
    split <;> simp
  · cases h

@[simp] theorem matrixTimeoutEff_kept (id : Nat) (s : State) : (matrixTimeoutEff id s).kept = s.kept := by
  simp only [matrixTimeoutEff]
  split <;> simp

@[simp] theorem State.redecodeReq_kept (s : State) (req : Nat) : (State.redecodeReq s req).kept = s.kept := by
  simp only [State.redecodeReq]
  (repeat' split) <;> simp

@[simp] theorem State.redecode_kept (s : State) : (State.redecode s).kept = s.kept := by simp [State.redecode]

@[simp] theorem State.mtxTick_kept (s : State) : (State.mtxTick s).kept = s.kept := by simp [State.mtxTick]

@[simp] theorem jtagAccessEff_kept (s : State) : (jtagAccessEff s).kept = s.kept := by simp [jtagAccessEff]

@[simp] theorem State.modDpll_kept (s : State) (d : Nat) (f : Dpll → Dpll) : (State.modDpll s d f).kept = s.kept := by simp [State.modDpll]

@[simp] theorem State.putLockPd_kept (s : State) : (State.putLockPd s).kept = s.kept := by simp [State.putLockPd]

@[simp] theorem State.takePd_kept (s : State) (d : Nat) (p : PdSample) : (State.takePd s d p).kept = s.kept := by simp [State.takePd]

@[simp] theorem State.putPd_kept (s : State) (d : Nat) (es : List (Nat × Int × Bool)) : (State.putPd s d es).kept = s.kept := by simp [State.putPd]

@[simp] theorem State.pdDpll_kept (s : State) (pds : List PdIn) (d : Nat) : (State.pdDpll s pds d).kept = s.kept := by simp [State.pdDpll]

@[simp] theorem State.pdTick_kept (s : State) (pds : List PdIn) : (State.pdTick s pds).kept = s.kept := by simp [State.pdTick]

@[simp] theorem State.feedForward_kept (s : State) : (State.feedForward s).kept = s.kept := by simp [State.feedForward]

@[simp] theorem State.stepEdges_kept (s : State) (j : Int) : (State.stepEdges s j).kept = s.kept := by simp [State.stepEdges]

@[simp] theorem State.setDpll_kept (s : State) (d : Nat) (st : Nat) : (State.setDpll s d st).kept = s.kept := by simp [State.setDpll]

@[simp] theorem State.acquire_kept (s : State) (d : Nat) : (State.acquire s d).kept = s.kept := by simp [State.acquire]

@[simp] theorem State.leaveLock_kept (s : State) (d : Nat) : (State.leaveLock s d).kept = s.kept := by simp [State.leaveLock]

@[simp] theorem State.freeze_kept (s : State) (d : Nat) : (State.freeze s d).kept = s.kept := by simp [State.freeze]

@[simp] theorem State.thaw_kept (s : State) (d : Nat) : (State.thaw s d).kept = s.kept := by simp [State.thaw]

@[simp] theorem State.setModel_kept (s : State) (m : OscModel) : (State.setModel s m).kept = s.kept := by simp [State.setModel]

@[simp] theorem State.addMeas_kept (s : State) (n : Nat) (m : Meas) : (State.addMeas s n m).kept = s.kept := by simp [State.addMeas]

@[simp] theorem State.hist_kept (s : State) (n : Nat) (bit : Nat) : (State.hist s n bit).kept = s.kept := by
  simp only [State.hist]
  (repeat' split) <;> simp

@[simp] theorem State.refFeed_kept (s : State) (n : Nat) (st : Nat) : (State.refFeed s n st).kept = s.kept := by simp [State.refFeed]

@[simp] theorem refEdgeMissingEff_kept (n : Nat) (s : State) : (refEdgeMissingEff n s).kept = s.kept := by
  simp only [refEdgeMissingEff]
  split <;> simp

@[simp] theorem State.updateFit_kept (s : State) (n : Nat) : (State.updateFit s n).kept = s.kept := by
  simp only [State.updateFit]
  (repeat' split) <;> simp

@[simp] theorem State.dropPath_kept (s : State) (n : Nat) : (State.dropPath s n).kept = s.kept := by simp [State.dropPath]

@[simp] theorem State.stage_kept (s : State) (f : SaOut → SaOut) : (State.stage s f).kept = s.kept := by simp [State.stage]

@[simp] theorem State.gainQual_kept (s : State) (n : Nat) : (State.gainQual s n).kept = s.kept := by simp [State.gainQual]

@[simp] theorem State.gainElig_kept (s : State) (n : Nat) : (State.gainElig s n).kept = s.kept := by simp [State.gainElig]

@[simp] theorem State.losePresence_kept (s : State) (n : Nat) : (State.losePresence s n).kept = s.kept := by simp [State.losePresence]

@[simp] theorem State.testSlot_kept (s : State) (n : Nat) : (State.testSlot s n).kept = s.kept := by simp [State.testSlot]

@[simp] theorem State.putMeasure_kept (s : State) (n : Nat) : (State.putMeasure s n).kept = s.kept := by
  simp only [State.putMeasure]
  split <;> simp

@[simp] theorem State.qualify_kept (s : State) (fly : Bool) : (State.qualify s fly).kept = s.kept := by simp [State.qualify]

@[simp] theorem State.disqualify_kept (s : State) (n : Nat) : (State.disqualify s n).kept = s.kept := by simp [State.disqualify]

@[simp] theorem State.arbitrate_kept (s : State) (a : Nat) (b : Nat) : (State.arbitrate s a b).kept = s.kept := by simp [State.arbitrate]

@[simp] theorem State.publishDisputes_kept (s : State) : (State.publishDisputes s).kept = s.kept := by simp [State.publishDisputes]

@[simp] theorem State.endDisputes_kept (s : State) : (State.endDisputes s).kept = s.kept := by simp [State.endDisputes]

@[simp] theorem State.arbitration_kept (s : State) : (State.arbitration s).kept = s.kept := by simp [State.arbitration]

@[simp] theorem disputeEndEff_kept (a : Nat) (b : Nat) (s : State) : (disputeEndEff a b s).kept = s.kept := by simp [disputeEndEff]

@[simp] theorem State.select_kept (s : State) : (State.select s).kept = s.kept := by
  unfold State.select
  (repeat' split) <;> simp

@[simp] theorem State.completeTransition_kept (s : State) : (State.completeTransition s).kept = s.kept := by simp [State.completeTransition]

@[simp] theorem transitionCompleteEff_kept (s : State) : (transitionCompleteEff s).kept = s.kept := by simp [transitionCompleteEff]

@[simp] theorem State.servoUpdate_kept (s : State) : (State.servoUpdate s).kept = s.kept := by simp [State.servoUpdate]

@[simp] theorem State.adopt_kept (s : State) (c : Nat) (now : Tod) : (State.adopt s c now).kept = s.kept := by simp [State.adopt]

@[simp] theorem State.failSwitch_kept (s : State) (c : Nat) : (State.failSwitch s c).kept = s.kept := by simp [State.failSwitch]

@[simp] theorem State.beginTransition_kept (s : State) (c : Nat) : (State.beginTransition s c).kept = s.kept := by simp [State.beginTransition]

@[simp] theorem State.goUnref_kept (s : State) : (State.goUnref s).kept = s.kept := by simp [State.goUnref]

@[simp] theorem State.commitForce_kept (s : State) : (State.commitForce s).kept = s.kept := by simp [State.commitForce]

/-- The slots' fold is made opaque first, so that no check of this proof unfolds it. -/
@[simp] theorem State.stepSlots_kept (s : State) (j : Int) : (s.stepSlots j).kept = s.kept := by
  unfold State.stepSlots
  generalize allSlots = l
  extract_lets j16 moved one u
  have h : u.kept = s.kept := State.each_kept (fun _ _ => State.modSlot_kept _ _ _) _ s
  clear_value u
  rw [State.kept_mk, State.kept_eta, h]

@[simp] theorem modelSampleEff_kept (s : State) : (modelSampleEff s).kept = s.kept := by
  unfold modelSampleEff
  (repeat' split) <;> simp

@[simp] theorem State.closeMinute_kept (s : State) : (State.closeMinute s).kept = s.kept := by simp [State.closeMinute]

@[simp] theorem modelFitEff_kept (s : State) : (modelFitEff s).kept = s.kept := by simp [modelFitEff]

@[simp] theorem State.resetModel_kept (s : State) : (State.resetModel s).kept = s.kept := by simp [State.resetModel]

@[simp] theorem State.closeSeg_kept (s : State) (at' : Nat) : (State.closeSeg s at').kept = s.kept := by
  simp only [State.closeSeg]
  split <;> simp

@[simp] theorem State.openSeg_kept (s : State) (regime : Nat) (at' : Nat) (back : Bool) (p : OscPar) : (State.openSeg s regime at' back p).kept = s.kept :=
  by simp [State.openSeg]

@[simp] theorem State.sampleTheta_kept (s : State) : (State.sampleTheta s).kept = s.kept := by
  unfold State.sampleTheta
  (repeat' split) <;> simp

@[simp] theorem holdoverRateEff_kept (s : State) : (holdoverRateEff s).kept = s.kept := by simp [holdoverRateEff]

@[simp] theorem State.updateHold_kept (s : State) (back : Bool) : (s.updateHold back).kept = s.kept := by
  unfold State.updateHold
  extract_lets old entering favg far m s₁ new manual hd s₂ s₃ want have' halted anew hd' s₄ sg s₅ s₆ s₇
  have h₁ : s₁.kept = s.kept := by simp only [s₁]; split <;> simp
  clear_value s₁
  have h₄ : s₄.kept = s.kept := h₁
  have hg : sg.kept = s.kept := (State.closeSeg_kept _ _).trans h₄
  clear_value s₄ sg want
  have h₅ : s₅.kept = s.kept := by
    simp only [s₅]
    split
    · exact h₄
    · cases want with
      | none => exact hg
      | some r => exact (State.openSeg_kept _ _ _ _ _).trans hg
  have h₇ : s₇.kept = s.kept := (State.setN_kept _ _ _ _ _).trans ((State.setN_kept _ _ _ _ _).trans h₅)
  clear_value s₇
  split
  · exact (State.setN_kept _ _ _ _ _).trans h₇
  · exact h₇

@[simp] theorem State.secondHold_kept (s : State) : (State.secondHold s).kept = s.kept := by simp [State.secondHold]

@[simp] theorem State.updateService_kept (s : State) (core : Nat) : (State.updateService s core).kept = s.kept := by simp [State.updateService]

@[simp] theorem flywheelLossEff_kept (s : State) : (flywheelLossEff s).kept = s.kept := by
  simp only [flywheelLossEff]
  (repeat' split) <;> simp

@[simp] theorem State.stageLoss_kept (s : State) : (State.stageLoss s).kept = s.kept := by simp [State.stageLoss]

@[simp] theorem flywheelRestoreEff_kept (s : State) : (flywheelRestoreEff s).kept = s.kept := by simp [flywheelRestoreEff]

@[simp] theorem State.trackFly_kept (s : State) : (State.trackFly s).kept = s.kept := by simp [State.trackFly]

@[simp] theorem State.commitMove_kept (s : State) (fly : Bool) : (State.commitMove s fly).kept = s.kept := by simp [State.commitMove]

@[simp] theorem flyPpsEdgeEff_kept (fine : Nat) (s : State) : (flyPpsEdgeEff fine s).kept = s.kept := by
  simp only [flyPpsEdgeEff]
  (repeat' split) <;> simp

@[simp] theorem State.inUnits_kept (s : State) (df : Rat) (unit : Rat) : (State.inUnits s df unit).1.kept = s.kept := by simp [State.inUnits]

@[simp] theorem State.shiftModel_kept (s : State) (df : Rat) : (State.shiftModel s df).kept = s.kept := by simp [State.shiftModel]

@[simp] theorem State.dacCode_kept (s : State) (c : Int) : (State.dacCode s c).1.kept = s.kept := by simp [State.dacCode]

@[simp] theorem flyRecentreEff_kept (s : State) : (flyRecentreEff s).kept = s.kept := by simp [flyRecentreEff]

@[simp] theorem State.beginDac_kept (s : State) (f : Nat) : (State.beginDac s f).kept = s.kept := by simp [State.beginDac]

@[simp] theorem flyUartReplyEff_kept (b : Bytes) (s : State) : (flyUartReplyEff b s).kept = s.kept := by
  simp only [flyUartReplyEff]
  split <;> simp

@[simp] theorem State.settleTail_kept (s : State) : (State.settleTail s).kept = s.kept := by simp [State.settleTail]

@[simp] theorem State.publishScr_kept (s : State) (t : ScrTerms) (h : Nat) (j : Nat) (q : Nat) : (State.publishScr s t h j q).kept = s.kept :=
  by simp [State.publishScr]

@[simp] theorem State.publishPorts_kept (s : State) : (State.publishPorts s).kept = s.kept := by simp [State.publishPorts]

@[simp] theorem State.updateScruple_kept (s : State) : (State.updateScruple s).kept = s.kept := by simp [State.updateScruple]

@[simp] theorem State.commitTerms_kept (s : State) (t : ScrTerms) : (State.commitTerms s t).kept = s.kept := by simp [State.commitTerms]

@[simp] theorem State.commitFloors_kept (s : State) (fs : List Nat) : (State.commitFloors s fs).kept = s.kept := by simp [State.commitFloors]

@[simp] theorem State.addManual_kept (s : State) (ps : Nat) : (State.addManual s ps).kept = s.kept := by simp [State.addManual]

@[simp] theorem State.boundaryManual_kept (s : State) : (State.boundaryManual s).kept = s.kept := by simp [State.boundaryManual]

@[simp] theorem State.scrRestart_kept (s : State) (cause : Nat) : (State.scrRestart s cause).kept = s.kept := by simp [State.scrRestart]

@[simp] theorem settleTimeEndEff_kept (s : State) : (settleTimeEndEff s).kept = s.kept := by simp [settleTimeEndEff]

@[simp] theorem State.modPath_kept (s : State) (i : Nat) (f : PathDet → PathDet) : (State.modPath s i f).kept = s.kept := by simp [State.modPath]

@[simp] theorem State.normalRtt_kept (s : State) (i : Nat) (rtt : Nat) : (State.normalRtt s i rtt).kept = s.kept := by simp [State.normalRtt]

@[simp] theorem State.confirmStep_kept (s : State) (i : Nat) : (State.confirmStep s i).kept = s.kept := by simp [State.confirmStep]

@[simp] theorem State.discardSuspects_kept (s : State) (i : Nat) : (State.discardSuspects s i).kept = s.kept := by simp [State.discardSuspects]

@[simp] theorem State.feedRtt_kept (s : State) (i : Nat) (rtt : Nat) : (State.feedRtt s i rtt).kept = s.kept := by
  simp only [State.feedRtt]
  (repeat' split) <;> simp

@[simp] theorem State.feedOffset_kept (s : State) (i : Nat) (raw : Int) : (State.feedOffset s i raw).1.kept = s.kept := by
  simp only [State.feedOffset]
  split <;> simp

@[simp] theorem State.trackHealth_kept (s : State) : (State.trackHealth s).kept = s.kept := by simp [State.trackHealth]

@[simp] theorem State.pathShift_kept (s : State) (i : Nat) : (State.pathShift s i).1.kept = s.kept := by simp [State.pathShift]

@[simp] theorem State.endGuard_kept (s : State) (i : Nat) : (State.endGuard s i).kept = s.kept := by simp [State.endGuard]

@[simp] theorem pathGuardEndEff_kept (i : Nat) (s : State) : (pathGuardEndEff i s).kept = s.kept := by simp [pathGuardEndEff]

@[simp] theorem State.clearPath_kept (s : State) (i : Nat) : (State.clearPath s i).kept = s.kept := by simp [State.clearPath]

@[simp] theorem State.putAccuracy_kept (s : State) (p : Nat) : (State.putAccuracy s p).kept = s.kept := by simp [State.putAccuracy]

@[simp] theorem State.modQueue_kept (s : State) (p : Nat) (q : Nat) (f : Queue → Queue) : (State.modQueue s p q f).kept = s.kept :=
  by simp [State.modQueue]

@[simp] theorem State.joinActive_kept (s : State) (p : Nat) : (State.joinActive s p).kept = s.kept := by simp [State.joinActive]

@[simp] theorem State.useCells_kept (s : State) (p : Nat) (q : Nat) (d : Int) : (State.useCells s p q d).kept = s.kept := by simp [State.useCells]

theorem State.enqueue_kept {s t : State} {p : Nat} {f : TxFrame} (h : s.enqueue p f = some t) : t.kept = s.kept := by
  simp only [State.enqueue] at h
  split at h
  · rw [← Option.some.inj h]; simp
  · cases h

@[simp] theorem State.send_kept (s : State) (p : Nat) (f : TxFrame) : (s.send p f).kept = s.kept :=
  State.getD_kept (fun _ => State.enqueue_kept) rfl

@[simp] theorem State.reserveStamp_kept (s : State) (p : Nat) (f : TxFrame) : (State.reserveStamp s p f).kept = s.kept := by simp [State.reserveStamp]

@[simp] theorem State.completeStamp_kept (s : State) (p : Nat) (id : Nat) (dropped : Bool) (stamp : Nat) : (State.completeStamp s p id dropped stamp).kept = s.kept :=
  by simp [State.completeStamp]

@[simp] theorem State.freeStamps_kept (s : State) (p : Nat) (keep : StampEntry → Bool) : (State.freeStamps s p keep).kept = s.kept :=
  by simp [State.freeStamps]

@[simp] theorem State.popStamp_kept (s : State) (p : Nat) : (State.popStamp s p).1.kept = s.kept := by
  simp only [State.popStamp]
  split <;> simp

@[simp] theorem stampQueuePopEff_kept (p : Nat) (s : State) : (stampQueuePopEff p s).kept = s.kept := by simp [stampQueuePopEff]

@[simp] theorem stampEntryRetireEff_kept (p : Nat) (s : State) : (stampEntryRetireEff p s).kept = s.kept := by simp [stampEntryRetireEff]

@[simp] theorem State.missNote_kept (s : State) (f : TxFrame) : (State.missNote s f).kept = s.kept := by
  simp only [State.missNote]
  split <;> simp

@[simp] theorem State.pruneCal_kept (s : State) (p : Nat) : (State.pruneCal s p).kept = s.kept := by simp [State.pruneCal]

@[simp] theorem State.leaveActive_kept (s : State) (p : Nat) (q : Nat) : (State.leaveActive s p q).kept = s.kept := by simp [State.leaveActive]

@[simp] theorem State.holdQueue_kept (s : State) (p : Nat) (q : Nat) : (State.holdQueue s p q).kept = s.kept := by simp [State.holdQueue]

@[simp] theorem State.take_kept (s : State) (p : Nat) (q : Nat) (f : TxFrame) : (State.take s p q f).kept = s.kept := by simp [State.take]

@[simp] theorem drr_kept (p fuel : Nat) (s : State) : (drr p fuel s).1.kept = s.kept := by
  induction fuel generalizing s with
  | zero => rfl
  | succ fuel ih =>
    unfold drr
    split
    · rfl
    · split
      · simp [ih]
      · extract_lets s₁
        have h₁ : s₁.kept = s.kept := by simp only [s₁]; split <;> simp
        clear_value s₁
        split
        · simp [ih, h₁]
        · split
          · simp [ih, h₁]
          · split
            · simp [ih, h₁]
            · extract_lets s₂
              split <;> simp [s₂, h₁]

@[simp] theorem strictSelect_kept (p : Nat) (qs : List Nat) (s : State) : (strictSelect p qs s).1.kept = s.kept := by
  induction qs generalizing s with
  | nil => rfl
  | cons q qs ih =>
    unfold strictSelect
    split
    · split
      · split <;> simp [ih]
      · exact ih s
    · exact ih s

@[simp] theorem State.selectFrame_kept (s : State) (p : Nat) : (State.selectFrame s p).1.kept = s.kept := by
  unfold State.selectFrame
  grind [State.joinActive_kept, strictSelect_kept, drr_kept]

@[simp] theorem State.place_kept (s : State) (p : Nat) (f : TxFrame) : (State.place s p f).kept = s.kept := by simp [State.place]

@[simp] theorem State.replace_kept (s : State) (p : Nat) : (State.replace s p).kept = s.kept := by simp [State.replace]

@[simp] theorem untimedPlaceEff_kept (p : Nat) (s : State) : (untimedPlaceEff p s).kept = s.kept := by
  unfold untimedPlaceEff
  grind [State.pruneCal_kept, State.replace_kept, State.selectFrame_kept, State.place_kept]

@[simp] theorem State.chargeTx_kept (s : State) (p : Nat) (e : CalEntry) : (State.chargeTx s p e).kept = s.kept := by simp [State.chargeTx]

@[simp] theorem State.resetShaper_kept (s : State) (p : Nat) (q : Nat) : (State.resetShaper s p q).kept = s.kept := by simp [State.resetShaper]

@[simp] theorem State.resetActive_kept (s : State) (p : Nat) : (State.resetActive s p).kept = s.kept := by simp [State.resetActive]

@[simp] theorem State.modCal_kept (s : State) (p : Nat) (id : Nat) (f : CalEntry → CalEntry) : (State.modCal s p id f).kept = s.kept :=
  by simp [State.modCal]

@[simp] theorem State.dropCal_kept (s : State) (p : Nat) (id : Nat) : (State.dropCal s p id).kept = s.kept := by simp [State.dropCal]

@[simp] theorem State.releaseReserved_kept (s : State) (p : Nat) (e : CalEntry) (c : Nat) : (State.releaseReserved s p e c).kept = s.kept :=
  by simp [State.releaseReserved]

@[simp] theorem State.stepPorts_kept (s : State) (j : Int) : (State.stepPorts s j).kept = s.kept := by simp [State.stepPorts]

@[simp] theorem State.putUse_kept (s : State) (l : Nat) (u : LaneUse) : (State.putUse s l u).kept = s.kept := by simp [State.putUse]

@[simp] theorem State.putCal_kept (s : State) (l : Nat) : (State.putCal s l).kept = s.kept := by simp [State.putCal]

@[simp] theorem State.setCal_kept (s : State) (l : Nat) (st : Nat) : (State.setCal s l st).kept = s.kept := by simp [State.setCal]

@[simp] theorem State.beginCal_kept (s : State) (l : Nat) : (State.beginCal s l).kept = s.kept := by simp [State.beginCal]

@[simp] theorem State.endCalibrate_kept (s : State) (l : Nat) (v : Nat) : (State.endCalibrate s l v).kept = s.kept := by simp [State.endCalibrate]

@[simp] theorem State.failCal_kept (s : State) (l : Nat) : (State.failCal s l).kept = s.kept := by simp [State.failCal]

@[simp] theorem stampCalDoneEff_kept (l : Nat) (c : CalIn) (s : State) : (stampCalDoneEff l c s).kept = s.kept := by simp [stampCalDoneEff]

@[simp] theorem stampCalTimeoutEff_kept (l : Nat) (s : State) : (stampCalTimeoutEff l s).kept = s.kept := by simp [stampCalTimeoutEff]

@[simp] theorem State.commitCalibrate_kept (s : State) (p : Nat) : (State.commitCalibrate s p).kept = s.kept := by simp [State.commitCalibrate]

theorem State.admitFrame_kept {s : State} {p n : Nat} {r : State × Nat} (h : s.admitFrame p n = some r) : r.1.kept = s.kept := by
  simp only [State.admitFrame] at h
  split at h
  · rw [← Option.some.inj h]; rfl
  · cases h

@[simp] theorem State.giveBack_kept (s : State) (p : Nat) (r : Nat) (sh : Nat) : (State.giveBack s p r sh).kept = s.kept := by simp [State.giveBack]

@[simp] theorem State.freeFrame_kept (s : State) (f : RxFrame) : (State.freeFrame s f).kept = s.kept := by simp [State.freeFrame]

@[simp] theorem State.discard_kept (s : State) (p : Nat) : (State.discard s p).kept = s.kept := by simp [State.discard]

theorem State.puntRaw_kept {s t : State} {p reason flags stamp : Nat} {b : Bytes} (h : s.puntRaw p b reason flags stamp = some t) :
    t.kept = s.kept := State.enqueue_kept h

@[simp] theorem State.punt_kept (s : State) (p : Nat) (b : Bytes) (reason : Nat) (flags : Nat) (stamp : Nat) : (State.punt s p b reason flags stamp).kept = s.kept := by
  unfold State.punt
  (repeat' split) <;> grind [State.puntRaw_kept, State.count_kept]

@[simp] theorem State.puntService_kept (s : State) (f : RxFrame) : (s.puntService f).kept = s.kept :=
  State.getD_kept (fun _ => State.puntRaw_kept) (by simp)

@[simp] theorem State.puntOr_kept (s : State) (p : Nat) (b : Bytes) (reason : Nat) (flags : Nat) (stamp : Nat) : (State.puntOr s p b reason flags stamp).kept = s.kept :=
  by simp [State.puntOr]

@[simp] theorem State.await_kept (s : State) (f : RxFrame) : (State.await s f).kept = s.kept := by simp [State.await]

@[simp] theorem State.attonArrive_kept (s : State) (p : Nat) (back : Back) (msg : Bytes) : (State.attonArrive s p back msg).kept = s.kept :=
  by simp [State.attonArrive]

@[simp] theorem State.macControl_kept (s : State) (f : RxFrame) : (State.macControl s f).kept = s.kept := by simp [State.macControl]

@[simp] theorem State.dispatch_kept (s : State) (f : RxFrame) : (State.dispatch s f).kept = s.kept := by
  simp only [State.dispatch]
  (repeat' split) <;> simp

@[simp] theorem frameReceiveEff_kept (f : FrameIn) (s : State) : (frameReceiveEff f s).kept = s.kept := by
  unfold frameReceiveEff
  extract_lets p len maxl s₁ s₂
  have h₂ : s₂.kept = s.kept := by simp [s₂, s₁]
  clear_value s₂
  split
  · rfl
  · split
    split
    · simp [h₂]
    · next h =>
      have h₃ := State.admitFrame_kept h
      simp only at h₃
      (repeat' split) <;> simp [h₃, h₂]

@[simp] theorem State.takeRx_kept (s : State) (f : RxFrame) : (State.takeRx s f).kept = s.kept := by simp [State.takeRx]

@[simp] theorem State.answer_kept (s : State) (p : Nat) (b : Bytes) : (State.answer s p b).kept = s.kept := by
  unfold State.answer
  (repeat' split) <;> grind [State.enqueue_kept, State.count_kept, State.discard_kept]

@[simp] theorem arpRequestEff_kept (s : State) : (arpRequestEff s).kept = s.kept := by
  simp only [arpRequestEff]
  split <;> simp

@[simp] theorem neighbourSolicitationEff_kept (s : State) : (neighbourSolicitationEff s).kept = s.kept := by
  simp only [neighbourSolicitationEff]
  split <;> simp

@[simp] theorem State.announce_kept (s : State) (p : Nat) (i : Nat) : (State.announce s p i).kept = s.kept := by simp [State.announce]

@[simp] theorem State.announceAll_kept (s : State) (p : Nat) : (State.announceAll s p).kept = s.kept := by simp [State.announceAll]

@[simp] theorem icmpEchoRequestEff_kept (s : State) : (icmpEchoRequestEff s).kept = s.kept := by
  simp only [icmpEchoRequestEff]
  (repeat' split) <;> simp

@[simp] theorem State.releaseHeld_kept (s : State) (p : Nat) : (State.releaseHeld s p).kept = s.kept := by simp [State.releaseHeld]

@[simp] theorem State.beginHold_kept (s : State) (p : Nat) (from' : Nat) (till : Nat) : (State.beginHold s p from' till).kept = s.kept :=
  by simp [State.beginHold]

@[simp] theorem State.countHold_kept (s : State) (p : Nat) : (State.countHold s p).kept = s.kept := by
  simp only [State.countHold]
  split <;> simp

@[simp] theorem State.endHold_kept (s : State) (p : Nat) : (State.endHold s p).kept = s.kept := by
  simp only [State.endHold]
  split <;> simp

@[simp] theorem pauseEff_kept (s : State) : (pauseEff s).kept = s.kept := by
  simp only [pauseEff]
  (repeat' split) <;> simp

@[simp] theorem pauseHoldEndEff_kept (p : Nat) (s : State) : (pauseHoldEndEff p s).kept = s.kept := by
  simp only [pauseHoldEndEff]
  split <;> simp

@[simp] theorem State.frameSent_kept (s : State) (p : Nat) (till : Nat) : (State.frameSent s p till).kept = s.kept := by
  simp only [State.frameSent]
  (repeat' split) <;> simp

@[simp] theorem hpSendEff_kept (s : State) : (hpSendEff s).kept = s.kept := by
  unfold hpSendEff
  (repeat' split) <;> grind [State.takeRx_kept, State.discard_kept, State.count_kept, State.enqueue_kept]

@[simp] theorem State.linkRise_kept (s : State) (p : Nat) : (State.linkRise s p).kept = s.kept := by simp [State.linkRise]

@[simp] theorem State.drained_kept (s : State) (cls : Nat) (n : Nat) : (State.drained s cls n).kept = s.kept := by simp [State.drained]

@[simp] theorem State.flush_kept (s : State) (p : Nat) : (State.flush s p).kept = s.kept := by simp [State.flush]

@[simp] theorem State.linkDown_kept (s : State) (p : Nat) : (State.linkDown s p).kept = s.kept := by simp [State.linkDown]

@[simp] theorem State.takenDown_kept (s : State) (p : Nat) : (State.takenDown s p).kept = s.kept := by simp [State.takenDown]

@[simp] theorem State.negRefused_kept (s : State) (p : Nat) (neg : Nat) : (State.negRefused s p neg).kept = s.kept := by simp [State.negRefused]

@[simp] theorem linkUpEff_kept (p : Nat) (held : Nat) (neg : Nat) (s : State) : (linkUpEff p held neg s).kept = s.kept := by simp [linkUpEff]

@[simp] theorem linkDownEff_kept (p : Nat) (failed : Nat) (s : State) : (linkDownEff p failed s).kept = s.kept := by simp [linkDownEff]

@[simp] theorem State.retake_kept (s : State) (p : Nat) : (State.retake s p).kept = s.kept := by simp [State.retake]

@[simp] theorem State.police_kept (s : State) (p : Nat) (fam : Nat) (src : Bytes) (svc : Nat) : (State.police s p fam src svc).1.kept = s.kept :=
  by simp [State.police]

@[simp] theorem State.polReset_kept (s : State) : (State.polReset s).kept = s.kept := by simp [State.polReset]

@[simp] theorem policerSweepEff_kept (s : State) : (policerSweepEff s).kept = s.kept := by simp [policerSweepEff]

@[simp] theorem State.useKiss_kept (s : State) (p : Nat) : (State.useKiss s p).kept = s.kept := by simp [State.useKiss]

@[simp] theorem State.modSmear_kept (s : State) (i : Nat) (f : Smear → Smear) : (State.modSmear s i f).kept = s.kept := by simp [State.modSmear]

@[simp] theorem smearStartEff_kept (i : Nat) (s : State) : (smearStartEff i s).kept = s.kept := by
  simp only [smearStartEff]
  split <;> simp

@[simp] theorem smearUnwindEff_kept (i : Nat) (s : State) : (smearUnwindEff i s).kept = s.kept := by simp [smearUnwindEff]

@[simp] theorem smearEndEff_kept (i : Nat) (s : State) : (smearEndEff i s).kept = s.kept := by simp [smearEndEff]

@[simp] theorem State.serve_kept (s : State) (f : RxFrame) : (State.serve s f).kept = s.kept := by simp [State.serve]

@[simp] theorem State.kissPlain_kept (s : State) (f : RxFrame) (ip : IpHead) (req : Bytes) : (State.kissPlain s f ip req).kept = s.kept :=
  by simp [State.kissPlain]

@[simp] theorem State.ntpAnswer_kept (s : State) (f : RxFrame) (ip : IpHead) (req : Bytes) : (State.ntpAnswer s f ip req).kept = s.kept :=
  by simp [State.ntpAnswer]

@[simp] theorem State.ntpServe_kept (s : State) (f : RxFrame) (ip : IpHead) (b : Bytes) : (State.ntpServe s f ip b).kept = s.kept := by
  unfold State.ntpServe
  (repeat' split) <;> grind [State.serve_kept, State.count_kept, State.puntService_kept, State.police_kept, State.ntpAnswer_kept, State.kissPlain_kept]

@[simp] theorem ntpRequestEff_kept (s : State) : (ntpRequestEff s).kept = s.kept := by
  unfold ntpRequestEff
  (repeat' split) <;> simp

@[simp] theorem State.enterReserved_kept (s : State) (p : Nat) (t : Tod) (ready : Bool) (f : TxFrame) : (State.enterReserved s p t ready f).kept = s.kept :=
  by simp [State.enterReserved]

@[simp] theorem State.takeId_kept (s : State) : (State.takeId s).1.kept = s.kept := by simp [State.takeId]

@[simp] theorem State.someThresher_kept (s : State) : (State.someThresher s).1.kept = s.kept := by simp [State.someThresher]

@[simp] theorem State.tallyJob_kept (s : State) (blk : Nat) (thr : Nat) (a : Int) (b : Int) : (State.tallyJob s blk thr a b).kept = s.kept :=
  by simp [State.tallyJob]

@[simp] theorem State.issueAes_kept (s : State) (free : Int) (j : FlailJob) : (State.issueAes s free j).kept = s.kept := by simp [State.issueAes]

@[simp] theorem State.issueSha_kept (s : State) (free : Int) (j : FlailJob) : (State.issueSha s free j).kept = s.kept := by simp [State.issueSha]

@[simp] theorem State.stepFlail_kept (s : State) (j : Int) : (State.stepFlail s j).kept = s.kept := by simp [State.stepFlail]

@[simp] theorem State.nak_kept (s : State) (f : RxFrame) (ip : IpHead) (b : Bytes) (r : NtsReq) : (State.nak s f ip b r).kept = s.kept :=
  by simp [State.nak]

@[simp] theorem State.ntsIssue_kept (s : State) (f : RxFrame) (ip : IpHead) (b : Bytes) (r : NtsReq) (slot : Nat × KeySlot) : (State.ntsIssue s f ip b r slot).kept = s.kept := by
  simp only [State.ntsIssue]
  (repeat' split) <;> simp

@[simp] theorem State.kissIssue_kept (s : State) (f : RxFrame) (ip : IpHead) (r : NtsReq) : (State.kissIssue s f ip r).kept = s.kept := by
  simp only [State.kissIssue]
  (repeat' split) <;> simp

@[simp] theorem State.ntsChecked_kept (s : State) (f : RxFrame) (ip : IpHead) (b : Bytes) (r : NtsReq) : (State.ntsChecked s f ip b r).kept = s.kept := by
  unfold State.ntsChecked
  (repeat' split) <;> grind [State.police_kept, State.kissIssue_kept, State.nak_kept, State.count_kept, State.ntsIssue_kept]

@[simp] theorem ntsRequestEff_kept (s : State) : (ntsRequestEff s).kept = s.kept := by
  unfold ntsRequestEff
  (repeat' split) <;> simp

@[simp] theorem State.mintMany_kept (j : FlailJob) (a b : Bytes) (k : Nat) (s : State) : (State.mintMany j a b k s).1.kept = s.kept := by
  induction k generalizing s with
  | zero => rfl
  | succ k ih => exact (ih _).trans (s.random_kept 16)

@[simp] theorem State.releaseJob_kept (s : State) (j : FlailJob) : (State.releaseJob s j).kept = s.kept := by
  simp only [State.releaseJob]
  split <;> simp

@[simp] theorem State.ntsSeal_kept (s : State) (j : FlailJob) (ip : IpHead) (r : NtsReq) (c2s : Bytes) (s2c : Bytes) (n : Nat) : (State.ntsSeal s j ip r c2s s2c n).kept = s.kept := by
  simp only [State.ntsSeal]
  split <;> simp

@[simp] theorem State.kissSeal_kept (s : State) (j : FlailJob) (ip : IpHead) (b : Bytes) (r : NtsReq) (s2c : Bytes) : (State.kissSeal s j ip b r s2c).kept = s.kept :=
  by simp [State.kissSeal]

@[simp] theorem State.ntsDone_kept (s : State) (j : FlailJob) (n : Nat) : (State.ntsDone s j n).kept = s.kept := by
  unfold State.ntsDone
  (repeat' split) <;> simp

@[simp] theorem State.kissDone_kept (s : State) (j : FlailJob) : (State.kissDone s j).kept = s.kept := by
  unfold State.kissDone
  (repeat' split) <;> simp

theorem State.flailPass_kept {s t : State} {alg m : Nat} (h : s.flailPass alg m = some t) : t.kept = s.kept := by
  unfold State.flailPass at h
  split at h
  · obtain ⟨_, _, rfl⟩ := Option.map_eq_some_iff.mp h; rfl
  · obtain ⟨_, _, rfl⟩ := Option.map_eq_some_iff.mp h; rfl

theorem State.ptpSign_kept {s : State} {i : Nat} {m : Bytes} {r : State × Bytes} (h : s.ptpSign i m = some r) : r.1.kept = s.kept := by
  simp only [State.ptpSign] at h
  split at h
  · cases h; rfl
  · split at h
    · cases h
    · obtain ⟨u, hu, rfl⟩ := Option.map_eq_some_iff.mp h
      exact State.flailPass_kept hu

@[simp] theorem State.ptpSend_kept (s : State) (i p : Nat) (event : Bool) (dst : Bytes × Bytes) (ipcp : Nat) (note : TxNote) (m : Bytes) :
    (s.ptpSend i p event dst ipcp note m).1.kept = s.kept := by
  unfold State.ptpSend
  split
  · rfl
  · next hs =>
    split
    · rfl
    · split
      · next he => exact (State.enqueue_kept he).trans (State.ptpSign_kept hs)
      · rfl

@[simp] theorem State.ptpPut_kept (s : State) (i : Nat) (p : Nat) (event : Bool) (dst : Bytes × Bytes) (ipcp : Nat) (note : TxNote) (m : Bytes) : (State.ptpPut s i p event dst ipcp note m).kept = s.kept :=
  by simp [State.ptpPut]

@[simp] theorem State.ptpVerify_kept (s : State) (i : Nat) (x : PtpIn) : (State.ptpVerify s i x).1.kept = s.kept := by
  unfold State.ptpVerify
  (repeat' split) <;> grind [State.flailPass_kept]

@[simp] theorem State.ptpAccept_kept (s : State) (f : RxFrame) (x : PtpIn) : (State.ptpAccept s f x).1.kept = s.kept := by
  unfold State.ptpAccept
  (repeat' split) <;> grind [State.serve_kept, State.count_kept, State.ptpVerify_kept]

@[simp] theorem State.ptpPoliced_kept (s : State) (f : RxFrame) (x : PtpIn) : (State.ptpPoliced s f x).1.kept = s.kept := by
  unfold State.ptpPoliced
  (repeat' split) <;> grind [State.police_kept, State.ptpAccept_kept, State.count_kept, State.serve_kept]

@[simp] theorem State.ptpScreen_kept (s : State) : s.ptpScreen.kept = s.kept :=
  State.each_kept (fun s f => by
    simp only
    split
    · next h => rw [State.puntService_kept, State.fst_eq h]; split <;> simp
    · next h => rw [State.fst_eq h]; split <;> simp) _ s

@[simp] theorem State.gmEvent_kept (s : State) (phase : Int) (freq : Int) : (State.gmEvent s phase freq).kept = s.kept := by simp [State.gmEvent]

@[simp] theorem State.putAsCapable_kept (s : State) (i : Nat) : (State.putAsCapable s i).kept = s.kept := by simp [State.putAsCapable]

@[simp] theorem announceSendEff_kept (i : Nat) (p : Nat) (s : State) : (announceSendEff i p s).kept = s.kept := by simp [announceSendEff]

@[simp] theorem State.syncReserve_kept (s : State) (i : Nat) (p : Nat) (dst : Bytes × Bytes) (uni : Bool) (seq : Nat) (log : Int) : (State.syncReserve s i p dst uni seq log).kept = s.kept := by
  simp only [State.syncReserve]
  (repeat' split) <;> simp

@[simp] theorem State.releaseSync_kept (s : State) (i : Nat) (p : Nat) (dst : Bytes × Bytes) (seq : Nat) (log : Int) (sess : Option Nat) : (State.releaseSync s i p dst seq log sess).kept = s.kept := by
  unfold State.releaseSync
  (repeat' split) <;> grind [State.ptpSend_kept, State.count_kept, State.syncReserve_kept, State.send_kept]

@[simp] theorem syncReleaseEff_kept (i : Nat) (p : Nat) (s : State) : (syncReleaseEff i p s).kept = s.kept := by simp [syncReleaseEff]

@[simp] theorem State.signDone_kept (s : State) (j : FlailJob) (off : Nat) (alg : Nat) : (State.signDone s j off alg).kept = s.kept :=
  by simp [State.signDone]

@[simp] theorem State.addFup_kept (s : State) (i p t : Nat) (dst : Bytes × Bytes) (m : Bytes) : (s.addFup i p t dst m).kept = s.kept := by
  simp only [State.addFup]
  split
  · simp
  · next hs =>
    have h := State.ptpSign_kept hs
    split
    · simp
    · split <;> simp_all

@[simp] theorem State.dropFup_kept (s : State) (i : Nat) (e : Fup) : (State.dropFup s i e).kept = s.kept := by simp [State.dropFup]

@[simp] theorem State.ptpCrossed_kept (s : State) (f : TxFrame) (st : Nat) : (State.ptpCrossed s f st).kept = s.kept := by
  simp only [State.ptpCrossed]
  (repeat' split) <;> simp

@[simp] theorem State.sendFup_kept (s : State) (i : Nat) (p : Nat) (t : Nat) : (State.sendFup s i p t).kept = s.kept := by
  unfold State.sendFup
  (repeat' split) <;> grind [State.dropFup_kept, State.count_kept, State.enqueue_kept]

@[simp] theorem followUpSendEff_kept (i : Nat) (p : Nat) (s : State) : (followUpSendEff i p s).kept = s.kept := by simp [followUpSendEff]

@[simp] theorem pdelayRespFollowUpSendEff_kept (i : Nat) (p : Nat) (s : State) : (pdelayRespFollowUpSendEff i p s).kept = s.kept :=
  by simp [pdelayRespFollowUpSendEff]

@[simp] theorem State.modSession_kept (s : State) (n : Nat) (f : Session → Session) : (State.modSession s n f).kept = s.kept :=
  by simp [State.modSession]

@[simp] theorem State.delayResp_kept (s : State) (i : Nat) (f : RxFrame) (x : PtpIn) : (State.delayResp s i f x).kept = s.kept := by
  simp only [State.delayResp]
  split <;> simp

@[simp] theorem delayReqReceiveEff_kept (s : State) : (delayReqReceiveEff s).kept = s.kept := by
  unfold delayReqReceiveEff
  (repeat' split) <;> grind [State.ptpPoliced_kept, State.delayResp_kept]

@[simp] theorem pdelayReqReceiveEff_kept (s : State) : (pdelayReqReceiveEff s).kept = s.kept := by
  unfold pdelayReqReceiveEff
  (repeat' split) <;> grind [State.ptpPoliced_kept, State.ptpPut_kept]

@[simp] theorem pdelayReqSendEff_kept (i : Nat) (p : Nat) (s : State) : (pdelayReqSendEff i p s).kept = s.kept := by simp [pdelayReqSendEff]

@[simp] theorem State.pdelayMaster_kept (s : State) (i : Nat) (f : RxFrame) (x : PtpIn) : (State.pdelayMaster s i f x).kept = s.kept := by
  simp only [State.pdelayMaster]
  split <;> simp

@[simp] theorem State.setUp_kept (s : State) (l : Nat) (up : Bool) : (State.setUp s l up).kept = s.kept := by simp [State.setUp]

@[simp] theorem creminLinkUpEff_kept (l : Nat) (held : Nat) (s : State) : (creminLinkUpEff l held s).kept = s.kept := by simp [creminLinkUpEff]

@[simp] theorem State.creminDown_kept (s : State) (l : Nat) : (State.creminDown s l).kept = s.kept := by simp [State.creminDown]

@[simp] theorem creminLinkDownEff_kept (l : Nat) (lockLost : Bool) (s : State) : (creminLinkDownEff l lockLost s).kept = s.kept :=
  by simp [creminLinkDownEff]

@[simp] theorem State.commitRole_kept (s : State) (l : Nat) : (State.commitRole s l).kept = s.kept := by simp [State.commitRole]

@[simp] theorem State.creminTick_kept (s : State) : (State.creminTick s).kept = s.kept := by simp [State.creminTick]

@[simp] theorem State.creminBad_kept (s : State) (l : Nat) : (State.creminBad s l).kept = s.kept := by simp [State.creminBad]

@[simp] theorem creminBadBlockEff_kept (l : Nat) (m : CremIn) (s : State) : (creminBadBlockEff l m s).kept = s.kept := by simp [creminBadBlockEff]

@[simp] theorem State.creminQueue_kept (s : State) (l : Nat) (m : CremTx) : (State.creminQueue s l m).kept = s.kept := by simp [State.creminQueue]

@[simp] theorem State.creminDrain_kept (l fuel : Nat) (s : State) : (State.creminDrain l fuel s).kept = s.kept := by
  induction fuel generalizing s with
  | zero => rfl
  | succ fuel ih =>
    unfold State.creminDrain
    split
    · rfl
    · simp only
      split
      · rfl
      · rw [ih]; split <;> simp

@[simp] theorem tunnelSendEff_kept (l : Nat) (s : State) : (tunnelSendEff l s).kept = s.kept := by simp [tunnelSendEff]

@[simp] theorem timeEff_kept (l : Nat) (s : State) : (timeEff l s).kept = s.kept := by simp [timeEff]

@[simp] theorem State.retree_kept (s : State) : (State.retree s).kept = s.kept := by
  simp only [State.retree]
  split <;> simp

@[simp] theorem State.creminDelay_kept (s : State) (l : Nat) (d : Bytes) : (State.creminDelay s l d).kept = s.kept := by
  simp only [State.creminDelay]
  (repeat' split) <;> simp

@[simp] theorem State.creminOffset_kept (s : State) (l : Nat) (m : CremIn) : (State.creminOffset s l m).kept = s.kept := by
  simp only [State.creminOffset]
  split <;> simp

@[simp] theorem State.creminTransfer_kept (s : State) (l : Nat) (m : CremIn) : (State.creminTransfer s l m).kept = s.kept :=
  by simp [State.creminTransfer]

@[simp] theorem State.creminJudge_kept (s : State) (l : Nat) (m : CremIn) : (State.creminJudge s l m).kept = s.kept := by simp [State.creminJudge]

@[simp] theorem timeReceiveEff_kept (l : Nat) (m : CremIn) (s : State) : (timeReceiveEff l m s).kept = s.kept := by simp [timeReceiveEff]

@[simp] theorem joinEff_kept (l : Nat) (s : State) : (joinEff l s).kept = s.kept := by simp [joinEff]

@[simp] theorem State.modNode_kept (s : State) (n : Nat) (f : CremNode → CremNode) : (State.modNode s n f).kept = s.kept := by simp [State.modNode]

@[simp] theorem State.countNodes_kept (s : State) : (State.countNodes s).kept = s.kept := by simp [State.countNodes]

@[simp] theorem State.refreshSerial_kept (s : State) (serial : Bytes) : (State.refreshSerial s serial).kept = s.kept := by simp [State.refreshSerial]

@[simp] theorem State.answerJoin_kept (s : State) (serial : Bytes) (node : Nat) (len : Nat) (path : Bytes) : (State.answerJoin s serial node len path).kept = s.kept :=
  by simp [State.answerJoin]

@[simp] theorem joinReceiveEff_kept (l : Nat) (m : CremIn) (s : State) : (joinReceiveEff l m s).kept = s.kept := by
  unfold joinReceiveEff
  (repeat' split) <;> simp

@[simp] theorem State.takeNode_kept (s : State) (n : Nat) (source : Nat) : (State.takeNode s n source).kept = s.kept := by simp [State.takeNode]

@[simp] theorem State.assigned_kept (s : State) (n : Nat) : (State.assigned s n).kept = s.kept := by simp [State.assigned]

@[simp] theorem assignEff_kept (l : Nat) (m : CremIn) (s : State) : (assignEff l m s).kept = s.kept := by simp [assignEff]

@[simp] theorem addressHoldExpireEff_kept (n : Nat) (s : State) : (addressHoldExpireEff n s).kept = s.kept := by simp [addressHoldExpireEff]

@[simp] theorem summaryEff_kept (s : State) : (summaryEff s).kept = s.kept := by
  simp only [summaryEff]
  (repeat' split) <;> simp

@[simp] theorem summaryReceiveEff_kept (l : Nat) (m : CremIn) (s : State) : (summaryReceiveEff l m s).kept = s.kept := by
  unfold summaryReceiveEff
  (repeat' split) <;> simp

@[simp] theorem creminNodeLostEff_kept (n : Nat) (s : State) : (creminNodeLostEff n s).kept = s.kept := by simp [creminNodeLostEff]

@[simp] theorem State.tunnelForward_kept (s : State) (dst : Nat) (from' : Option Nat) (m : CremTx) : (State.tunnelForward s dst from' m).kept = s.kept := by
  simp only [State.tunnelForward]
  split <;> simp

@[simp] theorem State.tunnelOut_kept (s : State) (dst : Nat) (msg : Bytes) : (State.tunnelOut s dst msg).kept = s.kept := by simp [State.tunnelOut]

@[simp] theorem State.ucMac_kept (s : State) (i : Nat) (addr : Bytes) : (State.ucMac s i addr).1.kept = s.kept := by
  simp only [State.ucMac]
  split <;> simp

@[simp] theorem State.sendSignal_kept (s : State) (i : Nat) (p : Nat) (dst : Bytes × Bytes) (target : Bytes) (tlvs : Bytes) : (State.sendSignal s i p dst target tlvs).kept = s.kept :=
  by simp [State.sendSignal]

@[simp] theorem State.ucRequest_kept (s : State) (i : Nat) (p : Nat) (addr : Bytes) (msgs : List Nat) : (State.ucRequest s i p addr msgs).kept = s.kept :=
  by simp [State.ucRequest]

@[simp] theorem State.ucCancel_kept (s : State) (i p : Nat) : (s.ucCancel i p).kept = s.kept := by
  simp only [State.ucCancel]
  split
  · simp
  · refine (State.each_kept (fun s g => ?_) _ _).trans (State.modPtp_kept _ _ _)
    split <;> simp

@[simp] theorem State.noParent_kept (s : State) (i : Nat) : (State.noParent s i).kept = s.kept := by simp [State.noParent]

@[simp] theorem State.slaveDown_kept (s : State) (i : Nat) : (State.slaveDown s i).kept = s.kept := by simp [State.slaveDown]

@[simp] theorem State.slaveUp_kept (s : State) (i p : Nat) : (s.slaveUp i p).kept = s.kept := by
  simp only [State.slaveUp]
  split
  · refine (State.each_kept (fun s m => ?_) _ _).trans (by simp)
    split <;> simp
  · simp

@[simp] theorem State.slaveRefresh_kept (s : State) (i : Nat) : (State.slaveRefresh s i).kept = s.kept := by simp [State.slaveRefresh]

@[simp] theorem State.slavesRefresh_kept (s : State) : (State.slavesRefresh s).kept = s.kept := by simp [State.slavesRefresh]

@[simp] theorem State.newParent_kept (s : State) (i : Nat) (f : PtpForeign) (at' : Nat) : (State.newParent s i f at').kept = s.kept := by
  simp only [State.newParent]
  (repeat' split) <;> simp

@[simp] theorem State.followParent_kept (s : State) (i : Nat) : (State.followParent s i).kept = s.kept := by simp [State.followParent]

@[simp] theorem State.hearForeign_kept (s : State) (i : Nat) (x : PtpIn) (at' : Nat) : (State.hearForeign s i x at').kept = s.kept :=
  by simp [State.hearForeign]

@[simp] theorem State.commitAnnounce_kept (s : State) (i : Nat) (f : RxFrame) : (State.commitAnnounce s i f).kept = s.kept := by
  simp only [State.commitAnnounce]
  split <;> simp

@[simp] theorem State.commitSilent_kept (s : State) (i : Nat) (id : Bytes) : (State.commitSilent s i id).kept = s.kept := by simp [State.commitSilent]

@[simp] theorem State.commitSbOut_kept (s : State) (o : SbOut) : (State.commitSbOut s o).kept = s.kept := by
  unfold State.commitSbOut
  split <;> simp

@[simp] theorem State.commitSlaves_kept (s : State) : (State.commitSlaves s).kept = s.kept := by simp [State.commitSlaves]

@[simp] theorem State.stageSb_kept (s : State) (n : Nat) (i : Nat) (e : SbEvent) : (State.stageSb s n i e).kept = s.kept := by simp [State.stageSb]

@[simp] theorem announceReceiveEff_kept (s : State) : (announceReceiveEff s).kept = s.kept := by
  unfold announceReceiveEff
  (repeat' split) <;> grind [State.ptpAccept_kept, State.count_kept, State.stageSb_kept]

@[simp] theorem announceTimeoutEff_kept (i : Nat) (s : State) : (announceTimeoutEff i s).kept = s.kept := by
  simp only [announceTimeoutEff]
  split <;> simp

@[simp] theorem State.addDelay_kept (s : State) (i : Nat) (d : Int) : (State.addDelay s i d).kept = s.kept := by simp [State.addDelay]

@[simp] theorem State.formOffset_kept (s : State) (i : Nat) (t1 : Int) (t2 : Int) (steps : Nat) (flags : Nat) : (State.formOffset s i t1 t2 steps flags).kept = s.kept := by
  simp only [State.formOffset]
  (repeat' split) <;> simp

@[simp] theorem syncReceiveEff_kept (s : State) : (syncReceiveEff s).kept = s.kept := by
  unfold syncReceiveEff
  (repeat' split) <;> grind [State.ptpAccept_kept, State.modPtp_kept, State.formOffset_kept]

@[simp] theorem followUpReceiveEff_kept (s : State) : (followUpReceiveEff s).kept = s.kept := by
  unfold followUpReceiveEff
  (repeat' split) <;> grind [State.ptpAccept_kept, State.modPtp_kept, State.formOffset_kept]

@[simp] theorem slaveDelayReqSendEff_kept (i : Nat) (s : State) : (slaveDelayReqSendEff i s).kept = s.kept := by
  simp only [slaveDelayReqSendEff]
  (repeat' split) <;> simp

@[simp] theorem State.takeDelayResp_kept (s : State) (i : Nat) (x : PtpIn) : (State.takeDelayResp s i x).kept = s.kept := by
  simp only [State.takeDelayResp]
  (repeat' split) <;> simp

@[simp] theorem delayRespReceiveEff_kept (s : State) : (delayRespReceiveEff s).kept = s.kept := by
  unfold delayRespReceiveEff
  (repeat' split) <;> grind [State.ptpAccept_kept, State.takeDelayResp_kept]

@[simp] theorem State.pdelaySlave_kept (s : State) (i : Nat) (f : RxFrame) (x : PtpIn) : (State.pdelaySlave s i f x).kept = s.kept := by
  simp only [State.pdelaySlave]
  (repeat' split) <;> simp

@[simp] theorem pdelayRespReceiveEff_kept (s : State) : (pdelayRespReceiveEff s).kept = s.kept := by
  unfold pdelayRespReceiveEff
  (repeat' split) <;> grind [State.ptpAccept_kept, State.pdelayMaster_kept, State.pdelaySlave_kept]

@[simp] theorem State.takeGrant_kept (s : State) (i : Nat) (m : Nat) (v : Bytes) : (State.takeGrant s i m v).kept = s.kept :=
  by simp [State.takeGrant]

@[simp] theorem grantUnicastTransmissionEff_kept (s : State) : (grantUnicastTransmissionEff s).kept = s.kept := by
  unfold grantUnicastTransmissionEff
  split
  · rfl
  · next f x _ =>
    have h := s.ptpPoliced_kept f x
    split
    · rfl
    · split
      · next hp => rw [hp] at h; exact h
      · next hp =>
        rw [hp] at h
        simp only at h
        split
        · exact h
        · split
          · exact h
          · rw [State.each_kept, h]
            intro s t; simp

@[simp] theorem unicastRenewEff_kept (i : Nat) (s : State) : (unicastRenewEff i s).kept = s.kept := by
  unfold unicastRenewEff
  split
  · rfl
  · refine (State.each_kept (fun s g => ?_) _ _).trans (State.modPtp_kept _ _ _)
    split <;> simp

@[simp] theorem State.stageUc_kept (s : State) (u : UcStaged) : (State.stageUc s u).kept = s.kept := by simp [State.stageUc]

@[simp] theorem State.denyUc_kept (s : State) (i : Nat) (p : Nat) (msg : Nat) (log : Int) (f : RxFrame) (c : Nat) : (State.denyUc s i p msg log f c).kept = s.kept :=
  by simp [State.denyUc]

/-- A record of a new session is all that opening one adds. -/
@[simp] theorem State.decideUc_kept (s : State) (i : Nat) (f : RxFrame) (x : PtpIn) (msg : Nat) (log : Int) (dur c : Nat) :
    (s.decideUc i f x msg log dur c).kept = s.kept := by
  unfold State.decideUc
  extract_lets p ident deny old held nt made
  have hd : deny.kept = s.kept := by simp [deny]
  have hm : ∀ r, made = some r → r.1.kept = s.kept := by
    intro r hr
    simp only [made] at hr
    clear_value old
    cases old with
    | some y => cases hr; rfl
    | none =>
      dsimp only at hr
      split at hr
      · cases hr
      · obtain ⟨n, _, rfl⟩ := Option.map_eq_some_iff.mp hr; rfl
  clear_value deny made
  split
  · exact hd
  · split
    · exact hd
    · cases made with
      | none => exact hd
      | some r =>
        obtain ⟨u, y⟩ := r
        have h : u.kept = s.kept := hm _ rfl
        dsimp only
        rw [State.kept_ite, hd, State.stageUc_kept, State.modSession_kept, h, ite_self]

@[simp] theorem requestUnicastTransmissionEff_kept (s : State) : (requestUnicastTransmissionEff s).kept = s.kept := by
  unfold requestUnicastTransmissionEff
  split
  · rfl
  · next f x _ =>
    have h := s.ptpPoliced_kept f x
    split
    split
    · rfl
    · split
      · next hp => rw [hp] at h; exact h
      · next hp =>
        rw [hp] at h
        rw [State.each_kept]
        · exact h
        · intro s t; simp

@[simp] theorem State.cancelUc_kept (s : State) (i : Nat) (f : RxFrame) (x : PtpIn) (msg : Nat) : (State.cancelUc s i f x msg).kept = s.kept := by
  simp only [State.cancelUc]
  (repeat' split) <;> simp

@[simp] theorem cancelUnicastTransmissionEff_kept (s : State) : (cancelUnicastTransmissionEff s).kept = s.kept := by
  unfold cancelUnicastTransmissionEff
  split
  · rfl
  · next f x _ =>
    have h := s.ptpPoliced_kept f x
    split
    · rfl
    · split
      · next hp => rw [hp] at h; exact h
      · next hp =>
        rw [hp] at h
        rw [State.each_kept]
        · exact h
        · intro s t; simp

@[simp] theorem State.freeUc_kept (s : State) (u : UcStaged) : (State.freeUc s u).kept = s.kept := by simp [State.freeUc]

@[simp] theorem State.commitUc_kept (s : State) (u : UcStaged) : (State.commitUc s u).kept = s.kept := by
  simp only [State.commitUc]
  split <;> simp

@[simp] theorem State.commitGrants_kept (s : State) : (State.commitGrants s).kept = s.kept := by simp [State.commitGrants]

@[simp] theorem State.dropUc_kept (s : State) (sel : UcStaged → Bool) : (State.dropUc s sel).kept = s.kept := by simp [State.dropUc]

@[simp] theorem grantExpireEff_kept (s : State) : (grantExpireEff s).kept = s.kept := by simp [grantExpireEff]

@[simp] theorem State.freeSessions_kept (s : State) (i : Nat) : (State.freeSessions s i).kept = s.kept := by simp [State.freeSessions]

@[simp] theorem unicastReleaseEff_kept (n : Nat) (announce : Bool) (s : State) : (unicastReleaseEff n announce s).kept = s.kept := by
  simp only [unicastReleaseEff]
  split <;> simp

@[simp] theorem State.selectSess_kept (s : State) (path : Nat) (v : Nat) : (State.selectSess s path v).kept = s.kept := by simp [State.selectSess]

@[simp] theorem ptpSessSelectEff_kept (path : Nat) (v : Nat) (s : State) : (ptpSessSelectEff path v s).kept = s.kept := by simp [ptpSessSelectEff]

@[simp] theorem State.commitCounts_kept (s : State) (p : Nat) (e : CalEntry) : (State.commitCounts s p e).kept = s.kept := by
  simp only [State.commitCounts]
  split <;> simp

@[simp] theorem untimedCommitEff_kept (p : Nat) (s : State) : (untimedCommitEff p s).kept = s.kept := by
  simp only [untimedCommitEff]
  split <;> simp

@[simp] theorem launchCheckEff_kept (p : Nat) (s : State) : (launchCheckEff p s).kept = s.kept := by
  simp only [launchCheckEff]
  split <;> simp

@[simp] theorem frameDepartureEff_kept (p : Nat) (w : WordIn) (s : State) : (frameDepartureEff p w s).kept = s.kept := by
  simp only [frameDepartureEff]
  split <;> simp

@[simp] theorem State.retakeLink_kept (s : State) (p : Nat) : (State.retakeLink s p).kept = s.kept := by simp [State.retakeLink]

@[simp] theorem State.takeLinks_kept (s : State) : (State.takeLinks s).kept = s.kept := by
  simp only [State.takeLinks]
  split <;> simp

@[simp] theorem flailJobCompleteEff_kept (job : Nat) (s : State) : (flailJobCompleteEff job s).kept = s.kept := by
  unfold flailJobCompleteEff
  (repeat' split) <;> simp

@[simp] theorem State.modGch_kept (s : State) (n : Nat) (f : GnssChan → GnssChan) : (State.modGch s n f).kept = s.kept := by simp [State.modGch]

@[simp] theorem State.modGnss_kept (s : State) (f : Gnss → Gnss) : (State.modGnss s f).kept = s.kept := by simp [State.modGnss]

@[simp] theorem State.modGband_kept (s : State) (b : Nat) (f : GnssBand → GnssBand) : (State.modGband s b f).kept = s.kept := by simp [State.modGband]

@[simp] theorem State.modEngine_kept (s : State) (e : Nat) (f : GnssEngine → GnssEngine) : (State.modEngine s e f).kept = s.kept :=
  by simp [State.modEngine]

@[simp] theorem State.setFlag_kept (s : State) (n : Nat) (bit : Nat) (on : Bool) : (State.setFlag s n bit on).kept = s.kept := by simp [State.setFlag]

@[simp] theorem State.setGch_kept (s : State) (n : Nat) (st : Nat) : (State.setGch s n st).kept = s.kept := by simp [State.setGch]

@[simp] theorem State.dropGch_kept (s : State) (n : Nat) (st : Nat) : (State.dropGch s n st).kept = s.kept := by
  simp only [State.dropGch]
  split <;> simp

@[simp] theorem State.giveUp_kept (s : State) (n : Nat) : (State.giveUp s n).kept = s.kept := by simp [State.giveUp]

@[simp] theorem State.startEval_kept (s : State) : (State.startEval s).kept = s.kept := by simp [State.startEval]

@[simp] theorem State.offerL5_kept (s : State) (n : Nat) : (State.offerL5 s n).kept = s.kept := by simp [State.offerL5]

@[simp] theorem State.gnssAssign_kept (s : State) : (State.gnssAssign s).kept = s.kept := by simp [State.gnssAssign]

@[simp] theorem State.takeAssign_kept (s : State) (n : Nat) (a : Nat) : (State.takeAssign s n a).kept = s.kept := by
  simp only [State.takeAssign]
  (repeat' split) <;> simp

@[simp] theorem State.engineTake_kept (s : State) (e : Nat) : (State.engineTake s e).kept = s.kept := by
  simp only [State.engineTake]
  split <;> simp

@[simp] theorem State.commitAssigned_kept (s : State) : (State.commitAssigned s).kept = s.kept := by simp [State.commitAssigned]

@[simp] theorem gnssSnapshotEff_kept (b : Nat) (s : State) : (gnssSnapshotEff b s).kept = s.kept := by simp [gnssSnapshotEff]

@[simp] theorem State.putPhase_kept (s : State) (n : Nat) : (State.putPhase s n).kept = s.kept := by simp [State.putPhase]

@[simp] theorem State.handOff_kept (s : State) (x : GnssEngine) (n : Nat) (cell : Nat) (bin : Nat) : (State.handOff s x n cell bin).kept = s.kept :=
  by simp [State.handOff]

@[simp] theorem acqDwellDoneEff_kept (e : Nat) (s : State) : (acqDwellDoneEff e s).kept = s.kept := by
  simp only [acqDwellDoneEff]
  (repeat' split) <;> simp

@[simp] theorem State.feInit_kept (s : State) : (State.feInit s).kept = s.kept := by simp [State.feInit]

@[simp] theorem State.commitFeReinit_kept (s : State) : (State.commitFeReinit s).kept = s.kept := by simp [State.commitFeReinit]

@[simp] theorem gnssAgcEff_kept (b : Nat) (code : Byte) (s : State) : (gnssAgcEff b code s).kept = s.kept := by
  simp only [gnssAgcEff]
  (repeat' split) <;> simp

@[simp] theorem State.coast_kept (s : State) (n : Nat) : (State.coast s n).kept = s.kept := by simp [State.coast]

@[simp] theorem gnssBandFailEff_kept (b : Nat) (s : State) : (gnssBandFailEff b s).kept = s.kept := by simp [gnssBandFailEff]

@[simp] theorem gnssBandOkEff_kept (b : Nat) (s : State) : (gnssBandOkEff b s).kept = s.kept := by simp [gnssBandOkEff]

@[simp] theorem State.bandSamples_kept (s : State) (b : Nat) (l : Bytes) (gap : Bool) : (State.bandSamples s b l gap).kept = s.kept :=
  by simp [State.bandSamples]

@[simp] theorem State.chanSamples_kept (s : State) (n : Nat) (l : Bytes) (more : Nat) (gap : Option Nat) : (State.chanSamples s n l more gap).kept = s.kept :=
  by simp [State.chanSamples]

@[simp] theorem State.gnssSamples_kept (s : State) (gf : List (Byte × Byte)) : (State.gnssSamples s gf).kept = s.kept := by simp [State.gnssSamples]

@[simp] theorem State.groupDump_kept (s : State) : (State.groupDump s).kept = s.kept := by simp [State.groupDump]

@[simp] theorem State.takeUtc_kept (s : State) (sat : Nat) (u : Int × Nat × Nat) : (State.takeUtc s sat u).kept = s.kept := by
  simp only [State.takeUtc]
  (repeat' split) <;> simp

@[simp] theorem State.takeSymbol_kept (s : State) (n : Nat) (b : Bool) : (State.takeSymbol s n b).kept = s.kept := by
  simp only [State.takeSymbol]
  (repeat' split) <;> simp

@[simp] theorem State.trackPrimary_kept (s : State) (n : Nat) (x : List (Int × Int)) (len : Nat) : (State.trackPrimary s n x len).1.kept = s.kept := by
  simp only [State.trackPrimary]
  split <;> simp

@[simp] theorem State.trackCombined_kept (s : State) (n : Nat) (x : List (Int × Int)) (len : Nat) : (State.trackCombined s n x len).kept = s.kept :=
  by simp [State.trackCombined]

@[simp] theorem State.coastRates_kept (s : State) (n : Nat) : (State.coastRates s n).kept = s.kept := by
  simp only [State.coastRates]
  split <;> simp

@[simp] theorem State.trackMoves_kept (s : State) (n : Nat) : (State.trackMoves s n).kept = s.kept := by
  simp only [State.trackMoves]
  split <;> simp

@[simp] theorem State.addNoise_kept (s : State) (a : Nat) (c : GnssChan) : (State.addNoise s a c).kept = s.kept := by simp [State.addNoise]

@[simp] theorem State.trackSums_kept (s : State) (n : Nat) : (State.trackSums s n).kept = s.kept := by
  unfold State.trackSums
  (repeat' split) <;> grind [State.modGch_kept, State.trackPrimary_kept, State.trackCombined_kept]

@[simp] theorem State.trackDump_kept (s : State) (n : Nat) : (State.trackDump s n).kept = s.kept := by
  simp only [State.trackDump]
  split <;> simp

@[simp] theorem State.dumpOne_kept (s : State) (n : Nat) : (State.dumpOne s n).kept = s.kept := by
  simp only [State.dumpOne]
  (repeat' split) <;> simp

@[simp] theorem correlatorDumpEff_kept (g : Nat) (s : State) : (correlatorDumpEff g s).kept = s.kept := by simp [correlatorDumpEff]

@[simp] theorem State.gnssRates_kept (s : State) : (State.gnssRates s).kept = s.kept := by simp [State.gnssRates]

@[simp] theorem channelPullInLockEff_kept (n : Nat) (s : State) : (channelPullInLockEff n s).kept = s.kept := by simp [channelPullInLockEff]

@[simp] theorem channelPullInTimeoutEff_kept (n : Nat) (s : State) : (channelPullInTimeoutEff n s).kept = s.kept := by simp [channelPullInTimeoutEff]

@[simp] theorem channelCoastTimeoutEff_kept (n : Nat) (s : State) : (channelCoastTimeoutEff n s).kept = s.kept := by simp [channelCoastTimeoutEff]

@[simp] theorem epochLatchEff_kept (s : State) : (epochLatchEff s).kept = s.kept := by simp [epochLatchEff]

@[simp] theorem State.smoothObs_kept (s : State) (n : Nat) : (State.smoothObs s n).kept = s.kept := by simp [State.smoothObs]

@[simp] theorem State.surveyFix_kept (s : State) (p : Int × Int × Int) : (State.surveyFix s p).kept = s.kept := by simp [State.surveyFix]

@[simp] theorem surveyDoneEff_kept (s : State) : (surveyDoneEff s).kept = s.kept := by
  simp only [surveyDoneEff]
  split <;> simp

@[simp] theorem State.surveyBegin_kept (s : State) : (State.surveyBegin s).kept = s.kept := by simp [State.surveyBegin]

@[simp] theorem State.commitResurvey_kept (s : State) : (State.commitResurvey s).kept = s.kept := by simp [State.commitResurvey]

@[simp] theorem State.commitPosMode_kept (s : State) : (State.commitPosMode s).kept = s.kept := by simp [State.commitPosMode]

@[simp] theorem State.markUsed_kept (s : State) (x : Config.Lsq) (used : List GnssObs) (out : List GnssObs) : (State.markUsed s x used out).kept = s.kept :=
  by simp [State.markUsed]

@[simp] theorem State.putBiases_kept (s : State) (x : Config.Lsq) (ref : Nat) (used : List GnssObs) : (State.putBiases s x ref used).kept = s.kept :=
  by simp [State.putBiases]

@[simp] theorem gnssSolutionEff_kept (s : State) : (gnssSolutionEff s).kept = s.kept := by simp [gnssSolutionEff]

@[simp] theorem State.reportBytes_kept (s : State) (r : GnssReport) : (State.reportBytes s r).1.kept = s.kept := by simp [State.reportBytes]

@[simp] theorem State.publish_kept (s : State) (r0 : GnssReport) : (State.publish s r0).kept = s.kept := by simp [State.publish]

@[simp] theorem epochReportPublishEff_kept (s : State) : (epochReportPublishEff s).kept = s.kept := by
  simp only [epochReportPublishEff]
  (repeat' split) <;> simp

@[simp] theorem rawPpsEff_kept (fine : Nat) (s : State) : (rawPpsEff fine s).kept = s.kept := by
  simp only [rawPpsEff]
  split <;> simp

@[simp] theorem State.formS8_kept (s : State) : (State.formS8 s).kept = s.kept := by
  simp only [State.formS8]
  split <;> simp

@[simp] theorem State.stepGnss_kept (s : State) (j : Int) : (State.stepGnss s j).kept = s.kept := by simp [State.stepGnss]

@[simp] theorem gnssIndicatorsEff_kept (s : State) : (gnssIndicatorsEff s).kept = s.kept := by simp [gnssIndicatorsEff]

@[simp] theorem spoofHoldEndEff_kept (s : State) : (spoofHoldEndEff s).kept = s.kept := by
  unfold spoofHoldEndEff
  grind [State.modGnss_kept, State.setN_kept]

@[simp] theorem State.gnssBegin_kept (s : State) : (State.gnssBegin s).kept = s.kept := by simp [State.gnssBegin]

@[simp] theorem State.gnssStart_kept (s : State) : (State.gnssStart s).kept = s.kept := by simp [State.gnssStart]

@[simp] theorem State.gnssStop_kept (s : State) : (State.gnssStop s).kept = s.kept := by simp [State.gnssStop]

@[simp] theorem State.commitGnssEnable_kept (s : State) : (State.commitGnssEnable s).kept = s.kept := by simp [State.commitGnssEnable]

@[simp] theorem State.commitGnssSignals_kept (s : State) : (State.commitGnssSignals s).kept = s.kept := by simp [State.commitGnssSignals]

@[simp] theorem State.commitRefSystem_kept (s : State) : (State.commitRefSystem s).kept = s.kept := by simp [State.commitRefSystem]

@[simp] theorem State.commitGnssRestart_kept (s : State) (v : Nat) : (State.commitGnssRestart s v).kept = s.kept := by simp [State.commitGnssRestart]

@[simp] theorem State.aidTime_kept (s : State) (v : Nat) : (State.aidTime s v).kept = s.kept := by simp [State.aidTime]

@[simp] theorem State.groupCoast_kept (s : State) (p : Nat) : (State.groupCoast s p).kept = s.kept := by
  simp only [State.groupCoast]
  split <;> simp

@[simp] theorem State.fenceGroup_kept (s : State) (p : Nat) : (State.fenceGroup s p).1.kept = s.kept := by
  simp only [State.fenceGroup]
  split <;> simp

@[simp] theorem State.groupTakeover_kept (s : State) : (State.groupTakeover s).kept = s.kept := by simp [State.groupTakeover]

@[simp] theorem State.gnssTick_kept (s : State) (gf : List (Byte × Byte)) (rates : Bool) : (State.gnssTick s gf rates).kept = s.kept :=
  by simp [State.gnssTick]

@[simp] theorem State.putOut_kept (s : State) (o : Nat) : (State.putOut s o).kept = s.kept := by simp [State.putOut]

@[simp] theorem State.modOut_kept (s : State) (o : Nat) (f : Output → Output) : (State.modOut s o f).kept = s.kept := by simp [State.modOut]

@[simp] theorem State.gate_kept (s : State) (o : Nat) : (State.gate s o).kept = s.kept := by simp [State.gate]

@[simp] theorem State.gateAll_kept (s : State) (d : Nat) : (State.gateAll s d).kept = s.kept := by simp [State.gateAll]

@[simp] theorem State.misalign_kept (s : State) (d : Nat) : (State.misalign s d).kept = s.kept := by simp [State.misalign]

@[simp] theorem State.tune_kept (s : State) (d : Nat) : (State.tune s d).kept = s.kept := by simp [State.tune]

@[simp] theorem State.tuneQuiet_kept (s : State) (d : Nat) : (State.tuneQuiet s d).kept = s.kept := by simp [State.tuneQuiet]

@[simp] theorem State.askRetune_kept (s : State) (d : Nat) : (State.askRetune s d).kept = s.kept := by simp [State.askRetune]

@[simp] theorem outputGateEff_kept (o : Nat) (s : State) : (outputGateEff o s).kept = s.kept := by simp [outputGateEff]

@[simp] theorem State.endRealign_kept (s : State) (d : Nat) : (State.endRealign s d).kept = s.kept := by simp [State.endRealign]

@[simp] theorem outputReleaseEff_kept (o : Nat) (s : State) : (outputReleaseEff o s).kept = s.kept := by simp [outputReleaseEff]

@[simp] theorem State.commitOutLoad_kept (s : State) (o : Nat) : (State.commitOutLoad s o).kept = s.kept := by simp [State.commitOutLoad]

@[simp] theorem State.commitOutEnable_kept (s : State) (o : Nat) : (State.commitOutEnable s o).kept = s.kept := by simp [State.commitOutEnable]

@[simp] theorem State.commitRealign_kept (s : State) (d : Nat) : (State.commitRealign s d).kept = s.kept := by simp [State.commitRealign]

@[simp] theorem State.stepOutputs_kept (s : State) (j : Int) : (State.stepOutputs s j).kept = s.kept := by simp [State.stepOutputs]

@[simp] theorem dpllAcquireEff_kept (d : Nat) (s : State) : (dpllAcquireEff d s).kept = s.kept := by simp [dpllAcquireEff]

@[simp] theorem dpllLockEff_kept (d : Nat) (s : State) : (dpllLockEff d s).kept = s.kept := by simp [dpllLockEff]

@[simp] theorem dpllRelockTimeoutEff_kept (d : Nat) (s : State) : (dpllRelockTimeoutEff d s).kept = s.kept := by simp [dpllRelockTimeoutEff]

@[simp] theorem dpllUnlockEff_kept (d : Nat) (s : State) : (dpllUnlockEff d s).kept = s.kept := by simp [dpllUnlockEff]

@[simp] theorem dpllFreqChangeEff_kept (d : Nat) (s : State) : (dpllFreqChangeEff d s).kept = s.kept := by simp [dpllFreqChangeEff]

@[simp] theorem dpllHitlessChangeEff_kept (d : Nat) (s : State) : (dpllHitlessChangeEff d s).kept = s.kept := by simp [dpllHitlessChangeEff]

@[simp] theorem dpllSlewDoneEff_kept (d : Nat) (s : State) : (dpllSlewDoneEff d s).kept = s.kept := by simp [dpllSlewDoneEff]

@[simp] theorem dpllRefLossEff_kept (s : State) : (dpllRefLossEff s).kept = s.kept := by simp [dpllRefLossEff]

@[simp] theorem dpllRefReturnEff_kept (s : State) : (dpllRefReturnEff s).kept = s.kept := by simp [dpllRefReturnEff]

@[simp] theorem dcoSpareInEff_kept (s : State) : (dcoSpareInEff s).kept = s.kept := by simp [dcoSpareInEff]

@[simp] theorem State.commitDpllRef_kept (s : State) (d : Nat) : (State.commitDpllRef s d).kept = s.kept := by simp [State.commitDpllRef]

@[simp] theorem State.commitBw_kept (s : State) (d : Nat) : (State.commitBw s d).kept = s.kept := by simp [State.commitBw]

@[simp] theorem State.commitRamp_kept (a : State) (s : State) (d : Nat) : (State.commitRamp a s d).kept = s.kept := by simp [State.commitRamp]

@[simp] theorem State.commitInt2_kept (s : State) (d : Nat) : (State.commitInt2 s d).kept = s.kept := by simp [State.commitInt2]

@[simp] theorem State.modPps_kept (s : State) (m : Nat) (f : PpsOut → PpsOut) : (State.modPps s m f).kept = s.kept := by simp [State.modPps]

@[simp] theorem State.putPps_kept (s : State) (m : Nat) : (State.putPps s m).kept = s.kept := by simp [State.putPps]

@[simp] theorem ppsPulseStartEff_kept (m : Nat) (s : State) : (ppsPulseStartEff m s).kept = s.kept := by simp [ppsPulseStartEff]

@[simp] theorem ppsPulseEndEff_kept (m : Nat) (s : State) : (ppsPulseEndEff m s).kept = s.kept := by simp [ppsPulseEndEff]

@[simp] theorem State.commitPpsSource_kept (s : State) (m : Nat) : (State.commitPpsSource s m).kept = s.kept := by simp [State.commitPpsSource]

@[simp] theorem State.cutUart_kept (s : State) (u : Nat) : (State.cutUart s u).1.kept = s.kept := by simp [State.cutUart]

@[simp] theorem todUartSendEff_kept (u : Nat) (s : State) : (todUartSendEff u s).kept = s.kept := by simp [todUartSendEff]

@[simp] theorem todUartReceiveEff_kept (u : Nat) (b : Bytes) (framing : Bool) (s : State) : (todUartReceiveEff u b framing s).kept = s.kept := by
  simp only [todUartReceiveEff]
  (repeat' split) <;> simp

@[simp] theorem State.modChan_kept (s : State) (c : Nat) (f : TicChan → TicChan) : (State.modChan s c f).kept = s.kept := by simp [State.modChan]

@[simp] theorem State.putInterp_kept (s : State) (c : Nat) : (State.putInterp s c).kept = s.kept := by simp [State.putInterp]

@[simp] theorem State.tableFails_kept (s : State) (c : Nat) (i : Nat) : (State.tableFails s c i).kept = s.kept := by simp [State.tableFails]

@[simp] theorem State.settleQuiet_kept (o : State) (s : State) (c : Nat) : (State.settleQuiet o s c).kept = s.kept := by simp [State.settleQuiet]

@[simp] theorem State.freshQuiet_kept (s : State) (c : Nat) : (State.freshQuiet s c).kept = s.kept := by simp [State.freshQuiet]

@[simp] theorem ticCalTableDoneEff_kept (c : Nat) (i : Nat) (hits : List Nat) (s : State) : (ticCalTableDoneEff c i hits s).kept = s.kept :=
  by simp [ticCalTableDoneEff]

@[simp] theorem State.ticSwap_kept (s : State) : (State.ticSwap s).kept = s.kept := by simp [State.ticSwap]

@[simp] theorem State.fenceInterp_kept (s : State) (c : Nat) (i : Nat) : (State.fenceInterp s c i).kept = s.kept := by simp [State.fenceInterp]

@[simp] theorem State.pushTic_kept (s : State) (c : Nat) (body : Bytes) (kind : Nat) (tail : Bytes) : (State.pushTic s c body kind tail).kept = s.kept :=
  by simp [State.pushTic]

@[simp] theorem State.modDiff_kept (s : State) (d : Nat) (f : TicDiff → TicDiff) : (State.modDiff s d f).kept = s.kept := by simp [State.modDiff]

@[simp] theorem State.pushDiff_kept (s : State) (d : Nat) (stamp : Nat) (units : Int) (winNo : Nat) : (State.pushDiff s d stamp units winNo).kept = s.kept :=
  by simp [State.pushDiff]

@[simp] theorem State.emitFreq_kept (s : State) (w : TicWait) (flags : Nat) : (State.emitFreq s w flags).kept = s.kept := by simp [State.emitFreq]

@[simp] theorem State.emitDiff_kept (s : State) (w : TicWait) (flags : Nat) : (State.emitDiff s w flags).kept = s.kept := by simp [State.emitDiff]

@[simp] theorem State.emitTic_kept (s : State) (w : TicWait) (flags : Nat) : (State.emitTic s w flags).kept = s.kept := by simp [State.emitTic]

@[simp] theorem State.finishTic_kept (s : State) (w : TicWait) : (State.finishTic s w).kept = s.kept := by simp [State.finishTic]

@[simp] theorem State.retryTic_kept (s : State) : (State.retryTic s).kept = s.kept := by simp [State.retryTic]

@[simp] theorem State.closeFreq_kept (o : State) (s : State) (c : Nat) : (State.closeFreq o s c).kept = s.kept := by
  simp only [State.closeFreq]
  split <;> simp

@[simp] theorem State.closeChan_kept (o : State) (s : State) (c : Nat) : (State.closeChan o s c).kept = s.kept := by simp [State.closeChan]

@[simp] theorem State.closeDiff_kept (s : State) (d : Nat) : (State.closeDiff s d).kept = s.kept := by simp [State.closeDiff]

@[simp] theorem State.tryPair_kept (s : State) (d : Nat) : (State.tryPair s d).kept = s.kept := by
  simp only [State.tryPair]
  split <;> simp

@[simp] theorem State.feedDiffs_kept (s : State) (c : Nat) (e : TicEv) : (State.feedDiffs s c e).kept = s.kept := by simp [State.feedDiffs]

@[simp] theorem State.placeAll_kept (s : State) : (State.placeAll s).kept = s.kept := by simp [State.placeAll]

@[simp] theorem State.tiEvent_kept (s : State) (c : Nat) (e : TicEv) (i : Nat) : (State.tiEvent s c e i).kept = s.kept := by simp [State.tiEvent]

@[simp] theorem State.tbEvent_kept (s : State) (e : TicEv) : (State.tbEvent s e).kept = s.kept := by simp [State.tbEvent]

@[simp] theorem State.takeEdge_kept (s : State) (c : Nat) (e : EdgeIn) : (State.takeEdge s c e).1.kept = s.kept := by
  unfold State.takeEdge
  (repeat' split) <;> simp

@[simp] theorem State.tiCandidate_kept (s : State) (c : Nat) : (State.tiCandidate s c).kept = s.kept := by
  unfold State.tiCandidate
  (repeat' split) <;> grind [State.takeEdge_kept, State.modChan_kept, State.tiEvent_kept]

@[simp] theorem State.tiCycle_kept (s : State) : (State.tiCycle s).kept = s.kept := by simp [State.tiCycle]

@[simp] theorem ticEventEff_kept (c : Nat) (e : EdgeIn) (s : State) : (ticEventEff c e s).kept = s.kept := by
  unfold ticEventEff
  (repeat' split) <;> grind [State.modChan_kept, State.takeEdge_kept, State.refFeed_kept, State.tbEvent_kept]

@[simp] theorem refEdgeEff_kept (n : Nat) (e : EdgeIn) (s : State) : (refEdgeEff n e s).kept = s.kept := by
  unfold refEdgeEff
  grind [State.modSlot_kept, State.takeEdge_kept, State.refFeed_kept]

@[simp] theorem State.setGate_kept (s : State) (g : Nat) (b : Bool) : (State.setGate s g b).kept = s.kept := by simp [State.setGate]

@[simp] theorem ticWindowOpenEff_kept (g : Nat) (rise : Bool) (s : State) : (ticWindowOpenEff g rise s).kept = s.kept := by simp [ticWindowOpenEff]

@[simp] theorem State.closeGate_kept (s : State) (g : Nat) : (State.closeGate s g).kept = s.kept := by simp [State.closeGate]

@[simp] theorem ticWindowCloseEff_kept (g : Nat) (rise : Bool) (s : State) : (ticWindowCloseEff g rise s).kept = s.kept := by simp [ticWindowCloseEff]

@[simp] theorem State.stepTic_kept (s : State) : (State.stepTic s).kept = s.kept := by simp [State.stepTic]

@[simp] theorem State.commitChan_kept (o : State) (s : State) (c : Nat) : (State.commitChan o s c).kept = s.kept := by simp [State.commitChan]

@[simp] theorem State.commitTic_kept (o : State) (s : State) : (State.commitTic o s).kept = s.kept := by simp [State.commitTic]

@[simp] theorem diffOverflowEff_kept (d : Nat) (s : State) : (diffOverflowEff d s).kept = s.kept := by
  simp only [diffOverflowEff]
  split <;> simp

@[simp] theorem tbInLossEff_kept (s : State) : (tbInLossEff s).kept = s.kept := by simp [tbInLossEff]

@[simp] theorem tbInReturnEff_kept (s : State) : (tbInReturnEff s).kept = s.kept := by simp [tbInReturnEff]

@[simp] theorem State.tbBoundary_kept (s : State) : (State.tbBoundary s).kept = s.kept := by simp [State.tbBoundary]

@[simp] theorem State.tbSecond_kept (s : State) : (State.tbSecond s).kept = s.kept := by
  simp only [State.tbSecond]
  split <;> simp

@[simp] theorem ticPopEff_kept (c : Nat) (s : State) : (ticPopEff c s).kept = s.kept := by simp [ticPopEff]

@[simp] theorem ticDiffPopEff_kept (d : Nat) (s : State) : (ticDiffPopEff d s).kept = s.kept := by simp [ticDiffPopEff]

@[simp] theorem State.putPins_kept (s : State) : (State.putPins s).kept = s.kept := by simp [State.putPins]

@[simp] theorem State.modBoot_kept (s : State) (f : Boot → Boot) : (State.modBoot s f).kept = s.kept := by simp [State.modBoot]

@[simp] theorem State.writeBankRec_kept (s : State) (bank : Nat) (state : Nat) (len : Nat) (version : Nat) (digest : Bytes) : (State.writeBankRec s bank state len version digest).kept = s.kept :=
  by simp [State.writeBankRec]

@[simp] theorem State.setAon_kept (s : State) (v : Nat) : (State.setAon s v).kept = s.kept := by simp [State.setAon]

@[simp] theorem State.modWin_kept (s : State) (f : Winnow → Winnow) : (State.modWin s f).kept = s.kept := by simp [State.modWin]

@[simp] theorem State.correctedError_kept (s : State) (b : Nat) (i : FaultInfo) : (State.correctedError s b i).kept = s.kept :=
  by simp [State.correctedError]

@[simp] theorem faultRaiseEff_kept (x : Nat) (i : FaultInfo) (s : State) : (faultRaiseEff x i s).kept = s.kept := by simp [faultRaiseEff]

@[simp] theorem sourceActiveExpireEff_kept (x : Nat) (s : State) : (sourceActiveExpireEff x s).kept = s.kept := by simp [sourceActiveExpireEff]

@[simp] theorem State.fenceDrops_kept (s : State) (n : Nat) : (State.fenceDrops s n).kept = s.kept := by simp [State.fenceDrops]

@[simp] theorem State.dropJobs_kept (s : State) (sel : FlailJob → Bool) : (s.dropJobs sel).kept = s.kept := by
  simp only [State.dropJobs, State.fenceDrops_kept, State.kept_mk, State.kept_eta]
  exact State.each_kept (fun s j => by split <;> simp) _ s

@[simp] theorem State.redoJobs_kept (s : State) (sha : Bool) (old : Nat) (new : Nat) : (State.redoJobs s sha old new).kept = s.kept :=
  by simp [State.redoJobs]

@[simp] theorem State.degrade_kept (s : State) (bit : Nat) : (State.degrade s bit).kept = s.kept := by simp [State.degrade]

@[simp] theorem State.fenceThresher_kept (s : State) (t : Nat) : (State.fenceThresher s t).1.kept = s.kept := by
  simp only [State.fenceThresher]
  split <;> simp

@[simp] theorem State.fencePipe_kept (s : State) (sha : Bool) (p : Nat) : (State.fencePipe s sha p).1.kept = s.kept := by
  simp only [State.fencePipe]
  (repeat' split) <;> simp

@[simp] theorem State.haltRole_kept (s : State) (r : Nat) : (State.haltRole s r).kept = s.kept := by simp [State.haltRole]

@[simp] theorem State.flip_kept (s : State) : (State.flip s).1.kept = s.kept := by simp [State.flip]

@[simp] theorem State.loseBuffers_kept (s : State) (b : Nat) : (s.loseBuffers b).kept = s.kept := by
  unfold State.loseBuffers
  split
  · exact State.each_kept (fun s f => by split; next h => rw [State.fst_eq h]; split <;> simp) _ s
  · refine State.each_kept (fun s p => State.each_kept (fun s f => ?_) _ s) _ s
    split
    next h =>
    rw [State.fst_eq h]
    split
    · simp
    · simp only; split <;> simp

@[simp] theorem State.loseRegion_kept (s : State) (b : Nat) : (State.loseRegion s b).kept = s.kept := by simp [State.loseRegion]

@[simp] theorem State.retireBank_kept (s : State) (b : Nat) : (State.retireBank s b).1.kept = s.kept := by simp [State.retireBank]

@[simp] theorem State.checkpoint_kept (s : State) (r : Nat) : (State.checkpoint s r).kept = s.kept := by
  unfold State.checkpoint
  split <;> simp

@[simp] theorem State.resumeSa_kept (s : State) : (State.resumeSa s).kept = s.kept := by simp [State.resumeSa]

@[simp] theorem State.resumeChans_kept (s : State) (c : SbCheck) : (State.resumeChans s c).kept = s.kept := by simp [State.resumeChans]

@[simp] theorem State.resumeSb_kept (s : State) : (State.resumeSb s).kept = s.kept := by simp [State.resumeSb]

@[simp] theorem State.roleBack_kept (s : State) (p : Nat) (r : Nat) : (State.roleBack s p r).kept = s.kept := by simp [State.roleBack]

@[simp] theorem State.fencePair_kept (s : State) (p : Nat) : (State.fencePair s p).1.kept = s.kept := by simp [State.fencePair]

@[simp] theorem State.installStop_kept (s : State) : (State.installStop s).kept = s.kept := by simp [State.installStop]

@[simp] theorem State.fenceUnit_kept (s : State) (x : Nat) : (State.fenceUnit s x).1.kept = s.kept := by
  simp only [State.fenceUnit]
  split <;> simp

@[simp] theorem State.dropPieces_kept (s : State) (t : Nat) : (State.dropPieces s t).kept = s.kept := by simp [State.dropPieces]

@[simp] theorem State.dropStore_kept (s : State) : (State.dropStore s).kept = s.kept := by
  simp only [State.dropStore]
  split <;> simp

@[simp] theorem State.blockReset_kept (s : State) (x : Nat) : (State.blockReset s x).kept = s.kept := by
  simp only [State.blockReset]
  split <;> simp

@[simp] theorem State.completeFence_kept (s : State) (x : Nat) : (State.completeFence s x).kept = s.kept := by simp [State.completeFence]

@[simp] theorem fenceCompleteEff_kept (x : Nat) (s : State) : (fenceCompleteEff x s).kept = s.kept := by simp [fenceCompleteEff]

@[simp] theorem State.isolate_kept (s : State) (x : Nat) : (State.isolate s x).kept = s.kept := by simp [State.isolate]

@[simp] theorem State.nmi_kept (s : State) (x : Nat) : (State.nmi s x).kept = s.kept := by
  simp only [State.nmi]
  split <;> simp

@[simp] theorem State.freezeBy_kept (s : State) (lead : Option (Nat × FaultInfo)) : (State.freezeBy s lead).kept = s.kept := by
  simp only [State.freezeBy]
  split <;> simp

@[simp] theorem handlingEndEff_kept (s : State) : (handlingEndEff s).kept = s.kept := by simp [handlingEndEff]

@[simp] theorem State.spareTakeover_kept (s : State) : s.spareTakeover.kept = s.kept := by
  unfold State.spareTakeover
  extract_lets s₁ s₂ banks s₃ s₄ groups s₅
  have h₁ : s₁.kept = s.kept := State.each_kept (fun s k => by split <;> simp) _ s
  clear_value s₁
  have h₄ : s₄.kept = s.kept := by simp only [s₄, s₃, s₂]; split <;> simp [h₁]
  clear_value s₄
  split <;> simp [s₅, h₄]

@[simp] theorem State.pairReturn_kept (s : State) (p : Nat) : (State.pairReturn s p).kept = s.kept := by simp [State.pairReturn]

@[simp] theorem State.roleTakeover_kept (s : State) : s.roleTakeover.kept = s.kept := by
  unfold State.roleTakeover
  extract_lets st s₁ s₂
  have h₁ : s₁.kept = s.kept := by
    simp only [s₁]
    split
    · split <;> simp
    · simp
    · rfl
  clear_value s₁
  have h₂ : s₂.kept = s.kept := (State.each_kept (fun s r => by (repeat' split) <;> simp) _ _).trans h₁
  clear_value s₂
  simp [h₂]

@[simp] theorem State.putDegraded_kept (s : State) : (State.putDegraded s).kept = s.kept := by simp [State.putDegraded]

@[simp] theorem State.fencesDue_kept (s : State) : (State.fencesDue s).kept = s.kept := by simp [State.fencesDue]

@[simp] theorem State.conditionReraise_kept (s : State) : (State.conditionReraise s).kept = s.kept := by simp [State.conditionReraise]

@[simp] theorem State.faultAliveUpdate_kept (s : State) : (State.faultAliveUpdate s).kept = s.kept := by simp [State.faultAliveUpdate]

@[simp] theorem State.winTick_kept (s : State) : (State.winTick s).kept = s.kept := by simp [State.winTick]

@[simp] theorem pairReloadDoneEff_kept (p : Nat) (ok : Bool) (s : State) : (pairReloadDoneEff p ok s).kept = s.kept := by simp [pairReloadDoneEff]

@[simp] theorem heartbeatWriteEff_kept (s : State) : (heartbeatWriteEff s).kept = s.kept := by simp [heartbeatWriteEff]

@[simp] theorem reeveHeartbeatEff_kept (s : State) : (reeveHeartbeatEff s).kept = s.kept := by simp [reeveHeartbeatEff]

@[simp] theorem State.commitWinClear_kept (s : State) (v : Nat) : (State.commitWinClear s v).kept = s.kept := by simp [State.commitWinClear]

@[simp] theorem State.commitPinClear_kept (s : State) : (State.commitPinClear s).kept = s.kept := by simp [State.commitPinClear]

@[simp] theorem State.intNext_kept (s : State) : (State.intNext s).1.kept = s.kept := by
  simp only [State.intNext]
  split <;> simp

@[simp] theorem winIntNextEff_kept (s : State) : (winIntNextEff s).kept = s.kept := by simp [winIntNextEff]

@[simp] theorem State.modElec_kept (s : State) (f : Elec → Elec) : (State.modElec s f).kept = s.kept := by simp [State.modElec]

@[simp] theorem railMonitorEff_kept (v : List Nat) (s : State) : (railMonitorEff v s).kept = s.kept := by simp [railMonitorEff]

@[simp] theorem State.railTick_kept (s : State) : (State.railTick s).kept = s.kept := by simp [State.railTick]

@[simp] theorem xoFaultEff_kept (hz : Nat) (s : State) : (xoFaultEff hz s).kept = s.kept := by
  simp only [xoFaultEff]
  (repeat' split) <;> simp

@[simp] theorem xoInReturnEff_kept (hz : Nat) (s : State) : (xoInReturnEff hz s).kept = s.kept := by simp [xoInReturnEff]

@[simp] theorem dieTempSampleEff_kept (t : List Int) (s : State) : (dieTempSampleEff t s).kept = s.kept := by
  unfold dieTempSampleEff
  split
  · rfl
  · extract_lets s₁ s₂
    have h₁ : s₁.kept = s.kept := State.each_kept (fun s n => by
      split
      · rfl
      · simp only; split <;> simp) _ s
    clear_value s₁
    have h₂ : s₂.kept = s.kept := by simp [s₂, h₁]
    clear_value s₂
    split <;> simp [h₂]

@[simp] theorem State.putLedger_kept (s : State) : (State.putLedger s).kept = s.kept := by simp [State.putLedger]

@[simp] theorem State.logLedger_kept (s : State) : (State.logLedger s).kept = s.kept := by simp [State.logLedger]

@[simp] theorem State.newHandle_kept (s : State) (r : HandleRec) : (State.newHandle s r).1.kept = s.kept := by simp [State.newHandle]

@[simp] theorem State.setHandle_kept (s : State) (h : Nat) (f : HandleRec → HandleRec) : (State.setHandle s h f).kept = s.kept :=
  by simp [State.setHandle]

@[simp] theorem State.endHandle_kept (s : State) (h : Nat) (status : Nat) : (State.endHandle s h status).kept = s.kept := by simp [State.endHandle]

@[simp] theorem State.putJournal_kept (s : State) (j : Journal) : (State.putJournal s j).kept = s.kept := by simp [State.putJournal]

@[simp] theorem State.appendUnit_kept (s : State) (u : Nat) (data : Bytes) : (State.appendUnit s u data).kept = s.kept := by simp [State.appendUnit]

@[simp] theorem gnssStoreRecordEff_kept (s : State) : (gnssStoreRecordEff s).kept = s.kept := by simp [gnssStoreRecordEff]

@[simp] theorem State.dropGnssRecord_kept (s : State) : (State.dropGnssRecord s).kept = s.kept := by simp [State.dropGnssRecord]

@[simp] theorem State.captureEntries_kept (s : State) : s.captureEntries.1.kept = s.kept := by
  unfold State.captureEntries
  refine State.foldl_fst_kept (fun a r => State.foldl_fst_kept (fun a e => ?_) _ _) _ _
  obtain ⟨s, out⟩ := a
  simp only
  split
  · rfl
  · dsimp only
    cases r.isKey <;> simp

@[simp] theorem State.storeFail_kept (s : State) (h : Nat) : (State.storeFail s h).kept = s.kept := by simp [State.storeFail]

/-- The captured entries are made opaque first, so that no check of this proof runs the capture. -/
@[simp] theorem State.captureStore_kept (s : State) : s.captureStore.kept = s.kept := by
  have h := s.captureEntries_kept
  unfold State.captureStore
  generalize s.captureEntries = r at h ⊢
  obtain ⟨u, es⟩ := r
  cases s.gran.store with
  | some j => rfl
  | none =>
    cases s.gran.storeNext with
    | none => rfl
    | some j =>
      dsimp only
      rw [State.kept_ite, State.storeFail_kept, State.setHandle_kept, State.setN_kept, State.setHandle_kept, ite_self]
      exact h

@[simp] theorem State.writeStore_kept (s : State) (j : StoreJob) : (State.writeStore s j).kept = s.kept := by simp [State.writeStore]

@[simp] theorem State.breakStore_kept (s : State) (j : StoreJob) : (State.breakStore s j).kept = s.kept := by simp [State.breakStore]

theorem State.kept_gran (s : State) (g : Granary) : ({ s with gran := g } : State).kept = s.kept := rfl

/-- The records written are never unfolded: each rewriting stops at the name of its operation. -/
@[simp] theorem storeCompleteEff_kept (ok : Bool) (s : State) : (storeCompleteEff ok s).kept = s.kept := by
  unfold storeCompleteEff
  cases s.gran.store with
  | none => rfl
  | some j =>
    dsimp only
    rw [State.kept_ite, State.kept_ite, State.kept_ite, State.putLedger_kept, State.modBoot_kept, ite_self, State.endHandle_kept,
      State.setN_kept, State.kept_gran (s.writeStore j), State.writeStore_kept, State.raise_kept, State.storeFail_kept,
      State.breakStore_kept, ite_self, ite_self]

@[simp] theorem State.modAge_kept (s : State) (k : Nat) (f : AgeInst → AgeInst) : (State.modAge s k f).kept = s.kept := by simp [State.modAge]

@[simp] theorem State.ageValue_kept (s : State) (cls : Nat) (n : Nat) (v : Nat) : (State.ageValue s cls n v).kept = s.kept := by
  unfold State.ageValue
  (repeat' split) <;> simp

@[simp] theorem State.keepAges_kept (s : State) : (State.keepAges s).kept = s.kept := by simp [State.keepAges]

@[simp] theorem State.eyeHour_kept (s : State) (l : Nat) : (State.eyeHour s l).kept = s.kept := by simp [State.eyeHour]

@[simp] theorem ageSampleEff_kept (a : AgeIn) (s : State) : (ageSampleEff a s).kept = s.kept := by simp [ageSampleEff]

@[simp] theorem State.ageWarn_kept (s : State) (k : Nat) (p : Nat) : (State.ageWarn s k p).kept = s.kept := by simp [State.ageWarn]

@[simp] theorem ageFitEff_kept (s : State) : (ageFitEff s).kept = s.kept := by
  unfold ageFitEff
  split
  · rfl
  · refine (State.each_kept (fun _ _ => State.ageWarn_kept _ _ _) _ _).trans ?_
    rw [State.setN_kept, State.setN_kept]
    exact State.each_kept (fun s e => by simp only; split <;> simp) _ s

@[simp] theorem State.plannedSwaps_kept (s : State) : (State.plannedSwaps s).kept = s.kept := by simp [State.plannedSwaps]

@[simp] theorem State.modInst_kept (s : State) (f : Install → Install) : (State.modInst s f).kept = s.kept := by simp [State.modInst]

@[simp] theorem State.instStep_kept (s : State) (k : Nat) : (State.instStep s k).kept = s.kept := by simp [State.instStep]

@[simp] theorem State.commitInstBegin_kept (s : State) (v : Bytes) : (State.commitInstBegin s v).kept = s.kept := by simp [State.commitInstBegin]

@[simp] theorem State.writeChunk_kept (s : State) (v : Bytes) : (State.writeChunk s v).1.kept = s.kept := by simp [State.writeChunk]

@[simp] theorem State.instBad_kept (s : State) (code : Nat) : (State.instBad s code).kept = s.kept := by simp [State.instBad]

@[simp] theorem State.instFail_kept (s : State) (code : Nat) : (State.instFail s code).kept = s.kept := by simp [State.instFail]

@[simp] theorem State.commitInstFinish_kept (s : State) : (State.commitInstFinish s).kept = s.kept := by simp [State.commitInstFinish]

@[simp] theorem State.commitInstAbort_kept (s : State) : (State.commitInstAbort s).kept = s.kept := by simp [State.commitInstAbort]

@[simp] theorem stewardLoadDoneEff_kept (p : Nat) (s : State) : (stewardLoadDoneEff p s).kept = s.kept := by simp [stewardLoadDoneEff]

@[simp] theorem State.moveRole_kept (s : State) (p : Nat) : (State.moveRole s p).kept = s.kept := by
  simp only [State.moveRole]
  split <;> simp

@[simp] theorem State.rotatePairs_kept (s : State) : (State.rotatePairs s).kept = s.kept := by
  simp only [State.rotatePairs]
  (repeat' split) <;> simp

@[simp] theorem State.loadThresher_kept (s : State) (t : Nat) : (State.loadThresher s t).kept = s.kept := by simp [State.loadThresher]

@[simp] theorem State.threshersLoad_kept (s : State) : s.threshersLoad.kept = s.kept := by
  unfold State.threshersLoad
  extract_lets s₁ s₂
  have h₂ : s₂.kept = s.kept := by simp [s₂, s₁]
  clear_value s₂
  refine (State.each_kept (fun s e => ?_) _ _).trans h₂
  simp only
  split <;> simp

@[simp] theorem State.rotateBegin_kept (s : State) : (State.rotateBegin s).kept = s.kept := by simp [State.rotateBegin]

@[simp] theorem thresherRotateEff_kept (s : State) : (thresherRotateEff s).kept = s.kept := by
  unfold thresherRotateEff
  (repeat' split) <;> simp

@[simp] theorem State.putWindows_kept (s : State) (w : List (Nat × Bytes)) : (State.putWindows s w).kept = s.kept := by simp [State.putWindows]

@[simp] theorem State.installTick_kept (s : State) : s.installTick.kept = s.kept := by
  unfold State.installTick
  extract_lets s₁ s₂ s₃ s₄
  have h₁ : s₁.kept = s.kept := by simp [s₁]
  clear_value s₁
  have h₂ : s₂.kept = s.kept := by simp only [s₂]; (repeat' split) <;> simp [h₁]
  clear_value s₂
  have h₃ : s₃.kept = s.kept := by simp only [s₃]; (repeat' split) <;> simp [h₂]
  clear_value s₃
  have h₄ : s₄.kept = s.kept := by simp only [s₄]; split <;> simp [h₃]
  clear_value s₄
  cases s₄.boot.install.verAt with
  | none => exact h₄
  | some b =>
    rw [← h₄]
    dsimp only
    split <;> rfl

@[simp] theorem reeveSwitchEff_kept (s : State) : (reeveSwitchEff s).kept = s.kept := by simp [reeveSwitchEff]

@[simp] theorem State.commitSecver_kept (s : State) : (State.commitSecver s).kept = s.kept := by simp [State.commitSecver]

@[simp] theorem State.withWrites_kept (s : State) (es : List (ObjRef × Val)) : (s.withWrites es).kept = s.kept := by
  unfold State.withWrites
  extract_lets plain written last s₁ s₂ s₃
  have h₁ : s₁.kept = s.kept := State.each_kept (fun t i => by
    split
    · split
      · rfl
      · simp only
        rw [State.each_kept, State.each_kept]
        · intro t r; split <;> simp
        · intro t c; split <;> simp
    · rfl) _ s
  clear_value s₁
  have h₂ : s₂.kept = s.kept := by
    simp only [s₂]
    split
    · split
      · exact h₁
      · rw [State.each_kept, h₁]
        intro t r; split <;> simp
    · exact h₁
  clear_value s₂
  have h₃ : s₃.kept = s.kept := (State.each_kept (fun s e => s.setCfg_kept _ _ _ _) _ _).trans h₂
  clear_value s₃
  split
  · rw [State.each_kept (fun t r => t.setCfg_kept _ _ _ _), h₃]
  · exact h₃

@[simp] theorem State.modGran_kept (s : State) (f : Granary → Granary) : (State.modGran s f).kept = s.kept := by simp [State.modGran]

@[simp] theorem State.putSets_kept (s : State) (cs : List CommitSet) : (State.putSets s cs).kept = s.kept := by simp [State.putSets]

@[simp] theorem State.putItem_kept (s : State) (k : Nat) (it : Staged) : (State.putItem s k it).kept = s.kept := by simp [State.putItem]

@[simp] theorem State.defaultCfg_kept (s : State) : (State.defaultCfg s).kept = s.kept := by simp [State.defaultCfg]

@[simp] theorem State.afterSet_kept (s : State) (c : CommitSet) : (State.afterSet s c).kept = s.kept := by simp [State.afterSet]

@[simp] theorem State.projected_kept (s : State) (k : Nat) (es : List (ObjRef × Val)) : (s.projected k es).kept = s.kept :=
  (State.withWrites_kept _ es).trans (State.foldl_kept (fun s c => s.afterSet_kept c) _ s)

@[simp] theorem State.refuse_kept (s : State) (st : Nat) (index : Nat) (sub : Nat) : (State.refuse s st index sub).1.kept = s.kept :=
  by simp [State.refuse]

@[simp] theorem State.stageItem_kept (s : State) (bundle : Bool) (level : Nat) (path : Nat) (es : List WriteEntry) (k : Nat) (moved : Bool) : (State.stageItem s bundle level path es k moved).1.kept = s.kept :=
  by simp [State.stageItem]

@[simp] theorem State.stageChecked_kept (s : State) (bundle : Bool) (level : Nat) (path : Nat) (es : List WriteEntry) (os : List (ObjRef × Val)) : (State.stageChecked s bundle level path es os).1.kept = s.kept := by
  simp only [State.stageChecked]
  split <;> simp

@[simp] theorem State.immediate_kept (s : State) (path : Nat) (o : ObjRef) (v : Val) : (State.immediate s path o v).1.kept = s.kept :=
  by simp [State.immediate]

@[simp] theorem State.stageWrite_kept (s : State) (level : Nat) (path : Nat) (e : WriteEntry) : (State.stageWrite s level path e).1.kept = s.kept := by
  simp only [State.stageWrite]
  (repeat' split) <;> simp

@[simp] theorem State.stageBundle_kept (s : State) (level : Nat) (path : Nat) (es : List WriteEntry) : (State.stageBundle s level path es).1.kept = s.kept := by
  unfold State.stageBundle
  (repeat' split) <;> simp

@[simp] theorem State.stageRestore_kept (s : State) : (State.stageRestore s).1.kept = s.kept := by simp [State.stageRestore]

@[simp] theorem State.stageStore_kept (s : State) : (State.stageStore s).1.kept = s.kept := by
  simp only [State.stageStore]
  split <;> simp

@[simp] theorem State.titheCount_kept (s : State) (i : TitheIn) : (State.titheCount s i).kept = s.kept := by simp [State.titheCount]

@[simp] theorem State.titheLatch_kept (s : State) : (State.titheLatch s).kept = s.kept := by simp [State.titheLatch]

@[simp] theorem State.titheTick_kept (s : State) (ins : List TitheIn) (resume : Bool) : (State.titheTick s ins resume).1.kept = s.kept :=
  by simp [State.titheTick]

@[simp] theorem State.titheName_kept (s : State) (latched : Bool) : (State.titheName s latched).kept = s.kept := by simp [State.titheName]

@[simp] theorem State.commitFreeze_kept (s : State) (v : Nat) : (State.commitFreeze s v).kept = s.kept := by simp [State.commitFreeze]

@[simp] theorem State.commitEvent_kept (s : State) (b : Nat) (e : Nat) : (State.commitEvent s b e).kept = s.kept := by simp [State.commitEvent]

@[simp] theorem State.commitTitheClear_kept (s : State) (b : Nat) : (State.commitTitheClear s b).kept = s.kept := by simp [State.commitTitheClear]

@[simp] theorem State.beginDrain_kept (s : State) (cls : Nat) (el : Nat) : (State.beginDrain s cls el).kept = s.kept := by simp [State.beginDrain]

@[simp] theorem State.drainJobs_kept (s : State) (cls : Nat) (sel : FlailJob → Bool) : (s.drainJobs cls sel).kept = s.kept := by
  simp only [State.drainJobs, State.drained_kept, State.kept_mk, State.kept_eta]
  exact State.each_kept (fun s j => by split <;> simp) _ s

@[simp] theorem State.drainFrames_kept (s : State) (cls : Nat) (sel : RxFrame → Bool) : (State.drainFrames s cls sel).kept = s.kept :=
  by simp [State.drainFrames]

@[simp] theorem State.endDrain_kept (s : State) (d : Nat × Nat × Nat) : (State.endDrain s d).kept = s.kept := by simp [State.endDrain]

@[simp] theorem drainEndEff_kept (s : State) : (drainEndEff s).kept = s.kept := by simp [drainEndEff]

@[simp] theorem State.ntsSlots_kept (s : State) : (State.ntsSlots s).kept = s.kept := by simp [State.ntsSlots]

@[simp] theorem State.ptpSlots_kept (s : State) : (State.ptpSlots s).kept = s.kept := by simp [State.ptpSlots]

@[simp] theorem State.putAttonKey_kept (s : State) (l : Nat) (key : Bytes) : (State.putAttonKey s l key).kept = s.kept := by simp [State.putAttonKey]

@[simp] theorem State.servedChange_kept (a : State) (s : State) (p : Nat) (i : Nat) : (State.servedChange a s p i).kept = s.kept :=
  by simp [State.servedChange]

@[simp] theorem State.ticOff_kept (s : State) (u : Nat) : (State.ticOff s u).kept = s.kept := by simp [State.ticOff]

@[simp] theorem State.ptpChange_kept (s : State) (o : ObjRef) : (State.ptpChange s o).kept = s.kept := by simp [State.ptpChange]

@[simp] theorem State.changed_kept (a : State) (s : State) (o : ObjRef) : (State.changed a s o).kept = s.kept := by simp [State.changed]

@[simp] theorem State.assocReset_kept (s : State) : (State.assocReset s).kept = s.kept := by simp [State.assocReset]

@[simp] theorem State.applyChanges_kept (a : State) (s : State) (written : List Nat) : (State.applyChanges a s written).kept = s.kept :=
  by simp [State.applyChanges]

@[simp] theorem State.commitRestore_kept (s : State) (h : Nat) : (State.commitRestore s h).1.kept = s.kept := by simp [State.commitRestore]

@[simp] theorem State.stampHandles_kept (s : State) (hs : List Nat) : (State.stampHandles s hs).kept = s.kept := by simp [State.stampHandles]

@[simp] theorem State.clearRc_kept (s : State) (o : ObjRef) : (State.clearRc s o).kept = s.kept := by simp [State.clearRc]

@[simp] theorem State.readObj_kept (s : State) (path : Nat) (o : ObjRef) : (State.readObj s path o).1.kept = s.kept := by simp [State.readObj]

@[simp] theorem State.readEntry_kept (s : State) (level : Nat) (path : Nat) (index : Nat) (sub : Nat) : (State.readEntry s level path index sub).1.kept = s.kept := by
  simp only [State.readEntry]
  split <;> simp

@[simp] theorem State.readEntries_kept (level path room : Nat) (es : List (Nat × Nat)) (s : State) :
    (State.readEntries level path room es s).1.kept = s.kept := by
  induction es generalizing room s with
  | nil => rfl
  | cons e es ih =>
    unfold State.readEntries
    refine (ih _ _).trans ?_
    split <;> simp

@[simp] theorem State.internalRead_kept (s : State) (k : Nat) : (State.internalRead s k).kept = s.kept := by
  simp only [State.internalRead]
  split <;> simp

@[simp] theorem counterReadClearEff_kept (index : Nat) (sub : Nat) (s : State) : (counterReadClearEff index sub s).kept = s.kept :=
  by simp [counterReadClearEff]

@[simp] theorem refHistoryReadEff_kept (n : Nat) (s : State) : (refHistoryReadEff n s).kept = s.kept := by simp [refHistoryReadEff]

@[simp] theorem State.noteOut_kept (s : State) (b : Back) (msg : Bytes) : (State.noteOut s b msg).kept = s.kept := by simp [State.noteOut]

theorem State.attonOut_kept {s t : State} {b : Back} {msg : Bytes} (h : s.attonOut b msg = some t) : t.kept = s.kept := by
  unfold State.attonOut at h
  split at h
  · rw [← Option.some.inj h]; simp
  · split at h
    · rw [← Option.some.inj h]; simp
    · obtain ⟨u, hu, rfl⟩ := Option.map_eq_some_iff.mp h
      simp [State.enqueue_kept hu]

@[simp] theorem State.attonPop_kept (s : State) (m : AttonMsg) : (State.attonPop s m).kept = s.kept := by simp [State.attonPop]

@[simp] theorem State.attonAnswer_kept (s : State) (m : AttonMsg) (status : Nat) (body : Bytes) : (s.attonAnswer m status body).kept = s.kept :=
  State.getD_kept (fun _ => State.attonOut_kept) rfl

@[simp] theorem State.putAssoc_kept (s : State) (n : Nat) (a : Assoc) : (State.putAssoc s n a).kept = s.kept := by simp [State.putAssoc]

@[simp] theorem State.recvSpi_kept (s : State) (m : AttonMsg) : (State.recvSpi s m).1.kept = s.kept := by
  unfold State.recvSpi
  (repeat' split) <;> simp

@[simp] theorem State.recvAssoc_kept (s : State) (m : AttonMsg) : (State.recvAssoc s m).1.kept = s.kept := by
  unfold State.recvAssoc
  (repeat' split) <;> simp

@[simp] theorem State.opRead_kept (s : State) (m : AttonMsg) (path : Nat) : (State.opRead s m path).1.kept = s.kept := by
  simp only [State.opRead]
  split <;> simp

@[simp] theorem State.opStatus_kept (s : State) (m : AttonMsg) (_path : Nat) : (State.opStatus s m _path).1.kept = s.kept := by
  unfold State.opStatus
  (repeat' split) <;> simp

@[simp] theorem State.subscribe_kept (s : State) (m : AttonMsg) (path : Nat) (id : Nat) (period : Nat) (life : Nat) (es : List (Nat × Nat)) : (State.subscribe s m path id period life es).1.kept = s.kept :=
  by simp [State.subscribe]

@[simp] theorem State.opSubscribe_kept (s : State) (m : AttonMsg) (path : Nat) : (State.opSubscribe s m path).1.kept = s.kept := by
  simp only [State.opSubscribe]
  (repeat' split) <;> simp

@[simp] theorem State.opStore_kept (s : State) (m : AttonMsg) (_path : Nat) : (State.opStore s m _path).1.kept = s.kept := by simp [State.opStore]

@[simp] theorem State.opRestore_kept (s : State) (m : AttonMsg) (_path : Nat) : (State.opRestore s m _path).1.kept = s.kept :=
  by simp [State.opRestore]

@[simp] theorem State.attonChecks_kept (s : State) (m : AttonMsg) : (State.attonChecks s m).1.kept = s.kept := by
  simp only [State.attonChecks]
  split <;> simp

/-- The agent's command leaves alone what the operation it carries out leaves alone. -/
theorem State.attonServe_kept (op : Nat) {f : State → AttonMsg → Nat → State × Nat × Bytes} (hf : ∀ s m p, (f s m p).1.kept = s.kept)
    (s : State) : (State.attonServe op f s).kept = s.kept := by
  unfold State.attonServe
  split
  · rfl
  · next m _ =>
    split
    · rfl
    · split
      · simp
      · split
        · rfl
        · have hc := s.attonChecks_kept m
          split
          next hr =>
          rw [hr] at hc
          split
          · simpa using hc
          · simpa using hc
          · split
            · simpa using hc
            · split
              · simpa using hc
              · simp only [State.attonAnswer_kept, hf, State.attonPop_kept]; exact hc

@[simp] theorem readEff_kept (s : State) : (readEff s).kept = s.kept :=
  State.attonServe_kept _ State.opRead_kept s

@[simp] theorem commitStatusEff_kept (s : State) : (commitStatusEff s).kept = s.kept :=
  State.attonServe_kept _ State.opStatus_kept s

@[simp] theorem subscribeEff_kept (s : State) : (subscribeEff s).kept = s.kept :=
  State.attonServe_kept _ State.opSubscribe_kept s

@[simp] theorem storeEff_kept (s : State) : (storeEff s).kept = s.kept :=
  State.attonServe_kept _ State.opStore_kept s

@[simp] theorem restoreDefaultsEff_kept (s : State) : (restoreDefaultsEff s).kept = s.kept :=
  State.attonServe_kept _ State.opRestore_kept s

@[simp] theorem State.keepReturn_kept (s : State) (r : RetRec) : (State.keepReturn s r).kept = s.kept := by simp [State.keepReturn]

@[simp] theorem attonForwardEff_kept (s : State) : (attonForwardEff s).kept = s.kept := by
  simp only [attonForwardEff]
  split <;> simp

@[simp] theorem returnRecordExpireEff_kept (s : State) : (returnRecordExpireEff s).kept = s.kept := by simp [returnRecordExpireEff]

@[simp] theorem State.queueNotify_kept (s : State) (path : Nat) (msg : Bytes) : (State.queueNotify s path msg).kept = s.kept := by
  unfold State.queueNotify
  (repeat' split) <;> simp

@[simp] theorem State.attonDeliver_kept (s : State) (src : Nat) (msg : Bytes) : (s.attonDeliver src msg).kept = s.kept := by
  unfold State.attonDeliver
  split
  · simp only
    split
    · split
      · simp
      · rw [State.getD_kept (fun _ => State.attonOut_kept) rfl, State.keepReturn_kept]
    · simp
  · split <;> simp

@[simp] theorem State.attonSegment_kept (s : State) (src : Nat) (ident : Nat) (flags : Nat) (seg : Bytes) : (State.attonSegment s src ident flags seg).kept = s.kept := by
  simp only [State.attonSegment]
  split <;> simp

@[simp] theorem tunnelEff_kept (l : Nat) (m : CremIn) (s : State) : (tunnelEff l m s).kept = s.kept := by simp [tunnelEff]

@[simp] theorem State.nextOut_kept (s : State) (path : Nat) : (State.nextOut s path).1.kept = s.kept := by
  unfold State.nextOut
  (repeat' split) <;> simp

@[simp] theorem State.report_kept (s : State) (u : Sub) : (State.report s u).kept = s.kept := by simp [State.report]

@[simp] theorem State.flushNotify_kept (n fuel : Nat) (s : State) : (State.flushNotify n fuel s).kept = s.kept := by
  induction fuel generalizing s with
  | zero => rfl
  | succ fuel ih =>
    unfold State.flushNotify
    split
    · split
      · rfl
      · split
        · next h => rw [ih, State.putAssoc_kept, State.attonOut_kept h]
        · rfl
    · rfl

@[simp] theorem State.flushDraining_kept (fuel : Nat) (s : State) : (State.flushDraining fuel s).kept = s.kept := by
  induction fuel generalizing s with
  | zero => rfl
  | succ fuel ih =>
    unfold State.flushDraining
    split
    · rfl
    · split
      · next h => rw [ih, State.modGran_kept, State.attonOut_kept h]
      · rfl

@[simp] theorem notifyEff_kept (s : State) : (notifyEff s).kept = s.kept := by simp [notifyEff]

@[simp] theorem subscriptionExpireEff_kept (s : State) : (subscriptionExpireEff s).kept = s.kept := by simp [subscriptionExpireEff]

@[simp] theorem stampPushEff_kept (p : Nat) (s : State) : (stampPushEff p s).kept = s.kept := by
  unfold stampPushEff
  (repeat' split) <;> grind [State.attonOut_kept, State.freeStamps_kept, State.modGran_kept]

@[simp] theorem sendEff_kept (msg : Bytes) (s : State) : (sendEff msg s).kept = s.kept := by simp [sendEff]

@[simp] theorem statusEff_kept (s : State) : (statusEff s).kept = s.kept := by simp [statusEff]

@[simp] theorem fetchEff_kept (s : State) : (fetchEff s).kept = s.kept := by
  unfold fetchEff
  (repeat' split) <;> simp

@[simp] theorem spiBadCommandEff_kept (cmd : Byte) (s : State) : (spiBadCommandEff cmd s).kept = s.kept := by simp [spiBadCommandEff]

@[simp] theorem State.stepReached_kept (s : State) (k : Nat) : (State.stepReached s k).kept = s.kept := by simp [State.stepReached]

@[simp] theorem State.enterRecovery_kept (s : State) (k : Nat) : (State.enterRecovery s k).kept = s.kept := by simp [State.enterRecovery]

@[simp] theorem State.haltStart_kept (s : State) (k : Nat) : (State.haltStart s k).kept = s.kept := by simp [State.haltStart]

@[simp] theorem State.bootStraps_kept (s : State) (i : BootIn) : (State.bootStraps s i).kept = s.kept := by simp [State.bootStraps]

@[simp] theorem State.bootPlan_kept (s : State) : (State.bootPlan s).kept = s.kept := by
  simp only [State.bootPlan]
  split <;> simp

@[simp] theorem State.takeImage_kept (s : State) (i : BootIn) (k : Nat) : (State.takeImage s i k).kept = s.kept := by simp [State.takeImage]

@[simp] theorem State.bootBanks_kept (s : State) (i : BootIn) : (State.bootBanks s i).kept = s.kept := by simp [State.bootBanks]

theorem State.restoreDict_kept {s t : State} (h : s.restoreDict = some t) : t.kept = s.kept := by
  unfold State.restoreDict at h
  split at h
  extract_lets ws ros s₁ s₂ g s₃ s₄ at h
  split at h
  · cases h
  · have h₁ : s₁.kept = s.kept := State.each_kept (fun _ _ => State.setVal_kept _ _ _ _ _) _ s
    clear_value s₁
    have h₂ : s₂.kept = s.kept := by simp [s₂, h₁]
    clear_value s₂
    have h₄ : s₄.kept = s.kept := by simp only [s₄, s₃]; split <;> simp [h₂]
    clear_value s₄
    split at h
    · split at h
      · rw [← Option.some.inj h, h₄]
      · rw [← Option.some.inj h, State.setN_kept, h₄]
    · rw [← Option.some.inj h, h₄]

@[simp] theorem State.bootClock_kept (s : State) (i : BootIn) (p : State) : (s.bootClock i p).kept = s.kept := by
  unfold State.bootClock
  extract_lets type fly hd s₁ s₂ s₃
  have h₁ : s₁.kept = s.kept := rfl
  have h₃ : s₃.kept = s.kept := by
    rw [State.setDpll_kept, State.modDpll_kept, State.setN_kept, State.setEff_kept, State.setEff_kept, h₁]
  clear_value s₃
  rw [State.kept_ite, State.setN_kept, State.modWin_kept, ite_self, h₃]

@[simp] theorem State.bootTables_kept (s : State) (i : BootIn) : (State.bootTables s i).kept = s.kept := by simp [State.bootTables]

@[simp] theorem State.bootDac_kept (s : State) : (State.bootDac s).kept = s.kept := by simp [State.bootDac]

@[simp] theorem State.bootPairs_kept (s : State) : (State.bootPairs s).kept = s.kept := by simp [State.bootPairs]

@[simp] theorem State.bootGnss_kept (s : State) (i : BootIn) : (State.bootGnss s i).kept = s.kept := by simp [State.bootGnss]

@[simp] theorem State.bootLanes_kept (s : State) (i : BootIn) : (State.bootLanes s i).kept = s.kept := by simp [State.bootLanes]

@[simp] theorem State.bootEnd_kept (s : State) (i : BootIn) : (State.bootEnd s i).kept = s.kept := by simp [State.bootEnd]

@[simp] theorem State.bootFlash_kept (s : State) (i : BootIn) : (State.bootFlash s i).kept = s.kept := by simp [State.bootFlash]

@[simp] theorem startStableEff_kept (s : State) : (startStableEff s).kept = s.kept := by
  simp only [startStableEff]
  (repeat' split) <;> simp

@[simp] theorem State.stepHooks_kept (s : State) (before : Tod) (j : Int) : (State.stepHooks s before j).kept = s.kept := by simp [State.stepHooks]

@[simp] theorem keeperCycleEff_kept (ups : List KeeperUpset) (s : State) : (keeperCycleEff ups s).kept = s.kept := by
  unfold keeperCycleEff
  split
  · rfl
  · extract_lets s₁ before j s₂ s₃ s₄ s₅ tc
    have h₂ : s₂.kept = s.kept := by simp only [s₂, s₁]; split <;> simp
    clear_value s₂ before j
    have h₃ : s₃.kept = s.kept := by simp only [s₃]; (repeat' split) <;> simp [h₂]
    clear_value s₃
    have h₄ : s₄.kept = s.kept := by simp [s₄, h₃]
    clear_value s₄
    have h₅ : s₅.kept = s.kept := by simp only [s₅]; split <;> simp [h₄]
    clear_value s₅
    simp [h₅]

@[simp] theorem State.identify_kept (s : State) : (State.identify s).kept = s.kept := by simp [State.identify]

@[simp] theorem State.assertBoundary_kept (s : State) : (State.assertBoundary s).kept = s.kept := by simp [State.assertBoundary]

/-- What is staged is taken where it stands. -/
theorem State.elim_kept {α : Type} {f : α → State} {s : State} (h : ∀ a, (f a).kept = s.kept) {d : State} (hd : d.kept = s.kept) (o : Option α) :
    (o.elim d f).kept = s.kept := by
  cases o with
  | none => exact hd
  | some a => exact h a

@[simp] theorem State.commitSa_kept (s : State) (o : SaOut) (now : Tod) : (s.commitSa o now).kept = s.kept := by
  unfold State.commitSa
  extract_lets f0 s₁ s₂ s₃ s₄ s₅ s₆ s₇ s₈ s₉ s₁₀ s₁₁ s₁₂
  have h₀ : (o.inc.elim s s.commitIncrement).kept = s.kept := State.elim_kept (by simp) rfl _
  have h₁ : s₁.kept = s.kept := State.elim_kept (by simp [h₀]) h₀ _
  clear_value s₁
  have h₂ : s₂.kept = s.kept := State.elim_kept (by simp [h₁]) h₁ _
  clear_value s₂
  have h₃ : s₃.kept = s.kept := State.elim_kept (by simp [h₂]) h₂ _
  clear_value s₃
  have h₄ : s₄.kept = s.kept := State.elim_kept (by simp [h₃]) h₃ _
  clear_value s₄
  have h₅ : s₅.kept = s.kept := State.elim_kept (by simp [h₄]) h₄ _
  clear_value s₅
  have h₆ : s₆.kept = s.kept := by
    simp only [s₆]
    split
    · split <;> simp [h₅]
    · exact h₅
  clear_value s₆
  have h₇ : s₇.kept = s.kept := State.elim_kept (by simp [h₆]) h₆ _
  clear_value s₇
  have h₈ : s₈.kept = s.kept := by simp only [s₈]; split <;> simp [h₇]
  clear_value s₈
  have h₉ : s₉.kept = s.kept := by simp [s₉, h₈]
  clear_value s₉
  have h₁₀ : s₁₀.kept = s.kept := State.elim_kept (by simp [h₉]) h₉ _
  clear_value s₁₀
  have h₁₁ : s₁₁.kept = s.kept := by simp only [s₁₁]; split <;> simp [h₁₀]
  clear_value s₁₁
  have h₁₂ : s₁₂.kept = s.kept := by simp only [s₁₂]; split <;> simp [h₁₁]
  clear_value s₁₂
  split <;> simp [h₁₂]

@[simp] theorem State.unstage_kept (s : State) : (State.unstage s).kept = s.kept := by
  simp only [State.unstage]
  split <;> simp

@[simp] theorem State.unstageLate_kept (s : State) (b : BoundaryIn) : (State.unstageLate s b).kept = s.kept := by simp [State.unstageLate]

@[simp] theorem State.overrunMarks_kept (s : State) (b : BoundaryIn) : (State.overrunMarks s b).kept = s.kept := by simp [State.overrunMarks]

@[simp] theorem State.checkpoints_kept (s : State) : (State.checkpoints s).kept = s.kept := by simp [State.checkpoints]

@[simp] theorem State.beginWork_kept (s : State) : (State.beginWork s).kept = s.kept := by simp [State.beginWork]

@[simp] theorem State.commitRoles_kept (s : State) (b : BoundaryIn) : (State.commitRoles s b).kept = s.kept := by simp [State.commitRoles]

@[simp] theorem State.upset_kept (s : State) (l : List (Nat × Val)) : (s.upset l).kept = s.kept :=
  State.each_kept (fun s e => by (repeat' split) <;> simp) _ s

@[simp] theorem State.reapply_kept (s : State) (stuck : List Nat) : (s.reapply stuck).kept = s.kept := by
  unfold State.reapply
  simp only
  split
  · rfl
  · exact State.each_kept (fun s k => by split <;> simp) _ s

@[simp] theorem State.unitsWritten_kept (s : State) (keys : List Nat) : (State.unitsWritten s keys).kept = s.kept := by simp [State.unitsWritten]

@[simp] theorem State.compare_kept (s : State) (due : List Nat) : (State.compare s due).kept = s.kept := by simp [State.compare]

@[simp] theorem State.settleShapers_kept (s : State) : (State.settleShapers s).kept = s.kept := by simp [State.settleShapers]

@[simp] theorem State.updateTime_kept (s : State) (back : Bool) : (State.updateTime s back).kept = s.kept := by simp [State.updateTime]

@[simp] theorem State.newSecond_kept (s : State) (before : Nat) : (State.newSecond s before).kept = s.kept := by simp [State.newSecond]

@[simp] theorem State.portTick_kept (s : State) (l : List LaneIn) : (State.portTick s l).kept = s.kept := by simp [State.portTick]

@[simp] theorem State.attonTick_kept (s : State) : (State.attonTick s).kept = s.kept := by simp [State.attonTick]

@[simp] theorem State.showSlew_kept (s : State) : (State.showSlew s).kept = s.kept := by simp [State.showSlew]

@[simp] theorem State.unitsTick_kept (s : State) (b : BoundaryIn) : (State.unitsTick s b).kept = s.kept := by simp [State.unitsTick]

@[simp] theorem State.takeFreq_kept (s : State) (f : FreqIn) : (State.takeFreq s f).kept = s.kept := by simp [State.takeFreq]

@[simp] theorem State.takeCremin_kept (s : State) (l : Nat) (r : Int) : (State.takeCremin s l r).kept = s.kept := by simp [State.takeCremin]

@[simp] theorem State.forceFloor_kept (s : State) : (State.forceFloor s).kept = s.kept := by simp [State.forceFloor]

@[simp] theorem State.workSa_kept (s : State) (w : WorkIn) : (State.workSa s w).kept = s.kept := by simp [State.workSa]

@[simp] theorem stewardTickWorkEff_kept (w : WorkIn) (s : State) : (stewardTickWorkEff w s).kept = s.kept := by
  simp only [stewardTickWorkEff]
  split <;> simp

@[simp] theorem State.withFetchWord_kept (s : State) (nbits : Nat) (w : Nat) : (State.withFetchWord s nbits w).kept = s.kept := rfl

/-! ### Resets and answers of the SRAM -/

/-- What every command keeps: the waiting commands stay, and an SRAM in its canonical form stays canonical. -/
def State.Keeps (s t : State) : Prop := t.pending = s.pending ∧ (SramInv s → SramInv t)

theorem State.Keeps.of_kept {s t : State} (h : t.kept = s.kept) : s.Keeps t := by
  obtain ⟨hp, hm⟩ := Prod.mk.inj h
  exact ⟨hp, fun hs => by rwa [SramInv, hm]⟩

theorem State.Keeps.trans {s t u : State} (h : s.Keeps t) (h' : t.Keeps u) : s.Keeps u :=
  ⟨h'.1.trans h.1, fun hs => h'.2 (h.2 hs)⟩

/-- What follows a change that keeps both is judged from its result. -/
theorem State.Keeps.after {s t u : State} (h : t.kept = s.kept) (h' : t.Keeps u) : s.Keeps u := (of_kept h).trans h'

theorem State.Keeps.then {s t u : State} (h : s.Keeps t) (h' : u.kept = t.kept) : s.Keeps u := h.trans (of_kept h')

theorem State.Keeps.ite {c : Prop} [Decidable c] {s t u : State} (ht : s.Keeps t) (hu : s.Keeps u) : s.Keeps (if c then t else u) := by
  split
  · exact ht
  · exact hu

theorem State.Keeps.each {α : Type} {f : State → α → State} (h : ∀ (s : State) a, s.Keeps (f s a)) (l : List α) (s : State) : s.Keeps (s.each l f) := by
  induction l generalizing s with
  | nil => exact of_kept rfl
  | cons a l ih => exact (h s a).trans (ih (f s a))

/-- A reset keeps the waiting commands; the SRAM after it lists nothing. -/
theorem State.deviceReset_keeps (s : State) (cause : Nat) : s.Keeps (s.deviceReset cause) := ⟨rfl, fun _ => rfl⟩

theorem resetNEff_keeps (lowNs : Nat) (s : State) : s.Keeps (resetNEff lowNs s) := by
  unfold resetNEff
  split
  · exact s.deviceReset_keeps 1
  · split
    · exact .of_kept rfl
    · exact .ite (.after rfl (State.deviceReset_keeps _ 1)) (.of_kept rfl)

theorem jtagResetEff_keeps (s : State) : s.Keeps (jtagResetEff s) := .ite (s.deviceReset_keeps 6) (.of_kept rfl)

theorem supplyResetEff_keeps (s : State) : s.Keeps (supplyResetEff s) := .ite (s.deviceReset_keeps 2) (.of_kept rfl)

theorem State.loseAon_keeps (s : State) : s.Keeps s.loseAon := ⟨rfl, fun _ => rfl⟩

theorem vddAonFallEff_keeps (v : Nat) (s : State) : s.Keeps (vddAonFallEff v s) :=
  .ite (.after (s.setAon_kept v) (State.loseAon_keeps _)) (.of_kept (s.setAon_kept v))

theorem powerOnEff_keeps (v : Nat) (s : State) : s.Keeps (powerOnEff v s) :=
  .ite (.after (s.setAon_kept v) ((State.loseAon_keeps _).then rfl)) (.of_kept (s.setAon_kept v))

/-- A write into the SRAM keeps its canonical form. -/
theorem State.sramAnswer_keeps (s : State) (p : Piece) (bad : Bool) : s.Keeps (s.sramAnswer p bad) := by
  unfold State.sramAnswer
  split
  extract_lets words inPiece s₁ poisoned s₂
  split
  · exact .of_kept (by simp)
  · split
    · have h₁ : s.Keeps s₁ := ⟨rfl, Memory.wf_writeAll _ _ _⟩
      exact h₁.then (by simp)
    · split
      · refine .of_kept ?_
        rw [State.raise_kept, State.finishPiece_kept]
        simp only [s₂, State.kept_ite, State.modMtx_kept, State.kept_eta, ite_self]
      · exact .of_kept (by simp)

theorem matrixResponseEff_keeps (r : RespIn) (s : State) : s.Keeps (matrixResponseEff r s) := by
  unfold matrixResponseEff
  split
  · exact .of_kept rfl
  · next p _ =>
    simp only
    split
    · exact .of_kept rfl
    · split
      · exact s.sramAnswer_keeps p _
      · split
        · exact .of_kept (by simp)
        · split
          · exact .of_kept (by simp)
          · split
            · next h => exact .of_kept ((State.finishPiece_kept _ _ _ _).trans (State.timeBlockRead_kept h))
            · exact .of_kept (by simp)

/-! ### Presentation, writes and commits -/

theorem State.handle_keeps (s : State) (P : List (Nat × FaultInfo)) : s.Keeps (s.handle P) := by
  unfold State.handle
  extract_lets ns s₁ s₂ s₃ m s₄ s₅ s₆ s₇ s₈ before s₉ s₁₀ rs s₁₁
  have h₃ : s₃.kept = s.kept := by simp [s₃, s₂, s₁]
  clear_value s₃
  have h₄ : s₄.kept = s.kept := by simp only [s₄]; split <;> simp [h₃]
  clear_value s₄
  have h₆ : s₆.kept = s.kept := by simp [s₆, s₅, h₄]
  clear_value s₆
  have h₁₁ : s₁₁.kept = s.kept := by simp [s₁₁, s₁₀, s₉, s₈, s₇, h₆]
  clear_value s₁₁
  split
  · exact .after h₁₁ (s₁₁.deviceReset_keeps 3)
  · exact .of_kept (by simp [h₁₁])

theorem presentationEff_keeps (s : State) : s.Keeps (presentationEff s) := .ite (.of_kept rfl) (s.handle_keeps _)

theorem State.commitInstActivate_keeps (s : State) : s.Keeps s.commitInstActivate :=
  .ite (.of_kept rfl) (.ite (s.deviceReset_keeps 5) (.of_kept (by simp)))

theorem State.commitRestart_keeps (s : State) (v : Nat) : s.Keeps (s.commitRestart v) :=
  .after (s.modBoot_kept _) (State.deviceReset_keeps _ 5)

theorem State.action_keeps (s : State) (lvl : Nat) (o : ObjRef) (v : Val) : s.Keeps (s.action lvl o v) := by
  unfold State.action
  extract_lets b n
  iterate 19 refine .ite (.of_kept (by simp)) ?_
  exact .ite s.commitInstActivate_keeps (.ite (.of_kept (by simp)) (.of_kept rfl))

theorem State.commitItems_keeps (s : State) (items : List Staged) : s.Keeps (s.commitItems items).1 := by
  unfold State.commitItems
  extract_lets a
  split
  extract_lets all s₁ s₂ s₃ n s₄ s₅ s₆
  have h₄ : s₄.kept = s.kept := by simp [s₄, s₃, s₂, s₁]
  clear_value s₄
  have h₅ : s.Keeps s₅ := .after h₄ (.each (fun s i => .each (fun s e => s.action_keeps _ _ _) _ s) _ s₄)
  clear_value s₅
  simp only [s₆]
  split
  · exact h₅.trans (s₅.commitRestart_keeps _)
  · exact h₅

theorem State.commitSet_keeps (s : State) : s.Keeps s.commitSet.1 := by
  unfold State.commitSet
  extract_lets c s₁
  have h₁ : s₁.kept = s.kept := s.putSets_kept _
  clear_value s₁
  split
  · exact .of_kept (by simp [h₁])
  · exact .after h₁ (s₁.commitItems_keeps _)

theorem State.recoverNow_keeps (s : State) (x : State × WriteAns) : x.1.Keeps (s.recoverNow x).1 := by
  unfold State.recoverNow
  split
  · exact x.1.commitSet_keeps.then (State.stampHandles_kept _ _)
  · exact .of_kept rfl

theorem State.write_keeps (s : State) (level path : Nat) (e : WriteEntry) : s.Keeps (s.write level path e).1 :=
  .after (s.stageWrite_kept level path e) (s.recoverNow_keeps _)

theorem State.bundle_keeps (s : State) (level path : Nat) (es : List WriteEntry) : s.Keeps (s.bundle level path es).1 :=
  .after (s.stageBundle_kept level path es) (s.recoverNow_keeps _)

theorem State.writeNum_keeps (s : State) (lvl : Level) (r : Row) (v : Int) (i j : Nat) : s.Keeps (s.writeNum lvl r v i j) := s.write_keeps _ _ _

theorem State.writeOctets_keeps (s : State) (lvl : Level) (r : Row) (v : Bytes) : s.Keeps (s.writeOctets lvl r v) := s.write_keeps _ _ _

theorem State.opWrite_keeps (s : State) (m : AttonMsg) (path : Nat) : s.Keeps (s.opWrite m path).1 := by
  unfold State.opWrite
  split
  · next e _ => exact s.write_keeps m.level path e
  · exact .of_kept rfl

theorem State.opBundle_keeps (s : State) (m : AttonMsg) (path : Nat) : s.Keeps (s.opBundle m path).1 := by
  unfold State.opBundle
  simp only
  split
  · exact .of_kept rfl
  · next es _ =>
    split
    · exact .of_kept rfl
    · exact s.bundle_keeps m.level path es

/-- The agent's command keeps what the operation it carries out keeps. -/
theorem State.attonServe_keeps (op : Nat) {f : State → AttonMsg → Nat → State × Nat × Bytes} (hf : ∀ (s : State) m p, s.Keeps (f s m p).1)
    (s : State) : s.Keeps (State.attonServe op f s) := by
  unfold State.attonServe
  split
  · exact .of_kept rfl
  · next m _ =>
    split
    · exact .of_kept rfl
    · split
      · exact .of_kept (by simp)
      · split
        · exact .of_kept rfl
        · have hc := s.attonChecks_kept m
          split
          next hr =>
          rw [hr] at hc
          split
          · exact .of_kept (by simpa using hc)
          · exact .of_kept (by simpa using hc)
          · split
            · exact .of_kept (by simpa using hc)
            · split
              · exact .of_kept (by simpa using hc)
              · exact (State.Keeps.after ((State.attonPop_kept _ _).trans hc) (hf _ _ _)).then (State.attonAnswer_kept _ _ _ _)

/-! ### Start and boundary -/

theorem State.stepFails_keeps (s : State) (k detail : Nat) : s.Keeps (s.stepFails k detail) :=
  .after (by simp) (State.deviceReset_keeps _ 4)

theorem State.bootServe_keeps (s : State) (i : BootIn) : s.Keeps (s.bootServe i) := by
  unfold State.bootServe
  split
  · exact s.stepFails_keeps 9 0
  · extract_lets s₁ s₂ s₃
    have h₂ : s₂.kept = s.kept := by simp [s₂, s₁]
    clear_value s₂
    have h₃ : s₃.kept = s.kept := by simp [s₃, h₂]
    clear_value s₃
    exact .ite (.after h₂ (s₂.stepFails_keeps 11 0)) (.ite (.after h₃ (s₃.stepFails_keeps 12 0)) (.of_kept (by simp [h₃])))

theorem State.bootUnits_keeps (s : State) (i : BootIn) : s.Keeps (s.bootUnits i) := by
  unfold State.bootUnits
  extract_lets s₁ p s₂ s₃ s₄
  have h₂ : s₂.kept = s.kept := by simp [s₂, s₁]
  clear_value s₁ p s₂
  have h₃ : s₃.kept = s.kept := by simp [s₃, h₂]
  clear_value s₃
  have h₄ : s₄.kept = s.kept := by simp [s₄, h₃]
  clear_value s₄
  refine .ite (s.stepFails_keeps 5 _) (.ite (.after h₂ (s₂.stepFails_keeps 6 0)) (.ite (.after h₃ (s₃.stepFails_keeps 7 0))
    (.ite (.after h₄ (s₄.stepFails_keeps 8 0)) ?_)))
  cases hd : s₄.restoreDict with
  | none => exact .after h₄ (s₄.stepFails_keeps 8 0)
  | some u =>
    have hu : u.kept = s.kept := (State.restoreDict_kept hd).trans h₄
    exact .after (by simp [hu]) (State.bootServe_keeps _ i)

theorem State.bootImage_keeps (s : State) (i : BootIn) : s.Keeps (s.bootImage i) := by
  unfold State.bootImage
  extract_lets s₁ s₂ s₃
  have h₁ : s₁.kept = s.kept := s.bootFlash_kept i
  clear_value s₁
  have h₃ : s₃.kept = s.kept := by simp [s₃, s₂, h₁]
  clear_value s₃
  refine .ite (.of_kept (by simp [h₁])) ?_
  split
  · exact .of_kept (by simp [h₃])
  · exact .after (by simp [h₃]) (State.bootUnits_keeps _ i)

theorem bootEff_keeps (i : BootIn) (s : State) : s.Keeps (bootEff i s) := by
  unfold bootEff
  extract_lets s₁ e e' s₂ s₃
  have h₂ : s₂.kept = s.kept := rfl
  clear_value s₂
  have h₃ : s₃.kept = s.kept := by simp [s₃, h₂]
  clear_value s₃
  exact .ite (.of_kept rfl) (.ite (.of_kept (by simp [h₃])) (.ite (.of_kept (by simp [h₃])) (.after (by simp [h₃]) (State.bootImage_keeps _ i))))

theorem State.commitAll_keeps (s : State) (b : BoundaryIn) : s.Keeps (s.commitAll b).1 := by
  unfold State.commitAll
  extract_lets runs2 s₁ s₂ keys due s₃
  have h₁ : s₁.kept = s.kept := by simp [s₁]
  clear_value s₁ runs2
  have h₂ : s₂.kept = s.kept := by simp [s₂, h₁]
  clear_value s₂ due keys
  have h₃ : s₃.kept = s.kept := by simp [s₃, h₂]
  clear_value s₃
  have hk := State.Keeps.after h₃ s₃.commitSet_keeps
  generalize s₃.commitSet = r at hk ⊢
  obtain ⟨u, hs⟩ := r
  dsimp only
  split
  · exact hk
  · exact hk.then (by simp)

theorem tickBoundaryEff_keeps (b : BoundaryIn) (s : State) : s.Keeps (tickBoundaryEff b s) := by
  unfold tickBoundaryEff
  split
  · exact .of_kept rfl
  · extract_lets before s₁
    have h₁ : s₁.kept = s.kept := by simp [s₁]
    clear_value s₁ before
    have ht := (s₁.titheTick_kept b.tithe s₁.resumes).trans h₁
    generalize s₁.titheTick b.tithe s₁.resumes = r at ht ⊢
    obtain ⟨s₂, latched⟩ := r
    dsimp only
    have h₃ := (s₂.overrunMarks_kept b).trans ht
    generalize s₂.overrunMarks b = s₃ at h₃ ⊢
    have hk := State.Keeps.after h₃ (s₃.commitAll_keeps b)
    generalize s₃.commitAll b = r at hk ⊢
    exact .ite hk (hk.then (by simp))

/-! ### Every command -/

theorem State.Keeps.of_next {s t u : State} (hu : s.Keeps u) (h : (.next u : Host.Outcome State Fault Refusal) = .next t) : s.Keeps t := by
  cases h; exact hu

/-- Whatever a command does, it leaves the waiting commands, and an SRAM in canonical form canonical. -/
theorem exec_keeps (c : Instr) (s t : State) (h : exec c s = .next t) : s.Keeps t := by
  cases c with
  | keeperCycle u => exact .of_next (.of_kept (keeperCycleEff_kept ..)) h
  | tickBoundary b => exact .of_next (tickBoundaryEff_keeps ..) h
  | stewardTickWork w => exact .of_next (.of_kept (stewardTickWorkEff_kept ..)) h
  | flywheelLoss => exact .of_next (.of_kept (flywheelLossEff_kept ..)) h
  | flywheelRestore => exact .of_next (.of_kept (flywheelRestoreEff_kept ..)) h
  | actionFire k => exact .of_next (.of_kept (actionFireEff_kept ..)) h
  | leapApply => exact .of_next (.of_kept (leapApplyEff_kept ..)) h
  | todStep lvl v => exact .of_next (State.writeNum_keeps ..) h
  | todSlew lvl v => exact .of_next (State.writeNum_keeps ..) h
  | actionArm lvl k => exact .of_next (State.writeNum_keeps ..) h
  | actionCancel lvl k => exact .of_next (State.writeNum_keeps ..) h
  | tkSecLoRead m => exact .of_next (.of_kept (tkSecLoReadEff_kept ..)) h
  | read => exact .of_next (.of_kept (readEff_kept ..)) h
  | write => exact .of_next (State.attonServe_keeps 2 State.opWrite_keeps s) h
  | bundleWrite => exact .of_next (State.attonServe_keeps 3 State.opBundle_keeps s) h
  | commitStatus => exact .of_next (.of_kept (commitStatusEff_kept ..)) h
  | subscribe => exact .of_next (.of_kept (subscribeEff_kept ..)) h
  | store => exact .of_next (.of_kept (storeEff_kept ..)) h
  | restoreDefaults => exact .of_next (.of_kept (restoreDefaultsEff_kept ..)) h
  | attonForward => exact .of_next (.of_kept (attonForwardEff_kept ..)) h
  | notify => exact .of_next (.of_kept (notifyEff_kept ..)) h
  | subscriptionExpire => exact .of_next (.of_kept (subscriptionExpireEff_kept ..)) h
  | send msg => exact .of_next (.of_kept (sendEff_kept ..)) h
  | status => exact .of_next (.of_kept (statusEff_kept ..)) h
  | fetch => exact .of_next (.of_kept (fetchEff_kept ..)) h
  | spiBadCommand cmd => exact .of_next (.of_kept (spiBadCommandEff_kept ..)) h
  | stampCalibrate lvl p => exact .of_next (State.writeNum_keeps ..) h
  | stampCalDone l c => exact .of_next (.of_kept (stampCalDoneEff_kept ..)) h
  | stampCalTimeout l => exact .of_next (.of_kept (stampCalTimeoutEff_kept ..)) h
  | dpllRealign lvl d => exact .of_next (State.writeNum_keeps ..) h
  | holdModelReset lvl => exact .of_next (State.writeNum_keeps ..) h
  | flyRecentreNow lvl => exact .of_next (State.writeNum_keeps ..) h
  | flyRecentre => exact .of_next (.of_kept (flyRecentreEff_kept ..)) h
  | flyUartReply b => exact .of_next (.of_kept (flyUartReplyEff_kept ..)) h
  | flyPpsEdge fine => exact .of_next (.of_kept (flyPpsEdgeEff_kept ..)) h
  | modelSample => exact .of_next (.of_kept (modelSampleEff_kept ..)) h
  | modelFit => exact .of_next (.of_kept (modelFitEff_kept ..)) h
  | holdoverRateUpdate => exact .of_next (.of_kept (holdoverRateEff_kept ..)) h
  | qualificationGained n => exact .of_next (.of_kept (State.gainQual_kept ..)) h
  | wtrExpire n => exact .of_next (.of_kept (State.gainElig_kept ..)) h
  | disputeEnd a b => exact .of_next (.of_kept (disputeEndEff_kept ..)) h
  | transitionComplete => exact .of_next (.of_kept (transitionCompleteEff_kept ..)) h
  | settleTimeEnd => exact .of_next (.of_kept (settleTimeEndEff_kept ..)) h
  | refEdge n e => exact .of_next (.of_kept (refEdgeEff_kept ..)) h
  | refEdgeMissing n => exact .of_next (.of_kept (refEdgeMissingEff_kept ..)) h
  | dpllAcquire d => exact .of_next (.of_kept (dpllAcquireEff_kept ..)) h
  | dpllLock d => exact .of_next (.of_kept (dpllLockEff_kept ..)) h
  | dpllRelockTimeout d => exact .of_next (.of_kept (dpllRelockTimeoutEff_kept ..)) h
  | dpllUnlock d => exact .of_next (.of_kept (dpllUnlockEff_kept ..)) h
  | dpllFreqChange d => exact .of_next (.of_kept (dpllFreqChangeEff_kept ..)) h
  | dpllHitlessChange d => exact .of_next (.of_kept (dpllHitlessChangeEff_kept ..)) h
  | dpllSlewDone d => exact .of_next (.of_kept (dpllSlewDoneEff_kept ..)) h
  | dpllRefLoss => exact .of_next (.of_kept (dpllRefLossEff_kept ..)) h
  | dpllRefReturn => exact .of_next (.of_kept (dpllRefReturnEff_kept ..)) h
  | dcoSpareIn => exact .of_next (.of_kept (dcoSpareInEff_kept ..)) h
  | outputGate o => exact .of_next (.of_kept (outputGateEff_kept ..)) h
  | outputRelease o => exact .of_next (.of_kept (outputReleaseEff_kept ..)) h
  | ppsPulseStart m => exact .of_next (.of_kept (ppsPulseStartEff_kept ..)) h
  | ppsPulseEnd m => exact .of_next (.of_kept (ppsPulseEndEff_kept ..)) h
  | todUartSend u => exact .of_next (.of_kept (todUartSendEff_kept ..)) h
  | ticEvent c e => exact .of_next (.of_kept (ticEventEff_kept ..)) h
  | ticWindowOpen g rise => exact .of_next (.of_kept (ticWindowOpenEff_kept ..)) h
  | ticWindowClose g rise => exact .of_next (.of_kept (ticWindowCloseEff_kept ..)) h
  | diffOverflow d => exact .of_next (.of_kept (diffOverflowEff_kept ..)) h
  | tbInLoss => exact .of_next (.of_kept (tbInLossEff_kept ..)) h
  | tbInReturn => exact .of_next (.of_kept (tbInReturnEff_kept ..)) h
  | gnssSnapshot b => exact .of_next (.of_kept (gnssSnapshotEff_kept ..)) h
  | acqDwellDone e x => exact .of_next (.of_kept (acqDwellDoneEff_kept ..)) h
  | gnssAgc b code => exact .of_next (.of_kept (gnssAgcEff_kept ..)) h
  | gnssBandFail b => exact .of_next (.of_kept (gnssBandFailEff_kept ..)) h
  | gnssBandOk b => exact .of_next (.of_kept (gnssBandOkEff_kept ..)) h
  | correlatorDump g x => exact .of_next (.of_kept (correlatorDumpEff_kept ..)) h
  | channelPullInLock c => exact .of_next (.of_kept (channelPullInLockEff_kept ..)) h
  | channelPullInTimeout c => exact .of_next (.of_kept (channelPullInTimeoutEff_kept ..)) h
  | channelCoastTimeout c => exact .of_next (.of_kept (channelCoastTimeoutEff_kept ..)) h
  | epochLatch => exact .of_next (.of_kept (epochLatchEff_kept ..)) h
  | gnssSolution x => exact .of_next (.of_kept (gnssSolutionEff_kept ..)) h
  | epochReportPublish => exact .of_next (.of_kept (epochReportPublishEff_kept ..)) h
  | rawPps fine => exact .of_next (.of_kept (rawPpsEff_kept ..)) h
  | gnssIndicators x => exact .of_next (.of_kept (gnssIndicatorsEff_kept ..)) h
  | spoofHoldEnd => exact .of_next (.of_kept (spoofHoldEndEff_kept ..)) h
  | surveyDone => exact .of_next (.of_kept (surveyDoneEff_kept ..)) h
  | gnssStoreRecord => exact .of_next (.of_kept (gnssStoreRecordEff_kept ..)) h
  | gnssResurvey lvl => exact .of_next (State.writeNum_keeps ..) h
  | gnssFeReinit lvl => exact .of_next (State.writeNum_keeps ..) h
  | gnssRestartCold lvl => exact .of_next (State.writeNum_keeps ..) h
  | gnssRestartWarm lvl => exact .of_next (State.writeNum_keeps ..) h
  | gnssAidTime lvl v => exact .of_next (State.writeNum_keeps ..) h
  | scrPathClear lvl n => exact .of_next (State.writeNum_keeps ..) h
  | pathGuardEnd n => exact .of_next (.of_kept (pathGuardEndEff_kept ..)) h
  | frameReceive f => exact .of_next (.of_kept ((State.ptpScreen_kept _).trans (frameReceiveEff_kept ..))) h
  | arpRequest => exact .of_next (.of_kept (arpRequestEff_kept ..)) h
  | neighbourSolicitation => exact .of_next (.of_kept (neighbourSolicitationEff_kept ..)) h
  | icmpEchoRequest => exact .of_next (.of_kept (icmpEchoRequestEff_kept ..)) h
  | pause => exact .of_next (.of_kept (pauseEff_kept ..)) h
  | pauseHoldEnd p => exact .of_next (.of_kept (pauseHoldEndEff_kept ..)) h
  | hpSend => exact .of_next (.of_kept (hpSendEff_kept ..)) h
  | linkDown p failed => exact .of_next (.of_kept ((State.slavesRefresh_kept _).trans (linkDownEff_kept ..))) h
  | ntpRequest => exact .of_next (.of_kept (ntpRequestEff_kept ..)) h
  | ntsRequest => exact .of_next (.of_kept (ntsRequestEff_kept ..)) h
  | flailJobComplete job => exact .of_next (.of_kept (flailJobCompleteEff_kept ..)) h
  | launchCheck p => exact .of_next (.of_kept (launchCheckEff_kept ..)) h
  | untimedPlace p => exact .of_next (.of_kept (untimedPlaceEff_kept ..)) h
  | untimedCommit p => exact .of_next (.of_kept (untimedCommitEff_kept ..)) h
  | frameDeparture p jitter => exact .of_next (.of_kept (frameDepartureEff_kept ..)) h
  | stampQueuePop p => exact .of_next (.of_kept (stampQueuePopEff_kept ..)) h
  | stampPush p => exact .of_next (.of_kept (stampPushEff_kept ..)) h
  | stampEntryRetire p => exact .of_next (.of_kept (stampEntryRetireEff_kept ..)) h
  | policerSweep => exact .of_next (.of_kept (policerSweepEff_kept ..)) h
  | smearStart n => exact .of_next (.of_kept (smearStartEff_kept ..)) h
  | smearUnwind n => exact .of_next (.of_kept (smearUnwindEff_kept ..)) h
  | smearEnd n => exact .of_next (.of_kept (smearEndEff_kept ..)) h
  | drainEnd => exact .of_next (.of_kept (drainEndEff_kept ..)) h
  | syncRelease n p => exact .of_next (.of_kept (syncReleaseEff_kept ..)) h
  | followUpSend n p => exact .of_next (.of_kept (followUpSendEff_kept ..)) h
  | announceSend n p => exact .of_next (.of_kept (announceSendEff_kept ..)) h
  | delayReqReceive => exact .of_next (.of_kept (delayReqReceiveEff_kept ..)) h
  | pdelayReqReceive => exact .of_next (.of_kept (pdelayReqReceiveEff_kept ..)) h
  | pdelayReqSend n p => exact .of_next (.of_kept (pdelayReqSendEff_kept ..)) h
  | pdelayRespReceive => exact .of_next (.of_kept (pdelayRespReceiveEff_kept ..)) h
  | announceReceive => exact .of_next (.of_kept (announceReceiveEff_kept ..)) h
  | syncReceive => exact .of_next (.of_kept (syncReceiveEff_kept ..)) h
  | followUpReceive => exact .of_next (.of_kept (followUpReceiveEff_kept ..)) h
  | slaveDelayReqSend n => exact .of_next (.of_kept (slaveDelayReqSendEff_kept ..)) h
  | delayRespReceive => exact .of_next (.of_kept (delayRespReceiveEff_kept ..)) h
  | announceTimeout n => exact .of_next (.of_kept (announceTimeoutEff_kept ..)) h
  | unicastRenew n => exact .of_next (.of_kept (unicastRenewEff_kept ..)) h
  | requestUnicastTransmission => exact .of_next (.of_kept (requestUnicastTransmissionEff_kept ..)) h
  | cancelUnicastTransmission => exact .of_next (.of_kept (cancelUnicastTransmissionEff_kept ..)) h
  | grantExpire => exact .of_next (.of_kept (grantExpireEff_kept ..)) h
  | unicastRelease n announce => exact .of_next (.of_kept (unicastReleaseEff_kept ..)) h
  | ptpSessSelect path v => exact .of_next (.of_kept (ptpSessSelectEff_kept ..)) h
  | creminLinkUp l held => exact .of_next (.of_kept (creminLinkUpEff_kept ..)) h
  | time l => exact .of_next (.of_kept (timeEff_kept ..)) h
  | timeReceive l m => exact .of_next (.of_kept (timeReceiveEff_kept ..)) h
  | creminBadBlock l m => exact .of_next (.of_kept (creminBadBlockEff_kept ..)) h
  | join l => exact .of_next (.of_kept (joinEff_kept ..)) h
  | joinReceive l m => exact .of_next (.of_kept (joinReceiveEff_kept ..)) h
  | assign l m => exact .of_next (.of_kept (assignEff_kept ..)) h
  | addressHoldExpire n => exact .of_next (.of_kept (addressHoldExpireEff_kept ..)) h
  | tunnel l m => exact .of_next (.of_kept (tunnelEff_kept ..)) h
  | tunnelSend l => exact .of_next (.of_kept (tunnelSendEff_kept ..)) h
  | summary => exact .of_next (.of_kept (summaryEff_kept ..)) h
  | summaryReceive l m => exact .of_next (.of_kept (summaryReceiveEff_kept ..)) h
  | creminNodeLost n => exact .of_next (.of_kept (creminNodeLostEff_kept ..)) h
  | presentation => exact .of_next (presentationEff_keeps ..) h
  | handlingEnd => exact .of_next (.of_kept (handlingEndEff_kept ..)) h
  | fenceComplete x => exact .of_next (.of_kept (fenceCompleteEff_kept ..)) h
  | sourceActiveExpire x => exact .of_next (.of_kept (sourceActiveExpireEff_kept ..)) h
  | pairReloadDone p ok => exact .of_next (.of_kept (pairReloadDoneEff_kept ..)) h
  | heartbeatWrite => exact .of_next (.of_kept (heartbeatWriteEff_kept ..)) h
  | reeveHeartbeat => exact .of_next (.of_kept (reeveHeartbeatEff_kept ..)) h
  | winClearFirst lvl => exact .of_next (State.writeNum_keeps ..) h
  | winClearLost lvl => exact .of_next (State.writeNum_keeps ..) h
  | winPinClear lvl => exact .of_next (State.writeNum_keeps ..) h
  | winIntNext => exact .of_next (.of_kept (winIntNextEff_kept ..)) h
  | refHistoryRead n => exact .of_next (.of_kept (refHistoryReadEff_kept ..)) h
  | ticPop c => exact .of_next (.of_kept (ticPopEff_kept ..)) h
  | ticDiffPop d => exact .of_next (.of_kept (ticDiffPopEff_kept ..)) h
  | counterReadClear index sub => exact .of_next (.of_kept (counterReadClearEff_kept ..)) h
  | attonAssocReset lvl => exact .of_next (State.writeNum_keeps ..) h
  | matrixRequest r => exact .of_next (.of_kept (matrixRequestEff_kept ..)) h
  | matrixGrant t => exact .of_next (.of_kept (matrixGrantEff_kept ..)) h
  | matrixResponse r => exact .of_next (matrixResponseEff_keeps ..) h
  | matrixTimeout piece => exact .of_next (.of_kept (matrixTimeoutEff_kept ..)) h
  | titheFreeze lvl => exact .of_next (State.writeNum_keeps ..) h
  | titheResume lvl => exact .of_next (State.writeNum_keeps ..) h
  | titheClear lvl b => exact .of_next (State.writeNum_keeps ..) h
  | storeComplete ok => exact .of_next (.of_kept (storeCompleteEff_kept ..)) h
  | powerOn v => exact .of_next (powerOnEff_keeps ..) h
  | resetN lowNs => exact .of_next (resetNEff_keeps ..) h
  | supplyReset => exact .of_next (supplyResetEff_keeps ..) h
  | jtagReset => exact .of_next (jtagResetEff_keeps ..) h
  | railMonitor v => exact .of_next (.of_kept (railMonitorEff_kept ..)) h
  | xoFault hz => exact .of_next (.of_kept (xoFaultEff_kept ..)) h
  | dieTempSample t => exact .of_next (.of_kept (dieTempSampleEff_kept ..)) h
  | jtagAccess => exact .of_next (.of_kept (jtagAccessEff_kept ..)) h
  | boot b => exact .of_next (bootEff_keeps ..) h
  | startStable => exact .of_next (.of_kept (startStableEff_kept ..)) h
  | bootRestartNormal lvl => exact .of_next (State.writeNum_keeps ..) h
  | bootRestartSafe lvl => exact .of_next (State.writeNum_keeps ..) h
  | bootSecverCommit lvl => exact .of_next (State.writeNum_keeps ..) h
  | installBegin lvl v => exact .of_next (State.writeOctets_keeps ..) h
  | installChunk lvl v => exact .of_next (State.writeOctets_keeps ..) h
  | installFinish lvl => exact .of_next (State.writeNum_keeps ..) h
  | installActivate lvl => exact .of_next (State.writeNum_keeps ..) h
  | configWrite lvl index sub value => exact .of_next (State.write_keeps ..) h
  | todUartReceive u b framing => exact .of_next (.of_kept (todUartReceiveEff_kept ..)) h
  | ticCalTableDone c n hits => exact .of_next (.of_kept (ticCalTableDoneEff_kept ..)) h
  | linkUp p neg held => exact .of_next (.of_kept ((State.slavesRefresh_kept _).trans (linkUpEff_kept ..))) h
  | pdelayRespFollowUpSend n p => exact .of_next (.of_kept (pdelayRespFollowUpSendEff_kept ..)) h
  | creminLinkDown l lockLost => exact .of_next (.of_kept (creminLinkDownEff_kept ..)) h
  | faultRaise x n => exact .of_next (.of_kept (by simp)) h
  | installAbort lvl => exact .of_next (State.writeNum_keeps ..) h
  | stewardLoadDone p => exact .of_next (.of_kept (stewardLoadDoneEff_kept ..)) h
  | thresherRotate => exact .of_next (.of_kept (thresherRotateEff_kept ..)) h
  | reeveSwitch => exact .of_next (.of_kept (reeveSwitchEff_kept ..)) h
  | ageSample a => exact .of_next (.of_kept (ageSampleEff_kept ..)) h
  | ageFit => exact .of_next (.of_kept (ageFitEff_kept ..)) h
  | grantUnicastTransmission => exact .of_next (.of_kept (grantUnicastTransmissionEff_kept ..)) h
  | xoInReturn hz => exact .of_next (.of_kept (xoInReturnEff_kept ..)) h
  | vddAonFall v => exact .of_next (vddAonFallEff_keeps ..) h
  | returnRecordExpire => exact .of_next (.of_kept (returnRecordExpireEff_kept ..)) h

/-- A step runs one command, or none. -/
theorem step_keeps_sram {s t : State} (hs : SramInv s) (h : step s = .next t) : SramInv t := by
  unfold step at h
  split at h
  · cases h; exact hs
  · exact (exec_keeps _ _ _ h).2 hs

/-- Settles O1: both equations are those of the step's definition. -/
theorem stepTakesFront : Obligations.StepTakesFront := by
  refine ⟨fun _ _ _ => rfl, fun s h => ?_⟩
  unfold step
  rw [h]

/-- Settles O2: no operation but an answer of the SRAM and a reset writes the SRAM, and both leave it canonical. -/
theorem sramStaysCanonical : Obligations.SramStaysCanonical := fun _ _ => step_keeps_sram

/-- Settles O3: no operation writes the queue of the waiting commands, and a reset carries it over. -/
theorem queueIsOnlyTakenFrom : Obligations.QueueIsOnlyTakenFrom := fun c s t h => (exec_keeps c s t h).1

/-- Settles O4: the dictionary's stores list nothing after a reset, so every object reads its default. -/
theorem resetState : Obligations.ResetState := by
  unfold Obligations.ResetState
  decide

end Sys2Proof.Machine

/-! SUPPORT. Reading the dictionary after a write: the object written reads as written, every other one as before, and a frame grows by the key
written. -/
namespace Sys2Proof.Machine

/-- What a command's meaning is equal to, the command answers. -/
theorem next_of_eq {s t : State} (h : s = t) : (.next s : Host.Outcome State Fault Refusal) = .next t := congrArg _ h

/-! ### Status values -/

@[simp] theorem State.val_setN (s : State) (r : Row) (v : Int) (i j : Nat) : (s.setN r v i j).val r i j = .n v := State.val_setVal s r i j (.n v)

@[simp] theorem State.valI_setVal (s : State) (r : Row) (v : Int) (i j : Nat) : (s.setVal r i j (.n v)).valI r i j = v := State.valI_setN s r v i j

@[simp] theorem State.valN_setN_int (s : State) (r : Row) (v : Int) (i j : Nat) : (s.setN r v i j).valN r i j = v.toNat := by
  simp [State.valN]

@[simp] theorem State.valT_setN (s : State) (r : Row) (v : Int) (i j : Nat) : (s.setN r v i j).valT r i j = (v != 0) := by
  simp [State.valT]

@[simp] theorem State.valT_setT (s : State) (r : Row) (b : Bool) (i j : Nat) : (s.setT r b i j).valT r i j = b := by
  cases b <;> simp [State.setT, State.valT, State.valI, Val.num]

theorem State.val_setN_other (s : State) (r r' : Row) (v : Int) (i j i' j' : Nat) (h : r'.key i' j' ≠ r.key i j) :
    (s.setN r v i j).val r' i' j' = s.val r' i' j' := State.val_setVal_other s r r' i j i' j' (.n v) h

theorem State.valI_setN_other (s : State) (r r' : Row) (v : Int) (i j i' j' : Nat) (h : r'.key i' j' ≠ r.key i j) :
    (s.setN r v i j).valI r' i' j' = s.valI r' i' j' := congrArg Val.num (State.val_setN_other s r r' v i j i' j' h)

theorem State.valN_setN_other (s : State) (r r' : Row) (v : Int) (i j i' j' : Nat) (h : r'.key i' j' ≠ r.key i j) :
    (s.setN r v i j).valN r' i' j' = s.valN r' i' j' := congrArg Int.toNat (State.valI_setN_other s r r' v i j i' j' h)

/-- Stores that list the same status values read alike. -/
theorem State.val_congr {s t : State} (h : ∀ k, Store.find t.dict.val k = Store.find s.dict.val k) (hd : t.dev = s.dev) (r : Row) (i j : Nat) :
    t.val r i j = s.val r i j := by simp only [State.val, h, hd]

/-! ### Values in effect and configured values -/

/-- A value in effect written leaves the values of other keys. -/
theorem State.eff_setEff_other (s : State) (r r' : Row) (i j i' j' : Nat) (v : Val) (h : r'.key i' j' ≠ r.key i j) :
    (s.setEff r i j v).eff r' i' j' = s.eff r' i' j' := by
  simp [State.eff, State.cfg, State.setEff, Store.find_put_other _ _ _ _ h]

theorem State.effI_setEff (s : State) (r : Row) (i j : Nat) (v : Int) (h : r.twin ≠ 0) : (s.setEff r i j (.n v)).effI r i j = v :=
  congrArg Val.num (State.eff_setEff s r i j (.n v) h)

theorem State.effI_setEff_other (s : State) (r r' : Row) (i j i' j' : Nat) (v : Val) (h : r'.key i' j' ≠ r.key i j) :
    (s.setEff r i j v).effI r' i' j' = s.effI r' i' j' := congrArg Val.num (State.eff_setEff_other s r r' i j i' j' v h)

/-- A configured value written leaves the values of other keys. -/
theorem State.cfg_setCfg_other (s : State) (r r' : Row) (i j i' j' : Nat) (v : Val) (h : r'.key i' j' ≠ r.key i j) :
    (s.setCfg r i j v).cfg r' i' j' = s.cfg r' i' j' := by
  simp [State.cfg, State.setCfg, Store.find_put_other _ _ _ _ h]

/-! ### Frames -/

theorem SameVals.refl (s : State) (ks : List Nat) : SameVals s s ks := fun _ _ => rfl

theorem SameEffs.refl (s : State) (ks : List Nat) : SameEffs s s ks := fun _ _ => rfl

theorem SameCfgs.refl (s : State) (ks : List Nat) : SameCfgs s s ks := fun _ _ => rfl

/-- A frame of status values allows one more write at a key it excepts. -/
theorem SameVals.setVal {s t : State} {ks : List Nat} (h : SameVals s t ks) {r : Row} {i j : Nat} (hk : r.key i j ∈ ks) (v : Val) :
    SameVals s (t.setVal r i j v) ks := fun k hn =>
  (Store.find_put_other _ _ _ _ fun e => hn (by rw [e]; exact hk)).trans (h k hn)

theorem SameVals.setN {s t : State} {ks : List Nat} (h : SameVals s t ks) {r : Row} {i j : Nat} (hk : r.key i j ∈ ks) (v : Int) :
    SameVals s (t.setN r v i j) ks := h.setVal hk _

/-- A frame of values in effect allows one more write at a key it excepts. -/
theorem SameEffs.setEff {s t : State} {ks : List Nat} (h : SameEffs s t ks) {r : Row} {i j : Nat} (hk : r.key i j ∈ ks) (v : Val) :
    SameEffs s (t.setEff r i j v) ks := fun k hn =>
  (Store.find_put_other _ _ _ _ fun e => hn (by rw [e]; exact hk)).trans (h k hn)

/-- A frame of configured values allows one more write at a key it excepts. -/
theorem SameCfgs.setCfg {s t : State} {ks : List Nat} (h : SameCfgs s t ks) {r : Row} {i j : Nat} (hk : r.key i j ∈ ks) (v : Val) :
    SameCfgs s (t.setCfg r i j v) ks := fun k hn =>
  (Store.find_put_other _ _ _ _ fun e => hn (by rw [e]; exact hk)).trans (h k hn)

/-- A frame of the dictionary allows one more status write at a key it excepts. -/
theorem SameDict.put {s t : State} {ks : List Nat} (h : SameDict s t ks) {r : Row} {i j : Nat} (hk : r.key i j ∈ ks) (v : Val) :
    SameDict s (t.setVal r i j v) ks := ⟨h.1, h.2.1, h.2.2.setVal hk v⟩

theorem SameDict.putN {s t : State} {ks : List Nat} (h : SameDict s t ks) {r : Row} {i j : Nat} (hk : r.key i j ∈ ks) (v : Int) :
    SameDict s (t.setN r v i j) ks := h.put hk _

/-- An object whose key a frame does not except reads as before. -/
theorem SameDict.val_eq {s t : State} {ks : List Nat} (h : SameDict s t ks) (hd : t.dev = s.dev) {r : Row} {i j : Nat} (hk : r.key i j ∉ ks) :
    t.val r i j = s.val r i j := by
  simp only [State.val, hd, h.2.2 _ hk]

theorem SameDict.valN_eq {s t : State} {ks : List Nat} (h : SameDict s t ks) (hd : t.dev = s.dev) {r : Row} {i j : Nat} (hk : r.key i j ∉ ks) :
    t.valN r i j = s.valN r i j := congrArg (fun v => v.num.toNat) (h.val_eq hd hk)

end Sys2Proof.Machine

/-! SUPPORT. The time core's actions and leap (R80 to R92). -/
namespace Sys2Proof.Machine

/-- A write into all three keepers is in each of them. -/
theorem TimeCore.all_keeper_regs (t : TimeCore) (f : KeeperRegs → KeeperRegs) (k : Nat) : ((t.all f).keeper k).regs = f (t.keeper k).regs := by
  unfold TimeCore.keeper
  split
  · rfl
  · split <;> rfl

/-! ### ACTION_FIRE (R80, R85, R87) -/

/-- The state with an action slot taken out of every keeper. -/
def State.dropAct (s : State) (k : Nat) : State :=
  { s with tc := s.tc.all fun r => { r with acts := r.acts.filter fun x => x.slot != k } }

/-- Whichever keeper is put out, the slot taken out is armed no longer. -/
theorem State.dropAct_unarmed (s : State) (k j : Nat) : (((s.dropAct k).tc.keeper j).regs.acts.all fun x => x.slot != k) = true := by
  rw [State.dropAct, TimeCore.all_keeper_regs]
  simp

/-- A due action off a grid boundary leaves its slot and fires. -/
theorem actionFireEff_due {s : State} {k : Nat} {a : ArmedAct} (hg : s.tc.voted < s.tc.nextGrid)
    (ha : (s.dueActs.find? fun x => x.slot == k) = some a) :
    actionFireEff k s = if a.isStep then (s.dropAct k).fireStep a else (s.dropAct k).fireFreq a := by
  unfold actionFireEff State.fireSlot
  rw [if_neg hg.not_ge, ha]
  rfl

/-- The action found in a slot is of that slot. -/
theorem ArmedAct.slot_of_find {l : List ArmedAct} {k : Nat} {a : ArmedAct} (h : (l.find? fun x => x.slot == k) = some a) : a.slot = k := by
  simpa using List.find?_some h

/-- The cycle of a step that fires: a boundary is due unless the cycle had one, and the step counts as manual (R82, R202). -/
def State.stepFires (s : State) : State :=
  { s with tc := { s.tc with boundaryDue := s.tc.boundaryDue || !s.tc.stepDone, manualJump := true } }

/-- A STEP_AT that the policy permits, beside no SET_AT, joins the steps of the cycle. -/
theorem State.fireStep_stepAt {s : State} {a : ArmedAct} (hk : a.kind = 1) (hp : s.stepAllowed = true) (hj : s.tc.setJump = none) :
    s.fireStep a =
      ({ s.stepFires with tc := { s.stepFires.tc with jumps := s.tc.jumps ++ [(a.slot, psToU a.offset)] } } : State).setN Obj.tod_action_arm 2 a.slot := by
  have hjump : a.jump = psToU a.offset := by simp [ArmedAct.jump, hk]
  simp [State.fireStep, hp, hk, hj, hjump, State.stepFires]

/-- What a SET_AT makes of a step of its cycle: refused (R80). -/
def State.refuseJump (s : State) (e : Nat × Int) : State :=
  if e.1 < 8 then s.setN Obj.tod_action_arm 4 e.1 else if e.1 = 8 then s.setN Obj.tod_step_status 3 else s

/-- A SET_AT that the policy permits stands alone: the other steps of the cycle are refused. -/
theorem State.fireStep_setAt {s : State} {a : ArmedAct} (hk : a.kind = 2) (hp : s.stepAllowed = true) :
    s.fireStep a =
      (let u := s.stepFires.each s.tc.jumps State.refuseJump
       ({ u with tc := { u.tc with jumps := [], setJump := some (a.value - a.time) } } : State).setN Obj.tod_action_arm 2 a.slot) := by
  have hjump : a.jump = a.value - a.time := by simp [ArmedAct.jump, hk]
  unfold State.fireStep
  rw [if_neg (by simp [hp]), if_pos hk, hjump]
  rfl

/-- A step-type action that the policy does not permit reads REFUSED. -/
theorem State.fireStep_refused {s : State} {a : ArmedAct} (hp : s.stepAllowed = false) : s.fireStep a = s.setN Obj.tod_action_arm 4 a.slot := by
  simp [State.fireStep, hp]

/-- The first FREQ_AT of a cycle gives its increment. -/
theorem State.fireFreq_first {s : State} {a : ArmedAct} (hf : s.tc.freqBy = none) :
    s.fireFreq a = (({ s with tc := { s.tc with freqBy := some a.slot } } : State).setIncrement a.inc).setN Obj.tod_action_arm 2 a.slot := by
  simp [State.fireFreq, hf]

/-- The step policy reads the dictionary alone. -/
@[simp] theorem State.dropAct_stepAllowed (s : State) (k : Nat) : (s.dropAct k).stepAllowed = s.stepAllowed := rfl

@[simp] theorem State.dropAct_setJump (s : State) (k : Nat) : (s.dropAct k).tc.setJump = s.tc.setJump := rfl

@[simp] theorem State.dropAct_jumps (s : State) (k : Nat) : (s.dropAct k).tc.jumps = s.tc.jumps := rfl

@[simp] theorem State.dropAct_freqBy (s : State) (k : Nat) : (s.dropAct k).tc.freqBy = s.tc.freqBy := rfl

theorem actionFireEff_stepAt {s : State} {k : Nat} {a : ArmedAct} (hg : s.tc.voted < s.tc.nextGrid)
    (ha : (s.dueActs.find? fun x => x.slot == k) = some a) (hk : a.kind = 1) (hp : s.stepAllowed = true) (hj : s.tc.setJump = none) :
    actionFireEff k s =
      ({ (s.dropAct k).stepFires with tc := { (s.dropAct k).stepFires.tc with jumps := s.tc.jumps ++ [(k, psToU a.offset)] } } : State).setN
        Obj.tod_action_arm 2 k := by
  rw [actionFireEff_due hg ha, if_pos (by simp [ArmedAct.isStep, hk]), State.fireStep_stepAt (s := s.dropAct k) hk hp hj, ArmedAct.slot_of_find ha]
  rfl

theorem actionFireEff_setAt {s : State} {k : Nat} {a : ArmedAct} (hg : s.tc.voted < s.tc.nextGrid)
    (ha : (s.dueActs.find? fun x => x.slot == k) = some a) (hk : a.kind = 2) (hp : s.stepAllowed = true) :
    actionFireEff k s =
      (let u := (s.dropAct k).stepFires.each s.tc.jumps State.refuseJump
       ({ u with tc := { u.tc with jumps := [], setJump := some (a.value - a.time) } } : State).setN Obj.tod_action_arm 2 k) := by
  rw [actionFireEff_due hg ha, if_pos (by simp [ArmedAct.isStep, hk]), State.fireStep_setAt (s := s.dropAct k) hk hp, ArmedAct.slot_of_find ha]
  rfl

theorem actionFireEff_refused {s : State} {k : Nat} {a : ArmedAct} (hg : s.tc.voted < s.tc.nextGrid)
    (ha : (s.dueActs.find? fun x => x.slot == k) = some a) (hs : a.isStep = true) (hp : s.stepAllowed = false) :
    actionFireEff k s = (s.dropAct k).setN Obj.tod_action_arm 4 k := by
  rw [actionFireEff_due hg ha, if_pos hs, State.fireStep_refused (s := s.dropAct k) hp, ArmedAct.slot_of_find ha]

theorem actionFireEff_freqAt {s : State} {k : Nat} {a : ArmedAct} (hg : s.tc.voted < s.tc.nextGrid)
    (ha : (s.dueActs.find? fun x => x.slot == k) = some a) (hk : a.kind = 3) (hf : s.tc.freqBy = none) :
    actionFireEff k s =
      (({ s.dropAct k with tc := { (s.dropAct k).tc with freqBy := some k } } : State).setIncrement a.inc).setN Obj.tod_action_arm 2 k := by
  rw [actionFireEff_due hg ha, if_neg (by simp [ArmedAct.isStep, hk]), State.fireFreq_first (s := s.dropAct k) hf, ArmedAct.slot_of_find ha]

/-- The arm subindices of different slots have different keys. -/
theorem tod_action_arm_key_ne {i j : Nat} (h : i ≠ j) : Obj.tod_action_arm.key i 0 ≠ Obj.tod_action_arm.key j 0 := by
  simpa [Row.key, Obj.tod_action_arm] using h

/-- An increment is in all keepers, in effect, and `tod.freq_offset` follows it (R71). -/
theorem State.setIncrement_eff (s : State) (inc : Nat) : (s.setIncrement inc).effI Obj.tod_increment = inc :=
  State.effI_setEff _ Obj.tod_increment 0 0 inc (by decide)

/-- Settles O8: each kind of action is one equation of `actionFireEff`, and what the statement reads of it is read off that equation. -/
theorem actionsFire : Obligations.ActionsFire := by
  refine ⟨fun s k a hg ha hk hp hj => ?_, fun s k a hg ha hk hp hj => ?_, fun s k a m j hg ha hk hp hj hm => ?_,
    fun s k a hg ha hs hp => ?_, fun s k a hg ha hk hf => ?_⟩
  · refine ⟨_, next_of_eq (actionFireEff_stepAt hg ha hk hp hj), rfl, hj, State.valN_setN_int .., rfl, (s.dropAct_unarmed k.val _ :), rfl, rfl, ?_⟩
    exact (SameDict.refl s _).putN (by simp) 2
  · have he := actionFireEff_setAt hg ha hk hp
    rw [hj] at he
    refine ⟨_, next_of_eq he, rfl, rfl, State.valN_setN_int .., rfl, ?_⟩
    exact (SameDict.refl s _).putN (by simp) 2
  · have he := actionFireEff_setAt hg ha hk hp
    rw [hj] at he
    have hr : ∀ u : State, u.each [(m.val, j)] State.refuseJump = u.setN Obj.tod_action_arm 4 m.val := fun u => by
      simp [State.each, State.refuseJump]
    rw [hr] at he
    refine ⟨_, next_of_eq he, rfl, rfl, ?_, State.valN_setN_int .., rfl, ?_⟩
    · rw [State.valN_setN_other _ _ _ _ _ _ _ _ (tod_action_arm_key_ne fun h => hm (Fin.ext h))]
      exact State.valN_setN_int (s.dropAct k.val).stepFires Obj.tod_action_arm 4 m.val 0
    · exact ((SameDict.refl s _).putN (r := Obj.tod_action_arm) (i := m.val) (by simp) 4).putN (by simp) 2
  · refine ⟨_, next_of_eq (actionFireEff_refused hg ha hs hp), rfl, rfl, State.valN_setN_int .., rfl, ?_⟩
    exact (SameDict.refl s _).putN (by simp) 4
  · refine ⟨_, next_of_eq (actionFireEff_freqAt hg ha hk hf), rfl, rfl, rfl, rfl, State.setIncrement_eff _ _, ?_, State.valN_setN_int .., rfl, rfl, ?_,
      ?_, rfl⟩
    · exact (State.valI_setN_other _ _ _ _ _ _ _ _ (by simp [Row.key, Obj.tod_action_arm, Obj.tod_freq_offset]; omega)).trans (State.valI_setN ..)
    · exact (SameEffs.refl s _).setEff (by simp) _
    · exact ((SameVals.refl s _).setN (r := Obj.tod_freq_offset) (by simp) _).setN (by simp) 2

/-! ### LEAP_APPLY (R92) -/

/-- The state in which a due leap has taken effect. -/
def State.leapTaken (s : State) (l : LeapReg) : State :=
  let u := s.endLeap l 2
  ({ u with tc := { u.tc with offsetOld := s.effI Obj.tod_utc_offset, lastLeap := some l } } : State).setEff Obj.tod_utc_offset 0 0 (.n l.newOff)

/-- A leap of the dictionary's values clears its configured objects as well. -/
def State.leapConfigured (s : State) (l : LeapReg) : State :=
  ((s.setCfg Obj.tod_utc_offset 0 0 (.n l.newOff)).setCfg Obj.tod_leap_pending 0 0 (.n 0)).setCfg Obj.tod_leap_time 0 0 (.n 0)

theorem leapApplyEff_due {s : State} {l : LeapReg} (hl : s.tc.outRegs.leap = some l) (ht : l.time ≤ s.tc.voted) :
    leapApplyEff s = if !l.gleaner then (s.leapTaken l).leapConfigured l else s.leapTaken l := by
  unfold leapApplyEff
  rw [hl]
  exact if_neg ht.not_gt

/-- What a due leap leaves in effect, and nothing else. -/
theorem State.leapTaken_spec (s : State) (l : LeapReg) :
    (s.leapTaken l).effI Obj.tod_utc_offset = l.newOff ∧ (s.leapTaken l).valN Obj.tod_leap_status = 2 ∧
      (s.leapTaken l).effI Obj.tod_leap_pending = 0 ∧ (s.leapTaken l).effI Obj.tod_leap_time = 0 ∧
      SameVals s (s.leapTaken l) [Obj.tod_leap_status.key 0 0] ∧
      SameEffs s (s.leapTaken l) [Obj.tod_utc_offset.key 0 0, Obj.tod_leap_pending.key 0 0, Obj.tod_leap_time.key 0 0] := by
  refine ⟨State.effI_setEff _ _ _ _ _ (by decide), State.valN_setN_int s Obj.tod_leap_status 2 0 0, ?_, ?_,
    (SameVals.refl s _).setN (r := Obj.tod_leap_status) (i := 0) (j := 0) (by simp) 2, ?_⟩
  · rw [State.leapTaken, State.effI_setEff_other _ _ _ _ _ _ _ _ (by decide)]
    exact (State.effI_setEff_other _ Obj.tod_leap_time Obj.tod_leap_pending _ _ _ _ _ (by decide)).trans (State.effI_setEff _ _ _ _ 0 (by decide))
  · rw [State.leapTaken, State.effI_setEff_other _ _ _ _ _ _ _ _ (by decide)]
    exact State.effI_setEff _ Obj.tod_leap_time _ _ 0 (by decide)
  · have h₁ := (SameEffs.refl s [Obj.tod_utc_offset.key 0 0, Obj.tod_leap_pending.key 0 0, Obj.tod_leap_time.key 0 0]).setEff
      (r := Obj.tod_leap_pending) (i := 0) (j := 0) (by simp) (.n 0)
    exact (h₁.setEff (r := Obj.tod_leap_time) (i := 0) (j := 0) (by simp) (.n 0)).setEff (by simp) _

/-- Settles O9: the leap's registers, then the objects in effect, then for the dictionary's own leap the configured ones. -/
theorem leapAppliesOffset : Obligations.LeapAppliesOffset := by
  refine ⟨fun s l hl ht hg => ?_, fun s l hl ht hg => ?_⟩
  · obtain ⟨hoff, hstat, hpend, htime, hvals, heffs⟩ := s.leapTaken_spec l
    refine ⟨(s.leapTaken l).leapConfigured l, next_of_eq ((leapApplyEff_due hl ht).trans (by simp [hg])), hoff, hstat, hpend, htime, ?_, ?_, ?_,
      rfl, rfl, rfl, hvals, heffs, ?_, rfl⟩
    · rw [State.cfgN, State.leapConfigured, State.cfg_setCfg_other _ _ _ _ _ _ _ _ (by decide), State.cfg_setCfg_other _ _ _ _ _ _ _ _ (by decide),
        State.cfg_setCfg, Val.num]
    · rw [State.cfgN, State.leapConfigured, State.cfg_setCfg_other _ _ _ _ _ _ _ _ (by decide), State.cfg_setCfg, Val.num]
    · rw [State.cfgN, State.leapConfigured, State.cfg_setCfg, Val.num]
    · have h₁ : SameCfgs s (s.leapTaken l) [Obj.tod_utc_offset.key 0 0, Obj.tod_leap_pending.key 0 0, Obj.tod_leap_time.key 0 0] :=
        SameCfgs.refl s _
      exact ((h₁.setCfg (r := Obj.tod_utc_offset) (by simp) _).setCfg (r := Obj.tod_leap_pending) (by simp) _).setCfg (by simp) _
  · obtain ⟨hoff, hstat, hpend, htime, hvals, heffs⟩ := s.leapTaken_spec l
    exact ⟨s.leapTaken l, next_of_eq ((leapApplyEff_due hl ht).trans (by simp [hg])), hoff, hstat, hpend, rfl, rfl, hvals, heffs, rfl⟩

end Sys2Proof.Machine

/-! SUPPORT. References: the history of a slot, qualification and eligibility. -/
namespace Sys2Proof.Machine

/-! ### The history of a slot (R159) -/

/-- A history bit changes nothing but the dictionary and, in the pins, IRQ_N. -/
theorem State.hist_eq (s : State) (n bit : Nat) :
    s.hist n bit = { s with dict := (s.hist n bit).dict, elec := { s.elec with irqN := (s.hist n bit).elec.irqN } } := by
  unfold State.hist
  dsimp only
  split
  · rfl
  · split <;> rfl

@[simp] theorem State.hist_slots (s : State) (n bit : Nat) : (s.hist n bit).slots = s.slots := by rw [State.hist_eq]
@[simp] theorem State.hist_slot (s : State) (n bit m : Nat) : (s.hist n bit).slot m = s.slot m := by
  simp [State.slot]
@[simp] theorem State.hist_tc (s : State) (n bit : Nat) : (s.hist n bit).tc = s.tc := by rw [State.hist_eq]
@[simp] theorem State.hist_dev (s : State) (n bit : Nat) : (s.hist n bit).dev = s.dev := by rw [State.hist_eq]
@[simp] theorem State.hist_sel (s : State) (n bit : Nat) : (s.hist n bit).sel = s.sel := by rw [State.hist_eq]
@[simp] theorem State.hist_hold (s : State) (n bit : Nat) : (s.hist n bit).hold = s.hold := by rw [State.hist_eq]
@[simp] theorem State.hist_win (s : State) (n bit : Nat) : (s.hist n bit).win = s.win := by rw [State.hist_eq]

/-- The objects a history bit may change: the slot's history and what waits on the interrupt. -/
theorem SameDict.hist {s t : State} {ks : List Nat} {n : Nat} (h : SameDict s t ks) (hk : Obj.ref_history.key n 0 ∈ ks)
    (hi : Obj.ref_irq_pending.key 0 0 ∈ ks) (bit : Nat) : SameDict s (t.hist n bit) ks := by
  unfold State.hist
  dsimp only
  split
  · exact h
  · split
    · exact (h.putN hk _).putN (i := 0) (j := 0) hi _
    · exact h.putN hk _

/-- The keys a history bit of slot `n` may change. -/
abbrev histKeys (n : Nat) : List Nat := [Obj.ref_history.key n 0, Obj.ref_irq_pending.key 0 0]

theorem State.hist_sameDict (s : State) (n bit : Nat) : SameDict s (s.hist n bit) (histKeys n) :=
  (SameDict.refl s _).hist (by simp) (by simp) bit

theorem ref_history_ne_irq_pending (n : Nat) (h : n < 24) : Obj.ref_history.key n 0 ≠ Obj.ref_irq_pending.key 0 0 := by
  simp [Row.key, Obj.ref_history, Obj.ref_irq_pending]; omega

/-- On an enabled slot the history reads with the bit, and with the bits it had. -/
theorem State.hist_history (s : State) (n bit : Nat) (hn : n < 24) (he : s.effT Obj.ref_enable n = true) :
    (s.hist n bit).valN Obj.ref_history n = s.valN Obj.ref_history n ||| 2 ^ bit := by
  have hset : ∀ h : Nat, h.testBit bit = true → h ||| 2 ^ bit = h := fun h hb =>
    Nat.eq_of_testBit_eq fun i => by
      rcases eq_or_ne bit i with rfl | hne
      · simp [hb]
      · simp [Nat.testBit_two_pow_of_ne hne]
  unfold State.hist
  dsimp only
  split
  · next hc =>
    rw [he] at hc
    simp only [Bool.not_true, Bool.or_false] at hc
    exact (hset _ hc).symm
  · split
    · exact (State.valN_setN_other _ Obj.ref_irq_pending Obj.ref_history _ 0 0 n 0 (ref_history_ne_irq_pending n hn)).trans
        (State.valN_setN s Obj.ref_history _ n 0)
    · exact State.valN_setN s Obj.ref_history _ n 0

theorem State.hist_testBit (s : State) (n bit : Nat) (hn : n < 24) (he : s.effT Obj.ref_enable n = true) :
    ((s.hist n bit).valN Obj.ref_history n).testBit bit = true := by
  simp [State.hist_history s n bit hn he]

/-- A bit the history has stays set when another one sets. -/
theorem State.hist_testBit_of (s : State) (n bit b : Nat) (hn : n < 24) (he : s.effT Obj.ref_enable n = true)
    (hb : (s.valN Obj.ref_history n).testBit b = true) : ((s.hist n bit).valN Obj.ref_history n).testBit b = true := by
  simp [State.hist_history s n bit hn he, hb]

@[simp] theorem State.hist_effT (s : State) (n bit : Nat) (r : Row) (i j : Nat) : (s.hist n bit).effT r i j = s.effT r i j := by
  obtain ⟨hc, he, -⟩ := s.hist_sameDict n bit
  simp [State.effT, State.effI, State.eff, State.cfg, hc, he]

theorem State.hist_valT_other (s : State) (n bit : Nat) (r : Row) (i j : Nat) (hk : r.key i j ∉ histKeys n) :
    (s.hist n bit).valT r i j = s.valT r i j := by
  simp only [State.valT, State.valI, (s.hist_sameDict n bit).val_eq (s.hist_dev n bit) hk]

/-! ### Qualification and eligibility (R130, R134) -/

/-- A slot that is qualified: its wait to restore starts on this cycle. -/
def State.markQualified (s : State) (n : Nat) : State :=
  (s.modSlot n fun x => { x with qualified := true, wtrStart := some s.tc.cyc, arbDisq := false }).hist n 4

theorem tod_first_lock_not_histKeys (n : Nat) (h : n < 24) : Obj.tod_first_lock.key 0 0 ∉ histKeys n := by
  simp [histKeys, Row.key, Obj.tod_first_lock, Obj.ref_history, Obj.ref_irq_pending]; omega

theorem State.gainQual_eq (s : State) (n : Nat) (hn : n < 24) (he : s.effT Obj.ref_enable n = true) (hp : (s.slot n).present = true)
    (hq : (s.slot n).qualified = false) (hg : s.passedO (s.slot n).goodSince (s.effN Obj.ref_qual_time n * oneSec) = true) :
    s.gainQual n = if s.valT Obj.tod_first_lock then s.markQualified n
      else ((s.markQualified n).modSlot n fun x => { x with eligible := true }).hist n 5 := by
  have hfl : (s.markQualified n).valT Obj.tod_first_lock = s.valT Obj.tod_first_lock :=
    State.hist_valT_other _ n 4 Obj.tod_first_lock 0 0 (tod_first_lock_not_histKeys n hn)
  unfold State.gainQual
  simp only [he, hp, hq, hg, Bool.not_false, Bool.and_self, if_true]
  rw [← hfl]
  rfl

theorem State.gainElig_eq (s : State) (n : Nat) (hq : (s.slot n).qualified = true) (he : (s.slot n).eligible = false)
    (hg : s.passedO (s.slot n).wtrStart (s.effN Obj.ref_wtr n * oneSec) = true) :
    s.gainElig n = (s.modSlot n fun x => { x with eligible := true }).hist n 5 := by
  simp [State.gainElig, hq, he, hg]

/-- Of the states `s` and `t`, `t` differs in slot `n`, its history and the interrupt only. -/
def SlotFrame (s t : State) (n : Nat) : Prop :=
  (∀ m : Nat, m ≠ n → t.slot m = s.slot m) ∧ t.elec = { s.elec with irqN := t.elec.irqN } ∧
    t = { s with slots := t.slots, dict := t.dict, elec := t.elec } ∧ SameDict s t (histKeys n)

theorem SlotFrame.refl (s : State) (n : Nat) : SlotFrame s s n := ⟨fun _ _ => rfl, rfl, rfl, SameDict.refl s _⟩

theorem SlotFrame.modSlot {s t : State} {n : Nat} (h : SlotFrame s t n) (f : Slot → Slot) : SlotFrame s (t.modSlot n f) n := by
  obtain ⟨hs, he, ht, hd⟩ := h
  exact ⟨fun m hm => by rw [State.modSlot_slot_other _ _ _ _ hm, hs m hm], he,
    (congrArg (fun x : State => x.modSlot n f) ht : _).trans rfl, hd⟩

theorem SlotFrame.hist {s t : State} {n : Nat} (h : SlotFrame s t n) (bit : Nat) : SlotFrame s (t.hist n bit) n := by
  obtain ⟨hs, he, ht, hd⟩ := h
  refine ⟨fun m hm => by rw [State.hist_slot, hs m hm], ?_, ?_, hd.hist (by simp) (by simp) bit⟩
  · rw [State.hist_eq, he]
  · rw [State.hist_eq, ht, he]

theorem SlotFrame.markQualified (s : State) (n : Nat) : SlotFrame s (s.markQualified n) n := ((SlotFrame.refl s n).modSlot _).hist 4

theorem State.markQualified_slot (s : State) (n : Nat) (hn : n < 24) :
    (s.markQualified n).slot n = { s.slot n with qualified := true, wtrStart := some s.tc.cyc, arbDisq := false } := by
  simp [State.markQualified, hn]

@[simp] theorem State.markQualified_effT (s : State) (n : Nat) (r : Row) (i j : Nat) : (s.markQualified n).effT r i j = s.effT r i j := by
  simp only [State.markQualified, State.hist_effT]
  rfl

theorem State.markQualified_testBit (s : State) (n : Nat) (hn : n < 24) (he : s.effT Obj.ref_enable n = true) :
    ((s.markQualified n).valN Obj.ref_history n).testBit 4 = true := State.hist_testBit _ n 4 hn he

/-- Settles O12, through what a history bit leaves unchanged. -/
theorem qualificationAndEligibility : Obligations.QualificationAndEligibility := by
  refine ⟨fun s n he hp hq hg => ?_, fun s n hq he hg => ?_⟩
  · have heq := s.gainQual_eq n.val n.isLt he hp hq hg
    have hs := s.markQualified_slot n.val n.isLt
    have hb := s.markQualified_testBit n.val n.isLt he
    cases hf : s.valT Obj.tod_first_lock
    · simp only [hf, Bool.false_eq_true, if_false] at heq
      obtain ⟨ho, hel, hfr, hd⟩ := ((SlotFrame.markQualified s n.val).modSlot fun x => { x with eligible := true }).hist 5
      exact ⟨_, next_of_eq heq, by simp [hs, n.isLt], by simp [hs, n.isLt], by simp [hs, n.isLt, hp],
        State.hist_testBit_of _ n.val 5 4 n.isLt ((State.markQualified_effT s n.val _ _ _).trans he) hb,
        fun _ => by simp [n.isLt], fun h => absurd h (by simp), ho, hel, hfr, hd⟩
    · simp only [hf, if_true] at heq
      obtain ⟨ho, hel, hfr, hd⟩ := SlotFrame.markQualified s n.val
      exact ⟨_, next_of_eq heq, by rw [hs], by rw [hs], by rw [hs]; exact hp, hb, fun h => absurd h (by simp), fun _ => by rw [hs], ho, hel, hfr, hd⟩
  · obtain ⟨ho, hel, hfr, hd⟩ := ((SlotFrame.refl s n.val).modSlot fun x => { x with eligible := true }).hist 5
    exact ⟨_, next_of_eq (s.gainElig_eq n.val hq he hg), by simp [n.isLt], fun hen => State.hist_testBit _ n.val 5 n.isLt hen, ho, hel, hfr, hd⟩

end Sys2Proof.Machine

/-! SUPPORT. References: input edges and the prediction of the next one. -/
namespace Sys2Proof.Machine

/-- A channel that takes an edge gives its event and starts its hold-off. -/
theorem State.takeEdge_eq (s : State) (c : Nat) (e : EdgeIn) (r : TicEv × Nat) (hok : s.edgeOk c e.rise = true) (hs : s.shut c = false)
    (hh : s.held c = false) (hf : (s.chan c).fencedN ≠ 2) (hk : e.k < 1152) (hc : s.convert c e.k = some r) :
    s.takeEdge c e = ((State.settleQuiet s s c).modChan c fun x => { x with lastEv := some s.tc.cyc }, some r) := by
  simp [State.takeEdge, hok, hs, hh, hf, hk, hc]

theorem State.shut_ref (s : State) (n : Nat) : s.shut (8 + n) = false := by simp [State.shut]

/-- Slot `n` after an accepted input edge that its divider counts as `k`. -/
def State.countEdge (s : State) (n k : Nat) : State := s.modSlot n fun x => { x with lastEdge := some s.tc.cyc, divCount := k }

theorem State.countEdge_slot (s : State) (n k : Nat) (hn : n < 24) :
    (s.countEdge n k).slot n = { s.slot n with lastEdge := some s.tc.cyc, divCount := k } := State.modSlot_slot s n _ hn

/-- An accepted edge below the divider only counts. -/
theorem refEdgeEff_count (s : State) (n : Nat) (e : EdgeIn) (hok : s.edgeOk (8 + n) e.rise = true)
    (hr : s.refHeld n (s.slot n).lastEdge = false) (hd : (s.slot n).divCount + 1 < s.effN Obj.ref_divider n) :
    refEdgeEff n e s = s.countEdge n ((s.slot n).divCount + 1) := by
  simp [refEdgeEff, State.countEdge, hok, hr, Nat.not_le.mpr hd]

/-- The state in which the channel of REFn has taken a divided edge. -/
def State.tookEdge (s : State) (n : Nat) : State :=
  (State.settleQuiet (s.countEdge n 0) (s.countEdge n 0) (8 + n)).modChan (8 + n) fun x => { x with lastEv := some s.tc.cyc }

/-- A divided edge that the channel takes is tested by its slot. -/
theorem refEdgeEff_feed (s : State) (n : Nat) (e : EdgeIn) (ev : TicEv) (i : Nat) (hok : s.edgeOk (8 + n) e.rise = true)
    (hr : s.refHeld n (s.slot n).lastEdge = false) (hd : s.effN Obj.ref_divider n ≤ (s.slot n).divCount + 1)
    (hh : s.held (8 + n) = false) (hf : (s.chan (8 + n)).fencedN ≠ 2) (hk : e.k < 1152) (hc : s.convert (8 + n) e.k = some (ev, i)) :
    refEdgeEff n e s = (s.tookEdge n).refFeed n ev.stamp := by
  have ht := (s.countEdge n 0).takeEdge_eq (8 + n) e (ev, i) hok (s.shut_ref n) hh hf hk hc
  simp only [refEdgeEff, hok, hr, hd, decide_true, Bool.not_true, Bool.or_self, Bool.false_eq_true, if_false, if_true]
  rw [show (s.modSlot n fun x => { x with lastEdge := some s.tc.cyc, divCount := 0 }) = s.countEdge n 0 from rfl, ht]
  rfl

/-- A measurement of REFn at stamp time `t`. -/
def State.measureEdge (s : State) (n : Nat) (st : Nat) : State :=
  s.addMeas n (s.newMeas (ofStamp128 st) (s.refOffset n (ofStamp128 st)) (stampFlags st))

/-- An edge in its window at a present slot re-anchors the prediction. -/
theorem State.refFeed_present (s : State) (n st : Nat) (p : Int) (he : s.effT Obj.ref_enable n = true) (hp : (s.slot n).present = true)
    (hpr : (s.slot n).pred = some p) (hw : 8 * (ofStamp128 st - p).natAbs ≤ (s.refPeriod n).natAbs) :
    s.refFeed n st = (s.measureEdge n st).modSlot n fun x => { x with missed := 0, pred := some (ofStamp128 st + s.refPeriod n) } := by
  simp [State.refFeed, State.measureEdge, he, hp, hpr, hw]

/-- The third expected edge of a slot makes it present. -/
theorem State.refFeed_third (s : State) (n st : Nat) (p : Int) (he : s.effT Obj.ref_enable n = true) (hp : (s.slot n).present = false)
    (hg : (s.slot n).good3 = 2) (hpr : (s.slot n).pred = some p) (hw : 8 * (ofStamp128 st - p).natAbs ≤ (s.refPeriod n).natAbs) :
    s.refFeed n st = (s.measureEdge n st).modSlot n fun x =>
      { x with good3 := 3, pred := some (ofStamp128 st + s.refPeriod n), missed := 0, present := true } := by
  simp [State.refFeed, State.measureEdge, he, hp, hg, hpr, hw]

/-- Past its window, an expected edge of a present slot is missing: once, or twice, which ends presence. -/
theorem refEdgeMissingEff_first (s : State) (n : Nat) (p : Int) (hp : (s.slot n).present = true) (hm : (s.slot n).missed = 0)
    (hpr : (s.slot n).pred = some p) (hl : p * 8 + s.refPeriod n < s.tod * 8) :
    refEdgeMissingEff n s = s.modSlot n fun x => { x with missed := x.missed + 1, pred := some (p + s.refPeriod n) } := by
  simp [refEdgeMissingEff, hp, hm, hpr, Int.not_le.mpr hl]

theorem refEdgeMissingEff_second (s : State) (n : Nat) (p : Int) (hp : (s.slot n).present = true) (hm : (s.slot n).missed = 1)
    (hpr : (s.slot n).pred = some p) (hl : p * 8 + s.refPeriod n < s.tod * 8) :
    refEdgeMissingEff n s = (s.modSlot n fun x => { x with present := false, good3 := 0, missed := 0, pred := none }).hist n 0 := by
  simp [refEdgeMissingEff, hp, hm, hpr, Int.not_le.mpr hl]

theorem State.tookEdge_slot (s : State) (n : Nat) (hn : n < 24) :
    (s.tookEdge n).slot n = { s.slot n with lastEdge := some s.tc.cyc, divCount := 0 } := s.countEdge_slot n 0 hn

theorem State.tookEdge_slot_other (s : State) (n m : Nat) (h : m ≠ n) : (s.tookEdge n).slot m = s.slot m := State.modSlot_slot_other s n _ m h

theorem State.tookEdge_chan_other (s : State) (n c : Nat) (h : c ≠ 8 + n) : (s.tookEdge n).chan c = s.chan c := by
  simp only [State.tookEdge, State.settleQuiet, State.modChan, State.chan, vat_vmod_other _ _ _ h]
  rfl

theorem State.measureEdge_slot (s : State) (n st : Nat) (hn : n < 24) :
    ∃ l, (s.measureEdge n st).slot n =
      { s.slot n with meas := s.newMeas (ofStamp128 st) (s.refOffset n (ofStamp128 st)) (stampFlags st) :: l } := by
  exact ⟨_, State.modSlot_slot s n _ hn⟩

theorem State.measureEdge_slot_other (s : State) (n st m : Nat) (h : m ≠ n) : (s.measureEdge n st).slot m = s.slot m :=
  State.modSlot_slot_other s n _ m h

/-- Settles O13. -/
theorem refEdgePrediction : Obligations.RefEdgePrediction := by
  refine ⟨fun s n e hok hr hd => ?count, fun s n e ev i p he hok hr hd hh hf hk hc hp hpr hw => ?anchored,
    fun s n e ev i p he hok hr hd hh hf hk hc hp hg hpr hw => ?third, fun s n p hp hm hpr hl => ?first, fun s n p hp hm hpr hl => ?second⟩
  case count =>
    have h8 : n.val < 24 := by omega
    have hs := s.countEdge_slot n.val ((s.slot n.val).divCount + 1) h8
    refine ⟨_, next_of_eq (refEdgeEff_count s n.val e hok hr hd), ?_, ?_, ?_, fun m hm => State.modSlot_slot_other _ _ _ m hm, rfl⟩
    all_goals rw [hs]
  case anchored =>
    have h8 : n.val < 24 := by omega
    have hs := s.tookEdge_slot n.val h8
    obtain ⟨l, hm⟩ := (s.tookEdge n.val).measureEdge_slot n.val ev.stamp h8
    have heq := (refEdgeEff_feed s n.val e ev i hok hr hd hh hf hk hc).trans
      ((s.tookEdge n.val).refFeed_present n.val ev.stamp p he (by rw [hs]; exact hp) (by rw [hs]; exact hpr) hw)
    refine ⟨_, next_of_eq heq, ?_, ?_, ?_, ?_, ?_, fun m hmn => ?_, rfl, s.tookEdge_chan_other n.val, rfl⟩
    · simp [h8, hm, hs, hp]
    · simp [h8]
    · simp [h8, hm, hs]
    · simp only [State.modSlot_slot _ _ _ h8]
      rfl
    · simp only [State.modSlot_slot _ _ _ h8, hm]
      rfl
    · rw [State.modSlot_slot_other _ _ _ _ hmn, State.measureEdge_slot_other _ _ _ _ hmn, State.tookEdge_slot_other _ _ _ hmn]
  case third =>
    have h8 : n.val < 24 := by omega
    have hs := s.tookEdge_slot n.val h8
    have heq := (refEdgeEff_feed s n.val e ev i hok hr hd hh hf hk hc).trans
      ((s.tookEdge n.val).refFeed_third n.val ev.stamp p he (by rw [hs]; exact hp) (by rw [hs]; exact hg) (by rw [hs]; exact hpr) hw)
    refine ⟨_, next_of_eq heq, ?_, ?_, fun m hmn => ?_, rfl, s.tookEdge_chan_other n.val, rfl⟩
    · simp [h8]
    · simp only [State.modSlot_slot _ _ _ h8]
      rfl
    · rw [State.modSlot_slot_other _ _ _ _ hmn, State.measureEdge_slot_other _ _ _ _ hmn, State.tookEdge_slot_other _ _ _ hmn]
  case first =>
    have h8 : n.val < 24 := by omega
    refine ⟨_, next_of_eq (refEdgeMissingEff_first s n.val p hp hm hpr hl), ?_, ?_, ?_, fun m hmn => State.modSlot_slot_other _ _ _ m hmn, rfl⟩
    all_goals simp [h8, hp, hm]
  case second =>
    have h8 : n.val < 24 := by omega
    obtain ⟨ho, hel, hfr, hd⟩ := ((SlotFrame.refl s n.val).modSlot fun x => { x with present := false, good3 := 0, missed := 0, pred := none }).hist 0
    exact ⟨_, next_of_eq (refEdgeMissingEff_second s n.val p hp hm hpr hl), by simp [h8], by simp [h8],
      fun hen => State.hist_testBit _ n.val 0 h8 hen, ho, hel, hfr, hd⟩

end Sys2Proof.Machine

/-! SUPPORT. References: the end of a transition, disputes, and the read of a history. -/
namespace Sys2Proof.Machine

/-! ### Rounding whole numbers -/

@[simp] theorem ratRound_int (k : Int) : ratRound (k : Rat) = k := by
  rw [ratRound, Rat.num_intCast, Rat.den_intCast]
  unfold roundDiv
  split <;> omega

theorem sumOf_singleton {α : Type} (a : α) (f : α → Rat) : sumOf [a] f = f a := by simp [sumOf]

theorem ratAbs_eq_abs (q : Rat) : ratAbs q = |q| := by
  unfold ratAbs
  split
  · next h => exact (abs_of_neg h).symm
  · next h => exact (abs_of_nonneg (not_lt.mp h)).symm

/-- An offset in units of 2⁻¹⁶ ns against a limit in ps. -/
theorem ratAbs_ps_le (x : Int) (l : Nat) : ratAbs ((x : Rat) * 1000 / 65536) ≤ l ↔ x.natAbs * 1000 ≤ l * 65536 := by
  have hx : |(x : Rat)| = (x.natAbs : Rat) := by rw [Nat.cast_natAbs, Int.cast_abs]
  rw [ratAbs_eq_abs, abs_div, abs_mul, hx, abs_of_pos (show (0 : Rat) < 65536 by norm_num), abs_of_pos (show (0 : Rat) < 1000 by norm_num),
    div_le_iff₀ (by norm_num)]
  exact_mod_cast Iff.rfl

/-! ### complete(c) of R145 -/

/-- The measurements of the target in the window of the transition. -/
abbrev State.transWindow (s : State) : List Meas :=
  (s.captured (s.valN Obj.ref_target)).filter fun m => decide (s.sel.transBegan ≤ m.tickAt)

/-- In the last tick of its window a transition completes, unless its outcome is staged. -/
theorem transitionCompleteEff_last (s : State) (hl : s.lastWindowTick = true) (ha : s.sel.staged.adopt = none) (hf : s.sel.staged.fail = none) :
    transitionCompleteEff s = s.completeTransition := by simp [transitionCompleteEff, hl, ha, hf]

theorem State.completeTransition_unfit (s : State) (he : (s.slot (s.valN Obj.ref_target)).eligible = false)
    (hf : s.effN Obj.ref_force ≠ s.valN Obj.ref_target) :
    s.completeTransition = s.stage fun o => { o with fail := some (s.valN Obj.ref_target) } := by
  simp [State.completeTransition, he, hf]

theorem State.completeTransition_freq (s : State) (he : (s.slot (s.valN Obj.ref_target)).eligible = true) (hw : s.transWindow ≠ [])
    (hq : s.isFreq (s.valN Obj.ref_target) = true) :
    s.completeTransition = s.stage fun o => { o with adopt := some (s.valN Obj.ref_target) } := by
  simp only [State.completeTransition, he, hq, Bool.true_or, Bool.not_true, Bool.false_or, List.isEmpty_eq_false_iff.mpr hw]
  rfl

/-- The state that knows the offset `x` (2⁻¹⁶ ns) of the target it adopts. -/
abbrev State.adopting (s : State) (x : Int) : State := { s with sel := { s.sel with adoptD := x } }

/-- A switch that fails on an offset beyond what a slew may take. -/
def State.failInconsistent (s : State) (c : Nat) : State :=
  let s' := (s.modSlot c fun x => { x.unqualify with inconsistent := true, consOk := false }).hist c 3
  (if (s.slot c).inconsistent then s' else s'.raise 226 { detail := c }).stage fun o => { o with fail := some c }

/-- With one measurement in the window its offset decides. -/
theorem State.completeTransition_time (s : State) (m : Meas) (he : (s.slot (s.valN Obj.ref_target)).eligible = true) (hw : s.transWindow = [m])
    (hq : s.isFreq (s.valN Obj.ref_target) = false) :
    s.completeTransition =
      if s.valN Obj.tod_state = 0 then (s.adopting m.x).stage fun o => { o with adopt := some (s.valN Obj.ref_target), step := some (m.x * 2 ^ 40) }
      else if s.effN Obj.tod_control = 1 then
        ((((s.adopting m.x).fitI64 m.x).1.setN Obj.servo_error ((s.adopting m.x).fitI64 m.x).2).stage fun o =>
          { o with adopt := some (s.valN Obj.ref_target) })
      else if s.servoStepOk && decide ((s.effN Obj.tod_step_threshold : Rat) < ratAbs ((m.x : Rat) * 1000 / 65536)) then
        (s.adopting m.x).stage fun o => { o with adopt := some (s.valN Obj.ref_target), step := some (m.x * 2 ^ 40) }
      else if m.x.natAbs * 1000 ≤ s.effN Obj.tod_slew_max * 65536 then
        (s.adopting m.x).stage fun o =>
          { o with adopt := some (s.valN Obj.ref_target), slewTo := some (ratRound ((m.x : Rat) * 1000 / 65536)) }
      else (s.adopting m.x).failInconsistent (s.valN Obj.ref_target) := by
  have hr : ratRound ((m.x : Rat) * 2 ^ 40) = m.x * 2 ^ 40 := by
    rw [← ratRound_int (m.x * 2 ^ 40)]; push_cast; rfl
  unfold State.completeTransition
  simp only [hw, he, hq, Bool.true_or, Bool.not_true, Bool.false_or, sumOf_singleton, List.length_singleton, Nat.cast_one, div_one, hr,
    ratRound_int, List.isEmpty_cons, Bool.false_eq_true, if_false, ratAbs_ps_le]
  rfl

theorem State.fitI64_fits (s : State) (v : Int) (hl : -(2 ^ 63) ≤ v) (hu : v < 2 ^ 63) : s.fitI64 v = (s, v) := by
  simp only [State.fitI64, hl, hu, and_self, if_true]

/-- What a switch that fails on a too large offset does to its target, when the target was not marked before. -/
theorem State.failInconsistent_eq (s : State) (c : Nat) (hi : (s.slot c).inconsistent = false) :
    s.failInconsistent c = (((s.modSlot c fun x => { x.unqualify with inconsistent := true, consOk := false }).hist c 3).raise 226 { detail := c }).stage
      fun o => { o with fail := some c } := by
  simp [State.failInconsistent, hi]

/-- The history of a slot is not what a raise writes. -/
theorem ref_history_ne_srcKey (n : Nat) (h : n < 24) : Obj.ref_history.key n 0 ∉ [srcKey 226] := by
  simp [Row.key, Obj.ref_history, srcKey, Obj.win_src_state]; omega

/-- A switch that fails on a too large offset: what it leaves, whole. -/
theorem State.failInconsistent_settles (s : State) (x : Int) (c : Nat) (hc : c < 24) (hr : CanRaise s 226)
    (r : State) (heq : r = ((((s.adopting x).modSlot c fun x => { x.unqualify with inconsistent := true, consOk := false }).hist c 3).raise 226
      { detail := c }).stage fun o => { o with fail := some c }) :
    ∃ t, (.next r : Host.Outcome State Fault Refusal) = .next t ∧
      t.sel.staged = { s.sel.staged with fail := some c } ∧
      t.slot c = { (s.slot c).unqualify with inconsistent := true, consOk := false } ∧
      (∀ k, k ≠ c → t.slot k = s.slot k) ∧
      Raised s t 226 { detail := c } ∧
      (s.effT Obj.ref_enable c = true → (t.valN Obj.ref_history c).testBit 3 = true) ∧
      t.elec = { s.elec with irqN := t.elec.irqN } ∧
      t = { s with sel := t.sel, slots := t.slots, win := t.win, dict := t.dict, elec := t.elec } ∧
      SameDict s t [srcKey 226, Obj.ref_history.key c 0, Obj.ref_irq_pending.key 0 0] := by
  obtain ⟨ho, hel, hu, hd⟩ := ((SlotFrame.refl (s.adopting x) c).modSlot fun x => { x.unqualify with inconsistent := true, consOk := false }).hist 3
  have hsl : ((((s.adopting x).modSlot c fun x => { x.unqualify with inconsistent := true, consOk := false }).hist c 3).slot c) =
      { (s.slot c).unqualify with inconsistent := true, consOk := false } := by rw [State.hist_slot, State.modSlot_slot _ _ _ hc]; rfl
  have hbit : s.effT Obj.ref_enable c = true → _ := State.hist_testBit
    ((s.adopting x).modSlot c fun x => { x.unqualify with inconsistent := true, consOk := false }) c 3 hc
  generalize (((s.adopting x).modSlot c fun x => { x.unqualify with inconsistent := true, consOk := false }).hist c 3) = u at *
  obtain ⟨sl, d, el, rfl⟩ : ∃ sl d el, u = { s.adopting x with slots := sl, dict := d, elec := el } := ⟨_, _, _, hu⟩
  obtain ⟨hraised, hrd, -⟩ := State.raise_taken { s.adopting x with slots := sl, dict := d, elec := el } 226 { detail := c } hr
  have hrf := State.raise_frame { s.adopting x with slots := sl, dict := d, elec := el } 226 { detail := c }
  generalize State.raise _ 226 { detail := c } = v at *
  obtain ⟨w, dv, rfl⟩ : ∃ w dv, v = { s.adopting x with slots := sl, dict := dv, elec := el, win := w } := ⟨_, _, hrf⟩
  have hval := hrd.valN_eq rfl (ref_history_ne_srcKey c hc)
  exact ⟨_, next_of_eq heq, rfl, hsl, ho, hraised, fun he => (congrArg (Nat.testBit · 3) hval).trans (hbit he), hel, rfl,
    SameDict.mono (SameDict.trans hd hrd) (by simp)⟩

/-- Settles O14: each clause is one branch of `completeTransition`. -/
theorem transitionCompletes : Obligations.TransitionCompletes := by
  refine ⟨fun s hl ha hf he hn => ?_, fun s hl ha hf he hw hq => ?_, fun s m hl ha hf he hw hq ht => ?_,
    fun s m hl ha hf he hw hq ht hc h1 h2 => ?_, fun s m hl ha hf he hw hq ht hc hs hm => ?_,
    fun s m hl ha hf he hw hq ht hc hs hm hlt hi hr => ?_⟩
  all_goals have heq := transitionCompleteEff_last s hl ha hf
  · exact ⟨_, next_of_eq (heq.trans (s.completeTransition_unfit he hn)), rfl, rfl⟩
  · exact ⟨_, next_of_eq (heq.trans (s.completeTransition_freq he hw hq)), rfl, rfl⟩
  all_goals rw [s.completeTransition_time m he hw hq] at heq
  · rw [if_pos ht] at heq
    exact ⟨_, next_of_eq heq, rfl, rfl, rfl⟩
  · rw [if_neg ht, if_pos hc, State.fitI64_fits _ _ h1 h2] at heq
    exact ⟨_, next_of_eq heq, rfl, State.valI_setN s Obj.servo_error m.x 0 0, rfl, (SameDict.refl s _).putN (r := Obj.servo_error) (i := 0) (j := 0) (by simp) m.x⟩
  · rw [if_neg ht, if_neg (by omega), hs, Bool.false_and, if_neg (by simp), if_pos hm] at heq
    exact ⟨_, next_of_eq heq, rfl, rfl⟩
  · rw [if_neg ht, if_neg (by omega), hs, Bool.false_and, if_neg (by simp), if_neg (by omega), State.failInconsistent_eq (s.adopting m.x) _ hi] at heq
    exact s.failInconsistent_settles m.x _ hlt hr _ heq

/-! ### Disputes (R154) -/

/-- The disputes but that of slots `a` and `b`. -/
abbrev State.withoutDispute (s : State) (a b : Nat) : State :=
  { s with sel := { s.sel with disputes := s.sel.disputes.filter fun d => !(d.a == min a b && d.b == max a b) } }

theorem disputeEndEff_eq (s : State) (a b : Nat)
    (h : (s.sel.disputes.any fun d => d.a == min a b && d.b == max a b && s.disputeOver d) = true) :
    disputeEndEff a b s = (s.withoutDispute a b).publishDisputes := by
  simp only [disputeEndEff, h, if_true]

/-- What the objects of the arbitration show. -/
theorem State.publishDisputes_spec (s : State) :
    s.publishDisputes = { s with dict := s.publishDisputes.dict } ∧
    SameDict s s.publishDisputes [Obj.ref_disputed.key 0 0, Obj.ref_arb_state.key 0 0] ∧
    (s.sel.disputes = [] → s.valN Obj.ref_arb_state = 2 → s.publishDisputes.valN Obj.ref_arb_state = 1) ∧
    (s.sel.disputes ≠ [] → s.publishDisputes.valN Obj.ref_arb_state = 2) := by
  have hne : Obj.ref_arb_state.key 0 0 ≠ Obj.ref_disputed.key 0 0 := by decide
  unfold State.publishDisputes
  simp only [State.valN_setN_other _ _ _ _ _ _ _ _ hne, List.isEmpty_map]
  split
  · next h =>
    have h : s.sel.disputes ≠ [] := by simpa using h
    exact ⟨rfl, ((SameDict.refl s _).putN (by simp) _).putN (by simp) _, fun h' => absurd h' h, fun _ => State.valN_setN _ Obj.ref_arb_state 2 0 0⟩
  · next h =>
    have h : s.sel.disputes = [] := by simpa using h
    split
    · exact ⟨rfl, ((SameDict.refl s _).putN (by simp) _).putN (by simp) _, fun _ _ => State.valN_setN _ Obj.ref_arb_state 1 0 0, fun h' => absurd h h'⟩
    · next h2 => exact ⟨rfl, (SameDict.refl s _).putN (by simp) _, fun _ h' => absurd h' h2, fun h' => absurd h h'⟩

/-! ### The read of a history (R159) -/

set_option maxRecDepth 100000 in
theorem objAt_ref_history (n : Fin 24) : objAt (Obj.ref_history.key n.val 0) = some { row := Obj.ref_history, i := n.val, j := 0 } := by
  fin_cases n <;> rfl

theorem keyOf_div_mod (k : Nat) : keyOf (k / 256) (k % 256) = k := by
  unfold keyOf; omega

/-- Out of RECOVERY the history of a slot is present. -/
theorem State.objPresent_ref_history (s : State) (n : Fin 24) (hr : s.boot.recovery = false) :
    s.objPresent (Obj.ref_history.key n.val 0 / 256) (Obj.ref_history.key n.val 0 % 256) = some { row := Obj.ref_history, i := n.val, j := 0 } := by
  have ha : s.absent { row := Obj.ref_history, i := n.val, j := 0 } = false := by
    fin_cases n <;> simp [State.absent, hr, ObjRef.key, hpAbsent, Row.key, Obj.ref_history]
  have hm : Obj.ref_history.key n.val 0 % 256 < 256 := Nat.mod_lt _ (by decide)
  simp only [State.objPresent, keyOf_div_mod, objAt_ref_history, ha, hm, decide_true, Bool.not_false, Bool.and_self, if_true]

theorem refHistoryReadEff_eq (s : State) (n : Fin 24) (hr : s.boot.recovery = false) :
    refHistoryReadEff n.val s =
      ((s.setVal Obj.ref_history n.val 0 (.n 0)).putPins).modGran fun g =>
        { g with lastRead := [(Obj.ref_history.key n.val 0, intBytes 2 (s.valI Obj.ref_history n.val))] } := by
  rw [refHistoryReadEff, State.internalRead, s.objPresent_ref_history n hr]
  rfl

/-- Settles O15. -/
theorem disputeAndHistory : Obligations.DisputeAndHistory := by
  refine ⟨fun s a b h => ?_, fun s n hr => ?_⟩
  · obtain ⟨hf, hd, h1, h2⟩ := (s.withoutDispute a.val b.val).publishDisputes_spec
    have hsel := congrArg State.sel hf
    refine ⟨_, next_of_eq (disputeEndEff_eq s a.val b.val h), hsel, fun he => h1 ?_, fun he => h2 ?_, ?_, hd⟩
    · exact hsel ▸ he
    · exact hsel ▸ he
    · rw [hsel]; exact hf
  · exact ⟨_, next_of_eq (refHistoryReadEff_eq s n hr), State.valN_setN s Obj.ref_history 0 n.val 0, rfl, rfl, rfl,
      (SameDict.refl s _).put (by simp) _⟩

end Sys2Proof.Machine

/-! SUPPORT. The vote: what a cycle without a step does when the three keepers agree, and when an upset makes one of them differ. -/
namespace Sys2Proof.Machine

/-! ### Folds over units that find nothing to do -/

theorem State.each_id {α : Type} (s : State) (f : State → α → State) : ∀ l : List α, (∀ a ∈ l, f s a = s) → s.each l f = s
  | [], _ => rfl
  | a :: l, h => by
    have hl : s.each l f = s := State.each_id s f l fun b hb => h b (List.mem_cons_of_mem a hb)
    show (f s a).each l f = s
    rw [h a List.mem_cons_self, hl]

theorem State.tiCycle_idle (s : State) (h : ∀ c, c < 8 → (s.chan c).fresh = none) : s.tiCycle = s :=
  s.each_id _ _ fun c hc => by simp [State.tiCandidate, h c (List.mem_range.mp hc)]

theorem State.takeLinks_idle (s : State) (h : ∀ p, p < 9 → (s.port p).taking = false) : s.takeLinks = s := by
  have hf : ((List.range 9).filter fun p => (s.port p).taking && !s.sending p) = [] :=
    List.filter_eq_nil_iff.mpr fun p hp => by simp [h p (List.mem_range.mp hp)]
  simp only [State.takeLinks, hf]

theorem State.markTod_eq (s : State) (j : Int) : ∃ l, s.markTod j = { s with tc := { s.tc with hist := l } } := by
  unfold State.markTod
  extract_lets src n put
  split
  · exact ⟨_, rfl⟩
  · split
    · exact ⟨_, rfl⟩
    · split <;> exact ⟨_, rfl⟩

/-! ### The rate that passes to the DPLLs (R221) -/

theorem State.modDpll_dpll (s : State) (d : Nat) (f : Dpll → Dpll) (h : d < 5) : (s.modDpll d f).dpll d = f (s.dpll d) :=
  vat_vmod_same _ _ _ _ h

theorem State.modDpll_dpll_other (s : State) (d e : Nat) (f : Dpll → Dpll) (h : e ≠ d) : (s.modDpll d f).dpll e = s.dpll e :=
  vat_vmod_other _ _ _ h

/-- DPLL `d` takes the rate `r` when it follows TODREF. -/
def State.takeRate (r : Int) (s : State) (d : Nat) : State :=
  if s.todref d && (s.dpll d).ff != r then s.modDpll d fun x => { x with ff := r } else s

theorem State.takeRate_frame (r : Int) (s : State) (d : Nat) : ∃ v, State.takeRate r s d = { s with dplls := v } := by
  unfold State.takeRate
  split <;> exact ⟨_, rfl⟩

theorem State.takeRate_todref (r : Int) (s : State) (d e : Nat) : (State.takeRate r s d).todref e = s.todref e := by
  obtain ⟨v, h⟩ := State.takeRate_frame r s d
  rw [h]; rfl

theorem State.takeRate_dpll (r : Int) (s : State) (d : Nat) (hd : d < 5) :
    (State.takeRate r s d).dpll d = if s.todref d then { s.dpll d with ff := r } else s.dpll d := by
  unfold State.takeRate
  cases ht : s.todref d
  · simp
  · by_cases hf : (s.dpll d).ff = r
    · rw [← hf]; simp
    · simp [hf, State.modDpll_dpll _ _ _ hd]

theorem State.takeRate_dpll_other (r : Int) (s : State) (d e : Nat) (h : e ≠ d) : (State.takeRate r s d).dpll e = s.dpll e := by
  unfold State.takeRate
  split
  · exact State.modDpll_dpll_other s d e _ h
  · rfl

theorem State.each_takeRate_frame (r : Int) (l : List Nat) : ∀ s : State, ∃ v, s.each l (State.takeRate r) = { s with dplls := v } := by
  induction l with
  | nil => exact fun s => ⟨s.dplls, rfl⟩
  | cons d l ih =>
    intro s
    obtain ⟨v, h⟩ := State.takeRate_frame r s d
    obtain ⟨w, hw⟩ := ih (State.takeRate r s d)
    exact ⟨w, hw.trans (by rw [h])⟩

/-- Every DPLL of the list that follows TODREF has the rate, the others are as before. -/
theorem State.each_takeRate_dpll (r : Int) (e : Nat) (l : List Nat) : ∀ s : State, (∀ d ∈ l, d < 5) → l.Nodup →
    (s.each l (State.takeRate r)).dpll e = if e ∈ l ∧ s.todref e = true then { s.dpll e with ff := r } else s.dpll e := by
  induction l with
  | nil => intro s _ _; simp [State.each]
  | cons d l ih =>
    intro s hl hn
    obtain ⟨hd, hn⟩ := List.nodup_cons.mp hn
    have h := ih (State.takeRate r s d) (fun x hx => hl x (List.mem_cons_of_mem d hx)) hn
    rw [State.takeRate_todref] at h
    refine (show _ = _ from h).trans ?_
    rcases eq_or_ne e d with rfl | hne
    · rw [State.takeRate_dpll r s e (hl e List.mem_cons_self)]
      simp [hd]
    · rw [State.takeRate_dpll_other r s d e hne]
      simp [hne]

/-- What a cycle without a step passes to the DPLLs. -/
theorem State.feedForward_dpll (s : State) (hs : s.tc.step = none) (e : Nat) :
    s.feedForward.dpll e = if 1 ≤ e ∧ e ≤ 4 ∧ s.todref e = true then
      { s.dpll e with ff := (s.tc.outRegs.inc : Int) + s.tc.outRegs.slewPart } else s.dpll e := by
  have h := State.each_takeRate_dpll ((s.tc.outRegs.inc : Int) + s.tc.outRegs.slewPart) e [1, 2, 3, 4] s (by decide) (by decide)
  have hff : s.feedForward = s.each [1, 2, 3, 4] (State.takeRate ((s.tc.outRegs.inc : Int) + s.tc.outRegs.slewPart)) := by
    unfold State.feedForward
    simp only [hs, Option.isSome_none, Bool.false_eq_true, if_false]
    rfl
  rw [hff, h]
  have : e ∈ [1, 2, 3, 4] ↔ 1 ≤ e ∧ e ≤ 4 := by simp; omega
  simp only [this, and_assoc]

theorem State.feedForward_frame (s : State) : ∃ v, s.feedForward = { s with dplls := v } := State.each_takeRate_frame _ _ s

/-! ### The cycle without a step -/

/-- The state in which the vote of a cycle without a step is taken. -/
def State.advanced (s : State) (ups : List KeeperUpset) : State := { s.feedForward with tc := s.tc.advance ups }

/-- A state whose boundary is due as its time of day has it. -/
def State.noteBoundary (s : State) : State := { s with tc := { s.tc with boundaryDue := decide (s.tc.nextGrid ≤ s.tc.voted) } }

/-- A cycle with no step, no candidate and no link to take down: the rate, the addition, the vote, the boundary, the mark. -/
theorem keeperCycleEff_eq (s : State) (ups : List KeeperUpset) (hr : s.cycleReady = true) (hs : s.tc.step = none)
    (hc : ∀ c, c < 8 → (s.chan c).fresh = none) (hp : ∀ p, p < 9 → (s.port p).taking = false)
    (hn : (s.advanced ups).runVote.net = s.net) :
    keeperCycleEff ups s = (s.advanced ups).runVote.noteBoundary.markTod 0 := by
  unfold keeperCycleEff
  rw [if_neg (by simp [hr]), s.tiCycle_idle hc]
  dsimp only
  rw [hs]
  simp only [Option.isSome_none, Bool.false_eq_true, if_false, Option.getD_none]
  rw [State.feedForward_tc]
  refine State.takeLinks_idle ((s.advanced ups).runVote.noteBoundary.markTod 0) fun p h => ?_
  obtain ⟨l, hl⟩ := State.markTod_eq (s.advanced ups).runVote.noteBoundary 0
  have hport : ((s.advanced ups).runVote.noteBoundary.markTod 0).net = s.net := by rw [hl]; exact hn
  rw [State.port, hport]
  exact hp p h

/-! ### The vote (R64) -/

theorem TimeCore.vote_unanimous (t : TimeCore) (h : KeepersAgree t) : t.voters = [0, 1, 2] ∧ t.vote = { out := 0 } := by
  obtain ⟨h1, h2, ht0, ht1, ht2, hf0, hf1, hf2⟩ := h
  have hv : t.voters = [0, 1, 2] := by simp [TimeCore.voters, TimeCore.keeper, ht0, ht1, ht2, hf0, hf1, hf2]
  refine ⟨hv, ?_⟩
  simp [TimeCore.vote, hv, TimeCore.keeper, h1, h2]

/-- A vote in which nobody differs gives the time of day. -/
theorem State.runVote_unanimous (s : State) (a : Nat) (hv : s.tc.voters ≠ []) (h : s.tc.vote = { out := a }) :
    s.runVote = { s with tc := { s.tc with voted := (s.tc.keeper a).regs.count } } := by
  unfold State.runVote
  simp [h, List.isEmpty_eq_false_iff.mpr hv, State.each, TimeCore.distrust]

/-- A vote in which one keeper differs gives the time of day, takes its trust and raises its source. -/
theorem State.runVote_single (s : State) (a b : Nat) (hv : s.tc.voters ≠ []) (h : s.tc.vote = { out := a, bad := [b] }) :
    s.runVote = State.raise { s with tc := { s.tc.modKeeper b (fun x => { x with trusted := false, newly := true }) with
      voted := (s.tc.keeper a).regs.count } } (216 + b) := by
  unfold State.runVote
  simp [h, List.isEmpty_eq_false_iff.mpr hv, State.each, TimeCore.distrust]
  unfold TimeCore.modKeeper
  split
  · rfl
  · split <;> rfl

theorem TimeCore.outRegs_agree (t : TimeCore) (h : KeepersAgree t) : t.outRegs = t.k0.regs := by
  simp [TimeCore.outRegs, (t.vote_unanimous h).2, TimeCore.keeper]

/-- Keepers that agree agree after the addition. -/
theorem TimeCore.advance_agree (t : TimeCore) (h : KeepersAgree t) : KeepersAgree (t.advance []) := by
  obtain ⟨h1, h2, ht0, ht1, ht2, hf0, hf1, hf2⟩ := h
  refine ⟨?_, ?_, ht0, ht1, ht2, hf0, hf1, hf2⟩
  · exact congrArg (KeeperRegs.advance · t.step) h1
  · exact congrArg (KeeperRegs.advance · t.step) h2

theorem TimeCore.advance_nextGrid (t : TimeCore) (h : KeepersAgree t) (hs : t.step = none)
    (hw : t.k0.regs.count + t.k0.regs.inc + t.k0.regs.slewPart < countU) : (t.advance []).nextGrid = t.nextGrid := by
  simp [TimeCore.advance, TimeCore.all, hs, t.outRegs_agree h, hw]

/-- The keeper that an upset of its count makes differ from the others. -/
abbrev countUpset (k : Fin 3) (e : Int) : KeeperUpset := { keeper := k, count := e }

theorem countUpset_apply (k : Fin 3) (e : Int) (r : KeeperRegs) : (countUpset k e).apply r = { r with count := (r.count + e) % countU } := by
  simp [KeeperUpset.apply]

/-- An upset that is no multiple of the count's range makes a keeper's registers differ. -/
theorem countUpset_ne (k : Fin 3) (e : Int) (he : e % countU ≠ 0) (r : KeeperRegs) (j : Option Int) :
    (countUpset k e).apply (r.advance j) ≠ r.advance j := by
  rw [countUpset_apply]
  intro h
  have hc : ((r.advance j).count + e) % countU = (r.advance j).count := congrArg KeeperRegs.count h
  have hm : (r.advance j).count % countU = (r.advance j).count := by cases j <;> exact Int.emod_emod _ _
  refine he ?_
  have h0 : ((r.advance j).count + e) % countU = ((r.advance j).count + 0) % countU := by rw [add_zero, hc, hm]
  exact Int.ModEq.add_left_cancel' (r.advance j).count h0

/-- Keepers that agreed, one of which an upset made differ: the registers after the addition. -/
theorem TimeCore.advance_upset (t : TimeCore) (k : Fin 3) (e : Int) (h : KeepersAgree t) :
    ((t.advance [countUpset k e]).keeper k.val).regs = (countUpset k e).apply (t.k0.regs.advance t.step) ∧
    (∀ m, m < 3 → m ≠ k.val → ((t.advance [countUpset k e]).keeper m).regs = t.k0.regs.advance t.step) ∧
    ∀ m, m < 3 → ((t.advance [countUpset k e]).keeper m).trusted = true ∧ ((t.advance [countUpset k e]).keeper m).failed = false := by
  obtain ⟨h1, h2, ht0, ht1, ht2, hf0, hf1, hf2⟩ := h
  have hm3 : ∀ m : Nat, m < 3 → m = 0 ∨ m = 1 ∨ m = 2 := by omega
  fin_cases k
  all_goals
    refine ⟨?_, fun m hm hne => ?_, fun m hm => ?_⟩
    · simp [TimeCore.advance, TimeCore.keeper, TimeCore.modKeeper, TimeCore.all, h1, h2]
    · rcases hm3 m hm with rfl | rfl | rfl <;> simp [TimeCore.advance, TimeCore.keeper, TimeCore.modKeeper, TimeCore.all, h1, h2] at hne ⊢
    · rcases hm3 m hm with rfl | rfl | rfl <;>
        simp [TimeCore.advance, TimeCore.keeper, TimeCore.modKeeper, TimeCore.all, ht0, ht1, ht2, hf0, hf1, hf2]

/-- One of three keepers that vote differs from the two others: it loses. -/
theorem TimeCore.vote_single (t : TimeCore) (k : Fin 3) (r : KeeperRegs) (hk : (t.keeper k.val).regs ≠ r)
    (hr : ∀ m, m < 3 → m ≠ k.val → (t.keeper m).regs = r) (hv : ∀ m, m < 3 → (t.keeper m).trusted = true ∧ (t.keeper m).failed = false) :
    t.voters = [0, 1, 2] ∧ ∃ a, a < 3 ∧ a ≠ k.val ∧ t.vote = { out := a, bad := [k.val] } := by
  have hvs : t.voters = [0, 1, 2] := by
    simp [TimeCore.voters, hv 0 (by omega), hv 1 (by omega), hv 2 (by omega)]
  refine ⟨hvs, ?_⟩
  unfold TimeCore.vote
  rw [hvs]
  fin_cases k
  · have h1 := hr 1 (by omega) (by simp)
    have h2 := hr 2 (by omega) (by simp)
    simp only at hk
    exact ⟨1, by omega, by simp, by simp [h1, h2, hk]⟩
  · have h0 := hr 0 (by omega) (by simp)
    have h2 := hr 2 (by omega) (by simp)
    simp only at hk
    exact ⟨0, by omega, by simp, by simp [h0, h2, Ne.symm hk]⟩
  · have h0 := hr 0 (by omega) (by simp)
    have h1 := hr 1 (by omega) (by simp)
    simp only at hk
    exact ⟨0, by omega, by simp, by simp [h0, h1, hk]⟩

/-- What the keepers of a cycle with one upset become once the vote is carried out. -/
theorem TimeCore.distrusted (t : TimeCore) (k : Fin 3) (v : Tod) (hd : Bool) (l : List TodMark) (m : Nat) (hm : m < 3) :
    ({ t.modKeeper k.val (fun x => { x with trusted := false, newly := true }) with voted := v, boundaryDue := hd, hist := l } : TimeCore).keeper m =
      if m = k.val then { t.keeper m with trusted := false, newly := true } else t.keeper m := by
  have hm3 : m = 0 ∨ m = 1 ∨ m = 2 := by omega
  fin_cases k <;> rcases hm3 with rfl | rfl | rfl <;> rfl

theorem State.advanced_eq (s : State) (ups : List KeeperUpset) :
    ∃ dp, s.feedForward.dplls = dp ∧ s.advanced ups = { s with dplls := dp, tc := s.tc.advance ups } := by
  obtain ⟨dp, hdp⟩ := s.feedForward_frame
  exact ⟨dp, by rw [hdp], by rw [State.advanced, hdp]⟩

/-- A time core whose vote found that keeper `k` differs, and gives `v`. -/
abbrev TimeCore.votedAgainst (t : TimeCore) (k : Nat) (v : Tod) : TimeCore :=
  { t.modKeeper k (fun x => { x with trusted := false, newly := true }) with voted := v }

/-- Settles O6. -/
theorem voteDistributesMajority : Obligations.VoteDistributesMajority := by
  refine ⟨fun s hr hs hag hc hp => ?agree, fun s k e hr hs hag he hcr hc hp => ?upset⟩
  case agree =>
    obtain ⟨dp, hdp, hadv⟩ := s.advanced_eq []
    have hdpll := s.feedForward_dpll hs
    simp only [State.dpll, hdp] at hdpll
    have hgrid := s.tc.advance_nextGrid hag hs
    have hag' := s.tc.advance_agree hag
    rw [s.tc.outRegs_agree hag] at hdpll
    have heq := keeperCycleEff_eq s [] hr hs hc hp
    rw [hadv] at heq
    generalize s.tc.advance [] = a at *
    obtain ⟨hv, hvote⟩ := a.vote_unanimous hag'
    have hrun := State.runVote_unanimous { s with dplls := dp, tc := a } 0 (by simp [hv]) hvote
    rw [hrun] at heq
    obtain ⟨l, hl⟩ := State.markTod_eq ({ s with dplls := dp, tc := { a with voted := (a.keeper 0).regs.count } } : State).noteBoundary 0
    exact ⟨_, next_of_eq ((heq rfl).trans hl), rfl, hag'.1, hag'.2.1, hag', decide_eq_true_iff, hgrid, hdpll, rfl⟩
  case upset =>
    obtain ⟨hk, ho, ht⟩ := s.tc.advance_upset k e hag
    have hne := countUpset_ne k e he s.tc.k0.regs s.tc.step
    rw [← hk] at hne
    have hcount := congrArg KeeperRegs.count (countUpset_apply k e (s.tc.k0.regs.advance s.tc.step))
    rw [← hk] at hcount
    obtain ⟨dp, hdp, hadv⟩ := s.advanced_eq [countUpset k e]
    have hdpll := s.feedForward_dpll hs
    simp only [State.dpll, hdp] at hdpll
    rw [s.tc.outRegs_agree hag] at hdpll
    have heq := keeperCycleEff_eq s [countUpset k e] hr hs hc hp
    rw [hadv] at heq
    generalize s.tc.advance [countUpset k e] = a at *
    generalize s.tc.k0.regs.advance s.tc.step = r at *
    obtain ⟨hv, m, hm, hmk, hvote⟩ := a.vote_single k r hne ho ht
    have hrun := State.runVote_single { s with dplls := dp, tc := a } m k.val (by simp [hv]) hvote
    rw [hrun] at heq
    rw [ho m hm hmk] at heq
    obtain ⟨hraised, hrd, -⟩ := State.raise_taken ({ s with dplls := dp, tc := a.votedAgainst k.val r.count } : State) (216 + k.val) {} hcr
    have hrf := State.raise_frame ({ s with dplls := dp, tc := a.votedAgainst k.val r.count } : State) (216 + k.val) {}
    generalize State.raise _ (216 + k.val) {} = v at *
    obtain ⟨w, dv, rfl⟩ : ∃ w dv, v = { s with dplls := dp, win := w, dict := dv, tc := a.votedAgainst k.val r.count } := ⟨_, _, hrf⟩
    obtain ⟨l, hl⟩ := State.markTod_eq ({ s with dplls := dp, win := w, dict := dv, tc := a.votedAgainst k.val r.count } : State).noteBoundary 0
    have hkeep := a.distrusted k r.count
    have h1 : (k.val + 1) % 3 < 3 ∧ (k.val + 1) % 3 ≠ k.val := by omega
    have h2 : (k.val + 2) % 3 < 3 ∧ (k.val + 2) % 3 ≠ k.val := by omega
    refine ⟨_, next_of_eq ((heq rfl).trans hl), ?_, ?_, ?_, ?_, ?_, hraised, hdpll, rfl, hrd⟩
    · refine Eq.trans ?_ (congrArg (fun x : Keeper => x.regs.count) (hkeep _ l _ h1.1)).symm
      rw [if_neg h1.2, ho _ h1.1 h1.2]; rfl
    · refine (congrArg Keeper.trusted (hkeep _ l _ k.isLt)).trans ?_
      rw [if_pos rfl]
    · refine (congrArg (fun x : Keeper => x.regs.count) (hkeep _ l _ k.isLt)).trans ?_
      rw [if_pos rfl]; exact hcount
    · refine (congrArg Keeper.trusted (hkeep _ l _ h1.1)).trans ?_
      rw [if_neg h1.2]; exact (ht _ h1.1).1
    · refine (congrArg Keeper.trusted (hkeep _ l _ h2.1)).trans ?_
      rw [if_neg h2.2]; exact (ht _ h2.1).1

end Sys2Proof.Machine

/-! SUPPORT. Loops: what their frequency rests on, the states they enter, and the counting of a lost lock. -/
namespace Sys2Proof.Machine

/-! ### What a state reads alike under a frame of the dictionary -/

theorem SameDict.eff_eq {s t : State} {ks : List Nat} (h : SameDict s t ks) (hd : t.dev = s.dev) (r : Row) (i j : Nat) :
    t.eff r i j = s.eff r i j := by
  obtain ⟨hc, he, -⟩ := h
  simp only [State.eff, State.cfg, hc, he, hd]

theorem SameDict.effI_eq {s t : State} {ks : List Nat} (h : SameDict s t ks) (hd : t.dev = s.dev) (r : Row) (i j : Nat) :
    t.effI r i j = s.effI r i j := congrArg Val.num (h.eff_eq hd r i j)

theorem SameDict.effN_eq {s t : State} {ks : List Nat} (h : SameDict s t ks) (hd : t.dev = s.dev) (r : Row) (i j : Nat) :
    t.effN r i j = s.effN r i j := congrArg Int.toNat (h.effI_eq hd r i j)

theorem SameDict.effT_eq {s t : State} {ks : List Nat} (h : SameDict s t ks) (hd : t.dev = s.dev) (r : Row) (i j : Nat) :
    t.effT r i j = s.effT r i j := by simp only [State.effT, h.effI_eq hd]

theorem SameDict.valI_eq {s t : State} {ks : List Nat} (h : SameDict s t ks) (hd : t.dev = s.dev) {r : Row} {i j : Nat} (hk : r.key i j ∉ ks) :
    t.valI r i j = s.valI r i j := congrArg Val.num (h.val_eq hd hk)

theorem SameDict.valT_eq {s t : State} {ks : List Nat} (h : SameDict s t ks) (hd : t.dev = s.dev) {r : Row} {i j : Nat} (hk : r.key i j ∉ ks) :
    t.valT r i j = s.valT r i j := by simp only [State.valT, h.valI_eq hd hk]

/-! ### The frequency of a loop -/

section
variable {s t : State} {ks : List Nat} {d : Nat}

theorem SameDict.lockedOrSlew_eq (h : SameDict s t ks) (hd : t.dev = s.dev) (hk : Obj.dpll_state.key d 0 ∉ ks) :
    t.lockedOrSlew d = s.lockedOrSlew d := by simp only [State.lockedOrSlew, State.dpllState, h.valN_eq hd hk]

theorem SameDict.todref_eq (h : SameDict s t ks) (hd : t.dev = s.dev) : t.todref d = s.todref d := by
  simp only [State.todref, h.effN_eq hd]

theorem SameDict.dcoNow_eq (h : SameDict s t ks) (hd : t.dev = s.dev) (hk : Obj.dpll_state.key d 0 ∉ ks) (hp : t.dpll d = s.dpll d)
    (hc : t.tc = s.tc) : t.dcoNow d = s.dcoNow d := by
  unfold State.dcoNow State.dpllState State.nsSince
  rw [h.valN_eq hd hk, h.effN_eq hd, hp, hc]

theorem SameDict.dcoTuned_eq (h : SameDict s t ks) (hd : t.dev = s.dev) (hk : Obj.dpll_state.key d 0 ∉ ks) (hp : t.dpll d = s.dpll d)
    (hc : t.tc = s.tc) : t.dcoTuned d = s.dcoTuned d := by
  simp only [State.dcoTuned, State.tuning, h.todref_eq hd, h.dcoNow_eq hd hk hp hc, hp]

end

/-! ### The state of a loop -/

/-- A loop that enters a state: what it reads then, and the lines of LOCK_PD. -/
theorem State.setDpll_eq (s : State) (d st : Nat) :
    ∃ l, s.setDpll d st = { s.setN Obj.dpll_state st d with elec := { s.elec with lockPd := l } } := ⟨_, rfl⟩

@[simp] theorem State.setDpll_dpllState (s : State) (d st : Nat) : (s.setDpll d st).dpllState d = st := State.valN_setN s Obj.dpll_state st d 0

theorem SameDict.setDpll {s t : State} {ks : List Nat} {d : Nat} (h : SameDict s t ks) (hk : Obj.dpll_state.key d 0 ∈ ks) (st : Nat) :
    SameDict s (t.setDpll d st) ks := h.putN hk _

/-- A counter of 32 bits. -/
theorem State.count_u32 (s : State) (r : Row) (i j : Nat) (hr : r.ty = .u32) :
    (s.count r i j).valN r i j = min (s.valN r i j + 1) (2 ^ 32 - 1) := by
  simp only [State.count, hr, Ty.width, satAdd, State.valN_setN_int]
  omega

theorem SameDict.count {s t : State} {ks : List Nat} (h : SameDict s t ks) {r : Row} {i j : Nat} (hk : r.key i j ∈ ks) (k : Nat) :
    SameDict s (t.count r i j k) ks := h.putN hk _

/-- Leaving LOCKED or SLEW counts a loss of lock, and nothing else changes. -/
theorem State.leaveLock_spec (s : State) (d : Nat) :
    ∃ di, s.leaveLock d = { s with dict := di } ∧ SameDict s (s.leaveLock d) [Obj.dpll_unlocks.key d 0] ∧
      (s.lockedOrSlew d = true → (s.leaveLock d).valN Obj.dpll_unlocks d = min (s.valN Obj.dpll_unlocks d + 1) (2 ^ 32 - 1)) ∧
      (s.lockedOrSlew d = false → (s.leaveLock d).valN Obj.dpll_unlocks d = s.valN Obj.dpll_unlocks d) := by
  unfold State.leaveLock
  cases h : s.lockedOrSlew d
  · exact ⟨_, rfl, SameDict.refl s _, fun h => absurd h (by simp), fun _ => rfl⟩
  · exact ⟨_, rfl, (SameDict.refl s _).count (by simp) 1, fun _ => s.count_u32 Obj.dpll_unlocks d 0 rfl, fun h => absurd h (by simp)⟩

/-- The record of a loop whose DCO is frozen. -/
abbrev State.frozenDpll (s : State) (d : Nat) : Dpll :=
  { s.dpll d with dco := s.dcoNow d, lastOk := false, frozen := some (if (s.dpll d).tunes.isEmpty then s.dcoTuned d else meanOf (s.dpll d).tunes), tunes := [] }

/-- What a loop that is frozen becomes, whole: HOLD, its mean tuning, a loss of lock counted. -/
theorem State.freeze_spec (s : State) (d : Nat) (hd : d < 5) :
    ∃ di l dp, s.freeze d = { s with dict := di, elec := { s.elec with lockPd := l }, dplls := dp } ∧
      (s.freeze d).dpll d = s.frozenDpll d ∧ (∀ m, m ≠ d → (s.freeze d).dpll m = s.dpll m) ∧
      (s.freeze d).dpllState d = 3 ∧
      (s.lockedOrSlew d = true → (s.freeze d).valN Obj.dpll_unlocks d = min (s.valN Obj.dpll_unlocks d + 1) (2 ^ 32 - 1)) ∧
      (s.lockedOrSlew d = false → (s.freeze d).valN Obj.dpll_unlocks d = s.valN Obj.dpll_unlocks d) ∧
      SameDict s (s.freeze d) [Obj.dpll_state.key d 0, Obj.dpll_unlocks.key d 0] := by
  obtain ⟨di, h, hs, h1, h2⟩ := s.leaveLock_spec d
  have hne : Obj.dpll_unlocks.key d 0 ≠ Obj.dpll_state.key d 0 := by simp [Row.key, Obj.dpll_unlocks, Obj.dpll_state]
  have hv (l : State) : (l.setDpll d 3).valN Obj.dpll_unlocks d = l.valN Obj.dpll_unlocks d := State.valN_setN_other l Obj.dpll_state _ 3 d 0 d 0 hne
  unfold State.freeze
  rw [h] at hs h1 h2 ⊢
  refine ⟨_, _, _, rfl, vat_vmod_same _ _ _ _ hd, fun m hm => vat_vmod_other _ _ _ hm, State.setDpll_dpllState _ d 3, fun hl => ?_, fun hl => ?_, ?_⟩
  · exact (hv _).trans (h1 hl)
  · exact (hv _).trans (h2 hl)
  · exact SameDict.setDpll (t := { s with dict := di, dplls := _ }) (hs.mono (by simp)) (by simp) 3

end Sys2Proof.Machine

/-! SUPPORT. Holdover: the loss and the return of the flywheel, the holdover increment, and phase hits. -/
namespace Sys2Proof.Machine

/-! ### FLYWHEEL_LOSS (R174) -/

/-- Slot 23 present no longer: what stands in its place, and what its history does. -/
def State.dropFly (s : State) : State :=
  (s.modSlot 23 fun x => { x.drop with present := false, good3 := 0, missed := 0, pred := none }).hist 23 0

theorem State.losePresence_fly (s : State) (h : (s.slot 23).present = true) : s.losePresence 23 = s.dropFly := by
  simp [State.losePresence, State.dropPath, State.dropFly, h]

theorem State.dropFly_frame (s : State) : SlotFrame s s.dropFly 23 := ((SlotFrame.refl s 23).modSlot _).hist 0

theorem State.dropFly_slot (s : State) : s.dropFly.slot 23 = { (s.slot 23).drop with present := false, good3 := 0, missed := 0, pred := none } := by
  simp [State.dropFly]

/-- DPLL-T holds its DCO. -/
def State.holdT (s : State) : State := (s.freeze 0).modDpll 0 fun d => { d with held := true }

theorem flywheelLossEff_eq (s : State) (hf : s.hold.timebaseFly = true) (ht : s.hold.typeAtStart ≠ 0) (hh : (s.dpll 0).held = false)
    (hp : (s.slot 23).present = true) :
    flywheelLossEff s = match s.dropFly.holdT.hold.seg with
      | some g => if g.regime = 3 then s.dropFly.holdT
        else (s.dropFly.holdT.closeSeg s.dropFly.holdT.tc.tickCyc).openSeg 1 s.dropFly.holdT.tc.tickCyc false s.dropFly.holdT.xoPar
      | none => s.dropFly.holdT := by
  have hl : s.flyLost = false := by simp only [State.flyLost, hf, Bool.true_and]; exact hh
  unfold flywheelLossEff
  rw [if_pos (by simp [hf, ht, hl]), s.losePresence_fly hp]
  rfl

/-- What a lost flywheel leaves, before the growth segment: whole. -/
theorem State.dropFly_holdT_spec (s : State) :
    ∃ sl di dp el, s.dropFly.holdT = { s with slots := sl, dict := di, dplls := dp, elec := el } ∧
      vat dp 0 {} = { s.frozenDpll 0 with held := true } ∧ s.dropFly.holdT.dpllState 0 = 3 ∧
      (s.lockedOrSlew 0 = true → s.dropFly.holdT.valN Obj.dpll_unlocks 0 = min (s.valN Obj.dpll_unlocks 0 + 1) (2 ^ 32 - 1)) ∧
      (s.lockedOrSlew 0 = false → s.dropFly.holdT.valN Obj.dpll_unlocks 0 = s.valN Obj.dpll_unlocks 0) ∧
      vat sl 23 {} = { (s.slot 23).drop with present := false, good3 := 0, missed := 0, pred := none } ∧
      (s.effT Obj.ref_enable 23 = true → (s.dropFly.holdT.valN Obj.ref_history 23).testBit 0 = true) ∧
      (∀ m : Nat, m ≠ 23 → vat sl m {} = s.slot m) ∧ (∀ m : Nat, m ≠ 0 → vat dp m {} = s.dpll m) ∧
      el = { s.elec with lockPd := el.lockPd, irqN := el.irqN } ∧
      SameDict s s.dropFly.holdT [Obj.ref_history.key 23 0, Obj.ref_irq_pending.key 0 0, Obj.dpll_state.key 0 0, Obj.dpll_unlocks.key 0 0] := by
  obtain ⟨ho, hel, hfr, hd⟩ := s.dropFly_frame
  have hsl := s.dropFly_slot
  have hbit : s.effT Obj.ref_enable 23 = true → _ := State.hist_testBit
    (s.modSlot 23 fun x => { x.drop with present := false, good3 := 0, missed := 0, pred := none }) 23 0 (by omega)
  change _ → (s.dropFly.valN Obj.ref_history 23).testBit 0 = true at hbit
  have hdev : s.dropFly.dev = s.dev := by rw [hfr]
  have hk1 : Obj.dpll_state.key 0 0 ∉ histKeys 23 := by decide
  have hk2 : Obj.dpll_unlocks.key 0 0 ∉ histKeys 23 := by decide
  have hlk := hd.lockedOrSlew_eq hdev hk1
  have hun := hd.valN_eq hdev hk2
  have hdp : s.dropFly.dpll 0 = s.dpll 0 := by rw [hfr]; rfl
  have htc : s.dropFly.tc = s.tc := by rw [hfr]
  have hfz : s.dropFly.frozenDpll 0 = s.frozenDpll 0 := by
    unfold State.frozenDpll
    rw [hd.dcoNow_eq hdev hk1 hdp htc, hd.dcoTuned_eq hdev hk1 hdp htc, hdp]
  obtain ⟨di, l, dp, h, h0, hm, h3, h1, h2, hds⟩ := s.dropFly.freeze_spec 0 (by omega)
  have hval : s.dropFly.holdT.valN Obj.ref_history 23 = s.dropFly.valN Obj.ref_history 23 :=
    hds.valN_eq (by rw [h]) (r := Obj.ref_history) (i := 23) (j := 0) (by decide)
  rw [hfz] at h0
  rw [hlk, hun] at h1 h2
  unfold State.holdT at *
  generalize s.dropFly.freeze 0 = v at *
  subst h
  generalize s.dropFly = u at *
  obtain ⟨sl, du, el, rfl⟩ : ∃ sl du el, u = { s with slots := sl, dict := du, elec := el } := ⟨_, _, _, hfr⟩
  refine ⟨_, _, _, _, rfl, ?_, h3, h1, h2, hsl, fun he => by rw [hval]; exact hbit he, ho, fun m hne => ?_, ?_, (hd.trans hds).mono (by simp)⟩
  · exact (vat_vmod_same dp 0 _ {} (by omega)).trans (congrArg (fun x : Dpll => { x with held := true }) h0)
  · exact (vat_vmod_other dp _ {} hne).trans (hm m hne)
  · exact congrArg (fun e : Elec => { e with lockPd := l }) hel

theorem SameDict.xoPar_eq {s t : State} {ks : List Nat} (h : SameDict s t ks) (hd : t.dev = s.dev) : t.xoPar = s.xoPar := by
  simp only [State.xoPar, h.effI_eq hd]

/-! ### FLYWHEEL_RESTORE (R175) -/

theorem flywheelRestoreEff_eq (s : State) (hf : s.hold.timebaseFly = false) (ht : s.hold.typeAtStart ≠ 0) (hq : (s.slot 23).qualified = true)
    (hs : s.sel.staged.toFly = false) (hp : s.passedO s.hold.flyQualSince (s.effN Obj.hold_fly_restore * oneSec) = true)
    (hc : coasting (s.valN Obj.hold_state) = false) : flywheelRestoreEff s = s.stage fun o => { o with toFly := true } := by
  unfold flywheelRestoreEff
  rw [if_pos (by simp [hf, ht, hq, hs, hp])]
  simp only [hc, Bool.false_and, Bool.false_eq_true, if_false, Option.none_or]

/-- Settles O16. -/
theorem flywheelLossAndRestore : Obligations.FlywheelLossAndRestore := by
  refine ⟨fun s hf ht hh hp hg => ?lost, fun s g hf ht hh hp hg hr => ?segment, fun s hf ht hq hs hp hc => ?restore⟩
  case lost =>
    have heq := flywheelLossEff_eq s hf ht hh hp
    obtain ⟨sl, di, dp, el, h, h0, h3, h1, h2, hsl, hb, ho, hm, hel, hd⟩ := s.dropFly_holdT_spec
    generalize s.dropFly.holdT = v at *
    subst h
    simp only [hg] at heq
    exact ⟨_, next_of_eq heq, h0, h3, h1, h2, hsl, hb, ho, hm, hel, rfl, hd⟩
  case segment =>
    have heq := flywheelLossEff_eq s hf ht hh hp
    obtain ⟨sl, di, dp, el, h, h0, h3, h1, h2, hsl, hb, ho, hm, hel, hd⟩ := s.dropFly_holdT_spec
    have hxo : s.dropFly.holdT.xoPar = s.xoPar := hd.xoPar_eq (by rw [h])
    rw [hxo] at heq
    generalize s.dropFly.holdT = v at *
    subst h
    simp only [hg, hr, if_false, State.closeSeg] at heq
    exact ⟨_, next_of_eq heq, h0, h3, h1, h2, hsl, hb, ho, hm, hel, by simp only [State.openSeg]; norm_num, rfl, hd⟩
  case restore => exact ⟨_, next_of_eq (flywheelRestoreEff_eq s hf ht hq hs hp hc), rfl, rfl⟩

/-! ### HOLDOVER_RATE_UPDATE (R172) -/

theorem holdoverRateEff_eq (s : State) (hc : coasting (s.valN Obj.hold_state) = true) (h0 : s.effN Obj.tod_control = 0)
    (he : s.hold.entry = true ∨ s.tc.tickNo = 0) (hl : s.flyLost = false) (hx : s.sel.staged.toXo = false) (hf : s.sel.staged.toFly = false) :
    holdoverRateEff s = s.stage fun o => { o with inc := some (holdInc s.holdF) } := by
  have he : (s.hold.entry || s.tc.tickNo == 0) = true := by simpa using he
  simp [holdoverRateEff, hc, h0, he, hl, hx, hf]

/-- Settles O17. -/
theorem holdoverRate : Obligations.HoldoverRate := by
  refine ⟨fun s hc h0 he hl hx hf => ?_, fun s hc h0 he hm ha hl hx hf => ?_, fun s hc => ⟨s, next_of_eq (by simp [holdoverRateEff, hc]), rfl⟩⟩
  · refine ⟨_, next_of_eq (holdoverRateEff_eq s hc h0 he hl hx hf), rfl, s.holdF, fun hm => ?_, fun a hm ha => ?_, fun hm ha => ?_, rfl, rfl⟩
    · simp [State.holdF, hm]
    · simp [State.holdF, hm, ha]
    · simp [State.holdF, hm, ha]
  · have hz : s.holdF = 0 := by simp [State.holdF, hm, ha]
    have hi : holdInc 0 = 0x0200000000000000 := by decide +kernel
    have heq := holdoverRateEff_eq s hc h0 (.inr he) hl hx hf
    rw [hz, hi] at heq
    exact ⟨_, next_of_eq heq, rfl, rfl⟩

/-! ### FLY_PPS_EDGE (R164) -/

/-- The error of an interval that ends now, ps. -/
abbrev State.ppsError (s : State) (fine l : Nat) : Nat := (((2000 * s.tc.cyc + fine : Nat) : Int) - l - 1000000000000).natAbs

/-- The edge noted. -/
abbrev State.notePps (s : State) (fine : Nat) : State := { s with hold := { s.hold with ppsLast := some (2000 * s.tc.cyc + fine) } }

theorem flyPpsEdgeEff_within (s : State) (fine l : Nat) (he : s.effT Obj.fly_pps_enable = true) (hf : s.hold.timebaseFly = true)
    (hl : s.hold.ppsLast = some l) (ht : s.ppsError fine l ≤ s.effN Obj.fly_pps_tol) : flyPpsEdgeEff fine s = s.notePps fine := by
  unfold flyPpsEdgeEff
  rw [if_pos (by simp [he, hf]), hl]
  exact if_neg (Nat.not_lt.mpr ht)

theorem flyPpsEdgeEff_hit (s : State) (fine l : Nat) (he : s.effT Obj.fly_pps_enable = true) (hf : s.hold.timebaseFly = true)
    (hl : s.hold.ppsLast = some l) (ht : s.effN Obj.fly_pps_tol < s.ppsError fine l) :
    flyPpsEdgeEff fine s = if ((s.notePps fine).raise 229).valN Obj.hold_state = 1 then (s.notePps fine).raise 229 else
      { (s.notePps fine).raise 229 with hold :=
        { ((s.notePps fine).raise 229).hold with hits := satScr (((s.notePps fine).raise 229).hold.hits + s.ppsError fine l) } } := by
  unfold flyPpsEdgeEff
  rw [if_pos (by simp [he, hf]), hl]
  exact if_pos ht

/-- Settles O19. -/
theorem phaseHits : Obligations.PhaseHits := by
  refine ⟨fun s fine l he hf hl ht => ⟨_, next_of_eq (flyPpsEdgeEff_within s fine l he hf hl ht), rfl, rfl⟩, fun s fine l he hf hl ht hr => ?_⟩
  have heq := flyPpsEdgeEff_hit s fine l he hf hl ht
  obtain ⟨hraised, hd, -⟩ := State.raise_taken (s.notePps fine) 229 {} hr
  have hrf := State.raise_frame (s.notePps fine) 229 {}
  have hval : ((s.notePps fine).raise 229).valN Obj.hold_state = s.valN Obj.hold_state := hd.valN_eq (by rw [hrf]) (by decide)
  rw [hval] at heq
  generalize (s.notePps fine).raise 229 {} = v at *
  obtain ⟨w, dv, rfl⟩ : ∃ w dv, v = { s.notePps fine with win := w, dict := dv } := ⟨_, _, hrf⟩
  split at heq
  · next h1 => exact ⟨_, next_of_eq heq, hraised, rfl, fun _ => rfl, fun h => absurd h1 h, rfl, hd⟩
  · next h1 => exact ⟨_, next_of_eq heq, hraised, rfl, fun h => absurd h h1, fun _ => rfl, rfl, hd⟩

end Sys2Proof.Machine

/-! SUPPORT. The scruple: the update that settles, and the end of a path guard. -/
namespace Sys2Proof.Machine

/-! ### The ports (R193, R210) -/

/-- S_p of port `p` over a scruple of the core. -/
abbrev State.portSum (s : State) (core p : Nat) : Nat := satScr (core + s.valN Obj.stamp_accuracy p + s.effN Obj.scr_dist_extra p + s.scr.g)

/-- S_p written for port `p`. -/
def State.publishPort (core : Nat) (s : State) (p : Nat) : State := s.setN Obj.scr_port (s.portSum core p : Nat) p

theorem State.portSum_publishPort (core : Nat) (s : State) (p q : Nat) (hq : q < 9) :
    (State.publishPort core s p).portSum core q = s.portSum core q := by
  have h : (State.publishPort core s p).valN Obj.stamp_accuracy q = s.valN Obj.stamp_accuracy q :=
    State.valN_setN_other s Obj.scr_port Obj.stamp_accuracy _ p 0 q 0 (by simp [Row.key, Obj.scr_port, Obj.stamp_accuracy]; omega)
  unfold State.portSum
  rw [h]
  rfl

/-- The ports below `n` served: each shows its sum, and nothing else changes. -/
theorem State.publishPorts_below (s : State) (core : Nat) : ∀ n, n ≤ 9 →
    ∃ di, s.each (List.range n) (State.publishPort core) = { s with dict := di } ∧
      SameDict s (s.each (List.range n) (State.publishPort core)) ((List.range n).map fun p => Obj.scr_port.key p 0) ∧
      (∀ q, q < 9 → (s.each (List.range n) (State.publishPort core)).portSum core q = s.portSum core q) ∧
      ∀ p, p < n → (s.each (List.range n) (State.publishPort core)).valN Obj.scr_port p = s.portSum core p := by
  intro n
  induction n with
  | zero => exact fun _ => ⟨_, rfl, SameDict.refl s _, fun _ _ => rfl, fun p hp => absurd hp (Nat.not_lt_zero p)⟩
  | succ n ih =>
    intro hn
    obtain ⟨di, he, hd, hs, hp⟩ := ih (by omega)
    have hsucc : s.each (List.range (n + 1)) (State.publishPort core) = State.publishPort core (s.each (List.range n) (State.publishPort core)) n := by
      simp [State.each, List.range_succ]
    rw [hsucc]
    generalize s.each (List.range n) (State.publishPort core) = u at *
    refine ⟨(State.publishPort core u n).dict, ?_, ?_, fun q hq => (State.portSum_publishPort core u n q hq).trans (hs q hq), fun p hpn => ?_⟩
    · rw [he]; rfl
    · rw [List.range_succ, List.map_append]
      exact (hd.mono fun k hk => List.mem_append_left _ hk).putN (by simp) _
    · rcases eq_or_ne p n with rfl | hne
      · exact (State.valN_setN u Obj.scr_port _ p 0).trans (hs p (by omega))
      · refine (State.valN_setN_other u Obj.scr_port Obj.scr_port _ n 0 p 0 ?_).trans (hp p (by omega))
        simp [Row.key, Obj.scr_port]; omega

/-! ### SETTLE_TIME_END (R203) -/

/-- The floors that began before the settling. -/
abbrev State.keptFloors (s : State) : List Floor := s.scr.floors.filter fun f => decide (s.scr.settleStart.getD 0 ≤ f.start)

/-- A settled update: S is R, the older floors are released, J is clear, and nothing else changes. -/
theorem State.settleTail_spec (s : State) :
    ∃ di, s.settleTail = { s with dict := di, scr := { s.scr with floors := s.keptFloors } } ∧
      s.settleTail.valI Obj.scr_value = s.valI Obj.scr_raw ∧ s.settleTail.valN Obj.scr_manual = 0 ∧
      s.settleTail.valN Obj.scr_floor = s.keptFloors.foldl (fun m f => max m f.f) 0 ∧
      SameDict s s.settleTail [Obj.scr_value.key 0 0, Obj.scr_manual.key 0 0, Obj.scr_floor.key 0 0] := by
  refine ⟨_, rfl, ?_, State.valN_setN _ Obj.scr_manual 0 0 0, ?_, ?_⟩
  · refine (State.valI_setN_other _ Obj.scr_manual Obj.scr_value _ 0 0 0 0 (by decide)).trans ?_
    refine (State.valI_setN_other _ Obj.scr_floor Obj.scr_value _ 0 0 0 0 (by decide)).trans ?_
    exact State.valI_setN s Obj.scr_value _ 0 0
  · refine (State.valN_setN_other _ Obj.scr_manual Obj.scr_floor _ 0 0 0 0 (by decide)).trans ?_
    exact State.valN_setN _ Obj.scr_floor _ 0 0
  · exact (((SameDict.refl s _).putN (r := Obj.scr_value) (i := 0) (j := 0) (by simp) _).putN (r := Obj.scr_floor) (i := 0) (j := 0) (by simp) _).putN
      (r := Obj.scr_manual) (i := 0) (j := 0) (by simp) _

theorem not_mem_scr_port_keys (r : Row) (h : r.key 0 0 / 256 ≠ 0x2220 := by decide) : r.key 0 0 ∉ (List.range 9).map fun p => Obj.scr_port.key p 0 := by
  simp only [List.mem_map, List.mem_range, not_exists, not_and]
  intro p hp he
  simp only [Row.key, Obj.scr_port] at he h
  omega

/-- Settles O21. -/
theorem scrupleSettles : Obligations.ScrupleSettles := by
  refine ⟨fun s hc hf => ?_, fun s hf => ⟨s, next_of_eq (by simp [settleTimeEndEff, hf]), rfl⟩⟩
  have heq : settleTimeEndEff s = s.settleTail.each (List.range 9) (State.publishPort (s.settleTail.valN Obj.scr_value)) := by
    unfold settleTimeEndEff
    rw [if_pos (by simp [hc, hf])]
    rfl
  obtain ⟨dt, ht, hv, hm, hfl, hdt⟩ := s.settleTail_spec
  obtain ⟨dp, hp, hdp, -, hport⟩ := s.settleTail.publishPorts_below (s.settleTail.valN Obj.scr_value) 9 (le_refl 9)
  have hcore : s.settleTail.valN Obj.scr_value = s.valN Obj.scr_raw := congrArg Int.toNat hv
  have hsum : ∀ p, p < 9 → s.settleTail.portSum (s.valN Obj.scr_raw) p = s.portSum (s.valN Obj.scr_raw) p := fun p hp9 => by
    have hd : s.settleTail.dev = s.dev := by rw [ht]
    have hg : s.settleTail.scr.g = s.scr.g := by rw [ht]
    have hk : Obj.stamp_accuracy.key p 0 ∉ [Obj.scr_value.key 0 0, Obj.scr_manual.key 0 0, Obj.scr_floor.key 0 0] := by
      simp [Row.key, Obj.stamp_accuracy, Obj.scr_value, Obj.scr_manual, Obj.scr_floor]; omega
    simp only [State.portSum, hdt.valN_eq hd hk, hdt.effN_eq hd, hg]
  rw [hcore] at heq hport hp hdp
  have hdev : (s.settleTail.each (List.range 9) (State.publishPort (s.valN Obj.scr_raw))).dev = s.settleTail.dev := by rw [hp]
  refine ⟨_, next_of_eq heq, ?_, ?_, ?_, ?_, fun p hp9 => ?_, hdt.trans hdp, ?_⟩
  · exact (hdp.valI_eq hdev (not_mem_scr_port_keys Obj.scr_value)).trans hv
  · exact (hdp.valN_eq hdev (not_mem_scr_port_keys Obj.scr_manual)).trans hm
  · rw [hp, ht]
  · rw [hdp.valN_eq hdev (not_mem_scr_port_keys Obj.scr_floor), hfl, hp, ht]
  · exact (hport p hp9).trans (hsum p hp9)
  · rw [hp, ht]

/-! ### PATH_GUARD_END (R206, R208) -/

theorem pathGuardEndEff_eq (s : State) (i : Nat) (h2 : s.valN Obj.scr_path_state i = 2)
    (hp : s.passedO (s.path i).guardFrom (s.effN Obj.scr_guard * oneSec) = true) (hh : s.scr.healthySince = none) :
    pathGuardEndEff i s =
      ((s.modPath i fun x => { x with guardFrom := none, delta := 0, during := [], before := [], suspects := [] }).modSlot (9 + i) fun x =>
        { x with held := none, pathStep := false }).setN Obj.scr_path_state 0 i := by
  simp [pathGuardEndEff, h2, hp, State.endGuard, hh]

/-- Settles O22. -/
theorem pathGuardEnds : Obligations.PathGuardEnds := by
  refine ⟨fun s i h2 hp hh => ?_, fun s i hp => ⟨s, next_of_eq (by simp [pathGuardEndEff, hp]), rfl⟩⟩
  refine ⟨_, next_of_eq (pathGuardEndEff_eq s i.val h2 hp hh), State.valN_setN _ Obj.scr_path_state 0 i.val 0, ?_, ?_, rfl,
    fun m hm => vat_vmod_other _ _ _ hm, fun m hm => vat_vmod_other _ _ _ hm, rfl, (SameDict.refl s _).putN (by simp) 0⟩
  · exact vat_vmod_same _ _ _ _ (by omega)
  · exact vat_vmod_same _ _ _ _ i.isLt

end Sys2Proof.Machine

/-! SUPPORT. Loops that close, declare lock, and report a lock that does not come. -/
namespace Sys2Proof.Machine

/-- The record of a loop that is tuned open-loop to its frequency in effect. -/
abbrev State.tunedDpll (s : State) (d : Nat) (x : Dpll) : Dpll :=
  { x with dco := s.effN Obj.dpll_dco_freq d, target := s.effN Obj.dpll_dco_freq d, retune := false, prop := 0, integ := 0, integ2 := 0, frozen := none }

/-- The record of a loop that is closed at B_acq. -/
abbrev State.acquiringDpll (s : State) (d : Nat) (x : Dpll) : Dpll :=
  { x with
    acqFrom := s.tc.cyc, timedOut := false, inWin := none, outRun := 0, lastOk := false, edgeOff := if d = 0 then x.edgeOff + x.lastE else 0
    bwNow := max (s.effN Obj.dpll_acq_bw d) (s.effN Obj.dpll_bw d) }

/-- A loop whose record changes as it enters a state: what it does, whole. -/
theorem State.modDpll_setDpll_spec (s : State) (d st : Nat) (f : Dpll → Dpll) (hd : d < 5) :
    ((s.modDpll d f).setDpll d st).dpllState d = st ∧
      ((s.modDpll d f).setDpll d st).dpll d = f (s.dpll d) ∧
      (∀ m : Nat, m ≠ d → ((s.modDpll d f).setDpll d st).dpll m = s.dpll m) ∧
      ((s.modDpll d f).setDpll d st).elec = { s.elec with lockPd := ((s.modDpll d f).setDpll d st).elec.lockPd } ∧
      (s.modDpll d f).setDpll d st = { s with
        dplls := ((s.modDpll d f).setDpll d st).dplls, elec := ((s.modDpll d f).setDpll d st).elec, dict := ((s.modDpll d f).setDpll d st).dict } ∧
      SameDict s ((s.modDpll d f).setDpll d st) [Obj.dpll_state.key d 0] :=
  ⟨State.setDpll_dpllState _ d st, vat_vmod_same _ _ _ _ hd, fun m hm => vat_vmod_other _ _ _ hm, rfl, rfl,
    SameDict.setDpll (t := s.modDpll d f) (SameDict.refl s _) (by simp) st⟩

/-- A loop tuned and closed: one change of its record. -/
theorem State.tune_acquire_eq (s : State) (d : Nat) :
    (s.tune d).acquire d = ((s.tune d).modDpll d (s.acquiringDpll d)).setDpll d 1 := rfl

/-- Two changes of one element are one. -/
theorem vmod_vmod {α : Type} {n : Nat} (v : Vector α n) (i : Nat) (f g : α → α) : vmod (vmod v i f) i g = vmod v i (g ∘ f) := by
  unfold vmod
  split
  · simp
  · rfl

theorem State.modDpll_modDpll (s : State) (d : Nat) (f g : Dpll → Dpll) : (s.modDpll d f).modDpll d g = s.modDpll d (g ∘ f) :=
  congrArg (fun v => { s with dplls := v }) (vmod_vmod s.dplls d f g)

theorem dpllAcquireEff_eq (s : State) (d : Nat) (h0 : s.dpllState d = 0) (hr : s.dpllRef d = true) :
    dpllAcquireEff d s = (s.modDpll d fun x => s.acquiringDpll d (s.tunedDpll d x)).setDpll d 1 := by
  unfold dpllAcquireEff
  rw [if_pos ⟨h0, hr⟩, s.tune_acquire_eq d]
  exact congrArg (State.setDpll · d 1) (s.modDpll_modDpll d (s.tunedDpll d) (s.acquiringDpll d))

theorem dpllLockEff_eq (s : State) (d : Nat) (h1 : s.dpllState d = 1) (hr : (s.dpll d).retune = false) (hf : s.freqDue d = false)
    (hp : s.passedO (s.dpll d).inWin (s.effN Obj.dpll_lock_time d * 1000000) = true) :
    dpllLockEff d s = (s.modDpll d fun x => { x with bwNow := s.effN Obj.dpll_bw d }).setDpll d 2 :=
  if_pos ⟨h1, by simp [hr], by simp [hf], hp⟩

theorem dpllLockEff_idle (s : State) (d : Nat) (h : (s.dpll d).retune = true ∨ s.freqDue d = true ∨ (s.dpll d).inWin = none) :
    dpllLockEff d s = s := by
  refine if_neg fun ⟨_, hr, hf, hp⟩ => ?_
  rcases h with h | h | h
  · simp [h] at hr
  · simp [h] at hf
  · simp [h, State.passedO] at hp

theorem dpllRelockTimeoutEff_eq (s : State) (d : Nat) (h1 : s.dpllState d = 1) (ht : (s.dpll d).timedOut = false)
    (hp : s.passed (s.dpll d).acqFrom (s.effN Obj.dpll_relock_max d * 1000000) = true) :
    dpllRelockTimeoutEff d s = (s.modDpll d fun x => { x with timedOut := true }).raise (238 + d) :=
  if_pos ⟨h1, by simp [ht], hp⟩

theorem dpll_state_ne_srcKey (d n : Nat) : Obj.dpll_state.key d 0 ∉ [srcKey n] := by
  simp [Row.key, Obj.dpll_state, srcKey, Obj.win_src_state]; omega

/-- Settles O23. -/
theorem dpllAcquiresAndLocks : Obligations.DpllAcquiresAndLocks := by
  refine ⟨fun s d h0 hr => ?acquire, fun s d h => ⟨s, next_of_eq (if_neg fun hc => ?idle), rfl⟩, fun s d h1 hr hf hp => ?lock,
    fun s d h => ⟨s, next_of_eq (dpllLockEff_idle s d.val h), rfl⟩, fun s d h1 ht hp hc => ?timeout⟩
  case acquire => exact ⟨_, next_of_eq (dpllAcquireEff_eq s d.val h0 hr), State.modDpll_setDpll_spec s d.val 1 _ d.isLt⟩
  case idle =>
    rcases h with h | h
    · exact h hc.1
    · simp [h] at hc
  case lock => exact ⟨_, next_of_eq (dpllLockEff_eq s d.val h1 hr hf hp), State.modDpll_setDpll_spec s d.val 2 _ d.isLt⟩
  case timeout =>
    obtain ⟨hraised, hd, -⟩ := State.raise_taken (s.modDpll d.val fun x => { x with timedOut := true }) (238 + d.val) {} hc
    have hrf := State.raise_frame (s.modDpll d.val fun x => { x with timedOut := true }) (238 + d.val) {}
    have heq := dpllRelockTimeoutEff_eq s d.val h1 ht hp
    have hst := hd.valN_eq (by rw [hrf]) (dpll_state_ne_srcKey d.val (238 + d.val))
    generalize (s.modDpll d.val fun x => { x with timedOut := true }).raise (238 + d.val) {} = v at *
    obtain ⟨w, dv, rfl⟩ : ∃ w dv, v = { s.modDpll d.val fun x => { x with timedOut := true } with win := w, dict := dv } := ⟨_, _, hrf⟩
    exact ⟨_, next_of_eq heq, hst.trans h1, vat_vmod_same _ _ _ _ d.isLt, fun m hm => vat_vmod_other _ _ _ hm, hraised, rfl, hd⟩

end Sys2Proof.Machine

/-! SUPPORT. Outputs: one output changed, a list of them changed, the gates of a loop; and a raise in whatever state Winnow is. -/
namespace Sys2Proof.Machine

/-! ### One output -/

theorem out_aligned_ne_out_state (o p : Nat) : Obj.out_aligned.key o 0 ≠ Obj.out_state.key p 0 := by
  simp [Row.key, Obj.out_aligned, Obj.out_state]; omega

/-- What `out.state` reads of an output. -/
def State.outCode (s : State) (o : Nat) (x : Output) : Nat := if x.running then 2 else if s.outOn o then 1 else 0

theorem SameDict.outOn_eq {s t : State} {ks : List Nat} (h : SameDict s t ks) (hd : t.dev = s.dev) (o : Nat) : t.outOn o = s.outOn o := by
  simp only [State.outOn, h.effT_eq hd, hd]

theorem SameDict.outSrc_eq {s t : State} {ks : List Nat} (h : SameDict s t ks) (hd : t.dev = s.dev) (o : Nat) : t.outSrc o = s.outSrc o := by
  simp only [State.outSrc, h.effN_eq hd]

theorem SameDict.outCode_eq {s t : State} {ks : List Nat} (h : SameDict s t ks) (hd : t.dev = s.dev) (o : Nat) (x : Output) :
    t.outCode o x = s.outCode o x := by simp only [State.outCode, h.outOn_eq hd]

/-- The objects of an output, written: what they read, and what else changes. -/
theorem State.putOut_spec (s : State) (o : Nat) :
    ∃ di, s.putOut o = { s with dict := di } ∧ SameDict s (s.putOut o) [Obj.out_state.key o 0, Obj.out_aligned.key o 0] ∧
      (o < 12 → (s.putOut o).valN Obj.out_state o = s.outCode o (s.out o)) ∧
      (o < 12 → (s.putOut o).valT Obj.out_aligned o = (s.out o).aligned) ∧ (¬ o < 12 → s.putOut o = s) := by
  unfold State.putOut
  by_cases h : o < 12
  · rw [if_pos h]
    refine ⟨_, rfl, ?_, fun _ => ?_, fun _ => ?_, fun h' => absurd h h'⟩
    · exact ((SameDict.refl s _).putN (r := Obj.out_state) (i := o) (j := 0) (by simp) _).put (r := Obj.out_aligned) (i := o) (j := 0) (by simp) _
    · refine (State.valN_setN_other _ Obj.out_aligned Obj.out_state _ o 0 o 0 (out_aligned_ne_out_state o o).symm).trans ?_
      refine (State.valN_setN_int s Obj.out_state _ o 0).trans ?_
      unfold State.outCode
      repeat' split
      all_goals simp_all
    · exact State.valT_setT _ Obj.out_aligned _ o 0
  · rw [if_neg h]
    exact ⟨_, rfl, SameDict.refl s _, fun h' => absurd h' h, fun h' => absurd h' h, fun _ => rfl⟩

/-- Of the outputs, those of the list are changed by `f`, and the objects that show them follow; nothing else changes. -/
structure OutsMod (s t : State) (l : List Nat) (f : Output → Output) : Prop where
  frame : ∃ ou di, t = { s with outs := ou, dict := di }
  dict : SameDict s t (outKeysOf l)
  out : ∀ o, o ∈ l → t.out o = f (s.out o)
  other : ∀ o, o ∉ l → t.out o = s.out o
  state : ∀ o, o < 12 → o ∈ l → t.valN Obj.out_state o = s.outCode o (f (s.out o))
  aligned : ∀ o, o < 12 → o ∈ l → t.valT Obj.out_aligned o = (f (s.out o)).aligned

theorem State.modOut_outsMod (s : State) (o : Nat) (f : Output → Output) (ho : o < 13) : OutsMod s (s.modOut o f) [o] f := by
  obtain ⟨di, h, hd, h1, h2, -⟩ := State.putOut_spec { s with outs := vmod s.outs o f } o
  have hx : State.out { s with outs := vmod s.outs o f } o = f (s.out o) := vat_vmod_same _ _ _ _ ho
  rw [hx] at h1 h2
  have hout (m : Nat) : (s.modOut o f).out m = vat (vmod s.outs o f) m {} := congrArg (fun t : State => t.out m) h
  refine ⟨⟨_, _, h⟩, hd, fun m hm => ?_, fun m hm => ?_, fun m hm hl => ?_, fun m hm hl => ?_⟩
  · rw [List.mem_singleton.mp hm, hout]; exact hx
  · rw [hout]; exact vat_vmod_other _ _ _ (by simpa using hm)
  · obtain rfl := List.mem_singleton.mp hl; exact h1 hm
  · obtain rfl := List.mem_singleton.mp hl; exact h2 hm

theorem outKeysOf_cons (o : Nat) (l : List Nat) : outKeysOf (o :: l) = [Obj.out_state.key o 0, Obj.out_aligned.key o 0] ++ outKeysOf l := rfl

/-- The keys of an output are those of no other. -/
theorem not_mem_outKeysOf {o : Nat} {l : List Nat} (h : o ∉ l) (hl : ∀ m ∈ l, m < 13) :
    Obj.out_state.key o 0 ∉ outKeysOf l ∧ Obj.out_aligned.key o 0 ∉ outKeysOf l := by
  simp only [outKeysOf, List.mem_flatMap, List.mem_cons, List.not_mem_nil, or_false, not_exists, not_and, not_or]
  refine ⟨fun m hm => ?_, fun m hm => ?_⟩
  all_goals
    have h1 := hl m hm
    have h2 : o ≠ m := fun e => h (e ▸ hm)
    simp only [Row.key, Obj.out_state, Obj.out_aligned]
    omega

theorem OutsMod.cons {s t u : State} {o : Nat} {l : List Nat} {f : Output → Output} (h : OutsMod s t [o] f) (h' : OutsMod t u l f)
    (hn : o ∉ l) (ho : ∀ m ∈ l, m < 13) : OutsMod s u (o :: l) f := by
  obtain ⟨ou, di, ht⟩ := h.frame
  obtain ⟨ou', di', hu⟩ := h'.frame
  have hdt : t.dev = s.dev := by rw [ht]
  have hdu : u.dev = t.dev := by rw [hu]
  have hst (m : Nat) (hm : m ≠ o) : t.out m = s.out m := h.other m (by simpa using hm)
  refine ⟨⟨ou', di', by rw [hu, ht]⟩, h.dict.trans h'.dict, fun m hm => ?_, fun m hm => ?_, fun m h12 hm => ?_, fun m h12 hm => ?_⟩
  · rcases List.mem_cons.mp hm with rfl | hm
    · rw [h'.other _ hn, h.out _ (by simp)]
    · rw [h'.out _ hm, hst m fun e => hn (e ▸ hm)]
  · obtain ⟨h1, h2⟩ := not_or.mp (mt List.mem_cons.mpr hm)
    rw [h'.other _ h2, hst m h1]
  · rcases List.mem_cons.mp hm with rfl | hm
    · rw [h'.dict.valN_eq hdu (not_mem_outKeysOf hn ho).1, h.state _ h12 (by simp)]
    · rw [h'.state _ h12 hm, hst m fun e => hn (e ▸ hm), h.dict.outCode_eq hdt]
  · rcases List.mem_cons.mp hm with rfl | hm
    · rw [h'.dict.valT_eq hdu (not_mem_outKeysOf hn ho).2, h.aligned _ h12 (by simp)]
    · rw [h'.aligned _ h12 hm, hst m fun e => hn (e ▸ hm)]

/-- A list of outputs changed, one after the other. -/
theorem State.each_modOut (f : Output → Output) (l : List Nat) : ∀ s : State, l.Nodup → (∀ o ∈ l, o < 13) →
    OutsMod s (s.each l fun s o => s.modOut o f) l f := by
  induction l with
  | nil =>
    exact fun s _ _ => ⟨⟨s.outs, s.dict, rfl⟩, SameDict.refl s _, fun o h => absurd h (by simp), fun _ _ => rfl, fun o _ h => absurd h (by simp),
      fun o _ h => absurd h (by simp)⟩
  | cons o l ih =>
    intro s hn hl
    obtain ⟨ho, hn⟩ := List.nodup_cons.mp hn
    have hl' : ∀ m ∈ l, m < 13 := fun m hm => hl m (List.mem_cons_of_mem o hm)
    exact (s.modOut_outsMod o f (hl o List.mem_cons_self)).cons (ih (s.modOut o f) hn hl') ho hl'

/-! ### The gates of a loop (R235) -/

/-- The record of an output with a gate. -/
abbrev Output.gated (x : Output) : Output := { x with gating := true }

/-- Gates change the outputs of the list that run, and no others. -/
theorem State.each_gate (l : List Nat) : ∀ s : State, l.Nodup → (∀ o ∈ l, o < 13) →
    s.each l State.gate = s.each (l.filter fun o => (s.out o).running) fun s o => s.modOut o Output.gated := by
  induction l with
  | nil => exact fun _ _ _ => rfl
  | cons o l ih =>
    intro s hn hl
    obtain ⟨ho, hn⟩ := List.nodup_cons.mp hn
    have hl' : ∀ m ∈ l, m < 13 := fun m hm => hl m (List.mem_cons_of_mem o hm)
    have hrun : ∀ m ∈ l, ((s.gate o).out m).running = (s.out m).running := fun m hm => by
      unfold State.gate
      split
      · rw [(s.modOut_outsMod o Output.gated (hl o List.mem_cons_self)).other m (by simp; exact fun e => ho (e ▸ hm))]
      · rfl
    have heq : (l.filter fun m => ((s.gate o).out m).running) = l.filter fun m => (s.out m).running :=
      List.filter_congr hrun
    refine (ih (s.gate o) hn hl').trans ?_
    rw [heq]
    cases hr : (s.out o).running
    · simp [State.gate, hr]
    · simp [State.gate, hr, State.each]

theorem State.mem_dependents_lt (s : State) (d : Nat) : ∀ o ∈ s.dependents d, o < 13 := fun o h =>
  List.mem_range.mp (List.mem_filter.mp h).1

theorem State.dependents_nodup (s : State) (d : Nat) : (s.dependents d).Nodup := List.nodup_range.filter _

theorem State.mem_runsOn_lt (s : State) (d : Nat) : ∀ o ∈ s.runsOn d, o < 13 := fun o h => List.mem_range.mp (List.mem_filter.mp h).1

/-- Of the outputs on a loop those that run are those that run on it. -/
theorem State.dependents_running (s : State) (d : Nat) : ((s.dependents d).filter fun o => (s.out o).running) = s.runsOn d := by
  unfold State.dependents State.runsOn
  rw [List.filter_filter]
  refine List.filter_congr fun o _ => ?_
  cases (s.out o).running <;> simp

/-- No output runs on DPLL-T. -/
theorem State.runsOn_zero (s : State) : s.runsOn 0 = [] := List.filter_eq_nil_iff.mpr fun o _ => by simp

/-- Every output that runs on a loop gets a gate, and nothing else changes. -/
theorem State.gateAll_spec (s : State) (d : Nat) : OutsMod s (s.gateAll d) (s.runsOn d) Output.gated := by
  rcases eq_or_ne d 0 with rfl | hd
  · rw [s.runsOn_zero]
    exact State.each_modOut Output.gated [] s List.nodup_nil (by simp)
  · have h : s.gateAll d = s.each (s.runsOn d) fun s o => s.modOut o Output.gated := by
      rw [State.gateAll, if_neg hd, State.each_gate _ s (s.dependents_nodup d) (s.mem_dependents_lt d), s.dependents_running]
    rw [h]
    exact State.each_modOut Output.gated _ s (List.nodup_range.filter _) (s.mem_runsOn_lt d)

/-! ### A raise in whatever state Winnow is (R509, R514, R516) -/

theorem State.srcBits_sameDict (s : State) (n m : Nat) : SameDict s (s.srcBits n m) [srcKey n] := (SameDict.refl s _).putN (by simp [srcKey]) _

theorem State.raise_sameDict (s : State) (n : Nat) (i : FaultInfo) : SameDict s (s.raise n i) (raiseKeys n) := by
  have hm : SameDict s (s.markRaised n) (raiseKeys n) := SameDict.mono (s.markRaised_spec n).2.2.2.2.2 (by simp [raiseKeys])
  have hl : SameDict s (s.lose n) (raiseKeys n) := by
    have h (v w : Int) : SameDict s ((s.setN Obj.win_lost v).setN Obj.win_status w) (raiseKeys n) :=
      ((SameDict.refl s (raiseKeys n)).putN (by simp [raiseKeys]) v).putN (by simp [raiseKeys]) w
    unfold State.lose
    dsimp only
    split
    · exact h _ _
    · exact h _ _
  unfold State.raise
  split
  · exact SameDict.refl s _
  · split
    · split
      · exact hm
      · exact hl
    · split
      · exact hm
      · exact hm

/-- What a raise does to Winnow rests on Winnow, the configuration in effect and the present boundary. -/
theorem SameDict.raise_win {s t : State} {ks : List Nat} (h : SameDict s t ks) (hd : t.dev = s.dev) (hw : t.win = s.win)
    (hb : t.tc.boundaries = s.tc.boundaries) (n : Nat) (i : FaultInfo) : (t.raise n i).win = (s.raise n i).win := by
  have hh : t.holds n = s.holds n := by simp only [State.holds, State.mask, State.severity, h.effN_eq hd]
  have hm : (t.markRaised n).win = (s.markRaised n).win := by
    simp only [State.markRaised, State.modSrc, State.srcBits, State.setN, State.setVal, hw, hb]
  have hl : (t.lose n).win = (s.lose n).win := by
    unfold State.lose
    split
    · simp only [State.modSrc, State.setN, State.setVal, hw]
    · exact hw
  unfold State.raise
  rw [hw, hh]
  split
  · exact hw
  · split
    · split
      · simp only [hm]
      · exact hl
    · split
      · exact hm
      · simp only [hm]

end Sys2Proof.Machine

/-! SUPPORT. Loops that lose lock or change frequency: the outputs on a loop gated, the retune that waits for them, and the loss raised. -/
namespace Sys2Proof.Machine

/-! ### The outputs of a loop, gated -/

/-- The outputs of a list, all running, have a gate; the objects that show them follow. -/
structure Gated (s t : State) (l : List Nat) : Prop where
  out : ∀ o, o ∈ l → t.out o = { s.out o with gating := true }
  other : ∀ o, o ∉ l → t.out o = s.out o
  state : ∀ o, o < 12 ∧ o ∈ l → t.valN Obj.out_state o = 2
  aligned : ∀ o, o < 12 ∧ o ∈ l → t.valT Obj.out_aligned o = (s.out o).aligned

theorem State.running_of_mem_runsOn {s : State} {d o : Nat} (h : o ∈ s.runsOn d) : (s.out o).running = true := by
  simp only [State.runsOn, List.mem_filter, Bool.and_eq_true] at h
  exact h.2.1

theorem State.outCode_running (s : State) (o : Nat) (x : Output) (h : x.running = true) : s.outCode o x = 2 := by simp [State.outCode, h]

theorem OutsMod.gated {s t : State} {d : Nat} (h : OutsMod s t (s.runsOn d) Output.gated) : Gated s t (s.runsOn d) where
  out := h.out
  other := h.other
  state o ho := (h.state o ho.1 ho.2).trans (s.outCode_running o _ (State.running_of_mem_runsOn ho.2))
  aligned o ho := h.aligned o ho.1 ho.2

/-- What leaves the outputs and the objects that show them leaves them gated. -/
theorem Gated.keep {s t u : State} {l ks : List Nat} (h : Gated s t l) (ho : u.outs = t.outs) (hd : SameDict t u ks) (hdev : u.dev = t.dev)
    (hk : ∀ o, o < 12 → Obj.out_state.key o 0 ∉ ks ∧ Obj.out_aligned.key o 0 ∉ ks) : Gated s u l := by
  have hout (o : Nat) : u.out o = t.out o := by simp only [State.out, ho]
  exact ⟨fun o hl => (hout o).trans (h.out o hl), fun o hl => (hout o).trans (h.other o hl),
    fun o hl => (hd.valN_eq hdev (hk o hl.1).1).trans (h.state o hl), fun o hl => (hd.valT_eq hdev (hk o hl.1).2).trans (h.aligned o hl)⟩

/-- A gate is against what an output was before, whatever else has changed since. -/
theorem Gated.base {s s' t : State} {l : List Nat} (h : Gated s' t l) (ho : s'.outs = s.outs) : Gated s t l := by
  have hout (o : Nat) : s'.out o = s.out o := by simp only [State.out, ho]
  exact ⟨fun o hl => (h.out o hl).trans (by rw [hout]), fun o hl => (h.other o hl).trans (hout o), h.state,
    fun o hl => (h.aligned o hl).trans (by rw [hout])⟩

/-- A second gate on an output changes nothing more. -/
theorem Gated.trans {s t u : State} {l : List Nat} (h : Gated s t l) (h' : Gated t u l) : Gated s u l where
  out o hl := by rw [h'.out o hl, h.out o hl]
  other o hl := (h'.other o hl).trans (h.other o hl)
  state := h'.state
  aligned o hl := (h'.aligned o hl).trans (by rw [h.out o hl.2])

/-- Gates do not change which outputs run on a loop. -/
theorem Gated.runsOn_eq {s t : State} {l : List Nat} (h : Gated s t l) (e : Nat) : t.runsOn e = s.runsOn e := by
  have hx (o : Nat) : (t.out o).running = (s.out o).running ∧ (t.out o).src = (s.out o).src := by
    by_cases ho : o ∈ l
    · rw [h.out o ho]; exact ⟨rfl, rfl⟩
    · rw [h.other o ho]; exact ⟨rfl, rfl⟩
  simp only [State.runsOn, hx]

theorem State.runsOn_congr {s t : State} (h : t.outs = s.outs) (d : Nat) : t.runsOn d = s.runsOn d := by
  simp only [State.runsOn, State.out, h]

/-- An output on a loop runs exactly when one runs on it. -/
theorem State.any_dependents_running (s : State) (d : Nat) : ((s.dependents d).any fun o => (s.out o).running) = !(s.runsOn d).isEmpty := by
  rw [← s.dependents_running, Bool.eq_iff_iff]
  simp [List.filter_eq_nil_iff]

/-! ### The retune (R236) -/

/-- With no output on a loop there is none to gate. -/
theorem State.gateAll_quiet (s : State) (d : Nat) (h : s.runsOn d = []) : s.gateAll d = s := by
  unfold State.gateAll
  split
  · rfl
  · rw [State.each_gate _ s (s.dependents_nodup d) (s.mem_dependents_lt d), s.dependents_running, h]
    rfl

/-- A retune that outputs make wait: they are gated. -/
theorem State.askRetune_waits (s : State) (d : Nat) (h : s.runsOn d ≠ []) :
    s.askRetune d = (s.gateAll d).modDpll d fun x => { x with retune := true } := by
  have hr : ((s.gateAll d).modDpll d fun x => { x with retune := true }).runsOn d = s.runsOn d := (s.gateAll_spec d).gated.runsOn_eq d
  unfold State.askRetune State.tuneQuiet
  rw [State.any_dependents_running, hr]
  simp [h]

/-- A retune that nothing makes wait is made at once. -/
theorem State.askRetune_quiet (s : State) (d : Nat) (hd : d < 5) (h : s.runsOn d = []) : s.askRetune d = s.modDpll d (s.tunedDpll d) := by
  have hr : (s.modDpll d fun x => { x with retune := true }).runsOn d = [] := h
  have hx : ((s.modDpll d fun x => { x with retune := true }).dpll d).retune = true := by rw [State.modDpll_dpll _ _ _ hd]
  unfold State.askRetune State.tuneQuiet
  rw [s.gateAll_quiet d h, State.any_dependents_running, hr, hx]
  exact s.modDpll_modDpll d (fun x => { x with retune := true }) (s.tunedDpll d)

/-! ### Keys of outputs, loops and sources -/

theorem out_keys_not_mem_raiseKeys (n o : Nat) (ho : o < 12) :
    Obj.out_state.key o 0 ∉ raiseKeys n ∧ Obj.out_aligned.key o 0 ∉ raiseKeys n := by
  simp [raiseKeys, srcKey, Row.key, Obj.out_state, Obj.out_aligned, Obj.win_src_state, Obj.win_lost, Obj.win_status]; omega

theorem out_keys_not_mem_dpll (d o : Nat) :
    Obj.out_state.key o 0 ∉ [Obj.dpll_state.key d 0, Obj.dpll_unlocks.key d 0] ∧
      Obj.out_aligned.key o 0 ∉ [Obj.dpll_state.key d 0, Obj.dpll_unlocks.key d 0] := by
  simp [Row.key, Obj.out_state, Obj.out_aligned, Obj.dpll_state, Obj.dpll_unlocks]; omega

theorem dpll_keys_not_mem_raiseKeys (n d : Nat) :
    Obj.dpll_state.key d 0 ∉ raiseKeys n ∧ Obj.dpll_unlocks.key d 0 ∉ raiseKeys n := by
  simp [raiseKeys, srcKey, Row.key, Obj.dpll_state, Obj.dpll_unlocks, Obj.win_src_state, Obj.win_lost, Obj.win_status]; omega

theorem dpll_keys_not_mem_outKeysOf (d : Nat) (l : List Nat) (hl : ∀ o ∈ l, o < 13) :
    Obj.dpll_state.key d 0 ∉ outKeysOf l ∧ Obj.dpll_unlocks.key d 0 ∉ outKeysOf l := by
  simp only [outKeysOf, List.mem_flatMap, List.mem_cons, List.not_mem_nil, or_false, not_exists, not_and, not_or]
  refine ⟨fun m hm => ?_, fun m hm => ?_⟩
  all_goals
    have h1 := hl m hm
    simp only [Row.key, Obj.dpll_state, Obj.dpll_unlocks, Obj.out_state, Obj.out_aligned]
    omega

/-! ### A loss of lock raised, with the outputs gated -/

/-- What a raise shows when it is taken. -/
theorem State.raise_shown (s : State) (n : Nat) (i : FaultInfo) (h : CanRaise s n) :
    (s.raise n i).win.now = s.win.now ++ [(n, i)] ∧ (vat (s.raise n i).win.srcs n {}).active = true := by
  obtain ⟨⟨-, h1, h2, -⟩, -⟩ := s.raise_taken n i h
  exact ⟨h1, h2⟩

/-- Gates and a raise, whole. -/
theorem State.gateAll_raise_spec (s : State) (d n : Nat) :
    ∃ ou w di, (s.gateAll d).raise n = { s with outs := ou, win := w, dict := di } ∧ Gated s ((s.gateAll d).raise n) (s.runsOn d) ∧
      w = (s.raise n {}).win ∧ SameDict s ((s.gateAll d).raise n) (raiseKeys n ++ outKeysOf (s.runsOn d)) := by
  have hg := s.gateAll_spec d
  have hgd := hg.dict
  have hga := hg.gated
  obtain ⟨ou, di, h⟩ := hg.frame
  rw [h] at hgd hga ⊢
  have hrd := State.raise_sameDict { s with outs := ou, dict := di } n {}
  have hrf := State.raise_frame { s with outs := ou, dict := di } n {}
  have hw := hgd.raise_win rfl rfl rfl n {}
  refine ⟨ou, _, _, hrf, hga.keep (by rw [hrf]) hrd (by rw [hrf]) fun o ho => out_keys_not_mem_raiseKeys n o ho, hw, ?_⟩
  exact (hgd.trans hrd).mono fun k hk => by simp only [List.mem_append] at hk ⊢; exact hk.symm

/-- A loop closed at B_acq, after what made it lose its lock: the state it enters, its record, and what else stays. -/
theorem State.acquire_spec (s w : State) (d : Nat) (l ks : List Nat) (hd : d < 5) (hg : Gated s w l) (hs : SameDict s w ks) (hdev : w.dev = s.dev)
    (htc : w.tc = s.tc) (hel : w.elec = s.elec) :
    (w.acquire d).dpllState d = 1 ∧ (w.acquire d).dpll d = s.acquiringDpll d (w.dpll d) ∧ (∀ m, m ≠ d → (w.acquire d).dpll m = w.dpll m) ∧
      (w.acquire d).elec = { s.elec with lockPd := (w.acquire d).elec.lockPd } ∧
      (w.acquire d).valN Obj.dpll_unlocks d = w.valN Obj.dpll_unlocks d ∧ Gated s (w.acquire d) l ∧
      SameDict s (w.acquire d) (Obj.dpll_state.key d 0 :: ks) ∧
      w.acquire d = { w with dplls := (w.acquire d).dplls, elec := (w.acquire d).elec, dict := (w.acquire d).dict } := by
  obtain ⟨h1, hx, hm, he, hfr, hsd⟩ := w.modDpll_setDpll_spec d 1 (w.acquiringDpll d) hd
  have hacq : w.acquiringDpll d (w.dpll d) = s.acquiringDpll d (w.dpll d) := by simp only [State.acquiringDpll, hs.effN_eq hdev, htc]
  have hun : Obj.dpll_unlocks.key d 0 ∉ [Obj.dpll_state.key d 0] := by simp [Row.key, Obj.dpll_unlocks, Obj.dpll_state]
  refine ⟨h1, hx.trans hacq, hm, he.trans (by rw [hel]; rfl), hsd.valN_eq rfl hun, ?_, ?_, hfr⟩
  · exact hg.keep rfl hsd rfl fun o _ => ⟨fun h => (out_keys_not_mem_dpll d o).1 (List.mem_cons.mpr (.inl (List.mem_singleton.mp h))),
      fun h => (out_keys_not_mem_dpll d o).2 (List.mem_cons.mpr (.inl (List.mem_singleton.mp h)))⟩
  · exact (hs.trans hsd).mono fun k hk => by simp only [List.mem_append, List.mem_singleton] at hk; exact List.mem_cons.mpr hk.symm

end Sys2Proof.Machine

/-! SUPPORT. DPLL_UNLOCK, DPLL_REF_LOSS, DPLL_REF_RETURN, DCO_SPARE_IN, and the changes of a frequency. -/
namespace Sys2Proof.Machine

/-! ### DPLL_UNLOCK (R226, R228) -/

/-- The state of a loop that has lost its lock, before it re-acquires. -/
def State.unlocked (s : State) (d : Nat) : State :=
  (((s.leaveLock d).gateAll d).raise (233 + d)).modDpll d fun x => { x with dco := s.dcoNow d }

theorem dpllUnlockEff_eq (s : State) (d : Nat) (hl : s.lockedOrSlew d = true) (ho : s.effN Obj.dpll_unlock_count d ≤ (s.dpll d).outRun) :
    dpllUnlockEff d s = (if s.dpllState d == 4 then (s.unlocked d).askRetune d else s.unlocked d).acquire d := by
  unfold dpllUnlockEff
  rw [if_pos (by simp [hl, ho])]
  rfl

/-- A lost lock: it is counted and raised, the outputs on the loop are gated, the DCO keeps its present frequency. -/
theorem State.unlocked_spec (s : State) (d : Nat) (hl : s.lockedOrSlew d = true) :
    ∃ ou w di, s.unlocked d = { s with outs := ou, win := w, dict := di, dplls := vmod s.dplls d fun x => { x with dco := s.dcoNow d } } ∧
      Gated s (s.unlocked d) (s.runsOn d) ∧ RaisedAs s (s.unlocked d) (233 + d) {} ∧
      (s.unlocked d).valN Obj.dpll_unlocks d = min (s.valN Obj.dpll_unlocks d + 1) (2 ^ 32 - 1) ∧
      SameDict s (s.unlocked d) ([Obj.dpll_unlocks.key d 0] ++ (raiseKeys (233 + d) ++ outKeysOf (s.runsOn d))) := by
  obtain ⟨d1, h1, hs1, hc, -⟩ := s.leaveLock_spec d
  obtain ⟨ou, w, di, h, hg, hw, hs⟩ := (s.leaveLock d).gateAll_raise_spec d (233 + d)
  have hrun : (s.leaveLock d).runsOn d = s.runsOn d := State.runsOn_congr (by rw [h1]) d
  have hwin : ((s.leaveLock d).raise (233 + d) {}).win = (s.raise (233 + d) {}).win := hs1.raise_win (by rw [h1]) (by rw [h1]) (by rw [h1]) _ _
  have hun : Obj.dpll_unlocks.key d 0 ∉ raiseKeys (233 + d) ++ outKeysOf ((s.leaveLock d).runsOn d) := by
    rw [List.mem_append, not_or]
    exact ⟨(dpll_keys_not_mem_raiseKeys _ d).2, (dpll_keys_not_mem_outKeysOf d _ (State.mem_runsOn_lt _ d)).2⟩
  have hval := hs.valN_eq (by rw [h]) hun
  rw [hrun] at hg hs
  have hgs := hg.base (s := s) (by rw [h1])
  have hcs := hval.trans (hc hl)
  have hds := hs1.trans hs
  unfold State.unlocked
  generalize ((s.leaveLock d).gateAll d).raise (233 + d) = v at *
  generalize s.leaveLock d = u at *
  subst h1
  subst h
  exact ⟨ou, w, di, rfl, ⟨hgs.out, hgs.other, hgs.state, hgs.aligned⟩, hw.trans hwin, hcs, hds⟩

theorem State.lockedOrSlew_of_locked {s : State} {d : Nat} (h : s.dpllState d = 2 ∨ s.dpllState d = 4) : s.lockedOrSlew d = true := by
  rcases h with h | h <;> simp [State.lockedOrSlew, h]

/-- What a loop that has lost its lock leaves once it re-acquires with the record `x`. -/
def ReAcquired (s t : State) (d : Nat) (x : Dpll) : Prop :=
  t.dpllState d = 1 ∧ t.dpll d = s.acquiringDpll d x ∧
    t.valN Obj.dpll_unlocks d = min (s.valN Obj.dpll_unlocks d + 1) (2 ^ 32 - 1) ∧
    (∀ m : Nat, m ≠ d → t.dpll m = s.dpll m) ∧ t.elec = { s.elec with lockPd := t.elec.lockPd } ∧
    (∀ o, o ∈ s.runsOn d → t.out o = { s.out o with gating := true }) ∧ (∀ o, o ∉ s.runsOn d → t.out o = s.out o) ∧
    (∀ o, o < 12 ∧ o ∈ s.runsOn d → t.valN Obj.out_state o = 2) ∧
    (∀ o, o < 12 ∧ o ∈ s.runsOn d → t.valT Obj.out_aligned o = (s.out o).aligned) ∧ RaisedAs s t (233 + d) {} ∧
    (CanRaise s (233 + d) → t.win.now = s.win.now ++ [((233 + d), ({} : FaultInfo))] ∧ (vat t.win.srcs (233 + d) {}).active = true) ∧
    SameDict s t ([Obj.dpll_state.key d 0, Obj.dpll_unlocks.key d 0] ++ raiseKeys (233 + d) ++ outKeysOf (s.runsOn d)) ∧
    t = { s with dplls := t.dplls, outs := t.outs, elec := t.elec, win := t.win, dict := t.dict }

/-- The keys that a lost lock writes. -/
abbrev State.lostKeys (s : State) (d : Nat) : List Nat := [Obj.dpll_unlocks.key d 0] ++ (raiseKeys (233 + d) ++ outKeysOf (s.runsOn d))

theorem State.acquire_reAcquired (s w : State) (d : Nat) (x : Dpll) (hd : d < 5) (hx : w.dpll d = x)
    (hf : ∃ dp ou wi di, w = { s with dplls := dp, outs := ou, win := wi, dict := di })
    (hg : Gated s w (s.runsOn d)) (hr : RaisedAs s w (233 + d) {})
    (hu : w.valN Obj.dpll_unlocks d = min (s.valN Obj.dpll_unlocks d + 1) (2 ^ 32 - 1)) (hs : SameDict s w (s.lostKeys d))
    (ho : ∀ m : Nat, m ≠ d → w.dpll m = s.dpll m) : ReAcquired s (w.acquire d) d x := by
  subst hx
  obtain ⟨dp, ou, wi, di, hw⟩ := hf
  obtain ⟨h1, hx, hm, he, hun, hga, hsd, hfr⟩ := s.acquire_spec w d _ _ hd hg hs (by rw [hw]) (by rw [hw]) (by rw [hw])
  have hwin : (w.acquire d).win = (s.raise (233 + d) {}).win := (congrArg State.win hfr : _).trans hr
  refine ⟨h1, hx, hun.trans hu, fun m hne => (hm m hne).trans (ho m hne), he, hga.out, hga.other, hga.state, hga.aligned, hwin, fun hc => ?_,
    hsd.mono fun k hk => ?_, ?_⟩
  · rw [hwin]; exact s.raise_shown _ _ hc
  · simp only [List.mem_cons, List.mem_append, List.not_mem_nil, or_false] at hk ⊢
    tauto
  · rw [hfr, hw]

theorem State.unlocked_reAcquired (s : State) (d : Nat) (hd : d < 5) (h2 : s.dpllState d = 2) :
    ReAcquired s ((s.unlocked d).acquire d) d (s.dpll d) := by
  obtain ⟨ou, w, di, h, hg, hr, hu, hs⟩ := s.unlocked_spec d (State.lockedOrSlew_of_locked (.inl h2))
  have hx : (s.unlocked d).dpll d = { s.dpll d with dco := s.dcoNow d } := by rw [h]; exact vat_vmod_same _ _ _ _ hd
  have hdco : s.dcoNow d = (s.dpll d).dco := by simp [State.dcoNow, h2]
  rw [hdco] at hx
  exact s.acquire_reAcquired (s.unlocked d) d _ hd hx ⟨_, _, _, _, h⟩ hg hr hu hs fun m hm => by rw [h]; exact vat_vmod_other _ _ _ hm

/-- The outputs that run make the retune wait. -/
theorem State.unlocked_askRetune_reAcquired (s : State) (d : Nat) (hd : d < 5) (h4 : s.dpllState d = 4) (hr : s.runsOn d ≠ []) :
    ReAcquired s (((s.unlocked d).askRetune d).acquire d) d { s.dpll d with dco := s.dcoNow d, retune := true } := by
  obtain ⟨ou, w, di, h, hg, hra, hu, hs⟩ := s.unlocked_spec d (State.lockedOrSlew_of_locked (.inr h4))
  have hrun := hg.runsOn_eq d
  have hg2 := (s.unlocked d).gateAll_spec d
  have hd2 := hg2.dict
  have hga := hg2.gated
  obtain ⟨ou2, di2, hf2⟩ := hg2.frame
  rw [(s.unlocked d).askRetune_waits d (by rw [hrun]; exact hr)]
  rw [hrun] at hd2 hga
  have hgt := hg.trans hga
  have hun : ((s.unlocked d).gateAll d).valN Obj.dpll_unlocks d = (s.unlocked d).valN Obj.dpll_unlocks d :=
    hd2.valN_eq (by rw [hf2]) (dpll_keys_not_mem_outKeysOf d _ (s.mem_runsOn_lt d)).2
  have hdict := (hs.trans hd2).mono (ls := s.lostKeys d) fun k hk => by simp only [List.mem_append] at hk ⊢; tauto
  have hunl := hun.trans hu
  generalize (s.unlocked d).gateAll d = v at *
  generalize s.unlocked d = u at *
  subst hf2
  subst h
  have hx : vat (vmod (vmod s.dplls d fun x => { x with dco := s.dcoNow d }) d fun x => { x with retune := true }) d {} =
      { s.dpll d with dco := s.dcoNow d, retune := true } := by
    rw [vmod_vmod]; exact vat_vmod_same _ _ _ _ hd
  exact s.acquire_reAcquired (State.modDpll { s with outs := ou2, win := w, dict := di2, dplls := vmod s.dplls d fun x => { x with dco := s.dcoNow d } } d
    fun x => { x with retune := true }) d _ hd hx ⟨_, _, _, _, rfl⟩ ⟨hgt.out, hgt.other, hgt.state, hgt.aligned⟩ hra hunl hdict
    fun m hm => (vat_vmod_other _ _ _ hm).trans (vat_vmod_other _ _ _ hm)

/-- With no output on the loop the retune is made at once. -/
theorem State.unlocked_askRetune_quiet (s : State) (d : Nat) (hd : d < 5) (h4 : s.dpllState d = 4) (hr : s.runsOn d = []) :
    ReAcquired s (((s.unlocked d).askRetune d).acquire d) d (s.tunedDpll d (s.dpll d)) ∧ (((s.unlocked d).askRetune d).acquire d).outs = s.outs := by
  obtain ⟨ou, w, di, h, hg, hra, hu, hs⟩ := s.unlocked_spec d (State.lockedOrSlew_of_locked (.inr h4))
  have hrun := hg.runsOn_eq d
  rw [(s.unlocked d).askRetune_quiet d hd (hrun.trans hr)]
  have htun : (s.unlocked d).tunedDpll d = s.tunedDpll d := by
    funext x; simp only [State.tunedDpll, hs.effN_eq (show (s.unlocked d).dev = s.dev by rw [h])]
  have houts : (s.unlocked d).outs = s.outs := by
    obtain ⟨d1, h1, -⟩ := s.leaveLock_spec d
    have hq := (s.leaveLock d).gateAll_quiet d (by rw [h1]; exact hr)
    rw [State.unlocked, hq, State.raise_frame, h1]
    rfl
  rw [htun]
  generalize s.unlocked d = u at *
  subst h
  have hx : vat (vmod (vmod s.dplls d fun x => { x with dco := s.dcoNow d }) d (s.tunedDpll d)) d {} = s.tunedDpll d (s.dpll d) := by
    rw [vmod_vmod]; exact vat_vmod_same _ _ _ _ hd
  have := s.acquire_reAcquired (State.modDpll { s with outs := ou, win := w, dict := di, dplls := vmod s.dplls d fun x => { x with dco := s.dcoNow d } } d
    (s.tunedDpll d)) d _ hd hx ⟨_, _, _, _, rfl⟩ ⟨hg.out, hg.other, hg.state, hg.aligned⟩ hra hu hs
    fun m hm => (vat_vmod_other _ _ _ hm).trans (vat_vmod_other _ _ _ hm)
  exact ⟨this, houts⟩

end Sys2Proof.Machine

/-! SUPPORT. DPLL-B without its reference, the spare DCO, and the loss of lock settled. -/
namespace Sys2Proof.Machine

/-! ### DPLL_REF_LOSS (R226) -/

theorem dpll_state_not_mem_gateRaise (n d : Nat) (l : List Nat) (hl : ∀ o ∈ l, o < 13) :
    Obj.dpll_state.key d 0 ∉ raiseKeys n ++ outKeysOf l ∧ Obj.dpll_unlocks.key d 0 ∉ raiseKeys n ++ outKeysOf l := by
  simp only [List.mem_append, not_or]
  exact ⟨⟨(dpll_keys_not_mem_raiseKeys n d).1, (dpll_keys_not_mem_outKeysOf d l hl).1⟩,
    (dpll_keys_not_mem_raiseKeys n d).2, (dpll_keys_not_mem_outKeysOf d l hl).2⟩

/-- The outputs gated, the loss raised, the DCO frozen: whole. -/
theorem State.gateAll_raise_freeze_spec (s : State) (d n : Nat) (hd : d < 5) :
    ∃ dp ou w di el, ((s.gateAll d).raise n).freeze d = { s with dplls := dp, outs := ou, win := w, dict := di, elec := { s.elec with lockPd := el } } ∧
      (((s.gateAll d).raise n).freeze d).dpllState d = 3 ∧ (((s.gateAll d).raise n).freeze d).dpll d = s.frozenDpll d ∧
      (s.lockedOrSlew d = true → (((s.gateAll d).raise n).freeze d).valN Obj.dpll_unlocks d = min (s.valN Obj.dpll_unlocks d + 1) (2 ^ 32 - 1)) ∧
      (s.lockedOrSlew d = false → (((s.gateAll d).raise n).freeze d).valN Obj.dpll_unlocks d = s.valN Obj.dpll_unlocks d) ∧
      (∀ m, m ≠ d → (((s.gateAll d).raise n).freeze d).dpll m = s.dpll m) ∧ Gated s (((s.gateAll d).raise n).freeze d) (s.runsOn d) ∧
      w = (s.raise n {}).win ∧
      SameDict s (((s.gateAll d).raise n).freeze d) ([Obj.dpll_state.key d 0, Obj.dpll_unlocks.key d 0] ++ raiseKeys n ++ outKeysOf (s.runsOn d)) := by
  obtain ⟨ou, w, di, h, hg, hw, hs⟩ := s.gateAll_raise_spec d n
  obtain ⟨hk1, hk2⟩ := dpll_state_not_mem_gateRaise n d (s.runsOn d) (s.mem_runsOn_lt d)
  obtain ⟨di', l, dp, h', hx, hm, h3, h1, h2, hs'⟩ := ((s.gateAll d).raise n).freeze_spec d hd
  have hdev : ((s.gateAll d).raise n).dev = s.dev := by rw [h]
  have hdp (m : Nat) : ((s.gateAll d).raise n).dpll m = s.dpll m := by rw [h]; rfl
  have htc : ((s.gateAll d).raise n).tc = s.tc := by rw [h]
  have hfz : ((s.gateAll d).raise n).frozenDpll d = s.frozenDpll d := by
    unfold State.frozenDpll
    rw [hs.dcoNow_eq hdev hk1 (hdp d) htc, hs.dcoTuned_eq hdev hk1 (hdp d) htc, hdp d]
  rw [hs.lockedOrSlew_eq hdev hk1, hs.valN_eq hdev hk2] at h1 h2
  have hgk := hg.keep (u := ((s.gateAll d).raise n).freeze d) (by rw [h']) hs' (by rw [h']) fun o _ => out_keys_not_mem_dpll d o
  have hst := (hs.trans hs').mono (ls := [Obj.dpll_state.key d 0, Obj.dpll_unlocks.key d 0] ++ raiseKeys n ++ outKeysOf (s.runsOn d))
    fun k hk => by simp only [List.mem_append] at hk ⊢; tauto
  refine ⟨dp, ou, w, di', l, ?_, h3, hx.trans hfz, h1, h2, fun m hne => (hm m hne).trans (hdp m), hgk, hw, hst⟩
  rw [h', h]

/-! ### DPLL_REF_RETURN (R226) -/

/-- The record of DPLL-B thawed. -/
abbrev State.thawedDpll (s : State) (d : Nat) (f : Int) : Dpll :=
  { s.dpll d with
    frozen := none, prop := 0, integ2 := 0
    integ := roundDiv (((s.dpll d).frozen.getD f - f) * 2 ^ 64) (max 1 f.natAbs) -
      (if s.todref d then ((s.dpll d).ff - 0x0200000000000000) * 128 else 0) }

theorem State.thaw_dpll (s : State) (d : Nat) (hd : d < 5) : (s.thaw d).dpll d = s.thawedDpll d (((s.dpll d).dco : Int) * 1000) :=
  vat_vmod_same _ _ _ _ hd

theorem State.thaw_dpll_other (s : State) (d m : Nat) (h : m ≠ d) : (s.thaw d).dpll m = s.dpll m := vat_vmod_other _ _ _ h

theorem dpllRefReturnEff_eq (s : State) (h3 : s.dpllState 2 = 3) (hr : s.dpllRef 2 = true) :
    dpllRefReturnEff s = (if (s.dpll 2).dco = (s.dpll 2).target then s.thaw 2 else (s.thaw 2).askRetune 2).acquire 2 := by
  have hx := s.thaw_dpll 2 (by omega)
  unfold dpllRefReturnEff
  rw [if_pos ⟨h3, hr⟩]
  simp only [hx]

/-! ### DCO_SPARE_IN (R229) -/

/-- The spare DCO in use: 2 ps join H outside LOCKED. -/
def State.useSpare (s : State) : State :=
  let s' := State.setN { s with win := { s.win with dcoPend := false, dcoSpare := false } } Obj.dpll_dco_spare 1
  if s.valN Obj.hold_state = 1 then s' else { s' with hold := { s.hold with hits := satScr (s.hold.hits + 2) } }

theorem dcoSpareInEff_eq (s : State) (h1 : s.win.dcoPend = true) (h2 : s.win.dcoSpare = true) : dcoSpareInEff s = s.useSpare.raiseHeld 244 := by
  have hv : (State.setN { s with win := { s.win with dcoPend := false, dcoSpare := false } } Obj.dpll_dco_spare 1).valN Obj.hold_state = s.valN Obj.hold_state :=
    State.valN_setN_other _ Obj.dpll_dco_spare Obj.hold_state 1 0 0 0 0 (by decide)
  unfold dcoSpareInEff
  rw [if_pos (by simp [h1, h2])]
  dsimp only
  rw [hv]
  rfl

theorem State.useSpare_spec (s : State) :
    ∃ di hi, s.useSpare = { s with win := { s.win with dcoPend := false, dcoSpare := false }, dict := di, hold := { s.hold with hits := hi } } ∧
      s.useSpare.valN Obj.dpll_dco_spare = 1 ∧ (s.valN Obj.hold_state = 1 → hi = s.hold.hits) ∧
      (s.valN Obj.hold_state ≠ 1 → hi = min (s.hold.hits + 2) (2 ^ 48 - 1)) ∧ SameDict s s.useSpare [Obj.dpll_dco_spare.key 0 0] := by
  unfold State.useSpare
  dsimp only
  split
  · next h =>
    exact ⟨_, _, rfl, State.valN_setN _ Obj.dpll_dco_spare 1 0 0, fun _ => rfl, fun h' => absurd h h', (SameDict.refl s [Obj.dpll_dco_spare.key 0 0]).putN (by simp) 1⟩
  · next h =>
    exact ⟨_, _, rfl, State.valN_setN _ Obj.dpll_dco_spare 1 0 0, fun h' => absurd h' h, fun _ => rfl, (SameDict.refl s [Obj.dpll_dco_spare.key 0 0]).putN (by simp) 1⟩

/-- A raise that the handling in progress holds. -/
theorem State.raiseHeld_busy (s : State) (n : Nat) (hn : n < 320) (hb : s.win.busy = true) (hh : (s.win.held.any fun h => h.1 == n) = false) :
    ∃ w di, s.raiseHeld n = { s with win := w, dict := di } ∧ w = { s.win with held := s.win.held ++ [(n, {})], srcs := w.srcs } ∧
      (vat w.srcs n {}).active = true ∧ (∀ m, m ≠ n → vat w.srcs m {} = vat s.win.srcs m {}) ∧ SameDict s (s.raiseHeld n) [srcKey n] := by
  obtain ⟨-, hw, ha, ho, -, hd⟩ := s.markRaised_spec n
  unfold State.raiseHeld
  rw [if_pos (by simp [hb, hh])]
  exact ⟨_, _, rfl, rfl, ha hn, ho, hd⟩

theorem State.raiseHeld_free (s : State) (n : Nat) (i : FaultInfo) (hb : s.win.busy = false) : s.raiseHeld n i = s.raise n i := by
  simp [State.raiseHeld, hb]

theorem dpll_dco_spare_ne_srcKey : Obj.dpll_dco_spare.key 0 0 ∉ [srcKey 244] := by decide

/-- No gates. -/
theorem Gated.nil {s t : State} (h : t.outs = s.outs) : Gated s t [] :=
  ⟨fun _ h => absurd h List.not_mem_nil, fun o _ => by simp only [State.out, h], fun _ h => absurd h.2 List.not_mem_nil,
    fun _ h => absurd h.2 List.not_mem_nil⟩

/-! ### The clauses together -/

/-- Settles O24. -/
theorem dpllLosesLock : Obligations.DpllLosesLock := by
  refine ⟨fun s d h2 ho => ?locked, fun s d h4 ho hr => ?slew, fun s d h4 ho hr => ?slewQuiet, fun s d h => ⟨s, next_of_eq ?keeps, rfl⟩,
    fun s h0 h3 hr => ?refLoss, fun s h => ⟨s, next_of_eq (if_neg ?refThere), rfl⟩, fun s f h3 hr hf hd => ?back, fun s f h3 hr hf hd hn => ?backWaits,
    fun s h3 hr hd hn => ?backQuiet, fun s h => ⟨s, next_of_eq (if_neg ?noReturn), rfl⟩, fun s h1 h2 hc => ?spare, fun s h1 h2 hb hh => ?spareHeld,
    fun s h => ⟨s, next_of_eq (if_neg ?noSpare), rfl⟩⟩
  case locked =>
    have heq := dpllUnlockEff_eq s d.val (State.lockedOrSlew_of_locked (.inl h2)) ho
    rw [if_neg (by simp [h2])] at heq
    obtain ⟨k1, k2, k3, k4, k5, k6, k7, k8, k9, k10, k11, k12, k13⟩ := s.unlocked_reAcquired d.val d.isLt h2
    exact ⟨_, next_of_eq heq, k1, k2, k3, k4, k5, k6, k7, k8, k9, k10, k11, k12, k13⟩
  case slew =>
    have heq := dpllUnlockEff_eq s d.val (State.lockedOrSlew_of_locked (.inr h4)) ho
    rw [if_pos (by simp [h4])] at heq
    obtain ⟨k1, k2, k3, k4, k5, k6, k7, k8, k9, k10, k11, k12, k13⟩ := s.unlocked_askRetune_reAcquired d.val d.isLt h4 hr
    exact ⟨_, next_of_eq heq, k1, k2, k3, k4, k5, k6, k7, k8, k9, k10, k11, k12, k13⟩
  case slewQuiet =>
    have heq := dpllUnlockEff_eq s d.val (State.lockedOrSlew_of_locked (.inr h4)) ho
    rw [if_pos (by simp [h4])] at heq
    obtain ⟨⟨k1, k2, k3, k4, k5, k6, k7, k8, k9, k10, k11, k12, k13⟩, ko⟩ := s.unlocked_askRetune_quiet d.val d.isLt h4 hr
    exact ⟨_, next_of_eq heq, k1, k2, k3, ko, k4, k5, k10, k11, k12, k13⟩
  case keeps =>
    refine if_neg fun h' => ?_
    simp only [Bool.and_eq_true, State.lockedOrSlew, Bool.or_eq_true, beq_iff_eq, decide_eq_true_eq] at h'
    omega
  case refLoss =>
    obtain ⟨dp, ou, w, di, el, h, k3, kx, k1, k2, ko, kg, kw, ks⟩ := s.gateAll_raise_freeze_spec 2 243 (by omega)
    have heq : dpllRefLossEff s = ((s.gateAll 2).raise 243).freeze 2 := if_pos ⟨h0, h3, by simp [hr]⟩
    generalize ((s.gateAll 2).raise 243).freeze 2 = t at *
    subst h
    refine ⟨_, next_of_eq heq, k3, kx, k1, k2, ko, rfl, kg.out, kg.other, kg.state, kg.aligned, kw, fun hc => ?_, ks, rfl⟩
    rw [kw]; exact s.raise_shown 243 {} hc
  case refThere => rcases h with h | h | h <;> simp [h]
  case back =>
    have heq := dpllRefReturnEff_eq s h3 hr
    rw [if_pos hd] at heq
    subst hf
    have hx := s.thaw_dpll 2 (by omega)
    obtain ⟨k1, kx, ko, ke, -, -, kd, kf⟩ := s.acquire_spec (s.thaw 2) 2 [] [] (by omega) (Gated.nil rfl) (SameDict.refl s _) rfl rfl rfl
    rw [hx] at kx
    exact ⟨_, next_of_eq heq, k1, kx, fun m hm => (ko m hm).trans (s.thaw_dpll_other 2 m hm), ke, kf, kd⟩
  case backWaits =>
    have heq := dpllRefReturnEff_eq s h3 hr
    rw [if_neg hd] at heq
    subst hf
    have hrun : (s.thaw 2).runsOn 2 = s.runsOn 2 := State.runsOn_congr rfl 2
    rw [(s.thaw 2).askRetune_waits 2 (by rw [hrun]; exact hn)] at heq
    have hg := (s.thaw 2).gateAll_spec 2
    have hgd := hg.dict
    have hga := hg.gated.base (s := s) rfl
    obtain ⟨ou, di, hf⟩ := hg.frame
    rw [hrun] at hgd hga
    generalize (s.thaw 2).gateAll 2 = v at *
    subst hf
    obtain ⟨k1, kx, ko, ke, -, kg, kd, kf⟩ := s.acquire_spec (State.modDpll { s.thaw 2 with outs := ou, dict := di } 2 fun x => { x with retune := true }) 2
      (s.runsOn 2) (outKeysOf (s.runsOn 2)) (by omega) ⟨hga.out, hga.other, hga.state, hga.aligned⟩ hgd rfl rfl rfl
    rw [State.modDpll_dpll _ _ _ (by omega)] at kx
    refine ⟨_, next_of_eq heq, k1, kx.trans ?_, fun m hm => (ko m hm).trans ?_, ke, kg.out, kg.other, kg.state, kg.aligned, kd, kf⟩
    · exact congrArg (fun x => s.acquiringDpll 2 { x with retune := true }) (s.thaw_dpll 2 (by omega))
    · exact (vat_vmod_other _ _ _ hm).trans (s.thaw_dpll_other 2 m hm)
  case backQuiet =>
    have heq := dpllRefReturnEff_eq s h3 hr
    rw [if_neg hd, (s.thaw 2).askRetune_quiet 2 (by omega) ((State.runsOn_congr rfl 2).trans hn)] at heq
    obtain ⟨k1, kx, ko, ke, -, -, kd, kf⟩ := s.acquire_spec ((s.thaw 2).modDpll 2 ((s.thaw 2).tunedDpll 2)) 2 [] [] (by omega) (Gated.nil rfl)
      (SameDict.refl s _) rfl rfl rfl
    rw [State.modDpll_dpll _ _ _ (by omega), s.thaw_dpll 2 (by omega)] at kx
    exact ⟨_, next_of_eq heq, k1, kx, fun m hm => (ko m hm).trans ((vat_vmod_other _ _ _ hm).trans (s.thaw_dpll_other 2 m hm)), ke, kf, kd⟩
  case noReturn => rintro ⟨h1, h2⟩; rcases h with h | h <;> simp_all
  case spare =>
    obtain ⟨d1, hi, hu, hv, hl, hn, hd⟩ := s.useSpare_spec
    have heq := (dcoSpareInEff_eq s h1 h2).trans (State.raiseHeld_free _ 244 {} (by rw [hu]; exact hc.2.2.1))
    obtain ⟨⟨k1, k2, k3, k4⟩, kd, -⟩ := s.useSpare.raise_taken 244 {} (by unfold CanRaise; rw [hu]; exact hc)
    have hval := kd.valN_eq (by rw [State.raise_frame]) dpll_dco_spare_ne_srcKey
    have hrf := s.useSpare.raise_frame 244 {}
    have hdict := hd.trans kd
    generalize s.useSpare.raise 244 {} = v at *
    generalize s.useSpare = u at *
    subst hu
    obtain ⟨w, dv, rfl⟩ : ∃ w dv, v = { s with win := w, dict := dv, hold := { s.hold with hits := hi } } := ⟨_, _, hrf⟩
    simp only at k1 k2
    refine ⟨_, next_of_eq heq, by rw [k1], by rw [k1], hval.trans hv, rfl, hl, hn, ?_, k3, k4, rfl, hdict⟩
    rw [k1]
    simp [k2]
  case spareHeld =>
    obtain ⟨d1, hi, hu, hv, hl, hn, hd⟩ := s.useSpare_spec
    obtain ⟨w, di, hr, hw, ka, ko, kd⟩ := s.useSpare.raiseHeld_busy 244 (by omega) (by rw [hu]; exact hb) (by rw [hu]; exact hh)
    have heq := dcoSpareInEff_eq s h1 h2
    have hval := kd.valN_eq (by rw [hr]) dpll_dco_spare_ne_srcKey
    have hdict := hd.trans kd
    generalize s.useSpare.raiseHeld 244 = v at *
    generalize s.useSpare = u at *
    subst hu
    subst hr
    exact ⟨_, next_of_eq heq, by rw [hw], by rw [hw], hval.trans hv, rfl, hl, hn, hw, ka, ko, rfl, hdict⟩
  case noSpare => rcases h with h | h <;> simp [h]

end Sys2Proof.Machine

/-! SUPPORT. Changes of a loop's frequency, with a hit and without (R226, R236, R237, R239, R240). -/
namespace Sys2Proof.Machine

/-! ### DPLL_FREQ_CHANGE -/

/-- The loops, with the DCO of one at its present frequency. -/
abbrev State.heldDplls (s : State) (d : Nat) : Vector Dpll 5 := vmod s.dplls d fun x => { x with dco := s.dcoNow d }

/-- The state of a loop that gives its frequency up: LOCKED or SLEW left, the DCO at its present frequency. -/
def State.leftLock (s : State) (d : Nat) : State := (s.leaveLock d).modDpll d fun x => { x with dco := s.dcoNow d }

theorem dpllFreqChangeEff_eq (s : State) (d : Nat) (hf : s.freqDue d = true) (hh : s.hitlessOk d = false)
    (hs : s.dpllState d = 1 ∨ s.dpllState d = 2 ∨ s.dpllState d = 4) : dpllFreqChangeEff d s = ((s.leftLock d).askRetune d).acquire d := by
  have hl : (s.lockedOrSlew d || s.dpllState d == 1) = true := by
    rcases hs with h | h | h <;> simp [State.lockedOrSlew, h]
  unfold dpllFreqChangeEff
  rw [if_pos (by simp [hf, hh, hl])]
  rfl

theorem State.leftLock_spec (s : State) (d : Nat) :
    ∃ di, s.leftLock d = { s with dict := di, dplls := s.heldDplls d } ∧
      SameDict s (s.leftLock d) [Obj.dpll_unlocks.key d 0] ∧
      (s.lockedOrSlew d = true → (s.leftLock d).valN Obj.dpll_unlocks d = min (s.valN Obj.dpll_unlocks d + 1) (2 ^ 32 - 1)) ∧
      (s.lockedOrSlew d = false → (s.leftLock d).valN Obj.dpll_unlocks d = s.valN Obj.dpll_unlocks d) := by
  obtain ⟨di, h, hd, h1, h2⟩ := s.leaveLock_spec d
  unfold State.leftLock
  rw [h] at hd h1 h2 ⊢
  exact ⟨di, rfl, hd, h1, h2⟩

theorem State.leftLock_dpll (s : State) (d : Nat) (hd : d < 5) : (s.leftLock d).dpll d = { s.dpll d with dco := s.dcoNow d } := by
  obtain ⟨di, h, -⟩ := s.leftLock_spec d
  rw [h]; exact vat_vmod_same _ _ _ _ hd

theorem State.leftLock_dpll_other (s : State) (d m : Nat) (hm : m ≠ d) : (s.leftLock d).dpll m = s.dpll m := by
  obtain ⟨di, h, -⟩ := s.leftLock_spec d
  rw [h]; exact vat_vmod_other _ _ _ hm

/-! ### DPLL_HITLESS_CHANGE -/

theorem dpllHitlessChangeEff_eq (s : State) (d : Nat) (hf : s.freqDue d = true) (hh : s.hitlessOk d = true) :
    dpllHitlessChangeEff d s = ((s.misalign d).modDpll d fun x =>
      { x with dco := s.dcoNow d, target := (s.misalign d).effN Obj.dpll_dco_freq d, acqFrom := (s.misalign d).tc.cyc }).setDpll d 4 :=
  if_pos (by simp [hf, hh])

/-- The record of an output whose alignment is lost. -/
abbrev Output.misaligned (x : Output) : Output := { x with aligned := false }

theorem State.misalign_outsMod (s : State) (d : Nat) : OutsMod s (s.misalign d) (s.dependents d) Output.misaligned :=
  State.each_modOut Output.misaligned _ s (s.dependents_nodup d) (s.mem_dependents_lt d)

/-- Settles O25. -/
theorem dpllFrequencyChanges : Obligations.DpllFrequencyChanges := by
  refine ⟨fun s d hf hh hs hn => ?gated, fun s d hf hh hs hn => ?quiet, fun s d hf hh => ?hitless, fun s d h4 hd => ?done,
    fun s d hd => ⟨s, next_of_eq (if_neg fun h => hd h.2), rfl⟩⟩
  case gated =>
    obtain ⟨d1, hl, hld, hu1, hu2⟩ := s.leftLock_spec d.val
    have heq := dpllFreqChangeEff_eq s d.val hf hh hs
    have hrun : (s.leftLock d.val).runsOn d.val = s.runsOn d.val := State.runsOn_congr (by rw [hl]) d.val
    rw [(s.leftLock d.val).askRetune_waits d.val (by rw [hrun]; exact hn)] at heq
    have hg := (s.leftLock d.val).gateAll_spec d.val
    have hgd := hg.dict
    have hga := hg.gated.base (s := s) (by rw [hl])
    obtain ⟨ou, di, hfr⟩ := hg.frame
    rw [hrun] at hgd hga
    have hun : ((s.leftLock d.val).gateAll d.val).valN Obj.dpll_unlocks d.val = (s.leftLock d.val).valN Obj.dpll_unlocks d.val :=
      hgd.valN_eq (by rw [hfr]) (dpll_keys_not_mem_outKeysOf d.val _ (s.mem_runsOn_lt d.val)).2
    have hdict := hld.trans hgd
    have hx := s.leftLock_dpll d.val d.isLt
    have hxo := s.leftLock_dpll_other d.val
    generalize (s.leftLock d.val).gateAll d.val = v at *
    generalize s.leftLock d.val = u at *
    subst hl
    subst hfr
    obtain ⟨k1, kx, ko, ke, ku, kg, kd, kf⟩ := s.acquire_spec (State.modDpll { s with outs := ou, dict := di, dplls := s.heldDplls d.val } d.val fun x => { x with retune := true }) d.val _ _ d.isLt
      ⟨hga.out, hga.other, hga.state, hga.aligned⟩ hdict rfl rfl rfl
    rw [State.modDpll_dpll _ _ _ d.isLt] at kx
    refine ⟨_, next_of_eq heq, k1, kx.trans ?_, fun m hm => (ko m hm).trans ((vat_vmod_other _ _ _ hm).trans (hxo m hm)), ke,
      fun h => ku.trans (hun.trans (hu1 h)), fun h => ku.trans (hun.trans (hu2 h)), kg.out, kg.other, kg.state, kg.aligned, kd, kf⟩
    exact congrArg (fun x => s.acquiringDpll d.val { x with retune := true }) hx
  case quiet =>
    obtain ⟨d1, hl, hld, hu1, hu2⟩ := s.leftLock_spec d.val
    have heq := dpllFreqChangeEff_eq s d.val hf hh hs
    have hrun : (s.leftLock d.val).runsOn d.val = s.runsOn d.val := State.runsOn_congr (by rw [hl]) d.val
    rw [(s.leftLock d.val).askRetune_quiet d.val d.isLt (hrun.trans hn)] at heq
    have hx := s.leftLock_dpll d.val d.isLt
    have hxo := s.leftLock_dpll_other d.val
    have htun : (s.leftLock d.val).tunedDpll d.val = s.tunedDpll d.val := by
      funext x; simp only [State.tunedDpll, hld.effN_eq (show (s.leftLock d.val).dev = s.dev by rw [hl])]
    rw [htun] at heq
    generalize s.leftLock d.val = u at *
    subst hl
    obtain ⟨k1, kx, ko, ke, ku, -, kd, kf⟩ := s.acquire_spec (State.modDpll { s with dict := d1, dplls := s.heldDplls d.val } d.val (s.tunedDpll d.val)) d.val [] _ d.isLt (Gated.nil rfl) hld rfl rfl rfl
    rw [State.modDpll_dpll _ _ _ d.isLt] at kx
    refine ⟨_, next_of_eq heq, k1, kx.trans ?_, fun m hm => (ko m hm).trans ((vat_vmod_other _ _ _ hm).trans (hxo m hm)), ke,
      fun h => ku.trans (hu1 h), fun h => ku.trans (hu2 h), kf, kd⟩
    exact (congrArg (fun x => s.acquiringDpll d.val (s.tunedDpll d.val x)) hx).trans rfl
  case hitless =>
    have heq := dpllHitlessChangeEff_eq s d.val hf hh
    have hm := s.misalign_outsMod d.val
    obtain ⟨hfr, hd, hout, hoth, -, hal⟩ := hm
    obtain ⟨ou, di, hfr⟩ := hfr
    rw [hd.effN_eq (by rw [hfr])] at heq
    generalize s.misalign d.val = u at *
    subst hfr
    obtain ⟨k1, kx, ko, ke, kf, kd⟩ := State.modDpll_setDpll_spec { s with outs := ou, dict := di } d.val 4 (fun x =>
      { x with dco := s.dcoNow d.val, target := s.effN Obj.dpll_dco_freq d.val, acqFrom := s.tc.cyc }) d.isLt
    refine ⟨_, next_of_eq heq, k1, kx, hout, hoth, fun o ho => ?_, ko, ke, (hd.trans kd).mono fun k hk => ?_, kf⟩
    · have hk : Obj.out_aligned.key o 0 ∉ [Obj.dpll_state.key d.val 0] := fun h =>
        (out_keys_not_mem_dpll d.val o).2 (List.mem_cons.mpr (.inl (List.mem_singleton.mp h)))
      exact (kd.valT_eq rfl hk).trans (hal o ho.1 ho.2)
    · simp only [List.mem_append] at hk ⊢; exact hk.symm
  case done => exact ⟨_, next_of_eq (if_pos ⟨h4, hd⟩), State.modDpll_setDpll_spec s d.val 2 _ d.isLt⟩

end Sys2Proof.Machine

/-! SUPPORT. Outputs gated and released (R233, R235, R236, R239). -/
namespace Sys2Proof.Machine

/-! ### What a gate leaves -/

/-- The record of an output held low. -/
abbrev Output.stopped (x : Output) : Output := { x with high := false, gating := false, running := false, aligned := false }

theorem State.tuneQuiet_eq (s : State) (d : Nat) : s.tuneQuiet d = if (s.dpll d).retune = true ∧ s.runsOn d = [] then s.tune d else s := by
  unfold State.tuneQuiet
  rw [s.any_dependents_running]
  simp

/-- The count of gatings, or the gap of the front-end clock. -/
def State.noteGating (s : State) (o : Nat) : State :=
  if o < 12 then s.count Obj.out_gatings o else { s with gnss := { s.gnss with gap := (s.tc.cyc, none) } }

theorem outputGateEff_eq (s : State) (o : Nat) (hg : (s.out o).gating = true) (hr : (s.out o).running = true) :
    outputGateEff o s = ((s.modOut o Output.stopped).tuneQuiet ((s.out o).src + 1)).noteGating o := by
  unfold outputGateEff
  rw [if_pos (by simp [hg, hr])]
  rfl

/-- The outputs that still run on the loop once output `o` has stopped. -/
theorem State.runsOn_stopped (s : State) (o d : Nat) (ho : o < 13) :
    (s.modOut o Output.stopped).runsOn d = [] ↔ ∀ k : Fin 13, k.val = o ∨ (s.out k.val).running = false ∨ (s.out k.val).src + 1 ≠ d := by
  have hm := s.modOut_outsMod o Output.stopped ho
  have hout : (s.modOut o Output.stopped).out o = Output.stopped (s.out o) := hm.out o (by simp)
  have hoth (k : Nat) (hk : k ≠ o) : (s.modOut o Output.stopped).out k = s.out k := hm.other k (by simpa using hk)
  simp only [State.runsOn, List.filter_eq_nil_iff, List.mem_range]
  constructor
  · intro h k
    by_cases hk : k.val = o
    · exact .inl hk
    · have := h k.val k.isLt
      rw [hoth _ hk] at this
      cases hr : (s.out k.val).running
      · exact .inr (.inl rfl)
      · exact .inr (.inr (by simpa [hr] using this))
  · intro h k hk
    by_cases hko : k = o
    · rw [hko, hout]; simp
    · rw [hoth _ hko]
      rcases h ⟨k, hk⟩ with h | h | h
      · exact absurd h hko
      · simp only at h; simp [h]
      · simp only at h; simp [h]

theorem valN_of_valT_false {s : State} {r : Row} {i j : Nat} (h : s.valT r i j = false) : s.valN r i j = 0 := by
  have : s.valI r i j = 0 := by simpa [State.valT] using h
  simp [State.valN, this]

/-- The keys that a gate of an output writes. -/
abbrev gateKeys (o : Nat) : List Nat := [Obj.out_state.key o 0, Obj.out_aligned.key o 0, Obj.out_gatings.key o 0]

theorem out_gatings_ne (o : Nat) : Obj.out_state.key o 0 ∉ [Obj.out_gatings.key o 0] ∧ Obj.out_aligned.key o 0 ∉ [Obj.out_gatings.key o 0] ∧
    Obj.out_gatings.key o 0 ∉ outKeysOf [o] := by
  simp [outKeysOf, Row.key, Obj.out_state, Obj.out_aligned, Obj.out_gatings]

/-- An output stopped and noted, by what the state `u` between has: the loops of `u`, and all else of the output alone. -/
theorem State.noteGating_lt_spec (s u : State) (o : Nat) (dp : Vector Dpll 5) (ho : o < 12)
    (hu : u = { s.modOut o Output.stopped with dplls := dp }) :
    ∃ ou di, u.noteGating o = { s with outs := ou, dict := di, dplls := dp } ∧ vat ou o {} = Output.stopped (s.out o) ∧
      (u.noteGating o).valN Obj.out_aligned o = 0 ∧ (u.noteGating o).valN Obj.out_state o = (if s.effT Obj.out_enable o then 1 else 0) ∧
      (u.noteGating o).valN Obj.out_gatings o = min (s.valN Obj.out_gatings o + 1) (2 ^ 32 - 1) ∧ (∀ m, m ≠ o → vat ou m {} = s.out m) ∧
      SameDict s (u.noteGating o) (gateKeys o) := by
  have hm := s.modOut_outsMod o Output.stopped (by omega)
  obtain ⟨⟨ou, di, h⟩, hd, hout, hoth, hst, hal⟩ := hm
  obtain ⟨hk1, hk2, hk3⟩ := out_gatings_ne o
  rw [h] at hd hout hoth hst hal hu
  subst hu
  have hc : (SameDict { s with outs := ou, dict := di, dplls := dp } (State.count { s with outs := ou, dict := di, dplls := dp } Obj.out_gatings o)
      [Obj.out_gatings.key o 0]) := (State.count_spec _ Obj.out_gatings o 0 1).2
  rw [State.noteGating, if_pos ho]
  refine ⟨ou, _, rfl, hout o (by simp), ?_, ?_, ?_, fun m hm => hoth m (by simpa using hm), ?_⟩
  · exact (hc.valN_eq rfl hk2).trans (valN_of_valT_false (hal o ho (by simp)))
  · refine (hc.valN_eq rfl hk1).trans ((hst o ho (by simp)).trans ?_)
    simp [State.outCode, State.outOn, Nat.ne_of_lt ho]
  · exact (State.count_u32 _ Obj.out_gatings o 0 rfl).trans (congrArg (fun v => min (v + 1) (2 ^ 32 - 1)) (hd.valN_eq rfl hk3))
  · exact (SameDict.trans (t := { s with outs := ou, dict := di, dplls := dp }) hd hc).mono fun k hk => by simpa [outKeysOf, or_assoc] using hk

/-- GF_SCLK has no objects: it stops, and the gap begins. -/
theorem State.noteGating_gf (s : State) (dp : Vector Dpll 5) :
    ({ s.modOut 12 Output.stopped with dplls := dp } : State).noteGating 12 =
      { s with outs := vmod s.outs 12 Output.stopped, dplls := dp, gnss := { s.gnss with gap := (s.tc.cyc, none) } } := rfl

/-- What an output that is gated leaves, when the retune of its loop does not fall to it: no retune waits, or another output runs there. -/
theorem outputGateEff_keepsLoop (s : State) (o : Nat) (ho : o < 13) (hg : (s.out o).gating = true) (hr : (s.out o).running = true)
    (hq : (s.dpll ((s.out o).src + 1)).retune = false ∨
      ∃ k : Fin 13, k.val ≠ o ∧ (s.out k.val).running = true ∧ (s.out k.val).src = (s.out o).src) :
    outputGateEff o s = (s.modOut o Output.stopped).noteGating o := by
  have hm := s.modOut_outsMod o Output.stopped ho
  obtain ⟨ou, di, hfr⟩ := hm.frame
  have hdp : (s.modOut o Output.stopped).dpll = s.dpll := by rw [hfr]; rfl
  rw [outputGateEff_eq s o hg hr, State.tuneQuiet_eq, if_neg]
  rintro ⟨h1, h2⟩
  rw [s.runsOn_stopped o _ ho] at h2
  rw [hdp] at h1
  rcases hq with hq | ⟨k, hk, hkr, hks⟩
  · rw [hq] at h1; exact absurd h1 (by simp)
  · rcases h2 k with h | h | h
    · exact hk h
    · rw [hkr] at h; exact absurd h (by simp)
    · exact h (by rw [hks])

/-- The last output to run on a loop whose retune waits brings the retune on. -/
theorem outputGateEff_tunes (s : State) (o d : Nat) (ho : o < 13) (hg : (s.out o).gating = true) (hr : (s.out o).running = true)
    (hd : d = (s.out o).src + 1) (hrt : (s.dpll d).retune = true)
    (hk : ∀ k : Fin 13, k.val = o ∨ (s.out k.val).running = false ∨ (s.out k.val).src ≠ (s.out o).src) :
    outputGateEff o s = ({ s.modOut o Output.stopped with dplls := vmod s.dplls d (s.tunedDpll d) } : State).noteGating o := by
  have hm := s.modOut_outsMod o Output.stopped ho
  obtain ⟨ou, di, hfr⟩ := hm.frame
  have hdp : (s.modOut o Output.stopped).dpll = s.dpll := by rw [hfr]; rfl
  have hdps : (s.modOut o Output.stopped).dplls = s.dplls := by rw [hfr]
  have htun : (s.modOut o Output.stopped).tunedDpll d = s.tunedDpll d := by
    funext x; simp only [State.tunedDpll, hm.dict.effN_eq (show (s.modOut o Output.stopped).dev = s.dev by rw [hfr])]
  have hrun : (s.modOut o Output.stopped).runsOn d = [] := (s.runsOn_stopped o d ho).mpr fun k =>
    (hk k).imp id (Or.imp id fun h => by omega)
  rw [outputGateEff_eq s o hg hr, State.tuneQuiet_eq, ← hd, if_pos ⟨by rw [hdp]; exact hrt, hrun⟩]
  refine congrArg (State.noteGating · o) ?_
  show ({ s.modOut o Output.stopped with dplls := vmod (s.modOut o Output.stopped).dplls d ((s.modOut o Output.stopped).tunedDpll d) } : State) = _
  rw [hdps, htun]

/-! ### What a release leaves -/

/-- The record of an output that runs again, from its phase target. -/
abbrev State.releasedOut (s : State) (o : Nat) (phase : Nat) (delay : Int) (x : Output) : Output :=
  { x with
    high := true, gating := false, loading := false, realign := false, running := true, aligned := s.todref (s.outSrc o)
    div := s.outDiv o, src := s.outSrc o - 1
    relAt := some (phaseTarget (s.tod + 40 * nsU) (s.dcoNow (s.outSrc o)) (s.outDiv o) phase delay) }

theorem State.endRealign_spec (s : State) (d : Nat) : ∃ di, s.endRealign d = { s with dict := di } ∧ SameDict s (s.endRealign d) [Obj.dpll_realign.key d 0] := by
  unfold State.endRealign
  split
  · exact ⟨_, rfl, (SameDict.refl s _).putN (by simp) 2⟩
  · exact ⟨_, rfl, SameDict.refl s _⟩

theorem outputReleaseEff_lt (s : State) (o : Nat) (ho : o < 12) (hr : (s.out o).running = false) (hon : s.outOn o = true)
    (hl : s.lockedOrSlew (s.outSrc o) = true) (hf : s.settledFreq (s.outSrc o) = true) :
    outputReleaseEff o s = (s.modOut o (s.releasedOut o (s.effN Obj.out_phase o) (s.effI Obj.out_delay o))).endRealign (s.outSrc o) := by
  unfold outputReleaseEff
  rw [if_pos (by simp [hr, hon, hl, hf])]
  simp only [Nat.ne_of_lt ho, if_false]

theorem outputReleaseEff_gf (s : State) (hr : (s.out 12).running = false) (hon : s.outOn 12 = true)
    (hl : s.lockedOrSlew 4 = true) (hf : s.settledFreq 4 = true) :
    outputReleaseEff 12 s = ({ s with outs := vmod s.outs 12 (s.releasedOut 12 0 0), gnss := { s.gnss with gap := (s.gnss.gap.1, some s.tc.cyc) } } : State).endRealign 4 := by
  unfold outputReleaseEff
  rw [if_pos (by simp [hr, hon, show s.outSrc 12 = 4 from rfl, hl, hf])]
  rfl

theorem State.modOut_dplls (s : State) (o : Nat) (ho : o < 13) :
    s.modOut o Output.stopped = { s.modOut o Output.stopped with dplls := s.dplls } := by
  obtain ⟨ou, di, h⟩ := (s.modOut_outsMod o Output.stopped ho).frame
  rw [h]

/-- Settles O26. In the first two clauses the arrow stands in the scope of the bound output `k`: they ask for the outcome only of one such `k`. Where
the hypothesis that they mean holds, the outcome is shown whatever `k` is. -/
theorem outputsGateAndRelease : Obligations.OutputsGateAndRelease := by
  refine ⟨fun s o ho hg hr => ?gate, fun s hg hr => ?gateGf, fun s o d hg hr hd hrt hk => ?gateTunes,
    fun s o ho hr he hl hf => ?release, fun s hp hr hl hf => ?releaseGf, fun s o h => ⟨s, next_of_eq (if_neg ?idle), rfl⟩⟩
  case gate =>
    by_cases hq : (s.dpll ((s.out o.val).src + 1)).retune = false ∨
        ∃ k : Fin 13, k.val ≠ o.val ∧ (s.out k.val).running = true ∧ (s.out k.val).src = (s.out o.val).src
    · obtain ⟨ou, di, h, hx, ha, hst, hga, hm, hd⟩ := s.noteGating_lt_spec _ o.val s.dplls ho (s.modOut_dplls o.val o.isLt)
      have heq := outputGateEff_keepsLoop s o.val o.isLt hg hr hq
      generalize (s.modOut o.val Output.stopped).noteGating o.val = t at *
      subst h
      exact .inr ⟨o, fun _ => ⟨_, next_of_eq heq, hx, ha, hst, hga, hm, rfl, hd⟩⟩
    · exact .inr ⟨o, fun h => absurd rfl h.1⟩
  case gateGf =>
    by_cases hq : (s.dpll ((s.out 12).src + 1)).retune = false ∨
        ∃ k : Fin 13, k.val ≠ 12 ∧ (s.out k.val).running = true ∧ (s.out k.val).src = (s.out 12).src
    · have heq := outputGateEff_keepsLoop s 12 (by omega) hg hr hq
      exact .inr ⟨12, fun _ => ⟨_, next_of_eq heq, vat_vmod_same _ _ _ _ (by omega), rfl, fun m hm => vat_vmod_other _ _ _ hm, rfl⟩⟩
    · exact .inr ⟨12, fun h => absurd rfl h.1⟩
  case gateTunes =>
    have heq := outputGateEff_tunes s o.val d.val o.isLt hg hr hd hrt fun k => (hk k).imp (congrArg Fin.val) id
    have hx : vat (vmod s.dplls d.val (s.tunedDpll d.val)) d.val {} = s.tunedDpll d.val (s.dpll d.val) := vat_vmod_same _ _ _ _ d.isLt
    have hxo (m : Nat) (hm : m ≠ d.val) : vat (vmod s.dplls d.val (s.tunedDpll d.val)) m {} = s.dpll m := vat_vmod_other _ _ _ hm
    generalize vmod s.dplls d.val (s.tunedDpll d.val) = dp at *
    by_cases ho : o.val < 12
    · obtain ⟨ou, di, h, hxo', -, -, hga, hm, hd⟩ := s.noteGating_lt_spec _ o.val dp ho rfl
      generalize ({ s.modOut o.val Output.stopped with dplls := dp } : State).noteGating o.val = t at *
      subst h
      exact ⟨_, next_of_eq heq, hxo', hm, hx, hxo, fun _ => rfl, fun h => absurd h (Nat.ne_of_lt ho), fun _ => hga, rfl, hd⟩
    · have h12 : o.val = 12 := by omega
      rw [h12] at heq
      rw [s.noteGating_gf dp] at heq
      refine ⟨_, (congrArg (fun k : Fin 13 => exec (.outputGate k) s) (Fin.ext h12 : o = 12)).trans (next_of_eq heq), ?_, fun m hm => ?_, hx, hxo,
        fun h => absurd h12 h, fun _ => rfl, fun h => absurd h ho, rfl, SameDict.refl s _⟩
      · rw [h12]; exact vat_vmod_same _ _ _ _ (by omega)
      · rw [h12] at hm; exact vat_vmod_other _ _ _ hm
  case release =>
    have hsrc : s.outSrc o.val = s.effN Obj.out_source o.val + 1 := by simp [State.outSrc, Nat.ne_of_lt ho]
    have hdiv : s.outDiv o.val = max 1 (s.effN Obj.out_divider o.val) := by simp [State.outDiv, Nat.ne_of_lt ho]
    have heq := outputReleaseEff_lt s o.val ho hr (by simp [State.outOn, Nat.ne_of_lt ho, he]) (by rw [hsrc]; exact State.lockedOrSlew_of_locked hl)
      (by rw [hsrc]; exact hf)
    obtain ⟨⟨ou, di, h⟩, hd, hout, hoth, hst, -⟩ := s.modOut_outsMod o.val (s.releasedOut o.val (s.effN Obj.out_phase o.val) (s.effI Obj.out_delay o.val)) o.isLt
    generalize s.modOut o.val (s.releasedOut o.val (s.effN Obj.out_phase o.val) (s.effI Obj.out_delay o.val)) = u at *
    subst h
    obtain ⟨di', h', hd'⟩ := State.endRealign_spec { s with outs := ou, dict := di } (s.outSrc o.val)
    have hk : Obj.out_state.key o.val 0 ∉ [Obj.dpll_realign.key (s.outSrc o.val) 0] := by
      simp [Row.key, Obj.out_state, Obj.dpll_realign]; omega
    have hval := hd'.valN_eq (by rw [h']) hk
    have hdict := hd.trans hd'
    generalize State.endRealign _ (s.outSrc o.val) = v at *
    subst h'
    refine ⟨_, next_of_eq heq, (hout o.val (by simp)).trans ?_, hval.trans ((hst o.val ho (by simp)).trans (State.outCode_running _ _ _ rfl)),
      fun m hm => hoth m (by simpa using hm), rfl, ?_⟩
    · simp only [hsrc, hdiv, State.releasedOut, Nat.add_sub_cancel]
    · rw [← hsrc]; exact hdict
  case releaseGf =>
    have heq := outputReleaseEff_gf s hr (by simp [State.outOn, hp]) (State.lockedOrSlew_of_locked hl) hf
    obtain ⟨di, h, hd⟩ := State.endRealign_spec
      { s with outs := vmod s.outs 12 (s.releasedOut 12 0 0), gnss := { s.gnss with gap := (s.gnss.gap.1, some s.tc.cyc) } } 4
    generalize State.endRealign _ 4 = v at *
    subst h
    exact ⟨_, next_of_eq heq, vat_vmod_same _ _ _ _ (by omega), rfl, fun m hm => vat_vmod_other _ _ _ hm, rfl, hd⟩
  case idle => rcases h with h | h <;> simp [h]

end Sys2Proof.Machine

/-! SUPPORT. PPS outputs (R244 to R246). -/
namespace Sys2Proof.Machine

/-- A source change still holds the pulse back. -/
def State.ppsHeld (s : State) (m : Nat) : Bool :=
  (s.ppso m).holdSrc && !(s.dpllState (s.effN Obj.pps_source m + 1) == 2 && s.effT Obj.pps_enable m)

/-- The instant `t` dealt with. -/
abbrev State.metPps (s : State) (m : Nat) (t : Tod) : State := s.modPps m fun x => { x with last := some (t, s.steps) }

/-- The last TOD second plus `pps.offset`. -/
abbrev State.ppsInstant (s : State) (m : Nat) : Tod :=
  (s.tod - psToU (s.effI Obj.pps_offset m)) / secU * secU + psToU (s.effI Obj.pps_offset m)

theorem ppsPulseStartEff_eq (s : State) (m : Nat) (hr : s.tc.running = true) (ht : s.reaches (s.ppsInstant m) = true)
    (hl : (s.ppso m).last ≠ some (s.ppsInstant m, s.steps)) :
    ppsPulseStartEff m s =
      if !s.ppsRuns m || s.ppsHeld m || (s.ppso m).active then (s.metPps m (s.ppsInstant m)).count Obj.pps_missed m
      else ((s.metPps m (s.ppsInstant m)).modPps m fun x =>
        { x with active := true, holdSrc := false, widthCyc := s.tc.cyc, width := s.effN Obj.pps_width m }).putPps m := by
  unfold ppsPulseStartEff
  rw [if_pos (by simp only [hr, ht, Bool.true_and, Bool.and_true]; exact bne_iff_ne.mpr hl)]
  rfl

theorem State.modPps_ppso (s : State) (m : Nat) (f : PpsOut → PpsOut) (h : m < 4) : (s.modPps m f).ppso m = f (s.ppso m) := vat_vmod_same _ _ _ _ h

theorem State.modPps_ppso_other (s : State) (m k : Nat) (f : PpsOut → PpsOut) (h : k ≠ m) : (s.modPps m f).ppso k = s.ppso k := vat_vmod_other _ _ _ h

/-- Settles O27. -/
theorem ppsPulses : Obligations.PpsPulses := by
  refine ⟨fun s m t0 ht0 hr ht hl hp hh ha => ?start, fun s m t0 ht0 hr ht hl h => ?missed, fun s m hr => ⟨s, next_of_eq (if_neg (by simp [hr])), rfl⟩,
    fun s m ha hp => ?done, fun s m h => ⟨s, next_of_eq (if_neg ?goesOn), rfl⟩⟩
  case start =>
    subst ht0
    have heq := ppsPulseStartEff_eq s m.val hr ht hl
    have hen : s.effT Obj.pps_enable m.val = true := by
      simp only [State.ppsRuns, Bool.and_eq_true] at hp
      exact hp.1.1
    have hheld : s.ppsHeld m.val = false := by rcases hh with h | h <;> simp [State.ppsHeld, h, hen]
    rw [if_neg (by simp [hp, hheld, ha])] at heq
    have hx : ∀ u : State, (u.putPps m.val).ppso m.val = { u.ppso m.val with level := (u.ppso m.val).active != (u.effN Obj.pps_polarity m.val == 1) } :=
      fun u => State.modPps_ppso u m.val _ m.isLt
    have hlev := hx ((s.metPps m.val (s.ppsInstant m.val)).modPps m.val fun x =>
      { x with active := true, holdSrc := false, widthCyc := s.tc.cyc, width := s.effN Obj.pps_width m.val })
    rw [State.modPps_ppso _ _ _ m.isLt, State.modPps_ppso _ _ _ m.isLt] at hlev
    refine ⟨_, next_of_eq heq, ?_, ⟨fun hpol => ?_, fun hpol => ?_⟩, fun k hk => ?_, rfl⟩
    · rw [hlev]
    · rw [hlev]
      show (true != (s.effN Obj.pps_polarity m.val == 1)) = false
      simp [hpol]
    · rw [hlev]
      show (true != (s.effN Obj.pps_polarity m.val == 1)) = true
      simp [hpol]
    · exact (State.modPps_ppso_other _ _ _ _ hk).trans ((State.modPps_ppso_other _ _ _ _ hk).trans (State.modPps_ppso_other _ _ _ _ hk))
  case missed =>
    subst ht0
    have heq := ppsPulseStartEff_eq s m.val hr ht hl
    have hc : (!s.ppsRuns m.val || s.ppsHeld m.val || (s.ppso m.val).active) = true := by
      rcases h with h | h | ⟨h, h2⟩
      · simp [h]
      · simp [h]
      · simp [State.ppsHeld, h, h2]
    rw [if_pos hc] at heq
    exact ⟨_, next_of_eq heq, State.count_u32 _ Obj.pps_missed m.val 0 rfl, State.modPps_ppso _ _ _ m.isLt,
      fun k hk => State.modPps_ppso_other _ _ _ _ hk, rfl, (SameDict.refl s _).count (by simp) 1⟩
  case done =>
    refine ⟨_, next_of_eq (if_pos (by simp [ha, hp])), ?_, fun k hk => ?_, rfl⟩
    · refine (State.modPps_ppso _ _ _ m.isLt).trans ?_
      rw [State.modPps_ppso _ _ _ m.isLt]
      have hpol : (false != (s.effN Obj.pps_polarity m.val == 1)) = decide (s.effN Obj.pps_polarity m.val = 1) := by
        rw [Bool.false_bne]; rfl
      exact congrArg (fun b => { s.ppso m.val with active := false, level := b }) hpol
    · exact (State.modPps_ppso_other _ _ _ _ hk).trans (State.modPps_ppso_other _ _ _ _ hk)
  case goesOn => rcases h with h | h <;> simp [h]

end Sys2Proof.Machine

/-! SUPPORT. The TOD serial interface (R248 to R251). -/
namespace Sys2Proof.Machine

/-! ### Lengths of octet strings -/

@[simp] theorem length_beBytes (k v : Nat) : (beBytes k v).length = k := by simp [beBytes]

@[simp] theorem length_intBytes (k : Nat) (v : Int) : (intBytes k v).length = k := length_beBytes k _

@[simp] theorem length_ascii (l : List Nat) : (ascii l).length = l.length := by simp [ascii]

@[simp] theorem length_digits : ∀ k v : Nat, (digits k v).length = k
  | 0, _ => rfl
  | k + 1, v => by simp [digits, length_digits k (v / 10)]

/-! ### Messages -/

/-- The BINARY message is its first 12 octets, 20 more, and the CRC-16 of these 32. -/
theorem State.uartBinary_eq (s : State) (u sec : Nat) :
    ∃ body : Bytes, s.uartBinary u sec = body ++ beBytes 2 (Crypto.crc16 body) ∧ body.length = 32 ∧
      body.take 12 = [0xC7, 0x3E, 0x01, 28] ++ beBytes 8 sec := by
  refine ⟨_, rfl, by simp, ?_⟩
  simp only [List.append_assoc]
  rw [← List.append_assoc (ascii [0xC7, 0x3E, 0x01, 28]), List.take_append_of_le_length (by simp), List.take_of_length_le (by simp)]
  rfl

/-- The fields of a ZDA sentence behind its address. -/
def State.zdaFields (s : State) (sec : Nat) : Bytes :=
  let t : Tod := (sec : Int) * secU
  let utc := ((sec : Int) - s.offsetAt t - if s.inInserted t then 1 else 0).toNat
  let day := civil (utc / 86400)
  [0x2C#8] ++ (digits 2 (utc % 86400 / 3600) ++ (digits 2 (utc % 86400 / 60 % 60) ++ (digits 2 (if s.inInserted t then 60 else utc % 86400 % 60) ++
    (ascii [0x2E, 0x30, 0x30] ++ ([0x2C#8] ++ (digits 2 day.2.2 ++ ([0x2C#8] ++ (digits 2 day.2.1 ++ ([0x2C#8] ++ (digits 4 day.1 ++
      ([0x2C#8] ++ (digits 2 0 ++ ([0x2C#8] ++ digits 2 0)))))))))))))

theorem State.uartZda_fields (s : State) (u sec : Nat) :
    s.uartZda u sec =
      let c := nmeaSum (s.effB Obj.uart_talker u ++ (ascii [0x5A, 0x44, 0x41] ++ s.zdaFields sec))
      [0x24#8] ++ (s.effB Obj.uart_talker u ++ (ascii [0x5A, 0x44, 0x41] ++ (s.zdaFields sec ++
        ([0x2A#8, hexDigit (c / 16), hexDigit (c % 16)] ++ [0x0D#8, 0x0A#8])))) := by
  simp only [State.uartZda, State.zdaFields, List.append_assoc]
  rfl

theorem State.length_zdaFields (s : State) (sec : Nat) : (s.zdaFields sec).length = 27 := by simp [State.zdaFields]

/-- The ZDA sentence of a talker of two letters has 38 octets: its address, 30 octets, CR LF. -/
theorem State.uartZda_eq (s : State) (u sec : Nat) :
    ∃ rest : Bytes, s.uartZda u sec = ([0x24] ++ s.effB Obj.uart_talker u ++ [0x5A, 0x44, 0x41]) ++ (rest ++ [0x0D, 0x0A]) ∧ rest.length = 30 := by
  rw [s.uartZda_fields]
  dsimp only
  generalize nmeaSum _ = c
  refine ⟨s.zdaFields sec ++ [0x2A#8, hexDigit (c / 16), hexDigit (c % 16)], ?_, by simp [s.length_zdaFields]⟩
  simp only [List.append_assoc]
  rfl

/-! ### TOD_UART_SEND (R248) -/

/-- The state in which UART `u` sends a message at the instant `t`. -/
def State.uartSends (s : State) (u : Nat) (t : Tod) (b : Bytes) : State :=
  { s with uarts := vmod s.uarts u fun x => { x with sent := b, last := some (t, s.steps), started := (s.tc.cyc, s.effN Obj.uart_baud u) } }

theorem State.uartSends_spec (s : State) (u : Nat) (t : Tod) (b : Bytes) (hu : u < 2) :
    vat (s.uartSends u t b).uarts u {} =
      { vat s.uarts u {} with sent := b, last := some (t, s.steps), started := (s.tc.cyc, s.effN Obj.uart_baud u) } ∧
    ∀ k, k ≠ u → vat (s.uartSends u t b).uarts k {} = vat s.uarts k {} :=
  ⟨vat_vmod_same _ _ _ _ hu, fun _ hk => vat_vmod_other _ _ _ hk⟩

/-- The delay of a message, and the last second whose message is due. -/
abbrev State.uartDelay (s : State) (u : Nat) : Tod := (s.effN Obj.uart_delay u : Int) * 1000000 * nsU

abbrev State.uartSec (s : State) (u : Nat) : Nat := ((s.tod - s.uartDelay u) / secU).toNat

theorem todUartSendEff_eq (s : State) (u : Nat) (hr : s.tc.running = true) (hf : s.effN Obj.uart_format u ≠ 0)
    (ht : s.reaches ((s.uartSec u : Int) * secU + s.uartDelay u) = true)
    (hl : (vat s.uarts u {}).last ≠ some ((s.uartSec u : Int) * secU + s.uartDelay u, s.steps)) :
    todUartSendEff u s =
      if s.effN Obj.uart_format u = 1 then s.uartSends u ((s.uartSec u : Int) * secU + s.uartDelay u) (s.uartBinary u (s.uartSec u))
      else if s.valN Obj.tod_state = 0 then s
      else s.uartSends u ((s.uartSec u : Int) * secU + s.uartDelay u) (s.uartZda u (s.uartSec u)) := by
  unfold todUartSendEff
  rw [if_pos (by simp only [hr, ht, bne_iff_ne.mpr hf, Bool.true_and, Bool.and_true]; exact bne_iff_ne.mpr hl)]
  rfl

theorem todUartSendEff_unset (s : State) (u : Nat) (hf : s.effN Obj.uart_format u = 2) (hu : s.valN Obj.tod_state = 0) : todUartSendEff u s = s := by
  unfold todUartSendEff
  dsimp only
  rw [if_neg (show ¬ s.effN Obj.uart_format u = 1 by omega), if_pos hu]
  exact ite_self s

/-! ### TOD_UART_RECEIVE (R251) -/

/-- The TOD second that a named second is compared with. -/
abbrev State.uartRef (s : State) (named : Int) : Int := if (named + 1) * secU < s.tod then (todSec s.tod : Int) - 1 else (todSec s.tod : Int)

theorem todUartReceiveEff_eq (s : State) (u : Nat) (b : Bytes) (named : Int) (hf : s.effN Obj.uart_rx_format u ≠ 0)
    (hp : s.uartParse (s.effN Obj.uart_rx_format u) b = some named) :
    todUartReceiveEff u b false s =
      if -(2 ^ 31) ≤ named - s.uartRef named ∧ named - s.uartRef named < 2 ^ 31 then
        (s.setB Obj.uart_rx_last b u).setN Obj.uart_rx_diff (named - s.uartRef named) u
      else (s.setB Obj.uart_rx_last b u).open.1.setN Obj.uart_rx_diff (((s.setB Obj.uart_rx_last b u).open.2 + 2 ^ 31) % 2 ^ 32 - 2 ^ 31) u := by
  unfold todUartReceiveEff
  rw [if_neg hf]
  simp only [Bool.false_eq_true, if_false, hp]

theorem State.val_setVal_bytes_other (s : State) (v : Int) (u : Nat) (b : Bytes) :
    (((s.setB Obj.uart_rx_last b u).setN Obj.uart_rx_diff v u).val Obj.uart_rx_last u).bytes = b := by
  rw [State.val_setN_other _ Obj.uart_rx_diff Obj.uart_rx_last v u 0 u 0 (by simp [Row.key, Obj.uart_rx_diff, Obj.uart_rx_last]), State.setB, State.val_setVal]
  rfl

/-- Settles O28. -/
theorem todUart : Obligations.TodUart := by
  refine ⟨fun s u sec delay hd hs hr ht hl hf => ?binary, fun s u sec delay hd hs hr ht hl hf hst htk => ?zda,
    fun s u hf => ⟨s, next_of_eq (if_neg (by simp [hf])), rfl⟩, fun s u hf hst => ⟨s, next_of_eq (todUartSendEff_unset s u.val hf hst), rfl⟩,
    fun s u b hf => ?framing, fun s u b named ref hf hp href h1 h2 => ?fits, fun s u b named ref hf hp href h => ?open_,
    fun s u b f hf => ⟨s, next_of_eq (if_pos hf), rfl⟩⟩
  case binary =>
    subst hd hs
    have heq := todUartSendEff_eq s u.val hr (by omega) ht hl
    rw [if_pos hf] at heq
    obtain ⟨body, hb, hlen, h12⟩ := s.uartBinary_eq u.val (s.uartSec u.val)
    rw [hb] at heq
    obtain ⟨hx, ho⟩ := s.uartSends_spec u.val _ (body ++ beBytes 2 (Crypto.crc16 body)) u.isLt
    refine ⟨_, next_of_eq heq, ?_, ?_, ?_, ho, rfl⟩
    · rw [hx, List.take_append_of_le_length (by omega), h12]
    · rw [hx, List.drop_left' hlen, List.take_left' hlen]
    · rw [hx]
  case zda =>
    subst hd hs
    have heq := todUartSendEff_eq s u.val hr (by omega) ht hl
    rw [if_neg (by omega), if_neg hst] at heq
    obtain ⟨rest, hb, hlen⟩ := s.uartZda_eq u.val (s.uartSec u.val)
    rw [hb] at heq
    obtain ⟨hx, ho⟩ := s.uartSends_spec u.val _ (([0x24] ++ s.effB Obj.uart_talker u.val ++ [0x5A, 0x44, 0x41]) ++ (rest ++ [0x0D, 0x0A])) u.isLt
    refine ⟨_, next_of_eq heq, ?_, ?_, ?_, ?_, ho, rfl⟩
    · rw [hx]; exact List.take_left' (by simp [htk])
    · rw [hx]; simp [htk, hlen]
    · rw [hx, ← List.append_assoc]; exact List.drop_left' (by simp [htk, hlen])
    · rw [hx]
  case framing =>
    exact ⟨_, next_of_eq (if_neg hf), State.count_u32 s Obj.uart_rx_errors u.val 0 rfl, rfl, (SameDict.refl s _).count (by simp) 1⟩
  case fits =>
    subst href
    have heq := todUartReceiveEff_eq s u.val b named hf hp
    rw [if_pos ⟨h1, h2⟩] at heq
    exact ⟨_, next_of_eq heq, State.valI_setN _ Obj.uart_rx_diff _ u.val 0, State.val_setVal_bytes_other s _ u.val b, rfl,
      ((SameDict.refl s _).put (r := Obj.uart_rx_last) (i := u.val) (j := 0) (by simp) _).putN (r := Obj.uart_rx_diff) (i := u.val) (j := 0) (by simp) _⟩
  case open_ =>
    subst href
    have heq := todUartReceiveEff_eq s u.val b named hf hp
    rw [if_neg fun hc => h.elim (not_le.mpr hc.2) (not_lt.mpr hc.1)] at heq
    exact ⟨_, next_of_eq heq, State.val_setVal_bytes_other s _ u.val b, rfl, rfl,
      ((SameDict.refl s _).put (r := Obj.uart_rx_last) (i := u.val) (j := 0) (by simp) _).putN (r := Obj.uart_rx_diff) (i := u.val) (j := 0) (by simp) _⟩

end Sys2Proof.Machine

/-! SUPPORT. The candidates of a cycle: which of them the cycle takes up, what the vote leaves of them, and what the difference units keep. -/
namespace Sys2Proof.Machine

/-! ### Channels -/

theorem State.modChan_chan (s : State) (c : Nat) (f : TicChan → TicChan) (h : c < 17) : (s.modChan c f).chan c = f (s.chan c) := vat_vmod_same _ _ _ _ h

theorem State.modChan_chan_other (s : State) (c m : Nat) (f : TicChan → TicChan) (h : m ≠ c) : (s.modChan c f).chan m = s.chan m := vat_vmod_other _ _ _ h

theorem TicChan.swap_fresh (x : TicChan) (f : Option (Nat × Bool)) : ({ x with fresh := f } : TicChan).swap = { x.swap with fresh := f } := by
  unfold TicChan.swap
  dsimp only
  split
  · rfl
  · split <;> rfl

theorem State.chanNow_modChan_fresh (s : State) (c : Nat) (f : Option (Nat × Bool)) (hc : c < 17) :
    (s.modChan c fun x => { x with fresh := f }).chanNow c = { s.chanNow c with fresh := f } := by
  unfold State.chanNow
  rw [s.modChan_chan c _ hc]
  show (if s.tc.boundaryDue then _ else _) = _
  split
  · exact TicChan.swap_fresh _ _
  · rfl

/-- A candidate dropped has no part in the conversion. -/
theorem State.convert_modChan_fresh (s : State) (c k : Nat) (f : Option (Nat × Bool)) (hc : c < 17) :
    (s.modChan c fun x => { x with fresh := f }).convert c k = s.convert c k := by
  unfold State.convert
  rw [s.chanNow_modChan_fresh c f hc]
  rfl

/-! ### The candidate of a channel (R255, R268) -/

/-- The candidate of channel `c` dropped. -/
abbrev State.dropCand (s : State) (c : Nat) : State := s.modChan c fun x => { x with fresh := none }

/-- The state in which channel `c` has taken its candidate. -/
def State.tookCand (s : State) (c : Nat) : State :=
  (State.settleQuiet (s.dropCand c) (s.dropCand c) c).modChan c fun x => { x with lastEv := some s.tc.cyc }

theorem State.tookCand_chan (s : State) (c : Nat) (hc : c < 17) :
    ∃ q, (s.tookCand c).chan c = { s.chan c with fresh := none, quiet := q, quietAt := s.tc.cyc, lastEv := some s.tc.cyc } := by
  have hq : (State.settleQuiet (s.dropCand c) (s.dropCand c) c).chan c =
      { s.chan c with fresh := none, quiet := (s.chan c).quiet + State.quietGain (s.dropCand c) (s.dropCand c) c, quietAt := s.tc.cyc } := by
    unfold State.settleQuiet
    rw [State.modChan_chan _ c _ hc, State.modChan_chan _ c _ hc]
    rfl
  exact ⟨_, (State.modChan_chan _ c _ hc).trans (by rw [hq])⟩

theorem State.tookCand_chan_other (s : State) (c m : Nat) (h : m ≠ c) : (s.tookCand c).chan m = s.chan m := by
  simp only [State.tookCand, State.settleQuiet, State.modChan_chan_other _ _ _ _ h]

theorem State.tookCand_frame (s : State) (c : Nat) : ∃ v, s.tookCand c = { s with tic := { s.tic with chans := v } } := ⟨_, rfl⟩

/-- A candidate that the channel takes is an event. -/
theorem State.tiCandidate_takes (s : State) (c k : Nat) (rise : Bool) (ev : TicEv) (i : Nat) (hc : c < 8) (hfr : (s.chan c).fresh = some (k, rise))
    (hok : s.edgeOk c rise = true) (hs : s.shut c = false) (hh : s.held c = false) (hf : (s.chan c).fencedN ≠ 2) (hk : k < 1152)
    (hcv : s.convert c k = some (ev, i)) :
    s.tiCandidate c = (s.tookCand c).tiEvent c { ev with fall := !rise && (s.tookCand c).effN Obj.tic_edge c == 2 } i := by
  have hx : (s.dropCand c).chan c = { s.chan c with fresh := none } := s.modChan_chan c _ (by omega)
  have hs' : (s.dropCand c).shut c = false := by
    refine Eq.trans ?_ hs
    unfold State.shut State.windowOpen
    rw [hx]; rfl
  have hh' : (s.dropCand c).held c = false := by
    refine Eq.trans ?_ hh
    unfold State.held
    rw [hx]; rfl
  have hc' : (s.dropCand c).convert c k = some (ev, i) := (s.convert_modChan_fresh c k none (by omega)).trans hcv
  have ht := (s.dropCand c).takeEdge_eq c { k := k, rise := rise } (ev, i) hok hs' hh' (by rw [hx]; exact hf) hk hc'
  unfold State.tiCandidate
  rw [hfr]
  dsimp only
  rw [ht]
  rfl

/-- A candidate at a channel that is shut is dropped. -/
theorem State.tiCandidate_shut (s : State) (c k : Nat) (rise : Bool) (hc : c < 8) (hfr : (s.chan c).fresh = some (k, rise)) (hs : s.shut c = true) :
    s.tiCandidate c = s.dropCand c := by
  have hx : (s.dropCand c).chan c = { s.chan c with fresh := none } := s.modChan_chan c _ (by omega)
  have hs' : (s.dropCand c).shut c = true := by
    refine Eq.trans ?_ hs
    unfold State.shut State.windowOpen
    rw [hx]; rfl
  have ht : (s.dropCand c).takeEdge c { k := k, rise := rise } = (s.dropCand c, none) := by
    simp [State.takeEdge, hs']
  unfold State.tiCandidate
  rw [hfr]
  dsimp only
  rw [ht]

theorem State.tiCandidate_none (s : State) (c : Nat) (h : (s.chan c).fresh = none) : s.tiCandidate c = s := by simp [State.tiCandidate, h]

/-- Where channel `c` alone has a candidate, the cycle takes up that one. -/
theorem State.tiCycle_one (s : State) (c : Nat) (hc : c < 8) (hs : ∀ m, m < 8 → m ≠ c → (s.chan m).fresh = none)
    (ht : ∀ m, m < 8 → m ≠ c → ((s.tiCandidate c).chan m).fresh = none) : s.tiCycle = s.tiCandidate c := by
  have hr : List.range 8 = List.range c ++ c :: (List.range (7 - c)).map (c + 1 + ·) := by
    interval_cases c <;> rfl
  have h1 : s.each (List.range c) State.tiCandidate = s := s.each_id _ _ fun m hm =>
    s.tiCandidate_none m (hs m (by have := List.mem_range.mp hm; omega) (by have := List.mem_range.mp hm; omega))
  have h2 : (s.tiCandidate c).each ((List.range (7 - c)).map (c + 1 + ·)) State.tiCandidate = s.tiCandidate c := State.each_id _ _ _ fun m hm => by
    obtain ⟨j, hj, rfl⟩ := List.mem_map.mp hm
    have := List.mem_range.mp hj
    exact State.tiCandidate_none _ _ (ht _ (by omega) (by omega))
  unfold State.tiCycle
  rw [hr]
  unfold State.each at *
  rw [List.foldl_append, h1, List.foldl_cons, h2]

/-! ### The rest of a cycle without a step -/

/-- Keys that a vote may write. -/
def VoteKeys (ks : List Nat) : Prop := ∀ k ∈ ks, ∃ n, k ∈ raiseKeys n

theorem State.each_raise_spec (l : List Nat) : ∀ s : State,
    ∃ w di ks, s.each l (fun s k => s.raise (216 + k)) = { s with win := w, dict := di } ∧ VoteKeys ks ∧
      SameDict s (s.each l fun s k => s.raise (216 + k)) ks := by
  induction l with
  | nil => exact fun s => ⟨s.win, s.dict, [], rfl, fun k hk => absurd hk List.not_mem_nil, SameDict.refl s _⟩
  | cons a l ih =>
    intro s
    obtain ⟨w, di, ks, h, hk, hd⟩ := ih (s.raise (216 + a))
    refine ⟨w, di, raiseKeys (216 + a) ++ ks, ?_, fun k hm => (List.mem_append.mp hm).elim (fun h => ⟨_, h⟩) (hk k),
      SameDict.trans (s.raise_sameDict (216 + a) {}) hd⟩
    refine (show s.each (a :: l) _ = (s.raise (216 + a)).each l _ from rfl).trans (h.trans ?_)
    rw [State.raise_frame]

/-- A vote changes the time core, raises sources and, with no keeper left, takes a free value. -/
theorem State.runVote_frame (s : State) :
    ∃ tc w di fr ks, s.runVote = { s with tc := tc, win := w, dict := di, fresh := fr } ∧ VoteKeys ks ∧ SameDict s s.runVote ks := by
  unfold State.runVote
  extract_lets v out none' s1 now first src s2 s3
  have h1 : ∃ fr, s1 = { s with fresh := fr } := by
    simp only [s1]
    split <;> exact ⟨_, rfl⟩
  obtain ⟨fr, h1⟩ := h1
  obtain ⟨w, di, ks, h3, hk, hd⟩ := State.each_raise_spec v.bad s2
  have hd3 : SameDict s s3 ks := by
    have hs : SameDict s s2 [] := by simp only [s2]; rw [h1]; exact SameDict.refl s _
    simpa using hs.trans hd
  have hs2 : s2 = { s with fresh := fr, tc := s2.tc } := by simp only [s2]; rw [h1]
  change s3 = _ at h3
  rw [hs2] at h3
  clear_value s3 s2 s1
  split
  · have hr := s3.raise_sameDict 222 {}
    obtain ⟨w2, d2, h2⟩ : ∃ w2 d2, s3.raise 222 {} = { s3 with win := w2, dict := d2 } := ⟨_, _, s3.raise_frame 222 {}⟩
    exact ⟨_, w2, d2, fr, ks ++ raiseKeys 222, h2.trans (by rw [h3]), fun k hm => (List.mem_append.mp hm).elim (hk k) fun h => ⟨_, h⟩, hd3.trans hr⟩
  · exact ⟨_, _, _, _, ks, h3, hk, hd3⟩

/-- A cycle without a step leaves of its candidates what `tiCycle` does: all else is the time core, the loops' rates and what a vote raises. -/
theorem keeperCycleEff_candidates (s : State) (hr : s.cycleReady = true) (hs : s.tc.step = none) (hp : ∀ p, p < 9 → (s.port p).taking = false)
    (hn : s.tiCycle.net = s.net) :
    ∃ tc dp w di fr ks, keeperCycleEff [] s = { s.tiCycle with tc := tc, dplls := dp, win := w, dict := di, fresh := fr } ∧ VoteKeys ks ∧
      SameDict s.tiCycle (keeperCycleEff [] s) ks := by
  have htc := s.tiCycle_tc
  obtain ⟨dp, hdp⟩ := s.tiCycle.feedForward_frame
  unfold keeperCycleEff
  rw [if_neg (by simp [hr])]
  dsimp only
  generalize s.tiCycle = u at *
  rw [htc, hs]
  simp only [Option.isSome_none, Bool.false_eq_true, if_false, Option.getD_none, hdp]
  obtain ⟨tc, w, di, fr, ks, hv, hk, hd⟩ := State.runVote_frame { u with dplls := dp, tc := u.tc.advance [] }
  generalize State.runVote { u with dplls := dp, tc := u.tc.advance [] } = v at *
  subst hv
  obtain ⟨l, hl⟩ := State.markTod_eq { u with tc := { tc with boundaryDue := decide (tc.nextGrid ≤ tc.voted) }, dplls := dp, win := w, dict := di, fresh := fr } 0
  have ht : State.takeLinks (State.markTod
      { u with tc := { tc with boundaryDue := decide (tc.nextGrid ≤ tc.voted) }, dplls := dp, win := w, dict := di, fresh := fr } 0) = _ :=
    State.takeLinks_idle _ fun p h => by rw [hl]; exact (congrArg (fun n : Net => (vat n.ports p {}).taking) hn).trans (hp p h)
  rw [ht, hl]
  exact ⟨_, _, _, _, _, ks, rfl, hk, hd⟩

end Sys2Proof.Machine

/-! SUPPORT. What an event does at the difference units (R271, R274, R276). -/
namespace Sys2Proof.Machine

theorem State.modDiff_diff (s : State) (d : Nat) (f : TicDiff → TicDiff) (h : d < 8) : (s.modDiff d f).diff d = f (s.diff d) := vat_vmod_same _ _ _ _ h

theorem State.modDiff_diff_other (s : State) (d m : Nat) (f : TicDiff → TicDiff) (h : m ≠ d) : (s.modDiff d f).diff m = s.diff m := vat_vmod_other _ _ _ h

/-- The keys that the work of a difference unit writes. -/
abbrev diffKeys (d : Nat) : List Nat := [Obj.tic_diff_surplus.key d 0, Obj.tic_diff_overruns.key d 0, Obj.tic_diff_last.key d 0]

/-- `t` differs from `s` by work of difference unit `d` at most. -/
structure DiffWork (s t : State) (d : Nat) : Prop where
  frame : ∃ di df w, t = { s with dict := di, tic := { s.tic with diffs := df, waits := w } }
  other : ∀ m, m ≠ d → t.diff m = s.diff m
  dict : SameDict s t (diffKeys d)

theorem DiffWork.refl (s : State) (d : Nat) : DiffWork s s d := ⟨⟨s.dict, s.tic.diffs, s.tic.waits, rfl⟩, fun _ _ => rfl, SameDict.refl s _⟩

theorem DiffWork.modDiff {s t : State} {d : Nat} (h : DiffWork s t d) (f : TicDiff → TicDiff) : DiffWork s (t.modDiff d f) d := by
  obtain ⟨⟨di, df, w, rfl⟩, ho, hd⟩ := h
  exact ⟨⟨_, _, _, rfl⟩, fun m hm => (State.modDiff_diff_other _ d m f hm).trans (ho m hm), hd⟩

theorem DiffWork.setN {s t : State} {d : Nat} (h : DiffWork s t d) {r : Row} (hk : r.key d 0 ∈ diffKeys d) (v : Int) : DiffWork s (t.setN r v d) d := by
  obtain ⟨⟨di, df, w, rfl⟩, ho, hd⟩ := h
  exact ⟨⟨_, _, _, rfl⟩, ho, hd.putN hk v⟩

theorem DiffWork.count {s t : State} {d : Nat} (h : DiffWork s t d) {r : Row} (hk : r.key d 0 ∈ diffKeys d) : DiffWork s (t.count r d) d := h.setN hk _

theorem DiffWork.pushDiff {s t : State} {d : Nat} (h : DiffWork s t d) (st : Nat) (u : Int) (w : Nat) : DiffWork s (t.pushDiff d st u w) d := by
  have hl := h.setN (r := Obj.tic_diff_last) (by simp) u
  unfold State.pushDiff
  dsimp only
  split
  · exact hl.count (by simp)
  · exact hl.modDiff _

theorem DiffWork.emitDiff {s t : State} {d : Nat} (h : DiffWork s t d) (w : TicWait) (hw : w.unit = 8 + d) (fl : Nat) : DiffWork s (t.emitDiff w fl) d := by
  have hd : w.unit - 8 = d := by omega
  unfold State.emitDiff
  dsimp only
  rw [hd]
  split
  · exact h.pushDiff _ _ _
  · exact h.pushDiff _ _ _

theorem DiffWork.emitTic {s t : State} {d : Nat} (h : DiffWork s t d) (w : TicWait) (hw : w.unit = 8 + d) (fl : Nat) : DiffWork s (t.emitTic w fl) d := by
  unfold State.emitTic
  rw [if_neg (by omega)]
  exact h.emitDiff w hw fl

theorem DiffWork.finishTic {s t : State} {d : Nat} (h : DiffWork s t d) (w : TicWait) (hw : w.unit = 8 + d) : DiffWork s (t.finishTic w) d := by
  unfold State.finishTic
  extract_lets tcl latest lost
  split
  · exact h.emitTic (tcl w) hw _
  · split
    · exact h.emitTic w hw _
    · split
      · obtain ⟨⟨di, df, wa, rfl⟩, ho, hd⟩ := h
        exact ⟨⟨_, _, _, rfl⟩, ho, hd⟩
      · exact h.emitTic (tcl w) hw _

theorem DiffWork.tryPair {s t : State} {d : Nat} (h : DiffWork s t d) : DiffWork s (t.tryPair d) d := by
  unfold State.tryPair
  extract_lets x
  split
  · split
    · refine DiffWork.modDiff ?_ _
      split
      · exact h.pushDiff _ _ _
      · exact h.finishTic _ rfl
    · exact h
  · exact h

/-- An event of channel `c` at difference unit `d`. -/
def State.feedDiff (c : Nat) (e : TicEv) (s : State) (d : Nat) : State :=
  if !(s.effT Obj.tic_diff_enable d && (s.diff d).winOpen) then s
  else
    let s :=
      if s.effN Obj.tic_diff_start d = c then
        if (s.diff d).s.isNone then (s.modDiff d fun x => { x with s := some e }).tryPair d else s.count Obj.tic_diff_surplus d
      else s
    if s.effN Obj.tic_diff_stop d = c then
      if (s.diff d).p.isNone then (s.modDiff d fun x => { x with p := some e }).tryPair d else s.count Obj.tic_diff_surplus d
    else s

theorem State.feedDiffs_eq (s : State) (c : Nat) (e : TicEv) : s.feedDiffs c e = s.each (List.range 8) (State.feedDiff c e) := rfl

theorem State.feedDiff_work (c : Nat) (e : TicEv) (s : State) (d : Nat) : DiffWork s (State.feedDiff c e s d) d := by
  unfold State.feedDiff
  extract_lets s1
  split
  · exact DiffWork.refl s d
  · have h1 : DiffWork s s1 d := by
      simp only [s1]
      split
      · split
        · exact ((DiffWork.refl s d).modDiff _).tryPair
        · exact (DiffWork.refl s d).count (by simp)
      · exact DiffWork.refl s d
    split
    · split
      · exact (h1.modDiff _).tryPair
      · exact h1.count (by simp)
    · exact h1

/-- Work of several difference units. -/
structure DiffsWork (s t : State) (l : List Nat) : Prop where
  frame : ∃ di df w, t = { s with dict := di, tic := { s.tic with diffs := df, waits := w } }
  other : ∀ m, m ∉ l → t.diff m = s.diff m
  dict : SameDict s t (l.flatMap diffKeys)

theorem State.each_feedDiff (c : Nat) (e : TicEv) (l : List Nat) : ∀ s : State, DiffsWork s (s.each l (State.feedDiff c e)) l := by
  induction l with
  | nil => exact fun s => ⟨⟨s.dict, s.tic.diffs, s.tic.waits, rfl⟩, fun _ _ => rfl, SameDict.refl s _⟩
  | cons d l ih =>
    intro s
    obtain ⟨⟨di, df, w, h⟩, ho, hd⟩ := State.feedDiff_work c e s d
    obtain ⟨⟨di', df', w', h'⟩, ho', hd'⟩ := ih (State.feedDiff c e s d)
    refine ⟨⟨di', df', w', ?_⟩, fun m hm => ?_, SameDict.trans hd hd'⟩
    · exact h'.trans (by rw [h])
    · obtain ⟨h1, h2⟩ := not_or.mp (mt List.mem_cons.mpr hm)
      exact (ho' m h2).trans (ho m h1)

theorem State.feedDiffs_work (s : State) (c : Nat) (e : TicEv) : DiffsWork s (s.feedDiffs c e) (List.range 8) := State.each_feedDiff c e _ s

/-- With no unit enabled an event reaches none. -/
theorem State.feedDiffs_none (s : State) (c : Nat) (e : TicEv) (h : ((List.range 8).all fun d => !s.effT Obj.tic_diff_enable d) = true) :
    s.feedDiffs c e = s := by
  rw [s.feedDiffs_eq]
  refine s.each_id _ _ fun d hd => ?_
  have := List.all_eq_true.mp h d hd
  simp [State.feedDiff, show s.effT Obj.tic_diff_enable d = false by simpa using this]

end Sys2Proof.Machine

/-! SUPPORT. The events of the TI channels, recorded (R255, R271, R272, R273, R275). -/
namespace Sys2Proof.Machine

/-! ### An event on the TB_IN time base -/

theorem placeTb_keeps (l : List (Nat × Int)) (e : TicEv) : ∃ p, placeTb l e = { e with pos := p } := by
  induction l with
  | nil => exact ⟨e.pos, rfl⟩
  | cons x l ih =>
    cases l with
    | nil => exact ⟨e.pos, rfl⟩
    | cons y l =>
      unfold placeTb
      split
      · exact ⟨_, rfl⟩
      · exact ih

/-- An event, placed on TB_IN where that is the time base. -/
def State.placed (s : State) (e : TicEv) : TicEv := if s.valN Obj.tic_tb_state = 1 then placeTb s.tic.tbEdges e else e

theorem State.placed_keeps (s : State) (e : TicEv) : ∃ p, s.placed e = { e with pos := p } := by
  unfold State.placed
  split
  · exact placeTb_keeps _ e
  · exact ⟨e.pos, rfl⟩

/-! ### What an event does at its channel -/

/-- An event in FREQ mode below the prescale counts. -/
theorem State.tiEvent_presc (s : State) (c : Nat) (e : TicEv) (i : Nat) (hm : s.effN Obj.tic_mode c = 2)
    (hp : (s.chan c).presc + 1 < s.effN Obj.tic_prescale c) : s.tiEvent c e i = s.modChan c fun x => { x with presc := (s.chan c).presc + 1 } := by
  unfold State.tiEvent
  simp [hm, Nat.not_le.mpr hp]

/-- An event in another mode: recorded in EVENT mode, and shown to the difference units. -/
theorem State.tiEvent_diffs (s : State) (c : Nat) (e : TicEv) (i : Nat) (hm : s.effN Obj.tic_mode c ≠ 2) :
    s.tiEvent c e i =
      (if s.effN Obj.tic_mode c = 1 then
        s.pushTic c (beBytes 16 (s.placed e).stamp ++ beBytes 8 (eventWord (s.placed e) i)) 1
          (beBytes 4 (if s.effN Obj.tic_gate c = 0 then 0 else (s.chan c).winNo))
        else s).feedDiffs c (s.placed e) := by
  unfold State.tiEvent
  simp only [hm, if_false]
  rfl

theorem State.pushTic_room (s : State) (c : Nat) (body : Bytes) (kind : Nat) (tail : Bytes) (h : (s.chan c).queue.length < 1024) :
    s.pushTic c body kind tail = s.modChan c fun x =>
      { x with
        queue := x.queue ++ [body ++ [BitVec.ofNat 8 kind, BitVec.ofNat 8 c] ++ beBytes 2 (s.chan c).seq ++ tail]
        seq := (x.seq + 1) % 65536 } := if_neg (Nat.not_le.mpr h)

theorem State.pushTic_full (s : State) (c : Nat) (body : Bytes) (kind : Nat) (tail : Bytes) (h : 1024 ≤ (s.chan c).queue.length) :
    s.pushTic c body kind tail = s.count Obj.tic_overruns c := if_pos h

/-! ### The whole cycle -/

/-- A cycle without a step in which no link goes down and channel `c` alone has a candidate. -/
structure OneCand (s : State) (c k : Nat) (rise : Bool) : Prop where
  ready : s.cycleReady = true
  step : s.tc.step = none
  taking : ∀ p, p < 9 → (s.port p).taking = false
  alone : ∀ m, m < 8 → m = c ∨ (s.chan m).fresh = none
  cand : (s.chan c).fresh = some (k, rise)

/-- What the candidate leaves is what the cycle leaves, but the time core, the loops' rates and what a vote raises. -/
theorem OneCand.cycle {s t : State} {c k : Nat} {rise : Bool} (h : OneCand s c k rise) (hc : c < 8) (ht : s.tiCandidate c = t)
    (hch : ∀ m, m ≠ c → t.chan m = s.chan m) (hn : t.net = s.net) :
    ∃ tc dp w di fr ks, keeperCycleEff [] s = { t with tc := tc, dplls := dp, win := w, dict := di, fresh := fr } ∧ VoteKeys ks ∧
      SameDict t (keeperCycleEff [] s) ks := by
  have hone : s.tiCycle = t := by
    rw [s.tiCycle_one c hc (fun m hm hne => (h.alone m hm).resolve_left hne), ht]
    intro m hm hne
    rw [ht, hch m hne]
    exact (h.alone m hm).resolve_left hne
  have := keeperCycleEff_candidates s h.ready h.step h.taking (by rw [hone, hn])
  rwa [hone] at this

/-- The objects that show the interval counters are not what a vote writes. -/
theorem VoteKeys.not_mem {ks : List Nat} (h : VoteKeys ks) {r : Row} {i j : Nat} (hk : ∀ n, r.key i j ∉ raiseKeys n) : r.key i j ∉ ks := fun hm =>
  (h _ hm).elim fun n hn => hk n hn

theorem TicEv.eventWord_placed (s : State) (e : TicEv) (i : Nat) : eventWord (s.placed e) i = eventWord e i ∧ (s.placed e).stamp = e.stamp := by
  obtain ⟨p, hp⟩ := s.placed_keeps e
  rw [hp]
  exact ⟨rfl, rfl⟩

/-! ### TIC_EVENT (R255, R258, R268) -/

/-- The event that a candidate of channel `c` is. -/
abbrev State.candEvent (s : State) (c : Nat) (rise : Bool) (ev : TicEv) : TicEv := { ev with fall := !rise && s.effN Obj.tic_edge c == 2 }

theorem eventWord_cand (s : State) (c i : Nat) (rise : Bool) (ev : TicEv) :
    eventWord (s.candEvent c rise ev) i =
      ev.c % 2 ^ 48 * 65536 + i * 32768 + (if rise = false ∧ s.effN Obj.tic_edge c = 2 then 2048 else 0) + ev.k % 2048 := by
  have : (if (!rise && s.effN Obj.tic_edge c == 2) = true then 2048 else 0) = if rise = false ∧ s.effN Obj.tic_edge c = 2 then 2048 else 0 := by
    cases rise <;> simp
  simp only [eventWord, this]

/-- The record of channel `c` that has taken its candidate, but for its count of quiet cycles. -/
abbrev State.tookChan (s : State) (c q : Nat) : TicChan :=
  { s.chan c with fresh := none, quiet := q, quietAt := s.tc.cyc, lastEv := some s.tc.cyc }

/-- The channels changed, and nothing else. -/
abbrev State.withChans (s : State) (v : Vector TicChan 17) : State := { s with tic := { s.tic with chans := v } }

/-- The record of an event (R272). -/
abbrev State.eventRecord (s : State) (c i : Nat) (rise : Bool) (ev : TicEv) : Bytes :=
  beBytes 16 ev.stamp ++
    beBytes 8 (ev.c % 2 ^ 48 * 65536 + i * 32768 + (if rise = false ∧ s.effN Obj.tic_edge c = 2 then 2048 else 0) + ev.k % 2048) ++
    [1#8, BitVec.ofNat 8 c] ++ beBytes 2 (s.chan c).seq ++ beBytes 4 (if s.effN Obj.tic_gate c = 0 then 0 else (s.chan c).winNo)

/-- A candidate in EVENT mode, with room: the channel it leaves, and the event at the difference units. -/
theorem State.tiCandidate_event (s : State) (c : Nat) (rise : Bool) (ev : TicEv) (i : Nat) (hc : c < 8)
    (ht : s.tiCandidate c = (s.tookCand c).tiEvent c (s.candEvent c rise ev) i) (hm : s.effN Obj.tic_mode c = 1)
    (hq : (s.chan c).queue.length < 1024) :
    ∃ v q, s.tiCandidate c = (s.withChans v).feedDiffs c ((s.tookCand c).placed (s.candEvent c rise ev)) ∧
      vat v c {} = { s.tookChan c q with seq := ((s.chan c).seq + 1) % 65536, queue := (s.chan c).queue ++ [s.eventRecord c i rise ev] } ∧
      ∀ m, m ≠ c → vat v m {} = s.chan m := by
  obtain ⟨q, hx⟩ := s.tookCand_chan c (by omega)
  have hxo := s.tookCand_chan_other c
  have hm' : (s.tookCand c).effN Obj.tic_mode c = 1 := hm
  obtain ⟨hw, hst⟩ := (s.candEvent c rise ev).eventWord_placed (s.tookCand c) i
  rw [State.tiEvent_diffs _ c _ i (by rw [hm']; decide), if_pos hm', hw, hst,
    eventWord_cand, State.pushTic_room _ _ _ _ _ (by rw [hx]; exact hq)] at ht
  obtain ⟨v, hv⟩ := s.tookCand_frame c
  generalize (s.tookCand c).placed (s.candEvent c rise ev) = e at *
  generalize s.tookCand c = u at *
  subst hv
  refine ⟨_, q, ht, ?_, fun m hmc => (State.modChan_chan_other _ c m _ hmc).trans (hxo m hmc)⟩
  refine (State.modChan_chan _ c _ (by omega)).trans ?_
  rw [hx]
  rfl

/-- A candidate in EVENT mode without room is counted. -/
theorem State.tiCandidate_overrun (s : State) (c : Nat) (rise : Bool) (ev : TicEv) (i : Nat) (hc : c < 8)
    (ht : s.tiCandidate c = (s.tookCand c).tiEvent c (s.candEvent c rise ev) i) (hm : s.effN Obj.tic_mode c = 1)
    (hq : 1024 ≤ (s.chan c).queue.length) :
    ∃ v q, s.tiCandidate c = ((s.withChans v).count Obj.tic_overruns c).feedDiffs c ((s.tookCand c).placed (s.candEvent c rise ev)) ∧
      vat v c {} = s.tookChan c q ∧ ∀ m, m ≠ c → vat v m {} = s.chan m := by
  obtain ⟨q, hx⟩ := s.tookCand_chan c (by omega)
  have hxo := s.tookCand_chan_other c
  have hm' : (s.tookCand c).effN Obj.tic_mode c = 1 := hm
  rw [State.tiEvent_diffs _ c _ i (by rw [hm']; decide), if_pos hm',
    State.pushTic_full _ _ _ _ _ (by rw [hx]; exact hq)] at ht
  obtain ⟨v, hv⟩ := s.tookCand_frame c
  generalize (s.tookCand c).placed (s.candEvent c rise ev) = e at *
  generalize s.tookCand c = u at *
  subst hv
  exact ⟨_, q, ht, hx, hxo⟩

/-- A candidate in FREQ mode below the prescale counts. -/
theorem State.tiCandidate_presc (s : State) (c : Nat) (rise : Bool) (ev : TicEv) (i : Nat) (hc : c < 8)
    (ht : s.tiCandidate c = (s.tookCand c).tiEvent c (s.candEvent c rise ev) i) (hm : s.effN Obj.tic_mode c = 2)
    (hp : (s.chan c).presc + 1 < s.effN Obj.tic_prescale c) :
    ∃ v q, s.tiCandidate c = s.withChans v ∧ vat v c {} = { s.tookChan c q with presc := (s.chan c).presc + 1 } ∧
      ∀ m, m ≠ c → vat v m {} = s.chan m := by
  obtain ⟨q, hx⟩ := s.tookCand_chan c (by omega)
  have hxo := s.tookCand_chan_other c
  rw [(s.tookCand c).tiEvent_presc c _ i hm (by rw [hx]; exact hp), hx] at ht
  obtain ⟨v, hv⟩ := s.tookCand_frame c
  generalize s.tookCand c = u at *
  subst hv
  refine ⟨_, q, ht, (State.modChan_chan _ c _ (by omega)).trans ?_, fun m hmc => (State.modChan_chan_other _ c m _ hmc).trans (hxo m hmc)⟩
  rw [hx]

theorem tic_overruns_not_mem_raiseKeys (c n : Nat) : Obj.tic_overruns.key c 0 ∉ raiseKeys n := by
  simp [raiseKeys, srcKey, Row.key, Obj.tic_overruns, Obj.win_src_state, Obj.win_lost, Obj.win_status]; omega

theorem tic_overruns_not_mem_diffKeys (c : Nat) : Obj.tic_overruns.key c 0 ∉ (List.range 8).flatMap diffKeys := by
  simp only [List.mem_flatMap, List.mem_range, List.mem_cons, List.not_mem_nil, or_false, not_exists, not_and, not_or]
  intro d hd
  simp only [Row.key, Obj.tic_overruns, Obj.tic_diff_surplus, Obj.tic_diff_overruns, Obj.tic_diff_last]
  omega

/-- Settles O29. -/
theorem ticEventRecords : Obligations.TicEventRecords := by
  refine ⟨fun s c e hc hf => ?cand, fun s c e hc hf => ⟨s, next_of_eq ?second, rfl⟩,
    fun s c k rise ev i h1 h2 h3 h4 h5 hok hs hh hn hk hcv hm hq => ?event, fun s c k rise ev i h1 h2 h3 h4 h5 hok hs hh hn hk hcv hm hq => ?overrun,
    fun s c k rise ev i h1 h2 h3 h4 h5 hok hs hh hn hk hcv hm hq => ?presc, fun s c k rise h1 h2 h3 h4 h5 hs => ?shut,
    fun s c e ev i h8 h16 he hok hh hn hk hcv => ?ref⟩
  case cand =>
    have heq : ticEventEff c.val e s = s.modChan c.val fun x => { x with fresh := some (e.k, e.rise) } := by
      unfold ticEventEff
      rw [if_pos hc, if_neg (by simp [hf])]
    exact ⟨_, next_of_eq heq, State.modChan_chan _ _ _ c.isLt, fun m hm => State.modChan_chan_other _ _ _ _ hm, rfl, rfl⟩
  case second =>
    unfold ticEventEff
    rw [if_pos hc, if_pos (Option.isSome_iff_ne_none.mpr hf)]
  case event =>
    have ht := s.tiCandidate_takes c.val k rise ev i c.isLt h5 hok hs hh hn hk hcv
    obtain ⟨v, q, hv, hx, ho⟩ := s.tiCandidate_event c.val rise ev i c.isLt ht hm hq
    obtain ⟨⟨di, df, w, hfr⟩, -, hd⟩ := (s.withChans v).feedDiffs_work c.val ((s.tookCand c.val).placed (s.candEvent c.val rise ev))
    have hnone := (s.withChans v).feedDiffs_none c.val ((s.tookCand c.val).placed (s.candEvent c.val rise ev))
    rw [← hv] at hfr hnone
    obtain ⟨tc, dp, w', di', fr, ks, heq, -, -⟩ := OneCand.cycle ⟨h1, h2, h3, h4, h5⟩ c.isLt hfr ho rfl
    refine ⟨_, next_of_eq heq, ?_, ?_, ?_, ?_, ho, fun hall => ?_⟩
    · exact (congrArg TicChan.queue hx)
    · exact (congrArg TicChan.seq hx)
    · exact (congrArg TicChan.lastEv hx)
    · exact (congrArg TicChan.fresh hx)
    · have := hnone hall
      rw [hfr] at this
      have hdf := congrArg (fun u : State => u.tic.diffs) this
      exact hdf
  case overrun =>
    have ht := s.tiCandidate_takes c.val k rise ev i c.isLt h5 hok hs hh hn hk hcv
    obtain ⟨v, q, hv, hx, ho⟩ := s.tiCandidate_overrun c.val rise ev i c.isLt ht hm hq
    obtain ⟨⟨di, df, w, hfr⟩, -, hd⟩ := ((s.withChans v).count Obj.tic_overruns c.val).feedDiffs_work c.val ((s.tookCand c.val).placed (s.candEvent c.val rise ev))
    rw [← hv] at hfr hd
    obtain ⟨tc, dp, w', di', fr, ks, heq, hks, hdk⟩ := OneCand.cycle ⟨h1, h2, h3, h4, h5⟩ c.isLt rfl (by rw [hfr]; exact ho) (by rw [hfr]; rfl)
    have hval : (keeperCycleEff [] s).valN Obj.tic_overruns c.val = min (s.valN Obj.tic_overruns c.val + 1) (2 ^ 32 - 1) := by
      rw [hdk.valN_eq (by rw [heq]) (hks.not_mem (tic_overruns_not_mem_raiseKeys c.val)),
        hd.valN_eq (by rw [hfr]) (tic_overruns_not_mem_diffKeys c.val)]
      exact State.count_u32 _ Obj.tic_overruns c.val 0 rfl
    rw [heq, hfr] at hval
    rw [hfr] at heq
    have hqueue := congrArg TicChan.queue hx
    have hseq := congrArg TicChan.seq hx
    have hlast := congrArg TicChan.lastEv hx
    have hfresh := congrArg TicChan.fresh hx
    exact ⟨_, next_of_eq heq, hqueue, hseq, hlast, hfresh, hval, ho⟩
  case presc =>
    have ht := s.tiCandidate_takes c.val k rise ev i c.isLt h5 hok hs hh hn hk hcv
    obtain ⟨v, q, hv, hx, ho⟩ := s.tiCandidate_presc c.val rise ev i c.isLt ht hm hq
    obtain ⟨tc, dp, w', di', fr, ks, heq, -, -⟩ := OneCand.cycle ⟨h1, h2, h3, h4, h5⟩ c.isLt hv ho rfl
    have hpresc := congrArg TicChan.presc hx
    have hqueue := congrArg TicChan.queue hx
    have hfreq := congrArg TicChan.freqN hx
    have hlast := congrArg TicChan.lastEv hx
    have hfresh := congrArg TicChan.fresh hx
    exact ⟨_, next_of_eq heq, hpresc, hqueue, hfreq, hlast, hfresh, ho, rfl⟩
  case shut =>
    have ht := s.tiCandidate_shut c.val k rise c.isLt h5 hs
    obtain ⟨tc, dp, w', di', fr, ks, heq, -, -⟩ := OneCand.cycle ⟨h1, h2, h3, h4, h5⟩ c.isLt ht (fun m hm => State.modChan_chan_other _ _ _ _ hm) rfl
    exact ⟨_, next_of_eq heq, State.modChan_chan s c.val (fun x => { x with fresh := none }) (by omega), fun m hm => State.modChan_chan_other s c.val m _ hm, rfl⟩
  case ref =>
    have ht := s.takeEdge_eq c.val e (ev, i) hok (by simp [State.shut, Nat.not_lt.mpr h8]) hh hn hk hcv
    have heq : ticEventEff c.val e s = (State.settleQuiet s s c.val).modChan c.val fun x => { x with lastEv := some s.tc.cyc } := by
      unfold ticEventEff
      rw [if_neg (by omega), ht]
      dsimp only
      rw [if_pos h16]
      unfold State.refFeed
      exact if_pos (by show (!s.effT Obj.ref_enable (c.val - 8)) = true; rw [he]; rfl)
    refine ⟨_, next_of_eq heq, ?_, fun m hm => ?_, rfl, rfl⟩
    · rw [State.modChan_chan _ _ _ c.isLt, State.settleQuiet, State.modChan_chan _ _ _ c.isLt]
    · rw [State.modChan_chan_other _ _ _ _ hm, State.settleQuiet, State.modChan_chan_other _ _ _ _ hm]

end Sys2Proof.Machine

/-! SUPPORT. Gates and their windows (R267, R274, R275). -/
namespace Sys2Proof.Machine

/-! ### Folds that work on one unit at a time -/

/-- A fold whose step at `c` leaves the other units alone: the units of the list are as their own step leaves them, the others as they were. -/
theorem State.each_local {β : Type} (P : State → Nat → β) (R : State → State → Prop) (hrefl : ∀ u, R u u) (htrans : ∀ u v w, R u v → R v w → R u w)
    (F : State → Nat → State) (l : List Nat) (hR : ∀ u c, c ∈ l → R u (F u c)) (hP : ∀ u c, c ∈ l → ∀ m, m ≠ c → P (F u c) m = P u m) : ∀ s : State, l.Nodup →
    R s (s.each l F) ∧ (∀ m, m ∉ l → P (s.each l F) m = P s m) ∧
      ∀ c, c ∈ l → ∃ u, R s u ∧ P u c = P s c ∧ P (s.each l F) c = P (F u c) c := by
  induction l with
  | nil => exact fun s _ => ⟨hrefl s, fun _ _ => rfl, fun c hc => absurd hc List.not_mem_nil⟩
  | cons a l ih =>
    intro s hn
    obtain ⟨ha, hn⟩ := List.nodup_cons.mp hn
    obtain ⟨hr, ho, hc⟩ := ih (fun u c h => hR u c (.tail a h)) (fun u c h => hP u c (.tail a h)) (F s a) hn
    have hRa := hR s a (.head l)
    have hPa := hP s a (.head l)
    refine ⟨htrans _ _ _ hRa hr, fun m hm => ?_, fun c hcl => ?_⟩
    · obtain ⟨h1, h2⟩ := not_or.mp (mt List.mem_cons.mpr hm)
      exact (ho m h2).trans (hPa m h1)
    · rcases List.mem_cons.mp hcl with rfl | hcl
      · exact ⟨s, hrefl s, rfl, ho c ha⟩
      · obtain ⟨u, hu, hpu, hpc⟩ := hc c hcl
        exact ⟨u, htrans _ _ _ hRa hu, hpu.trans (hPa c fun e => ha (e ▸ hcl)), hpc⟩

/-- Of the states `s` and `t`, `t` differs in the channels, the difference units, the results that wait, and status values. -/
def TicFrame (s t : State) : Prop :=
  ∃ v ch df w, t = { s with dict := { s.dict with val := v }, tic := { s.tic with chans := ch, diffs := df, waits := w } }

theorem TicFrame.refl (s : State) : TicFrame s s := ⟨s.dict.val, s.tic.chans, s.tic.diffs, s.tic.waits, rfl⟩

theorem TicFrame.trans (s t u : State) (h : TicFrame s t) (h' : TicFrame t u) : TicFrame s u := by
  obtain ⟨v, ch, df, w, rfl⟩ := h
  obtain ⟨v', ch', df', w', rfl⟩ := h'
  exact ⟨v', ch', df', w', rfl⟩

theorem TicFrame.modChan {s t : State} (h : TicFrame s t) (c : Nat) (f : TicChan → TicChan) : TicFrame s (t.modChan c f) := by
  obtain ⟨v, ch, df, w, rfl⟩ := h
  exact ⟨_, _, _, _, rfl⟩

theorem TicFrame.modDiff {s t : State} (h : TicFrame s t) (d : Nat) (f : TicDiff → TicDiff) : TicFrame s (t.modDiff d f) := by
  obtain ⟨v, ch, df, w, rfl⟩ := h
  exact ⟨_, _, _, _, rfl⟩

theorem TicFrame.setN {s t : State} (h : TicFrame s t) (r : Row) (v : Int) (i j : Nat) : TicFrame s (t.setN r v i j) := by
  obtain ⟨v, ch, df, w, rfl⟩ := h
  exact ⟨_, _, _, _, rfl⟩

theorem TicFrame.count {s t : State} (h : TicFrame s t) (r : Row) (i j k : Nat) : TicFrame s (t.count r i j k) := h.setN r _ i j

theorem TicFrame.pushTic {s t : State} (h : TicFrame s t) (c : Nat) (b : Bytes) (k : Nat) (tl : Bytes) : TicFrame s (t.pushTic c b k tl) := by
  unfold State.pushTic
  extract_lets x r
  split
  · exact h.count _ _ _ _
  · exact h.modChan _ _

/-- The state before the record of a frequency result: `tic.freq` shows it. -/
theorem State.emitFreq_eq (s : State) (w : TicWait) (fl : Nat) :
    ∃ u, TicFrame s u ∧ u.tic = s.tic ∧
      s.emitFreq w fl = u.pushTic w.unit (beBytes 16 (resultStamp w.a w.b fl) ++ intBytes 8 (units14 (spanSec w.a w.b))) 2 (beBytes 4 w.n) := by
  refine ⟨_, ?_, ?_, rfl⟩
  · split
    · exact TicFrame.refl s
    · exact (TicFrame.refl s).setN _ _ _ _
  · split <;> rfl

theorem TicFrame.emitTicFreq {s t : State} (h : TicFrame s t) (w : TicWait) (hw : w.unit < 8) (fl : Nat) : TicFrame s (t.emitTic w fl) := by
  obtain ⟨u, hu, -, he⟩ := t.emitFreq_eq w fl
  unfold State.emitTic
  rw [if_pos hw, he]
  exact (TicFrame.trans _ _ _ h hu).pushTic _ _ _ _

/-! ### A channel's window closes (R275) -/

theorem State.pushTic_chan_other (s : State) (c m : Nat) (b : Bytes) (k : Nat) (tl : Bytes) (h : m ≠ c) : (s.pushTic c b k tl).chan m = s.chan m := by
  unfold State.pushTic
  extract_lets x r
  split
  · rfl
  · exact State.modChan_chan_other s c m _ h

/-- A result is emitted for its unit, or waits. -/
theorem State.finishTic_cases (s : State) (w : TicWait) :
    (∃ w' fl, w'.unit = w.unit ∧ s.finishTic w = s.emitTic w' fl) ∨ ∃ l, s.finishTic w = { s with tic := { s.tic with waits := l } } := by
  unfold State.finishTic
  extract_lets tcl latest lost
  split
  · exact .inl ⟨tcl w, _, rfl, rfl⟩
  · split
    · exact .inl ⟨w, _, rfl, rfl⟩
    · split
      · exact .inr ⟨_, rfl⟩
      · exact .inl ⟨tcl w, _, rfl, rfl⟩

theorem TicFrame.finishFreq (s : State) (w : TicWait) (hw : w.unit < 8) : TicFrame s (s.finishTic w) := by
  rcases s.finishTic_cases w with ⟨w', fl, hu, h⟩ | ⟨l, h⟩
  · rw [h]; exact (TicFrame.refl s).emitTicFreq w' (hu ▸ hw) fl
  · rw [h]; exact ⟨_, _, _, _, rfl⟩

theorem State.finishFreq_chan_other (s : State) (w : TicWait) (m : Nat) (hw : w.unit < 8) (hm : m ≠ w.unit) : (s.finishTic w).chan m = s.chan m := by
  rcases s.finishTic_cases w with ⟨w', fl, hu, h⟩ | ⟨l, h⟩
  · obtain ⟨u, -, hu', he⟩ := s.emitFreq_eq w' fl
    rw [h, State.emitTic, if_pos (hu ▸ hw), he, State.pushTic_chan_other _ _ _ _ _ _ (hu ▸ hm), State.chan, hu']
    rfl
  · rw [h]; rfl

theorem State.closeFreq_frame (o s : State) (c : Nat) (hc : c < 8) :
    TicFrame s (State.closeFreq o s c) ∧ ∀ m, m ≠ c → (State.closeFreq o s c).chan m = s.chan m := by
  unfold State.closeFreq
  extract_lets x
  split
  · split
    · exact ⟨TicFrame.finishFreq s _ hc, fun m hm => s.finishFreq_chan_other _ m hc hm⟩
    · exact ⟨TicFrame.refl s, fun _ _ => rfl⟩
  · exact ⟨TicFrame.refl s, fun _ _ => rfl⟩

theorem State.settleQuiet_frame (o s : State) (c : Nat) :
    TicFrame s (State.settleQuiet o s c) ∧ ∀ m, m ≠ c → (State.settleQuiet o s c).chan m = s.chan m :=
  ⟨(TicFrame.refl s).modChan _ _, fun m hm => State.modChan_chan_other s c m _ hm⟩

theorem State.closeChan_frame (o s : State) (c : Nat) (hc : c < 8) :
    TicFrame s (State.closeChan o s c) ∧ ∀ m, m ≠ c → (State.closeChan o s c).chan m = s.chan m := by
  obtain ⟨h1, h2⟩ := State.closeFreq_frame o s c hc
  obtain ⟨h3, h4⟩ := State.settleQuiet_frame o (State.closeFreq o s c) c
  exact ⟨(TicFrame.trans _ _ _ h1 h3).modChan _ _, fun m hm => (State.modChan_chan_other _ _ _ _ hm).trans ((h4 m hm).trans (h2 m hm))⟩

/-- A closed window, whatever its result: the channel waits for the next one. -/
theorem State.closeChan_chan (o s : State) (c : Nat) (hc : c < 17) :
    ((State.closeChan o s c).chan c).winOpen = false ∧ ((State.closeChan o s c).chan c).freqN = 0 ∧
      ((State.closeChan o s c).chan c).queue = ((State.closeFreq o s c).chan c).queue := by
  have h : (State.closeChan o s c).chan c = _ := State.modChan_chan _ c _ hc
  have hq : ((State.settleQuiet o (State.closeFreq o s c) c).chan c).queue = ((State.closeFreq o s c).chan c).queue := by
    unfold State.settleQuiet
    rw [State.modChan_chan _ c _ hc]
  rw [h]
  exact ⟨rfl, rfl, hq⟩

theorem State.closeChan_diffs (o s : State) (c : Nat) (hc : c < 8) : (State.closeChan o s c).tic.diffs = s.tic.diffs := by
  have hpush (u : State) (n : Nat) (b : Bytes) (k : Nat) (tl : Bytes) : (u.pushTic n b k tl).tic.diffs = u.tic.diffs := by
    unfold State.pushTic
    extract_lets x r
    split <;> rfl
  have hfin (w : TicWait) (hw : w.unit < 8) : (s.finishTic w).tic.diffs = s.tic.diffs := by
    rcases s.finishTic_cases w with ⟨w', fl, hu, h⟩ | ⟨l, h⟩
    · obtain ⟨u, -, hu', he⟩ := s.emitFreq_eq w' fl
      rw [h, State.emitTic, if_pos (hu ▸ hw), he, hpush, hu']
    · rw [h]
  show (State.closeFreq o s c).tic.diffs = s.tic.diffs
  unfold State.closeFreq
  extract_lets x
  split
  · split
    · exact hfin _ hc
    · rfl
  · rfl

end Sys2Proof.Machine

/-! SUPPORT. The windows of a gate, opened and closed (R267). -/
namespace Sys2Proof.Machine

/-! ### Gates -/

theorem State.setGate_spec (s : State) (g : Nat) (b : Bool) (hg : g < 3) :
    ∃ g0 g1 p, s.setGate g b = { s with tic := { s.tic with gate0 := g0, gate1 := g1, period := p } } ∧ (s.setGate g b).gateOpen g = b := by
  unfold State.setGate
  interval_cases g <;> exact ⟨_, _, _, rfl, rfl⟩

theorem TicFrame.gateOpen {s t : State} (h : TicFrame s t) (g : Nat) : t.gateOpen g = s.gateOpen g := by
  obtain ⟨v, ch, df, w, rfl⟩ := h
  rfl

theorem TicFrame.effN {s t : State} (h : TicFrame s t) (r : Row) (i j : Nat) : t.effN r i j = s.effN r i j := by
  obtain ⟨v, ch, df, w, rfl⟩ := h
  rfl

theorem TicFrame.effT {s t : State} (h : TicFrame s t) (r : Row) (i j : Nat) : t.effT r i j = s.effT r i j := by
  obtain ⟨v, ch, df, w, rfl⟩ := h
  rfl

theorem TicFrame.tc {s t : State} (h : TicFrame s t) : t.tc = s.tc := by
  obtain ⟨v, ch, df, w, rfl⟩ := h
  rfl

/-! ### Windows opened -/

/-- The window of channel `c` on gate `g` opens. -/
def State.openChan (g no : Nat) (s : State) (c : Nat) : State :=
  if s.effN Obj.tic_gate c = g + 1 then
    (State.settleQuiet s s c).modChan c fun x => { x with winOpen := true, winNo := no, freqFirst := none, freqLast := none, freqN := 0 }
  else s

/-- The window of difference unit `d` on gate `g` opens. -/
def State.openDiff (g no : Nat) (s : State) (d : Nat) : State :=
  if s.effT Obj.tic_diff_enable d && s.effN Obj.tic_diff_gate d == g + 1 then
    s.modDiff d fun x => { x with winOpen := true, winNo := no, s := none, p := none, pairs := 0, ovf := false }
  else s

/-- The gate `g` open under its new number, before its windows. -/
def State.openGate (s : State) (g : Nat) : State :=
  let s' := (s.setGate g true).setN Obj.tic_windows ((s.valN Obj.tic_windows g + 1) % 2 ^ 32) g
  if g = 2 then { s' with tic := { s'.tic with perAt := s.periodInstant } } else s'

theorem State.openGate_spec (s : State) (g : Nat) (hg : g < 3) :
    ∃ g0 g1 p q v, s.openGate g = { s with dict := { s.dict with val := v }, tic := { s.tic with gate0 := g0, gate1 := g1, period := p, perAt := q } } ∧
      (s.openGate g).gateOpen g = true ∧ (s.openGate g).valN Obj.tic_windows g = (s.valN Obj.tic_windows g + 1) % 2 ^ 32 ∧
      SameDict s (s.openGate g) [Obj.tic_windows.key g 0] := by
  have hv (u : State) (n : Nat) : (u.setN Obj.tic_windows n g).valN Obj.tic_windows g = n := State.valN_setN u _ n g 0
  have hd (u : State) (h : u.dict = s.dict) (n : Nat) : SameDict s (u.setN Obj.tic_windows n g) [Obj.tic_windows.key g 0] :=
    SameDict.putN (by rw [SameDict, SameVals, h]; exact SameDict.refl s _) (by simp) _
  unfold State.openGate
  interval_cases g <;> exact ⟨_, _, _, _, _, rfl, rfl, hv _ _, hd _ rfl _⟩

theorem ticWindowOpenEff_eq (s : State) (g : Nat) (rise : Bool) (hg : s.gateOpen g = false)
    (h : (g = 2 ∧ s.reaches s.periodInstant = true) ∨ (g ≠ 2 ∧ s.gateActive g rise = true)) :
    ticWindowOpenEff g rise s = ((s.openGate g).each (List.range 8) (State.openChan g ((s.valN Obj.tic_windows g + 1) % 2 ^ 32))).each (List.range 8)
      (State.openDiff g ((s.valN Obj.tic_windows g + 1) % 2 ^ 32)) := by
  have hn : ((s.setGate g true).setN Obj.tic_windows ((s.valN Obj.tic_windows g + 1) % 2 ^ 32) g).valN Obj.tic_windows g =
      (s.valN Obj.tic_windows g + 1) % 2 ^ 32 := by
    rw [State.valN_setN_int]; omega
  unfold ticWindowOpenEff
  rw [if_neg (by rcases h with ⟨rfl, h⟩ | ⟨h2, h⟩ <;> simp [*])]
  dsimp only
  rw [hn]
  rfl

theorem State.openChan_frame (g no : Nat) (s : State) (c : Nat) :
    TicFrame s (State.openChan g no s c) ∧ (State.openChan g no s c).dict = s.dict ∧ (State.openChan g no s c).tic.diffs = s.tic.diffs ∧
      ∀ m, m ≠ c → (State.openChan g no s c).chan m = s.chan m := by
  unfold State.openChan
  split
  · refine ⟨((TicFrame.refl s).modChan _ _).modChan _ _, rfl, rfl, fun m hm => ?_⟩
    rw [State.modChan_chan_other _ c m _ hm]
    exact State.modChan_chan_other s c m _ hm
  · exact ⟨TicFrame.refl s, rfl, rfl, fun _ _ => rfl⟩

theorem State.openChan_chan (g no : Nat) (s : State) (c : Nat) (hc : c < 8) (h : s.effN Obj.tic_gate c = g + 1) :
    ∃ q, (State.openChan g no s c).chan c =
      { s.chan c with winOpen := true, winNo := no, freqFirst := none, freqLast := none, freqN := 0, quiet := q, quietAt := s.tc.cyc } := by
  rw [State.openChan, if_pos h, State.modChan_chan _ c _ (by omega), State.settleQuiet, State.modChan_chan _ c _ (by omega)]
  exact ⟨_, rfl⟩

theorem State.openDiff_frame (g no : Nat) (s : State) (d : Nat) :
    TicFrame s (State.openDiff g no s d) ∧ (State.openDiff g no s d).dict = s.dict ∧ (State.openDiff g no s d).tic.chans = s.tic.chans ∧
      ∀ m, m ≠ d → (State.openDiff g no s d).diff m = s.diff m := by
  unfold State.openDiff
  split
  · exact ⟨(TicFrame.refl s).modDiff _ _, rfl, rfl, fun m hm => State.modDiff_diff_other s d m _ hm⟩
  · exact ⟨TicFrame.refl s, rfl, rfl, fun _ _ => rfl⟩

/-- The channels, of a fold over them. -/
theorem State.each_chans (F : State → Nat → State) (hF : ∀ u c, c < 8 → TicFrame u (F u c) ∧ ∀ m, m ≠ c → (F u c).chan m = u.chan m) (s : State) :
    TicFrame s (s.each (List.range 8) F) ∧ (∀ m, ¬ m < 8 → (s.each (List.range 8) F).chan m = s.chan m) ∧
      ∀ c, c < 8 → ∃ u, TicFrame s u ∧ u.chan c = s.chan c ∧ (s.each (List.range 8) F).chan c = (F u c).chan c := by
  obtain ⟨h1, h2, h3⟩ := State.each_local State.chan TicFrame TicFrame.refl TicFrame.trans F (List.range 8)
    (fun u c hc => (hF u c (List.mem_range.mp hc)).1) (fun u c hc => (hF u c (List.mem_range.mp hc)).2) s List.nodup_range
  exact ⟨h1, fun m hm => h2 m (by simpa using hm), fun c hc => h3 c (by simpa using hc)⟩

/-- The difference units, of a fold over them. -/
theorem State.each_diffs (F : State → Nat → State) (hF : ∀ u c, c < 8 → TicFrame u (F u c) ∧ ∀ m, m ≠ c → (F u c).diff m = u.diff m) (s : State) :
    TicFrame s (s.each (List.range 8) F) ∧ (∀ m, ¬ m < 8 → (s.each (List.range 8) F).diff m = s.diff m) ∧
      ∀ c, c < 8 → ∃ u, TicFrame s u ∧ u.diff c = s.diff c ∧ (s.each (List.range 8) F).diff c = (F u c).diff c := by
  obtain ⟨h1, h2, h3⟩ := State.each_local State.diff TicFrame TicFrame.refl TicFrame.trans F (List.range 8)
    (fun u c hc => (hF u c (List.mem_range.mp hc)).1) (fun u c hc => (hF u c (List.mem_range.mp hc)).2) s List.nodup_range
  exact ⟨h1, fun m hm => h2 m (by simpa using hm), fun c hc => h3 c (by simpa using hc)⟩

/-- The channels of gate `g` after its windows open. -/
theorem State.openChans (s t : State) (g no : Nat) (ht : s.each (List.range 8) (State.openChan g no) = t) :
    TicFrame s t ∧ t.dict = s.dict ∧ t.tic.diffs = s.tic.diffs ∧
      (∀ k, k < 8 → s.effN Obj.tic_gate k = g + 1 → t.chan k =
        { s.chan k with winOpen := true, winNo := no, freqFirst := none, freqLast := none, freqN := 0, quiet := (t.chan k).quiet, quietAt := s.tc.cyc }) ∧
      ∀ k, s.effN Obj.tic_gate k ≠ g + 1 → t.chan k = s.chan k := by
  obtain ⟨h1, h2, h3⟩ := State.each_chans (State.openChan g no)
    (fun u c _ => ⟨(State.openChan_frame g no u c).1, (State.openChan_frame g no u c).2.2.2⟩) s
  have h4 : (s.each (List.range 8) (State.openChan g no)).dict = s.dict := State.each_keeps (·.dict) (fun u c => (State.openChan_frame g no u c).2.1) _ s
  have h5 : (s.each (List.range 8) (State.openChan g no)).tic.diffs = s.tic.diffs :=
    State.each_keeps (·.tic.diffs) (fun u c => (State.openChan_frame g no u c).2.2.1) _ s
  rw [ht] at h1 h2 h3 h4 h5
  refine ⟨h1, h4, h5, fun k hk hg => ?_, fun k hg => ?_⟩
  · obtain ⟨u, hu, huk, htk⟩ := h3 k hk
    obtain ⟨q, hq⟩ := State.openChan_chan g no u k hk ((hu.effN _ _ _).trans hg)
    have htc : t.chan k = _ := htk.trans hq
    rw [huk, hu.tc] at htc
    rw [htc]
  · by_cases hk : k < 8
    · obtain ⟨u, hu, huk, htk⟩ := h3 k hk
      refine htk.trans (.trans ?_ huk)
      rw [State.openChan, if_neg (by rw [hu.effN]; exact hg)]
    · exact h2 k hk

/-- The difference units of gate `g` after its windows open. -/
theorem State.openDiffs (s t : State) (g no : Nat) (ht : s.each (List.range 8) (State.openDiff g no) = t) :
    TicFrame s t ∧ t.dict = s.dict ∧ t.tic.chans = s.tic.chans ∧
      (∀ k, k < 8 → s.effT Obj.tic_diff_enable k = true ∧ s.effN Obj.tic_diff_gate k = g + 1 → t.diff k =
        { s.diff k with winOpen := true, winNo := no, s := none, p := none, pairs := 0, ovf := false }) ∧
      ∀ k, s.effT Obj.tic_diff_enable k = false ∨ s.effN Obj.tic_diff_gate k ≠ g + 1 → t.diff k = s.diff k := by
  obtain ⟨h1, h2, h3⟩ := State.each_diffs (State.openDiff g no)
    (fun u c _ => ⟨(State.openDiff_frame g no u c).1, (State.openDiff_frame g no u c).2.2.2⟩) s
  have h4 : (s.each (List.range 8) (State.openDiff g no)).dict = s.dict := State.each_keeps (·.dict) (fun u c => (State.openDiff_frame g no u c).2.1) _ s
  have h5 : (s.each (List.range 8) (State.openDiff g no)).tic.chans = s.tic.chans :=
    State.each_keeps (·.tic.chans) (fun u c => (State.openDiff_frame g no u c).2.2.1) _ s
  rw [ht] at h1 h2 h3 h4 h5
  refine ⟨h1, h4, h5, fun k hk hg => ?_, fun k hg => ?_⟩
  · obtain ⟨u, hu, huk, htk⟩ := h3 k hk
    refine htk.trans ?_
    rw [State.openDiff, if_pos (by simpa [hu.effN, hu.effT] using hg), State.modDiff_diff _ _ _ hk, huk]
  · by_cases hk : k < 8
    · obtain ⟨u, hu, huk, htk⟩ := h3 k hk
      refine htk.trans (.trans ?_ huk)
      rw [State.openDiff, if_neg (by rw [hu.effN, hu.effT]; rcases hg with hg | hg <;> simp [hg])]
    · exact h2 k hk

/-! ### Windows closed -/

/-- The window of channel `c`, if it is on gate `g`, closes. -/
def State.closeGateChan (g : Nat) (s : State) (c : Nat) : State :=
  if s.effN Obj.tic_gate c = g + 1 && (s.chan c).winOpen then State.closeChan s s c else s

/-- The window of difference unit `d`, if it is on gate `g`, closes. -/
def State.closeGateDiff (g : Nat) (s : State) (d : Nat) : State := if s.effN Obj.tic_diff_gate d = g + 1 then s.closeDiff d else s

theorem State.closeGate_eq (s : State) (g : Nat) :
    s.closeGate g = ((s.setGate g false).each (List.range 8) (State.closeGateChan g)).each (List.range 8) (State.closeGateDiff g) := rfl

theorem State.closeDiff_frame (s : State) (d : Nat) :
    TicFrame s (s.closeDiff d) ∧ (s.closeDiff d).tic.chans = s.tic.chans ∧ ∀ m, m ≠ d → (s.closeDiff d).diff m = s.diff m := by
  unfold State.closeDiff
  extract_lets x a b
  split
  · exact ⟨TicFrame.refl s, rfl, fun _ _ => rfl⟩
  · have ha : TicFrame s a ∧ a.tic = s.tic := by
      dsimp only [a]; split
      · exact ⟨(TicFrame.refl s).count _ _ _ _, rfl⟩
      · exact ⟨TicFrame.refl s, rfl⟩
    have hb : TicFrame s b ∧ b.tic = s.tic := by
      dsimp only [b]; split
      · exact ⟨ha.1.count _ _ _ _, ha.2⟩
      · exact ha
    clear_value b
    obtain ⟨hf, ht⟩ := hb
    refine ⟨hf.modDiff _ _, by show b.tic.chans = _; rw [ht], fun m hm => (State.modDiff_diff_other b d m _ hm).trans ?_⟩
    rw [State.diff, ht]; rfl

theorem State.closeDiff_shut (s : State) (d : Nat) (hd : d < 8) : ((s.closeDiff d).diff d).winOpen = false := by
  unfold State.closeDiff
  extract_lets x a b
  split
  · rename_i h
    simpa using h
  · rw [State.modDiff_diff _ _ _ hd]

end Sys2Proof.Machine

/-! SUPPORT. The windows of a gate (R267, R275): the obligation. -/
namespace Sys2Proof.Machine

/-! ### The gate closes -/

theorem State.closeGateChan_frame (g : Nat) (s : State) (c : Nat) (hc : c < 8) :
    TicFrame s (State.closeGateChan g s c) ∧ ∀ m, m ≠ c → (State.closeGateChan g s c).chan m = s.chan m := by
  unfold State.closeGateChan
  split
  · exact State.closeChan_frame s s c hc
  · exact ⟨TicFrame.refl s, fun _ _ => rfl⟩

theorem State.closeGateDiff_frame (g : Nat) (s : State) (d : Nat) :
    TicFrame s (State.closeGateDiff g s d) ∧ (State.closeGateDiff g s d).tic.chans = s.tic.chans ∧
      ∀ m, m ≠ d → (State.closeGateDiff g s d).diff m = s.diff m := by
  unfold State.closeGateDiff
  split
  · exact s.closeDiff_frame d
  · exact ⟨TicFrame.refl s, rfl, fun _ _ => rfl⟩

/-- A channel of the gate closed, and one that is not on it. -/
theorem State.closeGateChan_chan (g : Nat) (s : State) (c : Nat) (hc : c < 8) (h : s.effN Obj.tic_gate c = g + 1) :
    ((State.closeGateChan g s c).chan c).winOpen = false := by
  unfold State.closeGateChan
  split
  · exact (State.closeChan_chan s s c (by omega)).1
  · rename_i hn
    simpa [h] using hn

/-- The channels of a gate that closes. -/
theorem State.closeGateChans (s t : State) (g : Nat) (ht : s.each (List.range 8) (State.closeGateChan g) = t) :
    TicFrame s t ∧ (∀ k, k < 8 → s.effN Obj.tic_gate k = g + 1 → (t.chan k).winOpen = false) ∧
      (∀ k, s.effN Obj.tic_gate k ≠ g + 1 → t.chan k = s.chan k) ∧
      ∀ k, k < 8 → s.effN Obj.tic_gate k = g + 1 → (s.chan k).winOpen = true →
        ∃ u, TicFrame s u ∧ u.chan k = s.chan k ∧ t.chan k = (State.closeChan u u k).chan k := by
  obtain ⟨h1, h2, h3⟩ := State.each_chans _ (fun u c hc => u.closeGateChan_frame g c hc) s
  rw [ht] at h1 h2 h3
  refine ⟨h1, fun k hk hg => ?_, fun k hg => ?_, fun k hk hg ho => ?_⟩
  · obtain ⟨u, hu, -, htk⟩ := h3 k hk
    rw [htk]
    exact u.closeGateChan_chan g k hk (by rw [hu.effN]; exact hg)
  · by_cases hk : k < 8
    · obtain ⟨u, hu, huk, htk⟩ := h3 k hk
      rw [htk, State.closeGateChan, if_neg (by simp [hu.effN, hg]), huk]
    · exact h2 k hk
  · obtain ⟨u, hu, huk, htk⟩ := h3 k hk
    exact ⟨u, hu, huk, by rw [htk, State.closeGateChan, if_pos (by simp [hu.effN, hg, huk, ho])]⟩

theorem State.closeGateDiffs (s t : State) (g : Nat) (ht : s.each (List.range 8) (State.closeGateDiff g) = t) :
    TicFrame s t ∧ t.tic.chans = s.tic.chans ∧ ∀ k, k < 8 → s.effN Obj.tic_diff_gate k = g + 1 → (t.diff k).winOpen = false := by
  obtain ⟨h1, -, h3⟩ := State.each_diffs _ (fun u c _ => ⟨(u.closeGateDiff_frame g c).1, (u.closeGateDiff_frame g c).2.2⟩) s
  have h4 : (s.each (List.range 8) (State.closeGateDiff g)).tic.chans = s.tic.chans :=
    State.each_keeps (·.tic.chans) (fun u c => (u.closeGateDiff_frame g c).2.1) _ s
  rw [ht] at h1 h3 h4
  refine ⟨h1, h4, fun k hk hg => ?_⟩
  obtain ⟨u, hu, -, htk⟩ := h3 k hk
  rw [htk, State.closeGateDiff, if_pos (by rw [hu.effN]; exact hg)]
  exact u.closeDiff_shut k hk

/-- What closing a gate does. -/
theorem State.closeGate_spec (s t : State) (g : Nat) (hg : g < 3) (ht : s.closeGate g = t) :
    t.gateOpen g = false ∧ (∀ k, k < 8 → s.effN Obj.tic_gate k = g + 1 → (t.chan k).winOpen = false) ∧
      (∀ k, k < 8 → s.effN Obj.tic_diff_gate k = g + 1 → (t.diff k).winOpen = false) ∧
      (∀ k, s.effN Obj.tic_gate k ≠ g + 1 → t.chan k = s.chan k) ∧ t = { s with tic := t.tic, dict := t.dict } ∧
      ∀ k, k < 8 → s.effN Obj.tic_gate k = g + 1 → (s.chan k).winOpen = true →
        ∃ u, u.dict.cfg = s.dict.cfg ∧ u.dict.eff = s.dict.eff ∧ u.dev = s.dev ∧ u.chan k = s.chan k ∧
          t.chan k = (State.closeChan u u k).chan k := by
  rw [State.closeGate_eq] at ht
  obtain ⟨g0, g1, p, hs, hgo⟩ := s.setGate_spec g false hg
  generalize s.setGate g false = a at ht hs hgo
  generalize hb : a.each (List.range 8) (State.closeGateChan g) = b at ht
  obtain ⟨h1, h2, h3, h4⟩ := State.closeGateChans a b g hb
  obtain ⟨k1, k2, k3⟩ := State.closeGateDiffs b t g ht
  have hc (k : Nat) : t.chan k = b.chan k := by rw [State.chan, k2]; rfl
  have hd (k : Nat) : b.effN Obj.tic_diff_gate k = s.effN Obj.tic_diff_gate k := by rw [h1.effN, hs]; rfl
  subst hs
  refine ⟨by rw [k1.gateOpen, h1.gateOpen]; exact hgo, fun k hk hg => (congrArg _ (hc k)).trans (h2 k hk hg), fun k hk hg => k3 k hk ((hd k).trans hg),
    fun k hg => (hc k).trans (h3 k hg), ?_, fun k hk hg ho => ?_⟩
  · obtain ⟨v, ch, df, w, rfl⟩ := TicFrame.trans _ _ _ h1 k1
    rfl
  · obtain ⟨u, hu, huk, htk⟩ := h4 k hk hg ho
    refine ⟨u, ?_, ?_, ?_, huk, (hc k).trans htk⟩ <;> (obtain ⟨v, ch, df, w, rfl⟩ := hu; rfl)

/-- The record of a frequency window that closes on tclk. -/
theorem State.closeFreq_queue (s : State) (c : Nat) (a b : TicEv) (hc : c < 8) (hN : (s.chan c).fencedN ≠ 2) (ha : (s.chan c).freqFirst = some a)
    (hb : (s.chan c).freqLast = some b) (hn : 0 < (s.chan c).freqN) (htb : s.tbSelected = false) (hq : (s.chan c).queue.length < 1024) :
    ((State.closeFreq s s c).chan c).queue = (s.chan c).queue ++
      [beBytes 16 (resultStamp a b 0) ++ intBytes 8 (units14 (((b.u - a.u : Int) : Rat) / (2 ^ 24 * 1000000000000 : Nat))) ++ [2#8, BitVec.ofNat 8 c] ++
        beBytes 2 (s.chan c).seq ++ beBytes 4 (s.chan c).freqN] := by
  unfold State.closeFreq
  simp only [ha, hb, if_pos (And.intro hn hN)]
  rw [State.finishTic]
  simp only [htb, Bool.not_false, if_true]
  generalize hw : ({ unit := c, a := { a with pos := none }, b := { b with pos := none }, n := (s.chan c).freqN, winNo := (s.chan c).winNo, tb := false, presc := s.effN Obj.tic_prescale c, nominal := s.effN Obj.tic_nominal_hz c } : TicWait) = w
  have hu : w.unit = c := by rw [← hw]
  obtain ⟨u, -, hut, he⟩ := s.emitFreq_eq w 0
  have huc : u.chan c = s.chan c := by rw [State.chan, hut]; rfl
  rw [State.emitTic, if_pos (hu ▸ hc), he, hu, State.pushTic_room _ _ _ _ _ (by rw [huc]; exact hq), State.modChan_chan _ _ _ (by omega), huc, ← hw]
  rfl

/-! ### The obligation -/

/-- Settles O30: a gate opens its windows one unit at a time, and closes them so, each with its own result. -/
theorem ticWindows : Obligations.TicWindows := by
  unfold Obligations.TicWindows
  refine ⟨fun s g rise hg h => ?opens, fun s g rise h => ⟨s, next_of_eq (if_pos ?stays), rfl⟩, fun s g rise ho h => ?closes,
    fun s g rise h => ⟨s, next_of_eq (if_pos ?staysOpen), rfl⟩, fun s g rise c a b ho h hgc hm hw hf ha hb hn htb hq => ?freq⟩
  case opens =>
    have heq := ticWindowOpenEff_eq s g rise hg h
    obtain ⟨g0, g1, p, q, v, hs, hgo, hno, hd⟩ := s.openGate_spec g g.isLt
    generalize s.openGate g = a at *
    generalize (s.valN Obj.tic_windows g + 1) % 2 ^ 32 = no at *
    generalize hb : a.each (List.range 8) (State.openChan g no) = b at heq
    generalize ht : b.each (List.range 8) (State.openDiff g no) = t at heq
    obtain ⟨h1, h2, h3, h4, h5⟩ := State.openChans a b g no hb
    obtain ⟨k1, k2, k3, k4, k5⟩ := State.openDiffs b t g no ht
    have hc (k : Nat) : t.chan k = b.chan k := by rw [State.chan, k3]; rfl
    have hdf (k : Nat) : b.diff k = s.diff k := by rw [State.diff, h3, hs]; rfl
    have hdt : t.dict = a.dict := k2.trans h2
    have hak (k : Nat) : a.chan k = s.chan k := by rw [hs]; rfl
    have htc : a.tc = s.tc := by rw [hs]
    have hN (r : Row) (k : Nat) : a.effN r k = s.effN r k := by rw [hs]; rfl
    have hbN (r : Row) (k : Nat) : b.effN r k = s.effN r k := (h1.effN r k 0).trans (hN r k)
    have hbT (r : Row) (k : Nat) : b.effT r k = s.effT r k := by rw [h1.effT, hs]; rfl
    have hdev : t.dev = a.dev := by
      obtain ⟨v, ch, df, w, rfl⟩ := TicFrame.trans _ _ _ h1 k1
      rfl
    refine ⟨t, next_of_eq heq, by rw [k1.gateOpen, h1.gateOpen]; exact hgo, ?_, fun k hk hg => ?_, fun k hg => ?_, fun k hk hg => ?_, fun k hg => ?_, ?_, ?_⟩
    · rw [← hno]
      simp only [State.valN, State.valI, State.val, hdt, hdev]
    · rw [hc, ← hak, ← htc]
      exact h4 k hk ((hN _ k).trans hg)
    · exact (hc k).trans ((h5 k (by rw [hN]; exact hg)).trans (hak k))
    · rw [← hdf]
      exact k4 k hk (by rw [hbT, hbN]; exact hg)
    · exact (k5 k (by rw [hbT, hbN]; exact hg)).trans (hdf k)
    · obtain ⟨v, ch, df, w, rfl⟩ := TicFrame.trans _ _ _ h1 k1
      rw [hs]
    · rw [SameDict, SameVals, hdt]
      exact hd
  case stays =>
    rcases h with h | ⟨h2, h⟩ | ⟨h2, h⟩ <;> simp_all
  case closes =>
    have heq : ticWindowCloseEff g rise s = s.closeGate g := if_neg (by rcases h with ⟨h2, h⟩ | ⟨h2, h⟩ <;> simp_all)
    obtain ⟨h1, h2, h3, h4, h5, -⟩ := State.closeGate_spec s _ g g.isLt heq.symm
    exact ⟨_, rfl, h1, h2, h3, h4, h5⟩
  case staysOpen =>
    rcases h with h | ⟨h2, h⟩ <;> simp_all
  case freq =>
    have heq : ticWindowCloseEff g rise s = s.closeGate g := if_neg (by rcases h with ⟨h2, h⟩ | ⟨h2, h⟩ <;> simp_all)
    obtain ⟨-, -, -, -, h5, h6⟩ := State.closeGate_spec s _ g g.isLt heq.symm
    obtain ⟨u, hu1, hu2, hu3, huc, ht⟩ := h6 c c.isLt hgc hw
    obtain ⟨ho', hn', hq'⟩ := State.closeChan_chan u u c (by omega)
    have htb' : u.tbSelected = false := by
      rw [← htb]
      simp only [State.tbSelected, State.effN, State.effI, State.eff, State.cfg, hu1, hu2, hu3]
    refine ⟨_, rfl, ?_, by rw [ht]; exact ho', by rw [ht]; exact hn', h5⟩
    rw [ht, hq', State.closeFreq_queue u c a b c.isLt (huc ▸ hf) (huc ▸ ha) (huc ▸ hb) (huc ▸ hn) htb' (huc ▸ hq), huc]

end Sys2Proof.Machine

/-! SUPPORT. Pairs of the difference units (R274, R276). -/
namespace Sys2Proof.Machine

/-! ### A candidate at the difference units -/

/-- `t` differs from `s` in the channels and in status values. -/
def ChanFrame (s t : State) : Prop := ∃ v ch, t = { s with dict := { s.dict with val := v }, tic := { s.tic with chans := ch } }

theorem ChanFrame.count {s t : State} (h : ChanFrame s t) (r : Row) (c : Nat) : ChanFrame s (t.count r c) := by
  obtain ⟨v, ch, rfl⟩ := h
  exact ⟨_, _, rfl⟩

theorem ChanFrame.modChan {s t : State} (h : ChanFrame s t) (c : Nat) (f : TicChan → TicChan) : ChanFrame s (t.modChan c f) := by
  obtain ⟨v, ch, rfl⟩ := h
  exact ⟨_, _, rfl⟩

/-- A candidate outside FREQ mode goes on to the difference units. -/
theorem State.tiCandidate_feeds (s : State) (c k : Nat) (rise : Bool) (ev : TicEv) (i : Nat) (hc : c < 8) (hf : (s.chan c).fresh = some (k, rise))
    (hok : s.edgeOk c rise = true) (hs : s.shut c = false) (hh : s.held c = false) (hn : (s.chan c).fencedN ≠ 2) (hk : k < 1152)
    (hcv : s.convert c k = some (ev, i)) (hm : s.effN Obj.tic_mode c ≠ 2) :
    ∃ u e, ChanFrame s u ∧ (∀ m, m ≠ c → u.chan m = s.chan m) ∧ (e.c = ev.c ∧ e.u = ev.u ∧ e.stamp = ev.stamp) ∧ s.tiCandidate c = u.feedDiffs c e := by
  have ht := s.tiCandidate_takes c k rise ev i hc hf hok hs hh hn hk hcv
  have ho := s.tookCand_chan_other c
  rw [State.tiEvent_diffs (s.tookCand c) c _ i hm] at ht
  generalize (!rise && (s.tookCand c).effN Obj.tic_edge c == 2) = b at ht
  obtain ⟨p, hp⟩ := (s.tookCand c).placed_keeps { ev with fall := b }
  have he : ((s.tookCand c).placed { ev with fall := b }).c = ev.c ∧ ((s.tookCand c).placed { ev with fall := b }).u = ev.u ∧
      ((s.tookCand c).placed { ev with fall := b }).stamp = ev.stamp := by rw [hp]; exact ⟨rfl, rfl, rfl⟩
  generalize (s.tookCand c).placed { ev with fall := b } = e at ht he
  obtain ⟨v, hv⟩ := s.tookCand_frame c
  generalize s.tookCand c = u at *
  have hu : ChanFrame s u := ⟨s.dict.val, v, hv⟩
  split at ht
  · unfold State.pushTic at ht
    extract_lets x r at ht
    split at ht
    · exact ⟨u.count Obj.tic_overruns c, e, hu.count _ _, ho, he, ht⟩
    · exact ⟨_, e, hu.modChan c _, fun m hm => (State.modChan_chan_other u c m _ hm).trans (ho m hm), he, ht⟩
  · exact ⟨u, e, hu, ho, he, ht⟩

/-- `t` differs from `s` by work of difference units at most. -/
def DiffFrame (s t : State) : Prop := ∃ v df w, t = { s with dict := { s.dict with val := v }, tic := { s.tic with diffs := df, waits := w } }

theorem DiffFrame.refl (s : State) : DiffFrame s s := ⟨s.dict.val, s.tic.diffs, s.tic.waits, rfl⟩

theorem DiffFrame.trans (s t u : State) (h : DiffFrame s t) (h' : DiffFrame t u) : DiffFrame s u := by
  obtain ⟨v, df, w, rfl⟩ := h
  obtain ⟨v', df', w', rfl⟩ := h'
  exact ⟨v', df', w', rfl⟩

theorem DiffWork.diffFrame {s t : State} {d : Nat} (h : DiffWork s t d) : DiffFrame s t := by
  obtain ⟨⟨di, df, w, rfl⟩, -, hc, he, -⟩ := h
  obtain ⟨cfg, eff, val⟩ := di
  cases hc
  cases he
  exact ⟨val, df, w, rfl⟩

theorem tic_diff_last_not_mem_diffKeys (d m : Nat) (h : m ≠ d) : Obj.tic_diff_last.key m 0 ∉ diffKeys d := by
  simp only [List.mem_cons, List.not_mem_nil, or_false, not_or]
  simp only [Row.key, Obj.tic_diff_surplus, Obj.tic_diff_overruns, Obj.tic_diff_last]
  omega

/-- What difference unit `d` shows: its record and its last interval. -/
def State.diffShown (s : State) (d : Nat) : TicDiff × Int := (s.diff d, s.valI Obj.tic_diff_last d)

/-- At each unit an event does what it does there alone. -/
theorem State.feedDiffs_at (s : State) (c : Nat) (e : TicEv) (d : Nat) (hd : d < 8) :
    ∃ u, DiffFrame s u ∧ u.diff d = s.diff d ∧ (s.feedDiffs c e).diff d = (State.feedDiff c e u d).diff d ∧
      (s.feedDiffs c e).valI Obj.tic_diff_last d = (State.feedDiff c e u d).valI Obj.tic_diff_last d := by
  have hR (u : State) (n : Nat) : DiffFrame u (State.feedDiff c e u n) := (State.feedDiff_work c e u n).diffFrame
  have hP (u : State) (n m : Nat) (hm : m ≠ n) : (State.feedDiff c e u n).diffShown m = u.diffShown m := by
    obtain ⟨⟨di, df, w, hf⟩, ho, hsd⟩ := State.feedDiff_work c e u n
    exact Prod.ext (ho m hm) (hsd.valI_eq (by rw [hf]) (tic_diff_last_not_mem_diffKeys n m hm))
  obtain ⟨-, -, h⟩ := State.each_local State.diffShown DiffFrame DiffFrame.refl DiffFrame.trans (State.feedDiff c e)
    (List.range 8) (fun u n _ => hR u n) (fun u n _ => hP u n) s List.nodup_range
  obtain ⟨u, hu, hud, ht⟩ := h d (List.mem_range.mpr hd)
  rw [← s.feedDiffs_eq] at ht
  rw [State.diffShown, State.diffShown, Prod.mk.injEq] at hud ht
  exact ⟨u, hu, hud.1, ht.1, ht.2⟩

/-! ### The stop event of an open pair -/

/-- The stop event `e` of a pair that `a` opened completes it. -/
theorem State.feedDiff_stop (s : State) (c d : Nat) (e a : TicEv) (hd : d < 8) (hen : s.effT Obj.tic_diff_enable d = true)
    (hw : (s.diff d).winOpen = true) (hstop : s.effN Obj.tic_diff_stop d = c) (hstart : s.effN Obj.tic_diff_start d ≠ c) (hs : (s.diff d).s = some a)
    (hp : (s.diff d).p = none) (hn : (s.diff d).pairs = 0) :
    ∃ u, (∃ df, u = { s with tic := { s.tic with diffs := df } }) ∧ u.diff d = { s.diff d with p := some e } ∧
      State.feedDiff c e s d =
        (if (s.diff d).overflowed a e then u.pushDiff d (resultStamp a e 0x40) (if a.u ≤ e.u then 2 ^ 62 else -(2 ^ 62)) (s.diff d).winNo
        else u.finishTic { unit := 8 + d, a := a, b := e, winNo := (s.diff d).winNo, tb := s.tbSelected }).modDiff d fun x => { x with pairs := 1 } := by
  have hx := s.modDiff_diff d (fun x => { x with p := some e }) hd
  refine ⟨s.modDiff d fun x => { x with p := some e }, ⟨_, rfl⟩, hx, ?_⟩
  unfold State.feedDiff
  rw [if_neg (by simp [hen, hw])]
  dsimp only
  rw [if_neg hstart, if_pos hstop, if_pos (by simp [hp])]
  unfold State.tryPair
  simp only [hx, hs, if_pos hn]
  rfl

/-- A record with room. -/
theorem State.pushDiff_room (s : State) (d st : Nat) (u : Int) (w : Nat) (hd : d < 8) (h : (s.diff d).queue.length < 256) :
    (s.pushDiff d st u w).diff d = { s.diff d with
        queue := (s.diff d).queue ++ [beBytes 16 st ++ intBytes 8 u ++ [3#8, BitVec.ofNat 8 d] ++ beBytes 2 (s.diff d).seq ++ beBytes 4 w]
        seq := ((s.diff d).seq + 1) % 65536 } ∧
      (s.pushDiff d st u w).valI Obj.tic_diff_last d = u := by
  have he : s.pushDiff d st u w = (s.setN Obj.tic_diff_last u d).modDiff d fun x => { x with
        queue := x.queue ++ [beBytes 16 st ++ intBytes 8 u ++ [3#8, BitVec.ofNat 8 d] ++ beBytes 2 (s.diff d).seq ++ beBytes 4 w]
        seq := (x.seq + 1) % 65536 } := if_neg (Nat.not_le.mpr h)
  rw [he]
  exact ⟨State.modDiff_diff _ d _ hd, State.valI_setN _ _ _ _ _⟩

/-- A result of a difference unit on tclk, of events of different cycles. -/
theorem State.finishTic_diff (s : State) (d : Nat) (a b : TicEv) (n : Nat) (hc : a.c ≠ b.c) :
    s.finishTic { unit := 8 + d, a := a, b := b, winNo := n, tb := false } =
      s.pushDiff d (resultStamp a b (if b.u < a.u then 0x20 else 0)) (units14 (((b.u - a.u : Int) : Rat) / (2 ^ 24 * 1000000000000 : Nat))) n := by
  unfold State.finishTic
  extract_lets tcl latest lost
  simp only [Bool.not_false, if_true]
  unfold State.emitTic
  rw [if_neg (by dsimp only [tcl]; omega)]
  unfold State.emitDiff
  simp only [tcl, beq_false_of_ne hc, Bool.false_and, Bool.false_eq_true, if_false, Nat.add_sub_cancel_left, Nat.zero_add]
  rfl

end Sys2Proof.Machine

/-! SUPPORT. Difference records, calibration tables and the TB_IN time base (R261, R263, R266, R273, R274): the obligation. -/
namespace Sys2Proof.Machine

/-! ### Results that waited for TB_IN are emitted -/

/-- `t` differs from `s` in records, and in the values that show them. -/
def EmitFrame (s t : State) : Prop :=
  (∃ v ch df, t = { s with dict := { s.dict with val := v }, tic := { s.tic with chans := ch, diffs := df } }) ∧
    t.valN Obj.tic_tb_state = s.valN Obj.tic_tb_state

theorem EmitFrame.refl (s : State) : EmitFrame s s := ⟨⟨s.dict.val, s.tic.chans, s.tic.diffs, rfl⟩, rfl⟩

theorem EmitFrame.trans {s t u : State} (h : EmitFrame s t) (h' : EmitFrame t u) : EmitFrame s u := by
  obtain ⟨⟨v, ch, df, rfl⟩, hv⟩ := h
  obtain ⟨⟨v', ch', df', rfl⟩, hv'⟩ := h'
  exact ⟨⟨v', ch', df', rfl⟩, hv'.trans hv⟩

theorem EmitFrame.setN (s : State) (r : Row) (v : Int) (c : Nat) (h : Obj.tic_tb_state.key 0 0 ≠ r.key c 0) : EmitFrame s (s.setN r v c) :=
  ⟨⟨_, s.tic.chans, s.tic.diffs, rfl⟩, s.valN_setN_other r Obj.tic_tb_state v c 0 0 0 h⟩

theorem EmitFrame.modChan (s : State) (c : Nat) (f : TicChan → TicChan) : EmitFrame s (s.modChan c f) := ⟨⟨s.dict.val, _, s.tic.diffs, rfl⟩, rfl⟩

theorem EmitFrame.modDiff (s : State) (c : Nat) (f : TicDiff → TicDiff) : EmitFrame s (s.modDiff c f) := ⟨⟨s.dict.val, s.tic.chans, _, rfl⟩, rfl⟩

theorem EmitFrame.pushTic (s : State) (c : Nat) (b : Bytes) (k : Nat) (tl : Bytes) : EmitFrame s (s.pushTic c b k tl) := by
  unfold State.pushTic
  extract_lets x r
  split
  · exact EmitFrame.setN s Obj.tic_overruns _ c (by simp only [Row.key, Obj.tic_tb_state, Obj.tic_overruns]; omega)
  · exact EmitFrame.modChan s c _

theorem EmitFrame.pushDiff (s : State) (d st : Nat) (u : Int) (w : Nat) : EmitFrame s (s.pushDiff d st u w) := by
  have h1 : EmitFrame s (s.setN Obj.tic_diff_last u d) := EmitFrame.setN s _ u d (by simp only [Row.key, Obj.tic_tb_state, Obj.tic_diff_last]; omega)
  unfold State.pushDiff
  extract_lets s1 x r
  split
  · exact h1.trans (EmitFrame.setN s1 Obj.tic_diff_overruns _ d (by simp only [Row.key, Obj.tic_tb_state, Obj.tic_diff_overruns]; omega))
  · exact h1.trans (EmitFrame.modDiff s1 d _)

theorem EmitFrame.emitTic (s : State) (w : TicWait) (fl : Nat) : EmitFrame s (s.emitTic w fl) := by
  unfold State.emitTic State.emitFreq State.emitDiff
  split
  · extract_lets c span f s1
    refine EmitFrame.trans ?_ (EmitFrame.pushTic s1 c _ _ _)
    dsimp only [s1]
    split
    · exact EmitFrame.refl s
    · exact EmitFrame.setN s Obj.tic_freq _ c (by simp only [Row.key, Obj.tic_tb_state, Obj.tic_freq]; omega)
  · extract_lets d together i
    split <;> exact EmitFrame.pushDiff s d _ _ _

/-- Off the TB_IN time base a result is emitted. -/
theorem EmitFrame.finishTic (s : State) (w : TicWait) (h : s.valN Obj.tic_tb_state ≠ 1) : EmitFrame s (s.finishTic w) := by
  unfold State.finishTic
  extract_lets tcl latest lost
  split
  · exact EmitFrame.emitTic s _ _
  · split
    · exact EmitFrame.emitTic s _ _
    · rw [if_neg (by simp [h])]
      exact EmitFrame.emitTic s _ _

theorem EmitFrame.each (l : List TicWait) : ∀ s : State, s.valN Obj.tic_tb_state ≠ 1 → EmitFrame s (s.each l State.finishTic) := by
  induction l with
  | nil => exact fun s _ => EmitFrame.refl s
  | cons w l ih =>
    intro s h
    have hw := EmitFrame.finishTic s w h
    exact hw.trans (ih _ (by rw [hw.2]; exact h))

/-! ### Interpolators -/

theorem TicChan.interp_modInterp (x : TicChan) (i : Nat) (f : Interp → Interp) : (x.modInterp i f).interp i = f (x.interp i) := by
  unfold TicChan.modInterp TicChan.interp
  by_cases h : i = 0 <;> simp [h]

theorem TicChan.interp_modInterp_other (x : TicChan) (i : Fin 2) (f : Interp → Interp) : (x.modInterp i f).interp (1 - i) = x.interp (1 - i) := by
  unfold TicChan.modInterp TicChan.interp
  fin_cases i <;> simp

/-- A change of one interpolator. -/
theorem State.modChan_interp (s : State) (c : Nat) (i : Fin 2) (hc : c < 17) (f : Interp → Interp) :
    ((s.modChan c fun x => x.modInterp i f).chan c).interp i = f ((s.chan c).interp i) ∧
      ((s.modChan c fun x => x.modInterp i f).chan c).interp (1 - i) = (s.chan c).interp (1 - i) ∧
      ∀ m, m ≠ c → (s.modChan c fun x => x.modInterp i f).chan m = s.chan m := by
  refine ⟨?_, ?_, fun m hm => State.modChan_chan_other s c m _ hm⟩
  · rw [State.modChan_chan s c _ hc, TicChan.interp_modInterp]
  · rw [State.modChan_chan s c _ hc, TicChan.interp_modInterp_other]

theorem State.freshQuiet_spec (s : State) (c : Nat) (hc : c < 17) :
    (s.freshQuiet c).chan c = { s.chan c with quiet := 0, quietAt := s.tc.cyc } ∧ ∀ m, m ≠ c → (s.freshQuiet c).chan m = s.chan m :=
  ⟨State.modChan_chan s c _ hc, fun m hm => State.modChan_chan_other s c m _ hm⟩

theorem ticCalTableDoneEff_due (s : State) (c i : Nat) (hits : List Nat) (hl : hits.length = 1152) (hn : hits.sum = 2 ^ s.effN Obj.tic_cal_hits)
    (h : ((s.chan c).interp i).state = 0 ∨ ((s.chan c).interp i).state = 2 ∧ (s.chan c).fencedN = 1 ∧
      4 * 2 ^ s.effN Obj.tic_cal_hits ≤ (s.chan c).quiet + State.quietGain s s c) :
    ticCalTableDoneEff c i hits s =
      if tablePasses hits (2 ^ s.effN Obj.tic_cal_hits) = false then (s.tableFails c i).freshQuiet c
      else if ((s.chan c).interp i).state = 2 then
        (s.modChan c fun x => x.modInterp i fun y => { y with next := hits, nextAt := s.tc.cyc, fails := 0 }).freshQuiet c
      else
        s.modChan c fun x => x.modInterp i fun y =>
          { y with hits := hits, total := 2 ^ s.effN Obj.tic_cal_hits, doneAt := s.tc.cyc, fails := 0, stored := false, state := 1 } := by
  unfold ticCalTableDoneEff
  extract_lets n x y single
  rw [if_neg (by rcases h with h | ⟨h, hf, hq⟩ <;> simp [n, x, y, single, *])]
  simp only [Bool.not_eq_true', n, x, y]

theorem State.tableFails_first (s : State) (c i : Nat) (h : ((s.chan c).interp i).fails = 0) :
    s.tableFails c i = s.modChan c fun x => x.modInterp i fun y => { y with fails := 1 } := by
  unfold State.tableFails
  simp only [h]
  rfl

theorem State.tableFails_second (s : State) (c i : Nat) (h : ((s.chan c).interp i).fails = 1) :
    s.tableFails c i = (s.modChan c fun x => x.modInterp i fun y => { y with fails := 2 }).raise (168 + 2 * c + i) := by
  unfold State.tableFails
  simp only [h]
  rfl

/-! ### TB_IN lost (R266) -/

/-- The state in which TB_IN is found lost, before the results that wait. -/
def State.tbLost (s : State) : State :=
  ((({ s with tic := { s.tic with tbSince := none, tbRun := 0, tbReturn := false, tbMark := none } } : State).count Obj.tic_tb_losses).raise 245).setN
    Obj.tic_tb_state 2

theorem tbInLossEff_lost (s : State) (h1 : s.tic.tbSince.isSome = true) (h2 : s.tic.tbRun = 0) (h3 : s.tbSelected = true) :
    tbInLossEff s = s.tbLost.retryTic := by
  have hs2 : ((({ s with tic := { s.tic with tbSince := none, tbRun := 0, tbReturn := false, tbMark := none } } : State).count
      Obj.tic_tb_losses).raise 245).tbSelected = true := by
    rw [← h3]
    have hd : SameDict s ((({ s with tic := { s.tic with tbSince := none, tbRun := 0, tbReturn := false, tbMark := none } } : State).count
        Obj.tic_tb_losses).raise 245) (Obj.tic_tb_losses.key 0 0 :: raiseKeys 245) :=
      SameDict.trans ((SameDict.refl s [Obj.tic_tb_losses.key 0 0]).count (r := Obj.tic_tb_losses) (by simp) 1) (State.raise_sameDict _ 245 {})
    have hdev := congrArg State.dev (State.raise_frame
      (({ s with tic := { s.tic with tbSince := none, tbRun := 0, tbReturn := false, tbMark := none } } : State).count Obj.tic_tb_losses) 245 {})
    unfold State.tbSelected
    rw [hd.effN_eq hdev]
  unfold tbInLossEff
  dsimp only
  rw [if_pos (by simp [h1, h2]), if_pos hs2]
  rfl

theorem State.tbLost_spec (s : State) (hc : CanRaise s 245) :
    s.tbLost.valN Obj.tic_tb_state = 2 ∧ s.tbLost.valN Obj.tic_tb_losses = min (s.valN Obj.tic_tb_losses + 1) (2 ^ 32 - 1) ∧ Raised s s.tbLost 245 {} ∧
      s.tbLost.tic = { s.tic with tbSince := none, tbRun := 0, tbReturn := false, tbMark := none } ∧
      s.tbLost = { s with tic := s.tbLost.tic, win := s.tbLost.win, dict := s.tbLost.dict } ∧
      SameDict s s.tbLost [Obj.tic_tb_state.key 0 0, Obj.tic_tb_losses.key 0 0, srcKey 245] := by
  have hd0 : SameDict s (({ s with tic := { s.tic with tbSince := none, tbRun := 0, tbReturn := false, tbMark := none } } : State).count Obj.tic_tb_losses)
      [Obj.tic_tb_losses.key 0 0] := (SameDict.refl s _).count (by simp) 1
  have hv0 : (({ s with tic := { s.tic with tbSince := none, tbRun := 0, tbReturn := false, tbMark := none } } : State).count Obj.tic_tb_losses).valN
      Obj.tic_tb_losses = min (s.valN Obj.tic_tb_losses + 1) (2 ^ 32 - 1) := State.count_u32 _ _ 0 0 rfl
  have hf0 : ∃ di, ({ s with tic := { s.tic with tbSince := none, tbRun := 0, tbReturn := false, tbMark := none } } : State).count Obj.tic_tb_losses =
      { s with dict := di, tic := { s.tic with tbSince := none, tbRun := 0, tbReturn := false, tbMark := none } } := ⟨_, rfl⟩
  unfold State.tbLost
  generalize ({ s with tic := { s.tic with tbSince := none, tbRun := 0, tbReturn := false, tbMark := none } } : State).count Obj.tic_tb_losses = a at *
  obtain ⟨di, rfl⟩ := hf0
  obtain ⟨hr, hd1, -⟩ := State.raise_taken _ 245 {} (show CanRaise { s with dict := di, tic := { s.tic with tbSince := none, tbRun := 0, tbReturn := false, tbMark := none } } 245 from hc)
  have hrf := State.raise_frame { s with dict := di, tic := { s.tic with tbSince := none, tbRun := 0, tbReturn := false, tbMark := none } } 245 {}
  generalize State.raise _ 245 {} = u at hr hd1 hrf ⊢
  have hv1 : u.valN Obj.tic_tb_losses = min (s.valN Obj.tic_tb_losses + 1) (2 ^ 32 - 1) :=
    (hd1.valN_eq (by rw [hrf]) (by decide)).trans hv0
  obtain ⟨w, dv, rfl⟩ : ∃ w dv, u = { s with win := w, dict := dv, tic := { s.tic with tbSince := none, tbRun := 0, tbReturn := false, tbMark := none } } :=
    ⟨_, _, hrf⟩
  refine ⟨State.valN_setN _ _ 2 0 0, ?_, hr, rfl, rfl, ?_⟩
  · exact (State.valN_setN_other _ _ _ _ 0 0 0 0 (by decide)).trans hv1
  · have h := SameDict.trans hd0 hd1
    exact (h.mono (fun k hk => by simp only [List.mem_append, List.mem_cons, List.not_mem_nil, or_false] at hk ⊢; tauto)).putN (by simp) _

theorem State.tbLost_waits (s : State) (hc : CanRaise s 245) :
    (s.tbLost.retryTic).tic.waits = [] ∧ (s.tbLost.retryTic).tic.tbSince = none ∧ Raised s s.tbLost.retryTic 245 {} ∧
      s.tbLost.retryTic = { s with tic := s.tbLost.retryTic.tic, win := s.tbLost.retryTic.win, dict := s.tbLost.retryTic.dict } := by
  obtain ⟨hv, -, hr, ht, hf, -⟩ := s.tbLost_spec hc
  have he : EmitFrame { s.tbLost with tic := { s.tbLost.tic with waits := [] } } s.tbLost.retryTic :=
    EmitFrame.each s.tbLost.tic.waits _ (by
      have : (State.valN { s.tbLost with tic := { s.tbLost.tic with waits := [] } } Obj.tic_tb_state) = 2 := hv
      rw [this]; decide)
  generalize s.tbLost.retryTic = r at *
  generalize s.tbLost = u at *
  obtain ⟨⟨v, ch, df, rfl⟩, -⟩ := he
  obtain ⟨ti, wi, di, rfl⟩ : ∃ ti wi di, u = { s with tic := ti, win := wi, dict := di } := ⟨_, _, _, hf⟩
  exact ⟨rfl, congrArg Tic.tbSince (show ti = _ from ht), hr, rfl⟩

/-! ### A pair through its cycle -/

theorem tic_diff_last_not_mem_raiseKeys (d n : Nat) : Obj.tic_diff_last.key d 0 ∉ raiseKeys n := by
  simp [raiseKeys, srcKey, Row.key, Obj.tic_diff_last, Obj.win_src_state, Obj.win_lost, Obj.win_status]; omega

/-- The record of the pair that the stop event completes. -/
theorem State.feedDiff_done (s : State) (c d : Nat) (e a : TicEv) (hd : d < 8) (hen : s.effT Obj.tic_diff_enable d = true)
    (hw : (s.diff d).winOpen = true) (hstop : s.effN Obj.tic_diff_stop d = c) (hstart : s.effN Obj.tic_diff_start d ≠ c) (ha : (s.diff d).s = some a)
    (hp : (s.diff d).p = none) (hz : (s.diff d).pairs = 0) (hq : (s.diff d).queue.length < 256)
    (hx : (s.diff d).overflowed a e = true ∨ s.tbSelected = false ∧ a.c ≠ e.c) (st : Nat) (v : Int)
    (hst : st = if (s.diff d).overflowed a e then resultStamp a e 0x40 else resultStamp a e (if e.u < a.u then 0x20 else 0))
    (hv : v = if (s.diff d).overflowed a e then if a.u ≤ e.u then 2 ^ 62 else -(2 ^ 62)
      else units14 (((e.u - a.u : Int) : Rat) / (2 ^ 24 * 1000000000000 : Nat))) :
    (State.feedDiff c e s d).diff d = { s.diff d with
        p := some e, pairs := 1, seq := ((s.diff d).seq + 1) % 65536
        queue := (s.diff d).queue ++ [beBytes 16 st ++ intBytes 8 v ++ [3#8, BitVec.ofNat 8 d] ++ beBytes 2 (s.diff d).seq ++ beBytes 4 (s.diff d).winNo] } ∧
      (State.feedDiff c e s d).valI Obj.tic_diff_last d = v := by
  obtain ⟨u, -, hud, he⟩ := s.feedDiff_stop c d e a hd hen hw hstop hstart ha hp hz
  obtain ⟨hr1, hr2⟩ := u.pushDiff_room d st v (s.diff d).winNo hd (by rw [hud]; exact hq)
  have hres : (if (s.diff d).overflowed a e then u.pushDiff d (resultStamp a e 0x40) (if a.u ≤ e.u then 2 ^ 62 else -(2 ^ 62)) (s.diff d).winNo
      else u.finishTic { unit := 8 + d, a := a, b := e, winNo := (s.diff d).winNo, tb := s.tbSelected }) = u.pushDiff d st v (s.diff d).winNo := by
    rw [hst, hv]
    split
    · rfl
    · rename_i hno
      obtain ⟨htb, hne⟩ := hx.resolve_left hno
      rw [htb, u.finishTic_diff d a e _ hne]
  rw [he, hres]
  refine ⟨?_, hr2⟩
  rw [State.modDiff_diff _ d _ hd, hr1, hud]

/-- What the stop event of an open pair leaves at its unit, and the cycle after it. -/
theorem OneCand.stop {s : State} {c d k : Nat} {rise : Bool} (h : OneCand s c k rise) (hc : c < 8) (hd : d < 8) (ev : TicEv) (i : Nat) (a : TicEv)
    (hok : s.edgeOk c rise = true) (hs : s.shut c = false) (hh : s.held c = false) (hn : (s.chan c).fencedN ≠ 2) (hk : k < 1152)
    (hcv : s.convert c k = some (ev, i)) (hm : s.effN Obj.tic_mode c ≠ 2) (hen : s.effT Obj.tic_diff_enable d = true)
    (hw : (s.diff d).winOpen = true) (hstop : s.effN Obj.tic_diff_stop d = c) (hstart : s.effN Obj.tic_diff_start d ≠ c)
    (ha : (s.diff d).s = some a) (hp : (s.diff d).p = none) (hz : (s.diff d).pairs = 0) (hq : (s.diff d).queue.length < 256)
    (hx : (s.diff d).overflowed a ev = true ∨ s.tbSelected = false ∧ a.c ≠ ev.c) (st : Nat) (v : Int)
    (hst : st = if (s.diff d).overflowed a ev then resultStamp a ev 0x40 else resultStamp a ev (if ev.u < a.u then 0x20 else 0))
    (hv : v = if (s.diff d).overflowed a ev then if a.u ≤ ev.u then 2 ^ 62 else -(2 ^ 62)
      else units14 (((ev.u - a.u : Int) : Rat) / (2 ^ 24 * 1000000000000 : Nat))) :
    ((keeperCycleEff [] s).diff d).queue =
        (s.diff d).queue ++ [beBytes 16 st ++ intBytes 8 v ++ [3#8, BitVec.ofNat 8 d] ++ beBytes 2 (s.diff d).seq ++ beBytes 4 (s.diff d).winNo] ∧
      ((keeperCycleEff [] s).diff d).pairs = 1 ∧ ((keeperCycleEff [] s).diff d).seq = ((s.diff d).seq + 1) % 65536 ∧
      (keeperCycleEff [] s).valI Obj.tic_diff_last d = v ∧ ∀ m, m ≠ c → (keeperCycleEff [] s).chan m = s.chan m := by
  obtain ⟨u, e, hu, huo, ⟨hec, heu, hes⟩, ht⟩ := s.tiCandidate_feeds c k rise ev i hc h.cand hok hs hh hn hk hcv hm
  obtain ⟨y, hy, hyd, hdiff, hval⟩ := u.feedDiffs_at c e d hd
  have huf := u.feedDiffs_work c e
  rw [← ht] at hdiff hval huf
  have hyf : ∃ v ch df wt, y = { s with dict := { s.dict with val := v }, tic := { s.tic with chans := ch, diffs := df, waits := wt } } := by
    obtain ⟨v, ch, rfl⟩ := hu
    obtain ⟨v', df, wt, rfl⟩ := hy
    exact ⟨_, _, _, _, rfl⟩
  have hyd' : y.diff d = s.diff d := hyd.trans (by obtain ⟨v, ch, rfl⟩ := hu; rfl)
  have hdone := y.feedDiff_done c d e a hd (by obtain ⟨_, _, _, _, rfl⟩ := hyf; exact hen) (by rw [hyd']; exact hw)
    (by obtain ⟨_, _, _, _, rfl⟩ := hyf; exact hstop) (by obtain ⟨_, _, _, _, rfl⟩ := hyf; exact hstart) (by rw [hyd']; exact ha) (by rw [hyd']; exact hp)
    (by rw [hyd']; exact hz) (by rw [hyd']; exact hq)
    (hx.imp (fun hx => by rw [hyd', ← hx, TicDiff.overflowed, TicDiff.overflowed, hec])
      fun hx => ⟨by obtain ⟨_, _, _, _, rfl⟩ := hyf; exact hx.1, by rw [hec]; exact hx.2⟩) st v
    (by rw [hst, hyd', resultStamp, resultStamp, resultStamp, resultStamp, TicDiff.overflowed, TicDiff.overflowed, hec, heu, hes])
    (by rw [hv, hyd', TicDiff.overflowed, TicDiff.overflowed, hec, heu])
  rw [hyd', ← hdiff, ← hval] at hdone
  obtain ⟨hd1, hd2⟩ := hdone
  have hframe : ∀ m, m ≠ c → (s.tiCandidate c).chan m = s.chan m := fun m hmc => by
    obtain ⟨⟨di, df, wt, hf⟩, -, -⟩ := huf
    rw [hf]
    exact huo m hmc
  have hnet : (s.tiCandidate c).net = s.net := by
    obtain ⟨⟨di, df, wt, hf⟩, -, -⟩ := huf
    obtain ⟨_, _, rfl⟩ := hu
    rw [hf]
  obtain ⟨tc, dp, wi, di, fr, ks, heq, hks, hdk⟩ := h.cycle hc rfl hframe hnet
  have hlast := hdk.valI_eq (by rw [heq]) (hks.not_mem (tic_diff_last_not_mem_raiseKeys d))
  have hcd (m : Nat) : (keeperCycleEff [] s).diff m = (s.tiCandidate c).diff m := by rw [heq]; rfl
  have hcc (m : Nat) : (keeperCycleEff [] s).chan m = (s.tiCandidate c).chan m := by rw [heq]; rfl
  rw [hcd, hd1]
  exact ⟨rfl, rfl, rfl, hlast.trans hd2, fun m hmc => (hcc m).trans (hframe m hmc)⟩

/-! ### The obligation -/

/-- Settles O31: the pair by what its stop event does at its unit, the tables by their branches, TB_IN by the results it leaves. -/
theorem ticOverflowTablesTimebase : Obligations.TicOverflowTablesTimebase := by
  unfold Obligations.TicOverflowTablesTimebase
  refine ⟨fun s d c k rise ev i a h1 h2 h3 h4 h5 hok hs hh hn hk hcv hm hen hw hstop hstart ha hp hz hq htb hov hne => ?pair,
    fun s d c k rise ev i a h1 h2 h3 h4 h5 hok hs hh hn hk hcv hm hen hw hstop hstart ha hp hz hq hov => ?overflows,
    fun s d a hf hz hc => ?marks, fun s d a hf hc => ⟨s, next_of_eq ?young, rfl⟩,
    fun s c i hits hl hn hs hp => ?ready, fun s c i hits hl hn hs hp hf => ?fails, fun s c i hits hl hn hs hp hf hr => ?raises,
    fun s c i hits hl hn hs hf hq hp => ?next, fun s c i hits hs hq => ⟨s, next_of_eq ?early, rfl⟩,
    fun s h1 h2 h3 hw hc => ?lost, fun s h1 h2 h3 hc => ?waits, fun s h1 h2 h3 => ?returns, fun s c => ?pop, fun s d => ?diffPop⟩
  case pair =>
    obtain ⟨k1, k2, k3, -, k5⟩ := OneCand.stop ⟨h1, h2, h3, h4, h5⟩ c.isLt d.isLt ev i a hok hs hh hn hk hcv hm hen hw hstop hstart ha hp hz hq (.inr ⟨htb, hne⟩)
      _ _ rfl rfl
    have hno : ¬ (s.diff d.val).overflowed a ev = true := by simp [hov]
    rw [if_neg hno, if_neg hno] at k1
    exact ⟨_, rfl, k1, k2, k3, fun m hm => congrArg TicChan.queue (k5 m hm)⟩
  case overflows =>
    obtain ⟨k1, k2, -, k4, -⟩ := OneCand.stop ⟨h1, h2, h3, h4, h5⟩ c.isLt d.isLt ev i a hok hs hh hn hk hcv hm hen hw hstop hstart ha hp hz hq (.inl hov)
      _ _ rfl rfl
    rw [if_pos hov, if_pos hov] at k1
    rw [if_pos hov] at k4
    exact ⟨_, rfl, k1, k2, k4⟩
  case marks =>
    have heq : diffOverflowEff d s = s.modDiff d fun x => { x with ovf := true } := by
      unfold diffOverflowEff
      simp only [hf]
      rw [if_neg (by omega)]
    exact ⟨_, next_of_eq heq, State.modDiff_diff s d _ d.isLt, fun m hm => State.modDiff_diff_other s d m _ hm, rfl, rfl⟩
  case young =>
    unfold diffOverflowEff
    simp only [hf]
    rw [if_pos (.inr hc)]
  case ready =>
    have heq := ticCalTableDoneEff_due s c i hits hl hn (.inl hs)
    rw [if_neg (by simp [hp]), if_neg (by simp [hs])] at heq
    obtain ⟨k1, k2, k3⟩ := s.modChan_interp c i c.isLt
      fun y => { y with hits := hits, total := 2 ^ s.effN Obj.tic_cal_hits, doneAt := s.tc.cyc, fails := 0, stored := false, state := 1 }
    exact ⟨_, next_of_eq heq, k1, k2, k3, rfl, rfl⟩
  case fails =>
    have heq := ticCalTableDoneEff_due s c i hits hl hn (.inl hs)
    rw [if_pos hp, s.tableFails_first c i hf] at heq
    obtain ⟨k1, k2, k3⟩ := s.modChan_interp c i c.isLt fun y => { y with fails := 1 }
    obtain ⟨q1, q2⟩ := State.freshQuiet_spec (s.modChan c fun x => x.modInterp i fun y => { y with fails := 1 }) c c.isLt
    exact ⟨_, next_of_eq heq, by rw [q1]; exact k1, by rw [q1]; exact k2, fun m hm => (q2 m hm).trans (k3 m hm), rfl⟩
  case raises =>
    have heq := ticCalTableDoneEff_due s c i hits hl hn (.inl hs)
    rw [if_pos hp, s.tableFails_second c i hf] at heq
    obtain ⟨k1, k2, k3⟩ := s.modChan_interp c i c.isLt fun y => { y with fails := 2 }
    obtain ⟨hra, hd, -⟩ := (s.modChan c fun x => x.modInterp i fun y => { y with fails := 2 }).raise_taken (168 + 2 * c + i) {} hr
    have hrf := (s.modChan c fun x => x.modInterp i fun y => { y with fails := 2 }).raise_frame (168 + 2 * c + i) {}
    obtain ⟨q1, q2⟩ := State.freshQuiet_spec ((s.modChan c fun x => x.modInterp i fun y => { y with fails := 2 }).raise (168 + 2 * c + i)) c c.isLt
    have hch (m : Nat) : ((s.modChan c fun x => x.modInterp i fun y => { y with fails := 2 }).raise (168 + 2 * c + i)).chan m =
        (s.modChan c fun x => x.modInterp i fun y => { y with fails := 2 }).chan m := by rw [hrf]; rfl
    refine ⟨_, next_of_eq heq, ?_, ?_, fun m hm => ?_, hra, ?_, hd⟩
    · rw [q1]; exact (congrArg (fun x : TicChan => x.interp i) (hch c)).trans k1
    · rw [q1]; exact (congrArg (fun x : TicChan => x.interp (1 - i)) (hch c)).trans k2
    · rw [q2 m hm, hch]; exact k3 m hm
    · generalize State.raise _ (168 + 2 * c.val + i.val) = v at *
      obtain ⟨w, dv, rfl⟩ : ∃ w dv, v = { s.modChan c fun x => x.modInterp i fun y => { y with fails := 2 } with win := w, dict := dv } := ⟨_, _, hrf⟩
      rfl
  case next =>
    have heq := ticCalTableDoneEff_due s c i hits hl hn (.inr ⟨hs, hf, hq⟩)
    rw [if_neg (by simp [hp]), if_pos hs] at heq
    obtain ⟨k1, k2, k3⟩ := s.modChan_interp c i c.isLt fun y => { y with next := hits, nextAt := s.tc.cyc, fails := 0 }
    obtain ⟨q1, q2⟩ := State.freshQuiet_spec (s.modChan c fun x => x.modInterp i fun y => { y with next := hits, nextAt := s.tc.cyc, fails := 0 }) c c.isLt
    exact ⟨_, next_of_eq heq, by rw [q1]; exact k1, by rw [q1]; exact k2, by rw [q1], fun m hm => (q2 m hm).trans (k3 m hm), rfl⟩
  case early =>
    exact if_pos (.inr (.inr (by simp [hs, Nat.not_le.mpr hq])))
  case lost =>
    have heq := tbInLossEff_lost s h1 h2 h3
    obtain ⟨k1, k2, k3, k4, k5, k6⟩ := s.tbLost_spec hc
    have hr : s.tbLost.retryTic = s.tbLost := by
      unfold State.retryTic
      have hwu : s.tbLost.tic.waits = [] := by rw [k4]; exact hw
      generalize s.tbLost = u at hwu
      dsimp only
      rw [hwu]
      conv_rhs => rw [← show { u with tic := { u.tic with waits := u.tic.waits } } = u from rfl, hwu]
      rfl
    exact ⟨_, next_of_eq (heq.trans hr), k1, k2, k3, k4, k5, k6⟩
  case waits =>
    obtain ⟨k1, k2, k3, k4⟩ := s.tbLost_waits hc
    exact ⟨_, next_of_eq (tbInLossEff_lost s h1 h2 h3), k1, k2, k3, k4⟩
  case returns =>
    exact ⟨_, next_of_eq (if_pos (by simp [*])), rfl, rfl⟩
  case pop =>
    have hq := State.modChan_chan s c (fun x => { x with queue := x.queue.drop 1 }) (by omega)
    have hqueue := congrArg TicChan.queue hq
    have hseq := congrArg TicChan.seq hq
    exact ⟨_, rfl, hqueue, rfl, fun m hm => State.modChan_chan_other s c m _ hm, hseq, rfl⟩
  case diffPop =>
    have hq := State.modDiff_diff s d (fun x => { x with queue := x.queue.drop 1 }) d.isLt
    have hqueue := congrArg TicDiff.queue hq
    exact ⟨_, rfl, hqueue, rfl, fun m hm => State.modDiff_diff_other s d m _ hm, rfl, rfl⟩

end Sys2Proof.Machine

/-! SUPPORT. Channels and engines of the Gleaner (R286, R293). -/
namespace Sys2Proof.Machine

/-! ### Units of the Gleaner -/

/-- Engine `e`. -/
abbrev State.engine (s : State) (e : Nat) : GnssEngine := vat s.gnss.engines e {}

theorem State.modEngine_engine (s : State) (e : Nat) (f : GnssEngine → GnssEngine) (h : e < 16) : (s.modEngine e f).engine e = f (s.engine e) :=
  vat_vmod_same _ _ _ _ h

theorem State.modEngine_engine_other (s : State) (e m : Nat) (f : GnssEngine → GnssEngine) (h : m ≠ e) : (s.modEngine e f).engine m = s.engine m :=
  vat_vmod_other _ _ _ h

theorem State.modGch_gch (s : State) (n : Nat) (f : GnssChan → GnssChan) (h : n < 128) : (s.modGch n f).gch n = f (s.gch n) := vat_vmod_same _ _ _ _ h

theorem State.modGch_gch_other (s : State) (n m : Nat) (f : GnssChan → GnssChan) (h : m ≠ n) : (s.modGch n f).gch m = s.gch m := vat_vmod_other _ _ _ h

theorem State.modGband_gband (s : State) (b : Nat) (f : GnssBand → GnssBand) (h : b < 2) : (s.modGband b f).gband b = f (s.gband b) :=
  vat_vmod_same _ _ _ _ h

theorem State.modGband_gband_other (s : State) (b m : Nat) (f : GnssBand → GnssBand) (h : m ≠ b) : (s.modGband b f).gband m = s.gband m :=
  vat_vmod_other _ _ _ h

/-! ### A channel enters a state (R293) -/

/-- `t` differs from `s` in channel `n`, whose objects of the keys `ks` are written. -/
structure GchMod (s t : State) (n : Nat) (ks : List Nat) : Prop where
  frame : ∃ di ch, t = { s with dict := di, gnss := { s.gnss with chans := ch } }
  other : ∀ m, m ≠ n → t.gch m = s.gch m
  dict : SameDict s t ks

theorem GchMod.refl (s : State) (n : Nat) (ks : List Nat) : GchMod s s n ks := ⟨⟨s.dict, s.gnss.chans, rfl⟩, fun _ _ => rfl, SameDict.refl s ks⟩

theorem GchMod.setN {s t : State} {n : Nat} {ks : List Nat} (h : GchMod s t n ks) {r : Row} {i : Nat} (hk : r.key i 0 ∈ ks) (v : Int) :
    GchMod s (t.setN r v i) n ks := by
  obtain ⟨⟨di, ch, rfl⟩, ho, hd⟩ := h
  exact ⟨⟨_, _, rfl⟩, ho, hd.putN hk v⟩

theorem GchMod.modGch {s t : State} {n : Nat} {ks : List Nat} (h : GchMod s t n ks) (f : GnssChan → GnssChan) : GchMod s (t.modGch n f) n ks := by
  obtain ⟨⟨di, ch, rfl⟩, ho, hd⟩ := h
  exact ⟨⟨_, _, rfl⟩, fun m hm => (State.modGch_gch_other _ n m f hm).trans (ho m hm), hd⟩

theorem State.setGch_mod (s : State) (n st : Nat) : GchMod s (s.setGch n st) n [Obj.gnss_ch_state.key n 0] :=
  ((GchMod.refl s n _).setN (by simp) _).modGch _

theorem State.setGch_gch (s : State) (n st : Nat) (h : n < 128) :
    (s.setGch n st).gch n = { s.gch n with since := s.tc.cyc, lockSince := none, lowSince := none, queued := st == 1 } := State.modGch_gch _ n _ h

@[simp] theorem State.setGch_gchState (s : State) (n st : Nat) : (s.setGch n st).gchState n = st := State.valN_setN s Obj.gnss_ch_state st n 0

/-! ### A channel drops its assignment -/

/-- The engines that search for channel `n` are let go. -/
def State.freeEngine (n : Nat) (s : State) (e : Nat) : State := if (s.engine e).chan = some n then s.modEngine e fun _ => {} else s

theorem State.freeEngines_spec (n : Nat) (l : List Nat) : ∀ s : State,
    ∃ en, s.each l (State.freeEngine n) = { s with gnss := { s.gnss with engines := en } } ∧
      ∀ m, (s.engine m).chan ≠ some n → vat en m {} = s.engine m := by
  induction l with
  | nil => exact fun s => ⟨s.gnss.engines, rfl, fun _ _ => rfl⟩
  | cons e l ih =>
    intro s
    have hf : ∃ v, State.freeEngine n s e = { s with gnss := { s.gnss with engines := v } } := by
      unfold State.freeEngine
      split
      · exact ⟨_, rfl⟩
      · exact ⟨s.gnss.engines, rfl⟩
    have hk (m : Nat) (hm : (s.engine m).chan ≠ some n) : (State.freeEngine n s e).engine m = s.engine m := by
      unfold State.freeEngine
      split
      · rename_i he
        exact s.modEngine_engine_other e m _ fun h => hm (h ▸ he)
      · rfl
    obtain ⟨en, h1, h2⟩ := ih (State.freeEngine n s e)
    refine ⟨en, ?_, fun m hm => (h2 m (by rw [hk m hm]; exact hm)).trans (hk m hm)⟩
    obtain ⟨v, hv⟩ := hf
    exact h1.trans (by rw [hv])

/-- The keys of the objects of a channel that drops its assignment. -/
abbrev dropKeys (n : Nat) : List Nat :=
  [Obj.gnss_ch_assign.key n 0, Obj.gnss_ch_state.key n 0, Obj.gnss_ch_flags.key n 0, Obj.gnss_ch_cn0.key n 0]

theorem State.dropGch_spec (s : State) (n st : Nat) (hn : n < 128) :
    (s.dropGch n st).gchState n = st ∧ (s.dropGch n st).gchAssign n = 0 ∧ (s.dropGch n st).gch n = { since := s.tc.cyc } ∧
      (∀ m, (s.engine m).chan ≠ some n → (s.dropGch n st).engine m = s.engine m) ∧
      (∀ m, m ≠ n ∧ (s.gch n).pair ≠ some m → (s.dropGch n st).gch m = s.gch m) ∧
      (∃ di ch en, s.dropGch n st = { s with dict := di, gnss := { s.gnss with chans := ch, engines := en } }) ∧
      SameDict s (s.dropGch n st) (dropKeys n) := by
  have hpair : ∃ ch, (match (s.gch n).pair with
      | some m => s.modGch m fun c => { c with pair := none }
      | none => s) = { s with gnss := { s.gnss with chans := ch } } ∧ ∀ m, (s.gch n).pair ≠ some m → vat ch m {} = s.gch m := by
    cases (s.gch n).pair with
    | none => exact ⟨s.gnss.chans, rfl, fun _ _ => rfl⟩
    | some p => exact ⟨_, rfl, fun m hm => vat_vmod_other _ _ _ fun h => hm (by rw [h])⟩
  obtain ⟨ch, hp, hch⟩ := hpair
  obtain ⟨en, he, hen⟩ := State.freeEngines_spec n (List.range 16) { s with gnss := { s.gnss with chans := ch } }
  have heq : s.dropGch n st = ((((({ s with gnss := { s.gnss with chans := ch, engines := en } } : State).modGch n fun _ => { since := s.tc.cyc }).setN
      Obj.gnss_ch_assign 0 n).setN Obj.gnss_ch_state st n).setN Obj.gnss_ch_flags 0 n).setN Obj.gnss_ch_cn0 0 n := by
    unfold State.dropGch
    extract_lets a b c d
    have hb : b = { s with gnss := { s.gnss with chans := ch, engines := en } } :=
      (congrArg (fun u : State => u.each (List.range 16) (State.freeEngine n)) hp).trans he
    show State.setN (State.setN (State.setN (State.setN (b.modGch n _) _ _ n) _ _ n) _ _ n) _ _ n = _
    rw [hb]
  have hk (r r' : Row) (h : r.key n 0 ≠ r'.key n 0) (u : State) (v : Int) : (u.setN r' v n).valN r n = u.valN r n := u.valN_setN_other r' r v n 0 n 0 h
  rw [heq]
  refine ⟨?_, ?_, State.modGch_gch _ n _ hn, hen, fun m hm => (State.modGch_gch_other _ n m _ hm.1).trans (hch m hm.2), ⟨_, _, _, rfl⟩, ?_⟩
  · unfold State.gchState
    rw [hk _ _ (by simp [Row.key, Obj.gnss_ch_state, Obj.gnss_ch_cn0]), hk _ _ (by simp [Row.key, Obj.gnss_ch_state, Obj.gnss_ch_flags])]
    exact State.valN_setN _ _ st n 0
  · unfold State.gchAssign
    rw [hk _ _ (by simp [Row.key, Obj.gnss_ch_assign, Obj.gnss_ch_cn0]), hk _ _ (by simp [Row.key, Obj.gnss_ch_assign, Obj.gnss_ch_flags]),
      hk _ _ (by simp [Row.key, Obj.gnss_ch_assign, Obj.gnss_ch_state])]
    exact State.valN_setN _ _ 0 n 0
  · exact (((SameDict.putN (SameDict.refl s (dropKeys n)) (by simp) _).putN (by simp) _).putN (by simp) _).putN (by simp) _

theorem State.giveUp_spec (s : State) (n : Nat) (hn : n < 128) :
    (s.giveUp n).gchState n = 0 ∧ (s.giveUp n).gchAssign n = 0 ∧ (s.giveUp n).gnss.searchList = s.gnss.searchList ++ [s.gchAssign n] ∧
      (s.giveUp n).gch n = { since := s.tc.cyc } ∧ (∀ m, (s.engine m).chan ≠ some n → (s.giveUp n).engine m = s.engine m) ∧
      (∀ m, m ≠ n ∧ (s.gch n).pair ≠ some m → (s.giveUp n).gch m = s.gch m) ∧ s.giveUp n = { s with gnss := (s.giveUp n).gnss, dict := (s.giveUp n).dict } ∧
      SameDict s (s.giveUp n) (dropKeys n) := by
  obtain ⟨h1, h2, h3, h4, h5, ⟨di, ch, en, h6⟩, h7⟩ := s.dropGch_spec n 0 hn
  have heq : s.giveUp n = (s.dropGch n 0).modGnss fun g => { g with searchList := g.searchList ++ [s.gchAssign n] } := rfl
  rw [heq]
  generalize s.dropGch n 0 = u at *
  subst h6
  exact ⟨h1, h2, rfl, h3, h4, h5, rfl, h7⟩

end Sys2Proof.Machine

/-! SUPPORT. Acquisition (R285 to R288, R293): the obligation. -/
namespace Sys2Proof.Machine

/-! ### A search hands over -/

/-- The Doppler that a search hands over. -/
abbrev State.foundDoppler (s : State) (x : GnssEngine) (n bin : Nat) : Int := (s.searchCentre x n).2 + binOffset bin

/-- The keys of the objects of a channel that a search hands to. -/
abbrev handKeys (n : Nat) : List Nat := [Obj.gnss_ch_state.key n 0, Obj.gnss_ch_doppler.key n 0, Obj.gnss_ch_code_phase.key n 0]

theorem State.handOff_spec (s : State) (x : GnssEngine) (n cell bin : Nat) (hn : n < 128) :
    (s.handOff x n cell bin).gchState n = 2 ∧ (s.handOff x n cell bin).valI Obj.gnss_ch_doppler n = s.foundDoppler x n bin ∧
      (((s.handOff x n cell bin).gch n).carRate, ((s.handOff x n cell bin).gch n).codeRate) = s.ncoRates (s.gchAssign n) (s.foundDoppler x n bin) ∧
      GchMod s (s.handOff x n cell bin) n (handKeys n) := by
  have heq : ∃ f : GnssChan → GnssChan, (∀ c, ((f c).carRate, (f c).codeRate) = s.ncoRates (s.gchAssign n) (s.foundDoppler x n bin)) ∧
      s.handOff x n cell bin = ((((s.setGch n 2).modGch n f).setN Obj.gnss_ch_doppler (s.foundDoppler x n bin) n).putPhase n) := ⟨_, fun _ => rfl, rfl⟩
  obtain ⟨f, hf, heq⟩ := heq
  have hm : GchMod s ((s.setGch n 2).modGch n f) n (handKeys n) :=
    (((GchMod.refl s n _).setN (r := Obj.gnss_ch_state) (by simp) 2).modGch _).modGch _
  have hg := (s.setGch n 2).modGch_gch n f hn
  have hst : ((s.setGch n 2).modGch n f).gchState n = 2 := s.setGch_gchState n 2
  rw [heq]
  generalize (s.setGch n 2).modGch n f = u at *
  refine ⟨?_, ?_, ?_, ?_⟩
  · exact (State.valN_setN_other _ _ _ _ n 0 n 0 (by simp [Row.key, Obj.gnss_ch_state, Obj.gnss_ch_code_phase])).trans
      ((u.valN_setN_other _ _ _ n 0 n 0 (by simp [Row.key, Obj.gnss_ch_state, Obj.gnss_ch_doppler])).trans hst)
  · exact (State.valI_setN_other _ _ _ _ n 0 n 0 (by simp [Row.key, Obj.gnss_ch_doppler, Obj.gnss_ch_code_phase])).trans (u.valI_setN _ _ _ _)
  · show ((u.gch n).carRate, (u.gch n).codeRate) = _
    rw [hg]
    exact hf _
  · exact (hm.setN (r := Obj.gnss_ch_doppler) (by simp) _).setN (by simp) _

/-! ### A dwell ends (R286) -/

/-- Where the search is after the block of `x`, that found nothing. -/
abbrev GnssEngine.nextBin (x : GnssEngine) : Nat := if x.block + 1 < x.blocks then x.bin else x.bin + 1

/-- The first dwell that finds a cell, and the last that finds none: what a dwell leaves. -/
theorem acqDwellDoneEff_eq (s : State) (e n : Nat) (hon : s.gnssOn = true) (hc : (s.engine e).chan = some n) (hd : (s.engine e).dwelling = true)
    (hp : s.passed (s.engine e).dwellAt (62500 * s.effN Obj.gnss_acq_coh * s.effN Obj.gnss_acq_noncoh) = true) :
    acqDwellDoneEff e s =
      match s.dwellFinds (s.engine e) n, (s.engine e).verify with
      | some _, some (c, b) => (s.handOff (s.engine e) n c b).modEngine e fun _ => {}
      | some c, none => s.modEngine e fun y =>
        { y with verify := some (c, y.bin), dwelling := (s.gband (asgBand (s.gchAssign n))).ready, dwellAt := s.tc.cyc }
      | none, _ =>
        if (s.engine e).bins ≤ (s.engine e).nextBin then (s.modEngine e fun _ => {}).giveUp n
        else s.modEngine e fun y =>
          { y with
            verify := none, block := if (s.engine e).block + 1 < (s.engine e).blocks then (s.engine e).block + 1 else 0
            bin := (s.engine e).nextBin, dwelling := (s.gband (asgBand (s.gchAssign n))).ready, dwellAt := s.tc.cyc } := by
  have hw : s.gnssWorks = true := by simp [State.gnssWorks, hon]
  unfold acqDwellDoneEff
  simp only [hc]
  rw [if_neg (by simp [hw, hd, hp])]
  exact if_neg (by simp [hon])

/-- What the end of a dwell keeps, whatever it found. -/
structure DwellKeeps (s t : State) (e n : Nat) : Prop where
  engines : ∀ m, m ≠ e ∧ (s.engine m).chan ≠ some n → t.engine m = s.engine m
  chans : ∀ m, m ≠ n ∧ (s.gch n).pair ≠ some m → t.gch m = s.gch m
  frame : t = { s with gnss := t.gnss, dict := t.dict }
  dict : SameDict s t [Obj.gnss_ch_state.key n 0, Obj.gnss_ch_doppler.key n 0, Obj.gnss_ch_code_phase.key n 0, Obj.gnss_ch_assign.key n 0, Obj.gnss_ch_flags.key n 0, Obj.gnss_ch_cn0.key n 0]

/-- A dwell that only moves its engine on. -/
theorem DwellKeeps.modEngine (s : State) (e n : Nat) (f : GnssEngine → GnssEngine) : DwellKeeps s (s.modEngine e f) e n :=
  ⟨fun m hm => s.modEngine_engine_other e m f hm.1, fun _ _ => rfl, rfl, SameDict.refl s _⟩

theorem DwellKeeps.handOff (s : State) (x : GnssEngine) (e n c b : Nat) (hn : n < 128) :
    DwellKeeps s ((s.handOff x n c b).modEngine e fun _ => {}) e n ∧
      ((s.handOff x n c b).modEngine e fun _ => {}).gnss =
        { s.gnss with engines := ((s.handOff x n c b).modEngine e fun _ => {}).gnss.engines, chans := ((s.handOff x n c b).modEngine e fun _ => {}).gnss.chans } := by
  obtain ⟨-, -, -, ⟨di, ch, hf⟩, ho, hd⟩ := s.handOff_spec x n c b hn
  generalize s.handOff x n c b = u at *
  subst hf
  exact ⟨⟨fun m hm => State.modEngine_engine_other _ e m _ hm.1, fun m hm => ho m hm.1, rfl,
    hd.mono fun k hk => by simp only [List.mem_cons, List.not_mem_nil, or_false] at hk ⊢; tauto⟩, rfl⟩

theorem DwellKeeps.giveUp (s : State) (e n : Nat) (he : e < 16) (hn : n < 128) :
    DwellKeeps s ((s.modEngine e fun _ => {}).giveUp n) e n ∧ ((s.modEngine e fun _ => {}).giveUp n).engine e = {} := by
  obtain ⟨-, -, -, -, h5, h6, h7, h8⟩ := (s.modEngine e fun _ => {}).giveUp_spec n hn
  have hself := s.modEngine_engine e (fun _ => {}) he
  refine ⟨⟨fun m hm => ?_, h6, ?_, h8.mono fun k hk => by simp only [List.mem_cons, List.not_mem_nil, or_false] at hk ⊢; tauto⟩, ?_⟩
  · have ho := s.modEngine_engine_other e m (fun _ => {}) hm.1
    exact (h5 m (by rw [ho]; exact hm.2)).trans ho
  · generalize (s.modEngine e fun _ => {}).giveUp n = u at *
    exact h7
  · exact (h5 e (by rw [hself]; simp)).trans hself

/-! ### The obligation -/

/-- Settles O32: a snapshot, a dwell by what it finds, and a channel by how long it has been in its state. -/
theorem gnssAcquisition : Obligations.GnssAcquisition := by
  unfold Obligations.GnssAcquisition
  refine ⟨fun s b hon hd hb => ?snapshot, fun s b h => ⟨s, next_of_eq (if_neg ?waits), rfl⟩, fun s e n hon hc hd hp => ?dwell,
    fun s e h => ⟨s, next_of_eq ?idle, rfl⟩, fun s c hr hst hl => ?lock, fun s c hr hst hp hl hre => ?retry, fun s c hr hst hp hl hre => ?gives,
    fun s c hr hst hp => ?coast, fun s c hst => ⟨s, next_of_eq (if_neg (by simp [hst])), rfl⟩⟩
  case snapshot =>
    exact ⟨_, next_of_eq (if_pos (by simp only [hon, hd, hb, Bool.and_self])), State.modGband_gband s b _ b.isLt,
      fun m hm => State.modGband_gband_other s b m _ hm, rfl, rfl⟩
  case waits =>
    rcases h with h | h
    · simp [h]
    · obtain ⟨x, hx, hxd⟩ := List.any_eq_true.mp h
      simp only [Bool.and_eq_true, List.all_eq_true, not_and]
      intro _ hall
      simpa [hxd] using hall x hx
  case dwell =>
    have heq := acqDwellDoneEff_eq s e n hon hc hd hp
    have hE (f : GnssEngine → GnssEngine) : vat (s.modEngine e f).gnss.engines e {} = f (s.engine e) := s.modEngine_engine e f e.isLt
    cases hF : s.dwellFinds (s.engine e) n with
    | some c =>
      cases hV : (s.engine e).verify with
      | none =>
        simp only [hF, hV] at heq
        obtain ⟨k1, k2, k3, k4⟩ := DwellKeeps.modEngine s e n fun y =>
          { y with verify := some (c, y.bin), dwelling := (s.gband (asgBand (s.gchAssign n))).ready, dwellAt := s.tc.cyc }
        refine ⟨_, next_of_eq heq, ?_⟩
        refine ⟨fun _ => ⟨rfl, ?_⟩, fun h => absurd rfl h.2, fun h => (nomatch h.1), fun h => (nomatch h.1), k1, k2, k3, k4⟩
        rw [hE]; rfl
      | some p =>
        simp only [hF, hV] at heq
        obtain ⟨⟨k1, k2, k3, k4⟩, k5⟩ := DwellKeeps.handOff s (s.engine e) e n p.1 p.2 n.isLt
        obtain ⟨h1, h2, h3, -⟩ := s.handOff_spec (s.engine e) n p.1 p.2 n.isLt
        refine ⟨_, next_of_eq heq, ?_⟩
        exact ⟨fun h => (nomatch h.2), fun h => ⟨State.modEngine_engine _ e _ e.isLt, h1, h2, h3, k5⟩, fun h => (nomatch h.1),
          fun h => (nomatch h.1), k1, k2, k3, k4⟩
    | none =>
      simp only [hF] at heq
      by_cases hb : (s.engine e).bins ≤ (s.engine e).nextBin
      · rw [if_pos hb] at heq
        obtain ⟨⟨k1, k2, k3, k4⟩, k5⟩ := DwellKeeps.giveUp s e n e.isLt n.isLt
        obtain ⟨h1, h2, h3, h4, -⟩ := (s.modEngine e fun _ => {}).giveUp_spec n n.isLt
        refine ⟨_, next_of_eq heq, ?_⟩
        exact ⟨fun h => absurd rfl h.1, fun h => absurd rfl h.1, fun h => absurd h.2 (Nat.not_lt.mpr hb), fun _ => ⟨k5, h1, h2, h3, h4⟩,
          k1, k2, k3, k4⟩
      · rw [if_neg hb] at heq
        obtain ⟨k1, k2, k3, k4⟩ := DwellKeeps.modEngine s e n fun y =>
          { y with
            verify := none, block := if (s.engine e).block + 1 < (s.engine e).blocks then (s.engine e).block + 1 else 0
            bin := (s.engine e).nextBin, dwelling := (s.gband (asgBand (s.gchAssign n))).ready, dwellAt := s.tc.cyc }
        refine ⟨_, next_of_eq heq, ?_⟩
        exact ⟨fun h => absurd rfl h.1, fun h => absurd rfl h.1, fun _ => ⟨rfl, hE _⟩, fun h => absurd h.2 hb, k1, k2, k3, k4⟩
  case idle =>
    unfold acqDwellDoneEff
    cases hc : (vat s.gnss.engines e.val {}).chan with
    | none => simp only [hc]
    | some n =>
      simp only [hc]
      refine if_pos ?_
      rcases h with h | h | h
      · cases hc.symm.trans h
      · simp [h]
      · simp [h]
  case lock =>
    have heq : channelPullInLockEff c s = (s.setGch c 3).offerL5 c := if_pos (by simp only [hr, hst, Bool.true_and, beq_self_eq_true]; exact hl)
    obtain ⟨⟨di, ch, hf⟩, ho, hd⟩ := s.setGch_mod c 3
    have h3 := s.setGch_gchState c 3
    have hg := s.setGch_gch c 3 c.isLt
    have ha : (s.setGch c 3).gchAssign c = s.gchAssign c := State.valN_setN_other s _ _ _ c 0 c 0 (by simp [Row.key, Obj.gnss_ch_state, Obj.gnss_ch_assign])
    have hnb : (s.setGch c 3).effN Obj.gnss_bands = s.effN Obj.gnss_bands := rfl
    have hoff : (s.setGch c 3).offerL5 c = s.setGch c 3 ∨ (s.effN Obj.gnss_bands = 1 ∧ asgBand (s.gchAssign c) = 0 ∧
        (s.setGch c 3).offerL5 c = (s.setGch c 3).modGnss fun g => { g with searchList := (s.gchAssign c + 256) :: g.searchList }) := by
      unfold State.offerL5
      extract_lets a
      split
      · rename_i h
        simp only [Bool.and_eq_true, beq_iff_eq, decide_eq_true_eq] at h
        refine .inr ⟨h.1.1.2, ?_, by simp only [a, ha]⟩
        have := h.1.1.1
        simp only [a, ha] at this
        simpa using this
      · exact .inl rfl
    rw [← heq] at hoff
    generalize s.setGch c 3 = u at *
    subst hf
    rcases hoff with h | ⟨hb, hab, h⟩
    · exact ⟨_, next_of_eq h, h3, hg, fun _ => rfl, .inl rfl, ho, rfl, rfl, hd⟩
    · exact ⟨_, next_of_eq h, h3, hg, fun h => absurd h (by simp [hb, hab]), .inr rfl, ho, rfl, rfl, hd⟩
  case retry =>
    have heq : channelPullInTimeoutEff c s = (s.setGch c 1).modGch c fun x => { x with retried := true, reacq := false } := by
      unfold channelPullInTimeoutEff
      rw [if_pos (by rw [hr, hst]; simpa using ⟨hp, hl⟩), if_neg (by simp [hre])]
    obtain ⟨⟨di, ch, hf⟩, ho, hd⟩ := s.setGch_mod c 1
    have h1 := s.setGch_gchState c 1
    have hg := s.setGch_gch c 1 c.isLt
    have hm := State.modGch_gch (s.setGch c 1) c (fun x => { x with retried := true, reacq := false }) c.isLt
    rw [hg] at hm
    generalize s.setGch c 1 = u at *
    subst hf
    exact ⟨_, next_of_eq heq, h1, hm, fun m hmc => (State.modGch_gch_other _ _ m _ hmc).trans (ho m hmc), rfl, rfl, hd⟩
  case gives =>
    have heq : channelPullInTimeoutEff c s = s.giveUp c := by
      unfold channelPullInTimeoutEff
      rw [if_pos (by rw [hr, hst]; simpa using ⟨hp, hl⟩), if_pos hre]
    obtain ⟨h1, h2, h3, h4, h5, h6, h7, h8⟩ := s.giveUp_spec c c.isLt
    exact ⟨_, next_of_eq heq, h1, h2, h3, h4, h5, h6, h7, h8⟩
  case coast =>
    have heq : channelCoastTimeoutEff c s = (s.setGch c 1).modGch c fun x => { x with retried := false, reacq := true } :=
      if_pos (by rw [hr, hst, oneMs]; simpa using hp)
    obtain ⟨⟨di, ch, hf⟩, ho, hd⟩ := s.setGch_mod c 1
    have h1 := s.setGch_gchState c 1
    have hg := s.setGch_gch c 1 c.isLt
    have hm := State.modGch_gch (s.setGch c 1) c (fun x => { x with retried := false, reacq := true }) c.isLt
    rw [hg] at hm
    generalize s.setGch c 1 = u at *
    subst hf
    exact ⟨_, next_of_eq heq, h1, hm, fun m hmc => (State.modGch_gch_other _ _ m _ hmc).trans (ho m hmc), rfl, rfl, hd⟩

end Sys2Proof.Machine

/-! SUPPORT. What the dump of a channel changes (R291 to R294). -/
namespace Sys2Proof.Machine

/-- `t` differs from `s` in what the loops of channel `n` work on, and in status values of the keys `ks`. -/
structure DumpWork (s t : State) (n : Nat) (ks : List Nat) : Prop where
  frame : ∃ di ch bd us ep al, t = { s with dict := di, gnss := { s.gnss with chans := ch, bands := bd, utcSeen := us, eph := ep, alm := al } }
  other : ∀ m, m ≠ n → t.gch m = s.gch m
  dumped : (t.gch n).dumped = (s.gch n).dumped
  dict : SameDict s t ks

namespace DumpWork

variable {s t u : State} {n : Nat} {ks : List Nat}

theorem refl (s : State) (n : Nat) (ks : List Nat) : DumpWork s s n ks :=
  ⟨⟨s.dict, s.gnss.chans, s.gnss.bands, s.gnss.utcSeen, s.gnss.eph, s.gnss.alm, rfl⟩, fun _ _ => rfl, rfl, SameDict.refl s ks⟩

theorem trans (h : DumpWork s t n ks) (h' : DumpWork t u n ks) : DumpWork s u n ks := by
  obtain ⟨⟨di, ch, bd, us, ep, al, hf⟩, ho, hp, hd⟩ := h
  obtain ⟨⟨di', ch', bd', us', ep', al', hf'⟩, ho', hp', hd'⟩ := h'
  refine ⟨⟨di', ch', bd', us', ep', al', ?_⟩, fun m hm => (ho' m hm).trans (ho m hm), hp'.trans hp, (SameDict.trans hd hd').mono (by simp)⟩
  rw [hf', hf]

theorem mono (h : DumpWork s t n ks) {ks' : List Nat} (hk : ∀ k ∈ ks, k ∈ ks') : DumpWork s t n ks' := ⟨h.frame, h.other, h.dumped, h.dict.mono hk⟩

theorem modGch (s : State) (n : Nat) (ks : List Nat) (f : GnssChan → GnssChan) (hf : (f (s.gch n)).dumped = (s.gch n).dumped) :
    DumpWork s (s.modGch n f) n ks := by
  refine ⟨⟨s.dict, _, s.gnss.bands, s.gnss.utcSeen, s.gnss.eph, s.gnss.alm, rfl⟩, fun m hm => s.modGch_gch_other n m f hm, ?_, SameDict.refl s ks⟩
  by_cases hn : n < 128
  · rw [s.modGch_gch n f hn, hf]
  · simp only [State.gch, State.modGch, vat, dif_neg hn]

theorem setN (s : State) (n : Nat) {ks : List Nat} {r : Row} {i : Nat} (hk : r.key i 0 ∈ ks) (v : Int) : DumpWork s (s.setN r v i) n ks :=
  ⟨⟨_, s.gnss.chans, s.gnss.bands, s.gnss.utcSeen, s.gnss.eph, s.gnss.alm, rfl⟩, fun _ _ => rfl, rfl, (SameDict.refl s ks).putN hk v⟩

theorem modGnss (s : State) (n : Nat) (ks : List Nat) (f : Gnss → Gnss)
    (hf : ∃ bd us ep al, f s.gnss = { s.gnss with bands := bd, utcSeen := us, eph := ep, alm := al }) : DumpWork s (s.modGnss f) n ks := by
  obtain ⟨bd, us, ep, al, h⟩ := hf
  have hc : (f s.gnss).chans = s.gnss.chans := by rw [h]
  have hg (m : Nat) : (s.modGnss f).gch m = s.gch m := by unfold State.gch State.modGnss; rw [hc]
  exact ⟨⟨s.dict, s.gnss.chans, bd, us, ep, al, by unfold State.modGnss; rw [h]⟩, fun m _ => hg m, by rw [hg], SameDict.refl s ks⟩

theorem each {α : Type} (n : Nat) (ks : List Nat) (F : State → α → State) (hF : ∀ u a, DumpWork u (F u a) n ks) (l : List α) :
    ∀ s : State, DumpWork s (s.each l F) n ks := by
  induction l with
  | nil => exact fun s => refl s n ks
  | cons a l ih => exact fun s => (hF s a).trans (ih (F s a))

end DumpWork

/-- The keys of the objects that the sums of channel `n` write. -/
abbrev sumKeys (n : Nat) : List Nat :=
  [Obj.gnss_ch_cn0.key n 0, Obj.gnss_ch_flags.key n 0, Obj.gnss_utc_valid.key 0 0, Obj.gnss_utc_offset.key 0 0, Obj.gnss_leap_pending.key 0 0,
    Obj.gnss_leap_time.key 0 0]

/-- The keys of the objects that the dump of channel `n` writes. -/
abbrev dumpKeys (n : Nat) : List Nat := [Obj.gnss_ch_elev.key n 0, Obj.gnss_ch_state.key n 0] ++ sumKeys n

theorem sumKeys_subset_dumpKeys (n : Nat) : ∀ k ∈ sumKeys n, k ∈ dumpKeys n := fun _ hk => List.mem_append_right _ hk

/-! ### The sums (R292) -/

theorem State.setFlag_work (s : State) (n bit : Nat) (on : Bool) : DumpWork s (s.setFlag n bit on) n (sumKeys n) := DumpWork.setN s n (by simp) _

theorem State.takeUtc_work (s : State) (n sat : Nat) (u : Int × Nat × Nat) : DumpWork s (s.takeUtc sat u) n (sumKeys n) := by
  unfold State.takeUtc
  extract_lets seen s1
  split
  · exact DumpWork.refl s n _
  · have h1 : DumpWork s s1 n (sumKeys n) := DumpWork.modGnss s n _ _ ⟨_, _, _, _, rfl⟩
    split
    · exact (((h1.trans (DumpWork.setN s1 n (r := Obj.gnss_utc_valid) (by simp) _)).trans (DumpWork.setN _ n (r := Obj.gnss_utc_offset) (by simp) _)).trans
        (DumpWork.setN _ n (r := Obj.gnss_leap_pending) (by simp) _)).trans (DumpWork.setN _ n (r := Obj.gnss_leap_time) (by simp) _)
    · exact h1

theorem State.takeSymbol_work (s : State) (n : Nat) (b : Bool) : DumpWork s (s.takeSymbol n b) n (sumKeys n) := by
  unfold State.takeSymbol
  extract_lets a s1 bits
  have h1 : DumpWork s s1 n (sumKeys n) := DumpWork.modGch s n _ _ rfl
  clear_value s1
  rcases Config.gnssMessage a bits with ⟨frame, eph, alm⟩
  dsimp -zeta only
  extract_lets s2 s3 s4
  have h2 : DumpWork s s2 n (sumKeys n) := h1.trans (s1.setFlag_work n 4 frame)
  have h3 : DumpWork s s3 n (sumKeys n) := by
    cases eph with
    | none => exact h2
    | some e => exact h2.trans (DumpWork.modGnss s2 n _ _ ⟨_, _, _, _, rfl⟩)
  have h4 : DumpWork s s4 n (sumKeys n) := h3.trans (DumpWork.each n _ _ (fun u a => DumpWork.modGnss u n _ _ ⟨_, _, _, _, rfl⟩) alm s3)
  clear_value s4
  split
  · exact h4.trans (s4.takeUtc_work n _ _)
  · exact h4

theorem GnssChan.primary_dumped (a : Nat) (c : GnssChan) : (c.primary a).1.dumped = c.dumped := by
  unfold GnssChan.primary
  dsimp only
  split <;> rfl

theorem GnssChan.combine_dumped (a : Nat) (x : List (Int × Int)) (n : Nat) (c : GnssChan) : (c.combine a x n).1.dumped = c.dumped := by
  unfold GnssChan.combine
  extract_lets p c1
  cases h : c1.sync with
  | none => rfl
  | some k =>
    dsimp only
    split <;> rfl

theorem State.trackPrimary_work (s : State) (n : Nat) (x : List (Int × Int)) (len : Nat) :
    DumpWork s (s.trackPrimary n x len).1 n (sumKeys n) := by
  unfold State.trackPrimary
  extract_lets a place
  have hc := GnssChan.combine_dumped a x len (s.gch n)
  rcases hq : (s.gch n).combine a x len with ⟨c, out⟩
  rw [hq] at hc
  dsimp -zeta only at hc ⊢
  extract_lets s1 s2
  have h1 : DumpWork s s1 n (sumKeys n) := DumpWork.modGch s n _ _ hc
  have h2 : DumpWork s s2 n (sumKeys n) := h1.trans (s1.setFlag_work n 3 _)
  clear_value s2
  split
  · exact h2.trans (s2.takeSymbol_work n _)
  · exact h2

theorem State.trackCombined_work (s : State) (n : Nat) (x : List (Int × Int)) (len : Nat) : DumpWork s (s.trackCombined n x len) n (sumKeys n) := by
  unfold State.trackCombined
  split
  · exact DumpWork.modGch s n _ _ rfl
  · extract_lets a now p cn0 low slip st s1
    have h1 : DumpWork s s1 n (sumKeys n) := (DumpWork.setN s n (r := Obj.gnss_ch_cn0) (by simp) _).trans (DumpWork.modGch _ n _ _ rfl)
    clear_value s1
    split
    · exact h1
    · exact h1.trans (DumpWork.modGch s1 n _ _ rfl)

theorem State.trackSums_work (s : State) (n : Nat) : DumpWork s (s.trackSums n) n (sumKeys n) := by
  unfold State.trackSums
  have hc := GnssChan.primary_dumped (s.gchAssign n) (s.gch n)
  rcases hq : (s.gch n).primary (s.gchAssign n) with ⟨c, code⟩
  rw [hq] at hc
  dsimp -zeta only at hc ⊢
  extract_lets s1
  have h1 : DumpWork s s1 n (sumKeys n) := DumpWork.modGch s n _ _ hc
  clear_value s1
  rcases code with - | ⟨x, len⟩
  · exact h1
  · have h2 := s1.trackPrimary_work n x len
    dsimp only
    rcases hq : s1.trackPrimary n x len with ⟨s2, - | ⟨y, m⟩⟩ <;> rw [hq] at h2
    · exact h1.trans h2
    · exact (h1.trans h2).trans (s2.trackCombined_work n y m)

/-! ### The dump (R291, R293, R294) -/

theorem State.setGch_work (s : State) (n st : Nat) : DumpWork s (s.setGch n st) n (dumpKeys n) :=
  (DumpWork.setN s n (r := Obj.gnss_ch_state) (by simp) _).trans (DumpWork.modGch _ n _ _ rfl)

theorem State.coast_work (s : State) (n : Nat) : DumpWork s (s.coast n) n (dumpKeys n) := by
  unfold State.coast
  extract_lets st pred
  split
  · exact (s.setGch_work n 5).trans (DumpWork.modGch _ n _ _ rfl)
  · exact DumpWork.refl s n _

theorem State.coastRates_work (s : State) (n : Nat) : DumpWork s (s.coastRates n) n (dumpKeys n) := by
  unfold State.coastRates
  extract_lets a pred
  split
  · exact DumpWork.modGch s n _ _ rfl
  · exact DumpWork.refl s n _

theorem State.trackMoves_work (s : State) (n : Nat) : DumpWork s (s.trackMoves n) n (dumpKeys n) := by
  unfold State.trackMoves
  extract_lets c lost
  split
  · split
    · exact s.setGch_work n _
    · exact DumpWork.refl s n _
  · split
    · exact s.coast_work n
    · split
      · exact s.setGch_work n 4
      · exact DumpWork.refl s n _
  · split
    · exact s.coast_work n
    · exact DumpWork.refl s n _
  · exact DumpWork.refl s n _

theorem State.addNoise_work (s : State) (n a : Nat) (c : GnssChan) : DumpWork s (s.addNoise a c) n (dumpKeys n) := by
  unfold State.addNoise
  split
  · exact DumpWork.refl s n _
  · exact DumpWork.modGnss s n _ _ ⟨_, _, _, _, rfl⟩

theorem GnssChan.bocCheck_dumped (c : GnssChan) (now : Nat) : (c.bocCheck now).dumped = c.dumped := by
  unfold GnssChan.bocCheck
  extract_lets add c4 c1 c2
  have h2 : c2.dumped = c.dumped := by
    simp only [c2]
    split <;> rfl
  split
  · exact h2
  · exact h2

theorem State.trackDump_work (s : State) (n : Nat) : DumpWork s (s.trackDump n) n (dumpKeys n) := by
  unfold State.trackDump
  extract_lets a s1 s2 now s3 slipping s4 s5
  have h1 : DumpWork s s1 n (dumpKeys n) := s.addNoise_work n a _
  clear_value s1
  have h2 : DumpWork s s2 n (dumpKeys n) := by
    simp only [s2]
    split
    · exact (h1.trans (DumpWork.modGch s1 n _ _ (GnssChan.bocCheck_dumped _ _))).trans ((State.trackSums_work _ n).mono (sumKeys_subset_dumpKeys n))
    · exact h1.trans ((s1.trackSums_work n).mono (sumKeys_subset_dumpKeys n))
  clear_value s2
  have h3 : DumpWork s s3 n (dumpKeys n) := h2.trans (DumpWork.modGch s2 n _ _ rfl)
  have h4 : DumpWork s s4 n (dumpKeys n) :=
    (h3.trans ((s3.setFlag_work n 7 _).mono (sumKeys_subset_dumpKeys n))).trans ((State.setFlag_work _ n 5 _).mono (sumKeys_subset_dumpKeys n))
  have h5 : DumpWork s s5 n (dumpKeys n) := by
    simp only [s5]
    split
    · exact h4.trans (DumpWork.setN s4 n (r := Obj.gnss_ch_elev) (by simp) _)
    · exact h4
  exact h5.trans (s5.trackMoves_work n)

end Sys2Proof.Machine

/-! SUPPORT. The front end, the groups' dumps and the indicators (R281, R282, R291, R294, R309, R310): the obligation. -/
namespace Sys2Proof.Machine

/-! ### Conditions begin and end (R509) -/

/-- A condition begins: its source is raised and marked. -/
theorem State.condBegin_taken (s : State) (n : Nat) (i : FaultInfo) (hc : (vat s.win.srcs n {}).cond = false) (h : CanRaise s n) :
    Raised s (s.condBegin n i) n i ∧ (vat (s.condBegin n i).win.srcs n {}).cond = true ∧ SameDict s (s.condBegin n i) [srcKey n] ∧
      ∃ w v, s.condBegin n i = { s with win := w, dict := { s.dict with val := v } } := by
  have hn : n < 320 := h.1
  have he : s.condBegin n i = (s.modSrc n fun r => { r with cond := true, active := true }).raise n i := if_neg (by simp [hc])
  have hs (m : Nat) (hm : m ≠ n) : vat (s.modSrc n fun r => { r with cond := true, active := true }).win.srcs m {} = vat s.win.srcs m {} :=
    vat_vmod_other _ _ _ hm
  have hself : (vat (s.modSrc n fun r => { r with cond := true, active := true }).win.srcs n {}).cond = true := by
    rw [show vat (s.modSrc n fun r => { r with cond := true, active := true }).win.srcs n {} = _ from vat_vmod_same _ _ _ _ hn]
  have hf : ∃ w, (s.modSrc n fun r => { r with cond := true, active := true }) = { s with win := { s.win with srcs := w } } := ⟨_, rfl⟩
  rw [he]
  generalize (s.modSrc n fun r => { r with cond := true, active := true }) = u at *
  obtain ⟨w, rfl⟩ := hf
  obtain ⟨⟨h1, h2, h3, h4⟩, h5, -⟩ := State.raise_taken { s with win := { s.win with srcs := w } } n i h
  have hrf := State.raise_frame { s with win := { s.win with srcs := w } } n i
  have hcond : (vat (State.raise { s with win := { s.win with srcs := w } } n i).win.srcs n {}).cond = true := by
    obtain ⟨k0, k1, k2, k3, k4⟩ := h
    have hb : (decide (n < 168) && decide (32 ≤ n)) = false := by
      rcases k1 with k | k
      · simp; omega
      · simp; omega
    unfold State.raise
    simp only [hb, k2, k3, k4, Bool.false_and, Bool.or_self, Bool.false_eq_true, if_false]
    unfold State.markRaised State.modSrc State.srcBits
    dsimp only
    rw [vat_vmod_same _ _ _ _ k0]
    exact hself
  generalize State.raise { s with win := { s.win with srcs := w } } n i = v at *
  obtain ⟨w', dv, rfl⟩ : ∃ w' dv, v = { s with win := w', dict := { s.dict with val := dv } } := ⟨_, _, hrf⟩
  exact ⟨⟨h1, h2, h3, fun m hm => (h4 m hm).trans (hs m hm)⟩, hcond, h5, _, _, rfl⟩

theorem State.condEnd_spec (s : State) (n : Nat) (hn : n < 320) :
    (vat (s.condEnd n).win.srcs n {}).active = false ∧ (vat (s.condEnd n).win.srcs n {}).cond = false ∧
      (∀ m, m ≠ n → vat (s.condEnd n).win.srcs m {} = vat s.win.srcs m {}) ∧ ∃ w, s.condEnd n = { s with win := { s.win with srcs := w } } := by
  have h : vat (s.condEnd n).win.srcs n {} = _ := vat_vmod_same _ _ _ _ hn
  exact ⟨by rw [h], by rw [h], fun m hm => vat_vmod_other _ _ _ hm, _, rfl⟩

/-! ### The AGC (R281) -/

theorem gnssAgcEff_due (s : State) (b : Nat) (code : Byte) (hon : s.gnssOn = true)
    (hd : (match (s.gband b).agcAt with | some c => s.passed c 100000000 | none => true) = true) :
    gnssAgcEff b code s =
      match s.effN Obj.gnss_agc_mode with
      | 1 => (((s.modGband b fun y => { y with agcAt := some s.tc.cyc, squares := (0, 0) }).modGnss fun g =>
          { g with agcLast := vmod g.agcLast b fun _ => slice (s.effB Obj.gnss_agc_cmd) (2 + b) 1 }).setN Obj.gnss_agc_gain (code.toNat : Nat) b)
      | 2 =>
        if agcStep (s.effN Obj.gnss_agc_target) (s.valN Obj.gnss_agc_gain b) (s.gband b).squares = s.valN Obj.gnss_agc_gain b then
          s.modGband b fun y => { y with agcAt := some s.tc.cyc, squares := (0, 0) }
        else ((s.modGband b fun y => { y with agcAt := some s.tc.cyc, squares := (0, 0) }).modGnss fun g =>
          { g with agcLast := vmod g.agcLast b fun _ => slice (s.effB Obj.gnss_agc_cmd) b 1 ++
            beBytes 1 (agcStep (s.effN Obj.gnss_agc_target) (s.valN Obj.gnss_agc_gain b) (s.gband b).squares) }).setN Obj.gnss_agc_gain
            (agcStep (s.effN Obj.gnss_agc_target) (s.valN Obj.gnss_agc_gain b) (s.gband b).squares) b
      | _ => s.modGband b fun y => { y with agcAt := some s.tc.cyc, squares := (0, 0) } := by
  have hdue : (!s.gnssOn || !(match (s.gband b).agcAt with | some c => s.passed c (100 * oneMs) | none => true)) = false := by
    rw [hon]
    simp only [Bool.not_true, Bool.false_or, Bool.not_eq_false']
    exact hd
  unfold gnssAgcEff
  dsimp only
  rw [if_neg (by rw [Bool.not_eq_true]; exact hdue)]
  rfl

/-- What the AGC leaves where it sends the command `m` and shows the gain `g`. -/
theorem State.agcSent_spec (s : State) (b : Nat) (hb : b < 2) (m : Bytes) (g : Nat) :
    let t := ((s.modGband b fun y => { y with agcAt := some s.tc.cyc, squares := (0, 0) }).modGnss fun x =>
      { x with agcLast := vmod x.agcLast b fun _ => m }).setN Obj.gnss_agc_gain (g : Int) b
    t.valN Obj.gnss_agc_gain b = g ∧ t.gband b = { s.gband b with agcAt := some s.tc.cyc, squares := (0, 0) } ∧ vat t.gnss.agcLast b [] = m ∧
      (∀ m : Nat, m ≠ b → vat t.gnss.agcLast m [] = vat s.gnss.agcLast m []) ∧
      t.gnss = { s.gnss with bands := t.gnss.bands, agcLast := t.gnss.agcLast } ∧ (∀ m : Nat, m ≠ b → t.gband m = s.gband m) ∧
      t = { s with gnss := t.gnss, dict := t.dict } ∧ SameDict s t [Obj.gnss_agc_gain.key b 0] :=
  ⟨State.valN_setN _ _ g b 0, s.modGband_gband b _ hb, vat_vmod_same _ _ _ _ hb, fun _ hm => vat_vmod_other _ _ _ hm, rfl,
    fun m hm => s.modGband_gband_other b m _ hm, rfl, SameDict.setN _ _ _ _ _⟩

theorem agcStep_down (target g : Nat) (x : Nat × Nat) (h : 8 * x.2 * (11 * target) ^ 2 < 10000 * x.1) : agcStep target g x = g - 1 := if_pos h

theorem agcStep_up (target g : Nat) (x : Nat × Nat) (h : 10000 * x.1 < 8 * x.2 * (9 * target) ^ 2) (hg : g < 255) : agcStep target g x = g + 1 := by
  have hle : 8 * x.2 * (9 * target) ^ 2 ≤ 8 * x.2 * (11 * target) ^ 2 := Nat.mul_le_mul_left _ (Nat.pow_le_pow_left (by omega) 2)
  unfold agcStep
  rw [if_neg (by omega), if_pos h]
  omega

/-! ### Channels, one at a time -/

/-- What the front end reads of channel `n`. -/
def State.gchShown (s : State) (n : Nat) : GnssChan × Nat := (s.gch n, s.gchState n)

theorem gnss_ch_state_key_ne (m n : Nat) (h : m ≠ n) : Obj.gnss_ch_state.key m 0 ∉ [Obj.gnss_ch_state.key n 0] := by
  simp only [List.mem_singleton, Row.key, Obj.gnss_ch_state]
  omega

theorem State.coast_mod (s : State) (n : Nat) : GchMod s (s.coast n) n [Obj.gnss_ch_state.key n 0] := by
  unfold State.coast
  extract_lets st pred
  split
  · exact (s.setGch_mod n 5).modGch _
  · exact GchMod.refl s n _

theorem State.coast_enters (s : State) (n : Nat) (hn : n < 128) (h : s.gchState n = 2 ∨ s.gchState n = 3 ∨ s.gchState n = 4) :
    (s.coast n).gchState n = 5 ∧ ((s.coast n).gch n).before = s.gchState n := by
  unfold State.coast
  extract_lets st pred
  rw [if_pos (by simpa [st, or_assoc] using h)]
  refine ⟨s.setGch_gchState n 5, ?_⟩
  rw [State.modGch_gch _ n _ hn]

theorem State.coast_stays (s : State) (n : Nat) (h : s.gchState n ≠ 2 ∧ s.gchState n ≠ 3 ∧ s.gchState n ≠ 4) : s.coast n = s := by
  unfold State.coast
  extract_lets st pred
  exact if_neg (by simpa [st, not_or, and_assoc] using h)

/-- The channels of a list coast (R282). -/
theorem State.each_coast (s : State) (l : List Nat) (hl : l.Nodup) (hb : ∀ n ∈ l, n < 128) (ks : List Nat) (hk : ∀ n ∈ l, Obj.gnss_ch_state.key n 0 ∈ ks) :
    (∃ di ch, s.each l State.coast = { s with dict := di, gnss := { s.gnss with chans := ch } }) ∧ SameDict s (s.each l State.coast) ks ∧
      (∀ m, m ∉ l ∨ (s.gchState m ≠ 2 ∧ s.gchState m ≠ 3 ∧ s.gchState m ≠ 4) →
        (s.each l State.coast).gchState m = s.gchState m ∧ (s.each l State.coast).gch m = s.gch m) ∧
      ∀ m, m ∈ l → s.gchState m = 2 ∨ s.gchState m = 3 ∨ s.gchState m = 4 → (s.each l State.coast).gchState m = 5 := by
  have hP (u : State) (c m : Nat) (hm : m ≠ c) : (u.coast c).gchShown m = u.gchShown m := by
    obtain ⟨⟨di, ch, hf⟩, ho, hd⟩ := u.coast_mod c
    exact Prod.ext (ho m hm) (hd.valN_eq (by rw [hf]) (gnss_ch_state_key_ne m c hm))
  obtain ⟨⟨h1, h2⟩, h3, h4⟩ := State.each_local State.gchShown
    (fun u v => (∃ di ch, v = { u with dict := di, gnss := { u.gnss with chans := ch } }) ∧ SameDict u v ks)
    (fun u => ⟨⟨u.dict, u.gnss.chans, rfl⟩, SameDict.refl u ks⟩)
    (fun u v w h h' => by
      obtain ⟨⟨di, ch, hf⟩, hd⟩ := h
      obtain ⟨⟨di', ch', hf'⟩, hd'⟩ := h'
      exact ⟨⟨di', ch', by rw [hf', hf]⟩, (SameDict.trans hd hd').mono (by simp)⟩)
    State.coast l (fun u c hc => ⟨(u.coast_mod c).frame, (u.coast_mod c).dict.mono fun k hkc => by rw [List.mem_singleton.mp hkc]; exact hk c hc⟩)
    (fun u c _ m hm => hP u c m hm) s hl
  generalize s.each l State.coast = t at *
  refine ⟨h1, h2, fun m hm => ?_, fun m hm hst => ?_⟩
  · by_cases hml : m ∈ l
    · obtain ⟨u, -, hus, ht⟩ := h4 m hml
      rw [State.gchShown, State.gchShown, Prod.mk.injEq] at hus
      rw [u.coast_stays m (by rw [hus.2]; exact hm.resolve_left (not_not.mpr hml)), State.gchShown, State.gchShown, Prod.mk.injEq] at ht
      exact ⟨ht.2.trans hus.2, ht.1.trans hus.1⟩
    · have := h3 m hml
      rw [State.gchShown, State.gchShown, Prod.mk.injEq] at this
      exact ⟨this.2, this.1⟩
  · obtain ⟨u, -, hus, ht⟩ := h4 m hm
    rw [State.gchShown, State.gchShown, Prod.mk.injEq] at hus ht
    exact ht.2.trans (u.coast_enters m (hb m hm) (by rw [hus.2]; exact hst)).1

/-! ### The dumps of a group (R291) -/

theorem gnss_ch_state_not_mem_sumKeys (m n : Nat) : Obj.gnss_ch_state.key m 0 ∉ sumKeys n := by
  simp only [sumKeys, List.mem_cons, List.not_mem_nil, or_false, not_or, Row.key, Obj.gnss_ch_state, Obj.gnss_ch_cn0, Obj.gnss_ch_flags,
    Obj.gnss_utc_valid, Obj.gnss_utc_offset, Obj.gnss_leap_pending, Obj.gnss_leap_time]
  omega

theorem gnss_ch_state_not_mem_dumpKeys (m n : Nat) (h : m ≠ n) : Obj.gnss_ch_state.key m 0 ∉ dumpKeys n := by
  have h1 := gnss_ch_state_not_mem_sumKeys m n
  have h2 : Obj.gnss_ch_state.key m 0 ∉ [Obj.gnss_ch_elev.key n 0, Obj.gnss_ch_state.key n 0] := by
    simp only [List.mem_cons, List.not_mem_nil, or_false, not_or, Row.key, Obj.gnss_ch_state, Obj.gnss_ch_elev]
    omega
  rw [dumpKeys, List.mem_append, not_or]
  exact ⟨h2, h1⟩

theorem State.dumpOne_idle (s : State) (n : Nat) (h : (s.gch n).dumped = false ∨ s.gchState n < 2 ∨ 5 < s.gchState n) : s.dumpOne n = s := by
  unfold State.dumpOne
  dsimp only
  refine if_pos ?_
  rcases h with h | h | h <;> simp [h]

/-- The dump is taken, and channel `n`'s loops work on it. -/
theorem State.dumpOne_taken (s : State) (n : Nat) (h1 : (s.gch n).dumped = true) (h2 : 2 ≤ s.gchState n) (h5 : s.gchState n ≤ 5) :
    DumpWork (s.modGch n fun c => { c with dumped := false }) (s.dumpOne n) n (dumpKeys n) := by
  unfold State.dumpOne
  extract_lets st c s1 sg s2
  rw [if_neg (by simp [st, c, h1, Nat.not_lt.mpr h2, Nat.not_lt.mpr h5])]
  have hw : DumpWork s1 s2 n (dumpKeys n) := by
    simp only [s2]
    split
    · have hs : DumpWork s1 sg n (dumpKeys n) := (((s1.setFlag_work n 6 true).trans
        (DumpWork.modGch _ n _ (fun c => { c with spoilt := true }) rfl)).trans (State.trackSums_work _ n)).mono (sumKeys_subset_dumpKeys n)
      split
      · exact hs.trans (State.coast_work _ n)
      · exact hs
    · exact ((s1.setFlag_work n 6 false).mono (sumKeys_subset_dumpKeys n)).trans (State.trackDump_work _ n)
  split
  · exact hw.trans (s2.coastRates_work n)
  · exact hw

/-- A gap above 1 ms: the channel coasts. -/
theorem State.dumpOne_gap (s : State) (n : Nat) (hn : n < 128) (h1 : (s.gch n).dumped = true) (h2 : 2 ≤ s.gchState n) (h4 : s.gchState n ≤ 4)
    (hg : 1000000 < (s.gch n).sumsGap.getD 0) : (s.dumpOne n).gchState n = 5 ∧ ((s.dumpOne n).gch n).before = s.gchState n := by
  unfold State.dumpOne
  extract_lets st c s1 sg s2
  rw [if_neg (by simp [st, c, h1, Nat.not_lt.mpr h2]; omega)]
  obtain ⟨ns, hns⟩ : ∃ ns, c.sumsGap = some ns := by
    cases h : c.sumsGap with
    | none => rw [show (s.gch n).sumsGap = none from h] at hg; simp at hg
    | some ns => exact ⟨ns, rfl⟩
  have hlt : oneMs < ns := by rw [show (s.gch n).sumsGap = some ns from hns] at hg; exact hg
  have hw : DumpWork s1 sg n (sumKeys n) := ((s1.setFlag_work n 6 true).trans (DumpWork.modGch _ n _ (fun c => { c with spoilt := true }) rfl)).trans (State.trackSums_work _ n)
  have hs2 : s2 = sg.coast n := by
    simp only [s2, hns, if_pos hlt]
  have hst : sg.gchState n = s.gchState n := by
    obtain ⟨⟨di, ch, bd, us, ep, al, hf⟩, -, -, hd⟩ := hw
    exact hd.valN_eq (by rw [hf]) (gnss_ch_state_not_mem_sumKeys n n)
  obtain ⟨k1, k2⟩ := sg.coast_enters n hn (by omega)
  rw [← hs2, hst] at k2
  rw [← hs2] at k1
  rw [if_pos k1]
  unfold State.coastRates
  extract_lets a pred
  split
  · refine ⟨k1, ?_⟩
    rw [State.modGch_gch _ n _ hn]
    exact k2
  · exact ⟨k1, k2⟩

end Sys2Proof.Machine

/-! SUPPORT. The front end, the groups' dumps and the indicators: the obligation. -/
namespace Sys2Proof.Machine

/-! ### A group dumps (R291) -/

/-- What the dumps of a list of channels leave. -/
theorem State.each_dumpOne (s : State) (l : List Nat) (hl : l.Nodup) (hb : ∀ n ∈ l, n < 128) (ks : List Nat) (hk : ∀ n ∈ l, ∀ k ∈ dumpKeys n, k ∈ ks) :
    (∃ di ch bd us ep al, s.each l State.dumpOne =
        { s with dict := di, gnss := { s.gnss with chans := ch, bands := bd, utcSeen := us, eph := ep, alm := al } }) ∧
      SameDict s (s.each l State.dumpOne) ks ∧
      (∀ m, m ∉ l ∨ (s.gch m).dumped = false ∨ s.gchState m < 2 ∨ 5 < s.gchState m →
        (s.each l State.dumpOne).gch m = s.gch m ∧ (s.each l State.dumpOne).gchState m = s.gchState m) ∧
      (∀ m, m ∈ l → 2 ≤ s.gchState m → s.gchState m ≤ 5 → ((s.each l State.dumpOne).gch m).dumped = false) ∧
      ∀ m, m ∈ l → (s.gch m).dumped = true → 2 ≤ s.gchState m → s.gchState m ≤ 4 → 1000000 < (s.gch m).sumsGap.getD 0 →
        (s.each l State.dumpOne).gchState m = 5 ∧ ((s.each l State.dumpOne).gch m).before = s.gchState m := by
  have hwork (u : State) (c : Nat) : DumpWork u (u.dumpOne c) c (dumpKeys c) ∨
      DumpWork (u.modGch c fun x => { x with dumped := false }) (u.dumpOne c) c (dumpKeys c) := by
    by_cases h : (u.gch c).dumped = false ∨ u.gchState c < 2 ∨ 5 < u.gchState c
    · exact .inl (by rw [u.dumpOne_idle c h]; exact DumpWork.refl u c _)
    · simp only [not_or, Bool.not_eq_false, Nat.not_lt] at h
      exact .inr (u.dumpOne_taken c h.1 h.2.1 h.2.2)
  have hframe (u : State) (c : Nat) : (∃ di ch bd us ep al, u.dumpOne c =
      { u with dict := di, gnss := { u.gnss with chans := ch, bands := bd, utcSeen := us, eph := ep, alm := al } }) ∧
      SameDict u (u.dumpOne c) (dumpKeys c) ∧ ∀ m, m ≠ c → (u.dumpOne c).gch m = u.gch m := by
    rcases hwork u c with ⟨hf, ho, -, hd⟩ | ⟨⟨di, ch, bd, us, ep, al, hf⟩, ho, -, hd⟩
    · exact ⟨hf, hd, ho⟩
    · exact ⟨⟨di, ch, bd, us, ep, al, hf⟩, hd, fun m hm => (ho m hm).trans (u.modGch_gch_other c m _ hm)⟩
  have hP (u : State) (c m : Nat) (hm : m ≠ c) : (u.dumpOne c).gchShown m = u.gchShown m := by
    obtain ⟨⟨di, ch, bd, us, ep, al, hf⟩, hd, ho⟩ := hframe u c
    exact Prod.ext (ho m hm) (hd.valN_eq (by rw [hf]) (gnss_ch_state_not_mem_dumpKeys m c hm))
  obtain ⟨⟨h1, h2⟩, h3, h4⟩ := State.each_local State.gchShown
    (fun u v => (∃ di ch bd us ep al, v =
      { u with dict := di, gnss := { u.gnss with chans := ch, bands := bd, utcSeen := us, eph := ep, alm := al } }) ∧ SameDict u v ks)
    (fun u => ⟨⟨u.dict, u.gnss.chans, u.gnss.bands, u.gnss.utcSeen, u.gnss.eph, u.gnss.alm, rfl⟩, SameDict.refl u ks⟩)
    (fun u v w h h' => by
      obtain ⟨⟨di, ch, bd, us, ep, al, hf⟩, hd⟩ := h
      obtain ⟨⟨di', ch', bd', us', ep', al', hf'⟩, hd'⟩ := h'
      exact ⟨⟨di', ch', bd', us', ep', al', by rw [hf', hf]⟩, (SameDict.trans hd hd').mono (by simp)⟩)
    State.dumpOne l (fun u c hc => ⟨(hframe u c).1, (hframe u c).2.1.mono (hk c hc)⟩) (fun u c _ m hm => hP u c m hm) s hl
  generalize s.each l State.dumpOne = t at *
  have hat (m : Nat) (hm : m ∈ l) : ∃ u : State, u.gch m = s.gch m ∧ u.gchState m = s.gchState m ∧ t.gch m = (u.dumpOne m).gch m ∧
      t.gchState m = (u.dumpOne m).gchState m := by
    obtain ⟨u, -, hus, ht⟩ := h4 m hm
    rw [State.gchShown, State.gchShown, Prod.mk.injEq] at hus ht
    exact ⟨u, hus.1, hus.2, ht.1, ht.2⟩
  refine ⟨h1, h2, fun m hm => ?_, fun m hm hlo hhi => ?_, fun m hm hd hlo hhi hg => ?_⟩
  · by_cases hml : m ∈ l
    · obtain ⟨u, hu1, hu2, ht1, ht2⟩ := hat m hml
      rw [u.dumpOne_idle m (by rw [hu1, hu2]; exact hm.resolve_left (not_not.mpr hml))] at ht1 ht2
      exact ⟨ht1.trans hu1, ht2.trans hu2⟩
    · have := h3 m hml
      rwa [State.gchShown, State.gchShown, Prod.mk.injEq] at this
  · obtain ⟨u, hu1, hu2, ht1, -⟩ := hat m hm
    rw [ht1]
    cases hd : (u.gch m).dumped with
    | false => rw [u.dumpOne_idle m (.inl hd)]; exact hd
    | true =>
      have := (u.dumpOne_taken m hd (by rw [hu2]; exact hlo) (by rw [hu2]; exact hhi)).dumped
      rw [this, u.modGch_gch m _ (hb m hm)]
  · obtain ⟨u, hu1, hu2, ht1, ht2⟩ := hat m hm
    rw [ht1, ht2, ← hu2]
    exact u.dumpOne_gap m (hb m hm) (by rw [hu1]; exact hd) (by rw [hu2]; exact hlo) (by rw [hu2]; exact hhi) (by rw [hu1]; exact hg)

/-! ### The indicators (R309, R310) -/

/-- A time jump alone: what the indicators show and raise. -/
theorem gnssIndicatorsEff_jump (s : State) (hon : s.gnssOn = true) (hsec : s.gnss.indSec ≠ some s.tc.tickSec) (hj : s.gnss.jumpBad = true)
    (hp : s.gnss.badPos < 10) (hm : s.effN Obj.gnss_agc_mode = 0) (hn : ((List.range 2).all fun b => (s.gband b).noiseHist.isEmpty) = true)
    (hl : ((List.range 128).all fun n => s.gchState n != 4) = true) (hi : s.valN Obj.gnss_indicators = 0) :
    gnssIndicatorsEff s =
      (((s.setN Obj.gnss_indicators 160).setN Obj.gnss_ind_history ((s.valN Obj.gnss_ind_history ||| 32 ||| 128 : Nat) : Int)).raise 249).modGnss fun g =>
        { g with indSec := some s.tc.tickSec, spoofClear := none, bands := g.bands.map fun y => { y with noise := (0, 0) } } := by
  have hlocked : ((List.range 128).filter fun n => s.gchState n == 4) = [] := by
    rw [List.filter_eq_nil_iff]
    intro n hn
    have := List.all_eq_true.mp hl n hn
    simpa using this
  have hnoise (b : Nat) (hb : b < 2) (v : Int) (k : Nat) : exceedsDb (s.gband b).noiseHist v k = false := by
    have := List.all_eq_true.mp hn b (List.mem_range.mpr hb)
    simp [List.isEmpty_iff.mp this, exceedsDb, gnssMedian2]
  have hhist : (s.setN Obj.gnss_indicators 160).valN Obj.gnss_ind_history = s.valN Obj.gnss_ind_history :=
    State.valN_setN_other _ _ _ _ _ _ _ _ (by decide)
  have htick (u : State) : (u.raise 249).tc = u.tc := by
    have h := congrArg State.tc (u.raise_frame 249 {})
    exact h
  unfold gnssIndicatorsEff
  rw [if_neg (by simp [hon, hsec])]
  extract_lets g gain mean agc noisy locked pw bit new old rises spoof held s1 s2 s3 s4 learn fresh
  have hagc (b : Nat) : agc b = false := by simp [agc, hm]
  have hnoisy (b : Nat) (hb : b < 2) : noisy b = false := by simp only [noisy, hnoise b hb, Bool.and_false]
  have hpw : pw = false := by simp [pw, locked, hlocked, powerBad]
  have hnew : new = 32 := by
    have h5 : g.jumpBad = true := hj
    have h6 : decide (10 ≤ g.badPos) = false := decide_eq_false (Nat.not_le.mpr hp)
    simp only [new, hagc, hnoisy 0 (by decide), hnoisy 1 (by decide), hpw, h5, h6]
    rfl
  have hrises : rises = 32 := by simp only [rises, old, hnew, hi]; rfl
  have hspoof : spoof = true := by simp only [spoof, hnew]; rfl
  have hheld : held = true := by simp only [held, hspoof, Bool.true_or]
  clear_value new rises spoof held
  subst hnew hrises hspoof hheld
  have h2 : s2 = (s.setN Obj.gnss_indicators 160).setN Obj.gnss_ind_history ((s.valN Obj.gnss_ind_history ||| 32 ||| 128 : Nat) : Int) := by
    rw [← hhist]; rfl
  have h3 : s3 = s2 := if_neg (by decide)
  have h4 : s4 = s2.raise 249 := by rw [← h3]; exact if_pos (by decide)
  clear_value s4
  subst h4
  rw [h2]
  generalize hq : State.raise _ 249 {} = q
  have hqtc : q.tc = s.tc := by rw [← hq]; exact htick _
  unfold State.modGnss
  rw [hqtc]
  rfl

/-! ### A band fails (R282) -/

/-- What the failure of band `b` leaves. -/
theorem gnssBandFailEff_spec (s : State) (b : Nat) (hb : b < 2) (hon : s.gnssOn = true) (hr : (vat s.outs 12 {}).running = true)
    (hbad : s.bandBad b = true) (hz : s.valN Obj.gnss_band_state b = 0) (hcond : (vat s.win.srcs (246 + b) {}).cond = false) (hc : CanRaise s (246 + b)) :
    let t := gnssBandFailEff b s
    t.valN Obj.gnss_band_state b = 1 ∧ t.win.now = s.win.now ++ [(246 + b, ({} : FaultInfo))] ∧ (vat t.win.srcs (246 + b) {}).active = true ∧
      (vat t.win.srcs (246 + b) {}).cond = true ∧ t.gband b = { s.gband b with failedAt := s.tc.cyc } ∧ (∀ m : Nat, m ≠ b → t.gband m = s.gband m) ∧
      (∀ n, n < 128 → asgBand (s.gchAssign n) = b ∧ (s.gchState n = 2 ∨ s.gchState n = 3 ∨ s.gchState n = 4) → t.gchState n = 5) ∧
      (∀ n, n < 128 → asgBand (s.gchAssign n) ≠ b ∨ (s.gchState n ≠ 2 ∧ s.gchState n ≠ 3 ∧ s.gchState n ≠ 4) →
        t.gchState n = s.gchState n ∧ t.gch n = s.gch n) ∧
      t.gnss = { s.gnss with bands := t.gnss.bands, chans := t.gnss.chans } ∧
      SameDict s t (Obj.gnss_band_state.key b 0 :: srcKey (246 + b) :: (List.range 128).map fun n => Obj.gnss_ch_state.key n 0) ∧
      t = { s with gnss := t.gnss, win := t.win, dict := t.dict } := by
  have heq : gnssBandFailEff b s = (((s.modGband b fun y => { y with failedAt := s.tc.cyc }).setN Obj.gnss_band_state 1 b).condBegin (246 + b)).each
      ((List.range 128).filter fun n =>
        asgBand ((((s.modGband b fun y => { y with failedAt := s.tc.cyc }).setN Obj.gnss_band_state 1 b).condBegin (246 + b)).gchAssign n) == b)
      State.coast := if_pos (by simp [hon, hr, hbad, hz])
  have hd0 : SameDict s ((s.modGband b fun y => { y with failedAt := s.tc.cyc }).setN Obj.gnss_band_state 1 b) [Obj.gnss_band_state.key b 0] :=
    SameDict.setN (s.modGband b fun y => { y with failedAt := s.tc.cyc }) _ 1 b 0
  have hv0 : ((s.modGband b fun y => { y with failedAt := s.tc.cyc }).setN Obj.gnss_band_state 1 b).valN Obj.gnss_band_state b = 1 :=
    State.valN_setN _ _ 1 b 0
  have hgb := s.modGband_gband b (fun y => { y with failedAt := s.tc.cyc }) hb
  have hgo := fun m hm => s.modGband_gband_other b m (fun y => { y with failedAt := s.tc.cyc }) hm
  obtain ⟨⟨-, k1, k2, -⟩, k3, k4, w, v, k5⟩ :=
    ((s.modGband b fun y => { y with failedAt := s.tc.cyc }).setN Obj.gnss_band_state 1 b).condBegin_taken (246 + b) {} hcond hc
  have hf0 : ∃ di bd, (s.modGband b fun y => { y with failedAt := s.tc.cyc }).setN Obj.gnss_band_state 1 b =
      { s with dict := di, gnss := { s.gnss with bands := bd } } := ⟨_, _, rfl⟩
  have hband (m : Nat) : ((s.modGband b fun y => { y with failedAt := s.tc.cyc }).setN Obj.gnss_band_state 1 b).gband m =
      (s.modGband b fun y => { y with failedAt := s.tc.cyc }).gband m := rfl
  simp only [← hband] at hgb hgo
  generalize (s.modGband b fun y => { y with failedAt := s.tc.cyc }).setN Obj.gnss_band_state 1 b = a at *
  have hub (m : Nat) : (a.condBegin (246 + b)).gband m = a.gband m := by rw [k5]; rfl
  have huc (m : Nat) : (a.condBegin (246 + b)).gch m = s.gch m := by
    obtain ⟨di, bd, rfl⟩ := hf0
    rw [k5]; rfl
  have hud := SameDict.trans hd0 k4
  have huv : (a.condBegin (246 + b)).valN Obj.gnss_band_state b = 1 := by
    rw [k4.valN_eq (by rw [k5]) (by simp [srcKey, Row.key, Obj.gnss_band_state, Obj.win_src_state]; omega)]
    exact hv0
  have huf : ∃ di bd wi, a.condBegin (246 + b) = { s with dict := di, win := wi, gnss := { s.gnss with bands := bd } } := by
    obtain ⟨di, bd, rfl⟩ := hf0
    exact ⟨_, _, _, k5⟩
  have hwin : a.win = s.win := by
    obtain ⟨di, bd, rfl⟩ := hf0
    rfl
  rw [hwin] at k1
  generalize a.condBegin (246 + b) = u at *
  have hdev : u.dev = s.dev := by
    obtain ⟨di, bd, wi, rfl⟩ := huf
    rfl
  have hst (n : Nat) : u.gchState n = s.gchState n :=
    hud.valN_eq hdev (by simp [srcKey, Row.key, Obj.gnss_band_state, Obj.win_src_state, Obj.gnss_ch_state]; omega)
  have has (n : Nat) : u.gchAssign n = s.gchAssign n :=
    hud.valN_eq hdev (by simp [srcKey, Row.key, Obj.gnss_band_state, Obj.win_src_state, Obj.gnss_ch_assign]; omega)
  obtain ⟨⟨di, ch, hf⟩, h2, h3, h4⟩ := u.each_coast ((List.range 128).filter fun n => asgBand (u.gchAssign n) == b) (List.nodup_range.filter _)
    (fun n hn => List.mem_range.mp (List.mem_filter.mp hn).1) ((List.range 128).map fun n => Obj.gnss_ch_state.key n 0)
    (fun n hn => List.mem_map.mpr ⟨n, (List.mem_filter.mp hn).1, rfl⟩)
  rw [← heq] at h2 h3 h4 hf
  have hmem (n : Nat) (hn : n < 128) : n ∈ ((List.range 128).filter fun n => asgBand (u.gchAssign n) == b) ↔ asgBand (s.gchAssign n) = b := by
    simp [List.mem_filter, hn, has]
  intro t
  refine ⟨?_, ?_, ?_, ?_, ?_, fun m hm => ?_, fun n hn h => ?_, fun n hn h => ?_, ?_, ?_, ?_⟩
  · refine (h2.valN_eq (by rw [hf]) ?_).trans huv
    simp only [List.mem_map, not_exists, not_and, Row.key, Obj.gnss_ch_state, Obj.gnss_band_state]
    omega
  · show (gnssBandFailEff b s).win.now = _
    rw [hf]; exact k1
  · show (vat (gnssBandFailEff b s).win.srcs (246 + b) {}).active = _
    rw [hf]; exact k2
  · show (vat (gnssBandFailEff b s).win.srcs (246 + b) {}).cond = _
    rw [hf]; exact k3
  · show (gnssBandFailEff b s).gband b = _
    rw [hf]; exact (hub b).trans hgb
  · show (gnssBandFailEff b s).gband m = _
    rw [hf]; exact (hub m).trans (hgo m hm)
  · exact h4 n ((hmem n hn).mpr h.1) (by rw [hst]; exact h.2)
  · obtain ⟨q1, q2⟩ := h3 n (h.imp (fun h => by rw [hmem n hn]; exact h) fun h => by rw [hst]; exact h)
    exact ⟨q1.trans (hst n), q2.trans (huc n)⟩
  · show (gnssBandFailEff b s).gnss = { s.gnss with bands := (gnssBandFailEff b s).gnss.bands, chans := (gnssBandFailEff b s).gnss.chans }
    obtain ⟨di, bd, wi, rfl⟩ := huf
    rw [hf]
  · exact (SameDict.trans hud h2).mono fun k hk => by simpa [or_assoc] using hk
  · show gnssBandFailEff b s = { s with gnss := (gnssBandFailEff b s).gnss, win := (gnssBandFailEff b s).win, dict := (gnssBandFailEff b s).dict }
    obtain ⟨di, bd, wi, rfl⟩ := huf
    rw [hf]

theorem dumpKeys_subset_group (g n : Nat) (h : n / 16 = g) (k : Nat) (hk : k ∈ dumpKeys n) :
    k ∈ (List.range 16).flatMap (fun k => [Obj.gnss_ch_cn0.key (16 * g + k) 0, Obj.gnss_ch_elev.key (16 * g + k) 0,
      Obj.gnss_ch_flags.key (16 * g + k) 0, Obj.gnss_ch_state.key (16 * g + k) 0]) ++
      [Obj.gnss_utc_valid.key 0 0, Obj.gnss_utc_offset.key 0 0, Obj.gnss_leap_pending.key 0 0, Obj.gnss_leap_time.key 0 0] := by
  have hn : 16 * g + n % 16 = n := by omega
  have hin (r : Row) (hr : r.key n 0 ∈ [Obj.gnss_ch_cn0.key n 0, Obj.gnss_ch_elev.key n 0, Obj.gnss_ch_flags.key n 0, Obj.gnss_ch_state.key n 0]) :
      r.key n 0 ∈ (List.range 16).flatMap (fun k => [Obj.gnss_ch_cn0.key (16 * g + k) 0, Obj.gnss_ch_elev.key (16 * g + k) 0,
        Obj.gnss_ch_flags.key (16 * g + k) 0, Obj.gnss_ch_state.key (16 * g + k) 0]) :=
    List.mem_flatMap.mpr ⟨n % 16, List.mem_range.mpr (Nat.mod_lt _ (by decide)), by rw [hn]; exact hr⟩
  rw [List.mem_append]
  simp only [dumpKeys, sumKeys, List.cons_append, List.nil_append, List.mem_cons, List.not_mem_nil, or_false] at hk
  rcases hk with rfl | rfl | rfl | rfl | hk
  · exact .inl (hin _ (by simp))
  · exact .inl (hin _ (by simp))
  · exact .inl (hin _ (by simp))
  · exact .inl (hin _ (by simp))
  · exact .inr (by simpa using hk)

/-! ### The obligation -/

/-- Settles O33: each action of the front end by its branches, the dumps and the coasting channels one channel at a time. -/
theorem gnssFrontEndAndInterference : Obligations.GnssFrontEndAndInterference := by
  unfold Obligations.GnssFrontEndAndInterference
  refine ⟨fun s b x hon hd hm hlt hg => ?down, fun s b x hon hd hm hlt hg => ?up, fun s b x hon hd hm => ?front, fun s b x hon hd hm => ?off,
    fun s b x c hc hp => ⟨s, next_of_eq (if_pos ?soon), rfl⟩, fun s b hon hr hbad hz hcond hc => ?fails, fun s b h => ⟨s, next_of_eq (if_neg ?quiet), rfl⟩,
    fun s b h1 h2 h3 => ?ok, fun s b h => ⟨s, next_of_eq (if_neg ?notOk), rfl⟩, fun s g hon hr ht hd hg => ?dump,
    fun s g h => ⟨s, next_of_eq (if_neg ?noDump), rfl⟩, fun s hon hsec hj hp hm hn hl hi hc => ?indicators,
    fun s h => ⟨s, next_of_eq (if_pos (by simp [h])), rfl⟩, fun s h1 h2 => ?holdEnds, fun s h => ⟨s, next_of_eq (if_neg ?holds), rfl⟩⟩
  case down =>
    have heq := gnssAgcEff_due s b x hon hd
    rw [agcStep_down _ _ _ hlt] at heq
    simp only [hm] at heq
    rw [if_neg (by omega)] at heq
    exact ⟨_, next_of_eq heq, s.agcSent_spec b b.isLt _ _⟩
  case up =>
    have heq := gnssAgcEff_due s b x hon hd
    rw [agcStep_up _ _ _ hlt hg] at heq
    simp only [hm] at heq
    rw [if_neg (by omega)] at heq
    exact ⟨_, next_of_eq heq, s.agcSent_spec b b.isLt _ _⟩
  case front =>
    have heq := gnssAgcEff_due s b x hon hd
    simp only [hm] at heq
    exact ⟨_, next_of_eq heq, s.agcSent_spec b b.isLt _ _⟩
  case off =>
    have heq := gnssAgcEff_due s b x hon hd
    simp only [hm] at heq
    exact ⟨_, next_of_eq heq, s.modGband_gband b _ b.isLt, rfl, fun m hm => s.modGband_gband_other b m _ hm, rfl⟩
  case soon =>
    simp only [hc]
    rw [show s.passed c (100 * oneMs) = false from hp]
    simp
  case fails =>
    exact ⟨_, rfl, gnssBandFailEff_spec s b b.isLt hon hr hbad hz hcond hc⟩
  case quiet =>
    rcases h with h | h | h <;> simp [h]
  case ok =>
    have heq : gnssBandOkEff b s = (s.setN Obj.gnss_band_state 0 b).condEnd (246 + b) := if_pos (by rw [h2, oneSec, h3]; simp [h1])
    obtain ⟨k1, -, -, w, k4⟩ := (s.setN Obj.gnss_band_state 0 b).condEnd_spec (246 + b) (by omega)
    have hv : (s.setN Obj.gnss_band_state 0 b).valN Obj.gnss_band_state b = 0 := State.valN_setN s _ 0 b 0
    have hd := SameDict.setN s Obj.gnss_band_state 0 b 0
    generalize State.condEnd _ (246 + b.val) = u at *
    subst k4
    exact ⟨_, next_of_eq heq, hv, k1, rfl, hd⟩
  case notOk =>
    rcases h with h | h <;> simp [h]
  case dump =>
    have heq : correlatorDumpEff g s = (s.modGnss fun x => { x with dumpTick := vmod x.dumpTick g fun _ => s.tc.boundaries }).each
        ((List.range 16).map (16 * g.val + ·)) State.dumpOne :=
      if_pos (by simp [State.gnssWorks, hon, hr, ht, hd, hg])
    have hmem (n : Nat) : n ∈ (List.range 16).map (16 * g.val + ·) ↔ n / 16 = g.val := by
      simp only [List.mem_map, List.mem_range]
      exact ⟨fun ⟨k, hk, he⟩ => by omega, fun h => ⟨n % 16, by omega, by omega⟩⟩
    obtain ⟨⟨di, ch, bd, us, ep, al, hf⟩, h2, h3, h4, h5⟩ := State.each_dumpOne
      (s.modGnss fun x => { x with dumpTick := vmod x.dumpTick g fun _ => s.tc.boundaries }) ((List.range 16).map (16 * g.val + ·))
      (List.nodup_range.map fun a b h => by simpa using h) (fun n hn => by have := (hmem n).mp hn; omega)
      ((List.range 16).flatMap (fun k => [Obj.gnss_ch_cn0.key (16 * g.val + k) 0, Obj.gnss_ch_elev.key (16 * g.val + k) 0,
        Obj.gnss_ch_flags.key (16 * g.val + k) 0, Obj.gnss_ch_state.key (16 * g.val + k) 0]) ++
        [Obj.gnss_utc_valid.key 0 0, Obj.gnss_utc_offset.key 0 0, Obj.gnss_leap_pending.key 0 0, Obj.gnss_leap_time.key 0 0])
      (fun n hn k hk => dumpKeys_subset_group g n ((hmem n).mp hn) k hk)
    rw [← heq] at hf h2 h3 h4 h5
    have hdt : (correlatorDumpEff g s).gnss.dumpTick = vmod s.gnss.dumpTick g fun _ => s.tc.boundaries := by rw [hf]; rfl
    have hfr : correlatorDumpEff g s = { s with gnss := (correlatorDumpEff g s).gnss, dict := (correlatorDumpEff g s).dict } := by rw [hf]; rfl
    refine ⟨_, rfl, ?_, fun m hm => ?_, fun n _ h => h3 n (h.imp_left fun h => by rw [hmem]; exact h), fun n _ ⟨h, hlo, hhi⟩ => h4 n ((hmem n).mpr h) hlo hhi,
      fun n _ ⟨h, hdu, hlo, hhi, hgap⟩ => h5 n ((hmem n).mpr h) hdu hlo hhi hgap, h2, hfr⟩
    · exact (congrArg (fun v => vat v g.val 0) hdt).trans (vat_vmod_same _ _ _ _ g.isLt)
    · exact (congrArg (fun v => vat v m 0) hdt).trans (vat_vmod_other _ _ _ hm)
  case noDump =>
    rcases h with h | h | h <;> simp [h]
  case indicators =>
    have heq := gnssIndicatorsEff_jump s hon hsec hj hp hm hn hl hi
    have hd0 : SameDict s ((s.setN Obj.gnss_indicators 160).setN Obj.gnss_ind_history ((s.valN Obj.gnss_ind_history ||| 32 ||| 128 : Nat) : Int))
        [Obj.gnss_indicators.key 0 0, Obj.gnss_ind_history.key 0 0] :=
      ((SameDict.refl s _).putN (by simp) _).putN (by simp) _
    have hv0 : ((s.setN Obj.gnss_indicators 160).setN Obj.gnss_ind_history ((s.valN Obj.gnss_ind_history ||| 32 ||| 128 : Nat) : Int)).valN
        Obj.gnss_indicators = 160 := (State.valN_setN_other _ _ _ _ _ _ _ _ (by decide)).trans (State.valN_setN s Obj.gnss_indicators 160 0 0)
    have hf0 : ∃ di, (s.setN Obj.gnss_indicators 160).setN Obj.gnss_ind_history ((s.valN Obj.gnss_ind_history ||| 32 ||| 128 : Nat) : Int) =
        { s with dict := di } := ⟨_, rfl⟩
    generalize (s.setN Obj.gnss_indicators 160).setN Obj.gnss_ind_history _ = a at *
    obtain ⟨di, rfl⟩ := hf0
    obtain ⟨hr, hd, -⟩ := State.raise_taken { s with dict := di } 249 {} hc
    have hrf := State.raise_frame { s with dict := di } 249 {}
    generalize State.raise { s with dict := di } 249 {} = u at *
    have hv : u.valN Obj.gnss_indicators = 160 := (hd.valN_eq (by rw [hrf]) (by decide)).trans hv0
    obtain ⟨w, dv, rfl⟩ : ∃ w dv, u = { s with win := w, dict := dv } := ⟨_, _, hrf⟩
    exact ⟨_, next_of_eq heq, hv, hr, rfl, rfl, SameDict.trans hd0 hd⟩
  case holdEnds =>
    have heq : spoofHoldEndEff s = (s.setN Obj.gnss_indicators ((s.valN Obj.gnss_indicators - 128 : Nat) : Int)).modGnss fun g => { g with spoofClear := none } :=
      if_pos (by rw [h1]; exact h2)
    have hv := State.valN_setN s Obj.gnss_indicators (s.valN Obj.gnss_indicators - 128) 0 0
    generalize s.valN Obj.gnss_indicators - 128 = i at *
    exact ⟨_, next_of_eq heq, hv, rfl, rfl, SameDict.setN s _ _ 0 0⟩
  case holds =>
    rcases h with h | h <;> simp [h, State.passedO]

end Sys2Proof.Machine

/-! SUPPORT. The solution of an epoch (R296 to R303). -/
namespace Sys2Proof.Machine

/-! ### What forming a solution changes -/

/-- A key that forming a solution may write: a channel's flags or residual, or a system's bias. -/
def SolveKey (k : Nat) : Prop := ∃ n, k = Obj.gnss_ch_flags.key n 0 ∨ k = Obj.gnss_ch_residual.key n 0 ∨ (n < 4 ∧ k = Obj.gnss_sys_bias.key n 0)

/-- `t` differs from `s` by work on the solution of an epoch, which does not await publication yet. -/
structure SolveWork (s t : State) : Prop where
  frame : ∃ di g, t = { s with dict := di, gnss := g }
  gnss : ∃ ch lt jb bp po sa sm st, t.gnss = { s.gnss with chans := ch, lastTN := lt, jumpBad := jb, badPos := bp, pos := po, surveyAvg := sa, surveyMin := sm, surveyMinAt := st }
  dict : ∃ ks, (∀ k ∈ ks, SolveKey k) ∧ SameDict s t ks

theorem SolveWork.refl (s : State) : SolveWork s s :=
  ⟨⟨s.dict, s.gnss, rfl⟩, ⟨_, _, _, _, _, _, _, _, rfl⟩, [], fun _ h => absurd h List.not_mem_nil, SameDict.refl s []⟩

theorem SolveWork.trans {s t u : State} (h : SolveWork s t) (h' : SolveWork t u) : SolveWork s u := by
  obtain ⟨⟨di, g, hf⟩, ⟨ch, lt, jb, bp, po, sa, sm, st, hg⟩, ks, hk, hd⟩ := h
  obtain ⟨⟨di', g', hf'⟩, ⟨ch', lt', jb', bp', po', sa', sm', st', hg'⟩, ks', hk', hd'⟩ := h'
  refine ⟨⟨di', g', by rw [hf', hf]⟩, ⟨ch', lt', jb', bp', po', sa', sm', st', by rw [hg', hg]⟩, ks ++ ks', fun k hm => ?_, SameDict.trans hd hd'⟩
  exact (List.mem_append.mp hm).elim (hk k) (hk' k)

theorem SolveWork.setN (s : State) (r : Row) (n : Nat) (v : Int) (h : SolveKey (r.key n 0)) : SolveWork s (s.setN r v n) :=
  ⟨⟨_, s.gnss, rfl⟩, ⟨_, _, _, _, _, _, _, _, rfl⟩, _, fun k hk => by rw [List.mem_singleton.mp hk]; exact h, SameDict.setN s r v n 0⟩

theorem SolveWork.modGnss (s : State) (f : Gnss → Gnss) (h : ∃ ch lt jb bp po sa sm st, f s.gnss = { s.gnss with chans := ch, lastTN := lt, jumpBad := jb, badPos := bp, pos := po, surveyAvg := sa, surveyMin := sm, surveyMinAt := st }) :
    SolveWork s (s.modGnss f) := ⟨⟨s.dict, _, rfl⟩, h, [], fun _ h => absurd h List.not_mem_nil, SameDict.refl s []⟩

theorem SolveWork.each {α : Type} (F : State → α → State) (l : List α) (hF : ∀ u, ∀ a ∈ l, SolveWork u (F u a)) : ∀ s : State, SolveWork s (s.each l F) := by
  induction l with
  | nil => exact fun s => SolveWork.refl s
  | cons a l ih => exact fun s => (hF s a (.head l)).trans (ih (fun u b hb => hF u b (.tail a hb)) (F s a))

/-- An object that no solution writes reads as before. -/
theorem SolveWork.valN_eq {s t : State} (h : SolveWork s t) {r : Row} {i : Nat} (hk : ¬ SolveKey (r.key i 0)) : t.valN r i = s.valN r i := by
  obtain ⟨⟨di, g, hf⟩, -, ks, hks, hd⟩ := h
  exact hd.valN_eq (by rw [hf]) fun hm => hk (hks _ hm)

theorem SolveWork.effN_eq {s t : State} (h : SolveWork s t) (r : Row) (i : Nat) : t.effN r i = s.effN r i := by
  obtain ⟨⟨di, g, hf⟩, -, ks, hks, hd⟩ := h
  exact hd.effN_eq (by rw [hf]) r i 0

theorem gnss_survey_state_not_solveKey : ¬ SolveKey (Obj.gnss_survey_state.key 0 0) := by
  rintro ⟨n, h | h | ⟨hn, h⟩⟩ <;> simp only [Row.key, Obj.gnss_survey_state, Obj.gnss_ch_flags, Obj.gnss_ch_residual, Obj.gnss_sys_bias] at h <;> omega

theorem gnss_indicators_not_solveKey : ¬ SolveKey (Obj.gnss_indicators.key 0 0) := by
  rintro ⟨n, h | h | ⟨hn, h⟩⟩ <;> simp only [Row.key, Obj.gnss_indicators, Obj.gnss_ch_flags, Obj.gnss_ch_residual, Obj.gnss_sys_bias] at h <;> omega

theorem gnss_ch_state_not_solveKey (m : Nat) : ¬ SolveKey (Obj.gnss_ch_state.key m 0) := by
  rintro ⟨n, h | h | ⟨hn, h⟩⟩ <;> simp only [Row.key, Obj.gnss_ch_state, Obj.gnss_ch_flags, Obj.gnss_ch_residual, Obj.gnss_sys_bias] at h <;> omega

theorem SolveWork.gnssHold_eq {s t : State} (h : SolveWork s t) : t.gnssHold = s.gnssHold := by
  unfold State.gnssHold
  rw [h.effN_eq, h.valN_eq (r := Obj.gnss_survey_state) (gnss_survey_state_not_solveKey)]

theorem SolveWork.spoofed_eq {s t : State} (h : SolveWork s t) : t.spoofed = s.spoofed := by
  unfold State.spoofed
  rw [h.valN_eq (r := Obj.gnss_indicators) (gnss_indicators_not_solveKey)]

theorem SolveWork.gchState_eq {s t : State} (h : SolveWork s t) (n : Nat) : t.gchState n = s.gchState n :=
  h.valN_eq (gnss_ch_state_not_solveKey n)

/-! ### The steps of a solution -/

theorem State.smoothObs_work (s : State) (n : Nat) : SolveWork s (s.smoothObs n) :=
  ⟨⟨s.dict, _, rfl⟩, ⟨_, _, _, _, _, _, _, _, rfl⟩, [], fun _ h => absurd h List.not_mem_nil, SameDict.refl s []⟩

theorem State.setFlag_solve (s : State) (n bit : Nat) (on : Bool) : SolveWork s (s.setFlag n bit on) := SolveWork.setN s _ n _ ⟨n, .inl rfl⟩

theorem State.markUsed_work (s : State) (x : Config.Lsq) (used out : List GnssObs) : SolveWork s (s.markUsed x used out) := by
  unfold State.markUsed
  refine SolveWork.trans (SolveWork.each _ _ (fun u n _ => ?_) s) (SolveWork.each _ _ (fun u e _ => ?_) _)
  · exact (((u.setFlag_solve n 0 _).trans (State.setFlag_solve _ n 1 _)).trans (State.setFlag_solve _ n 2 _)).trans (State.setFlag_solve _ n 8 _)
  · exact SolveWork.setN u _ _ _ ⟨e.1.chan, .inr (.inl rfl)⟩

theorem State.putBiases_work (s : State) (x : Config.Lsq) (ref : Nat) (used : List GnssObs) : SolveWork s (s.putBiases x ref used) :=
  SolveWork.each _ _ (fun u y hy => SolveWork.setN u _ _ _ ⟨y - 1, .inr (.inr ⟨by
    simp only [List.mem_cons, List.not_mem_nil, or_false] at hy
    omega, rfl⟩)⟩) s

theorem State.surveyFix_work (s : State) (p : Int × Int × Int) : SolveWork s (s.surveyFix p) := by
  unfold State.surveyFix
  refine iteInduction (motive := SolveWork s) (fun _ => SolveWork.refl s) fun _ => ?_
  extract_lets g n mean avg
  refine iteInduction (motive := SolveWork s) (fun _ => ?_) fun _ => ?_
  · exact SolveWork.modGnss s _ ⟨_, _, _, _, _, _, _, _, rfl⟩
  · exact SolveWork.modGnss s _ ⟨_, _, _, _, _, _, _, _, rfl⟩

/-- What R302 and R303 say of the report `r` that is formed on `s`. -/
def State.GoodReport (s : State) (r : GnssReport) : Prop :=
  (s.gnssHold = true → r.kind = (if r.used = 1 then 3 else 2)) ∧ (s.gnssHold = false → r.kind = 1) ∧ r.target = s.gnss.epochM + 1 ∧
    s.effN Obj.gnss_min_sats ≤ r.used ∧ 1 ≤ r.used ∧ r.mark % (25 * 2 ^ 55) = 0 ∧ r.q = r.tN - r.mark ∧
    (r.target : Int) * secU - secU / 2 ≤ r.tN ∧ r.tN < (r.target : Int) * secU + secU / 2

/-- t_N is moved into the half second around its report (R303). -/
theorem chooseN_range (t n m : Int) : m * secU - secU / 2 ≤ (chooseN t n m).1 ∧ (chooseN t n m).1 < m * secU + secU / 2 := by
  have hp : (0 : Int) < secU := by decide
  have h2 : secU / 2 + secU / 2 = (secU : Int) := by decide
  unfold chooseN
  dsimp only
  generalize hk : t - (m * secU - secU / 2) = d
  have h1 := Int.emod_add_mul_ediv d secU
  have h3 := Int.emod_nonneg d (ne_of_gt hp)
  have h4 := Int.emod_lt_of_pos d hp
  generalize d / secU = q at *
  generalize d % secU = e at *
  generalize secU / 2 = h at *
  have h5 : q * secU = secU * q := Int.mul_comm _ _
  generalize (secU : Int) * q = a at *
  generalize q * secU = b at *
  generalize m * secU = c at *
  omega

theorem State.solutionReport_good (s : State) (ref : Nat) (at' : Option (Int × Int × Int)) (x : Config.Lsq) (used : List GnssObs) (ex : Bool)
    (h : s.formed ref at' x used = true) : s.GoodReport (s.solutionReport x used ex) := by
  unfold State.formed at h
  simp only [Bool.and_eq_true, decide_eq_true_eq] at h
  obtain ⟨⟨hmin, hun⟩, -⟩ := h
  have hone : 1 ≤ used.length := le_trans (by unfold unknownsOf; omega) hun
  have hr := chooseN_range (x.tN + s.gnss.epochStep) (x.second + taiOffset (s.effN Obj.gnss_ref_system)) ((s.gnss.epochM + 1 : Nat) : Int)
  unfold State.solutionReport
  rcases hc : chooseN (x.tN + s.gnss.epochStep) (x.second + taiOffset (s.effN Obj.gnss_ref_system)) ((s.gnss.epochM + 1 : Nat) : Int) with ⟨t, sec⟩
  rw [hc] at hr
  dsimp only at hr ⊢
  rw [hc]
  refine ⟨fun hh => ?_, fun hh => ?_, rfl, hmin, hone, ?_, rfl, hr.1, hr.2⟩
  · simp [hh]
  · simp [hh]
  · exact Int.mul_emod_left _ _

/-! ### The solution of an epoch (R301) -/

theorem SolveWork.goodReport {s t : State} (h : SolveWork s t) {r : GnssReport} (hr : t.GoodReport r) : s.GoodReport r := by
  have hh := h.gnssHold_eq
  have he := h.effN_eq Obj.gnss_min_sats 0
  obtain ⟨-, ⟨_, _, _, _, _, _, _, _, hg⟩, -⟩ := h
  have hm : t.gnss.epochM = s.gnss.epochM := by rw [hg]
  unfold State.GoodReport at *
  rw [hh, he, hm] at hr
  exact hr

/-- A solution forms on the epoch; a good report of it awaits publication, or none does. -/
theorem gnssSolutionEff_work (s : State) (h : s.solveReady = true) :
    ∃ u, SolveWork (s.modGnss fun g => { g with solved := true }) u ∧
      (gnssSolutionEff s = u ∨ s.spoofed = false ∧ ∃ r, s.GoodReport r ∧ gnssSolutionEff s = u.modGnss fun g => { g with pending := some r }) := by
  unfold gnssSolutionEff
  rw [if_neg (by simp [h])]
  obtain ⟨s1, hs1⟩ : ∃ s1, s1 = s.modGnss fun g => { g with solved := true } := ⟨_, rfl⟩
  have hgood (r : GnssReport) (h : s1.GoodReport r) : s.GoodReport r := by rw [hs1] at h; exact h
  have hspoof : s1.spoofed = s.spoofed := by rw [hs1]; rfl
  rw [← hs1]
  extract_lets s2 at' ref all
  have h2 : SolveWork s1 s2 := SolveWork.each _ _ (fun u n _ => u.smoothObs_work n) s1
  clear_value s2
  rcases s2.fde ref at' 128 all [] with ⟨x, kept, out⟩
  dsimp -zeta only
  extract_lets used s3 r g prev bad far s4 s5
  have h3 : SolveWork s1 s3 := by
    refine h2.trans ?_
    dsimp only [s3]
    split
    · exact s2.markUsed_work _ _ _
    · exact (s2.markUsed_work _ _ _).trans (State.putBiases_work _ _ _ _)
  clear_value s3
  refine iteInduction (motive := fun v => ∃ u, SolveWork s1 u ∧ (v = u ∨ s.spoofed = false ∧ ∃ r, s.GoodReport r ∧ v = u.modGnss fun g =>
    { g with pending := some r })) (fun _ => ⟨s3, h3, .inl rfl⟩) fun hf => ?_
  have hf' : s3.formed ref at' x used = true := by
    cases hfo : s3.formed ref at' x used with
    | true => rfl
    | false => simp [hfo] at hf
  have h4 : SolveWork s1 s4 := h3.trans (SolveWork.modGnss s3 _ ⟨_, _, _, _, _, _, _, _, rfl⟩)
  have h5 : SolveWork s1 s5 := by
    dsimp only [s5]
    split
    · exact h4
    · exact h4.trans (s4.surveyFix_work _)
  have hr : s.GoodReport r := hgood r (h3.goodReport (s3.solutionReport_good ref at' x used _ hf'))
  have hsp : s5.spoofed = s.spoofed := h5.spoofed_eq.trans hspoof
  refine iteInduction (motive := fun v => ∃ u, SolveWork s1 u ∧ (v = u ∨ s.spoofed = false ∧ ∃ r, s.GoodReport r ∧ v = u.modGnss fun g =>
    { g with pending := some r })) (fun _ => ⟨s5, h5, .inl rfl⟩) fun hns => ⟨s5, h5, .inr ⟨?_, r, hr, rfl⟩⟩
  rw [← hsp]
  simpa using hns

/-! ### No channel is LOCKED -/

theorem testBit_zero_sub_two_pow (f k : Nat) (hk : k ≠ 0) (h : f.testBit k = true) : (f - 2 ^ k).testBit 0 = f.testBit 0 := by
  obtain ⟨j, rfl⟩ := Nat.exists_eq_succ_of_ne_zero hk
  have hle := Nat.ge_two_pow_of_testBit h
  rw [Nat.testBit_zero, Nat.testBit_zero]
  have : 2 ^ (j + 1) = 2 * 2 ^ j := by ring
  rw [Nat.succ_eq_add_one] at *
  congr 1
  generalize 2 ^ j = q at *
  simp only [eq_iff_iff]
  omega

/-- Clearing a flag other than USED leaves USED; clearing USED clears it. -/
theorem State.setFlag_clears (s : State) (n bit : Nat) (h : bit = 0 ∨ (s.valN Obj.gnss_ch_flags n).testBit 0 = false) :
    ((s.setFlag n bit false).valN Obj.gnss_ch_flags n).testBit 0 = false := by
  have hv : (s.setFlag n bit false).valN Obj.gnss_ch_flags n =
      if (s.valN Obj.gnss_ch_flags n).testBit bit then s.valN Obj.gnss_ch_flags n - 2 ^ bit else s.valN Obj.gnss_ch_flags n :=
    State.valN_setN s Obj.gnss_ch_flags _ n 0
  rw [hv]
  generalize s.valN Obj.gnss_ch_flags n = f at *
  by_cases hb : bit = 0
  · subst hb
    split
    · rename_i ht
      rw [Nat.testBit_zero, decide_eq_true_eq] at ht
      rw [Nat.testBit_zero, decide_eq_false_iff_not]
      omega
    · rename_i ht
      simpa using ht
  · have h0 := h.resolve_left hb
    split
    · rename_i ht
      rw [testBit_zero_sub_two_pow f bit hb ht, h0]
    · exact h0

/-- With nothing used, USED is clear at every channel. -/
theorem State.markUsed_none (s : State) :
    (∃ di, s.markUsed {} [] [] = { s with dict := di }) ∧ ∀ n, n < 128 → ((s.markUsed {} [] []).valN Obj.gnss_ch_flags n).testBit 0 = false := by
  have heq : s.markUsed {} [] [] = s.each (List.range 128) fun u n => (((u.setFlag n 0 false).setFlag n 1 false).setFlag n 2 false).setFlag n 8 false := by
    have hnil {α : Type} (u : State) (F : State → α → State) : u.each [] F = u := rfl
    unfold State.markUsed
    simp only [List.filter_nil, List.any_nil, List.zip_nil_left, hnil]
  have hP (u : State) (c m b : Nat) (hm : m ≠ c) : (u.setFlag c b false).valN Obj.gnss_ch_flags m = u.valN Obj.gnss_ch_flags m :=
    u.valN_setN_other _ _ _ c 0 m 0 (by simp only [Row.key, Obj.gnss_ch_flags]; omega)
  obtain ⟨h1, -, h3⟩ := State.each_local (fun u n => u.valN Obj.gnss_ch_flags n) (fun u v => ∃ di, v = { u with dict := di })
    (fun u => ⟨u.dict, rfl⟩) (fun u v w h h' => by obtain ⟨di, rfl⟩ := h; obtain ⟨di', rfl⟩ := h'; exact ⟨di', rfl⟩)
    (fun u n => (((u.setFlag n 0 false).setFlag n 1 false).setFlag n 2 false).setFlag n 8 false) (List.range 128) (fun u c _ => ⟨_, rfl⟩)
    (fun u c _ m hm => by rw [hP _ c m 8 hm, hP _ c m 2 hm, hP _ c m 1 hm, hP _ c m 0 hm]) s List.nodup_range
  rw [heq]
  refine ⟨h1, fun n hn => ?_⟩
  obtain ⟨u, -, -, ht⟩ := h3 n (List.mem_range.mpr hn)
  rw [ht]
  exact State.setFlag_clears _ n 8 (.inr (State.setFlag_clears _ n 2 (.inr (State.setFlag_clears _ n 1 (.inr (State.setFlag_clears u n 0 (.inl rfl)))))))

end Sys2Proof.Machine

/-! SUPPORT. The epochs of the Gleaner (R296, R298, R301 to R304, R311): the obligation. -/
namespace Sys2Proof.Machine

/-! ### The latch (R296) -/

/-- What a fold over the channels leaves that changes each by a function of its record alone. -/
theorem State.each_modGch (s t : State) (f : Nat → Nat → GnssChan → GnssChan)
    (ht : s.each (List.range 128) (fun u n => u.modGch n (f (u.gchAssign n) n)) = t) :
    (∃ ch, t = { s with gnss := { s.gnss with chans := ch } }) ∧ ∀ n, n < 128 → t.gch n = f (s.gchAssign n) n (s.gch n) := by
  obtain ⟨h1, -, h3⟩ := State.each_local State.gch (fun u v => ∃ ch, v = { u with gnss := { u.gnss with chans := ch } }) (fun u => ⟨u.gnss.chans, rfl⟩)
    (fun u v w h h' => by obtain ⟨ch, rfl⟩ := h; obtain ⟨ch', rfl⟩ := h'; exact ⟨ch', rfl⟩)
    (fun u n => u.modGch n (f (u.gchAssign n) n)) (List.range 128) (fun u c _ => ⟨_, rfl⟩) (fun u c _ m hm => u.modGch_gch_other c m _ hm) s List.nodup_range
  rw [ht] at h1 h3
  refine ⟨h1, fun n hn => ?_⟩
  obtain ⟨u, ⟨ch, hu⟩, hun, htn⟩ := h3 n (List.mem_range.mpr hn)
  have ha : u.gchAssign n = s.gchAssign n := by rw [hu]; rfl
  rw [htn, u.modGch_gch n _ hn, hun, ha]

/-- The record of a channel at the latch: its code phase, chip count and carrier phase, `pipe` periods on, where `on`. -/
def GnssChan.latch (on : Bool) (a pipe : Nat) (c : GnssChan) : GnssChan :=
  if on then
    { c with latCode := (c.advance (codeChips a) pipe).codeFrac, latChips := (c.advance (codeChips a) pipe).chips, latCar := (c.advance (codeChips a) pipe).cycles * 2 ^ 40 + (c.advance (codeChips a) pipe).carPhase, latched := true }
  else { c with latched := false }

/-- The Gleaner after a latch. -/
abbrev State.latchedGnss (s : State) (ok : Bool) (ch : Vector GnssChan 128) : Gnss :=
  { s.gnss with chans := ch, epochOk := ok, epochM := s.tc.tickSec, epochAt := s.tc.boundaries, epochSteps := s.steps % 65536, epochCyc := s.tc.cyc, epochInc := s.tc.incTotal, epochSlew := s.tc.slewTotal, epochStep := 0, solved := false }

theorem epochLatchEff_spec (s : State) (hon : s.gnssOn = true) (ht : s.tc.tickNo = 0) (ha : s.gnss.epochAt ≠ s.tc.boundaries) :
    ∃ ch, epochLatchEff s = { s with gnss := s.latchedGnss (s.gapNs s.tc.tickCyc).isNone ch } ∧
      ∀ n, n < 128 → vat ch n {} = (s.gch n).latch ((s.gapNs s.tc.tickCyc).isNone && (s.gchState n == 3 || s.gchState n == 4)) (s.gchAssign n)
        (s.effN Obj.gnss_fe_pipe) := by
  obtain ⟨⟨ch, hf⟩, hg⟩ := s.each_modGch _ (fun a n => GnssChan.latch ((s.gapNs s.tc.tickCyc).isNone && (s.gchState n == 3 || s.gchState n == 4)) a
    (s.effN Obj.gnss_fe_pipe)) rfl
  unfold epochLatchEff
  extract_lets ok pipe tracking u
  rw [if_pos (by simp [State.gnssWorks, hon, ht, ha])]
  have hu : u = s.each (List.range 128) fun u n => u.modGch n (GnssChan.latch (ok && (s.gchState n == 3 || s.gchState n == 4)) (u.gchAssign n) pipe) :=
    congrArg (fun F => s.each (List.range 128) F) (funext fun u => funext fun n => congrArg (u.modGch n) (funext fun c => rfl))
  have hf' : u = _ := hu.trans hf
  have hg' (n : Nat) (hn : n < 128) : u.gch n = _ := (congrArg (fun v : State => v.gch n) hu).trans (hg n hn)
  clear_value u
  subst hf'
  exact ⟨ch, rfl, hg'⟩

/-! ### A report is published (R304) -/

theorem State.reportBytes_fst (s : State) (r : GnssReport) : ∃ fr, (s.reportBytes r).1 = { s with fresh := fr } ∧ (r.kind ≠ 0 → fr = s.fresh) := by
  unfold State.reportBytes
  extract_lets tracked
  by_cases h : r.kind = 0
  · rw [if_pos h]
    exact ⟨_, rfl, fun hn => absurd h hn⟩
  · rw [if_neg h]
    exact ⟨s.fresh, rfl, fun _ => rfl⟩

/-- The objects that show a report. -/
def State.showReport (s : State) (r : GnssReport) (b : Bytes) : State :=
  ((s.setB Obj.gnss_epoch b).setN Obj.gnss_solution r.kind).setN Obj.gnss_sats_used r.used

/-- The Gleaner after the report `rep` of kind and target of `r`. -/
abbrev Gnss.published (g : Gnss) (r rep : GnssReport) : Gnss :=
  { g with pending := none, report := rep, pubFor := some r.target, pulse := if r.kind = 0 then none else some r.mark, stamped := none, formed := false }

theorem State.publish_eq (s : State) (r : GnssReport) :
    ∃ fr b rep, (r.kind ≠ 0 → fr = s.fresh) ∧
      (r.kind = 0 → s.publish r = ((({ s with fresh := fr } : State).showReport r b).count Obj.gnss_reports_missed).modGnss fun g => g.published r rep) ∧
      (r.kind ≠ 0 → ∃ v, s.publish r = (if s.gnss.ttffDone then ({ s with fresh := fr } : State).showReport r b
        else ((({ s with fresh := fr } : State).showReport r b).setN Obj.gnss_ttff v).modGnss fun g => { g with ttffDone := true }).modGnss fun g =>
          g.published r rep) := by
  unfold State.publish
  extract_lets ind gap utcOk rep
  have hrk : rep.kind = r.kind := rfl
  obtain ⟨fr, hfr, hfresh⟩ := s.reportBytes_fst rep
  rcases hrb : s.reportBytes rep with ⟨u, b⟩
  rw [hrb] at hfr
  dsimp only at hfr
  subst hfr
  refine ⟨fr, b, rep, hfresh, fun hk => ?_, fun hk => ?_⟩
  · dsimp -zeta only
    extract_lets u1 u2 u3
    have h2 : u2 = u1.count Obj.gnss_reports_missed := if_pos (hrk.trans hk)
    have h3 : u3 = u2 := if_neg (by simp [hrk, hk])
    clear_value u3 u2
    subst h3 h2
    rfl
  · refine ⟨((min (2 ^ 32 - 1) (s.nsSince s.gnss.ttffFrom / 1000000) : Nat) : Int), ?_⟩
    dsimp -zeta only
    extract_lets u1 u2 u3
    have h2 : u2 = u1 := if_neg (fun h => hk (hrk.symm.trans h))
    have h3 : u3 = if s.gnss.ttffDone then u2
        else (u2.setN Obj.gnss_ttff ((min (2 ^ 32 - 1) (s.nsSince s.gnss.ttffFrom / 1000000) : Nat) : Int)).modGnss fun g => { g with ttffDone := true } := by
      have hd : u2.gnss.ttffDone = s.gnss.ttffDone := by rw [h2]; rfl
      have hn : u2.nsSince u2.gnss.ttffFrom = s.nsSince s.gnss.ttffFrom := by rw [h2]; rfl
      dsimp only [u3]
      rw [hd, hn]
      cases s.gnss.ttffDone with
      | true => exact if_neg (by simp)
      | false => exact if_pos (by simp [hrk, hk])
    clear_value u3 u2
    subst h3 h2
    rfl

theorem State.showReport_spec (s : State) (r : GnssReport) (b : Bytes) :
    (s.showReport r b).valN Obj.gnss_solution = r.kind ∧ (s.showReport r b).valN Obj.gnss_sats_used = r.used ∧
      (∃ di, s.showReport r b = { s with dict := di }) ∧
      SameDict s (s.showReport r b) [Obj.gnss_solution.key 0 0, Obj.gnss_sats_used.key 0 0, Obj.gnss_epoch.key 0 0] := by
  refine ⟨?_, State.valN_setN _ _ r.used 0 0, ⟨_, rfl⟩, ?_⟩
  · exact (State.valN_setN_other _ _ _ _ 0 0 0 0 (by decide)).trans (State.valN_setN _ _ r.kind 0 0)
  · exact (((SameDict.refl s _).put (r := Obj.gnss_epoch) (by simp) _).putN (by simp) _).putN (by simp) _

/-- A report with a solution, published. -/
theorem State.publish_solution (s : State) (r : GnssReport) (hk : r.kind ≠ 0) :
    let t := s.publish r
    t.valN Obj.gnss_solution = r.kind ∧ t.valN Obj.gnss_sats_used = r.used ∧ t.gnss.pubFor = some r.target ∧ t.gnss.pulse = some r.mark ∧
      t.gnss.pending = none ∧ t.gnss.formed = false ∧ t = { s with gnss := t.gnss, dict := t.dict } ∧
      SameDict s t [Obj.gnss_solution.key 0 0, Obj.gnss_sats_used.key 0 0, Obj.gnss_epoch.key 0 0, Obj.gnss_ttff.key 0 0] := by
  obtain ⟨fr, b, rep, hfr, -, h⟩ := s.publish_eq r
  obtain ⟨v, hv⟩ := h hk
  cases hfr hk
  obtain ⟨k1, k2, k3, k4⟩ := s.showReport_spec r b
  have hs : ({ s with fresh := s.fresh } : State) = s := rfl
  rw [hs] at hv
  generalize s.showReport r b = u at *
  have hw : ∃ di tt, (if s.gnss.ttffDone then u else (u.setN Obj.gnss_ttff v).modGnss fun g => { g with ttffDone := true }) =
        { s with dict := di, gnss := { s.gnss with ttffDone := tt } } ∧
      SameDict s { s with dict := di, gnss := { s.gnss with ttffDone := tt } }
        [Obj.gnss_solution.key 0 0, Obj.gnss_sats_used.key 0 0, Obj.gnss_epoch.key 0 0, Obj.gnss_ttff.key 0 0] ∧
      State.valN { s with dict := di, gnss := { s.gnss with ttffDone := tt } } Obj.gnss_solution = r.kind ∧
      State.valN { s with dict := di, gnss := { s.gnss with ttffDone := tt } } Obj.gnss_sats_used = r.used := by
    obtain ⟨di, rfl⟩ := k3
    cases htt : s.gnss.ttffDone with
    | true => exact ⟨di, s.gnss.ttffDone, rfl, k4.mono fun k hk => by simp only [List.mem_cons, List.not_mem_nil, or_false] at hk ⊢; tauto, k1, k2⟩
    | false =>
      refine ⟨_, true, rfl, SameDict.putN (k4.mono fun k hk => by simp only [List.mem_cons, List.not_mem_nil, or_false] at hk ⊢; tauto) (by simp) _, ?_, ?_⟩
      · exact (State.valN_setN_other { s with dict := di } _ _ v 0 0 0 0 (by decide)).trans k1
      · exact (State.valN_setN_other { s with dict := di } _ _ v 0 0 0 0 (by decide)).trans k2
  obtain ⟨di, tt, hw, hd, hv1, hv2⟩ := hw
  rw [hw] at hv
  generalize s.publish r = t at *
  subst hv
  exact ⟨hv1, hv2, rfl, if_neg hk, rfl, rfl, rfl, hd⟩

/-- A report without a solution, published. -/
theorem State.publish_none (s : State) (r : GnssReport) (hk : r.kind = 0) :
    let t := s.publish r
    t.valN Obj.gnss_solution = 0 ∧ t.valN Obj.gnss_reports_missed = min (s.valN Obj.gnss_reports_missed + 1) (2 ^ 32 - 1) ∧
      t.gnss.pubFor = some r.target ∧ t.gnss.pulse = none ∧ t = { s with gnss := t.gnss, dict := t.dict, fresh := t.fresh } ∧
      SameDict s t [Obj.gnss_solution.key 0 0, Obj.gnss_sats_used.key 0 0, Obj.gnss_epoch.key 0 0, Obj.gnss_reports_missed.key 0 0] := by
  obtain ⟨fr, b, rep, -, h, -⟩ := s.publish_eq r
  have hv := h hk
  obtain ⟨k1, -, k3, k4⟩ := State.showReport_spec { s with fresh := fr } r b
  generalize ({ s with fresh := fr } : State).showReport r b = u at *
  have hc := State.count_u32 u Obj.gnss_reports_missed 0 0 rfl
  have hs : (u.count Obj.gnss_reports_missed).valN Obj.gnss_solution = 0 := (u.valN_setN_other _ _ _ 0 0 0 0 (by decide)).trans (k1.trans hk)
  have hm : u.valN Obj.gnss_reports_missed = s.valN Obj.gnss_reports_missed := by
    obtain ⟨di, rfl⟩ := k3
    exact k4.valN_eq rfl (by decide)
  rw [hm] at hc
  have hd := SameDict.count (k4.mono (ls := [Obj.gnss_solution.key 0 0, Obj.gnss_sats_used.key 0 0, Obj.gnss_epoch.key 0 0,
    Obj.gnss_reports_missed.key 0 0]) fun k hk => by simp only [List.mem_cons, List.not_mem_nil, or_false] at hk ⊢; tauto) (r := Obj.gnss_reports_missed) (i := 0) (j := 0) (by simp) 1
  have hf : ∃ di, u.count Obj.gnss_reports_missed = { s with dict := di, fresh := fr } := by
    obtain ⟨di, rfl⟩ := k3
    exact ⟨_, rfl⟩
  generalize u.count Obj.gnss_reports_missed = w at *
  obtain ⟨di, rfl⟩ := hf
  generalize s.publish r = t at *
  subst hv
  exact ⟨hs, hc, rfl, if_pos hk, rfl, hd⟩

/-! ### No observation -/

/-- Without a LOCKED channel nothing is solved. -/
theorem gnssSolutionEff_none (s : State) (h : s.solveReady = true) (hl : ((List.range 128).all fun n => s.gchState n != 4) = true) :
    ∃ ch u, u = { s with gnss := { s.gnss with solved := true, chans := ch } } ∧ gnssSolutionEff s = u.markUsed {} [] [] := by
  obtain ⟨s1, hs1⟩ : ∃ s1, s1 = s.modGnss fun g => { g with solved := true } := ⟨_, rfl⟩
  obtain ⟨⟨ch, hu⟩, -, -⟩ := State.each_local State.gch (fun u v => ∃ ch, v = { u with gnss := { u.gnss with chans := ch } }) (fun u => ⟨u.gnss.chans, rfl⟩)
    (fun u v w h h' => by obtain ⟨ch, rfl⟩ := h; obtain ⟨ch', rfl⟩ := h'; exact ⟨ch', rfl⟩)
    State.smoothObs (List.range 128) (fun u c _ => ⟨_, rfl⟩) (fun u c _ m hm => u.modGch_gch_other c m _ hm) s1 List.nodup_range
  unfold gnssSolutionEff
  rw [if_neg (by simp [h]), ← hs1]
  extract_lets g s2 at' ref all
  have hst (n : Nat) : s2.gchState n = s.gchState n := by
    rw [show s2 = _ from hu, hs1]
    rfl
  have hu' : s2 = _ := hu
  clear_value s2
  have hall : all = [] := by
    dsimp only [all]
    unfold State.observations
    rw [List.map_eq_nil_iff, List.filter_eq_nil_iff]
    intro n hn
    have hn4 := List.all_eq_true.mp hl n hn
    simp only [State.obsOk, hst]
    simp only [bne_iff_ne, ne_eq] at hn4
    simp [hn4]
  clear_value all
  subst hall
  rcases s2.fde ref at' 128 [] [] with ⟨x, kept, out⟩
  refine ⟨ch, s2, ?_, ?_⟩
  · rw [hu', hs1]; rfl
  · simp only [List.isEmpty_nil, if_true, Bool.true_or]

/-! ### The record in the journal (R311, R504) -/

theorem Journal.append_unitGen (valid : Nat) (r : JRecord) (fuel : Nat) : ∀ j : Journal, (Journal.append valid r fuel j).unitGen = j.unitGen := by
  induction fuel with
  | zero => exact fun _ => rfl
  | succ fuel ih =>
    intro j
    unfold Journal.append
    extract_lets b p
    split
    · rfl
    · exact ih _

theorem Journal.nextGen_takeGen (j : Journal) (u : Nat) : (j.takeGen u).nextGen u = j.nextGen u + 1 := by
  simp [Journal.takeGen, Journal.nextGen]

/-- A UNIT record takes its unit's next generation number, and nothing but the journal and `store.used` changes. -/
theorem State.appendUnit_spec (s : State) (u : Nat) (data : Bytes) :
    (s.appendUnit u data).gran.journal.nextGen u = s.gran.journal.nextGen u + 1 ∧
      s.appendUnit u data = { s with gran := { s.gran with journal := (s.appendUnit u data).gran.journal }, dict := (s.appendUnit u data).dict } ∧
      SameDict s (s.appendUnit u data) [Obj.store_used.key 0 0] := by
  refine ⟨?_, rfl, (SameDict.refl s _).putN (by simp) _⟩
  rw [← Journal.nextGen_takeGen]
  unfold Journal.nextGen
  rw [show (s.appendUnit u data).gran.journal.unitGen = (s.gran.journal.takeGen u).unitGen from Journal.append_unitGen _ _ 65 _]

theorem stamp128_upper (t : Tod) (f : Nat) : stamp128 t f / 65536 = stamp128 t 0 / 65536 := by
  unfold stamp128
  generalize todSec t = a
  generalize todNs t = b
  generalize todFrac t = c
  omega

/-! ### The obligation -/

/-- Settles O34: the latch one channel at a time, the solution by what its steps keep, the report by what publishing shows. -/
theorem gnssEpochs : Obligations.GnssEpochs := by
  unfold Obligations.GnssEpochs
  refine ⟨fun s hon ht ha hg => ?latch, fun s hon ht ha hg => ?gated, fun s h => ⟨s, next_of_eq (if_neg ?noLatch), rfl⟩,
    fun s hon hr hm hok hs ht => ?solution, fun s hon hr hm hok hs ht hl => ?noneLocked, fun s h => ⟨s, next_of_eq (if_pos ?unready), rfl⟩,
    fun s r hon hp hpe ht hk hn hsp => ?publish, fun s hon hp hpe ht => ?missed, fun s h => ⟨s, next_of_eq (if_pos (by simp [h])), rfl⟩,
    fun s f e hp hon hr hru hl => ?pps, fun s f hp => ⟨s, next_of_eq ?noPulse, rfl⟩, fun s f hon hm hst hf hp ha => ?survey,
    fun s h => ⟨s, next_of_eq ?noSurvey, rfl⟩, fun s hon hr hp => ?store, fun s h => ⟨s, next_of_eq (if_neg ?noStore), rfl⟩⟩
  case latch =>
    obtain ⟨ch, heq, hch⟩ := epochLatchEff_spec s hon ht ha
    simp only [hg, Option.isNone_none, Bool.true_and] at heq hch
    refine ⟨_, next_of_eq heq, fun n hn h => (hch n hn).trans ?_, fun n hn h => (hch n hn).trans ?_, rfl, rfl⟩
    · exact if_pos (by simpa using h)
    · exact if_neg (by simpa using h)
  case gated =>
    obtain ⟨ch, heq, hch⟩ := epochLatchEff_spec s hon ht ha
    have hno : (s.gapNs s.tc.tickCyc).isNone = false := by
      cases h : s.gapNs s.tc.tickCyc with
      | none => exact absurd h hg
      | some _ => rfl
    simp only [hno, Bool.false_and] at heq hch
    exact ⟨_, next_of_eq heq, fun n hn _ => (hch n hn).trans (if_neg Bool.false_ne_true), rfl, rfl⟩
  case noLatch =>
    rcases h with h | h <;> simp [h]
  case solution =>
    obtain ⟨u, hu, h⟩ := gnssSolutionEff_work s (by simp [State.solveReady, State.gnssWorks, hon, hr, hm, hok, hs, ht])
    have hst (n : Nat) : u.gchState n = s.gchState n := hu.gchState_eq n
    obtain ⟨⟨di, g, hf⟩, ⟨ch, lt, jb, bp, po, sa, sm, st, hgn⟩, -⟩ := hu
    have hg : g = { s.gnss with solved := true, chans := ch, lastTN := lt, jumpBad := jb, badPos := bp, pos := po, surveyAvg := sa, surveyMin := sm, surveyMinAt := st } := by
      rw [← show u.gnss = g by rw [hf], hgn]
      rfl
    subst hf hg
    rcases h with h | ⟨hsp, r, hr, h⟩
    · exact ⟨_, next_of_eq h, rfl, .inl rfl, hst, rfl, rfl, rfl, rfl, rfl⟩
    · exact ⟨_, next_of_eq h, rfl, .inr ⟨hsp, r, rfl, hr⟩, hst, rfl, rfl, rfl, rfl, rfl⟩
  case noneLocked =>
    obtain ⟨ch, u, hu, heq⟩ := gnssSolutionEff_none s (by simp [State.solveReady, State.gnssWorks, hon, hr, hm, hok, hs, ht]) hl
    obtain ⟨⟨di, hd⟩, hb⟩ := u.markUsed_none
    generalize u.markUsed {} [] [] = v at *
    subst hu hd
    exact ⟨_, next_of_eq heq, rfl, fun n hn _ => hb n hn, rfl⟩
  case unready =>
    rcases h with h | h | h | h <;> simp [State.solveReady, h]
  case publish =>
    have heq : epochReportPublishEff s = s.publish r := by
      unfold epochReportPublishEff
      dsimp only
      rw [if_neg (by simp [State.gnssWorks, hon, hp]), hpe]
      dsimp only
      rw [if_pos (by simp [ht, hn, hsp])]
    obtain ⟨k1, k2, k3, k4, k5, k6, k7, k8⟩ := s.publish_solution r hk
    exact ⟨_, next_of_eq heq, k1, k2, k3.trans (by rw [ht]), k4, k5, k6, k7, k8⟩
  case missed =>
    have heq : epochReportPublishEff s = s.publish { target := s.tc.tickSec + 1, steps := s.gnss.epochSteps } := by
      unfold epochReportPublishEff
      dsimp only
      rw [if_neg (by simp [State.gnssWorks, hon, hp]), hpe]
      exact if_pos ht
    obtain ⟨k1, k2, k3, k4, k5, k6⟩ := s.publish_none { target := s.tc.tickSec + 1, steps := s.gnss.epochSteps } rfl
    exact ⟨_, next_of_eq heq, k1, k2, k3, k4, k5, k6⟩
  case pps =>
    have heq : rawPpsEff f s = (s.setN Obj.gnss_pps_stamp (stamp128 (s.tod + psToU (f % 2000 : Nat))
        (1 + (if s.stepFlag then 512 else 0) + if s.valN Obj.tod_state = 0 then 1024 else 0))).modGnss fun g =>
          { g with pulseLast := some (e, s.steps), stamped := some (s.tod + psToU (f % 2000 : Nat)) } := by
      unfold rawPpsEff
      rw [hp]
      exact if_pos (by simp [hon, hr, hru, hl])
    generalize 1 + (if s.stepFlag then 512 else 0) + (if s.valN Obj.tod_state = 0 then 1024 else 0) = fl at heq
    generalize s.tod + psToU (f % 2000 : Nat) = td at heq ⊢
    have hu := stamp128_upper td fl
    generalize stamp128 td fl = st at heq hu
    generalize stamp128 td 0 / 65536 = st0 at hu ⊢
    have hv := State.valN_setN s Obj.gnss_pps_stamp st 0 0
    have hd := SameDict.setN s Obj.gnss_pps_stamp st 0 0
    have hf : ∃ di, s.setN Obj.gnss_pps_stamp st = { s with dict := di } := ⟨_, rfl⟩
    generalize s.setN Obj.gnss_pps_stamp st = u at *
    obtain ⟨di, rfl⟩ := hf
    rw [← hv] at hu
    exact ⟨_, next_of_eq heq, rfl, hu, rfl, hd⟩
  case noPulse =>
    unfold rawPpsEff
    rw [hp]
  case survey =>
    obtain ⟨b, hb, heq⟩ : ∃ b : Bytes, b.take 8 = intBytes 8 (roundDiv (s.gnss.surveyAvg.map fun e => e.1).sum s.gnss.surveyAvg.length) ∧
        surveyDoneEff s = ((s.setB Obj.gnss_survey_result b).setN Obj.gnss_survey_state 2).modGnss fun g =>
          { g with record := { g.record with survey := b } } := by
      unfold surveyDoneEff
      simp only [hf]
      refine ⟨_, ?_, if_pos (by rw [hon, hm, hst, oneSec, hp]; simpa using ha)⟩
      rw [List.append_assoc, List.append_assoc]
      exact List.take_left' (length_intBytes 8 _)
    have hd : SameDict s ((s.setB Obj.gnss_survey_result b).setN Obj.gnss_survey_state 2) [Obj.gnss_survey_state.key 0 0, Obj.gnss_survey_result.key 0 0] :=
      ((SameDict.refl s _).put (r := Obj.gnss_survey_result) (by simp) _).putN (by simp) _
    have hv : ((s.setB Obj.gnss_survey_result b).setN Obj.gnss_survey_state 2).valN Obj.gnss_survey_state = 2 := State.valN_setN _ _ 2 0 0
    have hr : ((s.setB Obj.gnss_survey_result b).setN Obj.gnss_survey_state 2).val Obj.gnss_survey_result = .o b :=
      (State.val_setVal_other _ _ _ _ _ _ _ _ (by decide)).trans (State.val_setVal _ _ _ _ _)
    have hfr : ∃ di, (s.setB Obj.gnss_survey_result b).setN Obj.gnss_survey_state 2 = { s with dict := di } := ⟨_, rfl⟩
    generalize (s.setB Obj.gnss_survey_result b).setN Obj.gnss_survey_state 2 = u at *
    obtain ⟨di, rfl⟩ := hfr
    have hbytes : (State.val { s with dict := di } Obj.gnss_survey_result).bytes = b := by rw [hr]; rfl
    refine ⟨_, next_of_eq heq, hv, ?_, (congrArg (List.take 8) hbytes).trans hb, rfl, hd⟩
    exact congrArg (fun b => ({ s.gnss with record := { s.gnss.record with survey := b } } : Gnss)) hbytes.symm
  case noSurvey =>
    unfold surveyDoneEff
    extract_lets l acc
    cases surveyFigure2 l with
    | none => rfl
    | some f => exact if_neg (by simp [h])
  case store =>
    have heq : ∃ rc : GnssRecord, (rc.valid = true ∧ rc.survey = (s.val Obj.gnss_survey_result).bytes ∧ rc.eph = s.gnss.eph ∧ rc.alm = s.gnss.alm ∧
        rc.pos = s.gnss.pos) ∧ gnssStoreRecordEff s = (s.modGnss fun g => { g with storeFrom := s.tc.cyc, record := rc }).appendUnit 1 rc.payload :=
      ⟨_, ⟨rfl, rfl, rfl, rfl, rfl⟩, if_pos (by rw [hon, hr, oneSec, hp]; rfl)⟩
    obtain ⟨rc, ⟨h1, h2, h3, h4, h5⟩, heq⟩ := heq
    obtain ⟨k1, k2, k3⟩ := (s.modGnss fun g => { g with storeFrom := s.tc.cyc, record := rc }).appendUnit_spec 1 rc.payload
    generalize State.appendUnit _ 1 rc.payload = t at *
    have hg : t.gnss = { s.gnss with storeFrom := s.tc.cyc, record := rc } := by rw [k2]; rfl
    refine ⟨t, next_of_eq heq, ?_, ?_, ?_, ?_, ?_, ?_, k1, ?_, k3⟩
    · rw [hg]; exact h1
    · rw [hg]; exact h2
    · rw [hg]; exact h3
    · rw [hg]; exact h4
    · rw [hg]; exact h5
    · rw [hg]
    · rw [k2]; rfl
  case noStore =>
    rcases h with h | h <;> simp [h]

end Sys2Proof.Machine

/-! SUPPORT. Calibration of a lane (R97, R98, R104, R105). -/
namespace Sys2Proof.Machine

/-! ### The corrections of a lane -/

/-- `t` differs from `s` in lane `l`'s corrections in use, and in status values of the keys `ks`. -/
structure LaneMod (s t : State) (l : Nat) (ks : List Nat) : Prop where
  frame : ∃ di la, t = { s with dict := di, lanes := la }
  lane : ∃ us, t.lane l = { s.lane l with uses := us }
  other : ∀ m, m ≠ l → t.lane m = s.lane m
  dict : SameDict s t ks

theorem LaneMod.setN {s t : State} {l : Nat} {ks : List Nat} (h : LaneMod s t l ks) {r : Row} {i : Nat} (hk : r.key i 0 ∈ ks) (v : Int) :
    LaneMod s (t.setN r v i) l ks := by
  obtain ⟨⟨di, la, rfl⟩, hl, ho, hd⟩ := h
  exact ⟨⟨_, _, rfl⟩, hl, ho, hd.putN hk v⟩

theorem LaneMod.refl (s : State) (l : Nat) (ks : List Nat) : LaneMod s s l ks := ⟨⟨s.dict, s.lanes, rfl⟩, ⟨_, rfl⟩, fun _ _ => rfl, SameDict.refl s ks⟩

/-- The corrections `u` are in use from now on. -/
theorem State.putUse_spec (s : State) (l : Nat) (u : LaneUse) (hl : l < 13) (ks : List Nat) :
    LaneMod s (s.putUse l u) l ks ∧ ((s.putUse l u).laneNow l).rx = u.rx ∧ ((s.putUse l u).laneNow l).tx = u.tx ∧
      ((s.putUse l u).laneNow l).calibrated = u.calibrated ∧ (s.putUse l u).dict = s.dict := by
  unfold State.putUse
  extract_lets n
  split
  · rename_i h
    obtain ⟨h1, h2, h3, -⟩ := h
    exact ⟨LaneMod.refl s l ks, h1, h2, h3, rfl⟩
  · have hx := s.modLane_lane l (fun x => { x with uses := keepNew 4 (u :: x.uses) }) hl
    have hn : (s.modLane l fun x => { x with uses := keepNew 4 (u :: x.uses) }).laneNow l = u := by
      unfold State.laneNow
      rw [hx]
      rfl
    exact ⟨⟨⟨s.dict, _, rfl⟩, ⟨_, hx⟩, fun m hm => s.modLane_lane_other l _ m hm, SameDict.refl s ks⟩, by rw [hn], by rw [hn], by rw [hn], rfl⟩

/-- The keys of the objects that show a lane's corrections. -/
abbrev calKeys (l : Nat) : List Nat := if l < 9 then [Obj.stamp_rx_cal.key l 0, Obj.stamp_tx_cal.key l 0, Obj.stamp_accuracy.key l 0] else []

/-- A fused latency with the variable part `v`, kept in its range (R105). -/
abbrev State.calRx (s : State) (l : Nat) (v : Int) : Int := max 0 (min 50000 (s.calFixed s.dev.rxCal s.dev.rxTc l + v))

/-- Likewise of the transmitter. -/
abbrev State.calTx (s : State) (l : Nat) (v : Int) : Int := max 0 (min 50000 (s.calFixed s.dev.txCal s.dev.txTc l + v))

/-- The variable parts count where the lane is calibrated. -/
abbrev State.varParts (s : State) (l : Nat) : Int × Int := if s.calState l = 2 then ((s.lane l).rxVar, (s.lane l).txVar) else (0, 0)

theorem State.putCal_spec (s : State) (l : Nat) (hl : l < 13) :
    LaneMod s (s.putCal l) l (calKeys l) ∧ ((s.putCal l).laneNow l).calibrated = (s.calState l == 2) ∧
      (l < 9 → (s.putCal l).valI Obj.stamp_rx_cal l = s.calRx l (s.varParts l).1 ∧ (s.putCal l).valI Obj.stamp_tx_cal l = s.calTx l (s.varParts l).2 ∧
        ((s.putCal l).laneNow l).rx = s.calRx l (s.varParts l).1 + s.effI Obj.stamp_phy_latency_rx l ∧
        ((s.putCal l).laneNow l).tx = s.calTx l (s.varParts l).2 + s.effI Obj.stamp_phy_latency_tx l) ∧
      (9 ≤ l → ((s.putCal l).laneNow l).rx = s.calRx l (s.varParts l).1 ∧ ((s.putCal l).laneNow l).tx = s.calTx l (s.varParts l).2) := by
  have hvar : (s.varParts l).1 = (if (s.calState l == 2) = true then (s.lane l).rxVar else 0) ∧
      (s.varParts l).2 = (if (s.calState l == 2) = true then (s.lane l).txVar else 0) := by
    unfold State.varParts
    by_cases h : s.calState l = 2 <;> simp [h]
  rw [hvar.1, hvar.2]
  unfold State.putCal
  extract_lets v rx tx u
  by_cases h9 : l < 9
  · obtain ⟨h1, h2, h3, h4, -⟩ := s.putUse_spec l
      { cyc := s.tc.cyc, calibrated := v, rx := rx + s.effI Obj.stamp_phy_latency_rx l, tx := tx + s.effI Obj.stamp_phy_latency_tx l } hl (calKeys l)
    rw [if_pos h9]
    have hk : calKeys l = [Obj.stamp_rx_cal.key l 0, Obj.stamp_tx_cal.key l 0, Obj.stamp_accuracy.key l 0] := if_pos h9
    have hrx : (((u.setN Obj.stamp_rx_cal rx l).setN Obj.stamp_tx_cal tx l).putAccuracy l).valI Obj.stamp_rx_cal l = rx :=
      (State.valI_setN_other _ _ _ _ l 0 l 0 (by simp only [Row.key, Obj.stamp_rx_cal, Obj.stamp_accuracy]; omega)).trans
        ((State.valI_setN_other _ _ _ _ l 0 l 0 (by simp only [Row.key, Obj.stamp_rx_cal, Obj.stamp_tx_cal]; omega)).trans (State.valI_setN _ _ _ _ _))
    have htx : (((u.setN Obj.stamp_rx_cal rx l).setN Obj.stamp_tx_cal tx l).putAccuracy l).valI Obj.stamp_tx_cal l = tx :=
      (State.valI_setN_other _ _ _ _ l 0 l 0 (by simp only [Row.key, Obj.stamp_tx_cal, Obj.stamp_accuracy]; omega)).trans (State.valI_setN _ _ _ _ _)
    exact ⟨((h1.setN (r := Obj.stamp_rx_cal) (by simp [hk]) _).setN (r := Obj.stamp_tx_cal) (by simp [hk]) _).setN (r := Obj.stamp_accuracy) (by simp [hk]) _,
      h4, fun _ => ⟨hrx, htx, h2, h3⟩, fun h => absurd h9 (Nat.not_lt.mpr h)⟩
  · obtain ⟨h1, h2, h3, h4, -⟩ := s.putUse_spec l { cyc := s.tc.cyc, calibrated := v, rx := rx, tx := tx } hl (calKeys l)
    rw [if_neg h9]
    exact ⟨h1, h4, fun h => absurd h h9, fun _ => ⟨h2, h3⟩⟩

/-! ### Calibration states (R104) -/

/-- The key of the object that shows a lane's calibration state. -/
abbrev calStateKey (l : Nat) : Nat := if l < 9 then Obj.stamp_cal_state.key l 0 else Obj.crem_cal_state.key (l - 9) 0

theorem calStateKey_not_mem_calKeys (l : Nat) : calStateKey l ∉ calKeys l := by
  unfold calStateKey calKeys
  split
  · simp only [List.mem_cons, List.not_mem_nil, or_false, not_or, Row.key, Obj.stamp_cal_state, Obj.stamp_rx_cal, Obj.stamp_tx_cal, Obj.stamp_accuracy]
    omega
  · exact List.not_mem_nil

/-- Frames that leave the key of a calibration state leave the state. -/
theorem SameDict.calState_eq {s t : State} {ks : List Nat} (h : SameDict s t ks) (hd : t.dev = s.dev) {l : Nat} (hk : calStateKey l ∉ ks) :
    t.calState l = s.calState l := by
  unfold State.calState
  unfold calStateKey at hk
  split
  · rename_i h9
    rw [if_pos h9] at hk
    exact h.valN_eq hd hk
  · rename_i h9
    rw [if_neg h9] at hk
    exact h.valN_eq hd hk

/-- The state code of a lane's calibration written. -/
def State.setCalCode (s : State) (l st : Nat) : State := if l < 9 then s.setN Obj.stamp_cal_state st l else s.setN Obj.crem_cal_state st (l - 9)

theorem State.setCalCode_spec (s : State) (l st : Nat) :
    (s.setCalCode l st).calState l = st ∧ (∃ di, s.setCalCode l st = { s with dict := di }) ∧ SameDict s (s.setCalCode l st) [calStateKey l] := by
  unfold State.setCalCode State.calState calStateKey
  split
  · exact ⟨State.valN_setN _ _ _ _ _, ⟨_, rfl⟩, SameDict.setN _ _ _ _ _⟩
  · exact ⟨State.valN_setN _ _ _ _ _, ⟨_, rfl⟩, SameDict.setN _ _ _ _ _⟩

/-- A lane enters the calibration state `st`: what its corrections become. -/
theorem State.setCal_spec (s : State) (l st : Nat) (hl : l < 13) (vr vt : Int)
    (hv : (vr, vt) = if st = 2 then ((s.lane l).rxVar, (s.lane l).txVar) else (0, 0)) :
    LaneMod s (s.setCal l st) l (calStateKey l :: calKeys l) ∧ (s.setCal l st).calState l = st ∧ ((s.setCal l st).laneNow l).calibrated = (st == 2) ∧
      (l < 9 → (s.setCal l st).valI Obj.stamp_rx_cal l = s.calRx l vr ∧ (s.setCal l st).valI Obj.stamp_tx_cal l = s.calTx l vt ∧
        ((s.setCal l st).laneNow l).rx = s.calRx l vr + s.effI Obj.stamp_phy_latency_rx l ∧
        ((s.setCal l st).laneNow l).tx = s.calTx l vt + s.effI Obj.stamp_phy_latency_tx l) ∧
      (9 ≤ l → ((s.setCal l st).laneNow l).rx = s.calRx l vr ∧ ((s.setCal l st).laneNow l).tx = s.calTx l vt) := by
  have heq : s.setCal l st = (s.setCalCode l st).putCal l := rfl
  obtain ⟨c1, ⟨di, c2⟩, c3⟩ := s.setCalCode_spec l st
  have htemp : (s.setCalCode l st).valI Obj.die_temp 9 = s.valI Obj.die_temp 9 :=
    c3.valI_eq (by rw [c2]) (by
      unfold calStateKey
      split <;> simp only [List.mem_singleton, Row.key, Obj.die_temp, Obj.stamp_cal_state, Obj.crem_cal_state] <;> omega)
  have hfix (fused tc : List Int) : (s.setCalCode l st).calFixed fused tc l = s.calFixed fused tc l := by
    unfold State.calFixed
    rw [htemp, c2]
  rw [heq]
  generalize s.setCalCode l st = u at *
  subst c2
  obtain ⟨⟨⟨di', la, p1⟩, p2, p3, p4⟩, q1, q2, q3⟩ := State.putCal_spec { s with dict := di } l hl
  have hparts : State.varParts { s with dict := di } l = (vr, vt) := by
    unfold State.varParts
    rw [c1, hv]
    rfl
  unfold State.calRx State.calTx at q2 q3
  have heff (r : Row) : State.effI { s with dict := di } r l = s.effI r l := c3.effI_eq rfl r l 0
  rw [hparts, hfix, hfix, heff, heff] at q2
  rw [hparts, hfix, hfix] at q3
  refine ⟨⟨⟨di', la, p1⟩, p2, p3, SameDict.trans c3 p4⟩, ?_, by rw [q1, c1], q2, q3⟩
  exact (p4.calState_eq (by rw [p1]) (calStateKey_not_mem_calKeys l)).trans c1

/-- A measurement that a write began ends: `stamp.calibrate` says so. -/
theorem State.endCalibrate_spec (s : State) (l v : Nat) :
    (∃ di, s.endCalibrate l v = { s with dict := di }) ∧ (l < 9 → SameDict s (s.endCalibrate l v) [Obj.stamp_calibrate.key l 0]) ∧
      (9 ≤ l → s.endCalibrate l v = s) := by
  unfold State.endCalibrate
  by_cases h : (l < 9 && s.valN Obj.stamp_calibrate l == 1) = true
  · rw [if_pos h]
    refine ⟨⟨_, rfl⟩, fun _ => SameDict.setN _ _ _ _ _, fun h9 => ?_⟩
    have : l < 9 := by
      simp only [Bool.and_eq_true, decide_eq_true_eq] at h
      exact h.1
    omega
  · rw [if_neg h]
    exact ⟨⟨s.dict, rfl⟩, fun _ => SameDict.refl s _, fun _ => rfl⟩

/-- The keys of the objects that the end of a calibration writes. -/
abbrev calDoneKeys (l : Nat) : List Nat :=
  if l < 9 then
    [Obj.stamp_cal_state.key l 0, Obj.stamp_rx_cal.key l 0, Obj.stamp_tx_cal.key l 0, Obj.stamp_accuracy.key l 0, Obj.stamp_calibrate.key l 0]
  else [Obj.crem_cal_state.key (l - 9) 0]

/-- A calibration ends in the state `st`. -/
theorem State.endCal_spec (s : State) (l st : Nat) (hl : l < 13) (vr vt : Int)
    (hv : (vr, vt) = if st = 2 then ((s.lane l).rxVar, (s.lane l).txVar) else (0, 0)) (t : State) (ht : (s.setCal l st).endCalibrate l st = t) :
    LaneMod s t l (calDoneKeys l) ∧ t.calState l = st ∧ (t.laneNow l).calibrated = (st == 2) ∧
      (l < 9 → t.valI Obj.stamp_rx_cal l = s.calRx l vr ∧ t.valI Obj.stamp_tx_cal l = s.calTx l vt ∧
        (t.laneNow l).rx = s.calRx l vr + s.effI Obj.stamp_phy_latency_rx l ∧ (t.laneNow l).tx = s.calTx l vt + s.effI Obj.stamp_phy_latency_tx l) ∧
      (9 ≤ l → (t.laneNow l).rx = s.calRx l vr ∧ (t.laneNow l).tx = s.calTx l vt) := by
  obtain ⟨⟨⟨di, la, h1⟩, h2, h3, h4⟩, h5, h6, h7, h8⟩ := s.setCal_spec l st hl vr vt hv
  obtain ⟨⟨di', e1⟩, e2, e3⟩ := (s.setCal l st).endCalibrate_spec l st
  rw [ht] at e1 e2 e3
  generalize s.setCal l st = u at *
  by_cases h9 : l < 9
  · have hd := e2 h9
    have hk (r : Row) (h : r.key l 0 ∉ [Obj.stamp_calibrate.key l 0]) : t.valI r l = u.valI r l := hd.valI_eq (by rw [e1]) h
    have hstate : t.calState l = u.calState l := hd.calState_eq (by rw [e1]) (by
      unfold calStateKey
      rw [if_pos h9]
      simp only [List.mem_singleton, Row.key, Obj.stamp_cal_state, Obj.stamp_calibrate]
      omega)
    have hrx := hk Obj.stamp_rx_cal (by simp only [List.mem_singleton, Row.key, Obj.stamp_rx_cal, Obj.stamp_calibrate]; omega)
    have htx := hk Obj.stamp_tx_cal (by simp only [List.mem_singleton, Row.key, Obj.stamp_tx_cal, Obj.stamp_calibrate]; omega)
    have hln : t.lane = u.lane := by rw [e1]; rfl
    have hnow : t.laneNow l = u.laneNow l := by unfold State.laneNow; rw [hln]
    rw [hnow, hstate, hrx, htx]
    refine ⟨⟨⟨di', la, by rw [e1, h1]⟩, by rw [hln]; exact h2, by rw [hln]; exact h3, ?_⟩, h5, h6, h7, h8⟩
    refine (SameDict.trans h4 hd).mono fun k hk => ?_
    unfold calStateKey calKeys at hk
    unfold calDoneKeys
    simp only [if_pos h9, List.mem_append, List.mem_cons, List.not_mem_nil, or_false] at hk ⊢
    tauto
  · have hk : calStateKey l :: calKeys l = calDoneKeys l := by simp only [calStateKey, calKeys, calDoneKeys, if_neg h9]
    have htu : t = u := e3 (Nat.not_lt.mp h9)
    rw [htu]
    exact ⟨⟨⟨di, la, h1⟩, h2, h3, hk ▸ h4⟩, h5, h6, h7, h8⟩

/-- A measurement that fails: the fused parts alone, and the source of the lane. -/
theorem State.failCal_spec (s : State) (l : Nat) (hl : l < 13) (hc : CanRaise s (250 + l)) :
    LaneMod s { s.failCal l with win := s.win } l (calDoneKeys l ++ [srcKey (250 + l)]) ∧ (s.failCal l).calState l = 3 ∧
      ((s.failCal l).laneNow l).calibrated = false ∧ (l < 9 → (s.failCal l).valI Obj.stamp_rx_cal l = s.calRx l 0) ∧
      Raised s (s.failCal l) (250 + l) {} ∧ s.failCal l = { s with lanes := (s.failCal l).lanes, win := (s.failCal l).win, dict := (s.failCal l).dict } := by
  obtain ⟨⟨⟨di, la, h1⟩, h2, h3, h4⟩, h5, h6, h7, -⟩ := s.endCal_spec l 3 hl 0 0 rfl _ rfl
  have heq : s.failCal l = ((s.setCal l 3).endCalibrate l 3).raise (250 + l) := rfl
  rw [heq]
  generalize (s.setCal l 3).endCalibrate l 3 = u at *
  have hw : u.win = s.win := by rw [h1]
  obtain ⟨⟨r1, r2, r3, r4⟩, r5, -⟩ := u.raise_taken (250 + l) {} (by unfold CanRaise; rw [hw]; exact hc)
  have hrf := u.raise_frame (250 + l) {}
  rw [hw] at r1 r2 r4
  generalize u.raise (250 + l) {} = t at *
  have hdev : t.dev = u.dev := by rw [hrf]
  have hln : t.lane = u.lane := by rw [hrf]; rfl
  have hnow : t.laneNow l = u.laneNow l := by unfold State.laneNow; rw [hln]
  have hst : t.calState l = u.calState l := r5.calState_eq hdev (by
    unfold calStateKey
    split <;> simp only [List.mem_singleton, srcKey, Row.key, Obj.stamp_cal_state, Obj.crem_cal_state, Obj.win_src_state] <;> omega)
  refine ⟨⟨⟨t.dict, t.lanes, ?_⟩, ?_, ?_, SameDict.trans h4 r5⟩, hst.trans h5, by rw [hnow]; exact h6, fun h9 => ?_, ⟨r1, r2, r3, r4⟩, ?_⟩
  · subst h1
    rw [hrf]
  · show ∃ us, t.lane l = _
    rw [hln]; exact h2
  · show ∀ m, m ≠ l → t.lane m = _
    rw [hln]; exact h3
  · refine (r5.valI_eq hdev ?_).trans (h7 h9).1
    simp only [List.mem_singleton, srcKey, Row.key, Obj.stamp_rx_cal, Obj.win_src_state]
    omega
  · subst h1
    rw [hrf]

/-! ### The obligation -/

/-- Settles O35: a calibration ends in a state, and its corrections follow that state. -/
theorem laneCalibration : Obligations.LaneCalibration := by
  have hself {s : State} {l : Nat} {x : Lane} (h : ∃ us, s.lane l = { x with uses := us }) : s.lane l = { x with uses := (s.lane l).uses } := by
    obtain ⟨us, h⟩ := h
    rw [h]
  have hdone (s : State) (l : Fin 13) (c : CalIn) (hs : s.calState l = 1) (hok : c.ok = true) :
      stampCalDoneEff l c s = ((s.modLane l fun x => { x with rxVar := c.rxVar, txVar := c.txVar }).setCal l 2).endCalibrate l 2 := by
    unfold stampCalDoneEff
    rw [if_neg (by simp [hs]), if_pos hok]
  have hfail (s : State) (l : Fin 13) (c : CalIn) (hs : s.calState l = 1) (hok : c.ok = false) : stampCalDoneEff l c s = s.failCal l := by
    unfold stampCalDoneEff
    rw [if_neg (by simp [hs]), if_neg (by simp [hok])]
  unfold Obligations.LaneCalibration
  refine ⟨fun s l c h9 hs hok => ?port, fun s l c h9 hs hok => ?link, fun s l c h9 hs hok hc => ?fails, fun s l c h => ⟨s, next_of_eq (if_pos (by simp [h])), rfl⟩,
    fun s l h9 hs hp hc => ?lateLink, fun s l h9 hs hp hc => ?latePort, fun s l h => ⟨s, next_of_eq (if_neg (by simp [oneMs, h])), rfl⟩⟩
  case port =>
    have hx := s.modLane_lane l (fun x => { x with rxVar := c.rxVar, txVar := c.txVar }) l.isLt
    have ho := fun m hm => s.modLane_lane_other l (fun x => { x with rxVar := c.rxVar, txVar := c.txVar }) m hm
    obtain ⟨⟨⟨di, la, k1⟩, k2, k3, k4⟩, k5, k6, k7, -⟩ := (s.modLane l fun x => { x with rxVar := c.rxVar, txVar := c.txVar }).endCal_spec l 2 l.isLt
      c.rxVar c.txVar (by rw [hx]; rfl) _ (hdone s l c hs hok).symm
    obtain ⟨q1, q2, q3, q4⟩ := k7 h9
    rw [hx] at k2
    have hsd : calDoneKeys l = _ := if_pos h9
    refine ⟨_, rfl, k5, hself k2, k6, ?_, ?_, q1, q2, fun m hm => (k3 m hm).trans (ho m hm), ?_, hsd ▸ k4⟩
    · exact q3.trans (by rw [← q1]; rfl)
    · exact q4.trans (by rw [← q2]; rfl)
    · exact k1.trans (by rw [k1]; rfl)
  case link =>
    have hx := s.modLane_lane l (fun x => { x with rxVar := c.rxVar, txVar := c.txVar }) l.isLt
    have ho := fun m hm => s.modLane_lane_other l (fun x => { x with rxVar := c.rxVar, txVar := c.txVar }) m hm
    obtain ⟨⟨⟨di, la, k1⟩, k2, k3, k4⟩, k5, k6, -, k8⟩ := (s.modLane l fun x => { x with rxVar := c.rxVar, txVar := c.txVar }).endCal_spec l 2 l.isLt
      c.rxVar c.txVar (by rw [hx]; rfl) _ (hdone s l c hs hok).symm
    obtain ⟨q3, q4⟩ := k8 h9
    rw [hx] at k2
    have hsd : calDoneKeys l = _ := if_neg (Nat.not_lt.mpr h9)
    refine ⟨_, rfl, k5, hself k2, k6, q3, q4, fun m hm => (k3 m hm).trans (ho m hm), ?_, hsd ▸ k4⟩
    exact k1.trans (by rw [k1]; rfl)
  case fails =>
    obtain ⟨⟨-, k2, k3, k4⟩, k5, k6, k7, k8, k9⟩ := s.failCal_spec l l.isLt hc
    have hsd : calDoneKeys l = _ := if_pos h9
    rw [hsd] at k4
    exact ⟨_, next_of_eq (hfail s l c hs hok), k5, k8, k7 h9, hself k2, k6, k3, k9, k4⟩
  case lateLink =>
    obtain ⟨⟨-, k2, k3, k4⟩, k5, k6, -, k8, k9⟩ := s.failCal_spec l l.isLt hc
    have hsd : calDoneKeys l = _ := if_neg (Nat.not_lt.mpr h9)
    rw [hsd] at k4
    exact ⟨_, next_of_eq (if_pos (by simp [hs, oneMs, hp])), k5, k8, hself k2, k6, k3, k9, k4⟩
  case latePort =>
    obtain ⟨⟨-, k2, k3, k4⟩, k5, k6, -, k8, k9⟩ := s.failCal_spec l l.isLt hc
    have hsd : calDoneKeys l = _ := if_pos h9
    rw [hsd] at k4
    exact ⟨_, next_of_eq (if_pos (by simp [hs, oneMs, hp])), k5, k8, hself k2, k6, k3, k9, k4⟩

end Sys2Proof.Machine

/-! SUPPORT. Frames received: counted, admitted to the pool and given back (R324, R325, R328, R348). -/
namespace Sys2Proof.Machine

/-! ### Counters of 64 bits, and Tithe's events -/

theorem State.count_u64 (s : State) (r : Row) (i j k : Nat) (hr : r.ty = .u64) :
    (s.count r i j k).valN r i j = min (s.valN r i j + k) (2 ^ 64 - 1) := by
  simp only [State.count, hr, Ty.width, satAdd, State.valN_setN_int]
  omega

/-- The counters of a block that count events of a code. -/
abbrev State.tallyAt (s : State) (b code : Nat) : List Nat := (List.range 8).filter fun e => s.effN Obj.tithe_event b e == code

/-- Tithe after `k` events of a code in a block. -/
def State.tallied (s : State) (b code k : Nat) : Tithe :=
  if (s.tallyAt b code).isEmpty || s.titheFenced b || k == 0 then s.tithe
  else { s.tithe with blocks := vmod s.tithe.blocks b fun x => (s.tallyAt b code).foldl (fun x e => x.add e k) x }

/-- Events change Tithe only. -/
theorem State.tally_eq (s : State) (b code k : Nat) : s.tally b code k = { s with tithe := s.tallied b code k } := by
  unfold State.tally State.tallied
  cases h : (List.range 8).filter fun e => s.effN Obj.tithe_event b e == code with
  | nil => simp [h]
  | cons e l =>
    simp only [h, List.isEmpty_cons, Bool.false_or]
    split
    · rfl
    · rfl

/-! ### A frame that arrives is counted (R348) -/

/-- A frame of `len` octets is counted on port `p`. -/
def State.countedRx (s : State) (p len : Nat) : State :=
  (((s.count Obj.mac_rx_frames p).count Obj.mac_rx_octets p 0 len).tally (44 + p) 1 1).tally (44 + p) 2 len

theorem State.countedRx_spec (s : State) (p len : Nat) :
    (∃ v, s.countedRx p len = { s with dict := { s.dict with val := v }, tithe := ((s.tally (44 + p) 1 1).tally (44 + p) 2 len).tithe }) ∧
      (s.countedRx p len).valN Obj.mac_rx_frames p = min (s.valN Obj.mac_rx_frames p + 1) (2 ^ 64 - 1) ∧
      (s.countedRx p len).valN Obj.mac_rx_octets p = min (s.valN Obj.mac_rx_octets p + len) (2 ^ 64 - 1) ∧
      SameDict s (s.countedRx p len) [Obj.mac_rx_frames.key p 0, Obj.mac_rx_octets.key p 0] := by
  have hd1 := SameDict.count (SameDict.refl s [Obj.mac_rx_frames.key p 0]) (r := Obj.mac_rx_frames) (i := p) (j := 0) (by simp) 1
  have hd2 := SameDict.count (SameDict.refl (s.count Obj.mac_rx_frames p) [Obj.mac_rx_octets.key p 0]) (r := Obj.mac_rx_octets) (i := p) (j := 0) (by simp) len
  have hv1 := s.count_u64 Obj.mac_rx_frames p 0 1 rfl
  have hv2 := (s.count Obj.mac_rx_frames p).count_u64 Obj.mac_rx_octets p 0 len rfl
  have hk : Obj.mac_rx_octets.key p 0 ≠ Obj.mac_rx_frames.key p 0 := by simp only [ne_eq, Row.key, Obj.mac_rx_octets, Obj.mac_rx_frames]; omega
  rw [hd1.valN_eq rfl (by simpa using hk)] at hv2
  have hv3 := (hd2.valN_eq (r := Obj.mac_rx_frames) (i := p) (j := 0) rfl (by simpa using hk.symm)).trans hv1
  have hf : ∃ v, (s.count Obj.mac_rx_frames p).count Obj.mac_rx_octets p 0 len = { s with dict := { s.dict with val := v } } := ⟨_, rfl⟩
  have hd := SameDict.trans hd1 hd2
  unfold State.countedRx
  generalize (s.count Obj.mac_rx_frames p).count Obj.mac_rx_octets p 0 len = u at *
  obtain ⟨v, rfl⟩ := hf
  rw [State.tally_eq, State.tally_eq, State.tally_eq s, State.tally_eq]
  exact ⟨⟨v, rfl⟩, hv3, hv2, hd⟩

/-- The receive stamp does not depend on what counting changes. -/
theorem State.rxStamp_vals (s c : State) (f : FrameIn) (v : Store) (ti : Tithe) (hc : c = { s with dict := { s.dict with val := v }, tithe := ti })
    (hs : c.valN Obj.tod_step_count = s.valN Obj.tod_step_count) (hst : c.valN Obj.tod_state = s.valN Obj.tod_state)
    (hl : c.valT Obj.tod_first_lock = s.valT Obj.tod_first_lock) : c.rxStamp f = s.rxStamp f := by
  have hp : c.effN Obj.tod_step_policy = s.effN Obj.tod_step_policy := by rw [hc]; rfl
  have hsa : c.stepAllowed = s.stepAllowed := by simp only [State.stepAllowed, hst, hl, hp]
  have htc : c.tc = s.tc := by rw [hc]
  have hcs : c.cycleStep = s.cycleStep := by unfold State.cycleStep State.dueActs; rw [hsa, htc]
  have hnow : c.nowMark = s.nowMark := by simp only [State.nowMark, State.steps, State.stepFlag, hs, hst, hcs, htc]
  have hedge (b fi : Nat) (d : Int) : c.edgeTime b fi d = s.edgeTime b fi d := by simp only [State.edgeTime, State.stepFlag, hnow, hcs, htc]
  have hlane (l k : Nat) : c.laneAt l k = s.laneAt l k := by rw [hc]; rfl
  have hmode (p : Nat) : c.mode p = s.mode p := by rw [hc]; rfl
  simp only [State.rxStamp, State.rxTime, State.portFlags, hedge, hlane, hmode, htc]

/-! ### The receive pool (R328) -/

theorem vmod_id {α : Type} {n : Nat} (v : Vector α n) (i : Nat) (f : α → α) (h : ∀ x, f x = x) : vmod v i f = v := by
  unfold vmod
  split
  · rename_i hi
    rw [h]
    exact Vector.set_getElem_self hi
  · rfl

/-- The pool after `r` cells of the reserve of port `p` and `sh` shared ones were taken. -/
abbrev State.pooled (s : State) (p r sh : Nat) : State :=
  { s with net := { s.net with ports := vmod s.net.ports p fun x => { x with rxReserve := x.rxReserve + r }, sharedUsed := s.net.sharedUsed + sh } }

/-- A frame finds its cells, `r` of them of the reserve, or it does not. -/
theorem State.admitFrame_cases (s : State) (p n : Nat) :
    (s.admitFrame p n).isSome = decide (n - min n (s.effN Obj.mac_rx_reserve p - (s.port p).rxReserve) ≤ s.sharedFree) ∧
      ((s.admitFrame p n).isSome = true → ∃ r, r ≤ n ∧ s.admitFrame p n = some (s.pooled p r (n - r), r)) := by
  unfold State.admitFrame
  extract_lets own r
  by_cases h : n - r ≤ s.sharedFree
  · rw [if_pos h]
    exact ⟨(decide_eq_true h).symm, fun _ => ⟨r, Nat.min_le_left _ _, rfl⟩⟩
  · rw [if_neg h]
    exact ⟨(decide_eq_false h).symm, fun h => absurd h (by simp)⟩

/-- What is given back leaves what is kept. -/
theorem State.giveBack_pooled (s : State) (p r sh r' sh' : Nat) (hr : r' ≤ r) (hs : sh' ≤ sh) :
    (s.pooled p r sh).giveBack p (r - r') (sh - sh') = s.pooled p r' sh' := by
  unfold State.giveBack State.modPort State.pooled
  dsimp only
  rw [vmod_vmod]
  have h1 : ((fun x : Port => { x with rxReserve := x.rxReserve - (r - r') }) ∘ fun x => { x with rxReserve := x.rxReserve + r }) =
      fun x : Port => { x with rxReserve := x.rxReserve + r' } := by
    funext x
    simp only [Function.comp]
    congr 1
    omega
  have h2 : s.net.sharedUsed + sh - (sh - sh') = s.net.sharedUsed + sh' := by omega
  rw [h1, h2]

theorem State.pooled_zero (s : State) (p : Nat) : s.pooled p 0 0 = s := by
  have h := vmod_id s.net.ports p (fun x : Port => { x with rxReserve := x.rxReserve + 0 }) fun _ => rfl
  unfold State.pooled
  rw [h]
  rfl

/-- A frame that is dropped gives all its cells back. -/
theorem State.giveBack_all (s : State) (p r sh : Nat) : (s.pooled p r sh).giveBack p r sh = s := by
  have := s.giveBack_pooled p r sh 0 0 (Nat.zero_le _) (Nat.zero_le _)
  rwa [s.pooled_zero] at this

end Sys2Proof.Machine

/-! SUPPORT. Frames received (R324, R325, R328, R336, R348): the obligation. -/
namespace Sys2Proof.Machine

/-! ### What follows the count of a frame -/

/-- The screen of PTP messages finds none that it takes. -/
theorem State.ptpScreen_none (s : State) (h : (s.net.waiting.all fun g => !(g.kind == .ptp && (ptpIn g).other)) = true) : s.ptpScreen = s := by
  have hf : (s.net.waiting.filter fun f => f.kind == .ptp && (ptpIn f).other) = [] := by
    rw [List.filter_eq_nil_iff]
    intro g hg
    have := List.all_eq_true.mp h g hg
    simp only [Bool.not_eq_true', Bool.and_eq_false_iff] at this
    simp only [Bool.and_eq_true, not_and, Bool.not_eq_true]
    exact fun hk => this.resolve_left (by simp [hk])
  unfold State.ptpScreen
  rw [hf]
  rfl

/-- The largest frame of port `p`. -/
abbrev State.maxFrame (s : State) (p : Nat) : Nat := s.effN Obj.mac_maxlen p + if p = 8 then 42 else 0

/-- Counting leaves the pool, the configuration in effect and the receive stamp. -/
theorem State.countedRx_keeps (s : State) (f : FrameIn) (len : Nat) :
    (∀ n, ((s.countedRx f.port len).admitFrame f.port n).isSome = (s.admitFrame f.port n).isSome) ∧ (s.countedRx f.port len).rxStamp f = s.rxStamp f ∧
      (s.countedRx f.port len).net = s.net := by
  obtain ⟨⟨v, hf⟩, -, -, hd⟩ := s.countedRx_spec f.port len
  have hdev : (s.countedRx f.port len).dev = s.dev := by rw [hf]
  refine ⟨fun n => ?_, s.rxStamp_vals _ f v _ hf (hd.valN_eq hdev ?_) (hd.valN_eq hdev ?_) (hd.valT_eq hdev ?_), by rw [hf]⟩
  · rw [(State.admitFrame_cases _ _ _).1, (s.admitFrame_cases _ _).1, hf]
    rfl
  all_goals
    simp only [List.mem_cons, List.not_mem_nil, or_false, not_or, Row.key, Obj.mac_rx_octets, Obj.mac_rx_frames, Obj.tod_step_count, Obj.tod_state,
      Obj.tod_first_lock]
    omega

/-- A frame as it goes on from the frame level, with the cells it keeps. -/
def State.rxFrame (s : State) (f : FrameIn) (kr : Nat) : RxFrame :=
  { port := f.port.val, bytes := f.bytes, len := f.bytes.length + 4, stamp := (s.rxStamp f).2.1, steps := (s.rxStamp f).2.2, arr := (s.rxStamp f).1
    cells := cellsOf (f.bytes.length + 4), reserve := kr, tick := s.tc.boundaries, cyc := s.tc.cyc }

/-- A frame for which the pool has no room. -/
theorem frameReceiveEff_full (s : State) (f : FrameIn) (hl : s.linkUp f.port.val = true) (ha : s.admitFrame f.port.val (cellsOf (s.maxFrame f.port.val)) = none) :
    frameReceiveEff f s = ((s.countedRx f.port (f.bytes.length + 4)).count Obj.mac_rx_pool_drop f.port).tally (44 + f.port.val) 9 1 := by
  obtain ⟨hadm, -, -⟩ := s.countedRx_keeps f (f.bytes.length + 4)
  have hnone : (s.countedRx f.port (f.bytes.length + 4)).admitFrame f.port.val (cellsOf (s.maxFrame f.port.val)) = none := by
    have := hadm (cellsOf (s.maxFrame f.port.val))
    rw [ha] at this
    exact Option.isSome_eq_false_iff.mp this |> Option.isNone_iff_eq_none.mp
  unfold frameReceiveEff
  dsimp only
  rw [if_neg (by simp [hl])]
  unfold State.countedRx State.maxFrame at hnone
  rw [hnone]
  rfl

/-- What becomes of a frame that has its cells, on the counted state: `kr` cells of the reserve are those it keeps. -/
def State.rxAdmitted (s c : State) (f : FrameIn) (kr : Nat) : State :=
  let p := f.port.val
  let len := f.bytes.length + 4
  if f.codeErr then (c.count Obj.mac_rx_code_err p).discard p
  else if len < 64 then (c.count Obj.mac_rx_runt p).discard p
  else if s.maxFrame p < len then (c.count Obj.mac_rx_oversize p).puntOr p (f.bytes.take (s.maxFrame p)) 5 3 (s.rxStamp f).2.1
  else if !f.fcsOk then (c.count Obj.mac_rx_fcs_err p).puntOr p f.bytes 4 1 (s.rxStamp f).2.1
  else (c.pooled p kr (cellsOf len - kr)).dispatch (s.rxFrame f kr)

theorem cellsOf_mono {a b : Nat} (h : a ≤ b) : cellsOf a ≤ cellsOf b := by
  unfold cellsOf ceilDiv
  omega

/-- A frame that has its cells. -/
theorem frameReceiveEff_admitted (s : State) (f : FrameIn) (hl : s.linkUp f.port.val = true)
    (ha : (s.admitFrame f.port.val (cellsOf (s.maxFrame f.port.val))).isSome = true) :
    ∃ kr, kr ≤ cellsOf (f.bytes.length + 4) ∧ frameReceiveEff f s = s.rxAdmitted (s.countedRx f.port (f.bytes.length + 4)) f kr := by
  obtain ⟨hadm, hst, -⟩ := s.countedRx_keeps f (f.bytes.length + 4)
  rw [← hadm] at ha
  obtain ⟨⟨v, hf⟩, -, -, -⟩ := s.countedRx_spec f.port (f.bytes.length + 4)
  obtain ⟨r, hr, hsome⟩ := (State.admitFrame_cases _ _ _).2 ha
  have htc : (s.countedRx f.port (f.bytes.length + 4)).tc = s.tc := by rw [hf]
  refine ⟨min r (cellsOf (f.bytes.length + 4)), Nat.min_le_right _ _, ?_⟩
  unfold frameReceiveEff
  dsimp only
  rw [if_neg (by simp [hl])]
  have hc : (((s.count Obj.mac_rx_frames f.port).count Obj.mac_rx_octets f.port 0 (f.bytes.length + 4)).tally (44 + f.port) 1 1).tally (44 + f.port) 2
    (f.bytes.length + 4) = s.countedRx f.port (f.bytes.length + 4) := rfl
  have hm : (s.effN Obj.mac_maxlen f.port.val + if f.port.val = 8 then 42 else 0) = s.maxFrame f.port := rfl
  rw [hc, hm]
  clear hc hm
  generalize s.countedRx f.port (f.bytes.length + 4) = c at *
  rw [hsome, hst]
  dsimp only
  unfold State.rxAdmitted
  dsimp only
  rw [c.giveBack_all]
  split
  · rfl
  split
  · rfl
  split
  · rfl
  split
  · rfl
  have hkeep := cellsOf_mono (not_lt.mp ‹¬ s.maxFrame _ < _›)
  have hsh : cellsOf (f.bytes.length + 4) - min r (cellsOf (f.bytes.length + 4)) ≤ cellsOf (s.maxFrame f.port.val) - r := by omega
  rw [c.giveBack_pooled _ _ _ _ _ (Nat.min_le_left _ _) hsh]
  unfold State.rxFrame
  rw [← htc]
/-! ### The counters of a frame (R348) -/

/-- A counter keeps every other object. -/
theorem State.count_keeps (s : State) {r : Row} {i j : Nat} (k : Nat) {r' : Row} {i' j' : Nat} (h : r'.key i' j' ≠ r.key i j) :
    (s.count r i j k).valN r' i' j' = s.valN r' i' j' :=
  (SameDict.count (SameDict.refl s [r.key i j]) (by simp) k).valN_eq rfl (by simpa using h)

/-- An arrived frame that counts under `r` and as discarded. -/
theorem State.discarded_spec (s : State) (p len : Nat) (r : Row) (hty : r.ty = .u64) (h1 : r.key p 0 ≠ Obj.mac_rx_frames.key p 0)
    (h2 : r.key p 0 ≠ Obj.mac_rx_octets.key p 0) (h3 : r.key p 0 ≠ Obj.mac_rx_discarded.key p 0) (t : State)
    (ht : t = ((s.countedRx p len).count r p).discard p) :
    t.valN Obj.mac_rx_frames p = min (s.valN Obj.mac_rx_frames p + 1) (2 ^ 64 - 1) ∧
      t.valN Obj.mac_rx_octets p = min (s.valN Obj.mac_rx_octets p + len) (2 ^ 64 - 1) ∧
      t.tithe = ((s.tally (44 + p) 1 1).tally (44 + p) 2 len).tithe ∧
      t.valN r p = min (s.valN r p + 1) (2 ^ 64 - 1) ∧
      t.valN Obj.mac_rx_discarded p = min (s.valN Obj.mac_rx_discarded p + 1) (2 ^ 64 - 1) ∧
      t = { s with tithe := t.tithe, dict := t.dict } ∧
      SameDict s t [Obj.mac_rx_frames.key p 0, Obj.mac_rx_octets.key p 0, r.key p 0, Obj.mac_rx_discarded.key p 0] := by
  obtain ⟨⟨v, hf⟩, hfr, hoc, hd⟩ := s.countedRx_spec p len
  have hdev : (s.countedRx p len).dev = s.dev := by rw [hf]
  have hfd : Obj.mac_rx_frames.key p 0 ≠ Obj.mac_rx_discarded.key p 0 := by simp only [ne_eq, Row.key, Obj.mac_rx_frames, Obj.mac_rx_discarded]; omega
  have hod : Obj.mac_rx_octets.key p 0 ≠ Obj.mac_rx_discarded.key p 0 := by simp only [ne_eq, Row.key, Obj.mac_rx_octets, Obj.mac_rx_discarded]; omega
  have hsr : (s.countedRx p len).valN r p = s.valN r p := hd.valN_eq hdev (by simpa using ⟨h1, h2⟩)
  have hsd : (s.countedRx p len).valN Obj.mac_rx_discarded p = s.valN Obj.mac_rx_discarded p := hd.valN_eq hdev (by simpa using ⟨hfd.symm, hod.symm⟩)
  have hds : SameDict s t ([Obj.mac_rx_frames.key p 0, Obj.mac_rx_octets.key p 0] ++ [r.key p 0, Obj.mac_rx_discarded.key p 0]) := by
    rw [ht]
    exact hd.trans (((SameDict.refl _ _).count (by simp) 1).count (by simp) 1)
  have htf : ∃ di, t = { s with dict := di, tithe := ((s.tally (44 + p) 1 1).tally (44 + p) 2 len).tithe } := by
    rw [ht, hf]
    exact ⟨_, rfl⟩
  have e1 : t.valN Obj.mac_rx_frames p = (s.countedRx p len).valN Obj.mac_rx_frames p := by
    rw [ht, State.discard, State.count_keeps _ _ hfd, State.count_keeps _ _ h1.symm]
  have e2 : t.valN Obj.mac_rx_octets p = (s.countedRx p len).valN Obj.mac_rx_octets p := by
    rw [ht, State.discard, State.count_keeps _ _ hod, State.count_keeps _ _ h2.symm]
  have e3 : t.valN r p = min (s.valN r p + 1) (2 ^ 64 - 1) := by
    rw [ht, State.discard, State.count_keeps _ _ h3, State.count_u64 _ _ _ _ _ hty, hsr]
  have e4 : t.valN Obj.mac_rx_discarded p = min (s.valN Obj.mac_rx_discarded p + 1) (2 ^ 64 - 1) := by
    rw [ht, State.discard, State.count_u64 _ _ _ _ _ rfl, State.count_keeps _ _ h3.symm, hsd]
  clear ht
  obtain ⟨di, rfl⟩ := htf
  exact ⟨e1.trans hfr, e2.trans hoc, rfl, e3, e4, rfl, hds⟩

theorem parseEth_dst (b : Bytes) : (parseEth b).dst = b.take 6 := by
  unfold parseEth
  dsimp only
  split
  · rfl
  split
  · split
    · rfl
    · rfl
  · rfl

/-- A frame for another unit is filtered. -/
theorem State.classify_filtered (s : State) (p : Nat) (b : Bytes) (hc : field b 12 2 ≠ 0x8808) (hg : isGroup (b.take 6) = false)
    (ha : b.take 6 ≠ s.effB Obj.mac_address p) : s.classify p b = .filtered := by
  unfold State.classify
  extract_lets h on es
  have hdst : h.dst = b.take 6 := parseEth_dst b
  rw [if_neg hc, hdst, hg]
  simp [ha]

/-- An arrived frame for which the pool has no room. -/
theorem State.poolDropped_spec (s : State) (p len : Nat) (t : State)
    (ht : t = ((s.countedRx p len).count Obj.mac_rx_pool_drop p).tally (44 + p) 9 1) :
    t.valN Obj.mac_rx_frames p = min (s.valN Obj.mac_rx_frames p + 1) (2 ^ 64 - 1) ∧
      t.valN Obj.mac_rx_octets p = min (s.valN Obj.mac_rx_octets p + len) (2 ^ 64 - 1) ∧
      t.valN Obj.mac_rx_pool_drop p = min (s.valN Obj.mac_rx_pool_drop p + 1) (2 ^ 64 - 1) ∧
      t.tithe = (((s.tally (44 + p) 1 1).tally (44 + p) 2 len).tally (44 + p) 9 1).tithe ∧
      t = { s with tithe := t.tithe, dict := t.dict } ∧
      SameDict s t [Obj.mac_rx_frames.key p 0, Obj.mac_rx_octets.key p 0, Obj.mac_rx_pool_drop.key p 0] := by
  obtain ⟨⟨v, hf⟩, hfr, hoc, hd⟩ := s.countedRx_spec p len
  have hdev : (s.countedRx p len).dev = s.dev := by rw [hf]
  have h1 : Obj.mac_rx_frames.key p 0 ≠ Obj.mac_rx_pool_drop.key p 0 := by simp only [ne_eq, Row.key, Obj.mac_rx_frames, Obj.mac_rx_pool_drop]; omega
  have h2 : Obj.mac_rx_octets.key p 0 ≠ Obj.mac_rx_pool_drop.key p 0 := by simp only [ne_eq, Row.key, Obj.mac_rx_octets, Obj.mac_rx_pool_drop]; omega
  have hsd : (s.countedRx p len).valN Obj.mac_rx_pool_drop p = s.valN Obj.mac_rx_pool_drop p := hd.valN_eq hdev (by simpa using ⟨h1.symm, h2.symm⟩)
  have e1 := ((s.countedRx p len).count_keeps 1 h1).trans hfr
  have e2 := ((s.countedRx p len).count_keeps 1 h2).trans hoc
  have e3 := (s.countedRx p len).count_u64 Obj.mac_rx_pool_drop p 0 1 rfl
  rw [hsd] at e3
  have hds := hd.trans (SameDict.count (SameDict.refl (s.countedRx p len) [Obj.mac_rx_pool_drop.key p 0]) (r := Obj.mac_rx_pool_drop) (i := p) (j := 0) (by simp) 1)
  have htf : ∃ v, (s.countedRx p len).count Obj.mac_rx_pool_drop p =
      { s with dict := { s.dict with val := v }, tithe := ((s.tally (44 + p) 1 1).tally (44 + p) 2 len).tithe } := by
    rw [hf]
    exact ⟨_, rfl⟩
  rw [ht, State.tally_eq]
  generalize (s.countedRx p len).count Obj.mac_rx_pool_drop p = c at *
  obtain ⟨v, rfl⟩ := htf
  refine ⟨e1, e2, e3, ?_, rfl, hds⟩
  rw [State.tally_eq (s.tally _ _ _), State.tally_eq s, State.tally_eq]
  rfl

/-- The verdict that a statement names by a match. -/
theorem Verdict.take_of_match {v : Verdict} {k : RxKind} {e : Option Nat}
    (h : (match v with | .take k1 e1 => k1 == k && e1 == e | _ => false) = true) : v = .take k e := by
  cases v with
  | take k1 e1 =>
    simp only [Bool.and_eq_true, beq_iff_eq] at h
    rw [h.1, h.2]
  | _ => exact absurd h (by simp)

/-- What a pooled frame is dispatched on. -/
theorem State.dispatch_filtered (c : State) (f : RxFrame) (hc : field f.bytes 12 2 ≠ 0x8808) (hp : f.port ≠ 8)
    (hv : c.classify f.port f.bytes = .filtered) :
    c.dispatch f = ((c.freeFrame f).count Obj.mac_rx_filtered f.port).discard f.port := by
  unfold State.dispatch
  dsimp only
  rw [if_neg hc, if_neg hp, hv]
  rfl

/-- A frame that a unit takes, and that names no conflict, waits for its unit. -/
theorem State.dispatch_take (c : State) (f : RxFrame) (k : RxKind) (e : Option Nat) (hk : k ≠ .atton) (hc : field f.bytes 12 2 ≠ 0x8808) (hp : f.port ≠ 8)
    (hv : c.classify f.port f.bytes = .take k e) (ha : c.addrConflict f.port f.bytes = false) :
    c.dispatch f = c.await { f with kind := k, entry := e, tags := (parseEth f.bytes).off - 14, pcp := (parseEth f.bytes).pcp, ipcp := (parseEth f.bytes).ipcp } := by
  unfold State.dispatch
  dsimp only
  rw [if_neg hc, if_neg hp, hv, ha]
  cases k
  case atton => exact absurd rfl hk
  all_goals rfl

theorem State.classify_control (s : State) (p : Nat) (b : Bytes) (hc : field b 12 2 = 0x8808) : s.classify p b = .control := if_pos hc

/-! ### The obligation -/

/-- A frame that is neither too short, nor too long, nor in error goes on. -/
theorem State.rxAdmitted_good (s c : State) (f : FrameIn) (kr : Nat) (he : f.codeErr = false) (hf : f.fcsOk = true) (h1 : 64 ≤ f.bytes.length + 4)
    (h2 : f.bytes.length + 4 ≤ s.maxFrame f.port.val) :
    s.rxAdmitted c f kr = (c.pooled f.port kr (cellsOf (f.bytes.length + 4) - kr)).dispatch (s.rxFrame f kr) := by
  unfold State.rxAdmitted
  dsimp only
  rw [if_neg (by simp [he]), if_neg (by omega), if_neg (by omega), if_neg (by simp [hf])]

theorem execFrameReceive_eq (s t : State) (f : FrameIn) (h : frameReceiveEff f s = t)
    (hw : (t.net.waiting.all fun g => !(g.kind == .ptp && (ptpIn g).other)) = true) : exec (.frameReceive f) s = .next t := by
  show Host.Outcome.next (frameReceiveEff f s).ptpScreen = _
  rw [h, t.ptpScreen_none hw]

/-- Settles O36: FRAME_RECEIVE by what the frame finds, over `frameReceiveEff_admitted`. -/
theorem frameReceive : Obligations.FrameReceive := by
  unfold Obligations.FrameReceive
  refine ⟨?down, ?full, ?code, ?runt, ?filtered, ?ntp⟩
  case down =>
    intro s f hw hl
    exact ⟨s, execFrameReceive_eq s s f (if_pos (by simp [hl])) hw, rfl⟩
  case full =>
    intro s f hw hl ha
    have h := frameReceiveEff_full s f hl ha
    have hd := s.poolDropped_spec f.port (f.bytes.length + 4) _ rfl
    exact ⟨_, execFrameReceive_eq s _ f h (by rw [hd.2.2.2.2.1]; exact hw), hd⟩
  case code =>
    intro s f hw hl ha he
    obtain ⟨kr, -, h⟩ := frameReceiveEff_admitted s f hl ha
    unfold State.rxAdmitted at h
    dsimp only at h
    rw [if_pos he] at h
    have hd := s.discarded_spec f.port (f.bytes.length + 4) Obj.mac_rx_code_err rfl (by simp only [ne_eq, Row.key, Obj.mac_rx_code_err, Obj.mac_rx_frames]; omega)
      (by simp only [ne_eq, Row.key, Obj.mac_rx_code_err, Obj.mac_rx_octets]; omega)
      (by simp only [ne_eq, Row.key, Obj.mac_rx_code_err, Obj.mac_rx_discarded]; omega) _ rfl
    exact ⟨_, execFrameReceive_eq s _ f h (by rw [hd.2.2.2.2.2.1]; exact hw), hd⟩
  case runt =>
    intro s f hw hl ha he hlen
    obtain ⟨kr, -, h⟩ := frameReceiveEff_admitted s f hl ha
    unfold State.rxAdmitted at h
    dsimp only at h
    rw [if_neg (by simp [he]), if_pos hlen] at h
    have hd := s.discarded_spec f.port (f.bytes.length + 4) Obj.mac_rx_runt rfl (by simp only [ne_eq, Row.key, Obj.mac_rx_runt, Obj.mac_rx_frames]; omega)
      (by simp only [ne_eq, Row.key, Obj.mac_rx_runt, Obj.mac_rx_octets]; omega)
      (by simp only [ne_eq, Row.key, Obj.mac_rx_runt, Obj.mac_rx_discarded]; omega) _ rfl
    exact ⟨_, execFrameReceive_eq s _ f h (by rw [hd.2.2.2.2.2.1]; exact hw), hd⟩
  case filtered =>
    intro s f hw hl ha he hfcs h64 hmax hp hc hg hadr hconf
    obtain ⟨kr, hkr, h⟩ := frameReceiveEff_admitted s f hl ha
    rw [s.rxAdmitted_good _ f kr he hfcs h64 hmax] at h
    obtain ⟨⟨v, hf⟩, -⟩ := s.countedRx_spec f.port (f.bytes.length + 4)
    have heff (x : Nat) : ((s.countedRx f.port (f.bytes.length + 4)).pooled f.port kr x).effB Obj.mac_address f.port = s.effB Obj.mac_address f.port := by
      rw [hf]
      rfl
    rw [State.dispatch_filtered _ (s.rxFrame f kr) hc (show f.port.val ≠ 8 by omega)
      (State.classify_filtered _ _ _ hc hg (by rw [show (s.rxFrame f kr).port = f.port from rfl, heff]; exact hadr))] at h
    have hback : ((s.countedRx f.port (f.bytes.length + 4)).pooled f.port kr (cellsOf (f.bytes.length + 4) - kr)).freeFrame (s.rxFrame f kr) =
      s.countedRx f.port (f.bytes.length + 4) := State.giveBack_all _ _ _ _
    rw [hback, show (s.rxFrame f kr).port = f.port from rfl] at h
    have hd := s.discarded_spec f.port (f.bytes.length + 4) Obj.mac_rx_filtered rfl
      (by simp only [ne_eq, Row.key, Obj.mac_rx_filtered, Obj.mac_rx_frames]; omega)
      (by simp only [ne_eq, Row.key, Obj.mac_rx_filtered, Obj.mac_rx_octets]; omega)
      (by simp only [ne_eq, Row.key, Obj.mac_rx_filtered, Obj.mac_rx_discarded]; omega) _ rfl
    exact ⟨_, execFrameReceive_eq s _ f h (by rw [hd.2.2.2.2.2.1]; exact hw), hd⟩
  case ntp =>
    intro s f e hw hl ha he hfcs h64 hmax hp hconf hcl
    obtain ⟨kr, hkr, h⟩ := frameReceiveEff_admitted s f hl ha
    rw [s.rxAdmitted_good _ f kr he hfcs h64 hmax] at h
    obtain ⟨⟨v, hf⟩, hfr, hoc, hd⟩ := s.countedRx_spec f.port (f.bytes.length + 4)
    have hv : s.classify f.port f.bytes = .take .ntp e := Verdict.take_of_match hcl
    have hc : field f.bytes 12 2 ≠ 0x8808 := by
      intro hc
      rw [s.classify_control _ _ hc] at hv
      exact Verdict.noConfusion hv
    rw [State.dispatch_take _ (s.rxFrame f kr) .ntp e (by decide) hc (show f.port.val ≠ 8 by omega) (by rw [hf]; exact hv)
      (by rw [hf]; exact hconf)] at h
    have hti : (s.countedRx f.port (f.bytes.length + 4)).tithe = ((s.tally (44 + f.port) 1 1).tally (44 + f.port) 2 (f.bytes.length + 4)).tithe := by
      rw [hf]
    have hfd : ∃ di ti, s.countedRx f.port (f.bytes.length + 4) = { s with dict := di, tithe := ti } := by
      rw [hf]
      exact ⟨_, _, rfl⟩
    clear hf
    have hst : (s.rxFrame f kr).stamp = (s.rxStamp f).2.1 := rfl
    generalize s.countedRx f.port (f.bytes.length + 4) = c at *
    obtain ⟨di, ti, rfl⟩ := hfd
    refine ⟨_, execFrameReceive_eq s _ f h ?_, hfr, hoc, hti, ?_, ?_, ?_, rfl, rfl, hd⟩
    · rw [State.await, List.all_append, hw]
      rfl
    · rw [State.await, List.length_append]
      rfl
    · exact List.take_left
    · rw [State.await, List.getLast?_concat]
      rfl

end Sys2Proof.Machine

/-! SUPPORT. Answers in hardware (R338 to R340). -/
namespace Sys2Proof.Machine

/-- An echo request to `10.0.0.1` on port 3. -/
def echoFrame : RxFrame :=
  { kind := .echo, port := 3, bytes := (zeros 12 ++ [8, 0] ++ ipHeader 4 0 28 1 64 [10, 0, 0, 9] [10, 0, 0, 1] ++ [8, 0, 0, 0, 1, 2, 3, 4] ++ zeros 20) }

/-- Its packet. -/
def echoIp : IpHead :=
  (parseIp echoFrame.bytes (parseEth echoFrame.bytes).et (parseEth echoFrame.bytes).off).getD
    { fam := 0, src := [], dst := [], proto := 0, l4 := 0, len := 0, odd := false, sumOk := false, tos := 0 }

/-- An echo request waits on a port whose `mac.rx_answered` has reached its largest value. -/
def echoSaturated : State :=
  (({ net := { waiting := [echoFrame] } } : State).setEff Obj.mac_ctl_queue 3 0 (.n 7)).setN Obj.mac_rx_answered (2 ^ 64 - 1) 3

/-- The request is answered, and the count of echo replies of the second (R339) stays at 0. -/
theorem icmpEchoRequestEff_echoSaturated : ((icmpEchoRequestEff echoSaturated).port 3).icmp = 0 := by decide +kernel

theorem echoSaturated_waits : echoSaturated.nextRx .echo = some echoFrame ∧ echoFrame.port < 8 ∧ echoSaturated.effN Obj.mac_ctl_queue echoFrame.port = 7 ∧
    parseIp echoFrame.bytes (parseEth echoFrame.bytes).et (parseEth echoFrame.bytes).off = some echoIp ∧
    (echoSaturated.port echoFrame.port).icmp < echoSaturated.effN Obj.mac_icmp_rate echoFrame.port ∧
    cellsOf ((padTo 60 (echoSaturated.echoReply echoFrame echoIp)).length + 4) ≤ echoSaturated.freeCells echoFrame.port 7 := by decide +kernel

/-- Refutes O37: the model tells whether an echo request was answered by the change of `mac.rx_answered`; once that counter is saturated an answered
request no longer joins the replies counted in the second. -/
theorem not_hardwareAnswers : ¬ Obligations.HardwareAnswers := by
  unfold Obligations.HardwareAnswers
  rintro ⟨-, -, hecho, -⟩
  obtain ⟨hnext, hport, hq, hip, hrate, hcells⟩ := echoSaturated_waits
  obtain ⟨t, ht, -, -, -, -, hicmp, -⟩ := hecho echoSaturated echoFrame 7 echoIp hnext hport hq (by decide) hip hrate hcells
  have heq : icmpEchoRequestEff echoSaturated = t := by injection ht
  rw [← heq, show echoFrame.port = 3 from rfl, icmpEchoRequestEff_echoSaturated, show (echoSaturated.port 3).icmp = 0 from rfl] at hicmp
  exact absurd hicmp (by decide)

end Sys2Proof.Machine

/-! SUPPORT. Work on one port, and frames placed again in its calendar (R354, R357). -/
namespace Sys2Proof.Machine

/-- Of the states `s` and `t`, `t` differs in port `p`, Tithe and status values. -/
structure PortWork (p : Nat) (s t : State) : Prop where
  frame : ∃ v ti po, t = { s with dict := { s.dict with val := v }, tithe := ti, net := { s.net with ports := po } }
  other : ∀ m, m ≠ p → t.port m = s.port m

namespace PortWork

variable {p : Nat} {s t u : State}

theorem refl (p : Nat) (s : State) : PortWork p s s := ⟨⟨s.dict.val, s.tithe, s.net.ports, rfl⟩, fun _ _ => rfl⟩

theorem trans (h : PortWork p s t) (h' : PortWork p t u) : PortWork p s u := by
  refine ⟨?_, fun m hm => (h'.other m hm).trans (h.other m hm)⟩
  obtain ⟨v, ti, po, rfl⟩ := h.frame
  obtain ⟨v', ti', po', rfl⟩ := h'.frame
  exact ⟨v', ti', po', rfl⟩

theorem modPort (h : PortWork p s t) (f : Port → Port) : PortWork p s (t.modPort p f) :=
  h.trans ⟨⟨t.dict.val, t.tithe, _, rfl⟩, fun m hm => t.modPort_port_other p f m hm⟩

theorem setN (h : PortWork p s t) (r : Row) (v : Int) (i j : Nat) : PortWork p s (t.setN r v i j) := h.trans ⟨⟨_, t.tithe, t.net.ports, rfl⟩, fun _ _ => rfl⟩

theorem count (h : PortWork p s t) (r : Row) (i j k : Nat) : PortWork p s (t.count r i j k) := h.setN r _ i j

theorem tally (h : PortWork p s t) (b c k : Nat) : PortWork p s (t.tally b c k) := by
  rw [State.tally_eq]
  exact h.trans ⟨⟨t.dict.val, _, t.net.ports, rfl⟩, fun _ _ => rfl⟩

theorem dev (h : PortWork p s t) : t.dev = s.dev := by
  obtain ⟨v, ti, po, rfl⟩ := h.frame
  rfl

theorem tc (h : PortWork p s t) : t.tc = s.tc := by
  obtain ⟨v, ti, po, rfl⟩ := h.frame
  rfl

theorem effN (h : PortWork p s t) (r : Row) (i j : Nat) : t.effN r i j = s.effN r i j := by
  obtain ⟨v, ti, po, rfl⟩ := h.frame
  rfl

end PortWork

/-- Of the states `s` and `t`, `t` differs in the calendar of port `p`, the count of displaced entries, and Tithe. -/
structure CalWork (p : Nat) (s t : State) : Prop extends PortWork p s t where
  cal : ∃ c, t.port p = { s.port p with cal := c }
  dict : SameDict s t [Obj.cal_displaced.key p 0]

namespace CalWork

variable {p : Nat} {s t u : State}

theorem refl (p : Nat) (s : State) : CalWork p s s := ⟨.refl p s, ⟨(s.port p).cal, rfl⟩, .refl _ _⟩

theorem trans (h : CalWork p s t) (h' : CalWork p t u) : CalWork p s u := by
  refine ⟨h.toPortWork.trans h'.toPortWork, ?_, (h.dict.trans h'.dict).mono fun k hk => by simpa using hk⟩
  obtain ⟨c, hc⟩ := h.cal
  obtain ⟨c', hc'⟩ := h'.cal
  exact ⟨c', by rw [hc', hc]⟩

theorem modCal (h : CalWork p s t) (hp : p < 9) (f : List CalEntry → List CalEntry) : CalWork p s (t.modPort p fun x => { x with cal := f x.cal }) :=
  h.trans ⟨(PortWork.refl p t).modPort _, ⟨_, t.modPort_port p _ hp⟩, .refl _ _⟩

theorem displaced (h : CalWork p s t) (c k : Nat) : CalWork p s ((t.count Obj.cal_displaced p).tally (44 + p) c k) := by
  refine h.trans ⟨((PortWork.refl p t).count _ _ _ _).tally _ _ _, ⟨(t.port p).cal, ?_⟩, ?_⟩
  · rw [State.tally_eq]
    rfl
  · rw [State.tally_eq]
    exact SameDict.count (SameDict.refl t [Obj.cal_displaced.key p 0]) (by simp) 1

theorem place (h : CalWork p s t) (hp : p < 9) (f : TxFrame) : CalWork p s (t.place p f) := by
  unfold State.place
  extract_lets w first at' past u
  have hu : CalWork p s u := by
    unfold u
    split
    · exact h.displaced _ _
    · exact h
  exact hu.modCal hp fun l => l ++ [{ t := at', w := w, frame := f }]

theorem replace (h : CalWork p s t) (hp : p < 9) : CalWork p s (t.replace p) := by
  unfold State.replace
  generalize (t.port p).cal.filter _ = l
  unfold State.each
  induction l generalizing t with
  | nil => exact h
  | cons e l ih =>
    refine ih ?_
    dsimp only
    split
    · exact (h.modCal hp fun c => c.filter fun y => !(y.released && !y.reserved && y.frame.id == e.frame.id)).place hp _
    · exact h

end CalWork

/-! ### Frames that wait, taken -/

/-- What is taken leaves those that wait, and its cells return. -/
theorem State.takeRx_spec (s : State) (f : RxFrame) :
    ∃ n, s.takeRx f = { s with net := n } ∧ n.waiting = (s.net.waiting.filter fun x => x.id != f.id) ∧ (∀ m, m ≠ f.port → vat n.ports m {} = s.port m) ∧
      n.nextId = s.net.nextId ∧ (f.port < 9 → vat n.ports f.port {} = { s.port f.port with rxReserve := (s.port f.port).rxReserve - f.reserve }) :=
  ⟨_, rfl, rfl, fun _ hm => vat_vmod_other _ _ _ hm, rfl, fun hp => vat_vmod_same _ _ _ _ hp⟩

/-- Of any port, what a frame that is taken gives back is cells of the reserve. -/
theorem State.takeRx_port (s : State) (f : RxFrame) (m : Nat) : ∃ r, (s.takeRx f).port m = { s.port m with rxReserve := r } := by
  obtain ⟨n, hf, -, ho, -, hp⟩ := s.takeRx_spec f
  have hn : (s.takeRx f).port m = vat n.ports m {} := by rw [hf]; rfl
  rw [hn]
  by_cases hm : m = f.port
  · subst hm
    by_cases h9 : f.port < 9
    · exact ⟨_, hp h9⟩
    · exact ⟨(s.port f.port).rxReserve, by unfold vat State.port; rw [dif_neg h9]; unfold vat; rw [dif_neg h9]⟩
  · exact ⟨(s.port m).rxReserve, ho m hm⟩

theorem State.takeRx_other (s : State) (f : RxFrame) (m : Nat) (hm : m ≠ f.port) : (s.takeRx f).port m = s.port m := by
  obtain ⟨n, hf, -, ho, -⟩ := s.takeRx_spec f
  rw [hf]
  exact ho m hm

/-! ### PAUSE (R330, R331) -/

/-- A PAUSE taken and counted. -/
def State.pauseTaken (s : State) (f : RxFrame) : State := ((s.takeRx f).count Obj.mac_rx_pause f.port).discard f.port

theorem State.pauseTaken_spec (s : State) (f : RxFrame) :
    (s.pauseTaken f).valN Obj.mac_rx_pause f.port = min (s.valN Obj.mac_rx_pause f.port + 1) (2 ^ 64 - 1) ∧
      (s.pauseTaken f).valN Obj.mac_rx_discarded f.port = min (s.valN Obj.mac_rx_discarded f.port + 1) (2 ^ 64 - 1) ∧
      (s.pauseTaken f).net = (s.takeRx f).net ∧ s.pauseTaken f = { s with net := (s.takeRx f).net, dict := (s.pauseTaken f).dict } ∧
      SameDict s (s.pauseTaken f) [Obj.mac_rx_pause.key f.port 0, Obj.mac_rx_discarded.key f.port 0] ∧
      ∃ v, (s.pauseTaken f).dict = { s.dict with val := v } := by
  have hne : Obj.mac_rx_pause.key f.port 0 ≠ Obj.mac_rx_discarded.key f.port 0 := by
    simp only [ne_eq, Row.key, Obj.mac_rx_pause, Obj.mac_rx_discarded]
    omega
  refine ⟨?_, ?_, rfl, rfl, ?_, ⟨_, rfl⟩⟩
  · rw [State.pauseTaken, State.discard, State.count_keeps _ _ hne, State.count_u64 _ _ _ _ _ rfl]
    rfl
  · rw [State.pauseTaken, State.discard, State.count_u64 _ _ _ _ _ rfl, State.count_keeps _ _ hne.symm]
    rfl
  · exact SameDict.count (SameDict.count (SameDict.refl (s.takeRx f) _) (by simp) 1) (by simp) 1

/-- A hold begins on a port: what it sets, and the entries of the calendar that it releases. -/
theorem State.beginHold_spec (s : State) (p a b : Nat) (hp : p < 9) :
    ((s.beginHold p a b).port p).pauseFrom = some a ∧ ((s.beginHold p a b).port p).pauseEnd = min b (a + 125000000) ∧
      (∀ m, m ≠ p → (s.beginHold p a b).port m = s.port m) ∧ ∃ n, s.beginHold p a b = { s with net := n } := by
  unfold State.beginHold State.releaseHeld
  dsimp only
  refine ⟨?_, ?_, fun m hm => ?_, ⟨_, rfl⟩⟩
  · rw [State.modPort_port _ _ _ hp, State.modPort_port _ _ _ hp]
  · rw [State.modPort_port _ _ _ hp, State.modPort_port _ _ _ hp]
  · rw [State.modPort_port_other _ _ _ _ hm, State.modPort_port_other _ _ _ _ hm]

/-- A hold that has passed ends. -/
theorem State.endHold_spec (s : State) (p a : Nat) (hp : p < 9) (ha : (s.port p).pauseFrom = some a) (he : (s.port p).pauseEnd ≤ s.nowPs) :
    PortWork p s (s.endHold p) ∧ ((s.endHold p).port p).pauseFrom = none ∧
      ((s.endHold p).port p).pauseOwed = (decide (a < s.nowPs) || (s.port p).pauseOwed) ∧
      (s.endHold p).valN Obj.mac_pause_ns p = min (s.valN Obj.mac_pause_ns p + ((s.port p).pauseEnd - a) / 1000) (2 ^ 64 - 1) ∧
      SameDict s (s.endHold p) [Obj.mac_pause_ns.key p 0, Obj.cal_displaced.key p 0] := by
  have hne : Obj.mac_pause_ns.key p 0 ≠ Obj.cal_displaced.key p 0 := by simp only [ne_eq, Row.key, Obj.mac_pause_ns, Obj.cal_displaced]; omega
  have hcount : s.countHold p = s.count Obj.mac_pause_ns p 0 (((s.port p).pauseEnd - a) / 1000) := by
    unfold State.countHold
    rw [ha, Nat.min_eq_right he]
  have hend : s.endHold p = ((s.count Obj.mac_pause_ns p 0 (((s.port p).pauseEnd - a) / 1000)).modPort p fun x =>
      { x with pauseFrom := none, pauseOwed := decide (a < s.nowPs) || x.pauseOwed }).replace p := by
    unfold State.endHold
    rw [ha, hcount]
  generalize hu : ((s.count Obj.mac_pause_ns p 0 (((s.port p).pauseEnd - a) / 1000)).modPort p fun x =>
      { x with pauseFrom := none, pauseOwed := decide (a < s.nowPs) || x.pauseOwed }) = u at hend
  have hw : PortWork p s u := hu ▸ ((PortWork.refl p s).count _ _ _ _).modPort _
  have hd : SameDict s u [Obj.mac_pause_ns.key p 0] := hu ▸ SameDict.count (SameDict.refl s [Obj.mac_pause_ns.key p 0]) (by simp) _
  have hup : u.port p = { s.port p with pauseFrom := none, pauseOwed := decide (a < s.nowPs) || (s.port p).pauseOwed } :=
    hu ▸ State.modPort_port _ _ _ hp
  have hv : u.valN Obj.mac_pause_ns p = min (s.valN Obj.mac_pause_ns p + ((s.port p).pauseEnd - a) / 1000) (2 ^ 64 - 1) :=
    hu ▸ s.count_u64 Obj.mac_pause_ns p 0 _ rfl
  have hr := (CalWork.refl p u).replace hp
  obtain ⟨c, hc⟩ := hr.cal
  rw [hend, hc, hup]
  exact ⟨hw.trans hr.toPortWork, rfl, rfl, (hr.dict.valN_eq hr.dev (by simpa using hne)).trans hv, hd.trans hr.dict⟩

theorem pauseEff_none (s : State) (h : s.nextRx .pause = none) : pauseEff s = s := by
  unfold pauseEff
  rw [h]

theorem pauseEff_off (s : State) (f : RxFrame) (h : s.nextRx .pause = some f) (hm : s.effN Obj.mac_pause_mode f.port = 0) : pauseEff s = s.pauseTaken f := by
  unfold pauseEff
  rw [h]
  exact if_pos hm

/-- The frame in progress and the time of a PAUSE do not rest on what taking it changes. -/
theorem State.pauseTaken_times (s : State) (f : RxFrame) :
    (s.pauseTaken f).frameEnd f.port = s.frameEnd f.port ∧ ∀ q, (s.pauseTaken f).quantaPs f.port q = s.quantaPs f.port q := by
  obtain ⟨r, hr⟩ := s.takeRx_port f f.port
  have hp : (s.pauseTaken f).port f.port = { s.port f.port with rxReserve := r } := hr
  refine ⟨?_, fun q => rfl⟩
  unfold State.frameEnd
  rw [hp]
  rfl

theorem pauseEff_hold (s : State) (f : RxFrame) (h : s.nextRx .pause = some f) (hm : s.effN Obj.mac_pause_mode f.port = 1)
    (hnone : (s.port f.port).pauseFrom = none) (hno : (s.port f.port).pauseOwed = false ∨ (s.port f.port).hasFrame = false)
    (hq : 0 < s.quantaPs f.port (field f.bytes 16 2)) :
    pauseEff s = (s.pauseTaken f).beginHold f.port (s.frameEnd f.port) (s.frameEnd f.port + s.quantaPs f.port (field f.bytes 16 2)) := by
  obtain ⟨hfe, hqp⟩ := s.pauseTaken_times f
  obtain ⟨r, hr⟩ := s.takeRx_port f f.port
  have hp : (s.pauseTaken f).port f.port = { s.port f.port with rxReserve := r } := hr
  have hpm : (s.pauseTaken f).effN Obj.mac_pause_mode f.port = 1 := hm
  have hhas : Port.hasFrame { s.port f.port with rxReserve := r } = (s.port f.port).hasFrame := rfl
  unfold pauseEff
  rw [h]
  dsimp only
  rw [← State.pauseTaken, hpm, hqp, hp, hnone, hfe, hhas, if_neg (by decide), if_neg (by omega), if_neg (by rcases hno with h | h <;> simp [h])]

/-- Settles O38: PAUSE as it is taken and counted, a hold as it begins and as it ends. -/
theorem pauseHolds : Obligations.PauseHolds := by
  unfold Obligations.PauseHolds
  refine ⟨?off, ?hold, ?noFrame, ?ends, ?noHold⟩
  case off =>
    intro s f h hm
    obtain ⟨hv1, hv2, hn, hf, hd, -⟩ := s.pauseTaken_spec f
    obtain ⟨r, hr⟩ := s.takeRx_port f f.port
    have hp : (s.pauseTaken f).port f.port = { s.port f.port with rxReserve := r } := hr
    exact ⟨_, next_of_eq (pauseEff_off s f h hm), hv1, hv2, rfl, by rw [hp], s.takeRx_other f, hf, hd⟩
  case hold =>
    intro s f h hp hm hnone hno hq
    obtain ⟨hv1, hv2, hn, hf, hd, -⟩ := s.pauseTaken_spec f
    obtain ⟨hfrom, hend, ho, n, hb⟩ := (s.pauseTaken f).beginHold_spec f.port (s.frameEnd f.port) (s.frameEnd f.port + s.quantaPs f.port (field f.bytes 16 2)) hp
    have hother : ∀ m, m ≠ f.port → (s.pauseTaken f).port m = s.port m := s.takeRx_other f
    have heq := pauseEff_hold s f h hm hnone hno hq
    generalize (s.pauseTaken f).beginHold f.port (s.frameEnd f.port) (s.frameEnd f.port + s.quantaPs f.port (field f.bytes 16 2)) = t at *
    refine ⟨t, next_of_eq heq, ?_, hfrom, hend, fun m hm => (ho m hm).trans (hother m hm), ?_, ?_⟩
    · rw [hb]
      exact hv1
    · rw [hb]
      rfl
    · rw [hb]
      exact hd
  case noFrame => exact fun s h => ⟨s, next_of_eq (pauseEff_none s h), rfl⟩
  case ends =>
    intro s p a ha he
    obtain ⟨hw, hfrom, howed, hns, hd⟩ := s.endHold_spec p a p.isLt ha he
    have heq : pauseHoldEndEff p s = s.endHold p := by
      unfold pauseHoldEndEff
      dsimp only
      rw [ha]
      exact if_pos he
    refine ⟨_, next_of_eq heq, hfrom, howed, hns, hw.other, ?_, ?_, hd⟩
    all_goals
      obtain ⟨v, ti, po, hf⟩ := hw.frame
      rw [hf]
  case noHold =>
    intro s p h
    have heq : pauseHoldEndEff p s = s := by
      unfold pauseHoldEndEff
      dsimp only
      rw [h]
    exact ⟨s, next_of_eq heq, rfl⟩

end Sys2Proof.Machine

/-! SUPPORT. Frames that a port sends, and slave ports that follow their link (R350, R410, R436). -/
namespace Sys2Proof.Machine

/-! ### Frames that enter a queue (R350, R359) -/

/-- Of the states `s` and `t`, `t` differs in the ports' part, but not in a port other than `p`, and in the numbers drawn. -/
structure SendWork (p : Nat) (s t : State) : Prop where
  frame : ∃ n fr, t = { s with net := n, fresh := fr }
  other : ∀ m, m ≠ p → t.port m = s.port m

namespace SendWork

variable {p : Nat} {s t u : State}

theorem refl (p : Nat) (s : State) : SendWork p s s := ⟨⟨s.net, s.fresh, rfl⟩, fun _ _ => rfl⟩

theorem trans (h : SendWork p s t) (h' : SendWork p t u) : SendWork p s u := by
  refine ⟨?_, fun m hm => (h'.other m hm).trans (h.other m hm)⟩
  obtain ⟨n, fr, rfl⟩ := h.frame
  obtain ⟨n', fr', rfl⟩ := h'.frame
  exact ⟨n', fr', rfl⟩

theorem modPort (h : SendWork p s t) (f : Port → Port) : SendWork p s (t.modPort p f) :=
  h.trans ⟨⟨_, t.fresh, rfl⟩, fun m hm => t.modPort_port_other p f m hm⟩

theorem modQueue (h : SendWork p s t) (q : Nat) (f : Queue → Queue) : SendWork p s (t.modQueue p q f) := h.modPort _

/-- What the ports' part holds beside the ports changes freely. -/
theorem withNet (h : SendWork p s t) (n : Net) (hn : n.ports = t.net.ports) : SendWork p s { t with net := n } := by
  refine h.trans ⟨⟨n, t.fresh, rfl⟩, fun m _ => ?_⟩
  unfold State.port
  rw [← hn]

theorem each {α : Type} (F : State → α → State) (l : List α) (hF : ∀ u a, a ∈ l → SendWork p u (F u a)) : ∀ s, SendWork p s (s.each l F) := by
  induction l with
  | nil => exact fun s => refl p s
  | cons a l ih => exact fun s => (hF s a (.head l)).trans (ih (fun u b hb => hF u b (.tail a hb)) (F s a))

theorem modPtp (h : SendWork p s t) (i : Nat) (f : PtpInst → PtpInst) : SendWork p s (t.modPtp i f) := h.withNet _ rfl

theorem joinActive (h : SendWork p s t) : SendWork p s (t.joinActive p) := by
  unfold State.joinActive
  extract_lets new
  exact h.trans (each _ _ (fun u q _ => ((refl p u).modQueue q _).modPort _) t)

theorem enqueue (h : SendWork p s t) (f : TxFrame) {v : State} (hv : t.enqueue p f = some v) : SendWork p s v := by
  unfold State.enqueue at hv
  extract_lets g c at hv
  split at hv
  · injection hv with hv
    rw [← hv]
    exact (((h.withNet { t.net with nextId := t.net.nextId + 1 } rfl).modQueue _ _).modQueue _ _).joinActive
  · exact absurd hv (by simp)

theorem send (h : SendWork p s t) (f : TxFrame) : SendWork p s (t.send p f) := by
  unfold State.send
  cases hv : t.enqueue p f with
  | none => exact h
  | some v => exact h.enqueue f hv

theorem dict (h : SendWork p s t) : t.dict = s.dict := by
  obtain ⟨n, fr, rfl⟩ := h.frame
  rfl

theorem dev (h : SendWork p s t) : t.dev = s.dev := by
  obtain ⟨n, fr, rfl⟩ := h.frame
  rfl

theorem linkUp (h : SendWork p s t) (m : Nat) : t.linkUp m = s.linkUp m := by
  obtain ⟨n, fr, rfl⟩ := h.frame
  rfl

theorem flailPass (h : SendWork p s t) {alg m : Nat} {v : State} (hv : t.flailPass alg m = some v) : SendWork p s v := by
  unfold State.flailPass at hv
  split at hv
  · rw [Option.map_eq_some_iff] at hv
    obtain ⟨x, -, rfl⟩ := hv
    exact h.withNet _ rfl
  · rw [Option.map_eq_some_iff] at hv
    obtain ⟨x, -, rfl⟩ := hv
    exact h.withNet _ rfl

theorem ptpSign (h : SendWork p s t) {i : Nat} {m b : Bytes} {v : State} (hv : t.ptpSign i m = some (v, b)) : SendWork p s v := by
  unfold State.ptpSign at hv
  split at hv
  · injection hv with hv
    injection hv with hv
    rwa [← hv]
  · split at hv
    · exact absurd hv (by simp)
    · rw [Option.map_eq_some_iff] at hv
      obtain ⟨w, hw, he⟩ := hv
      injection he with he
      rw [← he]
      exact h.flailPass hw

theorem ptpSend (h : SendWork p s t) (i : Nat) (event : Bool) (dst : Bytes × Bytes) (ipcp : Nat) (note : TxNote) (m : Bytes) :
    SendWork p s (t.ptpSend i p event dst ipcp note m).1 := by
  unfold State.ptpSend
  split
  · exact h
  · rename_i v b hv
    split
    · exact h
    · split
      · rename_i w hw
        exact (h.ptpSign hv).enqueue _ hw
      · exact h

theorem sendSignal (h : SendWork p s t) (i : Nat) (dst : Bytes × Bytes) (target tlvs : Bytes) : SendWork p s (t.sendSignal i p dst target tlvs) :=
  (h.modPtp i _).ptpSend i _ _ _ _ _

theorem ucMac (h : SendWork p s t) (i : Nat) (addr : Bytes) : SendWork p s (t.ucMac i addr).1 := by
  unfold State.ucMac
  split
  · exact h
  · exact h.trans ⟨⟨t.net, _, rfl⟩, fun _ _ => rfl⟩

theorem ucRequest (h : SendWork p s t) (i : Nat) (addr : Bytes) (msgs : List Nat) : SendWork p s (t.ucRequest i p addr msgs) :=
  (h.ucMac i addr).sendSignal _ _ _ _

theorem announce (h : SendWork p s t) (i : Nat) : SendWork p s (t.announce p i) := by
  unfold State.announce
  extract_lets e mac a put
  split
  · exact h
  · split
    · exact h.send _
    · split
      · exact h.send _
      · exact h

theorem announceAll (h : SendWork p s t) : SendWork p s (t.announceAll p) := by
  unfold State.announceAll
  split
  · exact h.trans (each _ _ (fun u i _ => (refl p u).announce i) t)
  · exact h

end SendWork

/-! ### Slave ports (R410, R436) -/

/-- The objects that a slave port's coming and going writes. -/
abbrev slaveKeys : List Nat := (List.range 4).flatMap fun i => [Obj.ptp_slave_state.key i 0, Obj.ptp_parent.key i 0, Obj.ptp_gm_class.key i 0]

theorem mem_slaveKeys {k : Nat} : k ∈ slaveKeys ↔
    ∃ i, i < 4 ∧ (k = Obj.ptp_slave_state.key i 0 ∨ k = Obj.ptp_parent.key i 0 ∨ k = Obj.ptp_gm_class.key i 0) := by
  simp [slaveKeys]

theorem not_mem_slaveKeys {k : Nat} (h : k < 0x740000 ∨ 0x750000 ≤ k) : k ∉ slaveKeys := by
  rw [mem_slaveKeys]
  rintro ⟨i, hi, hk⟩
  simp only [Row.key, Obj.ptp_slave_state, Obj.ptp_parent, Obj.ptp_gm_class] at hk
  omega

/-- Of the states `s` and `t`, `t` differs in the slots, the ports' part, but not in a port whose link is down, in the objects of slave ports, and in
the numbers drawn. -/
structure SlaveWork (s t : State) : Prop where
  frame : ∃ v sl n fr, t = { s with dict := { s.dict with val := v }, slots := sl, net := n, fresh := fr }
  down : ∀ p, s.linkUp p = false → t.port p = s.port p
  dict : SameDict s t slaveKeys

namespace SlaveWork

variable {s t u : State}

theorem refl (s : State) : SlaveWork s s := ⟨⟨s.dict.val, s.slots, s.net, s.fresh, rfl⟩, fun _ _ => rfl, .refl s _⟩

theorem dev (h : SlaveWork s t) : t.dev = s.dev := by
  obtain ⟨v, sl, n, fr, rfl⟩ := h.frame
  rfl

theorem linkUp (h : SlaveWork s t) (p : Nat) : t.linkUp p = s.linkUp p := by
  have hk : Obj.mac_link.key p 0 ∉ slaveKeys := by
    rw [mem_slaveKeys]
    rintro ⟨i, hi, hk⟩
    simp only [Row.key, Obj.ptp_slave_state, Obj.ptp_parent, Obj.ptp_gm_class, Obj.mac_link] at hk
    omega
  unfold State.linkUp
  rw [h.dict.valN_eq h.dev hk]

theorem trans (h : SlaveWork s t) (h' : SlaveWork t u) : SlaveWork s u := by
  refine ⟨?_, fun p hp => (h'.down p (by rw [h.linkUp, hp])).trans (h.down p hp), (h.dict.trans h'.dict).mono fun k hk => by simpa using hk⟩
  obtain ⟨v, sl, n, fr, rfl⟩ := h.frame
  obtain ⟨v', sl', n', fr', rfl⟩ := h'.frame
  exact ⟨v', sl', n', fr', rfl⟩

theorem ofSend {p : Nat} (hl : s.linkUp p = true) (h : SendWork p s t) : SlaveWork s t := by
  refine ⟨?_, fun m hm => h.other m fun e => ?_, ?_⟩
  · obtain ⟨n, fr, rfl⟩ := h.frame
    exact ⟨s.dict.val, s.slots, n, fr, rfl⟩
  · rw [e, hl] at hm
    exact absurd hm (by simp)
  · obtain ⟨n, fr, rfl⟩ := h.frame
    exact .refl s _

theorem modPtp (h : SlaveWork s t) (i : Nat) (f : PtpInst → PtpInst) : SlaveWork s (t.modPtp i f) :=
  h.trans ⟨⟨t.dict.val, t.slots, _, t.fresh, rfl⟩, fun _ _ => rfl, .refl t _⟩

theorem modSlot (h : SlaveWork s t) (i : Nat) (f : Slot → Slot) : SlaveWork s (t.modSlot i f) :=
  h.trans ⟨⟨t.dict.val, _, t.net, t.fresh, rfl⟩, fun _ _ => rfl, .refl t _⟩

theorem setVal (h : SlaveWork s t) (r : Row) (i : Nat) (hk : r.key i 0 ∈ slaveKeys) (v : Val) : SlaveWork s (t.setVal r i 0 v) :=
  h.trans ⟨⟨_, t.slots, t.net, t.fresh, rfl⟩, fun _ _ => rfl, (SameDict.refl t _).put hk v⟩

theorem each {α : Type} (F : State → α → State) (l : List α) (hF : ∀ u a, a ∈ l → SlaveWork u (F u a)) : ∀ s, SlaveWork s (s.each l F) := by
  induction l with
  | nil => exact fun s => refl s
  | cons a l ih => exact fun s => (hF s a (.head l)).trans (ih (fun u b hb => hF u b (.tail a hb)) (F s a))

theorem ucCancel (h : SlaveWork s t) (i p : Nat) : SlaveWork s (t.ucCancel i p) := by
  unfold State.ucCancel
  extract_lets gs u
  have hu : SlaveWork s u := h.modPtp i _
  split
  · exact hu
  · rename_i hl
    refine hu.trans (ofSend (by simpa using hl) (SendWork.each _ _ (fun w g _ => ?_) u))
    split
    · exact ((SendWork.refl p w).ucMac i _).sendSignal _ _ _ _
    · exact .refl p w

theorem noParent (h : SlaveWork s t) (i : Nat) (hi : i < 4) : SlaveWork s (t.noParent i) :=
  (((h.modPtp i _).modSlot _ _).setVal _ i (mem_slaveKeys.mpr ⟨i, hi, .inr (.inl rfl)⟩) _).setVal _ i (mem_slaveKeys.mpr ⟨i, hi, .inr (.inr rfl)⟩) _

theorem slaveDown (h : SlaveWork s t) (i : Nat) (hi : i < 4) : SlaveWork s (t.slaveDown i) :=
  (((h.ucCancel i _).noParent i hi).modPtp i _).setVal _ i (mem_slaveKeys.mpr ⟨i, hi, .inl rfl⟩) _

theorem slaveUp (h : SlaveWork s t) (i p : Nat) (hi : i < 4) (hl : t.linkUp p = true) : SlaveWork s (t.slaveUp i p) := by
  unfold State.slaveUp
  extract_lets u
  have htu : SlaveWork t u := ((refl t).modPtp i _).setVal _ i (mem_slaveKeys.mpr ⟨i, hi, .inl rfl⟩) _
  have hu : SlaveWork s u := h.trans htu
  split
  · refine hu.trans (ofSend ((htu.linkUp p).trans hl) (SendWork.each _ _ (fun w m _ => ?_) u))
    split
    · exact (SendWork.refl p w).ucRequest i _ _
    · exact .refl p w
  · exact hu

theorem slaveRefresh (h : SlaveWork s t) (i : Nat) (hi : i < 4) : SlaveWork s (t.slaveRefresh i) := by
  unfold State.slaveRefresh
  extract_lets p want u
  have htu : SlaveWork t u := by
    unfold u
    split
    · exact (refl t).slaveDown i hi
    · exact refl t
  split
  · rename_i hw
    simp only [want, Bool.and_eq_true] at hw
    exact (h.trans htu).slaveUp i p hi ((htu.linkUp p).trans hw.1.1.2)
  · exact h.trans htu

theorem slavesRefresh (s : State) : SlaveWork s s.slavesRefresh := each _ _ (fun u i hi => (refl u).slaveRefresh i (List.mem_range.mp hi)) s

end SlaveWork

/-- Where no PTP clock is enabled and none has a slave port up, none follows. -/
theorem State.slavesRefresh_idle (s : State) (h : ((List.range 4).all fun i => !s.effT Obj.ptp_enable i && s.valN Obj.ptp_slave_state i == 0) = true) :
    s.slavesRefresh = s := by
  have hi (i : Nat) (hi : i < 4) : s.slaveRefresh i = s := by
    have h := List.all_eq_true.mp h i (List.mem_range.mpr hi)
    simp only [Bool.and_eq_true, Bool.not_eq_true', beq_iff_eq] at h
    unfold State.slaveRefresh
    simp [h.1, h.2]
  unfold State.slavesRefresh State.each
  have : ∀ l : List Nat, (∀ i ∈ l, i < 4) → l.foldl (fun s i => s.slaveRefresh i) s = s := by
    intro l
    induction l with
    | nil => exact fun _ => rfl
    | cons a l ih =>
      intro hl
      rw [List.foldl_cons, hi a (hl a (.head l))]
      exact ih fun i hi => hl i (.tail a hi)
  exact this _ fun i hi => List.mem_range.mp hi

end Sys2Proof.Machine

/-! SUPPORT. Links of ports that come up and go down (R317 to R320). -/
namespace Sys2Proof.Machine

/-! ### A transmit buffer that is flushed (R320) -/

/-- Of the states `s` and `t`, `t` differs in ports and status values, in counters of the port's frames and of lost Follow_Ups. -/
structure FlushWork (p : Nat) (s t : State) : Prop where
  frame : ∃ v po, t = { s with dict := { s.dict with val := v }, net := { s.net with ports := po } }
  dict : ∃ ks, SameDict s t ks ∧ ∀ k ∈ ks, k = Obj.mac_tx_flushed.key p 0 ∨ k = Obj.mac_pause_ns.key p 0 ∨ 0x743A00 ≤ k

namespace FlushWork

variable {p : Nat} {s t u : State}

theorem refl (p : Nat) (s : State) : FlushWork p s s := ⟨⟨s.dict.val, s.net.ports, rfl⟩, [], .refl s _, by simp⟩

theorem trans (h : FlushWork p s t) (h' : FlushWork p t u) : FlushWork p s u := by
  constructor
  · obtain ⟨v, po, rfl⟩ := h.frame
    obtain ⟨v', po', rfl⟩ := h'.frame
    exact ⟨v', po', rfl⟩
  · obtain ⟨ks, hd, hk⟩ := h.dict
    obtain ⟨ks', hd', hk'⟩ := h'.dict
    exact ⟨ks ++ ks', hd.trans hd', fun k hm => (List.mem_append.mp hm).elim (hk k) (hk' k)⟩

theorem modPort (h : FlushWork p s t) (m : Nat) (f : Port → Port) : FlushWork p s (t.modPort m f) :=
  h.trans ⟨⟨t.dict.val, _, rfl⟩, [], .refl t _, by simp⟩

theorem count (h : FlushWork p s t) (r : Row) (i j k : Nat)
    (hk : r.key i j = Obj.mac_tx_flushed.key p 0 ∨ r.key i j = Obj.mac_pause_ns.key p 0 ∨ 0x743A00 ≤ r.key i j) : FlushWork p s (t.count r i j k) :=
  h.trans ⟨⟨_, t.net.ports, rfl⟩, [r.key i j], SameDict.count (.refl t _) (by simp) k, by simpa using hk⟩

theorem each {α : Type} (F : State → α → State) (l : List α) (hF : ∀ u a, FlushWork p u (F u a)) : ∀ s, FlushWork p s (s.each l F) := by
  induction l with
  | nil => exact fun s => refl p s
  | cons a l ih => exact fun s => (hF s a).trans (ih (F s a))

theorem missNote (h : FlushWork p s t) (f : TxFrame) : FlushWork p s (t.missNote f) := by
  have hk (u m : Nat) : 0x743A00 ≤ Obj.ptp_followup_missed.key u m := by
    simp only [Row.key, Obj.ptp_followup_missed]
    omega
  unfold State.missNote
  split
  · exact h.count _ _ _ _ (.inr (.inr (hk _ _)))
  · exact h.count _ _ _ _ (.inr (.inr (hk _ _)))
  · exact h

theorem countHold (h : FlushWork p s t) : FlushWork p s (t.countHold p) := by
  unfold State.countHold
  split
  · exact h
  · exact h.count _ _ _ _ (.inr (.inl rfl))

end FlushWork

/-- What a flush leaves of a port's buffer. -/
def Port.flushed (x : Port) : Port :=
  { x with
    cal := [], active := [], pauseFrom := none, pauseOwed := false, pauseNext := none
    queues := x.queues.map fun q => { q with fifo := [], held := false, deficit := 0, granted := false } }

theorem State.flush_spec (s : State) (p : Nat) (hp : p < 9) : FlushWork p s (s.flush p) ∧ ∃ x : Port, (s.flush p).port p = x.flushed := by
  unfold State.flush
  extract_lets x held cal frames u v full w
  have hu : FlushWork p s u := by
    unfold u
    split
    · exact .refl p s
    · exact (FlushWork.refl p s).count _ _ _ _ (.inl rfl)
  have hv : FlushWork p u v := FlushWork.each _ _ (fun y f => ((FlushWork.refl p y).modPort p _).missNote f) u
  have hw : FlushWork p v w := FlushWork.each _ _ (fun y f => (FlushWork.refl p y).modPort p _) v
  exact ⟨(((hu.trans hv).trans hw).countHold).modPort p _, _, State.modPort_port _ _ _ hp⟩

/-- No frame waits in a flushed buffer. -/
theorem Port.flushed_queue (x : Port) (q : Nat) : (vat x.flushed.queues q {}).fifo = [] := by
  unfold vat Port.flushed
  split
  · rw [Vector.getElem_map]
  · rfl

/-! ### The obligation -/

theorem linkKeys_not_mem (p q : Nat) (hq : q < 9) : Obj.mac_link.key p 0 ∉ calDoneKeys q ∧ Obj.mac_link_downs.key p 0 ∉ calDoneKeys q := by
  unfold calDoneKeys
  rw [if_pos hq]
  simp only [List.mem_cons, List.not_mem_nil, or_false, not_or, Row.key, Obj.mac_link, Obj.mac_link_downs, Obj.stamp_cal_state, Obj.stamp_rx_cal, Obj.stamp_tx_cal,
    Obj.stamp_accuracy, Obj.stamp_calibrate]
  omega

/-- The keys that bringing a lane to a calibration state writes, of a port. -/
theorem calKeys_sub (p : Nat) (hp : p < 9) : ∀ k ∈ (calStateKey p :: calKeys p) ++ [Obj.stamp_calibrate.key p 0], k ∈ calDoneKeys p := by
  intro k hk
  unfold calStateKey calKeys at hk
  unfold calDoneKeys
  simp only [if_pos hp, List.mem_append, List.mem_cons, List.not_mem_nil, or_false] at hk ⊢
  tauto

/-- A frame of the dictionary leaves what is configured and in effect. -/
theorem SameDict.dict_eq {s t : State} {ks : List Nat} (h : SameDict s t ks) : t.dict = { s.dict with val := t.dict.val } := by
  obtain ⟨hc, he, -⟩ := h
  dsimp only
  rw [← hc, ← he]

/-- A port whose calibration is reset. -/
theorem State.resetCal_spec (s : State) (p : Nat) (hp : p < 9) (t : State) (ht : (s.setCal p 0).endCalibrate p 3 = t) :
    (∃ v la, t = { s with dict := { s.dict with val := v }, lanes := la }) ∧ t.calState p = 0 ∧ (t.lane p).locked = (s.lane p).locked ∧
      SameDict s t (calDoneKeys p) := by
  obtain ⟨⟨⟨di, la, h1⟩, ⟨us, h2⟩, h3, h4⟩, h5, -⟩ := s.setCal_spec p 0 (by omega) 0 0 rfl
  obtain ⟨⟨di', e1⟩, e2, -⟩ := (s.setCal p 0).endCalibrate_spec p 3
  have hd := SameDict.trans h4 (e2 hp)
  rw [ht] at e1 e2 hd
  generalize s.setCal p 0 = u at *
  have hstate : t.calState p = u.calState p := (e2 hp).calState_eq (by rw [e1]) (by
    unfold calStateKey
    rw [if_pos hp]
    simp only [List.mem_singleton, Row.key, Obj.stamp_cal_state, Obj.stamp_calibrate]
    omega)
  have hlane : (t.lane p).locked = (s.lane p).locked := by
    have hln : t.lane = u.lane := by rw [e1]; rfl
    rw [hln, h2]
  have hdi : t.dict = { s.dict with val := t.dict.val } := hd.dict_eq
  refine ⟨⟨t.dict.val, la, ?_⟩, hstate.trans h5, hlane, hd.mono (calKeys_sub p hp)⟩
  rw [← hdi, e1, h1]

theorem srcKey_high (n : Nat) : 0x6C0000 ≤ srcKey n := by
  simp only [srcKey, Row.key, Obj.win_src_state]
  omega

/-- A link goes down. -/
theorem State.linkDown_spec (s : State) (p : Nat) (hp : p < 9) (hm : s.mode p ≠ 0) (hc : (vat s.win.srcs (263 + p) {}).cond = false)
    (hr : CanRaise s (263 + p)) (t : State) (ht : s.linkDown p = t) :
    t.linkUp p = false ∧ t.calState p = 0 ∧ (t.lane p).locked = false ∧ t.valN Obj.mac_link_downs p = min (s.valN Obj.mac_link_downs p + 1) (2 ^ 64 - 1) ∧
      (∃ x : Port, t.port p = { x.flushed with taking := false }) ∧ (vat t.win.srcs (263 + p) {}).cond = true ∧
      t.win.now = s.win.now ++ [(263 + p, ({} : FaultInfo))] ∧
      ∃ v la n w, t = { s with dict := { s.dict with val := v }, lanes := la, net := n, win := w } := by
  unfold State.linkDown at ht
  dsimp only at ht
  have hlink : ((s.setN Obj.mac_link 0 p).setN Obj.mac_an_result 0 p).valN Obj.mac_link p = 0 := by
    rw [State.valN_setN_other _ _ _ _ _ _ _ _ (by simp only [ne_eq, Row.key, Obj.mac_link, Obj.mac_an_result]; omega)]
    exact State.valN_setN _ _ _ _ _
  have hold : ((s.setN Obj.mac_link 0 p).setN Obj.mac_an_result 0 p).valN Obj.mac_link_downs p = s.valN Obj.mac_link_downs p := by
    rw [State.valN_setN_other _ _ _ _ _ _ _ _ (by simp only [ne_eq, Row.key, Obj.mac_link_downs, Obj.mac_an_result]; omega),
      State.valN_setN_other _ _ _ _ _ _ _ _ (by simp only [ne_eq, Row.key, Obj.mac_link_downs, Obj.mac_link]; omega)]
  have ha : ∃ v, (s.setN Obj.mac_link 0 p).setN Obj.mac_an_result 0 p = { s with dict := { s.dict with val := v } } := ⟨_, rfl⟩
  generalize (s.setN Obj.mac_link 0 p).setN Obj.mac_an_result 0 p = a at *
  have hcl : (a.count Obj.mac_link_downs p).valN Obj.mac_link p = 0 := by
    rw [State.count_keeps _ _ (by simp only [ne_eq, Row.key, Obj.mac_link, Obj.mac_link_downs]; omega), hlink]
  have hcd := a.count_u64 Obj.mac_link_downs p 0 1 rfl
  rw [hold] at hcd
  have hb : ∃ v, a.count Obj.mac_link_downs p = { s with dict := { s.dict with val := v } } := by
    obtain ⟨v, rfl⟩ := ha
    exact ⟨_, rfl⟩
  generalize a.count Obj.mac_link_downs p = b at *
  obtain ⟨⟨hff, ks, hfd, hfk⟩, x, hx⟩ := b.flush_spec p hp
  have hfdev : (b.flush p).dev = b.dev := by
    obtain ⟨v, po, hff⟩ := hff
    rw [hff]
  have hnot (r : Row) (h0 : r.key p 0 < 0x743A00) (h1 : r.key p 0 ≠ Obj.mac_tx_flushed.key p 0) (h2 : r.key p 0 ≠ Obj.mac_pause_ns.key p 0) : r.key p 0 ∉ ks := by
    intro h
    rcases hfk _ h with h | h | h
    · exact h1 h
    · exact h2 h
    · omega
  have hfl := hfd.valN_eq (r := Obj.mac_link) (i := p) (j := 0) hfdev (hnot _ (by simp only [Row.key, Obj.mac_link]; omega)
    (by simp only [ne_eq, Row.key, Obj.mac_link, Obj.mac_tx_flushed]; omega) (by simp only [ne_eq, Row.key, Obj.mac_link, Obj.mac_pause_ns]; omega))
  have hfc := hfd.valN_eq (r := Obj.mac_link_downs) (i := p) (j := 0) hfdev (hnot _ (by simp only [Row.key, Obj.mac_link_downs]; omega)
    (by simp only [ne_eq, Row.key, Obj.mac_link_downs, Obj.mac_tx_flushed]; omega) (by simp only [ne_eq, Row.key, Obj.mac_link_downs, Obj.mac_pause_ns]; omega))
  rw [hcl] at hfl
  rw [hcd] at hfc
  have hg : ∃ v n, b.flush p = { s with dict := { s.dict with val := v }, net := n } := by
    obtain ⟨v, rfl⟩ := hb
    obtain ⟨v', po, hff⟩ := hff
    exact ⟨v', _, hff⟩
  generalize b.flush p = f at *
  clear hff hfd hfdev hcl hcd hb hold hlink ha
  have hcl : ((f.modLane p fun x => { x with locked := false }).modPort p fun x => { x with taking := false }).lane p = { f.lane p with locked := false } :=
    f.modLane_lane p _ (by omega)
  have hcp : ((f.modLane p fun x => { x with locked := false }).modPort p fun x => { x with taking := false }).port p = { x.flushed with taking := false } := by
    rw [State.modPort_port _ _ _ hp]
    exact congrArg (fun y : Port => { y with taking := false }) hx
  have hcv (r : Row) : ((f.modLane p fun x => { x with locked := false }).modPort p fun x => { x with taking := false }).valN r p = f.valN r p := rfl
  have hcf : ∃ v la n, ((f.modLane p fun x => { x with locked := false }).modPort p fun x => { x with taking := false }) =
      { s with dict := { s.dict with val := v }, lanes := la, net := n } := by
    obtain ⟨v, n, rfl⟩ := hg
    exact ⟨_, _, _, rfl⟩
  generalize ((f.modLane p fun x => { x with locked := false }).modPort p fun x => { x with taking := false }) = c at *
  rw [← hcv] at hfl hfc
  obtain ⟨⟨v1, la1, d1⟩, d2, d3, d4⟩ := c.resetCal_spec p hp _ rfl
  generalize (c.setCal p 0).endCalibrate p 3 = d at *
  obtain ⟨hk1, hk2⟩ := linkKeys_not_mem p p hp
  have hdl := (d4.valN_eq (r := Obj.mac_link) (i := p) (j := 0) (by rw [d1]) hk1).trans hfl
  have hdc := (d4.valN_eq (r := Obj.mac_link_downs) (i := p) (j := 0) (by rw [d1]) hk2).trans hfc
  have hdp : d.port p = c.port p := by rw [d1]; rfl
  have hdw : d.win = s.win ∧ d.mode p = s.mode p ∧ ∃ v la n, d = { s with dict := { s.dict with val := v }, lanes := la, net := n } := by
    obtain ⟨v, la, n, hcf⟩ := hcf
    rw [d1, hcf]
    exact ⟨rfl, rfl, _, _, _, rfl⟩
  obtain ⟨hw, hmode, hdf⟩ := hdw
  have hset : d.condSet (263 + p) (d.mode p != 0) = d.condBegin (263 + p) := if_pos (by rw [hmode]; simpa using hm)
  rw [hset] at ht
  obtain ⟨⟨-, hnow, -⟩, hcond, hsd, w, v, hfr⟩ := d.condBegin_taken (263 + p) {} (by rw [hw]; exact hc) (by unfold CanRaise; rw [hw]; exact hr)
  rw [ht] at hnow hcond hsd hfr
  have hkey (r : Row) (h : r.key p 0 < 0x6C0000) : r.key p 0 ∉ [srcKey (263 + p)] := by
    have := srcKey_high (263 + p)
    simp only [List.mem_singleton]
    omega
  have htl := hsd.valN_eq (r := Obj.mac_link) (i := p) (j := 0) (by rw [hfr]) (hkey _ (by simp only [Row.key, Obj.mac_link]; omega))
  have htc := hsd.valN_eq (r := Obj.mac_link_downs) (i := p) (j := 0) (by rw [hfr]) (hkey _ (by simp only [Row.key, Obj.mac_link_downs]; omega))
  have hts : t.calState p = d.calState p := hsd.calState_eq (by rw [hfr]) (by
    unfold calStateKey
    rw [if_pos hp]
    exact hkey _ (by simp only [Row.key, Obj.stamp_cal_state]; omega))
  have htp : t.port p = d.port p ∧ t.lane p = d.lane p := by rw [hfr]; exact ⟨rfl, rfl⟩
  refine ⟨?_, hts.trans d2, ?_, htc.trans hdc, ⟨x, by rw [htp.1, hdp, hcp]⟩, hcond, by rw [hnow, hw], ?_⟩
  · unfold State.linkUp
    rw [htl, hdl]
    rfl
  · rw [htp.2, d3, hcl]
  · obtain ⟨v', la, n, rfl⟩ := hdf
    exact ⟨v, la, n, w, hfr⟩

/-- A link comes up. -/
theorem State.linkRise_spec (s : State) (p : Nat) (hp : p < 9) (hr : s.macsRun = true) (hm : s.mode p ≠ 0) (hl : s.linkUp p = false) (t : State)
    (ht : s.linkRise p = t) :
    t.linkUp p = true ∧ t.calState p = 1 ∧ (t.lane p).calStart = s.tc.cyc ∧ (t.lane p).locked = true ∧ (vat t.win.srcs (263 + p) {}).cond = false ∧
      ∃ v la n w fr, t = { s with dict := { s.dict with val := v }, lanes := la, net := n, win := w, fresh := fr } := by
  unfold State.linkRise at ht
  rw [if_pos (by simp [hr, hm, hl])] at ht
  dsimp only at ht
  have ha : ∃ v, (s.setN Obj.mac_link 1 p).setN Obj.mac_an_result (if (s.setN Obj.mac_link 1 p).negotiates p then 1 else 0) p =
      { s with dict := { s.dict with val := v } } := ⟨_, rfl⟩
  have hlink : ((s.setN Obj.mac_link 1 p).setN Obj.mac_an_result (if (s.setN Obj.mac_link 1 p).negotiates p then 1 else 0) p).valN Obj.mac_link p = 1 := by
    rw [State.valN_setN_other _ _ _ _ _ _ _ _ (by simp only [ne_eq, Row.key, Obj.mac_link, Obj.mac_an_result]; omega)]
    exact State.valN_setN _ _ _ _ _
  generalize (s.setN Obj.mac_link 1 p).setN Obj.mac_an_result (if (s.setN Obj.mac_link 1 p).negotiates p then 1 else 0) p = a at *
  have hb : ((a.modLane p fun x => { x with locked := true, lockedAt := a.tc.cyc }).lane p).locked = true := by
    rw [a.modLane_lane p _ (by omega)]
  have hbf : ∃ v la, a.modLane p (fun x => { x with locked := true, lockedAt := a.tc.cyc }) = { s with dict := { s.dict with val := v }, lanes := la } := by
    obtain ⟨v, rfl⟩ := ha
    exact ⟨_, _, rfl⟩
  have hbl : (a.modLane p fun x => { x with locked := true, lockedAt := a.tc.cyc }).valN Obj.mac_link p = 1 := hlink
  generalize (a.modLane p fun x => { x with locked := true, lockedAt := a.tc.cyc }) = b at *
  obtain ⟨-, hcond, -, w, hce⟩ := b.condEnd_spec (263 + p) (by omega)
  rw [hce] at hcond ht
  have hcl : State.lane { b with win := { b.win with srcs := w } } p = b.lane p := rfl
  have hcv : State.valN { b with win := { b.win with srcs := w } } Obj.mac_link p = 1 := hbl
  have hcf : ∃ v la wn, ({ b with win := { b.win with srcs := w } } : State) = { s with dict := { s.dict with val := v }, lanes := la, win := wn } := by
    obtain ⟨v, la, rfl⟩ := hbf
    exact ⟨_, _, _, rfl⟩
  generalize ({ b with win := { b.win with srcs := w } } : State) = c at *
  unfold State.beginCal at ht
  have hdl : (c.modLane p fun x => { x with calStart := c.tc.cyc }).lane p = { c.lane p with calStart := c.tc.cyc } := c.modLane_lane p _ (by omega)
  have hdv : (c.modLane p fun x => { x with calStart := c.tc.cyc }).valN Obj.mac_link p = 1 := hcv
  have hdf : ∃ la, (c.modLane p fun x => { x with calStart := c.tc.cyc }) = { c with lanes := la } := ⟨_, rfl⟩
  generalize (c.modLane p fun x => { x with calStart := c.tc.cyc }) = d at *
  obtain ⟨⟨⟨di, la, e1⟩, ⟨us, e2⟩, -, e4⟩, e5, -⟩ := d.setCal_spec p 1 (by omega) 0 0 rfl
  have hdi := e4.dict_eq
  generalize d.setCal p 1 = e at *
  have hel := (e4.valN_eq (r := Obj.mac_link) (i := p) (j := 0) (by rw [e1])
    fun h => (linkKeys_not_mem p p hp).1 (calKeys_sub p hp _ (List.mem_append_left _ h))).trans hdv
  have hs := (SendWork.refl p e).announceAll
  rw [ht] at hs
  obtain ⟨n, fr, hf⟩ := hs.frame
  have htl : t.lane p = e.lane p := by rw [hf]; rfl
  have hwin : t.win = c.win ∧ c.tc = s.tc := by
    obtain ⟨la', rfl⟩ := hdf
    obtain ⟨v, la'', w', rfl⟩ := hcf
    exact ⟨by rw [hf, e1], rfl⟩
  refine ⟨?_, ?_, ?_, ?_, by rw [hwin.1]; exact hcond, ?_⟩
  · rw [hs.linkUp, State.linkUp, hel]
    rfl
  · rw [hf]
    exact e5
  · rw [htl, e2, hdl, ← hwin.2]
  · rw [htl, e2, hdl, hcl]
    exact hb
  · have hev : e.dict = { d.dict with val := e.dict.val } := hdi
    obtain ⟨la', rfl⟩ := hdf
    obtain ⟨v, la'', w', rfl⟩ := hcf
    refine ⟨e.dict.val, la, n, w', fr, ?_⟩
    rw [hf, e1]
    rw [e1] at hev
    dsimp only at hev ⊢
    rw [← hev]

/-- What a slave port's following leaves of a port, of its lane and of its status. -/
theorem SlaveWork.keeps {s t : State} (h : SlaveWork s t) (p : Nat) (hp : p < 9) :
    t.linkUp p = s.linkUp p ∧ t.calState p = s.calState p ∧ t.lane p = s.lane p ∧ t.win = s.win ∧
      t.valN Obj.mac_link_downs p = s.valN Obj.mac_link_downs p := by
  have hk : ∀ k ∈ [calStateKey p, Obj.mac_link_downs.key p 0], k ∉ slaveKeys := by
    intro k hk
    rw [mem_slaveKeys]
    unfold calStateKey at hk
    simp only [if_pos hp, List.mem_cons, List.not_mem_nil, or_false, Row.key, Obj.stamp_cal_state, Obj.mac_link_downs, Obj.ptp_slave_state, Obj.ptp_parent,
      Obj.ptp_gm_class] at hk ⊢
    rintro ⟨i, hi, h⟩
    omega
  refine ⟨h.linkUp p, h.dict.calState_eq h.dev (hk _ (by simp)), ?_, ?_, h.dict.valN_eq h.dev (hk _ (by simp))⟩
  · obtain ⟨v, sl, n, fr, hf⟩ := h.frame
    rw [hf]
    rfl
  · obtain ⟨v, sl, n, fr, hf⟩ := h.frame
    rw [hf]

/-- Counting and showing a refusal leaves the slave ports. -/
theorem State.slavesRefresh_idle_of {s t : State} {p : Nat} (hd : SameDict s t [Obj.mac_an_result.key p 0, Obj.mac_link_downs.key p 0])
    (hf : ∃ di, t = { s with dict := di })
    (h : ((List.range 4).all fun i => !s.effT Obj.ptp_enable i && s.valN Obj.ptp_slave_state i == 0) = true) : t.slavesRefresh = t := by
  have hdev : t.dev = s.dev := by
    obtain ⟨di, rfl⟩ := hf
    rfl
  refine t.slavesRefresh_idle ?_
  rw [List.all_eq_true] at h ⊢
  intro i hi
  have hi4 := List.mem_range.mp hi
  rw [hd.effT_eq hdev, hd.valN_eq hdev (by simp only [List.mem_cons, List.not_mem_nil, or_false, Row.key, Obj.ptp_slave_state, Obj.mac_an_result, Obj.mac_link_downs]; omega)]
  exact h i hi

/-- Settles O39: links as they rise, are refused and fall; what the slave ports do then leaves the port and its status. -/
theorem linksUpAndDown : Obligations.LinksUpAndDown := by
  have hkd (p : Nat) (hp : p < 9) : Obj.mac_an_result.key p 0 ≠ Obj.mac_link_downs.key p 0 := by
    simp only [ne_eq, Row.key, Obj.mac_an_result, Obj.mac_link_downs]
    omega
  unfold Obligations.LinksUpAndDown
  refine ⟨?up, ?early, ?refused, ?failed, ?down, ?stays⟩
  case up =>
    intro s p held neg hd hr hm hl hneg
    have heq : linkUpEff p held neg s = s.linkRise p := by
      unfold linkUpEff
      rw [if_neg, if_pos hd]
      rintro ⟨h0, hn⟩
      rcases hneg with h | h
      · exact h0 (by rw [h]; rfl)
      · rw [h] at hn
        exact absurd hn (by simp)
    obtain ⟨h1, h2, h3, h4, h5, v, la, n, w, fr, hf⟩ := s.linkRise_spec p p.isLt hr hm hl _ rfl
    have hx : exec (.linkUp p neg held) s = .next (s.linkRise p).slavesRefresh := next_of_eq (congrArg State.slavesRefresh heq)
    have hw := SlaveWork.slavesRefresh (s.linkRise p)
    obtain ⟨k1, k2, k3, k4, -⟩ := hw.keeps p p.isLt
    obtain ⟨v', sl, n', fr', hf'⟩ := hw.frame
    generalize s.linkRise p = u at *
    generalize u.slavesRefresh = t at *
    refine ⟨t, hx, k1.trans h1, k2.trans h2, by rw [k3, h3], by rw [k3, h4], by rw [k4, h5], ?_⟩
    subst hf
    exact ⟨by rw [hf'], by rw [hf'], by rw [hf']⟩
  case early =>
    intro s p held hh hi
    have heq : linkUpEff p held 0 s = s := by
      unfold linkUpEff
      rw [if_neg (by simp), if_neg (by omega)]
    exact ⟨s, next_of_eq ((congrArg State.slavesRefresh heq).trans (s.slavesRefresh_idle hi)), rfl⟩
  case refused =>
    intro s p held hr hm hn hl hi
    have heq : linkUpEff p held 1 s = (s.count Obj.mac_link_downs p).setN Obj.mac_an_result 2 p := by
      unfold linkUpEff
      rw [if_pos ⟨by decide, hn⟩, State.negRefused, if_pos hr]
      simp [hl, hm]
    have hd : SameDict s ((s.count Obj.mac_link_downs p).setN Obj.mac_an_result 2 p) [Obj.mac_an_result.key p 0, Obj.mac_link_downs.key p 0] :=
      (SameDict.count (SameDict.refl s _) (by simp) 1).putN (by simp) _
    refine ⟨_, next_of_eq ((congrArg State.slavesRefresh heq).trans (State.slavesRefresh_idle_of hd ⟨_, rfl⟩ hi)), State.valN_setN _ _ _ _ _, ?_, rfl, hd⟩
    rw [State.valN_setN_other _ _ _ _ _ _ _ _ (hkd p p.isLt).symm]
    exact s.count_u64 Obj.mac_link_downs p 0 1 rfl
  case failed =>
    intro s p held hr hn hl hi
    have heq : linkUpEff p held 2 s = s.setN Obj.mac_an_result 3 p := by
      unfold linkUpEff
      rw [if_pos ⟨by decide, hn⟩, State.negRefused, if_pos hr]
      simp [hl]
    have hd : SameDict s (s.setN Obj.mac_an_result 3 p) [Obj.mac_an_result.key p 0] := (SameDict.refl s _).putN (by simp) _
    refine ⟨_, next_of_eq ((congrArg State.slavesRefresh heq).trans (State.slavesRefresh_idle_of (p := p) (hd.mono (by simp)) ⟨_, rfl⟩ hi)),
      State.valN_setN _ _ _ _ _, rfl, hd⟩
  case down =>
    intro s p failed hl hd hm hc hr
    have heq : linkDownEff p failed s = s.linkDown p := by
      unfold linkDownEff
      rw [if_pos (by simp [hl, hd])]
    obtain ⟨h1, h2, h3, h4, ⟨x, h5⟩, h6, h7, v, la, n, w, hf⟩ := s.linkDown_spec p p.isLt hm hc hr _ rfl
    have hx : exec (.linkDown p failed) s = .next (s.linkDown p).slavesRefresh := next_of_eq (congrArg State.slavesRefresh heq)
    have hw := SlaveWork.slavesRefresh (s.linkDown p)
    obtain ⟨k1, k2, k3, k4, k5⟩ := hw.keeps p p.isLt
    have k6 := hw.down p h1
    obtain ⟨v', sl, n', fr', hf'⟩ := hw.frame
    generalize s.linkDown p = u at *
    generalize u.slavesRefresh = t at *
    rw [h5] at k6
    refine ⟨t, hx, k1.trans h1, k2.trans h2, by rw [k3, h3], k5.trans h4, by rw [k6]; rfl, fun q => ?_, by rw [k4, h6], by rw [k4, h7], ?_⟩
    · unfold State.queue
      rw [k6]
      exact x.flushed_queue q
    · subst hf
      exact ⟨by rw [hf'], by rw [hf'], by rw [hf']⟩
  case stays =>
    intro s p failed h hi
    have heq : linkDownEff p failed s = s := by
      unfold linkDownEff
      rw [if_neg]
      rcases h with h | h
      · simp [h]
      · simp only [Bool.and_eq_true, decide_eq_true_eq, not_and]
        omega
    exact ⟨s, next_of_eq ((congrArg State.slavesRefresh heq).trans (s.slavesRefresh_idle hi)), rfl⟩

end Sys2Proof.Machine

/-! SUPPORT. Frames that enter a queue, and frames of the host (R346, R347, R350). -/
namespace Sys2Proof.Machine

/-! ### A queue that a frame enters -/

/-- Of the states `s` and `t`, `t` differs in the credit and the active list of port `p`. -/
structure ActiveWork (p : Nat) (s t : State) : Prop where
  frame : ∃ po, t = { s with net := { s.net with ports := po } }
  other : ∀ m, m ≠ p → t.port m = s.port m
  port : ∃ qs ac, t.port p = { s.port p with queues := qs, active := ac }
  fifo : ∀ q, (t.queue p q).fifo = (s.queue p q).fifo ∧ (t.queue p q).used = (s.queue p q).used ∧ (t.queue p q).held = (s.queue p q).held

namespace ActiveWork

variable {p : Nat} {s t u : State}

theorem refl (p : Nat) (s : State) : ActiveWork p s s := ⟨⟨s.net.ports, rfl⟩, fun _ _ => rfl, ⟨_, _, rfl⟩, fun _ => ⟨rfl, rfl, rfl⟩⟩

theorem trans (h : ActiveWork p s t) (h' : ActiveWork p t u) : ActiveWork p s u := by
  refine ⟨?_, fun m hm => (h'.other m hm).trans (h.other m hm), ?_, fun q => ?_⟩
  · obtain ⟨po, rfl⟩ := h.frame
    obtain ⟨po', rfl⟩ := h'.frame
    exact ⟨po', rfl⟩
  · obtain ⟨qs, ac, hp⟩ := h.port
    obtain ⟨qs', ac', hp'⟩ := h'.port
    exact ⟨qs', ac', by rw [hp', hp]⟩
  · obtain ⟨h1, h2, h3⟩ := h.fifo q
    obtain ⟨k1, k2, k3⟩ := h'.fifo q
    exact ⟨k1.trans h1, k2.trans h2, k3.trans h3⟩

theorem modActive (h : ActiveWork p s t) (hp : p < 9) (f : List Nat → List Nat) : ActiveWork p s (t.modPort p fun x => { x with active := f x.active }) := by
  have hx := t.modPort_port p (fun x => { x with active := f x.active }) hp
  refine h.trans ⟨⟨_, rfl⟩, t.modPort_port_other p _, ⟨_, _, hx⟩, fun q => ?_⟩
  unfold State.queue
  rw [hx]
  exact ⟨rfl, rfl, rfl⟩

end ActiveWork

theorem State.modQueue_port (s : State) (p q : Nat) (f : Queue → Queue) (hp : p < 9) :
    (s.modQueue p q f).port p = { s.port p with queues := vmod (s.port p).queues q f } := s.modPort_port p _ hp

theorem State.modQueue_queue (s : State) (p q : Nat) (f : Queue → Queue) (hp : p < 9) (hq : q < 8) : (s.modQueue p q f).queue p q = f (s.queue p q) := by
  unfold State.queue
  rw [s.modQueue_port p q f hp]
  exact vat_vmod_same _ _ _ _ hq

theorem State.modQueue_queue_other (s : State) (p q : Nat) (f : Queue → Queue) (hp : p < 9) (k : Nat) (hk : k ≠ q) :
    (s.modQueue p q f).queue p k = s.queue p k := by
  unfold State.queue
  rw [s.modQueue_port p q f hp]
  exact vat_vmod_other _ _ _ hk

namespace ActiveWork

variable {p : Nat} {s t u : State}

theorem freshTurn (h : ActiveWork p s t) (hp : p < 9) (q : Nat) : ActiveWork p s (t.modQueue p q fun x => { x with deficit := 0, granted := false }) := by
  refine h.trans ⟨⟨_, rfl⟩, t.modPort_port_other p _, ⟨_, _, t.modQueue_port p q _ hp⟩, fun k => ?_⟩
  by_cases hk : k = q
  · subst hk
    by_cases h8 : k < 8
    · rw [t.modQueue_queue p k _ hp h8]
      exact ⟨rfl, rfl, rfl⟩
    · have hq : (t.modQueue p k fun x => { x with deficit := 0, granted := false }).queue p k = t.queue p k := by
        unfold State.queue
        rw [t.modQueue_port p k _ hp]
        unfold vat
        rw [dif_neg h8, dif_neg h8]
      rw [hq]
      exact ⟨rfl, rfl, rfl⟩
  · rw [t.modQueue_queue_other p q _ hp k hk]
    exact ⟨rfl, rfl, rfl⟩

theorem joinActive (hp : p < 9) (s : State) : ActiveWork p s (s.joinActive p) := by
  unfold State.joinActive State.each
  extract_lets new
  generalize new.foldl (fun l q => insertQueue (s.creditAt p) q l) [] = l
  clear_value new
  induction l generalizing s with
  | nil => exact refl p s
  | cons q l ih => exact (((refl p s).freshTurn hp q).modActive hp fun a => a ++ [q]).trans (ih _)

end ActiveWork

/-- A frame as it stands in a queue. -/
abbrev TxFrame.queued (f : TxFrame) (id : Nat) : TxFrame := { f with id := id, bytes := padTo 60 f.bytes }

/-- The state in which a frame has its place and its cells, before the active list is looked at. -/
def State.entered (s : State) (p : Nat) (f : TxFrame) : State :=
  (({ s with net := { s.net with nextId := s.net.nextId + 1 } } : State).modQueue p f.queue fun x =>
    { x with fifo := x.fifo ++ [f.queued s.net.nextId] }).useCells p f.queue (cellsOf ((padTo 60 f.bytes).length + 4))

theorem State.enqueue_eq (s : State) (p : Nat) (f : TxFrame) :
    s.enqueue p f = if cellsOf ((padTo 60 f.bytes).length + 4) ≤ s.freeCells p f.queue then some ((s.entered p f).joinActive p) else none := rfl

/-- A frame that finds its cells enters its queue. -/
theorem State.enqueue_spec (s : State) (p : Nat) (f : TxFrame) (hp : p < 9) (hq : f.queue < 8)
    (hc : cellsOf ((padTo 60 f.bytes).length + 4) ≤ s.freeCells p f.queue) :
    ∃ t, s.enqueue p f = some t ∧ (t.queue p f.queue).fifo = (s.queue p f.queue).fifo ++ [{ f with id := s.net.nextId, bytes := padTo 60 f.bytes }] ∧
      (∀ k, k ≠ f.queue → (t.queue p k).fifo = (s.queue p k).fifo) ∧ (∀ m, m ≠ p → t.port m = s.port m) ∧
      (∃ qs ac, t.port p = { s.port p with queues := qs, active := ac }) ∧
      ∃ po, t = { s with net := { s.net with ports := po, nextId := s.net.nextId + 1 } } := by
  rw [s.enqueue_eq, if_pos hc]
  have hw := ActiveWork.joinActive hp (s.entered p f)
  have hvq : ((s.entered p f).queue p f.queue).fifo = (s.queue p f.queue).fifo ++ [f.queued s.net.nextId] := by
    unfold State.entered State.useCells
    rw [State.modQueue_queue _ _ _ _ hp hq, State.modQueue_queue _ _ _ _ hp hq]
    rfl
  have hvo (k : Nat) (hk : k ≠ f.queue) : (s.entered p f).queue p k = s.queue p k := by
    unfold State.entered State.useCells
    rw [State.modQueue_queue_other _ _ _ _ hp k hk, State.modQueue_queue_other _ _ _ _ hp k hk]
    rfl
  have hvm (m : Nat) (hm : m ≠ p) : (s.entered p f).port m = s.port m := (State.modPort_port_other _ _ _ m hm).trans (State.modPort_port_other _ _ _ m hm)
  have hvp : ∃ qs, (s.entered p f).port p = { s.port p with queues := qs } := by
    unfold State.entered State.useCells
    rw [State.modQueue_port _ _ _ _ hp, State.modQueue_port _ _ _ _ hp]
    exact ⟨_, rfl⟩
  have hvf : ∃ po, s.entered p f = { s with net := { s.net with ports := po, nextId := s.net.nextId + 1 } } := ⟨_, rfl⟩
  generalize s.entered p f = v at *
  refine ⟨_, rfl, ?_, fun k hk => ?_, fun m hm => (hw.other m hm).trans (hvm m hm), ?_, ?_⟩
  · rw [(hw.fifo f.queue).1, hvq]
  · rw [(hw.fifo k).1, hvo k hk]
  · obtain ⟨qs, ac, hp'⟩ := hw.port
    obtain ⟨qs', hv⟩ := hvp
    exact ⟨qs, ac, by rw [hp', hv]⟩
  · obtain ⟨po, hf⟩ := hw.frame
    obtain ⟨po', rfl⟩ := hvf
    exact ⟨po, hf⟩

/-- A frame that finds no cells does not enter. -/
theorem State.enqueue_none (s : State) (p : Nat) (f : TxFrame) (hc : s.freeCells p f.queue < cellsOf ((padTo 60 f.bytes).length + 4)) : s.enqueue p f = none :=
  if_neg (Nat.not_le.mpr hc)

/-! ### The obligation -/

/-- What the checks of a frame of the host leave. -/
theorem State.checkSend_spec (s : State) (b : Bytes) (p : Nat) (x : TxFrame) (h : s.checkSend b = some (p, x)) :
    p < 8 ∧ x.queue < 8 ∧ x.tag = field (b.drop 14) 6 2 ∧ x.bytes = slice b 38 (field (b.drop 14) 4 2) := by
  unfold State.checkSend at h
  extract_lets y port len carried req one enc so co good at h
  split at h
  · rename_i hg
    simp only [good, Bool.and_eq_true, decide_eq_true_eq] at hg
    injection h with h
    injection h with h1 h2
    subst h1 h2
    obtain ⟨⟨⟨⟨⟨⟨⟨⟨⟨⟨⟨⟨-, -⟩, -⟩, hp⟩, hq⟩, -⟩, -⟩, -⟩, -⟩, -⟩, -⟩, -⟩, -⟩ := hg
    exact ⟨hp, hq, rfl, rfl⟩
  · exact absurd h (by simp)

/-- Taking a waiting frame leaves the queues. -/
theorem State.takeRx_queue (s : State) (f : RxFrame) (p q : Nat) : (s.takeRx f).queue p q = s.queue p q := by
  obtain ⟨r, hr⟩ := s.takeRx_port f p
  unfold State.queue
  rw [hr]

theorem State.takeRx_freeCells (s : State) (f : RxFrame) (p q : Nat) : (s.takeRx f).freeCells p q = s.freeCells p q := by
  unfold State.freeCells
  simp only [s.takeRx_queue]
  rfl

theorem hpSendEff_none (s : State) (h : s.nextRx .send = none) : hpSendEff s = s := by
  unfold hpSendEff
  rw [h]

theorem hpSendEff_bad (s : State) (f : RxFrame) (h : s.nextRx .send = some f) (hc : s.checkSend f.bytes = none) :
    hpSendEff s = ((s.takeRx f).count Obj.hp_bad_send).discard 8 := by
  have hc' : (s.takeRx f).checkSend f.bytes = none := hc
  unfold hpSendEff
  rw [h]
  dsimp only
  rw [hc']

theorem hpSendEff_good (s : State) (f : RxFrame) (p : Nat) (x : TxFrame) (h : s.nextRx .send = some f) (hc : s.checkSend f.bytes = some (p, x)) :
    hpSendEff s = if !s.linkUp p then ((s.takeRx f).count Obj.mac_tx_drop_full p).discard 8 else
      match (s.takeRx f).enqueue p x with
      | some s => s.count Obj.mac_rx_served 8
      | none => ((s.takeRx f).count Obj.mac_tx_drop_full p).discard 8 := by
  have hc' : (s.takeRx f).checkSend f.bytes = some (p, x) := hc
  unfold hpSendEff
  rw [h]
  dsimp only
  rw [hc']
  rfl

/-- A frame of the host that is taken and counted under `r` and as discarded. -/
theorem State.sendRefused (s : State) (f : RxFrame) (r : Row) (i : Nat) (hty : r.ty = .u64) (hk : r.key i 0 ≠ Obj.mac_rx_discarded.key 8 0) (t : State)
    (ht : t = ((s.takeRx f).count r i).discard 8) :
    t.valN r i = min (s.valN r i + 1) (2 ^ 64 - 1) ∧ t.valN Obj.mac_rx_discarded 8 = min (s.valN Obj.mac_rx_discarded 8 + 1) (2 ^ 64 - 1) ∧
      (t.net.waiting = s.net.waiting.filter fun x => x.id != f.id) ∧ t = { s with net := t.net, dict := t.dict } ∧
      SameDict s t [r.key i 0, Obj.mac_rx_discarded.key 8 0] := by
  subst ht
  refine ⟨?_, ?_, rfl, rfl, ?_⟩
  · rw [State.discard, State.count_keeps _ _ hk, State.count_u64 _ _ _ _ _ hty]
    rfl
  · rw [State.discard, State.count_u64 _ _ _ _ _ rfl, State.count_keeps _ _ hk.symm]
    rfl
  · exact SameDict.count (SameDict.count (SameDict.refl (s.takeRx f) _) (by simp) 1) (by simp) 1

/-- Settles O40: a SEND by its checks, its link and the cells of its queue. -/
theorem hostFrames : Obligations.HostFrames := by
  have hk (p : Nat) : Obj.mac_tx_drop_full.key p 0 ≠ Obj.mac_rx_discarded.key 8 0 := by
    simp only [ne_eq, Row.key, Obj.mac_tx_drop_full, Obj.mac_rx_discarded]
    omega
  have hfull (s t : State) (f : RxFrame) (p : Nat) (ht : t = ((s.takeRx f).count Obj.mac_tx_drop_full p).discard 8) :
      t.valN Obj.mac_rx_discarded 8 = min (s.valN Obj.mac_rx_discarded 8 + 1) (2 ^ 64 - 1) ∧
        t.valN Obj.mac_tx_drop_full p = min (s.valN Obj.mac_tx_drop_full p + 1) (2 ^ 64 - 1) ∧
        t = { s with net := t.net, dict := t.dict } ∧ SameDict s t [Obj.mac_rx_discarded.key 8 0, Obj.mac_tx_drop_full.key p 0] := by
    obtain ⟨h1, h2, -, h4, h5⟩ := s.sendRefused f Obj.mac_tx_drop_full p rfl (hk p) t ht
    exact ⟨h2, h1, h4, h5.mono fun k hk => by simp only [List.mem_cons, List.not_mem_nil, or_false] at hk ⊢; tauto⟩
  unfold Obligations.HostFrames
  refine ⟨?bad, ?good, ?linkDown, ?noRoom, ?none⟩
  case bad =>
    intro s f h hc
    exact ⟨_, next_of_eq (hpSendEff_bad s f h (Option.isNone_iff_eq_none.mp hc)), s.sendRefused f Obj.hp_bad_send 0 rfl (by decide) _ rfl⟩
  case good =>
    intro s f p x h h8 hc hl hcells
    obtain ⟨hp, hq, htag, hbytes⟩ := s.checkSend_spec f.bytes p x hc
    obtain ⟨u, hu, hfifo, -, hother, -, po, hf⟩ := (s.takeRx f).enqueue_spec p x (by omega) hq (by rw [s.takeRx_freeCells]; exact hcells)
    have heq : hpSendEff s = u.count Obj.mac_rx_served 8 := by
      rw [hpSendEff_good s f p x h hc, hl, hu]
      rfl
    have htake := fun m hm => s.takeRx_other f m hm
    rw [s.takeRx_queue] at hfifo
    have hn : (s.takeRx f).net.nextId = s.net.nextId := rfl
    rw [hn] at hfifo
    have hval : (u.count Obj.mac_rx_served 8).valN Obj.mac_rx_served 8 = min (s.valN Obj.mac_rx_served 8 + 1) (2 ^ 64 - 1) := by
      rw [u.count_u64 _ _ _ _ rfl, hf]
      rfl
    have huf : ∃ n, u = { s with net := n } := ⟨_, hf⟩
    refine ⟨_, next_of_eq heq, hval, hfifo, hp, hq, htag, hbytes, fun m hm hm8 => (hother m hm).trans (htake m (by rw [h8]; exact hm8)), ?_, ?_⟩
    · obtain ⟨n, rfl⟩ := huf
      rfl
    · obtain ⟨n, rfl⟩ := huf
      exact SameDict.count (SameDict.refl _ _) (by simp) 1
  case linkDown =>
    intro s f p x h hc hl
    exact ⟨_, next_of_eq ((hpSendEff_good s f p x h hc).trans (if_pos (by simp [hl]))), hfull s _ f p rfl⟩
  case noRoom =>
    intro s f p x h hc hcells
    have hnone := (s.takeRx f).enqueue_none p x (by rw [s.takeRx_freeCells]; exact hcells)
    refine ⟨_, next_of_eq ((hpSendEff_good s f p x h hc).trans ?_), hfull s _ f p rfl⟩
    rw [hnone]
    exact ite_self _
  case none => exact fun s h => ⟨s, next_of_eq (hpSendEff_none s h), rfl⟩

end Sys2Proof.Machine

/-! SUPPORT. Commit of reserved frames (R112, R356, R405). -/
namespace Sys2Proof.Machine

/-- A reserved NTP response that is ready, with a queue number at which the key of `queue.tx_frames` of port 3 is that of `ntp.responses`. -/
def aliasedEntry : CalEntry := { reserved := true, frame := { queue := 773635, note := .ntp 0 } }

/-- The entry waits in the calendar of port 3, whose link is up. -/
def aliasedLaunch : State := ({ net := { ports := Vector.replicate 9 { cal := [aliasedEntry] } } } : State).setN Obj.mac_link 1 3

theorem aliasedEntry_due : aliasedLaunch.dueEntry 3 true = some aliasedEntry ∧ aliasedEntry.ready = true ∧ aliasedLaunch.inHold 3 aliasedEntry.t = false ∧
    aliasedLaunch.tod ≤ aliasedEntry.t ∧ aliasedLaunch.tooOld aliasedEntry.frame aliasedEntry.t = false ∧ aliasedEntry.frame.steps = aliasedLaunch.steps := by
  decide +kernel

/-- Its commit counts twice at the one key: as a frame of the queue and as a response. -/
theorem launchCheckEff_aliased : (launchCheckEff 3 aliasedLaunch).valN Obj.queue_tx_frames 3 773635 = 2 := by decide +kernel

theorem aliasedLaunch_none : aliasedLaunch.valN Obj.queue_tx_frames 3 773635 = 0 := by decide +kernel

/-- Refutes O41: the clause of the commit leaves the frame's queue number free, and at a number no queue has the object of `queue.tx_frames` is that of
`ntp.responses`, which the commit of a response counts too. -/
theorem not_launchCheck : ¬ Obligations.LaunchCheck := by
  unfold Obligations.LaunchCheck
  rintro ⟨hcommit, -⟩
  obtain ⟨hdue, hready, hhold, htod, hold, hsteps⟩ := aliasedEntry_due
  obtain ⟨t, ht, -, hframes, -⟩ := hcommit aliasedLaunch 3 aliasedEntry hdue hready hhold htod hold hsteps
  have heq : launchCheckEff 3 aliasedLaunch = t := by injection ht
  have hval : t.valN Obj.queue_tx_frames 3 773635 = min (aliasedLaunch.valN Obj.queue_tx_frames 3 773635 + 1) (2 ^ 64 - 1) := hframes
  rw [← heq, launchCheckEff_aliased, aliasedLaunch_none] at hval
  exact absurd hval (by decide)

end Sys2Proof.Machine

/-! SUPPORT. Commit of untimed frames (R356, R405). -/
namespace Sys2Proof.Machine

/-- An untimed NTP response with the queue number of `aliasedEntry`. -/
def aliasedUntimed : CalEntry := { frame := { queue := 773635, note := .ntp 0 } }

/-- The entry waits in the calendar of port 3, whose link is up. -/
def aliasedCommit : State := ({ net := { ports := Vector.replicate 9 { cal := [aliasedUntimed] } } } : State).setN Obj.mac_link 1 3

theorem aliasedUntimed_due : aliasedCommit.dueEntry 3 false = some aliasedUntimed ∧ aliasedCommit.inHold 3 aliasedUntimed.t = false ∧
    aliasedCommit.tod ≤ aliasedUntimed.t ∧ aliasedUntimed.frame.steps = aliasedCommit.steps ∧
    aliasedCommit.tooOld aliasedUntimed.frame aliasedUntimed.t = false := by
  decide +kernel

/-- Its commit counts twice at the one key: as a frame of the queue and as a response. -/
theorem untimedCommitEff_aliased : (untimedCommitEff 3 aliasedCommit).valN Obj.queue_tx_frames 3 773635 = 2 := by decide +kernel

theorem aliasedCommit_none : aliasedCommit.valN Obj.queue_tx_frames 3 773635 = 0 := by decide +kernel

/-- Refutes O42: as for the reserved frames of O41, the clause of the commit leaves the frame's queue number free, and at a number no queue has the
commit of a response counts twice at the one key. -/
theorem not_untimedFrames : ¬ Obligations.UntimedFrames := by
  unfold Obligations.UntimedFrames
  rintro ⟨-, -, -, hcommit, -⟩
  obtain ⟨hdue, hhold, htod, hsteps, hold⟩ := aliasedUntimed_due
  obtain ⟨t, ht, -, hframes, -⟩ := hcommit aliasedCommit 3 aliasedUntimed hdue hhold htod (beq_iff_eq.mpr hsteps) hold
  have heq : untimedCommitEff 3 aliasedCommit = t := by injection ht
  have hval : t.valN Obj.queue_tx_frames 3 773635 = min (aliasedCommit.valN Obj.queue_tx_frames 3 773635 + 1) (2 ^ 64 - 1) := hframes
  rw [← heq, untimedCommitEff_aliased, aliasedCommit_none] at hval
  exact absurd hval (by decide)

end Sys2Proof.Machine

/-! SUPPORT. Departures and the stamp queue (R100, R118 to R122). -/
namespace Sys2Proof.Machine

/-! ### Stamp queues -/

theorem State.entered_port (s : State) (p : Nat) (f : TxFrame) (hp : p < 9) : ∃ qs, (s.entered p f).port p = { s.port p with queues := qs } := by
  unfold State.entered State.useCells
  rw [State.modQueue_port _ _ _ _ hp, State.modQueue_port _ _ _ _ hp]
  exact ⟨_, rfl⟩

theorem State.entered_other (s : State) (p : Nat) (f : TxFrame) (m : Nat) (hm : m ≠ p) : (s.entered p f).port m = s.port m :=
  (State.modPort_port_other _ _ _ m hm).trans (State.modPort_port_other _ _ _ m hm)

/-- A frame that enters a queue changes the queues and the active list of its port. -/
theorem State.enqueue_port (s t : State) (p : Nat) (f : TxFrame) (hp : p < 9) (h : s.enqueue p f = some t) :
    (∃ qs ac, t.port p = { s.port p with queues := qs, active := ac }) ∧ (∀ m, m ≠ p → t.port m = s.port m) ∧
      ∃ po, t = { s with net := { s.net with ports := po, nextId := s.net.nextId + 1 } } := by
  rw [s.enqueue_eq] at h
  split at h
  · injection h with h
    have hw := ActiveWork.joinActive hp (s.entered p f)
    rw [h] at hw
    refine ⟨?_, fun m hm => (hw.other m hm).trans (s.entered_other p f m hm), ?_⟩
    · obtain ⟨qs, ac, hp'⟩ := hw.port
      obtain ⟨qs', hv⟩ := s.entered_port p f hp
      exact ⟨qs, ac, by rw [hp', hv]⟩
    · obtain ⟨po, hf⟩ := hw.frame
      exact ⟨po, hf⟩
  · exact absurd h (by simp)

/-- Of a port, a state `t` keeps all but its queues and its active list. -/
def QueueWork (p : Nat) (s t : State) : Prop :=
  (∃ qs ac, t.port p = { s.port p with queues := qs, active := ac }) ∧ (∀ m, m ≠ p → t.port m = s.port m) ∧
    ∃ po, t = { s with net := { s.net with ports := po } }

theorem QueueWork.trans {p : Nat} {s t u : State} (h : QueueWork p s t) (h' : QueueWork p t u) : QueueWork p s u := by
  obtain ⟨⟨qs, ac, h1⟩, h2, po, rfl⟩ := h
  obtain ⟨⟨qs', ac', h1'⟩, h2', po', rfl⟩ := h'
  exact ⟨⟨qs', ac', by rw [h1', h1]⟩, fun m hm => (h2' m hm).trans (h2 m hm), po', rfl⟩

theorem QueueWork.refl (p : Nat) (s : State) : QueueWork p s s := ⟨⟨(s.port p).queues, (s.port p).active, rfl⟩, fun _ _ => rfl, s.net.ports, rfl⟩

theorem ActiveWork.queueWork {p : Nat} {s t : State} (h : ActiveWork p s t) : QueueWork p s t := ⟨h.port, h.other, h.frame⟩

/-- Held queues may be eligible again. -/
theorem State.unhold_work (s : State) (p : Nat) (hp : p < 9) (l : List Nat) :
    QueueWork p s (s.each l fun s q => s.modQueue p q fun x => { x with held := false }) := by
  unfold State.each
  induction l generalizing s with
  | nil => exact .refl p s
  | cons q l ih =>
    refine QueueWork.trans ⟨⟨_, (s.port p).active, s.modQueue_port p q _ hp⟩, s.modPort_port_other p _, _, rfl⟩ (ih _)

/-- Entries that leave a stamp queue. -/
theorem State.freeStamps_spec (s : State) (p : Nat) (keep : StampEntry → Bool) (hp : p < 9) :
    ((s.freeStamps p keep).port p).fifoStamp = (s.port p).fifoStamp.filter keep ∧ (∀ m, m ≠ p → (s.freeStamps p keep).port m = s.port m) ∧
      ∃ po, s.freeStamps p keep = { s with net := { s.net with ports := po } } := by
  unfold State.freeStamps
  extract_lets n u
  have hu : u.port p = { s.port p with fifoStamp := (s.port p).fifoStamp.filter keep } := s.modPort_port p _ hp
  have huo (m : Nat) (hm : m ≠ p) : u.port m = s.port m := s.modPort_port_other p _ m hm
  have huf : ∃ po, u = { s with net := { s.net with ports := po } } := ⟨_, rfl⟩
  clear_value u
  split
  · have hw := (u.unhold_work p hp (List.range 8)).trans (ActiveWork.joinActive hp _).queueWork
    obtain ⟨⟨qs, ac, h1⟩, h2, po, h3⟩ := hw
    refine ⟨by rw [h1, hu], fun m hm => (h2 m hm).trans (huo m hm), ?_⟩
    obtain ⟨po', rfl⟩ := huf
    exact ⟨po, h3⟩
  · exact ⟨by rw [hu], huo, huf⟩

theorem State.popStamp_done (s : State) (p : Nat) (e : StampEntry) (r : List StampEntry) (h : (s.port p).fifoStamp = e :: r) (hd : e.done = true) :
    s.popStamp p = (s.freeStamps p fun x => x.seq != e.seq, e.octets p) := by
  unfold State.popStamp
  rw [h]
  exact if_pos hd

theorem State.popStamp_empty (s : State) (p : Nat) (h : (match (s.port p).fifoStamp with | e :: _ => e.done | [] => false) = false) :
    s.popStamp p = (s, zeros 24) := by
  unfold State.popStamp
  cases hf : (s.port p).fifoStamp with
  | nil => rfl
  | cons e r =>
    rw [hf] at h
    exact if_neg (by simpa using h)

/-- Of the entries of a stamp queue, the oldest goes and those of its number. -/
theorem StampEntry.filter_head (e : StampEntry) (r : List StampEntry) : ((e :: r).filter fun x => x.seq != e.seq) = r.filter fun x => x.seq != e.seq := by
  simp

/-! ### Departures -/

/-- A frame that crosses is counted, marked in the calendar, and sent. -/
def State.departed (s : State) (p : Nat) (e : CalEntry) : State :=
  let c := ((((s.count Obj.mac_tx_frames p).count Obj.mac_tx_octets p 0 e.frame.len).tally (44 + p) 3 1).tally (44 + p) 4 e.frame.len).modCal p e.frame.id
    fun x => { x with crossed := true }
  { c with net := { c.net with sent := c.net.sent ++ [(p, e.frame)] } }

theorem State.departed_spec (s : State) (p : Nat) (e : CalEntry) (hp : p < 9) (t : State) (ht : s.departed p e = t) :
    t.port p = { s.port p with cal := (s.port p).cal.map fun x => if x.frame.id == e.frame.id then { x with crossed := true } else x } ∧
      t.valN Obj.mac_tx_frames p = min (s.valN Obj.mac_tx_frames p + 1) (2 ^ 64 - 1) ∧
      t.valN Obj.mac_tx_octets p = min (s.valN Obj.mac_tx_octets p + e.frame.len) (2 ^ 64 - 1) ∧
      t.net.sent = s.net.sent ++ [(p, e.frame)] ∧ t.tithe = ((s.tally (44 + p) 3 1).tally (44 + p) 4 e.frame.len).tithe ∧
      (∀ m, m ≠ p → t.port m = s.port m) ∧ t = { s with net := t.net, tithe := t.tithe, dict := t.dict } ∧
      SameDict s t [Obj.mac_tx_frames.key p 0, Obj.mac_tx_octets.key p 0] := by
  have hne : Obj.mac_tx_frames.key p 0 ≠ Obj.mac_tx_octets.key p 0 := by simp only [ne_eq, Row.key, Obj.mac_tx_frames, Obj.mac_tx_octets]; omega
  have h1 : ((s.count Obj.mac_tx_frames p).count Obj.mac_tx_octets p 0 e.frame.len).valN Obj.mac_tx_frames p =
      min (s.valN Obj.mac_tx_frames p + 1) (2 ^ 64 - 1) := by
    rw [State.count_keeps _ _ hne]
    exact s.count_u64 Obj.mac_tx_frames p 0 1 rfl
  have h2 : ((s.count Obj.mac_tx_frames p).count Obj.mac_tx_octets p 0 e.frame.len).valN Obj.mac_tx_octets p =
      min (s.valN Obj.mac_tx_octets p + e.frame.len) (2 ^ 64 - 1) := by
    rw [State.count_u64 _ _ _ _ _ rfl, State.count_keeps _ _ hne.symm]
  have hd : SameDict s ((s.count Obj.mac_tx_frames p).count Obj.mac_tx_octets p 0 e.frame.len) [Obj.mac_tx_frames.key p 0, Obj.mac_tx_octets.key p 0] :=
    SameDict.count (SameDict.count (SameDict.refl s _) (by simp) 1) (by simp) _
  have hf : ∃ v, (s.count Obj.mac_tx_frames p).count Obj.mac_tx_octets p 0 e.frame.len = { s with dict := { s.dict with val := v } } := ⟨_, rfl⟩
  unfold State.departed at ht
  generalize (s.count Obj.mac_tx_frames p).count Obj.mac_tx_octets p 0 e.frame.len = a at *
  obtain ⟨v, rfl⟩ := hf
  rw [State.tally_eq, State.tally_eq] at ht
  dsimp only at ht
  rw [State.tally_eq s, State.tally_eq]
  subst ht
  exact ⟨State.modPort_port _ _ _ hp, h1, h2, rfl, rfl, fun m hm => State.modPort_port_other _ _ _ m hm, rfl, hd⟩

/-- A frame of the host that crosses, and asked for a stamp. -/
theorem frameDepartureEff_host (p : Nat) (w : WordIn) (s : State) (e : CalEntry) (c : Tod) (m : TodMark) (u : LaneUse) (hp : p < 9)
    (hn : s.nextCrossing p = some e) (ht : s.txTime p (s.mode p) w = (c, m, u)) (ha : s.asPredicted p e c = true) (hh : e.frame.note = .host)
    (hs : e.frame.stampReq = true) (ho : (s.port p).pauseOwed = false) :
    frameDepartureEff p w s = (s.departed p e).completeStamp p e.frame.id false (stamp128 c (s.portFlags p m u true e.reserved)) := by
  have howed : (((s.departed p e).completeStamp p e.frame.id false (stamp128 c (s.portFlags p m u true e.reserved))).port p).pauseOwed = false := by
    unfold State.completeStamp
    rw [State.modPort_port _ _ _ hp, (s.departed_spec p e hp _ rfl).1]
    exact ho
  unfold frameDepartureEff
  rw [ht]
  dsimp only
  rw [hn, Option.filter_some, if_pos ha]
  dsimp only
  rw [if_pos hs]
  unfold State.ptpCrossed
  dsimp only
  rw [hh]
  unfold State.departed at howed ⊢
  generalize stamp128 c (s.portFlags p m u true e.reserved) = st at *
  unfold State.frameSent
  dsimp only at howed ⊢
  rw [if_pos (by rw [howed]; rfl)]

/-- A message to the host leaves on HP: no stamp queue changes. -/
theorem State.attonOut_host (s : State) (msg : Bytes) (u : State) (h : s.attonOut s.pushBack msg = some u) :
    (∀ m, (u.port m).fifoStamp = (s.port m).fifoStamp) ∧ ∃ n g, u = { s with net := n, gran := g } := by
  unfold State.attonOut State.pushBack at h
  dsimp only at h
  rw [if_neg (show ¬ (1 = 0) by decide), if_neg (show ¬ (1 = 3) by decide), Option.map_eq_some_iff] at h
  obtain ⟨v, hv, rfl⟩ := h
  obtain ⟨⟨qs, ac, hvp⟩, hvo, po, hvf⟩ := s.enqueue_port v 8 _ (by decide) hv
  refine ⟨fun m => ?_, by rw [hvf]; exact ⟨_, _, rfl⟩⟩
  · by_cases hm : m = 8
    · subst hm
      show (v.port 8).fifoStamp = (s.port 8).fifoStamp
      rw [hvp]
    · exact congrArg Port.fifoStamp (hvo m hm)

/-! ### The obligation -/

/-- Settles O43: a departure, and the stamp queue as it is read, retired and pushed. -/
theorem departureAndStampQueue : Obligations.DepartureAndStampQueue := by
  unfold Obligations.DepartureAndStampQueue
  refine ⟨?departs, ?noFrame, ?pops, ?popsNone, ?retires, ?pushes, ?pushOff⟩
  case departs =>
    intro s p w e c m u hn ht ha hh hs ho
    have heq := frameDepartureEff_host p w s e c m u p.isLt hn ht ha hh hs ho
    generalize stamp128 c (s.portFlags p m u true e.reserved) = st at *
    obtain ⟨h1, h2, h3, h4, h5, h6, h7, h8⟩ := s.departed_spec p e p.isLt _ rfl
    have htc : (s.departed p e).tc = s.tc := by rw [h7]
    have hport := (s.departed p e).modPort_port p (fun x =>
      { x with fifoStamp := x.fifoStamp.map fun y =>
          if y.frame == e.frame.id && !y.done then { y with done := true, dropped := false, stamp := st, doneAt := (s.departed p e).tc.boundaries } else y }) p.isLt
    have hother := fun k hk => (s.departed p e).modPort_port_other p (fun x =>
      { x with fifoStamp := x.fifoStamp.map fun y =>
          if y.frame == e.frame.id && !y.done then { y with done := true, dropped := false, stamp := st, doneAt := (s.departed p e).tc.boundaries } else y }) k hk
    rw [h1, htc] at hport
    rw [htc] at hother
    unfold State.completeStamp at heq
    rw [htc] at heq
    refine ⟨_, next_of_eq heq, by rw [hport], h2, h3, by rw [hport], h4, h5, fun k hk => (hother k hk).trans (h6 k hk), ?_, h8⟩
    exact congrArg (fun y : State => y.modPort p _) h7
  case noFrame =>
    intro s p w h
    have heq : frameDepartureEff p w s = s := by
      unfold frameDepartureEff
      rcases hq : s.txTime p (s.mode p) w with ⟨c, m, u⟩
      rw [hq] at h
      dsimp only at h ⊢
      cases hn : s.nextCrossing p with
      | none => rfl
      | some e =>
        rw [hn] at h
        rw [Option.filter_some, if_neg (by simpa using h)]
    exact ⟨s, next_of_eq heq, rfl⟩
  case pops =>
    intro s p e r h hd
    obtain ⟨h1, h2, po, h3⟩ := s.freeStamps_spec p (fun x => x.seq != e.seq) (by omega)
    rw [h, e.filter_head] at h1
    have heq : stampQueuePopEff p s = { s.freeStamps p (fun x => x.seq != e.seq) with
        gran := { s.gran with lastRead := [(Obj.stamp_queue_pop.key p 0, e.octets p)] } } := by
      unfold stampQueuePopEff
      rw [s.popStamp_done p e r h hd]
      dsimp only
      rw [h3]
    generalize s.freeStamps p (fun x => x.seq != e.seq) = u at *
    refine ⟨_, next_of_eq heq, rfl, h1, h2, ?_⟩
    rw [h3]
  case popsNone =>
    intro s p h
    have heq : stampQueuePopEff p s = { s with gran := { s.gran with lastRead := [(Obj.stamp_queue_pop.key p 0, zeros 24)] } } := by
      unfold stampQueuePopEff
      rw [s.popStamp_empty p h]
    exact ⟨_, next_of_eq heq, rfl, rfl⟩
  case retires =>
    intro s p l hl hne
    subst hl
    obtain ⟨h1, h2, po, h3⟩ := s.freeStamps_spec p (fun e => !(e.done && decide (e.doneAt + s.effN Obj.stamp_age_ticks ≤ s.tc.boundaries))) (by omega)
    have heq : stampEntryRetireEff p s = (s.freeStamps p fun e => !(e.done && decide (e.doneAt + s.effN Obj.stamp_age_ticks ≤ s.tc.boundaries))).count
        Obj.stamp_lost p 0 ((s.port p).fifoStamp.filter fun e => e.done && decide (e.doneAt + s.effN Obj.stamp_age_ticks ≤ s.tc.boundaries)).length := by
      unfold stampEntryRetireEff
      extract_lets old n
      rw [if_neg (show n ≠ 0 from fun hn => hne (List.length_eq_zero_iff.mp hn))]
    generalize (s.freeStamps p fun e => !(e.done && decide (e.doneAt + s.effN Obj.stamp_age_ticks ≤ s.tc.boundaries))) = u at *
    have hv := u.count_u64 Obj.stamp_lost p 0
      ((s.port p).fifoStamp.filter fun e => e.done && decide (e.doneAt + s.effN Obj.stamp_age_ticks ≤ s.tc.boundaries)).length rfl
    have hold : u.valN Obj.stamp_lost p = s.valN Obj.stamp_lost p := by rw [h3]; rfl
    rw [hold] at hv
    refine ⟨_, next_of_eq heq, h1, hv, h2, ?_, ?_⟩
    · subst h3
      rfl
    · subst h3
      exact SameDict.count (SameDict.refl _ _) (by simp) _
  case pushes =>
    intro s p e r hdel h hd hl hout
    obtain ⟨u, hu⟩ := Option.isSome_iff_exists.mp hout
    have heq : stampPushEff p s = (u.modGran fun g => { g with pushSeq := s.gran.pushSeq + 1 }).freeStamps p fun x => x.seq != e.seq := by
      unfold stampPushEff
      rw [h]
      dsimp only
      rw [if_pos (by simp [hdel, hd, hl]), hu]
    obtain ⟨hstamps, n, g0, hf⟩ := s.attonOut_host _ u hu
    have hw (m : Nat) : (u.modGran fun g => { g with pushSeq := s.gran.pushSeq + 1 }).port m = u.port m := rfl
    have hg : ∃ g, u.modGran (fun g => { g with pushSeq := s.gran.pushSeq + 1 }) = { u with gran := g } ∧ g.pushSeq = s.gran.pushSeq + 1 := ⟨_, rfl, rfl⟩
    generalize u.modGran (fun g => { g with pushSeq := s.gran.pushSeq + 1 }) = x at *
    obtain ⟨h1, h2, po', h3⟩ := x.freeStamps_spec p (fun x => x.seq != e.seq) (by omega)
    rw [hw, hstamps, h, e.filter_head] at h1
    generalize x.freeStamps p (fun x => x.seq != e.seq) = y at *
    obtain ⟨g, rfl, hg⟩ := hg
    refine ⟨_, next_of_eq heq, by rw [h3]; exact hg, h1, fun m hm => by rw [h2 m hm, hw, hstamps], ?_⟩
    rw [h3, hf]
  case pushOff =>
    intro s p h
    have heq : stampPushEff p s = s := by
      unfold stampPushEff
      cases (s.port p).fifoStamp with
      | nil => rfl
      | cons e r => exact if_neg (by simp [h])
    exact ⟨s, next_of_eq heq, rfl⟩

end Sys2Proof.Machine

/-! SUPPORT. Plain NTP service (R377, R384, R387, R405). -/
namespace Sys2Proof.Machine

/-! ### What a response reads -/

/-- What a response says rests on the configuration, the timescale and four status objects. -/
theorem State.ntpHeader_congr (s : State) (v : Store) (n : Net) (hsm : n.smears = s.net.smears) (f : RxFrame) (t : State)
    (ht : t = { s with dict := { s.dict with val := v }, net := n }) (hser : t.valN Obj.hold_service = s.valN Obj.hold_service)
    (hacc : t.valN Obj.stamp_accuracy f.port = s.valN Obj.stamp_accuracy f.port) (hact : t.valN Obj.ref_active = s.valN Obj.ref_active)
    (hscr : t.valN Obj.scr_port f.port = s.valN Obj.scr_port f.port) (req : Bytes) (tx : Nat) (at' : Tod) :
    t.ntpHeader f req tx at' = s.ntpHeader f req tx at' := by
  have hunit : t.ntpUnit f = s.ntpUnit f := by rw [ht]; rfl
  have hli (i : Nat) (x : Tod) : t.ntpLi i x = s.ntpLi i x := by
    unfold State.ntpLi
    rw [hser, ht]
    rfl
  have hprec : t.ntpPrecision f.port = s.ntpPrecision f.port := by
    unfold State.ntpPrecision
    rw [hacc]
  have hutc (x : Tod) : t.utcSeconds x = s.utcSeconds x := by rw [ht]; rfl
  have hsmear (i : Nat) : t.smear i = s.smear i := by
    unfold State.smear
    rw [ht, hsm]
  have h64 (i : Nat) (x : Tod) : t.ntp64 i x = s.ntp64 i x := by
    unfold State.ntp64 State.ntpSeconds
    rw [hsmear, hutc, ht]
    rfl
  have hserved : t.served f.port 233 = s.served f.port 233 := by
    unfold State.served State.portScr
    rw [hscr]
  have hdisp (i : Nat) (x : Tod) : t.ntpDispersion i f.port x = s.ntpDispersion i f.port x := by
    unfold State.ntpDispersion
    rw [hserved, h64, hutc, ht]
    rfl
  have hrefid : t.ntpRefid = s.ntpRefid := by
    unfold State.ntpRefid State.active
    rw [hact, ht]
    rfl
  have hsel : t.sel = s.sel := by rw [ht]
  have heffI (r : Row) (i : Nat) : t.effI r i = s.effI r i := by rw [ht]; rfl
  have heffN (r : Row) (i : Nat) : t.effN r i = s.effN r i := by rw [ht]; rfl
  unfold State.ntpHeader
  simp only [hunit, hli, hprec, h64, hdisp, hrefid, hsel, heffI, heffN]

/-! ### Requests counted and not answered -/

/-- A request that is taken and counted under `r`. -/
theorem State.served_spec (s : State) (f : RxFrame) (r : Row) (hty : r.ty = .u64) (hk : r.key f.port 0 ≠ Obj.mac_rx_served.key f.port 0) (t : State)
    (ht : t = (s.serve f).count r f.port) :
    t.valN r f.port = min (s.valN r f.port + 1) (2 ^ 64 - 1) ∧
      t.valN Obj.mac_rx_served f.port = min (s.valN Obj.mac_rx_served f.port + 1) (2 ^ 64 - 1) ∧
      (t.net.waiting = s.net.waiting.filter fun x => x.id != f.id) ∧ t = { s with net := t.net, dict := t.dict } ∧
      SameDict s t [r.key f.port 0, Obj.mac_rx_served.key f.port 0] := by
  subst ht
  refine ⟨?_, ?_, rfl, rfl, ?_⟩
  · rw [State.serve, State.count_u64 _ _ _ _ _ hty, State.count_keeps _ _ hk]
    rfl
  · rw [State.serve, State.count_keeps _ _ hk.symm, State.count_u64 _ _ _ _ _ rfl]
    rfl
  · exact SameDict.count (SameDict.count (SameDict.refl (s.takeRx f) _) (by simp) 1) (by simp) 1

/-- The oldest request that is no NTS request goes to a Thresher. -/
theorem ntpRequestEff_serve (s : State) (f : RxFrame) (ip : IpHead) (b : Bytes)
    (hn : (s.net.waiting.find? fun f => f.kind == .ntp && rxNtpClass f != .nts) = some f) (hu : rxUdp f = some (ip, b)) (ht : s.thresherUp = true)
    (hc : (if ntpClass b = .plain then s.ntpCells f ip 48 else 0) ≤ s.freeCells f.port (s.effN Obj.ntp_queue (s.ntpUnit f))) :
    ntpRequestEff s = s.ntpServe f ip b := by
  unfold ntpRequestEff
  rw [hn]
  dsimp only
  rw [hu]
  dsimp only
  rw [ht, Bool.true_and, if_pos (decide_eq_true hc)]

theorem ntpRequestEff_none (s : State) (hn : (s.net.waiting.find? fun f => f.kind == .ntp && rxNtpClass f != .nts) = none) : ntpRequestEff s = s := by
  unfold ntpRequestEff
  rw [hn]

/-! ### A plain request answered -/

/-- A plain request that passes, before its answer. -/
def State.ntpPassed (s : State) (f : RxFrame) (b : Bytes) : State :=
  let s := (s.serve f).count Obj.ntp_requests f.port
  let s := if octet b 0 / 8 % 8 = 3 then s.count Obj.ntp_v3 f.port else s
  s.count Obj.pol_passed f.port

/-- With the policer off every message passes. -/
theorem State.police_off (s : State) (p fam : Nat) (src : Bytes) (svc : Nat) (h : s.effT Obj.pol_enable = false) :
    s.police p fam src svc = (s.count Obj.pol_passed p, true) := by
  unfold State.police
  extract_lets cost e
  exact if_pos (by rw [h]; rfl)

theorem State.ntpServe_plain (s : State) (f : RxFrame) (ip : IpHead) (b : Bytes) (hc : ntpClass b = .plain) (hp : s.effT Obj.pol_enable = false) :
    s.ntpServe f ip b = (s.ntpPassed f b).ntpAnswer f ip b := by
  have hcount (u : State) (r : Row) (hu : u.effT Obj.pol_enable = false) : (u.count r f.port).effT Obj.pol_enable = false := hu
  have hreq : ((s.serve f).count Obj.ntp_requests f.port).effT Obj.pol_enable = false := hcount _ _ (hcount _ _ hp)
  unfold State.ntpServe State.ntpPassed
  rw [hc]
  dsimp only
  generalize (s.serve f).count Obj.ntp_requests f.port = u at *
  by_cases h3 : octet b 0 / 8 % 8 = 3
  · rw [if_pos h3, State.police_off _ _ _ _ _ (hcount _ _ hreq)]
  · rw [if_neg h3, State.police_off _ _ _ _ _ hreq]

/-- What a plain request counts. -/
theorem State.ntpPassed_spec (s : State) (f : RxFrame) (b : Bytes) (hp : f.port < 8) :
    (∃ v, s.ntpPassed f b = { s with dict := { s.dict with val := v }, net := (s.takeRx f).net }) ∧
      (s.ntpPassed f b).valN Obj.ntp_requests f.port = min (s.valN Obj.ntp_requests f.port + 1) (2 ^ 64 - 1) ∧
      (s.ntpPassed f b).valN Obj.mac_rx_served f.port = min (s.valN Obj.mac_rx_served f.port + 1) (2 ^ 64 - 1) ∧
      (s.ntpPassed f b).valN Obj.pol_passed f.port = min (s.valN Obj.pol_passed f.port + 1) (2 ^ 64 - 1) ∧
      SameDict s (s.ntpPassed f b) [Obj.ntp_requests.key f.port 0, Obj.mac_rx_served.key f.port 0, Obj.pol_passed.key f.port 0, Obj.ntp_v3.key f.port 0] := by
  have k1 : Obj.ntp_requests.key f.port 0 ≠ Obj.mac_rx_served.key f.port 0 := by simp only [ne_eq, Row.key, Obj.ntp_requests, Obj.mac_rx_served]; omega
  have k2 : Obj.ntp_requests.key f.port 0 ≠ Obj.ntp_v3.key f.port 0 := by simp only [ne_eq, Row.key, Obj.ntp_requests, Obj.ntp_v3]; omega
  have k3 : Obj.ntp_requests.key f.port 0 ≠ Obj.pol_passed.key f.port 0 := by simp only [ne_eq, Row.key, Obj.ntp_requests, Obj.pol_passed]; omega
  have k4 : Obj.mac_rx_served.key f.port 0 ≠ Obj.ntp_v3.key f.port 0 := by simp only [ne_eq, Row.key, Obj.mac_rx_served, Obj.ntp_v3]; omega
  have k5 : Obj.mac_rx_served.key f.port 0 ≠ Obj.pol_passed.key f.port 0 := by simp only [ne_eq, Row.key, Obj.mac_rx_served, Obj.pol_passed]; omega
  have k6 : Obj.pol_passed.key f.port 0 ≠ Obj.ntp_v3.key f.port 0 := by simp only [ne_eq, Row.key, Obj.pol_passed, Obj.ntp_v3]; omega
  obtain ⟨h1, h2, -, -, h5⟩ := s.served_spec f Obj.ntp_requests rfl k1 _ rfl
  have hpol := h5.valN_eq (r := Obj.pol_passed) (i := f.port) (j := 0) rfl (by simpa using ⟨k3.symm, k5.symm⟩)
  unfold State.ntpPassed
  have hf : ∃ v, (s.serve f).count Obj.ntp_requests f.port = { s with dict := { s.dict with val := v }, net := (s.takeRx f).net } := ⟨_, rfl⟩
  dsimp only
  generalize (s.serve f).count Obj.ntp_requests f.port = a at *
  by_cases h3 : octet b 0 / 8 % 8 = 3
  · rw [if_pos h3]
    refine ⟨?_, ?_, ?_, ?_, ?_⟩
    · obtain ⟨v, rfl⟩ := hf
      exact ⟨_, rfl⟩
    · rw [State.count_keeps _ _ k3, State.count_keeps _ _ k2, h1]
    · rw [State.count_keeps _ _ k5, State.count_keeps _ _ k4, h2]
    · rw [State.count_u64 _ _ _ _ _ rfl, State.count_keeps _ _ k6, hpol]
    · exact SameDict.count (SameDict.count (h5.mono (by simp)) (by simp) 1) (by simp) 1
  · rw [if_neg h3]
    refine ⟨?_, ?_, ?_, ?_, ?_⟩
    · obtain ⟨v, rfl⟩ := hf
      exact ⟨_, rfl⟩
    · rw [State.count_keeps _ _ k3, h1]
    · rw [State.count_keeps _ _ k5, h2]
    · rw [State.count_u64 _ _ _ _ _ rfl, hpol]
    · exact SameDict.count (h5.mono (by simp)) (by simp) 1

/-- The answer to a plain request, as it is queued. -/
abbrev State.ntpResponse (s : State) (f : RxFrame) (ip : IpHead) (b : Bytes) : TxFrame :=
  { bytes := s.ntpFrame f ip (s.ntpHeader f b 0 s.tod), queue := s.effN Obj.ntp_queue (s.ntpUnit f), enc := 1, stampOff := s.ntpFront f ip + 40,
    csumOff := s.ntpFront f ip - 2, steps := f.steps, note := .ntp (s.ntpUnit f), born := s.update }

/-- The counts of a request leave its answer. -/
theorem State.ntpPassed_response (s : State) (f : RxFrame) (ip : IpHead) (b : Bytes) (hp : f.port < 8) :
    (s.ntpPassed f b).ntpResponse f ip b = s.ntpResponse f ip b := by
  obtain ⟨⟨v, hf⟩, -, -, -, hd⟩ := s.ntpPassed_spec f b hp
  have hdev : (s.ntpPassed f b).dev = s.dev := by rw [hf]
  have hk (r : Row) (i : Nat) (h : r.key i 0 ∉ [Obj.ntp_requests.key f.port 0, Obj.mac_rx_served.key f.port 0, Obj.pol_passed.key f.port 0, Obj.ntp_v3.key f.port 0]) :
      (s.ntpPassed f b).valN r i = s.valN r i := hd.valN_eq hdev h
  have hh := s.ntpHeader_congr v (s.takeRx f).net rfl f _ hf
    (hk _ _ (by simp only [List.mem_cons, List.not_mem_nil, or_false, not_or, Row.key, Obj.hold_service, Obj.ntp_requests, Obj.mac_rx_served, Obj.pol_passed, Obj.ntp_v3]; omega))
    (hk _ _ (by simp only [List.mem_cons, List.not_mem_nil, or_false, not_or, Row.key, Obj.stamp_accuracy, Obj.ntp_requests, Obj.mac_rx_served, Obj.pol_passed, Obj.ntp_v3]; omega))
    (hk _ _ (by simp only [List.mem_cons, List.not_mem_nil, or_false, not_or, Row.key, Obj.ref_active, Obj.ntp_requests, Obj.mac_rx_served, Obj.pol_passed, Obj.ntp_v3]; omega))
    (hk _ _ (by simp only [List.mem_cons, List.not_mem_nil, or_false, not_or, Row.key, Obj.scr_port, Obj.ntp_requests, Obj.mac_rx_served, Obj.pol_passed, Obj.ntp_v3]; omega))
    b 0
  unfold State.ntpResponse
  rw [hh, hf]
  rfl

/-- Settles O44: a request by its class; a plain one is answered from what the counts leave alone. -/
theorem ntpService : Obligations.NtpService := by
  unfold Obligations.NtpService
  refine ⟨?legacy, ?version, ?mode, ?malformed, ?plain, fun s h => ⟨s, next_of_eq (ntpRequestEff_none s h), rfl⟩⟩
  case legacy =>
    intro s f ip b hn hu ht hc hun
    have heq : ntpRequestEff s = (s.serve f).count Obj.ntp_legacy f.port := by
      rw [ntpRequestEff_serve s f ip b hn hu ht (by simp [hc]), State.ntpServe, hc]
      exact if_neg (show ¬ s.effN Obj.ntp_unsupported = 1 by omega)
    exact ⟨_, next_of_eq heq, s.served_spec f _ rfl (by simp only [ne_eq, Row.key, Obj.ntp_legacy, Obj.mac_rx_served]; omega) _ rfl⟩
  case version =>
    intro s f ip b hn hu ht hc
    have heq : ntpRequestEff s = (s.serve f).count Obj.ntp_bad_version f.port := by
      rw [ntpRequestEff_serve s f ip b hn hu ht (by simp [hc]), State.ntpServe, hc]
    exact ⟨_, next_of_eq heq, s.served_spec f _ rfl (by simp only [ne_eq, Row.key, Obj.ntp_bad_version, Obj.mac_rx_served]; omega) _ rfl⟩
  case mode =>
    intro s f ip b hn hu ht hc
    have heq : ntpRequestEff s = (s.serve f).count Obj.ntp_bad_mode f.port := by
      rw [ntpRequestEff_serve s f ip b hn hu ht (by simp [hc]), State.ntpServe, hc]
    exact ⟨_, next_of_eq heq, s.served_spec f _ rfl (by simp only [ne_eq, Row.key, Obj.ntp_bad_mode, Obj.mac_rx_served]; omega) _ rfl⟩
  case malformed =>
    intro s f ip b hn hu ht hc
    have heq : ntpRequestEff s = (s.serve f).count Obj.ntp_malformed f.port := by
      rw [ntpRequestEff_serve s f ip b hn hu ht (by simp [hc]), State.ntpServe, hc]
    exact ⟨_, next_of_eq heq, s.served_spec f _ rfl (by simp only [ne_eq, Row.key, Obj.ntp_malformed, Obj.mac_rx_served]; omega) _ rfl⟩
  case plain =>
    intro s f ip b q hn hu ht hc hp hq hq8 hpol hneed hcells
    obtain ⟨⟨v, hf⟩, h1, h2, h3, hd⟩ := s.ntpPassed_spec f b hp
    have hfree : (s.ntpPassed f b).freeCells f.port q = s.freeCells f.port q := by
      rw [hf]
      exact s.takeRx_freeCells f f.port q
    have hqueue : (s.ntpPassed f b).queue f.port q = s.queue f.port q := by
      rw [hf]
      exact s.takeRx_queue f f.port q
    have hother (m : Nat) (hm : m ≠ f.port) : (s.ntpPassed f b).port m = s.port m := by
      rw [hf]
      exact s.takeRx_other f m hm
    have hid : (s.ntpPassed f b).net.nextId = s.net.nextId ∧ ((s.ntpPassed f b).net.waiting = s.net.waiting.filter fun x => x.id != f.id) := by
      rw [hf]
      exact ⟨rfl, rfl⟩
    have hsend : ntpRequestEff s = (s.ntpPassed f b).send f.port (s.ntpResponse f ip b) := by
      rw [ntpRequestEff_serve s f ip b hn hu ht (by rw [if_pos hc, ← hq]; exact hneed), s.ntpServe_plain f ip b hc hpol]
      exact congrArg ((s.ntpPassed f b).send f.port) (s.ntpPassed_response f ip b hp)
    have hresp : (s.ntpResponse f ip b).queue = q := hq.symm
    obtain ⟨u, hu1, hu2, -, hu3, -, po, hu4⟩ := (s.ntpPassed f b).enqueue_spec f.port (s.ntpResponse f ip b) (by omega) (by rw [hresp]; exact hq8)
      (by rw [hresp, hfree]; exact hcells)
    have heq : ntpRequestEff s = u := by
      rw [hsend, State.send, hu1]
      rfl
    rw [hresp, hqueue, hid.1] at hu2
    refine ⟨u, next_of_eq heq, ?_, ?_, ?_, ?_, ?_, fun m hm => (hu3 m hm).trans (hother m hm), ?_, ?_⟩
    · rw [hu4]
      exact h1
    · rw [hu4]
      exact h2
    · rw [hu4]
      exact h3
    · rw [hu4]
      exact hid.2
    · subst hq
      exact hu2
    · rw [hu4, hf]
    · rw [hu4]
      exact hd

end Sys2Proof.Machine

/-! SUPPORT. NTS service (R393, R406, R407). -/
namespace Sys2Proof.Machine

/-- The Flail job of an NTS response with one cookie on port 6, of a request whose slot number is 23: the key of `nts.key_accepted` of that slot is the
one of `nts.cookies` of port 6. -/
def aliasedJob : FlailJob :=
  { id := 5, port := 6, work := .nts 1 0, key := zeros 32, mint := zeros 32, mintId := 7, mintSlot := 3, slot := 23, req := wRx .ntp (wUdp 123 wNts) }

/-- The job is at the head of its pipeline and its entry waits in the calendar. -/
def aliasedSeal : State :=
  { wNtsState with net := { wNtsState.net with
      flail := { jobs := [aliasedJob] }, ports := Vector.replicate 9 { cal := [{ reserved := true, ready := false, frame := { id := 5 } }] } } }

theorem aliasedJob_done : aliasedSeal.net.flail.jobs.find? (fun x => x.id == 5) = some aliasedJob ∧ aliasedJob.doneAt ≤ aliasedSeal.tod ∧
    ((aliasedSeal.net.flail.jobs.find? fun x => x.sha == aliasedJob.sha && x.pipe == aliasedJob.pipe).map FlailJob.id) = some aliasedJob.id ∧
    aliasedJob.work = .nts 1 0 ∧ rxUdp aliasedJob.req = some (wIp wNts, wNts) ∧ ntsParse wNts = some wNtsReq ∧
    ntsOpen aliasedJob.key wNts wNtsReq = .ok (zeros 32) (zeros 32) 0 ∧
    ((aliasedSeal.port aliasedJob.port).cal.any fun e => e.frame.id == aliasedJob.id) = true := by
  decide +kernel

/-- Its completion counts the accepted cookie and the cookie minted at the one key. -/
theorem flailJobCompleteEff_aliased : (flailJobCompleteEff 5 aliasedSeal).valN Obj.nts_key_accepted 23 = 2 := by decide +kernel

theorem aliasedSeal_none : aliasedSeal.valN Obj.nts_key_accepted 23 = 0 := by decide +kernel

/-- Refutes O45: the clause of FLAIL_JOB_COMPLETE leaves the job's slot number free, and at a number no slot has the object of `nts.key_accepted` is
`nts.cookies` of the job's port, which the completion counts too. -/
theorem not_ntsService : ¬ Obligations.NtsService := by
  unfold Obligations.NtsService
  rintro ⟨-, -, -, hdone, -⟩
  obtain ⟨hjob, hat, hfirst, hwork, hudp, hparse, hopen, hcal⟩ := aliasedJob_done
  obtain ⟨t, ht, -, -, hacc, -⟩ := hdone aliasedSeal 5 aliasedJob (wIp wNts) wNts wNtsReq (zeros 32) (zeros 32) 0 1 0 hjob hat hfirst hwork hudp hparse hopen hcal
  have heq : flailJobCompleteEff 5 aliasedSeal = t := by injection ht
  have hval : t.valN Obj.nts_key_accepted 23 = min (aliasedSeal.valN Obj.nts_key_accepted 23 + 1) (2 ^ 64 - 1) := hacc
  rw [← heq, flailJobCompleteEff_aliased, aliasedSeal_none] at hval
  exact absurd hval (by decide)

end Sys2Proof.Machine

/-! SUPPORT. Ends of drains (R47, R48). -/
namespace Sys2Proof.Machine

/-- The drain of the empty queue of a Cremin link is due, and `drain.drops` of links reads more than its 64 bits hold. -/
def drainOverfull : State := ({ net := { drains := [(9, 0, 0)] }, tc := { boundaries := 2 } } : State).setN Obj.drain_drops (2 ^ 64) 9

theorem drainOverfull_due : drainOverfull.net.drains = [(9, 0, 0)] ∧ 0 + 2 ≤ drainOverfull.tc.boundaries ∧ drainOverfull.linkRuns 0 = false ∧
    (drainOverfull.link 0).queue.length = 0 ∧ drainOverfull.valN Obj.drain_drops 9 = 2 ^ 64 := by
  decide +kernel

/-- Nothing is dropped, so the counter is not written. -/
theorem drainEndEff_overfull : (drainEndEff drainOverfull).valN Obj.drain_drops 9 = 2 ^ 64 := by decide +kernel

/-- Refutes O46: DRAIN_END of an empty queue leaves `drain.drops` as it is, where the clause has it at most 2^64 - 1, and no hypothesis keeps the value
that the counter has within its type. -/
theorem not_smearPolicerDrain : ¬ Obligations.SmearPolicerDrain := by
  unfold Obligations.SmearPolicerDrain
  rintro ⟨-, -, -, -, -, -, -, hdrain, -⟩
  obtain ⟨hdue, hat, hruns, hlen, hval⟩ := drainOverfull_due
  obtain ⟨t, ht, -, -, hcount, -⟩ := hdrain drainOverfull 0 0 hdue (by decide) hat hruns
  have heq : drainEndEff drainOverfull = t := by injection ht
  rw [← heq, drainEndEff_overfull, hlen, hval] at hcount
  exact absurd hcount (by decide)

end Sys2Proof.Machine

/-! SUPPORT. Messages of a PTP master (R414, R420 to R423). -/
namespace Sys2Proof.Machine

/-! ### What a message reads of the ports' part -/

theorem State.parentData_congr (s t : State) (h : ∀ j, (t.ptp j).parent = (s.ptp j).parent ∧ (t.ptp j).foreign = (s.ptp j).foreign) (j : Nat) :
    t.parentData j = s.parentData j := by
  obtain ⟨h1, h2⟩ := h j
  unfold State.parentData
  rw [h1, h2]

/-- An Announce rests on the parts outside the ports, and on what the instances know of their parents. -/
theorem State.announceMsg_congr (s t : State) (n : Net) (ht : t = { s with net := n })
    (h : ∀ j, (t.ptp j).parent = (s.ptp j).parent ∧ (t.ptp j).foreign = (s.ptp j).foreign) (i p : Nat) (uni : Bool) (seq : Nat) (log : Int) :
    t.announceMsg i p uni seq log = s.announceMsg i p uni seq log := by
  have hpass (i : Nat) : t.passFrom i = s.passFrom i := by
    unfold State.passFrom
    simp only [s.parentData_congr t h]
    rw [ht]
    rfl
  have hclass (i : Nat) : t.classNow i = s.classNow i := by
    unfold State.classNow
    rw [hpass, ht]
    rfl
  unfold State.announceMsg
  rw [hpass, hclass, ht]
  rfl

/-- A Sync without the information TLV rests on the configuration. -/
theorem State.syncMsg_congr (s t : State) (n : Net) (ht : t = { s with net := n }) (i p : Nat) (hg : s.gptp i = false) (two uni : Bool) (seq : Nat)
    (log cf : Int) (ts : Bytes) : t.syncMsg i p two uni seq log cf ts = s.syncMsg i p two uni seq log cf ts := by
  have hgt : t.gptp i = false := by rw [ht]; exact hg
  unfold State.syncMsg
  rw [hg, hgt, ht]
  rfl

/-! ### Messages sent -/

/-- A message without authentication that finds a frame and cells is sent. -/
theorem State.ptpSend_spec (s : State) (i p : Nat) (event : Bool) (dst : Bytes × Bytes) (ipcp : Nat) (note : TxNote) (m b : Bytes) (off q : Nat) (hp : p < 9)
    (ha : s.effN Obj.ptp_auth_mode i = 0) (hf : s.ptpFrame i p event dst ipcp m = some (b, off)) (hq : s.effN Obj.ptp_queue i = q) (hq8 : q < 8)
    (hc : cellsOf ((padTo 60 b).length + 4) ≤ s.freeCells p q) :
    ∃ u, s.ptpSend i p event dst ipcp note m = (u, true) ∧
      (u.queue p q).fifo = (s.queue p q).fifo ++ [{ id := s.net.nextId, bytes := padTo 60 b, queue := q, steps := s.steps, note := note, born := s.update }] ∧
      (∀ m, m ≠ p → u.port m = s.port m) ∧ ∃ po, u = { s with net := { s.net with ports := po, nextId := s.net.nextId + 1 } } := by
  subst hq
  obtain ⟨u, h1, h2, -, h3, -, h4⟩ := s.enqueue_spec p { bytes := b, queue := s.effN Obj.ptp_queue i, steps := s.steps, note := note, born := s.update } hp hq8 hc
  refine ⟨u, ?_, h2, h3, h4⟩
  have hs : s.ptpSign i m = some (s, m) := if_pos ha
  unfold State.ptpSend
  rw [hs]
  dsimp only
  rw [hf]
  dsimp only
  rw [h1]

theorem State.ptpPut_spec (s : State) (i p : Nat) (event : Bool) (dst : Bytes × Bytes) (ipcp : Nat) (note : TxNote) (m b : Bytes) (off q : Nat) (hp : p < 9)
    (ha : s.effN Obj.ptp_auth_mode i = 0) (hf : s.ptpFrame i p event dst ipcp m = some (b, off)) (hq : s.effN Obj.ptp_queue i = q) (hq8 : q < 8)
    (hc : cellsOf ((padTo 60 b).length + 4) ≤ s.freeCells p q) (u : State) (hu : s.ptpPut i p event dst ipcp note m = u) :
      (u.queue p q).fifo = (s.queue p q).fifo ++ [{ id := s.net.nextId, bytes := padTo 60 b, queue := q, steps := s.steps, note := note, born := s.update }] ∧
      (∀ m, m ≠ p → u.port m = s.port m) ∧ ∃ po, u = { s with net := { s.net with ports := po, nextId := s.net.nextId + 1 } } := by
  obtain ⟨v, h1, h2⟩ := s.ptpSend_spec i p event dst ipcp note m b off q hp ha hf hq hq8 hc
  unfold State.ptpPut at hu
  rw [h1] at hu
  rw [← hu]
  exact h2

/-! ### Announce and Sync -/

/-- A PTP clock has used the instant of an Announce. -/
def PtpInst.announced (x : PtpInst) (p : Nat) (m : Int) : PtpInst :=
  { x with annAt := vmod x.annAt p fun _ => m, annSeq := vmod x.annSeq p fun v => (v + 1) % 65536 }

/-- A PTP clock has used the instant of a Sync. -/
def PtpInst.synced (x : PtpInst) (p : Nat) (m : Int) : PtpInst :=
  { x with syncAt := vmod x.syncAt p fun _ => m, syncSeq := vmod x.syncSeq p fun v => (v + 1) % 65536 }

theorem announceSendEff_due (i p : Nat) (s : State) (hm : s.masterUp i p = true) (hmode : s.effN Obj.ptp_mode i < 2)
    (ht : s.tod - (lastInstant s.tod 0 (logTod (s.effI Obj.ptp_log_announce i))) < tickU)
    (hn : vat (s.ptp i).annAt p 0 ≠ lastInstant s.tod 0 (logTod (s.effI Obj.ptp_log_announce i))) :
    announceSendEff i p s = (s.modPtp i fun x => x.announced p (lastInstant s.tod 0 (logTod (s.effI Obj.ptp_log_announce i)))).ptpPut i p false (s.ptpGroup i false) 0
      (.general i p) (s.announceMsg i p false (vat (s.ptp i).annSeq p 0) (s.effI Obj.ptp_log_announce i)) := by
  have hmsg := s.announceMsg_congr (s.modPtp i fun x => x.announced p (lastInstant s.tod 0 (logTod (s.effI Obj.ptp_log_announce i)))) _ rfl (fun j => by
    by_cases hj : j = i
    · subst hj
      by_cases h4 : j < 4
      · rw [State.modPtp_ptp _ _ _ h4]
        exact ⟨rfl, rfl⟩
      · unfold State.ptp State.modPtp vat
        rw [dif_neg h4, dif_neg h4]
        exact ⟨rfl, rfl⟩
    · rw [State.modPtp_ptp_other _ _ _ _ hj]
      exact ⟨rfl, rfl⟩) i p false (vat (s.ptp i).annSeq p 0) (s.effI Obj.ptp_log_announce i)
  unfold announceSendEff
  dsimp only
  rw [if_pos (by simp [hm, hmode, ht, hn])]
  rw [← hmsg]
  rfl

theorem syncReleaseEff_due (i p : Nat) (s : State) (hm : s.masterUp i p = true) (hmode : s.effN Obj.ptp_mode i < 2) (hg : s.gptp i = false)
    (ht : s.tod - (lastInstant s.tod 0 (logTod (s.effI Obj.ptp_log_sync i))) < tickU)
    (hn : vat (s.ptp i).syncAt p 0 ≠ lastInstant s.tod 0 (logTod (s.effI Obj.ptp_log_sync i))) :
    syncReleaseEff i p s = (s.modPtp i fun x => x.synced p (lastInstant s.tod 0 (logTod (s.effI Obj.ptp_log_sync i)))).releaseSync i p (s.ptpGroup i false)
      (vat (s.ptp i).syncSeq p 0) (s.effI Obj.ptp_log_sync i) none := by
  unfold syncReleaseEff
  dsimp only
  rw [if_pos (by simp [hm, hmode, ht, hn, hg])]
  rfl

/-- A Sync in one step without authentication. -/
theorem State.releaseSync_oneStep (s : State) (i p : Nat) (dst : Bytes × Bytes) (seq : Nat) (log : Int) (b : Bytes) (off q : Nat) (hp : p < 9)
    (hst : s.effN Obj.ptp_step_mode i = 0) (ha : s.effN Obj.ptp_auth_mode i = 0)
    (hf : s.ptpFrame i p true dst 0 (s.syncMsg i p false false seq log 0 (zeros 10)) = some (b, off)) (hq : s.effN Obj.ptp_queue i = q) (hq8 : q < 8)
    (hc : cellsOf ((padTo 60 b).length + 4) ≤ s.freeCells p q) (u : State) (hu : s.releaseSync i p dst seq log none = u) :
    (∃ f : TxFrame, (u.queue p q).fifo = (s.queue p q).fifo ++ [f] ∧
        (f.bytes, f.enc != 0, f.stampOff, f.cfOff, f.note) = (padTo 60 b, true, off + 34, off + 8, TxNote.oneStep i p)) ∧
      (∀ m, m ≠ p → u.port m = s.port m) ∧ ∃ po, u = { s with net := { s.net with ports := po, nextId := s.net.nextId + 1 } } := by
  subst hq
  obtain ⟨v, h1, h2, -, h3, -, h4⟩ := s.enqueue_spec p
    { bytes := b, queue := s.effN Obj.ptp_queue i, enc := if s.effN Obj.ptp_ts_encoding i = 0 then 2 else 3, stampOff := off + 34,
      cfOff := off + 8, csumOff := if s.effN Obj.ptp_transport i = 0 then 0xFFFF else off - 2, steps := s.steps, note := .oneStep i p } hp hq8 hc
  have hv : s.releaseSync i p dst seq log none = v := by
    unfold State.releaseSync
    dsimp only [Option.isSome_none]
    rw [if_neg (by omega), if_neg (by omega), hf]
    dsimp only
    rw [State.send, h1]
    rfl
  rw [← hu, hv]
  refine ⟨⟨_, h2, ?_⟩, h3, h4⟩
  dsimp only
  split
  · rfl
  · rfl

end Sys2Proof.Machine

/-! SUPPORT. Follow_Ups and requests of PTP clients (R421 to R423). -/
namespace Sys2Proof.Machine

/-! ### Follow_Ups -/

/-- Cells returned leave the frames of a queue. -/
theorem State.useCells_fifo (s : State) (p q : Nat) (d : Int) (hp : p < 9) (hq : q < 8) : ((s.useCells p q d).queue p q).fifo = (s.queue p q).fifo := by
  unfold State.useCells
  rw [State.modQueue_queue _ _ _ _ hp hq]

theorem State.dropFup_spec (s : State) (i : Nat) (e : Fup) (hi : i < 4) :
    (s.dropFup i e).ptp i = { s.ptp i with fups := (s.ptp i).fups.erase e } ∧ (∀ m, m ≠ i → (s.dropFup i e).ptp m = s.ptp m) ∧
      (∀ m, m ≠ e.port → (s.dropFup i e).port m = s.port m) ∧
      (∃ po pt, s.dropFup i e = { s with net := { s.net with ports := po, ptp := pt } }) ∧
      (∀ q, (s.dropFup i e).queue e.port q = (s.useCells e.port e.queue (-(e.cells : Int))).queue e.port q) :=
  ⟨State.modPtp_ptp _ _ _ hi, fun m hm => State.modPtp_ptp_other _ _ _ m hm, fun m hm => s.modPort_port_other _ _ m hm, ⟨_, _, rfl⟩, fun _ => rfl⟩

/-- A Follow_Up that finds its cells is queued. -/
theorem State.sendFup_sent (s : State) (i p t : Nat) (e : Fup) (hi : i < 4) (hp : p < 9)
    (h : (s.ptp i).fups.find? (fun e => e.port == p && e.type == t) = some e) (hl : s.linkUp p = true) (hq : e.queue < 8)
    (hc : cellsOf ((padTo 60 e.bytes).length + 4) ≤ (s.dropFup i e).freeCells p e.queue) (u : State) (hu : s.sendFup i p t = u) :
    (u.queue p e.queue).fifo = (s.queue p e.queue).fifo ++ [{ id := s.net.nextId, bytes := padTo 60 e.bytes, queue := e.queue, note := .general i p }] ∧
      u.ptp i = { s.ptp i with fups := (s.ptp i).fups.erase e } ∧ (∀ m, m ≠ i → u.ptp m = s.ptp m) ∧ (∀ m, m ≠ p → u.port m = s.port m) ∧
      u = { s with net := u.net } := by
  have hep : e.port = p := by
    have := List.find?_some h
    simp only [Bool.and_eq_true, beq_iff_eq] at this
    exact this.1
  obtain ⟨h1, h2, h3, ⟨po, pt, h4⟩, h5⟩ := s.dropFup_spec i e hi
  rw [hep] at h3 h5
  have hid : (s.dropFup i e).net.nextId = s.net.nextId := rfl
  have hlink : (s.dropFup i e).linkUp p = true := hl
  have hfifo : ((s.dropFup i e).queue p e.queue).fifo = (s.queue p e.queue).fifo := by
    rw [h5]
    exact s.useCells_fifo p e.queue _ hp hq
  obtain ⟨v, k1, k2, -, k3, -, po', k4⟩ := (s.dropFup i e).enqueue_spec p { bytes := e.bytes, queue := e.queue, note := .general i p } hp hq hc
  have hv : s.sendFup i p t = v := by
    unfold State.sendFup
    rw [h]
    dsimp only
    rw [if_neg (by simp [hlink]), k1]
  rw [hv] at hu
  subst hu
  rw [hfifo, hid] at k2
  have hptp (j : Nat) : v.ptp j = (s.dropFup i e).ptp j := by rw [k4]; rfl
  refine ⟨k2, (hptp i).trans h1, fun m hm => (hptp m).trans (h2 m hm), fun m hm => (k3 m hm).trans (h3 m hm), ?_⟩
  rw [k4, h4]

/-- A Follow_Up whose link is down, or that finds no cells, is missed. -/
theorem State.sendFup_missed (s : State) (i p t : Nat) (e : Fup) (hi : i < 4)
    (h : (s.ptp i).fups.find? (fun e => e.port == p && e.type == t) = some e)
    (hl : s.linkUp p = false ∨ (s.dropFup i e).freeCells p e.queue < cellsOf ((padTo 60 e.bytes).length + 4)) (u : State) (hu : s.sendFup i p t = u) :
    u.valN Obj.ptp_followup_missed i p = min (s.valN Obj.ptp_followup_missed i p + 1) (2 ^ 64 - 1) ∧
      u.ptp i = { s.ptp i with fups := (s.ptp i).fups.erase e } ∧ (∀ m, m ≠ i → u.ptp m = s.ptp m) ∧ (∀ m, m ≠ p → u.port m = s.port m) ∧
      u = { s with net := u.net, dict := u.dict } ∧ SameDict s u [Obj.ptp_followup_missed.key i p] := by
  have hep : e.port = p := by
    have := List.find?_some h
    simp only [Bool.and_eq_true, beq_iff_eq] at this
    exact this.1
  obtain ⟨h1, h2, h3, ⟨po, pt, h4⟩, -⟩ := s.dropFup_spec i e hi
  rw [hep] at h3
  have hlink : (s.dropFup i e).linkUp p = s.linkUp p := rfl
  have heq : s.sendFup i p t = (s.dropFup i e).count Obj.ptp_followup_missed i p := by
    unfold State.sendFup
    rw [h]
    dsimp only
    rw [hlink]
    by_cases hup : s.linkUp p = true
    · rcases hl with hl | hl
      · rw [hup] at hl
        exact absurd hl (by simp)
      · rw [if_neg (by simp [hup]), State.enqueue_none _ p { bytes := e.bytes, queue := e.queue, note := .general i p } hl]
    · exact if_pos (by simpa using hup)
  have hval := (s.dropFup i e).count_u64 Obj.ptp_followup_missed i p 1 rfl
  rw [heq] at hu
  subst hu
  have hold : (s.dropFup i e).valN Obj.ptp_followup_missed i p = s.valN Obj.ptp_followup_missed i p := rfl
  rw [hold] at hval
  generalize s.dropFup i e = d at *
  refine ⟨hval, h1, h2, h3, ?_, ?_⟩
  · subst h4
    rfl
  · subst h4
    exact SameDict.count (SameDict.refl _ _) (by simp) 1

theorem State.sendFup_none (s : State) (i p t : Nat) (h : (s.ptp i).fups.find? (fun e => e.port == p && e.type == t) = none) : s.sendFup i p t = s := by
  unfold State.sendFup
  rw [h]

/-! ### Requests taken (R411, R412) -/

/-- An event message that passes the policer and is served and counted. -/
def State.eventTaken (s : State) (f : RxFrame) (i : Nat) : State := ((s.count Obj.pol_passed f.port).serve f).count Obj.ptp_rx_event i f.port

theorem State.ptpPoliced_event (s : State) (f : RxFrame) (x : PtpIn) (i : Nat) (hf : s.ptpFor f x = some i) (hw : x.wellFormed = true)
    (ha : s.effN Obj.ptp_auth_mode i = 0) (hp : s.effT Obj.pol_enable = false) (ht : x.type < 8) : s.ptpPoliced f x = (s.eventTaken f i, some i) := by
  have hf' : ((s.count Obj.pol_passed f.port).serve f).ptpFor f x = some i := hf
  have ha' : ((s.count Obj.pol_passed f.port).serve f).effN Obj.ptp_auth_mode i = 0 := ha
  unfold State.ptpPoliced
  rw [s.police_off _ _ _ _ hp]
  dsimp only
  unfold State.ptpAccept State.eventTaken
  dsimp only
  generalize (s.count Obj.pol_passed f.port).serve f = u at *
  rw [hf']
  dsimp only
  have hver : u.ptpVerify i x = (u, true) := if_pos ha'
  rw [if_neg (by simp [hw]), hver]
  dsimp only
  rw [if_pos ht]

theorem State.eventTaken_frame (s : State) (f : RxFrame) (i : Nat) :
    ∃ v, s.eventTaken f i = { s with dict := { s.dict with val := v }, net := (s.takeRx f).net } := ⟨_, rfl⟩

/-- What is in effect, the queues and the count of frames after a request is taken. -/
theorem State.eventTaken_keeps (s : State) (f : RxFrame) (i : Nat) : (∀ r j, (s.eventTaken f i).effN r j = s.effN r j) ∧
    (∀ p q, (s.eventTaken f i).freeCells p q = s.freeCells p q) ∧ (s.eventTaken f i).net.nextId = s.net.nextId := by
  obtain ⟨v, hf⟩ := s.eventTaken_frame f i
  have hfree := s.takeRx_freeCells f
  rw [hf]
  exact ⟨fun _ _ => rfl, fun p q => (hfree p q : _), rfl⟩

theorem State.eventTaken_spec (s : State) (f : RxFrame) (i : Nat) (hp : f.port < 8) (hi : i < 4) (t : State) (ht : s.eventTaken f i = t) :
    (∃ v, t = { s with dict := { s.dict with val := v }, net := (s.takeRx f).net }) ∧
      t.valN Obj.ptp_rx_event i f.port = min (s.valN Obj.ptp_rx_event i f.port + 1) (2 ^ 64 - 1) ∧
      t.valN Obj.mac_rx_served f.port = min (s.valN Obj.mac_rx_served f.port + 1) (2 ^ 64 - 1) ∧
      t.valN Obj.pol_passed f.port = min (s.valN Obj.pol_passed f.port + 1) (2 ^ 64 - 1) ∧
      SameDict s t [Obj.ptp_rx_event.key i f.port, Obj.mac_rx_served.key f.port 0, Obj.pol_passed.key f.port 0] := by
  have k1 : Obj.ptp_rx_event.key i f.port ≠ Obj.mac_rx_served.key f.port 0 := by simp only [ne_eq, Row.key, Obj.ptp_rx_event, Obj.mac_rx_served]; omega
  have k2 : Obj.ptp_rx_event.key i f.port ≠ Obj.pol_passed.key f.port 0 := by simp only [ne_eq, Row.key, Obj.ptp_rx_event, Obj.pol_passed]; omega
  have k3 : Obj.mac_rx_served.key f.port 0 ≠ Obj.pol_passed.key f.port 0 := by simp only [ne_eq, Row.key, Obj.mac_rx_served, Obj.pol_passed]; omega
  have htake (r : Row) (a b : Nat) : ((s.count Obj.pol_passed f.port).takeRx f).valN r a b = (s.count Obj.pol_passed f.port).valN r a b := rfl
  subst ht
  unfold State.eventTaken State.serve
  refine ⟨⟨_, rfl⟩, ?_, ?_, ?_, ?_⟩
  · rw [State.count_u64 _ _ _ _ _ rfl, State.count_keeps _ _ k1, htake, State.count_keeps _ _ k2]
  · rw [State.count_keeps _ _ k1.symm, State.count_u64 _ _ _ _ _ rfl, htake, State.count_keeps _ _ k3]
  · rw [State.count_keeps _ _ k2.symm, State.count_keeps _ _ k3.symm, htake, State.count_u64 _ _ _ _ _ rfl]
  · have hd : SameDict s (s.count Obj.pol_passed f.port) [Obj.ptp_rx_event.key i f.port, Obj.mac_rx_served.key f.port 0, Obj.pol_passed.key f.port 0] :=
      SameDict.count (.refl s _) (by simp) 1
    exact SameDict.count (SameDict.count (t := (s.count Obj.pol_passed f.port).takeRx f) hd (by simp) 1) (by simp) 1

/-- The count of steps does not rest on what taking a request counts. -/
theorem State.eventTaken_steps (s : State) (f : RxFrame) (i : Nat) (hp : f.port < 8) (hi : i < 4) : (s.eventTaken f i).steps = s.steps := by
  obtain ⟨⟨v, hf⟩, -, -, -, hd⟩ := s.eventTaken_spec f i hp hi _ rfl
  refine hd.valN_eq (by rw [hf]) ?_
  simp only [List.mem_cons, List.not_mem_nil, or_false, not_or, Row.key, Obj.tod_step_count, Obj.ptp_rx_event, Obj.mac_rx_served, Obj.pol_passed]
  omega

/-- The PTP clock of a message is one of four. -/
theorem State.ptpFor_lt (s : State) (f : RxFrame) (x : PtpIn) (i : Nat) (h : s.ptpFor f x = some i) : i < 4 := List.mem_range.mp (List.mem_of_find?_eq_some h)

theorem State.nextPtp_type (s : State) (k : Nat) (f : RxFrame) (x : PtpIn) (h : s.nextPtp k = some (f, x)) : x.type = k := by
  have := List.find?_some h
  simpa using this

theorem State.ptpRoom_of (s : State) (f : RxFrame) (x : PtpIn) (i : Nat) (hf : s.ptpFor f x = some i) (ht : s.thresherUp = true)
    (hc : cellsOf (f.len + 40) ≤ s.freeCells f.port (s.effN Obj.ptp_queue i)) : s.ptpRoom f x = true := by
  unfold State.ptpRoom
  rw [hf, ht]
  exact decide_eq_true hc

/-- A Delay_Req outside unicast on a master port of a PTP clock that measures end to end, without authentication: the Delay_Resp. -/
theorem State.delayResp_multicast (s : State) (i : Nat) (f : RxFrame) (x : PtpIn) (hm : s.onMaster i f = true) (hd : s.effN Obj.ptp_delay_mech i = 0)
    (hmode : s.effN Obj.ptp_mode i = 0) (hu : x.uni = false) :
    ∃ ss, s.delayResp i f x = State.ptpPut { s with net := { s.net with sessions := ss } } i f.port false (s.ptpGroup i false) f.ipcp (.general i f.port)
      (s.ptpMsg i f.port mDelayResp 0 0 (ptpCf x.msg - s.ptpFrac i f.stamp) (field x.msg 30 2) (s.effI Obj.ptp_log_delay_req i)
        (ptpTs f.stamp ++ slice x.msg 20 10)) := by
  have hfin (u : State) (ss : List Session) (g : Bool) (l : Int) (hu' : u = { s with net := { s.net with sessions := ss } }) :
      (if (!u.onMaster i f || u.effN Obj.ptp_delay_mech i != 0) = true then u
        else if ((s.effN Obj.ptp_mode i == 0 && x.uni) || (s.effN Obj.ptp_mode i == 2 && !g)) = true then u.count Obj.ptp_no_grant i f.port
        else u.ptpPut i f.port false (if x.uni = true then x.back else u.ptpGroup i false) f.ipcp (.general i f.port)
          (u.ptpMsg i f.port mDelayResp (if x.uni = true then fUnicast else 0) 0 (ptpCf x.msg - u.ptpFrac i f.stamp) (field x.msg 30 2)
            (if s.effN Obj.ptp_mode i = 2 then l else u.effI Obj.ptp_log_delay_req i) (ptpTs f.stamp ++ slice x.msg 20 10))) =
      State.ptpPut { s with net := { s.net with sessions := ss } } i f.port false (s.ptpGroup i false) f.ipcp (.general i f.port)
        (s.ptpMsg i f.port mDelayResp 0 0 (ptpCf x.msg - s.ptpFrac i f.stamp) (field x.msg 30 2) (s.effI Obj.ptp_log_delay_req i)
          (ptpTs f.stamp ++ slice x.msg 20 10)) := by
    subst hu'
    have hm' : State.onMaster { s with net := { s.net with sessions := ss } } i f = true := hm
    have hd' : State.effN { s with net := { s.net with sessions := ss } } Obj.ptp_delay_mech i = 0 := hd
    rw [hm', hd', hmode, hu]
    rfl
  unfold State.delayResp
  dsimp only
  cases s.sessionOf i f.port x.src (slice x.msg 20 10) with
  | none => exact ⟨s.net.sessions, hfin s _ _ _ rfl⟩
  | some y => exact ⟨_, hfin (s.modSession y.num fun y => { y with mac := x.mac }) _ _ _ rfl⟩

/-- Messages and their frames rest on the configuration. -/
theorem State.ptp_congr (s t : State) (v : Store) (n : Net) (ht : t = { s with dict := { s.dict with val := v }, net := n }) (i : Nat) :
    (∀ b, t.ptpGroup i b = s.ptpGroup i b) ∧ (∀ st, t.ptpFrac i st = s.ptpFrac i st) ∧
      (∀ p k f0 f1 cf seq log body, t.ptpMsg i p k f0 f1 cf seq log body = s.ptpMsg i p k f0 f1 cf seq log body) ∧
      (∀ p ev dst ipcp m, t.ptpFrame i p ev dst ipcp m = s.ptpFrame i p ev dst ipcp m) ∧ ∀ r, t.effI r i = s.effI r i := by
  rw [ht]
  exact ⟨fun _ => rfl, fun _ => rfl, fun _ _ _ _ _ _ _ _ => rfl, fun _ _ _ _ _ => rfl, fun _ => rfl⟩

/-! ### The obligation -/

theorem delayReqReceiveEff_answer (s : State) (f : RxFrame) (x : PtpIn) (i : Nat) (hn : s.nextPtp mDelayReq = some (f, x)) (hf : s.ptpFor f x = some i)
    (hw : x.wellFormed = true) (ha : s.effN Obj.ptp_auth_mode i = 0) (hp : s.effT Obj.pol_enable = false) (hr : s.ptpRoom f x = true) :
    delayReqReceiveEff s = (s.eventTaken f i).delayResp i f x := by
  have ht : x.type < 8 := by rw [s.nextPtp_type _ f x hn]; decide
  unfold delayReqReceiveEff
  rw [hn]
  dsimp only
  rw [if_neg (by simp [hr]), s.ptpPoliced_event f x i hf hw ha hp ht]

theorem pdelayReqReceiveEff_answer (s : State) (f : RxFrame) (x : PtpIn) (i : Nat) (hn : s.nextPtp mPdelayReq = some (f, x)) (hf : s.ptpFor f x = some i)
    (hw : x.wellFormed = true) (ha : s.effN Obj.ptp_auth_mode i = 0) (hp : s.effT Obj.pol_enable = false) (hr : s.ptpRoom f x = true)
    (htr : s.effN Obj.ptp_transport i = 0) :
    pdelayReqReceiveEff s = (s.eventTaken f i).ptpPut i f.port true ((s.eventTaken f i).ptpGroup i true) f.ipcp (.pdelayResp i f.port (field x.msg 30 2) (slice x.msg 20 10))
      ((s.eventTaken f i).ptpMsg i f.port mPdelayResp fTwoStep 0 ((s.eventTaken f i).ptpFrac i f.stamp) (field x.msg 30 2) 0x7F
        (ptpTs f.stamp ++ slice x.msg 20 10)) := by
  have ht : x.type < 8 := by rw [s.nextPtp_type _ f x hn]; decide
  have htr' : (s.eventTaken f i).effN Obj.ptp_transport i = 0 := ((s.eventTaken_keeps f i).1 _ _).trans htr
  unfold pdelayReqReceiveEff
  rw [hn]
  dsimp only
  rw [if_neg (by simp [hr]), s.ptpPoliced_event f x i hf hw ha hp ht]
  exact if_neg (by simp [htr'])

/-- A request that is taken, and answered on its port from the state `a` with other sessions. -/
theorem State.eventAnswered (s a : State) (f : RxFrame) (i : Nat) (hp : f.port < 8) (hi : i < 4) (q : Nat) (g : TxFrame) (ss : List Session) (t : State)
    (ha : s.eventTaken f i = a) (h1 : (t.queue f.port q).fifo = (a.queue f.port q).fifo ++ [g]) (h2 : ∀ m, m ≠ f.port → t.port m = a.port m)
    (h3 : ∃ po, t = { a with net := { a.net with sessions := ss, ports := po, nextId := a.net.nextId + 1 } }) :
    (t.queue f.port q).fifo = (s.queue f.port q).fifo ++ [g] ∧ (t.net.waiting = s.net.waiting.filter fun y => y.id != f.id) ∧
      t.valN Obj.ptp_rx_event i f.port = min (s.valN Obj.ptp_rx_event i f.port + 1) (2 ^ 64 - 1) ∧
      t.valN Obj.mac_rx_served f.port = min (s.valN Obj.mac_rx_served f.port + 1) (2 ^ 64 - 1) ∧
      t.valN Obj.pol_passed f.port = min (s.valN Obj.pol_passed f.port + 1) (2 ^ 64 - 1) ∧
      (∀ m, m ≠ f.port → t.port m = s.port m) ∧ t = { s with net := t.net, dict := t.dict } ∧
      SameDict s t [Obj.ptp_rx_event.key i f.port, Obj.mac_rx_served.key f.port 0, Obj.pol_passed.key f.port 0] := by
  obtain ⟨⟨v, hf⟩, hv1, hv2, hv3, hd⟩ := s.eventTaken_spec f i hp hi a ha
  have hq := s.takeRx_queue f f.port q
  have ho := s.takeRx_other f
  have hwait : (s.takeRx f).net.waiting = s.net.waiting.filter fun y => y.id != f.id := rfl
  have haq : a.queue f.port q = s.queue f.port q := by rw [← hq, hf]; rfl
  have hap (m : Nat) (hm : m ≠ f.port) : a.port m = s.port m := by rw [← ho m hm, hf]; rfl
  have haw : a.net.waiting = s.net.waiting.filter fun y => y.id != f.id := by rw [← hwait, hf]
  obtain ⟨po, ht⟩ := h3
  have htv (r : Row) (x y : Nat) : t.valN r x y = a.valN r x y := by rw [ht]; rfl
  have htw : t.net.waiting = a.net.waiting := by rw [ht]
  refine ⟨by rw [h1, haq], by rw [htw, haw], by rw [htv]; exact hv1, by rw [htv]; exact hv2, by rw [htv]; exact hv3,
    fun m hm => (h2 m hm).trans (hap m hm), ?_, ?_⟩
  · rw [ht, hf]
  · rw [ht]
    exact hd

/-- Settles O47: what a master sends of its own, its Follow_Ups, and its answers. -/
theorem ptpMaster : Obligations.PtpMaster := by
  unfold Obligations.PtpMaster
  refine ⟨?announce, ?noAnnounce, ?sync, ?noSync, ?followUp, ?followUpMissed, ?noFollowUp, ?pdelayUp, ?pdelayUpMissed, ?noPdelayUp, ?delayReq, ?pdelayReq,
    ?noDelayReq, ?noPdelayReq⟩
  case announce =>
    intro s i p b off q hm hmode ht hn ha hf hq hq8 hc
    have heq := announceSendEff_due i p s hm hmode ht hn
    have hx := s.modPtp_ptp i (fun x => x.announced p (lastInstant s.tod 0 (logTod (s.effI Obj.ptp_log_announce i)))) i.isLt
    obtain ⟨pt, hpt⟩ : ∃ pt, (s.modPtp i fun x => x.announced p (lastInstant s.tod 0 (logTod (s.effI Obj.ptp_log_announce i)))) =
      { s with net := { s.net with ptp := pt } } := ⟨_, rfl⟩
    rw [hpt] at heq hx
    obtain ⟨h1, h2, po, h3⟩ := State.ptpPut_spec { s with net := { s.net with ptp := pt } } i p false (s.ptpGroup i false) 0 (.general i p)
      (s.announceMsg i p false (vat (s.ptp i).annSeq p 0) (s.effI Obj.ptp_log_announce i)) b off q (by omega) ha hf hq hq8 hc _ heq.symm
    have hptp : (announceSendEff i p s).ptp i = State.ptp { s with net := { s.net with ptp := pt } } i := by rw [h3]; rfl
    refine ⟨announceSendEff i p s, rfl, h1, ?_, ?_, h2, by rw [h3]⟩
    · rw [hptp, hx]
      exact vat_vmod_same _ _ _ _ p.isLt
    · rw [hptp, hx]
      exact vat_vmod_same _ _ _ _ p.isLt
  case noAnnounce =>
    intro s i p h
    have heq : announceSendEff i p s = s := by
      unfold announceSendEff
      dsimp only
      rw [if_neg]
      rcases h with h | h | h | h
      · simp [h]
      · simp [Nat.not_lt.mpr h]
      · simp [Int.not_lt.mpr h]
      · simp [h]
    exact ⟨s, next_of_eq heq, rfl⟩
  case sync =>
    intro s i p b off q hm hmode hg ht hn ha hst hf hq hq8 hc
    have heq := syncReleaseEff_due i p s hm hmode hg ht hn
    have hx := s.modPtp_ptp i (fun x => x.synced p (lastInstant s.tod 0 (logTod (s.effI Obj.ptp_log_sync i)))) i.isLt
    obtain ⟨pt, hpt⟩ : ∃ pt, (s.modPtp i fun x => x.synced p (lastInstant s.tod 0 (logTod (s.effI Obj.ptp_log_sync i)))) =
      { s with net := { s.net with ptp := pt } } := ⟨_, rfl⟩
    rw [hpt] at heq hx
    have hmsg := s.syncMsg_congr { s with net := { s.net with ptp := pt } } _ rfl i p hg false false (vat (s.ptp i).syncSeq p 0)
      (s.effI Obj.ptp_log_sync i) 0 (zeros 10)
    obtain ⟨⟨f, h1, h1'⟩, h2, po, h3⟩ := State.releaseSync_oneStep { s with net := { s.net with ptp := pt } } i p (s.ptpGroup i false)
      (vat (s.ptp i).syncSeq p 0) (s.effI Obj.ptp_log_sync i) b off q (by omega) hst ha (by rw [hmsg]; exact hf) hq hq8 hc _ heq.symm
    have hptp : (syncReleaseEff i p s).ptp i = State.ptp { s with net := { s.net with ptp := pt } } i := by rw [h3]; rfl
    refine ⟨syncReleaseEff i p s, rfl, ?_, ?_, ?_, h2, by rw [h3]⟩
    · rw [h1, List.getLast?_concat, Option.map_some, h1']
    · rw [h1, List.length_append]
      rfl
    · rw [hptp, hx]
      exact vat_vmod_same _ _ _ _ p.isLt
  case noSync =>
    intro s i p h
    have heq : syncReleaseEff i p s = s := by
      unfold syncReleaseEff
      dsimp only
      rw [if_neg]
      rcases h with h | h | ⟨h, h'⟩ | h | h
      · simp [h]
      · simp [Nat.not_lt.mpr h]
      · simp [h, h']
      · simp [Int.not_lt.mpr h]
      · simp [h]
    exact ⟨s, next_of_eq heq, rfl⟩
  case followUp => exact fun s i p e h hl hq hc => ⟨_, rfl, s.sendFup_sent i p mFollowUp e i.isLt (by omega) h hl hq hc _ rfl⟩
  case followUpMissed => exact fun s i p e h hl => ⟨_, rfl, s.sendFup_missed i p mFollowUp e i.isLt h hl _ rfl⟩
  case noFollowUp => exact fun s i p h => ⟨s, next_of_eq (s.sendFup_none i p mFollowUp h), rfl⟩
  case pdelayUp => exact fun s i p e h hl hq hc => ⟨_, rfl, s.sendFup_sent i p mPdelayFup e i.isLt (by omega) h hl hq hc _ rfl⟩
  case pdelayUpMissed => exact fun s i p e h hl => ⟨_, rfl, s.sendFup_missed i p mPdelayFup e i.isLt h hl _ rfl⟩
  case noPdelayUp => exact fun s i p h => ⟨s, next_of_eq (s.sendFup_none i p mPdelayFup h), rfl⟩
  case delayReq =>
    intro s f x i b off q hn hfor hw ha hpol hth hroom hp hm hdm hmode hu hf hq hq8 hc
    have hi := s.ptpFor_lt f x i hfor
    have heq := delayReqReceiveEff_answer s f x i hn hfor hw ha hpol (s.ptpRoom_of f x i hfor hth hroom)
    obtain ⟨v, hfr⟩ := s.eventTaken_frame f i
    have hsteps := s.eventTaken_steps f i hp hi
    have hans := s.eventAnswered (s.eventTaken f i) f i hp hi
    obtain ⟨hcfg, hfree, hid⟩ := s.eventTaken_keeps f i
    generalize s.eventTaken f i = a at *
    obtain ⟨ss, hresp⟩ := a.delayResp_multicast i f x (by rw [hfr]; exact hm) (by rw [hcfg]; exact hdm) (by rw [hcfg]; exact hmode) hu
    obtain ⟨hg, hfrac, hmsg, hframe, heffI⟩ := s.ptp_congr a v _ hfr i
    rw [hg, hfrac, hmsg, heffI] at hresp
    rw [hresp] at heq
    have hupd : a.update = s.update := by rw [hfr]; rfl
    obtain ⟨h1, h2, po, h3⟩ := State.ptpPut_spec { a with net := { a.net with sessions := ss } } i f.port false (s.ptpGroup i false) f.ipcp
      (.general i f.port) _ b off q (by omega) (by exact (hcfg _ _).trans ha) (by exact (hframe _ _ _ _ _).trans hf) (by exact (hcfg _ _).trans hq) hq8
      (by exact (hfree _ _).symm ▸ hc) _ heq.symm
    have hadd : ({ id := a.net.nextId, bytes := padTo 60 b, queue := q, steps := a.steps, note := .general i f.port, born := a.update } : TxFrame) =
      { id := s.net.nextId, bytes := padTo 60 b, queue := q, steps := s.steps, note := .general i f.port, born := s.update } := by rw [hid, hsteps, hupd]
    refine ⟨delayReqReceiveEff s, rfl, hans q _ ss _ rfl ?_ h2 ⟨po, h3⟩⟩
    exact h1.trans (congrArg (fun g => (a.queue f.port q).fifo ++ [g]) hadd)
  case pdelayReq =>
    intro s f x i b off q hn hfor hw ha hpol hth hroom hp htr hf hq hq8 hc
    have hi := s.ptpFor_lt f x i hfor
    have heq := pdelayReqReceiveEff_answer s f x i hn hfor hw ha hpol (s.ptpRoom_of f x i hfor hth hroom) htr
    obtain ⟨v, hfr⟩ := s.eventTaken_frame f i
    have hsteps := s.eventTaken_steps f i hp hi
    have hans := s.eventAnswered (s.eventTaken f i) f i hp hi
    obtain ⟨hcfg, hfree, hid⟩ := s.eventTaken_keeps f i
    generalize s.eventTaken f i = a at *
    obtain ⟨hg, hfrac, hmsg, hframe, -⟩ := s.ptp_congr a v _ hfr i
    rw [hg, hfrac, hmsg] at heq
    have hupd : a.update = s.update := by rw [hfr]; rfl
    obtain ⟨h1, h2, po, h3⟩ := a.ptpPut_spec i f.port true (s.ptpGroup i true) f.ipcp
      (.pdelayResp i f.port (field x.msg 30 2) (slice x.msg 20 10)) _ b off q (by omega) ((hcfg _ _).trans ha) ((hframe _ _ _ _ _).trans hf)
      ((hcfg _ _).trans hq) hq8 ((hfree _ _).symm ▸ hc) _ heq.symm
    rw [hid, hsteps, hupd] at h1
    exact ⟨pdelayReqReceiveEff s, rfl, hans q _ a.net.sessions _ rfl h1 h2 ⟨po, h3⟩⟩
  case noDelayReq =>
    intro s h
    have heq : delayReqReceiveEff s = s := by
      unfold delayReqReceiveEff
      rw [h]
    exact ⟨s, next_of_eq heq, rfl⟩
  case noPdelayReq =>
    intro s h
    have heq : pdelayReqReceiveEff s = s := by
      unfold pdelayReqReceiveEff
      rw [h]
    exact ⟨s, next_of_eq heq, rfl⟩

end Sys2Proof.Machine

/-! SUPPORT. Messages that a PTP slave takes (R436, R437): what is counted, and what a PTP clock keeps. -/
namespace Sys2Proof.Machine

/-! ### A message taken -/

/-- A message that is served and counted under `r`. -/
def State.messageTaken (s : State) (f : RxFrame) (r : Row) (i : Nat) : State := (s.serve f).count r i f.port

/-- Without authentication a well-formed message of a PTP clock is accepted. -/
theorem State.ptpAccept_taken (s : State) (f : RxFrame) (x : PtpIn) (i : Nat) (hf : s.ptpFor f x = some i) (hw : x.wellFormed = true)
    (ha : s.effN Obj.ptp_auth_mode i = 0) :
    s.ptpAccept f x = (s.messageTaken f (if x.type < 8 then Obj.ptp_rx_event else Obj.ptp_rx_general) i, some i) := by
  have hf' : (s.serve f).ptpFor f x = some i := hf
  have ha' : (s.serve f).effN Obj.ptp_auth_mode i = 0 := ha
  unfold State.ptpAccept State.messageTaken
  dsimp only
  generalize s.serve f = u at *
  rw [hf']
  dsimp only
  have hver : u.ptpVerify i x = (u, true) := if_pos ha'
  rw [if_neg (by simp [hw]), hver]
  dsimp only
  by_cases h : x.type < 8
  · rw [if_pos h, if_pos h]
  · rw [if_neg h, if_neg h]

theorem State.ptpAccept_general (s : State) (f : RxFrame) (x : PtpIn) (i : Nat) (hf : s.ptpFor f x = some i) (hw : x.wellFormed = true)
    (ha : s.effN Obj.ptp_auth_mode i = 0) (ht : 8 ≤ x.type) : s.ptpAccept f x = (s.messageTaken f Obj.ptp_rx_general i, some i) := by
  rw [s.ptpAccept_taken f x i hf hw ha, if_neg (by omega)]

theorem State.ptpAccept_event (s : State) (f : RxFrame) (x : PtpIn) (i : Nat) (hf : s.ptpFor f x = some i) (hw : x.wellFormed = true)
    (ha : s.effN Obj.ptp_auth_mode i = 0) (ht : x.type < 8) : s.ptpAccept f x = (s.messageTaken f Obj.ptp_rx_event i, some i) := by
  rw [s.ptpAccept_taken f x i hf hw ha, if_pos ht]

theorem State.messageTaken_spec (s : State) (f : RxFrame) (r : Row) (i : Nat) (hr : r.ty = .u64) (hk : r.key i f.port ≠ Obj.mac_rx_served.key f.port 0)
    (t : State) (ht : s.messageTaken f r i = t) :
    (∃ v po sh, t = { s with dict := { s.dict with val := v },
                             net := { s.net with ports := po, sharedUsed := sh, waiting := s.net.waiting.filter fun y => y.id != f.id } }) ∧
      t.valN r i f.port = min (s.valN r i f.port + 1) (2 ^ 64 - 1) ∧
      t.valN Obj.mac_rx_served f.port = min (s.valN Obj.mac_rx_served f.port + 1) (2 ^ 64 - 1) ∧
      SameDict s t [r.key i f.port, Obj.mac_rx_served.key f.port 0] := by
  have htake (r : Row) (a b : Nat) : (s.takeRx f).valN r a b = s.valN r a b := rfl
  subst ht
  unfold State.messageTaken State.serve
  refine ⟨⟨_, _, _, rfl⟩, ?_, ?_, ?_⟩
  · rw [State.count_u64 _ _ _ _ _ hr, State.count_keeps _ _ hk, htake]
  · rw [State.count_keeps _ _ hk.symm, State.count_u64 _ _ _ _ _ rfl, htake]
  · have hd : SameDict s (s.takeRx f) [r.key i f.port, Obj.mac_rx_served.key f.port 0] := .refl s _
    exact SameDict.count (SameDict.count hd (by simp) 1) (by simp) 1

theorem ptp_rx_general_ne_served {i : Nat} (p : Nat) (hi : i < 4) : Obj.ptp_rx_general.key i p ≠ Obj.mac_rx_served.key p 0 := by
  simp only [ne_eq, Row.key, Obj.ptp_rx_general, Obj.mac_rx_served]; omega

theorem ptp_rx_event_ne_served {i : Nat} (p : Nat) (hi : i < 4) : Obj.ptp_rx_event.key i p ≠ Obj.mac_rx_served.key p 0 := by
  simp only [ne_eq, Row.key, Obj.ptp_rx_event, Obj.mac_rx_served]; omega

/-! ### What a PTP clock keeps -/

theorem State.modPtp_modPtp (s : State) (i : Nat) (f g : PtpInst → PtpInst) : (s.modPtp i f).modPtp i g = s.modPtp i (g ∘ f) :=
  congrArg (fun v => ({ s with net := { s.net with ptp := v } } : State)) (vmod_vmod s.net.ptp i f g)

/-- The path delay rests on the delays that a PTP clock has measured. -/
theorem State.pathDelay_congr (s t : State) (i : Nat) (hc : t.tc = s.tc) (h1 : (t.ptp i).dks = (s.ptp i).dks) (h2 : (t.ptp i).dLast = (s.ptp i).dLast) :
    t.pathDelay i = s.pathDelay i := by
  have hp (a b : Nat) : t.passed a b = s.passed a b := by
    unfold State.passed State.nsSince
    rw [hc]
  unfold State.pathDelay State.recentDelays
  simp only [h1, h2, hp]

/-- A measurement that completes the calibration (R436). -/
theorem State.formOffset_calibrated (s : State) (i : Nat) (t1 t2 d : Int) (steps flags : Nat) (hi : i < 4) (hd : s.pathDelay i = some d)
    (hs : steps = s.steps) (hst : s.valN Obj.ptp_slave_state i = 2) (hc : s.effN Obj.ptp_calib_count i ≤ (s.ptp i).complete + 1)
    (hr : s.roleRuns 2 = true) :
    s.formOffset i t1 t2 steps flags =
      (s.modPtp i fun x => { x with fwd := some (t2 - t1, steps), complete := x.complete + 1 }).stageSb 2 i .calibrated := by
  have hx := s.modPtp_ptp i (fun x => { x with fwd := some (t2 - t1, steps) }) hi
  have hpd := s.pathDelay_congr (s.modPtp i fun x => { x with fwd := some (t2 - t1, steps) }) i rfl (by rw [hx]) (by rw [hx])
  have hsteps : (s.modPtp i fun x => { x with fwd := some (t2 - t1, steps) }).steps = s.steps := rfl
  have hval : (s.modPtp i fun x => { x with fwd := some (t2 - t1, steps) }).valN Obj.ptp_slave_state i = s.valN Obj.ptp_slave_state i := rfl
  have hmm := s.modPtp_modPtp i (fun x => { x with fwd := some (t2 - t1, steps) }) (fun y => { y with complete := y.complete + 1 })
  have hy := s.modPtp_ptp i ((fun y : PtpInst => { y with complete := y.complete + 1 }) ∘ fun x => { x with fwd := some (t2 - t1, steps) }) hi
  have hcc : s.effN Obj.ptp_calib_count i ≤
      ((s.modPtp i ((fun y : PtpInst => { y with complete := y.complete + 1 }) ∘ fun x => { x with fwd := some (t2 - t1, steps) })).ptp i).complete := by
    rw [hy]
    exact hc
  unfold State.formOffset
  dsimp only
  rw [if_neg (by rw [hsteps]; exact not_not.mpr hs), hpd, hd]
  dsimp only
  rw [if_pos (hval.trans hst), hmm]
  exact if_pos (by simp only [Bool.and_eq_true, decide_eq_true_eq]; exact ⟨hcc, hr⟩)

/-! ### Announces and the parent -/

/-- What is kept of the first Announce of a master. -/
def firstForeign (x : PtpIn) (at' : Nat) : PtpForeign :=
  { port := slice x.msg 20 10, interval := beInt (slice x.msg 33 1), data := x.msg, addr := x.src, mac := x.mac, times := [at'] }

theorem State.hearForeign_first (s : State) (i : Nat) (x : PtpIn) (at' : Nat) (hi : i < 4) (hn : (s.ptp i).foreign = []) (hp : (s.ptp i).parent = none)
    (u : State) (hu : s.hearForeign i x at' = u) :
    u.ptp i = { s.ptp i with foreign := [firstForeign x at'] } ∧ (∀ m, m ≠ i → u.ptp m = s.ptp m) ∧ ∃ pt, u = { s with net := { s.net with ptp := pt } } := by
  subst hu
  unfold State.hearForeign
  refine ⟨(State.modPtp_ptp _ _ _ hi).trans ?_, fun m hm => State.modPtp_ptp_other _ _ _ m hm, ⟨_, rfl⟩⟩
  generalize s.ptp i = y at hn hp
  cases y
  dsimp only at hn hp
  subst hn hp
  rfl

/-- The first Announce of a master where none is known: it joins the foreign masters, and none is chosen (R436). -/
theorem State.commitAnnounce_first (s : State) (i : Nat) (f : RxFrame) (hi : i < 4) (hn : (s.ptp i).foreign = []) (hp : (s.ptp i).parent = none) (t : State)
    (ht : s.commitAnnounce i f = t) :
    (((t.ptp i).foreign.map fun g => (g.port, g.data, g.times, g.qualified)) = [(slice (ptpIn f).msg 20 10, (ptpIn f).msg, [f.cyc], false)]) ∧
      t.ptp i = { s.ptp i with foreign := (t.ptp i).foreign } ∧ (∀ m, m ≠ i → t.ptp m = s.ptp m) ∧ t.net = { s.net with ptp := t.net.ptp } ∧
      t = { s with net := t.net } := by
  obtain ⟨h1, h2, pt, h3⟩ := s.hearForeign_first i (ptpIn f) f.cyc hi hn hp _ rfl
  generalize hu : s.hearForeign i (ptpIn f) f.cyc = u at *
  have hpar : (u.ptp i).parent = none := by rw [h1]; exact hp
  have hb : u.bmca i = none := by
    unfold State.bmca
    dsimp only
    rw [h1]
    simp [firstForeign]
  have hfol : u.followParent i = u := by
    unfold State.followParent State.parentData
    rw [hpar]
    rfl
  have htu : t = u := by
    rw [← ht]
    unfold State.commitAnnounce
    dsimp only
    rw [hu, hb]
    exact hfol
  subst htu
  refine ⟨?_, ?_, h2, by rw [h3], by rw [h3]⟩
  · rw [h1]
    rfl
  · rw [h1]

/-- The parent of a slave port is given up (R436). -/
theorem State.commitSilent_spec (s : State) (i : Nat) (id : Bytes) (hi : i < 4) (t : State) (ht : s.commitSilent i id = t) :
    t.valN Obj.ptp_slave_state i = 1 ∧ t.valN Obj.ptp_gm_class i = 255 ∧ (t.ptp i).parent = none ∧
      ((t.ptp i).foreign = (s.ptp i).foreign.filter fun g => g.port != id) ∧ (t.slot (9 + i)).srcTerm = unbounded ∧ (∀ m, m ≠ i → t.ptp m = s.ptp m) ∧
      t = { s with net := t.net, slots := t.slots, dict := t.dict } ∧
      SameDict s t [Obj.ptp_slave_state.key i 0, Obj.ptp_parent.key i 0, Obj.ptp_gm_class.key i 0] := by
  have hx : t.ptp i = { (s.ptp i).forget with parent := none, foreign := (s.ptp i).foreign.filter fun g => g.port != id } := by
    rw [← ht]
    refine (State.modPtp_ptp (s.noParent i) i _ hi).trans ?_
    have : (s.noParent i).ptp i = { (s.ptp i).forget with parent := none } := State.modPtp_ptp s i _ hi
    rw [this]
    rfl
  have ho (m : Nat) (hm : m ≠ i) : t.ptp m = s.ptp m := by
    rw [← ht]
    refine (State.modPtp_ptp_other (s.noParent i) i _ m hm).trans ?_
    exact State.modPtp_ptp_other s i _ m hm
  have hne : Obj.ptp_gm_class.key i 0 ≠ Obj.ptp_slave_state.key i 0 := by simp only [ne_eq, Row.key, Obj.ptp_gm_class, Obj.ptp_slave_state]; omega
  have hd : SameDict s t [Obj.ptp_slave_state.key i 0, Obj.ptp_parent.key i 0, Obj.ptp_gm_class.key i 0] := by
    rw [← ht]
    exact ((SameDict.put (t := (s.modPtp i fun x => { x.forget with parent := none }).modSlot (9 + i) fun x => { x with srcTerm := unbounded })
      (.refl s _) (by simp) _).putN (by simp) _).putN (by simp) _
  refine ⟨?_, ?_, by rw [hx], by rw [hx], ?_, ho, ?_, hd⟩
  · rw [← ht]
    exact State.valN_setN_int _ _ _ _ _
  · rw [← ht]
    exact (State.valN_setN_other _ _ _ _ _ _ _ _ hne).trans (State.valN_setN_int _ _ _ _ _)
  · rw [← ht]
    exact congrArg Slot.srcTerm (vat_vmod_same s.slots (9 + i) _ _ (by omega))
  · rw [← ht]
    rfl

end Sys2Proof.Machine

/-! SUPPORT. Path delays of a PTP slave (R206, R437) and link delays of gPTP (R424). -/
namespace Sys2Proof.Machine

/-! ### The detector of path steps -/

/-- The objects that a path delay of PTP clock `i` may change. -/
abbrev pathKeys (i : Nat) : List Nat :=
  [Obj.scr_path_steps.key i 0, Obj.scr_path_count.key i 0, Obj.scr_path_state.key i 0, Obj.scr_rtt_ref.key i 0, Obj.ptp_mean_path_delay.key i 0,
    Obj.ref_history.key (9 + i) 0, Obj.ref_irq_pending.key 0 0]

/-- What the detector of a PTP clock may change: the delays kept, the scruple, the slots, the pins and its objects. -/
structure PathWork (i : Nat) (s t : State) : Prop where
  frame : ∃ v pt sc sl el, t = { s with dict := { s.dict with val := v }, net := { s.net with ptp := pt }, scr := sc, slots := sl, elec := el }
  inst : ∃ l, t.ptp i = { s.ptp i with dks := l }
  others : ∀ m, m ≠ i → t.ptp m = s.ptp m
  dict : SameDict s t (pathKeys i)

namespace PathWork
variable {i : Nat} {s t u : State}

theorem refl (i : Nat) (s : State) : PathWork i s s := ⟨⟨s.dict.val, s.net.ptp, s.scr, s.slots, s.elec, rfl⟩, ⟨(s.ptp i).dks, rfl⟩, fun _ _ => rfl, .refl s _⟩

theorem setN (h : PathWork i s t) (r : Row) (v : Int) (a : Nat) (hk : r.key a 0 ∈ pathKeys i) : PathWork i s (t.setN r v a) := by
  obtain ⟨_, _, _, _, _, hf⟩ := h.frame
  exact ⟨⟨_, _, _, _, _, by rw [hf]; rfl⟩, h.inst, h.others, h.dict.putN hk v⟩

theorem modSlot (h : PathWork i s t) (n : Nat) (f : Slot → Slot) : PathWork i s (t.modSlot n f) := by
  obtain ⟨_, _, _, _, _, hf⟩ := h.frame
  exact ⟨⟨_, _, _, _, _, by rw [hf]; rfl⟩, h.inst, h.others, h.dict⟩

theorem modPath (h : PathWork i s t) (n : Nat) (f : PathDet → PathDet) : PathWork i s (t.modPath n f) := by
  obtain ⟨_, _, _, _, _, hf⟩ := h.frame
  exact ⟨⟨_, _, _, _, _, by rw [hf]; rfl⟩, h.inst, h.others, h.dict⟩

theorem scrRestart (h : PathWork i s t) (c : Nat) : PathWork i s (t.scrRestart c) := by
  obtain ⟨_, _, _, _, _, hf⟩ := h.frame
  exact ⟨⟨_, _, _, _, _, by rw [hf]; rfl⟩, h.inst, h.others, h.dict⟩

theorem keepDelays (h : PathWork i s t) (hi : i < 4) (f : List (Nat × Int) → List (Nat × Int)) :
    PathWork i s (t.modPtp i fun x => { x with dks := f x.dks }) := by
  obtain ⟨_, _, _, _, _, hf⟩ := h.frame
  obtain ⟨l, hl⟩ := h.inst
  refine ⟨⟨_, _, _, _, _, by rw [hf]; rfl⟩, ⟨f l, ?_⟩, fun m hm => (State.modPtp_ptp_other _ _ _ m hm).trans (h.others m hm), h.dict⟩
  rw [State.modPtp_ptp _ _ _ hi, hl]

theorem hist (h : PathWork i s t) (bit : Nat) : PathWork i s (t.hist (9 + i) bit) := by
  have hd : SameDict s (t.hist (9 + i) bit) (pathKeys i) := h.dict.hist (by simp) (by simp) bit
  have hv := hd.dict_eq
  have hfr : ∃ di irq, t.hist (9 + i) bit = { t with dict := di, elec := { t.elec with irqN := irq } } := ⟨_, _, State.hist_eq t (9 + i) bit⟩
  obtain ⟨di, irq, he⟩ := hfr
  have hptp (m : Nat) : (t.hist (9 + i) bit).ptp m = t.ptp m := by rw [he]; rfl
  obtain ⟨v, pt, sc, sl, el, hf⟩ := h.frame
  refine ⟨⟨di.val, pt, sc, sl, { el with irqN := irq }, ?_⟩, ?_, fun m hm => (hptp m).trans (h.others m hm), hd⟩
  · rw [he] at hv ⊢
    dsimp only at hv
    rw [hf, hv]
  · obtain ⟨l, hl⟩ := h.inst
    exact ⟨l, (hptp i).trans hl⟩

theorem confirmStep (h : PathWork i s t) : PathWork i s (t.confirmStep i) := by
  have hend (u : State) (hu : PathWork i s u) : PathWork i s (if u.active = 9 + i then u.scrRestart 4 else u) := by
    split
    · exact hu.scrRestart 4
    · exact hu
  unfold State.confirmStep
  exact hend _ (((((((h.setN Obj.scr_path_steps _ i (by simp)).setN Obj.scr_path_count _ i (by simp)).modPath i _).setN Obj.scr_rtt_ref _ i
    (by simp)).setN Obj.scr_path_state _ i (by simp)).modSlot _ _).hist 11)

theorem discardSuspects (h : PathWork i s t) (hi : i < 4) : PathWork i s (t.discardSuspects i) :=
  (h.modPath i _).keepDelays hi _

theorem normalRtt (h : PathWork i s t) (rtt : Nat) : PathWork i s (t.normalRtt i rtt) :=
  (h.modPath i _).setN Obj.scr_rtt_ref _ i (by simp)

/-- A measured round trip passes the detector. -/
theorem feedRtt (h : PathWork i s t) (hi : i < 4) (rtt : Nat) : PathWork i s (t.feedRtt i rtt) := by
  have hsus (u : State) (hu : PathWork i s u) (e : Nat × Nat) (k : Nat) : PathWork i s
      (if k ≤ ((u.modPath i fun x => { x with suspects := e :: x.suspects }).path i).suspects.length then
        (u.modPath i fun x => { x with suspects := e :: x.suspects }).confirmStep i else u.modPath i fun x => { x with suspects := e :: x.suspects }) := by
    split
    · exact (hu.modPath i _).confirmStep
    · exact hu.modPath i _
  have hnorm (u : State) (hu : PathWork i s u) (st : Nat) : PathWork i s
      (if st = 2 then u.normalRtt i rtt
        else match ((u.normalRtt i rtt).slot (9 + i)).meas.head? with
          | some m => (u.normalRtt i rtt).modPath i fun x => { x with lastNormal := m.x }
          | none => u.normalRtt i rtt) := by
    split
    · exact hu.normalRtt rtt
    · split
      · exact (hu.normalRtt rtt).modPath i _
      · exact hu.normalRtt rtt
  unfold State.feedRtt
  dsimp only
  split
  · refine hsus _ ?_ _ _
    split
    · exact (h.setN Obj.scr_path_state _ i (by simp)).modSlot _ _
    · exact h
  · have hd := h.discardSuspects hi
    refine hnorm _ ?_ _
    split
    · exact (hd.setN Obj.scr_path_state _ i (by simp)).modSlot _ _
    · exact hd

end PathWork

/-! ### Delays completed -/

/-- A path delay that completes. -/
theorem State.addDelay_spec (s : State) (i : Nat) (d : Int) (hi : i < 4) (t : State) (ht : s.addDelay i d = t) :
    (∃ l, t.ptp i = { s.ptp i with dks := l, dLast := some d }) ∧ (∀ m, m ≠ i → t.ptp m = s.ptp m) ∧
      (∃ v pt sc sl el fr, t = { s with dict := { s.dict with val := v }, net := { s.net with ptp := pt }, scr := sc, slots := sl, elec := el, fresh := fr }) ∧
      SameDict s t (pathKeys i) := by
  obtain ⟨b, l0, hb, hbi, hbo, pt0, hbf⟩ : ∃ b l, (s.modPtp i fun x =>
      { x with dks := (s.tc.cyc, d) :: x.dks.filter fun e => !s.passed e.1 (oneSec + 1), dLast := some d }) = b ∧
      b.ptp i = { s.ptp i with dks := l, dLast := some d } ∧ (∀ m, m ≠ i → b.ptp m = s.ptp m) ∧ ∃ pt, b = { s with net := { s.net with ptp := pt } } :=
    ⟨_, _, rfl, State.modPtp_ptp _ _ _ hi, fun m hm => State.modPtp_ptp_other _ _ _ m hm, ⟨_, rfl⟩⟩
  have hw := (PathWork.refl i b).feedRtt hi (uToPsNear (2 * d)).toNat
  have hfit : ∃ (fr : Nat) (x : Int), t = State.setN { b.feedRtt i (uToPsNear (2 * d)).toNat with fresh := fr } Obj.ptp_mean_path_delay x i := by
    rw [← ht]
    unfold State.addDelay
    dsimp only
    rw [hb]
    generalize b.feedRtt i (uToPsNear (2 * d)).toNat = w
    unfold State.fitI64
    split
    · exact ⟨w.fresh, _, rfl⟩
    · exact ⟨_, _, rfl⟩
  generalize b.feedRtt i (uToPsNear (2 * d)).toNat = w at *
  obtain ⟨fr, x, hfit⟩ := hfit
  obtain ⟨⟨v, pt, sc, sl, el, hf⟩, ⟨l, hl⟩, ho, hd⟩ := hw
  have hptp (m : Nat) : t.ptp m = w.ptp m := by rw [hfit]; rfl
  have hbd : SameDict s b (pathKeys i) := by rw [hbf]; exact .refl s _
  have hsw : SameDict s w (pathKeys i) := (hbd.trans hd).mono (fun k hk => by
    rcases List.mem_append.mp hk with h | h
    · exact h
    · exact h)
  obtain ⟨v', hv'⟩ : ∃ v', t = { w with dict := { w.dict with val := v' }, fresh := fr } := ⟨_, hfit⟩
  refine ⟨⟨l, ?_⟩, fun m hm => ((hptp m).trans (ho m hm)).trans (hbo m hm), ⟨v', pt, sc, sl, el, fr, ?_⟩, ?_⟩
  · rw [hptp, hl, hbi]
  · rw [hv', hf, hbf]
  · rw [hfit]
    exact SameDict.putN (t := { w with fresh := fr }) hsw (by simp) x

/-- A Delay_Resp that completes an exchange (R437). -/
theorem State.takeDelayResp_spec (s : State) (i : Nat) (x : PtpIn) (e : Exchange) (t3 fw : Int) (hi : i < 4)
    (he : (s.ptp i).exch.find? (fun e => e.seq == field x.msg 30 2 && !e.done) = some e) (htx : e.tx = some t3)
    (hfw : (s.ptp i).fwd = some (fw, e.steps)) (t : State) (ht : s.takeDelayResp i x = t) :
    (t.ptp i).dLast = some (roundDiv (fw + (ofPtpTs (slice x.msg 34 10) - from16 (ptpCf x.msg) - t3)) 2) ∧
      ((t.ptp i).exch = (s.ptp i).exch.map fun z => if z.seq == field x.msg 30 2 then { z with done := true } else z) ∧
      (∀ m, m ≠ i → t.ptp m = s.ptp m) ∧
      (∃ v pt sc sl el fr, t = { s with dict := { s.dict with val := v }, net := { s.net with ptp := pt }, scr := sc, slots := sl, elec := el, fresh := fr }) ∧
      SameDict s t (pathKeys i) := by
  obtain ⟨b, hb, hbi, hbo, pt0, hbf⟩ : ∃ b, (s.modPtp i fun y =>
      { y with exch := y.exch.map fun z => if z.seq == field x.msg 30 2 then { z with done := true } else z }) = b ∧
      b.ptp i = { s.ptp i with exch := (s.ptp i).exch.map fun z => if z.seq == field x.msg 30 2 then { z with done := true } else z } ∧
      (∀ m, m ≠ i → b.ptp m = s.ptp m) ∧ ∃ pt, b = { s with net := { s.net with ptp := pt } } :=
    ⟨_, rfl, State.modPtp_ptp _ _ _ hi, fun m hm => State.modPtp_ptp_other _ _ _ m hm, ⟨_, rfl⟩⟩
  have heq : b.addDelay i (roundDiv (fw + (ofPtpTs (slice x.msg 34 10) - from16 (ptpCf x.msg) - t3)) 2) = t := by
    rw [← ht]
    unfold State.takeDelayResp
    dsimp only
    rw [he]
    dsimp only
    rw [htx, hfw]
    dsimp only
    rw [hb]
    exact (if_neg (by simp)).symm
  obtain ⟨⟨l, hl⟩, ho, ⟨v, pt, sc, sl, el, fr, hf⟩, hd⟩ := b.addDelay_spec i _ hi t heq
  have hbd : SameDict s b [] := by rw [hbf]; exact .refl s _
  refine ⟨by rw [hl], by rw [hl, hbi], fun m hm => (ho m hm).trans (hbo m hm), ⟨v, pt, sc, sl, el, fr, ?_⟩, hbd.trans hd⟩
  rw [hf, hbf]

/-- A Pdelay_Resp_Follow_Up that completes an exchange of a master port (R424). -/
theorem State.pdelayMaster_spec (s : State) (i st c : Nat) (f : RxFrame) (x : PtpIn) (e : Exchange) (t1 t2 t4 : Int) (hi : i < 4) (hp : f.port < 8)
    (hx : x.type = mPdelayFup) (he : (vat (s.ptp i).pExch f.port []).find? (fun e => e.seq == field x.msg 30 2 && !e.done) = some e)
    (htx : e.tx = some t1) (hr : e.resp = some (t2, t4, st, c)) (hs : e.steps = st) (t : State) (ht : s.pdelayMaster i f x = t) :
    vat (t.ptp i).pDelay f.port none = some (((t4 - t1) - (ofPtpTs (slice x.msg 34 10) + from16 (ptpCf x.msg) - t2)) / 2) ∧
      (∀ m, m ≠ i → t.ptp m = s.ptp m) ∧ (∃ v pt, t = { s with dict := { s.dict with val := v }, net := { s.net with ptp := pt } }) ∧
      SameDict s t [Obj.ptp_as_capable.key i 0] := by
  have hstep : pdelayStep e f x (x.type == mPdelayFup) =
      ({ e with done := true }, some (((t4 - t1) - (ofPtpTs (slice x.msg 34 10) + from16 (ptpCf x.msg) - t2)) / 2)) := by
    unfold pdelayStep
    rw [htx, hr]
    exact if_pos (by simp [hx, hs])
  unfold State.pdelayMaster at ht
  dsimp only at ht
  rw [he] at ht
  dsimp only at ht
  rw [hstep] at ht
  subst ht
  refine ⟨?_, fun m hm => State.modPtp_ptp_other s i _ m hm, ⟨_, _, rfl⟩, ?_⟩
  · have := State.modPtp_ptp s i (fun y => { y with
        pExch := vmod y.pExch f.port fun l => l.map fun z => if z.seq == field x.msg 30 2 then { e with done := true } else z
        pDelay := vmod y.pDelay f.port fun _ => some (((t4 - t1) - (ofPtpTs (slice x.msg 34 10) + from16 (ptpCf x.msg) - t2)) / 2) }) hi
    refine (congrArg (fun y : PtpInst => vat y.pDelay f.port none) this).trans ?_
    exact vat_vmod_same _ _ _ _ hp
  · exact SameDict.putN (t := s.modPtp i _) (.refl s _) (by simp) _

end Sys2Proof.Machine

/-! SUPPORT. The slave port of PTP (R424, R436, R437). -/
namespace Sys2Proof.Machine

/-! ### Delay requests sent -/

/-- A Delay_Req has left: its number is used, and its exchange waits. -/
def PtpInst.asked (x : PtpInst) (seq at' : Nat) : PtpInst :=
  { x with reqSeq := (x.reqSeq + 1) % 65536, reqAt := at', exch := ({ seq := seq } : Exchange) :: x.exch.take 7 }

theorem slaveDelayReqSendEff_due (i : Nat) (s : State) (hst : s.valN Obj.ptp_slave_state i = 2 ∨ s.valN Obj.ptp_slave_state i = 3)
    (hat : (s.ptp i).reqAt = 0) (hl : s.linkUp (s.ptp i).slavePort = true) (hr : s.roleRuns 2 = true) (hd : s.effN Obj.ptp_delay_mech i = 0)
    (hm : s.effN Obj.ptp_mode i = 0) :
    slaveDelayReqSendEff i s = (s.modPtp i fun x => x.asked (s.ptp i).reqSeq s.tc.cyc).ptpPut i (s.ptp i).slavePort true (s.ptpGroup i false) 0
      (.delayReq i (s.ptp i).reqSeq) (s.ptpMsg i (s.ptp i).slavePort mDelayReq 0 0 0 (s.ptp i).reqSeq 0x7F (zeros 10)) := by
  unfold slaveDelayReqSendEff
  dsimp only
  rw [if_pos ⟨hst, by simp [hat], hl, hr⟩, if_neg (by simp [hd])]
  have hm' : (s.modPtp i fun x => x.asked (s.ptp i).reqSeq s.tc.cyc).effN Obj.ptp_mode i = 0 := hm
  obtain ⟨u, hu, n, hn⟩ : ∃ u, (s.modPtp i fun x => x.asked (s.ptp i).reqSeq s.tc.cyc) = u ∧ ∃ n, u = { s with dict := { s.dict with val := s.dict.val }, net := n } :=
    ⟨_, rfl, _, rfl⟩
  rw [hu] at hm'
  have hu' : (s.modPtp i fun x => { x with reqSeq := (x.reqSeq + 1) % 65536, reqAt := s.tc.cyc, exch := ({ seq := (s.ptp i).reqSeq } : Exchange) :: x.exch.take 7 }) = u := hu
  obtain ⟨hg, -, hmsg, -, -⟩ := s.ptp_congr u _ n hn i
  rw [hu', hu, hm', hg]
  simp only [bne_self_eq_false, Bool.false_eq_true, if_false]
  rw [hmsg]

theorem slaveDelayReqSendEff_idle (i : Nat) (s : State)
    (h : (s.valN Obj.ptp_slave_state i ≠ 2 ∧ s.valN Obj.ptp_slave_state i ≠ 3) ∨ s.linkUp (s.ptp i).slavePort = false ∨ s.roleRuns 2 = false) :
    slaveDelayReqSendEff i s = s := by
  unfold slaveDelayReqSendEff
  dsimp only
  refine if_neg fun ⟨hst, _, hl, hr⟩ => ?_
  rcases h with ⟨h2, h3⟩ | h | h
  · rcases hst with hst | hst
    · exact h2 hst
    · exact h3 hst
  · rw [h] at hl
    exact Bool.false_ne_true hl
  · rw [h] at hr
    exact Bool.false_ne_true hr

/-- A Pdelay_Req has left by a port. -/
def PtpInst.peerAsked (x : PtpInst) (p seq at' : Nat) : PtpInst :=
  { x with
    pReqAt := vmod x.pReqAt p fun _ => some at', pSeq := vmod x.pSeq p fun v => (v + 1) % 65536
    pExch := vmod x.pExch p fun l => ({ seq := seq } : Exchange) :: l.take 4 }

theorem pdelayReqSendEff_due (i p : Nat) (s : State) (hr : s.roleRuns 2 = true) (hg : s.gptp i = true) (hm : s.masterUp i p = true)
    (hn : vat (s.ptp i).pReqAt p none = none) :
    ∃ b, ((s.modPtp i fun x => x.peerAsked p (vat (s.ptp i).pSeq p 0) s.tc.cyc).putAsCapable i) = b ∧
      pdelayReqSendEff i p s = b.ptpPut i p true (b.ptpGroup i true) 0 (.pdelayReq i p (vat (s.ptp i).pSeq p 0) false)
        ((s.modPtp i fun x => x.peerAsked p (vat (s.ptp i).pSeq p 0) s.tc.cyc).pdelayReqMsg i p (vat (s.ptp i).pSeq p 0)) := by
  refine ⟨_, rfl, ?_⟩
  unfold pdelayReqSendEff
  rw [hn]
  dsimp only
  rw [if_pos (by simp [hr, hg, hm])]
  rfl

/-! ### What is received -/

theorem announceReceiveEff_waits (s : State) (f : RxFrame) (x : PtpIn) (hn : s.nextPtp mAnnounce = some (f, x)) (hw : s.announceWaits f x = true) :
    announceReceiveEff s = s := by
  unfold announceReceiveEff
  rw [hn]
  exact if_pos hw

theorem announceReceiveEff_master (s : State) (f : RxFrame) (x : PtpIn) (i : Nat) (hn : s.nextPtp mAnnounce = some (f, x)) (hf : s.ptpFor f x = some i)
    (hw : x.wellFormed = true) (ha : s.effN Obj.ptp_auth_mode i = 0) (hm : s.onMaster i f = true) :
    announceReceiveEff s = (s.messageTaken f Obj.ptp_rx_general i).count Obj.ptp_rx_foreign i f.port := by
  have ht : 8 ≤ x.type := by rw [s.nextPtp_type _ f x hn]; decide
  have hwait : s.announceWaits f x = false := by
    unfold State.announceWaits
    rw [hf]
    simp [hm]
  have hm' : (s.messageTaken f Obj.ptp_rx_general i).onMaster i f = true := hm
  unfold announceReceiveEff
  rw [hn]
  dsimp only
  rw [if_neg (by simp [hwait]), s.ptpAccept_general f x i hf hw ha ht]
  exact if_pos hm'

theorem announceReceiveEff_slave (s : State) (f : RxFrame) (x : PtpIn) (i : Nat) (hn : s.nextPtp mAnnounce = some (f, x)) (hf : s.ptpFor f x = some i)
    (hw : x.wellFormed = true) (ha : s.effN Obj.ptp_auth_mode i = 0) (hm : s.onMaster i f = false) (he : s.earlier f = true) (hr : s.roleRuns 2 = true)
    (hst : s.valN Obj.ptp_slave_state i ≠ 0) (hid : slice x.msg 20 8 ≠ padTo 8 (s.effB Obj.ptp_clock_identity i)) :
    announceReceiveEff s = (s.messageTaken f Obj.ptp_rx_general i).stageSb 1 i (.announce f) := by
  have ht : 8 ≤ x.type := by rw [s.nextPtp_type _ f x hn]; decide
  have hi := s.ptpFor_lt f x i hf
  have hwait : s.announceWaits f x = false := by
    unfold State.announceWaits
    rw [hf]
    simp [he, hr]
  obtain ⟨⟨v, po, sh, hfr⟩, -, -, hd⟩ := s.messageTaken_spec f Obj.ptp_rx_general i rfl (ptp_rx_general_ne_served f.port hi) _ rfl
  have hst' : (s.messageTaken f Obj.ptp_rx_general i).valN Obj.ptp_slave_state i = s.valN Obj.ptp_slave_state i := by
    refine hd.valN_eq (by rw [hfr]) ?_
    simp only [List.mem_cons, List.not_mem_nil, or_false, not_or, Row.key, Obj.ptp_slave_state, Obj.ptp_rx_general, Obj.mac_rx_served]
    omega
  unfold announceReceiveEff
  rw [hn]
  dsimp only
  rw [if_neg (by simp [hwait]), s.ptpAccept_general f x i hf hw ha ht]
  generalize s.messageTaken f Obj.ptp_rx_general i = u at *
  have hm' : u.onMaster i f = false := by rw [hfr]; exact hm
  have hid' : slice x.msg 20 8 ≠ padTo 8 (u.effB Obj.ptp_clock_identity i) := by rw [hfr]; exact hid
  dsimp only
  rw [if_neg (by simp [hm'])]
  exact if_neg (by rw [hst']; exact not_or.mpr ⟨hst, hid'⟩)

/-- What of the slave port does not rest on what taking a message counts. -/
theorem State.fromParent_of {s u : State} (f : RxFrame) (i : Nat) (x : PtpIn) {ks : List Nat} (v : Store) (po : Vector Port 9) (sh : Nat)
    (w : List RxFrame) (hfr : u = { s with dict := { s.dict with val := v }, net := { s.net with ports := po, sharedUsed := sh, waiting := w } })
    (hd : SameDict s u ks) (hk : Obj.ptp_slave_state.key i 0 ∉ ks) : u.fromParent i f.port x = s.fromParent i f.port x := by
  have hst : u.valN Obj.ptp_slave_state i = s.valN Obj.ptp_slave_state i := hd.valN_eq (by rw [hfr]) hk
  unfold State.fromParent
  rw [hst, hfr]
  rfl

theorem ptp_slave_state_not_taken (i p : Nat) (r : Row) (hr : r.key i p = Obj.ptp_rx_general.key i p ∨ r.key i p = Obj.ptp_rx_event.key i p) :
    Obj.ptp_slave_state.key i 0 ∉ [r.key i p, Obj.mac_rx_served.key p 0] := by
  simp only [List.mem_cons, List.not_mem_nil, or_false, not_or]
  constructor
  · rcases hr with hr | hr
    · rw [hr]
      simp only [Row.key, Obj.ptp_slave_state, Obj.ptp_rx_general]
      omega
    · rw [hr]
      simp only [Row.key, Obj.ptp_slave_state, Obj.ptp_rx_event]
      omega
  · simp only [Row.key, Obj.ptp_slave_state, Obj.mac_rx_served]
    omega

theorem syncReceiveEff_two (s : State) (f : RxFrame) (x : PtpIn) (i : Nat) (hn : s.nextPtp mSync = some (f, x)) (hf : s.ptpFor f x = some i)
    (hw : x.wellFormed = true) (ha : s.effN Obj.ptp_auth_mode i = 0) (hp : s.fromParent i f.port x = true) (h2 : (octet x.msg 6).testBit 1 = true) :
    ∃ g : Int, syncReceiveEff s = (s.messageTaken f Obj.ptp_rx_event i).modPtp i fun y =>
      { y with lastSync := some s.tc.cyc, syncLog := g, syncs := (({ seq := field x.msg 30 2, t2 := f.arr, steps := f.steps, cf := ptpCf x.msg, flags := stampFlags f.stamp } : SyncIn) :: y.syncs).take 8 } := by
  have ht : x.type < 8 := by rw [s.nextPtp_type _ f x hn]; decide
  have hi := s.ptpFor_lt f x i hf
  obtain ⟨⟨v, po, sh, hfr⟩, -, -, hd⟩ := s.messageTaken_spec f Obj.ptp_rx_event i rfl (ptp_rx_event_ne_served f.port hi) _ rfl
  have hp' := (State.fromParent_of f i x v po sh _ hfr hd (ptp_slave_state_not_taken i f.port _ (.inr rfl))).trans hp
  have hc : (s.messageTaken f Obj.ptp_rx_event i).tc.cyc = s.tc.cyc := by rw [hfr]
  refine ⟨if beInt (slice x.msg 33 1) = 127 then (s.messageTaken f Obj.ptp_rx_event i).effI Obj.ptp_log_sync i else beInt (slice x.msg 33 1), ?_⟩
  unfold syncReceiveEff
  rw [hn]
  dsimp only
  rw [s.ptpAccept_event f x i hf hw ha ht]
  generalize s.messageTaken f Obj.ptp_rx_event i = u at *
  dsimp only
  rw [if_neg (by simp [hp']), if_pos h2, State.modPtp_modPtp, hc]
  rfl

theorem followUpReceiveEff_calibrated (s : State) (f : RxFrame) (x : PtpIn) (i : Nat) (e : SyncIn) (d : Int) (hn : s.nextPtp mFollowUp = some (f, x))
    (hf : s.ptpFor f x = some i) (hw : x.wellFormed = true) (ha : s.effN Obj.ptp_auth_mode i = 0) (hp : s.fromParent i f.port x = true)
    (hs : (s.ptp i).syncs.find? (fun e => e.seq == field x.msg 30 2) = some e) (hd : s.pathDelay i = some d) (hes : e.steps = s.steps)
    (hst : s.valN Obj.ptp_slave_state i = 2) (hc : s.effN Obj.ptp_calib_count i ≤ (s.ptp i).complete + 1) :
    followUpReceiveEff s = ((s.messageTaken f Obj.ptp_rx_general i).modPtp i fun y =>
      { y with syncs := y.syncs.filter fun z => z.seq != e.seq, complete := y.complete + 1,
               fwd := some (e.t2 - (ofPtpTs (slice x.msg 34 10) + from16 (e.cf + ptpCf x.msg)), e.steps) }).stageSb 2 i .calibrated := by
  have ht : 8 ≤ x.type := by rw [s.nextPtp_type _ f x hn]; decide
  have hi := s.ptpFor_lt f x i hf
  obtain ⟨⟨v, po, sh, hfr⟩, -, -, hd'⟩ := s.messageTaken_spec f Obj.ptp_rx_general i rfl (ptp_rx_general_ne_served f.port hi) _ rfl
  have hp' := (State.fromParent_of f i x v po sh _ hfr hd' (ptp_slave_state_not_taken i f.port _ (.inl rfl))).trans hp
  have hst' : (s.messageTaken f Obj.ptp_rx_general i).valN Obj.ptp_slave_state i = 2 :=
    (hd'.valN_eq (by rw [hfr]) (ptp_slave_state_not_taken i f.port _ (.inl rfl))).trans hst
  have hsteps : (s.messageTaken f Obj.ptp_rx_general i).steps = s.steps := by
    refine hd'.valN_eq (by rw [hfr]) ?_
    simp only [List.mem_cons, List.not_mem_nil, or_false, not_or, Row.key, Obj.tod_step_count, Obj.ptp_rx_general, Obj.mac_rx_served]
    omega
  unfold followUpReceiveEff
  rw [hn]
  dsimp only
  rw [s.ptpAccept_general f x i hf hw ha ht]
  generalize s.messageTaken f Obj.ptp_rx_general i = u at *
  have hptp : u.ptp i = s.ptp i := by rw [hfr]; rfl
  have hd2 : u.pathDelay i = some d := (s.pathDelay_congr u i (by rw [hfr]) (by rw [hptp]) (by rw [hptp])).trans hd
  have hc2 : u.effN Obj.ptp_calib_count i ≤ (u.ptp i).complete + 1 := by rw [hptp, hfr]; exact hc
  have hr : u.roleRuns 2 = true := by
    have := hp'
    unfold State.fromParent at this
    simp only [Bool.and_eq_true] at this
    exact this.1.1.1
  dsimp only
  rw [if_neg (by simp [hp']), hptp, hs]
  dsimp only
  have hx := u.modPtp_ptp i (fun y => { y with syncs := y.syncs.filter fun z => z.seq != e.seq }) hi
  have hoff := (u.modPtp i fun y => { y with syncs := y.syncs.filter fun z => z.seq != e.seq }).formOffset_calibrated i
    (ofPtpTs (slice x.msg 34 10) + from16 (e.cf + ptpCf x.msg)) e.t2 d e.steps e.flags hi
    ((u.pathDelay_congr _ i (by rfl) (by rw [hx]) (by rw [hx])).trans hd2) (hes.trans hsteps.symm) hst' (by rw [hx]; exact hc2) hr
  rw [hoff, State.modPtp_modPtp]
  rfl

theorem delayRespReceiveEff_parent (s : State) (f : RxFrame) (x : PtpIn) (i : Nat) (hn : s.nextPtp mDelayResp = some (f, x)) (hf : s.ptpFor f x = some i)
    (hw : x.wellFormed = true) (ha : s.effN Obj.ptp_auth_mode i = 0) (hp : s.fromParent i f.port x = true)
    (hid : slice x.msg 44 10 = s.ptpIdent i f.port) (hd : s.effN Obj.ptp_delay_mech i = 0) :
    delayRespReceiveEff s = (s.messageTaken f Obj.ptp_rx_general i).takeDelayResp i x := by
  have ht : 8 ≤ x.type := by rw [s.nextPtp_type _ f x hn]; decide
  have hi := s.ptpFor_lt f x i hf
  obtain ⟨⟨v, po, sh, hfr⟩, -, -, hd'⟩ := s.messageTaken_spec f Obj.ptp_rx_general i rfl (ptp_rx_general_ne_served f.port hi) _ rfl
  have hp' := (State.fromParent_of f i x v po sh _ hfr hd' (ptp_slave_state_not_taken i f.port _ (.inl rfl))).trans hp
  unfold delayRespReceiveEff
  rw [hn]
  dsimp only
  rw [s.ptpAccept_general f x i hf hw ha ht]
  generalize s.messageTaken f Obj.ptp_rx_general i = u at *
  have hid' : slice x.msg 44 10 = u.ptpIdent i f.port := by rw [hfr]; exact hid
  have hd2 : u.effN Obj.ptp_delay_mech i = 0 := by rw [hfr]; exact hd
  exact if_pos (by simp [hp', ← hid', hd2])

theorem pdelayRespReceiveEff_master (s : State) (f : RxFrame) (x : PtpIn) (i : Nat)
    (hn : ((s.net.waiting.filter fun f => f.kind == .ptp).map fun f => (f, ptpIn f)).find? (fun e => e.2.type == mPdelayResp || e.2.type == mPdelayFup) =
      some (f, x)) (hf : s.ptpFor f x = some i) (hw : x.wellFormed = true) (ha : s.effN Obj.ptp_auth_mode i = 0) (hx : x.type = mPdelayFup)
    (hid : slice x.msg 44 10 = s.ptpIdent i f.port) (hr : s.roleRuns 2 = true) (hm : s.onMaster i f = true) :
    pdelayRespReceiveEff s = (s.messageTaken f Obj.ptp_rx_general i).pdelayMaster i f x := by
  have ht : 8 ≤ x.type := by rw [hx]; decide
  have hid' : slice x.msg 44 10 = (s.messageTaken f Obj.ptp_rx_general i).ptpIdent i f.port := hid
  have hr' : (s.messageTaken f Obj.ptp_rx_general i).roleRuns 2 = true := hr
  have hm' : (s.messageTaken f Obj.ptp_rx_general i).onMaster i f = true := hm
  unfold pdelayRespReceiveEff
  rw [hn]
  dsimp only
  rw [s.ptpAccept_general f x i hf hw ha ht]
  dsimp only
  rw [if_neg (by simp [← hid', hr'])]
  exact if_pos hm'

theorem announceTimeoutEff_silent (i : Nat) (s : State) (id : Bytes) (g : PtpForeign) (hp : (s.ptp i).parent = some id)
    (hg : (s.ptp i).foreign.find? (fun f => f.port == id) = some g) (hr : s.roleRuns 2 = true) (hst : s.valN Obj.ptp_slave_state i ≠ 0)
    (ht : s.passed (s.ptp i).parentAt (s.effN Obj.ptp_announce_timeout i * logNs (s.announceLog i g)) = true) :
    announceTimeoutEff i s = s.stageSb 1 i (.silent id (s.ptp i).parentAt) := by
  unfold announceTimeoutEff
  rw [hp]
  dsimp only
  rw [hg]
  exact if_pos (by simp [hr, hst, ht])

theorem announceTimeoutEff_idle (i : Nat) (s : State) (h : (s.ptp i).parent = none ∨ s.roleRuns 2 = false ∨ s.valN Obj.ptp_slave_state i = 0) :
    announceTimeoutEff i s = s := by
  unfold announceTimeoutEff
  split
  · rfl
  · next id hid =>
    refine if_neg ?_
    rcases h with h | h | h
    · rw [h] at hid
      cases hid
    · simp [h]
    · simp [h]

end Sys2Proof.Machine

/-! SUPPORT. The slave port of PTP: the obligation. -/
namespace Sys2Proof.Machine

theorem ptp_rx_foreign_ne_served {i : Nat} (p : Nat) (hi : i < 4) : Obj.ptp_rx_foreign.key i p ≠ Obj.mac_rx_served.key p 0 := by
  have hi' : i = 0 ∨ i = 1 ∨ i = 2 ∨ i = 3 := by omega
  simp only [ne_eq, Row.key, Obj.ptp_rx_foreign, Obj.mac_rx_served]
  rcases hi' with rfl | rfl | rfl | rfl
  · omega
  · omega
  · omega
  · omega

/-- Settles O48: what a slave port takes, sends and commits, clause by clause. -/
theorem ptpSlave : Obligations.PtpSlave := by
  unfold Obligations.PtpSlave
  refine ⟨?master, ?staged, ?waits, ?noAnnounce, ?first, ?sync, ?followUp, ?calibrated, ?delayReq, ?noSync, ?noFollowUp, ?noDelayResp, ?noDelayReq, ?delayResp,
    ?timeout, ?silent, ?noTimeout, ?pdelayReq, ?noPdelayReq, ?pdelayResp⟩
  case master =>
    intro s f x i hn hf hw ha hm
    have hi := s.ptpFor_lt f x i hf
    have heq := announceReceiveEff_master s f x i hn hf hw ha hm
    obtain ⟨⟨v, po, sh, hfr⟩, hv1, hv2, hd⟩ := s.messageTaken_spec f Obj.ptp_rx_general i rfl (ptp_rx_general_ne_served f.port hi) _ rfl
    have k1 : Obj.ptp_rx_general.key i f.port ≠ Obj.ptp_rx_foreign.key i f.port := by simp only [ne_eq, Row.key, Obj.ptp_rx_general, Obj.ptp_rx_foreign]; omega
    have k2 := (ptp_rx_foreign_ne_served f.port hi).symm
    have hv3 : (s.messageTaken f Obj.ptp_rx_general i).valN Obj.ptp_rx_foreign i f.port = s.valN Obj.ptp_rx_foreign i f.port := by
      refine hd.valN_eq (by rw [hfr]) ?_
      simp only [List.mem_cons, List.not_mem_nil, or_false, not_or]
      exact ⟨k1.symm, k2.symm⟩
    have hd' : SameDict s (announceReceiveEff s) [Obj.ptp_rx_general.key i f.port, Obj.mac_rx_served.key f.port 0, Obj.ptp_rx_foreign.key i f.port] := by
      rw [heq]
      exact SameDict.count (hd.mono (by simp)) (by simp) 1
    refine ⟨announceReceiveEff s, rfl, ?_, ?_, ?_, ?_, ?_, hd'⟩
    · rw [heq, State.count_keeps _ _ k1, hv1]
    · rw [heq, State.count_keeps _ _ k2, hv2]
    · rw [heq, State.count_u64 _ _ _ _ _ rfl, hv3]
    · rw [heq, hfr]
      rfl
    · rw [heq, hfr]
      rfl
  case staged =>
    intro s f x i hn hf hw ha hm he hr hst hid
    have hi := s.ptpFor_lt f x i hf
    have heq := announceReceiveEff_slave s f x i hn hf hw ha hm he hr hst hid
    obtain ⟨⟨v, po, sh, hfr⟩, hv1, hv2, hd⟩ := s.messageTaken_spec f Obj.ptp_rx_general i rfl (ptp_rx_general_ne_served f.port hi) _ rfl
    generalize s.messageTaken f Obj.ptp_rx_general i = u at *
    refine ⟨u.stageSb 1 i (.announce f), next_of_eq heq, hv1, hv2, ?_, ?_, ?_, hd⟩
    · rw [hfr]
      rfl
    · rw [hfr]
      rfl
    · rw [hfr]
      rfl
  case waits => exact fun s f x hn hw => ⟨s, next_of_eq (announceReceiveEff_waits s f x hn hw), rfl⟩
  case noAnnounce =>
    intro s h
    have heq : announceReceiveEff s = s := by
      unfold announceReceiveEff
      rw [h]
    exact ⟨s, next_of_eq heq, rfl⟩
  case first =>
    intro s i f hst hn hp
    have heq : s.commitSbOut { inst := i.val, event := .announce f } = s.commitAnnounce i f := if_neg hst
    exact ⟨_, rfl, heq ▸ s.commitAnnounce_first i f i.isLt hn hp _ rfl⟩
  case sync =>
    intro s f x i hn hf hw ha hp hi h2
    obtain ⟨g, heq⟩ := syncReceiveEff_two s f x i hn hf hw ha hp h2
    obtain ⟨⟨v, po, sh, hfr⟩, hv1, hv2, hd⟩ := s.messageTaken_spec f Obj.ptp_rx_event i rfl (ptp_rx_event_ne_served f.port hi) _ rfl
    generalize s.messageTaken f Obj.ptp_rx_event i = u at *
    have hptp (m : Nat) : u.ptp m = s.ptp m := by rw [hfr]; rfl
    have hx := u.modPtp_ptp i (fun y : PtpInst => { y with
      lastSync := some s.tc.cyc, syncLog := g,
      syncs := (({ seq := field x.msg 30 2, t2 := f.arr, steps := f.steps, cf := ptpCf x.msg, flags := stampFlags f.stamp } : SyncIn) :: y.syncs).take 8 }) hi
    refine ⟨_, next_of_eq heq, hv1, hv2, ?_, ?_, ?_, fun m hm => (State.modPtp_ptp_other u i _ m hm).trans (hptp m), ?_, hd⟩
    · rw [hfr]
      rfl
    · rw [hx, hptp]
    · rw [hx]
    · rw [hfr]
      rfl
  case followUp =>
    intro s f x i e d hn hf hw ha hp hi hs hd hes hst hc
    have heq := followUpReceiveEff_calibrated s f x i e d hn hf hw ha hp hs hd hes hst hc
    obtain ⟨⟨v, po, sh, hfr⟩, hv1, hv2, hd'⟩ := s.messageTaken_spec f Obj.ptp_rx_general i rfl (ptp_rx_general_ne_served f.port hi) _ rfl
    generalize s.messageTaken f Obj.ptp_rx_general i = u at *
    have hptp (m : Nat) : u.ptp m = s.ptp m := by rw [hfr]; rfl
    obtain ⟨w, hw', hwi, hwo, pt, hwf⟩ : ∃ w, (u.modPtp i fun y =>
        { y with syncs := y.syncs.filter fun z => z.seq != e.seq, complete := y.complete + 1,
                 fwd := some (e.t2 - (ofPtpTs (slice x.msg 34 10) + from16 (e.cf + ptpCf x.msg)), e.steps) }) = w ∧
        w.ptp i = { u.ptp i with
          syncs := (u.ptp i).syncs.filter fun z => z.seq != e.seq, complete := (u.ptp i).complete + 1,
          fwd := some (e.t2 - (ofPtpTs (slice x.msg 34 10) + from16 (e.cf + ptpCf x.msg)), e.steps) } ∧
        (∀ m, m ≠ i → w.ptp m = u.ptp m) ∧ ∃ pt, w = { u with net := { u.net with ptp := pt } } :=
      ⟨_, rfl, State.modPtp_ptp _ _ _ hi, fun m hm => State.modPtp_ptp_other _ _ _ m hm, ⟨_, rfl⟩⟩
    rw [hw'] at heq
    have hti : (w.stageSb 2 i .calibrated).ptp i = w.ptp i := rfl
    refine ⟨w.stageSb 2 i .calibrated, next_of_eq heq, ?_, ?_, ?_, ?_, ?_, ?_, ?_, fun m hm => (hwo m hm).trans (hptp m), ?_, ?_⟩
    · rw [hwf]
      exact hv1
    · rw [hwf]
      exact hv2
    · rw [hwf, hfr]
      rfl
    · rw [hwf, hfr]
      rfl
    · rw [hti, hwi, hptp]
    · rw [hti, hwi, hptp]
    · rw [hti, hwi]
    · rw [hwf, hfr]
      rfl
    · rw [hwf]
      exact hd'
  case calibrated =>
    intro s i hst hc
    have heq : s.commitSbOut { inst := i.val, event := .calibrated } = s.setN Obj.ptp_slave_state 3 i := by
      unfold State.commitSbOut
      dsimp only
      rw [if_neg (by rw [hst]; decide)]
      exact if_pos ⟨hst, hc⟩
    refine ⟨_, heq, State.valN_setN_int _ _ _ _ _, rfl, SameDict.setN _ _ _ _ _⟩
  case delayReq =>
    intro s i b off q hst hat hl hr hdm hm ha hp hf hq hq8 hc
    have heq := slaveDelayReqSendEff_due i s hst hat hl hr hdm hm
    have hx := s.modPtp_ptp i (fun x => x.asked (s.ptp i).reqSeq s.tc.cyc) i.isLt
    obtain ⟨u, hu, huo, pt, huf⟩ : ∃ u, (s.modPtp i fun x => x.asked (s.ptp i).reqSeq s.tc.cyc) = u ∧ (∀ m, m ≠ i.val → u.ptp m = s.ptp m) ∧
        ∃ pt, u = { s with net := { s.net with ptp := pt } } := ⟨_, rfl, fun m hm => State.modPtp_ptp_other _ _ _ m hm, ⟨_, rfl⟩⟩
    rw [hu] at heq hx
    obtain ⟨h1, h2, po, h3⟩ := State.ptpPut_spec u i (s.ptp i).slavePort true (s.ptpGroup i false) 0 (.delayReq i (s.ptp i).reqSeq)
      (s.ptpMsg i (s.ptp i).slavePort mDelayReq 0 0 0 (s.ptp i).reqSeq 0x7F (zeros 10)) b off q (by omega) (by rw [huf]; exact ha) (by rw [huf]; exact hf)
      (by rw [huf]; exact hq) hq8 (by rw [huf]; exact hc) _ heq.symm
    have hptp (m : Nat) : (slaveDelayReqSendEff i s).ptp m = u.ptp m := by rw [h3]; rfl
    refine ⟨slaveDelayReqSendEff i s, rfl, ?_, ?_, ?_, fun m hm => (hptp m).trans (huo m hm), ?_⟩
    · rw [h1, huf]
      rfl
    · rw [hptp, hx]
      rfl
    · rw [hptp, hx]
      rfl
    · rw [h3, huf]
  case noSync =>
    intro s h
    have heq : syncReceiveEff s = s := by
      unfold syncReceiveEff
      rw [h]
    exact ⟨s, next_of_eq heq, rfl⟩
  case noFollowUp =>
    intro s h
    have heq : followUpReceiveEff s = s := by
      unfold followUpReceiveEff
      rw [h]
    exact ⟨s, next_of_eq heq, rfl⟩
  case noDelayResp =>
    intro s h
    have heq : delayRespReceiveEff s = s := by
      unfold delayRespReceiveEff
      rw [h]
    exact ⟨s, next_of_eq heq, rfl⟩
  case noDelayReq => exact fun s i h => ⟨s, next_of_eq (slaveDelayReqSendEff_idle i s h), rfl⟩
  case delayResp =>
    intro s f x i e t3 fw st hn hf hw ha hp hi hid hdm he htx hfw hse
    have heq := delayRespReceiveEff_parent s f x i hn hf hw ha hp hid hdm
    obtain ⟨⟨v, po, sh, hfr⟩, hv1, hv2, hd⟩ := s.messageTaken_spec f Obj.ptp_rx_general i rfl (ptp_rx_general_ne_served f.port hi) _ rfl
    generalize s.messageTaken f Obj.ptp_rx_general i = u at *
    have hptp (m : Nat) : u.ptp m = s.ptp m := by rw [hfr]; rfl
    obtain ⟨h1, h2, h3, ⟨v', pt, sc, sl, el, fr, h4⟩, h5⟩ := u.takeDelayResp_spec i x e t3 fw hi (by rw [hptp]; exact he) htx
      (by rw [hptp, hfw, hse]) _ heq.symm
    have hdev : (delayRespReceiveEff s).dev = u.dev := by rw [h4]
    have hg : (delayRespReceiveEff s).valN Obj.ptp_rx_general i f.port = u.valN Obj.ptp_rx_general i f.port := by
      refine h5.valN_eq hdev ?_
      simp only [List.mem_cons, List.not_mem_nil, or_false, not_or, Row.key, Obj.scr_path_steps, Obj.scr_path_count, Obj.scr_path_state, Obj.scr_rtt_ref,
        Obj.ptp_mean_path_delay, Obj.ref_history, Obj.ref_irq_pending, Obj.ptp_rx_general]
      omega
    have hs : (delayRespReceiveEff s).valN Obj.mac_rx_served f.port = u.valN Obj.mac_rx_served f.port := by
      refine h5.valN_eq hdev ?_
      simp only [List.mem_cons, List.not_mem_nil, or_false, not_or, Row.key, Obj.scr_path_steps, Obj.scr_path_count, Obj.scr_path_state, Obj.scr_rtt_ref,
        Obj.ptp_mean_path_delay, Obj.ref_history, Obj.ref_irq_pending, Obj.mac_rx_served]
      omega
    refine ⟨delayRespReceiveEff s, rfl, ?_, h1, ?_, fun m hm => (h3 m hm).trans (hptp m), hg.trans hv1, hs.trans hv2, ?_, hd.trans h5⟩
    · rw [h4, hfr]
    · rw [h2, hptp]
    · rw [h4, hfr]
  case timeout =>
    intro s i id g hp hg hr hst ht
    exact ⟨_, next_of_eq (announceTimeoutEff_silent i s id g hp hg hr hst ht), rfl, rfl⟩
  case silent =>
    intro s i id hp hst
    have heq : s.commitSbOut { inst := i.val, event := .silent id (s.ptp i.val).parentAt } = s.commitSilent i id := by
      unfold State.commitSbOut
      dsimp only
      rw [if_neg hst]
      exact if_pos ⟨hp, rfl⟩
    exact ⟨_, rfl, s.commitSilent_spec i id i.isLt _ heq.symm⟩
  case noTimeout => exact fun s i h => ⟨s, next_of_eq (announceTimeoutEff_idle i s h), rfl⟩
  case pdelayReq =>
    intro s i p b off q hr hg hm hn ha hf hq hq8 hc
    obtain ⟨u, hu, heq⟩ := pdelayReqSendEff_due i p s hr hg hm hn
    have hx : u.ptp i = (s.ptp i).peerAsked p (vat (s.ptp i).pSeq p 0) s.tc.cyc := by
      rw [← hu]
      exact s.modPtp_ptp i (fun x => x.peerAsked p (vat (s.ptp i).pSeq p 0) s.tc.cyc) i.isLt
    have huo (m : Nat) (hm : m ≠ i.val) : u.ptp m = s.ptp m := by
      rw [← hu]
      exact State.modPtp_ptp_other s _ _ m hm
    have hud : SameDict s u [Obj.ptp_as_capable.key i.val 0] := by
      rw [← hu]
      exact SameDict.putN (t := s.modPtp i _) (.refl s _) (by simp) _
    obtain ⟨v, pt, huf⟩ : ∃ v pt, u = { s with dict := { s.dict with val := v }, net := { s.net with ptp := pt } } := ⟨_, _, hu.symm⟩
    have husteps : u.steps = s.steps := by
      refine hud.valN_eq (by rw [huf]) ?_
      simp only [List.mem_cons, List.not_mem_nil, or_false, Row.key, Obj.tod_step_count, Obj.ptp_as_capable]
      omega
    have hg' : u.ptpGroup i true = s.ptpGroup i true := by rw [huf]; rfl
    obtain ⟨h1, h2, po, h3⟩ := State.ptpPut_spec u i p true (u.ptpGroup i true) 0 (.pdelayReq i p (vat (s.ptp i).pSeq p 0) false)
      ((s.modPtp i fun x => x.peerAsked p (vat (s.ptp i).pSeq p 0) s.tc.cyc).pdelayReqMsg i p (vat (s.ptp i).pSeq p 0)) b off q (by omega)
      (by rw [huf]; exact ha) (by rw [hg', huf]; exact hf) (by rw [huf]; exact hq) hq8 (by rw [huf]; exact hc) _ heq.symm
    have hptp (m : Nat) : (pdelayReqSendEff i p s).ptp m = u.ptp m := by rw [h3]; rfl
    refine ⟨pdelayReqSendEff i p s, rfl, ?_, ?_, ?_, fun m hm => (hptp m).trans (huo m hm), ?_, ?_⟩
    · rw [h1, husteps, huf]
      rfl
    · rw [hptp, hx]
      exact vat_vmod_same _ _ _ _ p.isLt
    · rw [hptp, hx]
      exact congrArg List.head? (vat_vmod_same (s.ptp i).pExch p.val _ [] p.isLt)
    · rw [h3, huf]
    · rw [h3]
      exact hud
  case noPdelayReq =>
    intro s i p h
    have heq : pdelayReqSendEff i p s = s := by
      unfold pdelayReqSendEff
      refine if_neg ?_
      rcases h with h | h | h
      · simp [h]
      · simp [h]
      · simp [h]
    exact ⟨s, next_of_eq heq, rfl⟩
  case pdelayResp =>
    intro s f x i st c e t1 t2 t4 hn hf hw ha hi hp hx hid hr hm he htx hresp hse
    have heq := pdelayRespReceiveEff_master s f x i hn hf hw ha hx hid hr hm
    obtain ⟨⟨v, po, sh, hfr⟩, hv1, hv2, hd⟩ := s.messageTaken_spec f Obj.ptp_rx_general i rfl (ptp_rx_general_ne_served f.port hi) _ rfl
    generalize s.messageTaken f Obj.ptp_rx_general i = u at *
    have hptp (m : Nat) : u.ptp m = s.ptp m := by rw [hfr]; rfl
    obtain ⟨h1, h2, ⟨v', pt, h3⟩, h4⟩ := u.pdelayMaster_spec i st c f x e t1 t2 t4 hi hp hx (by rw [hptp]; exact he) htx hresp hse _ heq.symm
    have hdev : (pdelayRespReceiveEff s).dev = u.dev := by rw [h3]
    have hg : (pdelayRespReceiveEff s).valN Obj.ptp_rx_general i f.port = u.valN Obj.ptp_rx_general i f.port := by
      refine h4.valN_eq hdev ?_
      simp only [List.mem_cons, List.not_mem_nil, or_false, Row.key, Obj.ptp_as_capable, Obj.ptp_rx_general]
      omega
    have hs : (pdelayRespReceiveEff s).valN Obj.mac_rx_served f.port = u.valN Obj.mac_rx_served f.port := by
      refine h4.valN_eq hdev ?_
      simp only [List.mem_cons, List.not_mem_nil, or_false, Row.key, Obj.ptp_as_capable, Obj.mac_rx_served]
      omega
    refine ⟨pdelayRespReceiveEff s, rfl, ?_, h1, fun m hm => (h2 m hm).trans (hptp m), hg.trans hv1, hs.trans hv2, ?_, hd.trans h4⟩
    · rw [h3, hfr]
    · rw [h3, hfr]

end Sys2Proof.Machine

/-! SUPPORT. Unicast negotiation (R427, R439, R441). -/
namespace Sys2Proof.Machine

/-- A request for Sync from a port number whose object of `ptp.rx_general` of PTP clock 1 is `ptp.sess.denials`. -/
def aliasedRequest : RxFrame := { wPtpRx (wPtpFrame 12 4 3 (zeros 10 ++ [0, 4, 0, 6, 0x00, 0, 0, 0, 0, 60])) with port := 37376 }

/-- It waits at a PTP clock outside unicast mode whose slave port in effect is that number. -/
def aliasedDenial : State := (wMaster [aliasedRequest]).setEff Obj.ptp_slave_port 1 0 (.n 37376)

theorem aliasedDenial_waits :
    aliasedDenial.nextSignal [4] = some (aliasedRequest, ptpIn aliasedRequest) ∧ aliasedDenial.ptpFor aliasedRequest (ptpIn aliasedRequest) = some 1 ∧
      (ptpIn aliasedRequest).wellFormed = true ∧ aliasedDenial.effN Obj.ptp_auth_mode 1 = 0 ∧ aliasedDenial.effT Obj.pol_enable = false ∧
      (ptpIn aliasedRequest).tlvs = some [(4, 48, 6)] ∧ aliasedDenial.earlier aliasedRequest = true ∧ aliasedDenial.roleRuns 2 = true ∧
      (aliasedDenial.signalRoom aliasedRequest (ptpIn aliasedRequest) 12 1).2 = true ∧ aliasedDenial.effN Obj.ptp_mode 1 ≠ 2 := by
  decide +kernel

/-- Taking the request and denying it count at the one key. -/
theorem requestUnicastTransmissionEff_aliased : (requestUnicastTransmissionEff aliasedDenial).valN Obj.ptp_sess_denials = 2 := by decide +kernel

theorem aliasedDenial_none : aliasedDenial.valN Obj.ptp_sess_denials = 0 := by decide +kernel

/-- Refutes O49: the clause of a denied REQUEST_UNICAST_TRANSMISSION leaves the port number of the frame free, and at a number no port has the object of
`ptp.rx_general` is `ptp.sess.denials`, which the denial counts too. -/
theorem not_ptpUnicast : ¬ Obligations.PtpUnicast := by
  unfold Obligations.PtpUnicast
  rintro ⟨hdeny, -⟩
  obtain ⟨hnext, hfor, hwell, hauth, hpol, htlvs, hearly, hrole, hroom, hmode⟩ := aliasedDenial_waits
  obtain ⟨t, ht, -, hden, -⟩ := hdeny aliasedDenial aliasedRequest (ptpIn aliasedRequest) 1 (4, 48, 6) hnext hfor hwell hauth hpol htlvs hearly hrole hroom
    rfl (Nat.le_refl 6) hmode
  have heq : requestUnicastTransmissionEff aliasedDenial = t := by injection ht
  rw [← heq, requestUnicastTransmissionEff_aliased, aliasedDenial_none] at hden
  exact absurd hden (by decide)

end Sys2Proof.Machine

/-! SUPPORT. Cremin links (R452, R453). -/
namespace Sys2Proof.Machine

/-- A link that is due to send TIME, of a part whose lineage has four octets. -/
def longLineage : State := { ws_cremTime with crem := { ws_cremTime.crem with lineage := zeros 4 } }

theorem longLineage_due : (longLineage.link 1).up = true ∧ (longLineage.link 1).sentTick = false := by decide +kernel

/-- The lineage takes its four octets of the message. -/
theorem timeData_longLineage : (longLineage.timeData 1 (longLineage.timePoint 1)).length = 93 := by decide +kernel

/-- Refutes O50: the clause of TIME says that the message has 92 octets, and nothing bounds the length of the lineage that the state holds: one of four
octets makes 93. -/
theorem not_creminLinks : ¬ Obligations.CreminLinks := by
  unfold Obligations.CreminLinks
  rintro ⟨-, -, -, -, -, htime, -⟩
  obtain ⟨hup, hsent⟩ := longLineage_due
  obtain ⟨t, -, -, hlen, -⟩ := htime longLineage 1 hup hsent
  have hlen' : (longLineage.timeData 1 (longLineage.timePoint 1)).length = 92 := hlen
  rw [timeData_longLineage] at hlen'
  exact absurd hlen' (by decide)

end Sys2Proof.Machine

/-! SUPPORT. Internal reads of counters (R491). -/
namespace Sys2Proof.Machine

/-- A subindex of 256 names no object. -/
theorem noObject_sub256 : ({} : State).objPresent 0x6149 256 = none := by decide +kernel

/-- Yet the read of index 0x6149 and subindex 256 is the one of `mac.rx_served` of port 0, whose octets it keeps. -/
theorem counterReadClearEff_sub256 : (counterReadClearEff 0x6149 256 {}).gran.lastRead = [(Obj.mac_rx_served.key 0 0, zeros 8)] := by decide +kernel

/-- Refutes O52: the last clause leaves the subindex free. At 256 no object is present, and the command reads subindex 0 of the next index. -/
theorem not_attonReads : ¬ Obligations.AttonReads := by
  unfold Obligations.AttonReads
  rintro ⟨-, -, -, -, -, -, -, -, -, -, -, -, -, -, -, -, -, -, -, -, -, -, -, hidle⟩
  specialize hidle {} 0x6149 256 (by rw [noObject_sub256])
  obtain ⟨t, ht, hts⟩ := hidle
  have heq : counterReadClearEff 0x6149 256 {} = t := by injection ht
  have hread := counterReadClearEff_sub256
  rw [heq, hts] at hread
  exact absurd hread (by decide +kernel)

end Sys2Proof.Machine

/-! SUPPORT. Staging (R476 to R484): handles, commit sets, and what the checks of a write rest on. -/
namespace Sys2Proof.Machine

/-! ### Handles and sets -/

/-- Outcomes changed touch nothing but the outcomes. -/
theorem State.endHandles_frame (hs : List Nat) (st : Nat) : ∀ s : State, ∃ l, s.each hs (fun s h => s.endHandle h st) = { s with gran := { s.gran with handles := l } } := by
  induction hs with
  | nil => exact fun s => ⟨s.gran.handles, rfl⟩
  | cons h hs ih =>
    intro s
    obtain ⟨l, hl⟩ := ih (s.endHandle h st)
    exact ⟨l, hl⟩

theorem getElem?_dropTrailing {α : Type} (p : α → Bool) (l : List α) (k : Nat) (x : α) (h : l[k]? = some x) (hx : p x = false) :
    (l.reverse.dropWhile p).reverse[k]? = some x := by
  induction l using List.reverseRecOn generalizing k with
  | nil => simp at h
  | append_singleton l a ih =>
    rw [List.reverse_append]
    simp only [List.reverse_cons, List.reverse_nil, List.nil_append, List.cons_append]
    by_cases ha : p a = true
    · rw [List.dropWhile_cons_of_pos ha]
      refine ih k ?_
      rcases Nat.lt_or_ge k l.length with hk | hk
      · rwa [List.getElem?_append_left hk] at h
      · rw [List.getElem?_append_right hk] at h
        have : a = x := by
          have hk0 : k - l.length = 0 := by
            by_contra hne
            rw [List.getElem?_singleton, if_neg hne] at h
            cases h
          rw [hk0] at h
          simpa using h
        rw [this, hx] at ha
        cases ha
    · rw [List.dropWhile_cons_of_neg ha]
      simpa using h

/-- A set that holds something stands where it was put. -/
theorem State.putSets_set (s : State) (cs : List CommitSet) (k : Nat) (c : CommitSet) (hk : k < cs.length) (hc : c ≠ {}) :
    (s.putSets (cs.set k c)).sets[k]? = some c := by
  have hset : (cs.set k c)[k]? = some c := by simp [hk]
  unfold State.putSets State.sets
  cases hcs : cs.set k c with
  | nil =>
    rw [hcs] at hset
    cases hset
  | cons a l =>
    rw [hcs] at hset
    cases k with
    | zero => simpa [State.modGran] using hset
    | succ k =>
      refine getElem?_dropTrailing _ l k c (by simpa using hset) ?_
      simpa using hc

theorem State.putSets_frame (s : State) (cs : List CommitSet) : ∃ a b, s.putSets cs = { s with gran := { s.gran with cur := a, later := b } } := ⟨_, _, rfl⟩

/-- An item put into a set is its last. -/
theorem State.putItem_spec (s : State) (k : Nat) (it : Staged) (t : State) (ht : s.putItem k it = t) :
    (∃ c, t.sets[k]? = some c ∧ c.items.getLast? = some it) ∧
      ∃ a b l, t = { s with gran := { s.gran with cur := a, later := b, handles := l } } := by
  unfold State.putItem at ht
  dsimp only at ht
  generalize hcs : s.sets ++ List.replicate (k + 1 - s.sets.length) ({} : CommitSet) = cs at ht
  have hk : k < cs.length := by
    rw [← hcs]
    simp only [List.length_append, List.length_replicate]
    omega
  have hlast : ((((cs[k]?).getD {}).join it).1).items.getLast? = some it := by
    unfold CommitSet.join
    simp
  generalize (((cs[k]?).getD {}).join it) = x at *
  obtain ⟨c, gone⟩ := x
  dsimp only at ht hlast
  have hc : c ≠ {} := by
    rintro rfl
    cases hlast
  have hset := s.putSets_set cs k c hk hc
  obtain ⟨a, b, hp⟩ := s.putSets_frame (cs.set k c)
  obtain ⟨l, hl⟩ := (s.putSets (cs.set k c)).endHandles_frame gone stSuperseded
  rw [ht] at hl
  generalize s.putSets (cs.set k c) = u at *
  refine ⟨⟨c, ?_, hlast⟩, a, b, l, ?_⟩
  · rw [hl]
    exact hset
  · rw [hl, hp]

/-- A new handle stands first among the outcomes. -/
theorem State.newHandle_spec (s : State) (r : HandleRec) (t : State) (ht : (s.newHandle r).1 = t) :
    t.valN Obj.gran_handle = s.valN Obj.gran_handle + 1 ∧ (t.gran.handles.find? fun x => x.1 == s.valN Obj.gran_handle + 1) = some (s.valN Obj.gran_handle + 1, r) ∧
      (∃ v l, t = { s with dict := { s.dict with val := v }, gran := { s.gran with handles := l } }) ∧ SameDict s t [Obj.gran_handle.key 0 0] := by
  subst ht
  refine ⟨State.valN_setN _ _ _ _ _, ?_, ⟨_, _, rfl⟩, SameDict.setN _ _ _ _ _⟩
  have : (s.newHandle r).1.gran.handles = keepNew 4096 ((s.valN Obj.gran_handle + 1, r) :: s.gran.handles) := rfl
  rw [this]
  unfold keepNew
  rw [List.take_succ_cons, List.find?_cons_of_pos (by simp)]

/-- Entries staged into a set under a new handle (R477 to R480, R484). -/
theorem State.stageItem_spec (s : State) (bundle : Bool) (level path : Nat) (es : List WriteEntry) (k : Nat) (moved : Bool) (t : State)
    (ht : (s.stageItem bundle level path es k moved).1 = t) :
    (s.stageItem bundle level path es k moved).2 =
        { status := stPending, handle := s.valN Obj.gran_handle + 1, sec := (tickIdent (s.setTod k)).1, tick := (tickIdent (s.setTod k)).2 } ∧
      (∃ c, t.sets[k]? = some c ∧
        c.items.getLast? = some { handle := s.valN Obj.gran_handle + 1, bundle := bundle, entries := es, level := level, path := path }) ∧
      t.valN Obj.gran_handle = s.valN Obj.gran_handle + 1 ∧
      (t.gran.handles.find? fun x => x.1 == s.valN Obj.gran_handle + 1) =
        some (s.valN Obj.gran_handle + 1, { status := stPending, sec := (tickIdent (s.setTod k)).1, tick := (tickIdent (s.setTod k)).2 }) ∧
      (∃ v a b l, t = { s with dict := { s.dict with val := v }, gran := { s.gran with cur := a, later := b, handles := l } }) ∧
      SameDict s t [Obj.gran_handle.key 0 0, Obj.gran_deferred.key 0 0] := by
  obtain ⟨⟨c, hset, hlast⟩, a, b, l, hp⟩ := s.putItem_spec k
    { handle := s.valN Obj.gran_handle + 1, bundle := bundle, entries := es, level := level, path := path } _ rfl
  have hans : (s.stageItem bundle level path es k moved).2 =
      { status := stPending, handle := s.valN Obj.gran_handle + 1, sec := (tickIdent (s.setTod k)).1, tick := (tickIdent (s.setTod k)).2 } := by
    have hval : (s.putItem k { handle := s.valN Obj.gran_handle + 1, bundle := bundle, entries := es, level := level, path := path }).valN Obj.gran_handle =
        s.valN Obj.gran_handle := by rw [hp]; rfl
    unfold State.stageItem State.newHandle
    dsimp only
    rw [hval]
  unfold State.stageItem at ht
  dsimp only at ht
  generalize s.putItem k { handle := s.valN Obj.gran_handle + 1, bundle := bundle, entries := es, level := level, path := path } = u at *
  have hval : u.valN Obj.gran_handle = s.valN Obj.gran_handle := by rw [hp]; rfl
  obtain ⟨h1, h2, ⟨v, l', h3⟩, h4⟩ := u.newHandle_spec { status := stPending, sec := (tickIdent (s.setTod k)).1, tick := (tickIdent (s.setTod k)).2 } _ rfl
  generalize (u.newHandle { status := stPending, sec := (tickIdent (s.setTod k)).1, tick := (tickIdent (s.setTod k)).2 }).1 = w at *
  rw [hval] at h1 h2
  have hd : SameDict s w [Obj.gran_handle.key 0 0, Obj.gran_deferred.key 0 0] := by
    have hsu : SameDict s u [] := by rw [hp]; exact .refl s _
    exact (hsu.trans h4).mono (by simp)
  have hne : Obj.gran_handle.key 0 0 ≠ Obj.gran_deferred.key 0 0 := by decide
  have hsets : w.sets[k]? = some c := by
    rw [h3]
    exact hset
  have hwf : w = { s with dict := { s.dict with val := v }, gran := { s.gran with cur := a, later := b, handles := l' } } := by rw [h3, hp]
  by_cases hm : moved = true
  · rw [if_pos hm] at ht
    have hkeep := w.count_keeps 1 (r' := Obj.gran_handle) (i' := 0) (j' := 0) hne
    obtain ⟨v', hc⟩ : ∃ v', w.count Obj.gran_deferred = { w with dict := { w.dict with val := v' } } := ⟨_, rfl⟩
    have hdc : SameDict s (w.count Obj.gran_deferred) [Obj.gran_handle.key 0 0, Obj.gran_deferred.key 0 0] := hd.count (by simp) 1
    rw [ht] at hkeep hc hdc
    refine ⟨hans, ⟨c, by rw [hc]; exact hsets, hlast⟩, hkeep.trans h1, by rw [hc]; exact h2, ⟨v', a, b, l', by rw [hc, hwf]⟩, hdc⟩
  · rw [if_neg hm] at ht
    subst ht
    exact ⟨hans, ⟨c, hsets, hlast⟩, h1, h2, ⟨v, a, b, l', hwf⟩, hd⟩

/-! ### What the checks rest on -/

/-- A state with another Granary. -/
def State.regran (s : State) (g : Granary) : State := { s with gran := g }

theorem State.each_regran {α : Type} (F : State → α → State) (g : Granary) (hF : ∀ u a, F (u.regran g) a = (F u a).regran g) (l : List α) :
    ∀ s : State, (s.regran g).each l F = (s.each l F).regran g := by
  induction l with
  | nil => exact fun _ => rfl
  | cons a l ih =>
    intro s
    have hs (u : State) : u.each (a :: l) F = (F u a).each l F := rfl
    rw [hs, hs, hF, ih]

theorem State.each_of_regran {α : Type} {F : State → α → State} {g : Granary} {l : List α} {u v : State} (h : v = u.regran g)
    (hF : ∀ u a, F (u.regran g) a = (F u a).regran g) : v.each l F = (u.each l F).regran g := by
  subst h
  exact State.each_regran F g hF l u

/-- A configured value written, but where a condition holds. -/
theorem State.setUnless_regran (c : Prop) [Decidable c] (u : State) (g : Granary) (r : Row) (i j : Nat) (v : Val) :
    (if c then u.regran g else (u.regran g).setCfg r i j v) = (if c then u else u.setCfg r i j v).regran g := by
  by_cases h : c
  · rw [if_pos h, if_pos h]
  · rw [if_neg h, if_neg h]
    rfl

theorem State.each_unless_regran {α : Type} {F : State → α → State} {g : Granary} {l : List α} {u v : State} (h : v = u.regran g) (p : Int)
    (hF : ∀ u a, F (u.regran g) a = (F u a).regran g) :
    (if p = v.cfgN Obj.fly_type then v else v.each l F) = (if p = u.cfgN Obj.fly_type then u else u.each l F).regran g := by
  subst h
  by_cases h : p = u.cfgN Obj.fly_type
  · rw [if_pos h]
    exact if_pos h
  · rw [if_neg h, ← State.each_regran F g hF]
    exact if_neg h

theorem State.match_unless_regran {α : Type} {F : Int → State → α → State} {g : Granary} {l : Int → List α} {u v : State} (h : v = u.regran g) (x : Option Int)
    (hF : ∀ p u a, F p (u.regran g) a = (F p u a).regran g) :
    (match x with
      | some p => if p = v.cfgN Obj.fly_type then v else v.each (l p) (F p)
      | none => v) =
      State.regran (match x with
        | some p => if p = u.cfgN Obj.fly_type then u else u.each (l p) (F p)
        | none => u) g := by
  cases x with
  | none => exact h
  | some p => exact State.each_unless_regran h p (hF p)

theorem State.each_when_regran {α : Type} {F : State → α → State} {g : Granary} {l : List α} {u v : State} (h : v = u.regran g)
    (hF : ∀ u a, F (u.regran g) a = (F u a).regran g) :
    (if v.cfgN Obj.fly_type = 0 then v.each l F else v) = (if u.cfgN Obj.fly_type = 0 then u.each l F else u).regran g := by
  subst h
  by_cases h : u.cfgN Obj.fly_type = 0
  · rw [if_pos h, ← State.each_regran F g hF]
    exact if_pos h
  · rw [if_neg h]
    exact if_neg h

/-- The configuration with the writes of a set applied rests on nothing of the Granary. -/
theorem State.withWrites_regran (s : State) (g : Granary) (es : List (ObjRef × Val)) : (s.regran g).withWrites es = (s.withWrites es).regran g := by
  unfold State.withWrites
  dsimp only
  generalize es.filter (fun e => e.1.row.acc != .rwx) = plain
  have hcls (u : State) (p : Int) (i c : Nat) := State.setUnless_regran ((plain.any fun e => e.1.key == Obj.ptp_class_map.key i c) = true) u g
    Obj.ptp_class_map i c (.n (classDefault p c))
  have hrow (u : State) (i : Nat) (r : Row × Int) := State.setUnless_regran ((plain.any fun e => e.1.key == r.1.key i 0) = true) u g r.1 i 0 (.n r.2)
  have hfly (u : State) (r : Row × Rat) := State.setUnless_regran ((plain.any fun e => e.1.key == r.1.key 0 0) = true) u g r.1 0 0 (.n (ratFreq r.2))
  have hprof (t : State) (i : Nat) :
      (match ((plain.filter fun e => e.1.key == Obj.ptp_profile.key i 0).getLast?).map (fun e => e.2.num) with
        | some p => if p = s.cfgN Obj.ptp_profile i then t.regran g
          else ((t.regran g).each (profileDefaults p) fun t r => if plain.any (fun e => e.1.key == r.1.key i 0) then t else t.setCfg r.1 i 0 (.n r.2)).each
            (List.range 4) fun t c => if plain.any (fun e => e.1.key == Obj.ptp_class_map.key i c) then t else t.setCfg Obj.ptp_class_map i c (.n (classDefault p c))
        | none => t.regran g) =
      State.regran (match ((plain.filter fun e => e.1.key == Obj.ptp_profile.key i 0).getLast?).map (fun e => e.2.num) with
        | some p => if p = s.cfgN Obj.ptp_profile i then t
          else (t.each (profileDefaults p) fun t r => if plain.any (fun e => e.1.key == r.1.key i 0) then t else t.setCfg r.1 i 0 (.n r.2)).each
            (List.range 4) fun t c => if plain.any (fun e => e.1.key == Obj.ptp_class_map.key i c) then t else t.setCfg Obj.ptp_class_map i c (.n (classDefault p c))
        | none => t) g := by
    split
    · next p hp =>
      by_cases h : p = s.cfgN Obj.ptp_profile i
      · rw [if_pos h, if_pos h]
      · rw [if_neg h, if_neg h]
        exact State.each_of_regran (State.each_of_regran rfl fun u r => hrow u i r) fun u c => hcls u p i c
    · rfl
  exact State.each_when_regran (State.each_of_regran (State.match_unless_regran (State.each_of_regran rfl hprof) _ fun _ => hfly) fun _ _ => rfl) fun _ _ => rfl

/-- The configuration as it would stand with entries staged rests on the sets alone. -/
theorem State.projected_regran (s : State) (g : Granary) (hc : g.cur = s.gran.cur) (hl : g.later = s.gran.later) (k : Nat) (os : List (ObjRef × Val)) :
    (s.regran g).projected k os = (s.projected k os).regran g := by
  have hafter (u : State) (c : CommitSet) : (u.regran g).afterSet c = (u.afterSet c).regran g := by
    unfold State.afterSet
    by_cases h : c.restore.isSome = true
    · rw [if_pos h, if_pos h]
      rfl
    · rw [if_neg h, if_neg h, State.withWrites_regran]
  have hfold : ((s.sets.take (k + 1)).foldl State.afterSet (s.regran g)) = (((s.sets.take (k + 1)).foldl State.afterSet s)).regran g :=
    State.each_regran State.afterSet g hafter _ s
  have hsets : (s.regran g).sets = s.sets := by
    unfold State.sets State.regran
    dsimp only
    rw [hc, hl]
  unfold State.projected
  rw [hsets, hfold, State.withWrites_regran]

/-- The rules of check 6 rest on nothing of the Granary. -/
theorem broken_regran (g : Granary) (P : State) : ∀ r ∈ cRules, r.broken (P.regran g) = r.broken P := by
  intro r hr
  simp only [cRules, List.mem_cons, List.not_mem_nil, or_false] at hr
  rcases hr with rfl | rfl | rfl | rfl | rfl | rfl | rfl | rfl | rfl | rfl | rfl | rfl | rfl | rfl | rfl | rfl | rfl | rfl | rfl | rfl | rfl | rfl | rfl | rfl
  all_goals rfl

theorem State.checkRules_regran (s P : State) (g g' : Granary) (os : List (ObjRef × Val)) : (s.regran g).checkRules (P.regran g') os = s.checkRules P os := by
  have hw (o : ObjRef) (v : Val) : (s.regran g).writeRule (P.regran g') o v = s.writeRule P o v := rfl
  have hb : (cRules.filter fun r => os.any fun e => r.touches (e.1.key / 256)).map (fun r => (r.status, r.broken (P.regran g'))) =
      (cRules.filter fun r => os.any fun e => r.touches (e.1.key / 256)).map fun r => (r.status, r.broken P) := by
    refine List.map_congr_left fun r hr => ?_
    rw [broken_regran g' P r (List.mem_filter.mp hr).1]
  unfold State.checkRules
  dsimp only
  rw [hb]
  simp only [hw]

end Sys2Proof.Machine

/-! SUPPORT. Messages of the unlocked SPI slave (R478 to R484, R490, R501, R503). -/
namespace Sys2Proof.Machine

/-! ### The message at the head of the queue -/

/-- A well-formed message for this device waits first, of the SPI slave, which is not locked. -/
structure SpiHead (s : State) (m : AttonMsg) (rest : List AttonMsg) : Prop where
  inbox : s.gran.inbox = m :: rest
  up : s.attonUp = true
  formed : m.wellFormed = true
  here : s.attonHere m = true
  fresh : m.passed = none
  via : m.back.via = 0
  cells : m.reserved = 0
  unlocked : s.effT Obj.spi_lock = false

/-- The message taken from the queue. -/
def State.popped (s : State) (rest : List AttonMsg) : State := s.regran { s.gran with inbox := rest }

namespace SpiHead
variable {s : State} {m : AttonMsg} {rest : List AttonMsg}

theorem pop (h : SpiHead s m rest) : s.attonPop m = s.popped rest := by
  unfold State.attonPop State.popped State.regran State.modGran
  dsimp only
  rw [if_pos h.cells, h.inbox]
  rfl

theorem checks (h : SpiHead s m rest) : s.attonChecks m = (s, .pass pathSpi) := by
  unfold State.attonChecks
  rw [h.fresh]
  dsimp only
  rw [if_pos h.via]
  exact if_pos (by simp [h.unlocked])

/-- A response of the SPI slave stands until it is fetched. -/
theorem answer (h : SpiHead s m rest) (t : State) (st : Nat) (b : Bytes) :
    t.attonAnswer m st b = t.modGran fun g => { g with spiResp := some (t.attonBuild m.op m.level m.sender m.node m.seq st b) } := by
  have hout : t.attonOut m.back (t.attonBuild m.op m.level m.sender m.node m.seq st b) =
      some (t.modGran fun g => { g with spiResp := some (t.attonBuild m.op m.level m.sender m.node m.seq st b) }) := if_pos h.via
  unfold State.attonAnswer
  rw [hout]
  rfl

/-- The message is served. -/
theorem serve (h : SpiHead s m rest) (op : Nat) (hop : m.op = op) (hr : requestOps.contains op = true) (hw : s.attonWaits m = false)
    (f : State → AttonMsg → Nat → State × Nat × Bytes) (t : State) (st : Nat) (b : Bytes) (hf : f (s.popped rest) m pathSpi = (t, st, b)) :
    s.attonServe op f = t.modGran fun g => { g with spiResp := some (t.attonBuild op m.level m.sender m.node m.seq st b) } := by
  subst hop
  have htaker : m.taker = m.op := if_pos hr
  unfold State.attonServe
  rw [h.inbox]
  simp only [List.head?_cons]
  rw [if_neg (by simp [h.up, htaker]), if_neg (by simp [h.formed]), if_neg (by simp [h.here]), h.checks]
  dsimp only
  rw [if_neg (by rw [hr]; simp), if_neg (by simp [hw]), h.pop, hf]
  exact h.answer t st b

/-- The message waits through the staging close. -/
theorem serve_waits (h : SpiHead s m rest) (op : Nat) (hop : m.op = op) (hr : requestOps.contains op = true) (hw : s.attonWaits m = true)
    (f : State → AttonMsg → Nat → State × Nat × Bytes) :
    s.attonServe op f = s.modGran fun g => { g with inbox := rest, held := g.held ++ [{ m with passed := some pathSpi }] } := by
  subst hop
  have htaker : m.taker = m.op := if_pos hr
  unfold State.attonServe
  rw [h.inbox]
  simp only [List.head?_cons]
  rw [if_neg (by simp [h.up, htaker]), if_neg (by simp [h.formed]), if_neg (by simp [h.here]), h.checks]
  dsimp only
  rw [if_neg (by rw [hr]; simp), if_pos hw]
  unfold State.modGran
  dsimp only
  rw [h.inbox]
  rfl

end SpiHead

/-- What the device builds rests on its keys and its boot number. -/
theorem State.attonBuild_congr (s t : State) (hk : t.gran.keys = s.gran.keys) (hb : t.valN Obj.atton_boot_id = s.valN Obj.atton_boot_id)
    (op level sender node seq st : Nat) (b : Bytes) : t.attonBuild op level sender node seq st b = s.attonBuild op level sender node seq st b := by
  unfold State.attonBuild State.attonKey
  rw [hk, hb]

/-! ### Writes of the SPI slave -/

theorem State.popped_objPresent (s : State) (rest : List AttonMsg) (index sub : Nat) : (s.popped rest).objPresent index sub = s.objPresent index sub := by
  have ha (o : ObjRef) : (s.popped rest).absent o = s.absent o := rfl
  unfold State.objPresent
  simp only [ha]

theorem State.popped_checkWrite (s : State) (rest : List AttonMsg) (level index sub : Nat) (b : Bytes) :
    (s.popped rest).checkWrite level index sub b = s.checkWrite level index sub b := by
  have hw (o : ObjRef) : (s.popped rest).writable o = s.writable o := rfl
  have hv (o : ObjRef) (v : Val) : (s.popped rest).valueOk o v = s.valueOk o v := rfl
  unfold State.checkWrite
  simp only [s.popped_objPresent, hw, hv]

theorem State.popped_bundleEntries (s : State) (rest : List AttonMsg) (level : Nat) (es : List WriteEntry) :
    ∀ before, (s.popped rest).bundleEntries level before es = s.bundleEntries level before es := by
  induction es with
  | nil => exact fun _ => rfl
  | cons e es ih =>
    intro before
    have he : (s.popped rest).bundleEntry level before e = s.bundleEntry level before e := by
      unfold State.bundleEntry
      simp only [s.popped_objPresent, s.popped_checkWrite]
    unfold State.bundleEntries
    rw [he]
    simp only [ih]

/-- Entries whose rules hold are staged. -/
theorem State.stageChecked_ok (s : State) (bundle : Bool) (level path : Nat) (es : List WriteEntry) (os : List (ObjRef × Val))
    (h : (s.checkRules (s.projected (s.target es).1 os) os).isNone = true) :
    s.stageChecked bundle level path es os = s.stageItem bundle level path es (s.target es).1 (s.target es).2 := by
  unfold State.stageChecked
  dsimp only
  rw [Option.isNone_iff_eq_none.mp h]

theorem State.popped_stageChecked_ok (s : State) (rest : List AttonMsg) (bundle : Bool) (level path : Nat) (es : List WriteEntry) (os : List (ObjRef × Val))
    (h : (s.checkRules (s.projected (s.target es).1 os) os).isNone = true) :
    (s.popped rest).stageChecked bundle level path es os = (s.popped rest).stageItem bundle level path es (s.target es).1 (s.target es).2 := by
  have ht : (s.popped rest).target es = s.target es := rfl
  have hp := s.projected_regran { s.gran with inbox := rest } rfl rfl (s.target es).1 os
  have hc := s.checkRules_regran (s.projected (s.target es).1 os) { s.gran with inbox := rest } { s.gran with inbox := rest } os
  rw [← ht]
  refine (s.popped rest).stageChecked_ok bundle level path es os ?_
  rw [ht]
  unfold State.popped
  rw [hp, hc]
  exact h

end Sys2Proof.Machine

/-! SUPPORT. Writes, STORE and RESTORE_DEFAULTS by the SPI slave: the obligation. -/
namespace Sys2Proof.Machine

/-- Outside RECOVERY nothing that is staged takes effect at once. -/
theorem State.recoverNow_outside (s : State) (x : State × WriteAns) (h : s.boot.recovery = false) : s.recoverNow x = x := by
  unfold State.recoverNow
  rw [h]
  rfl

/-! ### What the operations answer -/

/-- The body of an answer that names a handle and its boundary. -/
theorem writeAns_pending (h sec tick : Nat) : WriteAns.body { status := stPending, handle := h, sec := sec, tick := tick } =
    beBytes 4 h ++ beBytes 8 sec ++ beBytes 2 tick := rfl

theorem State.opWrite_staged (s : State) (m : AttonMsg) (rest : List AttonMsg) (e : WriteEntry) (hp : parseWrites 1 m.body = some [e]) (h : Passes s m.level e) :
    ∃ x, (s.popped rest).stageItem false m.level pathSpi [e] (s.target [e]).1 (s.target [e]).2 = x ∧
      (s.popped rest).opWrite m pathSpi = (x.1, x.2.status, x.2.body) := by
  refine ⟨_, rfl, ?_⟩
  obtain ⟨hrec, hst, hc⟩ := h
  have hst' : (s.popped rest).noStaging = false := hst
  have hrec' : (s.popped rest).boot.recovery = false := hrec
  unfold State.opWrite
  rw [hp]
  dsimp only
  unfold State.write
  rw [State.recoverNow_outside _ _ hrec']
  unfold State.stageWrite
  rw [if_neg (by simp [hst']), s.popped_checkWrite]
  split at hc
  · next o v ho =>
    rw [ho]
    simp only [Bool.and_eq_true, Bool.not_eq_true'] at hc
    obtain ⟨him, hrules⟩ := hc
    dsimp only
    rw [if_neg (by simp [him]), s.popped_stageChecked_ok rest false m.level pathSpi [e] [(o, v)] hrules]
  · cases hc

theorem State.opWrite_refused (s : State) (m : AttonMsg) (rest : List AttonMsg) (e : WriteEntry) (st : Nat) (hp : parseWrites 1 m.body = some [e])
    (hst : s.noStaging = false) (hrec : s.boot.recovery = false) (hc : s.checkWrite m.level e.index e.sub e.value = .error st) :
    (s.popped rest).opWrite m pathSpi = ((s.popped rest).count Obj.gran_refused, st, WriteAns.body { status := st, index := e.index, sub := e.sub }) := by
  have hst' : (s.popped rest).noStaging = false := hst
  have hrec' : (s.popped rest).boot.recovery = false := hrec
  unfold State.opWrite
  rw [hp]
  dsimp only
  unfold State.write
  rw [State.recoverNow_outside _ _ hrec']
  unfold State.stageWrite
  rw [if_neg (by simp [hst']), s.popped_checkWrite, hc]
  rfl

theorem State.opBundle_staged (s : State) (m : AttonMsg) (rest : List AttonMsg) (es : List WriteEntry) (os : List (ObjRef × Val)) (h1 : 1 ≤ octet m.body 0)
    (h64 : octet m.body 0 ≤ 64) (hp : parseWrites (octet m.body 0) (m.body.drop 1) = some es) (hst : s.noStaging = false) (hrec : s.boot.recovery = false)
    (hb : s.bundleEntries m.level [] es = .ok os) (hr : (s.checkRules (s.projected (s.target es).1 os) os).isNone = true) :
    ∃ x, (s.popped rest).stageItem true m.level pathSpi es (s.target es).1 (s.target es).2 = x ∧
      (s.popped rest).opBundle m pathSpi = (x.1, x.2.status, x.2.body) := by
  refine ⟨_, rfl, ?_⟩
  have hst' : (s.popped rest).noStaging = false := hst
  have hrec' : (s.popped rest).boot.recovery = false := hrec
  unfold State.opBundle
  dsimp only
  rw [hp]
  dsimp only
  rw [if_neg (by omega)]
  unfold State.bundle
  rw [State.recoverNow_outside _ _ hrec']
  unfold State.stageBundle
  rw [if_neg (by simp [hst']), s.popped_bundleEntries, hb]
  dsimp only
  rw [s.popped_stageChecked_ok rest true m.level pathSpi es os hr]

/-- What an answer to a staged item rests on. -/
theorem SpiHead.staged {s : State} {m : AttonMsg} {rest : List AttonMsg} (bundle : Bool) (es : List WriteEntry) (x : State × WriteAns)
    (hx : (s.popped rest).stageItem bundle m.level pathSpi es (s.target es).1 (s.target es).2 = x) (op : Nat) (t : State)
    (ht : (x.1.modGran fun g => { g with spiResp := some (x.1.attonBuild op m.level m.sender m.node m.seq x.2.status x.2.body) }) = t) :
    t.gran.spiResp = some (s.attonBuild op m.level m.sender m.node m.seq 1 (beBytes 4 (s.valN Obj.gran_handle + 1) ++
        beBytes 8 (tickIdent (s.setTod (s.target es).1)).1 ++ beBytes 2 (tickIdent (s.setTod (s.target es).1)).2)) ∧
      t.gran.inbox = rest ∧
      ((t.sets[(s.target es).1]?.map fun c => c.items.getLast?) =
        some (some { handle := (s.valN Obj.gran_handle + 1), bundle := bundle, entries := es, level := m.level, path := 64 })) ∧
      t.valN Obj.gran_handle = (s.valN Obj.gran_handle + 1) ∧ t = { s with gran := t.gran, dict := t.dict } ∧
      SameDict s t [Obj.gran_handle.key 0 0, Obj.gran_deferred.key 0 0] := by
  obtain ⟨h1, ⟨c, h2, h2'⟩, h3, -, ⟨v, a, b, l, h5⟩, h6⟩ := (s.popped rest).stageItem_spec bundle m.level pathSpi es (s.target es).1 (s.target es).2 _ rfl
  rw [hx] at h1 h2 h3 h5 h6
  have hboot : x.1.valN Obj.atton_boot_id = s.valN Obj.atton_boot_id := h6.valN_eq (by rw [h5]) (by decide)
  have hbuild := s.attonBuild_congr x.1 (by rw [h5]; rfl) hboot
  have hresp : t.gran.spiResp = some (x.1.attonBuild op m.level m.sender m.node m.seq x.2.status x.2.body) := by rw [← ht]; rfl
  have hd : SameDict s (s.popped rest) [] := .refl s _
  refine ⟨?_, ?_, ?_, ?_, ?_, ?_⟩
  · rw [hresp, hbuild, h1]
    rfl
  · rw [← ht, h5]
    rfl
  · have : t.sets = x.1.sets := by rw [← ht]; rfl
    rw [this, h2]
    exact congrArg some h2'
  · rw [← ht]
    exact h3
  · rw [← ht, h5]
    rfl
  · rw [← ht]
    exact hd.trans h6

/-- STORE waits under a new handle (R503). -/
theorem State.opStore_new (s : State) (m : AttonMsg) (hb : m.body = []) (hl : 2 ≤ m.level) (hst : s.noStaging = false) (hrec : s.boot.recovery = false)
    (hn : s.gran.storeNext = none) :
    ∃ u, (s.newHandle { status := stPending, sec := (tickIdent (s.setTod 0)).1, tick := (tickIdent (s.setTod 0)).2 }).1 = u ∧
      s.opStore m pathSpi = (u.modGran fun g => { g with storeNext := some { handle := s.valN Obj.gran_handle + 1 } }, stPending, beBytes 4 (s.valN Obj.gran_handle + 1)) := by
  refine ⟨_, rfl, ?_⟩
  unfold State.opStore
  rw [if_neg (by simp [hb]), if_neg (by omega), if_neg (by simp [hst, hrec])]
  unfold State.stageStore
  rw [hn]
  rfl

theorem State.opStore_joins (s : State) (m : AttonMsg) (j : StoreJob) (hb : m.body = []) (hl : 2 ≤ m.level) (hst : s.noStaging = false)
    (hrec : s.boot.recovery = false) (hn : s.gran.storeNext = some j) : s.opStore m pathSpi = (s, stPending, beBytes 4 j.handle) := by
  unfold State.opStore
  rw [if_neg (by simp [hb]), if_neg (by omega), if_neg (by simp [hst, hrec])]
  unfold State.stageStore
  rw [hn]

/-- RESTORE_DEFAULTS outside the staging close (R483). -/
theorem State.stageRestore_spec (s : State) (k : Nat) (hc : s.stagingClosed = false) (hk : (s.sets.takeWhile fun c => c.restore.isSome).length = k) (x : State × WriteAns)
    (hx : s.stageRestore = x) :
    x.2 = { status := stPending, handle := s.valN Obj.gran_handle + 1, sec := (tickIdent (s.setTod k)).1, tick := (tickIdent (s.setTod k)).2 } ∧
      x.1.sets[k]? = some { restore := some (s.valN Obj.gran_handle + 1) } ∧ x.1.valN Obj.gran_handle = s.valN Obj.gran_handle + 1 ∧
      (∃ v a b l, x.1 = { s with dict := { s.dict with val := v }, gran := { s.gran with cur := a, later := b, handles := l } }) ∧
      SameDict s x.1 [Obj.gran_handle.key 0 0] := by
  unfold State.stageRestore at hx
  rw [hc] at hx
  simp only [Bool.false_eq_true, if_false, Nat.zero_add, List.drop_zero] at hx
  rw [hk] at hx
  generalize hcs : s.sets ++ List.replicate (k + 1 - s.sets.length) ({} : CommitSet) = cs at hx
  have hlen : k < cs.length := by
    rw [← hcs]
    simp only [List.length_append, List.length_replicate]
    omega
  generalize ((((cs[k]?).getD {}).live).map fun i => i.handle) = gone at hx
  have hset := s.putSets_set cs k { restore := some (s.valN Obj.gran_handle + 1) } hlen (by
    intro h
    have := congrArg CommitSet.restore h
    cases this)
  obtain ⟨a, b, hp⟩ := s.putSets_frame (cs.set k { restore := some (s.valN Obj.gran_handle + 1) })
  obtain ⟨l, hl⟩ := (s.putSets (cs.set k { restore := some (s.valN Obj.gran_handle + 1) })).endHandles_frame gone stSuperseded
  generalize (s.putSets (cs.set k { restore := some (s.valN Obj.gran_handle + 1) })).each gone (fun s h => s.endHandle h stSuperseded) = u at hx hl
  generalize s.putSets (cs.set k { restore := some (s.valN Obj.gran_handle + 1) }) = w at hset hp hl
  have hval : u.valN Obj.gran_handle = s.valN Obj.gran_handle := by rw [hl, hp]; rfl
  obtain ⟨h1, -, ⟨v, l', h3⟩, h4⟩ := u.newHandle_spec { status := stPending, sec := (tickIdent (s.setTod k)).1, tick := (tickIdent (s.setTod k)).2 } _ rfl
  have hx2 : x.2 = { status := stPending, handle := u.valN Obj.gran_handle + 1, sec := (tickIdent (s.setTod k)).1, tick := (tickIdent (s.setTod k)).2 } := by
    rw [← hx]
    rfl
  have hx1 : x.1 = (u.newHandle { status := stPending, sec := (tickIdent (s.setTod k)).1, tick := (tickIdent (s.setTod k)).2 }).1 := by
    rw [← hx]
  rw [← hx1] at h1 h3 h4
  have hsu : SameDict s u [] := by rw [hl, hp]; exact .refl s _
  refine ⟨by rw [hx2, hval], ?_, by rw [h1, hval], ⟨v, a, b, l', by rw [h3, hl, hp]⟩, hsu.trans h4⟩
  rw [h3, hl]
  exact hset

theorem State.opRestore_staged (s : State) (m : AttonMsg) (hb : m.body = []) (hl : 3 ≤ m.level) (hst : s.noStaging = false) (hrec : s.boot.recovery = false) :
    s.opRestore m pathSpi = (s.stageRestore.1, s.stageRestore.2.status, s.stageRestore.2.body) := by
  unfold State.opRestore
  rw [if_neg (by simp [hb]), if_neg (by omega), if_neg (by simp [hst, hrec])]

end Sys2Proof.Machine

/-! SUPPORT. STORE_COMPLETE (R503), and the obligation of the writes of the SPI slave. -/
namespace Sys2Proof.Machine

/-- The outcome of a handle after it has taken a status. -/
theorem State.endHandle_handles (s : State) (h st : Nat) : ∀ e ∈ (s.endHandle h st).gran.handles, e.1 = h → e.2.status = st := by
  intro e he heq
  have hm : e ∈ s.gran.handles.map fun e => if e.1 = h then (e.1, { e.2 with status := st }) else e := he
  obtain ⟨y, -, hy⟩ := List.mem_map.mp hm
  by_cases hk : y.1 = h
  · rw [if_pos hk] at hy
    rw [← hy]
  · rw [if_neg hk] at hy
    rw [← hy] at heq
    exact absurd heq hk

theorem storeCompleteEff_failed (s : State) (j : StoreJob) (hj : s.gran.store = some j) (hc : j.captured = true) :
    storeCompleteEff false s = ((s.breakStore j).storeFail j.handle).raise 282 := by
  unfold storeCompleteEff
  rw [hj]
  dsimp only
  rw [if_neg (by simp [hc])]
  exact if_neg (by simp)

theorem storeCompleteEff_idle (s : State) (ok : Bool) (h : (match s.gran.store with | some j => j.captured | none => false) = false) :
    storeCompleteEff ok s = s := by
  unfold storeCompleteEff
  split
  · rfl
  · next j hj =>
    rw [hj] at h
    exact if_pos (by simpa using h)

/-- A journal put: `store.used` follows. -/
theorem State.putJournal_frame (s : State) (jr : Journal) :
    ∃ x : Int, s.putJournal jr = State.setN { s with gran := { s.gran with journal := jr } } Obj.store_used x := ⟨_, rfl⟩

theorem State.writeStore_frame (s : State) (j : StoreJob) : ∃ (x : Int) (jr : Journal),
    s.writeStore j = ((s.setN Obj.store_generation (s.gran.journal.nextGen 0 : Nat)).setN Obj.store_last x).putJournal jr := ⟨_, _, rfl⟩

/-- A STORE that is written (R503, R504). -/
theorem State.writeStore_spec (s : State) (j : StoreJob) (t : State) (ht : s.writeStore j = t) :
    t.valN Obj.store_generation = s.gran.journal.nextGen 0 ∧
      (∃ v jr, t = { s with dict := { s.dict with val := v }, gran := { s.gran with journal := jr } }) ∧
      SameDict s t [Obj.store_state.key 0 0, Obj.store_generation.key 0 0, Obj.store_last.key 0 0, Obj.store_used.key 0 0] := by
  obtain ⟨x, jr, hw⟩ := s.writeStore_frame j
  obtain ⟨y, hp⟩ := State.putJournal_frame ((s.setN Obj.store_generation (s.gran.journal.nextGen 0 : Nat)).setN Obj.store_last x) jr
  rw [ht, hp] at hw
  clear hp
  generalize s.gran.journal.nextGen 0 = g at *
  have hv : ((s.setN Obj.store_generation (g : Int)).setN Obj.store_last x).valN Obj.store_generation = g :=
    (State.valN_setN_other _ _ _ _ _ _ _ _ (by decide)).trans (State.valN_setN _ _ _ _ _)
  have hd : SameDict s ((s.setN Obj.store_generation (g : Int)).setN Obj.store_last x)
      [Obj.store_state.key 0 0, Obj.store_generation.key 0 0, Obj.store_last.key 0 0, Obj.store_used.key 0 0] :=
    ((SameDict.refl s _).putN (by simp) _).putN (by simp) _
  obtain ⟨v, hu⟩ : ∃ v, (s.setN Obj.store_generation (g : Int)).setN Obj.store_last x = { s with dict := { s.dict with val := v } } := ⟨_, rfl⟩
  generalize (s.setN Obj.store_generation (g : Int)).setN Obj.store_last x = u at *
  rw [hw]
  refine ⟨?_, ⟨?v, jr, ?_⟩, ?_⟩
  · rw [State.valN_setN_other _ _ _ _ _ _ _ _ (by decide)]
    exact hv
  rotate_left
  · rw [hu]
    rfl
  · exact SameDict.putN (t := { u with gran := { u.gran with journal := jr } }) hd (by simp) y

theorem storeCompleteEff_ok (s : State) (j : StoreJob) (hj : s.gran.store = some j) (hc : j.captured = true) (hp : s.boot.plan.testBit planDefaults = false) :
    storeCompleteEff true s = (State.setN { s.writeStore j with gran := { (s.writeStore j).gran with store := none } } Obj.store_state 2).endHandle j.handle stDone := by
  obtain ⟨-, ⟨v, jr, hu⟩, -⟩ := s.writeStore_spec j _ rfl
  unfold storeCompleteEff
  rw [hj]
  dsimp only
  rw [if_neg (by simp [hc]), if_pos rfl]
  generalize s.writeStore j = u at *
  have hp' : ((State.setN { u with gran := { u.gran with store := none } } Obj.store_state 2).endHandle j.handle stDone).boot.plan.testBit
      planDefaults = false := by
    rw [hu]
    exact hp
  exact if_neg (by rw [hp']; decide)

/-- A STORE that fails, before its source is raised. -/
theorem State.storeFailed_spec (s : State) (j : StoreJob) (t : State) (ht : (s.breakStore j).storeFail j.handle = t) :
    t.valN Obj.store_state = 3 ∧ (∀ e ∈ t.gran.handles, e.1 = j.handle → e.2.status = 0x20) ∧
      (∃ v jr l, t = { s with dict := { s.dict with val := v }, gran := { s.gran with store := none, journal := jr, handles := l }, fresh := s.fresh + 4 }) ∧
      SameDict s t [Obj.store_state.key 0 0, Obj.store_used.key 0 0] := by
  subst ht
  obtain ⟨jr, hb⟩ : ∃ jr, s.breakStore j = State.putJournal { s with fresh := s.fresh + 4 } jr := ⟨_, rfl⟩
  obtain ⟨y, hp⟩ := State.putJournal_frame { s with fresh := s.fresh + 4 } jr
  rw [hp] at hb
  have hd : SameDict s (s.breakStore j) [Obj.store_state.key 0 0, Obj.store_used.key 0 0] := by
    rw [hb]
    exact SameDict.putN (t := { s with fresh := s.fresh + 4, gran := { s.gran with journal := jr } }) (.refl s _) (by simp) y
  obtain ⟨v, huf⟩ : ∃ v, s.breakStore j = { s with dict := { s.dict with val := v }, gran := { s.gran with journal := jr }, fresh := s.fresh + 4 } := ⟨_, hb⟩
  generalize s.breakStore j = u at *
  obtain ⟨v', l, hf⟩ : ∃ v' l, u.storeFail j.handle = { u with dict := { u.dict with val := v' }, gran := { u.gran with store := none, handles := l } } := ⟨_, _, rfl⟩
  refine ⟨State.valN_setN_int { u with gran := { u.gran with store := none } } _ _ _ _, State.endHandle_handles _ _ _, ⟨v', jr, l, by rw [hf, huf]⟩, ?_⟩
  exact SameDict.putN (t := { u with gran := { u.gran with store := none } }) hd (by simp) _

/-- A STORE whose handle reads DONE. -/
theorem State.storeDone_spec (u : State) (h : Nat) (t : State)
    (ht : (State.setN { u with gran := { u.gran with store := none } } Obj.store_state 2).endHandle h stDone = t) :
    t.valN Obj.store_state = 2 ∧ t.valN Obj.store_generation = u.valN Obj.store_generation ∧ (∀ e ∈ t.gran.handles, e.1 = h → e.2.status = 2) ∧
      (∃ v l, t = { u with dict := { u.dict with val := v }, gran := { u.gran with store := none, handles := l } }) ∧ SameDict u t [Obj.store_state.key 0 0] := by
  obtain ⟨w, hw⟩ : ∃ w, ({ u with gran := { u.gran with store := none } } : State) = w := ⟨_, rfl⟩
  have hd : SameDict u w [] := by rw [← hw]; exact .refl u _
  have hwv : w.valN Obj.store_generation = u.valN Obj.store_generation := by rw [← hw]; rfl
  rw [hw] at ht
  have h1 := State.valN_setN_int w Obj.store_state 2 0 0
  have h2 := State.valN_setN_other w Obj.store_state Obj.store_generation 2 0 0 0 0 (by decide)
  have h3 := SameDict.setN w Obj.store_state 2 0 0
  obtain ⟨v, hx⟩ : ∃ v, w.setN Obj.store_state 2 = { w with dict := { w.dict with val := v } } := ⟨_, rfl⟩
  generalize w.setN Obj.store_state 2 = x at *
  have hv (r : Row) : t.valN r = x.valN r := by rw [← ht]; rfl
  obtain ⟨l, hl⟩ : ∃ l, x.endHandle h stDone = { x with gran := { x.gran with handles := l } } := ⟨_, rfl⟩
  have hend := x.endHandle_handles h stDone
  rw [ht] at hl hend
  refine ⟨(hv _).trans h1, ((hv _).trans h2).trans hwv, hend, ⟨v, l, by rw [hl, hx, ← hw]⟩, ?_⟩
  rw [hl]
  exact hd.trans h3

/-- Settles O53: what is staged and answered, held, refused, and how a STORE ends. -/
theorem attonWrites : Obligations.AttonWrites := by
  unfold Obligations.AttonWrites
  refine ⟨?write, ?refused, ?bundle, ?held, ?store, ?storeJoins, ?storeLevel, ?restore, ?done, ?failed, ?idle⟩
  case write =>
    intro s m rest e hin hup hwf hhere hwait hpass hvia hcells hlock hop hparse hok
    have hhead : SpiHead s m rest := ⟨hin, hup, hwf, hhere, hpass, hvia, hcells, hlock⟩
    obtain ⟨x, hx, hans⟩ := s.opWrite_staged m rest e hparse hok
    have heq : writeEff s = _ := hhead.serve 2 hop rfl hwait _ _ _ _ hans
    exact ⟨_, next_of_eq heq, SpiHead.staged false [e] x hx 2 _ rfl⟩
  case refused =>
    intro s m rest e st hin hup hwf hhere hwait hpass hvia hcells hlock hop hparse hst hrec hc h16 h24
    have hhead : SpiHead s m rest := ⟨hin, hup, hwf, hhere, hpass, hvia, hcells, hlock⟩
    have hce : s.checkWrite m.level e.index e.sub e.value = .error st := by
      split at hc
      · next x hx =>
        rw [hx, beq_iff_eq.mp hc]
      · cases hc
    have heq : writeEff s = _ := hhead.serve 2 hop rfl hwait _ _ _ _ (s.opWrite_refused m rest e st hparse hst hrec hce)
    have hbody : WriteAns.body { status := st, index := e.index, sub := e.sub } = beBytes 2 e.index ++ beBytes 1 e.sub := by
      have h1 : ¬ (st = stPending ∨ st = stDone) := by unfold stPending stDone; omega
      have h2 : st ≠ stBusy := by unfold stBusy; omega
      exact (if_neg h1).trans (if_neg h2)
    have hval := (s.popped rest).count_u64 Obj.gran_refused 0 0 1 rfl
    have hd : SameDict s ((s.popped rest).count Obj.gran_refused) [Obj.gran_refused.key 0 0] :=
      SameDict.count (t := s.popped rest) (.refl s _) (by simp) 1
    obtain ⟨v, hfr⟩ : ∃ v, (s.popped rest).count Obj.gran_refused = { s with dict := { s.dict with val := v }, gran := { s.gran with inbox := rest } } := ⟨_, rfl⟩
    have hbuild := s.attonBuild_congr ((s.popped rest).count Obj.gran_refused) rfl (hd.valN_eq rfl (by decide))
    generalize (s.popped rest).count Obj.gran_refused = u at *
    refine ⟨_, next_of_eq heq, ?_, ?_, hval, ?_, ?_, hd⟩
    · exact congrArg some ((hbuild _ _ _ _ _ _ _).trans (by rw [hbody]))
    · rw [hfr]
      rfl
    · rw [hfr]
      rfl
    · rw [hfr]
      rfl
  case bundle =>
    intro s m rest es hin hup hwf hhere hwait hpass hvia hcells hlock hop h1 h64 hparse hst hrec hc
    have hhead : SpiHead s m rest := ⟨hin, hup, hwf, hhere, hpass, hvia, hcells, hlock⟩
    split at hc
    · next os hos =>
      obtain ⟨x, hx, hans⟩ := s.opBundle_staged m rest es os h1 h64 hparse hst hrec hos hc
      have heq : bundleWriteEff s = _ := hhead.serve 3 hop rfl hwait _ _ _ _ hans
      exact ⟨_, next_of_eq heq, SpiHead.staged true es x hx 3 _ rfl⟩
    · cases hc
  case held =>
    intro s m rest hin hup hwf hhere hpass hvia hcells hlock hop hwait
    have hhead : SpiHead s m rest := ⟨hin, hup, hwf, hhere, hpass, hvia, hcells, hlock⟩
    have heq : bundleWriteEff s = _ := hhead.serve_waits 3 hop rfl hwait _
    exact ⟨_, next_of_eq heq, rfl, rfl⟩
  case store =>
    intro s m rest hin hup hwf hhere hwait hpass hvia hcells hlock hop hbody hl hst hrec hn
    have hhead : SpiHead s m rest := ⟨hin, hup, hwf, hhere, hpass, hvia, hcells, hlock⟩
    obtain ⟨u, hu, hans⟩ := (s.popped rest).opStore_new m hbody hl hst hrec hn
    obtain ⟨h1, -, ⟨v, l, h3⟩, h4⟩ := (s.popped rest).newHandle_spec _ u hu
    have heq : storeEff s = _ := hhead.serve 7 hop rfl hwait _ _ _ _ hans
    have hd : SameDict s (s.popped rest) [] := .refl s _
    have hboot : u.valN Obj.atton_boot_id = s.valN Obj.atton_boot_id := h4.valN_eq (by rw [h3]) (by decide)
    have hbuild := s.attonBuild_congr (u.modGran fun g => { g with storeNext := some { handle := s.valN Obj.gran_handle + 1 } }) (by rw [h3]; rfl) hboot
    refine ⟨_, next_of_eq heq, ?_, ?_, rfl, h1, ?_, ?_, hd.trans h4⟩
    · exact congrArg some (hbuild _ _ _ _ _ _ _)
    · rw [h3]
      rfl
    · rw [h3]
      rfl
    · rw [h3]
      rfl
  case storeJoins =>
    intro s m rest j hin hup hwf hhere hwait hpass hvia hcells hlock hop hbody hl hst hrec hn
    have hhead : SpiHead s m rest := ⟨hin, hup, hwf, hhere, hpass, hvia, hcells, hlock⟩
    have heq : storeEff s = _ := hhead.serve 7 hop rfl hwait _ _ _ _ ((s.popped rest).opStore_joins m j hbody hl hst hrec hn)
    exact ⟨_, next_of_eq heq, rfl, rfl, rfl, rfl⟩
  case storeLevel =>
    intro s m rest hin hup hwf hhere hwait hpass hvia hcells hlock hop hbody hl
    have hhead : SpiHead s m rest := ⟨hin, hup, hwf, hhere, hpass, hvia, hcells, hlock⟩
    have hans : (s.popped rest).opStore m pathSpi = (s.popped rest, stLevel, []) := by
      unfold State.opStore
      rw [if_neg (by simp [hbody]), if_pos (by omega)]
    have heq : storeEff s = _ := hhead.serve 7 hop rfl hwait _ _ _ _ hans
    exact ⟨_, next_of_eq heq, rfl, rfl, rfl, rfl⟩
  case restore =>
    intro s m rest k hin hup hwf hhere hwait hpass hvia hcells hlock hop hbody hl hst hrec hk
    have hhead : SpiHead s m rest := ⟨hin, hup, hwf, hhere, hpass, hvia, hcells, hlock⟩
    have hclosed : s.stagingClosed = false := by
      unfold State.attonWaits at hwait
      rw [hop, hbody, hl, hst, hrec] at hwait
      simpa using hwait
    have heq : restoreDefaultsEff s = _ := hhead.serve 8 hop rfl hwait _ _ _ _ ((s.popped rest).opRestore_staged m hbody (by omega) hst hrec)
    obtain ⟨h1, h2, h3, ⟨v, a, b, l, h4⟩, h5⟩ := (s.popped rest).stageRestore_spec k hclosed hk _ rfl
    generalize (s.popped rest).stageRestore = x at *
    have hd : SameDict s (s.popped rest) [] := .refl s _
    have hboot : x.1.valN Obj.atton_boot_id = s.valN Obj.atton_boot_id := h5.valN_eq (by rw [h4]) (by decide)
    have hbuild := s.attonBuild_congr x.1 (by rw [h4]; rfl) hboot
    refine ⟨_, next_of_eq heq, ?_, ?_, h2, h3, ?_, hd.trans h5⟩
    · refine congrArg some ((hbuild _ _ _ _ _ _ _).trans ?_)
      rw [h1]
      rfl
    · rw [h4]
      rfl
    · rw [h4]
      rfl
  case done =>
    intro s j hj hc hp
    have heq := storeCompleteEff_ok s j hj hc hp
    obtain ⟨h1, ⟨v, jr, h2⟩, h3⟩ := s.writeStore_spec j _ rfl
    generalize s.writeStore j = u at *
    obtain ⟨k1, k2, k3, ⟨v', l, k4⟩, k5⟩ := u.storeDone_spec j.handle _ rfl
    generalize (State.setN { u with gran := { u.gran with store := none } } Obj.store_state 2).endHandle j.handle stDone = t at *
    refine ⟨t, next_of_eq heq, ?_, k1, k2.trans h1, k3, ?_, ?_, ?_⟩
    · rw [k4]
    · rw [k4, h2]
    · rw [k4, h2]
    · exact (h3.trans k5).mono (by simp)
  case failed =>
    intro s j hj hc
    have heq := storeCompleteEff_failed s j hj hc
    obtain ⟨h1, h2, ⟨v, jr, l, h3⟩, h4⟩ := s.storeFailed_spec j _ rfl
    generalize (s.breakStore j).storeFail j.handle = u at *
    have hr := u.raise_frame 282 {}
    have hrd := u.raise_sameDict 282 {}
    have hwin : (u.raise 282).win = (s.raise 282).win := h4.raise_win (by rw [h3]) (by rw [h3]) (by rw [h3]) 282 {}
    have hst : (u.raise 282).valN Obj.store_state = 3 := (hrd.valN_eq (by rw [hr]) (by decide)).trans h1
    have hd := h4.trans hrd
    generalize u.raise 282 = t at *
    have hgran : t.gran = u.gran := by rw [hr]
    refine ⟨t, next_of_eq heq, ?_, hst, hwin, fun hcan => ?_, ?_, ?_, ?_, ?_, hd⟩
    · rw [hgran, h3]
    · rw [hwin]
      exact s.raise_shown 282 {} hcan
    · rw [hr, h3]
    · rw [hgran]
      exact h2
    · rw [hgran, h3]
    · rw [hr, h3]
  case idle => exact fun s ok h => ⟨s, next_of_eq (storeCompleteEff_idle s ok h), rfl⟩

end Sys2Proof.Machine

/-! SUPPORT. Faults raised in device reset (R509, R577). -/
namespace Sys2Proof.Machine

/-- A part in reset whose `install.state` still reads 1. -/
def resetInstalling : State := { ({} : State).setN Obj.install_state 1 with boot := { inReset := true } }

theorem resetInstalling_reset : resetInstalling.boot.inReset = true ∧ resetInstalling.instState = 1 := by decide +kernel

/-- INSTALL_FAIL ends the install before the source is looked at. -/
theorem instBad_resetInstalling : (faultRaiseEff 313 {} (resetInstalling.instBad 8)).instState = 5 := by decide +kernel

/-- Refutes O54: FAULT_RAISE of INSTALL_FAIL in a state that is in reset and in step 1 of an install ends that install, and the clause of reset says
that nothing changes. -/
theorem not_faultsRaisedAndPresented : ¬ Obligations.FaultsRaisedAndPresented := by
  unfold Obligations.FaultsRaisedAndPresented
  rintro ⟨-, -, -, -, -, -, -, -, -, -, hreset, -⟩
  obtain ⟨hr, hst⟩ := resetInstalling_reset
  obtain ⟨t, ht, hts⟩ := hreset resetInstalling 313 {} hr
  have heq : faultRaiseEff 313 {} (if (313 : Nat) = 313 ∧ resetInstalling.instState = 1 then resetInstalling.instBad 8 else resetInstalling) = t := by
    injection ht
  rw [if_pos ⟨rfl, hst⟩] at heq
  have hfive := instBad_resetInstalling
  rw [heq, hts, hst] at hfive
  exact absurd hfive (by decide)

end Sys2Proof.Machine

/-! SUPPORT. Fences that take effect, and Steward pairs (R43 to R46, R515, R519). -/
namespace Sys2Proof.Machine

theorem State.dropJobs_none (s : State) (sel : FlailJob → Bool) (h : s.net.flail.jobs = []) : s.dropJobs sel = s := by
  have hnet : ({ s with net := { s.net with flail := { s.net.flail with jobs := [] } } } : State) = s := by rw [← h]
  unfold State.dropJobs
  simp only [State.each, h, List.filter_nil, List.foldl_nil]
  exact hnet

theorem State.redoJobs_none (s : State) (sha : Bool) (old new : Nat) (h : s.net.flail.jobs = []) : s.redoJobs sha old new = s := by
  unfold State.redoJobs
  rw [h]
  rfl

theorem srcRow_thresher : ∀ x < 16, (srcRow x).unit = .thresher := by decide
theorem srcRow_aes : ∀ p < 10, (srcRow (16 + p)).unit = .aes := by decide
theorem srcRow_pair : ∀ p < 3, (srcRow (211 + p)).unit = .pair := by decide

/-- The state when handling has ended and the fence begins to take effect. -/
def State.unfencing (s : State) : State := { s with win := { s.win with fencing := [] } }

/-- The fence of one unit alone takes effect, with no block reset waiting. -/
theorem fenceCompleteEff_fence (s : State) (x : Nat) (hb : s.win.busy = false) (hf : s.win.fencing = [x]) (hr : s.win.resetting = []) :
    fenceCompleteEff x s = (s.unfencing.fenceUnit x).1 := by
  unfold fenceCompleteEff State.completeFence
  simp [hb, hf, hr, State.modWin, State.unfencing]

theorem fenceUnit_thresher (s : State) (x : Nat) (hx : x < 16) : s.fenceUnit x = s.fenceThresher x := by
  unfold State.fenceUnit
  rw [srcRow_thresher x hx]

theorem fenceUnit_aes (s : State) (p : Nat) (hp : p < 10) : s.fenceUnit (16 + p) = s.fencePipe false p := by
  unfold State.fenceUnit
  rw [srcRow_aes p hp]
  simp

theorem fenceUnit_pair (s : State) (p : Nat) (hp : p < 3) : s.fenceUnit (211 + p) = s.fencePair p := by
  unfold State.fenceUnit
  rw [srcRow_pair p hp]
  simp

/-- The fence of the Thresher of slot `k`: the slot is empty, and a spare is to take it over, or the part degrades (R519, R520). -/
theorem fenceThresher_slot (s : State) (x k : Nat) (hj : s.net.flail.jobs = [])
    (hk : (List.range 16).find? (fun k => vat s.win.thrSlots k none == some x) = some k) :
    (s.fenceThresher x).1 =
      if s.win.thrPend.length < (s.win.thrSpare.filter fun n => n != x).length then
        { s with win := { s.win with thrSpare := s.win.thrSpare.filter fun n => n != x, thrSlots := vmod s.win.thrSlots k fun _ => none, thrPend := s.win.thrPend ++ [k] } }
      else
        { s with win := { s.win with thrSpare := s.win.thrSpare.filter fun n => n != x, thrSlots := vmod s.win.thrSlots k fun _ => none, degPend := s.win.degPend ||| 2 } } := by
  unfold State.fenceThresher
  rw [State.dropJobs_none s _ hj]
  simp only [State.modWin, hk, State.degrade]
  by_cases hroom : s.win.thrPend.length < (s.win.thrSpare.filter fun n => n != x).length
  · rw [if_pos hroom]
    exact congrArg Prod.fst (if_pos hroom)
  · rw [if_neg hroom]
    exact congrArg Prod.fst (if_neg hroom)

/-- The first spare takes the place of a fenced AES pipeline (R519). -/
theorem fencePipe_aes (s : State) (p n : Nat) (rest : List Nat) (hj : s.net.flail.jobs = []) (hs : s.win.aesSpare = n :: rest)
    (hp : p ∉ s.win.aesSpare) (ha : p ∈ s.win.aesActive) :
    (s.fencePipe false p).1 =
      { s with win := { s.win with aesActive := s.win.aesActive.map fun k => if k = p then n else k, aesSpare := rest, degPend := s.win.degPend ||| 4 } } := by
  have hc : (n :: rest).contains p = false := by rw [← hs]; simpa using hp
  have ha' : s.win.aesActive.contains p = true := by simpa using ha
  unfold State.fencePipe
  simp only [Bool.false_eq_true, if_false, hs, hc, ha', Bool.not_true, State.modWin]
  rw [State.redoJobs_none _ _ _ _ (by exact hj)]
  rfl

theorem State.pair_modPair_same (s : State) (p : Nat) (f : Pair → Pair) (hp : p < 3) : (s.modPair p f).pair p = f (s.pair p) :=
  vat_vmod_same _ _ _ _ hp

theorem State.pair_modPair_other (s : State) (p k : Nat) (f : Pair → Pair) (hk : k ≠ p) : (s.modPair p f).pair k = s.pair k :=
  vat_vmod_other _ _ _ hk

/-- A pair with its fence in effect, which leaves the role of SA or SB with it. -/
def Pair.fencedNow (q : Pair) : Pair := { q with fenced := true, role := if q.role = 3 then 0 else q.role, loading := false, ret := false }

theorem Pair.fencedNow_role (q : Pair) (h : q.role ≠ 3) : q.fencedNow.role = q.role := if_neg h

theorem Pair.fencedNow_eq (q : Pair) (h : q.role ≠ 3) : q.fencedNow = { q with fenced := true, loading := false, ret := false } := by
  unfold Pair.fencedNow
  rw [if_neg h]

/-- The fence of a pair that is not the standby leaves who the standby is. -/
theorem roleAt_fencedNow (s : State) (p : Nat) (hp : p < 3) (h : (s.pair p).role ≠ 3) : (s.modPair p Pair.fencedNow).roleAt 3 = s.roleAt 3 := by
  unfold State.roleAt
  congr 1
  funext k
  by_cases hk : k = p
  · subst hk
    rw [State.pair_modPair_same s k _ hp, Pair.fencedNow_role _ h]
  · rw [State.pair_modPair_other s p k _ hk]

/-- SB's checkpoint taken up again does not look at Winnow, and leaves it and the Stewards. -/
theorem resumeChans_win (s : State) (c : SbCheck) (w : Winnow) :
    ({ s with win := w } : State).resumeChans c = { s.resumeChans c with win := w } ∧ (s.resumeChans c).stew = s.stew ∧ (s.resumeChans c).win = s.win := by
  unfold State.resumeChans State.each
  generalize (List.range 128).zip c.chStates = l
  induction l generalizing s with
  | nil => exact ⟨rfl, rfl, rfl⟩
  | cons e l ih =>
    obtain ⟨n, a, st⟩ := e
    simp only [List.foldl_cons]
    have hsame : ((a = 0 || ({ s with win := w } : State).gchAssign n != a || st < 2 || 5 < st || ({ s with win := w } : State).gchState n < 2 ||
        5 < ({ s with win := w } : State).gchState n : Bool)) =
        (a = 0 || s.gchAssign n != a || st < 2 || 5 < st || s.gchState n < 2 || 5 < s.gchState n) := rfl
    by_cases hc : ((a = 0 || s.gchAssign n != a || st < 2 || 5 < st || s.gchState n < 2 || 5 < s.gchState n : Bool)) = true
    · rw [if_pos hc, if_pos (hsame.trans hc)]
      exact ih s
    · rw [if_neg hc, if_neg (hsame ▸ hc)]
      exact ih ((s.setN Obj.gnss_ch_state st n).modGch n fun x => x.resume (vat c.chans n {}))

theorem resumeSa_win (s : State) (w : Winnow) :
    ({ s with win := w } : State).resumeSa = { s.resumeSa with win := w } ∧ s.resumeSa.stew = s.stew ∧ s.resumeSa.win = s.win := by
  unfold State.resumeSa
  exact ⟨rfl, rfl, rfl⟩

/-- The role of SB as its checkpoint has it, but for its channels. -/
def State.sbBack (s : State) : State :=
  { s with
    net := { s.net with ptp := Vector.ofFn fun i => { s.net.ptp[i] with foreign := s.stew.sb.foreign[i], grants := s.stew.sb.grants[i] } }
    gnss := { s.gnss with assigned := [], searchList := s.stew.sb.searchList } }

theorem State.resumeSb_eq (s : State) : s.resumeSb = s.sbBack.resumeChans s.stew.sb := rfl

theorem resumeSb_win (s : State) (w : Winnow) :
    ({ s with win := w } : State).resumeSb = { s.resumeSb with win := w } ∧ s.resumeSb.stew = s.stew ∧ s.resumeSb.win = s.win := by
  rw [State.resumeSb_eq s]
  exact resumeChans_win s.sbBack s.stew.sb w

/-- The role of SA or SB as its last completed checkpoint has it (R44). -/
def State.resumeRole (s : State) (r : Nat) : State := if r = 1 then s.resumeSa else s.resumeSb

theorem resumeRole_win (s : State) (r : Nat) (w : Winnow) :
    ({ s with win := w } : State).resumeRole r = { s.resumeRole r with win := w } ∧ (s.resumeRole r).stew = s.stew ∧ (s.resumeRole r).win = s.win := by
  unfold State.resumeRole
  by_cases hr : r = 1
  · rw [if_pos hr, if_pos hr]
    exact resumeSa_win s w
  · rw [if_neg hr, if_neg hr]
    exact resumeSb_win s w

/-- A role checkpointed by the pair that holds it (R43, R547). -/
theorem checkpoint_eq (s : State) (p r : Nat) (hr : s.roleAt r = some p) :
    s.checkpoint r = { s with
      tithe := (s.tally (57 + p) 4 1).tithe
      stew := { s.stew with sa := if r = 1 then s.saRole else s.stew.sa, sb := if r = 1 then s.stew.sb else s.sbRole } } := by
  unfold State.checkpoint
  rw [hr]
  simp only [State.tally_eq]
  by_cases h : r = 1
  · rw [if_pos h, if_pos h, if_pos h]
    rfl
  · rw [if_neg h, if_neg h, if_neg h]
    rfl

/-- The fence of a pair that holds SA or SB, once the role is given back (R44, R46). -/
theorem fencePair_role (s u : State) (p r : Nat) (hp : p < 3) (hrole : (s.pair p).role = r) (hr : r = 1 ∨ r = 2) (hback : s.roleBack p r = u)
    (hpairs : u.stew.pairs = s.stew.pairs) (htake : u.stew.takeover = s.stew.takeover) :
    (s.fencePair p).1 =
      if (s.roleAt 3).isSome && s.stew.takeover.isEmpty then
        { u with stew := { u.stew with pairs := vmod s.stew.pairs p Pair.fencedNow, takeover := [r] } }
      else { u with stew := { u.stew with pairs := vmod s.stew.pairs p Pair.fencedNow } }.haltRole r := by
  have hstandby : (u.modPair p Pair.fencedNow).roleAt 3 = s.roleAt 3 := by
    have hu : (u.pair p).role ≠ 3 := by
      unfold State.pair at hrole ⊢
      rw [hpairs, hrole]
      omega
    rw [roleAt_fencedNow u p hp hu]
    unfold State.roleAt State.pair
    rw [hpairs]
  unfold State.fencePair
  rw [hrole]
  simp only [if_pos hr, hback]
  rw [← hpairs, ← htake, ← hstandby]
  by_cases hc : (((u.modPair p Pair.fencedNow).roleAt 3).isSome && u.stew.takeover.isEmpty) = true
  · rw [if_pos hc]
    exact congrArg Prod.fst (if_pos hc)
  · rw [if_neg hc]
    exact congrArg Prod.fst (if_neg hc)

/-- A fenced pair returns when it has reloaded, or is dead (R45). -/
theorem pairReloadDoneEff_reloaded (s : State) (p : Nat) (ok : Bool) (hf : (s.pair p).fenced = true) (hd : (s.pair p).dead = false)
    (hn : 211 + p ∉ s.win.fencing) : pairReloadDoneEff p ok s = s.modPair p fun q => { q with ret := ok, dead := !ok } := by
  unfold pairReloadDoneEff
  simp [hf, hd, hn]

theorem haltRole_new (s : State) (r : Nat) (h : r ∉ s.stew.halted) : s.haltRole r = { s with stew := { s.stew with halted := s.stew.halted ++ [r] } } := by
  unfold State.haltRole
  simp [h]

theorem tally_unfencing (s : State) (b code k : Nat) : (s.unfencing.tally b code k).tithe = (s.tally b code k).tithe := by
  rw [State.tally_eq, State.tally_eq]
  unfold State.tallied
  rfl

/-- Settles O55: FENCE_COMPLETE by the unit of its source, and PAIR_RELOAD_DONE. -/
theorem fencesAndPairs : Obligations.FencesAndPairs := by
  unfold Obligations.FencesAndPairs
  refine ⟨?spare, ?noSpare, ?aes, ?handed, ?back, ?halted, ?busy, ?rng, ?neither, ?reloaded, ?notReloaded⟩
  case spare =>
    intro s x k hx hb hf hr hj hk hroom
    refine ⟨_, next_of_eq ((fenceCompleteEff_fence s _ hb hf hr).trans (congrArg Prod.fst (fenceUnit_thresher s.unfencing _ hx) |>.trans
      ((fenceThresher_slot s.unfencing _ _ hj hk).trans (if_pos hroom)))), ?_, fun m hm => ?_, rfl, rfl⟩
    · exact vat_vmod_same _ _ _ _ (List.mem_range.1 (List.mem_of_find?_eq_some hk))
    · exact vat_vmod_other _ _ _ hm
  case noSpare =>
    intro s x k hx hb hf hr hj hk hs
    have hroom : ¬ s.win.thrPend.length < (s.win.thrSpare.filter fun n => n != x.val).length := by simp [hs]
    refine ⟨_, next_of_eq ((fenceCompleteEff_fence s _ hb hf hr).trans (congrArg Prod.fst (fenceUnit_thresher s.unfencing _ hx) |>.trans
      ((fenceThresher_slot s.unfencing _ _ hj hk).trans (if_neg hroom)))), ?_, fun m hm => ?_, rfl, ?_, rfl⟩
    · exact vat_vmod_same _ _ _ _ (List.mem_range.1 (List.mem_of_find?_eq_some hk))
    · exact vat_vmod_other _ _ _ hm
    · simp [hs, State.unfencing]
  case aes =>
    intro s x p n rest hx hp hb hf hr hj hs hno ha
    rw [hx] at hf
    refine ⟨_, next_of_eq (hx ▸ (fenceCompleteEff_fence s _ hb hf hr).trans (congrArg Prod.fst (fenceUnit_aes s.unfencing _ hp) |>.trans
      (fencePipe_aes s.unfencing p n rest hj hs hno ha))), rfl, rfl⟩
  case handed =>
    intro s x p r hx hp hb hf hr hrole hsr hstand htake hdone hat
    rw [hx] at hf
    have hback : s.unfencing.roleBack p r = _ :=
      (if_pos hdone).trans (checkpoint_eq s.unfencing p r hat)
    have hcond : ((s.roleAt 3).isSome && s.stew.takeover.isEmpty) = true := by simp [hstand, htake]
    have hne : (s.pair p).role ≠ 3 := by omega
    refine ⟨_, next_of_eq (hx ▸ (fenceCompleteEff_fence s _ hb hf hr).trans (congrArg Prod.fst (fenceUnit_pair s.unfencing _ hp) |>.trans
      ((fencePair_role s.unfencing _ p r hp hrole hsr hback rfl rfl).trans (if_pos hcond)))), rfl, ?_, fun k hk => ?_, rfl, ?_, rfl, rfl⟩
    · exact (vat_vmod_same _ _ _ _ hp).trans (Pair.fencedNow_eq _ hne)
    · exact vat_vmod_other _ _ _ hk
    · exact tally_unfencing s (57 + p) 4 1
  case back =>
    intro s x p r hx hp hb hf hr hrole hsr hstand htake hdone
    rw [hx] at hf
    obtain ⟨hwin, hstew, -⟩ := resumeRole_win s r { s.win with fencing := [] }
    have hback : s.unfencing.roleBack p r = { s.resumeRole r with win := { s.win with fencing := [] } } :=
      (if_neg (by rw [show s.unfencing.pair p = s.pair p from rfl, hdone]; decide)).trans hwin
    have hcond : ((s.roleAt 3).isSome && s.stew.takeover.isEmpty) = true := by simp [hstand, htake]
    have hne : (s.pair p).role ≠ 3 := by omega
    refine ⟨_, next_of_eq (hx ▸ (fenceCompleteEff_fence s _ hb hf hr).trans (congrArg Prod.fst (fenceUnit_pair s.unfencing _ hp) |>.trans
      ((fencePair_role s.unfencing _ p r hp hrole hsr hback (congrArg Stewards.pairs hstew) (congrArg Stewards.takeover hstew)).trans (if_pos hcond)))), ?_, fun k hk => ?_, ?_, rfl, rfl⟩
    · exact (vat_vmod_same _ _ _ _ hp).trans (Pair.fencedNow_eq _ hne)
    · exact vat_vmod_other _ _ _ hk
    · simp only [hstew]
  case halted =>
    intro s x p r hx hp hb hf hr hrole hsr hnone hnew hdone hat
    rw [hx] at hf
    have hback : s.unfencing.roleBack p r = _ :=
      (if_pos hdone).trans (checkpoint_eq s.unfencing p r hat)
    have hcond : ¬ ((s.roleAt 3).isSome && s.stew.takeover.isEmpty) = true := by
      rcases hnone with h | h
      · simp [h]
      · simp [h]
    have heff := (fenceCompleteEff_fence s _ hb hf hr).trans ((congrArg Prod.fst (fenceUnit_pair s.unfencing _ hp)).trans
      ((fencePair_role s.unfencing _ p r hp hrole hsr hback rfl rfl).trans (if_neg hcond)))
    rw [haltRole_new _ r (by exact hnew), ← hx] at heff
    refine ⟨_, next_of_eq heff, rfl, ?_, fun k hk => ?_, rfl, rfl, rfl⟩
    · exact congrArg Pair.fenced (vat_vmod_same s.stew.pairs p Pair.fencedNow {} hp)
    · exact vat_vmod_other _ _ _ hk
  case busy =>
    intro s x hb
    exact ⟨s, next_of_eq (if_pos hb), rfl⟩
  case rng =>
    intro s x hb hf hr hrng
    refine ⟨{ s with win := { s.win with resetting := [] } }, next_of_eq ?_, rfl, rfl⟩
    unfold fenceCompleteEff State.completeFence State.blockReset
    simp [hb, hf, hr, hrng, State.modWin]
  case neither =>
    intro s x hf hr
    refine ⟨s, next_of_eq ?_, rfl⟩
    unfold fenceCompleteEff State.completeFence
    simp [hf, hr]
  case reloaded =>
    intro s p ok hf hd hn
    refine ⟨_, next_of_eq (pairReloadDoneEff_reloaded s p.val ok hf hd hn), ?_, fun k hk => ?_, rfl, rfl⟩
    · exact State.pair_modPair_same s p.val _ p.isLt
    · exact State.pair_modPair_other s p.val k _ hk
  case notReloaded =>
    intro s p ok h
    refine ⟨s, next_of_eq ?_, rfl⟩
    unfold pairReloadDoneEff
    rcases h with h | h | h
    · simp [h]
    · simp [h]
    · simp [h]

end Sys2Proof.Machine

/-! SUPPORT. The matrix: pieces, answers and errors (R535 to R545). -/
namespace Sys2Proof.Machine

/-! ### A raise after values, the matrix and Tithe have changed -/

/-- A raise of a source in a state that differs in values only is, in the Winnow, the raise in the first state. -/
theorem SameDict.raise_after {s u : State} {ks : List Nat} (h : SameDict s u ks) (hd : u.dev = s.dev) (hw : u.win = s.win)
    (hb : u.tc.boundaries = s.tc.boundaries) (n : Nat) (i : FaultInfo) :
    RaisedAs s (u.raise n i) n i ∧
      (CanRaise s n → (u.raise n i).win.now = s.win.now ++ [(n, i)] ∧ (vat (u.raise n i).win.srcs n {}).active = true) ∧
      SameDict s (u.raise n i) (ks ++ raiseKeys n) := by
  have hwin := h.raise_win hd hw hb n i
  refine ⟨hwin, fun hc => ?_, h.trans (u.raise_sameDict n i)⟩
  rw [hwin]
  exact s.raise_shown n i hc

theorem State.raise_mtx (s : State) (n : Nat) (i : FaultInfo) : (s.raise n i).mtx = s.mtx := by rw [s.raise_frame n i]
theorem State.raise_tithe (s : State) (n : Nat) (i : FaultInfo) : (s.raise n i).tithe = s.tithe := by rw [s.raise_frame n i]
theorem State.raise_elec (s : State) (n : Nat) (i : FaultInfo) : (s.raise n i).elec = s.elec := by rw [s.raise_frame n i]
theorem State.raise_dev (s : State) (n : Nat) (i : FaultInfo) : (s.raise n i).dev = s.dev := by rw [s.raise_frame n i]

theorem State.raise_rest (s : State) (n : Nat) (i : FaultInfo) : s.raise n i = { s with win := (s.raise n i).win, dict := (s.raise n i).dict } := by
  have h := (s.raise_sameDict n i).dict_eq
  have hf := s.raise_frame n i
  generalize s.raise n i = t at *
  rw [h]
  exact hf

/-- The counters of the matrix stand above the values that a raise writes. -/
theorem mtxKey_raise {k : Nat} (hk : 0x900000 ≤ k) (n : Nat) (hn : n < 320) : k ∉ raiseKeys n := by
  have h1 : srcKey n < 0x900000 := by
    simp only [srcKey, Row.key, Obj.win_src_state]
    omega
  have h2 : Obj.win_lost.key 0 0 < 0x900000 := by decide
  have h3 : Obj.win_status.key 0 0 < 0x900000 := by decide
  simp only [raiseKeys, List.mem_cons, List.not_mem_nil, or_false, not_or]
  omega

theorem State.count_mtx_keeps_raise (s : State) (n : Nat) (hn : n < 320) (i : FaultInfo) (r : Row) (hr : 0x900000 ≤ r.key 0 0) :
    (s.raise n i).valN r = s.valN r :=
  (s.raise_sameDict n i).valN_eq (s.raise_dev n i) (mtxKey_raise hr n hn)

/-! ### Requests (R535, R538) -/

/-- Pieces of a request, numbered on in address order. -/
theorem each_pieces (g : Nat → Nat × Nat → Piece) (l : List (Nat × Nat)) (s : State) (n k : Nat) (hid : s.mtx.nextId = n + k) :
    (s.each l fun s p => s.modMtx fun x => { x with pieces := x.pieces ++ [g s.mtx.nextId p], nextId := x.nextId + 1 }) =
      { s with mtx := { s.mtx with nextId := n + k + l.length, pieces := s.mtx.pieces ++ (l.zipIdx k).map fun e => g (n + e.2) e.1 } } := by
  induction l generalizing s k with
  | nil =>
    have h : ({ s with mtx := { s.mtx with nextId := n + k, pieces := s.mtx.pieces ++ [] } } : State) = s := by rw [← hid, List.append_nil]
    exact h.symm
  | cons p l ih =>
    have hstep := ih (s.modMtx fun x => { x with pieces := x.pieces ++ [g s.mtx.nextId p], nextId := x.nextId + 1 }) (k + 1) (by
      show s.mtx.nextId + 1 = _
      omega)
    refine hstep.trans ?_
    rw [List.zipIdx_cons, List.map_cons, List.length_cons, show n + (k + 1) + l.length = n + k + (l.length + 1) by omega]
    simp only [State.modMtx, hid, List.append_assoc, List.singleton_append]

/-- A request that MATRIX_REQUEST takes (R538). -/
def State.takesRequest (s : State) (r : MatrixIn) : Prop :=
  s.boot.inReset = false ∧ (r.master.val = 9 → s.elec.jtag = true) ∧ 1 ≤ r.len ∧ r.len ≤ 2048 ∧ (r.kind.val = 1 → r.data.length = r.len)

theorem matrixRequestEff_not {s : State} {r : MatrixIn} (h : ¬ s.takesRequest r) : matrixRequestEff r s = s := by
  unfold matrixRequestEff
  refine if_pos (Classical.byContradiction fun hc => h ?_)
  simp only [Bool.or_eq_true, Bool.and_eq_true, beq_iff_eq, Bool.not_eq_true', bne_iff_ne, decide_eq_true_eq, not_or, not_and, not_not] at hc
  obtain ⟨⟨⟨⟨hin, hj⟩, h0⟩, hl⟩, hdat⟩ := hc
  exact ⟨by simpa using hin, fun h9 => by simpa using hj h9, by omega, by omega, hdat⟩

theorem matrixRequestEff_takes {s : State} {r : MatrixIn} (h : s.takesRequest r) :
    matrixRequestEff r s =
      match s.decodeAddr r.master.val r.kind.val r.addr r.len with
      | none => (s.modMtx fun x => { x with nextReq := s.mtx.nextReq + 1 }).refuseRequest r.master.val r.kind.val r.addr r.len s.mtx.nextReq
      | some t =>
        (s.modMtx fun x => { x with nextReq := s.mtx.nextReq + 1 }).each (splitLines 9 r.addr r.len) fun s' p => s'.modMtx fun x =>
          { x with
            pieces := x.pieces ++ [{ id := s'.mtx.nextId, req := s.mtx.nextReq, master := r.master.val, target := t, addr := p.1, len := p.2, kind := r.kind.val, data := slice r.data (p.1 - r.addr) p.2 }]
            nextId := x.nextId + 1 } := by
  obtain ⟨hin, hj, h1, h2, hdat⟩ := h
  unfold matrixRequestEff
  refine if_neg fun hc => ?_
  simp only [Bool.or_eq_true, Bool.and_eq_true, beq_iff_eq, Bool.not_eq_true', bne_iff_ne, decide_eq_true_eq] at hc
  rcases hc with (((hc | ⟨h9, hc⟩) | hc) | hc) | ⟨hk, hc⟩
  · simp [hin] at hc
  · simp [hj h9] at hc
  · omega
  · omega
  · exact hc (hdat hk)

/-- A request whose range a window decodes becomes pieces for its target (R538). -/
theorem matrixRequestEff_decoded (s : State) (r : MatrixIn) (g : Nat) (h : s.takesRequest r) (hdec : s.decodeAddr r.master.val r.kind.val r.addr r.len = some g) :
    matrixRequestEff r s = { s with mtx := { s.mtx with
      nextReq := s.mtx.nextReq + 1
      nextId := s.mtx.nextId + (splitLines 9 r.addr r.len).length
      pieces := s.mtx.pieces ++ (splitLines 9 r.addr r.len).zipIdx.map fun e =>
        { id := s.mtx.nextId + e.2, req := s.mtx.nextReq, master := r.master.val, target := g, addr := e.1.1, len := e.1.2, kind := r.kind.val, data := slice r.data (e.1.1 - r.addr) e.1.2 } } } := by
  rw [matrixRequestEff_takes h, hdec]
  refine (each_pieces (fun id p => { id := id, req := s.mtx.nextReq, master := r.master.val, target := g, addr := p.1, len := p.2, kind := r.kind.val, data := slice r.data (p.1 - r.addr) p.2 })
    (splitLines 9 r.addr r.len) (s.modMtx fun x => { x with nextReq := s.mtx.nextReq + 1 }) s.mtx.nextId 0 rfl).trans ?_
  rfl

/-- A range within one line is one piece. -/
theorem splitLines_one (addr len : Nat) (h1 : 1 ≤ len) (h : addr % 256 + len ≤ 256) : splitLines 9 addr len = [(addr, len)] := by
  have hk : min len (256 - addr % 256) = len := by omega
  simp only [splitLines, hk, if_neg (show ¬ len = 0 by omega), Nat.sub_self, if_true]

/-- A refused request: counted, answered with an error, and raised (R535, R544). -/
theorem refuseRequest_spec (s : State) (m kind addr len req : Nat) (t : State) (ht : s.refuseRequest m kind addr len req = t) :
    t.valN Obj.mtx_decode_errors = min (s.valN Obj.mtx_decode_errors + 1) (2 ^ 64 - 1) ∧
      t.valN Obj.mtx_error_responses = min (s.valN Obj.mtx_error_responses + 1) (2 ^ 64 - 1) ∧
      t.mtx = { s.mtx with delivered := s.mtx.delivered ++ [{ req := req, master := m, error := true, data := if kind = 1 then [] else zeros len }] } ∧
      RaisedAs s t 283 { access := kind + 1, master := m, addr := addr } ∧
      (CanRaise s 283 → t.win.now = s.win.now ++ [(283, ({ access := kind + 1, master := m, addr := addr } : FaultInfo))] ∧ (vat t.win.srcs 283 {}).active = true) ∧
      t = { s with mtx := t.mtx, win := t.win, dict := t.dict } ∧
      SameDict s t ([Obj.mtx_decode_errors.key 0 0, Obj.mtx_error_responses.key 0 0] ++ raiseKeys 283) := by
  have hk : Obj.mtx_decode_errors.key 0 0 ≠ Obj.mtx_error_responses.key 0 0 := by decide
  have hv1 := s.count_u64 Obj.mtx_decode_errors 0 0 1 rfl
  have hv2 := (s.count Obj.mtx_decode_errors).count_u64 Obj.mtx_error_responses 0 0 1 rfl
  rw [s.count_keeps (r := Obj.mtx_decode_errors) 1 hk.symm] at hv2
  rw [← (s.count Obj.mtx_decode_errors).count_keeps (r := Obj.mtx_error_responses) 1 hk] at hv1
  have hd : SameDict s ((s.count Obj.mtx_decode_errors).count Obj.mtx_error_responses) [Obj.mtx_decode_errors.key 0 0, Obj.mtx_error_responses.key 0 0] :=
    ((SameDict.refl s _).count (by simp) 1).count (by simp) 1
  have hf : ∃ v, (s.count Obj.mtx_decode_errors).count Obj.mtx_error_responses = { s with dict := { s.dict with val := v } } := ⟨_, rfl⟩
  unfold State.refuseRequest at ht
  generalize (s.count Obj.mtx_decode_errors).count Obj.mtx_error_responses = u at *
  obtain ⟨v, rfl⟩ := hf
  subst ht
  dsimp only
  generalize hu : State.modMtx _ _ = w
  have hw : w = { s with dict := { s.dict with val := v }, mtx := w.mtx } := by rw [← hu]; rfl
  have hm : w.mtx = { s.mtx with delivered := s.mtx.delivered ++ [{ req := req, master := m, error := true, data := if kind = 1 then [] else zeros len }] } := by
    rw [← hu]; rfl
  have hdw : SameDict s w [Obj.mtx_decode_errors.key 0 0, Obj.mtx_error_responses.key 0 0] := by rw [hw]; exact hd
  obtain ⟨hr1, hr2, hr3⟩ := hdw.raise_after (by rw [hw]) (by rw [hw]) (by rw [hw]) 283 { access := kind + 1, master := m, addr := addr }
  refine ⟨?_, ?_, (State.raise_mtx _ _ _).trans hm, hr1, hr2, ?_, hr3⟩
  · rw [State.count_mtx_keeps_raise w 283 (by decide) _ Obj.mtx_decode_errors (by decide), hw]
    exact hv1
  · rw [State.count_mtx_keeps_raise w 283 (by decide) _ Obj.mtx_error_responses (by decide), hw]
    exact hv2
  · rw [State.raise_mtx]
    refine (State.raise_rest w 283 _).trans ?_
    generalize (w.raise 283 _).win = a
    generalize (w.raise 283 _).dict = b
    rw [hw]

end Sys2Proof.Machine

/-! SUPPORT. Grants and answers of the matrix (R540 to R545). -/
namespace Sys2Proof.Machine

/-- The matrix when its only piece has been answered and its response delivered (R543). -/
def State.answered (s : State) (p : Piece) (err : Bool) (d : Bytes) : Matrix :=
  { s.mtx with pieces := [], delivered := s.mtx.delivered ++ [{ req := p.req, master := p.master, error := err, data := d }] }

/-- An answered piece that is alone is delivered. -/
theorem deliver_single (s : State) (q : Piece) (err : Bool) (d : Bytes) (hs : s.mtx.pieces = [q]) (hq : q.done = some (err, d)) :
    State.deliver s.mtx.pieces.length q.req s = { s with mtx := s.answered q err d } := by
  simp only [hs, List.length_singleton, State.deliver, List.find?, beq_self_eq_true, hq, State.modMtx, List.filter, bne_self_eq_false, State.answered]

/-- A piece marked as answered (R543). -/
def State.withAnswer (s : State) (p : Piece) (err : Bool) (d : Bytes) : State :=
  s.modMtx fun x => { x with pieces := x.pieces.map fun q => if q.id == p.id then { q with done := some (err, d) } else q }

/-- The piece `p` alone answered, in the state after the answer was counted. -/
theorem deliver_withAnswer (s u : State) (p : Piece) (err : Bool) (d : Bytes) (hu : u.mtx = s.mtx) (hp : s.mtx.pieces = [p]) :
    State.deliver (u.withAnswer p err d).mtx.pieces.length p.req (u.withAnswer p err d) = { u with mtx := s.answered p err d } := by
  have hv : (u.withAnswer p err d).mtx.pieces = [{ p with done := some (err, d) }] := by
    simp only [State.withAnswer, State.modMtx, hu, hp, List.map_cons, List.map_nil, beq_self_eq_true, if_true]
  refine (deliver_single _ _ err d hv rfl).trans ?_
  simp only [State.answered, State.withAnswer, State.modMtx, hu]

theorem finishPiece_ok (s : State) (p : Piece) (d : Bytes) (hp : s.mtx.pieces = [p]) :
    s.finishPiece p.id false d = { s with
      tithe := (s.tally (35 + p.target) 2 p.beats).tithe
      mtx := s.answered p false (if p.kind = 1 then [] else padTo p.len (d.take p.len)) } := by
  have hfind : s.mtx.pieces.find? (fun q => q.id == p.id) = some p := by simp [hp]
  unfold State.finishPiece
  rw [hfind]
  simp only [Bool.not_false, if_true, Bool.false_eq_true, if_false]
  rw [State.tally_eq]
  exact deliver_withAnswer s _ p false _ rfl hp

/-- An error response counted (R546, R554). -/
def State.erred (s : State) (p : Piece) : State := (s.tally (35 + p.target) 7 1).count Obj.mtx_error_responses

theorem erred_spec (s : State) (p : Piece) :
    (∃ v, s.erred p = { s with dict := { s.dict with val := v }, tithe := (s.tally (35 + p.target) 7 1).tithe }) ∧
      (s.erred p).valN Obj.mtx_error_responses = min (s.valN Obj.mtx_error_responses + 1) (2 ^ 64 - 1) ∧
      SameDict s (s.erred p) [Obj.mtx_error_responses.key 0 0] := by
  have hv := (s.tally (35 + p.target) 7 1).count_u64 Obj.mtx_error_responses 0 0 1 rfl
  have hd := (SameDict.refl (s.tally (35 + p.target) 7 1) [Obj.mtx_error_responses.key 0 0]).count (r := Obj.mtx_error_responses) (i := 0) (j := 0) (by simp) 1
  unfold State.erred
  rw [State.tally_eq] at hv hd ⊢
  exact ⟨⟨_, rfl⟩, hv, hd⟩

/-- A granted piece that is alone, answered with an error (R544). -/
theorem finishPiece_error (s : State) (p : Piece) (hp : s.mtx.pieces = [p]) (hg : p.granted = true) (t : State) (ht : s.finishPiece p.id true [] = t) :
    (∃ v, t = { s with
      dict := { s.dict with val := v }
      tithe := (s.tally (35 + p.target) 7 1).tithe
      mtx := s.answered p true (if p.kind = 1 then [] else zeros p.len) }) ∧
      t.valN Obj.mtx_error_responses = min (s.valN Obj.mtx_error_responses + 1) (2 ^ 64 - 1) ∧
      SameDict s t [Obj.mtx_error_responses.key 0 0] := by
  have hfind : s.mtx.pieces.find? (fun q => q.id == p.id) = some p := by simp [hp]
  unfold State.finishPiece at ht
  rw [hfind] at ht
  simp only [Bool.not_true, Bool.false_eq_true, if_false, if_true, hg] at ht
  obtain ⟨⟨v, hu⟩, hv, hd⟩ := erred_spec s p
  have ht' := (deliver_withAnswer s (s.erred p) p true (if p.kind = 1 then [] else zeros p.len) (by rw [hu]) hp).symm.trans ht
  generalize s.erred p = u at *
  subst hu
  subst ht'
  exact ⟨⟨v, rfl⟩, hv, hd⟩

/-- A granted piece that is alone, answered with an error that raises a source (R544). -/
theorem finishPiece_error_raise (s : State) (p : Piece) (hp : s.mtx.pieces = [p]) (hg : p.granted = true) (n : Nat) (hn : n < 320) (i : FaultInfo)
    (t : State) (ht : (s.finishPiece p.id true []).raise n i = t) :
    t.valN Obj.mtx_error_responses = min (s.valN Obj.mtx_error_responses + 1) (2 ^ 64 - 1) ∧
      t.mtx = s.answered p true (if p.kind = 1 then [] else zeros p.len) ∧
      t.tithe = (s.tally (35 + p.target) 7 1).tithe ∧
      RaisedAs s t n i ∧
      (CanRaise s n → t.win.now = s.win.now ++ [(n, i)] ∧ (vat t.win.srcs n {}).active = true) ∧
      t = { s with mtx := t.mtx, win := t.win, dict := t.dict, tithe := t.tithe } ∧
      SameDict s t ([Obj.mtx_error_responses.key 0 0] ++ raiseKeys n) := by
  obtain ⟨⟨v, hu⟩, hv, hd⟩ := finishPiece_error s p hp hg _ rfl
  generalize s.finishPiece p.id true [] = u at *
  obtain ⟨hr1, hr2, hr3⟩ := hd.raise_after (by rw [hu]) (by rw [hu]) (by rw [hu]) n i
  subst ht
  refine ⟨?_, ?_, ?_, hr1, hr2, ?_, hr3⟩
  · rw [State.count_mtx_keeps_raise u n hn _ Obj.mtx_error_responses (by decide)]
    exact hv
  · rw [State.raise_mtx, hu]
  · rw [State.raise_tithe, hu]
  · rw [State.raise_mtx, State.raise_tithe]
    refine (State.raise_rest u n i).trans ?_
    generalize (u.raise n i).win = a
    generalize (u.raise n i).dict = b
    rw [hu]

/-- A raise that a bank which is not lost can take on the present cycle (R522). -/
theorem State.raise_taken_bank (s : State) (b : Nat) (i : FaultInfo) (hb : b < 68) (hl : b ∉ s.win.bankLost) (h1 : s.win.busy = false)
    (h2 : s.win.heartLost = false) (h3 : (s.win.now.any fun h => h.1 == 32 + b) = false) :
    Raised s (s.raise (32 + b) i) (32 + b) i ∧ SameDict s (s.raise (32 + b) i) [srcKey (32 + b)] := by
  have e : s.raise (32 + b) i = { s.markRaised (32 + b) with win := { (s.markRaised (32 + b)).win with now := (s.markRaised (32 + b)).win.now ++ [(32 + b, i)] } } := by
    have hm : b % 68 = b := Nat.mod_eq_of_lt hb
    unfold State.raise
    simp [hm, hl, h1, h2, h3]
  obtain ⟨-, -, ha, ho, -, hd⟩ := s.markRaised_spec (32 + b)
  rw [e]
  exact ⟨⟨rfl, rfl, ha (by omega), ho⟩, hd⟩

theorem findSome?_of_find? {α β : Type} (f : α → Option β) (l : List α) (a : α) (h : l.find? (fun x => (f x).isSome) = some a) :
    l.findSome? f = f a := by
  induction l with
  | nil => simp at h
  | cons x l ih =>
    rw [List.find?_cons] at h
    cases hx : f x with
    | none =>
      rw [List.findSome?_cons, hx]
      exact ih (by simpa [hx] using h)
    | some y =>
      have hxa : x = a := by simpa [hx] using h
      rw [List.findSome?_cons, ← hxa, hx]

/-- A grant (R540): the piece is granted on this cycle, the grants of the target and the events count, and the peak of its master follows. -/
theorem matrixGrantEff_grant (s : State) (g m : Nat) (p : Piece)
    (hm : ((s.effB Obj.mtx_priority g).map fun b => b.toNat).find? (fun m => (s.eligiblePiece g m).isSome) = some m)
    (hp : s.eligiblePiece g m = some p) (hn : s.grantsNow g < 2) (ps : List Piece)
    (hps : ps = s.mtx.pieces.map fun q => if q.id = p.id then { q with granted := true, grantAt := s.tc.cyc } else q) :
    matrixGrantEff g s = { s with
      mtx := { s.mtx with
        pieces := ps
        peak := vmod s.mtx.peak p.master fun k => max k (ps.filter fun q => q.granted && q.master == p.master).length
        grants := vmod s.mtx.grants g fun _ => (s.tc.cyc, s.grantsNow g + 1) }
      tithe := ((s.tally (35 + g) 1 1).tally (35 + g) (0x100 + p.master) 1).tithe } := by
  have hps' : ps = s.mtx.pieces.map fun q => if q.id == p.id then { q with granted := true, grantAt := s.tc.cyc } else q := by simp [hps]
  unfold matrixGrantEff
  dsimp only
  rw [findSome?_of_find? _ _ m hm, hp]
  dsimp only
  rw [if_neg (by omega)]
  simp only [State.tally_eq]
  rw [hps']
  rfl

/-- A target with nothing eligible, or with its grants of the cycle made, grants nothing. -/
theorem matrixGrantEff_idle (s : State) (g : Nat) (h : s.mtx.pieces = [] ∨ 2 ≤ s.grantsNow g) : matrixGrantEff g s = s := by
  unfold matrixGrantEff
  dsimp only
  cases hf : ((s.effB Obj.mtx_priority g).map fun b => b.toNat).findSome? fun m => s.eligiblePiece g m with
  | none => rfl
  | some p =>
    rcases h with h | h
    · obtain ⟨m, -, hm⟩ := List.exists_of_findSome?_eq_some hf
      simp [State.eligiblePiece, h] at hm
    · exact if_pos h

/-- MATRIX_RESPONSE for the only piece, granted and not answered (R543 to R545). -/
theorem matrixResponseEff_single (s : State) (p : Piece) (x : RespIn) (hp : s.mtx.pieces = [p]) (hg : p.granted = true) (hd : p.done = none)
    (hx : x.piece = p.id) :
    matrixResponseEff x s =
      if p.target < 4 then s.sramAnswer p x.uncorrectable
      else if (decide (4 ≤ p.target) && decide (p.target ≤ 6)) && x.busError then
        (s.finishPiece p.id true []).raise (281 + p.target) { access := p.kind + 1, master := p.master, addr := p.addr }
      else if p.target = 7 && p.kind == 1 then s.finishPiece p.id true []
      else
        match s.timeBlockRead p with
        | some (t, d) => t.finishPiece p.id false d
        | none => s.finishPiece p.id false x.data := by
  have hfind : s.mtx.pieces.find? (fun q => q.id == x.piece && q.granted && q.done.isNone) = some p := by simp [hp, hg, hd, hx]
  have hbehind : (s.mtx.pieces.any fun q => decide (q.id < p.id) && q.master == p.master && q.target == p.target && q.granted && q.done.isNone) = false := by
    simp [hp]
  unfold matrixResponseEff
  rw [hfind]
  exact if_neg (by rw [hbehind, Bool.and_false]; decide)

/-- A bank that is lost answers with an error (R522). -/
theorem sramAnswer_lost (s : State) (p : Piece) (bad : Bool) (h : p.addr / 0x80000 ∈ s.win.bankLost) :
    s.sramAnswer p bad = s.finishPiece p.id true [] := by
  unfold State.sramAnswer State.bankAt
  exact if_pos (by simpa using h)

/-- A write to the SRAM (R543). -/
theorem sramAnswer_write (s : State) (p : Piece) (bad : Bool) (h : p.addr / 0x80000 ∉ s.win.bankLost) (hk : p.kind = 1) :
    s.sramAnswer p bad =
      ((s.modMtx fun x => { x with sram := Memory.writeAll p.addr p.data x.sram }).tally (31 + p.target) 2 p.beats).finishPiece p.id false [] := by
  unfold State.sramAnswer State.bankAt
  refine (if_neg (by simpa using h)).trans ?_
  exact if_pos hk

/-- A read of the SRAM, where no word of the piece is poisoned. -/
theorem sramAnswer_read (s : State) (p : Piece) (h : p.addr / 0x80000 ∉ s.win.bankLost) (hk : p.kind ≠ 1) (hn : s.mtx.poisoned = []) :
    s.sramAnswer p false = (s.tally (31 + p.target) 1 p.beats).finishPiece p.id false (Memory.readAll s.mtx.sram p.addr p.len) := by
  unfold State.sramAnswer State.bankAt
  refine (if_neg (by simpa using h)).trans ((if_neg hk).trans ?_)
  simp [hn]

/-- A read of the SRAM whose word fails ECC, in a bank that no spare serves (R521). -/
theorem sramAnswer_bad (s : State) (p : Piece) (b : Nat) (hb : p.addr / 0x80000 = b) (h : p.addr / 0x80000 ∉ s.win.bankLost) (hk : p.kind ≠ 1)
    (hn : s.mtx.poisoned = []) (hm : (s.win.bankMap.find? fun e => e.1 == b) = none) :
    s.sramAnswer p true =
      ((s.modMtx fun x => { x with poisoned := [(b, p.addr / 32)] }).finishPiece p.id true []).raise (32 + b)
        { access := p.kind + 1, master := p.master, addr := p.addr } := by
  subst hb
  unfold State.sramAnswer State.bankAt
  refine (if_neg (by simpa using h)).trans ((if_neg hk).trans ?_)
  simp [hn, hm, State.modMtx]

/-- Only PB1 holds the block of the time core (R95, R534). -/
theorem timeBlockRead_other (s : State) (p : Piece) (h : p.target ≠ 5) : s.timeBlockRead p = none := by
  unfold State.timeBlockRead
  exact if_neg fun hc => h hc.1

/-- MATRIX_TIMEOUT of the only piece, granted and not answered (R544). -/
theorem matrixTimeoutEff_single (s : State) (p : Piece) (hp : s.mtx.pieces = [p]) (hg : p.granted = true) (hd : p.done = none)
    (ht : s.passed p.grantAt 10000 = true) :
    matrixTimeoutEff p.id s = (((s.finishPiece p.id true []).count Obj.mtx_timeouts).tally (35 + p.target) 6 1).raise 284
      { access := p.kind + 1, master := p.master, addr := p.addr } := by
  have hfind : s.mtx.pieces.find? (fun q => q.id == p.id && q.granted && q.done.isNone) = some p := by simp [hp, hg, hd]
  unfold matrixTimeoutEff
  rw [hfind]
  exact if_pos ht

theorem matrixTimeoutEff_early (s : State) (p : Piece) (hp : s.mtx.pieces = [p]) (ht : s.passed p.grantAt 10000 = false) : matrixTimeoutEff p.id s = s := by
  unfold matrixTimeoutEff
  cases hf : s.mtx.pieces.find? fun q => q.id == p.id && q.granted && q.done.isNone with
  | none => rfl
  | some q =>
    have hq : q = p := by simpa [hp] using List.mem_of_find?_eq_some hf
    rw [hq]
    exact if_neg (by simp [ht])

end Sys2Proof.Machine

/-! SUPPORT. The obligation about the matrix. -/
namespace Sys2Proof.Machine

/-- What the SRAM reads after a string has been written. -/
theorem Memory.read_writeAll (b : Bytes) (a : Nat) (m : List Host.Cell) (h : Memory.wf m = true) (k : Nat) :
    Memory.read (Memory.writeAll a b m) k = if a ≤ k ∧ k < a + b.length then b.getD (k - a) 0 else Memory.read m k := by
  by_cases hk : a ≤ k ∧ k < a + b.length
  · rw [if_pos hk]
    obtain ⟨h1, h2⟩ := hk
    induction b generalizing a m with
    | nil =>
      simp only [List.length_nil] at h2
      omega
    | cons x t ih =>
      simp only [List.length_cons] at h2
      simp only [Memory.writeAll]
      by_cases hka : k = a
      · subst hka
        rw [Memory.read_writeAll_other t (k + 1) _ (Memory.wf_write _ _ _ h) k (by omega), Memory.read_write m k x h, if_pos rfl, Nat.sub_self,
          List.getD_cons_zero]
      · rw [ih (a + 1) (Memory.write a x m) (Memory.wf_write _ _ _ h) (by omega) (by omega), show k - a = (k - (a + 1)) + 1 by omega, List.getD_cons_succ]
  · rw [if_neg hk]
    exact Memory.read_writeAll_other b a m h k (by omega)

theorem readAll_padTo (m : List Host.Cell) (a len : Nat) : padTo len ((Memory.readAll m a len).take len) = Memory.readAll m a len := by
  have hl : (Memory.readAll m a len).length = len := by simp [Memory.readAll]
  rw [List.take_of_length_le (by omega)]
  unfold padTo
  simp [hl, zeros]

/-- MATRIX_TIMEOUT, whole (R544). -/
theorem matrixTimeout_spec (s : State) (p : Piece) (hp : s.mtx.pieces = [p]) (hg : p.granted = true) (i : FaultInfo) (t : State)
    (ht : (((s.finishPiece p.id true []).count Obj.mtx_timeouts).tally (35 + p.target) 6 1).raise 284 i = t) :
    t.valN Obj.mtx_error_responses = min (s.valN Obj.mtx_error_responses + 1) (2 ^ 64 - 1) ∧
      t.valN Obj.mtx_timeouts = min (s.valN Obj.mtx_timeouts + 1) (2 ^ 64 - 1) ∧
      t.mtx = s.answered p true (if p.kind = 1 then [] else zeros p.len) ∧
      t.tithe = ((s.tally (35 + p.target) 7 1).tally (35 + p.target) 6 1).tithe ∧
      RaisedAs s t 284 i ∧
      (CanRaise s 284 → t.win.now = s.win.now ++ [(284, i)] ∧ (vat t.win.srcs 284 {}).active = true) ∧
      t = { s with mtx := t.mtx, win := t.win, dict := t.dict, tithe := t.tithe } ∧
      SameDict s t ([Obj.mtx_error_responses.key 0 0, Obj.mtx_timeouts.key 0 0] ++ raiseKeys 284) := by
  obtain ⟨⟨v, hu⟩, hv, hd⟩ := finishPiece_error s p hp hg _ rfl
  generalize s.finishPiece p.id true [] = u at *
  have hk : Obj.mtx_error_responses.key 0 0 ≠ Obj.mtx_timeouts.key 0 0 := by decide
  have hv2 := u.count_u64 Obj.mtx_timeouts 0 0 1 rfl
  rw [hd.valN_eq (by rw [hu]) (r := Obj.mtx_timeouts) (by decide)] at hv2
  have hv1 := (u.count_keeps (r := Obj.mtx_timeouts) 1 hk).trans hv
  have hd2 := SameDict.trans hd ((SameDict.refl u [Obj.mtx_timeouts.key 0 0]).count (r := Obj.mtx_timeouts) (i := 0) (j := 0) (by simp) 1)
  have hf : ∃ v', u.count Obj.mtx_timeouts = { s with
      dict := { s.dict with val := v' }
      tithe := (s.tally (35 + p.target) 7 1).tithe
      mtx := s.answered p true (if p.kind = 1 then [] else zeros p.len) } := by
    rw [hu]
    exact ⟨_, rfl⟩
  generalize u.count Obj.mtx_timeouts = w at *
  obtain ⟨v', hw⟩ := hf
  rw [State.tally_eq] at ht
  have hti : w.tallied (35 + p.target) 6 1 = ((s.tally (35 + p.target) 7 1).tally (35 + p.target) 6 1).tithe := by
    rw [State.tally_eq (s.tally _ _ _), State.tally_eq s, hw, State.tally_eq s]
    rfl
  rw [hti] at ht
  generalize hy : ({ w with tithe := ((s.tally (35 + p.target) 7 1).tally (35 + p.target) 6 1).tithe } : State) = y at ht
  have hyd : SameDict s y [Obj.mtx_error_responses.key 0 0, Obj.mtx_timeouts.key 0 0] := by rw [← hy]; exact hd2
  have hyv1 : y.valN Obj.mtx_error_responses = w.valN Obj.mtx_error_responses := by rw [← hy]; rfl
  have hyv2 : y.valN Obj.mtx_timeouts = w.valN Obj.mtx_timeouts := by rw [← hy]; rfl
  rw [hw] at hy
  obtain ⟨hr1, hr2, hr3⟩ := hyd.raise_after (by rw [← hy]) (by rw [← hy]) (by rw [← hy]) 284 i
  subst ht
  refine ⟨?_, ?_, ?_, ?_, hr1, hr2, ?_, hr3⟩
  · rw [State.count_mtx_keeps_raise y 284 (by decide) _ Obj.mtx_error_responses (by decide), hyv1]
    exact hv1
  · rw [State.count_mtx_keeps_raise y 284 (by decide) _ Obj.mtx_timeouts (by decide), hyv2]
    exact hv2
  · rw [State.raise_mtx, ← hy]
  · rw [State.raise_tithe, ← hy]
  · rw [State.raise_mtx, State.raise_tithe]
    refine (State.raise_rest y 284 i).trans ?_
    generalize (y.raise 284 i).win = a
    generalize (y.raise 284 i).dict = b
    rw [← hy]

/-- Settles O56: MATRIX_REQUEST, MATRIX_GRANT, MATRIX_RESPONSE, MATRIX_TIMEOUT and JTAG_ACCESS. -/
theorem matrixRequestsAndResponses : Obligations.MatrixRequestsAndResponses := by
  unfold Obligations.MatrixRequestsAndResponses
  refine ⟨?one, ?split, ?undecoded, ?refused, ?grant, ?noGrant, ?sramRead, ?sramWrite, ?sramBad, ?busError, ?bridge, ?rom, ?lost, ?noPiece,
    ?timeout, ?early, ?jtag, ?jtagReset, ?jtagOn⟩
  case one =>
    intro s r g hin hj h1 h2 hdat hdec hline
    have h := matrixRequestEff_decoded s r g ⟨hin, hj, h1, h2, hdat⟩ hdec
    rw [splitLines_one _ _ h1 hline] at h
    refine ⟨_, next_of_eq h, ?_, rfl⟩
    simp [slice]
  case split =>
    intro s r g hin hj h1 h2 hdat hdec
    exact ⟨_, next_of_eq (matrixRequestEff_decoded s r g ⟨hin, hj, h1, h2, hdat⟩ hdec), rfl, rfl⟩
  case undecoded =>
    intro s r hin hj h1 h2 hdat hdec
    have h := matrixRequestEff_takes (s := s) (r := r) ⟨hin, hj, h1, h2, hdat⟩
    rw [hdec] at h
    obtain ⟨hv1, hv2, hm, hr1, hr2, hf, hd⟩ := refuseRequest_spec _ r.master.val r.kind.val r.addr r.len s.mtx.nextReq _ rfl
    have hr3 := (SameDict.refl s []).raise_win (t := s.modMtx fun x => { x with nextReq := s.mtx.nextReq + 1 }) rfl rfl rfl 283
      { access := r.kind.val + 1, master := r.master.val, addr := r.addr }
    exact ⟨_, next_of_eq h, hv1, hv2, hm, hr1.trans hr3, hr2, hf, hd⟩
  case refused =>
    intro s r h
    refine ⟨s, next_of_eq (matrixRequestEff_not fun ⟨hin, hj, h1, h2, hdat⟩ => ?_), rfl⟩
    rcases h with h | ⟨h9, h⟩ | h | h | ⟨hk, h⟩
    · simp [hin] at h
    · simp [hj h9] at h
    · omega
    · omega
    · exact h (hdat hk)
  case grant =>
    intro s g m p hm hp hn
    refine ⟨_, next_of_eq (matrixGrantEff_grant s g.val m p hm hp hn _ rfl), rfl, rfl, rfl, rfl, rfl⟩
  case noGrant =>
    intro s g h
    exact ⟨s, next_of_eq (matrixGrantEff_idle s g.val h), rfl⟩
  case sramRead =>
    intro s p x hp hg hd hx ht hl hk hn hu
    have h := (matrixResponseEff_single s p x hp hg hd hx).trans (if_pos ht)
    rw [hu, sramAnswer_read s p hl hk hn, State.tally_eq s] at h
    have h' := h.trans (finishPiece_ok _ p _ (by exact hp))
    rw [if_neg hk, readAll_padTo] at h'
    refine ⟨_, next_of_eq h', rfl, ?_, rfl⟩
    rw [State.tally_eq s]
  case sramWrite =>
    intro s p x hp hg hd hx ht hl hk hi
    have h := (matrixResponseEff_single s p x hp hg hd hx).trans (if_pos ht)
    rw [sramAnswer_write s p _ hl hk, State.tally_eq] at h
    have h' := h.trans (finishPiece_ok _ p _ (by exact hp))
    rw [if_pos hk] at h'
    refine ⟨_, next_of_eq h', ?_, ?_, rfl, ?_, rfl⟩
    · exact Memory.read_writeAll p.data p.addr s.mtx.sram hi
    · exact Memory.wf_writeAll p.data p.addr s.mtx.sram hi
    · rw [State.tally_eq, State.tally_eq, State.tally_eq]
      rfl
  case sramBad =>
    intro s p x b hp hg hd hx ht hl hk hn hu hb hm h68 h1 h2 h3
    have h := (matrixResponseEff_single s p x hp hg hd hx).trans (if_pos ht)
    rw [hu, sramAnswer_bad s p b hb hl hk hn hm] at h
    obtain ⟨⟨v, hw⟩, hv, hdd⟩ := finishPiece_error (s.modMtx fun x => { x with poisoned := [(b, p.addr / 32)] }) p hp hg _ rfl
    rw [if_neg hk] at hw
    generalize (s.modMtx fun x => { x with poisoned := [(b, p.addr / 32)] }).finishPiece p.id true [] = w at *
    have hww : w.win = s.win := by rw [hw]; rfl
    obtain ⟨⟨hr1, hr2, hr3, hr4⟩, hrd⟩ := w.raise_taken_bank b { access := p.kind + 1, master := p.master, addr := p.addr } (by omega)
      (by rw [hww, ← hb]; exact hl) (by rw [hww]; exact h1) (by rw [hww]; exact h2) (by rw [hww]; exact h3)
    rw [hww] at hr1 hr2 hr4
    refine ⟨_, next_of_eq h, ?_, ⟨hr1, hr2, hr3, hr4⟩, ?_, ?_, ?_, hdd.trans hrd⟩
    · rw [State.count_mtx_keeps_raise w (32 + b) (by omega) _ Obj.mtx_error_responses (by decide)]
      exact hv
    · rw [State.raise_mtx, hw]
      rfl
    · rw [State.raise_tithe, hw, State.tally_eq, State.tally_eq]
      rfl
    · rw [State.raise_mtx, State.raise_tithe]
      refine (State.raise_rest w (32 + b) _).trans ?_
      generalize (w.raise (32 + b) _).win = a
      generalize (w.raise (32 + b) _).dict = c
      rw [hw]
      rfl
  case busError =>
    intro s p x hp hg hd hx h4 h6 hbus hk
    have h := (matrixResponseEff_single s p x hp hg hd hx).trans ((if_neg (by omega)).trans (if_pos (by simp [h4, h6, hbus])))
    obtain ⟨hv, hm, hti, hr1, hr2, hf, hdd⟩ := finishPiece_error_raise s p hp hg (281 + p.target) (by omega)
      { access := p.kind + 1, master := p.master, addr := p.addr } _ rfl
    rw [if_neg hk] at hm
    exact ⟨_, next_of_eq h, hv, hm, hti, hr1, hr2, hf, hdd⟩
  case bridge =>
    intro s p x hp hg hd hx ht hbus hk
    have h := (matrixResponseEff_single s p x hp hg hd hx).trans ((if_neg (by omega)).trans ((if_neg (by simp [hbus])).trans (if_neg (by simp [hk]))))
    rw [timeBlockRead_other s p (by omega)] at h
    have h' := h.trans (finishPiece_ok s p x.data hp)
    rw [if_neg hk] at h'
    exact ⟨_, next_of_eq h', rfl, rfl, rfl⟩
  case rom =>
    intro s p x hp hg hd hx ht hk
    have h := (matrixResponseEff_single s p x hp hg hd hx).trans ((if_neg (by omega)).trans ((if_neg (by simp [ht])).trans (if_pos (by simp [ht, hk]))))
    obtain ⟨⟨v, hw⟩, hv, hdd⟩ := finishPiece_error s p hp hg _ rfl
    rw [if_pos hk] at hw
    generalize s.finishPiece p.id true [] = w at *
    subst hw
    exact ⟨_, next_of_eq h, hv, rfl, rfl, rfl, hdd⟩
  case lost =>
    intro s p x hp hg hd hx ht hl hk
    have h := (matrixResponseEff_single s p x hp hg hd hx).trans (if_pos ht)
    rw [sramAnswer_lost s p _ hl] at h
    obtain ⟨⟨v, hw⟩, hv, hdd⟩ := finishPiece_error s p hp hg _ rfl
    rw [if_neg hk] at hw
    generalize s.finishPiece p.id true [] = w at *
    subst hw
    exact ⟨_, next_of_eq h, hv, rfl, rfl, rfl, hdd⟩
  case noPiece =>
    intro s x hnone
    refine ⟨s, next_of_eq ?_, rfl⟩
    unfold matrixResponseEff
    rw [hnone]
  case timeout =>
    intro s p hp hg hd ht hk
    obtain ⟨hv1, hv2, hm, hti, hr1, hr2, hf, hdd⟩ := matrixTimeout_spec s p hp hg { access := p.kind + 1, master := p.master, addr := p.addr } _ rfl
    rw [if_neg hk] at hm
    exact ⟨_, next_of_eq (matrixTimeoutEff_single s p hp hg hd ht), hv1, hv2, hm, hti, hr1, hr2, hf, hdd⟩
  case early =>
    intro s p hp ht
    exact ⟨s, next_of_eq (matrixTimeoutEff_early s p hp ht), rfl⟩
  case jtag =>
    intro s hj hin
    have h : jtagAccessEff s = State.raise { s with elec := { s.elec with jtag := true } } 318 := by
      unfold jtagAccessEff
      simp [hj, hin]
    have hf := State.raise_rest { s with elec := { s.elec with jtag := true } } 318 {}
    obtain ⟨hr1, hr2, hr3⟩ := (SameDict.refl s []).raise_after (u := { s with elec := { s.elec with jtag := true } }) rfl rfl rfl 318 {}
    refine ⟨_, next_of_eq h, State.raise_elec _ _ _, hr1, hr2, ?_, hr3⟩
    rw [State.raise_elec]
    exact hf
  case jtagReset =>
    intro s hj hin
    refine ⟨{ s with elec := { s.elec with jtag := true } }, next_of_eq ?_, rfl, rfl⟩
    unfold jtagAccessEff
    simp [hj, hin]
  case jtagOn =>
    intro s hj
    exact ⟨s, next_of_eq (if_pos hj), rfl⟩

end Sys2Proof.Machine

/-! SUPPORT. A start from a bank that the bank table forgets (R570, R572). -/
namespace Sys2Proof.Machine

/-- A record of bank A that is not ACTIVE: an upload that was under way. -/
def oldRec : BankRec := { bank := 0, state := 3, seq := 1 }

/-- The ACTIVE record, of a bank number that is neither A nor B. -/
def strayRec : BankRec := { bank := 5, state := 4, seq := 1 }

/-- A bank table of `n + 1` records, whose oldest is the ACTIVE one. -/
def agedTable (n : Nat) : List BankRec := List.replicate n oldRec ++ [strayRec]

/-- The part in reset with both blocks of the bank table full. -/
def strayBank : State := { ({} : State) with boot := { clearNext := true, bankRecs := agedTable 4095 } }

/-- A record that is not ACTIVE does not change which record is. -/
theorem activeRec_fold_old (a : Option BankRec) (n : Nat) :
    (List.replicate n oldRec).foldl (fun a r =>
      if r.good && r.state == 4 then
        match a with
        | some x => if x.seq < r.seq then some r else a
        | none => some r
      else a) a = a := by
  induction n with
  | zero => rfl
  | succ n ih => exact ih

theorem activeRec_agedTable (b : Boot) {n : Nat} (h : b.bankRecs = agedTable n) : b.activeRec = some strayRec := by
  unfold Boot.activeRec
  rw [h, agedTable, List.foldl_append]
  exact congrArg (fun a => List.foldl _ a [strayRec]) (activeRec_fold_old none n)

theorem tableBank_agedTable (b : Boot) {n : Nat} (h : b.bankRecs = agedTable n) : b.tableBank = 5 := by
  unfold Boot.tableBank
  rw [activeRec_agedTable b h]
  rfl

theorem newest_agedTable_stray (b : Boot) {n : Nat} (h : b.bankRecs = agedTable n) : b.newest 5 = some strayRec := by
  unfold Boot.newest
  rw [h, agedTable, List.find?_append, List.find?_replicate]
  simp [oldRec, strayRec]

theorem newest_agedTable_old (b : Boot) {n : Nat} (h : b.bankRecs = agedTable n) (hn : 4095 ≤ n) : b.newest 0 = some oldRec := by
  unfold Boot.newest
  rw [h, agedTable, List.find?_append, List.find?_replicate, if_neg (by omega)]
  rfl

/-- The record that marks bank A as empty erases the older block, and the ACTIVE record with it. -/
theorem newest_pushBank (b : Boot) {n : Nat} (h : b.bankRecs = agedTable n) (hn : 4095 ≤ n) (len : Nat) (d : Bytes) :
    ((b.pushBank (b.nextBankRec 0 1 len len d)).newest 5 = none) ∧
      (b.pushBank (b.nextBankRec 0 1 len len d)).newest 0 = some (b.nextBankRec 0 1 len len d) := by
  have hlen : ¬ (agedTable n).length < 2 * 2048 := by
    simp [agedTable]
    omega
  have htake : (agedTable n).take 2048 = List.replicate 2048 oldRec := by
    rw [agedTable, List.take_append_of_le_length (by rw [List.length_replicate]; omega), List.take_replicate, Nat.min_eq_left (by omega)]
  have hkeep : newestOfBanks (agedTable n) = [oldRec] := by
    have h0 : (agedTable n).find? (fun r => r.good && r.bank == 0) = some oldRec := by
      rw [agedTable, List.find?_append, List.find?_replicate, if_neg (by omega)]
      rfl
    have h1 : (agedTable n).find? (fun r => r.good && r.bank == 1) = none := by
      rw [agedTable, List.find?_append, List.find?_replicate]
      simp [oldRec, strayRec]
    have hr : List.range 2 = [0, 1] := rfl
    unfold newestOfBanks
    simp only [hr, List.filterMap_cons, h0, h1, List.filterMap_nil]
  have hin : ((List.replicate 2048 oldRec).contains oldRec) = true := List.contains_iff_mem.2 (List.mem_replicate.2 ⟨by decide, rfl⟩)
  have hrec : (b.pushBank (b.nextBankRec 0 1 len len d)).bankRecs = b.nextBankRec 0 1 len len d :: List.replicate 2048 oldRec := by
    unfold Boot.pushBank pushBlocks
    rw [h]
    simp only [if_neg hlen, htake, hkeep]
    rw [List.filter_cons_of_neg (by rw [hin]; decide), List.filter_nil, List.append_nil]
  have hold : (List.replicate 2048 oldRec).find? (fun r => r.good && r.bank == 5) = none := by
    rw [List.find?_replicate]
    rfl
  unfold Boot.newest
  rw [hrec]
  constructor
  · rw [List.find?_cons_of_neg (by simp [Boot.nextBankRec])]
    exact hold
  · rw [List.find?_cons_of_pos (by simp [Boot.nextBankRec])]

/-- B03 with that bank table, streak and plan cleared. -/
theorem bootPlan_agedTable (s : State) {n : Nat} (h : s.boot.bankRecs = agedTable n) (hn : 4095 ≤ n) (hc : s.boot.clearNext = true) (hs : s.boot.safeNext = false)
    (hk : s.boot.strapConflict = false) :
    s.bootPlan.boot.bank = 5 ∧ s.bootPlan.boot.newest 5 = none ∧ (s.bootPlan.boot.newest (1 - 5)).map (fun r => r.state) = some 1 := by
  have ht := tableBank_agedTable _ h
  obtain ⟨hn5, hn0⟩ := newest_pushBank s.boot h hn 0 []
  have hb : s.bootPlan.boot = { s.boot.pushBank (s.boot.nextBankRec 0 1 0 0 []) with
      streak := 0, plan := 0, bank := 5, safeNext := false, clearNext := false } := by
    unfold State.bootPlan
    simp only [ht, hc, hs, hk, newest_agedTable_old _ h hn, State.writeBankRec, State.modBoot, if_true]
    rfl
  rw [hb]
  exact ⟨rfl, hn5, congrArg (Option.map fun r => r.state) hn0⟩

theorem Boot.newest_congr (b c : Boot) (k : Nat) (h : b.bankRecs = c.bankRecs) : b.newest k = c.newest k := by
  unfold Boot.newest
  rw [h]

theorem logLedger_table (s : State) : s.logLedger.boot.bankRecs = s.boot.bankRecs ∧ s.logLedger.boot.bank = s.boot.bank ∧ s.logLedger.boot.outcome = s.boot.outcome := by
  unfold State.logLedger State.putLedger State.modBoot
  generalize s.makeLedger = l
  exact ⟨rfl, rfl, rfl⟩

theorem enterRecovery_outcome (s : State) (k : Nat) : (s.enterRecovery k).boot.outcome = 5 := by
  unfold State.enterRecovery
  rw [(logLedger_table _).2.2]
  rfl

theorem passingBank_none (s : State) (i : BootIn) (h1 : s.boot.newest s.boot.bank = none) (h2 : (s.boot.newest (1 - s.boot.bank)).map (fun r => r.state) = some 1) :
    s.passingBank i = none := by
  obtain ⟨r, hr, hst⟩ := Option.map_eq_some_iff.1 h2
  unfold State.passingBank State.bankPasses
  rw [h1, hr]
  simp [hst]

/-- The start with that bank table ends in RECOVERY. -/
theorem bootImage_stray (s : State) (i : BootIn) (hf : i.fails = none) {n : Nat} (h : s.boot.bankRecs = agedTable n) (hn : 4095 ≤ n) (hc : s.boot.clearNext = true)
    (hs : s.boot.safeNext = false) (hk : s.boot.strapConflict = false) : (s.bootImage i).boot.outcome = 5 := by
  obtain ⟨h1, h2, h3⟩ := bootPlan_agedTable (s.bootFlash i) h hn hc hs hk
  have hfail : ¬ i.failsAt 3 = true := by simp [BootIn.failsAt, hf]
  generalize hp : (s.bootFlash i).bootPlan = p at *
  obtain ⟨hl1, hl2, -⟩ := logLedger_table (p.modBoot fun b => { b with reached := 3 })
  have hpass : ((p.modBoot fun b => { b with reached := 3 }).logLedger).passingBank i = none := by
    have hb : ((p.modBoot fun b => { b with reached := 3 }).logLedger).boot.bank = 5 := hl2.trans h1
    apply passingBank_none
    · rw [hb, Boot.newest_congr _ p.boot 5 hl1]
      exact h2
    · rw [hb, Boot.newest_congr _ p.boot (1 - 5) hl1]
      exact h3
  unfold State.bootImage
  simp only [if_neg hfail, hp, hpass]
  exact enterRecovery_outcome _ 4

/-- The part at the end of B02. -/
def State.atB02 (s : State) (i : BootIn) : State :=
  (({ s with
    boot := { s.boot with inReset := false, starts := s.boot.starts + 1, reached := 0, duration := i.duration }
    win := { s.win with beatAt := s.tc.cyc }
    elec := { s.elec with ospiReset := true } } : State).bootStraps i).modBoot fun b => { b with reached := 2 }

/-- A start whose steps do not fail goes on at B03. -/
theorem bootEff_atB02 (s : State) (i : BootIn) (hm : s.mayStart = true) (hr : 10 ≤ i.railsMs) (hf : i.fails = none) (hx : s.elec.xoOk = true) :
    bootEff i s = (s.atB02 i).bootImage i := by
  have hfail (k : Nat) : ¬ i.failsAt k = true := by simp [BootIn.failsAt, hf]
  unfold bootEff
  rw [if_neg (by simp [hm, hfail, hr])]
  refine (if_neg (hfail 1)).trans ((if_neg (hfail 2)).trans ?_)
  exact congrArg (fun s : State => ((s.bootStraps i).modBoot fun b => { b with reached := 2 }).bootImage i) (if_pos hx)

/-- Refutes O57: BOOT from a bank table with both blocks full, whose ACTIVE record is the oldest and names neither bank A nor bank B. Marking bank A as
empty erases the older block, so that no bank passes, and the start ends in RECOVERY and not in service. -/
theorem not_resetsAndStart : ¬ Obligations.ResetsAndStart := by
  unfold Obligations.ResetsAndStart
  rintro ⟨-, -, -, -, -, -, -, -, -, -, -, -, -, -, hserve, -⟩
  have ht : strayBank.boot.tableBank = 5 := tableBank_agedTable _ rfl
  obtain ⟨t, hexec, -, -, -, hout, -⟩ := hserve strayBank {} strayRec (by decide +kernel) (by decide) rfl rfl rfl rfl rfl rfl rfl rfl
    (by rw [ht]; exact newest_agedTable_stray _ rfl) rfl (by rw [ht]; decide +kernel) (by decide +kernel) rfl rfl
  have heff := bootEff_atB02 strayBank {} (by decide +kernel) (by decide) rfl rfl
  have hrec := bootImage_stray (strayBank.atB02 {}) {} rfl (n := 4095) rfl (by decide) rfl rfl rfl
  have hte : bootEff {} strayBank = t := by injection hexec
  rw [← heff, hte, hout] at hrec
  exact absurd hrec (by decide)

end Sys2Proof.Machine

/-! SUPPORT. The rotation: pairs, Threshers and the Reeve (R579 to R581). -/
namespace Sys2Proof.Machine

/-! ### The next Thresher moves (R580) -/

theorem nextSlot_lt (s : State) (k : Nat) (h : s.nextSlot = some k) : k < 16 := List.mem_range.1 (List.mem_of_find?_eq_some h)

/-- A spare with the image to move to takes the next slot. -/
theorem thresherRotateEff_move (s : State) (k old new : Nat) (hr : s.rotating = true) (hst : s.boot.install.stage = 8)
    (hat : s.boot.install.nextAt ≤ s.tc.boundaries) (hk : s.nextSlot = some k) (ho : vat s.win.thrSlots k none = some old)
    (hn : s.win.thrSpare.find? (fun x => !s.thrWrong x) = some new) :
    thresherRotateEff s = { s with
      win := { s.win with thrSlots := vmod s.win.thrSlots k fun _ => some new, thrSpare := s.win.thrSpare.filter fun x => x != new }
      boot := { s.boot with install := { s.boot.install with
        loading := s.boot.install.loading ++ [(old, s.tc.boundaries + 4)], slot := k + 1, nextAt := s.tc.boundaries + 2 } } } := by
  unfold thresherRotateEff
  refine (if_neg (by simp [hr, hst, hat])).trans ?_
  simp only [hk, ho, hn, Option.getD_some]
  rfl

theorem thresherRotateEff_idle (s : State) (h : s.rotating = false ∨ s.boot.install.stage ≠ 8 ∨ s.tc.boundaries < s.boot.install.nextAt ∨ s.nextSlot = none) :
    thresherRotateEff s = s := by
  unfold thresherRotateEff
  by_cases hc : (!s.rotating || s.boot.install.stage != 8 || decide (s.tc.boundaries < s.boot.install.nextAt)) = true
  · exact if_pos hc
  · refine (if_neg hc).trans ?_
    have hn : s.nextSlot = none := by
      rcases h with h | h | h | h
      · simp [h] at hc
      · simp [h] at hc
      · simp [h] at hc
      · exact h
    rw [hn]

/-! ### The Reeve switches (R581) -/

theorem Row.mem_elems (r : Row) (e : Nat × Nat) (h : e ∈ r.elems) : e.1 < r.n ∧ e.2 < r.m := by
  obtain ⟨l, hl, he⟩ := List.mem_flatten.1 h
  obtain ⟨i, hi, rfl⟩ := List.mem_map.1 hl
  obtain ⟨j, hj, rfl⟩ := List.mem_map.1 he
  exact ⟨List.mem_range.1 hi, List.mem_range.1 hj⟩

/-- The windows' keys differ from one another. -/
theorem mtxWindow_key_inj {a b : Nat × Nat} (ha : a ∈ Obj.mtx_window.elems) (hb : b ∈ Obj.mtx_window.elems)
    (h : Obj.mtx_window.key a.1 a.2 = Obj.mtx_window.key b.1 b.2) : a = b := by
  have ha2 : a.2 < 16 := (Row.mem_elems _ _ ha).2
  have hb2 : b.2 < 16 := (Row.mem_elems _ _ hb).2
  simp only [Row.key, Obj.mtx_window] at h
  refine Prod.ext ?_ ?_
  · omega
  · omega

/-- The values of a row configured and in effect, written again one by one. -/
theorem putBack_spec (r : Row) (htw : r.twin ≠ 0) (f g : Nat × Nat → Val) (l all : List (Nat × Nat)) (hl : ∀ e ∈ l, e ∈ all)
    (hinj : ∀ a ∈ all, ∀ b ∈ all, r.key a.1 a.2 = r.key b.1 b.2 → a = b) (s : State) :
    (∃ c e, (s.each (l.map fun e => (e, f e, g e)) fun s e => (s.setCfg r e.1.1 e.1.2 e.2.1).setEff r e.1.1 e.1.2 e.2.2) =
        { s with dict := { s.dict with cfg := c, eff := e } }) ∧
      ∀ e ∈ all, (e ∈ l ∨ (s.cfg r e.1 e.2 = f e ∧ s.eff r e.1 e.2 = g e)) →
        (s.each (l.map fun e => (e, f e, g e)) fun s e => (s.setCfg r e.1.1 e.1.2 e.2.1).setEff r e.1.1 e.1.2 e.2.2).cfg r e.1 e.2 = f e ∧
        (s.each (l.map fun e => (e, f e, g e)) fun s e => (s.setCfg r e.1.1 e.1.2 e.2.1).setEff r e.1.1 e.1.2 e.2.2).eff r e.1 e.2 = g e := by
  induction l generalizing s with
  | nil => exact ⟨⟨_, _, rfl⟩, fun e _ h => h.resolve_left List.not_mem_nil⟩
  | cons x l ih =>
    obtain ⟨⟨c, e, hf⟩, hv⟩ := ih (fun e he => hl e (List.mem_cons_of_mem _ he)) ((s.setCfg r x.1 x.2 (f x)).setEff r x.1 x.2 (g x))
    refine ⟨⟨c, e, hf⟩, fun y hy h => hv y hy ?_⟩
    by_cases hyx : y = x
    · subst hyx
      exact Or.inr ⟨Store.getD_put_same _ _ _ _, State.eff_setEff _ _ _ _ _ htw⟩
    · have hk : r.key y.1 y.2 ≠ r.key x.1 x.2 := fun hk => hyx (hinj y hy x (hl x List.mem_cons_self) hk)
      rcases h with h | ⟨h1, h2⟩
      · exact Or.inl ((List.mem_cons.1 h).resolve_left hyx)
      · refine Or.inr ⟨?_, ?_⟩
        · rw [← h1]
          exact congrArg (fun o => Option.getD o _) (Store.find_put_other _ _ _ _ hk)
        · rw [← h2, State.eff_setEff_other _ _ _ _ _ _ _ _ hk]
          unfold State.eff
          rw [if_neg htw, if_neg htw]
          rfl

/-- The default windows change, and configured windows keep their values (R581). -/
theorem putWindows_spec (s : State) (w : List (Nat × Bytes)) :
    (∃ c e, s.putWindows w = { s with dev := { s.dev with windows := w }, dict := { s.dict with cfg := c, eff := e } }) ∧
      ∀ e ∈ Obj.mtx_window.elems, (s.putWindows w).cfg Obj.mtx_window e.1 e.2 = s.cfg Obj.mtx_window e.1 e.2 ∧
        (s.putWindows w).eff Obj.mtx_window e.1 e.2 = s.eff Obj.mtx_window e.1 e.2 := by
  obtain ⟨hf, hv⟩ := putBack_spec Obj.mtx_window (by decide) (fun e => s.cfg Obj.mtx_window e.1 e.2) (fun e => s.eff Obj.mtx_window e.1 e.2)
    Obj.mtx_window.elems Obj.mtx_window.elems (fun _ h => h) (fun _ ha _ hb h => mtxWindow_key_inj ha hb h) { s with dev := { s.dev with windows := w } }
  exact ⟨hf, fun e he => hv e he (Or.inl he)⟩

/-- The step of an install, written with the always-on ledger (R562, R582). -/
theorem instStep_spec (s : State) (k : Nat) :
    (∃ l a v, s.instStep k = { s with boot := { s.boot with ledger := l, ledgerAon := a }, dict := { s.dict with val := v } }) ∧
      (s.instStep k).valN Obj.install_step = k ∧ SameDict s (s.instStep k) [Obj.install_step.key 0 0] := by
  unfold State.instStep
  by_cases h : s.valN Obj.install_step = k
  · rw [if_pos h]
    exact ⟨⟨_, _, _, rfl⟩, h, SameDict.refl _ _⟩
  · rw [if_neg h]
    exact ⟨⟨_, _, _, rfl⟩, State.valN_setN s Obj.install_step k 0 0, SameDict.setN s Obj.install_step k 0 0⟩

/-- The Reeve runs the image of bank `k`, and its record makes the bank ACTIVE (R581). -/
def State.switched (s : State) (k : Nat) (img : Bytes) : State :=
  let s := s.writeBankRec k 4 img.length (imgVersion img) ((Crypto.sha384 img).take 12)
  let s := s.modInst fun i => { i with reeve := true, stage := 0, verAt := some (s.tc.boundaries + 1), fresh := [] }
  let s : State := { s with stew := { s.stew with pairs := s.stew.pairs.map fun q => { q with fresh := false } } }
  s.modBoot fun b => { b with bank := k, secver := imgSecver img }

theorem switched_frame (s : State) (k : Nat) (img : Bytes) :
    s.switched k img = { s with boot := (s.switched k img).boot, stew := { s.stew with pairs := s.stew.pairs.map fun q => { q with fresh := false } } } := rfl

theorem newest_pushBank_front (b : Boot) (r : BankRec) (hg : r.good = true) : (b.pushBank r).newest r.bank = some r := by
  unfold Boot.newest Boot.pushBank pushBlocks
  have h : (r.good && r.bank == r.bank) = true := by simp [hg]
  split
  · exact List.find?_cons_of_pos h
  · exact List.find?_cons_of_pos h

theorem switched_boot (s : State) (k : Nat) (img : Bytes) :
    (s.switched k img).boot.bank = k ∧ (s.switched k img).boot.secver = imgSecver img ∧
      (s.switched k img).boot.install = { s.boot.install with stage := 0, reeve := true, verAt := some (s.tc.boundaries + 1), fresh := [] } ∧
      ((s.switched k img).boot.newest k).map (fun r => r.state) = some 4 := by
  refine ⟨rfl, rfl, rfl, ?_⟩
  have h := newest_pushBank_front s.boot (s.boot.nextBankRec k 4 img.length (imgVersion img) ((Crypto.sha384 img).take 12)) rfl
  exact congrArg (Option.map fun r => r.state) h

theorem reeveSwitchEff_switch (s : State) (hr : s.rotating = true) (hst : s.boot.install.stage = 9) :
    reeveSwitchEff s = (((((s.putWindows (imgWindows (vat s.boot.images s.instBank []))).instStep 9).switched s.instBank (vat s.boot.images s.instBank [])).setN
      Obj.install_state 4).instStep 0) := by
  unfold reeveSwitchEff
  exact if_neg (by simp [hr, hst])

theorem pair_fresh_map (s : State) (p : Nat) (hp : p < 3) (t : State)
    (ht : t.stew.pairs = s.stew.pairs.map fun q => { q with fresh := false }) : t.pair p = { s.pair p with fresh := false } := by
  unfold State.pair
  rw [ht]
  simp [vat, hp]

/-- REEVE_SWITCH, whole. -/
theorem reeveSwitch_spec (s : State) (hr : s.rotating = true) (hst : s.boot.install.stage = 9) (t : State) (ht : reeveSwitchEff s = t) :
    t.valN Obj.install_state = 4 ∧
      t.valN Obj.install_step = 0 ∧
      t.boot.bank = s.instBank ∧
      t.boot.secver = imgSecver (vat s.boot.images s.instBank []) ∧
      ((t.boot.newest s.instBank).map (fun r => r.state) = some 4) ∧
      t.boot.install = { s.boot.install with stage := 0, reeve := true, verAt := some (s.tc.boundaries + 1), fresh := [] } ∧
      t.dev = { s.dev with windows := imgWindows (vat s.boot.images s.instBank []) } ∧
      (∀ p, p < 3 → t.pair p = { s.pair p with fresh := false }) ∧
      (∀ e ∈ Obj.mtx_window.elems, t.cfg Obj.mtx_window e.1 e.2 = s.cfg Obj.mtx_window e.1 e.2 ∧ t.eff Obj.mtx_window e.1 e.2 = s.eff Obj.mtx_window e.1 e.2) ∧
      SameVals s t [Obj.install_state.key 0 0, Obj.install_step.key 0 0] ∧
      t = { s with boot := t.boot, stew := t.stew, dev := t.dev, dict := t.dict } := by
  rw [reeveSwitchEff_switch s hr hst] at ht
  obtain ⟨⟨c, e, hw⟩, hwv⟩ := putWindows_spec s (imgWindows (vat s.boot.images s.instBank []))
  generalize vat s.boot.images s.instBank [] = img at *
  generalize s.instBank = k at *
  generalize s.putWindows (imgWindows img) = u at *
  obtain ⟨⟨l1, a1, v1, h1⟩, -, hd1⟩ := instStep_spec u 9
  generalize u.instStep 9 = x at *
  obtain ⟨hb1, hb2, hb3, hb4⟩ := switched_boot x k img
  have hf := switched_frame x k img
  have hdy : SameDict x (x.switched k img) [] := ⟨rfl, rfl, fun _ _ => rfl⟩
  generalize x.switched k img = y at *
  have hv := State.valN_setN y Obj.install_state 4 0 0
  have hds := SameDict.setN y Obj.install_state 4 0 0
  have hfs : ∃ v, y.setN Obj.install_state 4 = { y with dict := { y.dict with val := v } } := ⟨_, rfl⟩
  change (y.setN Obj.install_state 4).instStep 0 = t at ht
  obtain ⟨⟨l2, a2, v2, h2⟩, hstep, hd2⟩ := instStep_spec (y.setN Obj.install_state 4) 0
  generalize hz : y.setN Obj.install_state 4 = z at *
  rw [ht] at h2 hstep hd2
  obtain ⟨v3, hz3⟩ := hfs
  have hboot : t.boot = { y.boot with ledger := l2, ledgerAon := a2 } := by rw [h2, hz3]
  have hdev : t.dev = u.dev := by rw [h2, hz3, hf, h1]
  have hstew : t.stew.pairs = s.stew.pairs.map fun q => { q with fresh := false } := by rw [h2, hz3, hf, h1, hw]
  have hxi : x.boot.install = s.boot.install := by rw [h1, hw]
  have hxb : x.tc.boundaries = s.tc.boundaries := by rw [h1, hw]
  have hcfg : t.dict.cfg = u.dict.cfg := by rw [h2, hz3, hf, h1]
  have heff : t.dict.eff = u.dict.eff := by rw [h2, hz3, hf, h1]
  refine ⟨?_, hstep, ?_, ?_, ?_, ?_, ?_, fun p hp => pair_fresh_map s p hp t hstew, fun e he => ?_, fun k hk => ?_, ?_⟩
  · rw [hd2.valN_eq (by rw [h2]) (r := Obj.install_state) (by decide)]
    exact hv
  · rw [hboot]
    exact hb1
  · rw [hboot]
    exact hb2
  · rw [Boot.newest_congr t.boot y.boot k (by rw [hboot])]
    exact hb4
  · rw [← hxi, ← hxb, hboot]
    exact hb3
  · rw [hdev, hw]
  · obtain ⟨hc, hef⟩ := hwv e he
    rw [← hc, ← hef]
    unfold State.cfg State.eff
    rw [hcfg, heff, hdev]
    exact ⟨rfl, rfl⟩
  · simp only [List.mem_cons, List.not_mem_nil, or_false, not_or] at hk
    obtain ⟨hk1, hk2⟩ := hk
    rw [hd2.2.2 k (by simpa using hk2), hds.2.2 k (by simpa using hk1), hdy.2.2 k List.not_mem_nil, hd1.2.2 k (by simpa using hk2), hw]
  · rw [h2, hz3, hf, h1, hw]

end Sys2Proof.Machine

/-! SUPPORT. The samples of the ageing monitors (R584, R586). -/
namespace Sys2Proof.Machine

/-! ### Monitor instances -/

theorem find_putAge_same (k : Nat) (x : AgeInst) (l : List (Nat × AgeInst)) : (putAge k x l).find? (fun e => e.1 == k) = some (k, x) := by
  induction l with
  | nil => simp [putAge]
  | cons e l ih =>
    obtain ⟨k', x'⟩ := e
    unfold putAge
    by_cases h1 : k < k'
    · simp [h1]
    · by_cases h2 : k = k'
      · simp [h2]
      · rw [if_neg h1, if_neg h2, List.find?_cons_of_neg (by simpa using fun h => h2 h.symm)]
        exact ih

theorem find_putAge_other (k m : Nat) (x : AgeInst) (l : List (Nat × AgeInst)) (hm : m ≠ k) :
    (putAge k x l).find? (fun e => e.1 == m) = l.find? (fun e => e.1 == m) := by
  induction l with
  | nil => simp [putAge, hm.symm]
  | cons e l ih =>
    obtain ⟨k', x'⟩ := e
    unfold putAge
    by_cases h1 : k < k'
    · simp [h1, hm.symm]
    · by_cases h2 : k = k'
      · subst h2
        simp [hm.symm]
      · rw [if_neg h1, if_neg h2, List.find?_cons, List.find?_cons, ih]

/-- The monitor that was changed. -/
theorem age_modAge_same (s : State) (k : Nat) (f : AgeInst → AgeInst) : (s.modAge k f).boot.age k = f (s.boot.age k) := by
  show ((putAge k (f (s.boot.age k)) s.boot.ages).find? (fun e => e.1 == k) |>.map Prod.snd).getD {} = f (s.boot.age k)
  rw [find_putAge_same]
  rfl

theorem age_modAge_other (s : State) (k m : Nat) (f : AgeInst → AgeInst) (h : m ≠ k) : (s.modAge k f).boot.age m = s.boot.age m := by
  show ((putAge k (f (s.boot.age k)) s.boot.ages).find? (fun e => e.1 == m) |>.map Prod.snd).getD {} = _
  rw [find_putAge_other k m _ _ h]
  rfl

/-! ### The eye of a lane (R584) -/

/-- The mean of a lane's eye samples of the hour. -/
def State.eyeMean (s : State) (l : Nat) : Nat := (roundDiv ((vat s.boot.eyes l (0, 0)).1 : Nat) (vat s.boot.eyes l (0, 0)).2).toNat

/-- The lowest hourly mean of a lane, the present hour's taken in. -/
def State.eyeLowest (s : State) (l : Nat) : Nat := min (s.eyeMean l) ((vat s.boot.eyeLow l none).getD (s.eyeMean l))

/-- Only the instances of class 3, the eyes and their objects may differ. -/
structure EyeWork (s t : State) : Prop where
  frame : ∃ ag lo ey v, t = { s with boot := { s.boot with ages := ag, eyeLow := lo, eyes := ey }, dict := { s.dict with val := v } }
  ages : ∀ k, k / 256 ≠ 3 → t.boot.age k = s.boot.age k
  dict : SameDict s t ((List.range 13).map fun l => Obj.age_eye_min.key l 0)

theorem EyeWork.refl (s : State) : EyeWork s s := ⟨⟨_, _, _, _, rfl⟩, fun _ _ => rfl, SameDict.refl s _⟩

theorem EyeWork.trans {s t u : State} (h : EyeWork s t) (h' : EyeWork t u) : EyeWork s u := by
  obtain ⟨⟨ag, lo, ey, v, hf⟩, ha, hd⟩ := h
  obtain ⟨⟨ag', lo', ey', v', hf'⟩, ha', hd'⟩ := h'
  exact ⟨⟨ag', lo', ey', v', by rw [hf', hf]⟩, fun k hk => (ha' k hk).trans (ha k hk), (hd.trans hd').mono (by simp)⟩

/-- A sample of the eye of a lane. -/
theorem ageValue_eye (s : State) (l v : Nat) (hl : l < 13) :
    EyeWork s (s.ageValue 3 l v) ∧ (s.ageValue 3 l v).boot.eyes = s.boot.eyes ∧
      (∀ m, m ≠ l → vat (s.ageValue 3 l v).boot.eyeLow m none = vat s.boot.eyeLow m none) ∧
      (∀ m, m < 13 → m ≠ l → (s.ageValue 3 l v).valN Obj.age_eye_min m = s.valN Obj.age_eye_min m) ∧
      (s.ageValue 3 l v).valN Obj.age_eye_min l = min v ((vat s.boot.eyeLow l none).getD v) ∧
      vat (s.ageValue 3 l v).boot.eyeLow l none = some (min v ((vat s.boot.eyeLow l none).getD v)) := by
  have hlist : ageListed 3 l = true := by simp [ageListed, ageCount, hl]
  have heq : s.ageValue 3 l v = (((s.modAge (ageKey 3 l) fun x => { x with acc := x.acc ++ [(v : Rat)] }).modBoot fun b =>
      { b with eyeLow := vmod b.eyeLow l fun _ => some (min v ((vat s.boot.eyeLow l none).getD v)) }).setN Obj.age_eye_min
        (min v ((vat s.boot.eyeLow l none).getD v) : Nat) l) := by
    unfold State.ageValue
    rw [hlist]
    rfl
  rw [heq]
  refine ⟨⟨⟨_, _, _, _, rfl⟩, fun k hk => ?_, ?_⟩, rfl, fun m hm => ?_, fun m hm hml => ?_, ?_, ?_⟩
  · have hk3 : k ≠ ageKey 3 l := by
      rintro rfl
      exact hk (by unfold ageKey; omega)
    exact age_modAge_other s (ageKey 3 l) k (fun x => { x with acc := x.acc ++ [(v : Rat)] }) hk3
  · exact (SameDict.refl s _).putN (by simp; exact ⟨l, hl, rfl⟩) _
  · exact vat_vmod_other _ _ _ hm
  · exact State.valN_setN_other _ _ _ _ _ _ _ _ (by simp only [ne_eq, Row.key, Obj.age_eye_min]; omega)
  · exact State.valN_setN _ _ _ _ _
  · exact vat_vmod_same _ _ _ _ hl

/-- The hour ends for the eye of a lane. -/
theorem eyeHour_spec (s : State) (l : Nat) (hl : l < 13) :
    EyeWork s (s.eyeHour l) ∧
      (∀ m, m ≠ l → vat (s.eyeHour l).boot.eyes m (0, 0) = vat s.boot.eyes m (0, 0) ∧ vat (s.eyeHour l).boot.eyeLow m none = vat s.boot.eyeLow m none) ∧
      (∀ m, m < 13 → m ≠ l → (s.eyeHour l).valN Obj.age_eye_min m = s.valN Obj.age_eye_min m) ∧
      vat (s.eyeHour l).boot.eyes l (0, 0) = (0, 0) ∧
      ((vat s.boot.eyes l (0, 0)).2 ≠ 0 →
        (s.eyeHour l).valN Obj.age_eye_min l = s.eyeLowest l ∧ vat (s.eyeHour l).boot.eyeLow l none = some (s.eyeLowest l)) := by
  have hu : EyeWork s (s.modBoot fun b => { b with eyes := vmod b.eyes l fun _ => (0, 0) }) := ⟨⟨_, _, _, _, rfl⟩, fun _ _ => rfl, SameDict.refl s _⟩
  have he0 : vat (s.modBoot fun b => { b with eyes := vmod b.eyes l fun _ => (0, 0) }).boot.eyes l (0, 0) = (0, 0) := vat_vmod_same _ _ _ _ hl
  have hem (m : Nat) (hm : m ≠ l) : vat (s.modBoot fun b => { b with eyes := vmod b.eyes l fun _ => (0, 0) }).boot.eyes m (0, 0) = vat s.boot.eyes m (0, 0) :=
    vat_vmod_other _ _ _ hm
  unfold State.eyeHour
  dsimp only
  by_cases hz : (vat s.boot.eyes l (0, 0)).2 = 0
  · rw [if_pos hz]
    exact ⟨hu, fun m hm => ⟨hem m hm, rfl⟩, fun _ _ _ => rfl, he0, fun h => absurd hz h⟩
  · rw [if_neg hz]
    obtain ⟨hw, h1, h2, h3, h4, h5⟩ := ageValue_eye (s.modBoot fun b => { b with eyes := vmod b.eyes l fun _ => (0, 0) }) l (s.eyeMean l) hl
    refine ⟨hu.trans hw, fun m hm => ⟨?_, h2 m hm⟩, fun m hm hml => h3 m hm hml, ?_, fun _ => ⟨h4, h5⟩⟩
    · exact (congrArg (fun e => vat e m (0, 0)) h1).trans (hem m hm)
    · exact (congrArg (fun e => vat e l (0, 0)) h1).trans he0

/-- The hour ends for the eyes of lanes. -/
theorem eyeHours_spec (ls : List Nat) (hl : ∀ l ∈ ls, l < 13) (hn : ls.Nodup) (s : State) :
    EyeWork s (s.each ls State.eyeHour) ∧
      (∀ m, m ∉ ls → vat (s.each ls State.eyeHour).boot.eyes m (0, 0) = vat s.boot.eyes m (0, 0) ∧
        vat (s.each ls State.eyeHour).boot.eyeLow m none = vat s.boot.eyeLow m none) ∧
      (∀ m, m < 13 → m ∉ ls → (s.each ls State.eyeHour).valN Obj.age_eye_min m = s.valN Obj.age_eye_min m) ∧
      (∀ m ∈ ls, vat (s.each ls State.eyeHour).boot.eyes m (0, 0) = (0, 0)) ∧
      (∀ m ∈ ls, (vat s.boot.eyes m (0, 0)).2 ≠ 0 →
        (s.each ls State.eyeHour).valN Obj.age_eye_min m = s.eyeLowest m ∧ vat (s.each ls State.eyeHour).boot.eyeLow m none = some (s.eyeLowest m)) := by
  induction ls generalizing s with
  | nil => exact ⟨EyeWork.refl s, fun _ _ => ⟨rfl, rfl⟩, fun _ _ _ => rfl, fun _ h => absurd h List.not_mem_nil, fun _ h => absurd h List.not_mem_nil⟩
  | cons l ls ih =>
    obtain ⟨hnl, hn'⟩ := List.nodup_cons.1 hn
    have hl13 : l < 13 := hl l List.mem_cons_self
    obtain ⟨hw1, ho1, hv1, he1, hlow1⟩ := eyeHour_spec s l hl13
    obtain ⟨hw2, ho2, hv2, he2, hlow2⟩ := ih (fun m hm => hl m (List.mem_cons_of_mem _ hm)) hn' (s.eyeHour l)
    change EyeWork s ((s.eyeHour l).each ls State.eyeHour) ∧ _
    simp only [State.each, List.foldl_cons] at ho2 hv2 he2 hlow2 ⊢
    refine ⟨hw1.trans hw2, fun m hm => ?_, fun m h13 hm => ?_, fun m hm => ?_, fun m hm hz => ?_⟩
    · obtain ⟨hml, hmls⟩ := not_or.1 (List.mem_cons.not.1 hm)
      exact ⟨(ho2 m hmls).1.trans (ho1 m hml).1, (ho2 m hmls).2.trans (ho1 m hml).2⟩
    · obtain ⟨hml, hmls⟩ := not_or.1 (List.mem_cons.not.1 hm)
      exact (hv2 m h13 hmls).trans (hv1 m h13 hml)
    · rcases List.mem_cons.1 hm with rfl | hmls
      · exact (ho2 m hnl).1.trans he1
      · exact he2 m hmls
    · rcases List.mem_cons.1 hm with rfl | hmls
      · exact ⟨(hv2 m hl13 hnl).trans (hlow1 hz).1, (ho2 m hnl).2.trans (hlow1 hz).2⟩
      · have hml : m ≠ l := fun h => hnl (h ▸ hmls)
        have hlow : (s.eyeHour l).eyeLowest m = s.eyeLowest m := by
          unfold State.eyeLowest State.eyeMean
          rw [(ho1 m hml).1, (ho1 m hml).2]
        obtain ⟨h1, h2⟩ := hlow2 m hmls (by rw [(ho1 m hml).1]; exact hz)
        exact ⟨h1.trans hlow, h2.trans (congrArg some hlow)⟩

/-- The hour ends for every lane. -/
theorem eyeHours_all (s : State) (t : State) (ht : s.each (List.range 13) State.eyeHour = t) :
    EyeWork s t ∧ t.boot.eyes = Vector.replicate 13 (0, 0) ∧
      ∀ m < 13, (vat s.boot.eyes m (0, 0)).2 ≠ 0 → t.valN Obj.age_eye_min m = s.eyeLowest m ∧ vat t.boot.eyeLow m none = some (s.eyeLowest m) := by
  subst ht
  obtain ⟨hw, -, -, he, hlow⟩ := eyeHours_spec (List.range 13) (fun l hl => List.mem_range.1 hl) List.nodup_range s
  generalize s.each (List.range 13) State.eyeHour = t at *
  refine ⟨hw, ?_, fun m hm => hlow m (List.mem_range.2 hm)⟩
  ext1 i hi
  have h := he i (List.mem_range.2 hi)
  simpa [vat, hi] using h

/-! ### AGE_SAMPLE (R584) -/

/-- The coarse count of a schedule moves on. -/
def State.sampledAt (s : State) (k : Nat) : State := s.modBoot fun b => { b with ageAt := vmod b.ageAt k fun _ => s.tc.cyc }

/-- The part takes samples of the ageing monitors. -/
def State.monitors (s : State) : Prop := s.boot.inReset = false ∧ s.boot.halted = false ∧ s.boot.recovery = false

theorem ageSampleEff_idle (s : State) (a : AgeIn) (h : s.boot.inReset = true ∨ s.boot.halted = true ∨ s.boot.recovery = true ∨
    s.passed (vat s.boot.ageAt a.period.val 0) (agePeriod a.period.val) = false) : ageSampleEff a s = s := by
  unfold ageSampleEff
  refine if_pos ?_
  rcases h with h | h | h | h
  · simp [h]
  · simp [h]
  · simp [h]
  · simp [h]

theorem ageSampleEff_due (s : State) (a : AgeIn) (hm : s.monitors) (hp : s.passed (vat s.boot.ageAt a.period.val 0) (agePeriod a.period.val) = true) :
    ageSampleEff a s =
      if a.period = 0 then
        ((((s.sampledAt a.period.val).modBoot fun b => { b with hours := b.hours + equivFactor s.hottest / 3600, powerSec := b.powerSec + 1 }).setN
          Obj.age_equiv_hours (s.boot.hours + equivFactor s.hottest / 3600).floor).setN Obj.age_power_hours (((s.boot.powerSec + 1) / 3600 : Nat) : Int))
      else if a.period = 1 then
        ((s.sampledAt a.period.val).each (a.values.filter fun v => v.1 == 1) fun s v => s.ageValue v.1 v.2.1 v.2.2).each (List.range 13) State.eyeHour
      else
        let u := ((s.sampledAt a.period.val).each (a.values.filter fun v => v.1 == 4) fun s v => s.ageValue v.1 v.2.1 v.2.2)
        let u := u.modAge (ageKey 6 0) fun x => { x with acc := [u.boot.hours] }
        (u.modBoot fun b => { b with ages := b.ages.map fun e => (e.1, e.2.endDay (u.boot.ageDay + 1)) }).keepAges := by
  obtain ⟨h1, h2, h3⟩ := hm
  unfold ageSampleEff
  exact if_neg (by simp [h1, h2, h3, hp])

/-- What the samples of a second do. -/
theorem ageSample_second (s : State) (hm : s.monitors) (hp : s.passed (vat s.boot.ageAt 0 0) (agePeriod 0) = true) (t : State) (ht : ageSampleEff {} s = t) :
    t.valI Obj.age_equiv_hours = t.boot.hours.floor ∧ t.valN Obj.age_power_hours = t.boot.powerSec / 3600 ∧
      t.boot = { s.boot with hours := s.boot.hours + equivFactor s.hottest / 3600, powerSec := s.boot.powerSec + 1, ageAt := vmod s.boot.ageAt 0 fun _ => s.tc.cyc } ∧
      t = { s with boot := t.boot, dict := t.dict } ∧
      SameDict s t [Obj.age_equiv_hours.key 0 0, Obj.age_power_hours.key 0 0] := by
  subst ht
  rw [(ageSampleEff_due s {} hm hp).trans (if_pos rfl)]
  generalize equivFactor s.hottest / 3600 = x
  generalize hu : (s.sampledAt _).modBoot _ = u
  have hb : u.boot = { s.boot with hours := s.boot.hours + x, powerSec := s.boot.powerSec + 1, ageAt := vmod s.boot.ageAt 0 fun _ => s.tc.cyc } := by
    rw [← hu]
    rfl
  have hf : u = { s with boot := u.boot } := by
    rw [← hu]
    rfl
  have hd : SameDict s u [] := by
    rw [hf]
    exact SameDict.refl s []
  generalize he : (s.boot.hours + x).floor = e
  generalize hq : (s.boot.powerSec + 1) / 3600 = q
  have h1 := (State.valI_setN_other (u.setN Obj.age_equiv_hours e) Obj.age_power_hours Obj.age_equiv_hours (q : Int) 0 0 0 0 (by decide)).trans
    (State.valI_setN u Obj.age_equiv_hours e 0 0)
  have h2 := State.valN_setN (u.setN Obj.age_equiv_hours e) Obj.age_power_hours q 0 0
  have hd2 := hd.trans (((SameDict.refl u [Obj.age_equiv_hours.key 0 0, Obj.age_power_hours.key 0 0]).putN (r := Obj.age_equiv_hours) (i := 0) (j := 0) (by simp) e).putN
    (r := Obj.age_power_hours) (i := 0) (j := 0) (by simp) q)
  have hf2 : (u.setN Obj.age_equiv_hours e).setN Obj.age_power_hours q = { u with dict := ((u.setN Obj.age_equiv_hours e).setN Obj.age_power_hours q).dict } := rfl
  generalize (u.setN Obj.age_equiv_hours e).setN Obj.age_power_hours q = t at *
  have hbt : t.boot = u.boot := by rw [hf2]
  refine ⟨?_, ?_, hbt.trans hb, ?_, hd2⟩
  · rw [h1, hbt, hb, ← he]
  · rw [h2, hbt, hb, ← hq]
  · rw [hbt]
    generalize t.dict = di at *
    generalize u.boot = bt at hf ⊢
    rw [hf2, hf]

/-- A sample of a ring oscillator, and of a DCO. -/
theorem ageValue_ro (s : State) (n v : Nat) (hn : n < 12) :
    s.ageValue 1 n v = (s.modAge (ageKey 1 n) fun x => { x with acc := x.acc ++ [(v : Rat)] }).setN Obj.age_ro_delay v n := by
  have hlist : ageListed 1 n = true := by simp [ageListed, ageCount, hn]
  unfold State.ageValue
  rw [hlist]
  rfl

theorem ageValue_dco (s : State) (n v : Nat) (hn : n < 6) :
    s.ageValue 4 n v = (s.modAge (ageKey 4 n) fun x => { x with acc := x.acc ++ [(v : Rat)] }).setN Obj.age_dco_code v n := by
  have hlist : ageListed 4 n = true := by simp [ageListed, ageCount, hn]
  unfold State.ageValue
  rw [hlist]
  rfl

/-- What the samples of an hour do, with one of a ring oscillator. -/
theorem ageSample_hour (s : State) (n v : Nat) (hm : s.monitors) (hn : n < 12) (hp : s.passed (vat s.boot.ageAt 1 0) (agePeriod 1) = true) (t : State)
    (ht : ageSampleEff { period := 1, values := [(1, n, v)] } s = t) :
    t.valI Obj.age_ro_delay n = v ∧
      (t.boot.age (ageKey 1 n)).acc = (s.boot.age (ageKey 1 n)).acc ++ [(v : Rat)] ∧
      t.boot = { s.boot with ages := t.boot.ages, eyeLow := t.boot.eyeLow, eyes := Vector.replicate 13 (0, 0), ageAt := vmod s.boot.ageAt 1 fun _ => s.tc.cyc } ∧
      SameDict s t (Obj.age_ro_delay.key n 0 :: (List.range 13).map fun l => Obj.age_eye_min.key l 0) ∧
      t = { s with boot := t.boot, dict := t.dict } := by
  have heff := (ageSampleEff_due s { period := 1, values := [(1, n, v)] } hm hp).trans ((if_neg (show ¬ (1 : Fin 3) = 0 by decide)).trans (if_pos rfl))
  change _ = ((s.sampledAt 1).ageValue 1 n v).each (List.range 13) State.eyeHour at heff
  rw [ageValue_ro _ n v hn, ht] at heff
  have hval := State.valI_setN ((s.sampledAt 1).modAge (ageKey 1 n) fun x => { x with acc := x.acc ++ [(v : Rat)] }) Obj.age_ro_delay v n 0
  have hd : SameDict s (((s.sampledAt 1).modAge (ageKey 1 n) fun x => { x with acc := x.acc ++ [(v : Rat)] }).setN Obj.age_ro_delay v n) [Obj.age_ro_delay.key n 0] :=
    (SameDict.refl s _).putN (by simp) _
  have hage := age_modAge_same (s.sampledAt 1) (ageKey 1 n) fun x => { x with acc := x.acc ++ [(v : Rat)] }
  have hf : ∃ ag vv, ((s.sampledAt 1).modAge (ageKey 1 n) fun x => { x with acc := x.acc ++ [(v : Rat)] }).setN Obj.age_ro_delay v n =
      { s with boot := { s.boot with ages := ag, ageAt := vmod s.boot.ageAt 1 fun _ => s.tc.cyc }, dict := { s.dict with val := vv } } := ⟨_, _, rfl⟩
  change (((s.sampledAt 1).modAge (ageKey 1 n) fun x => { x with acc := x.acc ++ [(v : Rat)] }).setN Obj.age_ro_delay v n).boot.age (ageKey 1 n) = _ at hage
  generalize ((s.sampledAt 1).modAge (ageKey 1 n) fun x => { x with acc := x.acc ++ [(v : Rat)] }).setN Obj.age_ro_delay v n = u at *
  obtain ⟨⟨⟨ag', lo, ey, v', hft⟩, hag, hdt⟩, heyes, -⟩ := eyeHours_all u t heff.symm
  obtain ⟨ag, vv, hfu⟩ := hf
  have hk3 : ageKey 1 n / 256 ≠ 3 := by
    unfold ageKey
    omega
  refine ⟨?_, ?_, ?_, (hd.trans hdt).mono (by simp), ?_⟩
  · rw [hdt.valI_eq (by rw [hft]) (r := Obj.age_ro_delay) (by
      simp only [List.mem_map, List.mem_range, not_exists, not_and, Row.key, Obj.age_ro_delay, Obj.age_eye_min]
      omega)]
    exact hval
  · rw [hag _ hk3, hage]
    rfl
  · rw [← heyes, hft, hfu]
  · rw [hft, hfu]

/-- The hour ends for the eye of a lane with samples. -/
theorem ageSample_eye (s : State) (l : Nat) (hl : l < 13) (hm : s.monitors) (hp : s.passed (vat s.boot.ageAt 1 0) (agePeriod 1) = true)
    (hz : (vat s.boot.eyes l (0, 0)).2 ≠ 0) (t : State) (ht : ageSampleEff { period := 1 } s = t) :
    t.valN Obj.age_eye_min l = s.eyeLowest l ∧ vat t.boot.eyeLow l none = some (t.valN Obj.age_eye_min l) ∧ vat t.boot.eyes l (0, 0) = (0, 0) ∧
      t = { s with boot := t.boot, dict := t.dict } := by
  have heff := (ageSampleEff_due s { period := 1 } hm hp).trans ((if_neg (show ¬ (1 : Fin 3) = 0 by decide)).trans (if_pos rfl))
  change _ = (s.sampledAt 1).each (List.range 13) State.eyeHour at heff
  rw [ht] at heff
  obtain ⟨⟨⟨ag, lo, ey, v, hf⟩, -, -⟩, heyes, hlow⟩ := eyeHours_all (s.sampledAt 1) t heff.symm
  obtain ⟨h1, h2⟩ := hlow l hl hz
  refine ⟨h1, by rw [h1]; exact h2, ?_, ?_⟩
  · rw [heyes]
    simp [vat, hl]
  · rw [hf]
    rfl

/-- SB keeps the monitor values in the journal: the units are left alone. -/
theorem keepAges_frame (s : State) :
    (∃ b g v, s.keepAges = { s with boot := b, gran := g, dict := { s.dict with val := v } }) ∧ SameDict s s.keepAges [Obj.store_used.key 0 0] := by
  unfold State.keepAges
  by_cases hr : (!s.roleRuns 2) = true
  · rw [if_pos hr]
    exact ⟨⟨_, _, _, rfl⟩, SameDict.refl s _⟩
  · rw [if_neg hr]
    obtain ⟨-, hf, hd⟩ := State.appendUnit_spec (s.modBoot fun b =>
      { b with kept := (b.hours, b.powerSec), agesKept := b.ages.map fun e => (e.1, { e.2 with warned := false, acc := [] }) }) 2
      (s.modBoot fun b => { b with kept := (b.hours, b.powerSec), agesKept := b.ages.map fun e => (e.1, { e.2 with warned := false, acc := [] }) }).boot.agePayload
    have hdd := hd.dict_eq
    refine ⟨?_, hd⟩
    dsimp only
    generalize State.appendUnit _ 2 _ = t at *
    rw [hf, hdd]
    exact ⟨_, _, _, rfl⟩

/-- What the samples of a day do, with one of a DCO. -/
theorem ageSample_day (s : State) (n v : Nat) (hm : s.monitors) (hn : n < 6) (hp : s.passed (vat s.boot.ageAt 2 0) (agePeriod 2) = true) (t : State)
    (ht : ageSampleEff { period := 2, values := [(4, n, v)] } s = t) :
    t.valI Obj.age_dco_code n = v ∧ t.tc = s.tc ∧ t.win = s.win ∧ t.elec = s.elec ∧ t.stew = s.stew := by
  have heff := (ageSampleEff_due s { period := 2, values := [(4, n, v)] } hm hp).trans ((if_neg (show ¬ (2 : Fin 3) = 0 by decide)).trans
    (if_neg (show ¬ (2 : Fin 3) = 1 by decide)))
  change _ = ((((s.sampledAt 2).ageValue 4 n v).modAge (ageKey 6 0) fun x => { x with acc := [((s.sampledAt 2).ageValue 4 n v).boot.hours] }).modBoot _).keepAges at heff
  rw [ageValue_dco _ n v hn, ht] at heff
  have hval := State.valI_setN ((s.sampledAt 2).modAge (ageKey 4 n) fun x => { x with acc := x.acc ++ [(v : Rat)] }) Obj.age_dco_code v n 0
  have hf : ∃ b vv, ((s.sampledAt 2).modAge (ageKey 4 n) fun x => { x with acc := x.acc ++ [(v : Rat)] }).setN Obj.age_dco_code v n =
      { s with boot := b, dict := { s.dict with val := vv } } := ⟨_, _, rfl⟩
  generalize ((s.sampledAt 2).modAge (ageKey 4 n) fun x => { x with acc := x.acc ++ [(v : Rat)] }).setN Obj.age_dco_code v n = u at *
  generalize hw : State.modBoot _ _ = w at heff
  have hww : w = { u with boot := w.boot } := by
    rw [← hw]
    rfl
  obtain ⟨⟨b', g, v', hk⟩, hd⟩ := keepAges_frame w
  rw [← heff] at hk hd
  obtain ⟨b, vv, hu⟩ := hf
  have hv : w.valI Obj.age_dco_code n = v := by
    rw [hww]
    exact hval
  refine ⟨?_, ?_, ?_, ?_, ?_⟩
  · rw [hd.valI_eq (by rw [hk]) (r := Obj.age_dco_code) (by
      simp only [List.mem_singleton, Row.key, Obj.age_dco_code, Obj.store_used]
      omega)]
    exact hv
  · rw [hk, hww, hu]
  · rw [hk, hww, hu]
  · rw [hk, hww, hu]
  · rw [hk, hww, hu]

end Sys2Proof.Machine

/-! SUPPORT. The fit of the ageing monitors (R585, R587, R588). -/
namespace Sys2Proof.Machine

/-- The row and number of the object of a prediction, by class and number of its monitor (R589). -/
def predClass (c n : Nat) : Row × Nat :=
  match c with
  | 1 => (Obj.age_ro_eol, n)
  | 2 => (Obj.age_sram_eol, n)
  | 3 => (Obj.age_eye_eol, n)
  | 4 => (Obj.age_dco_eol, n)
  | 5 => (Obj.age_fly_eol, 0)
  | _ => (Obj.age_temp_eol, 0)

/-- The object that a prediction of a monitor is written to. -/
def predObj (k : Nat) : Row × Nat := predClass (k / 256) (k % 256)

theorem predObj_ageKey (c n : Nat) (hn : n < 256) : predObj (ageKey c n) = predClass c n := by
  have hd : ageKey c n / 256 = c := by
    unfold ageKey
    omega
  have hm : ageKey c n % 256 = n := by
    unfold ageKey
    omega
  unfold predObj
  rw [hd, hm]

/-- Its key. -/
def predKey (k : Nat) : Nat := (predObj k).1.key (predObj k).2 0

/-- A prediction written. -/
def State.putPred (s : State) (e : Nat × Nat) : State := s.setN (predObj e.1).1 (e.2 : Nat) (predObj e.1).2

theorem putPred_eq (s : State) (e : Nat × Nat) :
    (match e.1 / 256 with
      | 1 => s.setN Obj.age_ro_eol ((e.2 : Nat) : Int) (e.1 % 256)
      | 2 => s.setN Obj.age_sram_eol ((e.2 : Nat) : Int) (e.1 % 256)
      | 3 => s.setN Obj.age_eye_eol ((e.2 : Nat) : Int) (e.1 % 256)
      | 4 => s.setN Obj.age_dco_eol ((e.2 : Nat) : Int) (e.1 % 256)
      | 5 => s.setN Obj.age_fly_eol ((e.2 : Nat) : Int)
      | _ => s.setN Obj.age_temp_eol ((e.2 : Nat) : Int)) = s.putPred e := by
  unfold State.putPred predObj predClass
  split <;> rfl

/-- Predictions written to objects that differ from one another. -/
theorem putPreds_spec (ps : List (Nat × Nat)) (hn : (ps.map fun e => predKey e.1).Nodup) (s : State) :
    (∃ v, s.each ps State.putPred = { s with dict := { s.dict with val := v } }) ∧
      SameDict s (s.each ps State.putPred) (ps.map fun e => predKey e.1) ∧
      ∀ e ∈ ps, (s.each ps State.putPred).valN (predObj e.1).1 (predObj e.1).2 = e.2 := by
  induction ps generalizing s with
  | nil => exact ⟨⟨_, rfl⟩, SameDict.refl s _, fun _ h => absurd h List.not_mem_nil⟩
  | cons x ps ih =>
    obtain ⟨hx, hn'⟩ := List.nodup_cons.1 hn
    obtain ⟨⟨v, hf⟩, hd, hv⟩ := ih hn' (s.putPred x)
    have hdx : SameDict s (s.putPred x) [predKey x.1] := SameDict.setN s _ _ _ 0
    refine ⟨⟨v, hf⟩, hdx.trans hd, fun e he => ?_⟩
    rcases List.mem_cons.1 he with rfl | he
    · exact (hd.valN_eq (by rw [hf]) hx).trans (State.valN_setN s _ _ _ 0)
    · exact hv e he

/-- The instances with a prediction. -/
def ageKeys : List Nat := ((ageCount.map fun e => (List.range e.2).map fun n => ageKey e.1 n).flatten) ++ [ageKey 5 0, ageKey 6 0]

theorem agePreds_keys (s : State) : s.agePreds.map Prod.fst = ageKeys := by
  unfold State.agePreds ageKeys ageCount
  simp [Function.comp_def]

theorem ageKeys_nodup : ageKeys.Nodup := by decide +kernel

theorem predKeys_nodup : (ageKeys.map predKey).Nodup := by decide +kernel

theorem agePreds_predKeys (s : State) : (s.agePreds.map fun e => predKey e.1) = ageKeys.map predKey := by
  rw [← agePreds_keys s, List.map_map]
  rfl

/-- The objects of AGE_FIT. -/
def fitKeys : List Nat :=
  [Obj.age_eol.key 0 0, Obj.age_eol_monitor.key 0 0, Obj.age_fly_eol.key 0 0, Obj.age_temp_eol.key 0 0] ++ (List.range 12).map (fun n => Obj.age_ro_eol.key n 0) ++
    (List.range 68).map (fun n => Obj.age_sram_eol.key n 0) ++ (List.range 13).map (fun n => Obj.age_eye_eol.key n 0) ++
    (List.range 6).map (fun n => Obj.age_dco_eol.key n 0)

theorem predKeys_fitKeys : ∀ k ∈ ageKeys.map predKey ++ [Obj.age_eol.key 0 0, Obj.age_eol_monitor.key 0 0], k ∈ fitKeys := by decide +kernel

theorem eol_not_predKey : Obj.age_eol.key 0 0 ∉ ageKeys.map predKey ∧ Obj.age_eol_monitor.key 0 0 ∉ ageKeys.map predKey := by decide +kernel

/-- The monitor with the least prediction. -/
def State.ageBest (s : State) : Nat × Nat :=
  s.agePreds.foldl (fun (m : Nat × Nat) e => if e.2 < m.2 then e else m) (0xFFFF, ageNone)

theorem foldl_least (ps : List (Nat × Nat)) (a : Nat × Nat) :
    (ps.foldl (fun (m : Nat × Nat) e => if e.2 < m.2 then e else m) a).2 = ps.foldl (fun m e => min m e.2) a.2 := by
  induction ps generalizing a with
  | nil => rfl
  | cons e ps ih =>
    rw [List.foldl_cons, List.foldl_cons, ih]
    congr 1
    by_cases h : e.2 < a.2
    · rw [if_pos h]
      omega
    · rw [if_neg h]
      omega

/-- Every prediction shown, before any warning. -/
def State.fitted (s : State) : State :=
  ((s.each s.agePreds State.putPred).setN Obj.age_eol (s.ageBest.2 : Nat)).setN Obj.age_eol_monitor (s.ageBest.1 : Nat)

theorem ageFitEff_run (s : State) (hm : s.monitors) : ageFitEff s = s.fitted.each s.agePreds fun s e => s.ageWarn e.1 e.2 := by
  obtain ⟨h1, h2, h3⟩ := hm
  have hput : (fun (s : State) (e : Nat × Nat) =>
      match e.1 / 256 with
      | 1 => s.setN Obj.age_ro_eol ((e.2 : Nat) : Int) (e.1 % 256)
      | 2 => s.setN Obj.age_sram_eol ((e.2 : Nat) : Int) (e.1 % 256)
      | 3 => s.setN Obj.age_eye_eol ((e.2 : Nat) : Int) (e.1 % 256)
      | 4 => s.setN Obj.age_dco_eol ((e.2 : Nat) : Int) (e.1 % 256)
      | 5 => s.setN Obj.age_fly_eol ((e.2 : Nat) : Int)
      | _ => s.setN Obj.age_temp_eol ((e.2 : Nat) : Int)) = State.putPred := funext fun s => funext fun e => putPred_eq s e
  unfold ageFitEff
  refine (if_neg (by simp [h1, h2, h3])).trans ?_
  exact congrArg (fun f => (((s.each s.agePreds f).setN Obj.age_eol (s.ageBest.2 : Nat)).setN Obj.age_eol_monitor (s.ageBest.1 : Nat)).each s.agePreds
    fun s e => s.ageWarn e.1 e.2) hput

theorem ageFitEff_idle (s : State) (h : s.boot.inReset = true ∨ s.boot.halted = true ∨ s.boot.recovery = true) : ageFitEff s = s := by
  unfold ageFitEff
  refine if_pos ?_
  rcases h with h | h | h
  · simp [h]
  · simp [h]
  · simp [h]

/-- What the fit shows. -/
theorem fitted_spec (s : State) (t : State) (ht : s.fitted = t) :
    (∃ v, t = { s with dict := { s.dict with val := v } }) ∧ SameDict s t fitKeys ∧
      (∀ e ∈ s.agePreds, t.valN (predObj e.1).1 (predObj e.1).2 = e.2) ∧
      t.valN Obj.age_eol = s.agePreds.foldl (fun m e => min m e.2) 0xFFFFFFFF := by
  obtain ⟨⟨v, hf⟩, hd, hv⟩ := putPreds_spec s.agePreds (by rw [agePreds_predKeys]; exact predKeys_nodup) s
  rw [agePreds_predKeys] at hd
  unfold State.fitted at ht
  have hbest : s.ageBest.2 = s.agePreds.foldl (fun m e => min m e.2) 0xFFFFFFFF := foldl_least _ _
  generalize s.ageBest = b at *
  generalize s.each s.agePreds State.putPred = u at *
  have hd1 := SameDict.setN u Obj.age_eol (b.2 : Nat) 0 0
  have hv1 := State.valN_setN u Obj.age_eol b.2 0 0
  have hf1 : ∃ v, u.setN Obj.age_eol (b.2 : Nat) = { u with dict := { u.dict with val := v } } := ⟨_, rfl⟩
  generalize u.setN Obj.age_eol (b.2 : Nat) = x at *
  have hd2 := SameDict.setN x Obj.age_eol_monitor (b.1 : Nat) 0 0
  have hf2 : ∃ v, x.setN Obj.age_eol_monitor (b.1 : Nat) = { x with dict := { x.dict with val := v } } := ⟨_, rfl⟩
  rw [ht] at hd2 hf2
  obtain ⟨v1, rfl⟩ := hf1
  obtain ⟨v2, hf2⟩ := hf2
  have hd12 : SameDict u t [Obj.age_eol.key 0 0, Obj.age_eol_monitor.key 0 0] := hd1.trans hd2
  refine ⟨⟨v2, by rw [hf2, hf]⟩, (hd.trans hd12).mono predKeys_fitKeys, fun e he => ?_, ?_⟩
  · have hk : (predObj e.1).1.key (predObj e.1).2 0 ∈ ageKeys.map predKey := by
      have hmem : predKey e.1 ∈ s.agePreds.map fun e => predKey e.1 := List.mem_map.2 ⟨e, he, rfl⟩
      rw [agePreds_predKeys] at hmem
      exact hmem
    have hk' : (predObj e.1).1.key (predObj e.1).2 0 ∉ [Obj.age_eol.key 0 0, Obj.age_eol_monitor.key 0 0] := by
      intro h
      rcases List.mem_cons.1 h with h | h
      · exact eol_not_predKey.1 (h ▸ hk)
      · exact eol_not_predKey.2 ((List.mem_singleton.1 h) ▸ hk)
    exact (hd12.valN_eq (by rw [hf2]) hk').trans (hv e he)
  · rw [hd2.valN_eq (by rw [hf2]) (r := Obj.age_eol) (by decide), hv1, hbest]

theorem flyPred_mem (s : State) : (ageKey 5 0, s.flyPred) ∈ s.agePreds := by
  unfold State.agePreds
  exact List.mem_append_right _ (by simp)

theorem tempPred_mem (s : State) : (ageKey 6 0, s.tempPred) ∈ s.agePreds := by
  unfold State.agePreds
  exact List.mem_append_right _ (by simp)

/-- A monitor of classes 1 to 4 among the predictions. -/
theorem agePred_mem (s : State) (cls c n : Nat) (hc : (cls, c) ∈ ageCount) (hn : n < c) : (ageKey cls n, s.agePred cls n) ∈ s.agePreds :=
  List.mem_append_left _ (List.mem_flatten.2 ⟨_, List.mem_map.2 ⟨(cls, c), hc, rfl⟩, List.mem_map.2 ⟨n, List.mem_range.2 hn, rfl⟩⟩)

end Sys2Proof.Machine

/-! SUPPORT. A prediction below the threshold (R588), and the obligation about rotation and ageing. -/
namespace Sys2Proof.Machine

/-- A raise leaves what the Winnow knows of its units and spares. -/
theorem State.raise_units (s : State) (n : Nat) (i : FaultInfo) :
    ∃ no he sr, (s.raise n i).win = { s.win with now := no, held := he, srcs := sr } := by
  unfold State.raise
  split
  · exact ⟨_, _, _, rfl⟩
  · split
    · split
      · exact ⟨_, _, _, rfl⟩
      · unfold State.lose
        dsimp only
        split
        · exact ⟨_, _, _, rfl⟩
        · exact ⟨_, _, _, rfl⟩
    · split
      · exact ⟨_, _, _, rfl⟩
      · exact ⟨_, _, _, rfl⟩

/-- A prediction at or above the threshold warns of nothing. -/
theorem ageWarn_above (s : State) (k p : Nat) (h : s.effN Obj.age_spare_threshold ≤ p) : s.ageWarn k p = s := if_pos (Or.inl h)

theorem ageWarns_above (ps : List (Nat × Nat)) (s : State) (h : ∀ e ∈ ps, s.effN Obj.age_spare_threshold ≤ e.2) :
    (s.each ps fun s e => s.ageWarn e.1 e.2) = s := by
  induction ps with
  | nil => rfl
  | cons e ps ih =>
    have hstep : (s.each (e :: ps) fun s e => s.ageWarn e.1 e.2) = (s.ageWarn e.1 e.2).each ps fun s e => s.ageWarn e.1 e.2 := rfl
    rw [hstep, ageWarn_above s e.1 e.2 (h e List.mem_cons_self)]
    exact ih fun x hx => h x (List.mem_cons_of_mem _ hx)

/-- The first prediction of a monitor below the threshold (R588). -/
theorem ageWarn_below (s : State) (k p : Nat) (hp : p < s.effN Obj.age_spare_threshold) (hw : (s.boot.age k).warned = false) (t : State)
    (ht : s.ageWarn k p = t) :
    RaisedAs s t 309 {} ∧
      (CanRaise s 309 → t.win.now = s.win.now ++ [(309, ({} : FaultInfo))] ∧ (vat t.win.srcs 309 {}).active = true) ∧
      (t.boot.age k).warned = true ∧
      t.boot = { s.boot with ages := t.boot.ages, swapPend := if (s.effT Obj.age_auto_spare && s.ageSpare k) = true then s.boot.swapPend ++ [k] else s.boot.swapPend } ∧
      SameDict s t (raiseKeys 309) ∧
      t = { s with dict := t.dict, win := t.win, boot := t.boot } := by
  unfold State.ageWarn at ht
  rw [if_neg (by simp [hw]; omega)] at ht
  have hage := age_modAge_same s k fun x => { x with warned := true }
  have hf : ∃ ag, (s.modAge k fun x => { x with warned := true }) = { s with boot := { s.boot with ages := ag } } := ⟨_, rfl⟩
  generalize (s.modAge k fun x => { x with warned := true }) = u at *
  obtain ⟨ag, rfl⟩ := hf
  obtain ⟨hr1, hr2, hr3⟩ := (SameDict.refl s []).raise_after (u := { s with boot := { s.boot with ages := ag } }) rfl rfl rfl 309 {}
  obtain ⟨no, he, sr, hunits⟩ := State.raise_units { s with boot := { s.boot with ages := ag } } 309 {}
  have hrest := State.raise_rest { s with boot := { s.boot with ages := ag } } 309 {}
  dsimp only at ht
  generalize State.raise { s with boot := { s.boot with ages := ag } } 309 {} = w at *
  have hspare : w.ageSpare k = s.ageSpare k := by
    unfold State.ageSpare
    rw [hunits]
  have hauto : w.effT Obj.age_auto_spare = s.effT Obj.age_auto_spare := by
    have := hr3.effT_eq (by rw [hrest]) (r := Obj.age_auto_spare) (i := 0) (j := 0)
    exact this
  rw [hspare, hauto] at ht
  have hboot : w.boot = { s.boot with ages := ag } := by rw [hrest]
  by_cases hc : (s.effT Obj.age_auto_spare && s.ageSpare k) = true
  · rw [if_pos hc] at ht
    subst ht
    refine ⟨hr1, hr2, ?_, ?_, hr3, ?_⟩
    · show (w.boot.age k).warned = true
      rw [hboot]
      exact congrArg AgeInst.warned hage
    · rw [if_pos hc]
      show { w.boot with swapPend := w.boot.swapPend ++ [k] } = { s.boot with ages := w.boot.ages, swapPend := s.boot.swapPend ++ [k] }
      rw [hboot]
    · show { w with boot := { w.boot with swapPend := w.boot.swapPend ++ [k] } } = { s with dict := w.dict, win := w.win, boot := { w.boot with swapPend := w.boot.swapPend ++ [k] } }
      generalize w.boot = b at *
      generalize w.dict = di at *
      generalize w.win = wi at *
      rw [hrest]
  · rw [if_neg hc] at ht
    subst ht
    refine ⟨hr1, hr2, ?_, ?_, hr3, ?_⟩
    · rw [hboot]
      exact congrArg AgeInst.warned hage
    · rw [if_neg hc, hboot]
    · rw [hboot]
      generalize w.dict = di at *
      generalize w.win = wi at *
      exact hrest

/-- Warnings, where one monitor alone is below the threshold. -/
theorem ageWarns_one (ps : List (Nat × Nat)) (hn : (ps.map Prod.fst).Nodup) (s : State) (k : Nat)
    (hall : ∀ e ∈ ps, e.1 = k ↔ e.2 < s.effN Obj.age_spare_threshold) (hk : ∃ e ∈ ps, e.1 = k) (hw : (s.boot.age k).warned = false) :
    ∃ p, p < s.effN Obj.age_spare_threshold ∧ (s.each ps fun s e => s.ageWarn e.1 e.2) = s.ageWarn k p := by
  induction ps with
  | nil =>
    obtain ⟨e, he, -⟩ := hk
    exact absurd he List.not_mem_nil
  | cons e ps ih =>
    obtain ⟨hne, hn'⟩ := List.nodup_cons.1 hn
    have hstep : (s.each (e :: ps) fun s e => s.ageWarn e.1 e.2) = (s.ageWarn e.1 e.2).each ps fun s e => s.ageWarn e.1 e.2 := rfl
    by_cases hek : e.1 = k
    · have hp := (hall e List.mem_cons_self).1 hek
      refine ⟨e.2, hp, ?_⟩
      rw [hstep, hek]
      obtain ⟨-, -, -, -, hd, hf⟩ := ageWarn_below s k e.2 hp hw _ rfl
      refine ageWarns_above ps _ fun x hx => ?_
      have hxk : x.1 ≠ k := fun h => hne (hek.trans h.symm ▸ List.mem_map_of_mem hx)
      have heff : (s.ageWarn k e.2).effN Obj.age_spare_threshold = s.effN Obj.age_spare_threshold := hd.effN_eq (by rw [hf]) _ _ _
      rw [heff]
      exact Nat.le_of_not_lt fun h => hxk ((hall x (List.mem_cons_of_mem _ hx)).2 h)
    · have hp : s.effN Obj.age_spare_threshold ≤ e.2 := Nat.le_of_not_lt fun h => hek ((hall e List.mem_cons_self).2 h)
      rw [hstep, ageWarn_above s e.1 e.2 hp]
      refine ih hn' (fun x hx => hall x (List.mem_cons_of_mem _ hx)) ?_
      obtain ⟨x, hx, hxk⟩ := hk
      rcases List.mem_cons.1 hx with rfl | hx
      · exact absurd hxk hek
      · exact ⟨x, hx, hxk⟩

/-- Settles O58: STEWARD_LOAD_DONE, THRESHER_ROTATE, REEVE_SWITCH, AGE_SAMPLE and AGE_FIT. -/
theorem rotationAndAgeing : Obligations.RotationAndAgeing := by
  unfold Obligations.RotationAndAgeing
  refine ⟨?load, ?notLoad, ?rotate, ?notRotate, ?switch, ?notSwitch, ?second, ?hour, ?eye, ?day, ?notSample, ?fit, ?warn, ?notFit⟩
  case load =>
    intro s p hl hf
    exact ⟨_, next_of_eq (if_pos (by simp [hl, hf])), rfl, rfl, rfl⟩
  case notLoad =>
    intro s p h
    refine ⟨s, next_of_eq (if_neg ?_), rfl⟩
    rcases h with h | h
    · simp [h]
    · simp [h]
  case rotate =>
    intro s k old new hr hst hat hk ho hn
    refine ⟨_, next_of_eq (thresherRotateEff_move s k old new hr hst hat hk ho hn), ?_, fun m hm => ?_, rfl, rfl, rfl, rfl⟩
    · exact vat_vmod_same _ _ _ _ (nextSlot_lt s k hk)
    · exact vat_vmod_other _ _ _ hm
  case notRotate =>
    intro s h
    exact ⟨s, next_of_eq (thresherRotateEff_idle s h), rfl⟩
  case switch =>
    intro s hr hst
    exact ⟨_, next_of_eq rfl, reeveSwitch_spec s hr hst _ rfl⟩
  case notSwitch =>
    intro s h
    refine ⟨s, next_of_eq (if_pos ?_), rfl⟩
    rcases h with h | h
    · simp [h]
    · simp [h]
  case second =>
    intro s h1 h2 h3 hp
    obtain ⟨hv1, hv2, hb, hf, hd⟩ := ageSample_second s ⟨h1, h2, h3⟩ hp _ rfl
    refine ⟨_, next_of_eq rfl, ?_, ?_, hv1, hv2, ?_, hf, hd⟩
    · rw [hb]
    · rw [hb]
    · rw [hb]
  case hour =>
    intro s n v h1 h2 h3 hn hp
    exact ⟨_, next_of_eq rfl, ageSample_hour s n v ⟨h1, h2, h3⟩ hn hp _ rfl⟩
  case eye =>
    intro s l h1 h2 h3 hp hz
    exact ⟨_, next_of_eq rfl, ageSample_eye s l.val l.isLt ⟨h1, h2, h3⟩ hp hz _ rfl⟩
  case day =>
    intro s n v h1 h2 h3 hn hp
    exact ⟨_, next_of_eq rfl, ageSample_day s n v ⟨h1, h2, h3⟩ hn hp _ rfl⟩
  case notSample =>
    intro s a h
    exact ⟨s, next_of_eq (ageSampleEff_idle s a h), rfl⟩
  case fit =>
    intro s h1 h2 h3 hthr
    obtain ⟨⟨v, hf⟩, hd, hv, he⟩ := fitted_spec s _ rfl
    have heff := (ageFitEff_run s ⟨h1, h2, h3⟩).trans (ageWarns_above s.agePreds s.fitted fun e _ => by
      rw [hd.effN_eq (by rw [hf]), hthr]
      exact Nat.zero_le _)
    have hcls (cls c n : Nat) (hc : (cls, c) ∈ ageCount) (hn : n < c) := hv _ (agePred_mem s cls c n hc hn)
    generalize s.fitted = t at *
    refine ⟨t, next_of_eq heff, fun n hn => ?_, fun n hn => ?_, fun n hn => ?_, fun n hn => ?_, ?_, ?_, he, hd, ?_⟩
    · have hobj : predObj (ageKey 1 n) = (Obj.age_ro_eol, n) := predObj_ageKey 1 n (by omega)
      have h := hcls 1 12 n (by decide) hn
      rwa [hobj] at h
    · have hobj : predObj (ageKey 2 n) = (Obj.age_sram_eol, n) := predObj_ageKey 2 n (by omega)
      have h := hcls 2 68 n (by decide) hn
      rwa [hobj] at h
    · have hobj : predObj (ageKey 3 n) = (Obj.age_eye_eol, n) := predObj_ageKey 3 n (by omega)
      have h := hcls 3 13 n (by decide) hn
      rwa [hobj] at h
    · have hobj : predObj (ageKey 4 n) = (Obj.age_dco_eol, n) := predObj_ageKey 4 n (by omega)
      have h := hcls 4 6 n (by decide) hn
      rwa [hobj] at h
    · have h := hv _ (flyPred_mem s)
      rwa [predObj_ageKey 5 0 (by omega)] at h
    · have h := hv _ (tempPred_mem s)
      rwa [predObj_ageKey 6 0 (by omega)] at h
    · rw [hf]
  case warn =>
    intro s k h1 h2 h3 hall hany hw
    obtain ⟨⟨v, hf⟩, hd, -, -⟩ := fitted_spec s _ rfl
    have hrun := ageFitEff_run s ⟨h1, h2, h3⟩
    generalize s.fitted = u at *
    have hthr : u.effN Obj.age_spare_threshold = s.effN Obj.age_spare_threshold := hd.effN_eq (by rw [hf]) _ _ _
    obtain ⟨p, hp, hone⟩ := ageWarns_one s.agePreds (by rw [agePreds_keys]; exact ageKeys_nodup) u k (fun e he => by
        rw [hthr]
        have h := List.all_eq_true.1 hall e he
        have h' : (e.1 == k) = decide (e.2 < s.effN Obj.age_spare_threshold) := by simpa using h
        exact ⟨fun hek => of_decide_eq_true (h'.symm.trans (beq_iff_eq.2 hek)), fun hlt => beq_iff_eq.1 (h'.trans (decide_eq_true hlt))⟩) (by
        obtain ⟨e, he, hek⟩ := List.any_eq_true.1 hany
        exact ⟨e, he, by simpa using hek⟩) (by rw [hf]; exact hw)
    obtain ⟨hr1, hr2, hwarn, hb, hdw, hfw⟩ := ageWarn_below u k p hp (by rw [hf]; exact hw) _ rfl
    have hraise := hd.raise_win (by rw [hf]) (by rw [hf]) (by rw [hf]) 309 {}
    have hspare : u.ageSpare k = s.ageSpare k := by
      rw [hf]
      rfl
    have hauto : u.effT Obj.age_auto_spare = s.effT Obj.age_auto_spare := by
      rw [hf]
      rfl
    have hub : u.boot = s.boot := by rw [hf]
    have huw : u.win = s.win := by rw [hf]
    rw [hspare, hauto, hub] at hb
    refine ⟨_, next_of_eq (hrun.trans hone), hr1.trans hraise, fun hc => ?_, hwarn, hb, (hd.trans hdw).mono fun x hx => ?_, ?_⟩
    · have hc' : CanRaise u 309 := by
        rw [hf]
        exact hc
      rw [← huw]
      exact hr2 hc'
    · rw [List.append_assoc, List.append_assoc, List.append_assoc, List.append_assoc]
      rcases List.mem_append.1 hx with hx | hx
      · refine List.mem_append_right _ ?_
        unfold fitKeys at hx
        rw [List.append_assoc, List.append_assoc, List.append_assoc] at hx
        exact hx
      · exact List.mem_append_left _ hx
    · generalize u.ageWarn k p = t at *
      generalize t.dict = di at *
      generalize t.win = wi at *
      generalize t.boot = bo at *
      rw [hfw, hf]
  case notFit =>
    intro s h
    exact ⟨s, next_of_eq (ageFitEff_idle s h), rfl⟩

end Sys2Proof.Machine

/-! SUPPORT. Conditions of several sources set in one step (R509, R595, R619). -/
namespace Sys2Proof.Machine

/-- A raise leaves the marks of every other source, and whether the condition of its own holds. -/
theorem State.raise_marks (s : State) (n : Nat) (i : FaultInfo) :
    (∀ m, m ≠ n → vat (s.raise n i).win.srcs m {} = vat s.win.srcs m {}) ∧
      (n < 320 → (vat (s.raise n i).win.srcs n {}).cond = (vat s.win.srcs n {}).cond) := by
  have hm : (∀ m, m ≠ n → vat (s.markRaised n).win.srcs m {} = vat s.win.srcs m {}) ∧
      (n < 320 → (vat (s.markRaised n).win.srcs n {}).cond = (vat s.win.srcs n {}).cond) := by
    refine ⟨(s.markRaised_spec n).2.2.2.1, fun hn => ?_⟩
    unfold State.markRaised State.modSrc State.srcBits
    dsimp only
    rw [vat_vmod_same _ _ _ _ hn]
    rfl
  have hl : (∀ m, m ≠ n → vat (s.lose n).win.srcs m {} = vat s.win.srcs m {}) ∧
      (n < 320 → (vat (s.lose n).win.srcs n {}).cond = (vat s.win.srcs n {}).cond) := by
    unfold State.lose State.modSrc
    dsimp only
    split
    · refine ⟨fun m hmn => vat_vmod_other _ _ _ hmn, fun hn => ?_⟩
      rw [vat_vmod_same _ _ _ _ hn]
      rfl
    · exact ⟨fun _ _ => rfl, fun _ => rfl⟩
  unfold State.raise
  split
  · exact ⟨fun _ _ => rfl, fun _ => rfl⟩
  · split
    · split
      · exact hm
      · exact hl
    · split
      · exact hm
      · exact hm

/-- A condition that holds, or does not. -/
theorem State.condSet_spec (s : State) (n : Nat) (b : Bool) (hn : n < 320) (t : State) (ht : s.condSet n b = t) :
    (∃ w v, t = { s with win := w, dict := { s.dict with val := v } }) ∧
      SameDict s t (if b then raiseKeys n else []) ∧
      (vat t.win.srcs n {}).cond = b ∧ (b = false → (vat t.win.srcs n {}).active = false) ∧
      (∀ m, m ≠ n → vat t.win.srcs m {} = vat s.win.srcs m {}) ∧
      (b = false → t.win = { s.win with srcs := t.win.srcs }) := by
  subst ht
  cases b with
  | false =>
    obtain ⟨h1, h2, h3, w, h4⟩ := s.condEnd_spec n hn
    change _ = _ at h4
    have he : s.condSet n false = s.condEnd n := rfl
    rw [he]
    generalize s.condEnd n = t at *
    subst h4
    exact ⟨⟨_, _, rfl⟩, SameDict.refl s _, h2, fun _ => h1, h3, fun _ => rfl⟩
  | true =>
    have he : s.condSet n true = s.condBegin n := rfl
    rw [he]
    by_cases hc : (vat s.win.srcs n {}).cond = true
    · have hs : s.condBegin n = s := if_pos hc
      rw [hs]
      exact ⟨⟨_, _, rfl⟩, SameDict.refl s _, hc, fun h => absurd h (by decide), fun _ _ => rfl, fun h => absurd h (by decide)⟩
    · have hs : s.condBegin n = (s.modSrc n fun r => { r with cond := true, active := true }).raise n := if_neg hc
      rw [hs]
      have hself : (vat (s.modSrc n fun r => { r with cond := true, active := true }).win.srcs n {}).cond = true :=
        congrArg RaisedSrc.cond (vat_vmod_same s.win.srcs n (fun r => { r with cond := true, active := true }) {} hn)
      have hother (m : Nat) (hm : m ≠ n) : vat (s.modSrc n fun r => { r with cond := true, active := true }).win.srcs m {} = vat s.win.srcs m {} :=
        vat_vmod_other _ _ _ hm
      have hf : ∃ w, (s.modSrc n fun r => { r with cond := true, active := true }) = { s with win := w } := ⟨_, rfl⟩
      generalize (s.modSrc n fun r => { r with cond := true, active := true }) = u at *
      obtain ⟨hm1, hm2⟩ := u.raise_marks n {}
      have hrf := u.raise_frame n {}
      have hrd := u.raise_sameDict n {}
      generalize u.raise n {} = t at *
      obtain ⟨w, rfl⟩ := hf
      obtain ⟨w', v', rfl⟩ : ∃ w' v', t = { s with win := w', dict := { s.dict with val := v' } } := ⟨_, _, hrf⟩
      exact ⟨⟨_, _, rfl⟩, hrd, (hm2 hn).trans hself, fun h => absurd h (by decide), fun m hm => (hm1 m hm).trans (hother m hm), fun h => absurd h (by decide)⟩

/-- What a condition does to Winnow rests on Winnow, the configuration in effect and the present boundary. -/
theorem SameDict.condSet_win {s t : State} {ks : List Nat} (h : SameDict s t ks) (hd : t.dev = s.dev) (hw : t.win = s.win)
    (hb : t.tc.boundaries = s.tc.boundaries) (n : Nat) (b : Bool) : (t.condSet n b).win = (s.condSet n b).win := by
  cases b with
  | false =>
    show (t.condEnd n).win = (s.condEnd n).win
    unfold State.condEnd State.modSrc
    rw [hw]
  | true =>
    show (t.condBegin n).win = (s.condBegin n).win
    unfold State.condBegin
    rw [hw]
    split
    · exact hw
    · have hm : (t.modSrc n fun r => { r with cond := true, active := true }).win = (s.modSrc n fun r => { r with cond := true, active := true }).win := by
        unfold State.modSrc
        rw [hw]
      exact SameDict.raise_win (s := s.modSrc n fun r => { r with cond := true, active := true })
        (t := t.modSrc n fun r => { r with cond := true, active := true }) (ks := ks) h hd hm hb n {}

/-- Conditions of the sources `base + r`, with values written before each. -/
def State.condStep (base : Nat) (pre : State → Nat → State) (b : Nat → Bool) (s : State) (r : Nat) : State := (pre s r).condSet (base + r) (b r)

/-- The values written before a condition change values only. -/
def ValueWork (pre : State → Nat → State) (pk : List Nat) (ls : List Nat) : Prop :=
  ∀ s, ∀ r ∈ ls, (∃ v, pre s r = { s with dict := { s.dict with val := v } }) ∧ SameDict s (pre s r) pk

theorem conds_spec (base : Nat) (pre : State → Nat → State) (b : Nat → Bool) (pk : List Nat) (ls : List Nat) (hpre : ValueWork pre pk ls)
    (hls : ∀ r ∈ ls, base + r < 320) (hn : ls.Nodup) (s t : State) (ht : s.each ls (State.condStep base pre b) = t) :
    (∃ w v, t = { s with win := w, dict := { s.dict with val := v } }) ∧
      SameDict s t (pk ++ (ls.filter b).flatMap fun r => raiseKeys (base + r)) ∧
      (∀ r ∈ ls, (vat t.win.srcs (base + r) {}).cond = b r ∧ (b r = false → (vat t.win.srcs (base + r) {}).active = false)) ∧
      (∀ m, (∀ r ∈ ls, m ≠ base + r) → vat t.win.srcs m {} = vat s.win.srcs m {}) ∧
      ((∀ r ∈ ls, b r = false) → t.win = { s.win with srcs := t.win.srcs }) := by
  induction ls generalizing s with
  | nil =>
    subst ht
    exact ⟨⟨_, _, rfl⟩, SameDict.refl s _, fun _ h => absurd h List.not_mem_nil, fun _ _ => rfl, fun _ => rfl⟩
  | cons x ls ih =>
    obtain ⟨hx, hn'⟩ := List.nodup_cons.1 hn
    change (State.condStep base pre b s x).each ls (State.condStep base pre b) = t at ht
    obtain ⟨⟨v0, hp⟩, hdp⟩ := hpre s x List.mem_cons_self
    have hpre' : ValueWork pre pk ls := fun s r hr => hpre s r (List.mem_cons_of_mem _ hr)
    obtain ⟨⟨w1, v1, h1⟩, hd1, hc1, ha1, ho1, he1⟩ := State.condSet_spec (pre s x) (base + x) (b x) (hls x List.mem_cons_self) (State.condStep base pre b s x) rfl
    obtain ⟨⟨w2, v2, h2⟩, hd2, hc2, ho2, he2⟩ := ih hpre' (fun r hr => hls r (List.mem_cons_of_mem _ hr)) hn' (State.condStep base pre b s x) ht
    have hpw : (pre s x).win = s.win := by rw [hp]
    rw [hpw] at ho1 he1
    generalize State.condStep base pre b s x = u at *
    have hux : ∀ r ∈ ls, base + x ≠ base + r := fun r hr h => hx (by rwa [show x = r by omega])
    refine ⟨⟨w2, v2, by rw [h2, h1, hp]⟩, ?_, fun r hr => ?_, fun m hm => ?_, fun hall => ?_⟩
    · refine ((hdp.trans hd1).trans hd2).mono fun k hk => ?_
      simp only [List.mem_append, List.mem_flatMap, List.mem_filter] at hk ⊢
      rcases hk with (hk | hk) | hk | ⟨r, ⟨hr, hbr⟩, hk⟩
      · exact Or.inl hk
      · by_cases hb : b x = true
        · rw [if_pos hb] at hk
          exact Or.inr ⟨x, ⟨List.mem_cons_self, hb⟩, hk⟩
        · rw [if_neg hb] at hk
          exact absurd hk List.not_mem_nil
      · exact Or.inl hk
      · exact Or.inr ⟨r, ⟨List.mem_cons_of_mem _ hr, hbr⟩, hk⟩
    · rcases List.mem_cons.1 hr with rfl | hr
      · rw [ho2 _ hux]
        exact ⟨hc1, ha1⟩
      · exact hc2 r hr
    · exact (ho2 m fun r hr => hm r (List.mem_cons_of_mem _ hr)).trans (ho1 m (hm x List.mem_cons_self))
    · have hw1 := he1 (hall x List.mem_cons_self)
      have hw2 := he2 fun r hr => hall r (List.mem_cons_of_mem _ hr)
      rw [hw1] at hw2
      exact hw2

/-- One condition alone begins: its source is raised. -/
theorem conds_one (base : Nat) (pre : State → Nat → State) (b : Nat → Bool) (pk : List Nat) (ls : List Nat) (hpre : ValueWork pre pk ls)
    (hls : ∀ r ∈ ls, base + r < 320) (hn : ls.Nodup) (s t : State) (ht : s.each ls (State.condStep base pre b) = t) (k : Nat) (hk : k ∈ ls)
    (hb : b k = true) (hone : ∀ r ∈ ls, r ≠ k → b r = false) (hc : (vat s.win.srcs (base + k) {}).cond = false) (hr : CanRaise s (base + k)) :
    t.win.now = s.win.now ++ [(base + k, ({} : FaultInfo))] ∧ (vat t.win.srcs (base + k) {}).active = true := by
  induction ls generalizing s with
  | nil => exact absurd hk List.not_mem_nil
  | cons x ls ih =>
    obtain ⟨hx, hn'⟩ := List.nodup_cons.1 hn
    have hls' : ∀ r ∈ ls, base + r < 320 := fun r hr => hls r (List.mem_cons_of_mem _ hr)
    change (State.condStep base pre b s x).each ls (State.condStep base pre b) = t at ht
    obtain ⟨⟨v0, hp⟩, hdp⟩ := hpre s x List.mem_cons_self
    have hpre' : ValueWork pre pk ls := fun s r hr => hpre s r (List.mem_cons_of_mem _ hr)
    have hpw : (pre s x).win = s.win := by rw [hp]
    by_cases hxk : x = k
    · subst hxk
      have hstep : State.condStep base pre b s x = (pre s x).condBegin (base + x) := by
        unfold State.condStep State.condSet
        rw [hb]
        rfl
      obtain ⟨⟨-, h2, h3, -⟩, -⟩ := (pre s x).condBegin_taken (base + x) {} (by rw [hpw]; exact hc) (by unfold CanRaise; rw [hpw]; exact hr)
      rw [← hstep, hpw] at h2
      rw [← hstep] at h3
      obtain ⟨-, -, -, ho, he⟩ := conds_spec base pre b pk ls hpre' hls' hn' (State.condStep base pre b s x) t ht
      have hw := he fun r hr => hone r (List.mem_cons_of_mem _ hr) fun h => hx (h ▸ hr)
      refine ⟨?_, ?_⟩
      · rw [hw]
        exact h2
      · rw [ho (base + x) fun r hr h => hx (by rwa [show x = r by omega])]
        exact h3
    · have hbx : b x = false := hone x List.mem_cons_self hxk
      obtain ⟨-, -, -, -, ho1, he1⟩ := State.condSet_spec (pre s x) (base + x) (b x) (hls x List.mem_cons_self) (State.condStep base pre b s x) rfl
      have hw := he1 hbx
      rw [hpw] at hw ho1
      have hkl : k ∈ ls := (List.mem_cons.1 hk).resolve_left fun h => hxk h.symm
      have hkx : base + k ≠ base + x := by omega
      obtain ⟨h1, h2⟩ := ih hpre' hls' hn' (State.condStep base pre b s x) ht hkl (fun r hr => hone r (List.mem_cons_of_mem _ hr))
        (by rw [ho1 _ hkx]; exact hc) (by unfold CanRaise; rw [hw]; exact hr)
      rw [hw] at h1
      exact ⟨h1, h2⟩

end Sys2Proof.Machine

/-! SUPPORT. The rails, XO_IN and the die sensors (R594, R595, R601, R619): the obligation. -/
namespace Sys2Proof.Machine

/-! ### The rails (R594, R595) -/

/-- The samples of the rails stand. -/
def State.railSampled (s : State) (v : List Nat) : State :=
  s.modElec fun e =>
    let now := e.clockNs + 100
    let x (r : Nat) : Nat := v.getD r (vat e.rail r 0)
    { e with
      rail := Vector.ofFn fun r => x r.val
      railSince := Vector.ofFn fun r => railMark now (x r.val) r.val (vat e.railSince r.val none)
      lowSince := Vector.ofFn fun r => if x r.val < supplyThreshold r.val then some ((vat e.lowSince r.val none).getD now) else none
      clockNs := now
      railSum := Vector.ofFn fun r => vat e.railSum r.val 0 + x r.val
      railN := e.railN + 1 }

theorem vat_ofFn {α : Type} {n : Nat} (f : Fin n → α) (r : Nat) (d : α) (hr : r < n) : vat (Vector.ofFn f) r d = f ⟨r, hr⟩ := by simp [vat, hr]

theorem getD_of_lt {α : Type} (v : List α) (r : Nat) (d d' : α) (hr : r < v.length) : v.getD r d = v.getD r d' := by
  simp [List.getD_eq_getElem?_getD, hr]

/-- What the samples of the rails show, once the pins are driven. -/
theorem railSampled_elec (s : State) (v : List Nat) (hv : v.length = 8) (w t : State) (hw : w.elec = (s.railSampled v).elec) (ht : w.putPins = t) :
    (∀ r, r < 8 → vat t.elec.rail r 0 = v.getD r 0) ∧
      (∀ r, r < 8 → vat t.elec.railSince r none = railMark (s.elec.clockNs + 100) (v.getD r 0) r (vat s.elec.railSince r none)) ∧
      (∀ r, r < 2 → vat t.elec.lowSince r none = if v.getD r 0 < supplyThreshold r then some ((vat s.elec.lowSince r none).getD (s.elec.clockNs + 100)) else none) ∧
      (∀ r, r < 8 → vat t.elec.railSum r 0 = vat s.elec.railSum r 0 + v.getD r 0) ∧
      t.elec = { s.elec with
        rail := t.elec.rail, railSince := t.elec.railSince, lowSince := t.elec.lowSince, railSum := t.elec.railSum, clockNs := (s.elec.clockNs + 100)
        railN := s.elec.railN + 1, faultN := t.faultFree, irqN := t.irqFree } := by
  subst ht
  have hx (r : Nat) (hr : r < 8) : v.getD r (vat s.elec.rail r 0) = v.getD r 0 := getD_of_lt v r _ _ (by omega)
  refine ⟨fun r hr => ?_, fun r hr => ?_, fun r hr => ?_, fun r hr => ?_, ?_⟩
  · show vat w.elec.rail r 0 = _
    rw [hw, ← hx r hr]
    exact vat_ofFn _ r 0 hr
  · show vat w.elec.railSince r none = _
    rw [hw, ← hx r hr]
    exact vat_ofFn _ r none hr
  · show vat w.elec.lowSince r none = _
    rw [hw, ← hx r (by omega)]
    exact vat_ofFn _ r none hr
  · show vat w.elec.railSum r 0 = _
    rw [hw, ← hx r hr]
    exact vat_ofFn _ r 0 hr
  · show { w.elec with faultN := w.faultFree, irqN := w.irqFree } = _
    rw [show w.putPins.elec = { w.elec with faultN := w.faultFree, irqN := w.irqFree } from rfl]
    generalize hf : w.faultFree = f
    generalize hi : w.irqFree = i
    have hf' : w.putPins.faultFree = f := hf
    have hi' : w.putPins.irqFree = i := hi
    rw [hf', hi', hw]
    rfl

/-- Nothing is written before the condition of a rail. -/
def noWrite (s : State) (_ : Nat) : State := s

theorem noWrite_values (ls : List Nat) : ValueWork noWrite [] ls := fun s _ _ => ⟨⟨_, rfl⟩, SameDict.refl s []⟩

theorem State.each_congr {α : Type} (f g : State → α → State) (P : State → Prop) (l : List α) (h : ∀ s, P s → ∀ a ∈ l, f s a = g s a ∧ P (g s a)) (s : State)
    (hs : P s) : s.each l f = s.each l g := by
  induction l generalizing s with
  | nil => rfl
  | cons a l ih =>
    obtain ⟨h1, h2⟩ := h s hs a List.mem_cons_self
    show (f s a).each l f = (g s a).each l g
    rw [h1]
    exact ih (fun s hs b hb => h s hs b (List.mem_cons_of_mem _ hb)) _ h2

/-- The conditions of the rails, whose samples they do not change. -/
theorem rails_each (u : State) :
    (u.each (List.range 8) fun s r => s.condSet (288 + r) (s.railBad r)) = u.each (List.range 8) (State.condStep 288 noWrite u.railBad) := by
  refine State.each_congr _ _ (fun s => s.elec = u.elec) _ (fun s hs r hr => ?_) u rfl
  have hb : s.railBad r = u.railBad r := by
    unfold State.railBad
    rw [hs]
  have hn : 288 + r < 320 := by
    have := List.mem_range.1 hr
    omega
  obtain ⟨⟨w, v, hf⟩, -⟩ := s.condSet_spec (288 + r) (u.railBad r) hn _ rfl
  refine ⟨by rw [hb]; rfl, ?_⟩
  show (s.condSet (288 + r) (u.railBad r)).elec = u.elec
  rw [hf, ← hs]

theorem railMonitorEff_run (s : State) (v : List Nat) (h : s.boot.inReset = false) :
    railMonitorEff v s = ((s.railSampled v).each (List.range 8) (State.condStep 288 noWrite (s.railSampled v).railBad)).putPins := by
  unfold railMonitorEff
  refine congrArg State.putPins ((if_neg (show ¬ (s.railSampled v).boot.inReset = true from fun hc => ?_)).trans (rails_each _))
  exact absurd (h.symm.trans hc) (by decide)

theorem railMonitorEff_reset (s : State) (v : List Nat) (h : s.boot.inReset = true) : railMonitorEff v s = (s.railSampled v).putPins :=
  congrArg State.putPins (if_pos h)

/-- Conditions that all end write no value. -/
theorem conds_end (base : Nat) (b : Nat → Bool) (ls : List Nat) (hb : ∀ r ∈ ls, b r = false) (s : State) :
    ∃ w, s.each ls (State.condStep base noWrite b) = { s with win := w } := by
  induction ls generalizing s with
  | nil => exact ⟨_, rfl⟩
  | cons r ls ih =>
    have hstep : State.condStep base noWrite b s r = s.condEnd (base + r) := by
      unfold State.condStep State.condSet
      rw [hb r List.mem_cons_self]
      rfl
    obtain ⟨w, hw⟩ := ih (fun x hx => hb x (List.mem_cons_of_mem _ hx)) (s.condEnd (base + r))
    refine ⟨w, ?_⟩
    show (State.condStep base noWrite b s r).each ls (State.condStep base noWrite b) = _
    rw [hstep, hw]
    rfl

/-- Conditions in two states whose Winnow and configuration agree. -/
theorem conds_win_congr (base : Nat) (b : Nat → Bool) (ls : List Nat) (hls : ∀ r ∈ ls, base + r < 320) (s u : State) (ks : List Nat) (h : SameDict s u ks)
    (hd : u.dev = s.dev) (hw : u.win = s.win) (hb : u.tc.boundaries = s.tc.boundaries) :
    (u.each ls (State.condStep base noWrite b)).win = (s.each ls (State.condStep base noWrite b)).win := by
  induction ls generalizing s u ks with
  | nil => exact hw
  | cons r ls ih =>
    obtain ⟨⟨w1, v1, h1⟩, hd1, -⟩ := s.condSet_spec (base + r) (b r) (hls r List.mem_cons_self) _ rfl
    obtain ⟨⟨w2, v2, h2⟩, hd2, -⟩ := u.condSet_spec (base + r) (b r) (hls r List.mem_cons_self) _ rfl
    have hback : SameDict (s.condSet (base + r) (b r)) s (if b r then raiseKeys (base + r) else []) :=
      ⟨hd1.1.symm, hd1.2.1.symm, fun k hk => (hd1.2.2 k hk).symm⟩
    exact ih (fun x hx => hls x (List.mem_cons_of_mem _ hx)) (s.condSet (base + r) (b r)) (u.condSet (base + r) (b r)) _ ((hback.trans h).trans hd2)
      (by rw [h1, h2]; exact hd) (h.condSet_win hd hw hb (base + r) (b r)) (by rw [h1, h2]; exact hb)

/-- A rail within its range has no mark. -/
theorem railMark_inRange (now v r : Nat) (since : Option Nat) (h : (decide ((railRange r).1 ≤ v) && decide (v ≤ (railRange r).2)) = true) :
    railMark now v r since = none := if_pos (by simpa using h)

/-- A rail outside its range keeps the time of its mark. -/
theorem railMark_outside (now v r t : Nat) (h : (decide ((railRange r).1 ≤ v) && decide (v ≤ (railRange r).2)) = false) :
    railMark now v r (some t) = some t := if_neg (by simpa using h)

theorem railSampled_since (s : State) (v : List Nat) (hv : v.length = 8) (r : Nat) (hr : r < 8) :
    vat (s.railSampled v).elec.railSince r none = railMark (s.elec.clockNs + 100) (v.getD r 0) r (vat s.elec.railSince r none) := by
  rw [← getD_of_lt v r (vat s.elec.rail r 0) 0 (by omega)]
  exact vat_ofFn _ r none hr

theorem railBad_inRange (s : State) (v : List Nat) (hv : v.length = 8) (r : Nat) (hr : r < 8)
    (h : (decide ((railRange r).1 ≤ v.getD r 0) && decide (v.getD r 0 ≤ (railRange r).2)) = true) : (s.railSampled v).railBad r = false := by
  unfold State.railBad
  rw [railSampled_since s v hv r hr, railMark_inRange _ _ _ _ h]

theorem railBad_outside (s : State) (v : List Nat) (hv : v.length = 8) (r since : Nat) (hr : r < 8)
    (h : (decide ((railRange r).1 ≤ v.getD r 0) && decide (v.getD r 0 ≤ (railRange r).2)) = false) (hs : vat s.elec.railSince r none = some since)
    (ht : since + 900 ≤ s.elec.clockNs) : (s.railSampled v).railBad r = true := by
  unfold State.railBad
  rw [railSampled_since s v hv r hr, hs, railMark_outside _ _ _ _ h]
  refine decide_eq_true ?_
  show since + 1000 ≤ s.elec.clockNs + 100
  omega

/-- The rails in service: their conditions, once the pins are driven. -/
theorem railMonitor_spec (s : State) (v : List Nat) (hin : s.boot.inReset = false) (b : Nat → Bool) (hb : (s.railSampled v).railBad = b)
    (t : State) (ht : railMonitorEff v s = t) :
    (∃ w, w.elec = (s.railSampled v).elec ∧ w.putPins = t ∧ (s.railSampled v).each (List.range 8) (State.condStep 288 noWrite b) = w) ∧
      t.win = (s.each (List.range 8) fun u r => u.condSet (288 + r) (b r)).win ∧
      SameDict s t (((List.range 8).filter b).flatMap fun r => raiseKeys (288 + r)) ∧
      (∀ r, r < 8 → (vat t.win.srcs (288 + r) {}).cond = b r ∧ (b r = false → (vat t.win.srcs (288 + r) {}).active = false)) ∧
      t = { s with elec := t.elec, win := t.win, dict := t.dict } := by
  rw [railMonitorEff_run s v hin, hb] at ht
  have hls : ∀ r ∈ List.range 8, 288 + r < 320 := fun r hr => by
    have := List.mem_range.1 hr
    omega
  obtain ⟨⟨wi, va, hf⟩, hd, hc, -, -⟩ := conds_spec 288 noWrite b [] (List.range 8) (noWrite_values _) hls List.nodup_range (s.railSampled v) _ rfl
  have hcongr := conds_win_congr 288 b (List.range 8) hls s (s.railSampled v) [] (SameDict.refl s []) rfl rfl rfl
  generalize hw : (s.railSampled v).each (List.range 8) (State.condStep 288 noWrite b) = w at *
  have htw : t.win = w.win := by rw [← ht]; rfl
  have htd : t.dict = w.dict := by rw [← ht]; rfl
  refine ⟨⟨w, by rw [hf], ht, rfl⟩, htw.trans hcongr, ?_, fun r hr => ?_, ?_⟩
  · have hst : SameDict w t [] := by
      rw [← ht]
      exact SameDict.refl w []
    exact (SameDict.trans hd hst).mono (by simp)
  · rw [htw]
    exact hc r (List.mem_range.2 hr)
  · have hte : t = { w with elec := t.elec } := by rw [← ht]; rfl
    rw [htw, htd]
    generalize t.elec = e at *
    rw [hte, hf]
    rfl

end Sys2Proof.Machine

/-! SUPPORT. The die sensors (R509, R619). -/
namespace Sys2Proof.Machine

/-- The sample of a sensor written, with the largest of all (R619). -/
def putTemp (x : List Int) (s : State) (n : Nat) : State :=
  let s := s.setN Obj.die_temp (x.getD n 0) n
  if s.valI Obj.die_temp_max < x.getD n 0 then s.setN Obj.die_temp_max (x.getD n 0) else s

/-- The objects of the sensors. -/
def tempKeys : List Nat := (List.range 12).map (fun n => Obj.die_temp.key n 0) ++ [Obj.die_temp_max.key 0 0]

theorem tempMax_other (n : Nat) (hn : n < 12) : Obj.die_temp_max.key 0 0 ≠ Obj.die_temp.key n 0 := by
  simp only [ne_eq, Row.key, Obj.die_temp_max, Obj.die_temp]
  omega

theorem putTemp_spec (x : List Int) (s : State) (n : Nat) (hn : n < 12) :
    (∃ v, putTemp x s n = { s with dict := { s.dict with val := v } }) ∧
      SameDict s (putTemp x s n) [Obj.die_temp.key n 0, Obj.die_temp_max.key 0 0] ∧
      (putTemp x s n).valI Obj.die_temp n = x.getD n 0 ∧ (putTemp x s n).valI Obj.die_temp_max = max (s.valI Obj.die_temp_max) (x.getD n 0) := by
  have hmax : (s.setN Obj.die_temp (x.getD n 0) n).valI Obj.die_temp_max = s.valI Obj.die_temp_max :=
    State.valI_setN_other _ _ _ _ _ _ _ _ (tempMax_other n hn)
  unfold putTemp
  dsimp only
  by_cases h : (s.setN Obj.die_temp (x.getD n 0) n).valI Obj.die_temp_max < x.getD n 0
  · rw [if_pos h]
    refine ⟨⟨_, rfl⟩, ((SameDict.refl s _).putN (by simp) _).putN (by simp) _, ?_, ?_⟩
    · exact (State.valI_setN_other _ _ _ _ _ _ _ _ (tempMax_other n hn).symm).trans (State.valI_setN _ _ _ _ _)
    · rw [State.valI_setN]
      omega
  · rw [if_neg h]
    refine ⟨⟨_, rfl⟩, (SameDict.refl s _).putN (by simp) _, State.valI_setN _ _ _ _ _, ?_⟩
    rw [hmax]
    omega

theorem putTemp_values (x : List Int) (ls : List Nat) (hls : ∀ n ∈ ls, n < 12) : ValueWork (putTemp x) tempKeys ls := fun s n hn => by
  obtain ⟨hf, hd, -⟩ := putTemp_spec x s n (hls n hn)
  refine ⟨hf, hd.mono fun k hk => ?_⟩
  rcases List.mem_cons.1 hk with rfl | hk
  · exact List.mem_append_left _ (List.mem_map.2 ⟨n, List.mem_range.2 (hls n hn), rfl⟩)
  · exact List.mem_append_right _ hk

/-- The objects of the sensors stand above the values that a raise writes. -/
theorem tempKey_raise {k : Nat} (hk : 0x900000 ≤ k) (n : Nat) (hn : n < 320) (b : Bool) : k ∉ (if b then raiseKeys n else []) := by
  cases b with
  | false => exact List.not_mem_nil
  | true => exact mtxKey_raise hk n hn

/-- The samples of sensors written one by one. -/
theorem temps_values (x : List Int) (b : Nat → Bool) (ls : List Nat) (hls : ∀ n ∈ ls, n < 12) (hnd : ls.Nodup) (s t : State)
    (ht : s.each ls (State.condStep 296 (putTemp x) b) = t) :
    (∀ n ∈ ls, t.valI Obj.die_temp n = x.getD n 0) ∧ (∀ n, n < 12 → n ∉ ls → t.valI Obj.die_temp n = s.valI Obj.die_temp n) ∧
      t.valI Obj.die_temp_max = (ls.map fun n => x.getD n 0).foldl max (s.valI Obj.die_temp_max) := by
  induction ls generalizing s with
  | nil =>
    subst ht
    exact ⟨fun _ h => absurd h List.not_mem_nil, fun _ _ _ => rfl, rfl⟩
  | cons r ls ih =>
    obtain ⟨hr, hnd'⟩ := List.nodup_cons.1 hnd
    have h12 : r < 12 := hls r List.mem_cons_self
    change (State.condStep 296 (putTemp x) b s r).each ls _ = t at ht
    obtain ⟨h1, h2, h3⟩ := ih (fun n hn => hls n (List.mem_cons_of_mem _ hn)) hnd' _ ht
    obtain ⟨⟨v, hf⟩, hd, hv, hm⟩ := putTemp_spec x s r h12
    obtain ⟨⟨w, v', hf'⟩, hd', -⟩ := (putTemp x s r).condSet_spec (296 + r) (b r) (by omega) (State.condStep 296 (putTemp x) b s r) rfl
    have hdev : (State.condStep 296 (putTemp x) b s r).dev = (putTemp x s r).dev := by rw [hf']
    have hmax : (State.condStep 296 (putTemp x) b s r).valI Obj.die_temp_max = max (s.valI Obj.die_temp_max) (x.getD r 0) :=
      (hd'.valI_eq hdev (tempKey_raise (by decide) _ (by omega) _)).trans hm
    have htemp (n : Nat) : (State.condStep 296 (putTemp x) b s r).valI Obj.die_temp n = (putTemp x s r).valI Obj.die_temp n :=
      hd'.valI_eq hdev (tempKey_raise (by simp only [Row.key, Obj.die_temp]; omega) _ (by omega) _)
    have hother (n : Nat) (hn : n < 12) (hnr : n ≠ r) : (putTemp x s r).valI Obj.die_temp n = s.valI Obj.die_temp n :=
      hd.valI_eq (by rw [hf]) (by
        simp only [List.mem_cons, List.not_mem_nil, or_false, not_or]
        refine ⟨?_, (tempMax_other n hn).symm⟩
        simp only [Row.key, Obj.die_temp]
        omega)
    refine ⟨fun n hn => ?_, fun n hn hnl => ?_, ?_⟩
    · rcases List.mem_cons.1 hn with rfl | hn
      · rw [h2 n h12 hr, htemp, hv]
      · exact h1 n hn
    · obtain ⟨hnr, hnl⟩ := not_or.1 (List.mem_cons.not.1 hnl)
      rw [h2 n hn hnl, htemp, hother n hn hnr]
    · rw [h3, hmax]
      rfl

/-- The samples of the twelve sensors, their conditions, and the hottest one's. -/
def State.tempsDone (s : State) (x : List Int) (c : Bool) : State :=
  (s.each (List.range 12) (State.condStep 296 (putTemp x) fun n => decide (10500 < x.getD n 0))).condSet 308 c

theorem range_getD (x : List Int) (hx : x.length = 12) : ((List.range 12).map fun n => x.getD n 0) = x := by
  apply List.ext_getElem
  · simp [hx]
  · intro i h1 h2
    simp [h2]

/-- The end of DIE_TEMP_SAMPLE: TEMP_CRIT, and the sample that the holdover model takes (R163, R509). -/
def tempsEnd (x : List Int) (s : State) : State :=
  let s := s.condSet 308 ((List.range 12).any fun n => decide (11500 < s.valI Obj.die_temp n))
  match x[8]? with
  | none => s
  | some v => { s with hold := { s.hold with temps := s.hold.temps ++ [v] } }

theorem tempsEnd_eq (x : List Int) (s : State) (h : x[8]? = some (x.getD 8 0)) :
    tempsEnd x s =
      { s.condSet 308 ((List.range 12).any fun n => decide (11500 < s.valI Obj.die_temp n)) with
        hold := { (s.condSet 308 ((List.range 12).any fun n => decide (11500 < s.valI Obj.die_temp n))).hold with
          temps := (s.condSet 308 ((List.range 12).any fun n => decide (11500 < s.valI Obj.die_temp n))).hold.temps ++ [x.getD 8 0] } } := by
  unfold tempsEnd
  generalize s.condSet 308 ((List.range 12).any fun n => decide (11500 < s.valI Obj.die_temp n)) = u
  dsimp only
  rw [h]

/-- DIE_TEMP_SAMPLE of twelve samples, out of device reset. -/
theorem dieTempSampleEff_run (s : State) (x : List Int) (hx : x.length = 12) (hin : s.boot.inReset = false) :
    ∃ c, c = ((List.range 12).any fun n => decide (11500 < x.getD n 0)) ∧
      dieTempSampleEff x s = { s.tempsDone x c with hold := { (s.tempsDone x c).hold with temps := (s.tempsDone x c).hold.temps ++ [x.getD 8 0] } } := by
  have hget (n : Nat) (hn : n < 12) : x[n]? = some (x.getD n 0) := by
    rw [List.getD_eq_getElem?_getD, List.getElem?_eq_getElem (by omega)]
    rfl
  have hfold : (s.each (List.range 12) fun s n =>
      match x[n]? with
      | none => s
      | some v =>
        let s := s.setN Obj.die_temp v n
        let s := if s.valI Obj.die_temp_max < v then s.setN Obj.die_temp_max v else s
        s.condSet (296 + n) (decide (10500 < v))) =
      s.each (List.range 12) (State.condStep 296 (putTemp x) fun n => decide (10500 < x.getD n 0)) := by
    refine State.each_congr _ _ (fun _ => True) _ (fun u _ n hn => ⟨?_, trivial⟩) s trivial
    rw [hget n (List.mem_range.1 hn)]
    rfl
  obtain ⟨hv, -⟩ := temps_values x (fun n => decide (10500 < x.getD n 0)) (List.range 12) (fun _ h => List.mem_range.1 h) List.nodup_range s _ rfl
  have hany : ((List.range 12).any fun n => decide (11500 < (s.each (List.range 12) (State.condStep 296 (putTemp x) fun n => decide (10500 < x.getD n 0))).valI Obj.die_temp n)) =
      ((List.range 12).any fun n => decide (11500 < x.getD n 0)) := by
    rw [Bool.eq_iff_iff, List.any_eq_true, List.any_eq_true]
    constructor
    · rintro ⟨n, hn, h⟩
      exact ⟨n, hn, by rwa [hv n hn] at h⟩
    · rintro ⟨n, hn, h⟩
      exact ⟨n, hn, by rwa [hv n hn]⟩
  refine ⟨_, rfl, ?_⟩
  rw [← hany]
  have heff : dieTempSampleEff x s = tempsEnd x (s.each (List.range 12) (State.condStep 296 (putTemp x) fun n => decide (10500 < x.getD n 0))) := by
    unfold dieTempSampleEff
    exact (if_neg (by simp [hin])).trans (congrArg (tempsEnd x) hfold)
  exact heff.trans (tempsEnd_eq x _ (hget 8 (by omega)))

/-- DIE_TEMP_SAMPLE while no sensor is above the critical temperature. -/
theorem dieTempSample_spec (s : State) (x : List Int) (hx : x.length = 12) (hin : s.boot.inReset = false)
    (hcrit : ∀ n, n < 12 → x.getD n 0 ≤ 11500) (b : Nat → Bool) (hb : b = fun n => decide (10500 < x.getD n 0)) (t : State) (ht : dieTempSampleEff x s = t) :
    (∀ n, n < 12 → t.valI Obj.die_temp n = x.getD n 0) ∧
      t.valI Obj.die_temp_max = x.foldl max (s.valI Obj.die_temp_max) ∧
      t.hold = { s.hold with temps := s.hold.temps ++ [x.getD 8 0] } ∧
      (∀ n, n < 12 → (vat t.win.srcs (296 + n) {}).cond = b n ∧ (b n = false → (vat t.win.srcs (296 + n) {}).active = false)) ∧
      (vat t.win.srcs 308 {}).active = false ∧
      ((∀ n, n < 12 → b n = false) → t.win = { s.win with srcs := t.win.srcs }) ∧
      (∀ k, k < 12 → b k = true → (∀ n, n < 12 → n ≠ k → b n = false) → (vat s.win.srcs (296 + k) {}).cond = false → CanRaise s (296 + k) →
        t.win.now = s.win.now ++ [(296 + k, ({} : FaultInfo))] ∧ (vat t.win.srcs (296 + k) {}).active = true) ∧
      SameDict s t (tempKeys ++ ((List.range 12).filter b).flatMap fun r => raiseKeys (296 + r)) ∧
      t = { s with hold := t.hold, win := t.win, dict := t.dict } := by
  obtain ⟨c, hc, heff⟩ := dieTempSampleEff_run s x hx hin
  have hcf : c = false := by
    rw [hc, List.any_eq_false]
    intro n hn
    have hle := hcrit n (List.mem_range.1 hn)
    rw [decide_eq_true_eq]
    omega
  rw [ht, hcf] at heff
  unfold State.tempsDone at heff
  rw [← hb] at heff
  have hls : ∀ r ∈ List.range 12, 296 + r < 320 := fun r hr => by
    have := List.mem_range.1 hr
    omega
  have hl12 : ∀ r ∈ List.range 12, r < 12 := fun r hr => List.mem_range.1 hr
  have hval := putTemp_values x (List.range 12) hl12
  obtain ⟨⟨wi, va, hf⟩, hd, hcond, -, hend⟩ := conds_spec 296 (putTemp x) b tempKeys (List.range 12) hval hls List.nodup_range s _ rfl
  obtain ⟨hv1, -, hv2⟩ := temps_values x b (List.range 12) hl12 List.nodup_range s _ rfl
  have hone := conds_one 296 (putTemp x) b tempKeys (List.range 12) hval hls List.nodup_range s _ rfl
  generalize s.each (List.range 12) (State.condStep 296 (putTemp x) b) = z at *
  obtain ⟨h1, -, h3, w, h4⟩ := z.condEnd_spec 308 (by decide)
  change t = { z.condEnd 308 with hold := { (z.condEnd 308).hold with temps := (z.condEnd 308).hold.temps ++ [x.getD 8 0] } } at heff
  generalize z.condEnd 308 = u at *
  have htw : t.win = u.win := by rw [heff]
  have huw : u.win = { z.win with srcs := u.win.srcs } := by rw [h4]
  have htd : SameDict z t [] := by
    rw [heff, h4]
    exact SameDict.refl z []
  have hdev : t.dev = z.dev := by rw [heff, h4]
  refine ⟨fun n hn => ?_, ?_, ?_, fun n hn => ?_, ?_, fun hall => ?_, fun k hk hbk hrest hck hr => ?_, ?_, ?_⟩
  · exact (htd.valI_eq hdev List.not_mem_nil).trans (hv1 n (List.mem_range.2 hn))
  · rw [htd.valI_eq hdev List.not_mem_nil, hv2, range_getD x hx]
  · rw [heff, h4, hf]
  · rw [htw, h3 (296 + n) (by omega)]
    exact hcond n (List.mem_range.2 hn)
  · rw [htw]
    exact h1
  · have hz := hend fun n hn => hall n (List.mem_range.1 hn)
    rw [htw]
    generalize u.win.srcs = sr at *
    rw [huw, hz]
  · obtain ⟨k1, k2⟩ := hone k (List.mem_range.2 hk) hbk (fun r hr => hrest r (List.mem_range.1 hr)) hck hr
    refine ⟨?_, ?_⟩
    · rw [htw, huw]
      exact k1
    · rw [htw, h3 (296 + k) (by omega)]
      exact k2
  · exact (hd.trans htd).mono (by simp)
  · rw [heff, h4, hf]

end Sys2Proof.Machine

/-! SUPPORT. XO_IN (R601, R605), and the obligation about supplies and sensors. -/
namespace Sys2Proof.Machine

theorem xoInRange_true (hz : Nat) (h1 : 49995000 ≤ hz) (h2 : hz ≤ 50005000) : xoInRange hz = true := by simp [xoInRange, h1, h2]

theorem xoInRange_false (hz : Nat) (h : hz < 49995000 ∨ 50005000 < hz) : xoInRange hz = false := by
  unfold xoInRange
  rw [Bool.and_eq_false_iff, decide_eq_false_iff_not, decide_eq_false_iff_not]
  omega

/-- XO_IN is not good. -/
def State.xoBad (s : State) : State := s.modElec fun e => { e with xoOk := false }

theorem xoFaultEff_fault (s : State) (hz : Nat) (h : hz < 49995000 ∨ 50005000 < hz) :
    xoFaultEff hz s = if s.boot.inReset then s.xoBad else s.xoBad.condBegin 316 := by
  unfold xoFaultEff
  exact if_neg (by rw [xoInRange_false hz h]; decide)

/-- The samples of eight rails, of which `k` alone is outside its range, or none. -/
theorem rail_inRange_of_ne (v : List Nat) (k : Nat)
    (h : ((List.range 8).all fun r => (r == k) != (decide ((railRange r).1 ≤ v.getD r 0) && decide (v.getD r 0 ≤ (railRange r).2))) = true) (r : Nat) (hr : r < 8) :
    (r ≠ k → (decide ((railRange r).1 ≤ v.getD r 0) && decide (v.getD r 0 ≤ (railRange r).2)) = true) ∧
      (r = k → (decide ((railRange r).1 ≤ v.getD r 0) && decide (v.getD r 0 ≤ (railRange r).2)) = false) := by
  have hx := List.all_eq_true.1 h r (List.mem_range.2 hr)
  generalize (decide ((railRange r).1 ≤ v.getD r 0) && decide (v.getD r 0 ≤ (railRange r).2)) = b at hx ⊢
  constructor
  · intro hne
    have hk : (r == k) = false := by simpa using hne
    rw [hk] at hx
    simpa using hx
  · intro heq
    have hk : (r == k) = true := by simpa using heq
    rw [hk] at hx
    simpa using hx

/-- Settles O59: RAIL_MONITOR, XO_FAULT, XO_IN_RETURN and DIE_TEMP_SAMPLE. -/
theorem suppliesAndSensors : Obligations.SuppliesAndSensors := by
  unfold Obligations.SuppliesAndSensors
  refine ⟨?allIn, ?rails, ?oneOut, ?railsReset, ?fault, ?faultAgain, ?noFault, ?xoBack, ?xoStill, ?cool, ?hot, ?tempReset⟩
  case allIn =>
    intro s v hv hall hin
    have hbad (r : Nat) (hr : r < 8) : (s.railSampled v).railBad r = false :=
      railBad_inRange s v hv r hr (List.all_eq_true.1 hall r (List.mem_range.2 hr))
    obtain ⟨⟨w, he, hput, hw⟩, -, -, hc, -⟩ := railMonitor_spec s v hin _ rfl _ rfl
    obtain ⟨e1, e2, e3, e4, e5⟩ := railSampled_elec s v hv w _ he hput
    obtain ⟨wi, hend⟩ := conds_end 288 (s.railSampled v).railBad (List.range 8) (fun r hr => hbad r (List.mem_range.1 hr)) (s.railSampled v)
    obtain ⟨-, -, -, -, hwin⟩ := conds_spec 288 noWrite (s.railSampled v).railBad [] (List.range 8) (noWrite_values _) (fun r hr => by
      have := List.mem_range.1 hr
      omega) List.nodup_range (s.railSampled v) _ rfl
    have hww := hwin fun r hr => hbad r (List.mem_range.1 hr)
    rw [hw] at hend hww
    have htw : (railMonitorEff v s).win = w.win := by rw [← hput]; rfl
    have htf : railMonitorEff v s = { w with elec := (railMonitorEff v s).elec } := by rw [← hput]; rfl
    refine ⟨_, next_of_eq rfl, e1, e2, e3, e4, e5, fun r hr => ?_, fun r hr => ?_, fun r hr => ?_, ?_, ?_⟩
    · rw [e2 r hr]
      exact railMark_inRange _ _ _ _ (List.all_eq_true.1 hall r (List.mem_range.2 hr))
    · exact (hc r hr).1.trans (hbad r hr)
    · exact (hc r hr).2 (hbad r hr)
    · rw [htw]
      exact hww
    · rw [htw]
      generalize railMonitorEff v s = t at *
      generalize t.elec = el at *
      rw [htf, hend]
      rfl
  case rails =>
    intro s v hv hin
    obtain ⟨⟨w, he, hput, -⟩, hwin, hd, -, hf⟩ := railMonitor_spec s v hin _ rfl _ rfl
    obtain ⟨e1, e2, e3, e4, e5⟩ := railSampled_elec s v hv w _ he hput
    have hbad (r : Nat) : (railMonitorEff v s).railBad r = (s.railSampled v).railBad r := by
      unfold State.railBad
      rw [← hput, ← he]
      rfl
    refine ⟨_, next_of_eq rfl, e1, e2, e3, e4, e5, ?_, hd.mono fun k hk => ?_, hf⟩
    · simp only [hbad]
      exact hwin
    · obtain ⟨r, hr, hkr⟩ := List.mem_flatMap.1 hk
      exact List.mem_flatMap.2 ⟨r, (List.mem_filter.1 hr).1, hkr⟩
  case oneOut =>
    intro s v k since hv hk hall hsince ht hin hc0
    have hin' := rail_inRange_of_ne v k hall
    have hbad (r : Nat) (hr : r < 8) (hne : r ≠ k) : (s.railSampled v).railBad r = false := railBad_inRange s v hv r hr ((hin' r hr).1 hne)
    have hbk : (s.railSampled v).railBad k = true := railBad_outside s v hv k since hk ((hin' k hk).2 rfl) hsince ht
    obtain ⟨⟨w, he, hput, hw⟩, -, hd, hc, hf⟩ := railMonitor_spec s v hin _ rfl _ rfl
    obtain ⟨e1, e2, e3, e4, e5⟩ := railSampled_elec s v hv w _ he hput
    have htw : (railMonitorEff v s).win = w.win := by rw [← hput]; rfl
    refine ⟨_, next_of_eq rfl, e1, e2, e3, e4, e5, (hc k hk).1.trans hbk, fun hr => ?_, fun r hr hne => (hc r hr).1.trans (hbad r hr hne), hd.mono fun x hx => ?_, hf⟩
    · rw [htw]
      exact conds_one 288 noWrite _ [] (List.range 8) (noWrite_values _) (fun r hr => by
        have := List.mem_range.1 hr
        omega) List.nodup_range (s.railSampled v) w hw k (List.mem_range.2 hk) hbk (fun r hr hne => hbad r (List.mem_range.1 hr) hne) hc0 hr
    · obtain ⟨r, hr, hkr⟩ := List.mem_flatMap.1 hx
      obtain ⟨hr8, hbr⟩ := List.mem_filter.1 hr
      by_cases hrk : r = k
      · rwa [hrk] at hkr
      · rw [hbad r (List.mem_range.1 hr8) hrk] at hbr
        exact absurd hbr (by decide)
  case railsReset =>
    intro s v hv hin
    obtain ⟨e1, e2, e3, e4, e5⟩ := railSampled_elec s v hv (s.railSampled v) _ rfl rfl
    exact ⟨_, next_of_eq (railMonitorEff_reset s v hin), e1, e2, e3, e4, e5, rfl⟩
  case fault =>
    intro s hz hin hout hc
    have heff := (xoFaultEff_fault s hz hout).trans (if_neg (by simp [hin]))
    have hwin : (s.xoBad.condBegin 316).win = (s.condBegin 316).win := (SameDict.refl s []).condSet_win (t := s.xoBad) rfl rfl rfl 316 true
    obtain ⟨⟨w, v, hf⟩, hd, hcond, -⟩ := s.xoBad.condSet_spec 316 true (by decide) (s.xoBad.condBegin 316) rfl
    refine ⟨_, next_of_eq heff, hwin, fun hr => ?_, hcond, ?_, hd, ?_⟩
    · obtain ⟨⟨-, h2, h3, -⟩, -⟩ := s.xoBad.condBegin_taken 316 {} hc hr
      exact ⟨h2, h3⟩
    · rw [hf]
      rfl
    · rw [hf]
      rfl
  case faultAgain =>
    intro s hz h hout
    have heff : xoFaultEff hz s = s.xoBad := by
      rw [xoFaultEff_fault s hz hout]
      rcases h with h | h
      · have hcb : s.xoBad.condBegin 316 = s.xoBad := if_pos h
        rw [hcb, ite_self]
      · exact if_pos h
    exact ⟨_, next_of_eq heff, rfl, rfl⟩
  case noFault =>
    intro s hz h1 h2
    exact ⟨s, next_of_eq (if_pos (xoInRange_true hz h1 h2)), rfl⟩
  case xoBack =>
    intro s hz h1 h2
    obtain ⟨ha, hc, ho, w, hf⟩ := (s.modElec fun e => { e with xoOk := true }).condEnd_spec 316 (by decide)
    refine ⟨_, next_of_eq (if_pos (xoInRange_true hz h1 h2)), ?_, ha, hc, ho, ?_, ?_⟩
    · rw [hf]
      rfl
    · rw [hf]
      rfl
    · rw [hf]
      rfl
  case xoStill =>
    intro s hz h
    exact ⟨s, next_of_eq (if_neg (by rw [xoInRange_false hz h]; decide)), rfl⟩
  case cool =>
    intro s x hx hall hin
    have hle (n : Nat) (hn : n < 12) : x.getD n 0 ≤ 10500 := by
      rw [List.getD_eq_getElem x 0 (by omega)]
      exact of_decide_eq_true (List.all_eq_true.1 hall _ (List.getElem_mem _))
    have hb (n : Nat) (hn : n < 12) : decide (10500 < x.getD n 0) = false := decide_eq_false (by have := hle n hn; omega)
    obtain ⟨h1, h2, h3, h4, h5, h6, -, h7, h8⟩ := dieTempSample_spec s x hx hin (fun n hn => (hle n hn).trans (by decide)) _ rfl _ rfl
    refine ⟨_, next_of_eq rfl, h1, h2, h3, fun n hn => ?_, h6 hb, h7.mono fun k hk => ?_, h8⟩
    · by_cases h12 : n < 12
      · exact (h4 n h12).2 (hb n h12)
      · rw [show 296 + n = 308 by omega]
        exact h5
    · rcases List.mem_append.1 hk with hk | hk
      · exact hk
      · obtain ⟨r, hr, -⟩ := List.mem_flatMap.1 hk
        obtain ⟨hr12, hbr⟩ := List.mem_filter.1 hr
        rw [hb r (List.mem_range.1 hr12)] at hbr
        exact absurd hbr (by decide)
  case hot =>
    intro s x k hx hk hall hcrit hin hc0
    have hb (n : Nat) (hn : n < 12) : decide (10500 < x.getD n 0) = (n == k) := by
      have h := List.all_eq_true.1 hall n (List.mem_range.2 hn)
      exact (beq_iff_eq.1 h).symm
    have hle (n : Nat) (hn : n < 12) : x.getD n 0 ≤ 11500 := by
      by_cases hnk : n = k
      · rw [hnk]
        exact hcrit
      · have hn0 : decide (10500 < x.getD n 0) = false := (hb n hn).trans (by simpa using hnk)
        have := of_decide_eq_false hn0
        omega
    have hbk : decide (10500 < x.getD k 0) = true := (hb k hk).trans (by simp)
    have hbo (n : Nat) (hn : n < 12) (hne : n ≠ k) : decide (10500 < x.getD n 0) = false := (hb n hn).trans (by simpa using hne)
    obtain ⟨h1, h2, h3, h4, h5, -, h6, h7, h8⟩ := dieTempSample_spec s x hx hin hle _ rfl _ rfl
    refine ⟨_, next_of_eq rfl, h1, h2, h3, h6 k hk hbk hbo hc0, (h4 k hk).1.trans hbk, h5, h7.mono fun y hy => ?_, h8⟩
    rcases List.mem_append.1 hy with hy | hy
    · exact List.mem_append_left _ hy
    · obtain ⟨r, hr, hyr⟩ := List.mem_flatMap.1 hy
      obtain ⟨hr12, hbr⟩ := List.mem_filter.1 hr
      by_cases hrk : r = k
      · exact List.mem_append_right _ (by rwa [hrk] at hyr)
      · rw [hbo r (List.mem_range.1 hr12) hrk] at hbr
        exact absurd hbr (by decide)
  case tempReset =>
    intro s x hin
    exact ⟨s, next_of_eq (if_pos hin), rfl⟩

end Sys2Proof.Machine

/-! SUPPORT. Writes by a command of their own (R474, R477, R478, R482): the entry that a command writes, and its staging. -/
namespace Sys2Proof.Machine

/-! ### Numbers as octets and back -/

theorem beBytes_length (k v : Nat) : (beBytes k v).length = k := by simp [beBytes]

theorem beBytes_succ (k v : Nat) : beBytes (k + 1) v = beBytes k (v / 256) ++ [BitVec.ofNat 8 v] := by
  unfold beBytes
  rw [List.range_succ, List.map_append, List.map_singleton]
  refine congr (congrArg HAppend.hAppend (List.map_congr_left fun i hi => ?_)) (by simp)
  have hik : k + 1 - 1 - i = (k - 1 - i) + 1 := by have := List.mem_range.mp hi; omega
  rw [hik, pow_succ', Nat.div_div_eq_div_mul]

theorem beNat_concat (b : Bytes) (x : Byte) : beNat (b ++ [x]) = beNat b * 256 + x.toNat := by simp [beNat]

/-- Octets of a number give back what of it fits. -/
theorem beNat_beBytes (k v : Nat) : beNat (beBytes k v) = v % 256 ^ k := by
  induction k generalizing v with
  | zero => simp [beBytes, beNat, Nat.mod_one]
  | succ k ih =>
    rw [beBytes_succ, beNat_concat, ih, BitVec.toNat_ofNat, pow_succ' 256 k, Nat.mod_mul]
    omega

theorem beInt_intBytes_8 (v : Int) (h1 : -(2 ^ 63) ≤ v) (h2 : v < 2 ^ 63) : beInt (intBytes 8 v) = v := by
  unfold beInt intBytes
  dsimp only
  rw [beNat_beBytes, beBytes_length]
  norm_num at h1 h2 ⊢
  split <;> omega

theorem numOctets_i64 (v : Int) (h1 : -(2 ^ 63) ≤ v) (h2 : v < 2 ^ 63) : numOctets .i64 v = intBytes 8 v := by
  have h : decodeVal .i64 (intBytes 8 v) = some (.n v) := by
    rw [show decodeVal .i64 (intBytes 8 v) = some (.n (beInt (intBytes 8 v))) from
      if_pos (c := (intBytes 8 v).length = 8) (e := none) (beBytes_length 8 (v % (256 ^ 8 : Nat)).toNat), beInt_intBytes_8 v h1 h2]
  exact if_pos h

theorem decodeVal_time128 (v : Nat) (h : v < 2 ^ 128) : decodeVal .time128 (beBytes 16 v) = some (.n v) := by
  simp only [decodeVal, Ty.width]
  rw [if_pos (beBytes_length _ _), beNat_beBytes, Nat.mod_eq_of_lt (by norm_num at h ⊢; exact h)]

theorem intBytes_16 (v : Nat) (h : v < 2 ^ 128) : intBytes 16 v = beBytes 16 v := by
  unfold intBytes
  congr 1
  norm_num at h ⊢
  omega

theorem numOctets_time128 (v : Nat) (h : v < 2 ^ 128) : numOctets .time128 v = beBytes 16 v := by
  have hd : decodeVal .time128 (intBytes 16 v) = some (.n v) := by rw [intBytes_16 v h, decodeVal_time128 v h]
  exact (if_pos hd).trans (intBytes_16 v h)

/-! ### Staging of one write -/

/-- The entry that a command writes to element (i, j) of a row. -/
def numEntry (r : Row) (v : Int) (i : Nat := 0) (j : Nat := 0) : WriteEntry :=
  { index := r.key i j / 256, sub := r.key i j % 256, value := numOctets r.ty v }

theorem State.writeNum_eq (s : State) (lvl : Level) (r : Row) (v : Int) (i j : Nat) :
    s.writeNum lvl r v i j = (s.write (lvl.val + 1) pathInternal (numEntry r v i j)).1 := rfl

/-- A write outside RECOVERY that passes its checks and is no immediate one is put into its set. -/
theorem State.write_passes (s : State) (level path : Nat) (e : WriteEntry) (h : Passes s level e) :
    s.write level path e = s.stageItem false level path [e] (s.target [e]).1 (s.target [e]).2 := by
  obtain ⟨hrec, hst, hc⟩ := h
  unfold State.write
  rw [State.recoverNow_outside _ _ hrec]
  unfold State.stageWrite
  rw [if_neg (by simp [hst])]
  split at hc
  · next o v ho =>
    rw [ho]
    simp only [Bool.and_eq_true, Bool.not_eq_true'] at hc
    obtain ⟨him, hrules⟩ := hc
    dsimp only
    rw [if_neg (by simp [him]), s.stageChecked_ok false level path [e] [(o, v)] hrules]
  · cases hc

theorem State.write_staged (s : State) (level : Nat) (e : WriteEntry) (h : Passes s level e) : StagedIn s (s.write level pathInternal e).1 level e := by
  rw [s.write_passes level pathInternal e h]
  obtain ⟨-, ⟨c, hset, hlast⟩, -, hfind, ⟨v, a, b, l, ht⟩, hd⟩ := s.stageItem_spec false level pathInternal [e] (s.target [e]).1 (s.target [e]).2 _ rfl
  refine ⟨_, _, c, rfl, rfl, hset, hlast, hfind, ?_, hd⟩
  rw [ht]

theorem State.writeNum_staged {s : State} {lvl : Level} {r : Row} {v : Int} {i j : Nat} {e : WriteEntry} (he : numEntry r v i j = e)
    (h : Passes s (lvl.val + 1) e) : StagedIn s (s.writeNum lvl r v i j) (lvl.val + 1) e := by
  rw [State.writeNum_eq, he]
  exact s.write_staged _ e h

theorem State.writeOctets_staged {s : State} {lvl : Level} {r : Row} {v : Bytes} {k l : Nat} (hk : r.base = k) (hl : r.sub = l)
    (h : Passes s (lvl.val + 1) { index := k, sub := l, value := v }) :
    StagedIn s (s.writeOctets lvl r v) (lvl.val + 1) { index := k, sub := l, value := v } := by
  subst hk hl
  exact s.write_staged _ _ h

/-- A write that fails its check is counted and leaves everything else. -/
theorem State.write_refused (s : State) (level path : Nat) (e : WriteEntry) (st : Nat) (hst : s.noStaging = false) (hrec : s.boot.recovery = false)
    (hc : s.checkWrite level e.index e.sub e.value = .error st) : (s.write level path e).1 = s.count Obj.gran_refused := by
  unfold State.write
  rw [State.recoverNow_outside _ _ hrec]
  unfold State.stageWrite
  rw [if_neg (by simp [hst]), hc]
  rfl

/-! ### Immediate writes -/

/-- A write that passes the checks is of the object at its key, with the value its octets hold. -/
theorem State.checkWrite_ok {s : State} {level index sub : Nat} {b : Bytes} {o : ObjRef} {v : Val} (h : s.checkWrite level index sub b = .ok (o, v)) :
    objAt (keyOf index sub) = some o ∧ decodeVal o.row.ty b = some v := by
  unfold State.checkWrite at h
  split at h
  · cases h
  · next o' ho =>
    have hobj : objAt (keyOf index sub) = some o' := by
      unfold State.objPresent at ho
      split at ho
      · next o'' hat =>
        split at ho
        · exact hat.trans ho
        · cases ho
      · cases ho
    split at h
    · cases h
    · split at h
      · cases h
      · split at h
        · cases h
        · next v' hv =>
          split at h
          · cases h
          · split at h
            · obtain ⟨rfl, rfl⟩ := Prod.mk.inj (Except.ok.inj h)
              exact ⟨hobj, hv⟩
            · cases h

theorem State.write_immediate (s : State) (level path : Nat) (e : WriteEntry) (o : ObjRef) (v : Val) (t : State) (hst : s.noStaging = false)
    (hc : s.checkWrite level e.index e.sub e.value = .ok (o, v)) (him : o.row.im = true) (hi : s.immediate path o v = (t, stDone)) :
    (s.write level path e).1 = t := by
  have h : s.stageWrite level path e = (t, { status := stDone }) := by
    unfold State.stageWrite
    rw [if_neg (by simp [hst]), hc]
    dsimp only
    rw [if_pos him, hi]
    exact if_pos rfl
  unfold State.write
  rw [h]
  unfold State.recoverNow
  rw [if_neg (by simp [stDone, stPending])]

set_option maxRecDepth 100000 in
theorem objAt_gnss_aid_time : objAt (keyOf 0x502C 0) = some { row := Obj.gnss_aid_time, i := 0, j := 0 } := by rfl

set_option maxRecDepth 100000 in
theorem objAt_install_chunk : objAt (keyOf 0x9821 0) = some { row := Obj.install_chunk, i := 0, j := 0 } := by rfl

/-- A write of `gnss.aid_time` acts at once (R289, R482). -/
theorem State.writeNum_aidTime (s : State) (lvl : Level) (v : Nat) (hst : s.noStaging = false) (hv : v < 2 ^ 128)
    {o : ObjRef} {w : Val} (hx : s.checkWrite (lvl.val + 1) 0x502C 0 (beBytes 16 v) = .ok (o, w)) :
    s.writeNum lvl Obj.gnss_aid_time v = s.aidTime v := by
  obtain ⟨ho, hw⟩ := State.checkWrite_ok hx
  obtain rfl := Option.some.inj (ho.symm.trans objAt_gnss_aid_time)
  obtain rfl := Option.some.inj (hw.symm.trans (decodeVal_time128 v hv))
  have he : numEntry Obj.gnss_aid_time v = { index := 0x502C, sub := 0, value := beBytes 16 v } := by
    rw [← numOctets_time128 v hv]
    rfl
  rw [State.writeNum_eq, he]
  exact s.write_immediate _ _ _ _ _ _ hst hx rfl rfl

theorem State.aidTime_frame (s : State) (v : Nat) (t : State) (ht : s.aidTime v = t) :
    t.gnss = { s.gnss with aidAt := some (ofTime128 v, s.tc.cyc) } ∧
      t.eff Obj.gnss_aid_time = .n v ∧ t.cfg Obj.gnss_aid_time = .n v ∧
      SameVals s t [Obj.gnss_start_type.key 0 0] ∧ SameEffs s t [Obj.gnss_aid_time.key 0 0] ∧ SameCfgs s t [Obj.gnss_aid_time.key 0 0] ∧
      t = { s with gnss := t.gnss, dict := t.dict } := by
  subst ht
  have hcfg : ((s.setCfg Obj.gnss_aid_time 0 0 (.n v)).setEff Obj.gnss_aid_time 0 0 (.n v)).cfg Obj.gnss_aid_time = .n v :=
    State.cfg_setCfg s Obj.gnss_aid_time 0 0 (.n v)
  have heff := (SameEffs.refl s [Obj.gnss_aid_time.key 0 0]).setEff (r := Obj.gnss_aid_time) (i := 0) (j := 0) (by simp) (.n v)
  have hcfgs := (SameCfgs.refl s [Obj.gnss_aid_time.key 0 0]).setCfg (r := Obj.gnss_aid_time) (i := 0) (j := 0) (by simp) (.n v)
  unfold State.aidTime State.startEval
  dsimp only
  split
  · exact ⟨rfl, hcfg, hcfg, (SameVals.refl s _).setN (by simp) _, heff, hcfgs, rfl⟩
  · exact ⟨rfl, hcfg, hcfg, SameVals.refl s _, heff, hcfgs, rfl⟩

/-- A write of `install.chunk` whose chunk is taken acts at once (R482, R578). -/
theorem State.writeOctets_chunk (s : State) (lvl : Level) (v : Bytes) (hst : s.noStaging = false) (h20 : 20 ≤ v.length) (h1028 : v.length ≤ 1028)
    {o : ObjRef} {w : Val} (hx : s.checkWrite (lvl.val + 1) 0x9821 0 v = .ok (o, w)) (hd : s.chunkStatus v = stDone) :
    s.writeOctets lvl Obj.install_chunk v = (s.writeChunk v).1 := by
  have hi : s.writeChunk v = ((s.writeChunk v).1, stDone) := by
    unfold State.writeChunk
    dsimp only
    rw [if_pos hd]
    exact congrArg _ hd
  obtain ⟨ho, hw⟩ := State.checkWrite_ok hx
  obtain rfl := Option.some.inj (ho.symm.trans objAt_install_chunk)
  have hdec : decodeVal (.octets 4 1028) v = some (.o v) := if_pos ⟨by omega, h1028⟩
  obtain rfl := Option.some.inj (hw.symm.trans hdec)
  exact s.write_immediate _ _ { index := 0x9821, sub := 0, value := v } _ _ _ hst hx rfl hi

theorem State.chunkStatus_first (s : State) (v : Bytes) (hi : s.instState = 1) (hcs : s.boot.install.chunks = []) (h20 : 20 ≤ v.length)
    (h1028 : v.length ≤ 1028) (ho : field v 0 4 % 16 = 0) (hf : (v.length - 4) % 16 = 0 ∨ field v 0 4 + (v.length - 4) = s.boot.install.len)
    (hl : field v 0 4 + (v.length - 4) ≤ s.boot.install.len) (hm : field v 0 4 + (v.length - 4) ≤ 8388608) : s.chunkStatus v = stDone := by
  have hfull : ((v.length - 4) % 16 == 0 || field v 0 4 + (v.length - 4) == s.boot.install.len) = true := by simpa using hf
  unfold State.chunkStatus
  dsimp only
  have hbad : ¬ (v.length < 20 ∨ 1028 < v.length ∨ field v 0 4 % 16 ≠ 0 ∨ (!true) = true ∨ s.boot.install.len < field v 0 4 + (v.length - 4) ∨
      8388608 < field v 0 4 + (v.length - 4)) := by
    rintro (h | h | h | h | h | h)
    · omega
    · omega
    · exact h ho
    · cases h
    · omega
    · omega
  rw [hcs, hfull, if_neg (not_not.mpr hi), if_neg hbad]
  rfl

theorem State.writeChunk_first (s : State) (v : Bytes) (hcs : s.boot.install.chunks = []) (hd : s.chunkStatus v = stDone) (t : State)
    (ht : (s.writeChunk v).1 = t) :
    t.boot = { s.boot with install := { s.boot.install with chunks := [(field v 0 4, v.drop 4)] } } ∧
      t.valN Obj.install_written = s.valN Obj.install_written + (v.length - 4) ∧
      t = { s with boot := t.boot, dict := t.dict } ∧ SameDict s t [Obj.install_written.key 0 0] := by
  have h : (s.writeChunk v).1 = (s.modInst fun i => { i with chunks := putChunk (field v 0 4) (v.drop 4) i.chunks }).setN Obj.install_written
      ((s.valN Obj.install_written + (v.length - 4) : Nat) : Int) := by
    unfold State.writeChunk
    dsimp only
    rw [if_pos hd]
    rfl
  have hboot : (s.modInst fun i => { i with chunks := putChunk (field v 0 4) (v.drop 4) i.chunks }).boot =
      { s.boot with install := { s.boot.install with chunks := [(field v 0 4, v.drop 4)] } } := by
    unfold State.modInst State.modBoot
    dsimp only
    rw [hcs]
    rfl
  rw [h] at ht
  subst ht
  exact ⟨hboot, State.valN_setN _ _ _ _ _, rfl, SameDict.setN (s.modInst _) Obj.install_written _ 0 0⟩

/-! ### The entries of the commands -/

theorem numEntry_tod_step (v : Int) (h1 : -(2 ^ 63) ≤ v) (h2 : v < 2 ^ 63) :
    numEntry Obj.tod_step v = { index := 0x202A, sub := 0, value := intBytes 8 v } := by
  rw [← numOctets_i64 v h1 h2]
  rfl

theorem numEntry_tod_slew (v : Int) (h1 : -(2 ^ 63) ≤ v) (h2 : v < 2 ^ 63) :
    numEntry Obj.tod_slew v = { index := 0x2020, sub := 0, value := intBytes 8 v } := by
  rw [← numOctets_i64 v h1 h2]
  rfl

theorem numEntry_action_arm : ∀ k : Fin 8, numEntry Obj.tod_action_arm 1 k.val = { index := 0x2040 + k.val, sub := 5, value := [1] } := by
  decide +kernel

theorem numEntry_action_cancel : ∀ k : Fin 8, numEntry Obj.tod_action_arm 0 k.val = { index := 0x2040 + k.val, sub := 5, value := [0] } := by
  decide +kernel

theorem numEntry_stamp_calibrate : ∀ p : Fin 9, numEntry Obj.stamp_calibrate 1 p.val = { index := 0x2103, sub := p.val, value := [1] } := by
  decide +kernel

theorem numEntry_dpll_realign : ∀ d : Fin 5, numEntry Obj.dpll_realign 1 d.val = { index := 0x300D + 0x100 * d.val, sub := 0, value := [1] } := by
  decide +kernel

theorem numEntry_path_clear : ∀ i : Fin 4, numEntry Obj.scr_path_clear 1 i.val = { index := 0x2246, sub := i.val, value := [1] } := by
  decide +kernel

theorem numEntry_tithe_clear : ∀ b : Fin 75, numEntry Obj.tithe_clear 1 b.val = { index := 0x8903 + 4 * b.val, sub := 1, value := [1] } := by
  decide +kernel

/-- Settles O60: each command's entry is the one named, and the write of an entry stages it, is refused or acts at once. -/
theorem writesAreStaged : Obligations.WritesAreStaged := by
  unfold Obligations.WritesAreStaged
  refine ⟨?step, ?slew, ?arm, ?cancel, ?calibrate, ?realign, ?reset, ?recentre, ?resurvey, ?reinit, ?cold, ?warm, ?path, ?first, ?lost, ?pin, ?assoc, ?freeze,
    ?resume, ?clear, ?normal, ?safe, ?secver, ?begin, ?finish, ?activate, ?abort, ?config, ?refused, ?aid, ?chunk⟩
  case step => exact fun s lvl v h1 h2 h => ⟨_, rfl, State.writeNum_staged (numEntry_tod_step v h1 h2) h⟩
  case slew => exact fun s lvl v h1 h2 h => ⟨_, rfl, State.writeNum_staged (numEntry_tod_slew v h1 h2) h⟩
  case arm => exact fun s lvl k h => ⟨_, rfl, State.writeNum_staged (numEntry_action_arm k) h⟩
  case cancel => exact fun s lvl k h => ⟨_, rfl, State.writeNum_staged (numEntry_action_cancel k) h⟩
  case calibrate => exact fun s lvl p h => ⟨_, rfl, State.writeNum_staged (numEntry_stamp_calibrate p) h⟩
  case realign => exact fun s lvl d h => ⟨_, rfl, State.writeNum_staged (numEntry_dpll_realign d) h⟩
  case reset => exact fun s lvl h => ⟨_, rfl, State.writeNum_staged (r := Obj.hold_model_reset) (v := 1) (by decide +kernel) h⟩
  case recentre => exact fun s lvl h => ⟨_, rfl, State.writeNum_staged (r := Obj.fly_recentre_now) (v := 1) (by decide +kernel) h⟩
  case resurvey => exact fun s lvl h => ⟨_, rfl, State.writeNum_staged (r := Obj.gnss_resurvey) (v := 1) (by decide +kernel) h⟩
  case reinit => exact fun s lvl h => ⟨_, rfl, State.writeNum_staged (r := Obj.gnss_fe_reinit) (v := 1) (by decide +kernel) h⟩
  case cold => exact fun s lvl h => ⟨_, rfl, State.writeNum_staged (r := Obj.gnss_restart) (v := 1) (by decide +kernel) h⟩
  case warm => exact fun s lvl h => ⟨_, rfl, State.writeNum_staged (r := Obj.gnss_restart) (v := 2) (by decide +kernel) h⟩
  case path => exact fun s lvl i h => ⟨_, rfl, State.writeNum_staged (numEntry_path_clear i) h⟩
  case first => exact fun s lvl h => ⟨_, rfl, State.writeNum_staged (r := Obj.win_clear) (v := 1) (by decide +kernel) h⟩
  case lost => exact fun s lvl h => ⟨_, rfl, State.writeNum_staged (r := Obj.win_clear) (v := 2) (by decide +kernel) h⟩
  case pin => exact fun s lvl h => ⟨_, rfl, State.writeNum_staged (r := Obj.win_pin_clear) (v := 1) (by decide +kernel) h⟩
  case assoc => exact fun s lvl h => ⟨_, rfl, State.writeNum_staged (r := Obj.atton_assoc_reset) (v := 1) (by decide +kernel) h⟩
  case freeze => exact fun s lvl h => ⟨_, rfl, State.writeNum_staged (r := Obj.tithe_freeze) (v := 1) (by decide +kernel) h⟩
  case resume => exact fun s lvl h => ⟨_, rfl, State.writeNum_staged (r := Obj.tithe_freeze) (v := 0) (by decide +kernel) h⟩
  case clear => exact fun s lvl b h => ⟨_, rfl, State.writeNum_staged (numEntry_tithe_clear b) h⟩
  case normal => exact fun s lvl h => ⟨_, rfl, State.writeNum_staged (r := Obj.boot_restart) (v := 1) (by decide +kernel) h⟩
  case safe => exact fun s lvl h => ⟨_, rfl, State.writeNum_staged (r := Obj.boot_restart) (v := 2) (by decide +kernel) h⟩
  case secver => exact fun s lvl h => ⟨_, rfl, State.writeNum_staged (r := Obj.boot_secver_commit) (v := 1) (by decide +kernel) h⟩
  case begin => exact fun s lvl v h => ⟨_, rfl, State.writeOctets_staged (r := Obj.install_begin) rfl rfl h⟩
  case finish => exact fun s lvl h => ⟨_, rfl, State.writeNum_staged (r := Obj.install_finish) (v := 1) (by decide +kernel) h⟩
  case activate => exact fun s lvl h => ⟨_, rfl, State.writeNum_staged (r := Obj.install_activate) (v := 1) (by decide +kernel) h⟩
  case abort => exact fun s lvl h => ⟨_, rfl, State.writeNum_staged (r := Obj.install_abort) (v := 1) (by decide +kernel) h⟩
  case config => exact fun s lvl index sub v h => ⟨_, rfl, s.write_staged _ _ h⟩
  case refused =>
    intro s lvl index sub v e hst hrec hc
    split at hc
    · next x hx =>
      exact ⟨_, next_of_eq (s.write_refused _ pathInternal { index := index, sub := sub, value := v } x hst hrec hx),
        State.count_u64 s Obj.gran_refused 0 0 1 rfl, rfl, (SameDict.refl s _).count (r := Obj.gran_refused) (i := 0) (j := 0) (by simp) 1⟩
    · cases hc
  case aid =>
    intro s lvl v hst hv hc
    split at hc
    · next x hx => exact ⟨_, next_of_eq (s.writeNum_aidTime lvl v hst hv hx), s.aidTime_frame v _ rfl⟩
    · cases hc
  case chunk =>
    intro s lvl v hst _ hc hi hcs h20 h1028 ho hf hl hm
    have hd := s.chunkStatus_first v hi hcs h20 h1028 ho hf hl hm
    split at hc
    · next x hx => exact ⟨_, next_of_eq (s.writeOctets_chunk lvl v hst h20 h1028 hx hd), s.writeChunk_first v hcs hd _ rfl⟩
    · cases hc

end Sys2Proof.Machine

/-! SUPPORT. A tick boundary at which the last voting keepers fail (R64): the voter then puts out keeper 0, which had failed before. -/
namespace Sys2Proof.Machine

/-- A split is in progress. Keepers 1 and 2 vote and are resynchronised for the third time, which fails them; keeper 0 failed before, and its
register still holds a STEP_AT that is due. -/
def staleKeeperBoundary : State where
  boot := { inReset := false }
  tc :=
    { ({ boundaryDue := true
         k0 := { failed := true, regs := { acts := [{ slot := 0, kind := 1, time := 0, offset := 10 ^ 12 }] } }
         k1 := { resyncs := [1, 1] }
         k2 := { resyncs := [1, 1] } } : TimeCore) with split := true }

/-- The voter puts out keeper 1, which has no action armed. -/
theorem staleKeeperBoundary_dueActs : staleKeeperBoundary.dueActs = [] := by decide +kernel

/-- Once keepers 1 and 2 have failed, the action of keeper 0 is due, and the boundary takes the identity of the time of day one second on. -/
theorem staleKeeperBoundary_tickSec : (tickBoundaryEff {} staleKeeperBoundary).tc.tickSec = 1 := by decide +kernel

/-- Refutes O11: the resynchronisation at a boundary can fail the keepers that vote, and the registers of a keeper that failed before then name
the tick. -/
theorem not_boundaryAndTickWork : ¬ Obligations.BoundaryAndTickWork := by
  unfold Obligations.BoundaryAndTickWork
  intro h
  obtain ⟨h, -⟩ := h
  obtain ⟨t, ht, -, -, -, hsec, -⟩ := h staleKeeperBoundary rfl rfl rfl rfl rfl rfl staleKeeperBoundary_dueActs
  have he : t = tickBoundaryEff {} staleKeeperBoundary := (Host.Outcome.next.inj ht).symm
  rw [he, staleKeeperBoundary_tickSec] at hsec
  exact absurd hsec (by decide)

end Sys2Proof.Machine
